-- ==== Sys2Proof/Word.lean ====
section
/-! DEFINITION. The word types of the block: 32-bit register words (R12), 16-bit codes (R15), bytes, 64-bit identities. -/

namespace Sys2Proof

abbrev Word := BitVec 32
abbrev Code := BitVec 16
abbrev Byte := BitVec 8
/-- A 64-bit identity of a node or a device. -/
abbrev Id64 := BitVec 64

end Sys2Proof
end

