-- ==== Sys2Proof/Syntax.lean ====
section
/-! DEFINITION. The commands the block takes: one constructor per row of spec/opcode_table.json, with the operands the
row's rule gives it. Values that the device receives from outside (samples, frames, levels, outcomes of checks whose
algorithm the spec does not hold) are operands too. -/

namespace Sys2Proof

/-- Where a descriptor came from: a SUBMIT ring (R480) or the service UART (R499), with its TAG (R486). -/
inductive Src
  | ring (n : Fin 256) (tag : Word)
  | uart (tag : Word)
deriving DecidableEq, Repr

/-- Where a long-operation descriptor came from, with STATUS_ADDR, RES_ADDR and RES_LEN of R486. -/
structure LongSrc where
  src : Src
  statusAddr : Nat
  resAddr : Nat
  resLen : Nat
deriving DecidableEq, Repr

/-- A request or association channel of object access (R369): the host, the service UART, or a site-line entry. -/
inductive Channel
  | host
  | uart
  | sln (entry : Fin 250)
deriving DecidableEq, Repr

/-- A leg of a stage (LEG0 to LEG383) or a local PWM pin (PWM0 to PWM23) (R113). -/
inductive LegRef
  | leg (n : Fin 384)
  | pwm (n : Fin 24)
deriving DecidableEq, Repr

/-- What the start-up steps 2 to 6 of R507 find: a clock on REFCLK (R28), the configuration copies, firmware banks and key
slots that fail their checks (R38, R454, R469), crypto engines that fail their known-answer test (R463), whether the start-up
tests of the random source pass (R461), save slots and estimator copies that are not intact (R323, R401), the RTC's legal
time in ms with its validity (R34), whether RESET_N is low (R510), and the lowest VAUX of a brown-out in mV (R438). -/
structure StartFacts where
  refclk : Bool
  cfgBad : List (Fin 2)
  bankBad : List (Fin 2)
  slotBad : List (Fin 64)
  engineBad : List Byte
  rngPass : Bool
  saveBad : List (Fin 16)
  estBad : List (Fin 2)
  utc : Nat
  rtcValid : Bool
  pinLow : Bool
  vauxLow : Nat
deriving DecidableEq, Repr

/-- The wake sources of R519. -/
inductive WakeSource
  | rtc
  | can
  | sln
  | host
  | pin (k : Fin 4)
deriving DecidableEq, Repr

/-- LDG_READ's parameters (R523). -/
structure LdgReadReq where
  snapshot : Bool
  first : Word
  count : Nat
  slot : Nat
deriving DecidableEq, Repr

/-- Why the host link is lost (R495). -/
inductive LinkLossCause
  | dlDown
  | perst
  | hotReset
  | flr
  | bmeClear
deriving DecidableEq, Repr


/-- R478: the two address ranges of the endpoint. -/
inductive Bar
  | bar0
  | bar2
deriving DecidableEq, Repr

/-- What a DMA error concerns (R502): a ring, with the descriptor if one is concerned, or a buffer or status word of one operation. -/
inductive DmaError
  | ring (n : Fin 256) (desc : Option Src)
  | operation (src : Src)
deriving DecidableEq, Repr

/-- R515: a test request: its code, and its parameters from PARAM byte 2 on. -/
structure TestReq where
  code : Code
  params : List Byte
deriving DecidableEq, Repr



/-- R217: whose echo window ends: the device's own receiver's, the one in which the device's transmitter measures the link to hop 1,
or the one in which a node's transmitter measures its link (on the odd member or not). A delay is in 2^−16 ns; none where no round trip
was found. -/
inductive EchoEnd
  | receiver
  | link1 (delay : Option Nat)
  | node (i : Fin 128) (odd : Bool) (delay : Option Nat)
deriving DecidableEq, Repr

/-- R175: a 66-bit block: its header, first bit first, and its payload, scrambled on the line and plain elsewhere. -/
structure Block where
  header : BitVec 2
  payload : BitVec 64
deriving DecidableEq, Repr

/-- A frame as it reaches a receiver of the device: on which piste, in the run of which hop, the payload bits received last before it (what
the descrambler holds), and the blocks on the line from the frame's SOF to the end of its run (R175, R198, R199). -/
structure RxFrame where
  piste : Fin 8
  hop : Nat
  before : BitVec 58
  line : List Block
deriving DecidableEq, Repr

/-- R196: the fields of a MARK block. -/
structure Mark where
  hopcnt : Fin 16
  census : Code
  twin : Bool
  piste : Fin 8
deriving DecidableEq, Repr

/-- R178: a receiver: the device's of a piste, or a node's on a member (the odd one or not). -/
inductive Receiver
  | device (p : Fin 8)
  | node (i : Fin 128) (odd : Bool)
deriving DecidableEq, Repr

/-- R205: the command of one leg for one period: driven or off, the level at the boundary, and the offsets at which it changes. -/
structure LegCmd where
  driven : Bool
  start : Bool
  changes : List Nat
deriving DecidableEq, Repr

/-- R205: an EDGE frame: its BTAG, REPEAT, and the members with their commands. -/
structure EdgeFrame where
  btag : Nat
  rep : Bool
  members : List (Fin 6 × LegCmd)
deriving DecidableEq, Repr

/-- R209: a SYNC frame. Delays in 2^−16 ns, INTERVAL in ms. -/
structure SyncFrame where
  markDt : Nat
  markFrac : Nat
  census : Code
  pathDelay : Nat
  valid : Bool
  odd : Bool
  interval : Nat
  epoch : Word
deriving DecidableEq, Repr

/-- R211: a CTRL request. -/
structure CtrlFrame where
  write : Bool
  tag : Byte
  addr : Nat
  count : Nat
  words : List Word
deriving DecidableEq, Repr

/-- What a node has to report when a run of its own comes: the values of its telemetry channels at the last sample instant (R207), a head's
last eight samples, voltage and current code each, and whether either was over range (R208), the outcome of a head's self-test where it has
ended (R341), a front-end's VLINK_STATE and contactor feedback (R265), and the Ethernet frames with a valid FCS that have come over the front-end's vehicle link since its last run, without the FCS
(R212). -/
structure NodeIn where
  channels : List Word
  codes : List (Int × Int)
  vOver : Bool
  cOver : Bool
  selfTest : Option Bool
  vlink : BitVec 5
  feedback : Bool
  ether : List (List Byte)
deriving DecidableEq, Repr

/-- What a receiver of the device finds on a piste at a census (R224, R227): no signal, a head's LOS_IDLE with the head's hop, or
the returning stream. -/
inductive StreamSeen
  | none
  | head (hop : Nat)
  | ring
deriving DecidableEq, Repr

/-- NODE_CTRL's request (R211). -/
structure NodeCtrlReq where
  node : Id64
  write : Bool
  addr : Nat
  count : Nat
  words : List Word
deriving DecidableEq, Repr

/-- R241: a MAC frame of the site line: TYPE, FLAGS, SEQ, ORIG, FINAL, the relays of its route with the index of the next one, ACK_SEQ
and the body. -/
structure SlnFrame where
  type : Nat
  ack : Bool
  nack : Bool
  retry : Bool
  more : Bool
  seq : Code
  orig : Nat
  final : Nat
  route : List Nat
  next : Nat
  ackSeq : Code
  body : List Byte
deriving DecidableEq, Repr

/-- R239: a tone map chosen by a receiver: its index, its rate code, and the codes of carriers 41 to 573. -/
structure ToneMap where
  index : Nat
  rate : Nat
  codes : List Nat
deriving DecidableEq, Repr

/-- R245, R251, R257: a reply as the device receives it. `decoded` says that the payload was decoded and passes its CRC, `lenOk` that LEN
matches it; `heard` is the rate in 0.1 Mbit/s that pilot SNR predicts, `map` what the device's receiver chooses from a SOUND frame, and
`refused` the DSEQ of a DISPLAY frame that the head reports as refused, and `took` the ns from the poll's last symbol to the reply's. -/
structure SlnReply where
  decoded : Bool
  lenOk : Bool
  frame : SlnFrame
  heard : Nat
  map : Option ToneMap
  refused : Option Word
  took : Nat
deriving DecidableEq, Repr

/-- R243, R247: a JOIN_REQ, with the relay it came through. -/
structure SlnJoin where
  id : Id64
  cls : Nat
  proto : Nat
  former : Nat
  via : Option (Fin 250)
deriving DecidableEq, Repr

/-- R268, R269: an Authorization by contract certificate: EMAID, the chain, and the signature over the challenge, as received. -/
structure Contract where
  emaid : List Byte
  chain : List Byte
  signature : List Byte
deriving DecidableEq, Repr

/-- R272: what a charge-loop request carries: EVTargetVoltage (V), EVTargetCurrent (A), the vehicle's maximum voltage and current, and in
Dynamic mode EVMaximumChargePower and EVMaximumDischargePower (W); EVTargetEnergyRequest (Wh). -/
structure ChargeLoop where
  voltage : Rat
  current : Rat
  vMax : Rat
  iMax : Rat
  power : Rat
  discharge : Rat
  energy : Option Nat
deriving DecidableEq, Repr

/-- R267: what the device may offer: services, and means of authorisation. -/
inductive V2gOffer
  | dc
  | dcBpt
  | mcs
  | mcsBpt
  | pnc
  | eim
deriving DecidableEq, Repr

/-- R266, R268: what a vehicle asks, decoded. `tcp` asks for a TCP connection. A `handshake` carries the client's side of TLS: whether it
agreed to TLS 1.3 with the suite, groups and signatures of R269, and a vehicle certificate's chain with whether its holder's signature is
good. `unsupported` is a message set that is not offered; `broken` a message that fails EXI or TLS decoding. -/
inductive V2gReq
  | sdp (tls : Bool)
  | tcp
  | handshake (tls13 : Bool) (cert : Option (List Byte × Bool))
  | appProtocol (p20 p2 : Bool)
  | sessionSetup (evccid : List Byte)
  | authSetup
  | authorization (contract : Option Contract)
  | serviceDiscovery
  | serviceDetail
  | serviceSelection (service : Option V2gOffer)
  | chargeParameters (vMax iMax power discharge : Rat) (energy : Option Nat)
  | scheduleExchange (dynamic : Bool)
  | cableCheck
  | preCharge (target : Rat)
  | powerDelivery (start : Bool)
  | chargeLoop (x : ChargeLoop)
  | weldingDetection
  | sessionStop
  | certificateInstallation (request : List Byte)
  | unsupported
  | broken
deriving DecidableEq, Repr

/-- R270: the parameters of AUTH_ANSWER: outlet, RESULT (0 ACCEPT, 1 REJECT), CLASS, BPT_PERMIT, ENERGY_CAP in Wh. -/
structure AuthAnswer where
  outlet : Nat
  result : Nat
  cls : Nat
  bptPermit : Bool
  cap : Nat
deriving DecidableEq, Repr

/-- R279: the parameters of COMMISSION: outlet, 0 VEHICLE or 1 LOAD, and a LOAD session's power (W), current (A) and voltage (0.1 V). -/
structure Commission where
  outlet : Nat
  kind : Nat
  power : Nat
  current : Nat
  voltage : Nat
deriving DecidableEq, Repr

/-- R297: a frame's contents as it is sent or received; `oneShot` counts only on transmit. -/
structure CanFrame where
  id : Nat
  ide : Bool
  rtr : Bool
  fdf : Bool
  brs : Bool
  esi : Bool
  oneShot : Bool
  dlc : Fin 16
  data : List Byte
deriving DecidableEq, Repr

/-- R291, R293: how an offer of a frame ends. -/
inductive CanResult
  | sent
  | arbitrationLost
  | error (lec : Fin 8)
deriving DecidableEq, Repr

/-- R295, R285: what a bus error does to the counters by the rules of ISO 11898-1: TEC plus 8, REC plus 1 or plus 8, or nothing; or a
protocol exception. -/
inductive CanError
  | transmit (lec : Fin 8)
  | receive (lec : Fin 8)
  | receiveEight (lec : Fin 8)
  | uncounted (lec : Fin 8)
  | exception
deriving DecidableEq, Repr

/-- R304 to R308: what the AC converters of one grid point deliver for a block: the 24-bit codes of its 8 channels (voltages L1, L2, L3, N;
currents L1, L2, L3, N), the 32 samples of the block and the 2 after it, and which reference self-checks have failed. -/
structure GpSamples where
  codes : List (List Int)
  selfFail : List Bool
deriving DecidableEq, Repr

/-- R315, R316: a harmonic window of one grid point as transformed: its measured frequency in mHz, and for each of the 8 channels the RMS of
the whole signal and its bins from bin 0 on, each the cosine and sine parts as binary32 RMS values. -/
structure HarmWindow where
  mHz : Nat
  rms : List Word
  bins : List (List (Word × Word))
deriving DecidableEq, Repr

/-- R341: how step SELF ends. -/
inductive SelfResult
  | pass
  | fail
  | none
deriving DecidableEq, Repr

/-- R351: a rule instant: month, week of the month (1 to 4, 5 the last), weekday (0 Sunday) and UTC minute of that day. -/
structure DstRule where
  month : Nat
  week : Nat
  weekday : Nat
  minute : Nat
deriving DecidableEq, Repr

/-- R352: the calendar: seasons (month, day, the day profile of each weekday from Sunday on), day profiles of switching points
(minute of the day, tariff), and special days (year or every year, month, day, profile). -/
structure Calendar where
  seasons : List (Nat × Nat × List Nat)
  profiles : List (List (Nat × Nat))
  specials : List (Option Nat × Nat × Nat × Nat)
deriving DecidableEq, Repr

/-- R353: what a SET of class 0x08 sets: BIL_CFG, BIL_TZ, the daylight rules and the calendar. -/
structure TariffCfg where
  cfg : Word
  tz : Word
  dstBegin : DstRule
  dstEnd : DstRule
  cal : Calendar
deriving DecidableEq, Repr

/-- R369: the roles of object access. -/
inductive Role
  | public_ | customer (outlet : Fin 16) (sid : Id64) | operator | installer | metrologist
deriving DecidableEq, Repr

/-- R353, R368: what a SET of class 0x08 sets. -/
inductive CalSet
  | cfg (w : Word)
  | tz (w : Word)
  | daylight (first last : DstRule)
  | calendar (c : Calendar)
deriving DecidableEq, Repr

/-- R366: what a SET of class 0x09 sets. -/
inductive ScrollSet
  | outlets (items : List Code)
  | port (items : List Code)
  | dwell (s : Nat)
deriving DecidableEq, Repr

/-- R327: a calibration value: of AC channel `c` (RATIO, GAIN, OFS, PHASE), or of head `h` (GAIN_V, GAIN_I, OFS_V, OFS_I). -/
inductive CalItem
  | channel (c : Fin 16) (item : Fin 4) (value : Word)
  | head (h : Fin 48) (item : Fin 4) (value : Word)
deriving DecidableEq, Repr

/-- R514: an object record of a configuration image, and an object setting as the configuration copies keep it. -/
inductive ObjSetting
  | calendar (x : CalSet)
  | scroll (x : ScrollSet)
  | calibration (x : CalItem)
deriving DecidableEq, Repr

/-- R368: how an object access request reaches the device: by a descriptor of the host or the service UART, or from a site-line node. -/
inductive ObjSrc
  | desc (src : Src)
  | node (entry : Fin 250)
deriving DecidableEq, Repr

/-- R369: a login: the role asked for and its credential. -/
inductive Login
  | public_
  | customer (outlet : Fin 16) (sid : Id64)
  | operator (mac : List Byte)
  | installer (mac : List Byte)
  | metrologist (mac : List Byte)
deriving DecidableEq, Repr



/-- R418, R419: what is read back at one safe output: element A on, element B on, SOUT_M at VAUX while its element is off, SOUT_P at GNDP
while its element is on or the current limit acting. -/
structure SoutRead where
  aOn : Bool
  bOn : Bool
  vaux : Bool
  overload : Bool
deriving DecidableEq, Repr

/-- R408 to R412: what an evaluation reads: the 16 pins (closed or high) as channel A and channel B read them, the pairs that show CROSS and
SHORT24, whether both heartbeats came, whether both channels compute the same check value (R422), and the safe outputs. -/
structure SafRead where
  pinsA : BitVec 16
  pinsB : BitVec 16
  cross : BitVec 8
  short24 : BitVec 8
  beats : Bool
  checks : Bool
  souts : List SoutRead
deriving DecidableEq, Repr

/-- R432, R446: what the power die measures at a load-switch channel: current in mA, junction temperature in 0.1 °C, and whether its current
limit acts. -/
structure LswMeas where
  mA : Nat
  tj : Int
  limit : Bool
deriving DecidableEq, Repr

/-- R455, R459: where a new key goes. -/
inductive KeyDest
  | slot (k : Byte)
  | blob
deriving DecidableEq, Repr

/-- R460: a slot or a working slot as an operation names it. -/
inductive KeyRef
  | slot (k : Byte)
  | work (w : Byte)
deriving DecidableEq, Repr

/-- R455, R460: GENERATE. `hash` counts for HMAC keys. `fail` is the step of R455 that fails on the way, if any; `tampers` are the tamper
types that occur while the operation runs (R465). -/
structure KeyNew where
  dest : KeyDest
  type : Nat
  usage : Nat
  hash : Nat
  fail : Option (Fin 7)
  tampers : List (Fin 13)
deriving DecidableEq, Repr

/-- R458: a sealed import: the slot with UNWRAP, the ephemeral point, nonce, ciphertext and tag, and check value. -/
structure KeySealed where
  new : KeyNew
  unwrapSlot : Byte
  point : List Byte
  nonce : List Byte
  sealed : List Byte
  check : List Byte
deriving DecidableEq, Repr

/-- R460: CIPHER: direction, nonce, additional data and text. -/
structure CipherReq where
  decrypt : Bool
  nonce : List Byte
  aad : List Byte
  text : List Byte
deriving DecidableEq, Repr

/-- R468, R470: an image as it is staged: its bytes in host memory, and as they read back from MRAM. -/
structure FwImage where
  bytes : List Byte
  mram : List Byte
deriving DecidableEq, Repr

/-- The commands of the block (spec/opcode_table.json). -/
inductive Instr
  /-- R9: A host write to a register field that has no row of its own is applied, rejected or counted according to its access code and the owning block's open rule. -/
  | registerWrite (offset : BitVec 21) (value : Word)
  /-- R12: A read of the low word of a 64-bit register returns it and copies the high word into that register's capture word. -/
  | reg64LowRead (offset : BitVec 21)
  /-- R12: A write of the low word of a 64-bit register goes only to that register's staging word. -/
  | reg64LowWrite (offset : BitVec 21) (value : Word)
  /-- R12: A write of the high word sets the whole 64-bit register from the written high word and the staging word, then reloads the staging word. -/
  | reg64HighWrite (offset : BitVec 21) (value : Word)
  /-- R82: A read of a counter or peak word marked clear-on-read returns its value and clears it. -/
  | clearOnReadRead (bar : Bar) (offset : BitVec 21)
  /-- R507: VAUX has been at or above 18 V for 10 ms; the device runs the power-on timeline to host-ready, DT restarts and the run epoch increments. -/
  | powerOnReset (facts : StartFacts)
  /-- R507: A reset other than power-on is released, and the device runs the start-up steps from POR release onwards, restoring metering, billing, estimator and triad state. -/
  | resetRelease (facts : StartFacts)
  /-- R477: A configuration request before host-ready is answered with Retry Status, and a memory request completes with Unsupported Request. -/
  | pcieEarlyRequest (configuration : Bool)
  /-- R31: Loss of root PLL lock or of the selected reference causes a reset with cause CLOCK_FAIL. -/
  | rootPllLockLoss
  /-- R22: A die-to-die link fails; safe outputs switch off, the load-switch hold window starts and the device resets with cause LINK_DIE. -/
  | dieLinkFail
  /-- R36: An SRAM ECC error is corrected and counted, fails the reading operation, or resets the device with cause ECC_FATAL, by region. -/
  | sramEccError (double : Bool) (region : Fin 15) (op : Option Src)
  /-- R509: A firmware sequencer core leaves its watchdog unserviced for 100 ms and the device resets with cause WATCHDOG. -/
  | watchdogExpiry
  /-- R30: At the end of each 10 s interval an RTC rate off CTL by more than 500 ppm declares legal time invalid and sets RTC_FAULT. -/
  | rtcRateCheck (ppb : Int)
  /-- R510: RESET_N held low for 10 µs while armed starts a reset with cause PIN. -/
  | resetPinAssert
  /-- R510: The rising edge of RESET_N releases a pin reset, and the pin is disarmed. -/
  | resetPinRelease
  /-- R510: RESET_N has stayed low for 5 s; the device restarts with the pin disarmed, STUCK set and SAFE-HOLD cause RST_STUCK. -/
  | resetPinStuck (facts : StartFacts)
  /-- R510: RESET_N has stayed high for 100 ms after a release and the pin is armed again. -/
  | resetPinArm
  /-- R510: RESET_N goes low while disarmed and only GEN_RST_PIN.IGNORED increments. -/
  | resetPinIgnored
  /-- R516: A write to GEN_RESET_CTL with KEY 0xA5 and RESET = 1 starts a reset with cause HOST, or is rejected while an outlet is energised without FORCE. -/
  | hostReset (value : Word)
  /-- R42: A write of GEN_LIFECYCLE.SH_REQ adds or withdraws SAFE-HOLD cause HOST_REQUEST. -/
  | shReqWrite (request : Bool)
  /-- R39: Yalkor closes MANUFACTURE at the factory, locking the identity and moving the device to COMMISSIONING. -/
  | factoryClose (testsPassed : Bool) (cert : List Byte)
  /-- R39: The LIFECYCLE descriptor requests a lifecycle transition, which is made, refused with BAD_PARAM, or refused with BUSY_LIVE. -/
  | lifecycle (src : Src) (target : Byte)
  /-- R44: At each DT multiple of 10 ms the allocator freezes its input snapshot, refreshes base loads and stage availability, and starts the solve. -/
  | allocationTick
  /-- R23: The tick's solve completes, is checked, and the grant set or a fallback set is published as one atomic swap, with reasons, TTS, rests and events. -/
  | grantSolveComplete (solveUs : Nat) (solverFault : Bool)
  /-- R76: A write of ALC_CTRL.RUN starts or stops the allocator, and a write of 0 is rejected while an outlet is energised or a session open. -/
  | alcRunWrite (run : Bool)
  /-- R80: A write of 1 to ALC_TRIP.HOST_TRIP trips the site with cause HOST. -/
  | alcHostTrip (withClear : Bool)
  /-- R71: A write of 1 to ALC_TRIP.CLEAR clears the trip when no cause is present, or sets CLEAR_REFUSED. -/
  | alcTripClear
  /-- R71: The TRIP_CLEAR descriptor requests a trip clear and completes with TRIP_CAUSE_PRESENT when a cause remains. -/
  | tripClear (src : Src)
  /-- R72: The loss report has been absent for 10 s and the grid point counts again from the next tick. -/
  | gridPointRecount (g : Fin 2)
  /-- R99: A write of 1 to EDG_LEG_CTL.ARM is judged against the arm conditions and accepted, writing the node's leg registers, or refused with a code. -/
  | legArm (leg : LegRef) (pins : BitVec 4)
  /-- R100: A write of 1 to EDG_LEG_CTL.DISARM clears ARMED and turns both gates off from the next boundary. -/
  | legDisarm (leg : LegRef)
  /-- R97: A write of EDG_LEG_CTL.FORCE sets a force that takes effect at the first boundary whose cut-off lies at or after the write. -/
  | legForceWrite (leg : LegRef) (force : BitVec 2)
  /-- R92: At a leg's cut-off a pending commit becomes active, the period's edges are built and judged for short pulses, and the EDGE frame is dispatched. -/
  | legCutoff (leg : LegRef)
  /-- R109: A local fault input asserted longer than FILTER tri-states and faults every armed output in its mask. -/
  | fltInputAssert (k : Fin 4)
  /-- R117: At a CLOSED slot's sample instant its inputs are captured and one execution is queued, or it misses as stale. -/
  | slotSample (m : Fin 128) (pinA pinB : Word)
  /-- R118: A slot execution completes and its outputs, states and duty maps are written in one tick, or it misses as NAN. -/
  | slotExecutionComplete (m : Fin 128)
  /-- R135: An execution has not completed at its deadline and misses as LATE, holding outputs and states. -/
  | slotDeadlineMiss (m : Fin 128)
  /-- R131: A write of 1 to CLE_SLOT_CTL.OPEN opens the slot, or is refused with BUSY_LIVE when it feeds an armed leg. -/
  | slotOpen (m : Fin 128)
  /-- R131: A write of 1 to CLE_SLOT_CTL.CLOSE closes the slot after its checks, or refuses it with a code. -/
  | slotClose (m : Fin 128)
  /-- R137: A write of 1 to a slot's FAULT clears it without closing the slot. -/
  | slotFaultClear (m : Fin 128)
  /-- R147: At each DT multiple of 1 ms each enabled cable's three-node model is stepped and its trip states evaluated. -/
  | cableObserverStep (pin0 pin1 pin2 pin3 : Word)
  /-- R155: Flow has been below FLOW_MIN with current above 5 % of I_RATED for 2 s and the cable trips with cause FLOW. -/
  | cableFlowTrip (n : Fin 16)
  /-- R155: Hotspot and sensors have stayed below T_LIM − 10 K for 60 s with no cause present and the trip clears. -/
  | cableTripClear (n : Fin 16)
  /-- R151: At the cable's band rate ILIM and TREC are recomputed and published. -/
  | cableLimitPublish (n : Fin 16)
  /-- R145: A temperature channel is sampled, judged for faults, cross-checked in its set, and used to correct the model and set the band. -/
  | sensorSample (n : Fin 64) (ohm : Word)
  /-- R152: A cable's margin has stayed above the band's fall level for 5 s and its band falls. -/
  | bandFall (n : Fin 16)
  /-- R163: At 1 kHz each die sensor is read, DIE_WARM posted above WARN, and 125 °C for 10 ms resets with cause DIE_OVERTEMP. -/
  | dieTempSample (t0 t1 t2 : BitVec 16)
  /-- R163: Every die is below 115 °C and the DIE_OVERTEMP reset is released. -/
  | dieOvertempRelease
  /-- R162: A write of 1 to a cable's EN enables it, or is refused with CAB_PARAM. -/
  | cableEnable (n : Fin 16)
  /-- R161: The IDENTIFY descriptor starts a cable identification as a long operation, or refuses it with BUSY_LIVE. -/
  | identify (l : LongSrc) (outlet : Byte) (iId : Code) (stepTime : Code)
  /-- R161: An identification phase ends or fails by its condition, time limit or fit, moving to the next phase or completing. -/
  | identifyPhaseEnd (n : Fin 16)
  /-- R185: A write of 1 to PST_PHY_CTL.EN takes the piste from DOWN to TRAIN, or to TEST for loopback or pattern settings. -/
  | pisteEnable (p : Fin 8)
  /-- R188: A write of 0 to PST_PHY_CTL.EN takes the piste to DOWN, or is rejected with BUSY_LIVE. -/
  | pisteDisable (p : Fin 8)
  /-- R188: A write of 1 to RESTART starts a new attempt from TRAIN, or is rejected with BUSY_LIVE. -/
  | pisteRestart (p : Fin 8)
  /-- R178: A receiver counts 64 consecutive valid headers and declares lock, opening an echo window. -/
  | rxLock (rx : Receiver)
  /-- R178: A locked receiver sees 16 invalid headers in 64 blocks and drops lock, moving an UP piste to RELOCK. -/
  | rxLockLoss (p : Fin 8)
  /-- R179: 32 consecutive complemented known blocks invert the receiver and restart the hunt. -/
  | rxInversionDetected (rx : Receiver)
  /-- R185: 256 consecutive TRAIN blocks of the right origin arrive and the piste enters ADAPT, handling a reversed twin. -/
  | pisteTrainDone (p : Fin 8) (origin : Fin 8) (partnerOrigin : Option (Fin 8))
  /-- R185: 40 ms pass in TRAIN without completion and the attempt fails with cause TRAIN or ORIGIN. -/
  | pisteTrainTimeout (p : Fin 8) (origin : Option (Fin 8))
  /-- R185: After 2.6 ms of ADAPT the final FOM moves the piste to VERIFY or fails the attempt with FOM. -/
  | pisteAdaptDone (p : Fin 8) (eye amp : Nat)
  /-- R185: 1 ms of clean VERIFY moves the piste to UP and posts PHY_UP. -/
  | pisteVerifyDone (p : Fin 8) (clean : Bool)
  /-- R185: Lock is not regained within 2 ms of RELOCK and the piste returns to TRAIN with PHY_DOWN. -/
  | pisteRelockTimeout (p : Fin 8)
  /-- R186: 1 s after entry to FAILED the piste makes one further attempt. -/
  | pisteFailedRetry (p : Fin 8)
  /-- R180: Each 100 µs of ADAPT one CTLE setting is tried and its FOM recorded. -/
  | ctleSweepStep (p : Fin 8) (eye amp : Nat)
  /-- R180: Every 100 ms in VERIFY, UP and RELOCK neighbouring CTLE settings are trialled and adopted on a FOM gain of 8. -/
  | eqTrial (p : Fin 8) (eyeUp ampUp eyeDn ampDn : Nat)
  /-- R180: Every 1024 blocks the DFE taps take one sign-sign LMS step. -/
  | dfeLmsStep (p : Fin 8) (err : Bool) (past : BitVec 5)
  /-- R181: Every 1 ms the figure of merit is recomputed and FOM_LOW judged. -/
  | fomUpdate (p : Fin 8) (eye amp invalid : Nat) (prbs : List Nat) (signal : Bool)
  /-- R217: The 10 µs echo window ends and the link delay is measured or left unmeasured. -/
  | echoComplete (p : Fin 8) (window : EchoEnd)
  /-- R213: At each census interval a MARK is sent on every UP piste, runs with SYNC and CENSUS are given, and unanswered nodes are counted. -/
  | censusMark (seen : List StreamSeen) (unclaimed : List Nat)
  /-- R219: A MARK returns and the ring latency, residue, path delays and dispatch lead are computed. -/
  | markReturn (p : Fin 8) (n : Fin 17) (latency : Nat)
  /-- R215: A CENSUS reply is received and the node is admitted, made pending, refused or marked returned. -/
  | censusReplyReceived (f : RxFrame)
  /-- R230: A write of PST_ADMIT.ACCEPT admits a PENDING node table entry. -/
  | pstAdmitAccept (entry : Fin 128)
  /-- R230: A write of PST_ADMIT.FORGET frees a LOST or REFUSED node table entry. -/
  | pstAdmitForget (entry : Fin 128)
  /-- R206: A TELE frame is received and its channels stored for slots and sensors, and its fault and stale bits acted on. -/
  | teleFrameReceived (f : RxFrame)
  /-- R208: A MEAS frame of eight head samples is received and kept for its metering block. -/
  | measFrameReceived (f : RxFrame)
  /-- R212: A TUN segment is received and joined into an Ethernet frame from the vehicle link. -/
  | tunFrameReceived (f : RxFrame)
  /-- R211: The NODE_CTRL descriptor sends a CTRL request to a present node and returns its response. -/
  | nodeCtrl (src : Src) (x : NodeCtrlReq)
  /-- R211: A CTRL response is received and completes its request with the node's status. -/
  | ctrlResponseReceived (f : RxFrame)
  /-- R211: A CTRL request has had no response for 2 ms and is sent once more. -/
  | ctrlRetry
  /-- R211: A CTRL request has had no response for 4 ms and fails with CTRL_TIMEOUT. -/
  | ctrlTimeout
  /-- R213: A node takes hop HOPCNT + 1, forwards the MARK incremented and records arrival and departure times. -/
  | nodeMarkForward (i : Fin 128) (odd : Bool) (mark : Mark) (arrival departure : Int)
  /-- R198: A node takes the frames of a run addressed to its hop and returns it with RET = 1 and its own frames. -/
  | nodeRunOwn (i : Fin 128) (odd : Bool) (arrival : Int) (orphan : Bool) (before : BitVec 58) (line : List Block) (x : NodeIn)
  /-- R220: A node applies a valid SYNC by stepping or adjusting its time by e. -/
  | nodeSyncApply (i : Fin 128) (odd : Bool)
  /-- R220: A node has applied no valid SYNC for 3 × INTERVAL and its time becomes stale. -/
  | nodeTimeStale (i : Fin 128)
  /-- R221: At a leg boundary a stage node applies the usable EDGE frame, repeats the previous period, or tri-states and latches STALE_TRI. -/
  | nodeLegBoundary (i : Fin 128) (j : Fin 6)
  /-- R101: A stage node tri-states the legs of an asserted fault input within 100 ns and reports them in its next TELE. -/
  | nodeFaultInput (i : Fin 128) (k : Fin 6) (active : Bool)
  /-- R177: A node's receiver loses alignment and the node produces LOS_IDLE and orphan runs. -/
  | nodeRxAlignLoss (i : Fin 128) (odd signal : Bool)
  /-- R222: A node has owned no run for 100 ms and takes its documented safe state, opening a front-end contactor and the tunnel. -/
  | nodeNoRunTimeout (i : Fin 128)
  /-- R244: At each DT multiple of SF_LEN the device sends the beacon and begins the superframe's polls. -/
  | superframeStart
  /-- R245: The device sends the next due poll frame to a node, carrying at most one frame. -/
  | slnPollSend (respMax : Fin 65)
  /-- R245: A node's reply arrives and its ACK, NACK, data, TMAP or NBR contents are taken. -/
  | slnReplyReceived (i : Fin 250) (x : SlnReply)
  /-- R245: No reply preamble is detected 60 µs after it is due and the exchange fails, counting towards LOST. -/
  | slnReplyTimeout (i : Fin 250)
  /-- R245: A relay forwards a decoded frame 40 µs after its end, re-coded for the next link. -/
  | slnRelayForward (i : Fin 250) (f : SlnFrame)
  /-- R247: A JOIN_REQ is received and the node is re-admitted, admitted, made pending or refused by ADMIT. -/
  | slnJoinReq (r : SlnJoin)
  /-- R261: A write of SLN_ADMIT.ACCEPT admits a PENDING site-line entry. -/
  | slnAdmitAccept (i : Fin 250)
  /-- R261: A write of SLN_ADMIT.FORGET frees a LOST, PENDING or REFUSED site-line entry. -/
  | slnAdmitForget (i : Fin 250)
  /-- R250: Routes or waystations are recomputed on their period, changing routing mode or routes at a superframe start. -/
  | slnRouteRecompute
  /-- R239: A link's tone map is older than 60 s and the link is sounded. -/
  | slnTmapExpiry (i : Fin 250) (down : Bool)
  /-- R254: A 1 µs window exceeds the noise floor by THRESH and frame starts are held off. -/
  | slnNoiseImpulse
  /-- R254: HOLD passes without a further impulse and deferred frames may start. -/
  | slnNoiseHoldEnd
  /-- R258: In HIBERNATE a WAKE frame from a known node wakes the device. -/
  | slnWakeFrame (id : Id64) (slept : Nat) (facts : StartFacts)
  /-- R246: The SLN_SEND descriptor queues a host message of up to 4096 bytes for a site-line entry. -/
  | slnSend (src : Src) (entry : Byte) (data : List Byte)
  /-- R246: The SLN_RECV descriptor completes when a node's message arrives. -/
  | slnRecv (src : Src) (bufLen : Nat)
  /-- R366: At a DT multiple of DWELL the next scroll item is signed and queued as DISPLAY frames and sent on DSP_*. -/
  | displayItemDue
  /-- R536: The local display port sends a DISPLAY body once DSP_RDY_N is low, or drops the item after 100 ms. -/
  | dspTransaction (readyLow : Bool) (waited : Nat) (miso : Byte)
  /-- R268: A vehicle request arrives whole over the tunnel and is answered within 5 ms under the session's state. -/
  | v2gRequest (n : Fin 16) (len : Nat) (x : V2gReq)
  /-- R265: Every 10 ms the device reads a front-end's VLINK_STATE and writes VLINK_CTL.EN. -/
  | vlinkPoll (n : Fin 16)
  /-- R271: A session state's limit passes and the session ends with outcome TIMEOUT or PRECONDITION. -/
  | sessionStateTimeout (n : Fin 16)
  /-- R270: VSS_TIMERS.AUTH passes without an answer and the session ends AUTH_FAILED. -/
  | authTimeout (n : Fin 16)
  /-- R270: A relayed CertificateInstallation is unanswered for 30 s and ends FAILED. -/
  | certInstallTimeout (n : Fin 16)
  /-- R274: An outlet has been refused without a break for HOLD_MAX and the vehicle is told to stop, outcome REFUSED. -/
  | refusalHoldMax (n : Fin 16)
  /-- R277: No charge-loop request has come for VSS_TIMERS.LOOP and the session ends TIMEOUT. -/
  | chargeLoopTimeout (n : Fin 16)
  /-- R275: The voted voltage comes within 20 V of the check voltage and the insulation is judged. -/
  | cableCheckVoltageReached (n : Fin 16)
  /-- R276: The contactor channel starts to conduct or the VCONT close response arrives and the outlet is energised. -/
  | energisationInstant (n : Fin 16)
  /-- R277: During a stop the voted current falls to 5 A or less and the contactor is opened. -/
  | stopCurrentLow (n : Fin 16)
  /-- R277: The current has not fallen to 5 A within 1 s of a zero grant and the contactor is opened anyway. -/
  | stopUnderLoad (n : Fin 16)
  /-- R276: The contactor stops conducting or the VCONT open response arrives, ending energisation and the metered interval. -/
  | contactorOpened (n : Fin 16)
  /-- R276: A failed VCONT open write is repeated every 10 ms. -/
  | contactorOpenRetry (n : Fin 16)
  /-- R277: 500 ms after the opening instant a connector voltage above 60 V sets WELD. -/
  | weldCheck (n : Fin 16)
  /-- R376: The manifest key becomes usable under the same identity and unsigned manifests are signed in order with LATE_SIGNED. -/
  | manifestLateSign
  /-- R283: A write of VSS_OUT_CTL.STOP ends the outlet's session with outcome NORMAL_HOST, or returns NO_SESSION. -/
  | sessionStop (n : Fin 16)
  /-- R283: A write of VSS_OUT_CTL.WELD_CLEAR clears the outlet's WELD flag. -/
  | weldClear (n : Fin 16)
  /-- R270: The AUTH_ANSWER descriptor accepts or rejects a pending authorisation with class, BPT permit and energy cap. -/
  | authAnswer (src : Src) (x : AuthAnswer)
  /-- R270: The CERT_RESPONSE descriptor returns a signed CertificateInstallation response to the vehicle. -/
  | certResponse (src : Src) (outlet : Nat) (response : List Byte)
  /-- R269: The CHAIN_SET descriptor installs an outlet's SECC certificate chain. -/
  | chainSet (src : Src) (outlet : Nat) (chain : List Byte)
  /-- R269: The ANCHOR_SET descriptor installs vehicle or mobility-operator trust anchors. -/
  | anchorSet (src : Src) (kind : Nat) (anchors : List (List Byte))
  /-- R279: The COMMISSION descriptor opens a VEHICLE or LOAD commissioning session on an outlet. -/
  | commission (src : Src) (x : Commission)
  /-- R287: A write of 1 to CAN_CTL.EN starts the controller after timing and ring checks, or is refused. -/
  | canEnable (n : Fin 4)
  /-- R294: A write of 0 to CAN_CTL.EN finishes the frame on the bus and aborts every other pending frame. -/
  | canDisable (n : Fin 4) (busy : Bool)
  /-- R296: A write of 1 to RECOVER clears BOFF_LOCKED and starts bus-off recovery. -/
  | canRecover (n : Fin 4)
  /-- R291: The CAN_TX descriptor places a frame record in a transmit mailbox, or completes it at once with an error. -/
  | canTx (src : Src) (record : List Byte)
  /-- R291: A frame is sent or fails one-shot and its descriptor completes. -/
  | canTxComplete (n : Fin 4) (r : CanResult) (sof : Nat) (edges : List Nat)
  /-- R298: A received frame is filtered and delivered to a ring, the estimator, both, or discarded. -/
  | canFrameReceived (n : Fin 4) (f : CanFrame) (sof : Nat)
  /-- R295: A bus error updates the error counters and confinement state, entering bus-off when it is reached. -/
  | canBusError (n : Fin 4) (e : CanError)
  /-- R296: 128 occurrences of 11 recessive bits complete recovery and the controller is error active. -/
  | canRecoveryComplete (n : Fin 4)
  /-- R309: By B + 200 µs the block's grid and voted outlet results are committed to every energy and tariff register in one tick. -/
  | blockCommit (gp0 gp1 : GpSamples)
  /-- R319: A backlogged pulse starts at the later of its due instant and the spacing limit. -/
  | pulseStart (k : Fin 4)
  /-- R319: A pulse's width W elapses and the output returns inactive. -/
  | pulseEnd (k : Fin 4)
  /-- R316: A harmonic window ends; magnitudes, phases, THD and fundamental energy are computed and published. -/
  | harmonicWindowEnd (g : Fin 2) (w : HarmWindow)
  /-- R321: At each DT multiple of 100 ms the accumulators are written to the next good save slot. -/
  | periodicSave
  /-- R322: The save's commit word is verified by S + 2 ms; a failure posts SAVE_FAIL and may mark the slot bad. -/
  | saveCommitCheck (good : Bool)
  /-- R333: A write of 1 to TRI_OUT_CFG.EN enables the triad and starts head tests, or is refused. -/
  | triadEnable (n : Fin 16)
  /-- R339: A write of TRI_OUT_CTL.STANDBY bit k places a head in STANDBY with cause HOST, or is refused. -/
  | headStandbyRequest (n : Fin 16) (k : Fin 3)
  /-- R342: A write of TRI_OUT_CTL.READMIT bit k starts a STANDBY head's test. -/
  | headReadmitRequest (n : Fin 16) (k : Fin 3)
  /-- R342: READMIT_S after entry to STANDBY an eligible head enters TESTING. -/
  | headReadmitTimer (h : Fin 48)
  /-- R341: The head's self-test returns PASS or FAIL, or 100 ms pass, deciding step SELF. -/
  | headSelfTestResult (h : Fin 48) (r : SelfResult)
  /-- R341: A testing head has not passed RESYNC within 10 s and fails its test. -/
  | headResyncTimeout (h : Fin 48)
  /-- R354: At a sub-interval end each demand value is formed, marked and compared with its tariff's maximum. -/
  | demandSubintervalEnd
  /-- R352: Legal time passes a switching point and the tariff in force changes. -/
  | tariffSwitch
  /-- R358: A scheduled period boundary is reached; the device saves and writes the closed-period record. -/
  | billingPeriodClose
  /-- R361: Each second of a slew the correspondence pair is replaced until Δ is absorbed. -/
  | slewStep
  /-- R371: The field exceeds MAG_MT for 1 s and a MAGNETIC tamper is booked, or MAG_STARTUP set outside normal service. -/
  | tamperMagnetic (mT : Nat)
  /-- R371: The cover input stays at its open level for 100 ms and a COVER tamper is booked. -/
  | tamperCover (pin : Fin 4) (high : Bool)
  /-- R369: An object-access challenge request returns a 16-byte random challenge. -/
  | objChallenge (o : ObjSrc)
  /-- R369: A login opens an association for a role, or fails and counts towards locking the channel. -/
  | objLogin (o : ObjSrc) (x : Login)
  /-- R368: A GET returns an object's value within the association's role. -/
  | objGet (o : ObjSrc) (id : Word)
  /-- R369: An association ends on request. -/
  | objEnd (o : ObjSrc)
  /-- R369: An association with no request for 10 min ends. -/
  | associationTimeout (c : Channel)
  /-- R369: A channel's 10 min authentication lock expires. -/
  | accessLockExpiry (c : Channel)
  /-- R360: An OPERATOR SET of legal time slews, steps back, steps forward or validates it. -/
  | legalTimeSet (o : ObjSrc) (utc : Nat)
  /-- R353: An INSTALLER SET of calendar, daylight or BIL_CFG settings takes effect from the next whole minute and is booked CONFIG. -/
  | calendarSet (o : ObjSrc) (x : CalSet)
  /-- R366: An INSTALLER SET of a scroll sequence or DWELL is applied and booked CONFIG. -/
  | scrollSet (o : ObjSrc) (x : ScrollSet)
  /-- R327: A METROLOGIST SET of calibration is applied from the next block or refused while the outlet is energised. -/
  | calibrationWrite (o : ObjSrc) (x : CalItem)
  /-- R357: An OPERATOR ACTION closes the billing period, marked COMMAND. -/
  | periodCloseAction (o : ObjSrc)
  /-- R372: An OPERATOR ACTION clears the MAG_STARTUP flag. -/
  | magStartupClear (o : ObjSrc)
  /-- R325: A METROLOGIST ACTION acknowledges an UNBOUNDED loss record and clears LOSS_UNBOUNDED. -/
  | unboundedAcknowledge (o : ObjSrc) (number : Code)
  /-- R370: An INSTALLER ACTION breaks the metrology seal, or is refused while an outlet is energised. -/
  | sealBreak (o : ObjSrc)
  /-- R370: A METROLOGIST ACTION reseals the metrology seal and ends the association. -/
  | sealReseal (o : ObjSrc)
  /-- R375: The MAN_READ descriptor returns up to 16 manifests from the archive. -/
  | manRead (src : Src) (first : Id64) (count : Byte) (resLen : Nat)
  /-- R377: The MAN_ACK descriptor acknowledges every manifest up to a number. -/
  | manAck (src : Src) (last : Id64)
  /-- R385: At each DT multiple of 100 ms the estimator takes anchors, rests, learning, swaps, limits, SOC_REP and rest requests and publishes them. -/
  | estimatorStep (good : Bool)
  /-- R400: At each DT multiple of 1 s the estimator state is committed to the alternate MRAM copy. -/
  | estimatorCommit (good : Bool)
  /-- R395: An enabled template signal has not been updated for 1 s and BMS_STALE sets. -/
  | bmsStaleTimeout (k : Fin 48)
  /-- R391: Each whole hour LEARN_AGE increments and STARVED is judged. -/
  | learnAgeTick (k : Fin 48)
  /-- R403: A write of 1 to a string's EN enables it with a first estimate, or is refused. -/
  | stringEnable (k : Fin 48)
  /-- R396: A write of BSE_STR_CTL.SWAP declares a swap with cause HOST. -/
  | stringSwap (k : Fin 48)
  /-- R406: A write of BSE_STR_CTL.FORGET discards every stored rest point. -/
  | stringForget (k : Fin 48)
  /-- R408: Every 250 µs both channels filter inputs, evaluate functions, cross-monitor, and drive enables and safe outputs. -/
  | safetyEvaluation (x : SafRead)
  /-- R414: STOP1_T after a category 1 decision the stopping pair's safe outputs switch off. -/
  | cat1OutputOff (p : Fin 8)
  /-- R422: A write to SAF_CONFIRM confirms the configuration when it matches SAF_CHECK, or is rejected. -/
  | safetyConfirm (value : Word)
  /-- R417: A write of SAF_CMD.RESET with RESET_SRC = HOST is a reset action clearing the site stop and waiting pairs. -/
  | safetyHostReset
  /-- R419: A write of SAF_CMD.FAULT_CLR clears a safe output's latched fault after two clean dark tests. -/
  | soutFaultClear
  /-- R419: Once in every TP_PERIOD a safe output's elements are switched off in turn and read back. -/
  | soutDarkTest (k : Fin 4) (x : SoutRead) (cross : Option (Fin 4))
  /-- R429: A write of LSW_CH_CTL.ON commands a channel, re-asserts it in the hold window, or is rejected. -/
  | lswOnWrite (n : Fin 20) (on : Bool)
  /-- R443: A write of a channel's EN enables it or switches it off at once, unless the channel is owned. -/
  | lswEnWrite (n : Fin 20) (en : Bool)
  /-- R436: A write of UNLOCK clears LOCKED_CLAMP after the cool window, or is rejected with COOL_PENDING. -/
  | lswUnlock (n : Fin 20)
  /-- R432: The current limit has acted for LIM_T and the channel goes off with cause OVERCURRENT. -/
  | lswOvercurrent (n : Fin 20) (since : Nat)
  /-- R432: The junction reaches 175 °C and the channel goes off with cause THERMAL, latching on the last retry. -/
  | lswThermalShutdown (n : Fin 20)
  /-- R432: The junction rises above 150 °C and TWARN sets, clearing below 140 °C. -/
  | lswTempWarn (n : Fin 20) (tj : Int)
  /-- R433: A cooling channel's retry conditions hold and it switches on again. -/
  | lswRetry (n : Fin 20)
  /-- R433: A channel has conducted 60 s without shutdown and RETRY_CNT returns to 0. -/
  | lswRetryCntReset (n : Fin 20)
  /-- R428: Every 10 ms the 1 s mean of all channel currents is evaluated and one channel shed above 30 A. -/
  | lswAggEval (meas : List LswMeas) (vaux vhold : Nat)
  /-- R437: Every 100 ms an off channel with OL_EN is tested for open load or short to VAUX. -/
  | lswOffstateTest (n : Fin 20) (v0 v1 : Nat)
  /-- R438: VAUX above 33.5 V for 20 µs switches every channel off. -/
  | vauxSurge
  /-- R438: VAUX below 32 V for 10 ms returns each channel to its command. -/
  | vauxSurgeEnd (peak : Nat)
  /-- R438: VAUX below 17.5 V for 100 µs holds channels and runs the logic from VHOLD. -/
  | vauxDip
  /-- R438: VAUX at or above 18 V for 10 ms ends the dip. -/
  | vauxDipEnd (lowest : Nat)
  /-- R438: A dip over 100 ms, VAUX below 12 V or VHOLD exhausted switches every channel off and resets with cause BROWN_OUT. -/
  | brownOut
  /-- R438: VAUX is reversed and nothing conducts or runs until correct polarity returns. -/
  | vauxReverse
  /-- R438: GND and GNDP open and every channel goes off until ground is restored. -/
  | groundLost
  /-- R532: VAUX stays below 6.0 V for 10 ms and the thermal latch, clamp lock and hard-trip latches clear. -/
  | vauxRemoved
  /-- R440: The 500 ms hold window ends and channels not re-asserted take their reset states. -/
  | holdWindowEnd
  /-- R455: The KEY_GENERATE descriptor creates a key into a slot or a blob and returns its public key and attestation. -/
  | keyGenerate (l : LongSrc) (x : KeyNew)
  /-- R458: The KEY_IMPORT descriptor opens a sealed import and writes it to a slot or a blob. -/
  | keyImport (l : LongSrc) (x : KeySealed)
  /-- R456: The KEY_DELETE descriptor empties a slot and zeroises its record, or is refused. -/
  | keyDelete (src : Src) (k : Byte) (tampers : List (Fin 13))
  /-- R460: The KEY_GET_PUBLIC descriptor returns a slot's public key and attestation. -/
  | keyGetPublic (src : Src) (r : KeyRef)
  /-- R460: The KEY_MAKE_CSR descriptor returns a PKCS #10 request signed by a TLS slot. -/
  | keyMakeCsr (l : LongSrc) (k : Byte) (body : List Byte)
  /-- R460: The KEY_SIGN descriptor signs a digest or message with a SIGN_HOST key. -/
  | keySign (l : LongSrc) (r : KeyRef) (m : List Byte)
  /-- R460: The KEY_VERIFY descriptor verifies a signature. -/
  | keyVerify (l : LongSrc) (r : KeyRef) (m sig : List Byte)
  /-- R460: The KEY_HMAC descriptor returns an HMAC tag under an HMAC_HOST key. -/
  | keyHmac (src : Src) (r : KeyRef) (m : List Byte)
  /-- R460: The KEY_CIPHER descriptor encrypts or decrypts up to 64 KiB with AES-256-GCM. -/
  | keyCipher (src : Src) (r : KeyRef) (x : CipherReq)
  /-- R460: The KEY_HASH descriptor returns a SHA-2 digest. -/
  | keyHash (src : Src) (bits : Nat) (m : List Byte)
  /-- R460: The KEY_RANDOM descriptor returns 1 to 4096 random bytes. -/
  | keyRandom (src : Src) (n : Nat)
  /-- R459: The KEY_LOAD_BLOB descriptor opens a blob into a working slot, or refuses it with BLOB_BAD. -/
  | keyLoadBlob (src : Src) (w : Byte) (blob : List Byte)
  /-- R459: The KEY_UNLOAD descriptor zeroises a working slot. -/
  | keyUnload (src : Src) (w : Byte)
  /-- R470: The FW_STAGE descriptor writes and authenticates an image in the inactive bank. -/
  | fwStage (l : LongSrc) (x : FwImage)
  /-- R470: The FW_ACTIVATE descriptor marks the staged bank TRIAL and active and resets with cause FW_SWITCH. -/
  | fwActivate (src : Src)
  /-- R470: The FW_CONFIRM descriptor clears TRIAL and advances the anti-rollback counter. -/
  | fwConfirm (src : Src)
  /-- R470: 600 s after host-ready without FW_CONFIRM the trial bank is abandoned with a reset of cause FW_REVERT. -/
  | fwTrialTimeout
  /-- R461: A continuous health test fails and the random source stops giving output. -/
  | rngFail
  /-- R461: 10 s after a failure the start-up tests are repeated, restoring output or latching after three failures. -/
  | rngRetest (pass : Bool)
  /-- R449: The root secret waits for the random source and is retried every 10 s until written. -/
  | rootGenRetry
  /-- R466: A debugger requests an opening and receives a 32-byte challenge. -/
  | debugOpenRequest
  /-- R466: A debugger's signed response is checked and an accepted opening erases every secret and opens the port. -/
  | debugAuthResponse (sig : List Byte) (interrupted : Bool)
  /-- R466: The debugger's close request closes DBG_*. -/
  | debugClose
  /-- R484: A doorbell write moves a SUBMIT ring's TAIL, or is ignored and counted. -/
  | submitDoorbell (n : Fin 256) (value : Word)
  /-- R484: A doorbell write returns entries of a COMPLETE, EVENT or RECORD ring, optionally re-arming its vector and writing staged entries. -/
  | headDoorbell (n : Fin 256) (value : Word)
  /-- R485: The device fetches the next descriptor or whole caravan from a SUBMIT ring and starts it, or completes it with BAD_OPCODE. -/
  | descriptorFetch (n : Fin 256) (part : List (Fin 256)) (entries : List (List Byte))
  /-- R487: The NOP descriptor completes OK. -/
  | nop (src : Src)
  /-- R487: The REG_READ descriptor returns the values of 1 to 256 BAR0 offsets. -/
  | regRead (src : Src) (offsets : List Word)
  /-- R488: The REG_WRITE descriptor applies up to 256 register writes in order, stopping at the first rejection. -/
  | regWrite (src : Src) (pairs : List (Word × Word))
  /-- R498: The LONG_CANCEL descriptor cancels a queued or running long operation. -/
  | longCancel (src : Src) (tag : Word)
  /-- R496: A long operation reaches done, failed or refused, its status word is written and LONG_DONE posted. -/
  | longOperationDone (src : Src) (items : List Word)
  /-- R497: A long operation writes new partial results, VALID and a status word of state 3. -/
  | longPartialReady (src : Src) (units : Nat) (data : List Byte) (progress : Nat)
  /-- R515: The TEST descriptor runs a test now, queues it, or refuses it by class. -/
  | test (l : LongSrc) (t : TestReq)
  /-- R515: At an allocation tick where a queued test's safe window holds, the test starts. -/
  | testWindowOpen (quiet generating : Bool)
  /-- R515: A queued test not started within 24 h fails with TEST_EXPIRED. -/
  | testExpiry (src : Src)
  /-- R514: The CFG_WRITE descriptor checks a configuration image and writes both copies, or fails with the index of the bad record. -/
  | cfgWrite (l : LongSrc) (image : List Byte)
  /-- R482: A write of EN = 1 to a ring enables it with zeroed indices, or is refused. -/
  | ringEnable (n : Fin 256)
  /-- R482: A write of EN = 0 disables a ring, or is rejected with BUSY_LIVE for a bound COMPLETE ring. -/
  | ringDisable (n : Fin 256)
  /-- R493: TIME µs after the first entry an armed vector signals its MSI-X message and disarms. -/
  | vectorTimeExpiry (v : Fin 64)
  /-- R495: DL_Down, PERST_N, hot reset, FLR or a Bus Master Enable clear stops DMA and suspends every ring. -/
  | pcieLinkLoss (cause : LinkLossCause)
  /-- R502: A ring DMA completes with an error and the ring enters ERROR. -/
  | dmaError (what : DmaError)
  /-- R499: A service UART frame is received, checked and its descriptor served or refused. -/
  | uartFrameReceived (frame : List Byte)
  /-- R516: A write of GEN_PWR.MODE = RUN returns the device to RUN. -/
  | modeRunRequest
  /-- R516: A write of GEN_PWR.MODE = IDLE enters IDLE, or is rejected. -/
  | modeIdleRequest
  /-- R516: A write of GEN_PWR.MODE = STANDBY enters STANDBY, or is rejected. -/
  | modeStandbyRequest
  /-- R518: A write of GEN_PWR.MODE = HIBERNATE saves, commits, zeroises working slots and powers the dies down, or is rejected. -/
  | hibernateRequest (saveGood commitGood vioHeavy : Bool)
  /-- R519: An enabled wake source acts and the dies restart from the wake instant with DT resumed. -/
  | hibernateWake (source : WakeSource) (slept : Nat) (facts : StartFacts)
  /-- R523: The LDG_READ descriptor returns wayledger entries or a snapshot. -/
  | ldgRead (l : LongSrc) (r : LdgReadReq)
  /-- R522: A write of LDG_CMD.FREEZE freezes a snapshot with trigger HOST. -/
  | ldgFreeze
  /-- R522: A write of LDG_CMD.RELEASE frees a snapshot slot. -/
  | ldgRelease (slot : Fin 32)
  /-- R521: A staged wayledger entry is written to MRAM in SEQ order at up to 2000 per second. -/
  | ledgerWrite
  /-- R271: A session in CLOSING that has had no SessionStop for 5 s returns to IDLE. -/
  | sessionClosingTimeout (n : Fin 16)
  /-- R222: A cooling unit that has received no SETPOINT write for FAIL_HOLD ms runs at FAIL_SP. -/
  | failHoldExpiry (i : Fin 128)
  /-- R248: A site-line node that has decoded no beacon and no frame addressed to it for 10 s becomes unsynced, keeps its entry as FORMER and joins again. -/
  | nodeUnsynced (i : Fin 250)
deriving DecidableEq, Repr

end Sys2Proof
end

