-- ==== Sys2Proof/Machine/Codes.lean ====
section
/-! DEFINITION. The 16-bit event, status and ledger codes of R15, R505 and R506: `EV_` an event, `ST_` a status,
`LG_` a code written only to the wayledger (R526). -/

namespace Sys2Proof.Machine

/-- R83: R67 -/
abbrev EV_ALC_GRANT_CHANGE : Code := 0x0201
/-- R83: an input becomes stale; one event per input per episode -/
abbrev EV_ALC_INPUT_STALE : Code := 0x0202
/-- R83: a snowplough starts on a record that had none at the previous tick -/
abbrev EV_ALC_SNOWPLOUGH : Code := 0x0203
/-- R83: R70 -/
abbrev EV_ALC_SITE_TRIP : Code := 0x0204
/-- R83: R71 -/
abbrev EV_ALC_TRIP_CLEARED : Code := 0x0205
/-- R83: R68 -/
abbrev EV_ALC_REST_GRANTED : Code := 0x0206
/-- R83: R68 -/
abbrev EV_ALC_REST_POSTPONED : Code := 0x0207
/-- R83: R69 -/
abbrev EV_ALC_REST_ABORTED : Code := 0x0208
/-- R83: R74 -/
abbrev EV_ALC_SOLVE_FAIL : Code := 0x0209
/-- R83: R72 -/
abbrev EV_ALC_GRID_POINT_LOST : Code := 0x020A
/-- R83: returned by the host descriptor that requests a trip clear, under the rule of R71 -/
abbrev ST_ALC_TRIP_CAUSE_PRESENT : Code := 0x0220
/-- R115: a leg or local output is marked faulted; carries the index and FAULT_CAUSE -/
abbrev EV_EDG_LEG_FAULT : Code := 0x0301
/-- R115: a leg's LATE_COMMIT changes from 0 to 1 -/
abbrev EV_EDG_LATE_COMMIT : Code := 0x0302
/-- R115: at least one of SKIPPED, STRETCHED and FORCED_STRETCH of a leg changes from 0 to 1 in a period; one event per leg and period. Carries the index and 1 byte with bit 0 SKIPPED, bit 1 STRETCHED and bit 2 FORCED_STRETCH set for each flag that changed -/
abbrev EV_EDG_SHORT_PULSE : Code := 0x0303
/-- R115: R100 -/
abbrev EV_EDG_LEG_ARMED : Code := 0x0304
/-- R115: R100 and R105 -/
abbrev EV_EDG_LEG_DISARMED : Code := 0x0305
/-- R115: R91 -/
abbrev EV_EDG_LEAD_CAPPED : Code := 0x0306
/-- R115: R107 -/
abbrev EV_EDG_SLALOM_RESPREAD : Code := 0x0307
/-- R115: R99; carries the refusal code -/
abbrev EV_EDG_ARM_REFUSED : Code := 0x0309
/-- R115: stage not bound -/
abbrev ST_EDG_ARM_NODE : Code := 0x0311
/-- R115: fault input still active -/
abbrev ST_EDG_ARM_FAULT : Code := 0x0312
/-- R115: RWO write while not open (R111) -/
abbrev ST_EDG_NOT_OPEN : Code := 0x0313
/-- R115: timing fields out of range or inconsistent -/
abbrev ST_EDG_ARM_TIMING : Code := 0x0314
/-- R115: piste capped -/
abbrev ST_EDG_ARM_LEAD : Code := 0x0315
/-- R115: slalom group disabled or periods differ -/
abbrev ST_EDG_ARM_SLALOM : Code := 0x0316
/-- R115: block, stage or device state forbids arming -/
abbrev ST_EDG_ARM_DISABLED : Code := 0x0317
/-- R115: stage role undeclared -/
abbrev ST_EDG_ARM_ROLE : Code := 0x0318
/-- R143: a close is accepted -/
abbrev EV_CLE_SLOT_CLOSED : Code := 0x0401
/-- R143: an open is accepted, or a fault opens the slot -/
abbrev EV_CLE_SLOT_OPENED : Code := 0x0402
/-- R143: a slot's MISS changes from 0 to 1; carries MISS_CAUSE -/
abbrev EV_CLE_SLOT_MISS : Code := 0x0403
/-- R143: R136 -/
abbrev EV_CLE_SLOT_FAULT : Code := 0x0404
/-- R143: R131; carries the refusal code -/
abbrev EV_CLE_CLOSE_REFUSED : Code := 0x0405
/-- R143: R131; carries BUSY_LIVE -/
abbrev EV_CLE_OPEN_REFUSED : Code := 0x0406
/-- R143: a slot's SAT changes from 0 to 1 -/
abbrev EV_CLE_SLOT_SAT : Code := 0x0407
/-- R143: RWO write to a CLOSED slot or an armed leg's map -/
abbrev ST_CLE_NOT_OPEN : Code := 0x0413
/-- R143: parameters invalid -/
abbrev ST_CLE_CLOSE_PARAM : Code := 0x0414
/-- R143: source invalid -/
abbrev ST_CLE_CLOSE_SRC : Code := 0x0415
/-- R143: FAULT set -/
abbrev ST_CLE_CLOSE_FAULT : Code := 0x0416
/-- R143: CLE_CTRL.EN = 0 -/
abbrev ST_CLE_CLE_DISABLED : Code := 0x0417
/-- R143: load would exceed 1000 -/
abbrev ST_CLE_CLOSE_LOAD : Code := 0x0418
/-- R169: a cable's DERATE changes from 0 to 1 -/
abbrev EV_THM_CABLE_DERATE : Code := 0x0501
/-- R169: TRIP sets; carries TRIP_CAUSE -/
abbrev EV_THM_CABLE_TRIP : Code := 0x0502
/-- R169: TRIP clears -/
abbrev EV_THM_CABLE_TRIP_CLEARED : Code := 0x0503
/-- R169: R156 -/
abbrev EV_THM_CABLE_HARD_TRIP : Code := 0x0504
/-- R169: a channel's FAULT changes from none; carries the fault -/
abbrev EV_THM_SENSOR_FAULT : Code := 0x0505
/-- R169: a channel's STATE becomes SUBST -/
abbrev EV_THM_SENSOR_SUBST : Code := 0x0506
/-- R169: a channel's STATE becomes HIGH_DEV -/
abbrev EV_THM_SENSOR_HIGH_DEV : Code := 0x0507
/-- R169: a channel's STATE becomes LOST -/
abbrev EV_THM_SENSOR_LOST : Code := 0x0508
/-- R169: FLOW_LOW sets -/
abbrev EV_THM_FLOW_LOW : Code := 0x0509
/-- R169: R160 -/
abbrev EV_THM_LOOP_FAIL : Code := 0x050A
/-- R169: R163 -/
abbrev EV_THM_DIE_WARM : Code := 0x050B
/-- R169: an identification completes with a fit -/
abbrev EV_THM_ID_DONE : Code := 0x050C
/-- R169: RWO write while not open (R164) -/
abbrev ST_THM_NOT_OPEN : Code := 0x0513
/-- R169: cable enable refused (R162) -/
abbrev ST_THM_CAB_PARAM : Code := 0x0514
/-- R169: R161 -/
abbrev ST_THM_ID_NO_SENSOR : Code := 0x0515
/-- R169: R161 -/
abbrev ST_THM_ID_UNSTABLE : Code := 0x0516
/-- R169: R161 -/
abbrev ST_THM_ID_IMPLAUSIBLE : Code := 0x0517
/-- R169: R161 -/
abbrev ST_THM_ID_STEP : Code := 0x0518
/-- R195: R186 -/
abbrev EV_PST_PHY_UP : Code := 0x0601
/-- R195: R185, RELOCK to TRAIN -/
abbrev EV_PST_PHY_DOWN : Code := 0x0602
/-- R195: R185, RELOCK to UP -/
abbrev EV_PST_PHY_GLITCH : Code := 0x0603
/-- R195: R186; carries LAST_FAIL -/
abbrev EV_PST_PHY_FAILED : Code := 0x0604
/-- R195: R182; carries FOM -/
abbrev EV_PST_FOM_LOW : Code := 0x0605
/-- R195: R179 -/
abbrev EV_PST_RX_INVERTED : Code := 0x0606
/-- R195: R184 -/
abbrev EV_PST_TWIN_REVERSED : Code := 0x0607
/-- R195: RWO write while not open (R192) -/
abbrev ST_PST_NOT_OPEN : Code := 0x0613
/-- R231: a node becomes present for the first time; carries the table index -/
abbrev EV_PST_NODE_ADDED : Code := 0x0620
/-- R231: R216 -/
abbrev EV_PST_NODE_LOST : Code := 0x0621
/-- R231: R216 -/
abbrev EV_PST_NODE_RETURNED : Code := 0x0622
/-- R231: R215; carries the cause -/
abbrev EV_PST_NODE_REFUSED : Code := 0x0623
/-- R231: R215 -/
abbrev EV_PST_NODE_PENDING : Code := 0x0624
/-- R231: R216 -/
abbrev EV_PST_NODE_FORGOTTEN : Code := 0x0625
/-- R231: R227; carries BREAK_KIND, BREAK_FROM and BREAK_TO -/
abbrev EV_PST_BREAK : Code := 0x0626
/-- R231: R227 -/
abbrev EV_PST_BREAK_CLEARED : Code := 0x0627
/-- R231: R219 -/
abbrev EV_PST_TIME_MISMATCH : Code := 0x0628
/-- R231: R219 -/
abbrev EV_PST_TIME_UNRESOLVED : Code := 0x0629
/-- R231: R226 -/
abbrev EV_PST_TWIN_ORDER : Code := 0x062A
/-- R231: PST_EDGE_LATE increments after having been unchanged for 1 s -/
abbrev EV_PST_EDGE_LATE : Code := 0x062B
/-- R231: a node's reply shows TIME_STALE or STALE_TRI newly set -/
abbrev EV_PST_NODE_STALE : Code := 0x062C
/-- R231: R211 -/
abbrev ST_PST_CTRL_TIMEOUT : Code := 0x0630
/-- R231: the node answered with a STATUS other than OK, which is carried -/
abbrev ST_PST_CTRL_NACK : Code := 0x0631
/-- R231: a CTRL request names a node that is not present -/
abbrev ST_PST_NODE_ABSENT : Code := 0x0632
/-- R263: an entry becomes PRESENT through R247 -/
abbrev EV_SLN_NODE_ADMITTED : Code := 0x0701
/-- R263: R247 -/
abbrev EV_SLN_NODE_PENDING : Code := 0x0702
/-- R263: R247; carries the cause -/
abbrev EV_SLN_NODE_REFUSED : Code := 0x0703
/-- R263: R248 -/
abbrev EV_SLN_NODE_LOST : Code := 0x0704
/-- R263: R248 -/
abbrev EV_SLN_NODE_RETURNED : Code := 0x0705
/-- R263: R250; carries the new mode -/
abbrev EV_SLN_MODE_CHANGE : Code := 0x0706
/-- R263: R250 -/
abbrev EV_SLN_ROUTE_CHANGED : Code := 0x0707
/-- R263: R254 -/
abbrev EV_SLN_NOISE_LIMIT : Code := 0x0708
/-- R263: R251; carries the entry and TYPE -/
abbrev EV_SLN_FRAME_DROPPED : Code := 0x0709
/-- R263: R257; carries the entry and DSEQ -/
abbrev EV_SLN_DISPLAY_REJECTED : Code := 0x070A
/-- R263: R258 -/
abbrev EV_SLN_WAKE : Code := 0x070B
/-- R263: RWO write while not open (R259) -/
abbrev ST_SLN_NOT_OPEN : Code := 0x0713
/-- R263: host DATA message dropped (R251) -/
abbrev ST_SLN_DATA_DROPPED : Code := 0x0714
/-- R263: host DATA names an entry that is not PRESENT -/
abbrev ST_SLN_NODE_ABSENT : Code := 0x0715
/-- R284: SessionSetup accepted; carries outlet, protocol and SessionID -/
abbrev EV_VSS_SESSION_START : Code := 0x0801
/-- R284: R270 -/
abbrev EV_VSS_AUTH_REQUEST : Code := 0x0802
/-- R284: the outlet's energisation instant under R275 and R276 -/
abbrev EV_VSS_ENERGISED : Code := 0x0803
/-- R284: R271; carries OUTCOME and REASON -/
abbrev EV_VSS_SESSION_END : Code := 0x0804
/-- R284: a CertificateInstallation request is relayed -/
abbrev EV_VSS_CERT_INSTALL_REQ : Code := 0x0805
/-- R284: R269 -/
abbrev EV_VSS_TLS_KEY_BAD : Code := 0x0806
/-- R284: R275; carries WAIT -/
abbrev EV_VSS_PRECOND_WAIT : Code := 0x0807
/-- R284: R275 -/
abbrev EV_VSS_ISO_WARN : Code := 0x0808
/-- R284: R277 -/
abbrev EV_VSS_WELD_SUSPECT : Code := 0x0809
/-- R284: R277 -/
abbrev EV_VSS_STOP_UNDER_LOAD : Code := 0x080A
/-- R284: LINK leaves 2 while a session is open -/
abbrev EV_VSS_LINK_DOWN : Code := 0x080B
/-- R284: R276: a VCONT write to open the contactor failed; carries the outlet -/
abbrev EV_VSS_CONT_NO_ACK : Code := 0x080C
/-- R284: RWO write while not open (R280) -/
abbrev ST_VSS_NOT_OPEN : Code := 0x0813
/-- R284: STOP or an authorisation names an outlet without a session in the right state -/
abbrev ST_VSS_NO_SESSION : Code := 0x0814
/-- R284: R270 -/
abbrev ST_VSS_AUTH_LATE : Code := 0x0815
/-- R303: bus-off entered (R295) -/
abbrev EV_CAN_BUS_OFF : Code := 0x0901
/-- R303: R296 -/
abbrev EV_CAN_RECOVERED : Code := 0x0902
/-- R303: error passive entered -/
abbrev EV_CAN_ERROR_PASSIVE : Code := 0x0903
/-- R303: error active regained other than by recovery -/
abbrev EV_CAN_ERROR_ACTIVE : Code := 0x0904
/-- R303: WARN changes from 0 to 1 -/
abbrev EV_CAN_WARNING : Code := 0x0905
/-- R303: R299 -/
abbrev EV_CAN_RX_OVERFLOW : Code := 0x0906
/-- R303: PXE changes from 0 to 1 -/
abbrev EV_CAN_PROTOCOL_EXCEPTION : Code := 0x0907
/-- R303: R288 -/
abbrev EV_CAN_TDC_SAT : Code := 0x0908
/-- R303: R296 -/
abbrev EV_CAN_BOFF_LOCKED : Code := 0x0909
/-- R303: RWO write while not open (R300) -/
abbrev ST_CAN_NOT_OPEN : Code := 0x0913
/-- R303: R287 -/
abbrev ST_CAN_CAN_TIMING : Code := 0x0914
/-- R303: R293 -/
abbrev ST_CAN_TX_ARB_LOST : Code := 0x0915
/-- R303: R293 -/
abbrev ST_CAN_TX_ERROR : Code := 0x0916
/-- R303: R295 -/
abbrev ST_CAN_TX_BUSOFF : Code := 0x0917
/-- R303: R290, R294 -/
abbrev ST_CAN_TX_DISABLED : Code := 0x0918
/-- R303: R294 -/
abbrev ST_CAN_TX_FORMAT : Code := 0x0919
/-- R303: R294 -/
abbrev ST_CAN_TX_ABORTED : Code := 0x091A
/-- R303: R292 -/
abbrev ST_CAN_CAN_RING : Code := 0x091B
/-- R332: R308; carries the grid point -/
abbrev EV_MTR_BLOCK_GAP : Code := 0x0A01
/-- R332: OVR changes from 0 to 1 on a channel; carries the channel -/
abbrev EV_MTR_OVER_RANGE : Code := 0x0A02
/-- R332: R311 -/
abbrev EV_MTR_GRID_LOST : Code := 0x0A03
/-- R332: R311 -/
abbrev EV_MTR_GRID_RETURNED : Code := 0x0A04
/-- R332: R315 -/
abbrev EV_MTR_FREQ_UNLOCKED : Code := 0x0A05
/-- R332: R322; carries the slot -/
abbrev EV_MTR_SAVE_FAIL : Code := 0x0A06
/-- R332: R322 -/
abbrev EV_MTR_SAVE_FAULT : Code := 0x0A07
/-- R332: R324; carries the loss number and the site bound -/
abbrev EV_MTR_LOSS_RECORDED : Code := 0x0A08
/-- R332: R325 -/
abbrev EV_MTR_LOSS_UNBOUNDED : Code := 0x0A09
/-- R332: R313; carries the quantity index -/
abbrev EV_MTR_REGISTER_WRAP : Code := 0x0A0A
/-- R332: R320 -/
abbrev EV_MTR_PULSE_BACKLOG : Code := 0x0A0B
/-- R332: R320 -/
abbrev EV_MTR_PULSE_OVERFLOW : Code := 0x0A0C
/-- R332: R327; carries the channel or head slot -/
abbrev EV_MTR_CAL_CHANGED : Code := 0x0A0D
/-- R332: R326 -/
abbrev EV_MTR_UNMETERED : Code := 0x0A0E
/-- R332: RWO write while not open (R328) -/
abbrev ST_MTR_NOT_OPEN : Code := 0x0A13
/-- R347: R339; carries CAUSE -/
abbrev EV_TRI_HEAD_EXCLUDED : Code := 0x0D01
/-- R347: R341 -/
abbrev EV_TRI_HEAD_ADMITTED : Code := 0x0D02
/-- R347: R341; carries STEP and FAILS -/
abbrev EV_TRI_READMIT_FAILED : Code := 0x0D03
/-- R347: R337 -/
abbrev EV_TRI_VOTE_HELD : Code := 0x0D04
/-- R347: R338 -/
abbrev EV_TRI_VOTE_LOST : Code := 0x0D05
/-- R347: R338 -/
abbrev EV_TRI_VOTE_RESTORED : Code := 0x0D06
/-- R347: R333 -/
abbrev EV_TRI_PLACEMENT_BAD : Code := 0x0D07
/-- R347: the outlet's DEGRADED bit changes from 0 to 1 -/
abbrev EV_TRI_DEGRADED : Code := 0x0D08
/-- R347: RWO write while not open (R344) -/
abbrev ST_TRI_NOT_OPEN : Code := 0x0D13
/-- R347: R342 -/
abbrev ST_TRI_HEAD_UNBOUND : Code := 0x0D14
/-- R347: enable refused (R333) -/
abbrev ST_TRI_PLACEMENT : Code := 0x0D15
/-- R382: a period closes; carries its number and marks -/
abbrev EV_BIL_PERIOD_CLOSED : Code := 0x0B01
/-- R382: the tariff in force changes -/
abbrev EV_BIL_TARIFF_SWITCH : Code := 0x0B02
/-- R382: R360; carries the treatment -/
abbrev EV_BIL_TIME_SET : Code := 0x0B03
/-- R382: R376; carries MAN_NO and whether signed -/
abbrev EV_BIL_MANIFEST_READY : Code := 0x0B04
/-- R382: R377 -/
abbrev EV_BIL_MANIFEST_OVERWRITTEN : Code := 0x0B05
/-- R382: R377 -/
abbrev EV_BIL_ARCHIVE_HIGH : Code := 0x0B06
/-- R382: R371; carries the type -/
abbrev EV_BIL_TAMPER : Code := 0x0B07
/-- R382: R372 -/
abbrev EV_BIL_MAG_STARTUP : Code := 0x0B08
/-- R382: R370; carries the new state -/
abbrev EV_BIL_SEAL_CHANGED : Code := 0x0B09
/-- R382: R369; carries the channel -/
abbrev EV_BIL_ACCESS_LOCKED : Code := 0x0B0A
/-- R382: R358 -/
abbrev EV_BIL_HISTORY_OVERWRITTEN : Code := 0x0B0B
/-- R382: R379 -/
abbrev ST_BIL_NOT_OPEN : Code := 0x0B13
/-- R382: R369 -/
abbrev ST_BIL_AUTH_FAIL : Code := 0x0B14
/-- R382: an operation without an association -/
abbrev ST_BIL_NO_ASSOC : Code := 0x0B15
/-- R382: R370 -/
abbrev ST_BIL_SEAL_INTACT : Code := 0x0B16
/-- R382: R369 -/
abbrev ST_BIL_LOCKED : Code := 0x0B17
/-- R382: R368 -/
abbrev ST_BIL_NO_OBJECT : Code := 0x0B18
/-- R382: R360 -/
abbrev ST_BIL_TIME_RANGE : Code := 0x0B19
/-- R407: R386 -/
abbrev EV_BSE_ANCHOR_FULL : Code := 0x0C01
/-- R407: R386 -/
abbrev EV_BSE_ANCHOR_EMPTY : Code := 0x0C02
/-- R407: R388; carries SOC_OCV -/
abbrev EV_BSE_REST_POINT : Code := 0x0C03
/-- R407: R390; carries CAP and LAST_CAP -/
abbrev EV_BSE_CAP_LEARNED : Code := 0x0C04
/-- R407: R390; carries LAST_CAP -/
abbrev EV_BSE_LEARN_REJECTED : Code := 0x0C05
/-- R407: STARVED changes from 0 to 1 -/
abbrev EV_BSE_STARVED : Code := 0x0C06
/-- R407: R391, when a request becomes pending -/
abbrev EV_BSE_REST_REQUEST : Code := 0x0C07
/-- R407: R391 -/
abbrev EV_BSE_REST_WITHDRAWN : Code := 0x0C08
/-- R407: R391 -/
abbrev EV_BSE_REST_TIMEOUT : Code := 0x0C09
/-- R407: R388 -/
abbrev EV_BSE_DRIFT : Code := 0x0C0A
/-- R407: R396; carries the cause -/
abbrev EV_BSE_SWAP : Code := 0x0C0B
/-- R407: R395 -/
abbrev EV_BSE_BMS_STALE : Code := 0x0C0C
/-- R407: R395 -/
abbrev EV_BSE_BMS_FAULT : Code := 0x0C0D
/-- R407: R398 -/
abbrev EV_BSE_HIBERNATED : Code := 0x0C0E
/-- R407: R398 -/
abbrev EV_BSE_WOKEN : Code := 0x0C0F
/-- R407: R401; carries the copy -/
abbrev EV_BSE_STATE_RESTORED : Code := 0x0C10
/-- R407: R401 -/
abbrev EV_BSE_STATE_LOST : Code := 0x0C11
/-- R407: R400 -/
abbrev EV_BSE_COMMIT_FAIL : Code := 0x0C12
/-- R407: R402 -/
abbrev ST_BSE_NOT_OPEN : Code := 0x0C13
/-- R407: R403 -/
abbrev ST_BSE_OCV_TABLE : Code := 0x0C14
/-- R407: R403 -/
abbrev ST_BSE_STR_PARAM : Code := 0x0C15
/-- R426: a site stop begins; carries the category and pair -/
abbrev EV_SAF_SITE_STOP : Code := 0x0E01
/-- R426: R417 -/
abbrev EV_SAF_STOP_RESET : Code := 0x0E02
/-- R426: a GUARD, CURTAIN or TWOHAND pair leaves RUN; carries the pair -/
abbrev EV_SAF_DEMAND : Code := 0x0E03
/-- R426: R412; carries the pair and fault -/
abbrev EV_SAF_PAIR_FAULT : Code := 0x0E04
/-- R426: R419; carries the output and cause -/
abbrev EV_SAF_SOUT_FAULT : Code := 0x0E05
/-- R426: R409 -/
abbrev EV_SAF_XMON_FAULT : Code := 0x0E06
/-- R426: R422 -/
abbrev EV_SAF_CONFIRMED : Code := 0x0E07
/-- R426: CONFIRMED clears -/
abbrev EV_SAF_UNCONFIRMED : Code := 0x0E08
/-- R426: R415; carries the pair -/
abbrev EV_SAF_TEST_DONE : Code := 0x0E09
/-- R426: R416 -/
abbrev EV_SAF_TWOHAND_SYNC_FAIL : Code := 0x0E0A
/-- R426: R417 -/
abbrev EV_SAF_RESET_REFUSED : Code := 0x0E0B
/-- R426: R423 -/
abbrev ST_SAF_NOT_OPEN : Code := 0x0E13
/-- R426: R422 -/
abbrev ST_SAF_CHECK_MISMATCH : Code := 0x0E14
/-- R426: R413 -/
abbrev ST_SAF_SAF_PARAM : Code := 0x0E15
/-- R447: R432; carries CAUSE -/
abbrev EV_LSW_CH_SHUTDOWN : Code := 0x0F01
/-- R447: R433; carries RETRY_CNT -/
abbrev EV_LSW_CH_RETRY : Code := 0x0F02
/-- R447: R434 -/
abbrev EV_LSW_CH_LATCHED : Code := 0x0F03
/-- R447: R435; carries WIN and LAST -/
abbrev EV_LSW_CH_LOCKED_CLAMP : Code := 0x0F04
/-- R447: R436 -/
abbrev EV_LSW_CH_UNLOCKED : Code := 0x0F05
/-- R447: R432 -/
abbrev EV_LSW_TEMP_WARN : Code := 0x0F06
/-- R447: R437 -/
abbrev EV_LSW_OPEN_LOAD : Code := 0x0F07
/-- R447: R437 -/
abbrev EV_LSW_SHORT_VAUX : Code := 0x0F08
/-- R447: R428 -/
abbrev EV_LSW_AGG_SHED : Code := 0x0F09
/-- R447: R438 -/
abbrev EV_LSW_SURGE : Code := 0x0F0A
/-- R447: R438 -/
abbrev EV_LSW_SURGE_END : Code := 0x0F0B
/-- R447: R438 -/
abbrev EV_LSW_DIP : Code := 0x0F0C
/-- R447: R438 -/
abbrev EV_LSW_DIP_END : Code := 0x0F0D
/-- R447: R440; carries the channel mask -/
abbrev EV_LSW_HOLD_EXPIRED : Code := 0x0F0E
/-- R447: R430 -/
abbrev EV_LSW_ON_REFUSED : Code := 0x0F0F
/-- R447: R443 -/
abbrev ST_LSW_NOT_OPEN : Code := 0x0F13
/-- R447: R430 -/
abbrev ST_LSW_OWNED : Code := 0x0F14
/-- R447: R431, R435, or a write of ON = 1 to a LATCHED channel -/
abbrev ST_LSW_LOCKED : Code := 0x0F15
/-- R447: R436 -/
abbrev ST_LSW_COOL_PENDING : Code := 0x0F16
/-- R475: R449; carries IDENTITY_GEN -/
abbrev EV_KEY_ROOT_CREATED : Code := 0x1001
/-- R475: R455; carries TYPE and USAGE -/
abbrev EV_KEY_SLOT_WRITTEN : Code := 0x1002
/-- R475: R456 -/
abbrev EV_KEY_SLOT_DELETED : Code := 0x1003
/-- R475: R454 -/
abbrev EV_KEY_SLOT_BAD_FOUND : Code := 0x1004
/-- R475: R461 -/
abbrev EV_KEY_RNG_FAIL : Code := 0x1005
/-- R475: R461 -/
abbrev EV_KEY_RNG_RESTORED : Code := 0x1006
/-- R475: R470; carries the bank and VERSION -/
abbrev EV_KEY_FW_STAGED : Code := 0x1007
/-- R475: R470 -/
abbrev EV_KEY_FW_CONFIRMED : Code := 0x1008
/-- R475: R469, R470 -/
abbrev EV_KEY_FW_REVERTED : Code := 0x1009
/-- R475: R467 -/
abbrev EV_KEY_DEBUG_ERASED : Code := 0x100A
/-- R475: R455; carries the failing step -/
abbrev EV_KEY_KEY_OP_ABORTED : Code := 0x100B
/-- R475: R463; carries the algorithm -/
abbrev EV_KEY_ENGINE_FAIL : Code := 0x100C
/-- R475: R457 -/
abbrev EV_KEY_SLOT_BOUND : Code := 0x100D
/-- R475: R454 -/
abbrev ST_KEY_KEY_SLOT_BAD : Code := 0x1020
/-- R475: R454 -/
abbrev ST_KEY_SLOT_EMPTY : Code := 0x1021
/-- R475: R460 -/
abbrev ST_KEY_WRONG_USAGE : Code := 0x1022
/-- R475: R457 -/
abbrev ST_KEY_KEY_BOUND : Code := 0x1023
/-- R475: R461 -/
abbrev ST_KEY_RNG_UNAVAILABLE : Code := 0x1024
/-- R475: R459 -/
abbrev ST_KEY_BLOB_BAD : Code := 0x1025
/-- R475: R455, R458, R460 -/
abbrev ST_KEY_CHECK_FAIL : Code := 0x1026
/-- R475: R470 -/
abbrev ST_KEY_FW_SIG_BAD : Code := 0x1027
/-- R475: R470 -/
abbrev ST_KEY_FW_ROLLBACK : Code := 0x1028
/-- R475: an operation names an empty working slot -/
abbrev ST_KEY_WSLOT_EMPTY : Code := 0x1029
/-- R475: R466 -/
abbrev ST_KEY_DEBUG_AUTH_FAIL : Code := 0x102A
/-- R475: R460 -/
abbrev ST_KEY_NO_ROOT : Code := 0x102B
/-- R503: R495; carries HIF_LINK_EPOCH, HIF_EVT_DROP, HIF_ALERT_LOST -/
abbrev EV_HIF_LINK_RESTORED : Code := 0x0101
/-- R503: R502; carries the ring -/
abbrev EV_HIF_RING_ERROR : Code := 0x0102
/-- R503: R496; carries TAG, OPCODE, RESULT -/
abbrev EV_HIF_LONG_DONE : Code := 0x0103
/-- R503: R484; carries the ring -/
abbrev EV_HIF_DB_ERROR : Code := 0x0104
/-- R503: HIF_STATUS.ALERT_OVF changes from 0 to 1 -/
abbrev EV_HIF_ALERT_OVERFLOW : Code := 0x0105
/-- R503: R500 -/
abbrev ST_HIF_NOT_OPEN : Code := 0x0113
/-- R503: R483, R486 -/
abbrev ST_HIF_BAD_OPCODE : Code := 0x0114
/-- R503: R490 -/
abbrev ST_HIF_CARAVAN_SKIPPED : Code := 0x0115
/-- R503: R490 -/
abbrev ST_HIF_CARAVAN_TOO_LONG : Code := 0x0116
/-- R503: R502 -/
abbrev ST_HIF_DMA_ERROR : Code := 0x0117
/-- R503: R495 -/
abbrev ST_HIF_LINK_LOST : Code := 0x0118
/-- R503: R496 -/
abbrev ST_HIF_LONG_LIMIT : Code := 0x0119
/-- R503: R498 -/
abbrev ST_HIF_CANCELLED : Code := 0x011A
/-- R503: R486, R497 -/
abbrev ST_HIF_BAD_ADDR : Code := 0x011B
/-- R503: R499, R513 -/
abbrev ST_HIF_NOT_IN_CHANNEL : Code := 0x011C
/-- R505: done in full -/
abbrev ST_OK : Code := 0x0000
/-- R505: ended with only part of its result valid (R498) -/
abbrev ST_PARTIAL : Code := 0x0001
/-- R505: refused because live operation depends on what it would change; nothing changed -/
abbrev ST_BUSY_LIVE : Code := 0x0010
/-- R505: the association's role does not permit it (R368) -/
abbrev ST_REFUSED_ROLE : Code := 0x0011
/-- R505: a parameter is out of range or inconsistent; nothing changed -/
abbrev ST_BAD_PARAM : Code := 0x0012
/-- R526: R515 -/
abbrev ST_GEN_TEST_FAIL : Code := 0x0020
/-- R526: R515 -/
abbrev ST_GEN_QUEUE_FULL : Code := 0x0023
/-- R526: R515 -/
abbrev ST_GEN_TEST_EXPIRED : Code := 0x0024
/-- R526: R509; carries CAUSE, ALSO and EPOCH -/
abbrev EV_GEN_RESET_REPORT : Code := 0x0030
/-- R526: R516, R517; carries the new mode -/
abbrev EV_GEN_POWER_MODE : Code := 0x0031
/-- R526: R519; carries GEN_WAKE_CAUSE -/
abbrev EV_GEN_WAKE : Code := 0x0032
/-- R526: GEN_CHG_READY.READY changes; carries the register -/
abbrev EV_GEN_CHG_READY : Code := 0x0033
/-- R526: R510 -/
abbrev EV_GEN_RST_PIN_STUCK : Code := 0x0034
/-- R526: R30 -/
abbrev EV_GEN_RTC_FAULT : Code := 0x0035
/-- R526: R36; carries the SRAM region -/
abbrev EV_GEN_ECC_DOUBLE : Code := 0x0036
/-- R526: R38; carries the copy rewritten -/
abbrev EV_GEN_CONFIG_REPAIRED : Code := 0x0037
/-- R526: R522; carries slot and TRIGGER -/
abbrev EV_LDG_SNAPSHOT_FROZEN : Code := 0x1101
/-- R526: R522 -/
abbrev EV_LDG_SNAPSHOT_OVERWRITTEN : Code := 0x1102
/-- R526: LDG_DROP increments after 1 s unchanged -/
abbrev EV_LDG_ENTRIES_DROPPED : Code := 0x1103
/-- R526: R523 -/
abbrev ST_LDG_NO_SNAPSHOT : Code := 0x1114
/-- R526: R523 -/
abbrev ST_LDG_SEQ_GONE : Code := 0x1115
/-- R526: R509; cause, ALSO, epochs before and after -/
abbrev LG_RESET : Code := 0x1140
/-- R526: R39; old and new state -/
abbrev LG_LIFECYCLE : Code := 0x1141
/-- R526: R34, R363; DT and both UTC values -/
abbrev LG_TIME_PAIR : Code := 0x1142
/-- R526: R369, R370, R372; role, channel and object ID -/
abbrev LG_OBJ_WRITE : Code := 0x1143
/-- R526: R327; item, old and new values -/
abbrev LG_CAL_VALUES : Code := 0x1144
/-- R526: R185; piste, old and new STATE -/
abbrev LG_PISTE_STATE : Code := 0x1145
/-- R526: R438; condition, peak or lowest VAUX, duration -/
abbrev LG_SUPPLY : Code := 0x1146
/-- R526: R515; test code and result -/
abbrev LG_TEST : Code := 0x1147

end Sys2Proof.Machine
end

