-- ==== Sys2Proof/Machine/RegMap.lean ====
section
/-! DEFINITION. Where every register and field of the register maps lies (R8, R43, R61, R77 to R82, R112 to R114, R140 to
R142, R165 to R168, R193, R194, R229, R230, R260 to R262, R281 to R283, R301, R302, R329 to R331, R345, R346, R380, R381,
R404 to R406, R424, R425, R444 to R446, R473, R474, R479, R501, R524, R525). A register name is its BAR0 byte offset, with the
instance as argument, counted modulo the number of instances, so that a name never leaves its block; the EDG_LEG and CLE_MAP
names run on over the 24 local outputs that follow the 384 legs. `NAME_FIELD` is the field of that name in it. -/

namespace Sys2Proof.Machine

/-- A field of a register: the register's BAR0 byte offset and the field's highest and lowest bit. -/
structure Field where
  off : Nat
  hi : Nat
  lo : Nat
deriving DecidableEq, Repr

/-- R524: GEN_ID. -/
abbrev GEN_ID : Nat := 0x000000
abbrev GEN_ID_DEVICE : Field := ⟨GEN_ID, 31, 16⟩
abbrev GEN_ID_VENDOR : Field := ⟨GEN_ID, 15, 0⟩
/-- R524: GEN_REV. -/
abbrev GEN_REV : Nat := 0x000004
abbrev GEN_REV_STEPPING : Field := ⟨GEN_REV, 23, 16⟩
/-- R524: GEN_FW_VER. -/
abbrev GEN_FW_VER : Nat := 0x000008
abbrev GEN_FW_VER_VALUE : Field := ⟨GEN_FW_VER, 31, 0⟩
/-- R524: GEN_STATUS. -/
abbrev GEN_STATUS : Nat := 0x00000C
abbrev GEN_STATUS_HOST_READY : Field := ⟨GEN_STATUS, 31, 31⟩
abbrev GEN_STATUS_FW_AUTH : Field := ⟨GEN_STATUS, 30, 30⟩
abbrev GEN_STATUS_PISTES_UP : Field := ⟨GEN_STATUS, 29, 29⟩
abbrev GEN_STATUS_WOKEN : Field := ⟨GEN_STATUS, 28, 28⟩
abbrev GEN_STATUS_RTC_FAULT : Field := ⟨GEN_STATUS, 27, 27⟩
/-- R43: GEN_LIFECYCLE. -/
abbrev GEN_LIFECYCLE : Nat := 0x000010
abbrev GEN_LIFECYCLE_IDENTITY_GEN : Field := ⟨GEN_LIFECYCLE, 31, 24⟩
abbrev GEN_LIFECYCLE_SH_REQ : Field := ⟨GEN_LIFECYCLE, 11, 11⟩
abbrev GEN_LIFECYCLE_CAUSE_HOST : Field := ⟨GEN_LIFECYCLE, 10, 10⟩
abbrev GEN_LIFECYCLE_CAUSE_CONFIG : Field := ⟨GEN_LIFECYCLE, 9, 9⟩
abbrev GEN_LIFECYCLE_CAUSE_FW : Field := ⟨GEN_LIFECYCLE, 8, 8⟩
abbrev GEN_LIFECYCLE_CAUSE_RST : Field := ⟨GEN_LIFECYCLE, 7, 7⟩
abbrev GEN_LIFECYCLE_SAFE_HOLD : Field := ⟨GEN_LIFECYCLE, 4, 4⟩
abbrev GEN_LIFECYCLE_LIFE : Field := ⟨GEN_LIFECYCLE, 2, 0⟩
/-- R524: GEN_RESET_CAUSE. -/
abbrev GEN_RESET_CAUSE : Nat := 0x000014
abbrev GEN_RESET_CAUSE_ALSO : Field := ⟨GEN_RESET_CAUSE, 26, 16⟩
abbrev GEN_RESET_CAUSE_CAUSE : Field := ⟨GEN_RESET_CAUSE, 3, 0⟩
/-- R524: GEN_RESET_CTL. -/
abbrev GEN_RESET_CTL : Nat := 0x000018
abbrev GEN_RESET_CTL_KEY : Field := ⟨GEN_RESET_CTL, 31, 24⟩
abbrev GEN_RESET_CTL_FORCE : Field := ⟨GEN_RESET_CTL, 1, 1⟩
abbrev GEN_RESET_CTL_RESET : Field := ⟨GEN_RESET_CTL, 0, 0⟩
/-- R524: GEN_RST_PIN. -/
abbrev GEN_RST_PIN : Nat := 0x00001C
abbrev GEN_RST_PIN_LEVEL : Field := ⟨GEN_RST_PIN, 31, 31⟩
abbrev GEN_RST_PIN_STUCK : Field := ⟨GEN_RST_PIN, 30, 30⟩
abbrev GEN_RST_PIN_ARMED : Field := ⟨GEN_RST_PIN, 29, 29⟩
abbrev GEN_RST_PIN_IGNORED : Field := ⟨GEN_RST_PIN, 15, 0⟩
/-- R524: GEN_EPOCH. -/
abbrev GEN_EPOCH : Nat := 0x000020
abbrev GEN_EPOCH_EPOCH : Field := ⟨GEN_EPOCH, 31, 0⟩
/-- R524: GEN_DT_LO. -/
abbrev GEN_DT_LO : Nat := 0x000024
abbrev GEN_DT_LO_VALUE : Field := ⟨GEN_DT_LO, 31, 0⟩
/-- R524: GEN_DT_HI. -/
abbrev GEN_DT_HI : Nat := 0x000028
abbrev GEN_DT_HI_VALUE : Field := ⟨GEN_DT_HI, 31, 0⟩
/-- R524: GEN_DEVICE_ID_LO. -/
abbrev GEN_DEVICE_ID_LO : Nat := 0x00002C
abbrev GEN_DEVICE_ID_LO_ID : Field := ⟨GEN_DEVICE_ID_LO, 31, 0⟩
/-- R524: GEN_DEVICE_ID_HI. -/
abbrev GEN_DEVICE_ID_HI : Nat := 0x000030
abbrev GEN_DEVICE_ID_HI_ID : Field := ⟨GEN_DEVICE_ID_HI, 31, 0⟩
/-- R524: GEN_BOOT. -/
abbrev GEN_BOOT : Nat := 0x000034
abbrev GEN_BOOT_HOST_MS : Field := ⟨GEN_BOOT, 31, 16⟩
abbrev GEN_BOOT_AUTH_MS : Field := ⟨GEN_BOOT, 15, 0⟩
/-- R524: GEN_BOOT2. -/
abbrev GEN_BOOT2 : Nat := 0x000038
abbrev GEN_BOOT2_PISTES_MS : Field := ⟨GEN_BOOT2, 15, 0⟩
/-- R524: GEN_PWR. -/
abbrev GEN_PWR : Nat := 0x000040
abbrev GEN_PWR_AUTO_RUN : Field := ⟨GEN_PWR, 31, 31⟩
abbrev GEN_PWR_STATE : Field := ⟨GEN_PWR, 10, 8⟩
abbrev GEN_PWR_MODE : Field := ⟨GEN_PWR, 2, 0⟩
/-- R524: GEN_WAKE_CFG. -/
abbrev GEN_WAKE_CFG : Nat := 0x000044
abbrev GEN_WAKE_CFG_PIN : Field := ⟨GEN_WAKE_CFG, 7, 4⟩
abbrev GEN_WAKE_CFG_HOST : Field := ⟨GEN_WAKE_CFG, 3, 3⟩
abbrev GEN_WAKE_CFG_SLN : Field := ⟨GEN_WAKE_CFG, 2, 2⟩
abbrev GEN_WAKE_CFG_CAN : Field := ⟨GEN_WAKE_CFG, 1, 1⟩
abbrev GEN_WAKE_CFG_RTC : Field := ⟨GEN_WAKE_CFG, 0, 0⟩
/-- R524: GEN_WAKE_TIME. -/
abbrev GEN_WAKE_TIME : Nat := 0x000048
abbrev GEN_WAKE_TIME_TIME : Field := ⟨GEN_WAKE_TIME, 31, 0⟩
/-- R524: GEN_WAKE_CAUSE. -/
abbrev GEN_WAKE_CAUSE : Nat := 0x00004C
abbrev GEN_WAKE_CAUSE_PIN : Field := ⟨GEN_WAKE_CAUSE, 7, 4⟩
abbrev GEN_WAKE_CAUSE_HOST : Field := ⟨GEN_WAKE_CAUSE, 3, 3⟩
abbrev GEN_WAKE_CAUSE_SLN : Field := ⟨GEN_WAKE_CAUSE, 2, 2⟩
abbrev GEN_WAKE_CAUSE_CAN : Field := ⟨GEN_WAKE_CAUSE, 1, 1⟩
abbrev GEN_WAKE_CAUSE_RTC : Field := ⟨GEN_WAKE_CAUSE, 0, 0⟩
/-- R508: GEN_CHG_READY. -/
abbrev GEN_CHG_READY : Nat := 0x000050
abbrev GEN_CHG_READY_OUTLETS : Field := ⟨GEN_CHG_READY, 31, 16⟩
abbrev GEN_CHG_READY_READY : Field := ⟨GEN_CHG_READY, 13, 13⟩
abbrev GEN_CHG_READY_PISTES : Field := ⟨GEN_CHG_READY, 12, 12⟩
abbrev GEN_CHG_READY_SAVE_OK : Field := ⟨GEN_CHG_READY, 11, 11⟩
abbrev GEN_CHG_READY_MAN_KEY : Field := ⟨GEN_CHG_READY, 10, 10⟩
abbrev GEN_CHG_READY_NO_SITE_STOP : Field := ⟨GEN_CHG_READY, 9, 9⟩
abbrev GEN_CHG_READY_SAF_CONFIRMED : Field := ⟨GEN_CHG_READY, 8, 8⟩
abbrev GEN_CHG_READY_VSS_EN : Field := ⟨GEN_CHG_READY, 7, 7⟩
abbrev GEN_CHG_READY_THM_EN : Field := ⟨GEN_CHG_READY, 6, 6⟩
abbrev GEN_CHG_READY_CLE_EN : Field := ⟨GEN_CHG_READY, 5, 5⟩
abbrev GEN_CHG_READY_EDG_EN : Field := ⟨GEN_CHG_READY, 4, 4⟩
abbrev GEN_CHG_READY_ALC_RUN : Field := ⟨GEN_CHG_READY, 3, 3⟩
abbrev GEN_CHG_READY_MODE_RUN : Field := ⟨GEN_CHG_READY, 2, 2⟩
abbrev GEN_CHG_READY_NO_SAFE_HOLD : Field := ⟨GEN_CHG_READY, 1, 1⟩
abbrev GEN_CHG_READY_LIFE : Field := ⟨GEN_CHG_READY, 0, 0⟩
/-- R524: GEN_TEST. -/
abbrev GEN_TEST : Nat := 0x000060
abbrev GEN_TEST_LAST_FAIL : Field := ⟨GEN_TEST, 31, 31⟩
abbrev GEN_TEST_QUEUED : Field := ⟨GEN_TEST, 19, 16⟩
abbrev GEN_TEST_LAST_CODE : Field := ⟨GEN_TEST, 15, 0⟩
/-- R524: GEN_REJECT_CNT. -/
abbrev GEN_REJECT_CNT : Nat := 0x000064
abbrev GEN_REJECT_CNT_CNT : Field := ⟨GEN_REJECT_CNT, 15, 0⟩
/-- R524: GEN_ECC. -/
abbrev GEN_ECC : Nat := 0x000068
abbrev GEN_ECC_DOUBLE : Field := ⟨GEN_ECC, 31, 16⟩
abbrev GEN_ECC_SINGLE : Field := ⟨GEN_ECC, 15, 0⟩
/-- R501: HIF_CTRL. -/
abbrev HIF_CTRL : Nat := 0x010000
abbrev HIF_CTRL_QUIESCE : Field := ⟨HIF_CTRL, 0, 0⟩
/-- R501: HIF_STATUS. -/
abbrev HIF_STATUS : Nat := 0x010004
abbrev HIF_STATUS_LINK_UP : Field := ⟨HIF_STATUS, 31, 31⟩
abbrev HIF_STATUS_SPEED : Field := ⟨HIF_STATUS, 30, 28⟩
abbrev HIF_STATUS_WIDTH : Field := ⟨HIF_STATUS, 27, 24⟩
abbrev HIF_STATUS_STAGING : Field := ⟨HIF_STATUS, 23, 23⟩
abbrev HIF_STATUS_ALERT_OVF : Field := ⟨HIF_STATUS, 22, 22⟩
abbrev HIF_STATUS_RUNNING : Field := ⟨HIF_STATUS, 9, 0⟩
/-- R501: HIF_REJECT_CNT. -/
abbrev HIF_REJECT_CNT : Nat := 0x010008
abbrev HIF_REJECT_CNT_CNT : Field := ⟨HIF_REJECT_CNT, 15, 0⟩
/-- R501: HIF_LINK_EPOCH. -/
abbrev HIF_LINK_EPOCH : Nat := 0x01000C
abbrev HIF_LINK_EPOCH_VALUE : Field := ⟨HIF_LINK_EPOCH, 31, 0⟩
/-- R501: HIF_EVT_DROP. -/
abbrev HIF_EVT_DROP : Nat := 0x010010
abbrev HIF_EVT_DROP_VALUE : Field := ⟨HIF_EVT_DROP, 31, 0⟩
/-- R501: HIF_ALERT_LOST. -/
abbrev HIF_ALERT_LOST : Nat := 0x010014
abbrev HIF_ALERT_LOST_VALUE : Field := ⟨HIF_ALERT_LOST, 31, 0⟩
/-- R501: HIF_ALERT_FIRST. -/
abbrev HIF_ALERT_FIRST : Nat := 0x010018
abbrev HIF_ALERT_FIRST_CNT : Field := ⟨HIF_ALERT_FIRST, 15, 0⟩
/-- R501: HIF_DB_ERR. -/
abbrev HIF_DB_ERR : Nat := 0x01001C
abbrev HIF_DB_ERR_VALUE : Field := ⟨HIF_DB_ERR, 31, 0⟩
/-- R501: HIF_UART_ERR. -/
abbrev HIF_UART_ERR : Nat := 0x010020
abbrev HIF_UART_ERR_VALUE : Field := ⟨HIF_UART_ERR, 31, 0⟩
/-- R501: HIF_VEC_MOD (64 instances). -/
abbrev HIF_VEC_MOD (i : Nat) : Nat := 0x010100 + 4 * (i % 64)
abbrev HIF_VEC_MOD_ALERT_NOW (i : Nat) : Field := ⟨HIF_VEC_MOD i, 31, 31⟩
abbrev HIF_VEC_MOD_TIME (i : Nat) : Field := ⟨HIF_VEC_MOD i, 30, 16⟩
abbrev HIF_VEC_MOD_COUNT (i : Nat) : Field := ⟨HIF_VEC_MOD i, 11, 0⟩
/-- R501: HIF_EVT_ROUTE (18 instances). -/
abbrev HIF_EVT_ROUTE (i : Nat) : Nat := 0x010200 + 4 * (i % 18)
abbrev HIF_EVT_ROUTE_EN (i : Nat) : Field := ⟨HIF_EVT_ROUTE i, 31, 31⟩
abbrev HIF_EVT_ROUTE_RING (i : Nat) : Field := ⟨HIF_EVT_ROUTE i, 7, 0⟩
/-- R501: HIF_RING_BASE_LO (256 instances). -/
abbrev HIF_RING_BASE_LO (i : Nat) : Nat := 0x011000 + 16 * (i % 256)
abbrev HIF_RING_BASE_LO_BASE (i : Nat) : Field := ⟨HIF_RING_BASE_LO i, 31, 0⟩
/-- R501: HIF_RING_BASE_HI (256 instances). -/
abbrev HIF_RING_BASE_HI (i : Nat) : Nat := 0x011004 + 16 * (i % 256)
abbrev HIF_RING_BASE_HI_BASE (i : Nat) : Field := ⟨HIF_RING_BASE_HI i, 31, 0⟩
/-- R501: HIF_RING_CFG (256 instances). -/
abbrev HIF_RING_CFG (i : Nat) : Nat := 0x011008 + 16 * (i % 256)
abbrev HIF_RING_CFG_EN (i : Nat) : Field := ⟨HIF_RING_CFG i, 31, 31⟩
abbrev HIF_RING_CFG_KIND (i : Nat) : Field := ⟨HIF_RING_CFG i, 30, 28⟩
abbrev HIF_RING_CFG_LOG2 (i : Nat) : Field := ⟨HIF_RING_CFG i, 27, 24⟩
abbrev HIF_RING_CFG_CQ (i : Nat) : Field := ⟨HIF_RING_CFG i, 23, 16⟩
abbrev HIF_RING_CFG_VECTOR (i : Nat) : Field := ⟨HIF_RING_CFG i, 15, 10⟩
abbrev HIF_RING_CFG_PRIO (i : Nat) : Field := ⟨HIF_RING_CFG i, 9, 8⟩
abbrev HIF_RING_CFG_OWNER (i : Nat) : Field := ⟨HIF_RING_CFG i, 7, 5⟩
/-- R501: HIF_RING_STATUS (256 instances). -/
abbrev HIF_RING_STATUS (i : Nat) : Nat := 0x01100C + 16 * (i % 256)
abbrev HIF_RING_STATUS_STATE (i : Nat) : Field := ⟨HIF_RING_STATUS i, 31, 29⟩
abbrev HIF_RING_STATUS_STAGED (i : Nat) : Field := ⟨HIF_RING_STATUS i, 28, 16⟩
abbrev HIF_RING_STATUS_INDEX (i : Nat) : Field := ⟨HIF_RING_STATUS i, 11, 0⟩
/-- R479: HIF_MSIX_ADDR_LO (64 instances). -/
abbrev HIF_MSIX_ADDR_LO (i : Nat) : Nat := 0x018000 + 16 * (i % 64)
abbrev HIF_MSIX_ADDR_LO_ADDR (i : Nat) : Field := ⟨HIF_MSIX_ADDR_LO i, 31, 0⟩
/-- R479: HIF_MSIX_ADDR_HI (64 instances). -/
abbrev HIF_MSIX_ADDR_HI (i : Nat) : Nat := 0x018004 + 16 * (i % 64)
abbrev HIF_MSIX_ADDR_HI_ADDR (i : Nat) : Field := ⟨HIF_MSIX_ADDR_HI i, 31, 0⟩
/-- R479: HIF_MSIX_DATA (64 instances). -/
abbrev HIF_MSIX_DATA (i : Nat) : Nat := 0x018008 + 16 * (i % 64)
abbrev HIF_MSIX_DATA_DATA (i : Nat) : Field := ⟨HIF_MSIX_DATA i, 31, 0⟩
/-- R479: HIF_MSIX_CTRL (64 instances). -/
abbrev HIF_MSIX_CTRL (i : Nat) : Nat := 0x01800C + 16 * (i % 64)
abbrev HIF_MSIX_CTRL_MASK (i : Nat) : Field := ⟨HIF_MSIX_CTRL i, 0, 0⟩
/-- R479: HIF_MSIX_PBA (2 instances). -/
abbrev HIF_MSIX_PBA (i : Nat) : Nat := 0x019000 + 4 * (i % 2)
abbrev HIF_MSIX_PBA_VALUE (i : Nat) : Field := ⟨HIF_MSIX_PBA i, 31, 0⟩
/-- R78: ALC_CTRL. -/
abbrev ALC_CTRL : Nat := 0x020000
abbrev ALC_CTRL_GRID_LOSS_RIDE : Field := ⟨ALC_CTRL, 8, 8⟩
abbrev ALC_CTRL_REST_EN : Field := ⟨ALC_CTRL, 3, 3⟩
abbrev ALC_CTRL_SURPLUS_EN : Field := ⟨ALC_CTRL, 2, 2⟩
abbrev ALC_CTRL_RUN : Field := ⟨ALC_CTRL, 0, 0⟩
/-- R79: ALC_STATUS. -/
abbrev ALC_STATUS : Nat := 0x020004
abbrev ALC_STATUS_SOLVE_US : Field := ⟨ALC_STATUS, 31, 22⟩
abbrev ALC_STATUS_SOLVE_FAILS : Field := ⟨ALC_STATUS, 15, 8⟩
abbrev ALC_STATUS_CLEAR_REFUSED : Field := ⟨ALC_STATUS, 7, 7⟩
abbrev ALC_STATUS_TRIPPED : Field := ⟨ALC_STATUS, 6, 6⟩
abbrev ALC_STATUS_STALE_VSS : Field := ⟨ALC_STATUS, 5, 5⟩
abbrev ALC_STATUS_STALE_THM : Field := ⟨ALC_STATUS, 4, 4⟩
abbrev ALC_STATUS_STALE_BSE : Field := ⟨ALC_STATUS, 3, 3⟩
abbrev ALC_STATUS_STALE_GRID : Field := ⟨ALC_STATUS, 2, 2⟩
abbrev ALC_STATUS_SNOWPLOUGH : Field := ⟨ALC_STATUS, 1, 1⟩
abbrev ALC_STATUS_RUNNING : Field := ⟨ALC_STATUS, 0, 0⟩
/-- R80: ALC_TRIP. -/
abbrev ALC_TRIP : Nat := 0x020008
abbrev ALC_TRIP_CAUSE_SOLVE : Field := ⟨ALC_TRIP, 11, 11⟩
abbrev ALC_TRIP_CAUSE_GRID : Field := ⟨ALC_TRIP, 10, 10⟩
abbrev ALC_TRIP_CAUSE_HOST : Field := ⟨ALC_TRIP, 9, 9⟩
abbrev ALC_TRIP_CAUSE_ESTOP0 : Field := ⟨ALC_TRIP, 8, 8⟩
abbrev ALC_TRIP_HOST_TRIP : Field := ⟨ALC_TRIP, 1, 1⟩
abbrev ALC_TRIP_CLEAR : Field := ⟨ALC_TRIP, 0, 0⟩
/-- R77: ALC_REJECT_CNT. -/
abbrev ALC_REJECT_CNT : Nat := 0x02000C
abbrev ALC_REJECT_CNT_CNT : Field := ⟨ALC_REJECT_CNT, 15, 0⟩
/-- R77: ALC_TICK_LO. -/
abbrev ALC_TICK_LO : Nat := 0x020010
abbrev ALC_TICK_LO_VALUE : Field := ⟨ALC_TICK_LO, 31, 0⟩
/-- R77: ALC_TICK_HI. -/
abbrev ALC_TICK_HI : Nat := 0x020014
abbrev ALC_TICK_HI_VALUE : Field := ⟨ALC_TICK_HI, 31, 0⟩
/-- R77: ALC_GRANT_SEQ. -/
abbrev ALC_GRANT_SEQ : Nat := 0x020018
abbrev ALC_GRANT_SEQ_VALUE : Field := ⟨ALC_GRANT_SEQ, 31, 0⟩
/-- R81: ALC_SITE_CAP. -/
abbrev ALC_SITE_CAP : Nat := 0x020020
abbrev ALC_SITE_CAP_EXP : Field := ⟨ALC_SITE_CAP, 31, 16⟩
abbrev ALC_SITE_CAP_IMP : Field := ⟨ALC_SITE_CAP, 15, 0⟩
/-- R81: ALC_GP_CAP (2 instances). -/
abbrev ALC_GP_CAP (i : Nat) : Nat := 0x020024 + 4 * (i % 2)
abbrev ALC_GP_CAP_EXP (i : Nat) : Field := ⟨ALC_GP_CAP i, 31, 16⟩
abbrev ALC_GP_CAP_IMP (i : Nat) : Field := ⟨ALC_GP_CAP i, 15, 0⟩
/-- R81: ALC_GRID_TARGET. -/
abbrev ALC_GRID_TARGET : Nat := 0x02002C
abbrev ALC_GRID_TARGET_MODE : Field := ⟨ALC_GRID_TARGET, 31, 31⟩
abbrev ALC_GRID_TARGET_TARGET : Field := ⟨ALC_GRID_TARGET, 15, 0⟩
/-- R81: ALC_GRID_MARGIN. -/
abbrev ALC_GRID_MARGIN : Nat := 0x020030
abbrev ALC_GRID_MARGIN_BASELOAD_MAX : Field := ⟨ALC_GRID_MARGIN, 31, 16⟩
abbrev ALC_GRID_MARGIN_MARGIN : Field := ⟨ALC_GRID_MARGIN, 15, 0⟩
/-- R81: ALC_RAMP. -/
abbrev ALC_RAMP : Nat := 0x020034
abbrev ALC_RAMP_DOWN : Field := ⟨ALC_RAMP, 31, 16⟩
abbrev ALC_RAMP_UP : Field := ⟨ALC_RAMP, 15, 0⟩
/-- R81: ALC_SNOW. -/
abbrev ALC_SNOW : Nat := 0x020038
abbrev ALC_SNOW_RATE : Field := ⟨ALC_SNOW, 15, 0⟩
/-- R81: ALC_HYST. -/
abbrev ALC_HYST : Nat := 0x02003C
abbrev ALC_HYST_READMIT_TICKS : Field := ⟨ALC_HYST, 23, 16⟩
abbrev ALC_HYST_HYST : Field := ⟨ALC_HYST, 15, 0⟩
/-- R81: ALC_SUPPLY. -/
abbrev ALC_SUPPLY : Nat := 0x020040
abbrev ALC_SUPPLY_ORDER : Field := ⟨ALC_SUPPLY, 0, 0⟩
/-- R81: ALC_SURPLUS. -/
abbrev ALC_SURPLUS : Nat := 0x020044
abbrev ALC_SURPLUS_LIMIT : Field := ⟨ALC_SURPLUS, 15, 0⟩
/-- R81: ALC_REST_CTRL. -/
abbrev ALC_REST_CTRL : Nat := 0x020048
abbrev ALC_REST_CTRL_ABORT_TICKS : Field := ⟨ALC_REST_CTRL, 23, 16⟩
abbrev ALC_REST_CTRL_MARGIN : Field := ⟨ALC_REST_CTRL, 15, 8⟩
abbrev ALC_REST_CTRL_MAX : Field := ⟨ALC_REST_CTRL, 2, 0⟩
/-- R81: ALC_REST_STATUS. -/
abbrev ALC_REST_STATUS : Nat := 0x02004C
abbrev ALC_REST_STATUS_LAST_GRANTED : Field := ⟨ALC_REST_STATUS, 21, 16⟩
abbrev ALC_REST_STATUS_LAST_POSTPONED : Field := ⟨ALC_REST_STATUS, 13, 8⟩
abbrev ALC_REST_STATUS_RESTING : Field := ⟨ALC_REST_STATUS, 2, 0⟩
/-- R82: ALC_STAGE_MAP (64 instances). -/
abbrev ALC_STAGE_MAP (i : Nat) : Nat := 0x020100 + 4 * (i % 64)
abbrev ALC_STAGE_MAP_EN (i : Nat) : Field := ⟨ALC_STAGE_MAP i, 31, 31⟩
abbrev ALC_STAGE_MAP_ROLE (i : Nat) : Field := ⟨ALC_STAGE_MAP i, 27, 26⟩
abbrev ALC_STAGE_MAP_ATTACH (i : Nat) : Field := ⟨ALC_STAGE_MAP i, 25, 20⟩
abbrev ALC_STAGE_MAP_RATING (i : Nat) : Field := ⟨ALC_STAGE_MAP i, 15, 0⟩
/-- R82: ALC_OUT_CFG (16 instances). -/
abbrev ALC_OUT_CFG (i : Nat) : Nat := 0x020200 + 8 * (i % 16)
abbrev ALC_OUT_CFG_EN (i : Nat) : Field := ⟨ALC_OUT_CFG i, 31, 31⟩
abbrev ALC_OUT_CFG_CLASS (i : Nat) : Field := ⟨ALC_OUT_CFG i, 30, 28⟩
abbrev ALC_OUT_CFG_WEIGHT (i : Nat) : Field := ⟨ALC_OUT_CFG i, 27, 20⟩
abbrev ALC_OUT_CFG_FLOOR (i : Nat) : Field := ⟨ALC_OUT_CFG i, 15, 0⟩
/-- R82: ALC_OUT_CAP (16 instances). -/
abbrev ALC_OUT_CAP (i : Nat) : Nat := 0x020204 + 8 * (i % 16)
abbrev ALC_OUT_CAP_CAP (i : Nat) : Field := ⟨ALC_OUT_CAP i, 15, 0⟩
/-- R82: ALC_STR_CFG (48 instances). -/
abbrev ALC_STR_CFG (i : Nat) : Nat := 0x020300 + 4 * (i % 48)
abbrev ALC_STR_CFG_EN (i : Nat) : Field := ⟨ALC_STR_CFG i, 31, 31⟩
abbrev ALC_STR_CFG_DISCH_EN (i : Nat) : Field := ⟨ALC_STR_CFG i, 30, 30⟩
abbrev ALC_STR_CFG_CHG_EN (i : Nat) : Field := ⟨ALC_STR_CFG i, 29, 29⟩
abbrev ALC_STR_CFG_WEIGHT (i : Nat) : Field := ⟨ALC_STR_CFG i, 23, 16⟩
abbrev ALC_STR_CFG_RESERVE (i : Nat) : Field := ⟨ALC_STR_CFG i, 15, 8⟩
/-- R61: ALC_GRANT_W0 (65 instances). -/
abbrev ALC_GRANT_W0 (i : Nat) : Nat := 0x021000 + 32 * (i % 65)
abbrev ALC_GRANT_W0_P_GRANT (i : Nat) : Field := ⟨ALC_GRANT_W0 i, 31, 0⟩
/-- R61: ALC_GRANT_W1 (65 instances). -/
abbrev ALC_GRANT_W1 (i : Nat) : Nat := 0x021004 + 32 * (i % 65)
abbrev ALC_GRANT_W1_I_LIMIT (i : Nat) : Field := ⟨ALC_GRANT_W1 i, 31, 0⟩
/-- R61: ALC_GRANT_W2 (65 instances). -/
abbrev ALC_GRANT_W2 (i : Nat) : Nat := 0x021008 + 32 * (i % 65)
abbrev ALC_GRANT_W2_REASON2 (i : Nat) : Field := ⟨ALC_GRANT_W2 i, 31, 24⟩
abbrev ALC_GRANT_W2_REASON (i : Nat) : Field := ⟨ALC_GRANT_W2 i, 23, 16⟩
abbrev ALC_GRANT_W2_V_LIMIT (i : Nat) : Field := ⟨ALC_GRANT_W2 i, 15, 0⟩
/-- R61: ALC_GRANT_W3 (65 instances). -/
abbrev ALC_GRANT_W3 (i : Nat) : Nat := 0x02100C + 32 * (i % 65)
abbrev ALC_GRANT_W3_TTS (i : Nat) : Field := ⟨ALC_GRANT_W3 i, 31, 16⟩
abbrev ALC_GRANT_W3_RAMP (i : Nat) : Field := ⟨ALC_GRANT_W3 i, 15, 0⟩
/-- R61: ALC_GRANT_W4 (65 instances). -/
abbrev ALC_GRANT_W4 (i : Nat) : Nat := 0x021010 + 32 * (i % 65)
abbrev ALC_GRANT_W4_P_DEMAND (i : Nat) : Field := ⟨ALC_GRANT_W4 i, 31, 0⟩
/-- R61: ALC_GRANT_W5 (65 instances). -/
abbrev ALC_GRANT_W5 (i : Nat) : Nat := 0x021014 + 32 * (i % 65)
abbrev ALC_GRANT_W5_P_FLOOR (i : Nat) : Field := ⟨ALC_GRANT_W5 i, 31, 0⟩
/-- R61: ALC_GRANT_W6 (65 instances). -/
abbrev ALC_GRANT_W6 (i : Nat) : Nat := 0x021018 + 32 * (i % 65)
abbrev ALC_GRANT_W6_TICK (i : Nat) : Field := ⟨ALC_GRANT_W6 i, 31, 0⟩
/-- R61: ALC_GRANT_W7 (65 instances). -/
abbrev ALC_GRANT_W7 (i : Nat) : Nat := 0x02101C + 32 * (i % 65)
abbrev ALC_GRANT_W7_DISCHARGE (i : Nat) : Field := ⟨ALC_GRANT_W7 i, 22, 22⟩
abbrev ALC_GRANT_W7_REST (i : Nat) : Field := ⟨ALC_GRANT_W7 i, 21, 21⟩
abbrev ALC_GRANT_W7_STALE_INPUT (i : Nat) : Field := ⟨ALC_GRANT_W7 i, 20, 20⟩
abbrev ALC_GRANT_W7_FLOOR_MET (i : Nat) : Field := ⟨ALC_GRANT_W7 i, 19, 19⟩
abbrev ALC_GRANT_W7_HELD (i : Nat) : Field := ⟨ALC_GRANT_W7 i, 18, 18⟩
abbrev ALC_GRANT_W7_SNOWPLOUGH (i : Nat) : Field := ⟨ALC_GRANT_W7 i, 17, 17⟩
abbrev ALC_GRANT_W7_VALID (i : Nat) : Field := ⟨ALC_GRANT_W7 i, 16, 16⟩
abbrev ALC_GRANT_W7_WEIGHT (i : Nat) : Field := ⟨ALC_GRANT_W7 i, 15, 8⟩
abbrev ALC_GRANT_W7_CLASS (i : Nat) : Field := ⟨ALC_GRANT_W7 i, 2, 0⟩
/-- R114: EDG_CTRL. -/
abbrev EDG_CTRL : Nat := 0x030000
abbrev EDG_CTRL_EN : Field := ⟨EDG_CTRL, 0, 0⟩
/-- R114: EDG_STATUS. -/
abbrev EDG_STATUS : Nat := 0x030004
abbrev EDG_STATUS_ARMED_LEGS : Field := ⟨EDG_STATUS, 24, 16⟩
abbrev EDG_STATUS_CAPPED : Field := ⟨EDG_STATUS, 15, 8⟩
abbrev EDG_STATUS_ALC_FORCE : Field := ⟨EDG_STATUS, 2, 2⟩
abbrev EDG_STATUS_LATE : Field := ⟨EDG_STATUS, 1, 1⟩
abbrev EDG_STATUS_FAULT : Field := ⟨EDG_STATUS, 0, 0⟩
/-- R112: EDG_REJECT_CNT. -/
abbrev EDG_REJECT_CNT : Nat := 0x030008
abbrev EDG_REJECT_CNT_CNT : Field := ⟨EDG_REJECT_CNT, 15, 0⟩
/-- R112: EDG_LATE_CNT. -/
abbrev EDG_LATE_CNT : Nat := 0x03000C
abbrev EDG_LATE_CNT_VALUE : Field := ⟨EDG_LATE_CNT, 31, 0⟩
/-- R114: EDG_LEAD (8 instances). -/
abbrev EDG_LEAD (i : Nat) : Nat := 0x030020 + 4 * (i % 8)
abbrev EDG_LEAD_LATENCY (i : Nat) : Field := ⟨EDG_LEAD i, 31, 16⟩
abbrev EDG_LEAD_CAPPED (i : Nat) : Field := ⟨EDG_LEAD i, 15, 15⟩
abbrev EDG_LEAD_LEAD (i : Nat) : Field := ⟨EDG_LEAD i, 11, 0⟩
/-- R114: EDG_STG_CFG (64 instances). -/
abbrev EDG_STG_CFG (i : Nat) : Nat := 0x030400 + 16 * (i % 64)
abbrev EDG_STG_CFG_EN (i : Nat) : Field := ⟨EDG_STG_CFG i, 31, 31⟩
abbrev EDG_STG_CFG_FAULT_SCOPE (i : Nat) : Field := ⟨EDG_STG_CFG i, 30, 30⟩
/-- R114: EDG_STG_STATUS (64 instances). -/
abbrev EDG_STG_STATUS (i : Nat) : Nat := 0x030404 + 16 * (i % 64)
abbrev EDG_STG_STATUS_BOUND (i : Nat) : Field := ⟨EDG_STG_STATUS i, 31, 31⟩
abbrev EDG_STG_STATUS_ALC_FORCE (i : Nat) : Field := ⟨EDG_STG_STATUS i, 30, 30⟩
abbrev EDG_STG_STATUS_PISTE (i : Nat) : Field := ⟨EDG_STG_STATUS i, 29, 27⟩
abbrev EDG_STG_STATUS_HOP (i : Nat) : Field := ⟨EDG_STG_STATUS i, 20, 16⟩
abbrev EDG_STG_STATUS_LEG_FAULT (i : Nat) : Field := ⟨EDG_STG_STATUS i, 5, 0⟩
/-- R112: EDG_STG_NODE_LO (64 instances). -/
abbrev EDG_STG_NODE_LO (i : Nat) : Nat := 0x030408 + 16 * (i % 64)
abbrev EDG_STG_NODE_LO_ID (i : Nat) : Field := ⟨EDG_STG_NODE_LO i, 31, 0⟩
/-- R112: EDG_STG_NODE_HI (64 instances). -/
abbrev EDG_STG_NODE_HI (i : Nat) : Nat := 0x03040C + 16 * (i % 64)
abbrev EDG_STG_NODE_HI_ID (i : Nat) : Field := ⟨EDG_STG_NODE_HI i, 31, 0⟩
/-- R113: EDG_LEG_PERIOD (384 instances). -/
abbrev EDG_LEG_PERIOD (i : Nat) : Nat := 0x031000 + 32 * (i % 408)
abbrev EDG_LEG_PERIOD_PERIOD (i : Nat) : Field := ⟨EDG_LEG_PERIOD i, 25, 0⟩
/-- R113: EDG_LEG_PHASE (384 instances). -/
abbrev EDG_LEG_PHASE (i : Nat) : Nat := 0x031004 + 32 * (i % 408)
abbrev EDG_LEG_PHASE_PHASE (i : Nat) : Field := ⟨EDG_LEG_PHASE i, 25, 0⟩
/-- R113: EDG_LEG_DEAD (384 instances). -/
abbrev EDG_LEG_DEAD (i : Nat) : Nat := 0x031008 + 32 * (i % 408)
abbrev EDG_LEG_DEAD_DTF (i : Nat) : Field := ⟨EDG_LEG_DEAD i, 29, 16⟩
abbrev EDG_LEG_DEAD_DTR (i : Nat) : Field := ⟨EDG_LEG_DEAD i, 13, 0⟩
/-- R113: EDG_LEG_CFG (384 instances). -/
abbrev EDG_LEG_CFG (i : Nat) : Nat := 0x03100C + 32 * (i % 408)
abbrev EDG_LEG_CFG_COMP_EN (i : Nat) : Field := ⟨EDG_LEG_CFG i, 31, 31⟩
abbrev EDG_LEG_CFG_POLICY (i : Nat) : Field := ⟨EDG_LEG_CFG i, 30, 30⟩
abbrev EDG_LEG_CFG_ALIGN (i : Nat) : Field := ⟨EDG_LEG_CFG i, 29, 28⟩
abbrev EDG_LEG_CFG_CGRP (i : Nat) : Field := ⟨EDG_LEG_CFG i, 27, 26⟩
abbrev EDG_LEG_CFG_SLM_EN (i : Nat) : Field := ⟨EDG_LEG_CFG i, 25, 25⟩
abbrev EDG_LEG_CFG_SLM_GRP (i : Nat) : Field := ⟨EDG_LEG_CFG i, 24, 21⟩
abbrev EDG_LEG_CFG_SLM_POS (i : Nat) : Field := ⟨EDG_LEG_CFG i, 20, 17⟩
abbrev EDG_LEG_CFG_PAIR (i : Nat) : Field := ⟨EDG_LEG_CFG i, 16, 16⟩
abbrev EDG_LEG_CFG_MINP (i : Nat) : Field := ⟨EDG_LEG_CFG i, 12, 0⟩
/-- R113: EDG_LEG_RISE (384 instances). -/
abbrev EDG_LEG_RISE (i : Nat) : Nat := 0x031010 + 32 * (i % 408)
abbrev EDG_LEG_RISE_RISE (i : Nat) : Field := ⟨EDG_LEG_RISE i, 25, 0⟩
/-- R113: EDG_LEG_FALL (384 instances). -/
abbrev EDG_LEG_FALL (i : Nat) : Nat := 0x031014 + 32 * (i % 408)
abbrev EDG_LEG_FALL_FALL (i : Nat) : Field := ⟨EDG_LEG_FALL i, 25, 0⟩
/-- R113: EDG_LEG_CTL (384 instances). -/
abbrev EDG_LEG_CTL (i : Nat) : Nat := 0x031018 + 32 * (i % 408)
abbrev EDG_LEG_CTL_FAULT_CAUSE (i : Nat) : Field := ⟨EDG_LEG_CTL i, 31, 28⟩
abbrev EDG_LEG_CTL_FAULT (i : Nat) : Field := ⟨EDG_LEG_CTL i, 27, 27⟩
abbrev EDG_LEG_CTL_ARMED (i : Nat) : Field := ⟨EDG_LEG_CTL i, 26, 26⟩
abbrev EDG_LEG_CTL_OUT (i : Nat) : Field := ⟨EDG_LEG_CTL i, 25, 24⟩
abbrev EDG_LEG_CTL_ARM_ERR (i : Nat) : Field := ⟨EDG_LEG_CTL i, 23, 16⟩
abbrev EDG_LEG_CTL_NAN (i : Nat) : Field := ⟨EDG_LEG_CTL i, 9, 9⟩
abbrev EDG_LEG_CTL_ORDER (i : Nat) : Field := ⟨EDG_LEG_CTL i, 8, 8⟩
abbrev EDG_LEG_CTL_FORCED_STRETCH (i : Nat) : Field := ⟨EDG_LEG_CTL i, 7, 7⟩
abbrev EDG_LEG_CTL_STRETCHED (i : Nat) : Field := ⟨EDG_LEG_CTL i, 6, 6⟩
abbrev EDG_LEG_CTL_SKIPPED (i : Nat) : Field := ⟨EDG_LEG_CTL i, 5, 5⟩
abbrev EDG_LEG_CTL_LATE_COMMIT (i : Nat) : Field := ⟨EDG_LEG_CTL i, 4, 4⟩
abbrev EDG_LEG_CTL_FORCE (i : Nat) : Field := ⟨EDG_LEG_CTL i, 3, 2⟩
abbrev EDG_LEG_CTL_DISARM (i : Nat) : Field := ⟨EDG_LEG_CTL i, 1, 1⟩
abbrev EDG_LEG_CTL_ARM (i : Nat) : Field := ⟨EDG_LEG_CTL i, 0, 0⟩
/-- R113: EDG_LEG_SHORT_CNT (384 instances). -/
abbrev EDG_LEG_SHORT_CNT (i : Nat) : Nat := 0x03101C + 32 * (i % 408)
abbrev EDG_LEG_SHORT_CNT_SHORT_CNT (i : Nat) : Field := ⟨EDG_LEG_SHORT_CNT i, 31, 0⟩
/-- R113: EDG_PWM_PERIOD (24 instances). -/
abbrev EDG_PWM_PERIOD (i : Nat) : Nat := 0x034000 + 32 * (i % 24)
abbrev EDG_PWM_PERIOD_PERIOD (i : Nat) : Field := ⟨EDG_PWM_PERIOD i, 25, 0⟩
/-- R113: EDG_PWM_PHASE (24 instances). -/
abbrev EDG_PWM_PHASE (i : Nat) : Nat := 0x034004 + 32 * (i % 24)
abbrev EDG_PWM_PHASE_PHASE (i : Nat) : Field := ⟨EDG_PWM_PHASE i, 25, 0⟩
/-- R113: EDG_PWM_DEAD (24 instances). -/
abbrev EDG_PWM_DEAD (i : Nat) : Nat := 0x034008 + 32 * (i % 24)
abbrev EDG_PWM_DEAD_DTF (i : Nat) : Field := ⟨EDG_PWM_DEAD i, 29, 16⟩
abbrev EDG_PWM_DEAD_DTR (i : Nat) : Field := ⟨EDG_PWM_DEAD i, 13, 0⟩
/-- R113: EDG_PWM_CFG (24 instances). -/
abbrev EDG_PWM_CFG (i : Nat) : Nat := 0x03400C + 32 * (i % 24)
abbrev EDG_PWM_CFG_COMP_EN (i : Nat) : Field := ⟨EDG_PWM_CFG i, 31, 31⟩
abbrev EDG_PWM_CFG_POLICY (i : Nat) : Field := ⟨EDG_PWM_CFG i, 30, 30⟩
abbrev EDG_PWM_CFG_ALIGN (i : Nat) : Field := ⟨EDG_PWM_CFG i, 29, 28⟩
abbrev EDG_PWM_CFG_CGRP (i : Nat) : Field := ⟨EDG_PWM_CFG i, 27, 26⟩
abbrev EDG_PWM_CFG_SLM_EN (i : Nat) : Field := ⟨EDG_PWM_CFG i, 25, 25⟩
abbrev EDG_PWM_CFG_SLM_GRP (i : Nat) : Field := ⟨EDG_PWM_CFG i, 24, 21⟩
abbrev EDG_PWM_CFG_SLM_POS (i : Nat) : Field := ⟨EDG_PWM_CFG i, 20, 17⟩
abbrev EDG_PWM_CFG_PAIR (i : Nat) : Field := ⟨EDG_PWM_CFG i, 16, 16⟩
abbrev EDG_PWM_CFG_MINP (i : Nat) : Field := ⟨EDG_PWM_CFG i, 12, 0⟩
/-- R113: EDG_PWM_RISE (24 instances). -/
abbrev EDG_PWM_RISE (i : Nat) : Nat := 0x034010 + 32 * (i % 24)
abbrev EDG_PWM_RISE_RISE (i : Nat) : Field := ⟨EDG_PWM_RISE i, 25, 0⟩
/-- R113: EDG_PWM_FALL (24 instances). -/
abbrev EDG_PWM_FALL (i : Nat) : Nat := 0x034014 + 32 * (i % 24)
abbrev EDG_PWM_FALL_FALL (i : Nat) : Field := ⟨EDG_PWM_FALL i, 25, 0⟩
/-- R113: EDG_PWM_CTL (24 instances). -/
abbrev EDG_PWM_CTL (i : Nat) : Nat := 0x034018 + 32 * (i % 24)
abbrev EDG_PWM_CTL_FAULT_CAUSE (i : Nat) : Field := ⟨EDG_PWM_CTL i, 31, 28⟩
abbrev EDG_PWM_CTL_FAULT (i : Nat) : Field := ⟨EDG_PWM_CTL i, 27, 27⟩
abbrev EDG_PWM_CTL_ARMED (i : Nat) : Field := ⟨EDG_PWM_CTL i, 26, 26⟩
abbrev EDG_PWM_CTL_OUT (i : Nat) : Field := ⟨EDG_PWM_CTL i, 25, 24⟩
abbrev EDG_PWM_CTL_ARM_ERR (i : Nat) : Field := ⟨EDG_PWM_CTL i, 23, 16⟩
abbrev EDG_PWM_CTL_NAN (i : Nat) : Field := ⟨EDG_PWM_CTL i, 9, 9⟩
abbrev EDG_PWM_CTL_ORDER (i : Nat) : Field := ⟨EDG_PWM_CTL i, 8, 8⟩
abbrev EDG_PWM_CTL_FORCED_STRETCH (i : Nat) : Field := ⟨EDG_PWM_CTL i, 7, 7⟩
abbrev EDG_PWM_CTL_STRETCHED (i : Nat) : Field := ⟨EDG_PWM_CTL i, 6, 6⟩
abbrev EDG_PWM_CTL_SKIPPED (i : Nat) : Field := ⟨EDG_PWM_CTL i, 5, 5⟩
abbrev EDG_PWM_CTL_LATE_COMMIT (i : Nat) : Field := ⟨EDG_PWM_CTL i, 4, 4⟩
abbrev EDG_PWM_CTL_FORCE (i : Nat) : Field := ⟨EDG_PWM_CTL i, 3, 2⟩
abbrev EDG_PWM_CTL_DISARM (i : Nat) : Field := ⟨EDG_PWM_CTL i, 1, 1⟩
abbrev EDG_PWM_CTL_ARM (i : Nat) : Field := ⟨EDG_PWM_CTL i, 0, 0⟩
/-- R113: EDG_PWM_SHORT_CNT (24 instances). -/
abbrev EDG_PWM_SHORT_CNT (i : Nat) : Nat := 0x03401C + 32 * (i % 24)
abbrev EDG_PWM_SHORT_CNT_SHORT_CNT (i : Nat) : Field := ⟨EDG_PWM_SHORT_CNT i, 31, 0⟩
/-- R114: EDG_FLT (4 instances). -/
abbrev EDG_FLT (i : Nat) : Nat := 0x034400 + 4 * (i % 4)
abbrev EDG_FLT_EN (i : Nat) : Field := ⟨EDG_FLT i, 31, 31⟩
abbrev EDG_FLT_POL (i : Nat) : Field := ⟨EDG_FLT i, 30, 30⟩
abbrev EDG_FLT_FILTER (i : Nat) : Field := ⟨EDG_FLT i, 27, 24⟩
abbrev EDG_FLT_MASK (i : Nat) : Field := ⟨EDG_FLT i, 23, 0⟩
/-- R114: EDG_SLM_CFG (16 instances). -/
abbrev EDG_SLM_CFG (i : Nat) : Nat := 0x034800 + 8 * (i % 16)
abbrev EDG_SLM_CFG_EN (i : Nat) : Field := ⟨EDG_SLM_CFG i, 31, 31⟩
abbrev EDG_SLM_CFG_RESPREAD (i : Nat) : Field := ⟨EDG_SLM_CFG i, 30, 30⟩
abbrev EDG_SLM_CFG_N_M1 (i : Nat) : Field := ⟨EDG_SLM_CFG i, 29, 26⟩
abbrev EDG_SLM_CFG_BASE (i : Nat) : Field := ⟨EDG_SLM_CFG i, 25, 0⟩
/-- R114: EDG_SLM_STATUS (16 instances). -/
abbrev EDG_SLM_STATUS (i : Nat) : Nat := 0x034804 + 8 * (i % 16)
abbrev EDG_SLM_STATUS_ACTIVE (i : Nat) : Field := ⟨EDG_SLM_STATUS i, 20, 16⟩
abbrev EDG_SLM_STATUS_OCCUPIED (i : Nat) : Field := ⟨EDG_SLM_STATUS i, 15, 0⟩
/-- R140: CLE_CTRL. -/
abbrev CLE_CTRL : Nat := 0x040000
abbrev CLE_CTRL_EN : Field := ⟨CLE_CTRL, 0, 0⟩
/-- R140: CLE_STATUS. -/
abbrev CLE_STATUS : Nat := 0x040004
abbrev CLE_STATUS_LOAD : Field := ⟨CLE_STATUS, 31, 22⟩
abbrev CLE_STATUS_CLOSED : Field := ⟨CLE_STATUS, 15, 8⟩
abbrev CLE_STATUS_FAULT : Field := ⟨CLE_STATUS, 1, 1⟩
abbrev CLE_STATUS_MISS : Field := ⟨CLE_STATUS, 0, 0⟩
/-- R140: CLE_REJECT_CNT. -/
abbrev CLE_REJECT_CNT : Nat := 0x040008
abbrev CLE_REJECT_CNT_CNT : Field := ⟨CLE_REJECT_CNT, 15, 0⟩
/-- R140: CLE_MISS_CNT. -/
abbrev CLE_MISS_CNT : Nat := 0x04000C
abbrev CLE_MISS_CNT_VALUE : Field := ⟨CLE_MISS_CNT, 31, 0⟩
/-- R140: CLE_CLOSED (4 instances). -/
abbrev CLE_CLOSED (i : Nat) : Nat := 0x040020 + 4 * (i % 4)
abbrev CLE_CLOSED_VALUE (i : Nat) : Field := ⟨CLE_CLOSED i, 31, 0⟩
/-- R140: CLE_FAULT (4 instances). -/
abbrev CLE_FAULT (i : Nat) : Nat := 0x040030 + 4 * (i % 4)
abbrev CLE_FAULT_VALUE (i : Nat) : Field := ⟨CLE_FAULT i, 31, 0⟩
/-- R142: CLE_MAP_SRC (384 instances). -/
abbrev CLE_MAP_SRC (i : Nat) : Nat := 0x044000 + 32 * (i % 408)
abbrev CLE_MAP_SRC_EN (i : Nat) : Field := ⟨CLE_MAP_SRC i, 31, 31⟩
abbrev CLE_MAP_SRC_SRC1_EN (i : Nat) : Field := ⟨CLE_MAP_SRC i, 30, 30⟩
abbrev CLE_MAP_SRC_OUT1 (i : Nat) : Field := ⟨CLE_MAP_SRC i, 23, 23⟩
abbrev CLE_MAP_SRC_SLOT1 (i : Nat) : Field := ⟨CLE_MAP_SRC i, 22, 16⟩
abbrev CLE_MAP_SRC_OUT0 (i : Nat) : Field := ⟨CLE_MAP_SRC i, 7, 7⟩
abbrev CLE_MAP_SRC_SLOT0 (i : Nat) : Field := ⟨CLE_MAP_SRC i, 6, 0⟩
/-- R142: CLE_MAP_C0 (384 instances). -/
abbrev CLE_MAP_C0 (i : Nat) : Nat := 0x044004 + 32 * (i % 408)
abbrev CLE_MAP_C0_C0 (i : Nat) : Field := ⟨CLE_MAP_C0 i, 31, 0⟩
/-- R142: CLE_MAP_C1 (384 instances). -/
abbrev CLE_MAP_C1 (i : Nat) : Nat := 0x044008 + 32 * (i % 408)
abbrev CLE_MAP_C1_C1 (i : Nat) : Field := ⟨CLE_MAP_C1 i, 31, 0⟩
/-- R142: CLE_MAP_OFS (384 instances). -/
abbrev CLE_MAP_OFS (i : Nat) : Nat := 0x04400C + 32 * (i % 408)
abbrev CLE_MAP_OFS_OFS (i : Nat) : Field := ⟨CLE_MAP_OFS i, 31, 0⟩
/-- R142: CLE_MAP_C0F (384 instances). -/
abbrev CLE_MAP_C0F (i : Nat) : Nat := 0x044010 + 32 * (i % 408)
abbrev CLE_MAP_C0F_C0F (i : Nat) : Field := ⟨CLE_MAP_C0F i, 31, 0⟩
/-- R142: CLE_MAP_C1F (384 instances). -/
abbrev CLE_MAP_C1F (i : Nat) : Nat := 0x044014 + 32 * (i % 408)
abbrev CLE_MAP_C1F_C1F (i : Nat) : Field := ⟨CLE_MAP_C1F i, 31, 0⟩
/-- R142: CLE_MAP_OFSF (384 instances). -/
abbrev CLE_MAP_OFSF (i : Nat) : Nat := 0x044018 + 32 * (i % 408)
abbrev CLE_MAP_OFSF_OFSF (i : Nat) : Field := ⟨CLE_MAP_OFSF i, 31, 0⟩
/-- R142: CLE_PWMMAP_SRC (24 instances). -/
abbrev CLE_PWMMAP_SRC (i : Nat) : Nat := 0x047000 + 32 * (i % 24)
abbrev CLE_PWMMAP_SRC_EN (i : Nat) : Field := ⟨CLE_PWMMAP_SRC i, 31, 31⟩
abbrev CLE_PWMMAP_SRC_SRC1_EN (i : Nat) : Field := ⟨CLE_PWMMAP_SRC i, 30, 30⟩
abbrev CLE_PWMMAP_SRC_OUT1 (i : Nat) : Field := ⟨CLE_PWMMAP_SRC i, 23, 23⟩
abbrev CLE_PWMMAP_SRC_SLOT1 (i : Nat) : Field := ⟨CLE_PWMMAP_SRC i, 22, 16⟩
abbrev CLE_PWMMAP_SRC_OUT0 (i : Nat) : Field := ⟨CLE_PWMMAP_SRC i, 7, 7⟩
abbrev CLE_PWMMAP_SRC_SLOT0 (i : Nat) : Field := ⟨CLE_PWMMAP_SRC i, 6, 0⟩
/-- R142: CLE_PWMMAP_C0 (24 instances). -/
abbrev CLE_PWMMAP_C0 (i : Nat) : Nat := 0x047004 + 32 * (i % 24)
abbrev CLE_PWMMAP_C0_C0 (i : Nat) : Field := ⟨CLE_PWMMAP_C0 i, 31, 0⟩
/-- R142: CLE_PWMMAP_C1 (24 instances). -/
abbrev CLE_PWMMAP_C1 (i : Nat) : Nat := 0x047008 + 32 * (i % 24)
abbrev CLE_PWMMAP_C1_C1 (i : Nat) : Field := ⟨CLE_PWMMAP_C1 i, 31, 0⟩
/-- R142: CLE_PWMMAP_OFS (24 instances). -/
abbrev CLE_PWMMAP_OFS (i : Nat) : Nat := 0x04700C + 32 * (i % 24)
abbrev CLE_PWMMAP_OFS_OFS (i : Nat) : Field := ⟨CLE_PWMMAP_OFS i, 31, 0⟩
/-- R142: CLE_PWMMAP_C0F (24 instances). -/
abbrev CLE_PWMMAP_C0F (i : Nat) : Nat := 0x047010 + 32 * (i % 24)
abbrev CLE_PWMMAP_C0F_C0F (i : Nat) : Field := ⟨CLE_PWMMAP_C0F i, 31, 0⟩
/-- R142: CLE_PWMMAP_C1F (24 instances). -/
abbrev CLE_PWMMAP_C1F (i : Nat) : Nat := 0x047014 + 32 * (i % 24)
abbrev CLE_PWMMAP_C1F_C1F (i : Nat) : Field := ⟨CLE_PWMMAP_C1F i, 31, 0⟩
/-- R142: CLE_PWMMAP_OFSF (24 instances). -/
abbrev CLE_PWMMAP_OFSF (i : Nat) : Nat := 0x047018 + 32 * (i % 24)
abbrev CLE_PWMMAP_OFSF_OFSF (i : Nat) : Field := ⟨CLE_PWMMAP_OFSF i, 31, 0⟩
/-- R141: CLE_SLOT_CTL (128 instances). -/
abbrev CLE_SLOT_CTL (i : Nat) : Nat := 0x048000 + 256 * (i % 128)
abbrev CLE_SLOT_CTL_STATE (i : Nat) : Field := ⟨CLE_SLOT_CTL i, 31, 30⟩
abbrev CLE_SLOT_CTL_FAULT (i : Nat) : Field := ⟨CLE_SLOT_CTL i, 29, 29⟩
abbrev CLE_SLOT_CTL_MISS_CAUSE (i : Nat) : Field := ⟨CLE_SLOT_CTL i, 25, 24⟩
abbrev CLE_SLOT_CTL_ERR (i : Nat) : Field := ⟨CLE_SLOT_CTL i, 23, 16⟩
abbrev CLE_SLOT_CTL_MISS_RUN (i : Nat) : Field := ⟨CLE_SLOT_CTL i, 9, 8⟩
abbrev CLE_SLOT_CTL_SAT (i : Nat) : Field := ⟨CLE_SLOT_CTL i, 3, 3⟩
abbrev CLE_SLOT_CTL_MISS (i : Nat) : Field := ⟨CLE_SLOT_CTL i, 2, 2⟩
abbrev CLE_SLOT_CTL_OPEN (i : Nat) : Field := ⟨CLE_SLOT_CTL i, 1, 1⟩
abbrev CLE_SLOT_CTL_CLOSE (i : Nat) : Field := ⟨CLE_SLOT_CTL i, 0, 0⟩
/-- R141: CLE_SLOT_CFG (128 instances). -/
abbrev CLE_SLOT_CFG (i : Nat) : Nat := 0x048004 + 256 * (i % 128)
abbrev CLE_SLOT_CFG_TYPE (i : Nat) : Field := ⟨CLE_SLOT_CFG i, 31, 28⟩
abbrev CLE_SLOT_CFG_ORDER (i : Nat) : Field := ⟨CLE_SLOT_CFG i, 27, 26⟩
abbrev CLE_SLOT_CFG_RATE_GRANT (i : Nat) : Field := ⟨CLE_SLOT_CFG i, 24, 24⟩
abbrev CLE_SLOT_CFG_BUMP_N (i : Nat) : Field := ⟨CLE_SLOT_CFG i, 23, 12⟩
/-- R141: CLE_SLOT_PERIOD (128 instances). -/
abbrev CLE_SLOT_PERIOD (i : Nat) : Nat := 0x048008 + 256 * (i % 128)
abbrev CLE_SLOT_PERIOD_PERIOD (i : Nat) : Field := ⟨CLE_SLOT_PERIOD i, 17, 0⟩
/-- R141: CLE_SLOT_PHASE (128 instances). -/
abbrev CLE_SLOT_PHASE (i : Nat) : Nat := 0x04800C + 256 * (i % 128)
abbrev CLE_SLOT_PHASE_PHASE (i : Nat) : Field := ⟨CLE_SLOT_PHASE i, 17, 0⟩
/-- R141: CLE_SLOT_DEADLINE (128 instances). -/
abbrev CLE_SLOT_DEADLINE (i : Nat) : Nat := 0x048010 + 256 * (i % 128)
abbrev CLE_SLOT_DEADLINE_DEADLINE (i : Nat) : Field := ⟨CLE_SLOT_DEADLINE i, 17, 0⟩
/-- R141: CLE_SLOT_SRCA (128 instances). -/
abbrev CLE_SLOT_SRCA (i : Nat) : Nat := 0x048014 + 256 * (i % 128)
abbrev CLE_SLOT_SRCA_KIND (i : Nat) : Field := ⟨CLE_SLOT_SRCA i, 31, 28⟩
abbrev CLE_SLOT_SRCA_INDEX (i : Nat) : Field := ⟨CLE_SLOT_SRCA i, 9, 0⟩
/-- R141: CLE_SLOT_SRCB (128 instances). -/
abbrev CLE_SLOT_SRCB (i : Nat) : Nat := 0x048018 + 256 * (i % 128)
abbrev CLE_SLOT_SRCB_KIND (i : Nat) : Field := ⟨CLE_SLOT_SRCB i, 31, 28⟩
abbrev CLE_SLOT_SRCB_INDEX (i : Nat) : Field := ⟨CLE_SLOT_SRCB i, 9, 0⟩
/-- R141: CLE_SLOT_LAT (128 instances). -/
abbrev CLE_SLOT_LAT (i : Nat) : Nat := 0x04801C + 256 * (i % 128)
abbrev CLE_SLOT_LAT_LAT_MAX (i : Nat) : Field := ⟨CLE_SLOT_LAT i, 31, 16⟩
abbrev CLE_SLOT_LAT_LAT_LAST (i : Nat) : Field := ⟨CLE_SLOT_LAT i, 15, 0⟩
/-- R141: CLE_SLOT_GAIN_A (128 instances). -/
abbrev CLE_SLOT_GAIN_A (i : Nat) : Nat := 0x048020 + 256 * (i % 128)
abbrev CLE_SLOT_GAIN_A_GAIN_A (i : Nat) : Field := ⟨CLE_SLOT_GAIN_A i, 31, 0⟩
/-- R141: CLE_SLOT_OFS_A (128 instances). -/
abbrev CLE_SLOT_OFS_A (i : Nat) : Nat := 0x048024 + 256 * (i % 128)
abbrev CLE_SLOT_OFS_A_OFS_A (i : Nat) : Field := ⟨CLE_SLOT_OFS_A i, 31, 0⟩
/-- R141: CLE_SLOT_GAIN_B (128 instances). -/
abbrev CLE_SLOT_GAIN_B (i : Nat) : Nat := 0x048028 + 256 * (i % 128)
abbrev CLE_SLOT_GAIN_B_GAIN_B (i : Nat) : Field := ⟨CLE_SLOT_GAIN_B i, 31, 0⟩
/-- R141: CLE_SLOT_OFS_B (128 instances). -/
abbrev CLE_SLOT_OFS_B (i : Nat) : Nat := 0x04802C + 256 * (i % 128)
abbrev CLE_SLOT_OFS_B_OFS_B (i : Nat) : Field := ⟨CLE_SLOT_OFS_B i, 31, 0⟩
/-- R141: CLE_SLOT_SP_TAU (128 instances). -/
abbrev CLE_SLOT_SP_TAU (i : Nat) : Nat := 0x048030 + 256 * (i % 128)
abbrev CLE_SLOT_SP_TAU_SP_TAU (i : Nat) : Field := ⟨CLE_SLOT_SP_TAU i, 31, 0⟩
/-- R141: CLE_SLOT_SP_SLEW (128 instances). -/
abbrev CLE_SLOT_SP_SLEW (i : Nat) : Nat := 0x048034 + 256 * (i % 128)
abbrev CLE_SLOT_SP_SLEW_SP_SLEW (i : Nat) : Field := ⟨CLE_SLOT_SP_SLEW i, 31, 0⟩
/-- R141: CLE_SLOT_SP_REG (128 instances). -/
abbrev CLE_SLOT_SP_REG (i : Nat) : Nat := 0x048038 + 256 * (i % 128)
abbrev CLE_SLOT_SP_REG_SP_REG (i : Nat) : Field := ⟨CLE_SLOT_SP_REG i, 31, 0⟩
/-- R141: CLE_SLOT_FAULT_VALUE (128 instances). -/
abbrev CLE_SLOT_FAULT_VALUE (i : Nat) : Nat := 0x04803C + 256 * (i % 128)
abbrev CLE_SLOT_FAULT_VALUE_FAULT_VALUE (i : Nat) : Field := ⟨CLE_SLOT_FAULT_VALUE i, 31, 0⟩
/-- R141: CLE_SLOT_YMIN0 (128 instances). -/
abbrev CLE_SLOT_YMIN0 (i : Nat) : Nat := 0x048040 + 256 * (i % 128)
abbrev CLE_SLOT_YMIN0_YMIN0 (i : Nat) : Field := ⟨CLE_SLOT_YMIN0 i, 31, 0⟩
/-- R141: CLE_SLOT_YMAX0 (128 instances). -/
abbrev CLE_SLOT_YMAX0 (i : Nat) : Nat := 0x048044 + 256 * (i % 128)
abbrev CLE_SLOT_YMAX0_YMAX0 (i : Nat) : Field := ⟨CLE_SLOT_YMAX0 i, 31, 0⟩
/-- R141: CLE_SLOT_YMIN1 (128 instances). -/
abbrev CLE_SLOT_YMIN1 (i : Nat) : Nat := 0x048048 + 256 * (i % 128)
abbrev CLE_SLOT_YMIN1_YMIN1 (i : Nat) : Field := ⟨CLE_SLOT_YMIN1 i, 31, 0⟩
/-- R141: CLE_SLOT_YMAX1 (128 instances). -/
abbrev CLE_SLOT_YMAX1 (i : Nat) : Nat := 0x04804C + 256 * (i % 128)
abbrev CLE_SLOT_YMAX1_YMAX1 (i : Nat) : Field := ⟨CLE_SLOT_YMAX1 i, 31, 0⟩
/-- R141: CLE_SLOT_OUT0 (128 instances). -/
abbrev CLE_SLOT_OUT0 (i : Nat) : Nat := 0x048050 + 256 * (i % 128)
abbrev CLE_SLOT_OUT0_OUT0 (i : Nat) : Field := ⟨CLE_SLOT_OUT0 i, 31, 0⟩
/-- R141: CLE_SLOT_OUT1 (128 instances). -/
abbrev CLE_SLOT_OUT1 (i : Nat) : Nat := 0x048054 + 256 * (i % 128)
abbrev CLE_SLOT_OUT1_OUT1 (i : Nat) : Field := ⟨CLE_SLOT_OUT1 i, 31, 0⟩
/-- R141: CLE_SLOT_MISS_CNT (128 instances). -/
abbrev CLE_SLOT_MISS_CNT (i : Nat) : Nat := 0x048058 + 256 * (i % 128)
abbrev CLE_SLOT_MISS_CNT_MISS_CNT (i : Nat) : Field := ⟨CLE_SLOT_MISS_CNT i, 31, 0⟩
/-- R141: CLE_SLOT_COEF (128 by 36 instances). -/
abbrev CLE_SLOT_COEF (i j : Nat) : Nat := 0x048060 + 256 * (i % 128) + 4 * (j % 36)
abbrev CLE_SLOT_COEF_COEF (i j : Nat) : Field := ⟨CLE_SLOT_COEF i j, 31, 0⟩
/-- R141: CLE_SLOT_STATEW (128 by 4 instances). -/
abbrev CLE_SLOT_STATEW (i j : Nat) : Nat := 0x0480F0 + 256 * (i % 128) + 4 * (j % 4)
abbrev CLE_SLOT_STATEW_STATE (i j : Nat) : Field := ⟨CLE_SLOT_STATEW i j, 31, 0⟩
/-- R166: THM_CTRL. -/
abbrev THM_CTRL : Nat := 0x050000
abbrev THM_CTRL_RATE_MAX : Field := ⟨THM_CTRL, 15, 8⟩
abbrev THM_CTRL_EN : Field := ⟨THM_CTRL, 0, 0⟩
/-- R166: THM_STATUS. -/
abbrev THM_STATUS : Nat := 0x050004
abbrev THM_STATUS_HARD : Field := ⟨THM_STATUS, 31, 16⟩
abbrev THM_STATUS_SENSOR : Field := ⟨THM_STATUS, 3, 3⟩
abbrev THM_STATUS_DIE_WARM : Field := ⟨THM_STATUS, 2, 2⟩
abbrev THM_STATUS_TRIP : Field := ⟨THM_STATUS, 1, 1⟩
abbrev THM_STATUS_DERATE : Field := ⟨THM_STATUS, 0, 0⟩
/-- R165: THM_REJECT_CNT. -/
abbrev THM_REJECT_CNT : Nat := 0x050008
abbrev THM_REJECT_CNT_CNT : Field := ⟨THM_REJECT_CNT, 15, 0⟩
/-- R166: THM_DIE (3 instances). -/
abbrev THM_DIE (i : Nat) : Nat := 0x050010 + 4 * (i % 3)
abbrev THM_DIE_PEAK (i : Nat) : Field := ⟨THM_DIE i, 31, 16⟩
abbrev THM_DIE_TEMP (i : Nat) : Field := ⟨THM_DIE i, 15, 0⟩
/-- R166: THM_DIE_CFG. -/
abbrev THM_DIE_CFG : Nat := 0x05001C
abbrev THM_DIE_CFG_WARN : Field := ⟨THM_DIE_CFG, 7, 0⟩
/-- R166: THM_SET_CFG (32 instances). -/
abbrev THM_SET_CFG (i : Nat) : Nat := 0x050200 + 4 * (i % 32)
abbrev THM_SET_CFG_EN (i : Nat) : Field := ⟨THM_SET_CFG i, 8, 8⟩
abbrev THM_SET_CFG_DEV (i : Nat) : Field := ⟨THM_SET_CFG i, 7, 0⟩
/-- R166: THM_SNS_CFG (64 instances). -/
abbrev THM_SNS_CFG (i : Nat) : Nat := 0x050400 + 16 * (i % 64)
abbrev THM_SNS_CFG_EN (i : Nat) : Field := ⟨THM_SNS_CFG i, 31, 31⟩
abbrev THM_SNS_CFG_TYPE (i : Nat) : Field := ⟨THM_SNS_CFG i, 30, 28⟩
abbrev THM_SNS_CFG_SET_EN (i : Nat) : Field := ⟨THM_SNS_CFG i, 27, 27⟩
abbrev THM_SNS_CFG_SET (i : Nat) : Field := ⟨THM_SNS_CFG i, 26, 22⟩
abbrev THM_SNS_CFG_CABLE (i : Nat) : Field := ⟨THM_SNS_CFG i, 19, 16⟩
abbrev THM_SNS_CFG_ROLE (i : Nat) : Field := ⟨THM_SNS_CFG i, 15, 14⟩
abbrev THM_SNS_CFG_CHAN (i : Nat) : Field := ⟨THM_SNS_CFG i, 3, 0⟩
/-- R166: THM_SNS_PARAM0 (64 instances). -/
abbrev THM_SNS_PARAM0 (i : Nat) : Nat := 0x050404 + 16 * (i % 64)
abbrev THM_SNS_PARAM0_PARAM0 (i : Nat) : Field := ⟨THM_SNS_PARAM0 i, 31, 0⟩
/-- R166: THM_SNS_PARAM1 (64 instances). -/
abbrev THM_SNS_PARAM1 (i : Nat) : Nat := 0x050408 + 16 * (i % 64)
abbrev THM_SNS_PARAM1_PARAM1 (i : Nat) : Field := ⟨THM_SNS_PARAM1 i, 31, 0⟩
/-- R166: THM_SNS_VAL (64 instances). -/
abbrev THM_SNS_VAL (i : Nat) : Nat := 0x05040C + 16 * (i % 64)
abbrev THM_SNS_VAL_TEMP (i : Nat) : Field := ⟨THM_SNS_VAL i, 31, 16⟩
abbrev THM_SNS_VAL_STATE (i : Nat) : Field := ⟨THM_SNS_VAL i, 15, 13⟩
abbrev THM_SNS_VAL_FAULT (i : Nat) : Field := ⟨THM_SNS_VAL i, 12, 10⟩
/-- R167: THM_CAB_CFG (16 instances). -/
abbrev THM_CAB_CFG (i : Nat) : Nat := 0x051000 + 64 * (i % 16)
abbrev THM_CAB_CFG_EN (i : Nat) : Field := ⟨THM_CAB_CFG i, 31, 31⟩
abbrev THM_CAB_CFG_I_RATED (i : Nat) : Field := ⟨THM_CAB_CFG i, 15, 0⟩
/-- R167: THM_CAB_TEMP (16 instances). -/
abbrev THM_CAB_TEMP (i : Nat) : Nat := 0x051004 + 64 * (i % 16)
abbrev THM_CAB_TEMP_T_HARD (i : Nat) : Field := ⟨THM_CAB_TEMP i, 31, 24⟩
abbrev THM_CAB_TEMP_T_TRIP (i : Nat) : Field := ⟨THM_CAB_TEMP i, 23, 16⟩
abbrev THM_CAB_TEMP_T_LIM (i : Nat) : Field := ⟨THM_CAB_TEMP i, 15, 8⟩
abbrev THM_CAB_TEMP_MARGIN (i : Nat) : Field := ⟨THM_CAB_TEMP i, 7, 0⟩
/-- R167: THM_CAB_FLOW (16 instances). -/
abbrev THM_CAB_FLOW (i : Nat) : Nat := 0x051008 + 64 * (i % 16)
abbrev THM_CAB_FLOW_FSRC (i : Nat) : Field := ⟨THM_CAB_FLOW i, 31, 30⟩
abbrev THM_CAB_FLOW_PIN (i : Nat) : Field := ⟨THM_CAB_FLOW i, 29, 28⟩
abbrev THM_CAB_FLOW_TIN_MAX (i : Nat) : Field := ⟨THM_CAB_FLOW i, 19, 12⟩
abbrev THM_CAB_FLOW_FLOW_FIXED (i : Nat) : Field := ⟨THM_CAB_FLOW i, 11, 0⟩
/-- R167: THM_CAB_FLOW_K (16 instances). -/
abbrev THM_CAB_FLOW_K (i : Nat) : Nat := 0x05100C + 64 * (i % 16)
abbrev THM_CAB_FLOW_K_FLOW_K (i : Nat) : Field := ⟨THM_CAB_FLOW_K i, 31, 0⟩
/-- R167: THM_CAB_C1 (16 instances). -/
abbrev THM_CAB_C1 (i : Nat) : Nat := 0x051010 + 64 * (i % 16)
abbrev THM_CAB_C1_C1 (i : Nat) : Field := ⟨THM_CAB_C1 i, 31, 0⟩
/-- R167: THM_CAB_C2 (16 instances). -/
abbrev THM_CAB_C2 (i : Nat) : Nat := 0x051014 + 64 * (i % 16)
abbrev THM_CAB_C2_C2 (i : Nat) : Field := ⟨THM_CAB_C2 i, 31, 0⟩
/-- R167: THM_CAB_C3 (16 instances). -/
abbrev THM_CAB_C3 (i : Nat) : Nat := 0x051018 + 64 * (i % 16)
abbrev THM_CAB_C3_C3 (i : Nat) : Field := ⟨THM_CAB_C3 i, 31, 0⟩
/-- R167: THM_CAB_G12 (16 instances). -/
abbrev THM_CAB_G12 (i : Nat) : Nat := 0x05101C + 64 * (i % 16)
abbrev THM_CAB_G12_G12 (i : Nat) : Field := ⟨THM_CAB_G12 i, 31, 0⟩
/-- R167: THM_CAB_G13 (16 instances). -/
abbrev THM_CAB_G13 (i : Nat) : Nat := 0x051020 + 64 * (i % 16)
abbrev THM_CAB_G13_G13 (i : Nat) : Field := ⟨THM_CAB_G13 i, 31, 0⟩
/-- R167: THM_CAB_G23 (16 instances). -/
abbrev THM_CAB_G23 (i : Nat) : Nat := 0x051024 + 64 * (i % 16)
abbrev THM_CAB_G23_G23 (i : Nat) : Field := ⟨THM_CAB_G23 i, 31, 0⟩
/-- R167: THM_CAB_GF (16 instances). -/
abbrev THM_CAB_GF (i : Nat) : Nat := 0x051028 + 64 * (i % 16)
abbrev THM_CAB_GF_GF (i : Nat) : Field := ⟨THM_CAB_GF i, 31, 0⟩
/-- R167: THM_CAB_RC (16 instances). -/
abbrev THM_CAB_RC (i : Nat) : Nat := 0x05102C + 64 * (i % 16)
abbrev THM_CAB_RC_RC (i : Nat) : Field := ⟨THM_CAB_RC i, 31, 0⟩
/-- R167: THM_CAB_ALPHA (16 instances). -/
abbrev THM_CAB_ALPHA (i : Nat) : Nat := 0x051030 + 64 * (i % 16)
abbrev THM_CAB_ALPHA_ALPHA (i : Nat) : Field := ⟨THM_CAB_ALPHA i, 31, 0⟩
/-- R167: THM_CAB_RP (16 instances). -/
abbrev THM_CAB_RP (i : Nat) : Nat := 0x051034 + 64 * (i % 16)
abbrev THM_CAB_RP_RP (i : Nat) : Field := ⟨THM_CAB_RP i, 31, 0⟩
/-- R167: THM_CAB_OBS (16 instances). -/
abbrev THM_CAB_OBS (i : Nat) : Nat := 0x051038 + 64 * (i % 16)
abbrev THM_CAB_OBS_HORIZON (i : Nat) : Field := ⟨THM_CAB_OBS i, 31, 16⟩
abbrev THM_CAB_OBS_LGAIN (i : Nat) : Field := ⟨THM_CAB_OBS i, 15, 8⟩
abbrev THM_CAB_OBS_OLM (i : Nat) : Field := ⟨THM_CAB_OBS i, 7, 0⟩
/-- R167: THM_CAB_LOOP (16 instances). -/
abbrev THM_CAB_LOOP (i : Nat) : Nat := 0x05103C + 64 * (i % 16)
abbrev THM_CAB_LOOP_LOOP_EN (i : Nat) : Field := ⟨THM_CAB_LOOP i, 31, 31⟩
abbrev THM_CAB_LOOP_LOOP (i : Nat) : Field := ⟨THM_CAB_LOOP i, 26, 24⟩
abbrev THM_CAB_LOOP_FLOW_MIN (i : Nat) : Field := ⟨THM_CAB_LOOP i, 23, 12⟩
/-- R168: THM_CAB_LIMIT (16 instances). -/
abbrev THM_CAB_LIMIT (i : Nat) : Nat := 0x052000 + 16 * (i % 16)
abbrev THM_CAB_LIMIT_TREC (i : Nat) : Field := ⟨THM_CAB_LIMIT i, 31, 16⟩
abbrev THM_CAB_LIMIT_ILIM (i : Nat) : Field := ⟨THM_CAB_LIMIT i, 15, 0⟩
/-- R168: THM_CAB_HOT (16 instances). -/
abbrev THM_CAB_HOT (i : Nat) : Nat := 0x052004 + 16 * (i % 16)
abbrev THM_CAB_HOT_T1 (i : Nat) : Field := ⟨THM_CAB_HOT i, 31, 16⟩
abbrev THM_CAB_HOT_T2 (i : Nat) : Field := ⟨THM_CAB_HOT i, 15, 0⟩
/-- R168: THM_CAB_COOL (16 instances). -/
abbrev THM_CAB_COOL (i : Nat) : Nat := 0x052008 + 16 * (i % 16)
abbrev THM_CAB_COOL_T3 (i : Nat) : Field := ⟨THM_CAB_COOL i, 31, 16⟩
abbrev THM_CAB_COOL_FLOW (i : Nat) : Field := ⟨THM_CAB_COOL i, 15, 0⟩
/-- R168: THM_CAB_STATUS (16 instances). -/
abbrev THM_CAB_STATUS (i : Nat) : Nat := 0x05200C + 16 * (i % 16)
abbrev THM_CAB_STATUS_BAND (i : Nat) : Field := ⟨THM_CAB_STATUS i, 31, 30⟩
abbrev THM_CAB_STATUS_DERATE (i : Nat) : Field := ⟨THM_CAB_STATUS i, 29, 29⟩
abbrev THM_CAB_STATUS_TRIP (i : Nat) : Field := ⟨THM_CAB_STATUS i, 28, 28⟩
abbrev THM_CAB_STATUS_HARD (i : Nat) : Field := ⟨THM_CAB_STATUS i, 27, 27⟩
abbrev THM_CAB_STATUS_OPEN_LOOP (i : Nat) : Field := ⟨THM_CAB_STATUS i, 26, 26⟩
abbrev THM_CAB_STATUS_CUR_EST (i : Nat) : Field := ⟨THM_CAB_STATUS i, 25, 25⟩
abbrev THM_CAB_STATUS_FLOW_LOW (i : Nat) : Field := ⟨THM_CAB_STATUS i, 24, 24⟩
abbrev THM_CAB_STATUS_LOOP_FAIL (i : Nat) : Field := ⟨THM_CAB_STATUS i, 23, 23⟩
abbrev THM_CAB_STATUS_TRIP_CAUSE (i : Nat) : Field := ⟨THM_CAB_STATUS i, 18, 16⟩
abbrev THM_CAB_STATUS_HARD_CAUSE (i : Nat) : Field := ⟨THM_CAB_STATUS i, 15, 13⟩
/-- R166: THM_LOOP_CFG (8 instances). -/
abbrev THM_LOOP_CFG (i : Nat) : Nat := 0x053000 + 16 * (i % 8)
abbrev THM_LOOP_CFG_EN (i : Nat) : Field := ⟨THM_LOOP_CFG i, 31, 31⟩
abbrev THM_LOOP_CFG_SLOT (i : Nat) : Field := ⟨THM_LOOP_CFG i, 30, 24⟩
abbrev THM_LOOP_CFG_ACT (i : Nat) : Field := ⟨THM_LOOP_CFG i, 23, 22⟩
abbrev THM_LOOP_CFG_CHAN (i : Nat) : Field := ⟨THM_LOOP_CFG i, 11, 8⟩
abbrev THM_LOOP_CFG_FAIL_LEVEL (i : Nat) : Field := ⟨THM_LOOP_CFG i, 7, 0⟩
/-- R165: THM_LOOP_NODE_LO (8 instances). -/
abbrev THM_LOOP_NODE_LO (i : Nat) : Nat := 0x053004 + 16 * (i % 8)
abbrev THM_LOOP_NODE_LO_ID (i : Nat) : Field := ⟨THM_LOOP_NODE_LO i, 31, 0⟩
/-- R165: THM_LOOP_NODE_HI (8 instances). -/
abbrev THM_LOOP_NODE_HI (i : Nat) : Nat := 0x053008 + 16 * (i % 8)
abbrev THM_LOOP_NODE_HI_ID (i : Nat) : Field := ⟨THM_LOOP_NODE_HI i, 31, 0⟩
/-- R166: THM_LOOP_STATUS (8 instances). -/
abbrev THM_LOOP_STATUS (i : Nat) : Nat := 0x05300C + 16 * (i % 8)
abbrev THM_LOOP_STATUS_FAILED (i : Nat) : Field := ⟨THM_LOOP_STATUS i, 31, 31⟩
abbrev THM_LOOP_STATUS_NODE_BOUND (i : Nat) : Field := ⟨THM_LOOP_STATUS i, 30, 30⟩
/-- R230: PST_PROT_CTRL. -/
abbrev PST_PROT_CTRL : Nat := 0x060000
abbrev PST_PROT_CTRL_HOT_ADD_EN : Field := ⟨PST_PROT_CTRL, 0, 0⟩
/-- R230: PST_PROT_STATUS. -/
abbrev PST_PROT_STATUS : Nat := 0x060004
abbrev PST_PROT_STATUS_TIME_VALID : Field := ⟨PST_PROT_STATUS, 31, 24⟩
abbrev PST_PROT_STATUS_BREAK : Field := ⟨PST_PROT_STATUS, 23, 16⟩
abbrev PST_PROT_STATUS_PAIR_BAD : Field := ⟨PST_PROT_STATUS, 8, 8⟩
abbrev PST_PROT_STATUS_NODES : Field := ⟨PST_PROT_STATUS, 7, 0⟩
/-- R230: PST_ADMIT. -/
abbrev PST_ADMIT : Nat := 0x060008
abbrev PST_ADMIT_FORGET : Field := ⟨PST_ADMIT, 9, 9⟩
abbrev PST_ADMIT_ACCEPT : Field := ⟨PST_ADMIT, 8, 8⟩
abbrev PST_ADMIT_INDEX : Field := ⟨PST_ADMIT, 6, 0⟩
/-- R229: PST_FRAME_ERR. -/
abbrev PST_FRAME_ERR : Nat := 0x06000C
abbrev PST_FRAME_ERR_VALUE : Field := ⟨PST_FRAME_ERR, 31, 0⟩
/-- R229: PST_EDGE_LATE. -/
abbrev PST_EDGE_LATE : Nat := 0x060010
abbrev PST_EDGE_LATE_VALUE : Field := ⟨PST_EDGE_LATE, 31, 0⟩
/-- R230: PST_CEN_STATUS (8 instances). -/
abbrev PST_CEN_STATUS (i : Nat) : Nat := 0x060100 + 64 * (i % 8)
abbrev PST_CEN_STATUS_BREAK_TO (i : Nat) : Field := ⟨PST_CEN_STATUS i, 31, 27⟩
abbrev PST_CEN_STATUS_BREAK_FROM (i : Nat) : Field := ⟨PST_CEN_STATUS i, 26, 22⟩
abbrev PST_CEN_STATUS_BREAK_KIND (i : Nat) : Field := ⟨PST_CEN_STATUS i, 21, 19⟩
abbrev PST_CEN_STATUS_NODES (i : Nat) : Field := ⟨PST_CEN_STATUS i, 4, 0⟩
/-- R230: PST_CEN_LAT (8 instances). -/
abbrev PST_CEN_LAT (i : Nat) : Nat := 0x060104 + 64 * (i % 8)
abbrev PST_CEN_LAT_LAT (i : Nat) : Field := ⟨PST_CEN_LAT i, 31, 0⟩
/-- R230: PST_CEN_RESID (8 instances). -/
abbrev PST_CEN_RESID (i : Nat) : Nat := 0x060108 + 64 * (i % 8)
abbrev PST_CEN_RESID_E (i : Nat) : Field := ⟨PST_CEN_RESID i, 31, 0⟩
/-- R230: PST_CEN_TIME (8 instances). -/
abbrev PST_CEN_TIME (i : Nat) : Nat := 0x06010C + 64 * (i % 8)
abbrev PST_CEN_TIME_TIME_VALID (i : Nat) : Field := ⟨PST_CEN_TIME i, 31, 31⟩
abbrev PST_CEN_TIME_MISMATCH (i : Nat) : Field := ⟨PST_CEN_TIME i, 30, 30⟩
abbrev PST_CEN_TIME_UNRESOLVED (i : Nat) : Field := ⟨PST_CEN_TIME i, 29, 29⟩
abbrev PST_CEN_TIME_HELD (i : Nat) : Field := ⟨PST_CEN_TIME i, 28, 28⟩
abbrev PST_CEN_TIME_LINK_MISSING (i : Nat) : Field := ⟨PST_CEN_TIME i, 16, 0⟩
/-- R230: PST_CEN_LINK1 (8 instances). -/
abbrev PST_CEN_LINK1 (i : Nat) : Nat := 0x060110 + 64 * (i % 8)
abbrev PST_CEN_LINK1_C1 (i : Nat) : Field := ⟨PST_CEN_LINK1 i, 31, 0⟩
/-- R230: PST_CEN_COUNT (8 instances). -/
abbrev PST_CEN_COUNT (i : Nat) : Nat := 0x060114 + 64 * (i % 8)
abbrev PST_CEN_COUNT_UNCLAIMED (i : Nat) : Field := ⟨PST_CEN_COUNT i, 31, 16⟩
abbrev PST_CEN_COUNT_CENSUS (i : Nat) : Field := ⟨PST_CEN_COUNT i, 15, 0⟩
/-- R193: PST_PHY_SUMMARY. -/
abbrev PST_PHY_SUMMARY : Nat := 0x060F00
abbrev PST_PHY_SUMMARY_TEST : Field := ⟨PST_PHY_SUMMARY, 31, 24⟩
abbrev PST_PHY_SUMMARY_FAILED : Field := ⟨PST_PHY_SUMMARY, 23, 16⟩
abbrev PST_PHY_SUMMARY_LOCKED : Field := ⟨PST_PHY_SUMMARY, 15, 8⟩
abbrev PST_PHY_SUMMARY_UP : Field := ⟨PST_PHY_SUMMARY, 7, 0⟩
/-- R193: PST_TWIN. -/
abbrev PST_TWIN : Nat := 0x060F04
abbrev PST_TWIN_REV : Field := ⟨PST_TWIN, 11, 8⟩
abbrev PST_TWIN_EN : Field := ⟨PST_TWIN, 3, 0⟩
/-- R193: PST_PHY_REJECT_CNT. -/
abbrev PST_PHY_REJECT_CNT : Nat := 0x060F08
abbrev PST_PHY_REJECT_CNT_CNT : Field := ⟨PST_PHY_REJECT_CNT, 15, 0⟩
/-- R194: PST_PHY_CTL (8 instances). -/
abbrev PST_PHY_CTL (i : Nat) : Nat := 0x061000 + 256 * (i % 8)
abbrev PST_PHY_CTL_EN (i : Nat) : Field := ⟨PST_PHY_CTL i, 31, 31⟩
abbrev PST_PHY_CTL_TX_INV (i : Nat) : Field := ⟨PST_PHY_CTL i, 30, 30⟩
abbrev PST_PHY_CTL_RX_INV_AUTO (i : Nat) : Field := ⟨PST_PHY_CTL i, 29, 29⟩
abbrev PST_PHY_CTL_ADAPT_FREEZE (i : Nat) : Field := ⟨PST_PHY_CTL i, 28, 28⟩
abbrev PST_PHY_CTL_LOOP (i : Nat) : Field := ⟨PST_PHY_CTL i, 27, 26⟩
abbrev PST_PHY_CTL_PRBS_GEN (i : Nat) : Field := ⟨PST_PHY_CTL i, 25, 25⟩
abbrev PST_PHY_CTL_PRBS_CHK (i : Nat) : Field := ⟨PST_PHY_CTL i, 24, 24⟩
abbrev PST_PHY_CTL_FOM_WARN (i : Nat) : Field := ⟨PST_PHY_CTL i, 15, 8⟩
abbrev PST_PHY_CTL_RESTART (i : Nat) : Field := ⟨PST_PHY_CTL i, 0, 0⟩
/-- R194: PST_PHY_STATE (8 instances). -/
abbrev PST_PHY_STATE (i : Nat) : Nat := 0x061004 + 256 * (i % 8)
abbrev PST_PHY_STATE_STATE (i : Nat) : Field := ⟨PST_PHY_STATE i, 31, 28⟩
abbrev PST_PHY_STATE_LAST_FAIL (i : Nat) : Field := ⟨PST_PHY_STATE i, 27, 24⟩
abbrev PST_PHY_STATE_ATTEMPTS (i : Nat) : Field := ⟨PST_PHY_STATE i, 23, 16⟩
abbrev PST_PHY_STATE_LOCKED (i : Nat) : Field := ⟨PST_PHY_STATE i, 15, 15⟩
abbrev PST_PHY_STATE_RX_INV (i : Nat) : Field := ⟨PST_PHY_STATE i, 14, 14⟩
abbrev PST_PHY_STATE_SIG_DET (i : Nat) : Field := ⟨PST_PHY_STATE i, 13, 13⟩
abbrev PST_PHY_STATE_UP_MS (i : Nat) : Field := ⟨PST_PHY_STATE i, 11, 0⟩
/-- R194: PST_PHY_TX (8 instances). -/
abbrev PST_PHY_TX (i : Nat) : Nat := 0x061008 + 256 * (i % 8)
abbrev PST_PHY_TX_SWING (i : Nat) : Field := ⟨PST_PHY_TX i, 9, 8⟩
abbrev PST_PHY_TX_POST (i : Nat) : Field := ⟨PST_PHY_TX i, 7, 4⟩
abbrev PST_PHY_TX_PRE (i : Nat) : Field := ⟨PST_PHY_TX i, 2, 0⟩
/-- R194: PST_PHY_EQ (8 instances). -/
abbrev PST_PHY_EQ (i : Nat) : Nat := 0x06100C + 256 * (i % 8)
abbrev PST_PHY_EQ_FOM (i : Nat) : Field := ⟨PST_PHY_EQ i, 31, 24⟩
abbrev PST_PHY_EQ_FOM_MIN (i : Nat) : Field := ⟨PST_PHY_EQ i, 23, 16⟩
abbrev PST_PHY_EQ_CTLE (i : Nat) : Field := ⟨PST_PHY_EQ i, 3, 0⟩
/-- R194: PST_PHY_DFE (8 instances). -/
abbrev PST_PHY_DFE (i : Nat) : Nat := 0x061010 + 256 * (i % 8)
abbrev PST_PHY_DFE_TAP5 (i : Nat) : Field := ⟨PST_PHY_DFE i, 29, 24⟩
abbrev PST_PHY_DFE_TAP4 (i : Nat) : Field := ⟨PST_PHY_DFE i, 23, 18⟩
abbrev PST_PHY_DFE_TAP3 (i : Nat) : Field := ⟨PST_PHY_DFE i, 17, 12⟩
abbrev PST_PHY_DFE_TAP2 (i : Nat) : Field := ⟨PST_PHY_DFE i, 11, 6⟩
abbrev PST_PHY_DFE_TAP1 (i : Nat) : Field := ⟨PST_PHY_DFE i, 5, 0⟩
/-- R194: PST_PHY_BLKERR (8 instances). -/
abbrev PST_PHY_BLKERR (i : Nat) : Nat := 0x061014 + 256 * (i % 8)
abbrev PST_PHY_BLKERR_BLKERR (i : Nat) : Field := ⟨PST_PHY_BLKERR i, 31, 0⟩
/-- R194: PST_PHY_LOCKLOSS (8 instances). -/
abbrev PST_PHY_LOCKLOSS (i : Nat) : Nat := 0x061018 + 256 * (i % 8)
abbrev PST_PHY_LOCKLOSS_LOCKLOSS (i : Nat) : Field := ⟨PST_PHY_LOCKLOSS i, 15, 0⟩
/-- R194: PST_PHY_PRBS (8 instances). -/
abbrev PST_PHY_PRBS (i : Nat) : Nat := 0x06101C + 256 * (i % 8)
abbrev PST_PHY_PRBS_PRBS_LOCK (i : Nat) : Field := ⟨PST_PHY_PRBS i, 31, 31⟩
abbrev PST_PHY_PRBS_ERR (i : Nat) : Field := ⟨PST_PHY_PRBS i, 30, 0⟩
/-- R230: PST_NODE_ID_LO (128 instances). -/
abbrev PST_NODE_ID_LO (i : Nat) : Nat := 0x062000 + 32 * (i % 128)
abbrev PST_NODE_ID_LO_ID (i : Nat) : Field := ⟨PST_NODE_ID_LO i, 31, 0⟩
/-- R230: PST_NODE_ID_HI (128 instances). -/
abbrev PST_NODE_ID_HI (i : Nat) : Nat := 0x062004 + 32 * (i % 128)
abbrev PST_NODE_ID_HI_ID (i : Nat) : Field := ⟨PST_NODE_ID_HI i, 31, 0⟩
/-- R230: PST_NODE_INFO (128 instances). -/
abbrev PST_NODE_INFO (i : Nat) : Nat := 0x062008 + 32 * (i % 128)
abbrev PST_NODE_INFO_STATE (i : Nat) : Field := ⟨PST_NODE_INFO i, 31, 29⟩
abbrev PST_NODE_INFO_REFUSE (i : Nat) : Field := ⟨PST_NODE_INFO i, 28, 26⟩
abbrev PST_NODE_INFO_PISTE (i : Nat) : Field := ⟨PST_NODE_INFO i, 25, 23⟩
abbrev PST_NODE_INFO_HOP (i : Nat) : Field := ⟨PST_NODE_INFO i, 22, 18⟩
abbrev PST_NODE_INFO_HOP2 (i : Nat) : Field := ⟨PST_NODE_INFO i, 17, 13⟩
abbrev PST_NODE_INFO_TWIN (i : Nat) : Field := ⟨PST_NODE_INFO i, 12, 12⟩
abbrev PST_NODE_INFO_TIME_STALE (i : Nat) : Field := ⟨PST_NODE_INFO i, 11, 11⟩
abbrev PST_NODE_INFO_STALE_TRI (i : Nat) : Field := ⟨PST_NODE_INFO i, 10, 10⟩
abbrev PST_NODE_INFO_ECHO_OK (i : Nat) : Field := ⟨PST_NODE_INFO i, 9, 9⟩
abbrev PST_NODE_INFO_ODD_TIME (i : Nat) : Field := ⟨PST_NODE_INFO i, 8, 8⟩
abbrev PST_NODE_INFO_CLASS (i : Nat) : Field := ⟨PST_NODE_INFO i, 7, 0⟩
/-- R230: PST_NODE_PATH (128 instances). -/
abbrev PST_NODE_PATH (i : Nat) : Nat := 0x06200C + 32 * (i % 128)
abbrev PST_NODE_PATH_PATH (i : Nat) : Field := ⟨PST_NODE_PATH i, 31, 0⟩
/-- R230: PST_NODE_DELAY (128 instances). -/
abbrev PST_NODE_DELAY (i : Nat) : Nat := 0x062010 + 32 * (i % 128)
abbrev PST_NODE_DELAY_LINK_DN (i : Nat) : Field := ⟨PST_NODE_DELAY i, 31, 16⟩
abbrev PST_NODE_DELAY_RESID (i : Nat) : Field := ⟨PST_NODE_DELAY i, 15, 0⟩
/-- R230: PST_NODE_MAKER (128 instances). -/
abbrev PST_NODE_MAKER (i : Nat) : Nat := 0x062014 + 32 * (i % 128)
abbrev PST_NODE_MAKER_FW (i : Nat) : Field := ⟨PST_NODE_MAKER i, 31, 16⟩
abbrev PST_NODE_MAKER_MAKER (i : Nat) : Field := ⟨PST_NODE_MAKER i, 15, 0⟩
/-- R230: PST_NODE_ERR (128 instances). -/
abbrev PST_NODE_ERR (i : Nat) : Nat := 0x062018 + 32 * (i % 128)
abbrev PST_NODE_ERR_CRC (i : Nat) : Field := ⟨PST_NODE_ERR i, 31, 16⟩
abbrev PST_NODE_ERR_MISSED (i : Nat) : Field := ⟨PST_NODE_ERR i, 15, 0⟩
/-- R230: PST_NODE_AGE (128 instances). -/
abbrev PST_NODE_AGE (i : Nat) : Nat := 0x06201C + 32 * (i % 128)
abbrev PST_NODE_AGE_AGE (i : Nat) : Field := ⟨PST_NODE_AGE i, 15, 0⟩
/-- R261: SLN_CTRL. -/
abbrev SLN_CTRL : Nat := 0x070000
abbrev SLN_CTRL_EN : Field := ⟨SLN_CTRL, 31, 31⟩
abbrev SLN_CTRL_AUTO_ADMIT : Field := ⟨SLN_CTRL, 30, 30⟩
abbrev SLN_CTRL_SF_LEN : Field := ⟨SLN_CTRL, 23, 16⟩
abbrev SLN_CTRL_MAX_RETX : Field := ⟨SLN_CTRL, 15, 8⟩
abbrev SLN_CTRL_LOST_POLLS : Field := ⟨SLN_CTRL, 7, 0⟩
/-- R261: SLN_STATUS. -/
abbrev SLN_STATUS : Nat := 0x070004
abbrev SLN_STATUS_MODE : Field := ⟨SLN_STATUS, 31, 31⟩
abbrev SLN_STATUS_NOISE : Field := ⟨SLN_STATUS, 30, 30⟩
abbrev SLN_STATUS_DISP_OFF : Field := ⟨SLN_STATUS, 29, 29⟩
abbrev SLN_STATUS_RELAYS : Field := ⟨SLN_STATUS, 19, 16⟩
abbrev SLN_STATUS_PENDING : Field := ⟨SLN_STATUS, 15, 8⟩
abbrev SLN_STATUS_PRESENT : Field := ⟨SLN_STATUS, 7, 0⟩
/-- R260: SLN_REJECT_CNT. -/
abbrev SLN_REJECT_CNT : Nat := 0x070008
abbrev SLN_REJECT_CNT_CNT : Field := ⟨SLN_REJECT_CNT, 15, 0⟩
/-- R260: SLN_SF_NUM. -/
abbrev SLN_SF_NUM : Nat := 0x07000C
abbrev SLN_SF_NUM_VALUE : Field := ⟨SLN_SF_NUM, 31, 0⟩
/-- R261: SLN_NOISE. -/
abbrev SLN_NOISE : Nat := 0x070010
abbrev SLN_NOISE_THRESH : Field := ⟨SLN_NOISE, 31, 24⟩
abbrev SLN_NOISE_HOLD : Field := ⟨SLN_NOISE, 23, 16⟩
abbrev SLN_NOISE_MAX_DEFER : Field := ⟨SLN_NOISE, 15, 8⟩
abbrev SLN_NOISE_LSW_HOLD : Field := ⟨SLN_NOISE, 0, 0⟩
/-- R261: SLN_TX. -/
abbrev SLN_TX : Nat := 0x070014
abbrev SLN_TX_ATTEN : Field := ⟨SLN_TX, 12, 8⟩
abbrev SLN_TX_NOTCH_EN : Field := ⟨SLN_TX, 7, 0⟩
/-- R261: SLN_NOTCH (8 instances). -/
abbrev SLN_NOTCH (i : Nat) : Nat := 0x070020 + 4 * (i % 8)
abbrev SLN_NOTCH_LAST (i : Nat) : Field := ⟨SLN_NOTCH i, 25, 16⟩
abbrev SLN_NOTCH_FIRST (i : Nat) : Field := ⟨SLN_NOTCH i, 9, 0⟩
/-- R261: SLN_DISP_CFG. -/
abbrev SLN_DISP_CFG : Nat := 0x070040
abbrev SLN_DISP_CFG_EN : Field := ⟨SLN_DISP_CFG, 31, 31⟩
abbrev SLN_DISP_CFG_KEY_SLOT : Field := ⟨SLN_DISP_CFG, 5, 0⟩
/-- R261: SLN_ADMIT. -/
abbrev SLN_ADMIT : Nat := 0x070044
abbrev SLN_ADMIT_FORGET : Field := ⟨SLN_ADMIT, 9, 9⟩
abbrev SLN_ADMIT_ACCEPT : Field := ⟨SLN_ADMIT, 8, 8⟩
abbrev SLN_ADMIT_INDEX : Field := ⟨SLN_ADMIT, 7, 0⟩
/-- R260: SLN_CNT_DEFER. -/
abbrev SLN_CNT_DEFER : Nat := 0x070050
abbrev SLN_CNT_DEFER_VALUE : Field := ⟨SLN_CNT_DEFER, 31, 0⟩
/-- R260: SLN_CNT_RETX. -/
abbrev SLN_CNT_RETX : Nat := 0x070054
abbrev SLN_CNT_RETX_VALUE : Field := ⟨SLN_CNT_RETX, 31, 0⟩
/-- R260: SLN_CNT_DROP. -/
abbrev SLN_CNT_DROP : Nat := 0x070058
abbrev SLN_CNT_DROP_VALUE : Field := ⟨SLN_CNT_DROP, 31, 0⟩
/-- R260: SLN_CNT_SLIP. -/
abbrev SLN_CNT_SLIP : Nat := 0x07005C
abbrev SLN_CNT_SLIP_VALUE : Field := ⟨SLN_CNT_SLIP, 31, 0⟩
/-- R260: SLN_CNT_CRC. -/
abbrev SLN_CNT_CRC : Nat := 0x070060
abbrev SLN_CNT_CRC_VALUE : Field := ⟨SLN_CNT_CRC, 31, 0⟩
/-- R262: SLN_NODE_ID_LO (250 instances). -/
abbrev SLN_NODE_ID_LO (i : Nat) : Nat := 0x071000 + 32 * (i % 250)
abbrev SLN_NODE_ID_LO_ID (i : Nat) : Field := ⟨SLN_NODE_ID_LO i, 31, 0⟩
/-- R262: SLN_NODE_ID_HI (250 instances). -/
abbrev SLN_NODE_ID_HI (i : Nat) : Nat := 0x071004 + 32 * (i % 250)
abbrev SLN_NODE_ID_HI_ID (i : Nat) : Field := ⟨SLN_NODE_ID_HI i, 31, 0⟩
/-- R262: SLN_NODE_INFO (250 instances). -/
abbrev SLN_NODE_INFO (i : Nat) : Nat := 0x071008 + 32 * (i % 250)
abbrev SLN_NODE_INFO_STATE (i : Nat) : Field := ⟨SLN_NODE_INFO i, 31, 29⟩
abbrev SLN_NODE_INFO_REFUSE (i : Nat) : Field := ⟨SLN_NODE_INFO i, 28, 27⟩
abbrev SLN_NODE_INFO_RELAY (i : Nat) : Field := ⟨SLN_NODE_INFO i, 26, 26⟩
abbrev SLN_NODE_INFO_RELAYS (i : Nat) : Field := ⟨SLN_NODE_INFO i, 25, 24⟩
abbrev SLN_NODE_INFO_VIA (i : Nat) : Field := ⟨SLN_NODE_INFO i, 23, 16⟩
abbrev SLN_NODE_INFO_CLASS (i : Nat) : Field := ⟨SLN_NODE_INFO i, 15, 8⟩
/-- R262: SLN_NODE_LINK (250 instances). -/
abbrev SLN_NODE_LINK (i : Nat) : Nat := 0x07100C + 32 * (i % 250)
abbrev SLN_NODE_LINK_TOLL (i : Nat) : Field := ⟨SLN_NODE_LINK i, 31, 24⟩
abbrev SLN_NODE_LINK_RATE_DN (i : Nat) : Field := ⟨SLN_NODE_LINK i, 23, 12⟩
abbrev SLN_NODE_LINK_RATE_UP (i : Nat) : Field := ⟨SLN_NODE_LINK i, 11, 0⟩
/-- R262: SLN_NODE_CFG (250 instances). -/
abbrev SLN_NODE_CFG (i : Nat) : Nat := 0x071010 + 32 * (i % 250)
abbrev SLN_NODE_CFG_DISP_EN (i : Nat) : Field := ⟨SLN_NODE_CFG i, 12, 12⟩
abbrev SLN_NODE_CFG_OUTLET (i : Nat) : Field := ⟨SLN_NODE_CFG i, 11, 8⟩
abbrev SLN_NODE_CFG_POLL_EVERY (i : Nat) : Field := ⟨SLN_NODE_CFG i, 5, 0⟩
/-- R262: SLN_NODE_ERR (250 instances). -/
abbrev SLN_NODE_ERR (i : Nat) : Nat := 0x071014 + 32 * (i % 250)
abbrev SLN_NODE_ERR_CRC (i : Nat) : Field := ⟨SLN_NODE_ERR i, 31, 16⟩
abbrev SLN_NODE_ERR_MISSED (i : Nat) : Field := ⟨SLN_NODE_ERR i, 15, 0⟩
/-- R262: SLN_NODE_AGE (250 instances). -/
abbrev SLN_NODE_AGE (i : Nat) : Nat := 0x071018 + 32 * (i % 250)
abbrev SLN_NODE_AGE_AGE (i : Nat) : Field := ⟨SLN_NODE_AGE i, 15, 0⟩
/-- R282: VSS_CTRL. -/
abbrev VSS_CTRL : Nat := 0x080000
abbrev VSS_CTRL_EN : Field := ⟨VSS_CTRL, 0, 0⟩
/-- R282: VSS_STATUS. -/
abbrev VSS_STATUS : Nat := 0x080004
abbrev VSS_STATUS_ACTIVE : Field := ⟨VSS_STATUS, 31, 16⟩
abbrev VSS_STATUS_ENERGISED : Field := ⟨VSS_STATUS, 15, 0⟩
/-- R281: VSS_REJECT_CNT. -/
abbrev VSS_REJECT_CNT : Nat := 0x080008
abbrev VSS_REJECT_CNT_CNT : Field := ⟨VSS_REJECT_CNT, 15, 0⟩
/-- R282: VSS_TIMERS. -/
abbrev VSS_TIMERS : Nat := 0x08000C
abbrev VSS_TIMERS_AUTH : Field := ⟨VSS_TIMERS, 31, 24⟩
abbrev VSS_TIMERS_CHECK_MAX : Field := ⟨VSS_TIMERS, 23, 16⟩
abbrev VSS_TIMERS_HOLD_MAX : Field := ⟨VSS_TIMERS, 15, 8⟩
abbrev VSS_TIMERS_LOOP : Field := ⟨VSS_TIMERS, 7, 0⟩
/-- R281: VSS_PROTO_ERR. -/
abbrev VSS_PROTO_ERR : Nat := 0x080010
abbrev VSS_PROTO_ERR_VALUE : Field := ⟨VSS_PROTO_ERR, 31, 0⟩
/-- R283: VSS_OUT_CFG (16 instances). -/
abbrev VSS_OUT_CFG (i : Nat) : Nat := 0x081000 + 64 * (i % 16)
abbrev VSS_OUT_CFG_EN (i : Nat) : Field := ⟨VSS_OUT_CFG i, 31, 31⟩
abbrev VSS_OUT_CFG_PNC_EN (i : Nat) : Field := ⟨VSS_OUT_CFG i, 30, 30⟩
abbrev VSS_OUT_CFG_EIM_EN (i : Nat) : Field := ⟨VSS_OUT_CFG i, 29, 29⟩
abbrev VSS_OUT_CFG_BPT_EN (i : Nat) : Field := ⟨VSS_OUT_CFG i, 28, 28⟩
abbrev VSS_OUT_CFG_PLAIN_EN (i : Nat) : Field := ⟨VSS_OUT_CFG i, 27, 27⟩
abbrev VSS_OUT_CFG_P20_EN (i : Nat) : Field := ⟨VSS_OUT_CFG i, 26, 26⟩
abbrev VSS_OUT_CFG_P2_EN (i : Nat) : Field := ⟨VSS_OUT_CFG i, 25, 25⟩
abbrev VSS_OUT_CFG_MCS (i : Nat) : Field := ⟨VSS_OUT_CFG i, 24, 24⟩
abbrev VSS_OUT_CFG_CONT_CH (i : Nat) : Field := ⟨VSS_OUT_CFG i, 23, 19⟩
abbrev VSS_OUT_CFG_CONT_EN (i : Nat) : Field := ⟨VSS_OUT_CFG i, 18, 18⟩
abbrev VSS_OUT_CFG_PRE_SLOT (i : Nat) : Field := ⟨VSS_OUT_CFG i, 17, 11⟩
abbrev VSS_OUT_CFG_PRE_EN (i : Nat) : Field := ⟨VSS_OUT_CFG i, 10, 10⟩
/-- R283: VSS_OUT_LIM (16 instances). -/
abbrev VSS_OUT_LIM (i : Nat) : Nat := 0x081004 + 64 * (i % 16)
abbrev VSS_OUT_LIM_I_MAX (i : Nat) : Field := ⟨VSS_OUT_LIM i, 31, 16⟩
abbrev VSS_OUT_LIM_V_MAX (i : Nat) : Field := ⟨VSS_OUT_LIM i, 15, 0⟩
/-- R283: VSS_OUT_ISO (16 instances). -/
abbrev VSS_OUT_ISO (i : Nat) : Nat := 0x081008 + 64 * (i % 16)
abbrev VSS_OUT_ISO_ISO_WARN (i : Nat) : Field := ⟨VSS_OUT_ISO i, 31, 16⟩
abbrev VSS_OUT_ISO_ISO_FAULT (i : Nat) : Field := ⟨VSS_OUT_ISO i, 15, 0⟩
/-- R283: VSS_OUT_TLS (16 instances). -/
abbrev VSS_OUT_TLS (i : Nat) : Nat := 0x08100C + 64 * (i % 16)
abbrev VSS_OUT_TLS_TLS_SLOT (i : Nat) : Field := ⟨VSS_OUT_TLS i, 5, 0⟩
/-- R283: VSS_OUT_NODE_LO (16 instances). -/
abbrev VSS_OUT_NODE_LO (i : Nat) : Nat := 0x081010 + 64 * (i % 16)
abbrev VSS_OUT_NODE_LO_ID (i : Nat) : Field := ⟨VSS_OUT_NODE_LO i, 31, 0⟩
/-- R283: VSS_OUT_NODE_HI (16 instances). -/
abbrev VSS_OUT_NODE_HI (i : Nat) : Nat := 0x081014 + 64 * (i % 16)
abbrev VSS_OUT_NODE_HI_ID (i : Nat) : Field := ⟨VSS_OUT_NODE_HI i, 31, 0⟩
/-- R283: VSS_OUT_MAC_LO (16 instances). -/
abbrev VSS_OUT_MAC_LO (i : Nat) : Nat := 0x081018 + 64 * (i % 16)
abbrev VSS_OUT_MAC_LO_MAC (i : Nat) : Field := ⟨VSS_OUT_MAC_LO i, 31, 0⟩
/-- R283: VSS_OUT_MAC_HI (16 instances). -/
abbrev VSS_OUT_MAC_HI (i : Nat) : Nat := 0x08101C + 64 * (i % 16)
abbrev VSS_OUT_MAC_HI_MAC (i : Nat) : Field := ⟨VSS_OUT_MAC_HI i, 15, 0⟩
/-- R283: VSS_OUT_STATE (16 instances). -/
abbrev VSS_OUT_STATE (i : Nat) : Nat := 0x081020 + 64 * (i % 16)
abbrev VSS_OUT_STATE_STATE (i : Nat) : Field := ⟨VSS_OUT_STATE i, 31, 28⟩
abbrev VSS_OUT_STATE_PROTO (i : Nat) : Field := ⟨VSS_OUT_STATE i, 27, 26⟩
abbrev VSS_OUT_STATE_TLS (i : Nat) : Field := ⟨VSS_OUT_STATE i, 25, 25⟩
abbrev VSS_OUT_STATE_PNC (i : Nat) : Field := ⟨VSS_OUT_STATE i, 24, 24⟩
abbrev VSS_OUT_STATE_BPT (i : Nat) : Field := ⟨VSS_OUT_STATE i, 23, 23⟩
abbrev VSS_OUT_STATE_TIME_UNCHECKED (i : Nat) : Field := ⟨VSS_OUT_STATE i, 22, 22⟩
abbrev VSS_OUT_STATE_WELD (i : Nat) : Field := ⟨VSS_OUT_STATE i, 21, 21⟩
abbrev VSS_OUT_STATE_WAIT (i : Nat) : Field := ⟨VSS_OUT_STATE i, 20, 16⟩
abbrev VSS_OUT_STATE_REASON (i : Nat) : Field := ⟨VSS_OUT_STATE i, 15, 8⟩
abbrev VSS_OUT_STATE_OUTCOME (i : Nat) : Field := ⟨VSS_OUT_STATE i, 7, 4⟩
/-- R283: VSS_OUT_CTL (16 instances). -/
abbrev VSS_OUT_CTL (i : Nat) : Nat := 0x081024 + 64 * (i % 16)
abbrev VSS_OUT_CTL_WELD_CLEAR (i : Nat) : Field := ⟨VSS_OUT_CTL i, 2, 2⟩
abbrev VSS_OUT_CTL_STOP (i : Nat) : Field := ⟨VSS_OUT_CTL i, 1, 1⟩
/-- R283: VSS_OUT_SID_LO (16 instances). -/
abbrev VSS_OUT_SID_LO (i : Nat) : Nat := 0x081028 + 64 * (i % 16)
abbrev VSS_OUT_SID_LO_SID (i : Nat) : Field := ⟨VSS_OUT_SID_LO i, 31, 0⟩
/-- R283: VSS_OUT_SID_HI (16 instances). -/
abbrev VSS_OUT_SID_HI (i : Nat) : Nat := 0x08102C + 64 * (i % 16)
abbrev VSS_OUT_SID_HI_SID (i : Nat) : Field := ⟨VSS_OUT_SID_HI i, 31, 0⟩
/-- R283: VSS_OUT_REQ (16 instances). -/
abbrev VSS_OUT_REQ (i : Nat) : Nat := 0x081030 + 64 * (i % 16)
abbrev VSS_OUT_REQ_P_REQ (i : Nat) : Field := ⟨VSS_OUT_REQ i, 31, 0⟩
/-- R283: VSS_OUT_EVLIM (16 instances). -/
abbrev VSS_OUT_EVLIM (i : Nat) : Nat := 0x081034 + 64 * (i % 16)
abbrev VSS_OUT_EVLIM_EV_IMAX (i : Nat) : Field := ⟨VSS_OUT_EVLIM i, 31, 16⟩
abbrev VSS_OUT_EVLIM_EV_VMAX (i : Nat) : Field := ⟨VSS_OUT_EVLIM i, 15, 0⟩
/-- R301: CAN_SUMMARY. -/
abbrev CAN_SUMMARY : Nat := 0x090000
abbrev CAN_SUMMARY_PASSIVE : Field := ⟨CAN_SUMMARY, 11, 8⟩
abbrev CAN_SUMMARY_BUSOFF : Field := ⟨CAN_SUMMARY, 7, 4⟩
abbrev CAN_SUMMARY_ENABLED : Field := ⟨CAN_SUMMARY, 3, 0⟩
/-- R301: CAN_REJECT_CNT. -/
abbrev CAN_REJECT_CNT : Nat := 0x090008
abbrev CAN_REJECT_CNT_CNT : Field := ⟨CAN_REJECT_CNT, 15, 0⟩
/-- R302: CAN_CTL (4 instances). -/
abbrev CAN_CTL (i : Nat) : Nat := 0x091000 + 2048 * (i % 4)
abbrev CAN_CTL_EN (i : Nat) : Field := ⟨CAN_CTL i, 31, 31⟩
abbrev CAN_CTL_FD_EN (i : Nat) : Field := ⟨CAN_CTL i, 30, 30⟩
abbrev CAN_CTL_BRS_EN (i : Nat) : Field := ⟨CAN_CTL i, 29, 29⟩
abbrev CAN_CTL_AUTO_REC (i : Nat) : Field := ⟨CAN_CTL i, 28, 28⟩
abbrev CAN_CTL_ONE_SHOT (i : Nat) : Field := ⟨CAN_CTL i, 27, 27⟩
abbrev CAN_CTL_LOOP (i : Nat) : Field := ⟨CAN_CTL i, 26, 25⟩
abbrev CAN_CTL_SILENT (i : Nat) : Field := ⟨CAN_CTL i, 24, 24⟩
abbrev CAN_CTL_RESTRICTED (i : Nat) : Field := ⟨CAN_CTL i, 23, 23⟩
abbrev CAN_CTL_PXHD (i : Nat) : Field := ⟨CAN_CTL i, 22, 22⟩
abbrev CAN_CTL_SH_TX (i : Nat) : Field := ⟨CAN_CTL i, 21, 21⟩
abbrev CAN_CTL_WAKE_EN (i : Nat) : Field := ⟨CAN_CTL i, 20, 20⟩
abbrev CAN_CTL_TXORDER (i : Nat) : Field := ⟨CAN_CTL i, 19, 19⟩
abbrev CAN_CTL_RECOVER (i : Nat) : Field := ⟨CAN_CTL i, 8, 8⟩
abbrev CAN_CTL_BOFF_LIMIT (i : Nat) : Field := ⟨CAN_CTL i, 7, 0⟩
/-- R302: CAN_NBT (4 instances). -/
abbrev CAN_NBT (i : Nat) : Nat := 0x091004 + 2048 * (i % 4)
abbrev CAN_NBT_NBRP_M1 (i : Nat) : Field := ⟨CAN_NBT i, 31, 24⟩
abbrev CAN_NBT_NSJW_M1 (i : Nat) : Field := ⟨CAN_NBT i, 23, 17⟩
abbrev CAN_NBT_NTSEG1_M1 (i : Nat) : Field := ⟨CAN_NBT i, 15, 8⟩
abbrev CAN_NBT_NTSEG2_M1 (i : Nat) : Field := ⟨CAN_NBT i, 6, 0⟩
/-- R302: CAN_DBT (4 instances). -/
abbrev CAN_DBT (i : Nat) : Nat := 0x091008 + 2048 * (i % 4)
abbrev CAN_DBT_DBRP_M1 (i : Nat) : Field := ⟨CAN_DBT i, 20, 16⟩
abbrev CAN_DBT_DSJW_M1 (i : Nat) : Field := ⟨CAN_DBT i, 15, 12⟩
abbrev CAN_DBT_DTSEG2_M1 (i : Nat) : Field := ⟨CAN_DBT i, 11, 8⟩
abbrev CAN_DBT_DTSEG1_M1 (i : Nat) : Field := ⟨CAN_DBT i, 4, 0⟩
/-- R302: CAN_TDC (4 instances). -/
abbrev CAN_TDC (i : Nat) : Nat := 0x09100C + 2048 * (i % 4)
abbrev CAN_TDC_TDC_EN (i : Nat) : Field := ⟨CAN_TDC i, 31, 31⟩
abbrev CAN_TDC_TDCV (i : Nat) : Field := ⟨CAN_TDC i, 22, 16⟩
abbrev CAN_TDC_TDCF (i : Nat) : Field := ⟨CAN_TDC i, 14, 8⟩
abbrev CAN_TDC_TDCO (i : Nat) : Field := ⟨CAN_TDC i, 6, 0⟩
/-- R302: CAN_STATUS (4 instances). -/
abbrev CAN_STATUS (i : Nat) : Nat := 0x091010 + 2048 * (i % 4)
abbrev CAN_STATUS_STATE (i : Nat) : Field := ⟨CAN_STATUS i, 31, 30⟩
abbrev CAN_STATUS_RECOVERING (i : Nat) : Field := ⟨CAN_STATUS i, 29, 29⟩
abbrev CAN_STATUS_BOFF_LOCKED (i : Nat) : Field := ⟨CAN_STATUS i, 28, 28⟩
abbrev CAN_STATUS_WARN (i : Nat) : Field := ⟨CAN_STATUS i, 27, 27⟩
abbrev CAN_STATUS_PXE (i : Nat) : Field := ⟨CAN_STATUS i, 26, 26⟩
abbrev CAN_STATUS_TDC_SAT (i : Nat) : Field := ⟨CAN_STATUS i, 25, 25⟩
abbrev CAN_STATUS_RX_OVF (i : Nat) : Field := ⟨CAN_STATUS i, 24, 24⟩
abbrev CAN_STATUS_LEC (i : Nat) : Field := ⟨CAN_STATUS i, 18, 16⟩
abbrev CAN_STATUS_TX_PEND (i : Nat) : Field := ⟨CAN_STATUS i, 15, 8⟩
abbrev CAN_STATUS_BOFF_CNT (i : Nat) : Field := ⟨CAN_STATUS i, 7, 0⟩
/-- R302: CAN_ERRCNT (4 instances). -/
abbrev CAN_ERRCNT (i : Nat) : Nat := 0x091014 + 2048 * (i % 4)
abbrev CAN_ERRCNT_RP (i : Nat) : Field := ⟨CAN_ERRCNT i, 15, 15⟩
abbrev CAN_ERRCNT_REC (i : Nat) : Field := ⟨CAN_ERRCNT i, 14, 8⟩
abbrev CAN_ERRCNT_TEC (i : Nat) : Field := ⟨CAN_ERRCNT i, 7, 0⟩
/-- R302: CAN_RING (4 instances). -/
abbrev CAN_RING (i : Nat) : Nat := 0x091018 + 2048 * (i % 4)
abbrev CAN_RING_TX_RING (i : Nat) : Field := ⟨CAN_RING i, 31, 24⟩
abbrev CAN_RING_TX_EN (i : Nat) : Field := ⟨CAN_RING i, 23, 23⟩
abbrev CAN_RING_DEF_RING (i : Nat) : Field := ⟨CAN_RING i, 15, 8⟩
abbrev CAN_RING_DEF_EN (i : Nat) : Field := ⟨CAN_RING i, 7, 7⟩
/-- R302: CAN_CNT_RX (4 instances). -/
abbrev CAN_CNT_RX (i : Nat) : Nat := 0x091020 + 2048 * (i % 4)
abbrev CAN_CNT_RX_CNT (i : Nat) : Field := ⟨CAN_CNT_RX i, 31, 0⟩
/-- R302: CAN_CNT_TX (4 instances). -/
abbrev CAN_CNT_TX (i : Nat) : Nat := 0x091024 + 2048 * (i % 4)
abbrev CAN_CNT_TX_CNT (i : Nat) : Field := ⟨CAN_CNT_TX i, 31, 0⟩
/-- R302: CAN_CNT_DROP (4 instances). -/
abbrev CAN_CNT_DROP (i : Nat) : Nat := 0x091028 + 2048 * (i % 4)
abbrev CAN_CNT_DROP_CNT (i : Nat) : Field := ⟨CAN_CNT_DROP i, 31, 0⟩
/-- R302: CAN_CNT_BOFF (4 instances). -/
abbrev CAN_CNT_BOFF (i : Nat) : Nat := 0x09102C + 2048 * (i % 4)
abbrev CAN_CNT_BOFF_CNT (i : Nat) : Field := ⟨CAN_CNT_BOFF i, 31, 0⟩
/-- R302: CAN_FLT_ID (4 by 64 instances). -/
abbrev CAN_FLT_ID (i j : Nat) : Nat := 0x091400 + 2048 * (i % 4) + 16 * (j % 64)
abbrev CAN_FLT_ID_EN (i j : Nat) : Field := ⟨CAN_FLT_ID i j, 31, 31⟩
abbrev CAN_FLT_ID_IDE (i j : Nat) : Field := ⟨CAN_FLT_ID i j, 30, 30⟩
abbrev CAN_FLT_ID_ID (i j : Nat) : Field := ⟨CAN_FLT_ID i j, 28, 0⟩
/-- R302: CAN_FLT_MASK (4 by 64 instances). -/
abbrev CAN_FLT_MASK (i j : Nat) : Nat := 0x091404 + 2048 * (i % 4) + 16 * (j % 64)
abbrev CAN_FLT_MASK_MASK (i j : Nat) : Field := ⟨CAN_FLT_MASK i j, 28, 0⟩
/-- R302: CAN_FLT_DEST (4 by 64 instances). -/
abbrev CAN_FLT_DEST (i j : Nat) : Nat := 0x091408 + 2048 * (i % 4) + 16 * (j % 64)
abbrev CAN_FLT_DEST_DEST (i j : Nat) : Field := ⟨CAN_FLT_DEST i j, 31, 30⟩
abbrev CAN_FLT_DEST_STRING (i j : Nat) : Field := ⟨CAN_FLT_DEST i j, 29, 24⟩
abbrev CAN_FLT_DEST_RING (i j : Nat) : Field := ⟨CAN_FLT_DEST i j, 15, 8⟩
/-- R330: MTR_CFG. -/
abbrev MTR_CFG : Nat := 0x0A0000
abbrev MTR_CFG_HGRP : Field := ⟨MTR_CFG, 1, 1⟩
abbrev MTR_CFG_FNOM : Field := ⟨MTR_CFG, 0, 0⟩
/-- R330: MTR_STATUS. -/
abbrev MTR_STATUS : Nat := 0x0A0004
abbrev MTR_STATUS_LOSS_UNBOUNDED : Field := ⟨MTR_STATUS, 7, 7⟩
abbrev MTR_STATUS_SAVE_FAULT : Field := ⟨MTR_STATUS, 6, 6⟩
abbrev MTR_STATUS_SAVE_FAILED : Field := ⟨MTR_STATUS, 5, 5⟩
abbrev MTR_STATUS_PLS : Field := ⟨MTR_STATUS, 4, 4⟩
abbrev MTR_STATUS_OVR : Field := ⟨MTR_STATUS, 3, 3⟩
abbrev MTR_STATUS_GAP : Field := ⟨MTR_STATUS, 2, 2⟩
abbrev MTR_STATUS_GP1_LOST : Field := ⟨MTR_STATUS, 1, 1⟩
abbrev MTR_STATUS_GP0_LOST : Field := ⟨MTR_STATUS, 0, 0⟩
/-- R329: MTR_REJECT_CNT. -/
abbrev MTR_REJECT_CNT : Nat := 0x0A0008
abbrev MTR_REJECT_CNT_CNT : Field := ⟨MTR_REJECT_CNT, 15, 0⟩
/-- R329: MTR_CAL_CNT. -/
abbrev MTR_CAL_CNT : Nat := 0x0A000C
abbrev MTR_CAL_CNT_CNT : Field := ⟨MTR_CAL_CNT, 31, 0⟩
/-- R329: MTR_BLOCK_LO. -/
abbrev MTR_BLOCK_LO : Nat := 0x0A0010
abbrev MTR_BLOCK_LO_VALUE : Field := ⟨MTR_BLOCK_LO, 31, 0⟩
/-- R329: MTR_BLOCK_HI. -/
abbrev MTR_BLOCK_HI : Nat := 0x0A0014
abbrev MTR_BLOCK_HI_VALUE : Field := ⟨MTR_BLOCK_HI, 31, 0⟩
/-- R330: MTR_SAVE_STATUS. -/
abbrev MTR_SAVE_STATUS : Nat := 0x0A0018
abbrev MTR_SAVE_STATUS_BAD_SLOTS : Field := ⟨MTR_SAVE_STATUS, 31, 16⟩
abbrev MTR_SAVE_STATUS_LAST_SLOT : Field := ⟨MTR_SAVE_STATUS, 15, 12⟩
abbrev MTR_SAVE_STATUS_FAILS : Field := ⟨MTR_SAVE_STATUS, 7, 0⟩
/-- R329: MTR_SAVE_SEQ_LO. -/
abbrev MTR_SAVE_SEQ_LO : Nat := 0x0A001C
abbrev MTR_SAVE_SEQ_LO_SEQ : Field := ⟨MTR_SAVE_SEQ_LO, 31, 0⟩
/-- R329: MTR_SAVE_SEQ_HI. -/
abbrev MTR_SAVE_SEQ_HI : Nat := 0x0A0020
abbrev MTR_SAVE_SEQ_HI_SEQ : Field := ⟨MTR_SAVE_SEQ_HI, 31, 0⟩
/-- R329: MTR_LOSS_CNT. -/
abbrev MTR_LOSS_CNT : Nat := 0x0A0024
abbrev MTR_LOSS_CNT_CNT : Field := ⟨MTR_LOSS_CNT, 31, 0⟩
/-- R329: MTR_HARM_SEQ. -/
abbrev MTR_HARM_SEQ : Nat := 0x0A0028
abbrev MTR_HARM_SEQ_VALUE : Field := ⟨MTR_HARM_SEQ, 31, 0⟩
/-- R331: MTR_GP_CFG (2 instances). -/
abbrev MTR_GP_CFG (i : Nat) : Nat := 0x0A0100 + 64 * (i % 2)
abbrev MTR_GP_CFG_EN (i : Nat) : Field := ⟨MTR_GP_CFG i, 31, 31⟩
abbrev MTR_GP_CFG_LOST_PCT (i : Nat) : Field := ⟨MTR_GP_CFG i, 30, 24⟩
abbrev MTR_GP_CFG_RET_PCT (i : Nat) : Field := ⟨MTR_GP_CFG i, 23, 16⟩
abbrev MTR_GP_CFG_VNOM (i : Nat) : Field := ⟨MTR_GP_CFG i, 15, 0⟩
/-- R331: MTR_GP_RATED (2 instances). -/
abbrev MTR_GP_RATED (i : Nat) : Nat := 0x0A0104 + 64 * (i % 2)
abbrev MTR_GP_RATED_P_RATED (i : Nat) : Field := ⟨MTR_GP_RATED i, 15, 0⟩
/-- R331: MTR_GP_STATUS (2 instances). -/
abbrev MTR_GP_STATUS (i : Nat) : Nat := 0x0A0108 + 64 * (i % 2)
abbrev MTR_GP_STATUS_LOST (i : Nat) : Field := ⟨MTR_GP_STATUS i, 31, 31⟩
abbrev MTR_GP_STATUS_FREQ_UNLOCKED (i : Nat) : Field := ⟨MTR_GP_STATUS i, 30, 30⟩
abbrev MTR_GP_STATUS_LAST_VALID (i : Nat) : Field := ⟨MTR_GP_STATUS i, 29, 29⟩
/-- R331: MTR_GP_P (2 instances). -/
abbrev MTR_GP_P (i : Nat) : Nat := 0x0A010C + 64 * (i % 2)
abbrev MTR_GP_P_P (i : Nat) : Field := ⟨MTR_GP_P i, 31, 0⟩
/-- R331: MTR_GP_Q (2 instances). -/
abbrev MTR_GP_Q (i : Nat) : Nat := 0x0A0110 + 64 * (i % 2)
abbrev MTR_GP_Q_Q (i : Nat) : Field := ⟨MTR_GP_Q i, 31, 0⟩
/-- R331: MTR_GP_FREQ (2 instances). -/
abbrev MTR_GP_FREQ (i : Nat) : Nat := 0x0A0114 + 64 * (i % 2)
abbrev MTR_GP_FREQ_F (i : Nat) : Field := ⟨MTR_GP_FREQ i, 31, 0⟩
/-- R331: MTR_GP_GAP_LO (2 instances). -/
abbrev MTR_GP_GAP_LO (i : Nat) : Nat := 0x0A0118 + 64 * (i % 2)
abbrev MTR_GP_GAP_LO_GAP (i : Nat) : Field := ⟨MTR_GP_GAP_LO i, 31, 0⟩
/-- R331: MTR_GP_GAP_HI (2 instances). -/
abbrev MTR_GP_GAP_HI (i : Nat) : Nat := 0x0A011C + 64 * (i % 2)
abbrev MTR_GP_GAP_HI_GAP (i : Nat) : Field := ⟨MTR_GP_GAP_HI i, 31, 0⟩
/-- R331: MTR_GP_OVR_CNT (2 instances). -/
abbrev MTR_GP_OVR_CNT (i : Nat) : Nat := 0x0A0120 + 64 * (i % 2)
abbrev MTR_GP_OVR_CNT_OVR (i : Nat) : Field := ⟨MTR_GP_OVR_CNT i, 31, 0⟩
/-- R331: MTR_CH_RATIO (16 instances). -/
abbrev MTR_CH_RATIO (i : Nat) : Nat := 0x0A0200 + 32 * (i % 16)
abbrev MTR_CH_RATIO_RATIO (i : Nat) : Field := ⟨MTR_CH_RATIO i, 31, 0⟩
/-- R331: MTR_CH_GAIN (16 instances). -/
abbrev MTR_CH_GAIN (i : Nat) : Nat := 0x0A0204 + 32 * (i % 16)
abbrev MTR_CH_GAIN_GAIN (i : Nat) : Field := ⟨MTR_CH_GAIN i, 31, 0⟩
/-- R331: MTR_CH_OFS (16 instances). -/
abbrev MTR_CH_OFS (i : Nat) : Nat := 0x0A0208 + 32 * (i % 16)
abbrev MTR_CH_OFS_OFS (i : Nat) : Field := ⟨MTR_CH_OFS i, 31, 0⟩
/-- R331: MTR_CH_PHASE (16 instances). -/
abbrev MTR_CH_PHASE (i : Nat) : Nat := 0x0A020C + 32 * (i % 16)
abbrev MTR_CH_PHASE_PHASE (i : Nat) : Field := ⟨MTR_CH_PHASE i, 31, 0⟩
/-- R331: MTR_CH_RMS (16 instances). -/
abbrev MTR_CH_RMS (i : Nat) : Nat := 0x0A0210 + 32 * (i % 16)
abbrev MTR_CH_RMS_RMS (i : Nat) : Field := ⟨MTR_CH_RMS i, 31, 0⟩
/-- R331: MTR_CH_THD (16 instances). -/
abbrev MTR_CH_THD (i : Nat) : Nat := 0x0A0214 + 32 * (i % 16)
abbrev MTR_CH_THD_THD (i : Nat) : Field := ⟨MTR_CH_THD i, 31, 0⟩
/-- R331: MTR_CH_STATUS (16 instances). -/
abbrev MTR_CH_STATUS (i : Nat) : Nat := 0x0A0218 + 32 * (i % 16)
abbrev MTR_CH_STATUS_SELF_FAIL (i : Nat) : Field := ⟨MTR_CH_STATUS i, 31, 31⟩
abbrev MTR_CH_STATUS_OVR (i : Nat) : Field := ⟨MTR_CH_STATUS i, 30, 30⟩
/-- R331: MTR_HEAD_GAIN_V (48 instances). -/
abbrev MTR_HEAD_GAIN_V (i : Nat) : Nat := 0x0A0400 + 16 * (i % 48)
abbrev MTR_HEAD_GAIN_V_GAIN_V (i : Nat) : Field := ⟨MTR_HEAD_GAIN_V i, 31, 0⟩
/-- R331: MTR_HEAD_GAIN_I (48 instances). -/
abbrev MTR_HEAD_GAIN_I (i : Nat) : Nat := 0x0A0404 + 16 * (i % 48)
abbrev MTR_HEAD_GAIN_I_GAIN_I (i : Nat) : Field := ⟨MTR_HEAD_GAIN_I i, 31, 0⟩
/-- R331: MTR_HEAD_OFS_V (48 instances). -/
abbrev MTR_HEAD_OFS_V (i : Nat) : Nat := 0x0A0408 + 16 * (i % 48)
abbrev MTR_HEAD_OFS_V_OFS_V (i : Nat) : Field := ⟨MTR_HEAD_OFS_V i, 31, 0⟩
/-- R331: MTR_HEAD_OFS_I (48 instances). -/
abbrev MTR_HEAD_OFS_I (i : Nat) : Nat := 0x0A040C + 16 * (i % 48)
abbrev MTR_HEAD_OFS_I_OFS_I (i : Nat) : Field := ⟨MTR_HEAD_OFS_I i, 31, 0⟩
/-- R331: MTR_E_LO (80 instances). -/
abbrev MTR_E_LO (i : Nat) : Nat := 0x0A0800 + 16 * (i % 80)
abbrev MTR_E_LO_E (i : Nat) : Field := ⟨MTR_E_LO i, 31, 0⟩
/-- R331: MTR_E_HI (80 instances). -/
abbrev MTR_E_HI (i : Nat) : Nat := 0x0A0804 + 16 * (i % 80)
abbrev MTR_E_HI_E (i : Nat) : Field := ⟨MTR_E_HI i, 31, 0⟩
/-- R331: MTR_E_WRAP (80 instances). -/
abbrev MTR_E_WRAP (i : Nat) : Nat := 0x0A0808 + 16 * (i % 80)
abbrev MTR_E_WRAP_WRAP (i : Nat) : Field := ⟨MTR_E_WRAP i, 31, 0⟩
/-- R331: MTR_PLS_CFG (4 instances). -/
abbrev MTR_PLS_CFG (i : Nat) : Nat := 0x0A1000 + 16 * (i % 4)
abbrev MTR_PLS_CFG_EN (i : Nat) : Field := ⟨MTR_PLS_CFG i, 31, 31⟩
abbrev MTR_PLS_CFG_POL (i : Nat) : Field := ⟨MTR_PLS_CFG i, 30, 30⟩
abbrev MTR_PLS_CFG_SRC (i : Nat) : Field := ⟨MTR_PLS_CFG i, 6, 0⟩
/-- R331: MTR_PLS_CONST (4 instances). -/
abbrev MTR_PLS_CONST (i : Nat) : Nat := 0x0A1004 + 16 * (i % 4)
abbrev MTR_PLS_CONST_CONST (i : Nat) : Field := ⟨MTR_PLS_CONST i, 23, 0⟩
/-- R331: MTR_PLS_STATUS (4 instances). -/
abbrev MTR_PLS_STATUS (i : Nat) : Nat := 0x0A1008 + 16 * (i % 4)
abbrev MTR_PLS_STATUS_OVERFLOW (i : Nat) : Field := ⟨MTR_PLS_STATUS i, 31, 31⟩
abbrev MTR_PLS_STATUS_BACKLOG (i : Nat) : Field := ⟨MTR_PLS_STATUS i, 30, 30⟩
abbrev MTR_PLS_STATUS_PENDING (i : Nat) : Field := ⟨MTR_PLS_STATUS i, 12, 0⟩
/-- R331: MTR_PLS_LOST (4 instances). -/
abbrev MTR_PLS_LOST (i : Nat) : Nat := 0x0A100C + 16 * (i % 4)
abbrev MTR_PLS_LOST_LOST (i : Nat) : Field := ⟨MTR_PLS_LOST i, 31, 0⟩
/-- R329: MTR_HARM_MAG (1024 instances). -/
abbrev MTR_HARM_MAG (i : Nat) : Nat := 0x0A4000 + 4 * (i % 1024)
abbrev MTR_HARM_MAG_VALUE (i : Nat) : Field := ⟨MTR_HARM_MAG i, 31, 0⟩
/-- R329: MTR_HARM_PH (1024 instances). -/
abbrev MTR_HARM_PH (i : Nat) : Nat := 0x0A5000 + 4 * (i % 1024)
abbrev MTR_HARM_PH_VALUE (i : Nat) : Field := ⟨MTR_HARM_PH i, 31, 0⟩
/-- R381: BIL_STATUS. -/
abbrev BIL_STATUS : Nat := 0x0B0000
abbrev BIL_STATUS_RUN : Field := ⟨BIL_STATUS, 31, 31⟩
abbrev BIL_STATUS_TIME_VALID : Field := ⟨BIL_STATUS, 30, 30⟩
abbrev BIL_STATUS_SLEWING : Field := ⟨BIL_STATUS, 29, 29⟩
abbrev BIL_STATUS_SEAL_BROKEN : Field := ⟨BIL_STATUS, 28, 28⟩
abbrev BIL_STATUS_ARCHIVE_HIGH : Field := ⟨BIL_STATUS, 27, 27⟩
abbrev BIL_STATUS_TARIFF : Field := ⟨BIL_STATUS, 7, 4⟩
/-- R380: BIL_REJECT_CNT. -/
abbrev BIL_REJECT_CNT : Nat := 0x0B0004
abbrev BIL_REJECT_CNT_CNT : Field := ⟨BIL_REJECT_CNT, 15, 0⟩
/-- R380: BIL_PERIOD_NO. -/
abbrev BIL_PERIOD_NO : Nat := 0x0B0008
abbrev BIL_PERIOD_NO_NO : Field := ⟨BIL_PERIOD_NO, 31, 0⟩
/-- R380: BIL_UTC_LO. -/
abbrev BIL_UTC_LO : Nat := 0x0B000C
abbrev BIL_UTC_LO_VALUE : Field := ⟨BIL_UTC_LO, 31, 0⟩
/-- R380: BIL_UTC_HI. -/
abbrev BIL_UTC_HI : Nat := 0x0B0010
abbrev BIL_UTC_HI_VALUE : Field := ⟨BIL_UTC_HI, 31, 0⟩
/-- R380: BIL_SLEW. -/
abbrev BIL_SLEW : Nat := 0x0B0014
abbrev BIL_SLEW_VALUE : Field := ⟨BIL_SLEW, 31, 0⟩
/-- R381: BIL_CFG. -/
abbrev BIL_CFG : Nat := 0x0B0018
abbrev BIL_CFG_PMODE : Field := ⟨BIL_CFG, 31, 30⟩
abbrev BIL_CFG_PDAY : Field := ⟨BIL_CFG, 29, 25⟩
abbrev BIL_CFG_PMIN : Field := ⟨BIL_CFG, 24, 14⟩
abbrev BIL_CFG_DI : Field := ⟨BIL_CFG, 13, 11⟩
abbrev BIL_CFG_SUB : Field := ⟨BIL_CFG, 10, 8⟩
abbrev BIL_CFG_CAL_EN : Field := ⟨BIL_CFG, 2, 2⟩
abbrev BIL_CFG_FUND_SEL : Field := ⟨BIL_CFG, 1, 0⟩
/-- R381: BIL_TZ. -/
abbrev BIL_TZ : Nat := 0x0B001C
abbrev BIL_TZ_STD_OFS : Field := ⟨BIL_TZ, 31, 16⟩
abbrev BIL_TZ_DST_OFS : Field := ⟨BIL_TZ, 15, 8⟩
abbrev BIL_TZ_DST_EN : Field := ⟨BIL_TZ, 0, 0⟩
/-- R381: BIL_MAN_CFG. -/
abbrev BIL_MAN_CFG : Nat := 0x0B0020
abbrev BIL_MAN_CFG_KEY_SLOT : Field := ⟨BIL_MAN_CFG, 5, 0⟩
/-- R381: BIL_ROLE_SLOT. -/
abbrev BIL_ROLE_SLOT : Nat := 0x0B0024
abbrev BIL_ROLE_SLOT_METROLOGIST : Field := ⟨BIL_ROLE_SLOT, 21, 16⟩
abbrev BIL_ROLE_SLOT_INSTALLER : Field := ⟨BIL_ROLE_SLOT, 13, 8⟩
abbrev BIL_ROLE_SLOT_OPERATOR : Field := ⟨BIL_ROLE_SLOT, 5, 0⟩
/-- R381: BIL_MAN_STATUS. -/
abbrev BIL_MAN_STATUS : Nat := 0x0B0028
abbrev BIL_MAN_STATUS_UNACK : Field := ⟨BIL_MAN_STATUS, 31, 16⟩
abbrev BIL_MAN_STATUS_UNSIGNED : Field := ⟨BIL_MAN_STATUS, 15, 0⟩
/-- R380: BIL_MAN_NO_LO. -/
abbrev BIL_MAN_NO_LO : Nat := 0x0B002C
abbrev BIL_MAN_NO_LO_NO : Field := ⟨BIL_MAN_NO_LO, 31, 0⟩
/-- R380: BIL_MAN_NO_HI. -/
abbrev BIL_MAN_NO_HI : Nat := 0x0B0030
abbrev BIL_MAN_NO_HI_NO : Field := ⟨BIL_MAN_NO_HI, 31, 0⟩
/-- R380: BIL_MAN_OVERWRITTEN. -/
abbrev BIL_MAN_OVERWRITTEN : Nat := 0x0B0034
abbrev BIL_MAN_OVERWRITTEN_CNT : Field := ⟨BIL_MAN_OVERWRITTEN, 31, 0⟩
/-- R381: BIL_TAMP_CFG. -/
abbrev BIL_TAMP_CFG : Nat := 0x0B0038
abbrev BIL_TAMP_CFG_COVER_EN : Field := ⟨BIL_TAMP_CFG, 31, 31⟩
abbrev BIL_TAMP_CFG_COVER_POL : Field := ⟨BIL_TAMP_CFG, 30, 30⟩
abbrev BIL_TAMP_CFG_COVER_PIN : Field := ⟨BIL_TAMP_CFG, 29, 28⟩
abbrev BIL_TAMP_CFG_MAG_MT : Field := ⟨BIL_TAMP_CFG, 7, 0⟩
/-- R381: BIL_TAMP_STATUS. -/
abbrev BIL_TAMP_STATUS : Nat := 0x0B003C
abbrev BIL_TAMP_STATUS_NORMAL : Field := ⟨BIL_TAMP_STATUS, 31, 31⟩
abbrev BIL_TAMP_STATUS_MAG_STARTUP : Field := ⟨BIL_TAMP_STATUS, 30, 30⟩
abbrev BIL_TAMP_STATUS_HIB_LATCH : Field := ⟨BIL_TAMP_STATUS, 29, 29⟩
/-- R380: BIL_TAMP_COUNT (12 instances). -/
abbrev BIL_TAMP_COUNT (i : Nat) : Nat := 0x0B0100 + 16 * (i % 12)
abbrev BIL_TAMP_COUNT_COUNT (i : Nat) : Field := ⟨BIL_TAMP_COUNT i, 31, 0⟩
/-- R380: BIL_TAMP_FIRST (12 instances). -/
abbrev BIL_TAMP_FIRST (i : Nat) : Nat := 0x0B0104 + 16 * (i % 12)
abbrev BIL_TAMP_FIRST_UTC (i : Nat) : Field := ⟨BIL_TAMP_FIRST i, 31, 0⟩
/-- R380: BIL_TAMP_LAST (12 instances). -/
abbrev BIL_TAMP_LAST (i : Nat) : Nat := 0x0B0108 + 16 * (i % 12)
abbrev BIL_TAMP_LAST_UTC (i : Nat) : Field := ⟨BIL_TAMP_LAST i, 31, 0⟩
/-- R380: BIL_TAMP_TIMES (12 instances). -/
abbrev BIL_TAMP_TIMES (i : Nat) : Nat := 0x0B010C + 16 * (i % 12)
abbrev BIL_TAMP_TIMES_FIRST_VALID (i : Nat) : Field := ⟨BIL_TAMP_TIMES i, 1, 1⟩
abbrev BIL_TAMP_TIMES_LAST_VALID (i : Nat) : Field := ⟨BIL_TAMP_TIMES i, 0, 0⟩
/-- R380: BIL_TAR_E_LO (40 by 9 instances). -/
abbrev BIL_TAR_E_LO (i j : Nat) : Nat := 0x0B1000 + 256 * (i % 40) + 16 * (j % 9)
abbrev BIL_TAR_E_LO_E (i j : Nat) : Field := ⟨BIL_TAR_E_LO i j, 31, 0⟩
/-- R380: BIL_TAR_E_HI (40 by 9 instances). -/
abbrev BIL_TAR_E_HI (i j : Nat) : Nat := 0x0B1004 + 256 * (i % 40) + 16 * (j % 9)
abbrev BIL_TAR_E_HI_E (i j : Nat) : Field := ⟨BIL_TAR_E_HI i j, 31, 0⟩
/-- R380: BIL_TAR_WRAP (40 by 9 instances). -/
abbrev BIL_TAR_WRAP (i j : Nat) : Nat := 0x0B1008 + 256 * (i % 40) + 16 * (j % 9)
abbrev BIL_TAR_WRAP_WRAP (i j : Nat) : Field := ⟨BIL_TAR_WRAP i j, 31, 0⟩
/-- R380: BIL_DMAX_VALUE (20 by 9 instances). -/
abbrev BIL_DMAX_VALUE (i j : Nat) : Nat := 0x0B4000 + 256 * (i % 20) + 16 * (j % 9)
abbrev BIL_DMAX_VALUE_VALUE (i j : Nat) : Field := ⟨BIL_DMAX_VALUE i j, 31, 0⟩
/-- R380: BIL_DMAX_UTC (20 by 9 instances). -/
abbrev BIL_DMAX_UTC (i j : Nat) : Nat := 0x0B4004 + 256 * (i % 20) + 16 * (j % 9)
abbrev BIL_DMAX_UTC_UTC (i j : Nat) : Field := ⟨BIL_DMAX_UTC i j, 31, 0⟩
/-- R380: BIL_DMAX_MARKS (20 by 9 instances). -/
abbrev BIL_DMAX_MARKS (i j : Nat) : Nat := 0x0B4008 + 256 * (i % 20) + 16 * (j % 9)
abbrev BIL_DMAX_MARKS_MARKS (i j : Nat) : Field := ⟨BIL_DMAX_MARKS i j, 31, 0⟩
/-- R380: BIL_DNOW_VALUE (20 instances). -/
abbrev BIL_DNOW_VALUE (i : Nat) : Nat := 0x0B6000 + 8 * (i % 20)
abbrev BIL_DNOW_VALUE_VALUE (i : Nat) : Field := ⟨BIL_DNOW_VALUE i, 31, 0⟩
/-- R380: BIL_DNOW_MARKS (20 instances). -/
abbrev BIL_DNOW_MARKS (i : Nat) : Nat := 0x0B6004 + 8 * (i % 20)
abbrev BIL_DNOW_MARKS_VALUE (i : Nat) : Field := ⟨BIL_DNOW_MARKS i, 31, 0⟩
/-- R405: BSE_CTRL. -/
abbrev BSE_CTRL : Nat := 0x0C0000
abbrev BSE_CTRL_REST_REQ_EN : Field := ⟨BSE_CTRL, 1, 1⟩
abbrev BSE_CTRL_EN : Field := ⟨BSE_CTRL, 0, 0⟩
/-- R405: BSE_CFG. -/
abbrev BSE_CFG : Nat := 0x0C0004
abbrev BSE_CFG_STARVE_H : Field := ⟨BSE_CFG, 31, 16⟩
abbrev BSE_CFG_MIN_SPAN : Field := ⟨BSE_CFG, 15, 8⟩
abbrev BSE_CFG_CONV_RATE : Field := ⟨BSE_CFG, 7, 0⟩
/-- R405: BSE_CFG2. -/
abbrev BSE_CFG2 : Nat := 0x0C0008
abbrev BSE_CFG2_HIB_MIN : Field := ⟨BSE_CFG2, 31, 24⟩
abbrev BSE_CFG2_POINT_DAYS : Field := ⟨BSE_CFG2, 23, 16⟩
abbrev BSE_CFG2_SWAP_PCT : Field := ⟨BSE_CFG2, 15, 8⟩
abbrev BSE_CFG2_LGAIN : Field := ⟨BSE_CFG2, 4, 0⟩
/-- R405: BSE_STATUS. -/
abbrev BSE_STATUS : Nat := 0x0C000C
abbrev BSE_STATUS_STATE_LOST : Field := ⟨BSE_STATUS, 31, 31⟩
abbrev BSE_STATUS_COPY : Field := ⟨BSE_STATUS, 30, 30⟩
abbrev BSE_STATUS_STARVED : Field := ⟨BSE_STATUS, 23, 16⟩
abbrev BSE_STATUS_HIBERNATED : Field := ⟨BSE_STATUS, 15, 8⟩
abbrev BSE_STATUS_ENABLED : Field := ⟨BSE_STATUS, 7, 0⟩
/-- R404: BSE_REJECT_CNT. -/
abbrev BSE_REJECT_CNT : Nat := 0x0C0010
abbrev BSE_REJECT_CNT_CNT : Field := ⟨BSE_REJECT_CNT, 15, 0⟩
/-- R404: BSE_COMMIT_SEQ_LO. -/
abbrev BSE_COMMIT_SEQ_LO : Nat := 0x0C0014
abbrev BSE_COMMIT_SEQ_LO_SEQ : Field := ⟨BSE_COMMIT_SEQ_LO, 31, 0⟩
/-- R404: BSE_COMMIT_SEQ_HI. -/
abbrev BSE_COMMIT_SEQ_HI : Nat := 0x0C0018
abbrev BSE_COMMIT_SEQ_HI_SEQ : Field := ⟨BSE_COMMIT_SEQ_HI, 31, 0⟩
/-- R405: BSE_SIG_CFG (64 instances). -/
abbrev BSE_SIG_CFG (i : Nat) : Nat := 0x0C0400 + 8 * (i % 64)
abbrev BSE_SIG_CFG_EN (i : Nat) : Field := ⟨BSE_SIG_CFG i, 31, 31⟩
abbrev BSE_SIG_CFG_FIELD (i : Nat) : Field := ⟨BSE_SIG_CFG i, 30, 28⟩
abbrev BSE_SIG_CFG_ID_OFS (i : Nat) : Field := ⟨BSE_SIG_CFG i, 27, 16⟩
abbrev BSE_SIG_CFG_START (i : Nat) : Field := ⟨BSE_SIG_CFG i, 15, 7⟩
abbrev BSE_SIG_CFG_LEN_M1 (i : Nat) : Field := ⟨BSE_SIG_CFG i, 6, 2⟩
abbrev BSE_SIG_CFG_ORDER (i : Nat) : Field := ⟨BSE_SIG_CFG i, 1, 1⟩
abbrev BSE_SIG_CFG_WAKE (i : Nat) : Field := ⟨BSE_SIG_CFG i, 0, 0⟩
/-- R405: BSE_SIG_SCALE (64 instances). -/
abbrev BSE_SIG_SCALE (i : Nat) : Nat := 0x0C0404 + 8 * (i % 64)
abbrev BSE_SIG_SCALE_SCALE (i : Nat) : Field := ⟨BSE_SIG_SCALE i, 31, 0⟩
/-- R404: BSE_OCV (4 by 6 instances). -/
abbrev BSE_OCV (i j : Nat) : Nat := 0x0C0800 + 32 * (i % 4) + 4 * (j % 6)
abbrev BSE_OCV_HI (i j : Nat) : Field := ⟨BSE_OCV i j, 31, 16⟩
abbrev BSE_OCV_LO (i j : Nat) : Field := ⟨BSE_OCV i j, 15, 0⟩
/-- R406: BSE_STR_CFG (48 instances). -/
abbrev BSE_STR_CFG (i : Nat) : Nat := 0x0C1000 + 64 * (i % 48)
abbrev BSE_STR_CFG_EN (i : Nat) : Field := ⟨BSE_STR_CFG i, 31, 31⟩
abbrev BSE_STR_CFG_TPL_EN (i : Nat) : Field := ⟨BSE_STR_CFG i, 30, 30⟩
abbrev BSE_STR_CFG_TPL (i : Nat) : Field := ⟨BSE_STR_CFG i, 29, 27⟩
abbrev BSE_STR_CFG_OCV_TBL (i : Nat) : Field := ⟨BSE_STR_CFG i, 26, 25⟩
abbrev BSE_STR_CFG_HIB_EN (i : Nat) : Field := ⟨BSE_STR_CFG i, 24, 24⟩
abbrev BSE_STR_CFG_CELLS (i : Nat) : Field := ⟨BSE_STR_CFG i, 23, 14⟩
/-- R406: BSE_STR_NODE_LO (48 instances). -/
abbrev BSE_STR_NODE_LO (i : Nat) : Nat := 0x0C1004 + 64 * (i % 48)
abbrev BSE_STR_NODE_LO_ID (i : Nat) : Field := ⟨BSE_STR_NODE_LO i, 31, 0⟩
/-- R406: BSE_STR_NODE_HI (48 instances). -/
abbrev BSE_STR_NODE_HI (i : Nat) : Nat := 0x0C1008 + 64 * (i % 48)
abbrev BSE_STR_NODE_HI_ID (i : Nat) : Field := ⟨BSE_STR_NODE_HI i, 31, 0⟩
/-- R406: BSE_STR_CAN (48 instances). -/
abbrev BSE_STR_CAN (i : Nat) : Nat := 0x0C100C + 64 * (i % 48)
abbrev BSE_STR_CAN_IDE (i : Nat) : Field := ⟨BSE_STR_CAN i, 29, 29⟩
abbrev BSE_STR_CAN_CAN_BASE (i : Nat) : Field := ⟨BSE_STR_CAN i, 28, 0⟩
/-- R406: BSE_STR_CAP (48 instances). -/
abbrev BSE_STR_CAP (i : Nat) : Nat := 0x0C1010 + 64 * (i % 48)
abbrev BSE_STR_CAP_C_RATED (i : Nat) : Field := ⟨BSE_STR_CAP i, 31, 16⟩
abbrev BSE_STR_CAP_CAP (i : Nat) : Field := ⟨BSE_STR_CAP i, 15, 0⟩
/-- R406: BSE_STR_FULL (48 instances). -/
abbrev BSE_STR_FULL (i : Nat) : Nat := 0x0C1014 + 64 * (i % 48)
abbrev BSE_STR_FULL_V_FULL (i : Nat) : Field := ⟨BSE_STR_FULL i, 31, 16⟩
abbrev BSE_STR_FULL_I_TAPER (i : Nat) : Field := ⟨BSE_STR_FULL i, 15, 0⟩
/-- R406: BSE_STR_EMPTY (48 instances). -/
abbrev BSE_STR_EMPTY (i : Nat) : Nat := 0x0C1018 + 64 * (i % 48)
abbrev BSE_STR_EMPTY_V_EMPTY (i : Nat) : Field := ⟨BSE_STR_EMPTY i, 31, 16⟩
abbrev BSE_STR_EMPTY_I_TAPER_E (i : Nat) : Field := ⟨BSE_STR_EMPTY i, 15, 0⟩
/-- R406: BSE_STR_HOLD (48 instances). -/
abbrev BSE_STR_HOLD (i : Nat) : Nat := 0x0C101C + 64 * (i % 48)
abbrev BSE_STR_HOLD_T_FULL (i : Nat) : Field := ⟨BSE_STR_HOLD i, 31, 16⟩
abbrev BSE_STR_HOLD_T_EMPTY (i : Nat) : Field := ⟨BSE_STR_HOLD i, 15, 0⟩
/-- R406: BSE_STR_REST (48 instances). -/
abbrev BSE_STR_REST (i : Nat) : Nat := 0x0C1020 + 64 * (i % 48)
abbrev BSE_STR_REST_I_REST (i : Nat) : Field := ⟨BSE_STR_REST i, 31, 16⟩
abbrev BSE_STR_REST_T_REST (i : Nat) : Field := ⟨BSE_STR_REST i, 15, 0⟩
/-- R406: BSE_STR_ILIM (48 instances). -/
abbrev BSE_STR_ILIM (i : Nat) : Nat := 0x0C1024 + 64 * (i % 48)
abbrev BSE_STR_ILIM_I_CHG_MAX (i : Nat) : Field := ⟨BSE_STR_ILIM i, 31, 16⟩
abbrev BSE_STR_ILIM_I_DIS_MAX (i : Nat) : Field := ⟨BSE_STR_ILIM i, 15, 0⟩
/-- R406: BSE_STR_VMAX (48 instances). -/
abbrev BSE_STR_VMAX (i : Nat) : Nat := 0x0C1028 + 64 * (i % 48)
abbrev BSE_STR_VMAX_V_MAX (i : Nat) : Field := ⟨BSE_STR_VMAX i, 31, 16⟩
/-- R406: BSE_STR_SOC (48 instances). -/
abbrev BSE_STR_SOC (i : Nat) : Nat := 0x0C102C + 64 * (i % 48)
abbrev BSE_STR_SOC_SOC_INT (i : Nat) : Field := ⟨BSE_STR_SOC i, 31, 16⟩
abbrev BSE_STR_SOC_SOC_REP (i : Nat) : Field := ⟨BSE_STR_SOC i, 15, 0⟩
/-- R406: BSE_STR_LIM (48 instances). -/
abbrev BSE_STR_LIM (i : Nat) : Nat := 0x0C1030 + 64 * (i % 48)
abbrev BSE_STR_LIM_I_CHG (i : Nat) : Field := ⟨BSE_STR_LIM i, 31, 16⟩
abbrev BSE_STR_LIM_I_DIS (i : Nat) : Field := ⟨BSE_STR_LIM i, 15, 0⟩
/-- R406: BSE_STR_LEARN (48 instances). -/
abbrev BSE_STR_LEARN (i : Nat) : Nat := 0x0C1034 + 64 * (i % 48)
abbrev BSE_STR_LEARN_LAST_CAP (i : Nat) : Field := ⟨BSE_STR_LEARN i, 31, 16⟩
abbrev BSE_STR_LEARN_LEARN_AGE (i : Nat) : Field := ⟨BSE_STR_LEARN i, 15, 0⟩
/-- R406: BSE_STR_STATUS (48 instances). -/
abbrev BSE_STR_STATUS (i : Nat) : Nat := 0x0C1038 + 64 * (i % 48)
abbrev BSE_STR_STATUS_STATE (i : Nat) : Field := ⟨BSE_STR_STATUS i, 31, 29⟩
abbrev BSE_STR_STATUS_UNANCHORED (i : Nat) : Field := ⟨BSE_STR_STATUS i, 28, 28⟩
abbrev BSE_STR_STATUS_FIRST_EST (i : Nat) : Field := ⟨BSE_STR_STATUS i, 27, 27⟩
abbrev BSE_STR_STATUS_STARVED (i : Nat) : Field := ⟨BSE_STR_STATUS i, 26, 26⟩
abbrev BSE_STR_STATUS_REST_REQ (i : Nat) : Field := ⟨BSE_STR_STATUS i, 25, 25⟩
abbrev BSE_STR_STATUS_REST_GRANTED (i : Nat) : Field := ⟨BSE_STR_STATUS i, 24, 24⟩
abbrev BSE_STR_STATUS_POSTPONE (i : Nat) : Field := ⟨BSE_STR_STATUS i, 23, 22⟩
abbrev BSE_STR_STATUS_BMS_STALE (i : Nat) : Field := ⟨BSE_STR_STATUS i, 21, 21⟩
abbrev BSE_STR_STATUS_BMS_FAULT (i : Nat) : Field := ⟨BSE_STR_STATUS i, 20, 20⟩
abbrev BSE_STR_STATUS_NODE_STALE (i : Nat) : Field := ⟨BSE_STR_STATUS i, 19, 19⟩
abbrev BSE_STR_STATUS_DRIFT (i : Nat) : Field := ⟨BSE_STR_STATUS i, 18, 18⟩
abbrev BSE_STR_STATUS_COUNT_GAP (i : Nat) : Field := ⟨BSE_STR_STATUS i, 17, 17⟩
abbrev BSE_STR_STATUS_POINTS (i : Nat) : Field := ⟨BSE_STR_STATUS i, 15, 13⟩
abbrev BSE_STR_STATUS_UNC (i : Nat) : Field := ⟨BSE_STR_STATUS i, 7, 0⟩
/-- R406: BSE_STR_CTL (48 instances). -/
abbrev BSE_STR_CTL (i : Nat) : Nat := 0x0C103C + 64 * (i % 48)
abbrev BSE_STR_CTL_FORGET (i : Nat) : Field := ⟨BSE_STR_CTL i, 1, 1⟩
abbrev BSE_STR_CTL_SWAP (i : Nat) : Field := ⟨BSE_STR_CTL i, 0, 0⟩
/-- R404: BSE_STR_CANIGN (48 instances). -/
abbrev BSE_STR_CANIGN (i : Nat) : Nat := 0x0C2000 + 4 * (i % 48)
abbrev BSE_STR_CANIGN_VALUE (i : Nat) : Field := ⟨BSE_STR_CANIGN i, 31, 0⟩
/-- R345: TRI_CFG. -/
abbrev TRI_CFG : Nat := 0x0D0000
abbrev TRI_CFG_EXCL_BLOCKS : Field := ⟨TRI_CFG, 31, 24⟩
abbrev TRI_CFG_ABSENT_BLOCKS : Field := ⟨TRI_CFG, 23, 16⟩
abbrev TRI_CFG_REL : Field := ⟨TRI_CFG, 15, 8⟩
/-- R345: TRI_ABS. -/
abbrev TRI_ABS : Nat := 0x0D0004
abbrev TRI_ABS_ABS_I : Field := ⟨TRI_ABS, 31, 16⟩
abbrev TRI_ABS_ABS_U : Field := ⟨TRI_ABS, 15, 0⟩
/-- R345: TRI_TEST. -/
abbrev TRI_TEST : Nat := 0x0D0008
abbrev TRI_TEST_READMIT_S : Field := ⟨TRI_TEST, 31, 16⟩
abbrev TRI_TEST_TEST_BLOCKS : Field := ⟨TRI_TEST, 15, 0⟩
/-- R345: TRI_STATUS. -/
abbrev TRI_STATUS : Nat := 0x0D000C
abbrev TRI_STATUS_DEGRADED : Field := ⟨TRI_STATUS, 31, 16⟩
abbrev TRI_STATUS_NOVOTE : Field := ⟨TRI_STATUS, 15, 0⟩
/-- R345: TRI_REJECT_CNT. -/
abbrev TRI_REJECT_CNT : Nat := 0x0D0010
abbrev TRI_REJECT_CNT_CNT : Field := ⟨TRI_REJECT_CNT, 15, 0⟩
/-- R346: TRI_OUT_CFG (16 instances). -/
abbrev TRI_OUT_CFG (i : Nat) : Nat := 0x0D1000 + 32 * (i % 16)
abbrev TRI_OUT_CFG_EN (i : Nat) : Field := ⟨TRI_OUT_CFG i, 31, 31⟩
/-- R346: TRI_OUT_STATUS (16 instances). -/
abbrev TRI_OUT_STATUS (i : Nat) : Nat := 0x0D1004 + 32 * (i % 16)
abbrev TRI_OUT_STATUS_ADMITTED (i : Nat) : Field := ⟨TRI_OUT_STATUS i, 31, 30⟩
abbrev TRI_OUT_STATUS_HELD (i : Nat) : Field := ⟨TRI_OUT_STATUS i, 29, 29⟩
abbrev TRI_OUT_STATUS_VOTED (i : Nat) : Field := ⟨TRI_OUT_STATUS i, 28, 28⟩
abbrev TRI_OUT_STATUS_VOTE_LOST (i : Nat) : Field := ⟨TRI_OUT_STATUS i, 27, 27⟩
abbrev TRI_OUT_STATUS_NOVOTE_RUN (i : Nat) : Field := ⟨TRI_OUT_STATUS i, 15, 8⟩
/-- R346: TRI_OUT_GAP_LO (16 instances). -/
abbrev TRI_OUT_GAP_LO (i : Nat) : Nat := 0x0D1008 + 32 * (i % 16)
abbrev TRI_OUT_GAP_LO_GAP (i : Nat) : Field := ⟨TRI_OUT_GAP_LO i, 31, 0⟩
/-- R346: TRI_OUT_GAP_HI (16 instances). -/
abbrev TRI_OUT_GAP_HI (i : Nat) : Nat := 0x0D100C + 32 * (i % 16)
abbrev TRI_OUT_GAP_HI_GAP (i : Nat) : Field := ⟨TRI_OUT_GAP_HI i, 31, 0⟩
/-- R346: TRI_OUT_UNVOTED (16 instances). -/
abbrev TRI_OUT_UNVOTED (i : Nat) : Nat := 0x0D1010 + 32 * (i % 16)
abbrev TRI_OUT_UNVOTED_CNT (i : Nat) : Field := ⟨TRI_OUT_UNVOTED i, 31, 0⟩
/-- R346: TRI_OUT_DEGRADED (16 instances). -/
abbrev TRI_OUT_DEGRADED (i : Nat) : Nat := 0x0D1014 + 32 * (i % 16)
abbrev TRI_OUT_DEGRADED_SEC (i : Nat) : Field := ⟨TRI_OUT_DEGRADED i, 31, 0⟩
/-- R346: TRI_OUT_CTL (16 instances). -/
abbrev TRI_OUT_CTL (i : Nat) : Nat := 0x0D1018 + 32 * (i % 16)
abbrev TRI_OUT_CTL_STANDBY (i : Nat) : Field := ⟨TRI_OUT_CTL i, 5, 3⟩
abbrev TRI_OUT_CTL_READMIT (i : Nat) : Field := ⟨TRI_OUT_CTL i, 2, 0⟩
/-- R346: TRI_HEAD_NODE_LO (48 instances). -/
abbrev TRI_HEAD_NODE_LO (i : Nat) : Nat := 0x0D2000 + 32 * (i % 48)
abbrev TRI_HEAD_NODE_LO_ID (i : Nat) : Field := ⟨TRI_HEAD_NODE_LO i, 31, 0⟩
/-- R346: TRI_HEAD_NODE_HI (48 instances). -/
abbrev TRI_HEAD_NODE_HI (i : Nat) : Nat := 0x0D2004 + 32 * (i % 48)
abbrev TRI_HEAD_NODE_HI_ID (i : Nat) : Field := ⟨TRI_HEAD_NODE_HI i, 31, 0⟩
/-- R346: TRI_HEAD_STATUS (48 instances). -/
abbrev TRI_HEAD_STATUS (i : Nat) : Nat := 0x0D2008 + 32 * (i % 48)
abbrev TRI_HEAD_STATUS_STATE (i : Nat) : Field := ⟨TRI_HEAD_STATUS i, 31, 29⟩
abbrev TRI_HEAD_STATUS_CAUSE (i : Nat) : Field := ⟨TRI_HEAD_STATUS i, 28, 25⟩
abbrev TRI_HEAD_STATUS_STEP (i : Nat) : Field := ⟨TRI_HEAD_STATUS i, 24, 22⟩
abbrev TRI_HEAD_STATUS_FAILS (i : Nat) : Field := ⟨TRI_HEAD_STATUS i, 21, 20⟩
abbrev TRI_HEAD_STATUS_DIS_RUN (i : Nat) : Field := ⟨TRI_HEAD_STATUS i, 15, 8⟩
abbrev TRI_HEAD_STATUS_ABS_RUN (i : Nat) : Field := ⟨TRI_HEAD_STATUS i, 7, 0⟩
/-- R346: TRI_HEAD_DIS_CNT (48 instances). -/
abbrev TRI_HEAD_DIS_CNT (i : Nat) : Nat := 0x0D200C + 32 * (i % 48)
abbrev TRI_HEAD_DIS_CNT_CNT (i : Nat) : Field := ⟨TRI_HEAD_DIS_CNT i, 31, 0⟩
/-- R346: TRI_HEAD_TEST (48 instances). -/
abbrev TRI_HEAD_TEST (i : Nat) : Nat := 0x0D2010 + 32 * (i % 48)
abbrev TRI_HEAD_TEST_PROGRESS (i : Nat) : Field := ⟨TRI_HEAD_TEST i, 15, 0⟩
/-- R425: SAF_STATUS. -/
abbrev SAF_STATUS : Nat := 0x0E0000
abbrev SAF_STATUS_CONFIRMED : Field := ⟨SAF_STATUS, 31, 31⟩
abbrev SAF_STATUS_SITE_STOP : Field := ⟨SAF_STATUS, 30, 29⟩
abbrev SAF_STATUS_XMON_FAULT : Field := ⟨SAF_STATUS, 28, 28⟩
abbrev SAF_STATUS_TEST_PENDING : Field := ⟨SAF_STATUS, 15, 8⟩
abbrev SAF_STATUS_SOUT_ON : Field := ⟨SAF_STATUS, 3, 0⟩
/-- R424: SAF_REJECT_CNT. -/
abbrev SAF_REJECT_CNT : Nat := 0x0E0004
abbrev SAF_REJECT_CNT_CNT : Field := ⟨SAF_REJECT_CNT, 15, 0⟩
/-- R424: SAF_CHECK. -/
abbrev SAF_CHECK : Nat := 0x0E0008
abbrev SAF_CHECK_VALUE : Field := ⟨SAF_CHECK, 31, 0⟩
/-- R424: SAF_CONFIRM. -/
abbrev SAF_CONFIRM : Nat := 0x0E000C
abbrev SAF_CONFIRM_VALUE : Field := ⟨SAF_CONFIRM, 31, 0⟩
/-- R425: SAF_CMD. -/
abbrev SAF_CMD : Nat := 0x0E0010
abbrev SAF_CMD_FAULT_CLR : Field := ⟨SAF_CMD, 1, 1⟩
abbrev SAF_CMD_RESET : Field := ⟨SAF_CMD, 0, 0⟩
/-- R424: SAF_OUT_EN. -/
abbrev SAF_OUT_EN : Nat := 0x0E0014
abbrev SAF_OUT_EN_EN : Field := ⟨SAF_OUT_EN, 15, 0⟩
/-- R425: SAF_CFG. -/
abbrev SAF_CFG : Nat := 0x0E0020
abbrev SAF_CFG_STOP1_T : Field := ⟨SAF_CFG, 31, 24⟩
abbrev SAF_CFG_RESET_SRC : Field := ⟨SAF_CFG, 23, 23⟩
abbrev SAF_CFG_TP_PERIOD : Field := ⟨SAF_CFG, 7, 0⟩
/-- R425: SAF_PAIR_CFG (8 instances). -/
abbrev SAF_PAIR_CFG (i : Nat) : Nat := 0x0E0100 + 16 * (i % 8)
abbrev SAF_PAIR_CFG_FUNC (i : Nat) : Field := ⟨SAF_PAIR_CFG i, 31, 28⟩
abbrev SAF_PAIR_CFG_MODE (i : Nat) : Field := ⟨SAF_PAIR_CFG i, 27, 26⟩
abbrev SAF_PAIR_CFG_CAT (i : Nat) : Field := ⟨SAF_PAIR_CFG i, 25, 25⟩
abbrev SAF_PAIR_CFG_RESTART (i : Nat) : Field := ⟨SAF_PAIR_CFG i, 24, 24⟩
/-- R425: SAF_PAIR_MASK (8 instances). -/
abbrev SAF_PAIR_MASK (i : Nat) : Nat := 0x0E0104 + 16 * (i % 8)
abbrev SAF_PAIR_MASK_OUT_MASK (i : Nat) : Field := ⟨SAF_PAIR_MASK i, 31, 16⟩
abbrev SAF_PAIR_MASK_SOUT_MASK (i : Nat) : Field := ⟨SAF_PAIR_MASK i, 3, 0⟩
/-- R425: SAF_PAIR_TIME (8 instances). -/
abbrev SAF_PAIR_TIME (i : Nat) : Nat := 0x0E0108 + 16 * (i % 8)
abbrev SAF_PAIR_TIME_FILTER (i : Nat) : Field := ⟨SAF_PAIR_TIME i, 31, 24⟩
abbrev SAF_PAIR_TIME_DISC (i : Nat) : Field := ⟨SAF_PAIR_TIME i, 23, 12⟩
abbrev SAF_PAIR_TIME_TP_MAX (i : Nat) : Field := ⟨SAF_PAIR_TIME i, 7, 0⟩
/-- R425: SAF_PAIR_STATUS (8 instances). -/
abbrev SAF_PAIR_STATUS (i : Nat) : Nat := 0x0E010C + 16 * (i % 8)
abbrev SAF_PAIR_STATUS_STATE (i : Nat) : Field := ⟨SAF_PAIR_STATUS i, 31, 29⟩
abbrev SAF_PAIR_STATUS_FAULT (i : Nat) : Field := ⟨SAF_PAIR_STATUS i, 28, 26⟩
abbrev SAF_PAIR_STATUS_PIN_B (i : Nat) : Field := ⟨SAF_PAIR_STATUS i, 1, 1⟩
abbrev SAF_PAIR_STATUS_PIN_A (i : Nat) : Field := ⟨SAF_PAIR_STATUS i, 0, 0⟩
/-- R425: SAF_SOUT_CFG (4 instances). -/
abbrev SAF_SOUT_CFG (i : Nat) : Nat := 0x0E0200 + 8 * (i % 4)
abbrev SAF_SOUT_CFG_EN (i : Nat) : Field := ⟨SAF_SOUT_CFG i, 31, 31⟩
abbrev SAF_SOUT_CFG_TP_EN (i : Nat) : Field := ⟨SAF_SOUT_CFG i, 30, 30⟩
/-- R425: SAF_SOUT_STATUS (4 instances). -/
abbrev SAF_SOUT_STATUS (i : Nat) : Nat := 0x0E0204 + 8 * (i % 4)
abbrev SAF_SOUT_STATUS_ON (i : Nat) : Field := ⟨SAF_SOUT_STATUS i, 31, 31⟩
abbrev SAF_SOUT_STATUS_ELEM_A (i : Nat) : Field := ⟨SAF_SOUT_STATUS i, 30, 30⟩
abbrev SAF_SOUT_STATUS_ELEM_B (i : Nat) : Field := ⟨SAF_SOUT_STATUS i, 29, 29⟩
abbrev SAF_SOUT_STATUS_FAULT (i : Nat) : Field := ⟨SAF_SOUT_STATUS i, 28, 28⟩
abbrev SAF_SOUT_STATUS_CAUSE (i : Nat) : Field := ⟨SAF_SOUT_STATUS i, 27, 25⟩
/-- R445: LSW_STATUS. -/
abbrev LSW_STATUS : Nat := 0x0F0000
abbrev LSW_STATUS_SUPPLY : Field := ⟨LSW_STATUS, 31, 30⟩
abbrev LSW_STATUS_HOLD : Field := ⟨LSW_STATUS, 29, 29⟩
abbrev LSW_STATUS_AGG_OVER : Field := ⟨LSW_STATUS, 28, 28⟩
abbrev LSW_STATUS_ON : Field := ⟨LSW_STATUS, 19, 0⟩
/-- R444: LSW_REJECT_CNT. -/
abbrev LSW_REJECT_CNT : Nat := 0x0F0004
abbrev LSW_REJECT_CNT_CNT : Field := ⟨LSW_REJECT_CNT, 15, 0⟩
/-- R445: LSW_SUPPLY. -/
abbrev LSW_SUPPLY : Nat := 0x0F0008
abbrev LSW_SUPPLY_VHOLD : Field := ⟨LSW_SUPPLY, 31, 16⟩
abbrev LSW_SUPPLY_VAUX : Field := ⟨LSW_SUPPLY, 15, 0⟩
/-- R445: LSW_AGG. -/
abbrev LSW_AGG : Nat := 0x0F000C
abbrev LSW_AGG_PEAK : Field := ⟨LSW_AGG, 31, 16⟩
abbrev LSW_AGG_MEAN : Field := ⟨LSW_AGG, 15, 0⟩
/-- R444: LSW_SURGE_CNT. -/
abbrev LSW_SURGE_CNT : Nat := 0x0F0010
abbrev LSW_SURGE_CNT_CNT : Field := ⟨LSW_SURGE_CNT, 31, 0⟩
/-- R444: LSW_DIP_CNT. -/
abbrev LSW_DIP_CNT : Nat := 0x0F0014
abbrev LSW_DIP_CNT_CNT : Field := ⟨LSW_DIP_CNT, 31, 0⟩
/-- R446: LSW_CH_CFG (20 instances). -/
abbrev LSW_CH_CFG (i : Nat) : Nat := 0x0F0100 + 32 * (i % 20)
abbrev LSW_CH_CFG_EN (i : Nat) : Field := ⟨LSW_CH_CFG i, 31, 31⟩
abbrev LSW_CH_CFG_CLASS (i : Nat) : Field := ⟨LSW_CH_CFG i, 30, 29⟩
abbrev LSW_CH_CFG_PERSIST (i : Nat) : Field := ⟨LSW_CH_CFG i, 28, 28⟩
abbrev LSW_CH_CFG_OL_EN (i : Nat) : Field := ⟨LSW_CH_CFG i, 27, 27⟩
abbrev LSW_CH_CFG_RETRY_MAX (i : Nat) : Field := ⟨LSW_CH_CFG i, 26, 23⟩
abbrev LSW_CH_CFG_RETRY_T (i : Nat) : Field := ⟨LSW_CH_CFG i, 22, 15⟩
abbrev LSW_CH_CFG_LIM_T (i : Nat) : Field := ⟨LSW_CH_CFG i, 14, 7⟩
abbrev LSW_CH_CFG_SHED (i : Nat) : Field := ⟨LSW_CH_CFG i, 6, 5⟩
/-- R446: LSW_CH_CTL (20 instances). -/
abbrev LSW_CH_CTL (i : Nat) : Nat := 0x0F0104 + 32 * (i % 20)
abbrev LSW_CH_CTL_UNLOCK (i : Nat) : Field := ⟨LSW_CH_CTL i, 2, 2⟩
abbrev LSW_CH_CTL_ON (i : Nat) : Field := ⟨LSW_CH_CTL i, 0, 0⟩
/-- R446: LSW_CH_STATUS (20 instances). -/
abbrev LSW_CH_STATUS (i : Nat) : Nat := 0x0F0108 + 32 * (i % 20)
abbrev LSW_CH_STATUS_STATE (i : Nat) : Field := ⟨LSW_CH_STATUS i, 31, 29⟩
abbrev LSW_CH_STATUS_CAUSE (i : Nat) : Field := ⟨LSW_CH_STATUS i, 28, 25⟩
abbrev LSW_CH_STATUS_TWARN (i : Nat) : Field := ⟨LSW_CH_STATUS i, 24, 24⟩
abbrev LSW_CH_STATUS_OPEN_LOAD (i : Nat) : Field := ⟨LSW_CH_STATUS i, 23, 23⟩
abbrev LSW_CH_STATUS_SHORT_VAUX (i : Nat) : Field := ⟨LSW_CH_STATUS i, 22, 22⟩
abbrev LSW_CH_STATUS_LATCH (i : Nat) : Field := ⟨LSW_CH_STATUS i, 21, 21⟩
abbrev LSW_CH_STATUS_LOCKED_CLAMP (i : Nat) : Field := ⟨LSW_CH_STATUS i, 20, 20⟩
abbrev LSW_CH_STATUS_OWNED (i : Nat) : Field := ⟨LSW_CH_STATUS i, 19, 19⟩
abbrev LSW_CH_STATUS_RETRY_CNT (i : Nat) : Field := ⟨LSW_CH_STATUS i, 15, 12⟩
/-- R446: LSW_CH_MEAS (20 instances). -/
abbrev LSW_CH_MEAS (i : Nat) : Nat := 0x0F010C + 32 * (i % 20)
abbrev LSW_CH_MEAS_I (i : Nat) : Field := ⟨LSW_CH_MEAS i, 31, 16⟩
abbrev LSW_CH_MEAS_TJ (i : Nat) : Field := ⟨LSW_CH_MEAS i, 15, 0⟩
/-- R446: LSW_CH_CLAMP (20 instances). -/
abbrev LSW_CH_CLAMP (i : Nat) : Nat := 0x0F0110 + 32 * (i % 20)
abbrev LSW_CH_CLAMP_WIN (i : Nat) : Field := ⟨LSW_CH_CLAMP i, 31, 16⟩
abbrev LSW_CH_CLAMP_LAST (i : Nat) : Field := ⟨LSW_CH_CLAMP i, 15, 0⟩
/-- R446: LSW_CH_CNT (20 instances). -/
abbrev LSW_CH_CNT (i : Nat) : Nat := 0x0F0114 + 32 * (i % 20)
abbrev LSW_CH_CNT_SHUTDOWNS (i : Nat) : Field := ⟨LSW_CH_CNT i, 31, 16⟩
abbrev LSW_CH_CNT_CLAMP_EVENTS (i : Nat) : Field := ⟨LSW_CH_CNT i, 15, 0⟩
/-- R474: KEY_STATUS. -/
abbrev KEY_STATUS : Nat := 0x100000
abbrev KEY_STATUS_ROOT : Field := ⟨KEY_STATUS, 31, 31⟩
abbrev KEY_STATUS_ERASE_PENDING : Field := ⟨KEY_STATUS, 30, 30⟩
abbrev KEY_STATUS_RNG_OK : Field := ⟨KEY_STATUS, 29, 29⟩
abbrev KEY_STATUS_RNG_LATCHED : Field := ⟨KEY_STATUS, 28, 28⟩
abbrev KEY_STATUS_ENGINE_FAIL : Field := ⟨KEY_STATUS, 27, 27⟩
abbrev KEY_STATUS_BAD : Field := ⟨KEY_STATUS, 22, 16⟩
abbrev KEY_STATUS_VALID : Field := ⟨KEY_STATUS, 14, 8⟩
abbrev KEY_STATUS_BOUND_ANY : Field := ⟨KEY_STATUS, 7, 7⟩
abbrev KEY_STATUS_BOUND_SLOT : Field := ⟨KEY_STATUS, 5, 0⟩
/-- R473: KEY_RNG_FAILS. -/
abbrev KEY_RNG_FAILS : Nat := 0x100004
abbrev KEY_RNG_FAILS_CNT : Field := ⟨KEY_RNG_FAILS, 31, 0⟩
/-- R473: KEY_WSLOT. -/
abbrev KEY_WSLOT : Nat := 0x100008
abbrev KEY_WSLOT_LOADED : Field := ⟨KEY_WSLOT, 15, 0⟩
/-- R474: KEY_FW. -/
abbrev KEY_FW : Nat := 0x100010
abbrev KEY_FW_ACTIVE : Field := ⟨KEY_FW, 31, 31⟩
abbrev KEY_FW_TRIAL : Field := ⟨KEY_FW, 30, 30⟩
abbrev KEY_FW_A_OK : Field := ⟨KEY_FW, 29, 29⟩
abbrev KEY_FW_B_OK : Field := ⟨KEY_FW, 28, 28⟩
abbrev KEY_FW_TRIAL_LEFT : Field := ⟨KEY_FW, 27, 16⟩
/-- R474: KEY_FW_SEC. -/
abbrev KEY_FW_SEC : Nat := 0x100014
abbrev KEY_FW_SEC_RUN_SEC_VER : Field := ⟨KEY_FW_SEC, 31, 16⟩
abbrev KEY_FW_SEC_ROLLBACK : Field := ⟨KEY_FW_SEC, 15, 0⟩
/-- R473: KEY_FW_VER_A. -/
abbrev KEY_FW_VER_A : Nat := 0x100018
abbrev KEY_FW_VER_A_VALUE : Field := ⟨KEY_FW_VER_A, 31, 0⟩
/-- R473: KEY_FW_VER_B. -/
abbrev KEY_FW_VER_B : Nat := 0x10001C
abbrev KEY_FW_VER_B_VALUE : Field := ⟨KEY_FW_VER_B, 31, 0⟩
/-- R474: KEY_SLOT (64 instances). -/
abbrev KEY_SLOT (i : Nat) : Nat := 0x100100 + 4 * (i % 64)
abbrev KEY_SLOT_STATE (i : Nat) : Field := ⟨KEY_SLOT i, 31, 30⟩
abbrev KEY_SLOT_BOUND (i : Nat) : Field := ⟨KEY_SLOT i, 29, 29⟩
abbrev KEY_SLOT_TYPE (i : Nat) : Field := ⟨KEY_SLOT i, 27, 24⟩
abbrev KEY_SLOT_RECORD (i : Nat) : Field := ⟨KEY_SLOT i, 22, 16⟩
abbrev KEY_SLOT_USAGE (i : Nat) : Field := ⟨KEY_SLOT i, 15, 8⟩
/-- R525: LDG_CTRL. -/
abbrev LDG_CTRL : Nat := 0x110000
abbrev LDG_CTRL_INFO_MASK : Field := ⟨LDG_CTRL, 17, 0⟩
/-- R525: LDG_CMD. -/
abbrev LDG_CMD : Nat := 0x110004
abbrev LDG_CMD_FREEZE : Field := ⟨LDG_CMD, 31, 31⟩
abbrev LDG_CMD_RELEASE : Field := ⟨LDG_CMD, 8, 8⟩
abbrev LDG_CMD_SLOT : Field := ⟨LDG_CMD, 4, 0⟩
/-- R525: LDG_STATUS. -/
abbrev LDG_STATUS : Nat := 0x110008
abbrev LDG_STATUS_FROZEN : Field := ⟨LDG_STATUS, 21, 16⟩
abbrev LDG_STATUS_STAGED : Field := ⟨LDG_STATUS, 13, 0⟩
/-- R525: LDG_SEQ. -/
abbrev LDG_SEQ : Nat := 0x11000C
abbrev LDG_SEQ_SEQ : Field := ⟨LDG_SEQ, 31, 0⟩
/-- R525: LDG_DROP. -/
abbrev LDG_DROP : Nat := 0x110010
abbrev LDG_DROP_VALUE : Field := ⟨LDG_DROP, 31, 0⟩
/-- R525: LDG_SNAP_FROZEN. -/
abbrev LDG_SNAP_FROZEN : Nat := 0x110014
abbrev LDG_SNAP_FROZEN_FROZEN : Field := ⟨LDG_SNAP_FROZEN, 31, 0⟩
/-- R525: LDG_SNAP_OVERWRITTEN. -/
abbrev LDG_SNAP_OVERWRITTEN : Nat := 0x110018
abbrev LDG_SNAP_OVERWRITTEN_VALUE : Field := ⟨LDG_SNAP_OVERWRITTEN, 31, 0⟩
/-- R525: LDG_SNAP_INFO (32 instances). -/
abbrev LDG_SNAP_INFO (i : Nat) : Nat := 0x110100 + 8 * (i % 32)
abbrev LDG_SNAP_INFO_TRIGGER (i : Nat) : Field := ⟨LDG_SNAP_INFO i, 31, 28⟩
abbrev LDG_SNAP_INFO_CAUSE (i : Nat) : Field := ⟨LDG_SNAP_INFO i, 23, 16⟩
abbrev LDG_SNAP_INFO_FREEZE_NO (i : Nat) : Field := ⟨LDG_SNAP_INFO i, 15, 0⟩
/-- R525: LDG_SNAP_SEQ (32 instances). -/
abbrev LDG_SNAP_SEQ (i : Nat) : Nat := 0x110104 + 8 * (i % 32)
abbrev LDG_SNAP_SEQ_SEQ (i : Nat) : Field := ⟨LDG_SNAP_SEQ i, 31, 0⟩

end Sys2Proof.Machine
end

