-- ==== Sys2Proof/Machine/RegTable.lean ====
section
/-! DEFINITION. The register table: for every register of the maps its instances, and for every field its access code (R9),
its reset value (R14), whether the value outlives a reset (`kept`: MRAM, save, latch, power die) and the range a write must lie in
(`least` to `greatest`, the whole field where its map states none). A reset value that the
maps give only as "from MRAM", "from save", "held", "from latch", "from power die" or "factory" is the model's choice
(log entry 2). -/

namespace Sys2Proof.Machine

/-- R9: the access codes. -/
inductive Access
  | rw | ro | w1c | w1s | wo | rwo
deriving DecidableEq, Repr

/-- One field of a register map. -/
structure FieldRow where
  hi : Nat
  lo : Nat
  acc : Access
  reset : Nat
  kept : Bool
  least : Nat
  greatest : Nat
deriving DecidableEq, Repr

/-- One row of a register map: the register's first offset, its instances along two strides, the word it is of a 64-bit register of R12
(0: of none, 1: the low word, 2: the high word), the bits a read clears, and its fields. -/
structure RegRow where
  name : String
  off : Nat
  s1 : Nat
  n1 : Nat
  s2 : Nat
  n2 : Nat
  half : Nat
  clears : Nat
  fields : List FieldRow
deriving DecidableEq, Repr


def regRowsGEN0 : List RegRow := [
  ⟨"GEN_ID", 0x000000, 0, 1, 0, 1, 0, 0x0, [⟨31, 16, .ro, 0x9640, false, 0, 65535⟩, ⟨15, 0, .ro, 0x0, true, 0, 65535⟩]⟩,
  ⟨"GEN_REV", 0x000004, 0, 1, 0, 1, 0, 0x0, [⟨23, 16, .ro, 0x2, false, 0, 255⟩]⟩,
  ⟨"GEN_FW_VER", 0x000008, 0, 1, 0, 1, 0, 0x0, [⟨31, 0, .ro, 0x0, false, 0, 4294967295⟩]⟩,
  ⟨"GEN_STATUS", 0x00000C, 0, 1, 0, 1, 0, 0x0, [⟨31, 31, .ro, 0x0, false, 0, 1⟩, ⟨30, 30, .ro, 0x0, false, 0, 1⟩, ⟨29, 29, .ro, 0x0, false, 0, 1⟩, ⟨28, 28, .ro, 0x0, false, 0, 1⟩, ⟨27, 27, .ro, 0x0, false, 0, 1⟩]⟩,
  ⟨"GEN_LIFECYCLE", 0x000010, 0, 1, 0, 1, 0, 0x0, [⟨31, 24, .ro, 0x0, true, 0, 255⟩, ⟨11, 11, .rw, 0x0, false, 0, 1⟩, ⟨10, 10, .ro, 0x0, false, 0, 1⟩, ⟨9, 9, .ro, 0x0, false, 0, 1⟩, ⟨8, 8, .ro, 0x0, false, 0, 1⟩, ⟨7, 7, .ro, 0x0, false, 0, 1⟩, ⟨4, 4, .ro, 0x0, false, 0, 1⟩, ⟨2, 0, .ro, 0x0, true, 0, 7⟩]⟩,
  ⟨"GEN_RESET_CAUSE", 0x000014, 0, 1, 0, 1, 0, 0x0, [⟨26, 16, .ro, 0x0, true, 0, 2047⟩, ⟨3, 0, .ro, 0x0, true, 0, 15⟩]⟩,
  ⟨"GEN_RESET_CTL", 0x000018, 0, 1, 0, 1, 0, 0x0, [⟨31, 24, .wo, 0x0, false, 0, 255⟩, ⟨1, 1, .wo, 0x0, false, 0, 1⟩, ⟨0, 0, .wo, 0x0, false, 0, 1⟩]⟩,
  ⟨"GEN_RST_PIN", 0x00001C, 0, 1, 0, 1, 0, 0xFFFF, [⟨31, 31, .ro, 0x0, false, 0, 1⟩, ⟨30, 30, .ro, 0x0, false, 0, 1⟩, ⟨29, 29, .ro, 0x0, false, 0, 1⟩, ⟨15, 0, .ro, 0x0, false, 0, 65535⟩]⟩,
  ⟨"GEN_EPOCH", 0x000020, 0, 1, 0, 1, 0, 0x0, [⟨31, 0, .ro, 0x0, true, 0, 4294967295⟩]⟩,
  ⟨"GEN_DT_LO", 0x000024, 0, 1, 0, 1, 1, 0x0, [⟨31, 0, .ro, 0x0, false, 0, 4294967295⟩]⟩,
  ⟨"GEN_DT_HI", 0x000028, 0, 1, 0, 1, 2, 0x0, [⟨31, 0, .ro, 0x0, false, 0, 4294967295⟩]⟩,
  ⟨"GEN_DEVICE_ID_LO", 0x00002C, 0, 1, 0, 1, 1, 0x0, [⟨31, 0, .ro, 0x0, true, 0, 4294967295⟩]⟩]

def regRowsGEN1 : List RegRow := [
  ⟨"GEN_DEVICE_ID_HI", 0x000030, 0, 1, 0, 1, 2, 0x0, [⟨31, 0, .ro, 0x0, true, 0, 4294967295⟩]⟩,
  ⟨"GEN_BOOT", 0x000034, 0, 1, 0, 1, 0, 0x0, [⟨31, 16, .ro, 0x0, false, 0, 65535⟩, ⟨15, 0, .ro, 0x0, false, 0, 65535⟩]⟩,
  ⟨"GEN_BOOT2", 0x000038, 0, 1, 0, 1, 0, 0x0, [⟨15, 0, .ro, 0x0, false, 0, 65535⟩]⟩,
  ⟨"GEN_PWR", 0x000040, 0, 1, 0, 1, 0, 0x0, [⟨31, 31, .rw, 0x1, false, 0, 1⟩, ⟨10, 8, .ro, 0x0, false, 0, 7⟩, ⟨2, 0, .rw, 0x0, false, 0, 3⟩]⟩,
  ⟨"GEN_WAKE_CFG", 0x000044, 0, 1, 0, 1, 0, 0x0, [⟨7, 4, .rw, 0x0, false, 0, 15⟩, ⟨3, 3, .rw, 0x1, false, 0, 1⟩, ⟨2, 2, .rw, 0x0, false, 0, 1⟩, ⟨1, 1, .rw, 0x0, false, 0, 1⟩, ⟨0, 0, .rw, 0x0, false, 0, 1⟩]⟩,
  ⟨"GEN_WAKE_TIME", 0x000048, 0, 1, 0, 1, 0, 0x0, [⟨31, 0, .rw, 0x0, false, 0, 4294967295⟩]⟩,
  ⟨"GEN_WAKE_CAUSE", 0x00004C, 0, 1, 0, 1, 0, 0x0, [⟨7, 4, .ro, 0x0, false, 0, 15⟩, ⟨3, 3, .ro, 0x1, false, 0, 1⟩, ⟨2, 2, .ro, 0x0, false, 0, 1⟩, ⟨1, 1, .ro, 0x0, false, 0, 1⟩, ⟨0, 0, .ro, 0x0, false, 0, 1⟩]⟩,
  ⟨"GEN_CHG_READY", 0x000050, 0, 1, 0, 1, 0, 0x0, [⟨31, 16, .ro, 0x0, false, 0, 65535⟩, ⟨13, 13, .ro, 0x0, false, 0, 1⟩, ⟨12, 12, .ro, 0x0, false, 0, 1⟩, ⟨11, 11, .ro, 0x0, false, 0, 1⟩, ⟨10, 10, .ro, 0x0, false, 0, 1⟩, ⟨9, 9, .ro, 0x0, false, 0, 1⟩, ⟨8, 8, .ro, 0x0, false, 0, 1⟩, ⟨7, 7, .ro, 0x0, false, 0, 1⟩, ⟨6, 6, .ro, 0x0, false, 0, 1⟩, ⟨5, 5, .ro, 0x0, false, 0, 1⟩, ⟨4, 4, .ro, 0x0, false, 0, 1⟩, ⟨3, 3, .ro, 0x0, false, 0, 1⟩, ⟨2, 2, .ro, 0x0, false, 0, 1⟩, ⟨1, 1, .ro, 0x0, false, 0, 1⟩, ⟨0, 0, .ro, 0x0, false, 0, 1⟩]⟩,
  ⟨"GEN_TEST", 0x000060, 0, 1, 0, 1, 0, 0x0, [⟨31, 31, .ro, 0x0, false, 0, 1⟩, ⟨19, 16, .ro, 0x0, false, 0, 15⟩, ⟨15, 0, .ro, 0x0, false, 0, 65535⟩]⟩,
  ⟨"GEN_REJECT_CNT", 0x000064, 0, 1, 0, 1, 0, 0xFFFF, [⟨15, 0, .ro, 0x0, false, 0, 65535⟩]⟩,
  ⟨"GEN_ECC", 0x000068, 0, 1, 0, 1, 0, 0xFFFFFFFF, [⟨31, 16, .ro, 0x0, false, 0, 65535⟩, ⟨15, 0, .ro, 0x0, false, 0, 65535⟩]⟩]

/-- The GEN register map. -/
def regRowsGEN : List RegRow := regRowsGEN0 ++ regRowsGEN1

def regRowsHIF0 : List RegRow := [
  ⟨"HIF_CTRL", 0x010000, 0, 1, 0, 1, 0, 0x0, [⟨0, 0, .rw, 0x0, false, 0, 1⟩]⟩,
  ⟨"HIF_STATUS", 0x010004, 0, 1, 0, 1, 0, 0x0, [⟨31, 31, .ro, 0x0, false, 0, 1⟩, ⟨30, 28, .ro, 0x0, false, 0, 7⟩, ⟨27, 24, .ro, 0x0, false, 0, 15⟩, ⟨23, 23, .ro, 0x0, false, 0, 1⟩, ⟨22, 22, .w1c, 0x0, false, 0, 1⟩, ⟨9, 0, .ro, 0x0, false, 0, 1023⟩]⟩,
  ⟨"HIF_REJECT_CNT", 0x010008, 0, 1, 0, 1, 0, 0xFFFF, [⟨15, 0, .ro, 0x0, false, 0, 65535⟩]⟩,
  ⟨"HIF_LINK_EPOCH", 0x01000C, 0, 1, 0, 1, 0, 0x0, [⟨31, 0, .ro, 0x0, false, 0, 4294967295⟩]⟩,
  ⟨"HIF_EVT_DROP", 0x010010, 0, 1, 0, 1, 0, 0x0, [⟨31, 0, .ro, 0x0, false, 0, 4294967295⟩]⟩,
  ⟨"HIF_ALERT_LOST", 0x010014, 0, 1, 0, 1, 0, 0x0, [⟨31, 0, .ro, 0x0, false, 0, 4294967295⟩]⟩,
  ⟨"HIF_ALERT_FIRST", 0x010018, 0, 1, 0, 1, 0, 0x0, [⟨15, 0, .ro, 0x0, false, 0, 65535⟩]⟩,
  ⟨"HIF_DB_ERR", 0x01001C, 0, 1, 0, 1, 0, 0x0, [⟨31, 0, .ro, 0x0, false, 0, 4294967295⟩]⟩,
  ⟨"HIF_UART_ERR", 0x010020, 0, 1, 0, 1, 0, 0x0, [⟨31, 0, .ro, 0x0, false, 0, 4294967295⟩]⟩,
  ⟨"HIF_VEC_MOD", 0x010100, 4, 64, 0, 1, 0, 0x0, [⟨31, 31, .rw, 0x1, false, 0, 1⟩, ⟨30, 16, .rw, 0x32, false, 0, 32767⟩, ⟨11, 0, .rw, 0x1, false, 0, 4095⟩]⟩,
  ⟨"HIF_EVT_ROUTE", 0x010200, 4, 18, 0, 1, 0, 0x0, [⟨31, 31, .rw, 0x0, false, 0, 1⟩, ⟨7, 0, .rw, 0x0, false, 0, 255⟩]⟩,
  ⟨"HIF_RING_BASE_LO", 0x011000, 16, 256, 0, 1, 1, 0x0, [⟨31, 0, .rwo, 0x0, false, 0, 4294967295⟩]⟩]

def regRowsHIF1 : List RegRow := [
  ⟨"HIF_RING_BASE_HI", 0x011004, 16, 256, 0, 1, 2, 0x0, [⟨31, 0, .rwo, 0x0, false, 0, 4294967295⟩]⟩,
  ⟨"HIF_RING_CFG", 0x011008, 16, 256, 0, 1, 0, 0x0, [⟨31, 31, .rw, 0x0, false, 0, 1⟩, ⟨30, 28, .rwo, 0x0, false, 0, 3⟩, ⟨27, 24, .rwo, 0x4, false, 4, 12⟩, ⟨23, 16, .rwo, 0x0, false, 0, 255⟩, ⟨15, 10, .rwo, 0x0, false, 0, 63⟩, ⟨9, 8, .rwo, 0x0, false, 0, 3⟩, ⟨7, 5, .rwo, 0x0, false, 0, 4⟩]⟩,
  ⟨"HIF_RING_STATUS", 0x01100C, 16, 256, 0, 1, 0, 0x0, [⟨31, 29, .ro, 0x0, false, 0, 7⟩, ⟨28, 16, .ro, 0x0, false, 0, 8191⟩, ⟨11, 0, .ro, 0x0, false, 0, 4095⟩]⟩,
  ⟨"HIF_MSIX_ADDR_LO", 0x018000, 16, 64, 0, 1, 0, 0x0, [⟨31, 0, .rw, 0x0, false, 0, 4294967295⟩]⟩,
  ⟨"HIF_MSIX_ADDR_HI", 0x018004, 16, 64, 0, 1, 0, 0x0, [⟨31, 0, .rw, 0x0, false, 0, 4294967295⟩]⟩,
  ⟨"HIF_MSIX_DATA", 0x018008, 16, 64, 0, 1, 0, 0x0, [⟨31, 0, .rw, 0x0, false, 0, 4294967295⟩]⟩,
  ⟨"HIF_MSIX_CTRL", 0x01800C, 16, 64, 0, 1, 0, 0x0, [⟨0, 0, .rw, 0x1, false, 0, 1⟩]⟩,
  ⟨"HIF_MSIX_PBA", 0x019000, 4, 2, 0, 1, 0, 0x0, [⟨31, 0, .ro, 0x0, false, 0, 4294967295⟩]⟩]

/-- The HIF register map. -/
def regRowsHIF : List RegRow := regRowsHIF0 ++ regRowsHIF1

def regRowsALC0 : List RegRow := [
  ⟨"ALC_CTRL", 0x020000, 0, 1, 0, 1, 0, 0x0, [⟨8, 8, .rw, 0x0, false, 0, 1⟩, ⟨3, 3, .rw, 0x1, false, 0, 1⟩, ⟨2, 2, .rw, 0x1, false, 0, 1⟩, ⟨0, 0, .rw, 0x0, false, 0, 1⟩]⟩,
  ⟨"ALC_STATUS", 0x020004, 0, 1, 0, 1, 0, 0x0, [⟨31, 22, .ro, 0x0, false, 0, 1023⟩, ⟨15, 8, .ro, 0x0, false, 0, 255⟩, ⟨7, 7, .w1c, 0x0, false, 0, 1⟩, ⟨6, 6, .ro, 0x0, false, 0, 1⟩, ⟨5, 5, .ro, 0x0, false, 0, 1⟩, ⟨4, 4, .ro, 0x0, false, 0, 1⟩, ⟨3, 3, .ro, 0x0, false, 0, 1⟩, ⟨2, 2, .ro, 0x0, false, 0, 1⟩, ⟨1, 1, .ro, 0x0, false, 0, 1⟩, ⟨0, 0, .ro, 0x0, false, 0, 1⟩]⟩,
  ⟨"ALC_TRIP", 0x020008, 0, 1, 0, 1, 0, 0x0, [⟨11, 11, .ro, 0x0, false, 0, 1⟩, ⟨10, 10, .ro, 0x0, false, 0, 1⟩, ⟨9, 9, .ro, 0x0, false, 0, 1⟩, ⟨8, 8, .ro, 0x0, false, 0, 1⟩, ⟨1, 1, .w1s, 0x0, false, 0, 1⟩, ⟨0, 0, .wo, 0x0, false, 0, 1⟩]⟩,
  ⟨"ALC_REJECT_CNT", 0x02000C, 0, 1, 0, 1, 0, 0xFFFF, [⟨15, 0, .ro, 0x0, false, 0, 65535⟩]⟩,
  ⟨"ALC_TICK_LO", 0x020010, 0, 1, 0, 1, 1, 0x0, [⟨31, 0, .ro, 0x0, false, 0, 4294967295⟩]⟩,
  ⟨"ALC_TICK_HI", 0x020014, 0, 1, 0, 1, 2, 0x0, [⟨31, 0, .ro, 0x0, false, 0, 4294967295⟩]⟩,
  ⟨"ALC_GRANT_SEQ", 0x020018, 0, 1, 0, 1, 0, 0x0, [⟨31, 0, .ro, 0x0, false, 0, 4294967295⟩]⟩,
  ⟨"ALC_SITE_CAP", 0x020020, 0, 1, 0, 1, 0, 0x0, [⟨31, 16, .rw, 0x0, false, 0, 65535⟩, ⟨15, 0, .rw, 0x0, false, 0, 65535⟩]⟩,
  ⟨"ALC_GP_CAP", 0x020024, 4, 2, 0, 1, 0, 0x0, [⟨31, 16, .rw, 0x0, false, 0, 65535⟩, ⟨15, 0, .rw, 0x0, false, 0, 65535⟩]⟩,
  ⟨"ALC_GRID_TARGET", 0x02002C, 0, 1, 0, 1, 0, 0x0, [⟨31, 31, .rw, 0x0, false, 0, 1⟩, ⟨15, 0, .rw, 0x0, false, 0, 65535⟩]⟩,
  ⟨"ALC_GRID_MARGIN", 0x020030, 0, 1, 0, 1, 0, 0x0, [⟨31, 16, .rw, 0x3E8, false, 0, 65535⟩, ⟨15, 0, .rw, 0xA, false, 0, 65535⟩]⟩,
  ⟨"ALC_RAMP", 0x020034, 0, 1, 0, 1, 0, 0x0, [⟨31, 16, .rw, 0xC8, false, 1, 1000⟩, ⟨15, 0, .rw, 0x64, false, 1, 1000⟩]⟩]

def regRowsALC1 : List RegRow := [
  ⟨"ALC_SNOW", 0x020038, 0, 1, 0, 1, 0, 0x0, [⟨15, 0, .rw, 0x3E8, false, 250, 1000⟩]⟩,
  ⟨"ALC_HYST", 0x02003C, 0, 1, 0, 1, 0, 0x0, [⟨23, 16, .rw, 0x3, false, 1, 255⟩, ⟨15, 0, .rw, 0x5, false, 0, 65535⟩]⟩,
  ⟨"ALC_SUPPLY", 0x020040, 0, 1, 0, 1, 0, 0x0, [⟨0, 0, .rw, 0x0, false, 0, 1⟩]⟩,
  ⟨"ALC_SURPLUS", 0x020044, 0, 1, 0, 1, 0, 0x0, [⟨15, 0, .rw, 0x0, false, 0, 65535⟩]⟩,
  ⟨"ALC_REST_CTRL", 0x020048, 0, 1, 0, 1, 0, 0x0, [⟨23, 16, .rw, 0x3, false, 1, 255⟩, ⟨15, 8, .rw, 0x14, false, 0, 100⟩, ⟨2, 0, .rw, 0x1, false, 1, 4⟩]⟩,
  ⟨"ALC_REST_STATUS", 0x02004C, 0, 1, 0, 1, 0, 0x0, [⟨21, 16, .ro, 0x3F, false, 0, 63⟩, ⟨13, 8, .ro, 0x3F, false, 0, 63⟩, ⟨2, 0, .ro, 0x0, false, 0, 7⟩]⟩,
  ⟨"ALC_STAGE_MAP", 0x020100, 4, 64, 0, 1, 0, 0x0, [⟨31, 31, .rwo, 0x0, false, 0, 1⟩, ⟨27, 26, .rwo, 0x0, false, 0, 3⟩, ⟨25, 20, .rwo, 0x0, false, 0, 63⟩, ⟨15, 0, .rwo, 0x0, false, 0, 65535⟩]⟩,
  ⟨"ALC_OUT_CFG", 0x020200, 8, 16, 0, 1, 0, 0x0, [⟨31, 31, .rw, 0x0, false, 0, 1⟩, ⟨30, 28, .rw, 0x4, false, 0, 7⟩, ⟨27, 20, .rw, 0x10, false, 0, 255⟩, ⟨15, 0, .rw, 0x0, false, 0, 3750⟩]⟩,
  ⟨"ALC_OUT_CAP", 0x020204, 8, 16, 0, 1, 0, 0x0, [⟨15, 0, .rw, 0x0, false, 0, 65535⟩]⟩,
  ⟨"ALC_STR_CFG", 0x020300, 4, 48, 0, 1, 0, 0x0, [⟨31, 31, .rw, 0x0, false, 0, 1⟩, ⟨30, 30, .rw, 0x1, false, 0, 1⟩, ⟨29, 29, .rw, 0x1, false, 0, 1⟩, ⟨23, 16, .rw, 0x10, false, 0, 255⟩, ⟨15, 8, .rw, 0xA, false, 0, 255⟩]⟩,
  ⟨"ALC_GRANT_W0", 0x021000, 32, 65, 0, 1, 0, 0x0, [⟨31, 0, .ro, 0x0, false, 0, 4294967295⟩]⟩,
  ⟨"ALC_GRANT_W1", 0x021004, 32, 65, 0, 1, 0, 0x0, [⟨31, 0, .ro, 0x0, false, 0, 4294967295⟩]⟩]

def regRowsALC2 : List RegRow := [
  ⟨"ALC_GRANT_W2", 0x021008, 32, 65, 0, 1, 0, 0x0, [⟨31, 24, .ro, 0x0, false, 0, 255⟩, ⟨23, 16, .ro, 0x21, false, 0, 255⟩, ⟨15, 0, .ro, 0x0, false, 0, 65535⟩]⟩,
  ⟨"ALC_GRANT_W3", 0x02100C, 32, 65, 0, 1, 0, 0x0, [⟨31, 16, .ro, 0xFFFF, false, 0, 65535⟩, ⟨15, 0, .ro, 0x0, false, 0, 65535⟩]⟩,
  ⟨"ALC_GRANT_W4", 0x021010, 32, 65, 0, 1, 0, 0x0, [⟨31, 0, .ro, 0x0, false, 0, 4294967295⟩]⟩,
  ⟨"ALC_GRANT_W5", 0x021014, 32, 65, 0, 1, 0, 0x0, [⟨31, 0, .ro, 0x0, false, 0, 4294967295⟩]⟩,
  ⟨"ALC_GRANT_W6", 0x021018, 32, 65, 0, 1, 0, 0x0, [⟨31, 0, .ro, 0x0, false, 0, 4294967295⟩]⟩,
  ⟨"ALC_GRANT_W7", 0x02101C, 32, 65, 0, 1, 0, 0x0, [⟨22, 22, .ro, 0x0, false, 0, 1⟩, ⟨21, 21, .ro, 0x0, false, 0, 1⟩, ⟨20, 20, .ro, 0x0, false, 0, 1⟩, ⟨19, 19, .ro, 0x0, false, 0, 1⟩, ⟨18, 18, .ro, 0x0, false, 0, 1⟩, ⟨17, 17, .ro, 0x0, false, 0, 1⟩, ⟨16, 16, .ro, 0x0, false, 0, 1⟩, ⟨15, 8, .ro, 0x0, false, 0, 255⟩, ⟨2, 0, .ro, 0x0, false, 0, 7⟩]⟩]

/-- The ALC register map. -/
def regRowsALC : List RegRow := regRowsALC0 ++ regRowsALC1 ++ regRowsALC2

def regRowsEDG0 : List RegRow := [
  ⟨"EDG_CTRL", 0x030000, 0, 1, 0, 1, 0, 0x0, [⟨0, 0, .rw, 0x0, false, 0, 1⟩]⟩,
  ⟨"EDG_STATUS", 0x030004, 0, 1, 0, 1, 0, 0x0, [⟨24, 16, .ro, 0x0, false, 0, 511⟩, ⟨15, 8, .ro, 0x0, false, 0, 255⟩, ⟨2, 2, .ro, 0x0, false, 0, 1⟩, ⟨1, 1, .w1c, 0x0, false, 0, 1⟩, ⟨0, 0, .ro, 0x0, false, 0, 1⟩]⟩,
  ⟨"EDG_REJECT_CNT", 0x030008, 0, 1, 0, 1, 0, 0xFFFF, [⟨15, 0, .ro, 0x0, false, 0, 65535⟩]⟩,
  ⟨"EDG_LATE_CNT", 0x03000C, 0, 1, 0, 1, 0, 0x0, [⟨31, 0, .ro, 0x0, false, 0, 4294967295⟩]⟩,
  ⟨"EDG_LEAD", 0x030020, 4, 8, 0, 1, 0, 0x0, [⟨31, 16, .ro, 0x0, false, 0, 65535⟩, ⟨15, 15, .ro, 0x0, false, 0, 1⟩, ⟨11, 0, .ro, 0x0, false, 0, 4095⟩]⟩,
  ⟨"EDG_STG_CFG", 0x030400, 16, 64, 0, 1, 0, 0x0, [⟨31, 31, .rwo, 0x0, false, 0, 1⟩, ⟨30, 30, .rwo, 0x0, false, 0, 1⟩]⟩,
  ⟨"EDG_STG_STATUS", 0x030404, 16, 64, 0, 1, 0, 0x0, [⟨31, 31, .ro, 0x0, false, 0, 1⟩, ⟨30, 30, .ro, 0x0, false, 0, 1⟩, ⟨29, 27, .ro, 0x0, false, 0, 7⟩, ⟨20, 16, .ro, 0x0, false, 0, 31⟩, ⟨5, 0, .ro, 0x0, false, 0, 63⟩]⟩,
  ⟨"EDG_STG_NODE_LO", 0x030408, 16, 64, 0, 1, 1, 0x0, [⟨31, 0, .rwo, 0x0, false, 0, 4294967295⟩]⟩,
  ⟨"EDG_STG_NODE_HI", 0x03040C, 16, 64, 0, 1, 2, 0x0, [⟨31, 0, .rwo, 0x0, false, 0, 4294967295⟩]⟩,
  ⟨"EDG_LEG_PERIOD", 0x031000, 32, 384, 0, 1, 0, 0x0, [⟨25, 0, .rwo, 0x0, false, 0, 67108863⟩]⟩,
  ⟨"EDG_LEG_PHASE", 0x031004, 32, 384, 0, 1, 0, 0x0, [⟨25, 0, .rwo, 0x0, false, 0, 67108863⟩]⟩,
  ⟨"EDG_LEG_DEAD", 0x031008, 32, 384, 0, 1, 0, 0x0, [⟨29, 16, .rwo, 0x0, false, 0, 16383⟩, ⟨13, 0, .rwo, 0x0, false, 0, 16383⟩]⟩]

def regRowsEDG1 : List RegRow := [
  ⟨"EDG_LEG_CFG", 0x03100C, 32, 384, 0, 1, 0, 0x0, [⟨31, 31, .rwo, 0x1, false, 0, 1⟩, ⟨30, 30, .rwo, 0x0, false, 0, 1⟩, ⟨29, 28, .rwo, 0x1, false, 0, 3⟩, ⟨27, 26, .rwo, 0x0, false, 0, 2⟩, ⟨25, 25, .rwo, 0x0, false, 0, 1⟩, ⟨24, 21, .rwo, 0x0, false, 0, 15⟩, ⟨20, 17, .rwo, 0x0, false, 0, 15⟩, ⟨12, 0, .rwo, 0xC8, false, 0, 8191⟩]⟩,
  ⟨"EDG_LEG_RISE", 0x031010, 32, 384, 0, 1, 0, 0x0, [⟨25, 0, .ro, 0x0, false, 0, 67108863⟩]⟩,
  ⟨"EDG_LEG_FALL", 0x031014, 32, 384, 0, 1, 0, 0x0, [⟨25, 0, .ro, 0x0, false, 0, 67108863⟩]⟩,
  ⟨"EDG_LEG_CTL", 0x031018, 32, 384, 0, 1, 0, 0x0, [⟨31, 28, .ro, 0x0, false, 0, 15⟩, ⟨27, 27, .ro, 0x0, false, 0, 1⟩, ⟨26, 26, .ro, 0x0, false, 0, 1⟩, ⟨25, 24, .ro, 0x0, false, 0, 3⟩, ⟨23, 16, .ro, 0x0, false, 0, 255⟩, ⟨9, 9, .w1c, 0x0, false, 0, 1⟩, ⟨8, 8, .w1c, 0x0, false, 0, 1⟩, ⟨7, 7, .w1c, 0x0, false, 0, 1⟩, ⟨6, 6, .w1c, 0x0, false, 0, 1⟩, ⟨5, 5, .w1c, 0x0, false, 0, 1⟩, ⟨4, 4, .w1c, 0x0, false, 0, 1⟩, ⟨3, 2, .rw, 0x0, false, 0, 3⟩, ⟨1, 1, .wo, 0x0, false, 0, 1⟩, ⟨0, 0, .wo, 0x0, false, 0, 1⟩]⟩,
  ⟨"EDG_LEG_SHORT_CNT", 0x03101C, 32, 384, 0, 1, 0, 0x0, [⟨31, 0, .ro, 0x0, false, 0, 4294967295⟩]⟩,
  ⟨"EDG_PWM_PERIOD", 0x034000, 32, 24, 0, 1, 0, 0x0, [⟨25, 0, .rwo, 0x0, false, 0, 67108863⟩]⟩,
  ⟨"EDG_PWM_PHASE", 0x034004, 32, 24, 0, 1, 0, 0x0, [⟨25, 0, .rwo, 0x0, false, 0, 67108863⟩]⟩,
  ⟨"EDG_PWM_DEAD", 0x034008, 32, 24, 0, 1, 0, 0x0, [⟨29, 16, .rwo, 0x0, false, 0, 16383⟩, ⟨13, 0, .rwo, 0x0, false, 0, 16383⟩]⟩,
  ⟨"EDG_PWM_CFG", 0x03400C, 64, 12, 0, 1, 0, 0x0, [⟨31, 31, .rwo, 0x1, false, 0, 1⟩, ⟨30, 30, .rwo, 0x0, false, 0, 1⟩, ⟨29, 28, .rwo, 0x1, false, 0, 3⟩, ⟨27, 26, .rwo, 0x0, false, 0, 2⟩, ⟨25, 25, .rwo, 0x0, false, 0, 1⟩, ⟨24, 21, .rwo, 0x0, false, 0, 15⟩, ⟨20, 17, .rwo, 0x0, false, 0, 15⟩, ⟨16, 16, .rwo, 0x0, false, 0, 1⟩, ⟨12, 0, .rwo, 0xC8, false, 0, 8191⟩]⟩,
  ⟨"EDG_PWM_CFG", 0x03402C, 64, 12, 0, 1, 0, 0x0, [⟨31, 31, .rwo, 0x1, false, 0, 1⟩, ⟨30, 30, .rwo, 0x0, false, 0, 1⟩, ⟨29, 28, .rwo, 0x1, false, 0, 3⟩, ⟨27, 26, .rwo, 0x0, false, 0, 2⟩, ⟨25, 25, .rwo, 0x0, false, 0, 1⟩, ⟨24, 21, .rwo, 0x0, false, 0, 15⟩, ⟨20, 17, .rwo, 0x0, false, 0, 15⟩, ⟨12, 0, .rwo, 0xC8, false, 0, 8191⟩]⟩,
  ⟨"EDG_PWM_RISE", 0x034010, 32, 24, 0, 1, 0, 0x0, [⟨25, 0, .ro, 0x0, false, 0, 67108863⟩]⟩,
  ⟨"EDG_PWM_FALL", 0x034014, 32, 24, 0, 1, 0, 0x0, [⟨25, 0, .ro, 0x0, false, 0, 67108863⟩]⟩]

def regRowsEDG2 : List RegRow := [
  ⟨"EDG_PWM_CTL", 0x034018, 32, 24, 0, 1, 0, 0x0, [⟨31, 28, .ro, 0x0, false, 0, 15⟩, ⟨27, 27, .ro, 0x0, false, 0, 1⟩, ⟨26, 26, .ro, 0x0, false, 0, 1⟩, ⟨25, 24, .ro, 0x0, false, 0, 3⟩, ⟨23, 16, .ro, 0x0, false, 0, 255⟩, ⟨9, 9, .w1c, 0x0, false, 0, 1⟩, ⟨8, 8, .w1c, 0x0, false, 0, 1⟩, ⟨7, 7, .w1c, 0x0, false, 0, 1⟩, ⟨6, 6, .w1c, 0x0, false, 0, 1⟩, ⟨5, 5, .w1c, 0x0, false, 0, 1⟩, ⟨4, 4, .w1c, 0x0, false, 0, 1⟩, ⟨3, 2, .rw, 0x0, false, 0, 3⟩, ⟨1, 1, .wo, 0x0, false, 0, 1⟩, ⟨0, 0, .wo, 0x0, false, 0, 1⟩]⟩,
  ⟨"EDG_PWM_SHORT_CNT", 0x03401C, 32, 24, 0, 1, 0, 0x0, [⟨31, 0, .ro, 0x0, false, 0, 4294967295⟩]⟩,
  ⟨"EDG_FLT", 0x034400, 4, 4, 0, 1, 0, 0x0, [⟨31, 31, .rwo, 0x0, false, 0, 1⟩, ⟨30, 30, .rwo, 0x0, false, 0, 1⟩, ⟨27, 24, .rwo, 0x0, false, 0, 15⟩, ⟨23, 0, .rwo, 0x0, false, 0, 16777215⟩]⟩,
  ⟨"EDG_SLM_CFG", 0x034800, 8, 16, 0, 1, 0, 0x0, [⟨31, 31, .rwo, 0x0, false, 0, 1⟩, ⟨30, 30, .rwo, 0x0, false, 0, 1⟩, ⟨29, 26, .rwo, 0x0, false, 1, 15⟩, ⟨25, 0, .rwo, 0x0, false, 0, 67108863⟩]⟩,
  ⟨"EDG_SLM_STATUS", 0x034804, 8, 16, 0, 1, 0, 0x0, [⟨20, 16, .ro, 0x0, false, 0, 31⟩, ⟨15, 0, .ro, 0x0, false, 0, 65535⟩]⟩]

/-- The EDG register map. -/
def regRowsEDG : List RegRow := regRowsEDG0 ++ regRowsEDG1 ++ regRowsEDG2

def regRowsCLE0 : List RegRow := [
  ⟨"CLE_CTRL", 0x040000, 0, 1, 0, 1, 0, 0x0, [⟨0, 0, .rw, 0x0, false, 0, 1⟩]⟩,
  ⟨"CLE_STATUS", 0x040004, 0, 1, 0, 1, 0, 0x0, [⟨31, 22, .ro, 0x0, false, 0, 1023⟩, ⟨15, 8, .ro, 0x0, false, 0, 255⟩, ⟨1, 1, .ro, 0x0, false, 0, 1⟩, ⟨0, 0, .w1c, 0x0, false, 0, 1⟩]⟩,
  ⟨"CLE_REJECT_CNT", 0x040008, 0, 1, 0, 1, 0, 0xFFFF, [⟨15, 0, .ro, 0x0, false, 0, 65535⟩]⟩,
  ⟨"CLE_MISS_CNT", 0x04000C, 0, 1, 0, 1, 0, 0x0, [⟨31, 0, .ro, 0x0, false, 0, 4294967295⟩]⟩,
  ⟨"CLE_CLOSED", 0x040020, 4, 4, 0, 1, 0, 0x0, [⟨31, 0, .ro, 0x0, false, 0, 4294967295⟩]⟩,
  ⟨"CLE_FAULT", 0x040030, 4, 4, 0, 1, 0, 0x0, [⟨31, 0, .ro, 0x0, false, 0, 4294967295⟩]⟩,
  ⟨"CLE_MAP_SRC", 0x044000, 32, 384, 0, 1, 0, 0x0, [⟨31, 31, .rwo, 0x0, false, 0, 1⟩, ⟨30, 30, .rwo, 0x0, false, 0, 1⟩, ⟨23, 23, .rwo, 0x0, false, 0, 1⟩, ⟨22, 16, .rwo, 0x0, false, 0, 127⟩, ⟨7, 7, .rwo, 0x0, false, 0, 1⟩, ⟨6, 0, .rwo, 0x0, false, 0, 127⟩]⟩,
  ⟨"CLE_MAP_C0", 0x044004, 32, 384, 0, 1, 0, 0x0, [⟨31, 0, .rwo, 0x3F800000, false, 0, 4294967295⟩]⟩,
  ⟨"CLE_MAP_C1", 0x044008, 32, 384, 0, 1, 0, 0x0, [⟨31, 0, .rwo, 0x0, false, 0, 4294967295⟩]⟩,
  ⟨"CLE_MAP_OFS", 0x04400C, 32, 384, 0, 1, 0, 0x0, [⟨31, 0, .rwo, 0x0, false, 0, 4294967295⟩]⟩,
  ⟨"CLE_MAP_C0F", 0x044010, 32, 384, 0, 1, 0, 0x0, [⟨31, 0, .rwo, 0x0, false, 0, 4294967295⟩]⟩,
  ⟨"CLE_MAP_C1F", 0x044014, 32, 384, 0, 1, 0, 0x0, [⟨31, 0, .rwo, 0x0, false, 0, 4294967295⟩]⟩]

def regRowsCLE1 : List RegRow := [
  ⟨"CLE_MAP_OFSF", 0x044018, 32, 384, 0, 1, 0, 0x0, [⟨31, 0, .rwo, 0x0, false, 0, 4294967295⟩]⟩,
  ⟨"CLE_PWMMAP_SRC", 0x047000, 32, 24, 0, 1, 0, 0x0, [⟨31, 31, .rwo, 0x0, false, 0, 1⟩, ⟨30, 30, .rwo, 0x0, false, 0, 1⟩, ⟨23, 23, .rwo, 0x0, false, 0, 1⟩, ⟨22, 16, .rwo, 0x0, false, 0, 127⟩, ⟨7, 7, .rwo, 0x0, false, 0, 1⟩, ⟨6, 0, .rwo, 0x0, false, 0, 127⟩]⟩,
  ⟨"CLE_PWMMAP_C0", 0x047004, 32, 24, 0, 1, 0, 0x0, [⟨31, 0, .rwo, 0x3F800000, false, 0, 4294967295⟩]⟩,
  ⟨"CLE_PWMMAP_C1", 0x047008, 32, 24, 0, 1, 0, 0x0, [⟨31, 0, .rwo, 0x0, false, 0, 4294967295⟩]⟩,
  ⟨"CLE_PWMMAP_OFS", 0x04700C, 32, 24, 0, 1, 0, 0x0, [⟨31, 0, .rwo, 0x0, false, 0, 4294967295⟩]⟩,
  ⟨"CLE_PWMMAP_C0F", 0x047010, 32, 24, 0, 1, 0, 0x0, [⟨31, 0, .rwo, 0x0, false, 0, 4294967295⟩]⟩,
  ⟨"CLE_PWMMAP_C1F", 0x047014, 32, 24, 0, 1, 0, 0x0, [⟨31, 0, .rwo, 0x0, false, 0, 4294967295⟩]⟩,
  ⟨"CLE_PWMMAP_OFSF", 0x047018, 32, 24, 0, 1, 0, 0x0, [⟨31, 0, .rwo, 0x0, false, 0, 4294967295⟩]⟩,
  ⟨"CLE_SLOT_CTL", 0x048000, 256, 128, 0, 1, 0, 0x0, [⟨31, 30, .ro, 0x0, false, 0, 3⟩, ⟨29, 29, .w1c, 0x0, false, 0, 1⟩, ⟨25, 24, .ro, 0x0, false, 0, 3⟩, ⟨23, 16, .ro, 0x0, false, 0, 255⟩, ⟨9, 8, .ro, 0x0, false, 0, 3⟩, ⟨3, 3, .w1c, 0x0, false, 0, 1⟩, ⟨2, 2, .w1c, 0x0, false, 0, 1⟩, ⟨1, 1, .wo, 0x0, false, 0, 1⟩, ⟨0, 0, .wo, 0x0, false, 0, 1⟩]⟩,
  ⟨"CLE_SLOT_CFG", 0x048004, 256, 128, 0, 1, 0, 0x0, [⟨31, 28, .rwo, 0x0, false, 0, 15⟩, ⟨27, 26, .rwo, 0x0, false, 0, 3⟩, ⟨24, 24, .rwo, 0x0, false, 0, 1⟩, ⟨23, 12, .rwo, 0x0, false, 0, 4095⟩]⟩,
  ⟨"CLE_SLOT_PERIOD", 0x048008, 256, 128, 0, 1, 0, 0x0, [⟨17, 0, .rwo, 0x30D40, false, 0, 262143⟩]⟩,
  ⟨"CLE_SLOT_PHASE", 0x04800C, 256, 128, 0, 1, 0, 0x0, [⟨17, 0, .rwo, 0x0, false, 0, 262143⟩]⟩]

def regRowsCLE2 : List RegRow := [
  ⟨"CLE_SLOT_DEADLINE", 0x048010, 256, 128, 0, 1, 0, 0x0, [⟨17, 0, .rwo, 0x0, false, 0, 262143⟩]⟩,
  ⟨"CLE_SLOT_SRCA", 0x048014, 256, 128, 0, 1, 0, 0x0, [⟨31, 28, .rwo, 0x0, false, 0, 15⟩, ⟨9, 0, .rwo, 0x0, false, 0, 1023⟩]⟩,
  ⟨"CLE_SLOT_SRCB", 0x048018, 256, 128, 0, 1, 0, 0x0, [⟨31, 28, .rwo, 0x0, false, 0, 15⟩, ⟨9, 0, .rwo, 0x0, false, 0, 1023⟩]⟩,
  ⟨"CLE_SLOT_LAT", 0x04801C, 256, 128, 0, 1, 0, 0xFFFF0000, [⟨31, 16, .ro, 0x0, false, 0, 65535⟩, ⟨15, 0, .ro, 0x0, false, 0, 65535⟩]⟩,
  ⟨"CLE_SLOT_GAIN_A", 0x048020, 256, 128, 0, 1, 0, 0x0, [⟨31, 0, .rwo, 0x3F800000, false, 0, 4294967295⟩]⟩,
  ⟨"CLE_SLOT_OFS_A", 0x048024, 256, 128, 0, 1, 0, 0x0, [⟨31, 0, .rwo, 0x0, false, 0, 4294967295⟩]⟩,
  ⟨"CLE_SLOT_GAIN_B", 0x048028, 256, 128, 0, 1, 0, 0x0, [⟨31, 0, .rwo, 0x3F800000, false, 0, 4294967295⟩]⟩,
  ⟨"CLE_SLOT_OFS_B", 0x04802C, 256, 128, 0, 1, 0, 0x0, [⟨31, 0, .rwo, 0x0, false, 0, 4294967295⟩]⟩,
  ⟨"CLE_SLOT_SP_TAU", 0x048030, 256, 128, 0, 1, 0, 0x0, [⟨31, 0, .rwo, 0x0, false, 0, 4294967295⟩]⟩,
  ⟨"CLE_SLOT_SP_SLEW", 0x048034, 256, 128, 0, 1, 0, 0x0, [⟨31, 0, .rwo, 0x0, false, 0, 4294967295⟩]⟩,
  ⟨"CLE_SLOT_SP_REG", 0x048038, 256, 128, 0, 1, 0, 0x0, [⟨31, 0, .rw, 0x0, false, 0, 4294967295⟩]⟩,
  ⟨"CLE_SLOT_FAULT_VALUE", 0x04803C, 256, 128, 0, 1, 0, 0x0, [⟨31, 0, .rwo, 0x0, false, 0, 4294967295⟩]⟩]

def regRowsCLE3 : List RegRow := [
  ⟨"CLE_SLOT_YMIN0", 0x048040, 256, 128, 0, 1, 0, 0x0, [⟨31, 0, .rwo, 0xFF800000, false, 0, 4294967295⟩]⟩,
  ⟨"CLE_SLOT_YMAX0", 0x048044, 256, 128, 0, 1, 0, 0x0, [⟨31, 0, .rwo, 0x7F800000, false, 0, 4294967295⟩]⟩,
  ⟨"CLE_SLOT_YMIN1", 0x048048, 256, 128, 0, 1, 0, 0x0, [⟨31, 0, .rwo, 0xFF800000, false, 0, 4294967295⟩]⟩,
  ⟨"CLE_SLOT_YMAX1", 0x04804C, 256, 128, 0, 1, 0, 0x0, [⟨31, 0, .rwo, 0x7F800000, false, 0, 4294967295⟩]⟩,
  ⟨"CLE_SLOT_OUT0", 0x048050, 256, 128, 0, 1, 0, 0x0, [⟨31, 0, .rwo, 0x0, false, 0, 4294967295⟩]⟩,
  ⟨"CLE_SLOT_OUT1", 0x048054, 256, 128, 0, 1, 0, 0x0, [⟨31, 0, .rwo, 0x0, false, 0, 4294967295⟩]⟩,
  ⟨"CLE_SLOT_MISS_CNT", 0x048058, 256, 128, 0, 1, 0, 0x0, [⟨31, 0, .ro, 0x0, false, 0, 4294967295⟩]⟩,
  ⟨"CLE_SLOT_COEF", 0x048060, 256, 128, 4, 36, 0, 0x0, [⟨31, 0, .rwo, 0x0, false, 0, 4294967295⟩]⟩,
  ⟨"CLE_SLOT_STATEW", 0x0480F0, 256, 128, 4, 4, 0, 0x0, [⟨31, 0, .ro, 0x0, false, 0, 4294967295⟩]⟩]

/-- The CLE register map. -/
def regRowsCLE : List RegRow := regRowsCLE0 ++ regRowsCLE1 ++ regRowsCLE2 ++ regRowsCLE3

def regRowsTHM0 : List RegRow := [
  ⟨"THM_CTRL", 0x050000, 0, 1, 0, 1, 0, 0x0, [⟨15, 8, .rw, 0x32, false, 1, 255⟩, ⟨0, 0, .rw, 0x0, false, 0, 1⟩]⟩,
  ⟨"THM_STATUS", 0x050004, 0, 1, 0, 1, 0, 0x0, [⟨31, 16, .ro, 0x0, true, 0, 65535⟩, ⟨3, 3, .w1c, 0x0, false, 0, 1⟩, ⟨2, 2, .ro, 0x0, false, 0, 1⟩, ⟨1, 1, .ro, 0x0, false, 0, 1⟩, ⟨0, 0, .ro, 0x0, false, 0, 1⟩]⟩,
  ⟨"THM_REJECT_CNT", 0x050008, 0, 1, 0, 1, 0, 0xFFFF, [⟨15, 0, .ro, 0x0, false, 0, 65535⟩]⟩,
  ⟨"THM_DIE", 0x050010, 4, 3, 0, 1, 0, 0xFFFF0000, [⟨31, 16, .ro, 0x0, false, 0, 65535⟩, ⟨15, 0, .ro, 0x0, false, 0, 65535⟩]⟩,
  ⟨"THM_DIE_CFG", 0x05001C, 0, 1, 0, 1, 0, 0x0, [⟨7, 0, .rw, 0x6E, false, 80, 120⟩]⟩,
  ⟨"THM_SET_CFG", 0x050200, 4, 32, 0, 1, 0, 0x0, [⟨8, 8, .rw, 0x0, false, 0, 1⟩, ⟨7, 0, .rw, 0x1E, false, 5, 255⟩]⟩,
  ⟨"THM_SNS_CFG", 0x050400, 16, 64, 0, 1, 0, 0x0, [⟨31, 31, .rwo, 0x0, false, 0, 1⟩, ⟨30, 28, .rwo, 0x0, false, 0, 7⟩, ⟨27, 27, .rwo, 0x0, false, 0, 1⟩, ⟨26, 22, .rwo, 0x0, false, 0, 31⟩, ⟨19, 16, .rwo, 0x0, false, 0, 15⟩, ⟨15, 14, .rwo, 0x0, false, 0, 3⟩, ⟨3, 0, .rwo, 0x0, false, 0, 15⟩]⟩,
  ⟨"THM_SNS_PARAM0", 0x050404, 16, 64, 0, 1, 0, 0x0, [⟨31, 0, .rwo, 0x0, false, 0, 4294967295⟩]⟩,
  ⟨"THM_SNS_PARAM1", 0x050408, 16, 64, 0, 1, 0, 0x0, [⟨31, 0, .rwo, 0x0, false, 0, 4294967295⟩]⟩,
  ⟨"THM_SNS_VAL", 0x05040C, 16, 64, 0, 1, 0, 0x0, [⟨31, 16, .ro, 0x0, false, 0, 65535⟩, ⟨15, 13, .ro, 0x0, false, 0, 7⟩, ⟨12, 10, .ro, 0x0, false, 0, 7⟩]⟩,
  ⟨"THM_CAB_CFG", 0x051000, 64, 16, 0, 1, 0, 0x0, [⟨31, 31, .rw, 0x0, false, 0, 1⟩, ⟨15, 0, .rwo, 0x0, false, 0, 65535⟩]⟩,
  ⟨"THM_CAB_TEMP", 0x051004, 64, 16, 0, 1, 0, 0x0, [⟨31, 24, .rwo, 0x0, false, 0, 255⟩, ⟨23, 16, .rwo, 0x0, false, 0, 255⟩, ⟨15, 8, .rwo, 0x0, false, 0, 255⟩, ⟨7, 0, .rwo, 0x14, false, 0, 255⟩]⟩]

def regRowsTHM1 : List RegRow := [
  ⟨"THM_CAB_FLOW", 0x051008, 64, 16, 0, 1, 0, 0x0, [⟨31, 30, .rwo, 0x0, false, 0, 1⟩, ⟨29, 28, .rwo, 0x0, false, 0, 3⟩, ⟨19, 12, .rwo, 0x3C, false, 0, 255⟩, ⟨11, 0, .rwo, 0x0, false, 0, 4095⟩]⟩,
  ⟨"THM_CAB_FLOW_K", 0x05100C, 64, 16, 0, 1, 0, 0x0, [⟨31, 0, .rwo, 0x0, false, 0, 4294967295⟩]⟩,
  ⟨"THM_CAB_C1", 0x051010, 64, 16, 0, 1, 0, 0x0, [⟨31, 0, .rwo, 0x0, false, 0, 4294967295⟩]⟩,
  ⟨"THM_CAB_C2", 0x051014, 64, 16, 0, 1, 0, 0x0, [⟨31, 0, .rwo, 0x0, false, 0, 4294967295⟩]⟩,
  ⟨"THM_CAB_C3", 0x051018, 64, 16, 0, 1, 0, 0x0, [⟨31, 0, .rwo, 0x0, false, 0, 4294967295⟩]⟩,
  ⟨"THM_CAB_G12", 0x05101C, 64, 16, 0, 1, 0, 0x0, [⟨31, 0, .rwo, 0x0, false, 0, 4294967295⟩]⟩,
  ⟨"THM_CAB_G13", 0x051020, 64, 16, 0, 1, 0, 0x0, [⟨31, 0, .rwo, 0x0, false, 0, 4294967295⟩]⟩,
  ⟨"THM_CAB_G23", 0x051024, 64, 16, 0, 1, 0, 0x0, [⟨31, 0, .rwo, 0x0, false, 0, 4294967295⟩]⟩,
  ⟨"THM_CAB_GF", 0x051028, 64, 16, 0, 1, 0, 0x0, [⟨31, 0, .rwo, 0x0, false, 0, 4294967295⟩]⟩,
  ⟨"THM_CAB_RC", 0x05102C, 64, 16, 0, 1, 0, 0x0, [⟨31, 0, .rwo, 0x0, false, 0, 4294967295⟩]⟩,
  ⟨"THM_CAB_ALPHA", 0x051030, 64, 16, 0, 1, 0, 0x0, [⟨31, 0, .rwo, 0x0, false, 0, 4294967295⟩]⟩,
  ⟨"THM_CAB_RP", 0x051034, 64, 16, 0, 1, 0, 0x0, [⟨31, 0, .rwo, 0x0, false, 0, 4294967295⟩]⟩]

def regRowsTHM2 : List RegRow := [
  ⟨"THM_CAB_OBS", 0x051038, 64, 16, 0, 1, 0, 0x0, [⟨31, 16, .rwo, 0x3C, false, 0, 65535⟩, ⟨15, 8, .rwo, 0x20, false, 0, 255⟩, ⟨7, 0, .rwo, 0x32, false, 0, 255⟩]⟩,
  ⟨"THM_CAB_LOOP", 0x05103C, 64, 16, 0, 1, 0, 0x0, [⟨31, 31, .rwo, 0x0, false, 0, 1⟩, ⟨26, 24, .rwo, 0x0, false, 0, 7⟩, ⟨23, 12, .rwo, 0x0, false, 0, 4095⟩]⟩,
  ⟨"THM_CAB_LIMIT", 0x052000, 16, 16, 0, 1, 0, 0x0, [⟨31, 16, .ro, 0xFFFF, false, 0, 65535⟩, ⟨15, 0, .ro, 0x0, false, 0, 65535⟩]⟩,
  ⟨"THM_CAB_HOT", 0x052004, 16, 16, 0, 1, 0, 0x0, [⟨31, 16, .ro, 0x0, false, 0, 65535⟩, ⟨15, 0, .ro, 0x0, false, 0, 65535⟩]⟩,
  ⟨"THM_CAB_COOL", 0x052008, 16, 16, 0, 1, 0, 0x0, [⟨31, 16, .ro, 0x0, false, 0, 65535⟩, ⟨15, 0, .ro, 0x0, false, 0, 65535⟩]⟩,
  ⟨"THM_CAB_STATUS", 0x05200C, 16, 16, 0, 1, 0, 0x0, [⟨31, 30, .ro, 0x0, false, 0, 3⟩, ⟨29, 29, .ro, 0x0, false, 0, 1⟩, ⟨28, 28, .ro, 0x0, false, 0, 1⟩, ⟨27, 27, .ro, 0x0, true, 0, 1⟩, ⟨26, 26, .ro, 0x0, false, 0, 1⟩, ⟨25, 25, .ro, 0x0, false, 0, 1⟩, ⟨24, 24, .ro, 0x0, false, 0, 1⟩, ⟨23, 23, .ro, 0x0, false, 0, 1⟩, ⟨18, 16, .ro, 0x0, false, 0, 7⟩, ⟨15, 13, .ro, 0x0, false, 0, 7⟩]⟩,
  ⟨"THM_LOOP_CFG", 0x053000, 16, 8, 0, 1, 0, 0x0, [⟨31, 31, .rwo, 0x0, false, 0, 1⟩, ⟨30, 24, .rwo, 0x0, false, 0, 127⟩, ⟨23, 22, .rwo, 0x0, false, 0, 1⟩, ⟨11, 8, .rwo, 0x0, false, 0, 15⟩, ⟨7, 0, .rwo, 0x64, false, 0, 100⟩]⟩,
  ⟨"THM_LOOP_NODE_LO", 0x053004, 16, 8, 0, 1, 1, 0x0, [⟨31, 0, .rwo, 0x0, false, 0, 4294967295⟩]⟩,
  ⟨"THM_LOOP_NODE_HI", 0x053008, 16, 8, 0, 1, 2, 0x0, [⟨31, 0, .rwo, 0x0, false, 0, 4294967295⟩]⟩,
  ⟨"THM_LOOP_STATUS", 0x05300C, 16, 8, 0, 1, 0, 0x0, [⟨31, 31, .ro, 0x0, false, 0, 1⟩, ⟨30, 30, .ro, 0x0, false, 0, 1⟩]⟩]

/-- The THM register map. -/
def regRowsTHM : List RegRow := regRowsTHM0 ++ regRowsTHM1 ++ regRowsTHM2

def regRowsPST0 : List RegRow := [
  ⟨"PST_PROT_CTRL", 0x060000, 0, 1, 0, 1, 0, 0x0, [⟨0, 0, .rw, 0x1, false, 0, 1⟩]⟩,
  ⟨"PST_PROT_STATUS", 0x060004, 0, 1, 0, 1, 0, 0x0, [⟨31, 24, .ro, 0x0, false, 0, 255⟩, ⟨23, 16, .ro, 0x0, false, 0, 255⟩, ⟨8, 8, .ro, 0x0, false, 0, 1⟩, ⟨7, 0, .ro, 0x0, false, 0, 255⟩]⟩,
  ⟨"PST_ADMIT", 0x060008, 0, 1, 0, 1, 0, 0x0, [⟨9, 9, .wo, 0x0, false, 0, 1⟩, ⟨8, 8, .wo, 0x0, false, 0, 1⟩, ⟨6, 0, .wo, 0x0, false, 0, 127⟩]⟩,
  ⟨"PST_FRAME_ERR", 0x06000C, 0, 1, 0, 1, 0, 0x0, [⟨31, 0, .ro, 0x0, false, 0, 4294967295⟩]⟩,
  ⟨"PST_EDGE_LATE", 0x060010, 0, 1, 0, 1, 0, 0x0, [⟨31, 0, .ro, 0x0, false, 0, 4294967295⟩]⟩,
  ⟨"PST_CEN_STATUS", 0x060100, 64, 8, 0, 1, 0, 0x0, [⟨31, 27, .ro, 0x0, false, 0, 31⟩, ⟨26, 22, .ro, 0x0, false, 0, 31⟩, ⟨21, 19, .ro, 0x0, false, 0, 7⟩, ⟨4, 0, .ro, 0x0, false, 0, 31⟩]⟩,
  ⟨"PST_CEN_LAT", 0x060104, 64, 8, 0, 1, 0, 0x0, [⟨31, 0, .ro, 0x0, false, 0, 4294967295⟩]⟩,
  ⟨"PST_CEN_RESID", 0x060108, 64, 8, 0, 1, 0, 0x0, [⟨31, 0, .ro, 0x0, false, 0, 4294967295⟩]⟩,
  ⟨"PST_CEN_TIME", 0x06010C, 64, 8, 0, 1, 0, 0x0, [⟨31, 31, .ro, 0x0, false, 0, 1⟩, ⟨30, 30, .ro, 0x0, false, 0, 1⟩, ⟨29, 29, .ro, 0x0, false, 0, 1⟩, ⟨28, 28, .ro, 0x0, false, 0, 1⟩, ⟨16, 0, .ro, 0x0, false, 0, 131071⟩]⟩,
  ⟨"PST_CEN_LINK1", 0x060110, 64, 8, 0, 1, 0, 0x0, [⟨31, 0, .ro, 0x0, false, 0, 4294967295⟩]⟩,
  ⟨"PST_CEN_COUNT", 0x060114, 64, 8, 0, 1, 0, 0xFFFF0000, [⟨31, 16, .ro, 0x0, false, 0, 65535⟩, ⟨15, 0, .ro, 0x0, false, 0, 65535⟩]⟩,
  ⟨"PST_PHY_SUMMARY", 0x060F00, 0, 1, 0, 1, 0, 0x0, [⟨31, 24, .ro, 0x0, false, 0, 255⟩, ⟨23, 16, .ro, 0x0, false, 0, 255⟩, ⟨15, 8, .ro, 0x0, false, 0, 255⟩, ⟨7, 0, .ro, 0x0, false, 0, 255⟩]⟩]

def regRowsPST1 : List RegRow := [
  ⟨"PST_TWIN", 0x060F04, 0, 1, 0, 1, 0, 0x0, [⟨11, 8, .ro, 0x0, false, 0, 15⟩, ⟨3, 0, .rwo, 0x0, false, 0, 15⟩]⟩,
  ⟨"PST_PHY_REJECT_CNT", 0x060F08, 0, 1, 0, 1, 0, 0xFFFF, [⟨15, 0, .ro, 0x0, false, 0, 65535⟩]⟩,
  ⟨"PST_PHY_CTL", 0x061000, 256, 8, 0, 1, 0, 0x0, [⟨31, 31, .rw, 0x0, false, 0, 1⟩, ⟨30, 30, .rwo, 0x0, false, 0, 1⟩, ⟨29, 29, .rwo, 0x1, false, 0, 1⟩, ⟨28, 28, .rw, 0x0, false, 0, 1⟩, ⟨27, 26, .rwo, 0x0, false, 0, 3⟩, ⟨25, 25, .rwo, 0x0, false, 0, 1⟩, ⟨24, 24, .rwo, 0x0, false, 0, 1⟩, ⟨15, 8, .rw, 0x40, false, 32, 239⟩, ⟨0, 0, .wo, 0x0, false, 0, 1⟩]⟩,
  ⟨"PST_PHY_STATE", 0x061004, 256, 8, 0, 1, 0, 0x0, [⟨31, 28, .ro, 0x0, false, 0, 15⟩, ⟨27, 24, .ro, 0x0, false, 0, 15⟩, ⟨23, 16, .ro, 0x0, false, 0, 255⟩, ⟨15, 15, .ro, 0x0, false, 0, 1⟩, ⟨14, 14, .ro, 0x0, false, 0, 1⟩, ⟨13, 13, .ro, 0x0, false, 0, 1⟩, ⟨11, 0, .ro, 0x0, false, 0, 4095⟩]⟩,
  ⟨"PST_PHY_TX", 0x061008, 256, 8, 0, 1, 0, 0x0, [⟨9, 8, .rwo, 0x1, false, 0, 2⟩, ⟨7, 4, .rwo, 0x4, false, 0, 15⟩, ⟨2, 0, .rwo, 0x0, false, 0, 7⟩]⟩,
  ⟨"PST_PHY_EQ", 0x06100C, 256, 8, 0, 1, 0, 0x0, [⟨31, 24, .ro, 0x0, false, 0, 255⟩, ⟨23, 16, .ro, 0x0, false, 0, 255⟩, ⟨3, 0, .ro, 0x0, false, 0, 15⟩]⟩,
  ⟨"PST_PHY_DFE", 0x061010, 256, 8, 0, 1, 0, 0x0, [⟨29, 24, .ro, 0x0, false, 0, 63⟩, ⟨23, 18, .ro, 0x0, false, 0, 63⟩, ⟨17, 12, .ro, 0x0, false, 0, 63⟩, ⟨11, 6, .ro, 0x0, false, 0, 63⟩, ⟨5, 0, .ro, 0x0, false, 0, 63⟩]⟩,
  ⟨"PST_PHY_BLKERR", 0x061014, 256, 8, 0, 1, 0, 0x0, [⟨31, 0, .ro, 0x0, false, 0, 4294967295⟩]⟩,
  ⟨"PST_PHY_LOCKLOSS", 0x061018, 256, 8, 0, 1, 0, 0xFFFF, [⟨15, 0, .ro, 0x0, false, 0, 65535⟩]⟩,
  ⟨"PST_PHY_PRBS", 0x06101C, 256, 8, 0, 1, 0, 0x0, [⟨31, 31, .ro, 0x0, false, 0, 1⟩, ⟨30, 0, .ro, 0x0, false, 0, 2147483647⟩]⟩,
  ⟨"PST_NODE_ID_LO", 0x062000, 32, 128, 0, 1, 1, 0x0, [⟨31, 0, .ro, 0x0, false, 0, 4294967295⟩]⟩,
  ⟨"PST_NODE_ID_HI", 0x062004, 32, 128, 0, 1, 2, 0x0, [⟨31, 0, .ro, 0x0, false, 0, 4294967295⟩]⟩]

def regRowsPST2 : List RegRow := [
  ⟨"PST_NODE_INFO", 0x062008, 32, 128, 0, 1, 0, 0x0, [⟨31, 29, .ro, 0x0, false, 0, 7⟩, ⟨28, 26, .ro, 0x0, false, 0, 7⟩, ⟨25, 23, .ro, 0x0, false, 0, 7⟩, ⟨22, 18, .ro, 0x0, false, 0, 31⟩, ⟨17, 13, .ro, 0x0, false, 0, 31⟩, ⟨12, 12, .ro, 0x0, false, 0, 1⟩, ⟨11, 11, .ro, 0x0, false, 0, 1⟩, ⟨10, 10, .ro, 0x0, false, 0, 1⟩, ⟨9, 9, .ro, 0x0, false, 0, 1⟩, ⟨8, 8, .ro, 0x0, false, 0, 1⟩, ⟨7, 0, .ro, 0x0, false, 0, 255⟩]⟩,
  ⟨"PST_NODE_PATH", 0x06200C, 32, 128, 0, 1, 0, 0x0, [⟨31, 0, .ro, 0x0, false, 0, 4294967295⟩]⟩,
  ⟨"PST_NODE_DELAY", 0x062010, 32, 128, 0, 1, 0, 0x0, [⟨31, 16, .ro, 0x0, false, 0, 65535⟩, ⟨15, 0, .ro, 0x0, false, 0, 65535⟩]⟩,
  ⟨"PST_NODE_MAKER", 0x062014, 32, 128, 0, 1, 0, 0x0, [⟨31, 16, .ro, 0x0, false, 0, 65535⟩, ⟨15, 0, .ro, 0x0, false, 0, 65535⟩]⟩,
  ⟨"PST_NODE_ERR", 0x062018, 32, 128, 0, 1, 0, 0xFFFFFFFF, [⟨31, 16, .ro, 0x0, false, 0, 65535⟩, ⟨15, 0, .ro, 0x0, false, 0, 65535⟩]⟩,
  ⟨"PST_NODE_AGE", 0x06201C, 32, 128, 0, 1, 0, 0x0, [⟨15, 0, .ro, 0x0, false, 0, 65535⟩]⟩]

/-- The PST register map. -/
def regRowsPST : List RegRow := regRowsPST0 ++ regRowsPST1 ++ regRowsPST2

def regRowsSLN0 : List RegRow := [
  ⟨"SLN_CTRL", 0x070000, 0, 1, 0, 1, 0, 0x0, [⟨31, 31, .rw, 0x0, false, 0, 1⟩, ⟨30, 30, .rw, 0x1, false, 0, 1⟩, ⟨23, 16, .rwo, 0x14, false, 10, 100⟩, ⟨15, 8, .rw, 0x3, false, 0, 7⟩, ⟨7, 0, .rw, 0x5, false, 1, 255⟩]⟩,
  ⟨"SLN_STATUS", 0x070004, 0, 1, 0, 1, 0, 0x0, [⟨31, 31, .ro, 0x0, false, 0, 1⟩, ⟨30, 30, .ro, 0x0, false, 0, 1⟩, ⟨29, 29, .ro, 0x0, false, 0, 1⟩, ⟨19, 16, .ro, 0x0, false, 0, 15⟩, ⟨15, 8, .ro, 0x0, false, 0, 255⟩, ⟨7, 0, .ro, 0x0, false, 0, 255⟩]⟩,
  ⟨"SLN_REJECT_CNT", 0x070008, 0, 1, 0, 1, 0, 0xFFFF, [⟨15, 0, .ro, 0x0, false, 0, 65535⟩]⟩,
  ⟨"SLN_SF_NUM", 0x07000C, 0, 1, 0, 1, 0, 0x0, [⟨31, 0, .ro, 0x0, false, 0, 4294967295⟩]⟩,
  ⟨"SLN_NOISE", 0x070010, 0, 1, 0, 1, 0, 0x0, [⟨31, 24, .rw, 0x14, false, 6, 40⟩, ⟨23, 16, .rw, 0x14, false, 0, 255⟩, ⟨15, 8, .rw, 0x28, false, 1, 100⟩, ⟨0, 0, .rw, 0x1, false, 0, 1⟩]⟩,
  ⟨"SLN_TX", 0x070014, 0, 1, 0, 1, 0, 0x0, [⟨12, 8, .rw, 0x0, false, 0, 30⟩, ⟨7, 0, .rw, 0x0, false, 0, 255⟩]⟩,
  ⟨"SLN_NOTCH", 0x070020, 4, 8, 0, 1, 0, 0x0, [⟨25, 16, .rwo, 0x0, false, 41, 573⟩, ⟨9, 0, .rwo, 0x0, false, 41, 573⟩]⟩,
  ⟨"SLN_DISP_CFG", 0x070040, 0, 1, 0, 1, 0, 0x0, [⟨31, 31, .rw, 0x0, false, 0, 1⟩, ⟨5, 0, .rwo, 0x0, false, 0, 63⟩]⟩,
  ⟨"SLN_ADMIT", 0x070044, 0, 1, 0, 1, 0, 0x0, [⟨9, 9, .wo, 0x0, false, 0, 1⟩, ⟨8, 8, .wo, 0x0, false, 0, 1⟩, ⟨7, 0, .wo, 0x0, false, 0, 255⟩]⟩,
  ⟨"SLN_CNT_DEFER", 0x070050, 0, 1, 0, 1, 0, 0x0, [⟨31, 0, .ro, 0x0, false, 0, 4294967295⟩]⟩,
  ⟨"SLN_CNT_RETX", 0x070054, 0, 1, 0, 1, 0, 0x0, [⟨31, 0, .ro, 0x0, false, 0, 4294967295⟩]⟩,
  ⟨"SLN_CNT_DROP", 0x070058, 0, 1, 0, 1, 0, 0x0, [⟨31, 0, .ro, 0x0, false, 0, 4294967295⟩]⟩]

def regRowsSLN1 : List RegRow := [
  ⟨"SLN_CNT_SLIP", 0x07005C, 0, 1, 0, 1, 0, 0x0, [⟨31, 0, .ro, 0x0, false, 0, 4294967295⟩]⟩,
  ⟨"SLN_CNT_CRC", 0x070060, 0, 1, 0, 1, 0, 0x0, [⟨31, 0, .ro, 0x0, false, 0, 4294967295⟩]⟩,
  ⟨"SLN_NODE_ID_LO", 0x071000, 32, 250, 0, 1, 1, 0x0, [⟨31, 0, .ro, 0x0, true, 0, 4294967295⟩]⟩,
  ⟨"SLN_NODE_ID_HI", 0x071004, 32, 250, 0, 1, 2, 0x0, [⟨31, 0, .ro, 0x0, true, 0, 4294967295⟩]⟩,
  ⟨"SLN_NODE_INFO", 0x071008, 32, 250, 0, 1, 0, 0x0, [⟨31, 29, .ro, 0x0, true, 0, 7⟩, ⟨28, 27, .ro, 0x0, false, 0, 3⟩, ⟨26, 26, .ro, 0x0, false, 0, 1⟩, ⟨25, 24, .ro, 0x0, false, 0, 3⟩, ⟨23, 16, .ro, 0xFE, false, 0, 255⟩, ⟨15, 8, .ro, 0x0, false, 0, 255⟩]⟩,
  ⟨"SLN_NODE_LINK", 0x07100C, 32, 250, 0, 1, 0, 0x0, [⟨31, 24, .ro, 0x0, false, 0, 255⟩, ⟨23, 12, .ro, 0x0, false, 0, 4095⟩, ⟨11, 0, .ro, 0x0, false, 0, 4095⟩]⟩,
  ⟨"SLN_NODE_CFG", 0x071010, 32, 250, 0, 1, 0, 0x0, [⟨12, 12, .rw, 0x0, false, 0, 1⟩, ⟨11, 8, .rw, 0x0, false, 0, 15⟩, ⟨5, 0, .rw, 0x5, false, 1, 50⟩]⟩,
  ⟨"SLN_NODE_ERR", 0x071014, 32, 250, 0, 1, 0, 0xFFFFFFFF, [⟨31, 16, .ro, 0x0, false, 0, 65535⟩, ⟨15, 0, .ro, 0x0, false, 0, 65535⟩]⟩,
  ⟨"SLN_NODE_AGE", 0x071018, 32, 250, 0, 1, 0, 0x0, [⟨15, 0, .ro, 0x0, false, 0, 65535⟩]⟩]

/-- The SLN register map. -/
def regRowsSLN : List RegRow := regRowsSLN0 ++ regRowsSLN1

def regRowsVSS0 : List RegRow := [
  ⟨"VSS_CTRL", 0x080000, 0, 1, 0, 1, 0, 0x0, [⟨0, 0, .rw, 0x0, false, 0, 1⟩]⟩,
  ⟨"VSS_STATUS", 0x080004, 0, 1, 0, 1, 0, 0x0, [⟨31, 16, .ro, 0x0, false, 0, 65535⟩, ⟨15, 0, .ro, 0x0, false, 0, 65535⟩]⟩,
  ⟨"VSS_REJECT_CNT", 0x080008, 0, 1, 0, 1, 0, 0xFFFF, [⟨15, 0, .ro, 0x0, false, 0, 65535⟩]⟩,
  ⟨"VSS_TIMERS", 0x08000C, 0, 1, 0, 1, 0, 0x0, [⟨31, 24, .rw, 0x3C, false, 10, 120⟩, ⟨23, 16, .rw, 0x3C, false, 10, 120⟩, ⟨15, 8, .rw, 0x6, false, 1, 60⟩, ⟨7, 0, .rw, 0x14, false, 5, 50⟩]⟩,
  ⟨"VSS_PROTO_ERR", 0x080010, 0, 1, 0, 1, 0, 0x0, [⟨31, 0, .ro, 0x0, false, 0, 4294967295⟩]⟩,
  ⟨"VSS_OUT_CFG", 0x081000, 64, 16, 0, 1, 0, 0x0, [⟨31, 31, .rw, 0x0, false, 0, 1⟩, ⟨30, 30, .rwo, 0x1, false, 0, 1⟩, ⟨29, 29, .rwo, 0x1, false, 0, 1⟩, ⟨28, 28, .rwo, 0x0, false, 0, 1⟩, ⟨27, 27, .rwo, 0x0, false, 0, 1⟩, ⟨26, 26, .rwo, 0x1, false, 0, 1⟩, ⟨25, 25, .rwo, 0x1, false, 0, 1⟩, ⟨24, 24, .rwo, 0x0, false, 0, 1⟩, ⟨23, 19, .rwo, 0x0, false, 0, 31⟩, ⟨18, 18, .rwo, 0x0, false, 0, 1⟩, ⟨17, 11, .rwo, 0x0, false, 0, 127⟩, ⟨10, 10, .rwo, 0x0, false, 0, 1⟩]⟩,
  ⟨"VSS_OUT_LIM", 0x081004, 64, 16, 0, 1, 0, 0x0, [⟨31, 16, .rwo, 0x0, false, 1, 3000⟩, ⟨15, 0, .rwo, 0x0, false, 1, 12500⟩]⟩,
  ⟨"VSS_OUT_ISO", 0x081008, 64, 16, 0, 1, 0, 0x0, [⟨31, 16, .rwo, 0x1F4, false, 0, 65535⟩, ⟨15, 0, .rwo, 0x64, false, 50, 65535⟩]⟩,
  ⟨"VSS_OUT_TLS", 0x08100C, 64, 16, 0, 1, 0, 0x0, [⟨5, 0, .rwo, 0x0, false, 0, 63⟩]⟩,
  ⟨"VSS_OUT_NODE_LO", 0x081010, 64, 16, 0, 1, 1, 0x0, [⟨31, 0, .rwo, 0x0, false, 0, 4294967295⟩]⟩,
  ⟨"VSS_OUT_NODE_HI", 0x081014, 64, 16, 0, 1, 2, 0x0, [⟨31, 0, .rwo, 0x0, false, 0, 4294967295⟩]⟩,
  ⟨"VSS_OUT_MAC_LO", 0x081018, 64, 16, 0, 1, 0, 0x0, [⟨31, 0, .rwo, 0x0, false, 0, 4294967295⟩]⟩]

def regRowsVSS1 : List RegRow := [
  ⟨"VSS_OUT_MAC_HI", 0x08101C, 64, 16, 0, 1, 0, 0x0, [⟨15, 0, .rwo, 0x0, false, 0, 65535⟩]⟩,
  ⟨"VSS_OUT_STATE", 0x081020, 64, 16, 0, 1, 0, 0x0, [⟨31, 28, .ro, 0x0, false, 0, 15⟩, ⟨27, 26, .ro, 0x0, false, 0, 3⟩, ⟨25, 25, .ro, 0x0, false, 0, 1⟩, ⟨24, 24, .ro, 0x0, false, 0, 1⟩, ⟨23, 23, .ro, 0x0, false, 0, 1⟩, ⟨22, 22, .ro, 0x0, false, 0, 1⟩, ⟨21, 21, .ro, 0x0, false, 0, 1⟩, ⟨20, 16, .ro, 0x0, false, 0, 31⟩, ⟨15, 8, .ro, 0x0, false, 0, 255⟩, ⟨7, 4, .ro, 0x0, false, 0, 15⟩]⟩,
  ⟨"VSS_OUT_CTL", 0x081024, 64, 16, 0, 1, 0, 0x0, [⟨2, 2, .wo, 0x0, false, 0, 1⟩, ⟨1, 1, .wo, 0x0, false, 0, 1⟩]⟩,
  ⟨"VSS_OUT_SID_LO", 0x081028, 64, 16, 0, 1, 1, 0x0, [⟨31, 0, .ro, 0x0, false, 0, 4294967295⟩]⟩,
  ⟨"VSS_OUT_SID_HI", 0x08102C, 64, 16, 0, 1, 2, 0x0, [⟨31, 0, .ro, 0x0, false, 0, 4294967295⟩]⟩,
  ⟨"VSS_OUT_REQ", 0x081030, 64, 16, 0, 1, 0, 0x0, [⟨31, 0, .ro, 0x0, false, 0, 4294967295⟩]⟩,
  ⟨"VSS_OUT_EVLIM", 0x081034, 64, 16, 0, 1, 0, 0x0, [⟨31, 16, .ro, 0x0, false, 0, 65535⟩, ⟨15, 0, .ro, 0x0, false, 0, 65535⟩]⟩]

/-- The VSS register map. -/
def regRowsVSS : List RegRow := regRowsVSS0 ++ regRowsVSS1

def regRowsCAN0 : List RegRow := [
  ⟨"CAN_SUMMARY", 0x090000, 0, 1, 0, 1, 0, 0x0, [⟨11, 8, .ro, 0x0, false, 0, 15⟩, ⟨7, 4, .ro, 0x0, false, 0, 15⟩, ⟨3, 0, .ro, 0x0, false, 0, 15⟩]⟩,
  ⟨"CAN_REJECT_CNT", 0x090008, 0, 1, 0, 1, 0, 0xFFFF, [⟨15, 0, .ro, 0x0, false, 0, 65535⟩]⟩,
  ⟨"CAN_CTL", 0x091000, 2048, 4, 0, 1, 0, 0x0, [⟨31, 31, .rw, 0x0, false, 0, 1⟩, ⟨30, 30, .rwo, 0x1, false, 0, 1⟩, ⟨29, 29, .rwo, 0x1, false, 0, 1⟩, ⟨28, 28, .rw, 0x1, false, 0, 1⟩, ⟨27, 27, .rw, 0x0, false, 0, 1⟩, ⟨26, 25, .rwo, 0x0, false, 0, 2⟩, ⟨24, 24, .rwo, 0x0, false, 0, 1⟩, ⟨23, 23, .rwo, 0x0, false, 0, 1⟩, ⟨22, 22, .rwo, 0x0, false, 0, 1⟩, ⟨21, 21, .rw, 0x0, false, 0, 1⟩, ⟨20, 20, .rw, 0x0, false, 0, 1⟩, ⟨19, 19, .rwo, 0x0, false, 0, 1⟩, ⟨8, 8, .wo, 0x0, false, 0, 1⟩, ⟨7, 0, .rw, 0x8, false, 0, 255⟩]⟩,
  ⟨"CAN_NBT", 0x091004, 2048, 4, 0, 1, 0, 0x0, [⟨31, 24, .rwo, 0x0, false, 0, 255⟩, ⟨23, 17, .rwo, 0xF, false, 0, 127⟩, ⟨15, 8, .rwo, 0x3E, false, 1, 255⟩, ⟨6, 0, .rwo, 0xF, false, 1, 127⟩]⟩,
  ⟨"CAN_DBT", 0x091008, 2048, 4, 0, 1, 0, 0x0, [⟨20, 16, .rwo, 0x0, false, 0, 31⟩, ⟨15, 12, .rwo, 0x1, false, 0, 15⟩, ⟨11, 8, .rwo, 0x1, false, 0, 15⟩, ⟨4, 0, .rwo, 0x6, false, 0, 31⟩]⟩,
  ⟨"CAN_TDC", 0x09100C, 2048, 4, 0, 1, 0, 0x0, [⟨31, 31, .rwo, 0x0, false, 0, 1⟩, ⟨22, 16, .ro, 0x0, false, 0, 127⟩, ⟨14, 8, .rwo, 0x0, false, 0, 127⟩, ⟨6, 0, .rwo, 0x8, false, 0, 127⟩]⟩,
  ⟨"CAN_STATUS", 0x091010, 2048, 4, 0, 1, 0, 0x0, [⟨31, 30, .ro, 0x3, false, 0, 3⟩, ⟨29, 29, .ro, 0x0, false, 0, 1⟩, ⟨28, 28, .ro, 0x0, false, 0, 1⟩, ⟨27, 27, .ro, 0x0, false, 0, 1⟩, ⟨26, 26, .w1c, 0x0, false, 0, 1⟩, ⟨25, 25, .w1c, 0x0, false, 0, 1⟩, ⟨24, 24, .w1c, 0x0, false, 0, 1⟩, ⟨18, 16, .ro, 0x0, false, 0, 7⟩, ⟨15, 8, .ro, 0x0, false, 0, 255⟩, ⟨7, 0, .ro, 0x0, false, 0, 255⟩]⟩,
  ⟨"CAN_ERRCNT", 0x091014, 2048, 4, 0, 1, 0, 0x0, [⟨15, 15, .ro, 0x0, false, 0, 1⟩, ⟨14, 8, .ro, 0x0, false, 0, 127⟩, ⟨7, 0, .ro, 0x0, false, 0, 255⟩]⟩,
  ⟨"CAN_RING", 0x091018, 2048, 4, 0, 1, 0, 0x0, [⟨31, 24, .rwo, 0x0, false, 0, 255⟩, ⟨23, 23, .rwo, 0x0, false, 0, 1⟩, ⟨15, 8, .rwo, 0x0, false, 0, 255⟩, ⟨7, 7, .rwo, 0x0, false, 0, 1⟩]⟩,
  ⟨"CAN_CNT_RX", 0x091020, 2048, 4, 0, 1, 0, 0x0, [⟨31, 0, .ro, 0x0, false, 0, 4294967295⟩]⟩,
  ⟨"CAN_CNT_TX", 0x091024, 2048, 4, 0, 1, 0, 0x0, [⟨31, 0, .ro, 0x0, false, 0, 4294967295⟩]⟩,
  ⟨"CAN_CNT_DROP", 0x091028, 2048, 4, 0, 1, 0, 0x0, [⟨31, 0, .ro, 0x0, false, 0, 4294967295⟩]⟩]

def regRowsCAN1 : List RegRow := [
  ⟨"CAN_CNT_BOFF", 0x09102C, 2048, 4, 0, 1, 0, 0x0, [⟨31, 0, .ro, 0x0, false, 0, 4294967295⟩]⟩,
  ⟨"CAN_FLT_ID", 0x091400, 2048, 4, 16, 64, 0, 0x0, [⟨31, 31, .rwo, 0x0, false, 0, 1⟩, ⟨30, 30, .rwo, 0x0, false, 0, 1⟩, ⟨28, 0, .rwo, 0x0, false, 0, 536870911⟩]⟩,
  ⟨"CAN_FLT_MASK", 0x091404, 2048, 4, 16, 64, 0, 0x0, [⟨28, 0, .rwo, 0x0, false, 0, 536870911⟩]⟩,
  ⟨"CAN_FLT_DEST", 0x091408, 2048, 4, 16, 64, 0, 0x0, [⟨31, 30, .rwo, 0x0, false, 0, 3⟩, ⟨29, 24, .rwo, 0x0, false, 0, 63⟩, ⟨15, 8, .rwo, 0x0, false, 0, 255⟩]⟩]

/-- The CAN register map. -/
def regRowsCAN : List RegRow := regRowsCAN0 ++ regRowsCAN1

def regRowsMTR0 : List RegRow := [
  ⟨"MTR_CFG", 0x0A0000, 0, 1, 0, 1, 0, 0x0, [⟨1, 1, .rwo, 0x1, false, 0, 1⟩, ⟨0, 0, .rwo, 0x0, false, 0, 1⟩]⟩,
  ⟨"MTR_STATUS", 0x0A0004, 0, 1, 0, 1, 0, 0x0, [⟨7, 7, .ro, 0x0, false, 0, 1⟩, ⟨6, 6, .ro, 0x0, true, 0, 1⟩, ⟨5, 5, .ro, 0x0, false, 0, 1⟩, ⟨4, 4, .w1c, 0x0, false, 0, 1⟩, ⟨3, 3, .w1c, 0x0, false, 0, 1⟩, ⟨2, 2, .w1c, 0x0, false, 0, 1⟩, ⟨1, 1, .ro, 0x0, false, 0, 1⟩, ⟨0, 0, .ro, 0x0, false, 0, 1⟩]⟩,
  ⟨"MTR_REJECT_CNT", 0x0A0008, 0, 1, 0, 1, 0, 0xFFFF, [⟨15, 0, .ro, 0x0, false, 0, 65535⟩]⟩,
  ⟨"MTR_CAL_CNT", 0x0A000C, 0, 1, 0, 1, 0, 0x0, [⟨31, 0, .ro, 0x0, true, 0, 4294967295⟩]⟩,
  ⟨"MTR_BLOCK_LO", 0x0A0010, 0, 1, 0, 1, 1, 0x0, [⟨31, 0, .ro, 0x0, false, 0, 4294967295⟩]⟩,
  ⟨"MTR_BLOCK_HI", 0x0A0014, 0, 1, 0, 1, 2, 0x0, [⟨31, 0, .ro, 0x0, false, 0, 4294967295⟩]⟩,
  ⟨"MTR_SAVE_STATUS", 0x0A0018, 0, 1, 0, 1, 0, 0x0, [⟨31, 16, .ro, 0x0, true, 0, 65535⟩, ⟨15, 12, .ro, 0x0, false, 0, 15⟩, ⟨7, 0, .ro, 0x0, false, 0, 255⟩]⟩,
  ⟨"MTR_SAVE_SEQ_LO", 0x0A001C, 0, 1, 0, 1, 1, 0x0, [⟨31, 0, .ro, 0x0, true, 0, 4294967295⟩]⟩,
  ⟨"MTR_SAVE_SEQ_HI", 0x0A0020, 0, 1, 0, 1, 2, 0x0, [⟨31, 0, .ro, 0x0, true, 0, 4294967295⟩]⟩,
  ⟨"MTR_LOSS_CNT", 0x0A0024, 0, 1, 0, 1, 0, 0x0, [⟨31, 0, .ro, 0x0, true, 0, 4294967295⟩]⟩,
  ⟨"MTR_HARM_SEQ", 0x0A0028, 0, 1, 0, 1, 0, 0x0, [⟨31, 0, .ro, 0x0, false, 0, 4294967295⟩]⟩,
  ⟨"MTR_GP_CFG", 0x0A0100, 64, 2, 0, 1, 0, 0x0, [⟨31, 31, .rwo, 0x0, false, 0, 1⟩, ⟨30, 24, .rwo, 0x46, false, 10, 90⟩, ⟨23, 16, .rwo, 0x55, false, 0, 100⟩, ⟨15, 0, .rwo, 0xE6, false, 1, 65535⟩]⟩]

def regRowsMTR1 : List RegRow := [
  ⟨"MTR_GP_RATED", 0x0A0104, 64, 2, 0, 1, 0, 0x0, [⟨15, 0, .rwo, 0x0, false, 1, 20000⟩]⟩,
  ⟨"MTR_GP_STATUS", 0x0A0108, 64, 2, 0, 1, 0, 0x0, [⟨31, 31, .ro, 0x0, false, 0, 1⟩, ⟨30, 30, .ro, 0x0, false, 0, 1⟩, ⟨29, 29, .ro, 0x0, false, 0, 1⟩]⟩,
  ⟨"MTR_GP_P", 0x0A010C, 64, 2, 0, 1, 0, 0x0, [⟨31, 0, .ro, 0x0, false, 0, 4294967295⟩]⟩,
  ⟨"MTR_GP_Q", 0x0A0110, 64, 2, 0, 1, 0, 0x0, [⟨31, 0, .ro, 0x0, false, 0, 4294967295⟩]⟩,
  ⟨"MTR_GP_FREQ", 0x0A0114, 64, 2, 0, 1, 0, 0x0, [⟨31, 0, .ro, 0x0, false, 0, 4294967295⟩]⟩,
  ⟨"MTR_GP_GAP_LO", 0x0A0118, 64, 2, 0, 1, 1, 0x0, [⟨31, 0, .ro, 0x0, true, 0, 4294967295⟩]⟩,
  ⟨"MTR_GP_GAP_HI", 0x0A011C, 64, 2, 0, 1, 2, 0x0, [⟨31, 0, .ro, 0x0, true, 0, 4294967295⟩]⟩,
  ⟨"MTR_GP_OVR_CNT", 0x0A0120, 64, 2, 0, 1, 0, 0x0, [⟨31, 0, .ro, 0x0, false, 0, 4294967295⟩]⟩,
  ⟨"MTR_CH_RATIO", 0x0A0200, 32, 16, 0, 1, 0, 0x0, [⟨31, 0, .ro, 0x0, true, 0, 4294967295⟩]⟩,
  ⟨"MTR_CH_GAIN", 0x0A0204, 32, 16, 0, 1, 0, 0x0, [⟨31, 0, .ro, 0x0, true, 0, 4294967295⟩]⟩,
  ⟨"MTR_CH_OFS", 0x0A0208, 32, 16, 0, 1, 0, 0x0, [⟨31, 0, .ro, 0x0, true, 0, 4294967295⟩]⟩,
  ⟨"MTR_CH_PHASE", 0x0A020C, 32, 16, 0, 1, 0, 0x0, [⟨31, 0, .ro, 0x0, true, 0, 4294967295⟩]⟩]

def regRowsMTR2 : List RegRow := [
  ⟨"MTR_CH_RMS", 0x0A0210, 32, 16, 0, 1, 0, 0x0, [⟨31, 0, .ro, 0x0, false, 0, 4294967295⟩]⟩,
  ⟨"MTR_CH_THD", 0x0A0214, 32, 16, 0, 1, 0, 0x0, [⟨31, 0, .ro, 0x0, false, 0, 4294967295⟩]⟩,
  ⟨"MTR_CH_STATUS", 0x0A0218, 32, 16, 0, 1, 0, 0x0, [⟨31, 31, .ro, 0x0, false, 0, 1⟩, ⟨30, 30, .ro, 0x0, false, 0, 1⟩]⟩,
  ⟨"MTR_HEAD_GAIN_V", 0x0A0400, 16, 48, 0, 1, 0, 0x0, [⟨31, 0, .ro, 0x0, true, 0, 4294967295⟩]⟩,
  ⟨"MTR_HEAD_GAIN_I", 0x0A0404, 16, 48, 0, 1, 0, 0x0, [⟨31, 0, .ro, 0x0, true, 0, 4294967295⟩]⟩,
  ⟨"MTR_HEAD_OFS_V", 0x0A0408, 16, 48, 0, 1, 0, 0x0, [⟨31, 0, .ro, 0x0, true, 0, 4294967295⟩]⟩,
  ⟨"MTR_HEAD_OFS_I", 0x0A040C, 16, 48, 0, 1, 0, 0x0, [⟨31, 0, .ro, 0x0, true, 0, 4294967295⟩]⟩,
  ⟨"MTR_E_LO", 0x0A0800, 16, 80, 0, 1, 1, 0x0, [⟨31, 0, .ro, 0x0, true, 0, 4294967295⟩]⟩,
  ⟨"MTR_E_HI", 0x0A0804, 16, 80, 0, 1, 2, 0x0, [⟨31, 0, .ro, 0x0, true, 0, 4294967295⟩]⟩,
  ⟨"MTR_E_WRAP", 0x0A0808, 16, 80, 0, 1, 0, 0x0, [⟨31, 0, .ro, 0x0, true, 0, 4294967295⟩]⟩,
  ⟨"MTR_PLS_CFG", 0x0A1000, 16, 4, 0, 1, 0, 0x0, [⟨31, 31, .rw, 0x0, false, 0, 1⟩, ⟨30, 30, .rwo, 0x0, false, 0, 1⟩, ⟨6, 0, .rwo, 0x0, false, 0, 127⟩]⟩,
  ⟨"MTR_PLS_CONST", 0x0A1004, 16, 4, 0, 1, 0, 0x0, [⟨23, 0, .rwo, 0x3E8, false, 1, 16777215⟩]⟩]

def regRowsMTR3 : List RegRow := [
  ⟨"MTR_PLS_STATUS", 0x0A1008, 16, 4, 0, 1, 0, 0x0, [⟨31, 31, .w1c, 0x0, false, 0, 1⟩, ⟨30, 30, .w1c, 0x0, false, 0, 1⟩, ⟨12, 0, .ro, 0x0, false, 0, 8191⟩]⟩,
  ⟨"MTR_PLS_LOST", 0x0A100C, 16, 4, 0, 1, 0, 0x0, [⟨31, 0, .ro, 0x0, false, 0, 4294967295⟩]⟩,
  ⟨"MTR_HARM_MAG", 0x0A4000, 4, 1024, 0, 1, 0, 0x0, [⟨31, 0, .ro, 0x0, false, 0, 4294967295⟩]⟩,
  ⟨"MTR_HARM_PH", 0x0A5000, 4, 1024, 0, 1, 0, 0x0, [⟨31, 0, .ro, 0x0, false, 0, 4294967295⟩]⟩]

/-- The MTR register map. -/
def regRowsMTR : List RegRow := regRowsMTR0 ++ regRowsMTR1 ++ regRowsMTR2 ++ regRowsMTR3

def regRowsBIL0 : List RegRow := [
  ⟨"BIL_STATUS", 0x0B0000, 0, 1, 0, 1, 0, 0x0, [⟨31, 31, .ro, 0x0, false, 0, 1⟩, ⟨30, 30, .ro, 0x0, false, 0, 1⟩, ⟨29, 29, .ro, 0x0, false, 0, 1⟩, ⟨28, 28, .ro, 0x0, true, 0, 1⟩, ⟨27, 27, .ro, 0x0, false, 0, 1⟩, ⟨7, 4, .ro, 0x0, false, 0, 15⟩]⟩,
  ⟨"BIL_REJECT_CNT", 0x0B0004, 0, 1, 0, 1, 0, 0xFFFF, [⟨15, 0, .ro, 0x0, false, 0, 65535⟩]⟩,
  ⟨"BIL_PERIOD_NO", 0x0B0008, 0, 1, 0, 1, 0, 0x0, [⟨31, 0, .ro, 0x0, true, 0, 4294967295⟩]⟩,
  ⟨"BIL_UTC_LO", 0x0B000C, 0, 1, 0, 1, 1, 0x0, [⟨31, 0, .ro, 0x0, false, 0, 4294967295⟩]⟩,
  ⟨"BIL_UTC_HI", 0x0B0010, 0, 1, 0, 1, 2, 0x0, [⟨31, 0, .ro, 0x0, false, 0, 4294967295⟩]⟩,
  ⟨"BIL_SLEW", 0x0B0014, 0, 1, 0, 1, 0, 0x0, [⟨31, 0, .ro, 0x0, false, 0, 4294967295⟩]⟩,
  ⟨"BIL_CFG", 0x0B0018, 0, 1, 0, 1, 0, 0x0, [⟨31, 30, .ro, 0x2, false, 0, 3⟩, ⟨29, 25, .ro, 0x1, false, 0, 31⟩, ⟨24, 14, .ro, 0x0, false, 0, 2047⟩, ⟨13, 11, .ro, 0x2, false, 0, 7⟩, ⟨10, 8, .ro, 0x3, false, 0, 7⟩, ⟨2, 2, .ro, 0x0, false, 0, 1⟩, ⟨1, 0, .ro, 0x0, false, 0, 3⟩]⟩,
  ⟨"BIL_TZ", 0x0B001C, 0, 1, 0, 1, 0, 0x0, [⟨31, 16, .ro, 0x0, false, 0, 65535⟩, ⟨15, 8, .ro, 0x0, false, 0, 255⟩, ⟨0, 0, .ro, 0x0, false, 0, 1⟩]⟩,
  ⟨"BIL_MAN_CFG", 0x0B0020, 0, 1, 0, 1, 0, 0x0, [⟨5, 0, .rwo, 0x0, false, 0, 63⟩]⟩,
  ⟨"BIL_ROLE_SLOT", 0x0B0024, 0, 1, 0, 1, 0, 0x0, [⟨21, 16, .rwo, 0x0, false, 0, 63⟩, ⟨13, 8, .rwo, 0x0, false, 0, 63⟩, ⟨5, 0, .rwo, 0x0, false, 0, 63⟩]⟩,
  ⟨"BIL_MAN_STATUS", 0x0B0028, 0, 1, 0, 1, 0, 0x0, [⟨31, 16, .ro, 0x0, true, 0, 65535⟩, ⟨15, 0, .ro, 0x0, true, 0, 65535⟩]⟩,
  ⟨"BIL_MAN_NO_LO", 0x0B002C, 0, 1, 0, 1, 1, 0x0, [⟨31, 0, .ro, 0x1, true, 0, 4294967295⟩]⟩]

def regRowsBIL1 : List RegRow := [
  ⟨"BIL_MAN_NO_HI", 0x0B0030, 0, 1, 0, 1, 2, 0x0, [⟨31, 0, .ro, 0x0, true, 0, 4294967295⟩]⟩,
  ⟨"BIL_MAN_OVERWRITTEN", 0x0B0034, 0, 1, 0, 1, 0, 0x0, [⟨31, 0, .ro, 0x0, true, 0, 4294967295⟩]⟩,
  ⟨"BIL_TAMP_CFG", 0x0B0038, 0, 1, 0, 1, 0, 0x0, [⟨31, 31, .rwo, 0x0, false, 0, 1⟩, ⟨30, 30, .rwo, 0x0, false, 0, 1⟩, ⟨29, 28, .rwo, 0x0, false, 0, 3⟩, ⟨7, 0, .rwo, 0x32, false, 10, 255⟩]⟩,
  ⟨"BIL_TAMP_STATUS", 0x0B003C, 0, 1, 0, 1, 0, 0x0, [⟨31, 31, .ro, 0x0, false, 0, 1⟩, ⟨30, 30, .ro, 0x0, true, 0, 1⟩, ⟨29, 29, .ro, 0x0, false, 0, 1⟩]⟩,
  ⟨"BIL_TAMP_COUNT", 0x0B0100, 16, 12, 0, 1, 0, 0x0, [⟨31, 0, .ro, 0x0, true, 0, 4294967295⟩]⟩,
  ⟨"BIL_TAMP_FIRST", 0x0B0104, 16, 12, 0, 1, 0, 0x0, [⟨31, 0, .ro, 0x0, true, 0, 4294967295⟩]⟩,
  ⟨"BIL_TAMP_LAST", 0x0B0108, 16, 12, 0, 1, 0, 0x0, [⟨31, 0, .ro, 0x0, true, 0, 4294967295⟩]⟩,
  ⟨"BIL_TAMP_TIMES", 0x0B010C, 16, 12, 0, 1, 0, 0x0, [⟨1, 1, .ro, 0x0, true, 0, 1⟩, ⟨0, 0, .ro, 0x0, true, 0, 1⟩]⟩,
  ⟨"BIL_TAR_E_LO", 0x0B1000, 256, 40, 16, 9, 1, 0x0, [⟨31, 0, .ro, 0x0, true, 0, 4294967295⟩]⟩,
  ⟨"BIL_TAR_E_HI", 0x0B1004, 256, 40, 16, 9, 2, 0x0, [⟨31, 0, .ro, 0x0, true, 0, 4294967295⟩]⟩,
  ⟨"BIL_TAR_WRAP", 0x0B1008, 256, 40, 16, 9, 0, 0x0, [⟨31, 0, .ro, 0x0, true, 0, 4294967295⟩]⟩,
  ⟨"BIL_DMAX_VALUE", 0x0B4000, 256, 20, 16, 9, 0, 0x0, [⟨31, 0, .ro, 0x0, true, 0, 4294967295⟩]⟩]

def regRowsBIL2 : List RegRow := [
  ⟨"BIL_DMAX_UTC", 0x0B4004, 256, 20, 16, 9, 0, 0x0, [⟨31, 0, .ro, 0x0, true, 0, 4294967295⟩]⟩,
  ⟨"BIL_DMAX_MARKS", 0x0B4008, 256, 20, 16, 9, 0, 0x0, [⟨31, 0, .ro, 0x0, true, 0, 4294967295⟩]⟩,
  ⟨"BIL_DNOW_VALUE", 0x0B6000, 8, 20, 0, 1, 0, 0x0, [⟨31, 0, .ro, 0x0, false, 0, 4294967295⟩]⟩,
  ⟨"BIL_DNOW_MARKS", 0x0B6004, 8, 20, 0, 1, 0, 0x0, [⟨31, 0, .ro, 0x0, false, 0, 4294967295⟩]⟩]

/-- The BIL register map. -/
def regRowsBIL : List RegRow := regRowsBIL0 ++ regRowsBIL1 ++ regRowsBIL2

def regRowsBSE0 : List RegRow := [
  ⟨"BSE_CTRL", 0x0C0000, 0, 1, 0, 1, 0, 0x0, [⟨1, 1, .rw, 0x1, false, 0, 1⟩, ⟨0, 0, .rw, 0x0, false, 0, 1⟩]⟩,
  ⟨"BSE_CFG", 0x0C0004, 0, 1, 0, 1, 0, 0x0, [⟨31, 16, .rw, 0xA8, false, 1, 65535⟩, ⟨15, 8, .rw, 0x28, false, 40, 90⟩, ⟨7, 0, .rw, 0xA, false, 1, 255⟩]⟩,
  ⟨"BSE_CFG2", 0x0C0008, 0, 1, 0, 1, 0, 0x0, [⟨31, 24, .rw, 0xC, false, 1, 255⟩, ⟨23, 16, .rw, 0x1E, false, 1, 255⟩, ⟨15, 8, .rw, 0x19, false, 5, 100⟩, ⟨4, 0, .rw, 0x8, false, 1, 16⟩]⟩,
  ⟨"BSE_STATUS", 0x0C000C, 0, 1, 0, 1, 0, 0x0, [⟨31, 31, .ro, 0x0, false, 0, 1⟩, ⟨30, 30, .ro, 0x0, false, 0, 1⟩, ⟨23, 16, .ro, 0x0, false, 0, 255⟩, ⟨15, 8, .ro, 0x0, false, 0, 255⟩, ⟨7, 0, .ro, 0x0, false, 0, 255⟩]⟩,
  ⟨"BSE_REJECT_CNT", 0x0C0010, 0, 1, 0, 1, 0, 0xFFFF, [⟨15, 0, .ro, 0x0, false, 0, 65535⟩]⟩,
  ⟨"BSE_COMMIT_SEQ_LO", 0x0C0014, 0, 1, 0, 1, 1, 0x0, [⟨31, 0, .ro, 0x0, true, 0, 4294967295⟩]⟩,
  ⟨"BSE_COMMIT_SEQ_HI", 0x0C0018, 0, 1, 0, 1, 2, 0x0, [⟨31, 0, .ro, 0x0, true, 0, 4294967295⟩]⟩,
  ⟨"BSE_SIG_CFG", 0x0C0400, 8, 64, 0, 1, 0, 0x0, [⟨31, 31, .rwo, 0x0, false, 0, 1⟩, ⟨30, 28, .rwo, 0x0, false, 0, 5⟩, ⟨27, 16, .rwo, 0x0, false, 0, 4095⟩, ⟨15, 7, .rwo, 0x0, false, 0, 511⟩, ⟨6, 2, .rwo, 0x0, false, 0, 31⟩, ⟨1, 1, .rwo, 0x0, false, 0, 1⟩, ⟨0, 0, .rwo, 0x0, false, 0, 1⟩]⟩,
  ⟨"BSE_SIG_SCALE", 0x0C0404, 8, 64, 0, 1, 0, 0x0, [⟨31, 0, .rwo, 0x3F800000, false, 0, 4294967295⟩]⟩,
  ⟨"BSE_OCV", 0x0C0800, 32, 4, 4, 5, 0, 0x0, [⟨31, 16, .rwo, 0x0, false, 0, 65535⟩, ⟨15, 0, .rwo, 0x0, false, 0, 65535⟩]⟩,
  ⟨"BSE_OCV", 0x0C0814, 32, 4, 4, 1, 0, 0x0, [⟨15, 0, .rwo, 0x0, false, 0, 65535⟩]⟩,
  ⟨"BSE_STR_CFG", 0x0C1000, 64, 48, 0, 1, 0, 0x0, [⟨31, 31, .rw, 0x0, false, 0, 1⟩, ⟨30, 30, .rwo, 0x0, false, 0, 1⟩, ⟨29, 27, .rwo, 0x0, false, 0, 7⟩, ⟨26, 25, .rwo, 0x0, false, 0, 3⟩, ⟨24, 24, .rwo, 0x1, false, 0, 1⟩, ⟨23, 14, .rwo, 0x0, false, 1, 1023⟩]⟩]

def regRowsBSE1 : List RegRow := [
  ⟨"BSE_STR_NODE_LO", 0x0C1004, 64, 48, 0, 1, 1, 0x0, [⟨31, 0, .rwo, 0x0, false, 0, 4294967295⟩]⟩,
  ⟨"BSE_STR_NODE_HI", 0x0C1008, 64, 48, 0, 1, 2, 0x0, [⟨31, 0, .rwo, 0x0, false, 0, 4294967295⟩]⟩,
  ⟨"BSE_STR_CAN", 0x0C100C, 64, 48, 0, 1, 0, 0x0, [⟨29, 29, .rwo, 0x0, false, 0, 1⟩, ⟨28, 0, .rwo, 0x0, false, 0, 536870911⟩]⟩,
  ⟨"BSE_STR_CAP", 0x0C1010, 64, 48, 0, 1, 0, 0x0, [⟨31, 16, .rwo, 0x0, false, 0, 65535⟩, ⟨15, 0, .ro, 0x0, true, 0, 65535⟩]⟩,
  ⟨"BSE_STR_FULL", 0x0C1014, 64, 48, 0, 1, 0, 0x0, [⟨31, 16, .rwo, 0x0, false, 0, 65535⟩, ⟨15, 0, .rwo, 0x0, false, 0, 65535⟩]⟩,
  ⟨"BSE_STR_EMPTY", 0x0C1018, 64, 48, 0, 1, 0, 0x0, [⟨31, 16, .rwo, 0x0, false, 0, 65535⟩, ⟨15, 0, .rwo, 0x0, false, 0, 65535⟩]⟩,
  ⟨"BSE_STR_HOLD", 0x0C101C, 64, 48, 0, 1, 0, 0x0, [⟨31, 16, .rwo, 0x12C, false, 10, 65535⟩, ⟨15, 0, .rwo, 0x12C, false, 10, 65535⟩]⟩,
  ⟨"BSE_STR_REST", 0x0C1020, 64, 48, 0, 1, 0, 0x0, [⟨31, 16, .rwo, 0x14, false, 0, 65535⟩, ⟨15, 0, .rwo, 0x708, false, 60, 65535⟩]⟩,
  ⟨"BSE_STR_ILIM", 0x0C1024, 64, 48, 0, 1, 0, 0x0, [⟨31, 16, .rwo, 0x0, false, 0, 65535⟩, ⟨15, 0, .rwo, 0x0, false, 0, 65535⟩]⟩,
  ⟨"BSE_STR_VMAX", 0x0C1028, 64, 48, 0, 1, 0, 0x0, [⟨31, 16, .rwo, 0x0, false, 0, 15000⟩]⟩,
  ⟨"BSE_STR_SOC", 0x0C102C, 64, 48, 0, 1, 0, 0x0, [⟨31, 16, .ro, 0x0, true, 0, 65535⟩, ⟨15, 0, .ro, 0x0, true, 0, 65535⟩]⟩,
  ⟨"BSE_STR_LIM", 0x0C1030, 64, 48, 0, 1, 0, 0x0, [⟨31, 16, .ro, 0x0, false, 0, 65535⟩, ⟨15, 0, .ro, 0x0, false, 0, 65535⟩]⟩]

def regRowsBSE2 : List RegRow := [
  ⟨"BSE_STR_LEARN", 0x0C1034, 64, 48, 0, 1, 0, 0x0, [⟨31, 16, .ro, 0x0, true, 0, 65535⟩, ⟨15, 0, .ro, 0x0, true, 0, 65535⟩]⟩,
  ⟨"BSE_STR_STATUS", 0x0C1038, 64, 48, 0, 1, 0, 0x0, [⟨31, 29, .ro, 0x0, false, 0, 7⟩, ⟨28, 28, .ro, 0x0, true, 0, 1⟩, ⟨27, 27, .ro, 0x0, true, 0, 1⟩, ⟨26, 26, .ro, 0x0, false, 0, 1⟩, ⟨25, 25, .ro, 0x0, false, 0, 1⟩, ⟨24, 24, .ro, 0x0, false, 0, 1⟩, ⟨23, 22, .ro, 0x0, false, 0, 3⟩, ⟨21, 21, .ro, 0x0, false, 0, 1⟩, ⟨20, 20, .ro, 0x0, false, 0, 1⟩, ⟨19, 19, .ro, 0x0, false, 0, 1⟩, ⟨18, 18, .ro, 0x0, true, 0, 1⟩, ⟨17, 17, .w1c, 0x0, false, 0, 1⟩, ⟨15, 13, .ro, 0x0, true, 0, 7⟩, ⟨7, 0, .ro, 0x0, true, 0, 255⟩]⟩,
  ⟨"BSE_STR_CTL", 0x0C103C, 64, 48, 0, 1, 0, 0x0, [⟨1, 1, .wo, 0x0, false, 0, 1⟩, ⟨0, 0, .wo, 0x0, false, 0, 1⟩]⟩,
  ⟨"BSE_STR_CANIGN", 0x0C2000, 4, 48, 0, 1, 0, 0x0, [⟨31, 0, .ro, 0x0, false, 0, 4294967295⟩]⟩]

/-- The BSE register map. -/
def regRowsBSE : List RegRow := regRowsBSE0 ++ regRowsBSE1 ++ regRowsBSE2

def regRowsTRI0 : List RegRow := [
  ⟨"TRI_CFG", 0x0D0000, 0, 1, 0, 1, 0, 0x0, [⟨31, 24, .rwo, 0x8, false, 2, 255⟩, ⟨23, 16, .rwo, 0x14, false, 2, 255⟩, ⟨15, 8, .rwo, 0x32, false, 5, 200⟩]⟩,
  ⟨"TRI_ABS", 0x0D0004, 0, 1, 0, 1, 0, 0x0, [⟨31, 16, .rwo, 0x14, false, 1, 1000⟩, ⟨15, 0, .rwo, 0x14, false, 1, 1000⟩]⟩,
  ⟨"TRI_TEST", 0x0D0008, 0, 1, 0, 1, 0, 0x0, [⟨31, 16, .rwo, 0x258, false, 0, 65535⟩, ⟨15, 0, .rwo, 0x3E8, false, 100, 10000⟩]⟩,
  ⟨"TRI_STATUS", 0x0D000C, 0, 1, 0, 1, 0, 0x0, [⟨31, 16, .ro, 0x0, false, 0, 65535⟩, ⟨15, 0, .ro, 0x0, false, 0, 65535⟩]⟩,
  ⟨"TRI_REJECT_CNT", 0x0D0010, 0, 1, 0, 1, 0, 0xFFFF, [⟨15, 0, .ro, 0x0, false, 0, 65535⟩]⟩,
  ⟨"TRI_OUT_CFG", 0x0D1000, 32, 16, 0, 1, 0, 0x0, [⟨31, 31, .rw, 0x0, false, 0, 1⟩]⟩,
  ⟨"TRI_OUT_STATUS", 0x0D1004, 32, 16, 0, 1, 0, 0x0, [⟨31, 30, .ro, 0x0, false, 0, 3⟩, ⟨29, 29, .ro, 0x0, false, 0, 1⟩, ⟨28, 28, .ro, 0x0, false, 0, 1⟩, ⟨27, 27, .ro, 0x0, false, 0, 1⟩, ⟨15, 8, .ro, 0x0, false, 0, 255⟩]⟩,
  ⟨"TRI_OUT_GAP_LO", 0x0D1008, 32, 16, 0, 1, 1, 0x0, [⟨31, 0, .ro, 0x0, true, 0, 4294967295⟩]⟩,
  ⟨"TRI_OUT_GAP_HI", 0x0D100C, 32, 16, 0, 1, 2, 0x0, [⟨31, 0, .ro, 0x0, true, 0, 4294967295⟩]⟩,
  ⟨"TRI_OUT_UNVOTED", 0x0D1010, 32, 16, 0, 1, 0, 0x0, [⟨31, 0, .ro, 0x0, false, 0, 4294967295⟩]⟩,
  ⟨"TRI_OUT_DEGRADED", 0x0D1014, 32, 16, 0, 1, 0, 0x0, [⟨31, 0, .ro, 0x0, true, 0, 4294967295⟩]⟩,
  ⟨"TRI_OUT_CTL", 0x0D1018, 32, 16, 0, 1, 0, 0x0, [⟨5, 3, .wo, 0x0, false, 0, 7⟩, ⟨2, 0, .wo, 0x0, false, 0, 7⟩]⟩]

def regRowsTRI1 : List RegRow := [
  ⟨"TRI_HEAD_NODE_LO", 0x0D2000, 32, 48, 0, 1, 1, 0x0, [⟨31, 0, .rwo, 0x0, false, 0, 4294967295⟩]⟩,
  ⟨"TRI_HEAD_NODE_HI", 0x0D2004, 32, 48, 0, 1, 2, 0x0, [⟨31, 0, .rwo, 0x0, false, 0, 4294967295⟩]⟩,
  ⟨"TRI_HEAD_STATUS", 0x0D2008, 32, 48, 0, 1, 0, 0x0, [⟨31, 29, .ro, 0x0, true, 0, 7⟩, ⟨28, 25, .ro, 0x0, true, 0, 15⟩, ⟨24, 22, .ro, 0x0, false, 0, 7⟩, ⟨21, 20, .ro, 0x0, true, 0, 3⟩, ⟨15, 8, .ro, 0x0, false, 0, 255⟩, ⟨7, 0, .ro, 0x0, false, 0, 255⟩]⟩,
  ⟨"TRI_HEAD_DIS_CNT", 0x0D200C, 32, 48, 0, 1, 0, 0x0, [⟨31, 0, .ro, 0x0, false, 0, 4294967295⟩]⟩,
  ⟨"TRI_HEAD_TEST", 0x0D2010, 32, 48, 0, 1, 0, 0x0, [⟨15, 0, .ro, 0x0, false, 0, 65535⟩]⟩]

/-- The TRI register map. -/
def regRowsTRI : List RegRow := regRowsTRI0 ++ regRowsTRI1

def regRowsSAF0 : List RegRow := [
  ⟨"SAF_STATUS", 0x0E0000, 0, 1, 0, 1, 0, 0x0, [⟨31, 31, .ro, 0x0, true, 0, 1⟩, ⟨30, 29, .ro, 0x2, false, 0, 3⟩, ⟨28, 28, .ro, 0x0, false, 0, 1⟩, ⟨15, 8, .ro, 0x0, false, 0, 255⟩, ⟨3, 0, .ro, 0x0, false, 0, 15⟩]⟩,
  ⟨"SAF_REJECT_CNT", 0x0E0004, 0, 1, 0, 1, 0, 0xFFFF, [⟨15, 0, .ro, 0x0, false, 0, 65535⟩]⟩,
  ⟨"SAF_CHECK", 0x0E0008, 0, 1, 0, 1, 0, 0x0, [⟨31, 0, .ro, 0x0, false, 0, 4294967295⟩]⟩,
  ⟨"SAF_CONFIRM", 0x0E000C, 0, 1, 0, 1, 0, 0x0, [⟨31, 0, .rw, 0x0, true, 0, 4294967295⟩]⟩,
  ⟨"SAF_CMD", 0x0E0010, 0, 1, 0, 1, 0, 0x0, [⟨1, 1, .wo, 0x0, false, 0, 1⟩, ⟨0, 0, .wo, 0x0, false, 0, 1⟩]⟩,
  ⟨"SAF_OUT_EN", 0x0E0014, 0, 1, 0, 1, 0, 0x0, [⟨15, 0, .ro, 0x0, false, 0, 65535⟩]⟩,
  ⟨"SAF_CFG", 0x0E0020, 0, 1, 0, 1, 0, 0x0, [⟨31, 24, .rwo, 0xC8, false, 50, 200⟩, ⟨23, 23, .rwo, 0x0, false, 0, 1⟩, ⟨7, 0, .rwo, 0xA, false, 1, 100⟩]⟩,
  ⟨"SAF_PAIR_CFG", 0x0E0100, 16, 8, 0, 1, 0, 0x0, [⟨31, 28, .rwo, 0x0, false, 0, 5⟩, ⟨27, 26, .rwo, 0x0, false, 0, 2⟩, ⟨25, 25, .rwo, 0x0, false, 0, 1⟩, ⟨24, 24, .rwo, 0x0, false, 0, 1⟩]⟩,
  ⟨"SAF_PAIR_MASK", 0x0E0104, 16, 8, 0, 1, 0, 0x0, [⟨31, 16, .rwo, 0x0, false, 0, 65535⟩, ⟨3, 0, .rwo, 0x0, false, 0, 15⟩]⟩,
  ⟨"SAF_PAIR_TIME", 0x0E0108, 16, 8, 0, 1, 0, 0x0, [⟨31, 24, .rwo, 0x6, false, 1, 40⟩, ⟨23, 12, .rwo, 0x64, false, 5, 2000⟩, ⟨7, 0, .rwo, 0xA, false, 1, 20⟩]⟩,
  ⟨"SAF_PAIR_STATUS", 0x0E010C, 16, 8, 0, 1, 0, 0x0, [⟨31, 29, .ro, 0x0, false, 0, 7⟩, ⟨28, 26, .ro, 0x0, false, 0, 7⟩, ⟨1, 1, .ro, 0x0, false, 0, 1⟩, ⟨0, 0, .ro, 0x0, false, 0, 1⟩]⟩,
  ⟨"SAF_SOUT_CFG", 0x0E0200, 8, 4, 0, 1, 0, 0x0, [⟨31, 31, .rwo, 0x0, false, 0, 1⟩, ⟨30, 30, .rwo, 0x1, false, 0, 1⟩]⟩]

def regRowsSAF1 : List RegRow := [
  ⟨"SAF_SOUT_STATUS", 0x0E0204, 8, 4, 0, 1, 0, 0x0, [⟨31, 31, .ro, 0x0, false, 0, 1⟩, ⟨30, 30, .ro, 0x0, false, 0, 1⟩, ⟨29, 29, .ro, 0x0, false, 0, 1⟩, ⟨28, 28, .ro, 0x0, false, 0, 1⟩, ⟨27, 25, .ro, 0x0, false, 0, 7⟩]⟩]

/-- The SAF register map. -/
def regRowsSAF : List RegRow := regRowsSAF0 ++ regRowsSAF1

def regRowsLSW0 : List RegRow := [
  ⟨"LSW_STATUS", 0x0F0000, 0, 1, 0, 1, 0, 0x0, [⟨31, 30, .ro, 0x0, false, 0, 3⟩, ⟨29, 29, .ro, 0x0, false, 0, 1⟩, ⟨28, 28, .ro, 0x0, false, 0, 1⟩, ⟨19, 0, .ro, 0x0, false, 0, 1048575⟩]⟩,
  ⟨"LSW_REJECT_CNT", 0x0F0004, 0, 1, 0, 1, 0, 0xFFFF, [⟨15, 0, .ro, 0x0, false, 0, 65535⟩]⟩,
  ⟨"LSW_SUPPLY", 0x0F0008, 0, 1, 0, 1, 0, 0x0, [⟨31, 16, .ro, 0x0, false, 0, 65535⟩, ⟨15, 0, .ro, 0x0, false, 0, 65535⟩]⟩,
  ⟨"LSW_AGG", 0x0F000C, 0, 1, 0, 1, 0, 0xFFFF0000, [⟨31, 16, .ro, 0x0, false, 0, 65535⟩, ⟨15, 0, .ro, 0x0, false, 0, 65535⟩]⟩,
  ⟨"LSW_SURGE_CNT", 0x0F0010, 0, 1, 0, 1, 0, 0x0, [⟨31, 0, .ro, 0x0, true, 0, 4294967295⟩]⟩,
  ⟨"LSW_DIP_CNT", 0x0F0014, 0, 1, 0, 1, 0, 0x0, [⟨31, 0, .ro, 0x0, true, 0, 4294967295⟩]⟩,
  ⟨"LSW_CH_CFG", 0x0F0100, 32, 20, 0, 1, 0, 0x0, [⟨31, 31, .rw, 0x0, false, 0, 1⟩, ⟨30, 29, .rwo, 0x0, false, 0, 3⟩, ⟨28, 28, .rwo, 0x0, false, 0, 1⟩, ⟨27, 27, .rwo, 0x1, false, 0, 1⟩, ⟨26, 23, .rwo, 0x8, false, 0, 8⟩, ⟨22, 15, .rwo, 0xA, false, 1, 255⟩, ⟨14, 7, .rwo, 0xA, false, 1, 255⟩, ⟨6, 5, .rwo, 0x0, false, 0, 3⟩]⟩,
  ⟨"LSW_CH_CTL", 0x0F0104, 32, 20, 0, 1, 0, 0x0, [⟨2, 2, .wo, 0x0, false, 0, 1⟩, ⟨0, 0, .rw, 0x0, true, 0, 1⟩]⟩,
  ⟨"LSW_CH_STATUS", 0x0F0108, 32, 20, 0, 1, 0, 0x0, [⟨31, 29, .ro, 0x0, false, 0, 7⟩, ⟨28, 25, .ro, 0x0, false, 0, 15⟩, ⟨24, 24, .ro, 0x0, false, 0, 1⟩, ⟨23, 23, .ro, 0x0, false, 0, 1⟩, ⟨22, 22, .ro, 0x0, false, 0, 1⟩, ⟨21, 21, .ro, 0x0, true, 0, 1⟩, ⟨20, 20, .ro, 0x0, true, 0, 1⟩, ⟨19, 19, .ro, 0x0, false, 0, 1⟩, ⟨15, 12, .ro, 0x0, true, 0, 15⟩]⟩,
  ⟨"LSW_CH_MEAS", 0x0F010C, 32, 20, 0, 1, 0, 0x0, [⟨31, 16, .ro, 0x0, false, 0, 65535⟩, ⟨15, 0, .ro, 0x0, false, 0, 65535⟩]⟩,
  ⟨"LSW_CH_CLAMP", 0x0F0110, 32, 20, 0, 1, 0, 0x0, [⟨31, 16, .ro, 0x0, true, 0, 65535⟩, ⟨15, 0, .ro, 0x0, false, 0, 65535⟩]⟩,
  ⟨"LSW_CH_CNT", 0x0F0114, 32, 20, 0, 1, 0, 0xFFFFFFFF, [⟨31, 16, .ro, 0x0, false, 0, 65535⟩, ⟨15, 0, .ro, 0x0, false, 0, 65535⟩]⟩]

/-- The LSW register map. -/
def regRowsLSW : List RegRow := regRowsLSW0

def regRowsKEY0 : List RegRow := [
  ⟨"KEY_STATUS", 0x100000, 0, 1, 0, 1, 0, 0x0, [⟨31, 31, .ro, 0x0, true, 0, 1⟩, ⟨30, 30, .ro, 0x0, true, 0, 1⟩, ⟨29, 29, .ro, 0x0, false, 0, 1⟩, ⟨28, 28, .ro, 0x0, false, 0, 1⟩, ⟨27, 27, .ro, 0x0, false, 0, 1⟩, ⟨22, 16, .ro, 0x0, false, 0, 127⟩, ⟨14, 8, .ro, 0x0, false, 0, 127⟩, ⟨7, 7, .ro, 0x0, true, 0, 1⟩, ⟨5, 0, .ro, 0x0, true, 0, 63⟩]⟩,
  ⟨"KEY_RNG_FAILS", 0x100004, 0, 1, 0, 1, 0, 0x0, [⟨31, 0, .ro, 0x0, true, 0, 4294967295⟩]⟩,
  ⟨"KEY_WSLOT", 0x100008, 0, 1, 0, 1, 0, 0x0, [⟨15, 0, .ro, 0x0, false, 0, 65535⟩]⟩,
  ⟨"KEY_FW", 0x100010, 0, 1, 0, 1, 0, 0x0, [⟨31, 31, .ro, 0x0, true, 0, 1⟩, ⟨30, 30, .ro, 0x0, true, 0, 1⟩, ⟨29, 29, .ro, 0x0, false, 0, 1⟩, ⟨28, 28, .ro, 0x0, false, 0, 1⟩, ⟨27, 16, .ro, 0x0, false, 0, 4095⟩]⟩,
  ⟨"KEY_FW_SEC", 0x100014, 0, 1, 0, 1, 0, 0x0, [⟨31, 16, .ro, 0x0, false, 0, 65535⟩, ⟨15, 0, .ro, 0x0, true, 0, 65535⟩]⟩,
  ⟨"KEY_FW_VER_A", 0x100018, 0, 1, 0, 1, 0, 0x0, [⟨31, 0, .ro, 0x0, false, 0, 4294967295⟩]⟩,
  ⟨"KEY_FW_VER_B", 0x10001C, 0, 1, 0, 1, 0, 0x0, [⟨31, 0, .ro, 0x0, false, 0, 4294967295⟩]⟩,
  ⟨"KEY_SLOT", 0x100100, 4, 64, 0, 1, 0, 0x0, [⟨31, 30, .ro, 0x0, true, 0, 3⟩, ⟨29, 29, .ro, 0x0, true, 0, 1⟩, ⟨27, 24, .ro, 0x0, true, 0, 15⟩, ⟨22, 16, .ro, 0x0, true, 0, 127⟩, ⟨15, 8, .ro, 0x0, true, 0, 255⟩]⟩]

/-- The KEY register map. -/
def regRowsKEY : List RegRow := regRowsKEY0

def regRowsLDG0 : List RegRow := [
  ⟨"LDG_CTRL", 0x110000, 0, 1, 0, 1, 0, 0x0, [⟨17, 0, .rw, 0x0, false, 0, 262143⟩]⟩,
  ⟨"LDG_CMD", 0x110004, 0, 1, 0, 1, 0, 0x0, [⟨31, 31, .wo, 0x0, false, 0, 1⟩, ⟨8, 8, .wo, 0x0, false, 0, 1⟩, ⟨4, 0, .wo, 0x0, false, 0, 31⟩]⟩,
  ⟨"LDG_STATUS", 0x110008, 0, 1, 0, 1, 0, 0x0, [⟨21, 16, .ro, 0x0, true, 0, 63⟩, ⟨13, 0, .ro, 0x0, false, 0, 16383⟩]⟩,
  ⟨"LDG_SEQ", 0x11000C, 0, 1, 0, 1, 0, 0x0, [⟨31, 0, .ro, 0x0, true, 0, 4294967295⟩]⟩,
  ⟨"LDG_DROP", 0x110010, 0, 1, 0, 1, 0, 0x0, [⟨31, 0, .ro, 0x0, false, 0, 4294967295⟩]⟩,
  ⟨"LDG_SNAP_FROZEN", 0x110014, 0, 1, 0, 1, 0, 0x0, [⟨31, 0, .ro, 0x0, true, 0, 4294967295⟩]⟩,
  ⟨"LDG_SNAP_OVERWRITTEN", 0x110018, 0, 1, 0, 1, 0, 0x0, [⟨31, 0, .ro, 0x0, false, 0, 4294967295⟩]⟩,
  ⟨"LDG_SNAP_INFO", 0x110100, 8, 32, 0, 1, 0, 0x0, [⟨31, 28, .ro, 0x0, true, 0, 15⟩, ⟨23, 16, .ro, 0x0, true, 0, 255⟩, ⟨15, 0, .ro, 0x0, true, 0, 65535⟩]⟩,
  ⟨"LDG_SNAP_SEQ", 0x110104, 8, 32, 0, 1, 0, 0x0, [⟨31, 0, .ro, 0x0, true, 0, 4294967295⟩]⟩]

/-- The LDG register map. -/
def regRowsLDG : List RegRow := regRowsLDG0

/-- R8: the register map of the block whose base address is `0x10000 * b`. -/
def blockRows (b : Nat) : List RegRow :=
  match b with
  | 0 => regRowsGEN
  | 1 => regRowsHIF
  | 2 => regRowsALC
  | 3 => regRowsEDG
  | 4 => regRowsCLE
  | 5 => regRowsTHM
  | 6 => regRowsPST
  | 7 => regRowsSLN
  | 8 => regRowsVSS
  | 9 => regRowsCAN
  | 10 => regRowsMTR
  | 11 => regRowsBIL
  | 12 => regRowsBSE
  | 13 => regRowsTRI
  | 14 => regRowsSAF
  | 15 => regRowsLSW
  | 16 => regRowsKEY
  | 17 => regRowsLDG
  | _ => []

/-- The instance offsets of a row. -/
def RegRow.hits (r : RegRow) (off : Nat) : Bool :=
  let d := off - r.off
  decide (r.off ≤ off) &&
    (if r.n2 ≤ 1 then
      if r.n1 ≤ 1 then d == 0 else d % r.s1 == 0 && decide (d / r.s1 < r.n1)
    else decide (d / r.s1 < r.n1) && (d % r.s1) % r.s2 == 0 && decide (d % r.s1 / r.s2 < r.n2))

/-- The row a BAR0 offset belongs to; none for an unassigned offset (R11). -/
def rowAt (off : Nat) : Option RegRow := (blockRows (off / 0x10000)).find? (·.hits off)

/-- R14: the word a row reads as after a reset, put together from its fields. -/
def RegRow.resetWord (r : RegRow) : Word :=
  BitVec.ofNat 32 (r.fields.foldl (fun w f => w + f.reset * 2 ^ f.lo) 0)

/-- The bits of a row whose fields satisfy `p`. -/
def RegRow.mask (r : RegRow) (p : FieldRow → Bool) : Word :=
  BitVec.ofNat 32 (r.fields.foldl (fun w f => if p f then w + (2 ^ (f.hi + 1 - f.lo) - 1) * 2 ^ f.lo else w) 0)

/-- R11, R14: what an offset with no entry in the register file reads as. -/
def resetWord (off : Nat) : Word :=
  match rowAt off with
  | some r => r.resetWord
  | none => 0

/-- The bits of a register that outlive a reset. -/
def keptMask (off : Nat) : Word :=
  match rowAt off with
  | some r => r.mask (·.kept)
  | none => 0

end Sys2Proof.Machine
end

