-- ==== Sys2Proof/Machine/State.lean ====
section
/-! DEFINITION. The machine's state as plain data: what the spec gives the block, block by block, and the queue of waiting
commands. Registers are one sparse file of 32-bit words keyed by BAR0 byte offset; `INVENTORY.md` lists them with their rules
and reset values. -/

namespace Sys2Proof.Machine

/-- R509: the reset causes. -/
inductive ResetCause
  | powerOn | brownOut | pin | watchdog | host | clockFail | eccFatal | linkDie | dieOvertemp | fwSwitch | fwRevert
deriving DecidableEq, Repr

/-- R507: how far the device has come. `off` is without supply or held, `reset` is a reset asserted for a cause, `starting` is
between release and host-ready, `running` from host-ready on, `hibernate` the power mode of R518. -/
inductive Phase
  | off
  | reset (cause : ResetCause)
  | running
  | hibernate
deriving DecidableEq, Repr

/-- A descriptor as it is read from its bytes (R486). `clean` says that every reserved byte is 0. -/
structure Desc where
  opcode : Code
  chain : Bool
  clean : Bool
  tag : Word
  statusAddr : Nat
  bufAddr : Nat
  bufLen : Nat
  resAddr : Nat
  resLen : Nat
  param : List Byte
deriving DecidableEq, Repr

/-- A completion (R489), with the result data the descriptor's rule returns and the RES_ADDR it goes to. -/
structure Completion where
  tag : Word
  ring : Nat
  caravanEnd : Bool
  long : Bool
  index : Nat
  status : Code
  result : Word
  resAddr : Nat
  data : List Byte
deriving DecidableEq, Repr

/-- An event (R491). -/
structure Event where
  code : Code
  alert : Bool
  seq : Word
  dt : Nat
  epoch : Word
  payload : List Byte
deriving DecidableEq, Repr

/-- A CAN frame record as it stands in rings and mailboxes (R297). -/
structure CanRecord where
  id : Nat
  ide : Bool
  fdf : Bool
  brs : Bool
  esi : Bool
  rtr : Bool
  marker : Word
  stamp : Nat
  data : List Byte
deriving DecidableEq, Repr

/-- What a device-written ring entry holds (R480). -/
inductive EntryBody
  | completion (c : Completion)
  | event (e : Event)
  | record (controller : Nat) (r : CanRecord)
deriving DecidableEq, Repr

/-- A device-written ring entry with its PHASE (R481) and its STAGED flag (R491). -/
structure RingEntry where
  body : EntryBody
  phase : Bool
  staged : Bool
deriving DecidableEq, Repr

/-- R480, R494: what the device keeps of one ring beside its registers: the index the host last wrote to the doorbell, the
PHASE of the present pass, the entries written and not yet returned, the entries staged (oldest first, completions with their SUBMIT ring),
and when a doorbell error was last posted. -/
structure Ring where
  hostIdx : Nat
  phase : Bool
  written : List RingEntry
  staged : List EntryBody
  dbErr : Option Nat
deriving DecidableEq, Repr

/-- R493: an MSI-X vector's arming, the entries since it was armed and the DT of the first of them. -/
structure VectorSt where
  armed : Bool
  count : Nat
  firstDt : Option Nat
deriving DecidableEq, Repr

/-- R485, R490: a descriptor taken from its ring and not yet completed: its ring, TAG, entry index and opcode, whether it
belongs to a caravan, is the last of it, or still waits for the one before it, the status it completes with when it cannot be executed, and
its result buffer. -/
structure ExecDesc where
  ring : Nat
  tag : Word
  index : Nat
  opcode : Code
  inCaravan : Bool
  last : Bool
  waiting : Bool
  bad : Option Code
  resAddr : Nat
  resLen : Nat
deriving DecidableEq, Repr

/-- R496: the states of a long operation's status word. -/
inductive LongState
  | queued | running | partialReady | done | failed | refused
deriving DecidableEq, Repr

/-- R496, R497: a long operation with its status word and where it stands, VALID and the result units written, and the result buffer. -/
structure LongOp where
  src : Src
  opcode : Code
  statusAddr : Nat
  state : LongState
  progress : Nat
  result : Code
  valid : Nat
  resAddr : Nat
  resLen : Nat
  data : List Byte
deriving DecidableEq, Repr

/-- R520: a wayledger entry. -/
structure LdgEntry where
  epoch : Word
  dt : Nat
  utc : Nat
  utcValid : Bool
  cont : Bool
  source : Byte
  code : Code
  payload : List Byte
deriving DecidableEq, Repr

/-- R522: the triggers of a snapshot. -/
inductive Trigger
  | siteTrip | watchdog | brownOut | safeHold | hardTrip | faultReset | host
deriving DecidableEq, Repr

/-- R522: a frozen snapshot. -/
structure Snapshot where
  trigger : Trigger
  cause : Byte
  freezeNo : Nat
  lastSeq : Word
  dt : Nat
  epoch : Word
  entries : List (Word × LdgEntry)
deriving DecidableEq, Repr

/-- R515: a queued or running test. -/
structure QueuedTest where
  src : LongSrc
  code : Nat
  params : List Byte
  since : Nat
  running : Bool
deriving DecidableEq, Repr

/-- R38, R514: one configuration copy in MRAM. -/
structure CfgCopy where
  good : Bool
  regs : List (Nat × Word)
  objs : List ObjSetting
deriving DecidableEq, Repr

/-- One record of a configuration image (R514): a register record, an object record of a settable object, or any
other record. -/
inductive CfgRecord
  | reg (offset : Nat) (value : Word)
  | obj (x : ObjSetting)
  | other (kind : Byte) (target : Word)
deriving DecidableEq, Repr

/-- R514: what a configuration image says, its header being in order otherwise: whether it holds calibration, the device it is for (0: any)
and its records. -/
structure CfgImage where
  cal : Bool
  deviceId : Id64
  records : List CfgRecord
deriving DecidableEq, Repr

/-- R533: the VIO33 rail: off, at the reduced current of HIBERNATE, or at its full current. -/
inductive Rail
  | off | reduced | full
deriving DecidableEq, Repr

/-- The periodic commands that keep no instant of their own in another part of the state. -/
inductive Tick
  | census
  | testWindow
  | switches
  | save
  | dieTemp
  | superframe
  | limit (n : Fin 16)
  | eqTrial (p : Fin 8)
  | vlink (n : Fin 16)
  | window (g : Fin 2)
deriving DecidableEq, Repr

/-- R28 to R43, R507 to R519: state of the device as a whole beside the GEN registers: how far it has come, the reference chosen, whether
legal time has been declared invalid since the last reset, the DT and the latched UTC (ms) of the last reset, the reset pin with the DT of
its last edges, the correspondence pair (DT, UTC in ms), the configuration copies, tests, the DT of the last release or wake, the DT and
UTC at the entry to HIBERNATE, the run epoch before the last reset, and when each periodic command last ran. -/
structure Gen where
  phase : Phase
  refclk : Bool
  timeDeclared : Bool
  resetDt : Nat
  resetUtc : Option Nat
  pinLow : Bool
  pinLowSince : Nat
  pinHighSince : Nat
  pair : Option (Nat × Nat)
  rtcAt : Nat
  rtcCount : Int
  rtcPpb : Int
  cfg0 : CfgCopy
  cfg1 : CfgCopy
  tests : List QueuedTest
  bootDt : Nat
  hibDt : Nat
  hibUtc : Nat
  epochBefore : Word
  ticks : List (Tick × Nat)
deriving DecidableEq, Repr

/-- R488, R99: a REG_WRITE whose last applied pair arms a piste leg and waits for the read of that node's LEG_CFG: the pairs applied
before it, the pairs left, and the arm's outcome once it is known. -/
structure ArmWait where
  leg : Fin 408
  src : Src
  done : Nat
  rest : List (Word × Word)
  result : Option (Option Code)
deriving DecidableEq, Repr

/-- R480 to R499: state of the host interface beside the HIF registers; `served` holds the ring that was served last at each PRIO. -/
structure Hif where
  rings : Vector Ring 256
  vectors : Vector VectorSt 64
  exec : List ExecDesc
  armWait : List ArmWait
  long : List LongOp
  served : Vector (Fin 256) 4
  alertStore : List (Nat × Event)
  seq : Nat
deriving DecidableEq, Repr

/-- R520 to R523: the wayledger: the entries in MRAM (newest first, with their SEQ), the staged entries (oldest first, each with
whether it came from an INFO event), the snapshots, the DT of the last freeze of each trigger, when LDG_DROP last moved, and
when an entry was last written to MRAM. -/
structure Ldg where
  entries : List (Word × LdgEntry)
  staged : List (Bool × LdgEntry)
  snaps : Vector (Option Snapshot) 32
  lastFreeze : List (Trigger × Nat)
  freezeNo : Nat
  lastDrop : Option Nat
  wroteAt : Option Nat
deriving DecidableEq, Repr

/-- R44 to R50: the allocator's frozen inputs of one outlet. Powers in W, currents in A, voltages in 0.1 V. -/
structure OutIn where
  en : Bool
  open_ : Bool
  started : Nat
  request : Nat
  vMax : Nat
  iMax : Nat
  offer : Nat
  remaining : Option Nat
  stopping : Bool
  cls : Nat
  weight : Nat
  floor : Nat
  cap : Nat
  cableA : Nat
  cableTrec : Nat
  voltage : Nat
  stageCap : Nat
  refusal : Option Nat
  catOne : Bool
  stale : Bool
deriving DecidableEq, Repr

/-- R44, R47, R53, R68: the allocator's frozen inputs of one string. Powers in W, state of charge in 0.01 %. -/
structure StrIn where
  en : Bool
  dischEn : Bool
  chgEn : Bool
  weight : Nat
  reserve : Nat
  soc : Int
  chgW : Nat
  disW : Nat
  iChg : Nat
  iDis : Nat
  vMax : Nat
  stageCap : Nat
  restReq : Bool
  restAge : Nat
  refusal : Option Nat
  stale : Bool
deriving DecidableEq, Repr

/-- R44, R45, R47: the allocator's frozen inputs of one grid point, in W. -/
structure GpIn where
  capImp : Nat
  capExp : Nat
  base : Nat
  afeCap : Nat
  counts : Bool
  stale : Bool
deriving DecidableEq, Repr

/-- R44: the snapshot of one tick: the inputs above and the settings of R81. `up`, `down`, `snow` in W per ms, `hyst` in W. -/
structure AlcIn where
  tick : Nat
  run : Bool
  outs : List OutIn
  strs : List StrIn
  gps : List GpIn
  siteImp : Nat
  siteExp : Nat
  margin : Nat
  targetMode : Bool
  target : Int
  up : Nat
  down : Nat
  snow : Nat
  hyst : Nat
  readmit : Nat
  batteryFirst : Bool
  surplusEn : Bool
  surplusLimit : Nat
  restEn : Bool
  restMax : Nat
  restMargin : Nat
  abortTicks : Nat
  ride : Bool
deriving DecidableEq, Repr

/-- R61: one grant record. -/
structure Grant where
  p : Int
  iLimit : Nat
  vLimit : Nat
  reason : Nat
  reason2 : Nat
  ramp : Nat
  tts : Nat
  demand : Int
  floor : Nat
  tick : Nat
  cls : Nat
  weight : Nat
  valid : Bool
  snow : Bool
  held : Bool
  floorMet : Bool
  stale : Bool
  rest : Bool
deriving DecidableEq, Repr

/-- R68, R69: rest arbitration of one string: resting, the request already postponed once, and the consecutive ticks at which the
rest held a target down. -/
structure RestSt where
  resting : Bool
  postponed : Bool
  run : Nat
deriving DecidableEq, Repr

/-- R44 to R76: the allocator beside its registers: the snapshot awaiting its solve, the last frozen one, the last tick, each
grid point's net-load samples of the last 1 s (newest first, with the end of their block), since when each stage has met R46, the readmission runs of R51, the
ends of the snowplough runs of R56 (by record), rest arbitration, the battery draws published in the last 60 s (newest first, with their DT), the inputs
stale in their present episode, whether each grid point counts, and since when its loss report has been absent. -/
structure Alc where
  frozen : Option AlcIn
  lastIn : Option AlcIn
  lastTick : Option Nat
  baseSamples : Vector (List (Nat × Int)) 2
  stageSince : Vector (Option Nat) 64
  heldRun : Vector Nat 16
  snowEnd : Vector Nat 65
  rests : Vector RestSt 48
  draws : List (Nat × Nat)
  staleNow : List Nat
  gpCounts : Vector Bool 2
  gpBack : Vector (Option Nat) 2
deriving DecidableEq, Repr

/-- R97, R98, R110: what a leg's gates do from its last cut-off's boundary on. `floating` is high impedance (a local pin) or
tri-stated (a node's gates). -/
inductive GateOut
  | floating | off | edges | main | comp
deriving DecidableEq, Repr

/-- R87: one transition of a gate: when (an edge time), of the main or else the complementary gate, and whether it turns on. -/
structure GateEdge where
  t : Nat
  main : Bool
  on : Bool
deriving DecidableEq, Repr

/-- R87: a leg's two gates after the transitions placed so far: their levels, the turn-on that waits out its dead time, and the
transitions of the present period in time order. -/
structure Gates where
  main : Bool
  comp : Bool
  due : Option GateEdge
  edges : List GateEdge
deriving DecidableEq, Repr

/-- R86 to R107: one leg beside its registers; legs 0 to 383 are LEG0 to LEG383, legs 384 to 407 are PWM0 to PWM23. Times are edge
times (250 ps). `shadow` is the shadow RISE and FALL; `pend` the committed values that no cut-off has taken yet; `bdry` the last
boundary whose cut-off has passed since the arm; `shift` how much later the next boundary moves (R107); `slm` the phase a respread
gave it; `level` and `since` the command interval still open at the end of the last built period; `commanded` that a commit
since the arm has been taken; `fell` that a commit fell at the last cut-off; `cmd` the command of the period from `bdry`; `forced`
the FORCE in effect there; `gates` its gates from there on (R87); `relDt` the DT at which the OK response to the release write of the last arm came (R101). -/
structure LegSt where
  shadow : Nat × Nat
  pend : Option (Nat × Nat)
  bdry : Option Nat
  shift : Nat
  slm : Nat
  level : Bool
  since : Nat
  commanded : Bool
  fell : Bool
  cmd : LegCmd
  forced : Nat
  out : GateOut
  gates : Gates
  relDt : Option Nat
deriving DecidableEq, Repr

/-- R89: a commit group. -/
inductive CommitGroup
  | stage (s : Nat)
  | solo (leg : Nat)
  | slalom (g : Nat)
deriving DecidableEq, Repr

/-- R84 to R110: the edge generator beside its registers: the legs, the slots that have completed an execution since the previous
commit of each group, and when PST_EDGE_LATE last moved. -/
structure Edg where
  legs : Vector LegSt 408
  done : List (CommitGroup × Nat)
  lastLate : Option Nat
deriving DecidableEq, Repr

/-- R117: one queued execution of a slot: its sample instant, the raw inputs, the ramp rate that RATE_GRANT takes, and the outputs
held at the sample instant. -/
structure SlotExec where
  sampleDt : Nat
  rawA : Word
  rawB : Word
  rate : Word
  hold0 : Word
  hold1 : Word
deriving DecidableEq, Repr

/-- R116 to R137: one slot beside its registers: its last sample instant, the queued execution that no pipeline has taken yet, the one that
a pipeline has started with its completion instant (R118), an accepted open that waits for it (R131), the set-point filter and slew state
(R121), the states of its law (PIDF: i, d, e_prev; BIQ4: s1 and s2 of each section; SS4: xs; RAMP: y_prev), the executions
completed since the close, and the bumpless offsets (R133). All values are binary32 words. -/
structure SlotSt where
  lastSample : Option Nat
  queued : Option SlotExec
  started : Option (SlotExec × Nat)
  opening : Bool
  f : Word
  aPrev : Word
  st : List Word
  execs : Nat
  d0 : Word
  d1 : Word
deriving DecidableEq, Repr

/-- R116 to R138: the control law engine beside its registers: the slots, and the FAB cycle (2.5 ns) from which each of the four pipelines
is free. -/
structure Cle where
  slots : Vector SlotSt 128
  pipes : Vector Nat 4
deriving DecidableEq, Repr

/-- R145, R153: one sensor channel beside its registers: the last converted value (2^−64 °C) and when it was taken, the value in use,
the runs of the cross-check, and the samples since the condition of its fault was last present. -/
structure SnsSt where
  meas : Option Int
  lastDt : Option Nat
  used : Option Int
  lowRun : Nat
  highRun : Nat
  calmRun : Nat
  goodRun : Nat
  high : Bool
deriving DecidableEq, Repr

/-- R161: one recorded sample of an identification: when, the outlet current, the flow and the supply temperature (2^−64 units), and
the readings of the bound sensors by role (contact, supply, return). -/
structure IdSample where
  dt : Nat
  current : Int
  flow : Int
  tin : Int
  contact : List Int
  supply : List Int
  ret : List Int
deriving DecidableEq, Repr

/-- R161: an identification in progress: its source, I_ID, STEP_TIME in ns, phase 1 to 4 and when the phase began, since when the current
has been outside its band, and the samples recorded, latest first. -/
structure IdRun where
  src : Src
  iId : Nat
  step : Nat
  phase : Nat
  since : Nat
  offSince : Option Nat
  samples : List IdSample
deriving DecidableEq, Repr

/-- R147 to R155: one cable's model beside its registers: the nodes, flow and supply temperature (2^−64 units), whether the model has
started, since when low flow has stood with current, since when everything has been below T_LIM − 10 K, since when the margin has
been above the fall level of the band, an identification, and when ILIM was last published. -/
structure CabSt where
  t1 : Int
  t2 : Int
  t3 : Int
  flow : Int
  tin : Int
  started : Bool
  flowLowSince : Option Nat
  coolSince : Option Nat
  fallSince : Option Nat
  ident : Option IdRun
  pubDt : Option Nat
deriving DecidableEq, Repr

/-- R144 to R163: cable cooling and temperatures beside the registers: sensors, cables, since when each die has been at 125 °C, whether
the DIE_OVERTEMP reset is still held, the loop failures that stand (slot, loop, and the cables that followed it; R160), when each loop last sent its set-point, and when the observers last stepped. -/
structure Thm where
  sns : Vector SnsSt 64
  cab : Vector CabSt 16
  dieSince : Vector (Option Nat) 3
  dieHeld : Bool
  lastSp : Vector (Option Nat) 8
  loopFails : List (Nat × Nat × List Nat)
  lastStep : Option Nat
deriving DecidableEq, Repr

/-- R199: a frame to be sent: TYPE, SEQ, SUB and its data bytes, eight to a block. -/
structure TxFrame where
  type : Nat
  seq : Nat
  sub : Nat
  data : List Byte
deriving DecidableEq, Repr

/-- R198, R204: a run of the device that waits to start: its hop, its N, its latest start where it is an EDGE run (1/32 ns), and its frames. -/
structure TxRun where
  hop : Nat
  n : Nat
  latest : Option Nat
  frames : List TxFrame
deriving DecidableEq, Repr

/-- R202, R204: the transmitter of a piste: when its block 0 began (1/32 ns), the first block not yet given away, the runs that wait to start,
in the order in which they will, the frames that wait for a run of their hop, what each hop is owed of its share (1/16 block), and the hop
that had the last run in rotation. -/
structure PisteTx where
  base : Nat
  next : Nat
  queue : List TxRun
  outbox : List (Nat × TxFrame)
  owed : Vector Int 17
  turn : Nat
deriving DecidableEq, Repr

/-- R185, R189 to R191: what a piste's transmitter sends: nothing (electrical idle), one TRAIN block after the other, IDLE and frames, PRBS31,
the received stream again, or what the spec does not say (TEST with LOOP NONE and no generator). -/
inductive TxStream
  | quiet
  | train (block : Block)
  | traffic
  | prbs
  | farEnd
  | unstated
deriving DecidableEq, Repr

/-- R211: why the device sent a CTRL request. -/
inductive CtrlWhy
  | host (src : Src)
  | armMask (n : Fin 408)
  | leg (n : Fin 408)
  | release (n : Fin 408)
  | setpoint
  | rate
  | headStart (head : Nat)
  | headResult (head : Nat)
  | lock
  | contactor (outlet : Fin 16)
  | vlink (outlet : Fin 16)
  | display
deriving DecidableEq, Repr

/-- R211: a CTRL request awaiting its response: to which node table entry, when it was sent, and whether it has been sent again. -/
structure CtrlReq where
  node : Nat
  frame : CtrlFrame
  why : CtrlWhy
  sentDt : Nat
  again : Bool
deriving DecidableEq, Repr

/-- R206, R207: a half of a node's telemetry: the DT stamp of the last frame, and of each of the eight channels the last binary32 value
with its stamp (a NaN channel has no value and leaves the last one). -/
structure TeleHalf where
  dt : Option Nat
  ch : List (Option (Word × Nat))
deriving DecidableEq, Repr

/-- R210, R216, R101: what the device keeps of a node table entry beside its registers: on each member of a pair the link delay (0:
unmeasured) and RESID at full resolution (2^−16 ns), FAULT_IN as last shown, the telemetry rate last asked for (R152), whether the reply to the last MARK has come, the
consecutive censuses missed and answered, when the entry went LOST, the last telemetry, and whether ORIGIN fitted the member. -/
structure NodeSeen where
  linkDn : Nat
  linkDn2 : Nat
  resid : Nat
  resid2 : Nat
  faultIn : Bool
  rateAsked : Option Nat
  answered : Bool
  answered2 : Bool
  missed : Nat
  okRun : Nat
  lostDt : Nat
  lo : TeleHalf
  hi : TeleHalf
  originBad : Bool
  originBad2 : Bool
deriving DecidableEq, Repr

/-- R213, R219, R227: one piste's census beside its registers: the DT of the last MARK, whether it has returned, the runs of
censuses at which it did not and did, the scale of R219 and the link delays it rests on, the runs of |e| beyond 2 ns and within
1 ns, the own-link echo of R217, the MARKs sent since UP (counted to 2), and what the receiver sees. -/
structure PisteTime where
  markDt : Nat
  markFrac : Nat
  returned : Bool
  missRun : Nat
  backRun : Nat
  scaleNum : Int
  scaleDen : Nat
  lat : Nat
  bigRun : Nat
  smallRun : Nat
  link1 : Option Nat
  marks : Nat
  seen : StreamSeen
deriving DecidableEq, Repr

/-- R171 to R192: one piste's physical layer beside its registers: the attempts failed in this bring-up, when the present state began,
when the first attempt began, the 1 ms updates at or above FOM_WARN + 16 in a FOM_LOW episode and whether one runs, the figures of
merit of the CTLE sweep, when the receiver's echo window opened (R217), the logical exchange of the pair's receivers, what the transmitter
sends, and the error-free bits the PRBS checker has seen last. -/
structure Phy where
  fails : Nat
  since : Nat
  attemptDt : Nat
  lowRun : Nat
  lowTold : Bool
  sweep : List Nat
  echo : Option Nat
  crossed : Bool
  stream : TxStream
  prbsRun : Nat
deriving DecidableEq, Repr

/-- R201: a frame heard within the last 10 ms: source entry, TYPE, SEQ and when. -/
structure Heard where
  node : Nat
  type : Byte
  seq : Code
  dt : Nat
deriving DecidableEq, Repr

/-- R221, R228: one leg at its stage node: FLT_MASK, the node's own; the fault latch, the STALE_TRI latch, whether a usable frame has
come since ARMED was written and whether the previous period had one, the frames in hand by BTAG, with the arrival of their EOF on the node's own time, the command of the period running,
what the gates do, their transitions (R87), and the last boundary passed. -/
structure NodeLeg where
  fltMask : BitVec 6
  fault : Bool
  stale : Bool
  seen : Bool
  prev : Bool
  frames : List (Nat × Int × LegCmd)
  cmd : LegCmd
  gate : GateOut
  gates : Gates
  bdry : Option Nat
deriving DecidableEq, Repr

/-- R196 to R228: what a node keeps of one member of its pair, or of its only piste: its hop (0: none), the census number and piste index of
its last MARK, that MARK's arrival on the node's counter (2^−16 ns) and its RESID (R218), the link from its transmitter (R217), whether its
receiver is aligned, has signal and is inverted (R178, R179), when its echo window opened, and the SYNC it has received and not applied. -/
structure NodePort where
  hop : Nat
  census : Code
  origin : Nat
  arrival : Int
  resid : Nat
  linkDn : Nat
  echoOk : Bool
  aligned : Bool
  signal : Bool
  inverted : Bool
  window : Option Nat
  sync : Option SyncFrame
deriving DecidableEq, Repr

/-- R196 to R228: a node as its obligations describe it, by node table entry: its two ports; its time: stale or not, whether it has stepped
since it went stale, its DT less its counter (2^−16 ns), when it last applied a valid SYNC and the INTERVAL then, the member it counts on and
whether the even one's SYNC was last valid; when it last owned a run; its registers (word address and word; unlisted ones read as at reset);
its legs; its fault inputs; EDGE_MISS; when SETPOINT was last written; whether it has gone to its safe state or runs at FAIL_SP; whether STATUS
has changed since its last TELE; the frames of the last 10 ms by TYPE and SEQ (R201); the next SEQ of each TYPE; the frames that wait for a run;
the sample instants of its last TELE and MEAS (ns on its own time); the Ethernet frame of R212 in hand, and the next FRAME_ID. -/
structure Node where
  even : NodePort
  odd : NodePort
  stale : Bool
  stepped : Bool
  offset : Int
  lastSync : Option Nat
  interval : Nat
  onOdd : Bool
  evenValid : Bool
  lastRun : Nat
  regs : List (Nat × Word)
  legs : Vector NodeLeg 6
  fltIn : BitVec 6
  edgeMiss : Bool
  spDt : Nat
  safe : Bool
  teleDue : Bool
  heard : List (Byte × Code × Nat)
  seqs : Vector Nat 8
  outbox : List TxFrame
  teleAt : Option Int
  measAt : Option Int
  tunIn : Option (Nat × Nat × List Byte)
  tunId : Nat
deriving DecidableEq, Repr

/-- R168 to R231: the pistes beside their registers: the CTRL requests outstanding and the next TAG, the frames heard of late (R201), the
node IDs told as not entered (R216), the partial Ethernet frames of R212 (node, FRAME_ID, next segment, bytes), the next SEQ of
each frame TYPE the device sends (R201), the transmitters, and the next FRAME_ID the device gives (R212). -/
structure Pst where
  phy : Vector Phy 8
  time : Vector PisteTime 8
  seen : Vector NodeSeen 128
  nodes : Vector Node 128
  ctrl : List CtrlReq
  tag : Nat
  heard : List Heard
  refusedTold : List Id64
  seqs : Vector Nat 8
  tun : List (Nat × Nat × Nat × List Byte)
  tx : Vector PisteTx 8
  tunId : Nat
deriving DecidableEq, Repr

/-- R246, R251: a frame the device has for an entry: TYPE, body, MORE, its SEQ once sent, how often it has been sent, and the host's
descriptor it belongs to. -/
structure SlnTx where
  type : Nat
  body : List Byte
  more : Bool
  seq : Option Code
  sends : Nat
  src : Option Src
deriving DecidableEq, Repr

/-- R245 to R253: one entry of the site-line node table beside its registers: frames waiting, the DISPLAY frame due, the frame to be
repeated, the frame of the exchange under way, whether a retry poll is owed, the superframe of its last poll, the failed exchanges in a
row, the next SEQ, the SEQ last accepted, the fragments in hand, the ACK (false) or NACK (true) owed, its relays, and whether the node
is unsynced. -/
structure SlnEntry where
  queue : List SlnTx
  disp : Option SlnTx
  retry : Option SlnTx
  flight : Option SlnTx
  retryPoll : Bool
  lastPoll : Nat
  fails : Nat
  seqOut : Nat
  rxSeq : Option Code
  rxPart : List Byte
  ackOut : Option (Bool × Code)
  route : List Nat
  unsynced : Bool
deriving DecidableEq, Repr

/-- R239, R249: a link direction from `a` to `b` (0xFE: the device): the rate heard in 0.1 Mbit/s and when, the receiver's map in use with
its loaded bits and when it came, whether the link is to be sounded, and the outcomes of its last 100 frames (newest first; true:
failed). -/
structure SlnLink where
  a : Nat
  b : Nat
  heard : Option (Nat × Nat)
  map : Option (ToneMap × Nat)
  fails : List Bool
deriving DecidableEq, Repr

/-- R246, R247: what a poll region sends: an ADMIT through a relay or directly, or a poll of an entry. -/
inductive SlnPoll
  | join (via : Option Nat) (body : List Byte)
  | entry (i : Fin 250)
deriving DecidableEq, Repr

/-- R244 to R257: the site line beside its registers: the entries, link directions, the polls of the running superframe and those that
slipped, the ADMITs to send, the entry of the exchange under way, the relay list, since when at most 32 nodes have been present, the
noise hold, the deferral of the poll in hand and the sum of the superframe, whether deferring has stopped, messages that await SLN_RECV
and SLN_RECV descriptors that await messages, and DSEQ; when the superframe started, when the next frame may start, and when the last
poll's last symbol reached its node. The local display port's item with the DT at which it fell due. -/
structure Sln where
  entries : Vector SlnEntry 250
  links : List SlnLink
  polls : List SlnPoll
  slipped : List SlnPoll
  admits : List SlnPoll
  current : Option (Fin 250)
  relays : List Nat
  lowSince : Option Nat
  holdEnd : Option Nat
  deferSince : Option Nat
  deferTotal : Nat
  deferStop : Bool
  inbox : List (Nat × List Byte)
  recv : List Src
  dseq : Word
  sfAt : Nat
  lineAt : Nat
  pollEnd : Nat
  dsp : Option (Nat × List Byte × Nat)
deriving DecidableEq, Repr

/-- An entry as it starts. -/
def SlnEntry.empty : SlnEntry :=
  { queue := [], disp := none, retry := none, flight := none, retryPoll := false, lastPoll := 0, fails := 0, seqOut := 0,
    rxSeq := none, rxPart := [], ackOut := none, route := [], unsynced := false }

/-- R374: what the manifest keeps of the start of the metered interval: run epoch, DT and UTC of the end of the first block, and
the outlet's registers after the commit of the block before it (mWh; tariffs T1 to T8, TDEF). -/
structure ManStart where
  epoch : Word
  dt : Nat
  utc : Nat
  imp : Nat
  exp : Nat
  impT : List Nat
  expT : List Nat
deriving DecidableEq, Repr

/-- R374: the end of the metered interval, after the commit of the last block. -/
structure ManEnd where
  epoch : Word
  dt : Nat
  utc : Nat
  imp : Nat
  exp : Nat
  impT : List Nat
  expT : List Nat
deriving DecidableEq, Repr

/-- R264 to R279: one outlet's session beside its registers. `plug` and `link` as VLINK_STATE last read; `since` when the state was
entered; `lastMsg` and `lastLoop` the last request and the last charge-loop request; `outcome` the first cause of an end (0: none);
`comm` and `load` a commissioning and a LOAD session; EVCCID and EMAID as received; `authAt` when AUTH_REQUEST was posted,
`accepted` its ACCEPT; class, BPT permit and energy cap of the answer; `certAt` a relayed CertificateInstallation; the vehicle's
maximum power, discharge offer (W), remaining energy request (Wh) and target voltage (binary32); `closing` the contactor commanded
closed, `opening` open; `finished` CableCheck Finished; `zeroAt` when the grant reached 0 in a stop; `openedAt` the opening instant;
`energisedAt` the energisation instant; `refusedAt` since when the refusal is unbroken; what has been told once; REASON_SEEN and the
manifest's flags; and the session's start for GAP, tamper and loss figures; how the SDP was answered (0 not, 1 for TLS, 2 without); EVEnergyRequest of an
ISO 15118-2 vehicle in Wh; the vehicle's maximum discharge power (W) and the challenge of its AuthorizationSetup; whether an SDP request
has come, a TCP connection is open, and PreCharge has reached its target; and when an open write last failed. -/
structure Sess where
  plug : Bool
  link : Nat
  since : Nat
  lastMsg : Nat
  lastLoop : Nat
  outcome : Nat
  comm : Bool
  load : Bool
  evccid : List Byte
  emaid : List Byte
  authAt : Option Nat
  accepted : Bool
  authLate : Bool
  cls : Option Nat
  bptPermit : Bool
  cap : Nat
  dynamic : Bool
  certAt : Option Nat
  evPower : Nat
  offer : Nat
  remaining : Option Nat
  target : Word
  closing : Bool
  opening : Bool
  finished : Bool
  zeroAt : Option Nat
  energisedAt : Option Nat
  openedAt : Option Nat
  refusedAt : Option Nat
  waitTold : List Nat
  ackTold : Bool
  keyTold : Bool
  seen : Nat
  flags : Nat
  start : Option ManStart
  stop : Option ManEnd
  gap0 : Nat
  tamper0 : Nat
  cal0 : Nat
  imp0 : Nat
  losses : List Nat
  opened : Nat
  manDue : Bool
  sdp : Nat
  energyReq : Option Nat
  evDischarge : Nat
  challenge : List Byte
  sdpSeen : Bool
  tcp : Bool
  reached : Bool
  failedAt : Option Nat
deriving DecidableEq, Repr

/-- R264 to R279: the vehicle sessions: the outlets, their SECC certificate chains, and the installed trust anchors. -/
structure Vss where
  outs : Vector Sess 16
  chains : Vector (List Byte) 16
  vehAnchors : List (List Byte)
  moAnchors : List (List Byte)
deriving DecidableEq, Repr

/-- An outlet without a session. -/
def Sess.idle : Sess :=
  { plug := false, link := 0, since := 0, lastMsg := 0, lastLoop := 0, outcome := 0, comm := false, load := false, evccid := [], emaid := [], authAt := none, accepted := false, authLate := false, cls := none, bptPermit := false, cap := 0, dynamic := false, certAt := none, evPower := 0, offer := 0, remaining := none, target := 0, closing := false, opening := false, finished := false, zeroAt := none, energisedAt := none, openedAt := none, refusedAt := none, waitTold := [], ackTold := false, keyTold := false, seen := 0, flags := 0, start := none, stop := none, gap0 := 0, tamper0 := 0, cal0 := 0, imp0 := 0, losses := [], opened := 0, manDue := false, sdp := 0, energyReq := none, evDischarge := 0, challenge := [], sdpSeen := false, tcp := false, reached := false, failedAt := none }

/-- R268, R273: response codes of a vehicle message. -/
inductive V2gCode
  | ok
  | failed
  | sequenceError
  | noNegotiation
  | serviceSelectionInvalid
deriving DecidableEq, Repr

/-- R273, R274: a response: its code, EVSEProcessing Ongoing, EVSENotification Terminate (StopCharging), EVSEStatus of ISO 15118-2 (0
EVSE_Ready, 1 EVSE_EmergencyShutdown, 2 EVSE_UtilityInterruptEvent, 3 EVSE_Malfunction), what is offered, the power of the schedule
entry of 24 h in W, the limits in W, 0.1 A and 0.1 V rounded down, the present voltage and current in 0.1 V and 0.1 A, the
limit-achieved flags, and a CertificateInstallation response. -/
structure V2gResp where
  code : V2gCode
  ongoing : Bool
  terminate : Bool
  status : Nat
  pMax : Nat
  iMax : Nat
  vMax : Nat
  pDis : Nat
  iDis : Nat
  u : Int
  i : Int
  powerLimited : Bool
  currentLimited : Bool
  data : List Byte
  offers : List V2gOffer
  schedule : Option Nat
deriving DecidableEq, Repr

/-- R291: a frame taken from the transmit ring, the descriptor it belongs to, and when it was taken. -/
structure CanPending where
  src : Src
  frame : CanFrame
  since : Nat
deriving DecidableEq, Repr

/-- R291 to R299: one controller beside its registers: the pending frames in ring order, of which the first 32 are in mailboxes; the error
counters; the DT of the bus-offs of the last 60 s; what has been told in the running episodes of TDC_SAT and RX_OVERFLOW; the secondary
sample point in mtq; since when the controller waits for 11 recessive bits; and when its recovery started. -/
structure CanSt where
  pend : List CanPending
  tec : Nat
  rxc : Nat
  offs : List Nat
  tdcTold : Bool
  ovfTold : Bool
  ssp : Nat
  joinFrom : Nat
  recoverFrom : Nat
deriving DecidableEq, Repr

/-- R208, R307: a head's block: the frames received for it, by first-sample DT, with their 8 samples of voltage and current codes and
whether a status bit spoils them. -/
structure HeadFrame where
  dt : Nat
  got : Nat
  spoilt : Bool
  samples : List (Int × Int)
deriving DecidableEq, Repr

/-- R307: what Energy Metering passes to the triad for a usable block: U in 2^−32 V, I in 2^−32 A, E in 2^−32 mWh. -/
structure HeadBlock where
  u : Int
  i : Int
  e : Int
deriving DecidableEq, Repr

/-- R319, R320: one pulse output beside its registers: the energy since the last due pulse (2^−32 units), the pulses due and not
started with their widths in ns, the last due instant, the start and width of the last pulse, and its level. -/
structure PulseSt where
  acc : Nat
  due : List Nat
  lastDue : Option Nat
  lastStart : Option (Nat × Nat)
  active : Bool
deriving DecidableEq, Repr

/-- R321, R350, R364: a save record in a slot of MRAM: accumulators with their fractions, tariff accumulators, L0, GAP registers,
P_SAVE and whether energised of each outlet, ALC_RAMP.UP, and the sessions open at the time. -/
structure SaveRec where
  seq : Nat
  epoch : Word
  dt : Nat
  utc : Nat
  utcValid : Bool
  acc : List Int
  tar : List Int
  l0 : Option Nat
  gaps : List Nat
  pSave : List Nat
  energised : List Bool
  open_ : List Bool
  up : Nat
deriving DecidableEq, Repr

/-- R321, R322: a save slot: its record, whether it is intact, and whether its last use failed. -/
structure SaveSlot where
  saved : Option SaveRec
  intact : Bool
  failed : Bool
deriving DecidableEq, Repr

/-- R323, R324: a loss record. Bounds in mWh: outlets 0 to 15, then each grid point active and reactive. -/
structure LossRec where
  no : Nat
  before : Word
  after : Word
  cause : Nat
  s : Nat
  sUtc : Nat
  sEpoch : Word
  resetUtc : Nat
  resetValid : Bool
  restartUtc : Nat
  torn : Bool
  unbounded : Bool
  unmetered : Bool
  bounds : List Nat
deriving DecidableEq, Repr

/-- R304 to R327: energy metering beside the registers: the 80 accumulators (2^−32 mWh or mvarh), the runs of R311 of each grid
point, the frames of each head of the present block, the run of invalid blocks told, the highest |E| of the last 100 blocks of
each outlet, the valid blocks' power of each grid point (W, newest first), pulse outputs, save slots, the saves in progress, the loss
records, the next sequence number, the slot last used, and the last 200 codes of each channel (newest last), and calibration written at a DT that
takes effect with the next block. -/
structure Mtr where
  acc : Vector Int 80
  lowRun : Vector Nat 2
  goodRun : Vector Nat 2
  gapTold : Vector Bool 2
  frames : Vector (List HeadFrame) 48
  blocks : Vector (List Nat) 16
  gpBlocks : Vector (List (Option Int)) 2
  pulses : Vector PulseSt 4
  slots : Vector SaveSlot 16
  saving : List (Nat × SaveRec)
  losses : List LossRec
  nextSeq : Nat
  lastSlot : Nat
  hist : Vector (List Int) 16
  pendCal : List (Nat × CalItem)
deriving DecidableEq, Repr

/-- R336, R337: one outlet's vote beside its registers: the voted or held U and I (2^−32 V, A), none while there is neither; the last
voted ones; and whether VOTE_HELD has been posted in the present episode. -/
structure TriOut where
  value : Option (Int × Int)
  last : Option (Int × Int)
  heldTold : Bool
  secAcc : Nat
deriving DecidableEq, Repr

/-- R339 to R342: one head slot beside its registers: when it entered STANDBY, when its present test step began, the blocks of step
AGREE so far, and requests that wait for the block's end (R340). -/
structure HeadSt where
  standbyDt : Nat
  stepDt : Nat
  agreeBlocks : Nat
  wantStandby : Bool
  wantTest : Bool
deriving DecidableEq, Repr

/-- R333 to R343: the measurement triad beside its registers. -/
structure Tri where
  outs : Vector TriOut 16
  heads : Vector HeadSt 48
deriving DecidableEq, Repr

/-- R354, R355: one demand quantity: the sub-intervals in the window (newest first) with energy in 2^−32 mWh and marks, and the
energy and marks of the running one. -/
structure DemandSt where
  window : List (Int × Nat)
  energy : Int
  marks : Nat
deriving DecidableEq, Repr

/-- R358: a closed-period record. Tariff registers and WRAPs by quantity and tariff (360 each), maxima as (value W, UTC, marks). -/
structure ClosedPeriod where
  no : Nat
  start : Nat
  stop : Nat
  marks : Nat
  saveSeq : Nat
  tar : List Int
  maxima : List (Nat × Nat × Nat)
  lossBound : Nat
  gap : Nat
  losses : List Nat
  many : Nat
  acc : List Int
deriving DecidableEq, Repr

/-- R375: a manifest. -/
structure Manifest where
  no : Nat
  alg : Nat
  outlet : Nat
  outcome : Nat
  deviceId : Id64
  identGen : Nat
  proto : Nat
  flags : Nat
  reasonLast : Nat
  reasonSeen : Nat
  start : ManStart
  stop : ManEnd
  sid : Id64
  evccHash : List Byte
  emaidHash : List Byte
  lossBound : Nat
  gap : Nat
  lossCnt : Nat
  tamperCnt : Nat
  calCnt : Nat
  prevDigest : List Byte
  sig : List Byte
deriving DecidableEq, Repr

/-- R369: an association: its role and when its last request came. -/
structure Assoc where
  channel : Channel
  role : Role
  last : Nat
deriving DecidableEq, Repr

/-- R369: failed attempts (newest first) and a lock of one channel, and the challenge last given on it. -/
structure ChannelAccess where
  channel : Channel
  fails : List Nat
  locked : Option Nat
  challenge : Option (List Byte)
deriving DecidableEq, Repr

/-- R361: a running slew: what remains in ms, signed. R360: `none` when none runs. -/
structure Slew where
  left : Int
  last : Nat
deriving DecidableEq, Repr

/-- R348 to R377: billing beside its registers: the tariff accumulators (2^−32 mWh; quantity b, tariff i at 9b + i), demand, the
running sub-interval (its start and end as legal time in ms, or DT ms while legal time is invalid), the tariff switching minute last
handled, settings in force and pending with their minute, the open period, the history, the latest closed boundary, L0, the slew,
held tampers, the hibernation latch (type, count, first and last UTC in s), associations, scrolls, the archive, and sessions that
ended within 24 h (outlet, SessionID, when), whether a key operation holds tampers, the accumulators as last booked to tariffs, and when
a scroll item was last due. -/
structure Bil where
  tar : Vector Int 360
  demand : Vector DemandSt 20
  subEnd : Option Nat
  subValid : Bool
  lastMin : Nat
  cfg : TariffCfg
  pendingCfg : Option (Nat × TariffCfg)
  periodStart : Nat
  periodMarks : Nat
  periodLoss : Nat
  periodGap : Nat
  periodLosses : List Nat
  history : List ClosedPeriod
  lastClosed : Option Nat
  l0 : Option Nat
  slew : Option Slew
  held : List (Nat × Nat × Bool)
  magPending : Bool
  latch : List (Nat × Nat × Nat × Nat)
  fwLast : Word
  assocs : List Assoc
  access : List ChannelAccess
  scrollOut : List Code
  scrollDsp : List Code
  dwell : Nat
  archive : List Manifest
  highTold : Bool
  lastDigest : List Byte
  recent : List (Nat × Id64 × Nat)
  keyOp : Bool
  seen : Vector Int 80
  lastItem : Option Nat
deriving DecidableEq, Repr

/-- R388, R390: a stored rest point: SOC_OCV in %, DT and run epoch, the charge count in Ah and the throughput in Ah at its instant. -/
structure RestPoint where
  soc : Rat
  dt : Nat
  epoch : Word
  count : Rat
  thru : Rat
deriving DecidableEq, Repr

/-- R384 to R400: one string beside its registers: SOC_INT and SOC_REP in %, UNC in %, the charge count and the throughput in Ah, the
last sample (DT, V, A), that nothing may be counted up to the next sample and that the device cannot tell how long it was, what was
counted since the last step, that a gap fell since then and that one of more than 60 s has (R396), since when the FULL and EMPTY
conditions hold and whether each has anchored, since when the string is at rest and whether the point of this rest has been taken,
the stored points (newest first), the stored identity (0: none received since the enable), whether samples still come at the 10 Hz of
hibernation, the template's signals
(value and DT of the last update; the DT alone before the first), a swap to be taken at the next step with its cause, a first
estimate that waits for a sample, when the rest was granted, the DT that LEARN_AGE counts from, TELE_RATE as last written (0: not
yet), and the limits in W and 0.1 V as published. -/
structure Str where
  soc : Rat
  rep : Rat
  unc : Rat
  count : Rat
  thru : Rat
  last : Option (Nat × Rat × Rat)
  noBridge : Bool
  unknown : Bool
  ds : Rat
  gap : Bool
  longGap : Bool
  fullSince : Option Nat
  fullDone : Bool
  emptySince : Option Nat
  emptyDone : Bool
  restSince : Option Nat
  restTaken : Bool
  points : List RestPoint
  ident : Id64
  slow : Bool
  sigs : Vector (Option Nat × Nat) 8
  swap : Option Nat
  estDue : Bool
  grantAt : Option Nat
  ageFrom : Nat
  rate : Nat
  chgW : Nat
  disW : Nat
  vLim : Nat
deriving DecidableEq, Repr

/-- R400: what a commit keeps of one string; `flags` are UNANCHORED, FIRST_EST and DRIFT. -/
structure StrSave where
  soc : Rat
  rep : Rat
  unc : Rat
  count : Rat
  thru : Rat
  cap : Nat
  lastCap : Nat
  age : Nat
  points : List RestPoint
  ident : Id64
  fullDone : Bool
  emptyDone : Bool
  unanchored : Bool
  firstEst : Bool
  drift : Bool
deriving DecidableEq, Repr

/-- R400: a copy of the estimator state in MRAM: its sequence number, whether it is intact, and the strings. -/
structure BseCopy where
  seq : Nat
  intact : Bool
  strs : List StrSave
deriving DecidableEq, Repr

/-- R383 to R401: the estimator beside its registers: the strings, the two copies, the copy of the last good commit, and an extra commit
that is due. -/
structure Bse where
  strs : Vector Str 48
  copies : Vector BseCopy 2
  good : Fin 2
  extra : Bool
  lastStep : Option Nat
  lastCommit : Option Nat
deriving DecidableEq, Repr

/-- A string that has never been enabled. -/
def Str.empty : Str :=
  { soc := 0, rep := 0, unc := 0, count := 0, thru := 0, last := none, noBridge := false, unknown := false, ds := 0, gap := false, longGap := false, fullSince := none, fullDone := false, emptySince := none, emptyDone := false, restSince := none, restTaken := false, points := [], ident := 0, slow := false, sigs := Vector.replicate 8 (none, 0), swap := none, estDue := false, grantAt := none, ageFrom := 0, rate := 0, chgW := 0, disW := 0, vLim := 0 }

/-- R411: one pin: its filtered level, none until one has passed the filter, and the other level it has shown, with the evaluation that
showed it first. -/
structure SafPin where
  level : Option Bool
  cand : Option (Bool × Nat)
deriving DecidableEq, Repr

/-- R411 to R417: one pair as a channel evaluates it: its state and fault, since when its two filtered pins differ, since when it shows the
actuated state free of its fault, whether its test has seen the guard open, since when the RESET actuation lasts, when the hand was
pressed, and when its category 1 stop was decided. -/
structure SafPair where
  state : Nat
  fault : Nat
  differAt : Option Nat
  clearAt : Option Nat
  opened : Bool
  actAt : Option Nat
  pressAt : Option Nat
  cat1At : Option Nat
deriving DecidableEq, Repr

/-- R408: one channel: the pins as it filters them, the pairs as it evaluates them, its site stop with the pair it began at (0xFF: none) and
whether that one stands after a reset or a wake, when it last took a reset action and whether that cleared anything, and when it last
found a two-hand press out of step. -/
structure SafChan where
  pins : Vector SafPin 16
  pairs : Vector SafPair 8
  stop : Nat
  stopBy : Nat
  boot : Bool
  answered : Option (Bool × Nat)
  syncAt : Option Nat
deriving DecidableEq, Repr

/-- R408 to R419: the safety functions beside their registers: channels A (0) and B (1), the SAF_PAIR_CFG that each guard's test result holds
for (channel A keeps it, R415), since when the channels disagree, the clean dark tests in a row of each output and when its last was, and
the last evaluation. -/
structure Saf where
  chans : Vector SafChan 2
  tested : Vector (Option Word) 8
  xmonAt : Option Nat
  clean : Vector Nat 4
  darkAt : Vector (Option Nat) 4
  lastEval : Option Nat
deriving DecidableEq, Repr

/-- A channel that has seen nothing. -/
def SafChan.empty : SafChan :=
  { pins := Vector.replicate 16 ⟨none, none⟩, pairs := Vector.replicate 8 ⟨0, 0, none, none, false, none, none, none⟩, stop := 2, stopBy := 0xFF, boot := true, answered := none, syncAt := none }

/-- R427 to R442: one load-switch channel beside its registers, kept by the power die: since when it conducts, when it was last shut
down and whether it waits in COOLING, whether it was shed or unlocked and waits for a new command, its clamp events of the last 10 s
(DT, mJ), when its clamp lock set, whether it has been re-asserted in the hold window, and the runs of its off-state tests (with and
without OPEN_LOAD, with and without SHORT_VAUX) and when the last of them was. -/
structure LswCh where
  since : Option Nat
  offAt : Nat
  cooling : Bool
  shed : Bool
  unlocked : Bool
  clamps : List (Nat × Nat)
  lockedAt : Nat
  reasserted : Bool
  openYes : Nat
  openNo : Nat
  shortYes : Nat
  shortNo : Nat
  testAt : Option Nat
deriving DecidableEq, Repr

/-- R428, R438, R440, R533: the VIO33 rail; the channels, the sums of all channel currents measured in the last 1 s (DT, mA), when the present supply condition
began, since when the aggregate mean has been low, and when the
running hold window opened. -/
structure Lsw where
  chs : Vector LswCh 20
  sums : List (Nat × Nat)
  supplyAt : Nat
  lowSince : Option Nat
  holdAt : Option Nat
  vio : Rail
deriving DecidableEq, Repr

/-- R451: a slot record as it is sealed in MRAM: TYPE, the hash an HMAC key was created with (256, 384 or 512; 0 otherwise), USAGE,
the slot it was sealed for, WSEQ, private and public key, and whether its tag verifies. -/
structure KeyRec where
  type : Nat
  hash : Nat
  usage : Nat
  slot : Nat
  wseq : Nat
  secret : List Byte
  pub : List Byte
  intact : Bool
deriving DecidableEq, Repr

/-- R459: a key in a working slot. -/
structure WorkKey where
  type : Nat
  hash : Nat
  usage : Nat
  secret : List Byte
  pub : List Byte
deriving DecidableEq, Repr

/-- R468, R469: a firmware bank. -/
structure FwBank where
  present : Bool
  version : Word
  secVer : Nat
  authentic : Bool
deriving DecidableEq, Repr

/-- R449 to R471: keys and firmware beside their registers: the root secret, the 65 records, the working slots, WSEQ, the factory's
debug authority key and firmware public key (R466, R468), an erase that a reset may interrupt, the challenge given to a debugger and failed responses, whether the port is
open, when the random source is tested again and its failures in a row, when root generation is retried, when a trial began, and the
firmware banks, the factory's certificate of the identity key (R472), and the algorithms that failed their known-answer test. -/
structure Key where
  root : Option (List Byte)
  records : Vector (Option KeyRec) 65
  work : Vector (Option WorkKey) 16
  wseq : Nat
  authority : List Byte
  fwKey : List Byte
  challenge : Option (List Byte)
  debugFails : Nat
  debugOpen : Bool
  rngRun : Nat
  rngRetest : Option Nat
  rootRetry : Option Nat
  trialSince : Option Nat
  bankA : FwBank
  bankB : FwBank
  idCert : List Byte
  engineBad : List Byte
deriving DecidableEq, Repr

/-- What a command sends out of the device. -/
inductive Output
  /-- R493: an MSI-X message. -/
  | msix (vector : Nat)
  /-- R9, R479: the value a register read returns. -/
  | readData (value : Word)
  /-- R477: Configuration Request Retry Status. -/
  | retryStatus
  /-- R477: Unsupported Request. -/
  | unsupported
  /-- R481, R496, R497: bytes are written to host memory: a ring entry, a status word, or a part of a result buffer. -/
  | memWrite (addr : Nat) (bytes : List Byte)
  /-- R499: a frame is sent on SVC_TX. -/
  | uartTx (frame : List Byte)
  /-- R9: what a register write is answered with inside the device: its status code. -/
  | writeStatus (status : Code)
  /-- R211: a CTRL request is given to the transmitter, for the node of a node table entry. -/
  | ctrl (node seq : Nat) (f : CtrlFrame)
  /-- R204, R205: an EDGE frame is given to the transmitter, for the node of a stage. -/
  | edge (stage seq : Nat) (f : EdgeFrame)
  /-- R175, R198, R204: a run leaves the transmitter of a piste: when its OWN block starts (1/32 ns), its hop and N, and its blocks on the line. -/
  | run (piste start hop n : Nat) (line : List Block)
  /-- R185, R189 to R191: a piste's transmitter now sends something else; inverted by TX_INV or not. -/
  | stream (piste : Nat) (what : TxStream) (inverted : Bool)
  /-- R213: a MARK on a piste: when its first header bit leaves (1/32 ns), and its block. -/
  | mark (piste start : Nat) (block : Block)
  /-- R209, R214: SYNC and a CENSUS request are given to the transmitter, for a hop of a piste. -/
  | sync (piste hop seq censusSeq : Nat) (f : SyncFrame)
  /-- R213: a node forwards the MARK, as this block. -/
  | markOn (node : Nat) (odd : Bool) (block : Block)
  /-- R198: a node returns its run on a member: its hop, N, its own frames, and the blocks on the line. -/
  | nodeRun (node : Nat) (odd : Bool) (hop n : Nat) (frames : List TxFrame) (line : List Block)
  /-- R177, R196, R198: a node forwards blocks that are not for it. -/
  | nodeForward (node : Nat) (odd : Bool) (line : List Block)
  /-- R177, R197, R224: a node's LOS_IDLE on a member, sent until its receiver is aligned, and the OWN blocks of its orphan runs, in turn. -/
  | losIdle (node : Nat) (odd : Bool) (block : Block) (orphans : List Block)
  /-- R212: a front-end sends an Ethernet frame, with its FCS, to the vehicle. -/
  | vehicle (node : Nat) (bytes : List Byte)
  /-- R212, R266: an Ethernet frame of the vehicle link of a node, whole, on its way to the device's protocol stack. -/
  | ethernet (node : Nat) (bytes : List Byte)
  /-- R242: a BEACON, with its body, `late` ns after the superframe start, and its symbols: by carrier, the bits it takes. -/
  | slnBeacon (late : Nat) (body : List Byte) (symbols : List (List (Nat × List Bool)))
  /-- R240, R245: a site-line frame: SRC, DST, TMAP, RATE, NSYM, RESP_MAX, SF_NUM, the MAC frame, and its symbols (R235 to R238): those of
  the frame control, then those of the payload; by carrier, the bits it takes. -/
  | slnFrame (src dst tmap rate nsym respMax : Nat) (sf : Word) (f : SlnFrame) (symbols : List (List (Nat × List Bool)))
  /-- R368: the answer to an object access request of a site-line node: status and data. -/
  | objReply (entry : Nat) (status : Code) (data : List Byte)
  /-- R266: a second TCP connection of an outlet's vehicle is reset. -/
  | tcpReset (outlet : Nat)
  /-- R269: the device's side of a TLS handshake: its certificate chain and its signature. -/
  | tls (outlet : Nat) (chain signature : List Byte)
  /-- R268: the answer to a vehicle's request. -/
  | v2g (outlet : Nat) (r : V2gResp)
  /-- R466: an answer on the debug port: status, and the challenge. -/
  | debug (status : Code) (data : List Byte)
  /-- R536: a DISPLAY body on the local display port. -/
  | dsp (body : List Byte)
deriving DecidableEq, Repr

/-- The block: every register, buffer, counter, mode and pin the spec gives the device. -/
structure Dev where
  /-- R17, R32: device time in ns. -/
  dt : Nat
  /-- The model's own counter of free values (log entry 3). -/
  free : Nat
  /-- What the last command sent out of the device: messages, frames, requests. -/
  out : List Output
  /-- The register file: BAR0 byte offset and word, offsets rising, reset values not listed (R8 to R14). -/
  regs : List (Nat × Word)
  /-- R12: the capture word of each 64-bit register whose low word has been read since the reset, by the offset of its low word. -/
  capture : List (Nat × Word)
  /-- R12: the staging word of each 64-bit register whose low word has been written since its high word was, by the offset of its low word. -/
  staging : List (Nat × Word)
  /-- R10: the W1C bits that hardware has set in the present clock: DT, register offset, bit. -/
  sets : List (Nat × Nat × Word)
  /-- The device as a whole. -/
  gen : Gen
  /-- The host interface. -/
  hif : Hif
  /-- The wayledger. -/
  ldg : Ldg
  /-- The allocator. -/
  alc : Alc
  /-- The edge generator. -/
  edg : Edg
  /-- The pistes and their nodes. -/
  pst : Pst
  /-- The control law engine. -/
  cle : Cle
  /-- Cable cooling and temperatures. -/
  thm : Thm
  /-- Energy metering. -/
  mtr : Mtr
  /-- The measurement triad. -/
  tri : Tri
  /-- The vehicle sessions. -/
  vss : Vss
  /-- Billing. -/
  bil : Bil
  /-- Keys and firmware. -/
  key : Key
  /-- The site line. -/
  sln : Sln
  /-- The load switches. -/
  lsw : Lsw
  /-- The safety functions. -/
  saf : Saf
  /-- The battery string state estimator. -/
  bse : Bse
  /-- The CAN FD controllers. -/
  can : Vector CanSt 4
deriving DecidableEq, Repr

/-- The device after reset, before the power-on timeline of R507 has run: every register at its reset value (R14). Values
the spec does not give are those of log entry 2. -/
def Dev.reset : Dev where
  dt := 0
  free := 0
  out := []
  regs := []
  capture := []
  staging := []
  sets := []
  gen := { phase := .off, refclk := false, timeDeclared := false, resetDt := 0, resetUtc := none, pinLow := false, pinLowSince := 0, pinHighSince := 0, pair := none, rtcAt := 0, rtcCount := 0, rtcPpb := 0, cfg0 := ⟨true, [], []⟩, cfg1 := ⟨true, [], []⟩, tests := [], bootDt := 0, hibDt := 0, hibUtc := 0, epochBefore := 0, ticks := [] }
  hif := { rings := Vector.replicate 256 { hostIdx := 0, phase := true, written := [], staged := [], dbErr := none }, vectors := Vector.replicate 64 ⟨false, 0, none⟩, exec := [], armWait := [], long := [], served := Vector.replicate 4 255, alertStore := [], seq := 0 }
  ldg := { entries := [], staged := [], snaps := Vector.replicate 32 none, lastFreeze := [], freezeNo := 0, lastDrop := none, wroteAt := none }
  alc := { frozen := none, lastIn := none, lastTick := none, baseSamples := Vector.replicate 2 [], stageSince := Vector.replicate 64 none, heldRun := Vector.replicate 16 0, snowEnd := Vector.replicate 65 0, rests := Vector.replicate 48 ⟨false, false, 0⟩, draws := [], staleNow := [], gpCounts := Vector.replicate 2 true, gpBack := Vector.replicate 2 none }
  edg := { legs := Vector.replicate 384 ({ shadow := (0, 0), pend := none, bdry := none, shift := 0, slm := 0, level := false, since := 0, commanded := false, fell := false, cmd := ⟨false, false, []⟩, forced := 0, out := .off, gates := ⟨false, false, none, []⟩, relDt := none } : LegSt) ++ Vector.replicate 24 ({ shadow := (0, 0), pend := none, bdry := none, shift := 0, slm := 0, level := false, since := 0, commanded := false, fell := false, cmd := ⟨false, false, []⟩, forced := 0, out := .floating, gates := ⟨false, false, none, []⟩, relDt := none } : LegSt), done := [], lastLate := none }
  pst := { phy := Vector.replicate 8 { fails := 0, since := 0, attemptDt := 0, lowRun := 0, lowTold := false, sweep := [], echo := none, crossed := false, stream := .quiet, prbsRun := 0 }, time := Vector.replicate 8 { markDt := 0, markFrac := 0, returned := false, missRun := 0, backRun := 0, scaleNum := 1, scaleDen := 1, lat := 0, bigRun := 0, smallRun := 0, link1 := none, marks := 0, seen := .none }, seen := Vector.replicate 128 { linkDn := 0, linkDn2 := 0, resid := 0, resid2 := 0, faultIn := false, rateAsked := none, answered := false, answered2 := false, missed := 0, okRun := 0, lostDt := 0, lo := ⟨none, []⟩, hi := ⟨none, []⟩, originBad := false, originBad2 := false }, nodes := Vector.replicate 128 { even := ⟨0, 0, 0, 0, 0, 0, false, false, false, false, none, none⟩, odd := ⟨0, 0, 0, 0, 0, 0, false, false, false, false, none, none⟩, stale := true, stepped := false, offset := 0, lastSync := none, interval := 1, onOdd := false, evenValid := false, lastRun := 0, regs := [], legs := Vector.replicate 6 { fltMask := 0, fault := false, stale := false, seen := false, prev := false, frames := [], cmd := ⟨false, false, []⟩, gate := .off, gates := ⟨false, false, none, []⟩, bdry := none }, fltIn := 0, edgeMiss := false, spDt := 0, safe := false, teleDue := false, heard := [], seqs := Vector.replicate 8 0, outbox := [], teleAt := none, measAt := none, tunIn := none, tunId := 0 }, ctrl := [], tag := 0, heard := [], refusedTold := [], seqs := Vector.replicate 8 0, tun := [], tx := Vector.replicate 8 { base := 0, next := 0, queue := [], outbox := [], owed := Vector.replicate 17 0, turn := 0 }, tunId := 0 }
  cle := { slots := Vector.replicate 128 { lastSample := none, queued := none, started := none, opening := false, f := 0, aPrev := 0, st := [], execs := 0, d0 := 0, d1 := 0 }, pipes := Vector.replicate 4 0 }
  thm := { sns := Vector.replicate 64 ⟨none, none, none, 0, 0, 0, 0, false⟩, cab := Vector.replicate 16 { t1 := 0, t2 := 0, t3 := 0, flow := 0, tin := 0, started := false, flowLowSince := none, coolSince := none, fallSince := none, ident := none, pubDt := none }, dieSince := Vector.replicate 3 none, dieHeld := false, lastSp := Vector.replicate 8 none, loopFails := [], lastStep := none }
  mtr := { acc := Vector.replicate 80 0, lowRun := Vector.replicate 2 0, goodRun := Vector.replicate 2 0, gapTold := Vector.replicate 2 false, frames := Vector.replicate 48 [], blocks := Vector.replicate 16 [], gpBlocks := Vector.replicate 2 [], pulses := Vector.replicate 4 ⟨0, [], none, none, false⟩, slots := Vector.replicate 16 ⟨none, true, false⟩, saving := [], losses := [], nextSeq := 1, lastSlot := 15, hist := Vector.replicate 16 [], pendCal := [] }
  tri := { outs := Vector.replicate 16 ⟨none, none, false, 0⟩, heads := Vector.replicate 48 ⟨0, 0, 0, false, false⟩ }
  vss := { outs := Vector.replicate 16 Sess.idle, chains := Vector.replicate 16 [], vehAnchors := [], moAnchors := [] }
  bil := { tar := Vector.replicate 360 0, demand := Vector.replicate 20 ⟨[], 0, 0⟩, subEnd := none, subValid := false, lastMin := 0, cfg := { cfg := 0x82001300#32, tz := 0, dstBegin := ⟨1, 1, 0, 0⟩, dstEnd := ⟨1, 1, 0, 0⟩, cal := ⟨[], [], []⟩ }, pendingCfg := none, periodStart := 0, periodMarks := 0, periodLoss := 0, periodGap := 0, periodLosses := [], history := [], lastClosed := none, l0 := none, slew := none, held := [], magPending := false, latch := [], fwLast := 0, assocs := [], access := [], scrollOut := [], scrollDsp := [], dwell := 6, archive := [], highTold := false, lastDigest := [], recent := [], keyOp := false, seen := Vector.replicate 80 0, lastItem := none }
  key := { root := none, records := Vector.replicate 65 none, work := Vector.replicate 16 none, wseq := 0, authority := [], fwKey := [], challenge := none, debugFails := 0, debugOpen := false, rngRun := 0, rngRetest := none, rootRetry := none, trialSince := none, bankA := ⟨true, 0, 0, true⟩, bankB := ⟨false, 0, 0, false⟩, idCert := [], engineBad := [] }
  sln := { entries := Vector.replicate 250 SlnEntry.empty, links := [], polls := [], slipped := [], admits := [], current := none, relays := [], lowSince := none, holdEnd := none, deferSince := none, deferTotal := 0, deferStop := false, inbox := [], recv := [], dseq := 0, sfAt := 0, lineAt := 0, pollEnd := 0, dsp := none }
  lsw := { chs := Vector.replicate 20 { since := none, offAt := 0, cooling := false, shed := false, unlocked := false, clamps := [], lockedAt := 0, reasserted := false, openYes := 0, openNo := 0, shortYes := 0, shortNo := 0, testAt := none }, sums := [], supplyAt := 0, lowSince := none, holdAt := none, vio := .off }
  saf := { chans := Vector.replicate 2 SafChan.empty, tested := Vector.replicate 8 none, xmonAt := none, clean := Vector.replicate 4 0, darkAt := Vector.replicate 4 none, lastEval := none }
  bse := { strs := Vector.replicate 48 Str.empty, copies := Vector.replicate 2 ⟨0, true, []⟩, good := 1, extra := false, lastStep := none, lastCommit := none }
  can := Vector.replicate 4 { pend := [], tec := 0, rxc := 0, offs := [], tdcTold := false, ovfTold := false, ssp := 0, joinFrom := 0, recoverFrom := 0 }

/-- The machine: the queue of waiting commands, first in first out, and the device. -/
structure State where
  pending : List Instr
  dev : Dev
deriving DecidableEq, Repr

/-- The machine right after reset: no command waits. -/
def State.reset : State := { pending := [], dev := Dev.reset }

/-- Why a step can stop with a fault. No command of this block has one: an error is a status, an event or a reset, which is
state. The one constructor stands for a step on a machine that is not there. -/
inductive Fault
  /-- Raised by nothing: every command of the block has an effect. Safe. -/
  | none
deriving DecidableEq, Repr

/-- Why a step can be refused. -/
inductive Refusal
  /-- Raised by Dispatch for a command whose meaning is not yet written. Safe. -/
  | notModelled (mnemonic : String)
deriving DecidableEq, Repr


end Sys2Proof.Machine
end

