-- ==== Sys2Proof/Machine/Operands.lean ====
section
/-! DEFINITION. The operands of the block: the register file in canonical form (R9 to R14), its words, its fields, and the 64-bit
registers (R12). -/

namespace Sys2Proof.Machine

/-! The register file -/

/-- The word listed for a byte offset. -/
def regGet : List (Nat × Word) → Nat → Option Word
  | [], _ => none
  | p :: rest, off => if p.1 = off then some p.2 else regGet rest off

/-- Remove what is listed for `off`. -/
def regErase (m : List (Nat × Word)) (off : Nat) : List (Nat × Word) := m.filter (fun p => decide (p.1 ≠ off))

/-- List `v` for `off`, before the first greater offset. -/
def regPlace : List (Nat × Word) → Nat → Word → List (Nat × Word)
  | [], off, v => [(off, v)]
  | p :: rest, off, v => if off < p.1 then (off, v) :: p :: rest else p :: regPlace rest off v

/-- Store a word: the value an unlisted offset reads as removes the entry, any other is listed. -/
def regPut (m : List (Nat × Word)) (off : Nat) (v : Word) : List (Nat × Word) :=
  if v = resetWord off then regErase m off else regPlace (regErase m off) off v

/-- The canonical form of the register file: offsets strictly rising, no entry equal to what an unlisted offset reads as. -/
def regWf (m : List (Nat × Word)) : Bool :=
  decide ((∀ p ∈ m, p.2 ≠ resetWord p.1) ∧ m.Pairwise (fun p q => p.1 < q.1))

namespace Dev

/-! The parts of the device, one update each. -/

def putDt (s : Dev) (x : Nat) : Dev := { s with dt := x }
def putFree (s : Dev) (x : Nat) : Dev := { s with free := x }
def putOut (s : Dev) (x : List Output) : Dev := { s with out := x }
def putRegs (s : Dev) (x : List (Nat × Word)) : Dev := { s with regs := x }
def putCapture (s : Dev) (x : List (Nat × Word)) : Dev := { s with capture := x }
def putStaging (s : Dev) (x : List (Nat × Word)) : Dev := { s with staging := x }
def putSets (s : Dev) (x : List (Nat × Nat × Word)) : Dev := { s with sets := x }
def putGen (s : Dev) (x : Gen) : Dev := { s with gen := x }
def putHif (s : Dev) (x : Hif) : Dev := { s with hif := x }
def putLdg (s : Dev) (x : Ldg) : Dev := { s with ldg := x }
def putAlc (s : Dev) (x : Alc) : Dev := { s with alc := x }
def putEdg (s : Dev) (x : Edg) : Dev := { s with edg := x }
def putPst (s : Dev) (x : Pst) : Dev := { s with pst := x }
def putCle (s : Dev) (x : Cle) : Dev := { s with cle := x }
def putThm (s : Dev) (x : Thm) : Dev := { s with thm := x }
def putMtr (s : Dev) (x : Mtr) : Dev := { s with mtr := x }
def putTri (s : Dev) (x : Tri) : Dev := { s with tri := x }
def putVss (s : Dev) (x : Vss) : Dev := { s with vss := x }
def putBil (s : Dev) (x : Bil) : Dev := { s with bil := x }
def putKey (s : Dev) (x : Key) : Dev := { s with key := x }
def putSln (s : Dev) (x : Sln) : Dev := { s with sln := x }
def putLsw (s : Dev) (x : Lsw) : Dev := { s with lsw := x }
def putSaf (s : Dev) (x : Saf) : Dev := { s with saf := x }
def putBse (s : Dev) (x : Bse) : Dev := { s with bse := x }
def putCan (s : Dev) (x : Vector CanSt 4) : Dev := { s with can := x }

/-- The word at a BAR0 byte offset. -/
def rd (s : Dev) (off : Nat) : Word :=
  match regGet s.regs off with
  | some v => v
  | none => resetWord off

/-- Write the word at a BAR0 byte offset (the device's own write; R9's access codes are applied by the host write). -/
def wr (s : Dev) (off : Nat) (v : Word) : Dev := s.putRegs (regPut s.regs off v)

/-- The width of a field. -/
def width (f : Field) : Nat := f.hi + 1 - f.lo

/-- Bits `hi` to `lo` of a word. -/
def bitsOf (w : Word) (hi lo : Nat) : Nat := (w.toNat >>> lo) % 2 ^ (hi + 1 - lo)

/-- `w` with bits `hi` to `lo` replaced by `v`. -/
def withBits (w : Word) (hi lo v : Nat) : Word :=
  let m : Word := BitVec.ofNat 32 ((2 ^ (hi + 1 - lo) - 1) <<< lo)
  (w &&& ~~~m) ||| (BitVec.ofNat 32 (v <<< lo) &&& m)

/-- A field's value, unsigned. -/
def get (s : Dev) (f : Field) : Nat := bitsOf (s.rd f.off) f.hi f.lo

/-- A field's value, signed. -/
def geti (s : Dev) (f : Field) : Int :=
  let v := s.get f
  if v < 2 ^ (f.hi - f.lo) then (v : Int) else (v : Int) - 2 ^ (f.hi + 1 - f.lo)

/-- Set a field to `v` modulo its width. -/
def set (s : Dev) (f : Field) (v : Nat) : Dev := s.wr f.off (withBits (s.rd f.off) f.hi f.lo v)

/-- Set a field to a signed value modulo its width. -/
def seti (s : Dev) (f : Field) (v : Int) : Dev := s.set f (v % 2 ^ (f.hi + 1 - f.lo)).toNat

/-- R12: the 64-bit value of the register whose low word is at `lo` and whose high word is at `lo + 4`. -/
def get64 (s : Dev) (lo : Nat) : Id64 := (s.rd (lo + 4)) ++ (s.rd lo)

/-- Set both words of a 64-bit register at once. -/
def set64 (s : Dev) (lo : Nat) (v : Id64) : Dev := (s.wr lo (v.extractLsb' 0 32)).wr (lo + 4) (v.extractLsb' 32 32)

end Dev

end Sys2Proof.Machine
end

