-- ==== Sys2Proof/Machine/Flags.lean ====
section
/-! DEFINITION. Flags and counters of the register file: one-bit fields, counters that wrap and counters that saturate. -/

namespace Sys2Proof.Machine.Dev

/-- Whether a one-bit field is set. -/
def flag (s : Dev) (f : Field) : Bool := s.get f != 0

/-- Set a one-bit field. -/
def setb (s : Dev) (f : Field) (b : Bool) : Dev := s.set f b.toNat

/-- R10: hardware sets a W1C bit: the bit is set, and stays set against a clear in the same clock. -/
def latch (s : Dev) (f : Field) : Dev :=
  (s.setb f true).putSets (s.sets.filter (fun p => p.1 == s.dt) ++ [(s.dt, f.off, BitVec.ofNat 32 (2 ^ f.lo))])

/-- R10: the W1C bits of the register at `off` that hardware has set in this clock. -/
def justSet (s : Dev) (off : Nat) : Word :=
  (s.sets.filter (fun p => p.1 == s.dt && p.2.1 == off)).foldl (fun w p => w ||| p.2.2) 0

/-- Count `n` more in a field that wraps. -/
def incWrap (s : Dev) (f : Field) (n : Nat := 1) : Dev := s.set f (s.get f + n)

/-- Count `n` more in a field that saturates at its greatest value. -/
def incSat (s : Dev) (f : Field) (n : Nat := 1) : Dev := s.set f (min (s.get f + n) (2 ^ (f.hi + 1 - f.lo) - 1))

/-- A counter register that fills its word and wraps at 2^32. -/
def bump (s : Dev) (off : Nat) (n : Nat := 1) : Dev := s.wr off (s.rd off + BitVec.ofNat 32 n)

end Sys2Proof.Machine.Dev
end

