-- ==== Sys2Proof/Machine/Ops.lean ====
section
/-! DEFINITION. The named operations over the device's state: repetition, device time, free values, the outputs of a command,
byte order, and the form every meaning has. -/

namespace Sys2Proof.Machine

namespace Dev

/-! Repetition over a list of indices: the one loop of the model. -/

/-- Apply `f` for every member of `l`, in order. -/
def forEach {α : Type} (s : Dev) (l : List α) (f : α → Dev → Dev) : Dev := l.foldl (fun d a => f a d) s

/-- Apply `f` when `b` holds. -/
def when (s : Dev) (b : Bool) (f : Dev → Dev) : Dev := if b then f s else s

/-! Device time -/

/-- DT in ns (R17). -/
def now (s : Dev) : Nat := s.dt

/-- A command that stands for an instant moves DT to that instant if DT has not reached it (log entry 4). -/
def reach (s : Dev) (t : Nat) : Dev := s.putDt (max s.dt t)

/-- The next DT multiple of `p` at or after now that lies after the instant `last`. -/
def nextMultiple (s : Dev) (p : Nat) (last : Option Nat) : Nat :=
  let up := (s.dt + p - 1) / p * p
  match last with
  | some t => max up ((t / p + 1) * p)
  | none => up

/-- When a periodic command last ran. -/
def ticked (s : Dev) (k : Tick) : Option Nat := (s.gen.ticks.find? (fun q => q.1 == k)).map (·.2)

/-- A periodic command runs at the instant `t`. -/
def tickAt (s : Dev) (k : Tick) (t : Nat) : Dev :=
  let s := s.reach t
  s.putGen { s.gen with ticks := (k, t) :: s.gen.ticks.filter (fun q => q.1 != k) }

/-- A periodic command runs: DT moves to the next multiple of `p` after the one at which it last ran. -/
def tick (s : Dev) (k : Tick) (p : Nat) : Dev := s.tickAt k (s.nextMultiple p (s.ticked k))

/-- Nanoseconds. -/
def us (n : Nat) : Nat := n * 1000
def ms (n : Nat) : Nat := n * 1000000
def sec (n : Nat) : Nat := n * 1000000000

/-! Free values (log entry 3) -/

/-- The index of the next free value, and the state with the counter advanced. -/
def fresh (s : Dev) : Nat × Dev := (s.free, (s.putFree (s.free + 1)))

/-! Outputs -/

/-- Send something out of the device. -/
def emit (s : Dev) (o : Output) : Dev := s.putOut (s.out ++ [o])

/-- A command begins: the outputs of the one before are gone. -/
def start (s : Dev) : Dev := s.putOut ([])

end Dev

/-- Little-endian bytes of `x` (R13). -/
def leBytes : Nat → Nat → List Byte
  | 0, _ => []
  | n + 1, x => BitVec.ofNat 8 x :: leBytes n (x / 256)

/-- The number little-endian bytes stand for (R13). -/
def leNat : List Byte → Nat
  | [] => 0
  | b :: rest => b.toNat + 256 * leNat rest

/-- Every index below `n`. -/
abbrev idx (n : Nat) : List (Fin n) := List.finRange n

/-- Insert a member before the first one it does not follow. -/
def insertBy {α : Type} (le : α → α → Bool) (a : α) : List α → List α
  | [] => [a]
  | b :: rest => if le a b then a :: b :: rest else b :: insertBy le a rest

/-- Sort a list, keeping the order of equals. -/
def sortBy {α : Type} (le : α → α → Bool) (l : List α) : List α := l.foldr (insertBy le) []

/-- Replace one member of a vector by what `f` makes of it. -/
def vupd {α : Type} {n : Nat} (v : Vector α n) (i : Fin n) (f : α → α) : Vector α n := v.set i (f v[i])

/-- The effect of a command on the device; the queue is as the step left it. -/
def State.onDev (s : State) (f : Dev → Dev) : Host.Outcome State Fault Refusal :=
  .next { s with dev := f s.dev.start }

end Sys2Proof.Machine
end

