-- ==== Sys2Proof/Machine/Clock.lean ====
section
/-! DEFINITION. The passing of one CTL tick (R17, R32). -/

namespace Sys2Proof.Machine.Dev

/-- R17: on a CTL tick DT advances by 5 ns. DT runs from POR release on, through every reset but those that restart it, and
stands still in HIBERNATE (R519) and without supply. -/
def ctlTick (s : Dev) : Dev :=
  let s := s.start
  match s.gen.phase with
  | .off => s
  | .hibernate => s
  | .reset _ => s.putDt (s.dt + 5)
  | .running => s.putDt (s.dt + 5)

end Sys2Proof.Machine.Dev
end

