-- ==== Sys2Proof/Machine/Gates.lean ====
section
/-! DEFINITION. The gates of a leg (R87, R97): where the main and the complementary gate turn on and off, from the changes of the command,
with a dead time before each turn-on. The device places the gates of the local outputs by it, a stage node those of its legs (R205). -/

namespace Sys2Proof.Machine

namespace Gates

/-- Both gates off, nothing placed. -/
def idle : Gates := ⟨false, false, none, []⟩

/-- The level of a gate: the main one, or else the complementary one. -/
def level (g : Gates) (main : Bool) : Bool := if main then g.main else g.comp

def setLevel (g : Gates) (main on : Bool) : Gates := if main then { g with main := on } else { g with comp := on }

/-- The turn-on that waits happens when its instant lies before `t`. -/
def flush (g : Gates) (t : Nat) : Gates :=
  match g.due with
  | some e => if e.t < t then { g.setLevel e.main true with due := none, edges := g.edges ++ [e] } else g
  | none => g

/-- A gate that is on turns off at `t`. -/
def turnOff (g : Gates) (main : Bool) (t : Nat) : Gates :=
  if g.level main then { g.setLevel main false with edges := g.edges ++ [⟨t, main, false⟩] } else g

/-- R87: the command changes to `on` at `t`: the gate of the former level turns off, and no longer turns on if it still waited; the
other one turns on after its dead time. -/
def change (dtr dtf : Nat) (comp : Bool) (g : Gates) (c : Nat × Bool) : Gates :=
  let g := (g.flush c.1).turnOff (!c.2) c.1
  { g with due := if c.2 then some ⟨c.1 + dtr, true, true⟩ else if comp then some ⟨c.1 + dtf, false, true⟩ else none }

/-- A new period's transitions are placed. -/
def begin (g : Gates) : Gates := { g with edges := [] }

/-- R87: the gates through a period that ends at `nb`, under the changes of the command. Without a complementary gate there are no dead times. -/
def through (dtr dtf : Nat) (comp : Bool) (g : Gates) (nb : Nat) (changes : List (Nat × Bool)) : Gates :=
  (changes.foldl (change (if comp then dtr else 0) (if comp then dtf else 0) comp) g.begin).flush nb

/-- Both gates off from `b`. -/
def allOff (g : Gates) (b : Nat) : Gates := { ((g.begin.flush b).turnOff true b).turnOff false b with due := none }

/-- R97: MAIN or COMP from `b`: the other gate is off from the boundary, this one on, after the dead time `d` when the other one was on. -/
def force (g : Gates) (main : Bool) (d b nb : Nat) : Gates :=
  let g := g.begin.flush b
  let was := g.level (!main)
  let g := g.turnOff (!main) b
  { g with due := if g.level main then none else some ⟨b + (if was then d else 0), main, true⟩ }.flush nb

end Gates

/-- The first boundary at or after the edge time `t` (R85). -/
def boundaryFrom (p phase t : Nat) : Nat := if t ≤ phase then phase % max 1 p + (t - phase % max 1 p + p - 1) / max 1 p * p
  else phase + (t - phase + p - 1) / max 1 p * p

/-- R205: the BTAG of a boundary: its number, as PHASE lies below PERIOD. -/
def btagOf (b p : Nat) : Nat := b / max 1 p % 65536

/-- The changes of a command, with the levels they lead to, from `level` on. -/
def toggles (level : Bool) : List Nat → List (Nat × Bool)
  | [] => []
  | t :: rest => (t, !level) :: toggles (!level) rest

end Sys2Proof.Machine
end

