-- ==== Sys2Proof/Config.lean ====
section
/-! DEFINITION. What one implementation fixes and the spec leaves open. Every constant here is opaque: nothing can evaluate
it, so every claim holds whatever it is (log entry 3). The first argument is the model's counter of free values, so two uses
need not agree; the other arguments are the operands the value may depend on. -/

namespace Sys2Proof.Config

/-- A free number. -/
opaque freeNat : Nat → Nat
/-- A free integer. -/
opaque freeInt : Nat → Int
/-- A free rational number. -/
opaque freeRat : Nat → Rat
/-- A free 32-bit word. -/
opaque freeWord : Nat → Word
/-- A free 64-bit value. -/
opaque freeId : Nat → Id64
/-- A free byte: the second argument is its place in a string. -/
opaque freeByte : Nat → Nat → Byte
/-- A free byte string of the length the rule asks for. -/
def freeBytes (free len : Nat) : List Byte := (List.range len).map (freeByte free)
/-- The outcome of a check whose algorithm lies outside the spec. -/
opaque freeBool : Nat → Bool

/-- R175: what a scrambler holds when it takes the first block of a run: it depends on everything sent before. -/
opaque scrambler : Nat → BitVec 58
/-- R212, R266: the Ethernet frames in which the device's protocol stack sends an answer to a vehicle. -/
opaque stackFrames : Nat → List (List Byte)

/-- R352: the tariff (0 to 7 for T1 to T8) at a minute of tariff time for which the calendar names none. -/
opaque freeTariff : Nat → Nat

/-- R161, R497: a recorded sample of an identification as it stands in the result buffer; the spec gives it no layout. -/
opaque idSampleBytes : List Int → List Byte
/-- R161: C1, C2, C3, G12, G13 and G23 as the least-squares fit of the recorded samples gives them, in binary32. -/
opaque cableFit : List (List Int) → List Word

/-! Cryptography (R450 to R472). The algorithms are those of the standards the spec names; the model takes each as a function of its
operands with results of the length the spec gives, and nothing more: byte `i` of a result is an opaque function of the operands and `i`. -/

opaque sha2Byte : Nat → List Byte → Nat → Byte
/-- SHA-2 with 256, 384 or 512 bits. -/
def sha2 (bits : Nat) (m : List Byte) : List Byte := (List.range (bits / 8)).map (sha2Byte bits m)

opaque hmacByte : Nat → List Byte → List Byte → Nat → Byte
/-- HMAC with SHA-2 of 256, 384 or 512 bits: hash, key, data. -/
def hmac (bits : Nat) (key m : List Byte) : List Byte := (List.range (bits / 8)).map (hmacByte bits key m)

opaque kdfByte : List Byte → List Byte → List Byte → Nat → Nat → Byte
/-- The KDF of R450: root or shared secret, label, context, length in bits. -/
def kdf (secret label context : List Byte) (bits : Nat) : List Byte := (List.range (bits / 8)).map (kdfByte secret label context bits)

/-- R452, R375: bytes of a public key by type (3 P-256, 4 P-384, 5 P-521, 6 Ed448, 7 ECDH P-384); secret types have none. -/
def pubBytes (type : Nat) : Nat :=
  if type = 3 then 65 else if type = 4 ∨ type = 7 then 97 else if type = 5 then 133 else if type = 6 then 57 else 0
/-- R375: bytes of a signature by type. -/
def sigBytes (type : Nat) : Nat :=
  if type = 3 then 64 else if type = 4 then 96 else if type = 5 then 132 else if type = 6 then 114 else 0

opaque pubKeyByte : Nat → List Byte → Nat → Byte
/-- The public key of a private key of a type of R452. -/
def pubKey (type : Nat) (secret : List Byte) : List Byte := (List.range (pubBytes type)).map (pubKeyByte type secret)

opaque signByte : Nat → List Byte → List Byte → Nat → Byte
/-- A signature: type of R452, private key, digest or message. -/
def sign (type : Nat) (secret m : List Byte) : List Byte := (List.range (sigBytes type)).map (signByte type secret m)
/-- Whether a signature verifies: type, public key, digest or message, signature. -/
opaque verify : Nat → List Byte → List Byte → List Byte → Bool

opaque gcmSealByte : List Byte → List Byte → List Byte → List Byte → Nat → Byte
/-- AES-256-GCM encryption: key, nonce, additional data, plaintext; ciphertext followed by the 16-byte tag. -/
def gcmSeal (key nonce aad m : List Byte) : List Byte := (List.range (m.length + 16)).map (gcmSealByte key nonce aad m)

opaque gcmTagOk : List Byte → List Byte → List Byte → List Byte → Bool
opaque gcmOpenByte : List Byte → List Byte → List Byte → List Byte → Nat → Byte
/-- AES-256-GCM decryption: key, nonce, additional data, ciphertext followed by the tag; none where the tag fails. -/
def gcmOpen (key nonce aad c : List Byte) : Option (List Byte) :=
  if 16 ≤ c.length && gcmTagOk key nonce aad c then some ((List.range (c.length - 16)).map (gcmOpenByte key nonce aad c)) else none

opaque ecdhByte : List Byte → List Byte → Nat → Byte
/-- ECDH on P-384: private key and the peer's point; the shared secret of 48 bytes. -/
def ecdh (secret point : List Byte) : List Byte := (List.range 48).map (ecdhByte secret point)
/-- R269: whether a certificate chain leads to one of the trust anchors, signatures and all: anchors, chain. -/
opaque chainOk : List (List Byte) → List Byte → Bool
/-- R269: the validity of a chain: not before and not after, in ms of UTC. -/
opaque chainDates : List Byte → Nat × Nat
/-- R269: whether a signature over an Authorization's challenge is the chain holder's: chain, challenge, signature. -/
opaque challengeOk : List Byte → List Byte → List Byte → Bool
/-- R514: the object setting that the data of an object record stands for; the spec states no layout of it: object ID, data. -/
opaque objRecord : Word → List Byte → Option ObjSetting
/-- A PKCS #10 request signed by a key: type, private key, subject and extensions in DER. -/
opaque csr : Nat → List Byte → List Byte → List Byte

end Sys2Proof.Config
end

