-- ==== Sys2Proof/Machine/Blocks.lean ====
section
/-! DEFINITION. The 66-bit blocks of a piste (R175, R176, R196, R197), the scrambler, the frames the blocks carry (R198, R199), and the byte
layouts of the frames (R205, R206, R208 to R212). -/

namespace Sys2Proof.Machine

/-! Blocks -/

/-- R175: the headers. -/
def hdData : BitVec 2 := 1#2
def hdControl : BitVec 2 := 2#2

/-- R176, R196: control block types. -/
def btTrain : Nat := 0x01
def btLosIdle : Nat := 0x02
def btIdle : Nat := 0x03
def btOwn : Nat := 0x10
def btSof : Nat := 0x11
def btEof : Nat := 0x12
def btMark : Nat := 0x13

/-- A block's payload bytes, the first one first. -/
def blockBytes (b : Block) : List Byte := leBytes 8 b.payload.toNat

/-- R175: a data block of up to eight bytes. -/
def dataBlock (d : List Byte) : Block := ⟨hdData, BitVec.ofNat 64 (leNat d)⟩

/-- R175: a control block: its type, and bytes 1 to 7 as far as they are not 0. -/
def controlBlock (type : Nat) (d : List Byte) : Block := ⟨hdControl, BitVec.ofNat 64 (leNat (BitVec.ofNat 8 type :: d))⟩

/-- R175: a control block's type. -/
def blockType (b : Block) : Nat := b.payload.toNat % 256

/-- The block is a control block of a type. -/
def isControl (b : Block) (type : Nat) : Bool := b.header == hdControl && blockType b == type

/-- R176: TRAIN. -/
def trainBlock (twin : Bool) (origin : Nat) : Block :=
  controlBlock btTrain (BitVec.ofNat 8 (8 * twin.toNat + origin % 8) :: List.replicate 6 0x3C#8)

/-- R176: IDLE. -/
def idleBlock : Block := controlBlock btIdle []

/-- R197: LOS_IDLE of a node: its hop, signal detect, member and ID. -/
def losIdleBlock (hop : Nat) (signal odd : Bool) (id : Id64) : Block :=
  controlBlock btLosIdle (BitVec.ofNat 8 (8 * hop + 4 * signal.toNat + 2 * odd.toNat) :: leBytes 6 id.toNat)

/-- R196: OWN. -/
def ownBlock (hop n : Nat) (ret : Bool) : Block :=
  controlBlock btOwn [BitVec.ofNat 8 (hop % 32), BitVec.ofNat 8 (n % 64), BitVec.ofNat 8 ret.toNat]

/-- R196: HOP, N and RET of an OWN block. -/
def ownOf (b : Block) : Option (Nat × Nat × Bool) :=
  if isControl b btOwn then
    some ((b.payload.extractLsb' 8 5).toNat, (b.payload.extractLsb' 16 6).toNat, b.payload.getLsbD 24)
  else none

/-- R196: MARK. -/
def markBlock (hopcnt : Nat) (census : Code) (twin : Bool) (piste : Nat) : Block :=
  controlBlock btMark (BitVec.ofNat 8 hopcnt :: leBytes 2 census.toNat ++ [BitVec.ofNat 8 (8 * twin.toNat + piste % 8)])

/-- R213: a MARK as a node sends it on; other blocks go as they came. -/
def forwardBlock (b : Block) : Block := if isControl b btMark then { b with payload := b.payload + 256#64 } else b

/-- R178, R176: a block that a locked receiver passes on: its header is valid, and its type is not one that counts as invalid. -/
def passes (b : Block) : Bool :=
  b.header == hdData || (b.header == hdControl && (decide (0x10 ≤ blockType b) || blockType b == btTrain || blockType b == btLosIdle ||
    blockType b == btIdle))

/-- R196: a reserved block. -/
def isReserved (b : Block) : Bool := b.header == hdControl && decide (0x14 ≤ blockType b)

/-! The scrambler (R175): 1 + x^39 + x^58. The register holds the last 58 scrambled bits, the latest one in bit 0. -/

/-- A scrambled bit enters the register. -/
def shiftBit (r : BitVec 58) (b : Bool) : BitVec 58 := (r <<< 1) ||| (if b then 1#58 else 0#58)

/-- What the register adds to the next bit. -/
def scramblerTap (r : BitVec 58) : Bool := Bool.xor (r.getLsbD 38) (r.getLsbD 57)

/-- Bits are scrambled; the register afterwards. -/
def scrambleBits (r : BitVec 58) : List Bool → List Bool × BitVec 58
  | [] => ([], r)
  | b :: rest =>
    let c := Bool.xor b (scramblerTap r)
    let q := scrambleBits (shiftBit r c) rest
    (c :: q.1, q.2)

/-- Bits are descrambled. -/
def descrambleBits (r : BitVec 58) : List Bool → List Bool × BitVec 58
  | [] => ([], r)
  | c :: rest =>
    let q := descrambleBits (shiftBit r c) rest
    (Bool.xor c (scramblerTap r) :: q.1, q.2)

/-- A payload's bits, the least significant first. -/
def payloadBits (w : BitVec 64) : List Bool := (List.range 64).map w.getLsbD

/-- The payload of bits. -/
def ofBits (l : List Bool) : BitVec 64 := BitVec.ofNat 64 (l.foldr (fun b a => b.toNat + 2 * a) 0)

/-- R175: blocks as they stand on the line: the payloads scrambled, the headers as they are. -/
def scramble (r : BitVec 58) : List Block → List Block
  | [] => []
  | b :: rest =>
    let q := scrambleBits r (payloadBits b.payload)
    { b with payload := ofBits q.1 } :: scramble q.2 rest

/-- R175: blocks from the line. -/
def descramble (r : BitVec 58) : List Block → List Block
  | [] => []
  | b :: rest =>
    let q := descrambleBits r (payloadBits b.payload)
    { b with payload := ofBits q.1 } :: descramble q.2 rest

/-! CRC-32 of IEEE 802.3 (R199) -/

/-- One bit of the reflected CRC. -/
def crcBit (c : Word) : Word := if c.getLsbD 0 then (c >>> 1) ^^^ 0xEDB88320#32 else c >>> 1

/-- One byte. -/
def crcByte (c : Word) (b : Byte) : Word :=
  crcBit (crcBit (crcBit (crcBit (crcBit (crcBit (crcBit (crcBit (c ^^^ b.zeroExtend 32))))))))

/-- Initial value all ones, final complement. -/
def crc32 (l : List Byte) : Word := ~~~(l.foldl crcByte 0xFFFFFFFF#32)

/-! Frames (R198, R199) -/

/-- R200: frame types. -/
def ftEdge : Nat := 1
def ftTele : Nat := 2
def ftMeas : Nat := 3
def ftCtrl : Nat := 4
def ftSync : Nat := 5
def ftCensus : Nat := 6
def ftTun : Nat := 7

/-- R196: the SOF block of a frame. -/
def sofBlock (f : TxFrame) : Block :=
  controlBlock btSof ([BitVec.ofNat 8 f.type, BitVec.ofNat 8 (f.data.length / 8)] ++ leBytes 2 f.seq ++ [BitVec.ofNat 8 f.sub])

/-- R199: the blocks of a frame. -/
def frameBlocks (f : TxFrame) : List Block :=
  let sof := sofBlock f
  sof :: (List.range (f.data.length / 8)).map (fun k => dataBlock ((f.data.drop (8 * k)).take 8)) ++
    [controlBlock btEof (leBytes 4 (crc32 ((blockBytes sof).drop 1 ++ f.data)).toNat)]

/-- How many blocks a frame takes. -/
def frameSize (f : TxFrame) : Nat := f.data.length / 8 + 2

/-- R198: a run: OWN, the frames, then IDLE up to N. -/
def runBlocks (hop n : Nat) (ret : Bool) (frames : List TxFrame) : List Block :=
  let l := frames.flatMap frameBlocks
  ownBlock hop n ret :: l ++ List.replicate (n - l.length) idleBlock

/-- The frames at the front of a list that fit `n` blocks, and the rest. -/
def takeFit : Nat → List TxFrame → List TxFrame × List TxFrame
  | _, [] => ([], [])
  | n, f :: rest =>
    if frameSize f ≤ n then
      let q := takeFit (n - frameSize f) rest
      (f :: q.1, q.2)
    else ([], f :: rest)

/-- A frame as a receiver finds it: TYPE, LEN, SEQ and SUB of its SOF, all that its CRC covers of the SOF, its data bytes, the CRC of its
EOF, and whether its EOF came in its run. -/
structure WireFrame where
  type : Byte
  len : Nat
  seq : Code
  sub : Byte
  sof : List Byte
  data : List Byte
  crc : Word
  fits : Bool
deriving DecidableEq, Repr

/-- A frame from its blocks; `eof` is none where it does not end in its run. -/
def wireFrame (sof : Block) (data : List Block) (eof : Option Block) : WireFrame :=
  { type := (sof.payload.extractLsb' 8 8), len := (sof.payload.extractLsb' 16 5).toNat, seq := sof.payload.extractLsb' 24 16
    sub := sof.payload.extractLsb' 40 8, sof := (blockBytes sof).drop 1, data := data.flatMap blockBytes
    crc := (eof.map (fun b => b.payload.extractLsb' 8 32)).getD 0, fits := eof.isSome }

/-- What the frame in hand becomes when it cannot go on. -/
def cutFrame : Option (Block × List Block) → List (WireFrame × Nat)
  | some q => [(wireFrame q.1 q.2 none, 0)]
  | none => []

/-- R199: the frames among numbered blocks, each with the number of its EOF; `cur` is the frame in hand. -/
def framesFrom (cur : Option (Block × List Block)) : List (Nat × Block) → List (WireFrame × Nat)
  | [] => cutFrame cur
  | (k, b) :: rest =>
    if b.header == hdData then framesFrom (cur.map (fun q => (q.1, q.2 ++ [b]))) rest
    else if isControl b btSof then cutFrame cur ++ framesFrom (some (b, [])) rest
    else if isControl b btEof then
      (match cur with
       | some q => [(wireFrame q.1 q.2 (some b), k)]
       | none => []) ++ framesFrom none rest
    else cutFrame cur ++ framesFrom none rest

/-- R178, R196, R198: the blocks of a line that a frame may hold, with their numbers: what does not pass, reserved blocks and MARKs left out. -/
def frameLine (l : List Block) : List (Nat × Block) :=
  ((List.range l.length).zip l).filter (fun q => passes q.2 && !isReserved q.2 && !isControl q.2 btMark)

/-- R199: the frames on a line of plain blocks. -/
def framesIn (l : List Block) : List (WireFrame × Nat) := framesFrom none (frameLine l)

/-- R199: the frame is whole, of TYPE `type`, and its CRC is right; `lenOk` is R200's test of its LEN. -/
def WireFrame.ok (f : WireFrame) (type : Nat) (lenOk : Nat → Bool) : Bool :=
  f.fits && f.data.length == 8 * f.len && f.type.toNat == type && lenOk f.len && f.crc == crc32 (f.sof ++ f.data)

/-- R198: the run that OWN begins: N blocks, the MARKs among them not counted. -/
def takeRun : Nat → List Block → List Block
  | 0, _ => []
  | _ + 1, [] => []
  | n + 1, b :: rest => if isControl b btMark then b :: takeRun (n + 1) rest else b :: takeRun n rest

end Sys2Proof.Machine

namespace Sys2Proof
open Sys2Proof.Machine

/-- R175: the blocks after the descrambler. -/
def RxFrame.blocks (f : RxFrame) : List Block := descramble f.before f.line

/-- R199: the frame that the blocks bring. -/
def RxFrame.frame (f : RxFrame) : WireFrame :=
  match framesIn f.blocks with
  | q :: _ => q.1
  | [] => wireFrame ⟨0, 0⟩ [] none

def RxFrame.type (f : RxFrame) : Byte := f.frame.type
def RxFrame.len (f : RxFrame) : Nat := f.frame.len
def RxFrame.seq (f : RxFrame) : Code := f.frame.seq
def RxFrame.sub (f : RxFrame) : Byte := f.frame.sub
def RxFrame.data (f : RxFrame) : List Byte := f.frame.data

/-- R196: the reserved blocks among its blocks. -/
def RxFrame.reserved (f : RxFrame) : Nat := (f.blocks.filter isReserved).length

end Sys2Proof

namespace Sys2Proof.Machine

/-! Bytes of a frame -/

/-- Bytes `a` to `a + n − 1` of a frame's data as a number. -/
def fieldAt (d : List Byte) (a n : Nat) : Nat := leNat ((d.drop a).take n)

/-- The four bytes at `a` as a word. -/
def wordAt (d : List Byte) (a : Nat) : Word := BitVec.ofNat 32 (fieldAt d a 4)

/-- The three bytes at `a` as a signed code (R208). -/
def code24 (d : List Byte) (a : Nat) : Int :=
  let v := fieldAt d a 3
  if v < 2 ^ 23 then (v : Int) else (v : Int) - 2 ^ 24

/-- Bytes followed by zeros up to whole blocks. -/
def padBlocks (d : List Byte) : List Byte := d ++ List.replicate ((8 - d.length % 8) % 8) 0#8

/-- R205: the value that stands for no change. -/
def noChange : Nat := 0x3FFFFFF

/-- R205: the ten bytes of a leg. -/
def cmdBytes (c : LegCmd) : List Byte :=
  let t := fun (k : Nat) => (c.changes[k]?).getD noChange
  leBytes 10 (t 0 + t 1 * 2 ^ 26 + t 2 * 2 ^ 52 + c.start.toNat * 2 ^ 78)

/-- R205: an EDGE frame's data. -/
def edgeBytes (f : EdgeFrame) : List Byte :=
  let bit := fun (use : LegCmd → Bool) => (f.members.filter (fun q => use q.2)).foldl (fun a q => a + 2 ^ q.1.val) 0
  leBytes 2 f.btag ++ leBytes 1 (bit (·.driven)) ++ leBytes 1 (f.rep.toNat + 2 * bit (fun _ => true)) ++
    (idx 6).flatMap (fun (j : Fin 6) =>
      match f.members.find? (fun q => q.1 == j) with
      | some q => cmdBytes q.2
      | none => List.replicate 10 0#8)

/-- R205: the command of leg `j` in an EDGE frame's data. -/
def cmdAt (d : List Byte) (j : Nat) : LegCmd :=
  let v := fieldAt d (4 + 10 * j) 10
  { driven := (fieldAt d 2 1).testBit j
    start := v.testBit 78
    changes := [v % 2 ^ 26, v / 2 ^ 26 % 2 ^ 26, v / 2 ^ 52 % 2 ^ 26].filter (· != noChange) }

/-- R205: an EDGE frame from its data. -/
def edgeOf (d : List Byte) : EdgeFrame :=
  { btag := fieldAt d 0 2, rep := (fieldAt d 3 1).testBit 0
    members := ((idx 6).filter (fun (j : Fin 6) => (fieldAt d 3 1).testBit (1 + j.val))).map (fun j => (j, cmdAt d j)) }

/-- R209: a SYNC frame's data. -/
def syncBytes (f : SyncFrame) : List Byte :=
  leBytes 8 f.markDt ++ leBytes 2 f.markFrac ++ leBytes 2 f.census.toNat ++ leBytes 4 f.pathDelay ++ leBytes 1 (f.valid.toNat + 2 * f.odd.toNat) ++
    leBytes 1 f.interval ++ leBytes 4 f.epoch.toNat ++ leBytes 2 0

/-- R209: a SYNC frame from its data. -/
def syncOf (d : List Byte) : SyncFrame :=
  { markDt := fieldAt d 0 8, markFrac := fieldAt d 8 2, census := BitVec.ofNat 16 (fieldAt d 10 2), pathDelay := fieldAt d 12 4
    valid := (fieldAt d 16 1).testBit 0, odd := (fieldAt d 16 1).testBit 1, interval := fieldAt d 17 1, epoch := wordAt d 18 }

/-- R211: a CTRL request's data. -/
def ctrlBytes (f : CtrlFrame) : List Byte :=
  padBlocks (leBytes 1 (if f.write then 2 else 1) ++ [f.tag] ++ leBytes 2 f.addr ++ leBytes 1 f.count ++ leBytes 3 0 ++
    (if f.write then f.words.flatMap (fun w => leBytes 4 w.toNat) else []))

/-- R211: a CTRL request from its data; none where OP is neither READ nor WRITE. -/
def ctrlOf (d : List Byte) : Option CtrlFrame :=
  let op := fieldAt d 0 1
  let n := fieldAt d 4 1
  if op = 1 || op = 2 then
    some { write := op == 2, tag := BitVec.ofNat 8 (fieldAt d 1 1), addr := fieldAt d 2 2, count := n
           words := if op = 2 then (List.range n).map (fun k => wordAt d (8 + 4 * k)) else [] }
  else none

/-- R211: a response's data. -/
def responseBytes (f : CtrlFrame) (status : Nat) (words : List Word) : List Byte :=
  padBlocks (leBytes 1 (if f.write then 0x82 else 0x81) ++ [f.tag] ++ leBytes 2 f.addr ++ leBytes 1 f.count ++ leBytes 1 status ++ leBytes 2 0 ++
    words.flatMap (fun w => leBytes 4 w.toNat))

/-- R212: the segments of an Ethernet frame. -/
def tunSegments (id : Nat) (d : List Byte) : List (List Byte) :=
  let n := (d.length + 239) / 240
  (List.range n).map (fun k =>
    let part := (d.drop (240 * k)).take 240
    padBlocks (leBytes 2 id ++ leBytes 1 k ++ leBytes 1 ((k == 0).toNat + 2 * (k + 1 == n).toNat) ++ leBytes 2 part.length ++ leBytes 2 0 ++ part))

/-- R212: a TUN frame joins the segment it brings to what is in hand (FRAME_ID, next segment, bytes): what is in hand then, and the whole
Ethernet frame where this was its last segment. A segment that does not follow discards the partial frame. -/
def tunJoin (old : Option (Nat × Nat × List Byte)) (d : List Byte) : Option (Nat × Nat × List Byte) × Option (List Byte) :=
  let id := fieldAt d 0 2
  let seg := fieldAt d 2 1
  let flags := fieldAt d 3 1
  let len := fieldAt d 4 2
  let bytes := (d.drop 8).take len
  let sofar :=
    if flags.testBit 0 then (if seg = 0 then some [] else none)
    else
      match old with
      | some (id', next, d) => if id' = id && next = seg then some d else none
      | none => none
  match sofar with
  | none => (none, none)
  | some d =>
    if len = 0 || 240 < len || 6 < seg || bytes.length < len then (none, none)
    else if flags.testBit 1 then (none, some (d ++ bytes))
    else (some (id, seg + 1, d ++ bytes), none)

end Sys2Proof.Machine
end

