-- ==== Sys2Proof/Machine/Images.lean ====
section
/-! DEFINITION. The byte images of what stands in host memory and on the service UART, little-endian by R13: completions (R489), events
(R491), CAN frame records (R297), status words (R496), descriptors (R486) and UART frames (R499). -/

namespace Sys2Proof.Machine

/-- R240: one bit of CRC-16, polynomial 0x1021. -/
def crc16Bit (c : Code) : Code := if c.getLsbD 15 then (c <<< 1) ^^^ 0x1021#16 else c <<< 1

/-- R240: one byte. -/
def crc16Byte (c : Code) (b : Byte) : Code :=
  crc16Bit (crc16Bit (crc16Bit (crc16Bit (crc16Bit (crc16Bit (crc16Bit (crc16Bit (c ^^^ (b.zeroExtend 16 <<< 8)))))))))

/-- R240: CRC-16 over bytes, from 0xFFFF. -/
def crc16 (l : List Byte) : Code := l.foldl crc16Byte 0xFFFF#16

/-- Exactly `n` bytes: what is given, then zeros. -/
def padTo (n : Nat) (l : List Byte) : List Byte := (l ++ List.replicate n 0).take n

/-- The little-endian number in bytes `i` to `i + n - 1`. -/
def leAt (l : List Byte) (i n : Nat) : Nat := leNat ((l.drop i).take n)

/-! Entries the device writes -/

/-- R489: the 16 bytes of a completion. -/
def completionBytes (c : Completion) (phase : Bool) : List Byte :=
  leBytes 4 c.tag.toNat ++ leBytes 1 c.ring ++ leBytes 1 (phase.toNat + 2 * c.caravanEnd.toNat + 4 * c.long.toNat) ++ leBytes 2 c.index ++
    leBytes 2 c.status.toNat ++ leBytes 2 0 ++ leBytes 4 c.result.toNat

/-- R491: the 32 bytes of an event. -/
def eventBytes (e : Event) (phase staged : Bool) : List Byte :=
  leBytes 2 e.code.toNat ++ leBytes 1 (phase.toNat + 2 * e.alert.toNat + 4 * staged.toNat) ++ leBytes 1 0 ++ leBytes 4 e.seq.toNat ++
    leBytes 8 e.dt ++ leBytes 4 e.epoch.toNat ++ padTo 12 e.payload

/-- R297: the 80 bytes of a CAN frame record. -/
def canRecordBytes (r : CanRecord) : List Byte :=
  leBytes 8 r.stamp ++ leBytes 4 (r.id % 2 ^ 29 + r.ide.toNat * 2 ^ 29 + r.rtr.toNat * 2 ^ 30) ++ leBytes 4 r.marker.toNat ++ padTo 64 r.data

/-- R480, R481: the bytes of a device-written entry; those of a record end with its PHASE. -/
def entryImage (x : RingEntry) : List Byte :=
  match x.body with
  | .completion c => completionBytes c x.phase
  | .event e => eventBytes e x.phase x.staged
  | .record _ r => canRecordBytes r ++ leBytes 1 x.phase.toNat ++ List.replicate 47 0

/-- R480: the length of an entry of a device-written ring. -/
def entrySize : EntryBody → Nat
  | .completion _ => 16
  | .event _ => 32
  | .record _ _ => 128

/-- R496: the status word of a long operation. -/
def statusImage (state progress : Nat) (result : Code) : List Byte :=
  leBytes 4 (state % 16 * 2 ^ 28 + progress % 4096 * 2 ^ 16 + result.toNat)

/-! What the device reads -/

/-- R486: a descriptor from its 64 bytes. -/
def parseDesc (l : List Byte) : Desc :=
  { opcode := BitVec.ofNat 16 (leAt l 0 2)
    chain := (leAt l 2 1).testBit 0
    clean := decide (leAt l 2 1 < 2) && leAt l 3 1 == 0 && leAt l 28 4 == 0
    tag := BitVec.ofNat 32 (leAt l 4 4)
    statusAddr := leAt l 8 8
    bufAddr := leAt l 16 8
    bufLen := leAt l 24 4
    resAddr := leAt l 32 8
    resLen := leAt l 40 4
    param := (l.drop 44).take 20 }

/-- R297: the frame that a CAN_TX descriptor's record names. DT, ESI and SOURCE mean nothing on transmit. -/
def parseCanRecord (l : List Byte) : CanFrame :=
  let ide := (leAt l 8 4).testBit 29
  { id := if ide then leAt l 8 4 % 2 ^ 29 else leAt l 8 4 % 2 ^ 11
    ide := ide
    rtr := (leAt l 8 4).testBit 30
    fdf := (leAt l 12 1).testBit 4
    brs := (leAt l 12 1).testBit 5
    esi := false
    oneShot := (leAt l 14 1).testBit 2
    dlc := Fin.ofNat 16 (leAt l 12 1)
    data := (l.drop 16).take 64 }

/-! The service UART (R499) -/

/-- R499: bytes within a frame, with 0x7E and 0x7D escaped. -/
def uartEscape (l : List Byte) : List Byte :=
  l.flatMap (fun b => if b = 0x7E ∨ b = 0x7D then [0x7D, b ^^^ 0x20] else [b])

/-- R499: the bytes that were escaped; an escape at the end is none. -/
def uartUnescape : List Byte → Option (List Byte)
  | [] => some []
  | [b] => if b = 0x7D then none else some [b]
  | a :: b :: rest =>
    if a = 0x7D then (uartUnescape rest).map ((b ^^^ 0x20) :: ·)
    else (uartUnescape (b :: rest)).map (a :: ·)

/-- R499: a frame with its payload. -/
def uartFrameOf (payload : List Byte) : List Byte :=
  let d := leBytes 2 payload.length ++ payload
  0x7E :: uartEscape (d ++ leBytes 2 (crc16 d).toNat) ++ [0x7E]

/-- R499: the payload of a frame, if its delimiters, its length and its CRC are right. -/
def uartPayload (frame : List Byte) : Option (List Byte) :=
  match frame with
  | a :: rest =>
    if a != 0x7E || rest.getLast? != some 0x7E then none
    else
      match uartUnescape rest.dropLast with
      | none => none
      | some d =>
        let n := leAt d 0 2
        if d.length = n + 4 ∧ leAt d (n + 2) 2 = (crc16 (d.take (n + 2))).toNat then some ((d.drop 2).take n) else none
  | [] => none

end Sys2Proof.Machine
end

