-- ==== Sys2Proof/Machine/Events.lean ====
section
/-! DEFINITION. Events, completions, interrupts and the wayledger: the shared operations every block reports through
(R480 to R502, R520 to R523). -/

namespace Sys2Proof.Machine

/-- R492: whether an event is ALERT. -/
def isAlert (c : Code) : Bool :=
  (c.toNat / 256 ∈ [0x00, 0x01, 0x0B, 0x0E, 0x10, 0x11]) ||
  c ∈ [EV_ALC_SITE_TRIP, EV_ALC_TRIP_CLEARED, EV_ALC_SOLVE_FAIL, EV_ALC_GRID_POINT_LOST, EV_EDG_LEG_FAULT, EV_CLE_SLOT_FAULT,
    EV_THM_CABLE_TRIP, EV_THM_CABLE_HARD_TRIP, EV_THM_LOOP_FAIL, EV_PST_PHY_FAILED, EV_PST_NODE_LOST, EV_PST_BREAK,
    EV_VSS_AUTH_REQUEST, EV_VSS_CERT_INSTALL_REQ, EV_VSS_SESSION_END, EV_VSS_WELD_SUSPECT, EV_VSS_STOP_UNDER_LOAD,
    EV_CAN_BUS_OFF, EV_CAN_BOFF_LOCKED, EV_MTR_SAVE_FAIL, EV_MTR_SAVE_FAULT, EV_MTR_LOSS_RECORDED, EV_MTR_LOSS_UNBOUNDED,
    EV_MTR_REGISTER_WRAP, EV_MTR_CAL_CHANGED, EV_MTR_UNMETERED, EV_TRI_VOTE_LOST, EV_TRI_HEAD_EXCLUDED, EV_BSE_SWAP,
    EV_BSE_STATE_LOST, EV_LSW_CH_LATCHED, EV_LSW_CH_LOCKED_CLAMP, EV_LSW_HOLD_EXPIRED, EV_LSW_SURGE]

/-- R480: the ring kinds as HIF_RING_CFG.KIND encodes them. -/
def kindSubmit : Nat := 0
def kindComplete : Nat := 1
def kindEvent : Nat := 2
def kindRecord : Nat := 3

namespace Dev

/-! Rings -/

/-- R480: the number of entries of a ring. -/
def ringSize (s : Dev) (n : Nat) : Nat := 2 ^ s.get (HIF_RING_CFG_LOG2 n)

/-- A ring the device may use: enabled, running, of the kind asked for, and the link up (R480, R495, R502). -/
def ringUsable (s : Dev) (n kind : Nat) : Bool :=
  s.flag (HIF_RING_CFG_EN n) && s.get (HIF_RING_STATUS_STATE n) == 1 && s.get (HIF_RING_CFG_KIND n) == kind &&
    s.flag HIF_STATUS_LINK_UP

/-- R480: whether a device-written ring can take one more entry. -/
def ringHasRoom (s : Dev) (n : Fin 256) : Bool :=
  let size := s.ringSize n
  decide ((s.get (HIF_RING_STATUS_INDEX n) + size - s.hif.rings[n].hostIdx) % size < size - 1)

def modRing (s : Dev) (n : Fin 256) (f : Ring → Ring) : Dev :=
  s.putHif { s.hif with rings := vupd s.hif.rings n f }

def modVector (s : Dev) (v : Fin 64) (f : VectorSt → VectorSt) : Dev :=
  s.putHif { s.hif with vectors := vupd s.hif.vectors v f }

/-- The vector a ring names. -/
def ringVector (s : Dev) (n : Nat) : Fin 64 := Fin.ofNat 64 (s.get (HIF_RING_CFG_VECTOR n))

/-- R493: a vector signals its message, or sets its pending bit while it is masked, and disarms. -/
def signal (s : Dev) (v : Fin 64) : Dev :=
  let s := s.modVector v (fun _ => ⟨false, 0, none⟩)
  if s.flag (HIF_MSIX_CTRL_MASK v) then
    s.wr (HIF_MSIX_PBA (v / 32)) (s.rd (HIF_MSIX_PBA (v / 32)) ||| BitVec.ofNat 32 (2 ^ (v.val % 32)))
  else s.emit (.msix v)

/-- R493: an entry has been written to a ring of vector `v`. -/
def vectorEntry (s : Dev) (v : Fin 64) (alert : Bool) : Dev :=
  let x := s.hif.vectors[v]
  if !x.armed then s
  else
    let s := s.modVector v (fun y => { y with count := y.count + 1, firstDt := some (y.firstDt.getD s.dt) })
    if decide (max 1 (s.get (HIF_VEC_MOD_COUNT v)) ≤ x.count + 1) || s.get (HIF_VEC_MOD_TIME v) == 0 ||
        (alert && s.flag (HIF_VEC_MOD_ALERT_NOW v))
    then s.signal v else s

/-- Whether an entry is an ALERT event. -/
def bodyAlert : EntryBody → Bool
  | .event e => e.alert
  | _ => false

/-- Bytes go to host memory. -/
def memWrite (s : Dev) (addr : Nat) (bytes : List Byte) : Dev := if bytes.isEmpty then s else s.emit (.memWrite addr bytes)

/-- R481: the result that belongs to an entry, then the entry itself at index `i` of ring `n`. -/
def entryOut (s : Dev) (n : Fin 256) (i : Nat) (x : RingEntry) : Dev :=
  let s := match x.body with
    | .completion c => s.memWrite c.resAddr c.data
    | _ => s
  s.memWrite ((s.get64 (HIF_RING_BASE_LO n)).toNat + entrySize x.body * i) (entryImage x)

/-- R480, R481: write one entry to a device-written ring and move TAIL. -/
def ringWrite (s : Dev) (n : Fin 256) (b : EntryBody) (staged : Bool) : Dev :=
  let tail := (s.get (HIF_RING_STATUS_INDEX n) + 1) % s.ringSize n
  let s := s.entryOut n (s.get (HIF_RING_STATUS_INDEX n)) ⟨b, s.hif.rings[n].phase, staged⟩
  let s := s.modRing n (fun r =>
    { r with written := r.written ++ [⟨b, r.phase, staged⟩], phase := if tail = 0 then !r.phase else r.phase })
  (s.set (HIF_RING_STATUS_INDEX n) tail).vectorEntry (s.ringVector n) (bodyAlert b)

/-- R494: the summary of staged entries. -/
def stagedSummary (s : Dev) (n : Fin 256) : Dev :=
  s.set (HIF_RING_STATUS_STAGED n) s.hif.rings[n].staged.length

/-- Stage an entry behind those already staged for the ring. -/
def stageEntry (s : Dev) (n : Fin 256) (b : EntryBody) : Dev :=
  ((s.modRing n (fun r => { r with staged := r.staged ++ [b] })).stagedSummary n).setb HIF_STATUS_STAGING true

/-- Remove the first staged INFO event. -/
def dropFirstInfo : List EntryBody → Option (List EntryBody)
  | [] => none
  | .event e :: rest => if e.alert then (dropFirstInfo rest).map (.event e :: ·) else some rest
  | b :: rest => (dropFirstInfo rest).map (b :: ·)

/-- R494: hold an event that its ring cannot take. The Bool says that HIF_STATUS.ALERT_OVF went from 0 to 1. -/
def stageEvent (s : Dev) (n : Fin 256) (e : Event) : Dev × Bool :=
  if s.hif.rings[n].staged.length < s.ringSize n - 1 then (s.stageEntry n (.event e), false)
  else
    match dropFirstInfo s.hif.rings[n].staged with
    | some l =>
      (((s.modRing n (fun r => { r with staged := l ++ [.event e] })).stagedSummary n).bump HIF_EVT_DROP, false)
    | none =>
      if !e.alert then (s.bump HIF_EVT_DROP, false)
      else if s.hif.alertStore.length < 1024 then
        (s.putHif { s.hif with alertStore := s.hif.alertStore ++ [(n.val, e)] }, false)
      else
        let first := s.get HIF_ALERT_FIRST_CNT == 0
        let s1 := (s.bump HIF_ALERT_LOST).when first (·.set HIF_ALERT_FIRST_CNT e.code.toNat)
        (s1.latch HIF_STATUS_ALERT_OVF, !s.flag HIF_STATUS_ALERT_OVF)

/-- R491: write an event to the ring its block is routed to, or hold it. -/
def deliverEvent (s : Dev) (e : Event) : Dev × Bool :=
  let b := e.code.toNat / 256
  let n : Fin 256 := Fin.ofNat 256 (s.get (HIF_EVT_ROUTE_RING b))
  if s.flag (HIF_EVT_ROUTE_EN b) && s.ringUsable n kindEvent && s.hif.rings[n].staged.isEmpty && s.ringHasRoom n
  then (s.ringWrite n (.event e) false, false)
  else s.stageEvent n e

/-! Legal time as entries carry it (R34) -/

/-- R361: what a running slew has added to legal time `x` ns after its pair was taken: one part in a hundred, until it is absorbed. -/
def slewed (s : Dev) (x : Nat) : Int :=
  match s.bil.slew with
  | some w => if w.left < 0 then -(min (w.left.natAbs * 1000000) (x / 100) : Nat) else (min (w.left.natAbs * 1000000) (x / 100) : Nat)
  | none => 0

/-- R30, R34: what the RTC has counted at the device time `t` since the pair was taken, in ns, at the rate that the last check found. -/
def rtcSpan (s : Dev) (t : Nat) : Int :=
  s.gen.rtcCount + ((t : Int) - s.gen.rtcAt) * (1000000000 + s.gen.rtcPpb) / 1000000000

/-- R34: the legal time in ns at the device time `t`, by the correspondence pair and the RTC rate. -/
def utcNs (s : Dev) (t : Nat) : Nat :=
  match s.gen.pair with
  | some (_, u) => ((u * 1000000 : Nat) + s.rtcSpan t + s.slewed (s.rtcSpan t).toNat).toNat
  | none => 0

/-- R34: the legal time in whole ms at the device time `t`. -/
def utcOf (s : Dev) (t : Nat) : Nat := s.utcNs t / 1000000

/-- R26: the first whole ms of legal time at or after the device time `t`. -/
def utcUp (s : Dev) (t : Nat) : Nat := (s.utcNs t + 999999) / 1000000

def utcNow (s : Dev) : Nat := s.utcOf s.dt

/-- Legal time is valid (R30, R34). -/
def utcValid (s : Dev) : Bool := s.flag BIL_STATUS_TIME_VALID && s.gen.pair.isSome

/-! The wayledger -/

/-- Split a payload into pieces of 16 bytes for continuation entries (R520). -/
def pieces16 : Nat → List Byte → List (List Byte)
  | 0, _ => []
  | n + 1, p => if p.isEmpty then [] else p.take 16 :: pieces16 n (p.drop 16)

/-- R520: the entries one occurrence makes: the first holds 6 bytes of payload, every further one 16. -/
def ledgerEntries (s : Dev) (source : Byte) (code : Code) (payload : List Byte) : List LdgEntry :=
  let e : LdgEntry :=
    { epoch := s.rd GEN_EPOCH, dt := s.dt, utc := s.utcNow, utcValid := s.utcValid, cont := false, source := source,
      code := code, payload := payload.take 6 }
  e :: (pieces16 payload.length (payload.drop 6)).map (fun p => { e with cont := true, payload := p })

/-- Remove the oldest staged entry that came from an INFO event. -/
def dropInfoEntry : List (Bool × LdgEntry) → Option (List (Bool × LdgEntry))
  | [] => none
  | (info, e) :: rest => if info then some rest else (dropInfoEntry rest).map ((info, e) :: ·)

/-- R521: stage one entry in the 8192 places. The Bool says that an entry was dropped. -/
def ledgerPut (s : Dev) (info : Bool) (e : LdgEntry) : Dev × Bool :=
  if s.ldg.staged.length < 8192 then
    let s := s.putLdg { s.ldg with staged := s.ldg.staged ++ [(info, e)] }
    (s.set LDG_STATUS_STAGED s.ldg.staged.length, false)
  else if info then (s.bump LDG_DROP, true)
  else
    match dropInfoEntry s.ldg.staged with
    | some l => (s.putLdg { s.ldg with staged := l ++ [(info, e)] }, false)
    | none => (s.bump LDG_DROP, true)

/-- Stage every entry of one occurrence. -/
def ledgerPutAll (s : Dev) (info : Bool) (es : List LdgEntry) : Dev × Bool :=
  es.foldl (fun (p : Dev × Bool) e => let q := p.1.ledgerPut info e; (q.1, p.2 || q.2)) (s, false)

/-- Number an event (R491) and put it on its way to the host. -/
def raiseRaw (s : Dev) (code : Code) (payload : List Byte) : Dev × Bool :=
  let e : Event :=
    { code := code, alert := isAlert code, seq := BitVec.ofNat 32 s.hif.seq, dt := s.dt, epoch := s.rd GEN_EPOCH,
      payload := payload.take 12 }
  (s.putHif { s.hif with seq := (s.hif.seq + 1) % 2 ^ 32 }).deliverEvent e

/-- R494, R503: raise an event, and HIF ALERT_OVERFLOW when it made the alert store overflow for the first time. -/
def raise (s : Dev) (code : Code) (payload : List Byte) : Dev :=
  let p := s.raiseRaw code payload
  if p.2 then (p.1.raiseRaw EV_HIF_ALERT_OVERFLOW []).1 else p.1

/-- R526: LDG_DROP has moved; ENTRIES_DROPPED is posted when it had been unchanged for 1 s. -/
def ledgerDropped (s : Dev) : Dev :=
  let due := match s.ldg.lastDrop with
    | some t => decide (t + 1000000000 ≤ s.dt)
    | none => true
  let s := s.putLdg { s.ldg with lastDrop := some s.dt }
  if due then
    ((s.raise EV_LDG_ENTRIES_DROPPED []).ledgerPutAll false (s.ledgerEntries 0x11 EV_LDG_ENTRIES_DROPPED [])).1
  else s

/-- R521: record an occurrence in the wayledger. -/
def record (s : Dev) (info : Bool) (source : Byte) (code : Code) (payload : List Byte) : Dev :=
  let p := s.ledgerPutAll info (s.ledgerEntries source code payload)
  if p.2 then p.1.ledgerDropped else p.1

/-- R521: record an occurrence under a ledger code of R526. -/
def ledger (s : Dev) (code : Code) (payload : List Byte) : Dev := s.record false 0x11 code payload

/-- R491, R521: post an event: number it, deliver or stage it, and record it when it is ALERT or its block's INFO events are
recorded. -/
def post (s : Dev) (code : Code) (payload : List Byte := []) : Dev :=
  let b := code.toNat / 256
  let s := s.raise code payload
  if isAlert code then s.record false (BitVec.ofNat 8 b) code payload
  else if (s.get LDG_CTRL_INFO_MASK).testBit b then s.record true (BitVec.ofNat 8 b) code payload
  else s

/-! Snapshots (R522) -/

def triggerCode : Trigger → Nat
  | .siteTrip => 1 | .watchdog => 2 | .brownOut => 3 | .safeHold => 4 | .hardTrip => 5 | .faultReset => 6 | .host => 7

/-- The free slot of lowest index. -/
def freeSnap (s : Dev) : Option (Fin 32) := (idx 32).find? (fun i => s.ldg.snaps[i].isNone)

/-- The slot of lowest FREEZE_NO. -/
def oldestSnap (s : Dev) : Fin 32 :=
  (idx 32).foldl (fun best i =>
    match s.ldg.snaps[i], s.ldg.snaps[best] with
    | some a, some b => if a.freezeNo < b.freezeNo then i else best
    | _, _ => best) 0

def frozenCount (s : Dev) : Nat := ((idx 32).filter (fun i => s.ldg.snaps[i].isSome)).length

/-- Put a snapshot into a slot and show it in the slot's registers (R525). -/
def putSnap (s : Dev) (i : Fin 32) (x : Snapshot) : Dev :=
  let s := s.putLdg { s.ldg with snaps := s.ldg.snaps.set i (some x) }
  let s := (s.set (LDG_SNAP_INFO_TRIGGER i) (triggerCode x.trigger)).set (LDG_SNAP_INFO_CAUSE i) x.cause.toNat
  let s := (s.set (LDG_SNAP_INFO_FREEZE_NO i) x.freezeNo).wr (LDG_SNAP_SEQ i) x.lastSeq
  let s := s.wr LDG_SNAP_FROZEN (s.rd LDG_SNAP_FROZEN ||| BitVec.ofNat 32 (2 ^ i.val))
  s.set LDG_STATUS_FROZEN s.frozenCount

/-- R522: freeze a snapshot, unless the same trigger froze one within the last 1 s. `cause` is the reset cause or 0xFF. -/
def freeze (s : Dev) (t : Trigger) (cause : Byte := 0xFF) : Dev :=
  let again := s.ldg.lastFreeze.any (fun p => p.1 == t && decide (s.dt < p.2 + 1000000000))
  if again then s
  else
    let no := s.ldg.freezeNo + 1
    let s := s.putLdg { s.ldg with
      freezeNo := no, lastFreeze := (t, s.dt) :: s.ldg.lastFreeze.filter (fun p => p.1 != t) }
    let es := s.ldg.entries.take 255
    let x : Snapshot :=
      { trigger := t, cause := cause, freezeNo := no, lastSeq := (es.head?.map (·.1)).getD 0, dt := s.dt,
        epoch := s.rd GEN_EPOCH, entries := es.reverse }
    let fin := fun (s : Dev) (i : Fin 32) =>
      (s.putSnap i x).post EV_LDG_SNAPSHOT_FROZEN (leBytes 1 i ++ leBytes 1 (triggerCode t))
    match s.freeSnap with
    | some i => fin s i
    | none => fin ((s.bump LDG_SNAP_OVERWRITTEN).post EV_LDG_SNAPSHOT_OVERWRITTEN) s.oldestSnap

/-! Completions and long operations -/

/-- R495: a staged entry that may be written: a completion waits until its SUBMIT ring runs again. -/
def mayWrite (s : Dev) (b : EntryBody) : Bool :=
  match b with
  | .completion c => s.get (HIF_RING_STATUS_STATE c.ring) != 2
  | _ => true

/-- Write or stage an entry for a COMPLETE ring (R482, R494). -/
def deliverCompletion (s : Dev) (cq : Fin 256) (c : Completion) : Dev :=
  if s.ringUsable cq kindComplete && s.mayWrite (.completion c) && !(s.hif.rings[cq].staged.any s.mayWrite) && s.ringHasRoom cq
  then s.ringWrite cq (.completion c) false
  else s.stageEntry cq (.completion c)

/-- HIF_STATUS.RUNNING: descriptors in execution. -/
def runningSummary (s : Dev) : Dev := s.set HIF_STATUS_RUNNING (s.hif.exec.filter (fun e => !e.waiting)).length

/-- A descriptor in execution that a source names. -/
def execIs (e : ExecDesc) (n : Nat) (tag : Word) : Bool := e.ring == n && e.tag == tag && !e.waiting

/-- The descriptor a source names. -/
def execOf (s : Dev) (n : Fin 256) (tag : Word) : Option ExecDesc := s.hif.exec.find? (fun e => execIs e n.val tag)

/-- Remove the first member that satisfies `p`. -/
def eraseFirst {α : Type} (p : α → Bool) : List α → List α
  | [] => []
  | a :: rest => if p a then rest else a :: eraseFirst p rest

/-- R490: the descriptors of the caravan running in ring `n`. -/
def caravanRest (s : Dev) (n : Fin 256) : List ExecDesc := s.hif.exec.filter (fun e => e.ring == n.val && e.inCaravan)

/-- R490: the descriptors of a caravan after a failing one complete with CARAVAN_SKIPPED. -/
def caravanSkip (s : Dev) (n cq : Fin 256) : Dev :=
  let rest := s.caravanRest n
  let s := s.putHif { s.hif with exec := s.hif.exec.filter (fun e => !(e.ring == n.val && e.inCaravan)) }
  s.forEach rest (fun e s => s.deliverCompletion cq
    { tag := e.tag, ring := n, caravanEnd := e.last, long := false, index := e.index,
      status := ST_HIF_CARAVAN_SKIPPED, result := 0, resAddr := 0, data := [] })

/-- R486, R489, R490: write the completion of one descriptor of ring `n`, and its result; one that its RES_LEN cannot take ends with BAD_ADDR
(log entry 45). After a failure every descriptor that follows it in its caravan
completes with CARAVAN_SKIPPED. -/
def finishDesc (s : Dev) (n : Fin 256) (tag : Word) (status : Code) (result : Word) (data : List Byte) (long : Bool) : Dev :=
  let cq : Fin 256 := Fin.ofNat 256 (s.get (HIF_RING_CFG_CQ n))
  let e := s.execOf n tag
  let long' := (e.map (·.resLen)).any (fun k => decide (k < data.length))
  let status := if long' then ST_HIF_BAD_ADDR else status
  let comp : Completion :=
    { tag := tag, ring := n, caravanEnd := (e.map (·.last)).getD false, long := long, index := (e.map (·.index)).getD 0,
      status := status, result := result, resAddr := (e.map (·.resAddr)).getD 0, data := if long' then [] else data }
  let s := s.putHif { s.hif with exec := eraseFirst (fun e => execIs e n.val tag) s.hif.exec }
  let s := s.deliverCompletion cq comp
  if (e.map (·.inCaravan)).getD false && status != ST_OK then s.caravanSkip n cq else s

/-- R490: the next descriptor of the caravan of ring `n` starts; one that cannot be executed completes at once. -/
def caravanNext (s : Dev) (n : Fin 256) : Dev :=
  match (s.caravanRest n).head? with
  | none => s
  | some h =>
    let s := s.putHif { s.hif with exec := s.hif.exec.map (fun (e : ExecDesc) =>
      if e.ring == n.val && e.index == h.index then { e with waiting := false } else e) }
    match h.bad with
    | some c => s.finishDesc n h.tag c 0 [] false
    | none => s

/-- R489, R490, R499: complete a descriptor. In a caravan the next descriptor starts after a success. -/
def completeWith (s : Dev) (src : Src) (status : Code) (result : Word) (data : List Byte) (long : Bool) : Dev :=
  match src with
  | .uart tag =>
    s.emit (.uartTx (uartFrameOf (completionBytes
      { tag := tag, ring := 0, caravanEnd := false, long := long, index := 0, status := status, result := result, resAddr := 0,
        data := data } false ++ data)))
  | .ring n tag =>
    let chained := ((s.execOf n tag).map (·.inCaravan)).getD false
    let s := s.finishDesc n tag status result data long
    (s.when (chained && status == ST_OK) (·.caravanNext n)).runningSummary

/-- Complete a short descriptor. -/
def complete (s : Dev) (src : Src) (status : Code) (result : Word := 0) (data : List Byte := []) : Dev :=
  s.completeWith src status result data false

def longStateCode : LongState → Nat
  | .queued => 1 | .running => 2 | .partialReady => 3 | .done => 4 | .failed => 5 | .refused => 6

def srcTag : Src → Word
  | .ring _ t => t
  | .uart t => t

/-- R495, R496: write the status word of a long operation, where there is one and host memory can be written. -/
def statusOut (s : Dev) (addr : Nat) (st : LongState) (progress : Nat) (result : Code) : Dev :=
  s.when (s.flag HIF_STATUS_LINK_UP && addr != 0) (·.memWrite addr (statusImage (longStateCode st) progress result))

/-- R496: HIF LONG_DONE. -/
def postLongDone (s : Dev) (src : Src) (op : Code) (result : Code) : Dev :=
  s.post EV_HIF_LONG_DONE (leBytes 4 (srcTag src).toNat ++ leBytes 2 op.toNat ++ leBytes 2 result.toNat)

/-- R496: the checks every long operation passes first. -/
def longCheck (s : Dev) (l : LongSrc) : Option Code :=
  match l.src with
  | .uart _ => none
  | .ring _ _ =>
    if l.statusAddr = 0 then some ST_BAD_PARAM
    else if 16 ≤ s.hif.long.length then some ST_HIF_LONG_LIMIT
    else none

/-- R496: a long operation refused at the start. -/
def longRefuse (s : Dev) (l : LongSrc) (op : Code) (code : Code) : Dev :=
  ((s.complete l.src code).statusOut l.statusAddr .refused 0 code).postLongDone l.src op code

/-- R496: a long operation accepted, queued or running. -/
def longAccept (s : Dev) (l : LongSrc) (op : Code) (queued : Bool) : Dev :=
  let st : LongState := if queued then .queued else .running
  let o : LongOp :=
    { src := l.src, opcode := op, statusAddr := l.statusAddr, state := st, progress := 0, result := ST_OK, valid := 0, resAddr := l.resAddr,
      resLen := l.resLen, data := [] }
  let s := s.putHif { s.hif with long := s.hif.long ++ [o] }
  (s.completeWith l.src ST_OK 0 [] true).statusOut l.statusAddr st 0 ST_OK

/-- The open long operation of a source. -/
def longOf (s : Dev) (src : Src) : Option LongOp := s.hif.long.find? (fun o => o.src == src)

/-- R496: a long operation ends; its status word is written for the last time and LONG_DONE is posted. -/
def longEnd (s : Dev) (src : Src) (st : LongState) (result : Code) : Dev :=
  match s.longOf src with
  | none => s
  | some o =>
    let s := s.putHif { s.hif with long := eraseFirst (fun o => o.src == src) s.hif.long }
    (s.statusOut o.statusAddr st (if st = .done && result = ST_OK then 1000 else o.progress) result).postLongDone src o.opcode result

/-- R495, R497: write new data behind the data of a result buffer, then VALID and the four zeros, while host memory can be written. -/
def resultOut (s : Dev) (o : LongOp) (valid : Nat) (data : List Byte) : Dev :=
  s.when (s.flag HIF_STATUS_LINK_UP) (fun s => (s.memWrite (o.resAddr + 8 + o.data.length) data).memWrite o.resAddr (leBytes 4 valid ++ leBytes 4 0))

/-- R497: a running long operation writes more of its result: the data, then VALID, then a status word of state 3. When the data would
overrun the buffer it fails once the buffer is full. -/
def longPartial (s : Dev) (src : Src) (units : Nat) (data : List Byte) (progress : Nat) : Dev :=
  match s.longOf src with
  | none => s
  | some o =>
    if o.resLen < 8 + o.data.length + data.length then
      let room := o.resLen - (8 + o.data.length)
      let s := s.when (8 ≤ o.resLen) (·.resultOut o (o.valid + room * units / data.length) (data.take room))
      s.longEnd src .failed ST_HIF_BAD_ADDR
    else
      let s := s.putHif { s.hif with long := s.hif.long.map (fun (x : LongOp) =>
        if x.src == src then
          { x with
            state := .partialReady
            valid := x.valid + units
            data := x.data ++ data
            progress := max x.progress progress }
        else x) }
      (s.resultOut o (o.valid + units) data).statusOut o.statusAddr .partialReady (max o.progress progress) ST_OK

/-- A long operation that is accepted and ends at once with its whole result. -/
def longWhole (s : Dev) (l : LongSrc) (op : Code) (units : Nat) (data : List Byte) (ok : Bool) (code : Code) : Dev :=
  match s.longCheck l with
  | some c => s.longRefuse l op c
  | none =>
    let s := s.longAccept l op false
    let s := if data.isEmpty then s else s.longPartial l.src units data 1000
    s.longEnd l.src (if ok then .done else .failed) code

/-! Rejected and refused register writes -/

/-- Answer a register write inside the device with a status code (R488). -/
def answer (s : Dev) (c : Code) : Dev := s.emit (.writeStatus c)

/-- A rejected write: counted in the block's counter and answered with `c`. -/
def reject (s : Dev) (cnt : Field) (c : Code) : Dev := (s.incSat cnt).answer c

/-! Who is served when (R477, R499, R513) -/

/-- The device has come to host-ready and is not in HIBERNATE (R507, R519). -/
def live (s : Dev) : Bool := s.gen.phase == .running

/-- Firmware runs (R513). -/
def serving (s : Dev) : Bool := s.live && !s.flag GEN_LIFECYCLE_CAUSE_FW

/-- R513: the blocks whose registers read and write in FW_BAD. -/
def blockServed (s : Dev) (b : Nat) : Bool := !s.flag GEN_LIFECYCLE_CAUSE_FW || b ∈ [0x00, 0x01, 0x10, 0x11]

/-- R515: a test of this code runs now, with these first parameter bytes. -/
def testRuns (s : Dev) (code : Nat) (params : List Byte := []) : Bool :=
  s.gen.tests.any (fun t => t.running && t.code == code && t.params.take params.length == params)

/-- A descriptor that came over the service UART. -/
def overUart : Src → Bool
  | .uart _ => true
  | .ring _ _ => false

end Dev

namespace State

/-- A function of the device that works from host-ready on, with or without firmware. -/
def onLive (s : State) (f : Dev → Dev) : Host.Outcome State Fault Refusal := s.onDev (fun d => if d.live then f d else d)

/-- R438: a function of the power die: it runs through every reset while VAUX feeds it. -/
def onPower (s : State) (f : Dev → Dev) : Host.Outcome State Fault Refusal :=
  s.onDev (fun d => if d.gen.phase == .off || d.get LSW_STATUS_SUPPLY == 3 then d else f d)

/-- A function of the device that needs its firmware (R513). -/
def onRun (s : State) (f : Dev → Dev) : Host.Outcome State Fault Refusal := s.onDev (fun d => if d.serving then f d else d)

/-- A host write to a register of block `b`: before host-ready it ends as Unsupported Request (R477); in FW_BAD a block that is not served
takes none (R513). -/
def onReg (s : State) (b : Nat) (f : Dev → Dev) : Host.Outcome State Fault Refusal :=
  s.onDev (fun d => if !d.live then d.emit .unsupported else if d.blockServed b then f d else d)

/-- A descriptor. `uart` and `fw`: its opcode is served over the service UART (R499), and in FW_BAD (R513). -/
def onHost (s : State) (src : Src) (uart fw : Bool) (f : Dev → Dev) : Host.Outcome State Fault Refusal :=
  s.onLive (fun d =>
    if (!uart && Dev.overUart src) || (!fw && d.flag GEN_LIFECYCLE_CAUSE_FW) then d.complete src ST_HIF_NOT_IN_CHANNEL else f d)

end State

end Sys2Proof.Machine
end

