-- ==== Sys2Proof/Machine/Float.lean ====
section
/-! DEFINITION. IEEE 754 binary32, the number format of the control law engine and of the registers that hold real values:
exact results rounded to the nearest value, ties to even, one rounding per operation. -/

namespace Sys2Proof.Machine

/-- A binary32 value as its word. -/
abbrev F32 := Word

namespace F32

def neg (w : F32) : Bool := 2 ^ 31 ≤ w.toNat
def expo (w : F32) : Nat := w.toNat / 2 ^ 23 % 256
def frac (w : F32) : Nat := w.toNat % 2 ^ 23

/-- Neither NaN nor infinite. -/
def finite (w : F32) : Bool := F32.expo w != 255
def isNaN (w : F32) : Bool := F32.expo w == 255 && F32.frac w != 0
def isInf (w : F32) : Bool := F32.expo w == 255 && F32.frac w == 0

def nan : F32 := 0x7FC00000#32
def inf (n : Bool) : F32 := if n then 0xFF800000#32 else 0x7F800000#32
def zero (n : Bool) : F32 := if n then 0x80000000#32 else 0#32

/-- A finite value in units of 2^−149: every finite value is a whole number of them. -/
def units (w : F32) : Int :=
  let m : Nat := if F32.expo w = 0 then F32.frac w else (2 ^ 23 + F32.frac w) * 2 ^ (F32.expo w - 1)
  if neg w then -(m : Int) else m

/-- One is `2^149` units. -/
def one : Nat := 2 ^ 149

/-- The integer nearest to `num / den`, halves to even. -/
def roundEven (num den : Nat) : Nat :=
  let n := num / den
  let r := num % den
  if 2 * r < den then n else if den < 2 * r then n + 1 else if n % 2 = 0 then n else n + 1

/-- The binary32 value nearest to the magnitude `num / den` units, with the sign given. -/
def ofUnits (n : Bool) (num den : Nat) : F32 :=
  if num = 0 then zero n
  else
    -- the exponent of the value: 2^k ≤ num / den < 2^(k+1), in units; below 2^24 units the spacing is 1 unit
    let q := num / den
    let k := if q = 0 then 0 else Nat.log2 q
    let sh := k - 23
    let m := roundEven num (den * 2 ^ sh)
    let bits := m + sh * 2 ^ 23
    let bits := if 255 * 2 ^ 23 ≤ bits then 255 * 2 ^ 23 else bits
    BitVec.ofNat 32 (bits + n.toNat * 2 ^ 31)

/-- The binary32 value nearest to the fraction `num / den`. -/
def ofFrac (num : Int) (den : Nat) : F32 := ofUnits (decide (num < 0)) (num.natAbs * one) den

/-- The binary32 value nearest to a number. -/
def ofInt (x : Int) : F32 := ofFrac x 1

def opp (a : F32) : F32 := a ^^^ 0x80000000#32
def abs (a : F32) : F32 := a &&& 0x7FFFFFFF#32

def add (a b : F32) : F32 :=
  if F32.isNaN a || F32.isNaN b then nan
  else if F32.isInf a then (if F32.isInf b && F32.neg a != F32.neg b then nan else a)
  else if F32.isInf b then b
  else
    let r := F32.units a + F32.units b
    if r = 0 then zero (F32.neg a && F32.neg b) else ofUnits (decide (r < 0)) r.natAbs 1

def sub (a b : F32) : F32 := if F32.isNaN b then nan else add a (opp b)

def mul (a b : F32) : F32 :=
  let n := F32.neg a != F32.neg b
  if F32.isNaN a || F32.isNaN b then nan
  else if F32.isInf a || F32.isInf b then
    (if (F32.finite a && F32.units a = 0) || (F32.finite b && F32.units b = 0) then nan else inf n)
  else ofUnits n ((F32.units a).natAbs * (F32.units b).natAbs) one

def div (a b : F32) : F32 :=
  let n := F32.neg a != F32.neg b
  if F32.isNaN a || F32.isNaN b then nan
  else if F32.isInf a then (if F32.isInf b then nan else inf n)
  else if F32.isInf b then zero n
  else if F32.units b = 0 then (if F32.units a = 0 then nan else inf n)
  else ofUnits n ((F32.units a).natAbs * one) (F32.units b).natAbs

/-- Order of two values, false when either is NaN. -/
def lt (a b : F32) : Bool :=
  if F32.isNaN a || F32.isNaN b then false
  else if F32.isInf a then F32.neg a && !(F32.isInf b && F32.neg b)
  else if F32.isInf b then !F32.neg b
  else decide (F32.units a < F32.units b)

def min2 (a b : F32) : F32 := if lt b a then b else a
def max2 (a b : F32) : F32 := if lt a b then b else a

/-- The rational number a finite value stands for. -/
def toRat (w : F32) : Rat := mkRat (units w) one

/-- The binary32 value nearest to a rational number. -/
def ofRat (x : Rat) : F32 := ofFrac x.num x.den

/-- `min(max(x, lo), hi)`. -/
def clamp (lo hi x : F32) : F32 := min2 (max2 x lo) hi

/-- R542: a reading of AIN0 to AIN7 in V: a land driven outside 0 to 10 V reads 0 V or 10 V. -/
def ain (x : F32) : F32 := clamp (zero false) (ofInt 10) x

/-- R544: a pulse rate of PIN0 to PIN3 in Hz: a rate below 0.1 Hz reads 0 Hz. -/
def pinRate (x : F32) : F32 := if lt x (ofFrac 1 10) then zero false else x

end F32

end Sys2Proof.Machine
end

