-- ==== Sys2Proof/Machine/Nodes.lean ====
section
/-! DEFINITION. The node table as every block reads it (R84, R216, R230), and node telemetry
(R206, R207). -/

namespace Sys2Proof.Machine

/-- R230: node table states. -/
def ndFree : Nat := 0
def ndPending : Nat := 1
def ndPresent : Nat := 2
def ndLost : Nat := 3
def ndRefused : Nat := 4

/-- R185: piste states. -/
def phDown : Nat := 0
def phTrain : Nat := 1
def phAdapt : Nat := 2
def phVerify : Nat := 3
def phUp : Nat := 4
def phRelock : Nat := 5
def phFailed : Nat := 6
def phTest : Nat := 7

namespace Dev

def modSeen (s : Dev) (i : Fin 128) (f : NodeSeen → NodeSeen) : Dev :=
  s.putPst { s.pst with seen := vupd s.pst.seen i f }

def modNode (s : Dev) (i : Fin 128) (f : Node → Node) : Dev :=
  s.putPst { s.pst with nodes := vupd s.pst.nodes i f }

def modTime (s : Dev) (p : Fin 8) (f : PisteTime → PisteTime) : Dev :=
  s.putPst { s.pst with time := vupd s.pst.time p f }

def modPhy (s : Dev) (p : Fin 8) (f : Phy → Phy) : Dev :=
  s.putPst { s.pst with phy := vupd s.pst.phy p f }

/-- The 64-bit ID of a node table entry. -/
def nodeId (s : Dev) (i : Nat) : Id64 := s.get64 (PST_NODE_ID_LO i)

def nodeState (s : Dev) (i : Nat) : Nat := s.get (PST_NODE_INFO_STATE i)

def nodePresent (s : Dev) (i : Nat) : Bool := s.nodeState i == ndPresent

/-- R84: the present node with an ID and a class (0: any class). -/
def nodeById (s : Dev) (id : Id64) (cls : Nat) : Option (Fin 128) :=
  (idx 128).find? (fun i => s.nodePresent i && s.nodeId i == id && (cls == 0 || s.get (PST_NODE_INFO_CLASS i) == cls))

/-- R183: the pair of piste `p` is twinned. -/
def twinned (s : Dev) (p : Nat) : Bool := (s.get PST_TWIN_EN).testBit (p / 2)

/-- The partner of a member. -/
def partner (p : Nat) : Nat := if p % 2 = 0 then p + 1 else p - 1

/-- The piste whose table entries a piste's nodes are listed under: the even member of a pair (R230). -/
def homePiste (s : Dev) (p : Nat) : Nat := if s.twinned p then p / 2 * 2 else p

/-- The entry of the node that took hop `hop` on piste `p`, PENDING, PRESENT or REFUSED; the one that answered last. -/
def nodeAt (s : Dev) (p hop : Nat) : Option (Fin 128) :=
  let l := (idx 128).filter (fun (i : Fin 128) =>
    let st := s.nodeState i
    (st == ndPresent || st == ndPending || st == ndRefused) && s.get (PST_NODE_INFO_PISTE i) == s.homePiste p &&
      (if s.twinned p && p % 2 == 1 then s.get (PST_NODE_INFO_HOP2 i) == hop else s.get (PST_NODE_INFO_HOP i) == hop))
  (l.find? (fun (i : Fin 128) => s.get (PST_NODE_AGE_AGE i) == 0)).orElse (fun _ => l.head?)

def pisteState (s : Dev) (p : Nat) : Nat := s.get (PST_PHY_STATE_STATE p)

/-- R207: the last value of channel `c` of a node's telemetry, with the DT of its sample; none where the node has sent none. -/
def teleOf (s : Dev) (i : Fin 128) (c : Nat) : Option (F32 × Nat) :=
  let h := if c < 8 then s.pst.seen[i].lo else s.pst.seen[i].hi
  (h.ch[c % 8]?).join

/-- R44, R120: the voted or held U and I of an outlet, in 2^−32 V and A. -/
def measOf (s : Dev) (n : Nat) : Option (Int × Int) := (s.tri.outs.toList[n]?).bind (·.value)

end Dev

end Sys2Proof.Machine
end

