-- ==== Sys2Proof/Machine/PisteTx.lean ====
section
/-! DEFINITION. The transmitters of the pistes: path delays (R219), the runs and their order (R198, R202, R204), frames handed to them (R201,
R205, R211, R212), and MARKs (R213). -/

namespace Sys2Proof.Machine

/-- 1 ns in 2^−16 ns. -/
def nsFx : Nat := 65536

namespace Dev

/-! Links and path delays (R219) -/

/-- On the odd member of a twinned pair. -/
def oddMember (s : Dev) (p : Nat) : Bool := s.twinned p && p % 2 == 1

def cenNodes (s : Dev) (p : Nat) : Nat := s.get (PST_CEN_STATUS_NODES p)

/-- The delay of the link into hop `k` of piste `p` (hop n + 1 is the device); none while it is unmeasured. -/
def linkInto (s : Dev) (p : Fin 8) (k : Nat) : Option Nat :=
  if k = 1 then s.pst.time[p].link1
  else
    match s.nodeAt p (k - 1) with
    | some i =>
      let d := if s.oddMember p then s.pst.seen[i].linkDn2 else s.pst.seen[i].linkDn
      if d = 0 then none else some d
    | none => none

/-- RESID of the node at hop `k`. -/
def residAt (s : Dev) (p : Nat) (k : Nat) : Nat :=
  match s.nodeAt p k with
  | some i => if s.oddMember p then s.pst.seen[i].resid2 else s.pst.seen[i].resid
  | none => 0

/-- The unmeasured links of a piste, by the hop they lead to. -/
def missingLinks (s : Dev) (p : Fin 8) : List Nat :=
  ((List.range (s.cenNodes p + 1)).map (· + 1)).filter (fun k => (s.linkInto p k).isNone)

def sumOf (l : List Nat) : Nat := l.foldl (· + ·) 0

/-- The forwarding delays of hops 1 to `k`. -/
def residSum (s : Dev) (p : Nat) (k : Nat) : Nat := sumOf ((List.range k).map (fun j => s.residAt p (j + 1)))

/-- The measured links into hops 1 to `k`. -/
def linkSum (s : Dev) (p : Fin 8) (k : Nat) : Nat := sumOf ((List.range k).map (fun j => (s.linkInto p (j + 1)).getD 0))

/-- R219: e for a ring latency `lat`. -/
def ringError (s : Dev) (p : Fin 8) (lat : Nat) : Int :=
  let n := s.cenNodes p
  (lat : Int) - ((s.linkSum p (n + 1) + s.residSum p n : Nat) : Int)

/-- R219: PATH_DELAY of hop `k`, from the L and scale that stand. -/
def pathDelay (s : Dev) (p : Fin 8) (k : Nat) : Nat :=
  let t := s.pst.time[p]
  let fill : Int := match s.missingLinks p with
    | [j] => if j ≤ k then s.ringError p t.lat else 0
    | _ => 0
  let links : Int := (s.linkSum p k : Int) + fill
  (t.scaleNum * links / (t.scaleDen : Int) + (s.residSum p (k - 1) : Int)).toNat

/-- R219: whether hop `k` of piste `p` gets VALID = 1. -/
def pathValid (s : Dev) (p : Fin 8) (k : Nat) : Bool :=
  let m := s.missingLinks p
  !s.flag (PST_CEN_TIME_MISMATCH p) && (decide (m.length ≤ 1) || m.all (fun j => decide (k < j)))

/-! Runs (R198, R202, R204). A block lasts 165 / 32 ns. -/

def modTx (s : Dev) (p : Fin 8) (f : PisteTx → PisteTx) : Dev := s.putPst { s.pst with tx := vupd s.pst.tx p f }

/-- R175: when block `k` begins, in 1/32 ns. -/
def blockTime (x : PisteTx) (k : Nat) : Nat := x.base + 165 * k

/-- The first block that begins at or after a DT. -/
def blockAt (x : PisteTx) (dt : Nat) : Nat := (32 * dt - x.base + 164) / 165

/-- R185: the transmitter leaves electrical idle: its blocks begin within one block of now (free). -/
def txBegin (s : Dev) (p : Fin 8) : Dev :=
  let f := s.fresh
  f.2.modTx p (fun x =>
    { x with
      base := 32 * s.dt + Config.freeNat f.1 % 165
      next := 0
      queue := []
      outbox := []
      owed := Vector.replicate 17 0 })

/-- R185: no run leaves in a state other than UP and RELOCK: what waits is dropped. -/
def txDrop (s : Dev) (p : Fin 8) : Dev :=
  s.modTx p (fun x =>
    { x with
      next := blockAt x s.dt
      queue := []
      outbox := []
      owed := Vector.replicate 17 0 })

/-- R202, R215: the hops that get runs beside census runs: those whose node is present. -/
def runHops (s : Dev) (p : Fin 8) : List Nat :=
  ((List.range (s.cenNodes p)).map (· + 1)).filter (fun k => (s.nodeAt p k).any (fun i => s.nodePresent i))

/-- R202: a run of `m` blocks of hop `h`: every hop's share grows by 128 blocks in 2048, and the owner has had its own. No more than one window of
2048 blocks is carried over. -/
def spend (x : PisteTx) (hops : List Nat) (h m : Nat) : PisteTx :=
  { x with
    next := x.next + m
    owed := Vector.ofFn (fun (k : Fin 17) =>
      let due : Int := x.owed[k] + (if hops.contains k.val then (m : Int) else 0) - (if k.val = h then 16 * (m : Int) else 0)
      max (-2048) (min 2048 due)) }

/-- R202: the hop that the next run with nothing waiting goes to: the one owed most of its share, the lower of equals, and once every share has been
given the hops in rotation. -/
def nextHop (x : PisteTx) (hops : List Nat) : Option Nat :=
  let due := fun (k : Nat) => x.owed[k % 17]'(Nat.mod_lt _ (by decide))
  match hops with
  | [] => none
  | h :: rest =>
    let best := rest.foldl (fun a k => if due a < due k then k else a) h
    if 0 < due best then some best else some ((hops.find? (fun k => decide (x.turn < k))).getD h)

/-- R204: which of two waiting runs starts first: the one with the earlier latest start, of equals the lower hop; census runs follow. -/
def runBefore (a b : TxRun) : Bool :=
  match a.latest, b.latest with
  | some t, some u => decide (t < u) || (t == u && decide (a.hop ≤ b.hop))
  | some _, none => true
  | none, some _ => false
  | none, none => true

/-- R204, R231: an EDGE run starts after its latest start. -/
def countLate (s : Dev) : Dev :=
  let due := s.edg.lastLate.all (fun t => decide (t + sec 1 ≤ s.dt))
  let s := (s.bump PST_EDGE_LATE).putEdg { s.edg with lastLate := some s.dt }
  s.when due (·.post EV_PST_EDGE_LATE)

/-- R175, R198: a run goes out at block `k`, scrambled. A run without a frame is only OWN and IDLE (log entry 30). -/
def sendRun (s : Dev) (p : Fin 8) (x : PisteTx) (r : TxRun) : Dev :=
  let t := blockTime x x.next
  let s := s.when (r.latest.any (fun l => decide (l < t))) (·.countLate)
  if r.frames.isEmpty then s
  else
    let f := s.fresh
    f.2.emit (.run p t r.hop r.n (scramble (Config.scrambler f.1) (runBlocks r.hop r.n false r.frames)))

/-- R202, R204: the run that starts next: the first that waits, else one of 34 blocks with the frames that wait for its hop. -/
def nextRun (s : Dev) (p : Fin 8) (x : PisteTx) : Option (TxRun × PisteTx) :=
  match x.queue with
  | r :: rest => some (r, { x with queue := rest })
  | [] =>
    (nextHop x (s.runHops p)).map (fun h =>
      let q := takeFit 33 ((x.outbox.filter (fun e => e.1 == h)).map (·.2))
      (⟨h, 33, none, q.1⟩, { x with outbox := x.outbox.filter (fun e => e.1 != h) ++ q.2.map (fun f => (h, f)), turn := h }))

/-- R202, R204: every run that starts before now has started, one after the other. While nothing waits, what lies more than 2048 blocks back is
passed over (log entry 30). -/
def startRuns (p : Fin 8) : Nat → Dev → Dev
  | 0, s => s
  | fuel + 1, s =>
    let x := s.pst.tx[p]
    let x := if x.queue.isEmpty && x.outbox.isEmpty then { x with next := max x.next (blockAt x s.dt - 2048) } else x
    if 32 * s.dt ≤ blockTime x x.next then s.modTx p (fun _ => x)
    else
      match s.nextRun p x with
      | none => s.modTx p (fun _ => { x with next := blockAt x s.dt })
      | some (r, y) => startRuns p fuel ((s.modTx p (fun _ => spend y (s.runHops p) r.hop (r.n + 1))).sendRun p x r)

/-- R185: the piste carries runs. -/
def carriesRuns (s : Dev) (p : Fin 8) : Bool := s.pisteState p == phUp || s.pisteState p == phRelock

/-- The runs that start before now (log entry 30). -/
def advanceTx (s : Dev) (p : Fin 8) : Dev :=
  if s.carriesRuns p then startRuns p (blockAt s.pst.tx[p] s.dt + 1 - s.pst.tx[p].next) s else s

/-- R204: a run waits for its start. -/
def queueRun (s : Dev) (p : Fin 8) (r : TxRun) : Dev :=
  if s.carriesRuns p then
    (s.advanceTx p).modTx p (fun x => { x with queue := insertBy (fun a b => !runBefore b a) r x.queue })
  else s

/-- R202: a frame waits for a run of its hop. -/
def queueFrame (s : Dev) (p : Fin 8) (hop : Nat) (f : TxFrame) : Dev :=
  if s.carriesRuns p then (s.advanceTx p).modTx p (fun x => { x with outbox := x.outbox ++ [(hop, f)] }) else s

/-- R225: where a node is served: its piste and hop, on both members of a pair. -/
def nodePlaces (s : Dev) (i : Nat) : List (Fin 8 × Nat) :=
  let p := s.get (PST_NODE_INFO_PISTE i)
  ((Fin.ofNat 8 p, s.get (PST_NODE_INFO_HOP i)) ::
    (if s.twinned p then [(Fin.ofNat 8 (p + 1), s.get (PST_NODE_INFO_HOP2 i))] else [])).filter (fun q => q.2 != 0)

/-! Frames -/

/-- R201: the SEQ of the next frame of a TYPE, counted. -/
def nextSeq (s : Dev) (type : Fin 8) : Nat × Dev :=
  (s.pst.seqs[type], (s.putPst { s.pst with seqs := vupd s.pst.seqs type (fun n => (n + 1) % 65536) }))

/-- R211, R225: a frame of TYPE `type` to a node, on both members of a pair with the same SEQ. -/
def sendFrame (s : Dev) (i type seq : Nat) (d : List Byte) : Dev :=
  s.forEach (s.nodePlaces i) (fun (q : Fin 8 × Nat) s => s.queueFrame q.1 q.2 ⟨type, seq, 0, d⟩)

/-- R204, R205: an EDGE frame for boundary `b` goes to node `i` in runs of their own with N = 10. The latest start is the boundary less the path
delay, less 50 ns, less the 11 blocks of the run. -/
def sendEdgeRuns (s : Dev) (i b seq : Nat) (f : EdgeFrame) : Dev :=
  s.forEach (s.nodePlaces i) (fun (q : Fin 8 × Nat) s =>
    s.queueRun q.1 ⟨q.2, 10, some (8 * b - (s.pathDelay q.1 q.2 + 2047) / 2048 - 1600 - 1815), [⟨ftEdge, seq, 0, edgeBytes f⟩]⟩)

/-- R212: an Ethernet frame to the vehicle link of node `i`, in segments. -/
def sendEthernet (s : Dev) (i : Nat) (d : List Byte) : Dev :=
  if d.isEmpty || 1518 < d.length then s
  else
    let id := s.pst.tunId
    (s.putPst { s.pst with tunId := (id + 1) % 65536 } : Dev).forEach (tunSegments id d) (fun part s =>
      let q := s.nextSeq 7
      q.2.sendFrame i ftTun q.1 part)

/-- R211: send a CTRL request and await its response. TAGs are counted. -/
def sendCtrl (s : Dev) (node : Nat) (write : Bool) (addr count : Nat) (words : List Word) (why : CtrlWhy) : Dev :=
  let f : CtrlFrame := { write := write, tag := BitVec.ofNat 8 s.pst.tag, addr := addr, count := count, words := words }
  let r : CtrlReq := { node := node, frame := f, why := why, sentDt := s.dt, again := false }
  let q := (s.putPst { s.pst with ctrl := s.pst.ctrl ++ [r], tag := (s.pst.tag + 1) % 256 } : Dev).nextSeq 4
  (q.2.emit (.ctrl node q.1 f)).sendFrame node ftCtrl q.1 (ctrlBytes f)

end Dev

end Sys2Proof.Machine
end

