-- ==== Sys2Proof/Machine/Edge.lean ====
section
/-! DEFINITION. Edge generation (R84 to R115): legs and local outputs, commits and cut-offs, the judging of short pulses, forces,
arming, faults and slalom groups. A leg is numbered 0 to 383 for LEG0 to LEG383 and 384 + n for PWMn; the registers of PWMn follow
those of LEG383, so one register name serves both. Times are edge times: DT in units of 250 ps (R85). -/

namespace Sys2Proof

/-- The number of a leg or a local output in the model's one list. -/
def LegRef.ix : LegRef → Fin 408
  | .leg n => n.castLE (by decide)
  | .pwm n => ⟨384 + n.val, by omega⟩

namespace Machine

/-! R88: duty to edges -/

/-- The nearest edge tick to `num / den`, halves up. -/
def nearTick (num den : Nat) : Nat := (2 * num + den) / (2 * den)

/-- A finite value clamped to [0, 1], as a numerator over `F32.one`. -/
def unitNum (d : F32) : Nat := min (F32.units d).toNat F32.one

/-- R88: RISE and FALL for ALIGN, the slot values and PERIOD, with the ORDER flag. -/
def alignEdges (align : Nat) (d f : F32) (p : Nat) : Nat × Nat × Bool :=
  let x := unitNum d
  let y := unitNum f
  if align = 0 then (0, nearTick (x * p) F32.one, false)
  else if align = 1 then (nearTick ((F32.one - x) * p) (2 * F32.one), nearTick ((F32.one + x) * p) (2 * F32.one), false)
  else if align = 2 then (nearTick ((F32.one - x) * p) F32.one, p, false)
  else
    let r := nearTick (x * p) F32.one
    let e := nearTick (y * p) F32.one
    if e < r then (r, r, true) else (r, e, false)

/-! R93 to R95: the judging of one period -/

/-- What the judging of one period has found so far: the changes kept and the starts of the intervals they begin (latest
first, the last being the start of the interval open at the boundary), the level of the interval still open, and what was counted. -/
structure Judged where
  start : Bool
  changes : List Nat
  starts : List Nat
  level : Bool
  short : Nat
  skipped : Bool
  stretched : Bool
  forcedStretch : Bool
deriving DecidableEq, Repr

/-- The timing a leg's intervals are judged by. -/
structure LegTiming where
  dtr : Nat
  dtf : Nat
  minp : Nat
  comp : Bool
  stretch : Bool
deriving DecidableEq, Repr

/-- After an interval of the present level has been stretched to `e`: the changes left. A following interval with no length
disappears and its neighbours join (R94). -/
def afterStretch (e : Nat) : List Nat → Option Nat × List Nat
  | [] => (some e, [])
  | [t] => if t ≤ e then (none, []) else (some e, [t])
  | t :: u :: rest => if t ≤ e then (if u ≤ e then afterStretch e rest else (some u, rest)) else (some e, t :: u :: rest)

/-- R94: the intervals that end at the times listed, in time order. `b` is the boundary before which an interval counts as begun
earlier, `nb` the next boundary; the number bounds the changes. An interval removed with no neighbour before it in the period
gives its time to the next one. -/
def judge (tm : LegTiming) (b nb : Nat) : Nat → List Nat → Judged → Judged
  | 0, _, j => j
  | _, [], j => j
  | n + 1, t :: rest, j =>
    let since := j.starts.headD b
    let need := (if j.level then tm.dtr else tm.dtf) + tm.minp
    let keep := fun (j : Judged) (t : Nat) (rest : List Nat) =>
      judge tm b nb n rest { j with changes := t :: j.changes, starts := t :: j.starts, level := !j.level }
    if need ≤ t - since || (!tm.comp && !j.level) then keep j t rest
    else
      let j := { j with short := j.short + 1 }
      let early := decide (since < b)
      if early || (tm.stretch && decide (since + need ≤ nb)) then
        let j := if early then { j with forcedStretch := true } else { j with stretched := true }
        match afterStretch (since + need) rest with
        | (some e, rest') => if e < nb then keep j e rest' else j
        | (none, _) => j
      else
        let j := { j with skipped := true }
        match j.changes with
        | _ :: cs => judge tm b nb n rest { j with changes := cs, starts := j.starts.drop 1, level := !j.level }
        | [] => judge tm b nb n rest { j with start := !j.start, level := !j.level }

/-- R86: the changes of the command in the period from `b`, with the level that stands at the boundary. -/
def rawChanges (level : Bool) (b rise fall p : Nat) : List Nat :=
  if fall ≤ rise then (if level then [b] else [])
  else
    (if level == (rise == 0) then [] else [b]) ++ (if rise = 0 then [] else [b + rise]) ++
      (if fall < p then [b + fall] else [])

/-- R94, R107: the period from `b` to `b + p`, built from the command interval open since `since` at `level`; `shift` is the time by
which the boundary has moved later, during which the command is off. With `fresh`, after a force or an arm (R96), a change at the
boundary itself ends no interval: the one it begins is the first. -/
def buildPeriod (tm : LegTiming) (level : Bool) (since b p rise fall shift : Nat) (fresh : Bool) : Judged :=
  let ob := b - shift
  let raw := if 0 < shift then (if level then [ob] else []) ++ rawChanges false b rise fall p else rawChanges level b rise fall p
  let flip := fresh && raw.head? == some b
  judge tm ob (b + p) 8 (if flip then raw.drop 1 else raw)
    { start := if flip then !level else level, changes := [], starts := [since], level := if flip then !level else level, short := 0,
      skipped := false, stretched := false, forcedStretch := false }

/-- R205: the command as an EDGE frame carries it, from boundary `b` to `e`: the level at the boundary and the later changes as offsets. -/
def Judged.cmd (j : Judged) (b e : Nat) : LegCmd :=
  let upTo := (j.changes.filter (· ≤ b)).length
  { driven := true
    start := if upTo % 2 = 1 then !j.start else j.start
    changes := ((j.changes.filter (fun t => decide (b < t) && decide (t < e))).map (· - b)).reverse }

/-- The judged changes in time order, with the levels they lead to, from the level that stood before boundary `b`. -/
def Judged.changesFrom (j : Judged) (level : Bool) (b : Nat) : List (Nat × Bool) :=
  toggles level ((if j.start == level then [] else [b]) ++ j.changes.reverse)

namespace Dev

/-! Legs -/

def modLeg (s : Dev) (i : Fin 408) (f : LegSt → LegSt) : Dev :=
  s.putEdg { s.edg with legs := vupd s.edg.legs i f }

def leg (s : Dev) (i : Fin 408) : LegSt := s.edg.legs[i]

def armed (s : Dev) (i : Nat) : Bool := s.flag (EDG_LEG_CTL_ARMED i)
def legFaulted (s : Dev) (i : Nat) : Bool := s.flag (EDG_LEG_CTL_FAULT i)

/-- R108: a local output. -/
def isLocal (i : Nat) : Bool := decide (384 ≤ i)

/-- R108: pin n + 1 of a pair, whose registers are ignored. -/
def isSecondPin (s : Dev) (i : Nat) : Bool := isLocal i && i % 2 == 1 && s.flag (EDG_LEG_CFG_PAIR (i - 1))

/-- R108: the local output of even index whose next pin is its complement. -/
def paired (s : Dev) (i : Nat) : Bool := isLocal i && i % 2 == 0 && s.flag (EDG_LEG_CFG_PAIR i)

/-- R87, R108: whether the leg's complementary gate is used. -/
def compEn (s : Dev) (i : Nat) : Bool := s.flag (EDG_LEG_CFG_COMP_EN i) && (!isLocal i || s.paired i)

def period (s : Dev) (i : Nat) : Nat := s.get (EDG_LEG_PERIOD_PERIOD i)

/-- R87, R93: the timing of a leg; without a complementary gate the dead times are 0. -/
def legTiming (s : Dev) (i : Nat) : LegTiming :=
  let c := s.compEn i
  { dtr := if c then s.get (EDG_LEG_DEAD_DTR i) else 0
    dtf := if c then s.get (EDG_LEG_DEAD_DTF i) else 0
    minp := s.get (EDG_LEG_CFG_MINP i)
    comp := c
    stretch := s.flag (EDG_LEG_CFG_POLICY i) }

/-- R115: how a leg event names its leg. -/
def legIndex (i : Nat) : List Byte := leBytes 2 (if i < 384 then i else 0x0400 + (i - 384))

/-- The stage of a piste leg (R84). -/
def legStage (i : Nat) : Nat := i / 6

/-- R84: the node a stage is bound to. -/
def stageNode (s : Dev) (st : Nat) : Option (Fin 128) := s.nodeById (s.get64 (EDG_STG_NODE_LO st)) 1

/-! Slalom (R106, R107) -/

def slmGroup (s : Dev) (i : Nat) : Nat := s.get (EDG_LEG_CFG_SLM_GRP i)

/-- R106: the phase of a slalom member by its position. -/
def posPhase (s : Dev) (i : Nat) : Nat :=
  let g := s.slmGroup i
  let p := s.period i
  (s.get (EDG_SLM_CFG_BASE g) + nearTick (s.get (EDG_LEG_CFG_SLM_POS i) * p) (s.get (EDG_SLM_CFG_N_M1 g) + 1)) % max 1 p

/-- R85, R106, R107: the phase in force. -/
def legPhase (s : Dev) (i : Fin 408) : Nat :=
  if s.flag (EDG_LEG_CFG_SLM_EN i) then
    if s.flag (EDG_SLM_CFG_RESPREAD (s.slmGroup i)) && s.armed i then (s.leg i).slm else s.posPhase i
  else s.get (EDG_LEG_PHASE_PHASE i)

/-- The members of a slalom group. -/
def slmMembers (s : Dev) (g : Nat) : List (Fin 408) :=
  (idx 408).filter (fun (i : Fin 408) => s.flag (EDG_LEG_CFG_SLM_EN i) && s.slmGroup i == g)

/-- R107: the occupied positions, as a mask. -/
def slmOccupied (s : Dev) (g : Nat) : Nat :=
  (s.slmMembers g).foldl (fun m (i : Fin 408) =>
    if s.armed i && !s.legFaulted i then m ||| 2 ^ s.get (EDG_LEG_CFG_SLM_POS i) else m) 0

def popCount (n m : Nat) : Nat := ((List.range n).filter (fun k => m.testBit k)).length

/-- R205, R228: keep the node's LEG_PHASE equal to the leg's. -/
def sendPhase (s : Dev) (i : Fin 408) : Dev :=
  if isLocal i then s
  else
    match s.stageNode (legStage i) with
    | some n => s.sendCtrl n true (0x0011 + 4 * (i.val % 6)) 1 [BitVec.ofNat 32 (s.leg i).slm] (.leg i)
    | none => s

/-- R107: the phase of the member at a position, by the position's number among the occupied ones. -/
def numberPhase (s : Dev) (g occ : Nat) (i : Nat) : Nat :=
  let p := max 1 (s.period i)
  let number := popCount (s.get (EDG_LEG_CFG_SLM_POS i)) occ
  (s.get (EDG_SLM_CFG_BASE g) + nearTick (number * p) (max 1 (popCount 16 occ))) % p

/-- R106, R107: the phase with which a member arms. -/
def armPhase (s : Dev) (i : Nat) : Nat :=
  let g := s.slmGroup i
  if s.flag (EDG_SLM_CFG_RESPREAD g) then s.numberPhase g (s.slmOccupied g) i else s.posPhase i

/-- R107: one member takes its new phase; its next boundary moves later by the difference. A member that has taken no cut-off yet has no
boundary to move: its node gets the new phase at once, that of the others at the cut-off of the boundary that moves. -/
def respreadLeg (s : Dev) (g occ : Nat) (i : Fin 408) : Dev :=
  let p := max 1 (s.period i)
  let new := s.numberPhase g occ i
  let l := s.leg i
  if !s.armed i || l.slm = new then s
  else if l.bdry.isNone then (s.modLeg i (fun l => { l with slm := new, shift := 0 })).sendPhase i
  else s.modLeg i (fun l => { l with slm := new, shift := (l.shift + (new + p - l.slm) % p) % p })

/-- R107: the occupancy of a group has possibly changed. -/
def respread (s : Dev) (g : Nat) : Dev :=
  let occ := s.slmOccupied g
  if occ = s.get (EDG_SLM_STATUS_OCCUPIED g) then s
  else
    let s := (s.set (EDG_SLM_STATUS_OCCUPIED g) occ).set (EDG_SLM_STATUS_ACTIVE g) (popCount 16 occ)
    if s.flag (EDG_SLM_CFG_RESPREAD g) then
      (s.forEach (s.slmMembers g) (fun i s => s.respreadLeg g occ i)).post EV_EDG_SLALOM_RESPREAD
    else s

/-- After a leg's ARMED or FAULT has changed. -/
def respreadOf (s : Dev) (i : Nat) : Dev := s.when (s.flag (EDG_LEG_CFG_SLM_EN i)) (·.respread (s.slmGroup i))

/-! Outputs as commanded (R98) and the summaries -/

def allocForced (s : Dev) (i : Nat) : Bool := !isLocal i && s.flag (EDG_STG_STATUS_ALC_FORCE (legStage i))

/-- R98, R113: EDG_LEG_CTL.OUT. -/
def refreshOut (s : Dev) (i : Fin 408) : Dev :=
  let l := s.leg i
  s.set (EDG_LEG_CTL_OUT i)
    (if s.legFaulted i then 3 else if !s.armed i || s.allocForced i || !l.commanded then 0 else if l.forced ≠ 0 then 2 else 1)

/-- R114: EDG_STATUS.FAULT and the stage's LEG_FAULT. -/
def refreshFaults (s : Dev) (i : Nat) : Dev :=
  let s := if isLocal i then s else
    let st := legStage i
    s.set (EDG_STG_STATUS_LEG_FAULT st)
      ((List.range 6).foldl (fun m j => if s.legFaulted (6 * st + j) then m ||| 2 ^ j else m) 0)
  s.setb EDG_STATUS_FAULT ((idx 408).any (fun k => s.legFaulted k))

/-- ARMED of a leg, with the count of armed piste legs. -/
def setArmed (s : Dev) (i : Nat) (b : Bool) : Dev :=
  let n := s.get EDG_STATUS_ARMED_LEGS
  let s := if isLocal i || s.armed i == b then s else s.set EDG_STATUS_ARMED_LEGS (if b then n + 1 else n - 1)
  s.setb (EDG_LEG_CTL_ARMED i) b

/-- R228: LEG_CFG as the device writes it. -/
def nodeLegCfg (s : Dev) (i : Nat) (arm : Bool) : Word := BitVec.ofNat 32 (2 * arm.toNat + (s.compEn i).toNat)

/-- R228: write ARMED = 0 at the node of a piste leg. -/
def sendUnarm (s : Dev) (i : Fin 408) : Dev :=
  if isLocal i then s
  else
    match s.stageNode (legStage i) with
    | some n => s.sendCtrl n true (0x0013 + 4 * (i.val % 6)) 1 [s.nodeLegCfg i false] (.leg i)
    | none => s

/-! Faults and disarms -/

/-- R113: fault causes. -/
def fcNode : Nat := 1
def fcSibling : Nat := 2
def fcStale : Nat := 3
def fcLead : Nat := 4
def fcLocalFlt : Nat := 5
def fcNodeLost : Nat := 6

/-- R91, R101: the causes that force a leg's gates off at its next boundary; with the others the gates are tri-stated already. -/
def faultLater (cause : Nat) : Bool := cause == fcSibling || cause == fcLead

/-- R101, R46: mark a leg faulted: ARMED clears, dispatch stops, the stage becomes unavailable to the allocator. -/
def faultLeg (s : Dev) (i : Fin 408) (cause : Nat) : Dev :=
  let s := (s.setArmed i false).setb (EDG_LEG_CTL_FAULT i) true
  let s := (s.set (EDG_LEG_CTL_FAULT_CAUSE i) cause).modLeg i (fun l =>
    { l with
      out := if faultLater cause then l.out else .floating
      gates := if faultLater cause then l.gates else .idle
      commanded := false
      pend := none })
  let s := (s.refreshOut i).refreshFaults i
  let s := if isLocal i then s else
    s.putAlc { s.alc with stageSince := s.alc.stageSince.set (legStage i % 64) none (Nat.mod_lt _ (by decide)) }
  let s := s.when (cause ≠ fcNodeLost) (·.sendUnarm i)
  (s.post EV_EDG_LEG_FAULT (legIndex i ++ leBytes 1 cause)).respreadOf i

/-- R100, R105: disarm a leg without a fault; the gates go off from the next boundary. -/
def disarmLeg (s : Dev) (i : Fin 408) : Dev :=
  if s.armed i then
    let s := ((s.setArmed i false).modLeg i (fun l => { l with commanded := false, pend := none })).refreshOut i
    ((s.sendUnarm i).post EV_EDG_LEG_DISARMED (legIndex i)).respreadOf i
  else s

/-! Arming (R99, R100) -/

/-- R204: the EDGE runs of a stage: the sum over its distinct pairs of PERIOD and PHASE of 56.7 ns ÷ PERIOD is at most 0.055.
In edge ticks: the sum of 226800 ÷ PERIOD is at most 55. -/
def edgeBound (pairs : List (Nat × Nat)) : Bool :=
  let r := pairs.eraseDups.foldl (fun (a : Nat × Nat) q => (a.1 * q.1 + 226800 * a.2, a.2 * q.1)) (0, 1)
  decide (r.1 ≤ 55 * r.2)

/-- R99 condition 5. -/
def armTimingOk (s : Dev) (i : Fin 408) : Bool :=
  let p := s.period i
  let c := s.compEn i
  let dtr := s.get (EDG_LEG_DEAD_DTR i)
  let dtf := s.get (EDG_LEG_DEAD_DTF i)
  let minp := s.get (EDG_LEG_CFG_MINP i)
  let st := legStage i
  let pairs := (idx 408).filterMap (fun (k : Fin 408) =>
    if legStage k == st && !isLocal k && (s.armed k || k == i) then some (s.period k, s.legPhase k) else none)
  decide (20000 ≤ p) && decide (p ≤ 40000000) && decide (s.legPhase i < p) && decide (200 ≤ minp) && decide (minp ≤ 8000) &&
    decide (dtr ≤ 16000) && decide (dtf ≤ 16000) && decide ((if c then dtr + dtf else 0) + 2 * minp ≤ p) &&
    (isLocal i || edgeBound pairs)

/-- R99 condition 6, and R108's limits on local outputs, for which the spec names no code: they are refused with condition 6's. -/
def armSlalomOk (s : Dev) (i : Fin 408) : Bool :=
  let cgrp := s.get (EDG_LEG_CFG_CGRP i)
  let slm := s.flag (EDG_LEG_CFG_SLM_EN i)
  let g := s.slmGroup i
  (cgrp != 2 || slm) && (!isLocal i || cgrp == 1) &&
    (!slm || (s.flag (EDG_SLM_CFG_EN g) && decide (s.get (EDG_LEG_CFG_SLM_POS i) < s.get (EDG_SLM_CFG_N_M1 g) + 1) &&
      decide (s.get (EDG_SLM_CFG_BASE g) < s.period i) &&
      (s.slmMembers g).all (fun k => !s.armed k || (s.period k == s.period i && isLocal k == isLocal i))))

/-- R109: a fault input at its active level. -/
def fltActive (s : Dev) (pins : BitVec 4) (k : Fin 4) : Bool := pins.getLsbD k == s.flag (EDG_FLT_POL k)

/-- R109: the mask of a fault input covers a local output. -/
def fltCovers (s : Dev) (k : Nat) (i : Nat) : Bool :=
  let n := i - 384
  (s.get (EDG_FLT_MASK k)).testBit n || (s.paired i && (s.get (EDG_FLT_MASK k)).testBit (n + 1))

/-- R99 condition 7. `fltMask` is what the read of the node's LEG_CFG returned (none: it failed), `pins` the levels of FLT0 to FLT3. -/
def armFaultOk (s : Dev) (i : Fin 408) (fltMask : Option (BitVec 6)) (pins : BitVec 4) : Bool :=
  if isLocal i then
    (idx 4).all (fun k => !(s.flag (EDG_FLT_EN k) && s.fltCovers k i && s.fltActive pins k))
  else
    match fltMask, s.stageNode (legStage i) with
    | some m, some n => m == 0#6 || !s.pst.seen[n].faultIn
    | _, _ => false

/-- R91, R225: the piste of a stage, or a member of its pair, is capped. -/
def stageCapped (s : Dev) (st : Nat) : Bool :=
  let p := s.get (EDG_STG_STATUS_PISTE st)
  s.flag (EDG_LEAD_CAPPED p) || (s.twinned p && s.flag (EDG_LEAD_CAPPED (partner p)))

/-- R99, R517: the first of conditions 1 to 6 that fails. -/
def armCheck6 (s : Dev) (i : Fin 408) : Option Code :=
  let st := legStage i
  let piste := !isLocal i
  if !s.flag EDG_CTRL_EN || s.flag GEN_LIFECYCLE_SAFE_HOLD || s.get GEN_PWR_STATE != 0 || (piste && !s.flag (EDG_STG_CFG_EN st)) then some ST_EDG_ARM_DISABLED
  else if piste && s.get (ALC_STAGE_MAP_ROLE st) == 0 then some ST_EDG_ARM_ROLE
  else if piste && !s.flag (EDG_STG_STATUS_BOUND st) then some ST_EDG_ARM_NODE
  else if piste && s.stageCapped st then some ST_EDG_ARM_LEAD
  else if !s.armTimingOk i then some ST_EDG_ARM_TIMING
  else if !s.armSlalomOk i then some ST_EDG_ARM_SLALOM
  else none

/-- R99: the first failing condition. -/
def armCheck (s : Dev) (i : Fin 408) (fltMask : Option (BitVec 6)) (pins : BitVec 4) : Option Code :=
  match s.armCheck6 i with
  | some c => some c
  | none => if s.armFaultOk i fltMask pins then none else some ST_EDG_ARM_FAULT

/-- R100, R228: an accepted arm. -/
def armAccept (s : Dev) (i : Fin 408) : Dev :=
  let s := (((s.setArmed i true).setb (EDG_LEG_CTL_FAULT i) false).set (EDG_LEG_CTL_FAULT_CAUSE i) 0).set (EDG_LEG_CTL_ARM_ERR i) 0
  let s := s.modLeg i (fun l =>
    { l with
      pend := none
      bdry := none
      shift := 0
      slm := s.armPhase i
      level := false
      commanded := false
      fell := true
      cmd := ⟨false, false, []⟩
      forced := 0
      out := .off
      gates := .idle
      relDt := none })
  let s := ((s.refreshFaults i).refreshOut i).respreadOf i
  let s :=
    match (if isLocal i then none else s.stageNode (legStage i)) with
    | some n =>
      let j := i.val % 6
      (s.sendCtrl n true 0x0004 1 [BitVec.ofNat 32 (2 ^ j)] (.release i)).sendCtrl n true (0x0010 + 4 * j) 4
        [BitVec.ofNat 32 (s.period i), BitVec.ofNat 32 (s.legPhase i), s.rd (EDG_LEG_DEAD i), s.nodeLegCfg i true] (.leg i)
    | none => s
  s.post EV_EDG_LEG_ARMED (legIndex i)

/-- R99: an arm is refused with a code. -/
def armRefuse (s : Dev) (i : Fin 408) (c : Code) : Dev :=
  (s.set (EDG_LEG_CTL_ARM_ERR i) (c.toNat % 256)).post EV_EDG_ARM_REFUSED (legIndex i ++ leBytes 2 c.toNat)

/-- R99: an arm judged by all the conditions. -/
def armJudge (s : Dev) (i : Fin 408) (fltMask : Option (BitVec 6)) (pins : BitVec 4) : Dev × Option Code :=
  match s.armCheck i fltMask pins with
  | none => (s.armAccept i, none)
  | some c => (s.armRefuse i c, some c)

/-- R99: the read of a leg's LEG_CFG for an arm is outstanding. -/
def armReading (s : Dev) (i : Fin 408) : Bool := s.pst.ctrl.any (fun r => r.why == .armMask i)

/-- R99, R100: a write of 1 to ARM. The code is the refusal's, if any. An arm of a piste leg that meets conditions 1 to 6 reads the node's
LEG_CFG, and is judged again, with FLT_MASK, when the response comes; a second ARM before that has no effect (log entry 19). -/
def armLeg (s : Dev) (i : Fin 408) (pins : BitVec 4) : Dev × Option Code :=
  if s.armed i || s.isSecondPin i || s.armReading i then (s, none)
  else if isLocal i then s.armJudge i none pins
  else
    match s.armCheck6 i, s.stageNode (legStage i) with
    | none, some n => (s.sendCtrl n false (0x0013 + 4 * (i.val % 6)) 1 [] (.armMask i), none)
    | _, _ => s.armJudge i none pins

/-- R99: the read of a leg's LEG_CFG has been answered with a word, or has failed: the arm is judged, and a REG_WRITE that waits for it
learns the outcome. -/
def armRead (s : Dev) (i : Fin 408) (w : Option Word) : Dev :=
  let q := if s.armed i then (s, none) else s.armJudge i (w.map (fun w => BitVec.ofNat 6 (bitsOf w 7 2))) 0
  q.1.putHif { q.1.hif with armWait := q.1.hif.armWait.map (fun (x : ArmWait) => if x.leg == i then { x with result := some q.2 } else x) }

/-! Commits (R89, R92) -/

def groupOf (s : Dev) (i : Nat) : CommitGroup :=
  let c := s.get (EDG_LEG_CFG_CGRP i)
  if c = 1 then .solo i else if c = 2 then .slalom (s.slmGroup i) else .stage (legStage i)

/-- The legs whose commit group is `g`: of a stage or a slalom group, those whose own CGRP names it (log entry 20). -/
def groupLegs (s : Dev) (g : CommitGroup) : List (Fin 408) :=
  let l : List (Fin 408) := match g with
    | .stage st => (idx 408).filter (fun (i : Fin 408) => legStage i == st)
    | .solo n => (idx 408).filter (fun (i : Fin 408) => i.val == n)
    | .slalom k => s.slmMembers k
  l.filter (fun i => s.groupOf i == g)

/-- R129: slot `m` feeds leg `i`. -/
def feeds (s : Dev) (m : Nat) (i : Nat) : Bool :=
  s.armed i && s.flag (CLE_MAP_SRC_EN i) && !s.isSecondPin i &&
    (s.get (CLE_MAP_SRC_SLOT0 i) == m || (s.flag (CLE_MAP_SRC_SRC1_EN i) && s.get (CLE_MAP_SRC_SLOT1 i) == m))

/-- The slots that feed a leg. -/
def feeders (s : Dev) (i : Nat) : List Nat :=
  if s.armed i && s.flag (CLE_MAP_SRC_EN i) then
    s.get (CLE_MAP_SRC_SLOT0 i) :: (if s.flag (CLE_MAP_SRC_SRC1_EN i) then [s.get (CLE_MAP_SRC_SLOT1 i)] else [])
  else []

/-- R92, R129: a commit makes a leg's shadow values pending; after the cut-off of a boundary not yet passed it is late. A leg whose map names
an OPEN slot does not commit. -/
def commitLeg (s : Dev) (i : Fin 408) : Dev :=
  if !(s.armed i && s.flag (CLE_MAP_SRC_EN i) && (s.feeders i).all (fun m => s.get (CLE_SLOT_CTL_STATE m) == 1)) then s
  else
    let l := s.leg i
    let s := s.modLeg i (fun l => { l with pend := some l.shadow })
    if l.bdry.any (fun b => decide (4 * s.dt ≤ b)) then
      let was := s.flag (EDG_LEG_CTL_LATE_COMMIT i)
      let s := ((s.bump EDG_LATE_CNT).latch (EDG_LEG_CTL_LATE_COMMIT i)).latch EDG_STATUS_LATE
      s.when (!was) (·.post EV_EDG_LATE_COMMIT (legIndex i))
    else s

/-- R89: an execution of slot `m` has completed: each group it feeds notes it, and commits once every slot that feeds one of its
legs has completed since the group's previous commit. -/
def slotCompleted (s : Dev) (m : Nat) : Dev :=
  let groups := ((idx 408).filter (fun (i : Fin 408) => s.feeds m i)).map (fun (i : Fin 408) => s.groupOf i)
  s.forEach groups.eraseDups (fun g s =>
    let legs := s.groupLegs g
    let done := (g, m) :: s.edg.done.filter (fun q => !(q.1 == g && q.2 == m))
    if (legs.flatMap (fun (i : Fin 408) => s.feeders i)).all (fun f => done.contains (g, f)) then
      let s := s.putEdg { s.edg with done := s.edg.done.filter (fun q => q.1 != g) }
      s.forEach legs (fun i s => s.commitLeg i)
    else s.putEdg { s.edg with done := done })

/-- R88: the values a slot gives a leg become its shadow edges. -/
def writeDuty (s : Dev) (i : Fin 408) (d f : F32) : Dev :=
  let align := s.get (EDG_LEG_CFG_ALIGN i)
  if !(F32.finite d && (align != 3 || F32.finite f)) then
    (s.modLeg i (fun l => { l with shadow := (s.get (EDG_LEG_RISE_RISE i), s.get (EDG_LEG_FALL_FALL i)) })).latch
      (EDG_LEG_CTL_NAN i)
  else
    let e := alignEdges align d f (s.period i)
    (s.modLeg i (fun l => { l with shadow := (e.1, e.2.1) })).when e.2.2 (·.latch (EDG_LEG_CTL_ORDER i))

/-! Cut-offs (R90, R92, R97, R98) -/

/-- R90, R108, R225: the lead of a leg in ns. -/
def legLead (s : Dev) (i : Nat) : Nat :=
  if isLocal i then 20
  else
    let p := s.get (EDG_STG_STATUS_PISTE (legStage i))
    let q := partner p
    let back := fun (k : Nat) => s.pst.time[k]?.any (fun t => t.missRun == 0)
    if s.twinned p && back q then
      (if back p then max (s.get (EDG_LEAD_LEAD p)) (s.get (EDG_LEAD_LEAD q)) else s.get (EDG_LEAD_LEAD q))
    else s.get (EDG_LEAD_LEAD p)

/-- The boundary whose cut-off comes next. -/
def nextBoundary (s : Dev) (i : Fin 408) : Nat :=
  let p := s.period i
  let l := s.leg i
  match l.bdry with
  | none => boundaryFrom p (s.legPhase i) (4 * (s.dt + s.legLead i))
  | some b => if 4 * s.dt < b + p + l.shift then b + p + l.shift else boundaryFrom p (s.legPhase i) (4 * s.dt + 1)

/-- The DT, rounded up to a whole ns, of the cut-off of boundary `b`. Where the boundary has moved, its cut-off stays that of the boundary
at the old phase (log entry 21). -/
def cutoffDt (s : Dev) (i : Fin 408) (b : Nat) : Nat := (b - (s.leg i).shift - 4 * s.legLead i + 3) / 4

/-- R95: the flags of a judged period and their event. -/
def shortFlags (s : Dev) (i : Nat) (j : Judged) : Dev :=
  let f1 := j.skipped && !s.flag (EDG_LEG_CTL_SKIPPED i)
  let f2 := j.stretched && !s.flag (EDG_LEG_CTL_STRETCHED i)
  let f3 := j.forcedStretch && !s.flag (EDG_LEG_CTL_FORCED_STRETCH i)
  let s := s.bump (EDG_LEG_SHORT_CNT i) j.short
  let s := ((s.when j.skipped (·.latch (EDG_LEG_CTL_SKIPPED i))).when j.stretched
    (·.latch (EDG_LEG_CTL_STRETCHED i))).when j.forcedStretch (·.latch (EDG_LEG_CTL_FORCED_STRETCH i))
  s.when (f1 || f2 || f3)
    (·.post EV_EDG_SHORT_PULSE (legIndex i ++ leBytes 1 (f1.toNat + 2 * f2.toNat + 4 * f3.toNat)))

/-- R97, R98: what an armed leg does from boundary `b`, with its command. -/
def legPlan (s : Dev) (i : Fin 408) (b : Nat) : GateOut × Gates × LegCmd × Option Judged :=
  let nb := b + s.period i
  let l := s.leg i
  let force := s.get (EDG_LEG_CTL_FORCE i)
  let c := s.compEn i
  if s.allocForced i || !l.commanded || force = 1 || (force = 3 && !c) then (.off, l.gates.allOff (b - l.shift), ⟨false, false, []⟩, none)
  else if force = 2 then
    (.main, l.gates.force true (if c then s.get (EDG_LEG_DEAD_DTR i) else 0) b nb, ⟨true, true, []⟩, none)
  else if force = 3 then (.comp, l.gates.force false (s.get (EDG_LEG_DEAD_DTF i)) b nb, ⟨true, false, []⟩, none)
  else
    let running := l.out == .edges
    let level := if running then l.level else l.out == .main
    let j := buildPeriod (s.legTiming i) level (if running then l.since else b) b
      (s.period i) (s.get (EDG_LEG_RISE_RISE i)) (s.get (EDG_LEG_FALL_FALL i)) (if running then l.shift else 0) (!running)
    (.edges, l.gates.through (s.get (EDG_LEG_DEAD_DTR i)) (s.get (EDG_LEG_DEAD_DTF i)) c nb (j.changesFrom level b), j.cmd b nb, some j)

/-- R205: the members of the frame of a leg: the armed legs of its stage with its PERIOD and phase. -/
def frameMembers (s : Dev) (i : Fin 408) : List (Fin 408) :=
  (idx 408).filter (fun k => !isLocal k && legStage k == legStage i && s.armed k && s.period k == s.period i &&
    s.legPhase k == s.legPhase i)

/-- R204, R205: send an EDGE frame for boundary `b` to the node of a stage. A stage without a role gets none (R20). -/
def sendEdge (s : Dev) (st b : Nat) (f : EdgeFrame) : Dev :=
  if s.get (ALC_STAGE_MAP_ROLE st) = 0 then s
  else
    let q := s.nextSeq 1
    let s := q.2.emit (.edge st q.1 f)
    match s.stageNode st with
    | some n => s.sendEdgeRuns n b q.1 f
    | none => s

/-- R205: dispatch the frame once every member's cut-off of this boundary has been taken. -/
def dispatchEdge (s : Dev) (i : Fin 408) (b : Nat) : Dev :=
  let ms := s.frameMembers i
  if isLocal i || !ms.all (fun k => (s.leg k).bdry == some b) then s
  else
    s.sendEdge (legStage i) b
      { btag := btagOf b (s.period i)
        rep := ms.all (fun k => !(s.leg k).fell)
        members := ms.map (fun k => (Fin.ofNat 6 k.val, (s.leg k).cmd)) }

/-- R107, R205: a boundary that has moved: a frame of the leg alone for the boundary at the old phase brings the command off for the added
time, then the node gets the new phase (log entry 21). -/
def dispatchMoved (s : Dev) (i : Fin 408) (ob : Nat) (c : LegCmd) : Dev :=
  if isLocal i then s
  else
    (s.sendEdge (legStage i) ob
      { btag := btagOf ob (s.period i)
        rep := false
        members := [(Fin.ofNat 6 i.val, c)] }).sendPhase i

/-- R92: the cut-off of the leg's next boundary. -/
def cutoff (s : Dev) (i : Fin 408) : Dev :=
  if s.isSecondPin i || s.period i = 0 then s
  else
    let b := s.nextBoundary i
    let s := s.reach (s.cutoffDt i b)
    if !s.armed i then
      s.modLeg i (fun l =>
        { l with
          bdry := none
          shift := 0
          out := if isLocal i || s.legFaulted i then .floating else .off
          gates := l.gates.allOff b })
    else
      let l := s.leg i
      let s := match l.pend with
        | some e => (s.set (EDG_LEG_RISE_RISE i) e.1).set (EDG_LEG_FALL_FALL i) e.2
        | none => s
      let s := s.modLeg i (fun l => { l with pend := none, commanded := l.commanded || l.pend.isSome })
      let plan := s.legPlan i b
      let c := plan.2.2.1
      let j := plan.2.2.2
      let s := s.modLeg i (fun x =>
        { x with
          bdry := some b
          shift := 0
          fell := l.pend.isSome || c != x.cmd
          cmd := c
          out := plan.1
          gates := plan.2.1
          forced := s.get (EDG_LEG_CTL_FORCE i)
          level := (j.map (·.level)).getD false
          since := (j.bind (·.starts.head?)).getD b })
      let s := match j with
        | some j => s.shortFlags i j
        | none => s
      let s := if l.shift = 0 then s else s.dispatchMoved i (b - l.shift) ((j.map (fun j => j.cmd (b - l.shift) b)).getD ⟨false, false, []⟩)
      (s.refreshOut i).dispatchEdge i b

/-! Allocator force (R104) and bindings (R84) -/

/-- R104: set or clear the allocator force of a stage. When it clears, each leg resumes as after an arm. -/
def setAllocForce (s : Dev) (st : Nat) (b : Bool) : Dev :=
  if s.flag (EDG_STG_STATUS_ALC_FORCE st) == b then s
  else
    let s := s.setb (EDG_STG_STATUS_ALC_FORCE st) b
    let legs := (idx 408).filter (fun (i : Fin 408) => legStage i == st)
    let s := s.forEach legs (fun i s =>
      (if b then s else s.modLeg i (fun l => { l with commanded := false, pend := none })).refreshOut i)
    s.setb EDG_STATUS_ALC_FORCE ((List.range 64).any (fun k => s.flag (EDG_STG_STATUS_ALC_FORCE k)))

/-- R84: report where a stage's node is. -/
def rebind (s : Dev) (st : Nat) : Dev :=
  match s.stageNode st with
  | some n =>
    ((s.setb (EDG_STG_STATUS_BOUND st) true).set (EDG_STG_STATUS_PISTE st) (s.get (PST_NODE_INFO_PISTE n))).set
      (EDG_STG_STATUS_HOP st) (s.get (PST_NODE_INFO_HOP n))
  | none => ((s.setb (EDG_STG_STATUS_BOUND st) false).set (EDG_STG_STATUS_PISTE st) 0).set (EDG_STG_STATUS_HOP st) 0

def rebindAll (s : Dev) : Dev := s.forEach (List.range 64) (fun st s => s.rebind st)

/-- The piste legs that are armed. -/
def armedPisteLegs (s : Dev) : List (Fin 408) := (idx 408).filter (fun (i : Fin 408) => !isLocal i && s.armed i)

/-- R41, R105: disarm every piste leg without marking it faulted. -/
def disarmAll (s : Dev) : Dev := s.forEach s.armedPisteLegs (fun i s => s.disarmLeg i)

/-- R109: fault input `k` has been asserted for longer than FILTER. -/
def fltAssert (s : Dev) (k : Fin 4) : Dev :=
  if s.flag (EDG_FLT_EN k) then
    s.forEach ((idx 408).filter (fun (i : Fin 408) => isLocal i && !s.isSecondPin i && s.armed i && s.fltCovers k i))
      (fun i s => s.faultLeg i fcLocalFlt)
  else s

end Dev

/-! The commands -/

/-- R99: LEG_ARM. `pins` are the levels of FLT0 to FLT3. -/
def effLegArm (leg : LegRef) (pins : BitVec 4) (s : Dev) : Dev :=
  let r := s.armLeg leg.ix pins
  r.1.answer (r.2.getD ST_OK)

def execLegArm (leg : LegRef) (pins : BitVec 4) (s : State) : Host.Outcome State Fault Refusal :=
  s.onReg 0x03 (effLegArm leg pins)

/-- R100: LEG_DISARM. -/
def effLegDisarm (leg : LegRef) (s : Dev) : Dev :=
  (if s.isSecondPin leg.ix then s else s.disarmLeg leg.ix).answer ST_OK

def execLegDisarm (leg : LegRef) (s : State) : Host.Outcome State Fault Refusal := s.onReg 0x03 (effLegDisarm leg)

/-- R97: LEG_FORCE_WRITE: the force is taken at the next cut-off. -/
def effLegForceWrite (leg : LegRef) (force : BitVec 2) (s : Dev) : Dev :=
  (s.set (EDG_LEG_CTL_FORCE leg.ix) force.toNat).answer ST_OK

def execLegForceWrite (leg : LegRef) (force : BitVec 2) (s : State) : Host.Outcome State Fault Refusal :=
  s.onReg 0x03 (effLegForceWrite leg force)

/-- R92: LEG_CUTOFF. -/
def effLegCutoff (leg : LegRef) (s : Dev) : Dev := s.cutoff leg.ix

def execLegCutoff (leg : LegRef) (s : State) : Host.Outcome State Fault Refusal := s.onRun (effLegCutoff leg)

/-- R109: FLT_INPUT_ASSERT. -/
def effFltInputAssert (k : Fin 4) (s : Dev) : Dev := s.fltAssert k

def execFltInputAssert (k : Fin 4) (s : State) : Host.Outcome State Fault Refusal := s.onRun (effFltInputAssert k)

end Machine
end Sys2Proof
end

