-- ==== Sys2Proof/Machine/Civil.lean ====
section
/-! DEFINITION. Civil dates of legal time (proleptic Gregorian calendar), as ISO 8601, the calendar and the daylight rules need them
(R351, R352, R357, R375). -/

namespace Sys2Proof.Machine

/-- A civil date. -/
structure Date where
  year : Nat
  month : Nat
  day : Nat
deriving DecidableEq, Repr

namespace Date

/-- The date of a day counted from 1970-01-01. -/
def ofDays (n : Nat) : Date :=
  let z := n + 719468
  let era := z / 146097
  let doe := z % 146097
  let yoe := (doe - doe / 1460 + doe / 36524 - doe / 146096) / 365
  let doy := doe - (365 * yoe + yoe / 4 - yoe / 100)
  let mp := (5 * doy + 2) / 153
  let d := doy - (153 * mp + 2) / 5 + 1
  let m := if mp < 10 then mp + 3 else mp - 9
  ⟨yoe + era * 400 + (if m ≤ 2 then 1 else 0), m, d⟩

/-- The day of a date counted from 1970-01-01. -/
def toDays (x : Date) : Nat :=
  let y := if x.month ≤ 2 then x.year - 1 else x.year
  let era := y / 400
  let yoe := y % 400
  let mp := if 2 < x.month then x.month - 3 else x.month + 9
  let doy := (153 * mp + 2) / 5 + x.day - 1
  let doe := yoe * 365 + yoe / 4 - yoe / 100 + doy
  era * 146097 + doe - 719468

/-- The weekday of a day counted from 1970-01-01 (0 Sunday). -/
def weekday (n : Nat) : Nat := (n + 4) % 7

/-- The number of days of a month. -/
def monthDays (y m : Nat) : Nat :=
  if m = 2 then (if y % 4 = 0 && (y % 100 ≠ 0 || y % 400 = 0) then 29 else 28)
  else if m ∈ [4, 6, 9, 11] then 30 else 31

end Date

/-- The decimal digits of `x` in ASCII, `n` of them. -/
def asciiDec : Nat → Nat → List Byte
  | 0, _ => []
  | n + 1, x => asciiDec n (x / 10) ++ [BitVec.ofNat 8 (48 + x % 10)]

/-- R375: UTC in ms since 1970 as 20 ASCII characters of ISO 8601. -/
def iso8601 (utc : Nat) : List Byte :=
  let t := utc / 1000
  let d := Date.ofDays (t / 86400)
  let r := t % 86400
  asciiDec 4 d.year ++ [0x2D] ++ asciiDec 2 d.month ++ [0x2D] ++ asciiDec 2 d.day ++ [0x54] ++ asciiDec 2 (r / 3600) ++ [0x3A] ++
    asciiDec 2 (r / 60 % 60) ++ [0x3A] ++ asciiDec 2 (r % 60) ++ [0x5A]

/-- The day of a rule instant in a year (R351). -/
def dstDay (r : DstRule) (year : Nat) : Nat :=
  let first := Date.toDays ⟨year, r.month, 1⟩
  let off := (r.weekday + 7 - Date.weekday first) % 7
  let d := first + off + 7 * (r.week - 1)
  if r.week = 5 && first + Date.monthDays year r.month ≤ d then d - 7 else d

/-- R351: the UTC minute of a rule instant in a year. -/
def dstMinute (r : DstRule) (year : Nat) : Nat := dstDay r year * 1440 + r.minute

end Sys2Proof.Machine
end

