-- ==== Sys2Proof/Machine/Records.lean ====
section
/-! DEFINITION. Keys as every block uses them (R448), energy registers as others read them (R312), tamper records (R371 to R373) and
manifests (R374 to R377). -/

namespace Sys2Proof.Machine

/-- R43: lifecycle states. -/
def lfManufacture : Nat := 0
def lfCommissioning : Nat := 1
def lfService : Nat := 2
def lfDebugOpen : Nat := 3

/-- R452: key types. -/
def ktAes : Nat := 1
def ktHmac : Nat := 2
def ktP256 : Nat := 3
def ktP384 : Nat := 4
def ktP521 : Nat := 5
def ktEd448 : Nat := 6
def ktEcdh : Nat := 7

/-- R452: usage bits. -/
def kuSignHost : Nat := 0
def kuManifest : Nat := 1
def kuDisplay : Nat := 2
def kuTls : Nat := 3
def kuRole : Nat := 4
def kuHmacHost : Nat := 5
def kuCipherHost : Nat := 6
def kuUnwrap : Nat := 7

/-- R452: whether a TYPE suits a usage bit. -/
def typeSuits (ty u : Nat) : Bool :=
  if u = kuDisplay then ty == ktP256
  else if u = kuSignHost || u = kuManifest || u = kuTls then decide (ktP256 ≤ ty) && decide (ty ≤ ktEd448)
  else if u = kuRole || u = kuHmacHost then ty == ktHmac
  else if u = kuCipherHost then ty == ktAes
  else u == kuUnwrap && ty == ktEcdh

/-- R452, R462: the SHA-2 width a signature type hashes with; 0 for Ed448, which signs the bytes themselves. -/
def typeHash (ty : Nat) : Nat := if ty = ktP256 then 256 else if ty = ktP384 then 384 else if ty = ktP521 then 512 else 0

/-- R371: tamper types. -/
def tpMagnetic : Nat := 1
def tpCover : Nat := 2
def tpClockStep : Nat := 3
def tpPowerLoss : Nat := 4
def tpConfig : Nat := 5
def tpSeal : Nat := 6
def tpCalibration : Nat := 7
def tpKey : Nat := 8
def tpAccessFail : Nat := 9
def tpHead : Nat := 10
def tpFirmware : Nat := 11
def tpTimeInvalid : Nat := 12

namespace Dev

/-- R43: the lifecycle state. -/
def life (s : Dev) : Nat := s.get GEN_LIFECYCLE_LIFE

def modKey (s : Dev) (f : Key → Key) : Dev := s.putKey (f s.key)
def modBil (s : Dev) (f : Bil → Bil) : Dev := s.putBil (f s.bil)

/-! Keys -/

/-- The key of a slot that is VALID and intact. -/
def slotKey (s : Dev) (k : Nat) : Option KeyRec :=
  if s.get (KEY_SLOT_STATE k) == 1 then
    match s.key.records.toList[s.get (KEY_SLOT_RECORD k)]? with
    | some (some r) => if r.intact && r.slot == k then some r else none
    | _ => none
  else none

/-- R463: the engine for a key type has passed its known-answer test. -/
def engineOk (s : Dev) (ty : Nat) : Bool := !s.key.engineBad.contains (BitVec.ofNat 8 ty)

/-- R448: the key of a slot that is usable for a purpose. -/
def usableKey (s : Dev) (k u : Nat) : Option KeyRec :=
  if s.flag KEY_STATUS_ROOT then
    match s.slotKey k with
    | some r => if typeSuits r.type u && r.usage.testBit u && s.engineOk r.type then some r else none
    | none => none
  else none

/-- R462: a signature over `m` with the key of a record. -/
def signWith (r : KeyRec) (m : List Byte) : List Byte :=
  Config.sign r.type r.secret (if typeHash r.type = 0 then m else Config.sha2 (typeHash r.type) m)

/-! Energy registers (R312, R329) -/

/-- The energy register of quantity `q` in mWh. -/
def energy (s : Dev) (q : Nat) : Nat := ((s.mtr.acc.toList.getD q 0) / 2 ^ 32).toNat

/-- The tariff registers of billed quantity `b` in mWh: T1 to T8, TDEF. -/
def tariffs (s : Dev) (b : Nat) : List Nat :=
  (List.range 9).map (fun i => ((s.bil.tar.toList.getD (9 * b + i) 0) / 2 ^ 32).toNat)

/-! Tamper records -/

/-- R371: normal service. -/
def normalService (s : Dev) : Bool :=
  (s.life == lfCommissioning || s.life == lfService) && !s.flag GEN_LIFECYCLE_CAUSE_FW && !s.flag GEN_LIFECYCLE_CAUSE_CONFIG &&
    !s.flag GEN_LIFECYCLE_CAUSE_RST && !s.testRuns 0x0B && !s.testRuns 0x0C && (s.gen.pair.isSome || s.flag GEN_STATUS_RTC_FAULT || s.gen.timeDeclared) &&
    (match s.gen.phase with
     | .running => true
     | _ => false)

/-- The sum of all tamper counts. -/
def tamperTotal (s : Dev) : Nat := (List.range 12).foldl (fun a t => a + s.get (BIL_TAMP_COUNT_COUNT t)) 0

/-- R371: count one or more occurrences of a type, first and last at UTC seconds `u0`, `u1`, valid or not. -/
def countTamper (s : Dev) (t n u0 u1 : Nat) (valid : Bool) : Dev :=
  let i := t - 1
  let first := s.get (BIL_TAMP_COUNT_COUNT i) == 0
  let s := s.when first (fun s => (s.set (BIL_TAMP_FIRST_UTC i) u0).setb (BIL_TAMP_TIMES_FIRST_VALID i) valid)
  let s := (s.set (BIL_TAMP_LAST_UTC i) u1).setb (BIL_TAMP_TIMES_LAST_VALID i) valid
  (s.incWrap (BIL_TAMP_COUNT_COUNT i) n).post EV_BIL_TAMPER (leBytes 1 t)

/-- R372, R373, R465: hold an occurrence with its time, until normal service begins or the key operation has ended; a time of 0 stands
for the time at which it is booked. -/
def holdTamper (s : Dev) (t utc : Nat) (valid : Bool) : Dev :=
  s.modBil (fun b => { b with held := b.held ++ [(t, utc, valid)] })

/-- R371, R373: book an occurrence of a tamper type, or hold it during a key operation; outside normal service only MAG_STARTUP is kept
(R372). -/
def bookTamper (s : Dev) (t : Nat) : Dev :=
  if !s.flag BIL_TAMP_STATUS_NORMAL then s
  else if s.bil.keyOp then s.holdTamper t (s.utcNow / 1000) s.utcValid
  else s.countTamper t 1 (s.utcNow / 1000) (s.utcNow / 1000) s.utcValid

/-- Book everything that is held. A time of 0 stands for the present UTC. -/
def bookHeld (s : Dev) : Dev :=
  let held := s.bil.held
  (s.modBil (fun b => { b with held := [] })).forEach held (fun h s =>
    if h.2.1 = 0 then s.countTamper h.1 1 (s.utcNow / 1000) (s.utcNow / 1000) s.utcValid
    else s.countTamper h.1 1 h.2.1 h.2.1 h.2.2)

/-- R373: what the always-on domain latched in HIBERNATE is booked with its times, and the latch clears. -/
def bookLatch (s : Dev) : Dev :=
  let l := s.bil.latch
  ((s.modBil (fun b => { b with latch := [] })).setb BIL_TAMP_STATUS_HIB_LATCH false).forEach l (fun x s =>
    s.countTamper x.1 x.2.1 x.2.2.1 x.2.2.2 s.utcValid)

/-- R371: BIL_TAMP_STATUS.NORMAL follows normal service; when it begins, everything held or latched is booked. -/
def normalUpdate (s : Dev) : Dev :=
  let was := s.flag BIL_TAMP_STATUS_NORMAL
  let is := s.normalService
  let s := s.setb BIL_TAMP_STATUS_NORMAL is
  if is && !was then s.bookLatch.bookHeld else s

/-! Manifests -/

/-- R375: ALG of a key type. -/
def manAlg (ty : Nat) : Nat := ty - ktP256

def sigLen (alg : Nat) : Nat := if alg = 0 then 64 else if alg = 1 then 96 else if alg = 2 then 132 else 114

/-- R375: bytes 0 to 383. -/
def manBody (m : Manifest) : List Byte :=
  [0x53, 0x52, 0x47, 0x4D] ++ leBytes 1 1 ++ leBytes 1 m.alg ++ leBytes 1 m.outlet ++ leBytes 1 m.outcome ++ leBytes 8 m.no ++
  leBytes 8 m.deviceId.toNat ++ leBytes 1 m.identGen ++ leBytes 1 m.proto ++ leBytes 2 m.flags ++ leBytes 1 m.reasonLast ++ leBytes 1 0 ++
  leBytes 2 m.reasonSeen ++ leBytes 4 m.start.epoch.toNat ++ leBytes 4 m.stop.epoch.toNat ++ leBytes 8 m.start.dt ++
  leBytes 8 m.stop.dt ++ iso8601 m.start.utc ++ iso8601 m.stop.utc ++ leBytes 8 m.sid.toNat ++
  m.evccHash.take 32 ++ leBytes (32 - m.evccHash.length) 0 ++ m.emaidHash.take 32 ++ leBytes (32 - m.emaidHash.length) 0 ++
  leBytes 8 m.start.imp ++ leBytes 8 m.stop.imp ++ leBytes 8 m.start.exp ++ leBytes 8 m.stop.exp ++
  (List.range 9).flatMap (fun i => leBytes 8 (m.stop.impT.getD i 0 - m.start.impT.getD i 0)) ++
  (List.range 9).flatMap (fun i => leBytes 8 (m.stop.expT.getD i 0 - m.start.expT.getD i 0)) ++
  leBytes 8 m.lossBound ++ leBytes 8 m.gap ++ leBytes 2 m.lossCnt ++ leBytes 2 m.tamperCnt ++ leBytes 4 m.calCnt ++
  m.prevDigest.take 8 ++ leBytes (8 - m.prevDigest.length) 0 ++ leBytes 8 0

/-- R375: the whole manifest of 520 bytes. -/
def manBytes (m : Manifest) : List Byte :=
  manBody m ++ leBytes 2 m.sig.length ++ m.sig.take 132 ++ leBytes (132 - m.sig.length) 0 ++ leBytes 2 0

/-- R378: a verifier's figures: energy delivered, returned and uncertain, in mWh. -/
def manFigures (m : Manifest) : Nat × Nat × Nat := (m.stop.imp - m.start.imp, m.stop.exp - m.start.exp, m.lossBound + m.gap)

/-- R378: the key type of ALG, and its check of a signature over bytes 0 to 383 under a public key. -/
def manVerifies (pub : List Byte) (m : Manifest) : Bool :=
  let ty := m.alg + ktP256
  Config.verify ty pub (if typeHash ty = 0 then manBody m else Config.sha2 (typeHash ty) (manBody m)) m.sig

/-- R375: the first 8 bytes of the digest of bytes 0 to 383. -/
def manDigest (m : Manifest) : List Byte := (Config.sha2 256 (manBody m)).take 8

/-- R378: a manifest passes a verifier's check under the public key exported for its device and identity; `prev` is the stored manifest
before it, when held. -/
def manPasses (pub : List Byte) (m : Manifest) (prev : Option Manifest) : Bool :=
  let grew := fun (a b : List Nat) => (List.range 9).foldl (fun n i => n + (b.getD i 0 - a.getD i 0)) 0
  m.sig.length == sigLen m.alg && manVerifies pub m && m.stop.imp - m.start.imp == grew m.start.impT m.stop.impT &&
    m.stop.exp - m.start.exp == grew m.start.expT m.stop.expT && prev.all (fun p => manDigest p == m.prevDigest)

/-- Manifests that wait for a signature under the present identity (R376). -/
def unsigned (s : Dev) : Nat :=
  (s.bil.archive.filter (fun m => m.sig.isEmpty && m.identGen == s.get GEN_LIFECYCLE_IDENTITY_GEN)).length

def manStatus (s : Dev) : Dev :=
  (s.set BIL_MAN_STATUS_UNACK s.bil.archive.length).set BIL_MAN_STATUS_UNSIGNED s.unsigned

/-- R457: the manifest key slot becomes BOUND with the first manifest signed under the identity. -/
def bindSlot (s : Dev) : Dev :=
  if s.flag KEY_STATUS_BOUND_ANY then s
  else
    let k := s.get BIL_MAN_CFG_KEY_SLOT
    (((s.setb KEY_STATUS_BOUND_ANY true).set KEY_STATUS_BOUND_SLOT k).setb (KEY_SLOT_BOUND k) true).post EV_KEY_SLOT_BOUND (leBytes 1 k)

/-- R376: the payload of MANIFEST_READY. -/
def manReady (m : Manifest) : List Byte := leBytes 8 m.no ++ leBytes 1 (!m.sig.isEmpty).toNat

/-- R377: put a manifest into the archive. -/
def archiveMan (s : Dev) (m : Manifest) : Dev :=
  let full := decide (2000 ≤ s.bil.archive.length)
  let s := s.modBil (fun b => { b with archive := (if full then b.archive.drop 1 else b.archive) ++ [m] })
  let s := s.manStatus
  let s := s.post EV_BIL_MANIFEST_READY (manReady m)
  let s := s.when full (fun s => (s.bump BIL_MAN_OVERWRITTEN).post EV_BIL_MANIFEST_OVERWRITTEN)
  if 1900 ≤ s.bil.archive.length && !s.bil.highTold then
    ((s.modBil (fun b => { b with highTold := true })).setb BIL_STATUS_ARCHIVE_HIGH true).post EV_BIL_ARCHIVE_HIGH
  else s

/-- R374 to R376: number, sign when the key is usable, and archive a manifest. -/
def makeManifest (s : Dev) (m : Manifest) : Dev :=
  let no := (s.get64 BIL_MAN_NO_LO).toNat
  let key := s.usableKey (s.get BIL_MAN_CFG_KEY_SLOT) kuManifest
  let waits := decide (0 < s.unsigned)
  let m := { m with
    no := no
    deviceId := s.get64 GEN_DEVICE_ID_LO
    identGen := s.get GEN_LIFECYCLE_IDENTITY_GEN
    alg := (key.map (fun r => manAlg r.type)).getD 0
    prevDigest := if no ≤ 1 then [] else s.bil.lastDigest }
  let m := match key with
    | some r => if waits then m else { m with sig := signWith r (manBody m) }
    | none => m
  let s := s.set64 BIL_MAN_NO_LO (BitVec.ofNat 64 (no + 1))
  let s := s.modBil (fun b => { b with lastDigest := manDigest m })
  let s := s.when (!m.sig.isEmpty) (·.bindSlot)
  s.archiveMan m

end Dev

end Sys2Proof.Machine
end

