-- ==== Sys2Proof/Machine/Session.lean ====
section
/-! DEFINITION. The core of the vehicle sessions that other blocks act on: states, ends and manifests of a session (R271, R274, R277,
R374) and the effect of a grant's REASON. -/

namespace Sys2Proof.Machine

/-- R271: session states. -/
def ssIdle : Nat := 0
def ssLinked : Nat := 1
def ssSecure : Nat := 2
def ssSetup : Nat := 3
def ssAuthorising : Nat := 4
def ssParameters : Nat := 5
def ssCableCheck : Nat := 6
def ssPrecharge : Nat := 7
def ssCharging : Nat := 8
def ssStopping : Nat := 9
def ssClosing : Nat := 10

/-- R271: outcomes. -/
def ocNormalEv : Nat := 1
def ocNormalHost : Nat := 2
def ocRefused : Nat := 3
def ocSafety : Nat := 4
def ocTimeout : Nat := 5
def ocProtocol : Nat := 6
def ocUnplugged : Nat := 7
def ocInterrupted : Nat := 8
def ocAuthFailed : Nat := 9
def ocPrecondition : Nat := 10
def ocIsolation : Nat := 11
def ocTrip : Nat := 12

/-- R275: WAIT causes. -/
def wtHold : Nat := 1
def wtSafety : Nat := 2
def wtKey : Nat := 3
def wtTriad : Nat := 4
def wtCable : Nat := 5
def wtStage : Nat := 6
def wtLock : Nat := 7

/-- R375: the FLAGS bits that are set while a session runs. -/
def mfTimeInvalid : Nat := 1
def mfStepped : Nat := 3
def mfUnbounded : Nat := 6
def mfSealBroken : Nat := 7
def mfMagStartup : Nat := 11

/-- R375: the bit of REASON_SEEN of a REASON. -/
def reasonBit (r : Nat) : Option Nat :=
  if r = 0x00 then some 0
  else if 0x10 ≤ r && r ≤ 0x15 then some (1 + (r - 0x10))
  else if 0x20 ≤ r && r ≤ 0x24 then some (7 + (r - 0x20))
  else none

namespace Dev

def modSess (s : Dev) (n : Fin 16) (f : Sess → Sess) : Dev := s.putVss { s.vss with outs := vupd s.vss.outs n f }

def sess (s : Dev) (n : Fin 16) : Sess := s.vss.outs[n]

def sessState (s : Dev) (n : Nat) : Nat := s.get (VSS_OUT_STATE_STATE n)

/-- Set bit `i` of a word at `off`. -/
def setBit (s : Dev) (off i : Nat) (b : Bool) : Dev := s.set ⟨off, i, i⟩ b.toNat

/-- R276: the outlet is energised. -/
def energised (s : Dev) (n : Nat) : Bool := (s.get VSS_STATUS_ENERGISED).testBit n

/-- R282: a session is open. -/
def sessOpen (s : Dev) (n : Nat) : Bool := s.sessState n != ssIdle

/-- R271: enter a state. -/
def enterState (s : Dev) (n : Fin 16) (st : Nat) : Dev :=
  ((s.set (VSS_OUT_STATE_STATE n) st).setBit VSS_STATUS (16 + n.val) (st != ssIdle)).modSess n (fun x => { x with since := s.dt })

/-- R375: mark the manifests of every open session with a flag. -/
def flagSessions (s : Dev) (bit : Nat) : Dev :=
  s.forEach ((idx 16).filter (fun (n : Fin 16) => s.sessOpen n)) (fun n s =>
    s.modSess n (fun x => { x with flags := x.flags ||| 2 ^ bit }))

/-! Manifests (R374) -/

/-- The registers of an outlet as the start of its metered interval, whose first block ends at `dt`. -/
def manStart (s : Dev) (n dt : Nat) : ManStart where
  epoch := s.rd GEN_EPOCH
  dt := dt
  utc := s.utcOf dt
  imp := s.energy (16 + 4 * n)
  exp := s.energy (17 + 4 * n)
  impT := s.tariffs (8 + 2 * n)
  expT := s.tariffs (9 + 2 * n)

/-- The registers of an outlet as the end of its metered interval. -/
def manEnd (s : Dev) (n dt : Nat) : ManEnd where
  epoch := s.rd GEN_EPOCH
  dt := dt
  utc := s.utcOf dt
  imp := s.energy (16 + 4 * n)
  exp := s.energy (17 + 4 * n)
  impT := s.tariffs (8 + 2 * n)
  expT := s.tariffs (9 + 2 * n)

/-- The loss records of a session (R374): those whose number the session has collected. -/
def sessLosses (s : Dev) (x : Sess) : List LossRec := s.mtr.losses.filter (fun l => x.losses.contains l.no)

/-- R374, R375: the manifest of outlet `n`'s session. A session that was never energised has an empty interval at its end. -/
def sessManifest (s : Dev) (n : Fin 16) : Manifest :=
  let x := s.sess n
  let start := x.start.getD (s.manStart n s.dt)
  let stop := x.stop.getD (s.manEnd n s.dt)
  let losses := s.sessLosses x
  let bound := losses.foldl (fun a l => a + l.bounds.getD n 0) 0
  let gap := (s.get64 (TRI_OUT_GAP_LO n)).toNat - x.gap0
  let tdef := decide (start.impT.getD 8 0 < stop.impT.getD 8 0) || decide (start.expT.getD 8 0 < stop.expT.getD 8 0)
  { no := 0
    alg := 0
    outlet := n
    outcome := x.outcome
    deviceId := 0
    identGen := 0
    proto := s.get (VSS_OUT_STATE_PROTO n)
    flags := x.flags ||| tdef.toNat ||| ((s.flag (VSS_OUT_STATE_TIME_UNCHECKED n)).toNat * 2 ^ 2) |||
      ((decide (0 < bound)).toNat * 2 ^ 4) ||| ((decide (0 < gap)).toNat * 2 ^ 5) |||
      ((losses.any (·.unbounded)).toNat * 2 ^ mfUnbounded) ||| ((s.flag (VSS_OUT_STATE_BPT n)).toNat * 2 ^ 8) |||
      ((s.flag (VSS_OUT_STATE_PNC n)).toNat * 2 ^ 9)
    reasonLast := s.get (VSS_OUT_STATE_REASON n)
    reasonSeen := x.seen
    start := start
    stop := stop
    sid := s.get64 (VSS_OUT_SID_LO n)
    evccHash := Config.sha2 256 x.evccid
    emaidHash := if s.flag (VSS_OUT_STATE_PNC n) then Config.sha2 256 x.emaid else []
    lossBound := bound
    gap := gap
    lossCnt := losses.length
    tamperCnt := s.tamperTotal - x.tamper0
    calCnt := x.cal0
    prevDigest := []
    sig := [] }

/-- R374: the manifest that an ended session owes, once the last block of its metered interval has been committed. -/
def settleManifest (s : Dev) (n : Fin 16) : Dev :=
  let x := s.sess n
  if x.manDue && (x.energisedAt.isNone || x.stop.isSome) && !s.energised n then
    (s.modSess n (fun x => { x with manDue := false })).makeManifest (s.sessManifest n)
  else s

/-! Ends (R271, R277) -/

/-- R276: a close that has been commanded and has not come about is withdrawn. -/
def withdrawClose (s : Dev) (n : Fin 16) : Dev :=
  if !(s.sess n).closing then s
  else
    let s := s.modSess n (fun x => { x with closing := false, opening := !s.flag (VSS_OUT_CFG_CONT_EN n) })
    if s.flag (VSS_OUT_CFG_CONT_EN n) then s.setb (LSW_CH_CTL_ON (s.get (VSS_OUT_CFG_CONT_CH n))) false
    else match s.nodeById (s.get64 (VSS_OUT_NODE_LO n)) 3 with
      | some i => s.sendCtrl i true 0x0062 1 [0] (.contactor n)
      | none => s

/-- R271: the session has ended and nothing is energised: SESSION_END, state CLOSING, and the manifest. -/
def closeSession (s : Dev) (n : Fin 16) : Dev :=
  let x := s.sess n
  let s := ((s.withdrawClose n).enterState n ssClosing).set (VSS_OUT_STATE_OUTCOME n) x.outcome
  let s := s.post EV_VSS_SESSION_END (leBytes 1 x.outcome ++ leBytes 1 (s.get (VSS_OUT_STATE_REASON n)))
  let s := s.modBil (fun b => { b with recent := (n.val, s.get64 (VSS_OUT_SID_LO n), s.dt) :: b.recent })
  let s := s.modSess n (fun x => { x with authAt := none, certAt := none, manDue := s.life == lfService && !x.comm })
  s.settleManifest n

/-- R277: the outlet's demand is set to 0 for the next tick. -/
def zeroDemand (s : Dev) (n : Fin 16) : Dev :=
  (s.wr (VSS_OUT_REQ n) 0).modSess n (fun x => { x with offer := 0 })

/-- R271, R277: a session ends with an outcome, the first cause standing: energised it stops, otherwise it closes. -/
def endSession (s : Dev) (n : Fin 16) (outcome : Nat) : Dev :=
  let st := s.sessState n
  if st = ssIdle || st = ssClosing then s
  else
    let s := s.modSess n (fun x => { x with outcome := if x.outcome = 0 then outcome else x.outcome })
    if s.energised n then (if st = ssStopping then s else (s.zeroDemand n).enterState n ssStopping) else s.closeSession n

/-! What a grant's REASON does to a session (R274) -/

/-- R156, R414: the outlet is under a safety stop of category 1 or a hard trip. -/
def safetyStopped (s : Dev) (n : Nat) : Bool := s.get SAF_STATUS_SITE_STOP == 1 || s.flag (THM_CAB_STATUS_HARD n)

/-- R278: a vehicle stop and a safety stop in one allocation tick. -/
def sameTickStop (s : Dev) (n : Fin 16) : Bool :=
  s.sessState n == ssStopping && (s.sess n).outcome == ocNormalEv && (s.sess n).since / ms 10 == s.dt / ms 10

/-- R271, R274, R278: the outcome that a REASON ends a charging session with, if any. -/
def reasonOutcome (s : Dev) (n : Nat) (reason : Nat) : Option Nat :=
  if reason = 0x24 then some (if s.flag ALC_TRIP_CAUSE_ESTOP0 then ocSafety else ocTrip)
  else if reason = 0x21 && s.safetyStopped n then some ocSafety
  else none

/-- R271, R274, R277: the REASON and the grant of an outlet reach its session from CABLE_CHECK on. -/
def sessionReason (s : Dev) (n : Fin 16) (reason : Nat) (p : Int) (valid : Bool) : Dev :=
  let st := s.sessState n
  if st < ssCableCheck || ssStopping < st then s
  else
    let s := s.set (VSS_OUT_STATE_REASON n) reason
    let refused := decide (0x20 ≤ reason)
    let s := s.modSess n (fun x => { x with
      seen := (match (if valid then reasonBit reason else none) with
        | some b => x.seen ||| 2 ^ b
        | none => x.seen)
      refusedAt := if refused then some (x.refusedAt.getD s.dt) else none
      zeroAt := if st = ssStopping && p = 0 then some (x.zeroAt.getD s.dt) else x.zeroAt })
    match s.reasonOutcome n reason with
    | none => s
    | some o =>
      if st = ssCharging then s.endSession n o
      else if o = ocSafety && s.sameTickStop n then s.modSess n (fun x => { x with outcome := ocSafety })
      else s

end Dev

end Sys2Proof.Machine
end

