-- ==== Sys2Proof/Machine/Solve.lean ====
section
/-! DEFINITION. The allocator's solve (R47 to R60, R65, R66): from the frozen snapshot and the previous grant set to the next
grant set. Powers are whole watts; divisions round down (log entry 10). -/

namespace Sys2Proof.Machine

/-! Reason codes (R64) -/

def rsServed : Nat := 0x00
def rsGridCap : Nat := 0x10
def rsBatteryLimit : Nat := 0x11
def rsStageShortage : Nat := 0x12
def rsCableThermal : Nat := 0x13
def rsPriority : Nat := 0x14
def rsRamp : Nat := 0x15
def rsNoStage : Nat := 0x20
def rsSafetyHold : Nat := 0x21
def rsBilling : Nat := 0x22
def rsPriorityFloor : Nat := 0x23
def rsSiteTrip : Nat := 0x24

/-- R64: codes 0x20 to 0x2F are refusals. -/
def isRefusal (r : Nat) : Bool := r / 16 == 2

/-- R66: TTS while unknown. -/
def ttsUnknown : Nat := 0xFFFF

/-! Supply (R47) -/

/-- What the grid point leaves for the device before its AFE capacity. -/
def GpIn.head (g : GpIn) (margin : Nat) : Int := (g.capImp : Int) - g.base - (g.capImp * margin / 1000 : Nat)

/-- R47: `sg`; 0 while the point does not count (R72). -/
def GpIn.supply (g : GpIn) (margin : Nat) : Nat :=
  if g.counts then (min (g.head margin) g.afeCap).toNat else 0

/-- R47: `s_grid`. -/
def AlcIn.sGrid (x : AlcIn) : Nat :=
  let bases := (x.gps.map (·.base)).sum
  min (x.gps.map (·.supply x.margin)).sum ((x.siteImp : Int) - bases).toNat

/-- R65: the AFE capacity limited the grid supply. -/
def AlcIn.afeLimited (x : AlcIn) : Bool :=
  x.gps.any (fun g => g.counts && decide ((g.afeCap : Int) < g.head x.margin)) &&
    decide (((x.gps.map (·.supply x.margin)).sum : Int) ≤ x.siteImp - (x.gps.map (·.base)).sum)

/-- R47: `sb[k]`; 0 for a resting string. -/
def StrIn.supply (k : StrIn) (resting : Bool) : Nat :=
  if k.en && k.dischEn && k.refusal.isNone && decide ((k.reserve : Int) * 100 < k.soc) && !resting then min k.disW k.stageCap else 0

/-- R62: the string may charge. -/
def StrIn.chargeRoom (k : StrIn) (resting : Bool) : Nat :=
  if k.en && k.chgEn && k.refusal.isNone && !resting then min k.chgW k.stageCap else 0

/-! Demand and local cap (R48) -/

/-- R48: the demand; 0 with no open session, and 0 for the next tick once the session stops (R277). -/
def OutIn.demand (o : OutIn) : Nat :=
  if o.open_ && !o.stopping then min (min o.request (o.vMax * o.iMax / 10)) 3750000 else 0

/-- R48: cable current limit times outlet voltage. -/
def OutIn.cableCap (o : OutIn) : Nat := o.cableA * o.voltage / 10

/-- R48: ALC_OUT_CAP.CAP; 0 means 3750 kW. -/
def OutIn.capW (o : OutIn) : Nat := if o.cap = 0 then 3750000 else o.cap * 1000

/-- R48: the local cap. -/
def OutIn.localCap (o : OutIn) : Nat := min (min o.cableCap o.stageCap) o.capW

/-- R57: the outlet's own limit for power in the direction of `p`: its local cap and its vehicle limits, which for discharge are the
offer; 0 for a session that is being stopped (R277). -/
def OutIn.ownLimit (o : OutIn) (p : Int) : Nat :=
  if o.stopping || o.catOne then 0 else if p < 0 then min o.localCap o.offer else min o.localCap (o.vMax * o.iMax / 10)

/-- R50: the effective floor. -/
def OutIn.effFloor (o : OutIn) : Nat := min (min (o.floor * 1000) o.demand) o.localCap

/-- R52: what the outlet can take. -/
def OutIn.ceil (o : OutIn) : Nat := min o.demand o.localCap

/-- R62: the vehicle offers discharge. -/
def OutIn.offers (o : OutIn) : Bool := o.open_ && !o.stopping && decide (0 < o.offer)

/-- R55: the outlet is a source. -/
def OutIn.isSource (o : OutIn) : Bool := o.offers && o.refusal.isNone

/-- R50, R55: the floor an outlet takes down the order of R50; a source has none. -/
def OutIn.walkFloor (o : OutIn) : Nat := if o.isSource then 0 else o.effFloor

/-- R62: P_DEMAND of an outlet record. -/
def OutIn.pDemand (o : OutIn) : Int := if o.offers then -(o.offer : Int) else o.demand

/-- R82: a weight of 0 is taken as 1. -/
def w1 (n : Nat) : Nat := max 1 n

/-! Water-filling (R52, R53) -/

/-- The greatest level below `2^n`, above `acc`, at which `f` does not exceed `avail`, `f` being monotone. -/
def levelBits (f : Nat → Nat) (avail : Nat) : Nat → Nat → Nat
  | 0, acc => acc
  | n + 1, acc => if f (acc + 2 ^ n) ≤ avail then levelBits f avail n (acc + 2 ^ n) else levelBits f avail n acc

/-- The level to 1 W: the greatest whole level that the available power allows. -/
def waterLevel (f : Nat → Nat) (avail : Nat) : Nat := levelBits f avail 32 0

/-- One party of a water-filling: its index, its floor, its ceiling and its weight. -/
structure Party where
  i : Nat
  floor : Nat
  ceil : Nat
  weight : Nat
deriving DecidableEq, Repr

def Party.at_ (p : Party) (level : Nat) : Nat := min p.ceil (max p.floor (p.weight * level))

/-- Hand the rounding residue to the members in index order, each up to its ceiling. -/
def giveResidue : List (Party × Nat) → Nat → List (Nat × Nat)
  | [], _ => []
  | (p, t) :: rest, r => let g := min r (p.ceil - t); (p.i, t + g) :: giveResidue rest (r - g)

/-- R52: weighted water-filling of `avail` above the floors; the shares by index, and what is left. -/
def waterFill (ps : List Party) (avail : Nat) : List (Nat × Nat) × Nat :=
  let need := (ps.map (fun p => p.ceil - p.floor)).sum
  if need ≤ avail then (ps.map (fun p => (p.i, p.ceil)), avail - need)
  else
    let f := fun level => (ps.map (fun p => p.at_ level - p.floor)).sum
    let level := waterLevel f avail
    (giveResidue (ps.map (fun p => (p, p.at_ level))) (avail - f level), 0)

/-- Look a share up. -/
def shareOf (l : List (Nat × Nat)) (i : Nat) : Nat := ((l.find? (·.1 == i)).map (·.2)).getD 0

/-! Admission (R49 to R51) -/

/-- The members of a list with their index. -/
def indexed {α : Type} (l : List α) : List (Nat × α) := l.zipIdx.map (fun p => (p.2, p.1))

/-- R50: class first, then session start, earliest first; index last. -/
def admitBefore (a b : Nat × OutIn) : Bool :=
  decide (a.2.cls < b.2.cls) || (a.2.cls == b.2.cls &&
    (decide (a.2.started < b.2.started) || (a.2.started == b.2.started && decide (a.1 ≤ b.1))))

/-- The walk of R50 and R51 down the order: what remains for admissions and for the tests of held outlets, whether an outlet has
been refused, who is admitted, and the readmission runs. -/
structure Admission where
  rem : Nat
  remTest : Nat
  blocked : Bool
  admitted : List Nat
  runs : List (Nat × Nat)
deriving DecidableEq, Repr

/-- How a solve treats the outlets refused at the previous tick (R51): by the rule; ignoring the hold (the re-solve of R66); or, in an extra
set, which is no tick (R72), holding every one of them without counting. -/
inductive HoldRule
  | tick | ignored | extra
deriving DecidableEq, Repr

/-- R50, R51: one outlet of the walk. `held` gives the outlets refused at the previous tick, `run` their consecutive passes so far. -/
def admitOne (hyst readmit : Nat) (rule : HoldRule) (held : Nat → Bool) (run : Nat → Nat) (a : Admission)
    (p : Nat × OutIn) : Admission :=
  let f := p.2.walkFloor
  let h := held p.1 && rule != .ignored
  let pass := decide (f + hyst ≤ a.remTest)
  let r := if !h then 0 else if rule == .extra then run p.1 else if pass then run p.1 + 1 else 0
  let ok := !a.blocked && decide (f ≤ a.rem) && (!h || (rule == .tick && decide (readmit ≤ r)))
  { rem := if ok then a.rem - f else a.rem
    remTest := if ok || (h && pass) then a.remTest - f else a.remTest
    blocked := a.blocked || !ok
    admitted := if ok then p.1 :: a.admitted else a.admitted
    runs := (p.1, r) :: a.runs }

/-! Sharing -/

/-- The result of the sharing step: discharge and charge targets of the outlets, who is refused, the readmission runs, the string targets,
the target of the grid (in TARGET mode as R54 clamps it), the supplies and the battery draw. -/
structure Shares where
  outT : List Int
  refused : List (Option Nat)
  runs : List (Nat × Nat)
  strT : List Int
  gridT : Int
  sGrid : Nat
  sBat : Nat
  disch : Nat
  batDraw : Nat
  availAfterFloors : Nat
deriving DecidableEq, Repr

/-- R52: class by class from 0 to 7. -/
def shareClasses (parties : Nat → List Party) : Nat → Nat → Nat → List (Nat × Nat)
  | 0, _, _ => []
  | n + 1, c, avail => let r := waterFill (parties c) avail; r.1 ++ shareClasses parties n (c + 1) r.2

/-- R55: the discharge targets of sources in index order, each the lowest of the offer, the local cap and the sink room that is left. -/
def dischargeTargets : List (Nat × OutIn) → Nat → List (Nat × Nat)
  | [], _ => []
  | (i, o) :: rest, room =>
    let g := min (min o.offer o.localCap) room
    (i, g) :: dischargeTargets rest (room - g)

/-- R53: a draw shared in proportion to `sb`, rounded down, the residue to the lowest index that has room. -/
def proportional (total : Nat) (sb : List Nat) : List Nat :=
  let s := sb.sum
  let base := sb.map (fun b => if s = 0 then 0 else total * b / s)
  let go := sb.zip base
  (go.foldl (fun (acc : List Nat × Nat) p =>
    let g := min acc.2 (p.1 - p.2); (acc.1 ++ [p.2 + g], acc.2 - g)) ([], min total s - base.sum)).1

/-- Export room in TARGET mode (R55): what the site and the points may export. -/
def AlcIn.exportRoom (x : AlcIn) : Nat :=
  if x.targetMode then min x.siteExp (x.gps.map (fun g => if g.counts then g.capExp else 0)).sum else 0

/-- R53: a string whose discharge ramps down (R56) still discharges at this tick; `strP` gives the strings' previous grants. -/
def AlcIn.stillDischarging (x : AlcIn) (strP : Nat → Int) : Bool :=
  (List.range x.strs.length).any (fun k => decide (strP k + (x.down * 10 : Nat) < 0))

/-- R53: what surplus charging may take in all: the strings' room, within ALC_SURPLUS.LIMIT. -/
def AlcIn.surplusRoom (x : AlcIn) (room : Nat) : Nat :=
  if x.surplusLimit = 0 then room else min room (x.surplusLimit * 1000)

/-- R47 to R55: the sharing step. `resting` are the strings under a granted rest, `held` and `run` as in `admitOne`, `strP` the strings'
previous grants. In TARGET mode the import cap to which TARGET is clamped is s_grid, since import stands beside the base load, the margin
and the AFE capacity (DESIGN CHOICE, log entry 14). A source has no floor and takes no part in the walk of R50 unless R51 holds it
(DESIGN CHOICE, log entry 15). -/
def share (x : AlcIn) (resting : Nat → Bool) (rule : HoldRule) (held : Nat → Bool) (run : Nat → Nat) (strP : Nat → Int) : Shares :=
  let strs := indexed x.strs
  let outs := indexed x.outs
  let sb := strs.map (fun p => p.2.supply (resting p.1))
  let room := strs.map (fun p => p.2.chargeRoom (resting p.1))
  let sGrid := x.sGrid
  let sBat := sb.sum
  let isHeld := fun (i : Nat) => held i && rule != .ignored
  let charging := outs.filter (fun p => p.2.open_ && p.2.refusal.isNone && !p.2.isSource)
  let sources := outs.filter (fun p => p.2.isSource)
  let free := sources.filter (fun p => !isHeld p.1)
  let sink := (charging.map (·.2.demand)).sum + room.sum + x.exportRoom
  let disch0 := ((dischargeTargets free sink).map (·.2)).sum
  let walk := charging ++ sources.filter (fun p => isHeld p.1)
  let adm := (sortBy admitBefore walk).foldl (admitOne x.hyst x.readmit rule held run)
    { rem := sGrid + sBat + disch0, remTest := sGrid + sBat + disch0, blocked := false, admitted := [], runs := [] }
  let serving := sources.filter (fun p => !isHeld p.1 || adm.admitted.contains p.1)
  let dg1 := dischargeTargets serving sink
  let disch1 := (dg1.map (·.2)).sum
  let avail := adm.rem + (disch1 - disch0)
  let parties := fun c => (charging.filter (fun p => p.2.cls == c && adm.admitted.contains p.1)).map
    (fun p => { i := p.1, floor := p.2.effFloor, ceil := p.2.ceil, weight := w1 p.2.weight : Party })
  let shares := shareClasses parties 8 0 avail
  let drawn := (shares.map (·.2)).sum
  let surplus := !x.stillDischarging strP && x.surplusEn
  let absorb := if x.targetMode then room.sum else if surplus then x.surplusRoom room.sum else 0
  let disch := min disch1 (drawn + absorb + x.exportRoom)
  let dg := dischargeTargets serving disch
  let outT := outs.map (fun p =>
    if p.2.isSource then -((shareOf dg p.1 : Nat) : Int) else (shareOf shares p.1 : Int))
  let refused := outs.map (fun p =>
    match p.2.refusal with
    | some r => some r
    | none =>
      if !p.2.open_ || adm.admitted.contains p.1 || (p.2.isSource && !isHeld p.1) then none else some rsPriorityFloor)
  let total : Int := (drawn : Int) - disch
  let need := total.toNat
  let excess := (-total).toNat
  let fill := fun (avail : Nat) =>
    let ps := (strs.zip room).filterMap (fun p =>
      if 0 < p.2 then some { i := p.1.1, floor := 0, ceil := p.2, weight := w1 p.1.2.weight : Party } else none)
    (waterFill ps avail).1
  if x.targetMode then
    -- R54 TARGET
    let g : Int := max (-(x.exportRoom : Int)) (min x.target sGrid)
    let diff := total - g
    let draw := min diff.toNat sBat
    let strT : List Int :=
      if 0 < diff then (proportional draw sb).map (fun (n : Nat) => -(n : Int))
      else
        let f := fill (min (-diff).toNat room.sum)
        strs.map (fun p => (shareOf f p.1 : Int))
    { outT := outT, refused := refused, runs := adm.runs, strT := strT, gridT := g, sGrid := sGrid, sBat := sBat, disch := disch,
      batDraw := draw, availAfterFloors := avail }
  else
    -- R53
    let draw := if x.batteryFirst then min need sBat else need - min need sGrid
    let left := sGrid - (need - draw) + excess
    let strT : List Int :=
      if draw = 0 && surplus then
        let f := fill (x.surplusRoom left)
        strs.map (fun p => (shareOf f p.1 : Int))
      else (proportional draw sb).map (fun (n : Nat) => -(n : Int))
    { outT := outT, refused := refused, runs := adm.runs, strT := strT, gridT := total + strT.sum, sGrid := sGrid, sBat := sBat,
      disch := disch, batDraw := draw, availAfterFloors := avail }

/-! Ramps, hysteresis and the snowplough (R56 to R60) -/

/-- One record on its way from target to grant. -/
structure Ramped where
  target : Int
  prev : Int
  grant : Int
  ramp : Nat
  snow : Bool
  newSnow : Bool
  held : Bool
  turned : Bool
  scaled : Bool
deriving DecidableEq, Repr

def sgn (x : Int) : Int := if x < 0 then -1 else 1

/-- R56, R57, R59 for one record. `own` is the record's own limit in magnitude, `fallen` that the total supply is below the sum
of the previous grants, `refused` that the record is refused and so takes its target at once, `holdOk` that the hysteresis may
act. The ramp rates are in W per ms. A target that equals the previous grant is not held: the row `target = p` of R56 is what it takes
(DESIGN CHOICE, log entry 16). -/
def rampOne (x : AlcIn) (t p : Int) (own : Nat) (fallen refused snowRuns holdOk : Bool) : Ramped :=
  let turned := decide (t * p < 0)
  let t' := if turned then 0 else t
  let mt := t'.natAbs
  let mp := p.natAbs
  let sg := if p = 0 then sgn t' else sgn p
  let snowNew := decide (mt < mp) && (decide (own < mp) || fallen)
  let hold := holdOk && !turned && !refused && !snowNew && decide (mt ≠ 0) && decide (mp ≠ 0) && decide (mt ≠ mp) &&
    decide ((t' - p).natAbs < x.hyst)
  let m := if hold then mp else if mp < mt then min mt (mp + x.up * 10) else
    if mt = mp then mp else if snowNew || refused then mt else max mt (mp - x.down * 10)
  let keep := snowRuns && decide (m ≤ mp)
  let snow := snowNew || keep
  { target := t, prev := p, grant := sg * m, snow := snow, newSnow := snowNew, held := hold, turned := turned, scaled := false,
    ramp := if snow then x.snow / 100 else if m < mp then x.down / 100 else if mt < mp && !hold then x.down / 100 else x.up / 100 }

/-- The power that a list of records draws. -/
def drawSum (l : List Ramped) : Nat := (l.map (fun r => r.grant.toNat)).sum

/-- R60: the supply with the discharge grants of the first `nOut` records, the outlets, counted as they are granted. -/
def supplyOf (base nOut : Nat) (l : List Ramped) : Nat := base + ((l.take nOut).map (fun r => (-r.grant).toNat)).sum

/-- R59: hold one record after the other, in record order, where the sum of the grants then stays within the supply; `rest` pairs each record
unheld with the record held. -/
def holdEach (base nOut : Nat) : List Ramped → List (Ramped × Ramped) → List Ramped
  | done, [] => done
  | done, r :: rest =>
    let l := done ++ r.2 :: rest.map (·.1)
    holdEach base nOut (done ++ [if r.2.held && decide (drawSum l ≤ supplyOf base nOut l) then r.2 else r.1]) rest

/-- R60: scale every increase of power drawn back in proportion until the drawing grants fit `supply`. -/
def scaleBack (supply : Nat) (l : List Ramped) : List Ramped :=
  let drawing := drawSum l
  if drawing ≤ supply then l
  else
    let inc := fun (r : Ramped) => r.grant.toNat - r.prev.toNat
    let total := (l.map inc).sum
    let keep := total - (drawing - supply)
    l.map (fun r => if 0 < inc r then
      { r with grant := (r.prev.toNat + inc r * keep / total : Nat), scaled := true } else r)

/-! Reasons (R65) -/

/-- R65: the grid bound. -/
def AlcIn.gridBound (x : AlcIn) : Nat := if x.afeLimited then rsStageShortage else rsGridCap

/-- R69: a string whose rest takes supply away. -/
def AlcIn.restBinds (x : AlcIn) (resting : Nat → Bool) : Bool :=
  (indexed x.strs).any (fun p => resting p.1 && decide (0 < p.2.supply false))

/-- R65, R69: the battery bound: a rest counts as one. -/
def AlcIn.batBound (x : AlcIn) (resting : Nat → Bool) : Nat :=
  if !x.restBinds resting && (indexed x.strs).any (fun p => decide (0 < p.2.disW) && decide (p.2.stageCap < p.2.disW) && p.2.en &&
      p.2.dischEn && p.2.refusal.isNone && decide ((p.2.reserve : Int) * 100 < p.2.soc) && !resting p.1)
  then rsStageShortage else rsBatteryLimit

/-- R65: the supply-primary and supply-secondary bounds. A battery that a rest alone keeps from supplying counts as a source with capacity
(R69). -/
def AlcIn.bounds (x : AlcIn) (resting : Nat → Bool) (sGrid sBat : Nat) : Nat × Nat :=
  let g := x.gridBound
  let b := x.batBound resting
  let bat := decide (0 < sBat) || x.restBinds resting
  if x.batteryFirst then
    if 0 < sGrid then (g, if bat then b else 0) else if bat then (b, 0) else (g, 0)
  else
    if bat then (b, if 0 < sGrid then g else 0) else (g, 0)

/-- R65 rows 3 to 5: the reasons a target below the demand carries. `metAlone` says that the demand would have been met had every
higher class been held at its floors. -/
def targetReasons (o : OutIn) (t : Nat) (metAlone : Bool) (b : Nat × Nat) : Nat × Nat :=
  if o.demand ≤ t then (rsServed, 0)
  else if t = o.localCap && decide (o.localCap < o.demand) then
    let tied := (if o.cableCap = o.localCap then [rsCableThermal] else []) ++
      (if o.stageCap = o.localCap then [rsStageShortage] else []) ++ (if o.capW = o.localCap then [rsGridCap] else [])
    (tied.headD rsGridCap, (tied.drop 1).headD 0)
  else if metAlone then (rsPriority, b.1)
  else b

/-- R65 row 4: with every class above `c` at its floors, the outlet's demand is met. -/
def metAlone (x : AlcIn) (s : Shares) (i : Nat) (o : OutIn) : Bool :=
  let ps := (indexed x.outs).filterMap (fun p =>
    if p.2.cls == o.cls && !p.2.isSource && ((s.refused[p.1]?.join).isNone)
    then some { i := p.1, floor := p.2.effFloor, ceil := p.2.ceil, weight := w1 p.2.weight : Party } else none)
  decide (o.demand ≤ shareOf (waterFill ps s.availAfterFloors).1 i)

/-! Time to serve (R66) -/

/-- Round a time in ms up to 100 ms units, saturating. -/
def ttsUnits (t : Nat) : Nat := min ((t + 99) / 100) 0xFFFE

/-- Milliseconds of ramp for a change of `d` W at a rate in W per ms. -/
def rampMs (rate d : Nat) : Nat := if rate = 0 then 0 else (d + rate - 1) / rate

/-- R66: the ramp time from a grant to its target: a change of direction falls to 0 first (R56). -/
def rampTime (x : AlcIn) (grant target : Int) : Nat :=
  if grant * target < 0 then rampMs x.down grant.natAbs + rampMs x.up target.natAbs
  else rampMs (if grant.natAbs < target.natAbs then x.up else x.down) (target - grant).natAbs

/-- R66: a record with target `t` serves its outlet: the target reaches P_DEMAND. -/
def OutIn.servedBy (o : OutIn) (t : Int) : Bool := if o.offers then decide ((o.offer : Int) ≤ -t) else decide ((o.demand : Int) ≤ t)

/-- R66: the earliest projected end, in ms, among the other sessions after whose end a re-solve serves the record. -/
def earliestEnd (x : AlcIn) (resting : Nat → Bool) (strP : Nat → Int) (grants : List Int) (i : Nat) (o : OutIn) : Option Nat :=
  (indexed x.outs).foldl (fun best p =>
    match p.2.remaining with
    | none => best
    | some wh =>
      let g := ((grants[p.1]?).getD 0).toNat
      if p.1 = i || g = 0 || !p.2.open_ then best
      else
        let x' := { x with outs := x.outs.set p.1 { p.2 with open_ := false, remaining := none } }
        let s := share x' resting .ignored (fun _ => false) (fun _ => 0) strP
        if o.servedBy ((s.outT[i]?).getD 0) then
          let t := (wh * 3600000 + g - 1) / g
          match best with
          | some b => some (min b t)
          | none => some t
        else best) none

/-- R66: the estimate for one reason, in ms; none while unknown. `g` is the grant, `heldBy` that R51 holds the record. -/
def estimate (x : AlcIn) (resting : Nat → Bool) (strP : Nat → Int) (grants : List Int) (i : Nat) (o : OutIn) (g : Int) (heldBy : Bool)
    (reason : Nat) : Option Nat :=
  if reason = rsServed then some 0
  else if reason = rsCableThermal then (if o.cableTrec = 0xFFFF then none else some (o.cableTrec * 100))
  else if reason = rsPriority || reason = rsGridCap || reason = rsBatteryLimit || reason = rsPriorityFloor then
    (earliestEnd x resting strP grants i o).map
      (fun t => t + rampTime x g o.pDemand + (if heldBy then x.readmit * 10 else 0))
  else none

/-! The whole solve -/

/-- What a solve reads of the set published before: the grants and the reasons by record, the ends of the snowplough runs, the
readmission runs, the strings resting, and the instant of the solve: the tick instant, or that of an extra set (R72), which `extra` marks. -/
structure Before where
  grants : List Grant
  snowEnd : List Nat
  heldRun : List Nat
  resting : List Bool
  now : Nat
  extra : Bool
deriving DecidableEq, Repr

/-- What a solve yields: the 65 records, the new ends of snowplough runs, the readmission runs and the sharing step's outlet targets. -/
structure Solved where
  grants : List Grant
  snowEnd : List Nat
  heldRun : List Nat
  outT : List Int
deriving DecidableEq, Repr

def Before.p (b : Before) (i : Nat) : Int := ((b.grants[i]?).map (·.p)).getD 0

def Before.isResting (b : Before) (k : Nat) : Bool := (b.resting[k]?).getD false

/-- R51: refused at the previous tick. -/
def Before.isHeld (b : Before) (i : Nat) : Bool := ((b.grants[i]?).map (fun g => isRefusal g.reason)).getD false

/-- The previous grant of string `k`. -/
def Before.strP (b : Before) (nOut k : Nat) : Int := b.p (nOut + k)

/-- The sharing step of a solve. -/
def Before.shares (b : Before) (x : AlcIn) : Shares :=
  share x b.isResting (if b.extra then .extra else .tick) b.isHeld (fun i => (b.heldRun[i]?).getD 0) (b.strP x.outs.length)

/-- R57: a string's own limit for power in the direction of `p`: its limits and its battery-side stage capacity. -/
def StrIn.ownLimit (k : StrIn) (p : Int) : Nat := if p < 0 then min k.disW k.stageCap else min k.chgW k.stageCap

/-- R44, R61: the records that a stale input of the whole site (a grid point's measurement, a string's figures) affects are all of them, since
it enters the supply that all share; an outlet's own stale input affects its record and the grid's (DESIGN CHOICE, log entry 17). -/
def AlcIn.supplyStale (x : AlcIn) : Bool := x.gps.any (·.stale) || x.strs.any (·.stale)

/-- R56 to R60: from the targets to the grants of the 64 outlet and string records. `holdOk` of a record says that hysteresis may act on it;
`fallen` is R57's second condition, and in an extra set every decrease is a snowplough (R72). -/
def rampAll (x : AlcIn) (b : Before) (s : Shares) : List Ramped :=
  let nOut := x.outs.length
  let base := s.sGrid + s.sBat
  let prevSum := ((b.grants.take (nOut + x.strs.length)).map (fun g => g.p.toNat)).sum
  let runs := fun (i : Nat) => decide (b.now < (b.snowEnd[i]?).getD 0)
  let outs := fun (fallen holdOk : Bool) => (indexed x.outs).map (fun p =>
    rampOne x ((s.outT[p.1]?).getD 0) (b.p p.1) (p.2.ownLimit (b.p p.1)) fallen ((s.refused[p.1]?.join).isSome) (runs p.1) holdOk)
  let strs := fun (fallen holdOk : Bool) => (indexed x.strs).map (fun p =>
    let i := nOut + p.1
    rampOne x ((s.strT[p.1]?).getD 0) (b.p i) (if b.isResting p.1 then 0xFFFFFFFF else p.2.ownLimit (b.p i)) fallen
      p.2.refusal.isSome (runs i) holdOk)
  let all := fun (fallen holdOk : Bool) => outs fallen holdOk ++ strs fallen holdOk
  let fallen := b.extra || decide (base + s.disch < prevSum) ||
    decide (supplyOf base nOut (all (decide (base + s.disch < prevSum)) false) < prevSum)
  let l := holdEach base nOut [] ((all fallen false).zip (all fallen true))
  scaleBack (supplyOf base nOut l) l

/-- R61, R62, R65, R66: the record of an outlet. -/
def outRecord (x : AlcIn) (b : Before) (s : Shares) (grants : List Int) (i : Nat) (o : OutIn) (r : Ramped) : Grant :=
  let bounds := x.bounds b.isResting s.sGrid s.sBat
  let tr : Nat × Nat :=
    if o.isSource then
      if (o.offer : Int) ≤ -r.target then (rsServed, 0)
      else if (-r.target).toNat = o.localCap then targetReasons { o with request := o.offer, offer := 0 } o.localCap false bounds
      else (rsGridCap, 0)
    else targetReasons o r.target.toNat (metAlone x s i o) bounds
  let reasons : Nat × Nat :=
    match s.refused[i]?.join with
    | some c => (c, 0)
    | none =>
      if r.turned || (!r.held && decide (r.grant.natAbs < r.target.natAbs)) || r.scaled then (rsRamp, tr.1)
      else if o.servedBy r.grant then (rsServed, 0)
      else tr
  let heldBy := s.refused[i]?.join == some rsPriorityFloor && b.isHeld i
  let est := fun (reason : Nat) => estimate x b.isResting (b.strP x.outs.length) grants i o r.grant heldBy reason
  let tts : Option Nat :=
    if reasons.1 = rsRamp then (est reasons.2).map (fun t => t + rampTime x r.grant r.target) else est reasons.1
  { p := r.grant, iLimit := if o.open_ then min o.iMax o.cableA * 1000 else 0, vLimit := if o.open_ then o.vMax else 0,
    reason := reasons.1, reason2 := reasons.2, ramp := r.ramp, tts := (tts.map ttsUnits).getD ttsUnknown,
    demand := o.pDemand, floor := o.effFloor, tick := x.tick, cls := o.cls, weight := w1 o.weight, valid := o.en,
    snow := r.snow, held := r.held, floorMet := decide (o.effFloor ≤ r.grant.toNat), stale := o.stale || x.supplyStale,
    rest := false : Grant }

/-- R62: a string's claim. -/
def strClaim (s : Shares) (k : StrIn) (resting : Bool) : Int :=
  if 0 < s.batDraw then -(k.supply resting : Int)
  else if 0 < s.strT.sum then k.chargeRoom resting else 0

/-- R61, R62, R65 row 6: the record of a string. -/
def strRecord (x : AlcIn) (s : Shares) (k : StrIn) (resting : Bool) (r : Ramped) : Grant :=
  let claim := strClaim s k resting
  let reasons : Nat × Nat :=
    if k.refusal.isSome then (k.refusal.getD 0, 0)
    else if resting then (rsServed, 0)
    else if r.turned || (!r.held && decide (r.grant.natAbs < r.target.natAbs)) || r.scaled then
      (rsRamp, if r.target = claim then 0 else rsBatteryLimit)
    else if r.grant.natAbs < claim.natAbs then (rsBatteryLimit, 0) else (rsServed, 0)
  { p := r.grant, iLimit := (if r.grant < 0 then k.iDis else k.iChg) * 1000, vLimit := k.vMax, reason := reasons.1,
    reason2 := reasons.2, ramp := r.ramp, tts := if r.grant = claim then 0 else ttsUnknown, demand := claim, floor := 0,
    tick := x.tick, cls := 0, weight := w1 k.weight, valid := k.en, snow := r.snow, held := r.held, floorMet := true,
    stale := k.stale || x.supplyStale, rest := resting : Grant }

/-- R62: the grid record's P_DEMAND; `strs` are the strings' grants. -/
def gridDemand (x : AlcIn) (s : Shares) (strs : List Int) : Int :=
  if x.targetMode then x.target
  else
    let demands : Int := ((x.outs.filter (fun o => !o.isSource)).map (fun o => (o.demand : Int))).sum - s.disch
    demands - (if x.batteryFirst then (min demands.toNat s.sBat : Nat) else 0) + (strs.map (fun p => max p 0)).sum

/-- R54, R65: the grid record's reason. -/
def gridReason (x : AlcIn) (s : Shares) (p demand : Int) : Nat :=
  if x.targetMode then
    if p ≠ s.gridT then rsBatteryLimit else if s.gridT ≠ x.target then rsGridCap else rsServed
  else if p < demand && decide (s.sGrid ≤ p.toNat) then rsGridCap else rsServed

/-- R61, R62: the record of the grid; `grants` are those of the outlets and strings. -/
def gridRecord (x : AlcIn) (s : Shares) (grants : List Int) : Grant :=
  let p := grants.sum
  let demand := gridDemand x s (grants.drop x.outs.length)
  { p := p, iLimit := 0, vLimit := 0, reason := gridReason x s p demand, reason2 := 0, ramp := x.up / 100,
    tts := if p = demand then 0 else ttsUnknown, demand := demand, floor := 0, tick := x.tick, cls := 0, weight := 0, valid := x.run,
    snow := false, held := false, floorMet := true, stale := x.supplyStale || x.outs.any (·.stale), rest := false }

/-- R56: the end of a record's snowplough run after a tick at `now`. -/
def runEnd (x : AlcIn) (now was : Nat) (r : Ramped) : Nat :=
  let mg := r.grant.natAbs
  let mp := r.prev.natAbs
  if mp < mg then 0 else if r.newSnow then now + (mp - mg) * 1000000 / (max 1 x.snow) else was

/-- R47 to R66 for one tick or one extra set. -/
def solve (x : AlcIn) (b : Before) : Solved :=
  let s := b.shares x
  let all := rampAll x b s
  let grants := all.map (·.grant)
  let rec_ := fun (i : Nat) => (all[i]?).getD ⟨0, 0, 0, 0, false, false, false, false, false⟩
  let outG := (indexed x.outs).map (fun p => outRecord x b s grants p.1 p.2 (rec_ p.1))
  let strG := (indexed x.strs).map (fun p => strRecord x s p.2 (b.isResting p.1) (rec_ (x.outs.length + p.1)))
  { grants := outG ++ strG ++ [gridRecord x s grants]
    snowEnd := (indexed all).map (fun q => runEnd x b.now ((b.snowEnd[q.1]?).getD 0) q.2) ++ [0]
    heldRun := (indexed x.outs).map (fun p => ((s.runs.find? (·.1 == p.1)).map (·.2)).getD 0)
    outT := s.outT }

/-- R47, R60: the supply of a solved set: the grid's, the battery's, and the outlets' discharge as granted. -/
def solvedSupply (x : AlcIn) (b : Before) (s : Solved) : Nat :=
  x.sGrid + ((indexed x.strs).map (fun p => p.2.supply (b.isResting p.1))).sum +
    ((s.grants.take x.outs.length).map (fun g => (-g.p).toNat)).sum

/-- R74: the check every solved set passes before publication: refused records at 0, every grant within its record's own limits, the
drawing grants within the supply. -/
def checkSet (x : AlcIn) (b : Before) (s : Solved) : Bool :=
  ((indexed x.outs).all (fun p =>
    (s.grants[p.1]?).any (fun g => (p.2.refusal.isNone || g.p == 0) && decide (g.p.natAbs ≤ p.2.ownLimit g.p)))) &&
  ((indexed x.strs).all (fun p =>
    (s.grants[x.outs.length + p.1]?).any (fun g =>
      (p.2.refusal.isNone || g.p == 0) && (b.isResting p.1 || decide (g.p.natAbs ≤ p.2.ownLimit g.p))))) &&
  decide (((s.grants.take (x.outs.length + x.strs.length)).map (fun g => g.p.toNat)).sum ≤ solvedSupply x b s)

/-- R74: the fallback set: each grant the lower of its previous value and its own limits, every decrease a snowplough, every
reason copied; a snowplough that still runs goes on (R56). -/
def fallbackSet (x : AlcIn) (b : Before) : List Grant :=
  let cut := fun (i lim : Nat) =>
    let g := (b.grants[i]?).getD ⟨0, 0, 0, rsSafetyHold, 0, 0, ttsUnknown, 0, 0, x.tick, 0, 0, false, false, false, false, false, false⟩
    let m := min g.p.natAbs lim
    let snow := decide (m < g.p.natAbs) || decide (b.now < (b.snowEnd[i]?).getD 0)
    { g with p := sgn g.p * m, tick := x.tick, snow := snow, held := false, ramp := if snow then x.snow / 100 else g.ramp }
  let outs := (indexed x.outs).map (fun p =>
    cut p.1 (if p.2.refusal.isSome then 0 else p.2.ownLimit (b.p p.1)))
  let strs := (indexed x.strs).map (fun p =>
    cut (x.outs.length + p.1) (if p.2.refusal.isSome then 0 else p.2.ownLimit (b.strP x.outs.length p.1)))
  let g := (b.grants[x.outs.length + x.strs.length]?).getD
    ⟨0, 0, 0, rsServed, 0, 0, 0, 0, 0, x.tick, 0, 0, false, false, false, true, false, false⟩
  let grid := { g with p := ((outs ++ strs).map (·.p)).sum, tick := x.tick }
  outs ++ strs ++ [grid]

/-- R56: the falls of a fallback set, by record. -/
def fallsOf (b : Before) (gs : List Grant) : List (Nat × Nat) :=
  (indexed gs).filterMap (fun q =>
    let d := (b.p q.1).natAbs - q.2.p.natAbs
    if q.1 < 64 && decide (0 < d) then some (q.1, d) else none)

end Sys2Proof.Machine
end

