-- ==== Sys2Proof/Machine/Alloc.lean ====
section
/-! DEFINITION. The allocator's grant set and its immediate sets: publication (R61 to R63, R67), site trips (R70, R71), a lost
grid point (R72), category 1 stops (R73), SAFE-HOLD's refusal set (R41, R75), and starting and stopping (R76). -/

namespace Sys2Proof.Machine

/-- The record of the grid. -/
def recGrid : Nat := 64

namespace Dev

/-! Grant records (R61) -/

/-- The grant record `i` of the window. -/
def getGrant (s : Dev) (i : Nat) : Grant where
  p := s.geti (ALC_GRANT_W0_P_GRANT i)
  iLimit := s.get (ALC_GRANT_W1_I_LIMIT i)
  vLimit := s.get (ALC_GRANT_W2_V_LIMIT i)
  reason := s.get (ALC_GRANT_W2_REASON i)
  reason2 := s.get (ALC_GRANT_W2_REASON2 i)
  ramp := s.get (ALC_GRANT_W3_RAMP i)
  tts := s.get (ALC_GRANT_W3_TTS i)
  demand := s.geti (ALC_GRANT_W4_P_DEMAND i)
  floor := s.get (ALC_GRANT_W5_P_FLOOR i)
  tick := s.get (ALC_GRANT_W6_TICK i)
  cls := s.get (ALC_GRANT_W7_CLASS i)
  weight := s.get (ALC_GRANT_W7_WEIGHT i)
  valid := s.flag (ALC_GRANT_W7_VALID i)
  snow := s.flag (ALC_GRANT_W7_SNOWPLOUGH i)
  held := s.flag (ALC_GRANT_W7_HELD i)
  floorMet := s.flag (ALC_GRANT_W7_FLOOR_MET i)
  stale := s.flag (ALC_GRANT_W7_STALE_INPUT i)
  rest := s.flag (ALC_GRANT_W7_REST i)

/-- R61: the last word of a record; `discharge` says that P_GRANT is a discharge, which a grid record's never is (DESIGN CHOICE, log entry 18). -/
def grantFlags (g : Grant) (discharge : Bool) : Word :=
  BitVec.ofNat 32 (discharge.toNat * 2 ^ 22 + g.rest.toNat * 2 ^ 21 + g.stale.toNat * 2 ^ 20 +
    g.floorMet.toNat * 2 ^ 19 + g.held.toNat * 2 ^ 18 + g.snow.toNat * 2 ^ 17 + g.valid.toNat * 2 ^ 16 +
    g.weight % 256 * 2 ^ 8 + g.cls % 8)

/-- Write grant record `i`. A negative P_GRANT of an outlet or a string is a discharge; the grid record's is an export (DESIGN CHOICE, log
entry 18). -/
def putGrant (s : Dev) (i : Nat) (g : Grant) : Dev :=
  let s := ((s.wr (ALC_GRANT_W0 i) (BitVec.ofInt 32 g.p)).wr (ALC_GRANT_W1 i) (BitVec.ofNat 32 g.iLimit)).set
    (ALC_GRANT_W2_V_LIMIT i) g.vLimit
  let s := (s.set (ALC_GRANT_W2_REASON i) g.reason).set (ALC_GRANT_W2_REASON2 i) g.reason2
  let s := (s.set (ALC_GRANT_W3_RAMP i) g.ramp).set (ALC_GRANT_W3_TTS i) g.tts
  let s := (s.wr (ALC_GRANT_W4 i) (BitVec.ofInt 32 g.demand)).wr (ALC_GRANT_W5 i) (BitVec.ofNat 32 g.floor)
  (s.wr (ALC_GRANT_W6 i) (BitVec.ofNat 32 g.tick)).wr (ALC_GRANT_W7 i) (grantFlags g (decide (g.p < 0) && i != recGrid))

/-- Every record in use by the window, outlets, strings, grid. -/
def grantSet (s : Dev) : List Grant := (List.range 65).map (fun i => s.getGrant i)

/-- R274: the grants reach the sessions. -/
def tellSessions (s : Dev) : Dev :=
  s.forEach (idx 16) (fun (n : Fin 16) s =>
    s.sessionReason n (s.get (ALC_GRANT_W2_REASON n)) (s.geti (ALC_GRANT_W0_P_GRANT n)) (s.flag (ALC_GRANT_W7_VALID n)))

/-- R67: the payload of GRANT_CHANGE. -/
def grantChangePayload (i : Nat) (g : Grant) : List Byte :=
  leBytes 1 i ++ leBytes 1 g.reason ++ leBytes 1 g.reason2 ++ leBytes 4 (BitVec.ofInt 32 g.p).toNat ++ leBytes 2 g.tts

/-- R120 KIND 6: a field of a grant record. -/
def grantSource (s : Dev) (i : Nat) : F32 :=
  let r := i % 128
  let k := i / 128
  if !s.flag (ALC_GRANT_W7_VALID r) then 0
  else if k = 0 then F32.ofInt (s.geti (ALC_GRANT_W0_P_GRANT r))
  else if k = 1 then F32.ofFrac (s.get (ALC_GRANT_W1_I_LIMIT r)) 1000
  else F32.ofFrac (s.get (ALC_GRANT_W2_V_LIMIT r)) 10

def modSlot (s : Dev) (m : Fin 128) (f : SlotSt → SlotSt) : Dev := s.putCle { s.cle with slots := vupd s.cle.slots m f }

/-- R117, R24: a source whose change in the CTL tick of a sample instant is captured: the set-point register, another slot's output, a grant
record. The others stand as captured. -/
def tickSource (s : Dev) (m k i : Nat) (old : F32) : F32 :=
  if k = 1 then s.rd (CLE_SLOT_SP_REG m)
  else if k = 4 then s.rd (if i < 128 then CLE_SLOT_OUT0 i else CLE_SLOT_OUT1 (i % 128))
  else if k = 6 then s.grantSource i
  else old

/-- R117, R24: a slot that samples in this CTL tick takes what the tick has changed. -/
def resample (s : Dev) (m : Fin 128) : Dev :=
  let ia := s.get (CLE_SLOT_SRCA_INDEX m)
  let f := fun (e : SlotExec) =>
    { e with
      rawA := s.tickSource m (s.get (CLE_SLOT_SRCA_KIND m)) ia e.rawA
      rawB := if s.get (CLE_SLOT_CFG_TYPE m) = 3 then e.rawB
        else s.tickSource m (s.get (CLE_SLOT_SRCB_KIND m)) (s.get (CLE_SLOT_SRCB_INDEX m)) e.rawB
      rate := F32.ofInt (s.get (ALC_GRANT_W3_RAMP (ia % 128))) }
  s.modSlot m (fun x => { x with queued := x.queued.map f })

/-- R24, R117: every execution sampled in this CTL tick. -/
def resampleAll (s : Dev) : Dev :=
  s.forEach ((idx 128).filter (fun (m : Fin 128) => s.cle.slots[m].queued.any (fun e => e.sampleDt == s.dt))) (fun m s => s.resample m)

/-- R68: the battery draw of the published set joins those of the last 60 s; the one in force at the start of that time stays. -/
def noteDraw (s : Dev) : Dev :=
  let d := ((List.range 48).map (fun k => (-(s.geti (ALC_GRANT_W0_P_GRANT (16 + k)))).toNat)).sum
  let recent := fun (q : Nat × Nat) => decide (s.dt ≤ q.1 + sec 60)
  s.putAlc { s.alc with draws := (s.dt, d) :: (s.alc.draws.takeWhile recent ++ (s.alc.draws.dropWhile recent).take 1) }

/-- R63, R67, R83: publish a grant set as one swap, with the events its changes raise. -/
def publish (s : Dev) (gs : List Grant) : Dev :=
  let old := s.grantSet
  let pairs := (indexed gs).zip old
  let s := s.forEach (indexed gs) (fun q s => s.putGrant q.1 q.2)
  let s := ((s.bump ALC_GRANT_SEQ).setb ALC_STATUS_SNOWPLOUGH (gs.any (·.snow))).noteDraw.resampleAll
  let s := s.forEach (pairs.filter (fun q =>
      q.1.2.reason != q.2.reason || q.1.2.reason2 != q.2.reason2 || q.1.2.valid != q.2.valid))
    (fun q s => s.post EV_ALC_GRANT_CHANGE (grantChangePayload q.1.1 q.1.2))
  (s.forEach (pairs.filter (fun q => q.1.2.snow && !q.2.snow)) (fun _ s => s.post EV_ALC_SNOWPLOUGH)).tellSessions

/-! Immediate sets (R75) -/

/-- A tick's set that is not yet published is discarded (R75). -/
def dropTick (s : Dev) : Dev := s.putAlc { s.alc with frozen := none }

/-- R57, R58, R76: the snowplough rate in 0.1 kW per ms, as it stood at the last tick. -/
def snowRate (s : Dev) : Nat := (s.alc.lastIn.map (fun x => x.snow / 100)).getD (s.get ALC_SNOW_RATE)

/-- R66: TTS of a string or grid record. -/
def plainTts (p demand : Int) : Nat := if p = demand then 0 else ttsUnknown

/-- Record `i` refused at once: grant 0 with the reason. -/
def refusedGrant (s : Dev) (reason : Nat) (snow : Bool) (i : Nat) (g : Grant) : Grant :=
  { g with
    p := 0
    reason := reason
    reason2 := 0
    ramp := if snow then s.snowRate else g.ramp
    tts := if i < 16 then ttsUnknown else plainTts 0 g.demand
    snow := snow
    held := false
    floorMet := decide (g.floor = 0) }

/-- R56: note the snowplough runs that a set published now starts: records and how far they fall, in W. -/
def startSnow (s : Dev) (falls : List (Nat × Nat)) : Dev :=
  let stop := fun (fall : Nat) => s.dt + fall * 1000000 / max 1 (s.snowRate * 100)
  let ends := (List.range 65).map (fun i =>
    match falls.find? (fun q => q.1 == i) with
    | some q => stop q.2
    | none => (s.alc.snowEnd.toList[i]?).getD 0)
  (s.putAlc { s.alc with snowEnd := Vector.ofFn (fun (i : Fin 65) => (ends[i.val]?).getD 0) })

/-- R62: the grid record with another P_GRANT. -/
def gridWith (g : Grant) (p : Int) : Grant := { g with p := p, tts := plainTts p g.demand, snow := false, held := false }

/-- R70, R73, R41: publish a set in which every outlet and string grant is 0 with `reason` and the grid target is 0. -/
def refuseAll (s : Dev) (reason : Nat) (snow : Bool) : Dev :=
  let s := s.when snow (fun s => s.startSnow ((List.range 64).map (fun i => (i, (s.getGrant i).p.natAbs))))
  let gs := (indexed s.grantSet).map (fun q => if q.1 = recGrid then gridWith q.2 0 else s.refusedGrant reason snow q.1 q.2)
  s.dropTick.publish gs

/-- R156: refuse one outlet at once with the snowplough; the grid record follows the sum (R62). -/
def refuseOutlet (s : Dev) (n : Nat) : Dev :=
  let was := (s.getGrant n).p
  let s := s.startSnow [(n, was.natAbs)]
  let gs := (indexed s.grantSet).map (fun q =>
    if q.1 = n then s.refusedGrant rsSafetyHold true n q.2
    else if q.1 = recGrid then gridWith q.2 (q.2.p - was) else q.2)
  s.dropTick.publish gs

/-! Site trips (R70, R71, R104) -/

/-- R20, R46: the role and attachment of a stage. -/
def stageRole (s : Dev) (st : Nat) : Nat := s.get (ALC_STAGE_MAP_ROLE st)
def stageAttach (s : Dev) (st : Nat) : Nat := s.get (ALC_STAGE_MAP_ATTACH st)

/-- R104: the force each stage is under. -/
def refreshForce (s : Dev) : Dev :=
  s.forEach (List.range 64) (fun st s =>
    s.setAllocForce st (s.flag ALC_STATUS_TRIPPED ||
      (s.stageRole st == 1 && (s.alc.gpCounts.toList[s.stageAttach st]?).any (fun c => !c))))

/-- R70: a site trip, or a further cause while one is latched. -/
def siteTrip (s : Dev) (cause : Field) : Dev :=
  let was := s.flag ALC_STATUS_TRIPPED
  let s := (s.setb cause true).setb ALC_STATUS_TRIPPED true
  if was then s
  else (((s.refuseAll rsSiteTrip false).refreshForce).post EV_ALC_SITE_TRIP).freeze .siteTrip

/-- R70: the host trip. -/
def hostTrip (s : Dev) : Dev := (s.setb ALC_TRIP_HOST_TRIP true).siteTrip ALC_TRIP_CAUSE_HOST

/-- R309: a grid point that Energy Metering reports lost. -/
def gridLost (s : Dev) (g : Nat) : Bool := s.flag (MTR_GP_STATUS_LOST g)

/-- R71: a cause that a clear cannot remove is present. -/
def tripCausePresent (s : Dev) : Bool :=
  (s.flag ALC_TRIP_CAUSE_ESTOP0 && s.get SAF_STATUS_SITE_STOP == 2) ||
    (s.flag ALC_TRIP_CAUSE_GRID && (s.gridLost 0 || s.gridLost 1))

/-- R71: a request to clear the trip; the Bool says that it was refused. -/
def tripClear (s : Dev) : Dev × Bool :=
  if s.tripCausePresent then (s.latch ALC_STATUS_CLEAR_REFUSED, true)
  else if !s.flag ALC_STATUS_TRIPPED then (s, false)
  else
    let s := s.wr ALC_TRIP 0
    let s := (s.setb ALC_STATUS_TRIPPED false).putAlc { s.alc with heldRun := Vector.replicate 16 0 }
    ((s.refreshForce).post EV_ALC_TRIP_CLEARED, false)

/-! A lost grid point (R72) -/

/-- The set published before, as a solve at the instant `now` reads it. -/
def before (s : Dev) (now : Nat) (extra : Bool) : Before where
  grants := s.grantSet
  snowEnd := s.alc.snowEnd.toList
  heldRun := s.alc.heldRun.toList
  resting := s.alc.rests.toList.map (·.resting)
  now := now
  extra := extra

/-- Take over what a solve yields beside its grants. -/
def keepSolved (s : Dev) (r : Solved) : Dev :=
  s.putAlc { s.alc with
    snowEnd := Vector.ofFn (fun (i : Fin 65) => (r.snowEnd[i.val]?).getD 0)
    heldRun := Vector.ofFn (fun (i : Fin 16) => (r.heldRun[i.val]?).getD 0) }

/-- R74: a failed solve: the fallback set, and the third in a row trips the site. -/
def solveFailed (s : Dev) (x : AlcIn) (b : Before) : Dev :=
  let gs := fallbackSet x b
  let s := (s.startSnow (fallsOf b gs)).publish gs
  let s := (s.incSat ALC_STATUS_SOLVE_FAILS).post EV_ALC_SOLVE_FAIL
  s.when (decide (3 ≤ s.get ALC_STATUS_SOLVE_FAILS)) (·.siteTrip ALC_TRIP_CAUSE_SOLVE)

/-- R23, R74: a set is solved, checked and published; `fault` says that the solver has gone wrong. -/
def solvePublish (s : Dev) (x : AlcIn) (b : Before) (fault : Bool) : Dev :=
  let r := solve x b
  if fault || !checkSet x b r then s.solveFailed x b
  else ((s.keepSolved r).publish r.grants).set ALC_STATUS_SOLVE_FAILS 0

/-- A grid point of the frozen inputs taken as lost. -/
def AlcIn.without (x : AlcIn) (g : Nat) : AlcIn :=
  { x with gps := (indexed x.gps).map (fun q => if q.1 = g then { q.2 with counts := false } else q.2) }

/-- R41, R70, R73, R156: what refuses an outlet (every string, for `none`) under a cause that publishes at once, whatever the inputs frozen
before it say. -/
def refusedNow (s : Dev) (n : Option Nat) : Option Nat :=
  if s.flag ALC_STATUS_TRIPPED then some rsSiteTrip
  else if s.flag GEN_LIFECYCLE_SAFE_HOLD || s.get SAF_STATUS_SITE_STOP != 0 || n.any (fun i => s.flag (THM_CAB_STATUS_HARD i)) then
    some rsSafetyHold
  else none

/-- R73, R75: the inputs frozen at the last tick, under the refusals of the causes since. -/
def underCauses (s : Dev) (x : AlcIn) : AlcIn :=
  { x with
    outs := (indexed x.outs).map (fun q => { q.2 with refusal := (s.refusedNow (some q.1)).or q.2.refusal })
    strs := x.strs.map (fun k => { k with refusal := (s.refusedNow none).or k.refusal }) }

/-- R72: solve again from the inputs frozen at the last tick with the point's supply taken as 0. -/
def resolveWithout (s : Dev) (g : Nat) : Dev :=
  match s.alc.lastIn with
  | none => s
  | some x =>
    let x' := AlcIn.without x g
    let s := s.putAlc { s.alc with lastIn := some x' }
    if !x.run then s else s.dropTick.solvePublish (s.underCauses x') (s.before s.dt true) false

/-- R76: ALC_CTRL.GRID_LOSS_RIDE as it stood at the last tick. -/
def lossRide (s : Dev) : Bool := (s.alc.lastIn.map (·.ride)).getD (s.flag ALC_CTRL_GRID_LOSS_RIDE)

/-- R70, R72: Energy Metering reports grid point `g` lost. -/
def gridPointLost (s : Dev) (g : Fin 2) : Dev :=
  let s := s.putAlc { s.alc with gpBack := s.alc.gpBack.set g none }
  if s.lossRide then
    let s := s.putAlc { s.alc with gpCounts := s.alc.gpCounts.set g false }
    ((s.resolveWithout g).refreshForce).post EV_ALC_GRID_POINT_LOST
  else s.siteTrip ALC_TRIP_CAUSE_GRID

/-- R72: the loss report of grid point `g` has gone. -/
def gridPointBack (s : Dev) (g : Fin 2) : Dev := s.putAlc { s.alc with gpBack := s.alc.gpBack.set g (some s.dt) }

/-- R70: a point that is lost while GRID_LOSS_RIDE = 0 comes into force at a tick trips the site. -/
def lostAtTick (s : Dev) : Dev :=
  s.when (!s.flag ALC_CTRL_GRID_LOSS_RIDE && !s.flag ALC_TRIP_CAUSE_GRID && (s.gridLost 0 || s.gridLost 1))
    (·.siteTrip ALC_TRIP_CAUSE_GRID)

/-! Starting and stopping (R76) -/

/-- R76: an outlet is energised or a session is open. -/
def siteLive (s : Dev) : Bool := s.get VSS_STATUS_ENERGISED != 0 || s.get VSS_STATUS_ACTIVE != 0

/-- R76: a write of ALC_CTRL.RUN, which the ticks follow from the next one on; the code is the rejection's, if any. -/
def writeRun (s : Dev) (run : Bool) : Dev × Option Code :=
  if !run && s.flag ALC_CTRL_RUN && s.siteLive then (s.incSat ALC_REJECT_CNT_CNT, some ST_BUSY_LIVE)
  else (s.setb ALC_CTRL_RUN run, none)

end Dev

/-! The commands -/

/-- R76: ALC_RUN_WRITE. -/
def effAlcRunWrite (run : Bool) (s : Dev) : Dev :=
  let r := s.writeRun run
  r.1.answer (r.2.getD ST_OK)

def execAlcRunWrite (run : Bool) (s : State) : Host.Outcome State Fault Refusal := s.onReg 0x02 (effAlcRunWrite run)

/-- R80, R71, R9: ALC_HOST_TRIP: a write of 1 to HOST_TRIP, alone or together with CLEAR. A 1 written to the set bit has no
effect, so a CLEAR beside it is then judged by itself. -/
def effAlcHostTrip (withClear : Bool) (s : Dev) : Dev :=
  if s.flag ALC_TRIP_HOST_TRIP then (if withClear then s.tripClear.1 else s).answer ST_OK
  else (s.hostTrip.when withClear (·.latch ALC_STATUS_CLEAR_REFUSED)).answer ST_OK

def execAlcHostTrip (withClear : Bool) (s : State) : Host.Outcome State Fault Refusal := s.onReg 0x02 (effAlcHostTrip withClear)

/-- R71: ALC_TRIP_CLEAR. -/
def effAlcTripClear (s : Dev) : Dev := s.tripClear.1.answer ST_OK

def execAlcTripClear (s : State) : Host.Outcome State Fault Refusal := s.onReg 0x02 effAlcTripClear

/-- R71: the TRIP_CLEAR descriptor. -/
def effTripClear (src : Src) (s : Dev) : Dev :=
  let r := s.tripClear
  r.1.complete src (if r.2 then ST_ALC_TRIP_CAUSE_PRESENT else ST_OK)

def execTripClear (src : Src) (s : State) : Host.Outcome State Fault Refusal := s.onHost src false false (effTripClear src)

/-- R72: GRID_POINT_RECOUNT: the loss report has been absent for 10 s. -/
def effGridPointRecount (g : Fin 2) (s : Dev) : Dev :=
  match s.alc.gpBack[g] with
  | some t =>
    if s.alc.gpCounts[g] then s
    else
      let s := s.reach (t + Dev.sec 10)
      (s.putAlc { s.alc with gpCounts := s.alc.gpCounts.set g true } : Dev).refreshForce
  | none => s

def execGridPointRecount (g : Fin 2) (s : State) : Host.Outcome State Fault Refusal := s.onRun (effGridPointRecount g)

end Sys2Proof.Machine
end

