-- ==== Sys2Proof/Machine/Battery.lean ====
section
/-! DEFINITION. The battery string state estimator (R383 to R407). Percentages, volts, amperes and ampere-hours are exact rational
numbers; the registers show them rounded down (log entry 6). -/

namespace Sys2Proof.Machine

/-- R406: BSE_STR_STATUS.STATE. -/
def bsOff : Nat := 0
def bsActive : Nat := 1
def bsRest : Nat := 2
def bsHibernated : Nat := 3

/-- R396: the causes of a swap, in the order of its table. -/
def swIdentity : Nat := 1
def swVoltage : Nat := 2
def swHost : Nat := 3

/-- R392: POSTPONE. -/
def ppNone : Nat := 0
def ppMaxResting : Nat := 1
def ppNeeded : Nat := 2
def ppDisabled : Nat := 3

def rabs (x : Rat) : Rat := if x < 0 then -x else x

/-- A whole number of hundredths, tenths or halves, rounded down. -/
def floorBy (n : Nat) (x : Rat) : Int := (x * n).floor

/-- The whole number nearest to a rational number, halves upwards. -/
def nearest (x : Rat) : Int := (x + 1 / 2).floor

/-- R384: SOC_INT is held within −20 % to +120 %. -/
def clampSoc (x : Rat) : Rat := min (max x (-20)) 120

/-- R384: UNC up to 127.5 %. -/
def clampUnc (x : Rat) : Rat := min x (255 / 2)

namespace Dev

def modBse (s : Dev) (f : Bse → Bse) : Dev := s.putBse (f s.bse)

def modStr (s : Dev) (k : Fin 48) (f : Str → Str) : Dev := s.modBse (fun b => { b with strs := vupd b.strs k f })

def str (s : Dev) (k : Fin 48) : Str := s.bse.strs[k]

/-- R402: the string is enabled. -/
def strEn (s : Dev) (k : Nat) : Bool := s.flag (BSE_STR_CFG_EN k)

/-- R383: the interface a string is bound to. -/
def strNode (s : Dev) (k : Nat) : Option (Fin 128) := s.nodeById (s.get64 (BSE_STR_NODE_LO k)) 6

/-- A field in 0.1 units. -/
def tenths (s : Dev) (f : Field) : Rat := (s.get f : Rat) / 10

/-- R406: CAP in Ah. -/
def strCap (s : Dev) (k : Nat) : Rat := s.tenths (BSE_STR_CAP_CAP k)

def extraCommit (s : Dev) : Dev := s.modBse (fun b => { b with extra := true })

/-- R407: every event of the block carries the string index. -/
def postStr (s : Dev) (c : Code) (k : Nat) (more : List Byte := []) : Dev := s.post c (leBytes 1 k ++ more)

/-! What the registers show (R405, R406) -/

def enabledStrings (s : Dev) : List (Fin 48) := (idx 48).filter (fun (k : Fin 48) => s.strEn k)

def bseSummary (s : Dev) : Dev :=
  let l := s.enabledStrings
  ((s.set BSE_STATUS_ENABLED l.length).set BSE_STATUS_STARVED (l.filter (fun (k : Fin 48) => s.flag (BSE_STR_STATUS_STARVED k))).length).set
    BSE_STATUS_HIBERNATED (l.filter (fun (k : Fin 48) => s.get (BSE_STR_STATUS_STATE k) == bsHibernated)).length

def showStr (s : Dev) (k : Fin 48) : Dev :=
  let x := s.str k
  ((((s.seti (BSE_STR_SOC_SOC_INT k) (floorBy 100 x.soc)).seti (BSE_STR_SOC_SOC_REP k) (floorBy 100 x.rep)).seti
    (BSE_STR_STATUS_UNC k) (floorBy 2 x.unc)).set (BSE_STR_STATUS_POINTS k) x.points.length)

/-! Counting (R384) -/

/-- R384: nothing was counted: the third row of the table. An anchor's hold is broken with the count: its current is unknown
(DEDUCED, log entry 40). -/
def countBroken (s : Dev) (k : Fin 48) : Dev :=
  ((s.setb (BSE_STR_STATUS_UNANCHORED k) true).latch (BSE_STR_STATUS_COUNT_GAP k)).modStr k (fun x =>
    { x with
      points := []
      fullSince := none
      emptySince := none
      gap := true })

/-- R384: the charge of a trapezoid of `gap` ns, in Ah. -/
def trapezoid (i0 i1 : Rat) (gap : Nat) : Rat := (i0 + i1) / 2 * gap / 3600000000000

/-- R384: count the charge between two samples. The 100 ms gaps of hibernation, up to the first sample at 1 kHz after it, break no rest
(R398). -/
def countCharge (s : Dev) (k : Fin 48) (i0 i1 : Rat) (gap : Nat) : Dev :=
  let q := trapezoid i0 i1 gap
  let cap := s.strCap k
  let d : Rat := if cap = 0 then 0 else q / cap * 100
  let long := decide (ms 20 < gap)
  let soc := (s.str k).soc + d
  let s := s.modStr k (fun x =>
    { x with
      soc := clampSoc soc
      ds := x.ds + (clampSoc soc - x.soc)
      unc := clampUnc (x.unc + if long then rabs d else rabs d / 500)
      count := x.count + q
      thru := x.thru + trapezoid (rabs i0) (rabs i1) gap
      gap := x.gap || (long && !x.slow)
      slow := x.slow && (long || s.get (BSE_STR_STATUS_STATE k) == bsHibernated) })
  let s := s.when long (·.latch (BSE_STR_STATUS_COUNT_GAP k))
  s.when (decide (soc < -20) || decide (120 < soc)) (·.setb (BSE_STR_STATUS_UNANCHORED k) true)

/-- R384, R399: what the interval before a sample at `t` counts. -/
def countSample (s : Dev) (k : Fin 48) (t : Nat) (i : Rat) : Dev :=
  let x := s.str k
  if x.noBridge then
    let long := x.unknown || x.last.any (fun l => decide (l.1 + sec 60 < t))
    (s.countBroken k).modStr k (fun x =>
      { x with
        noBridge := false
        unknown := false
        longGap := x.longGap || long })
  else
    match x.last with
    | none => s
    | some (t0, _, i0) =>
      if t - t0 ≤ sec 1 then s.countCharge k i0 i (t - t0)
      else (s.countBroken k).modStr k (fun x => { x with longGap := x.longGap || decide (sec 60 < t - t0) })

/-! OCV (R388, R389) -/

/-- R404: point `p` of OCV table `j`, in mV. -/
def ocvPoint (s : Dev) (j p : Nat) : Nat :=
  if p % 2 = 0 then s.get (BSE_OCV_LO j (p / 2)) else s.get (BSE_OCV_HI j (p / 2))

/-- R389: the table is valid. -/
def ocvValid (s : Dev) (j : Nat) : Bool :=
  (List.range 10).all (fun p => decide (s.ocvPoint j p < s.ocvPoint j (p + 1))) &&
    (List.range 11).all (fun p => decide (1000 ≤ s.ocvPoint j p) && decide (s.ocvPoint j p ≤ 5000))

/-- R388: SOC_OCV in % of a cell voltage in mV. -/
def socOcv (s : Dev) (j : Nat) (mv : Rat) : Rat :=
  if mv ≤ s.ocvPoint j 0 then 0
  else
    match (List.range 10).find? (fun p => decide (mv ≤ s.ocvPoint j (p + 1))) with
    | some p =>
      let a : Rat := s.ocvPoint j p
      let b : Rat := s.ocvPoint j (p + 1)
      10 * p + 10 * (mv - a) / (b - a)
    | none => 100

/-- R388: SOC_OCV of a string from a string voltage. -/
def strOcv (s : Dev) (k : Nat) (v : Rat) : Rat :=
  s.socOcv (s.get (BSE_STR_CFG_OCV_TBL k)) (v * 1000 / s.get (BSE_STR_CFG_CELLS k))

/-! First estimates (R397) -/

/-- R388: T_REST in ns, and whether the string has been at rest for it. -/
def restedFor (s : Dev) (k : Fin 48) : Bool :=
  (s.str k).restSince.any (fun t => decide (t + sec (s.get (BSE_STR_REST_T_REST k)) ≤ s.dt))

/-- R397: a first estimate from SOC_OCV. -/
def estimate (s : Dev) (k : Fin 48) (ocv : Rat) (atRest : Bool) : Dev :=
  let s := s.modStr k (fun x =>
    { x with
      soc := ocv
      rep := ocv
      ds := 0
      unc := if atRest then 5 else 15
      estDue := false })
  let s := s.setb (BSE_STR_STATUS_FIRST_EST k) (!atRest)
  s.when atRest (·.setb (BSE_STR_STATUS_UNANCHORED k) false)

/-- R397: a first estimate from the present voltage, or at the first sample. -/
def estimateNow (s : Dev) (k : Fin 48) : Dev :=
  match (s.str k).last with
  | some (_, v, _) => s.estimate k (s.strOcv k v) (s.restedFor k)
  | none => s.modStr k (fun x => { x with estDue := true })

/-! Samples (R383, R384, R386, R388, R398) -/

/-- R383, R398: write the interface's TELE_RATE: 1 kHz for `rate` 1, 10 Hz for 2. -/
def strRate (s : Dev) (k : Fin 48) (rate : Nat) : Dev :=
  match s.strNode k with
  | none => s
  | some i => (s.sendCtrl i true 0x0005 1 [BitVec.ofNat 32 (if rate = 1 then 2 else 0)] .rate).modStr k (fun x => { x with rate := rate })

/-- R398: a string wakes. -/
def strWake (s : Dev) (k : Fin 48) : Dev :=
  if s.get (BSE_STR_STATUS_STATE k) = bsHibernated then
    ((s.set (BSE_STR_STATUS_STATE k) bsActive).strRate k 1).postStr EV_BSE_WOKEN k
  else s

/-- R386: the FULL and EMPTY conditions. -/
def fullCond (s : Dev) (k : Nat) (v i : Rat) : Bool :=
  decide (s.tenths (BSE_STR_FULL_V_FULL k) ≤ v) && decide (0 ≤ i) && decide (i ≤ s.tenths (BSE_STR_FULL_I_TAPER k))

def emptyCond (s : Dev) (k : Nat) (v i : Rat) : Bool :=
  decide (v ≤ s.tenths (BSE_STR_EMPTY_V_EMPTY k)) && decide (-s.tenths (BSE_STR_EMPTY_I_TAPER_E k) ≤ i) && decide (i ≤ 0)

/-- R384 to R388: a sample of string `k` taken at `t`. -/
def strSample (s : Dev) (k : Fin 48) (t : Nat) (v i : Rat) : Dev :=
  if (s.str k).last.any (fun l => decide (t ≤ l.1)) && !(s.str k).noBridge then s
  else
    let s := s.countSample k t i
    let full := s.fullCond k v i
    let empty := s.emptyCond k v i
    let rest := decide (rabs i < s.tenths (BSE_STR_REST_I_REST k))
    let s := s.modStr k (fun x =>
      { x with
        last := some (t, v, i)
        fullSince := if full then some (x.fullSince.getD t) else none
        fullDone := full && x.fullDone
        emptySince := if empty then some (x.emptySince.getD t) else none
        emptyDone := empty && x.emptyDone
        restSince := if rest then some (x.restSince.getD t) else none
        restTaken := rest && x.restTaken })
    let s := if (s.str k).estDue then s.estimate k (s.strOcv k v) false else s
    (if rest then s else s.strWake k).showStr k

/-- R383, R384: telemetry of a string interface `i` reaches every enabled string bound to it. A node whose time is stale gives no
interval to count over. -/
def strTele (s : Dev) (i : Fin 128) (stale : Bool) : Dev :=
  if !s.flag BSE_CTRL_EN then s
  else
    s.forEach ((idx 48).filter (fun (k : Fin 48) => s.strEn k && s.strNode k == some i)) (fun k s =>
      match s.teleOf i 0, s.teleOf i 1 with
      | some (v, t), some (a, _) =>
        if stale then (if (s.str k).noBridge then s else (s.countBroken k).modStr k (fun x => { x with noBridge := true }))
        else if F32.finite v && F32.finite a then s.strSample k t (F32.toRat v) (F32.toRat a)
        else s
      | _, _ => s)

/-! Rest requests (R391, R392) -/

/-- R391: withdraw a request. -/
def withdrawRest (s : Dev) (k : Fin 48) : Dev :=
  if s.flag (BSE_STR_STATUS_REST_REQ k) then
    (((s.setb (BSE_STR_STATUS_REST_REQ k) false).setb (BSE_STR_STATUS_REST_GRANTED k) false).set (BSE_STR_STATUS_POSTPONE k) ppNone).modStr k
      (fun x => { x with grantAt := none }) |>.postStr EV_BSE_REST_WITHDRAWN k
  else s

/-- R391: STARVED follows LEARN_AGE. -/
def judgeStarved (s : Dev) (k : Fin 48) : Dev :=
  let was := s.flag (BSE_STR_STATUS_STARVED k)
  let is := s.strEn k && decide (s.get BSE_CFG_STARVE_H ≤ s.get (BSE_STR_LEARN_LEARN_AGE k))
  ((s.setb (BSE_STR_STATUS_STARVED k) is).when (is && !was) (·.postStr EV_BSE_STARVED k)).bseSummary

/-- R391: LEARN_AGE starts again. -/
def ageZero (s : Dev) (k : Fin 48) : Dev :=
  ((s.set (BSE_STR_LEARN_LEARN_AGE k) 0).modStr k (fun x => { x with ageFrom := s.dt })).judgeStarved k

/-- R391: the string could learn: no stored point, or one at least MIN_SPAN away. -/
def restUseful (s : Dev) (k : Fin 48) : Bool :=
  let x := s.str k
  x.points.isEmpty || x.points.any (fun p => decide ((s.get BSE_CFG_MIN_SPAN : Rat) ≤ rabs (x.soc - p.soc)))

/-- R391: update the rest request of a string. -/
def restRequest (s : Dev) (k : Fin 48) : Dev :=
  let pending := s.flag (BSE_STR_STATUS_REST_REQ k)
  let granted := s.flag (BSE_STR_STATUS_REST_GRANTED k)
  let base := s.flag BSE_CTRL_REST_REQ_EN && s.flag (BSE_STR_STATUS_STARVED k) && s.restUseful k
  let late := granted && (s.str k).grantAt.any (fun t => decide (t + sec (s.get (BSE_STR_REST_T_REST k) + 600) ≤ s.dt))
  if pending && late then (s.postStr EV_BSE_REST_TIMEOUT k).withdrawRest k
  else if pending then (if base && (granted || (s.str k).restSince.isNone) then s else s.withdrawRest k)
  else if base && (s.str k).restSince.isNone then (s.setb (BSE_STR_STATUS_REST_REQ k) true).postStr EV_BSE_REST_REQUEST k
  else s

/-- R392: the allocator's answers. -/
def restGranted (s : Dev) (k : Fin 48) : Dev :=
  ((s.setb (BSE_STR_STATUS_REST_GRANTED k) true).set (BSE_STR_STATUS_POSTPONE k) ppNone).modStr k (fun x =>
    { x with grantAt := some (x.grantAt.getD s.dt) })

def restPostponed (s : Dev) (k : Fin 48) (cause : Nat) : Dev :=
  (s.setb (BSE_STR_STATUS_REST_GRANTED k) false).set (BSE_STR_STATUS_POSTPONE k) cause

def restAborted (s : Dev) (k : Fin 48) : Dev :=
  ((s.setb (BSE_STR_STATUS_REST_GRANTED k) false).set (BSE_STR_STATUS_POSTPONE k) ppNone).modStr k (fun x =>
    { x with
      restSince := none
      restTaken := false
      grantAt := none })

/-! Swaps (R396) -/

/-- R396: a swap with its cause. A string that is not enabled makes its first estimate when it is (R397). -/
def strSwap (s : Dev) (k : Fin 48) (cause : Nat) : Dev :=
  let s := (s.set (BSE_STR_CAP_CAP k) (s.get (BSE_STR_CAP_C_RATED k))).set (BSE_STR_LEARN_LAST_CAP k) 0
  let s := ((s.modStr k (fun x => { x with points := [] })).ageZero k).withdrawRest k
  let s := s.setb (BSE_STR_STATUS_DRIFT k) false
  let s := s.when (s.strEn k) (·.estimateNow k)
  (s.postStr EV_BSE_SWAP k (leBytes 1 cause)).extraCommit

/-! Learning (R390) -/

/-- R390: the points that are still of use. -/
def freshPoints (s : Dev) (k : Fin 48) : List RestPoint :=
  let x := s.str k
  x.points.filter (fun p =>
    decide (p.epoch = s.rd GEN_EPOCH) && decide (s.dt ≤ p.dt + sec (86400 * s.get BSE_CFG2_POINT_DAYS)) &&
      decide (x.thru - p.thru ≤ 4 * s.strCap k))

/-- R390: the stored point farthest from a new one; the list is newest first, so the first of equals is the newer. -/
def farthest (soc : Rat) : List RestPoint → Option RestPoint
  | [] => none
  | p :: rest =>
    match farthest soc rest with
    | none => some p
    | some q => if rabs (p.soc - soc) < rabs (q.soc - soc) then some q else some p

/-- R390: learn from a new rest point. -/
def learnPoint (s : Dev) (k : Fin 48) (p : RestPoint) : Dev :=
  let pts := s.freshPoints k
  match farthest p.soc pts with
  | some q =>
    if (s.get BSE_CFG_MIN_SPAN : Rat) ≤ rabs (q.soc - p.soc) then
      let cap := s.strCap k
      let c := rabs (p.count - q.count) / rabs (p.soc - q.soc) * 100
      let s := (s.modStr k (fun x => { x with points := [p] })).set (BSE_STR_LEARN_LAST_CAP k) (min (nearest (c * 10)).toNat 0xFFFF)
      if 4 / 5 * cap ≤ c && c ≤ 6 / 5 * cap then
        let new := cap + (s.get BSE_CFG2_LGAIN : Rat) / 16 * (c - cap)
        let s := (s.set (BSE_STR_CAP_CAP k) (min (nearest (new * 10)).toNat 0xFFFF)).ageZero k
        (s.postStr EV_BSE_CAP_LEARNED k (leBytes 2 (s.get (BSE_STR_CAP_CAP k)) ++ leBytes 2 (s.get (BSE_STR_LEARN_LAST_CAP k)))).extraCommit
      else s.postStr EV_BSE_LEARN_REJECTED k (leBytes 2 (s.get (BSE_STR_LEARN_LAST_CAP k)))
    else s.modStr k (fun x => { x with points := p :: pts.take 3 })
  | none => s.modStr k (fun x => { x with points := [p] })

/-- R388, R397: a rest point; `swapped` in a step with a swap, in which nothing is learnt (R390). -/
def restPoint (s : Dev) (k : Fin 48) (ocv : Rat) (swapped : Bool) : Dev :=
  let s := s.modStr k (fun x => { x with restTaken := true, longGap := false })
  let s := ((s.postStr EV_BSE_REST_POINT k (leBytes 2 (floorBy 100 ocv).toNat)).withdrawRest k).extraCommit
  if swapped then s
  else
    let drift := !s.flag (BSE_STR_STATUS_UNANCHORED k) && decide (10 < rabs ((s.str k).soc - ocv))
    let was := s.flag (BSE_STR_STATUS_DRIFT k)
    let s := s.when (drift && !was) (fun s => (s.setb (BSE_STR_STATUS_DRIFT k) true).postStr EV_BSE_DRIFT k)
    let s := if s.flag (BSE_STR_STATUS_UNANCHORED k) || s.flag (BSE_STR_STATUS_FIRST_EST k) then s.estimate k ocv true else s
    let x := s.str k
    s.learnPoint k { soc := ocv, dt := s.dt, epoch := s.rd GEN_EPOCH, count := x.count, thru := x.thru }

/-! Anchors (R386) -/

/-- R386: an anchor at `soc`. -/
def anchor (s : Dev) (k : Fin 48) (soc : Rat) (ev : Code) : Dev :=
  let s := s.modStr k (fun x => { x with soc := soc, unc := 1, fullDone := x.fullDone || soc == 100, emptyDone := x.emptyDone || soc == 0 })
  (((s.setb (BSE_STR_STATUS_UNANCHORED k) false).setb (BSE_STR_STATUS_DRIFT k) false).postStr ev k).extraCommit

def anchors (s : Dev) (k : Fin 48) : Dev :=
  let x := s.str k
  if !x.fullDone && x.fullSince.any (fun t => decide (t + sec (s.get (BSE_STR_HOLD_T_FULL k)) ≤ s.dt)) then s.anchor k 100 EV_BSE_ANCHOR_FULL
  else if !x.emptyDone && x.emptySince.any (fun t => decide (t + sec (s.get (BSE_STR_HOLD_T_EMPTY k)) ≤ s.dt)) then
    s.anchor k 0 EV_BSE_ANCHOR_EMPTY
  else s

/-! Management-system signals (R394, R395) -/

/-- R394: the enabled signals of a string's template, by their place in it. -/
def signals (s : Dev) (k : Nat) : List (Fin 8) :=
  if s.flag (BSE_STR_CFG_TPL_EN k) then
    (idx 8).filter (fun (j : Fin 8) => s.flag (BSE_SIG_CFG_EN (8 * s.get (BSE_STR_CFG_TPL k) + j)))
  else []

/-- R394: the value of the signal of a FIELD, raw; none while it is not defined. -/
def signalRaw (s : Dev) (k : Fin 48) (field : Nat) : Option (Fin 8 × Nat) :=
  (s.signals k).findSome? (fun (j : Fin 8) =>
    if s.get (BSE_SIG_CFG_FIELD (8 * s.get (BSE_STR_CFG_TPL k) + j)) = field then
      ((s.str k).sigs[j].1).map (fun v => (j, v))
    else none)

/-- R394: a scaled signal; none while it is not defined or its scale is no number. -/
def signalOf (s : Dev) (k : Fin 48) (field : Nat) : Option Rat :=
  match s.signalRaw k field with
  | some (j, v) =>
    let scale := s.rd (BSE_SIG_SCALE (8 * s.get (BSE_STR_CFG_TPL k) + j))
    if F32.finite scale then some (v * F32.toRat scale) else none
  | none => none

/-- R395: an enabled signal has not been updated for 1 s. -/
def bmsLate (s : Dev) (k : Fin 48) : Bool :=
  (s.signals k).any (fun (j : Fin 8) => decide ((s.str k).sigs[j].2 + sec 1 ≤ s.dt))

/-- R395: set BMS_STALE or BMS_FAULT, with its event when it changes. -/
def bmsFlag (s : Dev) (k : Fin 48) (f : Field) (ev : Code) (b : Bool) : Dev :=
  if s.flag f == b then s else (s.setb f b).postStr ev k

/-- R394: bit `n` of a frame's data; none beyond its end. -/
def frameBit (d : List Byte) (n : Nat) : Option Bool := (d[n / 8]?).map (fun b => b.getLsbD (n % 8))

/-- R394: where the bits of a signal lie, from the least significant (ORDER 0) or from the most significant (ORDER 1). -/
def signalBits (start len : Nat) (big : Bool) : List Nat :=
  if big then
    -- down within the byte, on at bit 7 of the next
    (List.range len).map (fun i => let d := start / 8 * 8 + 7 - start % 8 + i; d / 8 * 8 + 7 - d % 8)
  else (List.range len).map (fun i => start + i)

/-- R394: read a signal from a frame; none when the frame is too short. -/
def readSignal (d : List Byte) (start len : Nat) (big : Bool) : Option Nat :=
  let bits := (signalBits start len big).map (fun n => frameBit d n)
  if bits.any (·.isNone) then none
  else
    let l := bits.map (fun b => (b.getD false).toNat)
    some (if big then l.foldl (fun a b => 2 * a + b) 0 else l.foldr (fun b a => b + 2 * a) 0)

/-- R396: the decoded identity, once every enabled identity signal has been received. -/
def decodedIdent (s : Dev) (k : Fin 48) : Option Id64 :=
  let t := 8 * s.get (BSE_STR_CFG_TPL k)
  let ids := (s.signals k).filter (fun (j : Fin 8) => decide (s.get (BSE_SIG_CFG_FIELD (t + j)) ≤ 1))
  if ids.isEmpty || ids.any (fun (j : Fin 8) => ((s.str k).sigs[j].1).isNone) then none
  else
    let part := fun (f : Nat) => (((s.signalRaw k f).map (·.2)).getD 0)
    some (BitVec.ofNat 64 (part 0 % 2 ^ 32 + part 1 % 2 ^ 32 * 2 ^ 32))

/-- R396: the identity a frame has brought. An enable sets the stored identity to 0, so that the first one after it is no swap. -/
def takeIdent (s : Dev) (k : Fin 48) : Dev :=
  match s.decodedIdent k with
  | none => s
  | some id =>
    let x := s.str k
    let swap := x.ident != 0 && id != x.ident
    s.modStr k (fun x =>
      { x with
        ident := id
        swap := if swap then some (x.swap.getD swIdentity) else x.swap })

/-- R394, R395, R398: a frame routed to string `k`. -/
def bmsFrame (s : Dev) (k : Fin 48) (r : CanRecord) : Dev :=
  let t := 8 * s.get (BSE_STR_CFG_TPL k)
  let hits := (s.signals k).filter (fun (j : Fin 8) =>
    r.id == s.get (BSE_STR_CAN_CAN_BASE k) + s.get (BSE_SIG_CFG_ID_OFS (t + j)) && r.ide == s.flag (BSE_STR_CAN_IDE k))
  if !s.flag BSE_CTRL_EN || !s.strEn k || hits.isEmpty then s.bump (BSE_STR_CANIGN k)
  else
    let s := s.forEach hits (fun j s =>
      match readSignal r.data (s.get (BSE_SIG_CFG_START (t + j))) (s.get (BSE_SIG_CFG_LEN_M1 (t + j)) + 1) (s.flag (BSE_SIG_CFG_ORDER (t + j))) with
      | none => s
      | some v =>
        let new := (s.str k).sigs[j].1 != some v
        let s := s.modStr k (fun x => { x with sigs := x.sigs.set j (some v, s.dt) })
        s.when (new && s.flag (BSE_SIG_CFG_WAKE (t + j))) (·.strWake k))
    let s := s.takeIdent k
    let fault := (s.signalRaw k 5).any (fun q => q.2 != 0)
    let s := s.bmsFlag k (BSE_STR_STATUS_BMS_FAULT k) EV_BSE_BMS_FAULT fault
    if s.bmsLate k then s else s.bmsFlag k (BSE_STR_STATUS_BMS_STALE k) EV_BSE_BMS_STALE false

/-! Limits (R393) -/

/-- R393: publish the limits of a string. -/
def strLimits (s : Dev) (k : Fin 48) : Dev :=
  let x := s.str k
  let tpl := s.flag (BSE_STR_CFG_TPL_EN k)
  let bad := tpl && (s.flag (BSE_STR_STATUS_BMS_STALE k) || s.flag (BSE_STR_STATUS_BMS_FAULT k))
  let lim := fun (m : Rat) (field : Nat) =>
    if bad then (0 : Rat)
    else if tpl then (match s.signalOf k field with
      | some y => min m y
      | none => m)
    else m
  let c := lim (s.get (BSE_STR_ILIM_I_CHG_MAX k)) 2
  let d := lim (s.get (BSE_STR_ILIM_I_DIS_MAX k)) 3
  let v := (x.last.map (·.2.1)).getD 0
  let c := if s.tenths (BSE_STR_FULL_V_FULL k) ≤ v || 100 ≤ x.rep then min c (s.tenths (BSE_STR_FULL_I_TAPER k)) else c
  let d := if v ≤ s.tenths (BSE_STR_EMPTY_V_EMPTY k) || x.rep ≤ 0 then min d (s.tenths (BSE_STR_EMPTY_I_TAPER_E k)) else d
  let off := s.flag (BSE_STR_STATUS_NODE_STALE k) || (s.strNode k).isNone
  let c := if off then 0 else max 0 c
  let d := if off then 0 else max 0 d
  let vmax := s.tenths (BSE_STR_VMAX_V_MAX k)
  let vlim := if tpl && !s.flag (BSE_STR_STATUS_BMS_STALE k) then (match s.signalOf k 4 with
    | some y => min vmax y
    | none => vmax) else vmax
  let s := s.modStr k (fun x =>
    { x with
      chgW := (c * v).floor.toNat
      disW := (d * v).floor.toNat
      vLim := (vlim * 10).floor.toNat })
  (s.set (BSE_STR_LIM_I_CHG k) c.floor.toNat).set (BSE_STR_LIM_I_DIS k) d.floor.toNat

/-! The step (R385, R387) -/

/-- R387: SOC_REP of one step. -/
def reported (rep ds soc rate : Rat) : Rat :=
  let step := rate / 10 / 600
  let r := rep + ds
  min (max (r + min (max (soc - r) (-step)) step) 0) 100

/-- R385, R384: order 1: NODE_STALE, and what breaks a rest. -/
def stepGaps (s : Dev) (k : Fin 48) : Dev :=
  let x := s.str k
  let node := s.strNode k
  let heard := (node.bind (fun i => (s.teleOf i 0).map (·.2))).isSome
  let stale := node.isNone || !heard || !x.last.any (fun l => decide (s.dt < l.1 + ms 300))
  let lost := node.isNone || node.any (fun i => s.flag (PST_NODE_INFO_TIME_STALE i))
  let s := s.setb (BSE_STR_STATUS_NODE_STALE k) stale
  let s := if lost && x.last.isSome && !x.noBridge then (s.countBroken k).modStr k (fun x => { x with noBridge := true }) else s
  let x := s.str k
  let breaks := stale || x.gap
  s.modStr k (fun x =>
    { x with
      gap := false
      fullSince := if stale then none else x.fullSince
      emptySince := if stale then none else x.emptySince
      rate := if node.isNone then 0 else x.rate
      restSince := if breaks then none else x.restSince
      restTaken := !breaks && x.restTaken })

/-- R398, R406: STATE of an enabled string. -/
def strState (s : Dev) (k : Fin 48) : Dev :=
  let st := s.get (BSE_STR_STATUS_STATE k)
  let rest := (s.str k).restSince
  if st = bsHibernated then s
  else if s.flag (BSE_STR_CFG_HIB_EN k) && rest.any (fun t => decide (t + sec (600 * s.get BSE_CFG2_HIB_MIN) ≤ s.dt)) then
    (((s.set (BSE_STR_STATUS_STATE k) bsHibernated).modStr k (fun x => { x with slow := true })).strRate k 2).postStr
      EV_BSE_HIBERNATED k
  else s.set (BSE_STR_STATUS_STATE k) (if rest.isSome then bsRest else bsActive)

/-- R385: one step of one enabled string. -/
def strStep (s : Dev) (k : Fin 48) : Dev :=
  let s := s.when ((s.str k).rate == 0) (fun s => s.strRate k (if s.get (BSE_STR_STATUS_STATE k) = bsHibernated then 2 else 1))
  let s := s.when (s.bmsLate k) (·.bmsFlag k (BSE_STR_STATUS_BMS_STALE k) EV_BSE_BMS_STALE true)
  let s := s.stepGaps k
  let point := s.restedFor k && !(s.str k).restTaken
  let ocv := s.strOcv k (((s.str k).last.map (·.2.1)).getD 0)
  let voltage := point && (s.str k).longGap && decide ((s.get BSE_CFG2_SWAP_PCT : Rat) < rabs (ocv - (s.str k).soc))
  let cause := (s.str k).swap.orElse (fun _ => if voltage then some swVoltage else none)
  let s := s.modStr k (fun x => { x with swap := none })
  let s := match cause with
    | some c => s.strSwap k c
    | none => s.anchors k
  let s := if point then s.restPoint k ocv cause.isSome else s
  let s := (s.restRequest k).strLimits k
  let s := s.modStr k (fun x =>
    { x with
      rep := reported x.rep x.ds x.soc (s.get BSE_CFG_CONV_RATE)
      ds := 0 })
  (s.strState k).showStr k

/-- R396: a swap declared by the host of a string that is not enabled. -/
def swapOff (s : Dev) (k : Fin 48) : Dev :=
  match (s.str k).swap with
  | none => s
  | some c => (s.modStr k (fun x => { x with swap := none })).strSwap k c

/-- R396: the host declares a swap; it is taken at the next step (R385). -/
def hostSwap (s : Dev) (k : Fin 48) : Dev := s.modStr k (fun x => { x with swap := some swHost })

/-! Commits (R400, R401) -/

/-- R400: what a commit keeps of a string. -/
def saveStr (s : Dev) (k : Fin 48) : StrSave :=
  let x := s.str k
  { soc := x.soc, rep := x.rep, unc := x.unc, count := x.count, thru := x.thru, cap := s.get (BSE_STR_CAP_CAP k),
    lastCap := s.get (BSE_STR_LEARN_LAST_CAP k), age := s.get (BSE_STR_LEARN_LEARN_AGE k), points := x.points, ident := x.ident,
    fullDone := x.fullDone, emptyDone := x.emptyDone, unanchored := s.flag (BSE_STR_STATUS_UNANCHORED k),
    firstEst := s.flag (BSE_STR_STATUS_FIRST_EST k), drift := s.flag (BSE_STR_STATUS_DRIFT k) }

/-- R400: commit the state of every string to the other copy; `good` says that the commit word reads back. -/
def bseCommit (s : Dev) (good : Bool) : Dev :=
  let from_ := s.bse.good
  let into : Fin 2 := if from_ = 0 then 1 else 0
  let seq := s.bse.copies[from_].seq + 1
  let c : BseCopy := { seq := seq, intact := good, strs := (idx 48).map (fun k => s.saveStr k) }
  let s := s.modBse (fun b =>
    { b with
      copies := b.copies.set into c
      good := if good then into else b.good
      extra := false })
  if good then s.set64 BSE_COMMIT_SEQ_LO (BitVec.ofNat 64 seq) else s.post EV_BSE_COMMIT_FAIL

/-- R401: take a string over from a copy. -/
def loadStr (s : Dev) (k : Fin 48) (x : StrSave) : Dev :=
  let s := ((s.set (BSE_STR_CAP_CAP k) x.cap).set (BSE_STR_LEARN_LAST_CAP k) x.lastCap).set (BSE_STR_LEARN_LEARN_AGE k) x.age
  let s := ((s.setb (BSE_STR_STATUS_UNANCHORED k) x.unanchored).setb (BSE_STR_STATUS_FIRST_EST k) x.firstEst).setb
    (BSE_STR_STATUS_DRIFT k) x.drift
  (s.modStr k (fun y =>
    { y with
      soc := x.soc
      rep := x.rep
      unc := x.unc
      count := x.count
      thru := x.thru
      points := x.points
      ident := x.ident
      fullDone := x.fullDone
      emptyDone := x.emptyDone })).showStr k

/-- R401: the copy to load: the intact one with the higher sequence number. -/
def copyToLoad (s : Dev) (bad : List (Fin 2)) : Option (Fin 2) :=
  let ok := (idx 2).filter (fun (i : Fin 2) => s.bse.copies[i].intact && !bad.contains i)
  match ok with
  | [] => none
  | a :: rest => some (rest.foldl (fun (b i : Fin 2) => if s.bse.copies[b].seq < s.bse.copies[i].seq then i else b) a)

/-- R399, R401: the estimator at a restart; `bad` are the copies that fail their checks, `restarted` says that DT does not tell how long
nothing was counted. -/
def bseRestart (s : Dev) (bad : List (Fin 2)) (restarted : Bool) : Dev :=
  let last := fun (k : Fin 48) => if restarted then none else (s.str k).last
  let lasts := Vector.ofFn last
  let s := s.forEach (idx 48) (fun (k : Fin 48) s => s.modStr k (fun _ =>
    { Str.empty with
      last := lasts[k]
      noBridge := true
      unknown := restarted
      ageFrom := s.dt
      sigs := Vector.replicate 8 (none, s.dt) }))
  match s.copyToLoad bad with
  | some i =>
    let c := s.bse.copies[i]
    let s := s.modBse (fun b => { b with good := i, extra := false, lastStep := none, lastCommit := none })
    let s := s.forEach ((idx 48).filter (fun (k : Fin 48) => decide (k.val < c.strs.length))) (fun k s =>
      match c.strs[k.val]? with
      | some x => s.loadStr k x
      | none => s)
    let s := ((s.set BSE_STATUS_COPY i).setb BSE_STATUS_STATE_LOST false).set64 BSE_COMMIT_SEQ_LO (BitVec.ofNat 64 c.seq)
    let s := s.post EV_BSE_STATE_RESTORED (leBytes 1 i)
    s.forEach s.enabledStrings (fun k s => s.judgeStarved k)
  | none =>
    let s := (s.setb BSE_STATUS_STATE_LOST true).post EV_BSE_STATE_LOST
    s.forEach s.enabledStrings (fun k s =>
      let s := (s.set (BSE_STR_CAP_CAP k) (s.get (BSE_STR_CAP_C_RATED k))).setb (BSE_STR_STATUS_UNANCHORED k) true
      let s := s.set (BSE_STR_LEARN_LEARN_AGE k) (s.get BSE_CFG_STARVE_H)
      (s.modStr k (fun x => { x with estDue := true })).judgeStarved k)

/-! Enabling (R402, R403) -/

/-- R403: why a string may not be enabled. -/
def strRefusal (s : Dev) (k : Nat) : Option Code :=
  let ok := decide (0 < s.get (BSE_STR_CAP_C_RATED k)) && decide (0 < s.get (BSE_STR_CFG_CELLS k)) &&
    decide (0 < s.get (BSE_STR_EMPTY_V_EMPTY k)) && decide (s.get (BSE_STR_EMPTY_V_EMPTY k) < s.get (BSE_STR_FULL_V_FULL k)) &&
    decide (s.get (BSE_STR_FULL_V_FULL k) ≤ s.get (BSE_STR_VMAX_V_MAX k)) &&
    decide (s.get (BSE_STR_REST_I_REST k) < s.get (BSE_STR_FULL_I_TAPER k)) && s.get64 (BSE_STR_NODE_LO k) != 0
  if !ok then some ST_BSE_STR_PARAM
  else if !s.ocvValid (s.get (BSE_STR_CFG_OCV_TBL k)) then some ST_BSE_OCV_TABLE
  else if s.flag (BSE_STR_CFG_TPL_EN k) && (s.signals k).isEmpty then some ST_BSE_STR_PARAM
  else none

/-- R403, R397: a write of 1 to a string's EN. -/
def strEnable (s : Dev) (k : Fin 48) : Dev × Option Code :=
  if s.strEn k then (s, none)
  else
    match s.strRefusal k with
    | some c => (s, some c)
    | none =>
      let s := s.setb (BSE_STR_CFG_EN k) true
      let s := s.when (s.get (BSE_STR_CAP_CAP k) == 0) (fun s => s.set (BSE_STR_CAP_CAP k) (s.get (BSE_STR_CAP_C_RATED k)))
      let x := s.str k
      let s := s.modStr k (fun _ =>
        { Str.empty with
          points := x.points
          count := x.count
          thru := x.thru
          soc := x.soc
          rep := x.rep
          unc := x.unc
          ageFrom := s.dt
          sigs := Vector.replicate 8 (none, s.dt)
          estDue := true })
      let s := (s.set (BSE_STR_STATUS_STATE k) bsActive).setb (BSE_STR_STATUS_BMS_STALE k) false
      ((((s.ageZero k).strRate k 1).extraCommit).bseSummary, none)

/-- R391, R402: a write of 0 to a string's EN; the code is that of a rejection. -/
def strDisable (s : Dev) (k : Fin 48) : Dev × Option Code :=
  if !s.strEn k then (s, none)
  else if s.flag (ALC_STR_CFG_EN k) then (s, some ST_BUSY_LIVE)
  else
    let s := ((s.withdrawRest k).setb (BSE_STR_CFG_EN k) false).set (BSE_STR_STATUS_STATE k) bsOff
    let s := (s.setb (BSE_STR_STATUS_STARVED k) false).wr (BSE_STR_LIM k) 0
    ((s.modStr k (fun x =>
      { x with
        last := none
        restSince := none
        restTaken := false
        swap := none
        chgW := 0
        disW := 0 })).bseSummary, none)

end Dev

/-! The commands -/

/-- R385, R400: ESTIMATOR_STEP; `good` says that the word of an extra commit reads back. -/
def effEstimatorStep (good : Bool) (s : Dev) : Dev :=
  let t := s.nextMultiple (Dev.ms 100) s.bse.lastStep
  let s := (s.reach t).modBse (fun b => { b with lastStep := some t })
  let extra := s.bse.extra
  let s := s.when extra (·.bseCommit good)
  if !s.flag BSE_CTRL_EN then s
  else (s.forEach (idx 48) (fun k s => if s.strEn k then s.strStep k else s.swapOff k)).bseSummary

def execEstimatorStep (good : Bool) (s : State) : Host.Outcome State Fault Refusal := s.onRun (effEstimatorStep good)

/-- R400: ESTIMATOR_COMMIT. -/
def effEstimatorCommit (good : Bool) (s : Dev) : Dev :=
  let t := s.nextMultiple (Dev.sec 1) s.bse.lastCommit
  ((s.reach t).modBse (fun b => { b with lastCommit := some t })).bseCommit good

def execEstimatorCommit (good : Bool) (s : State) : Host.Outcome State Fault Refusal := s.onRun (effEstimatorCommit good)

/-- R395: BMS_STALE_TIMEOUT: the oldest enabled signal of string `k` reaches 1 s without an update. -/
def effBmsStaleTimeout (k : Fin 48) (s : Dev) : Dev :=
  if s.flag BSE_CTRL_EN && s.strEn k && !s.flag (BSE_STR_STATUS_BMS_STALE k) then
    match (s.signals k).map (fun (j : Fin 8) => (s.str k).sigs[j].2) with
    | [] => s
    | t :: ts => (s.reach (ts.foldl min t + Dev.sec 1)).bmsFlag k (BSE_STR_STATUS_BMS_STALE k) EV_BSE_BMS_STALE true
  else s

def execBmsStaleTimeout (k : Fin 48) (s : State) : Host.Outcome State Fault Refusal := s.onRun (effBmsStaleTimeout k)

/-- R391: LEARN_AGE_TICK: a whole hour has passed for string `k`. -/
def effLearnAgeTick (k : Fin 48) (s : Dev) : Dev :=
  if !s.strEn k then s
  else
    let t := (s.str k).ageFrom + Dev.sec 3600
    let s := (s.reach t).modStr k (fun x => { x with ageFrom := t })
    (s.incSat (BSE_STR_LEARN_LEARN_AGE k)).judgeStarved k

def execLearnAgeTick (k : Fin 48) (s : State) : Host.Outcome State Fault Refusal := s.onRun (effLearnAgeTick k)

/-- R403: STRING_ENABLE. -/
def effStringEnable (k : Fin 48) (s : Dev) : Dev :=
  let r := s.strEnable k
  r.1.answer (r.2.getD ST_OK)

def execStringEnable (k : Fin 48) (s : State) : Host.Outcome State Fault Refusal := s.onReg 0x0C (effStringEnable k)

/-- R396, R385: STRING_SWAP: the swap is taken at the next step. -/
def effStringSwap (k : Fin 48) (s : Dev) : Dev :=
  (s.hostSwap k).answer ST_OK

def execStringSwap (k : Fin 48) (s : State) : Host.Outcome State Fault Refusal := s.onReg 0x0C (effStringSwap k)

/-- R406: STRING_FORGET. -/
def effStringForget (k : Fin 48) (s : Dev) : Dev :=
  ((s.modStr k (fun x => { x with points := [] })).showStr k).answer ST_OK

def execStringForget (k : Fin 48) (s : State) : Host.Outcome State Fault Refusal := s.onReg 0x0C (effStringForget k)

end Sys2Proof.Machine
end

