-- ==== Sys2Proof/Machine/Contactor.lean ====
section
/-! DEFINITION. The energisation and opening instants of an outlet (R276, R277, R374). -/

namespace Sys2Proof.Machine
namespace Dev

/-- R276: the energisation instant of outlet `n`. -/
def contactorClosed (s : Dev) (n : Fin 16) : Dev :=
  if s.energised n then s
  else
    (s.setBit VSS_STATUS n.val true).modSess n (fun x =>
      { x with
        closing := false
        energisedAt := some s.dt
        openedAt := none
        start := none
        stop := none
        zeroAt := none })

/-- R276, R277, R271: the opening instant of outlet `n`: a stopping session goes to CLOSING. -/
def contactorGone (s : Dev) (n : Fin 16) : Dev :=
  if !s.energised n then s.modSess n (fun x => { x with opening := false, failedAt := none })
  else
    let s := (s.setBit VSS_STATUS n.val false).modSess n (fun x =>
      { x with
        closing := false
        opening := false
        failedAt := none
        openedAt := some s.dt
        zeroAt := none })
    if s.sessState n = ssStopping then s.closeSession n else s

/-- R276: the outlets whose contactor the front-end of node table entry `i` drives. -/
def outletsOfFrontEnd (s : Dev) (i : Fin 128) : List (Fin 16) :=
  (idx 16).filter (fun (n : Fin 16) => !s.flag (VSS_OUT_CFG_CONT_EN n) && s.get64 (VSS_OUT_NODE_LO n) == s.nodeId i)

/-- R264: the front-end of an outlet. -/
def frontEnd (s : Dev) (n : Nat) : Option (Fin 128) := s.nodeById (s.get64 (VSS_OUT_NODE_LO n)) 3

end Dev
end Sys2Proof.Machine
end

