-- ==== Sys2Proof/Machine/SiteLineCode.lean ====
section
/-! DEFINITION. How a frame of the site line becomes OFDM symbols (R234 to R238, R240, R241): the bytes of the frame control and of the
payload, Reed–Solomon blocks, scrambler, convolutional code, puncturing, interleaving, and the bits that each carrier takes. -/

namespace Sys2Proof.Machine

/-! Carriers (R234, R235) -/

/-- R235: the bits of a carrier code. -/
def codeBits (c : Nat) : Nat := if c = 0 then 0 else if c = 1 then 1 else if c ≤ 6 then 2 * (c - 1) else 0

/-- R234: whether carrier `c` is a pilot. -/
def isPilot (c : Nat) : Bool := (c - 41) % 11 == 0

/-- R234: the carriers used. -/
def usedCarriers : List Nat := (List.range 533).map (· + 41)

/-- R234: the data carriers, notched ones among them. -/
def dataCarriers : List Nat := usedCarriers.filter (fun c => !isPilot c)

/-- R234: φ(c) in quarter turns. -/
def phaseOf (c : Nat) : Nat := c * (c + 1) / 2 % 4

/-- R235: the coded bits of a ROBO symbol. -/
def roboBits : Nat := 121

/-! Bytes (R240, R241) -/

/-- R240: a frame control: SRC, DST, TMAP, RATE, NSYM, RESP_MAX and the superframe number. -/
structure SlnControl where
  src : Nat
  dst : Nat
  tmap : Nat
  rate : Nat
  nsym : Nat
  respMax : Nat
  sf : Word
deriving DecidableEq, Repr

/-- R240: the 12 bytes of a frame control. -/
def controlBytes (c : SlnControl) : List Byte :=
  let d := leBytes 1 c.src ++ leBytes 1 c.dst ++ leBytes 1 c.tmap ++ leBytes 1 c.rate ++ leBytes 1 c.nsym ++ leBytes 1 c.respMax ++
    leBytes 2 c.sf.toNat ++ leBytes 2 0
  d ++ leBytes 2 (crc16 d).toNat

/-- R241: a frame's payload: MAC header, body and CRC-32. -/
def macBytes (f : SlnFrame) : List Byte :=
  let d := leBytes 1 f.type ++ leBytes 1 (f.ack.toNat + 2 * f.nack.toNat + 4 * f.retry.toNat + 8 * f.more.toNat) ++ leBytes 2 f.seq.toNat ++
    leBytes 1 f.orig ++ leBytes 1 f.final ++ leBytes 1 (f.route.length % 4 + 16 * (f.next % 4)) ++ leBytes 1 0 ++
    (f.route ++ List.replicate (3 - f.route.length) 0xFF).flatMap (leBytes 1) ++ leBytes 1 0 ++ leBytes 2 f.ackSeq.toNat ++
    leBytes 2 f.body.length ++ f.body
  d ++ leBytes 4 (crc32 d).toNat

/-! Reed–Solomon over GF(2^8) with 0x11D (R236) -/

/-- Multiply by α. -/
def gfDouble (a : Byte) : Byte := if a.getLsbD 7 then (a <<< 1) ^^^ 0x1D#8 else a <<< 1

/-- Multiply, by the lowest `n` bits of `b`. -/
def gfMulBits : Nat → Byte → Byte → Byte
  | 0, _, _ => 0
  | n + 1, a, b => (if b.getLsbD 0 then a else 0#8) ^^^ gfMulBits n (gfDouble a) (b >>> 1)

def gfMul (a b : Byte) : Byte := gfMulBits 8 a b

/-- α^i. -/
def gfAlpha : Nat → Byte
  | 0 => 1
  | i + 1 => gfDouble (gfAlpha i)

/-- A polynomial, highest power first, times (x − r). -/
def polyTimes (p : List Byte) (r : Byte) : List Byte :=
  List.zipWith (fun a b => a ^^^ b) (p ++ [0#8]) (0#8 :: p.map (gfMul r))

/-- R236: the generator ∏ (x − α^i), i from 0 to 21. -/
def rsGenerator : List Byte := (List.range 22).foldl (fun p i => polyTimes p (gfAlpha i)) [1#8]

/-- The remainder of a message by the generator, one more byte in. -/
def rsStep (r : List Byte) (b : Byte) : List Byte :=
  let q := b ^^^ r.headD 0#8
  List.zipWith (fun x g => x ^^^ gfMul q g) (r.drop 1 ++ [0#8]) (rsGenerator.drop 1)

/-- R236: the 22 parity bytes of a block. -/
def rsParity (d : List Byte) : List Byte := d.foldl rsStep (List.replicate 22 0#8)

/-- R236: split into blocks of 233 bytes, the last one shortened, each followed by its parity. -/
def rsEncode (d : List Byte) : List Byte :=
  (List.range ((d.length + 232) / 233)).flatMap (fun k =>
    let b := (d.drop (233 * k)).take 233
    b ++ rsParity b)

/-! Scrambler and convolutional code (R236) -/

/-- The bits of bytes, the least significant first. -/
def byteBits (d : List Byte) : List Bool := d.flatMap (fun b => (List.range 8).map b.getLsbD)

/-- R236: the scrambler x^10 + x^3 + 1: its sequence is added to the bits (log entry 35). -/
def slnScramble (r : BitVec 10) : List Bool → List Bool
  | [] => []
  | b :: rest =>
    let c := Bool.xor (r.getLsbD 9) (r.getLsbD 2)
    Bool.xor b c :: slnScramble ((r <<< 1) ||| (if c then 1#10 else 0#10)) rest

/-- The sum of the bits of a register that a generator names. -/
def tapSum (r g : BitVec 7) : Bool := (List.range 7).foldl (fun a k => Bool.xor a ((r &&& g).getLsbD k)) false

/-- R236: K = 7, generators 133 and 171 (octal): the output pairs A, B. The present bit is the most significant of the seven. -/
def convolve (r : BitVec 7) : List Bool → List (Bool × Bool)
  | [] => []
  | b :: rest =>
    let q : BitVec 7 := (r >>> 1) ||| (if b then 0x40#7 else 0#7)
    (tapSum q 0o133#7, tapSum q 0o171#7) :: convolve q rest

/-- R236: what puncturing keeps of A and of B, by the place in the pattern. -/
def kept (rate k : Nat) : Bool × Bool :=
  if rate = 0 then (true, true)
  else if rate = 1 then (true, k % 2 == 0)
  else (k % 5 == 0 || k % 5 == 1 || k % 5 == 3, k % 5 == 0 || k % 5 == 2 || k % 5 == 4)

/-- R236: the kept bits in the order A1 B1 A2 B2. -/
def puncture (rate : Nat) (l : List (Bool × Bool)) : List Bool :=
  ((List.range l.length).zip l).flatMap (fun q =>
    let k := kept rate q.1
    (if k.1 then [q.2.1] else []) ++ (if k.2 then [q.2.2] else []))

/-- R236: the coded bits of a payload. -/
def codedBits (rate : Nat) (d : List Byte) : List Bool :=
  puncture rate (convolve 0 (slnScramble 0x3FF#10 (byteBits (rsEncode d)) ++ List.replicate 6 false))

/-! Interleaving (R237) -/

/-- R237: spans of at most 8 symbols. -/
def spanSizes : Nat → Nat → List Nat
  | 0, _ => []
  | fuel + 1, n => if n = 0 then [] else if n ≤ 8 then [n] else 8 :: spanSizes fuel (n - 8)

/-- R237: the bits of the symbols of one span of `n` symbols with `cap` bits each: bit k goes to symbol k mod n, the span padded with zeros. -/
def spanSymbols (n cap : Nat) (bits : List Bool) : List (List Bool) :=
  (List.range n).map (fun m => (List.range cap).map (fun j => (bits[m + n * j]?).getD false))

/-- R237: the bits of each symbol of `n` symbols. -/
def symbolBits (n cap : Nat) (bits : List Bool) : List (List Bool) :=
  ((spanSizes (n + 1) n).foldl (fun (a : List (List Bool) × List Bool) k => (a.1 ++ spanSymbols k cap a.2, a.2.drop (k * cap))) ([], bits)).1

/-- Carriers in a given order take as many bits as their codes give. -/
def fillCarriers : List (Nat × Nat) → List Bool → List (Nat × List Bool)
  | [], _ => []
  | (c, n) :: rest, bits => (c, bits.take n) :: fillCarriers rest (bits.drop n)

/-- R237: a symbol under a map: its loaded carriers, D of them with their bits, are filled in the order (487 j) mod D. -/
def loadSymbol (loaded : List (Nat × Nat)) (bits : List Bool) : List (Nat × List Bool) :=
  let d := loaded.length
  fillCarriers ((List.range d).filterMap (fun j => loaded[487 * j % max 1 d]?)) bits

/-- R235: a ROBO symbol: bit b on the data carriers at positions b, b + 121, b + 242 and b + 363; notched ones are left out. -/
def roboSymbol (open_ : Nat → Bool) (bits : List Bool) : List (Nat × List Bool) :=
  ((List.range 484).zip dataCarriers).filterMap (fun q => if open_ q.2 then some (q.2, [(bits[q.1 % roboBits]?).getD false]) else none)

/-- R238: the frame control over its two symbols: 204 coded bits repeated over the 968 positions in carrier order. -/
def controlSymbols (open_ : Nat → Bool) (c : SlnControl) : List (List (Nat × List Bool)) :=
  let bits := puncture 0 (convolve 0 (byteBits (controlBytes c) ++ List.replicate 6 false))
  (List.range 2).map (fun m => ((List.range 484).zip dataCarriers).filterMap (fun q =>
    if open_ q.2 then some (q.2, [(bits[(484 * m + q.1) % 204]?).getD false]) else none))

/-- R236, R237: the payload symbols of a frame: under a map with its loaded carriers, or in ROBO. -/
def payloadSymbols (open_ : Nat → Bool) (loaded : Option (List (Nat × Nat))) (rate nsym : Nat) (d : List Byte) : List (List (Nat × List Bool)) :=
  match loaded with
  | some l => (symbolBits nsym ((l.map (·.2)).foldl (· + ·) 0) (codedBits rate d)).map (loadSymbol l)
  | none => (symbolBits nsym roboBits (codedBits 0 d)).map (roboSymbol open_)

end Sys2Proof.Machine
end

