-- ==== Sys2Proof/Machine/SiteLine.lean ====
section
/-! DEFINITION. The site line (R232 to R258): superframes, polls, replies, admission, routing, repeats and the noise hold; the local
display port (R536). The device's address is 0xFE. -/

namespace Sys2Proof.Machine

/-- R262: node table states. -/
def snFree : Nat := 0
def snPending : Nat := 1
def snPresent : Nat := 2
def snLost : Nat := 3
def snRefused : Nat := 4

/-- R241: frame types. -/
def sfBeacon : Nat := 1
def sfPoll : Nat := 2
def sfAdmit : Nat := 5
def sfDisplay : Nat := 6
def sfData : Nat := 7
def sfSound : Nat := 8
def sfTmap : Nat := 9
def sfNbr : Nat := 10

/-- R240: addresses. -/
def adNone : Nat := 0xFD
def adDevice : Nat := 0xFE
def adAll : Nat := 0xFF

/-- R236: numerator and denominator of an inner rate. -/
def rateFrac (r : Nat) : Nat × Nat := if r = 0 then (1, 2) else if r = 1 then (2, 3) else (5, 6)

/-- R236, R238: the payload symbols of `m` bytes at `bits` coded bits per symbol and a rate. -/
def symbolsFor (m bits rate : Nat) : Nat :=
  let coded := 8 * (m + 22 * ((m + 232) / 233)) + 6
  let f := rateFrac rate
  let out := (coded * f.2 + f.1 - 1) / f.1
  if bits = 0 then 65 else (out + bits - 1) / bits

/-- R241: the longest body that fits 64 payload symbols, below `n`. -/
def fitBody (bits rate : Nat) : Nat → Nat
  | 0 => 0
  | n + 1 => if symbolsFor (n + 1 + 20) bits rate ≤ 64 then n + 1 else fitBody bits rate n

/-- R239, R249: the effective rate of ROBO in 0.1 Mbit/s. -/
def roboRate : Nat := 18

namespace Dev

def modSln (s : Dev) (f : Sln → Sln) : Dev := s.putSln (f s.sln)

def modEntry (s : Dev) (i : Fin 250) (f : SlnEntry → SlnEntry) : Dev :=
  s.putSln { s.sln with entries := vupd s.sln.entries i f }

def slnState (s : Dev) (i : Nat) : Nat := s.get (SLN_NODE_INFO_STATE i)

def slnId (s : Dev) (i : Nat) : Id64 := s.get64 (SLN_NODE_ID_LO i)

/-- The entries in a state. -/
def slnIn (s : Dev) (st : Nat) : List (Fin 250) := (idx 250).filter (fun (i : Fin 250) => s.slnState i == st)

/-- R261, R250: PRESENT and PENDING, and since when at most 32 nodes have been present. -/
def slnCounts (s : Dev) : Dev :=
  let n := (s.slnIn snPresent).length
  let s := (s.set SLN_STATUS_PRESENT n).set SLN_STATUS_PENDING (s.slnIn snPending).length
  s.modSln (fun x => { x with lowSince := if n ≤ 32 then some (x.lowSince.getD s.dt) else none })

/-- R258: the site line is in operation. -/
def slnOn (s : Dev) : Bool := s.flag SLN_CTRL_EN && s.gen.phase == .running

/-- R244, R258: the superframe in ms. -/
def sfLen (s : Dev) : Nat := if s.get GEN_PWR_STATE = 2 then 100 else s.get SLN_CTRL_SF_LEN

/-! Links (R239, R249) -/

def linkOf (s : Dev) (a b : Nat) : SlnLink :=
  (s.sln.links.find? (fun l => l.a == a && l.b == b)).getD { a := a, b := b, heard := none, map := none, fails := [] }

def modLink (s : Dev) (a b : Nat) (f : SlnLink → SlnLink) : Dev :=
  let l := f (s.linkOf a b)
  s.modSln (fun x => { x with links := l :: x.links.filter (fun k => !(k.a == a && k.b == b)) })

/-- R249: a frame on a direction has succeeded or failed. -/
def linkResult (s : Dev) (a b : Nat) (failed : Bool) : Dev := s.modLink a b (fun l => { l with fails := (failed :: l.fails).take 100 })

/-- R234, R261: a carrier lies in an enabled notch. -/
def notched (s : Dev) (c : Nat) : Bool :=
  (List.range 8).any (fun k => (s.get SLN_TX_NOTCH_EN).testBit k && decide (s.get (SLN_NOTCH_FIRST k) ≤ c) &&
    decide (c ≤ s.get (SLN_NOTCH_LAST k)))

/-- R234, R235: the carriers a map loads, with their bits. -/
def loadedBy (s : Dev) (m : ToneMap) : List (Nat × Nat) :=
  (usedCarriers.zip m.codes).filterMap (fun q =>
    if isPilot q.1 || s.notched q.1 || codeBits q.2 = 0 then none else some (q.1, codeBits q.2))

/-- The bits a map loads on a symbol. -/
def mapBits (s : Dev) (m : ToneMap) : Nat := ((s.loadedBy m).map (·.2)).foldl (· + ·) 0

/-- R239: the effective rate of a map in 0.1 Mbit/s, rounded down. -/
def mapRate (s : Dev) (m : ToneMap) : Nat :=
  let f := rateFrac m.rate
  s.mapBits m * f.1 * 233 * 1000 / (f.2 * 255 * 3072)

/-- R249: the effective rate of a direction: its map's; between nodes, what the receiver reports; otherwise ROBO. -/
def linkRate (s : Dev) (a b : Nat) : Nat :=
  let l := s.linkOf a b
  match l.map with
  | some (m, _) => s.mapRate m
  | none => if a = adDevice || b = adDevice then roboRate else (l.heard.map (·.1)).getD roboRate

/-- R249: the toll of a direction. -/
def toll (s : Dev) (a b : Nat) : Nat :=
  let r := s.linkRate a b
  let f := ((s.linkOf a b).fails.filter (fun x => x)).length
  if r = 0 then 255 else min 255 ((1200 + r - 1) / r + 2 * f)

/-- R249: a link's cost, both directions; none where neither end has heard the other. Every node is reached from the device. -/
def linkCost (s : Dev) (a b : Nat) : Option Nat :=
  if a = adDevice || b = adDevice || ((s.linkOf a b).heard.isSome && (s.linkOf b a).heard.isSome) then some (s.toll a b + s.toll b a)
  else none

/-- The cost of a route through relays. -/
def routeCost (s : Dev) : Nat → List Nat → Nat → Option Nat
  | a, [], dst => s.linkCost a dst
  | a, r :: rest, dst =>
    match s.linkCost a r, s.routeCost r rest dst with
    | some x, some y => some (x + y)
    | _, _ => none

/-- R239, R240: TMAP and RATE of a frame from `a` to `b`, and the coded bits per symbol. -/
def txMap (s : Dev) (a b : Nat) : Nat × Nat × Nat :=
  match (s.linkOf a b).map with
  | some (m, _) => (m.index, m.rate, s.mapBits m)
  | none => (0, 0, roboBits)

/-- R235, R245: the payload symbols of `n` bytes of body from `a` to `b`. -/
def hopSymbols (s : Dev) (a b n : Nat) : Nat := symbolsFor (n + 20) (s.txMap a b).2.2 (s.txMap a b).2.1

/-- R235 to R238: a frame goes on the line, with its frame control and payload symbols: by carrier, the bits it takes. A SOUND frame is ROBO
frame control and four symbols of QPSK at φ(c) on every data carrier (R239). -/
def slnEmit (s : Dev) (src dst respMax : Nat) (f : SlnFrame) : Dev :=
  let sound := f.type == sfSound
  let map := if sound then none else (s.linkOf src dst).map
  let m := if sound then (0, 0, roboBits) else s.txMap src dst
  let n := if sound then 4 else symbolsFor (f.body.length + 20) m.2.2 m.2.1
  let open_ := fun (c : Nat) => !s.notched c
  let c : SlnControl := { src := src, dst := dst, tmap := m.1, rate := m.2.1, nsym := n, respMax := respMax, sf := s.rd SLN_SF_NUM }
  let payload := if sound then
      List.replicate 4 ((dataCarriers.filter open_).map (fun c => (c, [decide (2 ≤ phaseOf c), phaseOf c % 2 == 1])))
    else payloadSymbols open_ (map.map (fun q => s.loadedBy q.1)) m.2.1 n (macBytes f)
  s.emit (.slnFrame src dst m.1 m.2.1 n respMax (s.rd SLN_SF_NUM) f (controlSymbols open_ c ++ payload))

/-- R239, R262: what a node's link shows. -/
def showLink (s : Dev) (i : Fin 250) : Dev :=
  let c := (s.routeCost adDevice s.sln.entries[i].route i).getD 255
  ((s.set (SLN_NODE_LINK_TOLL i) (min 255 c)).set (SLN_NODE_LINK_RATE_DN i) (min 4095 (s.linkRate adDevice i))).set
    (SLN_NODE_LINK_RATE_UP i) (min 4095 (s.linkRate i adDevice))

/-! Sending (R245, R246) -/

/-- R239: the frame error ratio of the last 64 frames exceeds 10 %. -/
def tooManyErrors (s : Dev) (a b : Nat) : Bool :=
  decide (6 < (((s.linkOf a b).fails.take 64).filter (fun x => x)).length)

/-- Queue a frame for an entry. -/
def slnQueue (s : Dev) (i : Fin 250) (t : SlnTx) : Dev := s.modEntry i (fun e => { e with queue := e.queue ++ [t] })

/-- R239: the device sounds its direction of an entry's link; until a TMAP comes it uses ROBO. -/
def soundDown (s : Dev) (i : Fin 250) : Dev :=
  let s := s.modLink adDevice i (fun l => { l with map := none })
  if s.sln.entries[i].queue.any (fun t => t.type == sfSound) then s
  else (s.slnQueue i { type := sfSound, body := [], more := false, seq := none, sends := 0, src := none }).showLink i

/-- Put a frame on the line towards entry `i`. -/
def slnTransmit (s : Dev) (i : Fin 250) (t : SlnTx) (again : Bool) (respMax : Nat) : Dev :=
  let e := s.sln.entries[i]
  let seq : Code := t.seq.getD (BitVec.ofNat 16 e.seqOut)
  let dst := e.route.headD i.val
  let f : SlnFrame :=
    { type := t.type, ack := e.ackOut.any (fun a => !a.1), nack := e.ackOut.any (·.1), retry := again, more := t.more, seq := seq,
      orig := adDevice, final := i, route := e.route, next := 0, ackSeq := (e.ackOut.map (·.2)).getD 0, body := t.body }
  let tx := { t with seq := some seq, sends := t.sends + 1 }
  let s := s.modEntry i (fun e =>
    { e with
      flight := some tx
      ackOut := none
      retryPoll := false
      lastPoll := s.get SLN_SF_NUM_VALUE
      seqOut := if t.seq.isNone then (e.seqOut + 1) % 65536 else e.seqOut })
  let s := s.modSln (fun x => { x with current := some i })
  s.slnEmit adDevice dst respMax f

/-- An empty poll. -/
def emptyPoll : SlnTx := { type := sfPoll, body := [], more := false, seq := none, sends := 0, src := none }

/-- R246, R251 to R253: the frame that the next poll of an entry carries, as it will be. -/
def slnPick (e : SlnEntry) : SlnTx := ((e.retry.orElse (fun _ => e.disp)).orElse (fun _ => e.queue.head?)).getD emptyPoll

/-- R246, R251 to R253: the next poll of an entry, with the frame it carries. -/
def slnNext (s : Dev) (i : Fin 250) (respMax : Nat) : Dev :=
  let e := s.sln.entries[i]
  match e.retry with
  | some t =>
    ((s.modEntry i (fun e => { e with retry := none })).bump SLN_CNT_RETX).slnTransmit i t (decide (0 < t.sends)) respMax
  | none =>
    let s := s.when e.retryPoll (·.bump SLN_CNT_RETX)
    match e.disp with
    | some t => (s.modEntry i (fun e => { e with disp := none })).slnTransmit i t false respMax
    | none =>
      match e.queue with
      | t :: rest => (s.modEntry i (fun e => { e with queue := rest })).slnTransmit i t false respMax
      | [] => s.slnTransmit i emptyPoll false respMax

/-! Repeats and drops (R251 to R253) -/

/-- R251: drop a frame; a host message is dropped whole. -/
def slnDrop (s : Dev) (i : Fin 250) (t : SlnTx) : Dev :=
  let s := (s.bump SLN_CNT_DROP).post EV_SLN_FRAME_DROPPED (leBytes 1 i ++ leBytes 1 t.type)
  match t.src with
  | some src =>
    let s := s.modEntry i (fun e => { e with queue := e.queue.filter (fun x => x.src != some src) })
    s.complete src ST_SLN_DATA_DROPPED
  | none => s

/-- R251, R252: the frame of an exchange is to be repeated, or dropped after MAX_RETX repeats. -/
def slnRepeat (s : Dev) (i : Fin 250) : Dev :=
  match s.sln.entries[i].flight with
  | none => s
  | some t =>
    let s := s.modEntry i (fun e => { e with flight := none })
    if t.type = sfPoll then s.modEntry i (fun e => { e with retryPoll := true })
    else if s.get SLN_CTRL_MAX_RETX < t.sends then s.slnDrop i t
    else s.modEntry i (fun e => { e with retry := some t })

/-- R253: a DISPLAY frame falls due at a head. -/
def slnDisplay (s : Dev) (i : Fin 250) (body : List Byte) : Dev :=
  let t : SlnTx := { type := sfDisplay, body := body, more := false, seq := none, sends := 0, src := none }
  s.modEntry i (fun e =>
    if e.retry.any (fun r => r.type == sfDisplay) then { e with retry := some t } else { e with disp := some t })

/-- R248, R253: a node becomes LOST; what waits for it is dropped. -/
def slnLose (s : Dev) (i : Fin 250) : Dev :=
  let e := s.sln.entries[i]
  let waiting := e.retry.toList ++ e.disp.toList ++ e.flight.toList ++ e.queue.filter (fun t => !t.more)
  let s := (s.set (SLN_NODE_INFO_STATE i) snLost).modEntry i (fun e =>
    { e with
      queue := []
      disp := none
      retry := none
      flight := none
      retryPoll := false })
  let s := s.post EV_SLN_NODE_LOST
  (s.forEach (waiting.filter (fun t => t.type != sfPoll)) (fun t s => s.slnDrop i t)).slnCounts

/-! Superframes (R244, R246) -/

/-- Longest unpolled first, ties to the lower entry. -/
def byAge (s : Dev) (l : List (Fin 250)) : List (Fin 250) :=
  let now := s.get SLN_SF_NUM_VALUE
  let age : Fin 250 → Nat := fun i => (now + 2 ^ 32 - s.sln.entries[i].lastPoll) % 2 ^ 32
  sortBy (fun (i j : Fin 250) => decide (age j < age i) || (age i == age j && decide (i.val ≤ j.val))) l

/-- R246, R258: the entries polled in a superframe, in order. -/
def pollOrder (s : Dev) : List (Fin 250) :=
  let now := s.get SLN_SF_NUM_VALUE
  let live := (idx 250).filter (fun (i : Fin 250) => s.slnState i == snPresent || s.slnState i == snLost)
  let e := fun (i : Fin 250) => s.sln.entries[i]
  let g1 := live.filter (fun (i : Fin 250) => (e i).retry.isSome || (e i).retryPoll)
  let g2 := live.filter (fun (i : Fin 250) => (e i).disp.isSome)
  let g3 := live.filter (fun (i : Fin 250) =>
    decide (s.get (SLN_NODE_CFG_POLL_EVERY i) ≤ (now + 2 ^ 32 - (e i).lastPoll) % 2 ^ 32))
  let g4 := if s.get GEN_PWR_STATE = 2 then [] else live.filter (fun (i : Fin 250) => !(e i).queue.isEmpty)
  (s.byAge g1 ++ s.byAge g2 ++ s.byAge g3 ++ s.byAge g4).eraseDups

/-- R242: the body of the beacon, sent `late` ns after the superframe start. -/
def beaconBody (s : Dev) (late : Nat) : List Byte :=
  let relays := s.sln.relays.take 8
  leBytes 4 (s.rd SLN_SF_NUM).toNat ++ leBytes 1 s.sfLen ++
    leBytes 1 (s.get SLN_STATUS_MODE + 2 * (decide (s.get SLN_STATUS_PRESENT < 250)).toNat + 4 * s.utcValid.toNat) ++
    leBytes 2 ((ms s.sfLen - 1800000 - 368640 - late) / 1000) ++
    (relays ++ List.replicate (8 - relays.length) 0xFF).map (fun a => BitVec.ofNat 8 a)

/-- R244: a superframe starts. -/
def superframe (s : Dev) : Dev :=
  if !s.slnOn then s
  else
    let s := s.tick .superframe (ms s.sfLen)
    let s := s.bump SLN_SF_NUM
    let s := s.forEach ((idx 250).filter (fun (i : Fin 250) => s.slnState i != snFree)) (fun i s => s.incSat (SLN_NODE_AGE_AGE i))
    let s := s.when (!s.sln.deferStop) (·.setb SLN_STATUS_NOISE false)
    let left := s.sln.slipped ++ s.sln.polls
    let s := s.bump SLN_CNT_SLIP s.sln.polls.length
    let polls := (s.sln.admits ++ left ++ s.pollOrder.map (fun i => SlnPoll.entry i)).eraseDups
    let late := match s.sln.holdEnd with
      | some t => min (t - s.dt) (ms 1)
      | none => 0
    let s := s.modSln (fun x =>
      { x with
        polls := polls
        slipped := []
        admits := []
        current := none
        deferTotal := 0
        deferStop := false
        deferSince := none
        sfAt := s.dt
        lineAt := s.dt + late + 408640 * (1 + min 8 x.relays.length) })
    let f : SlnFrame :=
      { type := sfBeacon, ack := false, nack := false, retry := false, more := false, seq := 0, orig := adDevice, final := adAll, route := [],
        next := 0, ackSeq := 0, body := s.beaconBody late }
    let open_ := fun (c : Nat) => !s.notched c
    let c : SlnControl := { src := adDevice, dst := adAll, tmap := 0, rate := 0, nsym := 8, respMax := 0, sf := s.rd SLN_SF_NUM }
    s.emit (.slnBeacon late f.body (controlSymbols open_ c ++ payloadSymbols open_ none 0 8 (macBytes f)))

/-! The noise hold (R254) -/

/-- R254: an impulse, or a change of a load-switch channel while LSW_HOLD = 1, starts the hold afresh. -/
def noiseHold (s : Dev) : Dev :=
  if s.slnOn then s.modSln (fun x => { x with holdEnd := some (s.dt + us (10 * s.get SLN_NOISE_HOLD)) }) else s

/-- R254: the delays of this superframe have reached MAX_DEFER. -/
def noiseLimit (s : Dev) : Dev :=
  let spent := s.sln.deferTotal + (match s.sln.deferSince with
    | some t => s.dt - t
    | none => 0)
  if s.sln.deferStop || spent < us (100 * s.get SLN_NOISE_MAX_DEFER) then s
  else
    let told := s.flag SLN_STATUS_NOISE
    ((s.modSln (fun x => { x with deferStop := true })).setb SLN_STATUS_NOISE true).when (!told) (·.post EV_SLN_NOISE_LIMIT)

/-- R254: HOLD has passed without an impulse. -/
def noiseEnd (s : Dev) : Dev :=
  match s.sln.holdEnd with
  | none => s
  | some t =>
    let s := (s.reach t).noiseLimit
    s.modSln (fun x =>
      { x with
        holdEnd := none
        deferTotal := x.deferTotal + (match x.deferSince with
          | some u => s.dt - u
          | none => 0)
        deferSince := none })

/-- R238: how long a frame with `n` payload symbols lasts, in ns. -/
def burstNs (n : Nat) : Nat := (4 + n) * 30720

/-- The links of a route. -/
def routeLinks (route : List Nat) (dst : Nat) : List (Nat × Nat) := (adDevice :: route).zip (route ++ [dst])

/-- R244, R245: how long the frame of a poll takes until its last symbol reaches the node, each relay forwarding it 40 µs after its end. -/
def pollNs (s : Dev) (route : List Nat) (dst n : Nat) : Nat :=
  (((routeLinks route dst).map (fun q => burstNs (s.hopSymbols q.1 q.2 n) + 40000)).foldl (· + ·) 0) - 40000

/-- R244: the longest an exchange may take. -/
def exchangeNs (s : Dev) (route : List Nat) (dst n respMax : Nat) : Nat :=
  burstNs (s.hopSymbols adDevice (route.headD dst) n) + route.length * (40000 + burstNs 64) + 2000 +
    (route.length + 1) * (40000 + burstNs respMax)

/-- R244: where exchanges must have ended: at the discovery window, while there is one, or at the next superframe. -/
def pollsEnd (s : Dev) : Nat := s.sln.sfAt + ms s.sfLen - (if s.get SLN_STATUS_PRESENT < 250 then 1800000 else 0)

/-- R245: after a poll the line is free again at the latest 60 µs after the reply is due. -/
def slnSent (s : Dev) (route : List Nat) (dst n respMax : Nat) : Dev :=
  let e := s.dt + s.pollNs route dst n
  s.modSln (fun x =>
    { x with
      pollEnd := e
      lineAt := e + 100000 + route.length * (40000 + burstNs respMax) })

/-- R247: an ADMIT, directly or through the relay that the JOIN_REQ came through. -/
def sendAdmit (s : Dev) (via : Option Nat) (body : List Byte) (respMax : Nat) : Dev :=
  let f : SlnFrame :=
    { type := sfAdmit, ack := false, nack := false, retry := false, more := false, seq := 0, orig := adDevice, final := adNone,
      route := via.toList, next := 0, ackSeq := 0, body := body }
  (s.slnEmit adDevice (via.getD adNone) respMax f).slnSent via.toList adNone body.length respMax

/-- The relays, the receiver and the body's length of what a poll sends. -/
def pollShape (s : Dev) (p : SlnPoll) : List Nat × Nat × Nat :=
  match p with
  | .entry i => (s.sln.entries[i].route, i, if (slnPick s.sln.entries[i]).type = sfSound then 0 else (slnPick s.sln.entries[i]).body.length)
  | .join via body => (via.toList, adNone, body.length)

/-- R244, R246, R254: the next poll is due, 40 µs after the frame before it. One that could run into the discovery window slips. -/
def pollSend (s : Dev) (respMax : Nat) : Dev :=
  if !s.slnOn then s
  else
    match s.sln.polls with
    | [] => s
    | p :: rest =>
      let s := s.reach s.sln.lineAt
      let x := s.pollShape p
      if s.pollsEnd < s.dt + s.exchangeNs x.1 x.2.1 x.2.2 respMax then
        (s.modSln (fun x =>
          { x with
            polls := rest
            slipped := x.slipped ++ [p] })).bump SLN_CNT_SLIP
      else
        let s := s.noiseLimit
        if s.sln.holdEnd.any (fun t => decide (s.dt < t)) && !s.sln.deferStop then
          if s.sln.deferSince.isSome then s else (s.modSln (fun x => { x with deferSince := some s.dt })).bump SLN_CNT_DEFER
        else
          let s := s.modSln (fun x => { x with polls := rest })
          match p with
          | .entry i =>
            if s.slnState i == snPresent || s.slnState i == snLost then (s.slnSent x.1 x.2.1 x.2.2 respMax).slnNext i respMax else s
          | .join via body => s.sendAdmit via body respMax

/-! Replies (R245, R248, R251) -/

/-- R246: a message from a node is complete. -/
def slnDeliver (s : Dev) (i : Nat) (d : List Byte) : Dev :=
  match s.sln.recv with
  | src :: rest => (s.modSln (fun x => { x with recv := rest })).complete src ST_OK (BitVec.ofNat 32 (d.length * 2 ^ 16 + i)) d
  | [] => s.modSln (fun x => { x with inbox := x.inbox ++ [(i, d)] })

/-- R251, R245: what a reply says of the device's own frame. -/
def slnAck (s : Dev) (i : Fin 250) (f : SlnFrame) : Dev :=
  match s.sln.entries[i].flight with
  | none => s
  | some t =>
    if f.ack && t.seq == some f.ackSeq then
      let s := (s.modEntry i (fun e => { e with flight := none })).linkResult adDevice i false
      match t.src with
      | some src => if t.more then s else s.complete src ST_OK
      | none => s
    else if t.type = sfPoll then s.modEntry i (fun e => { e with flight := none })
    else (s.linkResult adDevice i true).slnRepeat i

/-- R241: the NBR entries of a body. -/
def nbrEntries : Nat → List Byte → List (Nat × Nat)
  | 0, _ => []
  | n + 1, a :: lo :: hi :: rest => (a.toNat, lo.toNat + 256 * hi.toNat) :: nbrEntries n rest
  | _, _ => []

/-- R241: the map of a TMAP body; none where it holds reserved codes (R235) or an index outside 1 to 7. -/
def parseTmap (d : List Byte) : Option ToneMap :=
  match d with
  | ix :: rate :: rest =>
    let codes := (rest.flatMap (fun b => [b.toNat % 16, b.toNat / 16])).take 533
    if codes.length = 533 && codes.all (fun c => decide (c ≤ 6)) && decide (1 ≤ ix.toNat) && decide (ix.toNat ≤ 7) && decide (rate.toNat ≤ 2)
    then some { index := ix.toNat, rate := rate.toNat, codes := codes } else none
  | _ => none

/-- R239, R241: the body of a TMAP frame. -/
def tmapBody (m : ToneMap) : List Byte :=
  let rec pack : Nat → List Nat → List Byte
    | 0, _ => []
    | _, [] => []
    | _, [a] => [BitVec.ofNat 8 a]
    | n + 1, a :: b :: rest => BitVec.ofNat 8 (a + 16 * b) :: pack n rest
  [BitVec.ofNat 8 m.index, BitVec.ofNat 8 m.rate] ++ pack m.codes.length m.codes

/-- R239, R245, R246, R249: the frame of the node's own that a reply carries. A report of neighbours replaces the node's last one. -/
def slnTake (s : Dev) (i : Fin 250) (x : SlnReply) : Dev :=
  let f := x.frame
  if !x.lenOk || f.type = 0 || 11 < f.type || 1536 < f.body.length then s.bump SLN_CNT_CRC
  else
    let again := s.sln.entries[i].rxSeq == some f.seq
    let s := s.modEntry i (fun e =>
      { e with
        rxSeq := some f.seq
        ackOut := some (false, f.seq) })
    if again then s
    else if f.type = sfData then
      let d := s.sln.entries[i].rxPart ++ f.body
      if f.more then s.modEntry i (fun e => { e with rxPart := d })
      else
        let s := s.modEntry i (fun e => { e with rxPart := [] })
        if d.length ≤ 4096 then s.slnDeliver i d else s
    else if f.type = sfTmap then
      match parseTmap f.body with
      | some m => (s.modLink adDevice i (fun l => { l with map := some (m, s.dt) })).showLink i
      | none => s
    else if f.type = sfNbr then
      let l := nbrEntries 32 f.body
      let s := s.forEach ((s.sln.links.filter (fun k => k.b == i.val && k.a != adDevice && !(l.any (fun q => q.1 == k.a)))).map (·.a)) (fun a s =>
        s.modLink a i (fun k => { k with heard := none }))
      s.forEach l (fun q s => s.modLink q.1 i (fun l => { l with heard := some (q.2, s.dt) }))
    else if f.type = sfSound then
      match x.map with
      | some m =>
        (((s.modLink i adDevice (fun l => { l with map := some (m, s.dt) })).slnQueue i
          { type := sfTmap, body := tmapBody m, more := false, seq := none, sends := 0, src := none })).showLink i
      | none => s
    else s

/-- R245, R248, R251, R257: a reply from entry `i`. The next frame may start 40 µs after its end. -/
def slnReply (s : Dev) (i : Fin 250) (x : SlnReply) : Dev :=
  if s.slnState i != snPresent && s.slnState i != snLost then s
  else
    let s := s.reach (s.sln.pollEnd + x.took)
    let s := s.modSln (fun y => { y with lineAt := s.dt + 40000 })
    let s := (s.modEntry i (fun e =>
      { e with
        fails := 0
        unsynced := false })).set (SLN_NODE_AGE_AGE i) 0
    let s := s.modSln (fun x => { x with current := none })
    let s := s.modLink i adDevice (fun l => { l with heard := some (x.heard, s.dt) })
    let s := if s.slnState i = snLost then ((s.set (SLN_NODE_INFO_STATE i) snPresent).slnCounts).post EV_SLN_NODE_RETURNED
      else s
    let s := match x.refused with
      | some d => s.post EV_SLN_DISPLAY_REJECTED (leBytes 1 i ++ leBytes 4 d.toNat)
      | none => s
    if !x.decoded then
      let s := (s.bump SLN_CNT_CRC).incSat (SLN_NODE_ERR_CRC i)
      let s := s.linkResult i adDevice true
      let s := (s.modEntry i (fun e => { e with ackOut := some (true, x.frame.seq) })).slnRepeat i
      s.showLink i
    else
      let s := ((s.linkResult i adDevice false).slnAck i x.frame).slnTake i x
      let s := s.when (s.tooManyErrors adDevice i && (s.linkOf adDevice i).map.isSome) (·.soundDown i)
      s.showLink i

/-- R245, R248, R252: no preamble came. -/
def slnTimeout (s : Dev) (i : Fin 250) : Dev :=
  if s.slnState i != snPresent && s.slnState i != snLost then s
  else
    let s := if s.sln.current == some i then s.reach s.sln.lineAt else s
    let s := s.modSln (fun x => { x with current := none })
    let s := (s.incSat (SLN_NODE_ERR_MISSED i)).modEntry i (fun e => { e with fails := e.fails + 1 })
    let s := s.linkResult adDevice i true
    if s.slnState i = snLost then s.modEntry i (fun e => { e with flight := none })
    else if s.get SLN_CTRL_LOST_POLLS ≤ s.sln.entries[i].fails then s.slnLose i
    else
      let s := s.slnRepeat i
      (s.when (s.tooManyErrors adDevice i && (s.linkOf adDevice i).map.isSome) (·.soundDown i)).showLink i

/-! Admission (R247, R261) -/

/-- R243: an ADMIT body. -/
def admitBody (s : Dev) (id : Id64) (entry result : Nat) : List Byte :=
  leBytes 8 id.toNat ++ leBytes 1 entry ++ leBytes 1 result ++
    leBytes 1 (if entry < 250 then s.get (SLN_NODE_CFG_POLL_EVERY entry) else 0) ++ leBytes 1 0

/-- R247: answer a JOIN_REQ in the next poll region. -/
def slnAdmit (s : Dev) (r : SlnJoin) (entry result : Nat) : Dev :=
  let p : SlnPoll := .join (r.via.map (·.val)) (s.admitBody r.id entry result)
  s.modSln (fun x => { x with admits := x.admits ++ [p] })

/-- R262: RESULT of a REFUSE cause. -/
def admitResult (refuse : Nat) : Nat := if refuse = 1 then 2 else if refuse = 2 then 3 else 4

/-- A FREE entry takes a node. -/
def slnEnter (s : Dev) (i : Fin 250) (r : SlnJoin) (st refuse : Nat) : Dev :=
  let s := (((s.set64 (SLN_NODE_ID_LO i) r.id).set (SLN_NODE_INFO_STATE i) st).set (SLN_NODE_INFO_REFUSE i) refuse).set
    (SLN_NODE_INFO_CLASS i) r.cls
  let s := (s.set (SLN_NODE_INFO_VIA i) ((r.via.map (·.val)).getD adDevice)).set (SLN_NODE_INFO_RELAYS i) r.via.toList.length
  let route := r.via.toList.map (fun (v : Fin 250) => v.val)
  (s.modEntry i (fun _ => { SlnEntry.empty with route := route, lastPoll := s.get SLN_SF_NUM_VALUE })).slnCounts

/-- R247: a JOIN_REQ. -/
def slnJoin (s : Dev) (r : SlnJoin) : Dev :=
  if !s.slnOn then s
  else
    match (idx 250).find? (fun (i : Fin 250) => s.slnState i != snFree && s.slnId i == r.id) with
    | some i =>
      let st := s.slnState i
      let s := s.modEntry i (fun e => { e with unsynced := false, fails := 0 })
      if st = snLost then
        (((s.set (SLN_NODE_INFO_STATE i) snPresent).slnCounts).post EV_SLN_NODE_ADMITTED).slnAdmit r i 0
      else s.slnAdmit r i (if st = snPresent then 0 else if st = snPending then 1 else admitResult (s.get (SLN_NODE_INFO_REFUSE i)))
    | none =>
      let free := s.slnIn snFree
      let cause :=
        if r.proto != 1 then 3
        else if !((decide (0x20 ≤ r.cls) && decide (r.cls ≤ 0x23)) || r.cls == 0x7F) then 1
        else if free.isEmpty then 2
        else 0
      if cause != 0 then
        let s := match free.head? with
          | some i => s.slnEnter i r snRefused cause
          | none => s
        ((s.post EV_SLN_NODE_REFUSED (leBytes 1 cause))).slnAdmit r ((free.head?.map (·.val)).getD adNone) (admitResult cause)
      else
        match (free.find? (fun (i : Fin 250) => i.val == r.former)).orElse (fun _ => free.head?) with
        | none => s
        | some i =>
          if s.flag SLN_CTRL_AUTO_ADMIT then
            ((((s.slnEnter i r snPresent 0).post EV_SLN_NODE_ADMITTED)).slnAdmit r i 0).soundDown i
          else
            let j := free.headD i
            (((s.slnEnter j r snPending 0).post EV_SLN_NODE_PENDING)).slnAdmit r j 1

/-- R261: ACCEPT. -/
def slnAccept (s : Dev) (i : Fin 250) : Dev :=
  if s.slnState i = snPending then
    (((s.set (SLN_NODE_INFO_STATE i) snPresent).slnCounts).post EV_SLN_NODE_ADMITTED).soundDown i
  else s

/-- R261: FORGET. -/
def slnForget (s : Dev) (i : Fin 250) : Dev :=
  let st := s.slnState i
  if st = snLost || st = snPending || st = snRefused then
    let s := s.forEach (List.range 7) (fun k s => s.wr (SLN_NODE_ID_LO i + 4 * k) (resetWord (SLN_NODE_ID_LO i + 4 * k)))
    (s.modEntry i (fun _ => SlnEntry.empty)).slnCounts
  else s

/-! Routing (R249, R250) -/

/-- A candidate route: cost, relays. -/
abbrev Cand := Nat × List Nat

/-- R250: least cost, then fewer links, then the lower first relay. -/
def better (a b : Cand) : Bool :=
  decide (a.1 < b.1) || (a.1 == b.1 && (decide (a.2.length < b.2.length) ||
    (a.2.length == b.2.length && decide (a.2.headD 0 < b.2.headD 0))))

/-- R250: one more link on the best paths known. -/
def meshStep (s : Dev) (nodes : List Nat) (best : List (Nat × Cand)) : List (Nat × Cand) :=
  nodes.filterMap (fun n =>
    let old := (best.find? (fun q => q.1 == n)).map (·.2)
    let via := best.filterMap (fun q =>
      if q.1 = n || q.2.2.contains n then none
      else (s.linkCost q.1 n).map (fun c => (q.2.1 + c, q.2.2 ++ [q.1])))
    (via.foldl (fun (b : Option Cand) c => match b with
      | none => some c
      | some x => if better c x then some c else some x) old).map (fun c => (n, c)))

/-- R250: the routes of MESH mode over at most 4 links. -/
def meshRoutes (s : Dev) (nodes : List Nat) : List (Nat × Cand) :=
  let one := nodes.filterMap (fun n => (s.linkCost adDevice n).map (fun c => (n, (c, ([] : List Nat)))))
  s.meshStep nodes (s.meshStep nodes (s.meshStep nodes one))

/-- R250: the route of a node, direct or through one of the waystations. -/
def wayRoute (s : Dev) (ws : List Nat) (n : Nat) : Option Cand :=
  let direct := (s.linkCost adDevice n).map (fun c => ((c, []) : Cand))
  (ws.filter (· != n)).foldl (fun (b : Option Cand) w =>
    match s.linkCost adDevice w, s.linkCost w n with
    | some x, some y =>
      let c : Cand := (x + y, [w])
      (match b with
       | none => some c
       | some o => if better c o then some c else some o)
    | _, _ => b) direct

/-- The sum of the route costs with a set of waystations. -/
def wayTotal (s : Dev) (nodes ws : List Nat) : Nat := nodes.foldl (fun a n => a + ((s.wayRoute ws n).map (·.1)).getD 1020) 0

/-- R250: choose waystations greedily. -/
def chooseWays (s : Dev) (nodes : List Nat) : Nat → List Nat → List Nat
  | 0, ws => ws
  | k + 1, ws =>
    let now := s.wayTotal nodes ws
    match (nodes.filter (fun n => !ws.contains n)).foldl (fun (b : Option (Nat × Nat)) n =>
        let t := s.wayTotal nodes (ws ++ [n])
        match b with
        | none => some (t, n)
        | some o => if t < o.1 then some (t, n) else some o) none with
    | none => ws
    | some (t, n) => if 20 * (now - t) < now || now ≤ t then ws else s.chooseWays nodes k (ws ++ [n])

/-- R250: put routes in force. -/
def setRoutes (s : Dev) (rs : List (Fin 250 × List Nat)) (relays : List Nat) : Dev :=
  let changed := rs.any (fun q => q.2 != s.sln.entries[q.1].route)
  let s := s.forEach rs (fun q s =>
    let s := s.modEntry q.1 (fun e => { e with route := q.2 })
    ((s.set (SLN_NODE_INFO_RELAYS q.1) q.2.length).set (SLN_NODE_INFO_VIA q.1) (q.2.headD adDevice)).showLink q.1)
  let s := s.forEach (idx 250) (fun i s => s.setb (SLN_NODE_INFO_RELAY i) (relays.contains i.val))
  let s := (s.modSln (fun x => { x with relays := relays })).set SLN_STATUS_RELAYS relays.length
  s.when changed (·.post EV_SLN_ROUTE_CHANGED)

/-- R250: a route is broken when a relay on it is not present. -/
def routeBroken (s : Dev) (r : List Nat) : Bool := r.any (fun a => s.slnState a != snPresent)

/-- R250: the up to 8 relays that carry the most routes, ties to the lower entry. -/
def busiest (rs : List (List Nat)) : List Nat :=
  let all := (rs.flatMap id).eraseDups
  let load : Nat → Nat := fun a => (rs.filter (fun r => r.contains a)).length
  (sortBy (fun (a b : Nat) => decide (load b < load a) || (load a == load b && decide (a ≤ b))) all).take 8

/-- R250: recompute the mode and the routes at a superframe start. -/
def recompute (s : Dev) : Dev :=
  if !s.slnOn then s
  else
    let present := s.slnIn snPresent
    let nodes := present.map (·.val)
    let way := s.get SLN_STATUS_MODE == 1
    let way' :=
      if way then !(s.sln.lowSince.any (fun t => decide (t + sec 600 ≤ s.dt))) else decide (33 ≤ nodes.length)
    let s := if way == way' then s else (s.set SLN_STATUS_MODE way'.toNat).post EV_SLN_MODE_CHANGE (leBytes 1 way'.toNat)
    if way' then
      let ws := s.chooseWays nodes 8 []
      let oldTotal := nodes.foldl (fun a n =>
        a + ((s.routeCost adDevice ((s.sln.entries.toList[n]?).map (·.route) |>.getD []) n).getD 1020)) 0
      if 10 * s.wayTotal nodes ws ≤ 9 * oldTotal || s.sln.relays.any (fun a => s.slnState a != snPresent) || !way then
        s.setRoutes (present.filterMap (fun (i : Fin 250) => (s.wayRoute ws i).map (fun c => (i, c.2)))) ws
      else s
    else
      let best := s.meshRoutes nodes
      let rs := present.map (fun (i : Fin 250) =>
        let old := s.sln.entries[i].route
        match (best.find? (fun q => q.1 == i.val)).map (·.2), s.routeCost adDevice old i with
        | some c, some o => (i, if c.1 + 4 ≤ o || s.routeBroken old then c.2 else old)
        | some c, none => (i, c.2)
        | none, _ => (i, old))
      s.setRoutes rs (busiest (rs.map (·.2)))

/-! Host messages (R246) -/

/-- Split a message into fragments of at most `n` bytes. -/
def fragments (n : Nat) : Nat → List Byte → List (List Byte)
  | 0, _ => []
  | k + 1, d => if d.length ≤ n || n = 0 then [d] else d.take n :: fragments n k (d.drop n)

/-- R246: queue a host message for an entry, in fragments that fit every link of its route. -/
def slnSend (s : Dev) (src : Src) (entry : Nat) (d : List Byte) : Dev :=
  if d.isEmpty || 4096 < d.length then s.complete src ST_BAD_PARAM
  else
    match (idx 250).find? (fun (i : Fin 250) => i.val == entry && s.slnState i == snPresent) with
    | none => s.complete src ST_SLN_NODE_ABSENT
    | some i =>
      let fit := (routeLinks s.sln.entries[i].route i).foldl (fun a q => min a (fitBody (s.txMap q.1 q.2).2.2 (s.txMap q.1 q.2).2.1 1536)) 1536
      let parts := fragments fit d.length d
      let n := parts.length
      s.forEach ((List.range n).zip parts) (fun q s =>
        s.slnQueue i { type := sfData, body := q.2, more := decide (q.1 + 1 < n), seq := none, sends := 0, src := some src })

/-- R246: SLN_RECV takes the message waiting longest, or waits. -/
def slnRecv (s : Dev) (src : Src) : Dev :=
  match s.sln.inbox with
  | (i, d) :: rest =>
    (s.modSln (fun x => { x with inbox := rest })).complete src ST_OK (BitVec.ofNat 32 (d.length * 2 ^ 16 + i)) d
  | [] => s.modSln (fun x => { x with recv := x.recv ++ [src] })

/-! The local display port (R536) -/

/-- R536: one attempt to send the item in hand, `waited` ns after it fell due. -/
def dspSend (s : Dev) (readyLow : Bool) (waited : Nat) (miso : Byte) : Dev :=
  match s.sln.dsp with
  | none => s
  | some (dseq, body, due) =>
    let s := s.reach (due + waited)
    if ms 100 < waited then s.modSln (fun x => { x with dsp := none })
    else if !readyLow then s
    else
      let s := (s.modSln (fun x => { x with dsp := none })).emit (.dsp body)
      s.when (miso == 1#8) (·.post EV_SLN_DISPLAY_REJECTED (leBytes 1 0xFF ++ leBytes 4 (dseq - 1)))

end Dev

/-! The commands -/

/-- R244: SUPERFRAME_START. -/
def effSuperframeStart (s : Dev) : Dev := s.superframe

def execSuperframeStart (s : State) : Host.Outcome State Fault Refusal := s.onRun effSuperframeStart

/-- R245: SLN_POLL_SEND. -/
def effSlnPollSend (respMax : Fin 65) (s : Dev) : Dev := s.pollSend respMax

def execSlnPollSend (respMax : Fin 65) (s : State) : Host.Outcome State Fault Refusal := s.onRun (effSlnPollSend respMax)

/-- R245: SLN_REPLY_RECEIVED. -/
def effSlnReplyReceived (i : Fin 250) (x : SlnReply) (s : Dev) : Dev := s.slnReply i x

def execSlnReplyReceived (i : Fin 250) (x : SlnReply) (s : State) : Host.Outcome State Fault Refusal := s.onRun (effSlnReplyReceived i x)

/-- R245: SLN_REPLY_TIMEOUT. -/
def effSlnReplyTimeout (i : Fin 250) (s : Dev) : Dev := s.slnTimeout i

def execSlnReplyTimeout (i : Fin 250) (s : State) : Host.Outcome State Fault Refusal := s.onRun (effSlnReplyTimeout i)

/-- R245: SLN_RELAY_FORWARD: relay `i` forwards a frame, re-coded for the next link. -/
def effSlnRelayForward (i : Fin 250) (f : SlnFrame) (s : Dev) : Dev :=
  let back := f.orig != adDevice
  let path := f.route ++ [f.final]
  let dst := (path[f.next + 1]?).getD f.final
  if back && f.route.length ≤ f.next then s else s.slnEmit i dst 0 { f with next := f.next + 1 }

def execSlnRelayForward (i : Fin 250) (f : SlnFrame) (s : State) : Host.Outcome State Fault Refusal := s.onDev (effSlnRelayForward i f)

/-- R247: SLN_JOIN_REQ. -/
def effSlnJoinReq (r : SlnJoin) (s : Dev) : Dev := s.slnJoin r

def execSlnJoinReq (r : SlnJoin) (s : State) : Host.Outcome State Fault Refusal := s.onRun (effSlnJoinReq r)

/-- R261: SLN_ADMIT_ACCEPT. -/
def effSlnAdmitAccept (i : Fin 250) (s : Dev) : Dev := (s.slnAccept i).answer ST_OK

def execSlnAdmitAccept (i : Fin 250) (s : State) : Host.Outcome State Fault Refusal := s.onReg 0x07 (effSlnAdmitAccept i)

/-- R261: SLN_ADMIT_FORGET. -/
def effSlnAdmitForget (i : Fin 250) (s : Dev) : Dev := (s.slnForget i).answer ST_OK

def execSlnAdmitForget (i : Fin 250) (s : State) : Host.Outcome State Fault Refusal := s.onReg 0x07 (effSlnAdmitForget i)

/-- R250: SLN_ROUTE_RECOMPUTE. -/
def effSlnRouteRecompute (s : Dev) : Dev := s.recompute

def execSlnRouteRecompute (s : State) : Host.Outcome State Fault Refusal := s.onRun effSlnRouteRecompute

/-- R239: a direction's map is 60 s old: the device sounds its own direction; the node's returns to ROBO until the node has sounded. -/
def Dev.mapExpiry (s : Dev) (i : Fin 250) (down : Bool) : Dev :=
  let l := if down then s.linkOf adDevice i else s.linkOf i adDevice
  match l.map with
  | none => s
  | some (_, t) =>
    let s := s.reach (t + Dev.sec 60 + 1)
    if down then s.soundDown i else (s.modLink i adDevice (fun l => { l with map := none })).showLink i

/-- R239: SLN_TMAP_EXPIRY. -/
def effSlnTmapExpiry (i : Fin 250) (down : Bool) (s : Dev) : Dev := s.mapExpiry i down

def execSlnTmapExpiry (i : Fin 250) (down : Bool) (s : State) : Host.Outcome State Fault Refusal := s.onRun (effSlnTmapExpiry i down)

/-- R254: SLN_NOISE_IMPULSE. -/
def effSlnNoiseImpulse (s : Dev) : Dev := s.noiseHold

def execSlnNoiseImpulse (s : State) : Host.Outcome State Fault Refusal := s.onRun effSlnNoiseImpulse

/-- R254: SLN_NOISE_HOLD_END. -/
def effSlnNoiseHoldEnd (s : Dev) : Dev := s.noiseEnd

def execSlnNoiseHoldEnd (s : State) : Host.Outcome State Fault Refusal := s.onRun effSlnNoiseHoldEnd

/-- R246: SLN_SEND. -/
def effSlnSend (src : Src) (entry : Byte) (data : List Byte) (s : Dev) : Dev := s.slnSend src entry.toNat data

def execSlnSend (src : Src) (entry : Byte) (data : List Byte) (s : State) : Host.Outcome State Fault Refusal :=
  s.onHost src false false (effSlnSend src entry data)

/-- R246: SLN_RECV. -/
def effSlnRecv (src : Src) (bufLen : Nat) (s : Dev) : Dev := if bufLen < 4096 then s.complete src ST_HIF_BAD_ADDR else s.slnRecv src

def execSlnRecv (src : Src) (bufLen : Nat) (s : State) : Host.Outcome State Fault Refusal := s.onHost src false false (effSlnRecv src bufLen)

/-- R248: NODE_UNSYNCED: the node keeps its entry as FORMER and joins again; its frames in hand are gone. -/
def effNodeUnsynced (i : Fin 250) (s : Dev) : Dev := s.modEntry i (fun e => { e with unsynced := true })

def execNodeUnsynced (i : Fin 250) (s : State) : Host.Outcome State Fault Refusal := s.onDev (effNodeUnsynced i)

/-- R536: DSP_TRANSACTION. -/
def effDspTransaction (readyLow : Bool) (waited : Nat) (miso : Byte) (s : Dev) : Dev := s.dspSend readyLow waited miso

def execDspTransaction (readyLow : Bool) (waited : Nat) (miso : Byte) (s : State) : Host.Outcome State Fault Refusal :=
  s.onRun (effDspTransaction readyLow waited miso)

end Sys2Proof.Machine
end

