-- ==== Sys2Proof/Machine/LoadSwitch.lean ====
section
/-! DEFINITION. Load switch channels and auxiliary supply (R427 to R446). A channel's clamp energy is measured by the power die: it is a free
value. -/

namespace Sys2Proof.Machine

/-- R446: states. -/
def lsOff : Nat := 0
def lsOn : Nat := 1
def lsLimit : Nat := 2
def lsCooling : Nat := 3
def lsLatched : Nat := 4
def lsLocked : Nat := 5

/-- R446: causes of a switch-off. -/
def lcCommand : Nat := 1
def lcOvercurrent : Nat := 2
def lcThermal : Nat := 3
def lcShed : Nat := 4
def lcSurge : Nat := 5
def lcHoldExpired : Nat := 6
def lcBrownout : Nat := 7
def lcSafeHold : Nat := 8

/-- R445: supply conditions. -/
def suNormal : Nat := 0
def suSurge : Nat := 1
def suDip : Nat := 2

/-- R427: the single clamp event limit and the budget over 10 s, in mJ. -/
def clampSingle (n : Nat) : Nat := if n < 4 then 250 else 60
def clampBudget (n : Nat) : Nat := if n < 4 then 1000 else 250

namespace Dev

def modLsw (s : Dev) (f : Lsw → Lsw) : Dev := s.putLsw (f s.lsw)

def modCh (s : Dev) (n : Fin 20) (f : LswCh → LswCh) : Dev := s.modLsw (fun x => { x with chs := vupd x.chs n f })

/-- The channel conducts. -/
def lswOn (s : Dev) (n : Nat) : Bool := (s.get LSW_STATUS_ON).testBit n

/-- R431: a fail-on class. -/
def failOn (s : Dev) (n : Nat) : Bool := decide (2 ≤ s.get (LSW_CH_CFG_CLASS n))

/-- R430: the outlet that owns a channel. -/
def lswOwner (s : Dev) (n : Nat) : Option (Fin 16) :=
  (idx 16).find? (fun (o : Fin 16) =>
    s.flag (VSS_OUT_CFG_EN o) && s.flag (VSS_OUT_CFG_CONT_EN o) && s.get (VSS_OUT_CFG_CONT_CH o) == n)

/-- R430: OWNED shows the owner. -/
def showOwners (s : Dev) : Dev :=
  s.forEach (List.range 20) (fun n s => s.setb (LSW_CH_STATUS_OWNED n) (s.lswOwner n).isSome)

/-- R436: the clamp energy of the last 10 s, in mJ. -/
def clampWin (s : Dev) (n : Fin 20) : Nat :=
  (s.lsw.chs[n].clamps.filter (fun e => decide (s.dt < e.1 + sec 10))).foldl (fun a e => a + e.2) 0

/-- R429, R442: a channel that nothing holds off. During a dip channels are held in their states. -/
def lswFree (s : Dev) (n : Fin 20) : Bool :=
  let x := s.lsw.chs[n]
  s.flag (LSW_CH_CFG_EN n) && s.flag (LSW_CH_CTL_ON n) && !s.flag (LSW_CH_STATUS_LATCH n) && !s.flag (LSW_CH_STATUS_LOCKED_CLAMP n) &&
    s.get LSW_STATUS_SUPPLY != suSurge && !x.cooling && !x.shed && !x.unlocked && (!s.flag GEN_LIFECYCLE_SAFE_HOLD || s.failOn n)

/-- R446: STATE of a channel that does not conduct. -/
def showLswOff (s : Dev) (n : Fin 20) : Dev :=
  s.set (LSW_CH_STATUS_STATE n)
    (if s.flag (LSW_CH_STATUS_LATCH n) then lsLatched
     else if s.flag (LSW_CH_STATUS_LOCKED_CLAMP n) then lsLocked
     else if s.lsw.chs[n].cooling then lsCooling else lsOff)

/-- A channel starts to conduct. -/
def lswConduct (s : Dev) (n : Fin 20) : Dev :=
  (((s.setBit LSW_STATUS n.val true).set (LSW_CH_STATUS_STATE n) lsOn).modCh n (fun x =>
    { x with
      since := some s.dt
      openYes := 0
      openNo := 0
      shortYes := 0
      shortNo := 0
      testAt := none })).noiseHold

/-- R435: the clamp event of a switch-off, of `e` mJ. -/
def clampEvent (s : Dev) (n : Fin 20) (e : Nat) : Dev :=
  let s := (s.set (LSW_CH_CLAMP_LAST n) e).incSat (LSW_CH_CNT_CLAMP_EVENTS n)
  let s := s.modCh n (fun x => { x with clamps := (s.dt, e) :: x.clamps.filter (fun c => decide (s.dt < c.1 + sec 10)) })
  let win := s.clampWin n
  let s := s.set (LSW_CH_CLAMP_WIN n) win
  if (clampSingle n < e || clampBudget n ≤ win) && !s.flag (LSW_CH_STATUS_LOCKED_CLAMP n) then
    ((s.setb (LSW_CH_STATUS_LOCKED_CLAMP n) true).modCh n (fun x => { x with lockedAt := s.dt })).post EV_LSW_CH_LOCKED_CLAMP
      (leBytes 1 n ++ leBytes 2 win ++ leBytes 2 e)
  else s

/-- R430: an owned channel has gone off under a protection or a supply condition while its outlet was energised. -/
def ownedLost (s : Dev) (n : Fin 20) : Dev :=
  match s.lswOwner n with
  | none => s
  | some o =>
    let loaded := (s.measOf o).any (fun m => decide (5 * 2 ^ 32 < m.2.natAbs))
    let s := (s.endSession o ocSafety).when loaded (·.post EV_VSS_STOP_UNDER_LOAD)
    (s.setb (LSW_CH_CTL_ON n) false).contactorGone o

/-- A conducting channel stops conducting for a cause. -/
def lswStop (s : Dev) (n : Fin 20) (cause : Nat) : Dev :=
  let owner := s.lswOwner n
  let s := (s.setBit LSW_STATUS n.val false).set (LSW_CH_STATUS_CAUSE n) cause
  let q := s.fresh
  let s := (q.2.modCh n (fun x => { x with since := none })).clampEvent n (Config.freeNat q.1 % 65536)
  let s := (s.showLswOff n).noiseHold
  match owner with
  | none => s
  | some o =>
    if !s.energised o then s
    else if cause = lcCommand then s.contactorGone o
    else s.ownedLost n

/-- R429, R442: a channel takes the state that R442 decides; `cause` is shown when it goes off. -/
def lswSettle (s : Dev) (n : Fin 20) (cause : Nat) : Dev :=
  let on := s.lswOn n
  let free := s.lswFree n
  if free && !on then s.lswConduct n
  else if !free && on then s.lswStop n cause
  else if on then s else s.showLswOff n

/-- R438, R440: the same, but in a dip, and in the hold window a channel that has not been re-asserted, keep their state. -/
def lswFollow (s : Dev) (n : Fin 20) (cause : Nat) : Dev :=
  if s.get LSW_STATUS_SUPPLY == suDip || (s.lsw.holdAt.isSome && cause == lcCommand && !s.lsw.chs[n].reasserted) then s
  else s.lswSettle n cause

def lswFollowAll (s : Dev) (cause : Nat) : Dev := s.forEach (idx 20) (fun n s => s.lswFollow n cause)

/-- R440: a write to LSW_CH_CTL re-asserts the channel in the hold window. -/
def lswReassert (s : Dev) (n : Fin 20) : Dev := s.when s.lsw.holdAt.isSome (·.modCh n (fun x => { x with reasserted := true }))

/-- R429, R435: a command. A new command on ends the wait after shedding and after an unlock. -/
def lswCommand (s : Dev) (n : Fin 20) (on : Bool) : Dev :=
  let s := s.setb (LSW_CH_CTL_ON n) on
  let s := s.when on (·.modCh n (fun x =>
    { x with
      shed := false
      unlocked := false }))
  s.lswFollow n lcCommand

/-- R429 to R431, R435: a host write of ON. -/
def lswOnWrite (s : Dev) (n : Fin 20) (on : Bool) : Dev :=
  if (s.lswOwner n).isSome then s.reject LSW_REJECT_CNT_CNT ST_LSW_OWNED
  else if on && ((s.flag GEN_LIFECYCLE_SAFE_HOLD && !s.failOn n) || s.flag (LSW_CH_STATUS_LATCH n) || s.flag (LSW_CH_STATUS_LOCKED_CLAMP n))
  then s.reject LSW_REJECT_CNT_CNT ST_LSW_LOCKED
  else ((s.lswReassert n).lswCommand n on).answer ST_OK

/-- R443: a host write of EN. -/
def lswEnWrite (s : Dev) (n : Fin 20) (en : Bool) : Dev :=
  if (s.lswOwner n).isSome then s.reject LSW_REJECT_CNT_CNT ST_LSW_OWNED
  else
    let s := s.setb (LSW_CH_CFG_EN n) en
    let s := if !en && s.lswOn n then s.lswStop n lcCommand else s.lswFollow n lcCommand
    s.answer ST_OK

/-- R436: a host write of UNLOCK. -/
def lswUnlock (s : Dev) (n : Fin 20) : Dev :=
  if !s.flag (LSW_CH_STATUS_LOCKED_CLAMP n) then (s.lswReassert n).answer ST_OK
  else if s.dt < s.lsw.chs[n].lockedAt + sec 10 || s.clampWin n != 0 then s.reject LSW_REJECT_CNT_CNT ST_LSW_COOL_PENDING
  else
    let s := ((s.lswReassert n).setb (LSW_CH_STATUS_LOCKED_CLAMP n) false).modCh n (fun x => { x with unlocked := true })
    (((s.set (LSW_CH_CLAMP_WIN n) 0).showLswOff n).post EV_LSW_CH_UNLOCKED (leBytes 1 n)).answer ST_OK

/-! Protections (R432 to R434) -/

/-- R432 to R434: a shutdown of a conducting channel. -/
def lswShutdown (s : Dev) (n : Fin 20) (cause : Nat) : Dev :=
  if !s.lswOn n then s
  else
    let latch := decide (s.get (LSW_CH_CFG_RETRY_MAX n) ≤ s.get (LSW_CH_STATUS_RETRY_CNT n))
    let s := s.incSat (LSW_CH_CNT_SHUTDOWNS n)
    let s := if latch then s.setb (LSW_CH_STATUS_LATCH n) true
      else s.modCh n (fun x =>
        { x with
          cooling := true
          offAt := s.dt })
    let s := (s.lswStop n cause).post EV_LSW_CH_SHUTDOWN (leBytes 1 n ++ leBytes 1 cause)
    s.when latch (·.post EV_LSW_CH_LATCHED (leBytes 1 n))

/-- R433: a retry whose conditions hold. -/
def lswRetry (s : Dev) (n : Fin 20) : Dev :=
  let s1 := s.modCh n (fun x => { x with cooling := false })
  if s.lsw.chs[n].cooling && decide (s.geti (LSW_CH_MEAS_TJ n) < 1400) && s.get (LSW_CH_STATUS_RETRY_CNT n) < s.get (LSW_CH_CFG_RETRY_MAX n) && s1.lswFree n &&
      s.get LSW_STATUS_SUPPLY != suDip then
    let s := (s1.incSat (LSW_CH_STATUS_RETRY_CNT n)).lswConduct n
    s.post EV_LSW_CH_RETRY (leBytes 1 n ++ leBytes 1 (s.get (LSW_CH_STATUS_RETRY_CNT n)))
  else s

/-- R433: when a channel's retry time has passed. -/
def retryDue (s : Dev) (n : Fin 20) : Nat := s.lsw.chs[n].offAt + ms (100 * s.get (LSW_CH_CFG_RETRY_T n))

/-- R432: the junction warning: it sets above 150 °C and clears below 140 °C; `tj` in 0.1 °C. -/
def lswWarn (s : Dev) (n : Fin 20) (tj : Int) : Dev :=
  let was := s.flag (LSW_CH_STATUS_TWARN n)
  let now := decide (1500 < tj) || (was && decide (1400 ≤ tj))
  ((s.seti (LSW_CH_MEAS_TJ n) tj).setb (LSW_CH_STATUS_TWARN n) now).when (now && !was) (·.post EV_LSW_TEMP_WARN (leBytes 1 n))

/-! Aggregate current (R428) -/

/-- R428: the channel to be shed. -/
def shedPick (s : Dev) : Option (Fin 20) :=
  ((idx 20).filter (fun (n : Fin 20) => s.lswOn n && decide (s.get (LSW_CH_CFG_SHED n) < 3))).foldl
    (fun (best : Option (Fin 20)) (n : Fin 20) =>
      match best with
      | some b => if s.get (LSW_CH_CFG_SHED n) ≤ s.get (LSW_CH_CFG_SHED b) then some n else best
      | none => some n) none

/-- R446: measured values are shown; LIMIT while a channel's limit acts. -/
def showMeas (s : Dev) (meas : List LswMeas) : Dev :=
  s.forEach ((idx 20).zip meas) (fun p s =>
    let s := (s.set (LSW_CH_MEAS_I p.1) p.2.mA).lswWarn p.1 p.2.tj
    s.when (s.lswOn p.1) (·.set (LSW_CH_STATUS_STATE p.1) (if p.2.limit then lsLimit else lsOn)))

/-- R428: the sums of all channel currents in the sliding 1 s window, with the present one. -/
def aggWindow (s : Dev) (meas : List LswMeas) : List (Nat × Nat) :=
  (s.dt, (meas.map (·.mA)).sum) :: s.lsw.sums.filter (fun q => decide (q.1 ≤ s.dt) && decide (s.dt < q.1 + sec 1))

/-- R428: one evaluation of the mean over the last 1 s. The sum is taken at each evaluation (DESIGN CHOICE, log entry 42). -/
def aggEval (s : Dev) (meas : List LswMeas) : Dev :=
  let l := s.aggWindow meas
  let total := (l.map (·.2)).sum
  let mean := total / l.length / 10
  let s := s.modLsw (fun x => { x with sums := l })
  let s := (s.set LSW_AGG_MEAN mean).set LSW_AGG_PEAK (max mean (s.get LSW_AGG_PEAK))
  if 30000 * l.length < total then
    let s := (s.setb LSW_STATUS_AGG_OVER true).modLsw (fun x => { x with lowSince := none })
    match s.shedPick with
    | some n => ((s.modCh n (fun x => { x with shed := true })).lswStop n lcShed).post EV_LSW_AGG_SHED (leBytes 1 n)
    | none => s
  else if total ≤ 27000 * l.length then
    let t := s.lsw.lowSince.getD s.dt
    (s.modLsw (fun x => { x with lowSince := some t })).when (decide (t + sec 1 ≤ s.dt)) (·.setb LSW_STATUS_AGG_OVER false)
  else s.modLsw (fun x => { x with lowSince := none })

/-! Off-state diagnosis (R437) -/

/-- A flag that sets after three tests in a row with its result and clears after three without: runs and flag. -/
def threeRuns (flag result : Bool) (yes no : Nat) : Bool × Nat × Nat :=
  let yes := if result then min 3 (yes + 1) else 0
  let no := if result then 0 else min 3 (no + 1)
  (if yes = 3 then true else if no = 3 then false else flag, yes, no)

/-- R437: one test with its two voltages, in mV: every 100 ms while the channel is off. -/
def offTest (s : Dev) (n : Fin 20) (v0 v1 : Nat) : Dev :=
  if s.lswOn n || !s.flag (LSW_CH_CFG_OL_EN n) || s.get LSW_STATUS_SUPPLY != suNormal then s
  else
    let s := match s.lsw.chs[n].testAt with
      | some t => s.reach (t + ms 100)
      | none => s
    let x := s.lsw.chs[n]
    let short := decide (4000 < v0)
    let open_ := !short && decide (4000 < v1)
    let a := threeRuns (s.flag (LSW_CH_STATUS_OPEN_LOAD n)) open_ x.openYes x.openNo
    let b := threeRuns (s.flag (LSW_CH_STATUS_SHORT_VAUX n)) short x.shortYes x.shortNo
    let newOpen := a.1 && !s.flag (LSW_CH_STATUS_OPEN_LOAD n)
    let newShort := b.1 && !s.flag (LSW_CH_STATUS_SHORT_VAUX n)
    let s := s.modCh n (fun x =>
      { x with
        openYes := a.2.1
        openNo := a.2.2
        shortYes := b.2.1
        shortNo := b.2.2
        testAt := some s.dt })
    let s := (s.setb (LSW_CH_STATUS_OPEN_LOAD n) a.1).setb (LSW_CH_STATUS_SHORT_VAUX n) b.1
    (s.when newOpen (·.post EV_LSW_OPEN_LOAD (leBytes 1 n))).when newShort (·.post EV_LSW_SHORT_VAUX (leBytes 1 n))

/-! Supply (R438) -/

def setSupply (s : Dev) (c : Nat) : Dev := (s.set LSW_STATUS_SUPPLY c).modLsw (fun x => { x with supplyAt := s.dt })

/-- Every conducting channel goes off for a cause. -/
def lswAllOff (s : Dev) (cause : Nat) : Dev :=
  s.forEach ((idx 20).filter (fun (n : Fin 20) => s.lswOn n)) (fun n s => s.lswStop n cause)

/-- R438: a condition ends: the wayledger records it with its extreme VAUX (mV) and its duration (µs). -/
def supplyRecord (s : Dev) (cond extreme : Nat) : Dev :=
  s.ledger LG_SUPPLY (leBytes 1 cond ++ leBytes 4 extreme ++ leBytes 4 ((s.dt - s.lsw.supplyAt) / 1000))

/-- R438: a condition is left for another one: its extreme VAUX is not known here. -/
def supplyLeft (s : Dev) (cond : Nat) (ev : Code) : Dev :=
  if s.get LSW_STATUS_SUPPLY != cond then s
  else
    let q := s.fresh
    (q.2.supplyRecord cond (Config.freeNat q.1 % 2 ^ 32)).post ev

def surge (s : Dev) : Dev :=
  if s.get LSW_STATUS_SUPPLY = suSurge then s
  else (((((s.supplyLeft suDip EV_LSW_DIP_END).setSupply suSurge).bump LSW_SURGE_CNT).lswAllOff lcSurge).post EV_LSW_SURGE)

def surgeEnd (s : Dev) (peak : Nat) : Dev :=
  if s.get LSW_STATUS_SUPPLY != suSurge then s
  else
    let s := (s.supplyRecord suSurge peak).setSupply suNormal
    let s := s.forEach (idx 20) (fun n s =>
      if s.lsw.chs[n].cooling && decide (s.retryDue n ≤ s.dt) then s.lswRetry n else s.lswSettle n lcCommand)
    s.post EV_LSW_SURGE_END

def dip (s : Dev) : Dev :=
  if s.get LSW_STATUS_SUPPLY = suDip then s
  else (((s.supplyLeft suSurge EV_LSW_SURGE_END).setSupply suDip).bump LSW_DIP_CNT).post EV_LSW_DIP

def dipEnd (s : Dev) (lowest : Nat) : Dev :=
  if s.get LSW_STATUS_SUPPLY != suDip then s
  else (((s.supplyRecord suDip lowest).setSupply suNormal).lswFollowAll lcCommand).post EV_LSW_DIP_END

/-! Resets and SAFE-HOLD (R431, R440, R441) -/

/-- R440, R441: a reset opens the hold window, unless one runs. -/
def openHold (s : Dev) : Dev :=
  if s.lsw.holdAt.isSome then s
  else
    (s.setb LSW_STATUS_HOLD true).modLsw (fun x =>
      { x with
        holdAt := some s.dt
        chs := x.chs.map (fun c => { c with reasserted := false }) })

/-- R440, R512: the firmware re-asserts the channels with PERSIST = 1. -/
def persistReassert (s : Dev) : Dev :=
  s.forEach (idx 20) (fun n s => if s.flag (LSW_CH_CFG_PERSIST n) then (s.lswReassert n).lswFollow n lcCommand else s)

/-- R431: a channel takes its reset state; a fail-on reset state counts as a new command on for a shed channel. -/
def lswResetState (s : Dev) (n : Fin 20) (cause : Nat) : Dev :=
  let on := s.failOn n
  let s := (s.setb (LSW_CH_CTL_ON n) on).modCh n (fun x => { x with shed := x.shed && !on })
  s.lswFollow n cause

/-- R440, R441: the hold window ends. -/
def holdEndNow (s : Dev) : Dev :=
  match s.lsw.holdAt with
  | none => s
  | some t =>
    let s := s.reach (t + ms 500)
    let held := s.flag GEN_LIFECYCLE_SAFE_HOLD
    let late := (idx 20).filter (fun (n : Fin 20) => !s.lsw.chs[n].reasserted)
    let s := (s.setb LSW_STATUS_HOLD false).modLsw (fun x => { x with holdAt := none })
    let s := s.forEach (if held then idx 20 else late) (fun n s => s.lswResetState n lcHoldExpired)
    let mask := late.foldl (fun a n => a + 2 ^ n.val) 0
    s.when (mask != 0) (·.post EV_LSW_HOLD_EXPIRED (leBytes 4 mask))

/-- R41, R431, R442: SAFE-HOLD is entered: fail-on channels go on, the others off. It is no command that ends the wait after shedding or
after an unlock. -/
def lswSafeHold (s : Dev) : Dev :=
  s.forEach (idx 20) (fun n s => if s.failOn n then (s.setb (LSW_CH_CTL_ON n) true).lswFollow n lcCommand else s.lswFollow n lcSafeHold)

/-! The contactor's channel (R276, R430) -/

/-- R430: Vehicle Sessions commands an owned channel; a channel that cannot switch on posts ON_REFUSED. -/
def lswContactor (s : Dev) (n : Fin 20) (on : Bool) : Dev :=
  let s := s.lswCommand n on
  s.when (on && !s.lswOn n) (·.post EV_LSW_ON_REFUSED (leBytes 1 n))

end Dev

/-! The commands -/

/-- R429: LSW_ON_WRITE. -/
def effLswOnWrite (n : Fin 20) (on : Bool) (s : Dev) : Dev := s.lswOnWrite n on

def execLswOnWrite (n : Fin 20) (on : Bool) (s : State) : Host.Outcome State Fault Refusal := s.onReg 0x0F (effLswOnWrite n on)

/-- R443: LSW_EN_WRITE. -/
def effLswEnWrite (n : Fin 20) (en : Bool) (s : Dev) : Dev := s.lswEnWrite n en

def execLswEnWrite (n : Fin 20) (en : Bool) (s : State) : Host.Outcome State Fault Refusal := s.onReg 0x0F (effLswEnWrite n en)

/-- R436: LSW_UNLOCK. -/
def effLswUnlock (n : Fin 20) (s : Dev) : Dev := s.lswUnlock n

def execLswUnlock (n : Fin 20) (s : State) : Host.Outcome State Fault Refusal := s.onReg 0x0F (effLswUnlock n)

/-- R432: LSW_OVERCURRENT: the current limit, which began to act at `since`, has acted for LIM_T. -/
def effLswOvercurrent (n : Fin 20) (since : Nat) (s : Dev) : Dev :=
  match s.lsw.chs[n].since with
  | some t => (s.reach (max since t + Dev.ms (s.get (LSW_CH_CFG_LIM_T n)))).lswShutdown n lcOvercurrent
  | none => s

def execLswOvercurrent (n : Fin 20) (since : Nat) (s : State) : Host.Outcome State Fault Refusal := s.onPower (effLswOvercurrent n since)

/-- R432: LSW_THERMAL_SHUTDOWN. -/
def effLswThermalShutdown (n : Fin 20) (s : Dev) : Dev := s.lswShutdown n lcThermal

def execLswThermalShutdown (n : Fin 20) (s : State) : Host.Outcome State Fault Refusal := s.onPower (effLswThermalShutdown n)

/-- R432: LSW_TEMP_WARN. -/
def effLswTempWarn (n : Fin 20) (tj : Int) (s : Dev) : Dev := s.lswWarn n tj

def execLswTempWarn (n : Fin 20) (tj : Int) (s : State) : Host.Outcome State Fault Refusal := s.onPower (effLswTempWarn n tj)

/-- R433: LSW_RETRY. -/
def effLswRetry (n : Fin 20) (s : Dev) : Dev := if s.lsw.chs[n].cooling then (s.reach (s.retryDue n)).lswRetry n else s

def execLswRetry (n : Fin 20) (s : State) : Host.Outcome State Fault Refusal := s.onPower (effLswRetry n)

/-- R433: LSW_RETRY_CNT_RESET. -/
def effLswRetryCntReset (n : Fin 20) (s : Dev) : Dev :=
  match s.lsw.chs[n].since with
  | some t => (s.reach (t + Dev.sec 60)).set (LSW_CH_STATUS_RETRY_CNT n) 0
  | none => s

def execLswRetryCntReset (n : Fin 20) (s : State) : Host.Outcome State Fault Refusal := s.onPower (effLswRetryCntReset n)

/-- R428: LSW_AGG_EVAL. -/
def effLswAggEval (meas : List LswMeas) (vaux vhold : Nat) (s : Dev) : Dev :=
  let s := s.tick .switches (Dev.ms 10)
  ((((s.set LSW_SUPPLY_VAUX vaux).set LSW_SUPPLY_VHOLD vhold).showMeas meas).aggEval meas)

def execLswAggEval (meas : List LswMeas) (vaux vhold : Nat) (s : State) : Host.Outcome State Fault Refusal :=
  s.onPower (effLswAggEval meas vaux vhold)

/-- R437: LSW_OFFSTATE_TEST. -/
def effLswOffstateTest (n : Fin 20) (v0 v1 : Nat) (s : Dev) : Dev := s.offTest n v0 v1

def execLswOffstateTest (n : Fin 20) (v0 v1 : Nat) (s : State) : Host.Outcome State Fault Refusal := s.onPower (effLswOffstateTest n v0 v1)

/-- R438: VAUX_SURGE. -/
def effVauxSurge (s : Dev) : Dev := s.surge

def execVauxSurge (s : State) : Host.Outcome State Fault Refusal := s.onPower effVauxSurge

/-- R438: VAUX_SURGE_END. -/
def effVauxSurgeEnd (peak : Nat) (s : Dev) : Dev := s.surgeEnd peak

def execVauxSurgeEnd (peak : Nat) (s : State) : Host.Outcome State Fault Refusal := s.onPower (effVauxSurgeEnd peak)

/-- R438: VAUX_DIP. -/
def effVauxDip (s : Dev) : Dev := s.dip

def execVauxDip (s : State) : Host.Outcome State Fault Refusal := s.onPower effVauxDip

/-- R438: VAUX_DIP_END. -/
def effVauxDipEnd (lowest : Nat) (s : Dev) : Dev := s.dipEnd lowest

def execVauxDipEnd (lowest : Nat) (s : State) : Host.Outcome State Fault Refusal := s.onPower (effVauxDipEnd lowest)

/-- R440: HOLD_WINDOW_END. -/
def effHoldWindowEnd (s : Dev) : Dev := s.holdEndNow

def execHoldWindowEnd (s : State) : Host.Outcome State Fault Refusal := s.onDev effHoldWindowEnd

end Sys2Proof.Machine
end

