-- ==== Sys2Proof/Machine/Ipv6.lean ====
section
/-! DEFINITION. What of the vehicle link's network layer the spec names (R266): the outlet's link-local address, the answers of Neighbour
Discovery, duplicate address detection and ICMPv6 echo. Their octets are those of IPv6, ICMPv6 and Neighbour Discovery (PRESUMED, log
entry 37). -/

namespace Sys2Proof.Machine

/-- `n` bytes of a number, most significant first. -/
def beBytes (n x : Nat) : List Byte := (leBytes n x).reverse

/-- The one's complement sum of 16-bit words. -/
def sum16 : List Byte → Nat
  | [] => 0
  | [a] => 256 * a.toNat
  | a :: b :: rest =>
    let x := 256 * a.toNat + b.toNat + sum16 rest
    x % 65536 + x / 65536

/-- R266: the interface's link-local address by modified EUI-64. -/
def linkLocal (mac : Nat) : List Byte :=
  let m := beBytes 6 mac
  [0xFE#8, 0x80#8, 0#8, 0#8, 0#8, 0#8, 0#8, 0#8] ++ ((m.take 1).map (fun b => b ^^^ 2#8)) ++ (m.drop 1).take 2 ++ [0xFF#8, 0xFE#8] ++ m.drop 3

/-- The unspecified address, and the address of all nodes. -/
def ipNone : List Byte := List.replicate 16 0#8
def ipAll : List Byte := [0xFF#8, 0x02#8] ++ List.replicate 13 0#8 ++ [1#8]

/-- The solicited-node group of an address. -/
def ipSolicited (a : List Byte) : List Byte := [0xFF#8, 0x02#8] ++ List.replicate 9 0#8 ++ [1#8, 0xFF#8] ++ a.drop 13

/-- The group address of the link layer. -/
def macGroup (a : List Byte) : List Byte := [0x33#8, 0x33#8] ++ a.drop 12

/-- An ICMPv6 message in its packet and frame. -/
def icmpFrame (dstMac srcMac src dst : List Byte) (type : Byte) (body : List Byte) : List Byte :=
  let n := body.length + 4
  let sum := sum16 (src ++ dst ++ beBytes 4 n ++ [0#8, 0#8, 0#8, 58#8, type, 0#8, 0#8, 0#8] ++ body)
  let check := beBytes 2 (65535 - sum % 65536)
  dstMac ++ srcMac ++ [0x86#8, 0xDD#8, 0x60#8, 0#8, 0#8, 0#8] ++ beBytes 2 n ++ [58#8, 255#8] ++ src ++ dst ++ [type, 0#8] ++ check ++ body

/-- R266: duplicate address detection: the outlet asks for its own address. -/
def askOwn (mac : Nat) : List Byte :=
  let a := linkLocal mac
  let g := ipSolicited a
  icmpFrame (macGroup g) (beBytes 6 mac) ipNone g 135#8 ([0#8, 0#8, 0#8, 0#8] ++ a)

/-- R266: what the outlet answers to an Ethernet frame by itself: a solicitation of its address, or an echo request. -/
def icmpAnswer (mac : Nat) (d : List Byte) : Option (List Byte) :=
  let own := linkLocal mac
  let me := beBytes 6 mac
  let peer := (d.drop 6).take 6
  let src := (d.drop 22).take 16
  let dst := (d.drop 38).take 16
  let type := (d[54]?).getD 0
  let body := d.drop 58
  if (d.drop 12).take 2 != [0x86#8, 0xDD#8] || (d[20]?).getD 0 != 58#8 then none
  else if type = 128#8 && dst == own then some (icmpFrame peer me own src 129#8 body)
  else if type = 135#8 && (body.drop 4).take 16 == own then
    (if src == ipNone then some (icmpFrame (macGroup ipAll) me own ipAll 136#8 ([0x20#8, 0#8, 0#8, 0#8] ++ own ++ [2#8, 1#8] ++ me))
     else some (icmpFrame peer me own src 136#8 ([0x60#8, 0#8, 0#8, 0#8] ++ own ++ [2#8, 1#8] ++ me)))
  else none

end Sys2Proof.Machine
end

