-- ==== Sys2Proof/Machine/Frames.lean ====
section
/-! DEFINITION. Frames as the device receives them from the pistes: the checks of R199 to R201, telemetry (R206, R101, R103), metering
samples (R208, R307) and the vehicle tunnel (R212, R264, R266). -/

namespace Sys2Proof.Machine

/-- R200: whether a frame to the device of a TYPE may have a LEN. -/
def lenOk (type len : Nat) : Bool :=
  if type = ftTele then len == 6
  else if type = ftMeas then len == 8
  else if type = ftCtrl then decide (1 ≤ len) && decide (len ≤ 31)
  else if type = ftCensus then len == 4
  else if type = ftTun then decide (2 ≤ len) && decide (len ≤ 31)
  else false

/-- R199, R200: the frame is whole and of TYPE `type`. -/
def frameOk (f : RxFrame) (type : Nat) : Bool := f.frame.ok type (lenOk type)

namespace Dev

/-- The table entry a frame comes from. -/
def frameNode (s : Dev) (f : RxFrame) : Option (Fin 128) := s.nodeAt f.piste f.hop

/-- R199, R229, R230: discard a frame and count it. -/
def discardFrame (s : Dev) (f : RxFrame) : Dev :=
  let s := s.bump PST_FRAME_ERR
  match s.frameNode f with
  | some i => s.incSat (PST_NODE_ERR_CRC i)
  | none => s

/-- R201: a second frame with the same source, TYPE and SEQ within 10 ms. -/
def heardBefore (s : Dev) (i : Nat) (f : RxFrame) : Bool :=
  s.pst.heard.any (fun h => h.node == i && h.type == f.type && h.seq == f.seq && decide (s.dt ≤ h.dt + ms 10))

/-- Remember a frame; what is older than 10 ms is forgotten. -/
def hear (s : Dev) (i : Nat) (f : RxFrame) : Dev :=
  let h : Heard := { node := i, type := f.type, seq := f.seq, dt := s.dt }
  (s.putPst { s.pst with heard := h :: s.pst.heard.filter (fun x => decide (s.dt ≤ x.dt + ms 10)) })

/-- R196, R229: reserved blocks are discarded and counted. -/
def countReserved (s : Dev) (f : RxFrame) : Dev := s.bump PST_FRAME_ERR f.reserved

/-- R199 to R201, R216: take a frame of TYPE `type` from a present node, or discard it. -/
def takeFrame (s : Dev) (f : RxFrame) (type : Nat) (use : Fin 128 → Dev → Dev) : Dev :=
  let s := s.countReserved f
  if !frameOk f type then s.discardFrame f
  else
    match s.frameNode f with
    | some i => if s.heardBefore i f || !s.nodePresent i then s else use i (s.hear i f)
    | none => s

/-! TELE (R206, R101, R103) -/

/-- R101, R103: the device acts on a leg only when it is armed and the sample follows the release write of its last arm. -/
def actsOn (s : Dev) (i : Fin 408) (sampleDt : Nat) : Bool :=
  s.armed i && (s.leg i).relDt.any (fun t => decide (t < sampleDt))

/-- The legs of a stage. -/
def stageLegs (st : Nat) : List (Fin 408) := (idx 408).filter (fun (i : Fin 408) => !isLocal i && legStage i == st)

/-- R101, R103: what the STATUS of a stage node's TELE does to a stage's legs. -/
def stageTele (s : Dev) (st sampleDt status : Nat) : Dev :=
  let hit := (stageLegs st).filter (fun (i : Fin 408) => status.testBit (i.val % 6) && s.actsOn i sampleDt)
  let s := s.forEach hit (fun i s => s.faultLeg i fcNode)
  let s :=
    if hit.isEmpty || s.flag (EDG_STG_CFG_FAULT_SCOPE st) then s
    else s.forEach ((stageLegs st).filter (fun (i : Fin 408) => s.armed i)) (fun i s => s.faultLeg i fcSibling)
  if status.testBit 6 then
    s.forEach ((stageLegs st).filter (fun (i : Fin 408) => s.actsOn i sampleDt)) (fun i s => s.faultLeg i fcStale)
  else s

/-- R206: a TELE frame of entry `i`. -/
def teleFrame (s : Dev) (i : Fin 128) (f : RxFrame) : Dev :=
  let t := fieldAt f.data 0 8
  let half := fun (old : TeleHalf) =>
    ({ dt := some t
       ch := (List.range 8).map (fun k =>
         let v := wordAt f.data (8 + 4 * k)
         if F32.isNaN v then (old.ch[k]?).join else some (v, t)) } : TeleHalf)
  let status := fieldAt f.data 40 2
  let s := s.modSeen i (fun x =>
    { x with
      lo := if f.sub = 0#8 then half x.lo else x.lo
      hi := if f.sub = 1#8 then half x.hi else x.hi
      faultIn := status.testBit 9 })
  if s.get (PST_NODE_INFO_CLASS i) = 1 then
    s.forEach ((List.range 64).filter (fun st => s.stageNode st == some i)) (fun st s => s.stageTele st t status)
  else if s.get (PST_NODE_INFO_CLASS i) = 6 && f.sub = 0#8 then s.strTele i (status.testBit 7)
  else s

/-! MEAS (R208, R307) -/

/-- R208: the samples of a MEAS frame. -/
def measSamples (d : List Byte) : List (Int × Int) :=
  (List.range 8).map (fun k => (code24 d (8 + 6 * k), code24 d (11 + 6 * k)))

/-- R208, R307: a MEAS frame of entry `i` is kept for its metering block by the slot the head is bound to. -/
def measFrame (s : Dev) (i : Fin 128) (f : RxFrame) : Dev :=
  let fr : HeadFrame :=
    { dt := fieldAt f.data 0 8, got := s.dt, spoilt := fieldAt f.data 56 2 % 16 != 0, samples := measSamples f.data }
  s.forEach ((idx 48).filter (fun (h : Fin 48) => s.get64 (TRI_HEAD_NODE_LO h) == s.nodeId i && s.get (PST_NODE_INFO_CLASS i) == 2))
    (fun h s => s.putMtr { s.mtr with frames := vupd s.mtr.frames h (fun l => (fr :: l).take 12) })

/-! TUN (R212, R264, R266) -/

/-- R266: whether the device's stack takes an Ethernet frame: IPv6 with ICMPv6, TCP, or UDP to port 15118. -/
def takesEthernet (d : List Byte) : Bool :=
  (d.drop 12).take 2 == [0x86#8, 0xDD#8] &&
    (let nh := fieldAt d 20 1
     nh == 58 || nh == 6 || (nh == 17 && (d.drop 56).take 2 == [0x3B#8, 0x0E#8]))

/-- R266: the MAC address of an outlet. -/
def outMac (s : Dev) (n : Nat) : Nat := s.get (VSS_OUT_MAC_HI_MAC n) * 2 ^ 32 + s.get (VSS_OUT_MAC_LO_MAC n)

/-- R212, R266: a whole Ethernet frame of the vehicle link; the device answers Neighbour Discovery and echo requests by itself. -/
def etherFrame (s : Dev) (i : Fin 128) (d : List Byte) : Dev :=
  if 1518 < d.length then s
  else if takesEthernet d then
    let s := s.emit (.ethernet i d)
    match (idx 16).find? (fun (n : Fin 16) => s.get64 (VSS_OUT_NODE_LO n) == s.nodeId i) with
    | some n => (match icmpAnswer (s.outMac n) d with
      | some x => s.sendEthernet i x
      | none => s)
    | none => s
  else s.bump VSS_PROTO_ERR

/-- R212: a TUN frame of entry `i`: its segment follows those in hand, or the partial frame is discarded. -/
def tunFrame (s : Dev) (i : Fin 128) (f : RxFrame) : Dev :=
  let q := tunJoin ((s.pst.tun.find? (fun q => q.1 == i.val)).map (·.2)) f.data
  let s := s.putPst { s.pst with tun := (match q.1 with
    | some x => [(i.val, x)]
    | none => []) ++ s.pst.tun.filter (fun q => q.1 != i.val) }
  match q.2 with
  | some d => s.etherFrame i d
  | none => s

end Dev

/-! The commands -/

/-- R206: TELE_FRAME_RECEIVED. -/
def effTeleFrameReceived (f : RxFrame) (s : Dev) : Dev := s.takeFrame f ftTele (fun i s => s.teleFrame i f)

def execTeleFrameReceived (f : RxFrame) (s : State) : Host.Outcome State Fault Refusal := s.onRun (effTeleFrameReceived f)

/-- R208: MEAS_FRAME_RECEIVED. -/
def effMeasFrameReceived (f : RxFrame) (s : Dev) : Dev := s.takeFrame f ftMeas (fun i s => s.measFrame i f)

def execMeasFrameReceived (f : RxFrame) (s : State) : Host.Outcome State Fault Refusal := s.onRun (effMeasFrameReceived f)

/-- R212: TUN_FRAME_RECEIVED. -/
def effTunFrameReceived (f : RxFrame) (s : Dev) : Dev := s.takeFrame f ftTun (fun i s => s.tunFrame i f)

def execTunFrameReceived (f : RxFrame) (s : State) : Host.Outcome State Fault Refusal := s.onRun (effTunFrameReceived f)

end Sys2Proof.Machine
end

