-- ==== Sys2Proof/Machine/Heads.lean ====
section
/-! DEFINITION. The states of the triad's heads (R333, R334, R338, R339, R342) as the pistes, the vote and the host move them. Head slot
`h` is 3n + k for head k of outlet n. -/

namespace Sys2Proof.Machine

/-- R334: head states. -/
def hdUnbound : Nat := 0
def hdAdmitted : Nat := 1
def hdStandby : Nat := 2
def hdTesting : Nat := 3

/-- R346: causes. -/
def hcDisagree : Nat := 1
def hcAbsent : Nat := 2
def hcNodeLost : Nat := 3
def hcPlacement : Nat := 4
def hcHost : Nat := 5
def hcTestFail : Nat := 6
def hcPisteTest : Nat := 7

/-- R341: test steps. -/
def tsResync : Nat := 1
def tsSelf : Nat := 2
def tsAgree : Nat := 3

/-- R347: the payload of a head event. -/
def headPayload (h : Nat) (more : List Byte := []) : List Byte := leBytes 1 (h / 3) ++ leBytes 1 h ++ more

namespace Dev

def modHead (s : Dev) (h : Fin 48) (f : HeadSt → HeadSt) : Dev := s.putTri { s.tri with heads := vupd s.tri.heads h f }

def headState (s : Dev) (h : Nat) : Nat := s.get (TRI_HEAD_STATUS_STATE h)

/-- R333: the node a head slot is bound to. -/
def headNode (s : Dev) (h : Nat) : Option (Fin 128) := s.nodeById (s.get64 (TRI_HEAD_NODE_LO h)) 2

/-- R333: the piste or pair a bound head sits on. -/
def headPiste (s : Dev) (h : Nat) : Option Nat := (s.headNode h).map (fun i => s.get (PST_NODE_INFO_PISTE i))

/-- The head slots of an outlet. -/
def headsOf (n : Nat) : List (Fin 48) := (idx 48).filter (fun (h : Fin 48) => h.val / 3 == n)

def admittedHeads (s : Dev) (n : Nat) : List (Fin 48) := (headsOf n).filter (fun h => s.headState h == hdAdmitted)

/-- R338: the metering health of an outlet. -/
def triHealth (s : Dev) (n : Nat) : Nat :=
  if s.flag (TRI_OUT_STATUS_VOTE_LOST n) then 0 else s.get (TRI_OUT_STATUS_ADMITTED n)

/-- R345, R346: ADMITTED and DEGRADED of an outlet. -/
def refreshTriad (s : Dev) (n : Nat) : Dev :=
  let c := (s.admittedHeads n).length
  let deg := s.flag (TRI_OUT_CFG_EN n) && decide (c < 3)
  let was := (s.get TRI_STATUS_DEGRADED).testBit n
  let s := (s.set (TRI_OUT_STATUS_ADMITTED n) c).setBit TRI_STATUS (16 + n) deg
  s.when (deg && !was) (·.post EV_TRI_DEGRADED (leBytes 1 n))

/-- A head takes a state, a cause and a test step; its runs and its progress start afresh. -/
def setHead (s : Dev) (h : Fin 48) (st cause step : Nat) : Dev :=
  let s := ((s.set (TRI_HEAD_STATUS_STATE h) st).set (TRI_HEAD_STATUS_CAUSE h) cause).set (TRI_HEAD_STATUS_STEP h) step
  let s := ((s.set (TRI_HEAD_STATUS_DIS_RUN h) 0).set (TRI_HEAD_STATUS_ABS_RUN h) 0).set (TRI_HEAD_TEST_PROGRESS h) 0
  (s.modHead h (fun x => { x with stepDt := s.dt, agreeBlocks := 0 })).refreshTriad (h.val / 3)

/-- R334, R339: a head goes to STANDBY. -/
def headStandby (s : Dev) (h : Fin 48) (cause : Nat) : Dev :=
  let was := s.headState h == hdAdmitted
  let s := (s.setHead h hdStandby cause 0).modHead h (fun x => { x with standbyDt := s.dt, wantStandby := false })
  let s := s.when (cause == hcPlacement) (·.post EV_TRI_PLACEMENT_BAD (headPayload h))
  let s := s.when was (·.post EV_TRI_HEAD_EXCLUDED (headPayload h (leBytes 1 cause)))
  s.when (cause == hcDisagree || cause == hcPlacement) (·.bookTamper tpHead)

/-- R341, R342: a head starts its test. -/
def headTest (s : Dev) (h : Fin 48) : Dev :=
  (s.setHead h hdTesting 0 tsResync).modHead h (fun x => { x with wantTest := false })

/-- R341: a test step fails. -/
def headFail (s : Dev) (h : Fin 48) : Dev :=
  let step := s.get (TRI_HEAD_STATUS_STEP h)
  let fails := min 3 (s.get (TRI_HEAD_STATUS_FAILS h) + 1)
  let s := (s.headStandby h hcTestFail).set (TRI_HEAD_STATUS_FAILS h) fails
  s.post EV_TRI_READMIT_FAILED (headPayload h (leBytes 1 step ++ leBytes 1 fails))

/-- R342: whether a bound head enters TESTING when its outlet is enabled or the device restarts. -/
def headMayStart (s : Dev) (h : Nat) : Bool :=
  (s.headNode h).isSome &&
    !(s.headState h == hdStandby &&
      (s.get (TRI_HEAD_STATUS_CAUSE h) == hcHost ||
        (s.get (TRI_HEAD_STATUS_CAUSE h) == hcTestFail && s.get (TRI_HEAD_STATUS_FAILS h) == 3)))

/-- R342: start the tests of an outlet's heads. -/
def triadStart (s : Dev) (n : Nat) : Dev :=
  s.forEach (headsOf n) (fun h s => if s.headMayStart h then s.headTest h else s)

/-- The enabled head slots. -/
def liveHeads (s : Dev) : List (Fin 48) := (idx 48).filter (fun (h : Fin 48) => s.flag (TRI_OUT_CFG_EN (h.val / 3)))

/-- R334: what the presence of nodes does to the heads. -/
def headsFollowNodes (s : Dev) : Dev :=
  s.forEach s.liveHeads (fun h s =>
    let bound := (s.headNode h).isSome
    let st := s.headState h
    if st = hdUnbound && bound then s.headTest h
    else if (st = hdAdmitted || st = hdTesting) && !bound then s.headStandby h hcNodeLost
    else s)

/-- R333: another head of the outlet, of lower k, shares this head's piste or pair. -/
def headMisplaced (s : Dev) (h : Fin 48) : Bool :=
  (headsOf (h.val / 3)).any (fun j => decide (j.val < h.val) && (s.headPiste j).isSome && s.headPiste j == s.headPiste h)

/-- R333, R342: check the placement of the heads at a census. -/
def checkPlacement (s : Dev) : Dev :=
  s.forEach s.liveHeads (fun h s =>
    let st := s.headState h
    let bad := s.headMisplaced h
    if bad && (st = hdAdmitted || st = hdTesting) then s.headStandby h hcPlacement
    else if !bad && st = hdStandby && s.get (TRI_HEAD_STATUS_CAUSE h) = hcPlacement && (s.headNode h).isSome then s.headTest h
    else s)

/-- R339: a piste enters TEST. -/
def headsLoseTest (s : Dev) (p : Nat) : Dev :=
  s.forEach s.liveHeads (fun h s =>
    if s.headState h = hdAdmitted && s.headPiste h == some (s.homePiste p) then s.headStandby h hcPisteTest else s)

/-- R342: a piste leaves TEST. -/
def headsLeaveTest (s : Dev) (p : Nat) : Dev :=
  s.forEach s.liveHeads (fun h s =>
    if s.headState h = hdStandby && s.get (TRI_HEAD_STATUS_CAUSE h) = hcPisteTest && s.headPiste h == some (s.homePiste p)
    then s.headTest h else s)

end Dev

end Sys2Proof.Machine
end

