-- ==== Sys2Proof/Machine/Cle.lean ====
section
/-! DEFINITION. The control law engine (R116 to R143): sampling, execution, misses, opening and closing of slots, duty maps, and the
coolant loops' set-points and failures (R159, R160). -/

namespace Sys2Proof.Machine

/-- Fixed-point unit of temperatures, flows and the like: 2^64 (log entry 6). -/
def fxOne : Nat := 2 ^ 64

namespace F32

/-- A value held in 2^−64 units. -/
def ofFx (x : Int) : F32 := ofFrac x fxOne

/-- A value held in 2^−32 units. -/
def ofQ32 (x : Int) : F32 := ofFrac x (2 ^ 32)

end F32

/-- R122: slot types. -/
def tyPidf : Nat := 0
def tyBiq4 : Nat := 1
def tySs4 : Nat := 2
def tyRamp : Nat := 3

/-- R135: miss causes. -/
def mcLate : Nat := 1
def mcStale : Nat := 2
def mcNan : Nat := 3

/-- The outcome of one execution: outputs, states, and whether an output was clamped. -/
structure LawOut where
  y0 : F32
  y1 : F32
  st : List F32
  sat : Bool
deriving DecidableEq, Repr

/-- What a law reads: input A and B conditioned, Ts, limits, coefficients, states, the execution's number since the close, BUMP_N, the
offsets and the held outputs. -/
structure LawIn where
  a : F32
  b : F32
  ts : F32
  ymin0 : F32
  ymax0 : F32
  ymin1 : F32
  ymax1 : F32
  coef : List F32
  st : List F32
  order : Nat
  j : Nat
  bumpN : Nat
  d0 : F32
  d1 : F32
  hold0 : F32
  hold1 : F32
  rate : Option F32
deriving DecidableEq, Repr

namespace LawIn

open F32

def c (x : LawIn) (k : Nat) : F32 := x.coef.getD k 0
def s (x : LawIn) (k : Nat) : F32 := x.st.getD k 0

/-- Whether an output differs from its clamped value. -/
def clamped (lo hi u : F32) : Bool := lt u lo || lt hi u

/-- R123, R124, R133: PIDF. -/
def pidf (x : LawIn) : LawOut :=
  let kp := x.c 0
  let ki := x.c 1
  let kd := x.c 2
  let tf := x.c 3
  let kf := x.c 4
  let e := sub x.a x.b
  let first := x.j = 0
  let i0 := if first then sub (sub x.hold0 (mul kp e)) (mul kf x.a) else x.s 0
  let dPrev := if first then 0 else x.s 1
  let ePrev := if first then e else x.s 2
  let d := div (add (mul tf dPrev) (mul kd (sub e ePrev))) (add tf x.ts)
  let out := fun i => add (add (add (mul kp e) i) d) (mul kf x.a)
  let u0 := out i0
  let kie := mul ki e
  let wind := (lt x.ymax0 u0 && lt 0 kie) || (lt u0 x.ymin0 && lt kie 0)
  let i := if first || wind then i0 else add i0 (mul (mul ki x.ts) e)
  let u := out i
  { y0 := clamp x.ymin0 x.ymax0 u, y1 := 0, st := [i, d, e], sat := clamped x.ymin0 x.ymax0 u || (wind && !first) }

/-- R125: the sections of BIQ4 from section `j` on: the cascade output and the new states. -/
def sections (x : LawIn) : Nat → Nat → F32 → F32 × List F32
  | 0, _, v => (v, [])
  | n + 1, j, v =>
    let b0 := x.c (5 * j)
    let b1 := x.c (5 * j + 1)
    let b2 := x.c (5 * j + 2)
    let a1 := x.c (5 * j + 3)
    let a2 := x.c (5 * j + 4)
    let y := add (mul b0 v) (x.s (2 * j))
    let s1 := add (sub (mul b1 v) (mul a1 y)) (x.s (2 * j + 1))
    let s2 := sub (mul b2 v) (mul a2 y)
    let r := sections x n (j + 1) y
    (r.1, s1 :: s2 :: r.2)

/-- R133: the part of an offset that execution `j` uses. -/
def fade (x : LawIn) (d : F32) : F32 :=
  if x.j < x.bumpN then div (mul d (ofInt (x.bumpN - x.j : Nat))) (ofInt x.bumpN) else 0

/-- R125, R133: BIQ4; the offset found at the first execution comes back in the states' place of `d0`. -/
def biq4 (x : LawIn) (d0 : F32) : LawOut :=
  let r := sections x (x.order + 1) 0 (sub x.a x.b)
  let u := add (mul (x.c 20) r.1) (x.fade d0)
  { y0 := clamp x.ymin0 x.ymax0 u, y1 := 0, st := r.2, sat := clamped x.ymin0 x.ymax0 u }

/-- The offset of BIQ4 (R133). -/
def biqOffset (x : LawIn) : F32 := sub x.hold0 (mul (x.c 20) (sections x (x.order + 1) 0 (sub x.a x.b)).1)

/-- `row . v` over `n` terms, added in order. -/
def dot (x : LawIn) (base : Nat) (v : List F32) : Nat → F32
  | 0 => 0
  | 1 => mul (x.c base) (v.getD 0 0)
  | n + 1 => add (dot x base v n) (mul (x.c (base + n)) (v.getD n 0))

/-- R125: an output of SS4 before the offset. -/
def ssOut (x : LawIn) (k : Nat) : F32 :=
  add (dot x (24 + 4 * k) x.st (x.order + 1)) (dot x (32 + 2 * k) [x.a, x.b] 2)

/-- R125, R133: SS4. -/
def ss4 (x : LawIn) (d0 d1 : F32) : LawOut :=
  let n := x.order + 1
  let u0 := add (x.ssOut 0) (x.fade d0)
  let u1 := add (x.ssOut 1) (x.fade d1)
  let st := (List.range n).map (fun r => add (dot x (4 * r) x.st n) (dot x (16 + 2 * r) [x.a, x.b] 2))
  { y0 := clamp x.ymin0 x.ymax0 u0
    y1 := clamp x.ymin1 x.ymax1 u1
    st := st
    sat := clamped x.ymin0 x.ymax0 u0 || clamped x.ymin1 x.ymax1 u1 }

/-- R125, R126, R133: RAMP. -/
def ramp (x : LawIn) : LawOut :=
  let prev := if x.j = 0 then clamp x.ymin0 x.ymax0 x.hold0 else x.s 0
  let t := clamp x.ymin0 x.ymax0 x.a
  let up := (x.rate.getD (x.c 0))
  let dn := (x.rate.getD (x.c 1))
  let y := add prev (clamp (opp (mul dn x.ts)) (mul up x.ts) (sub t prev))
  { y0 := y, y1 := 0, st := [y], sat := clamped x.ymin0 x.ymax0 x.a }

end LawIn

namespace Dev

def slotClosed (s : Dev) (m : Nat) : Bool := s.get (CLE_SLOT_CTL_STATE m) == 1

/-! Sources (R120) -/

/-- R147: the hotspot estimate of an outlet's cable in 2^−64 °C. -/
def hotspot (s : Dev) (n : Nat) : Int :=
  match s.thm.cab.toList[n]? with
  | some c => max c.t1 c.t2
  | none => 0

/-- R120: whether KIND and INDEX name a source. -/
def sourceOk (k i : Nat) : Bool :=
  k == 0 || k == 1 || (k == 2 && decide (i ≤ 7)) || (k == 3 && decide (i ≤ 3)) || (k == 4 && decide (i < 256)) || k == 5 ||
    (k == 6 && decide (i % 128 ≤ 64) && decide (i / 128 ≤ 2)) || (k == 7 && decide (i ≤ 31)) ||
    (k == 8 && (decide (i ≤ 23) || (decide (32 ≤ i) && decide (i ≤ 47))))

/-- R120: the raw value of a source, none while it is stale. `pin` is the level or the pulse rate at the input it names (R542, R544). -/
def rawSource (s : Dev) (m k i : Nat) (pin : F32) : Option F32 :=
  match k with
  | 0 => some 0
  | 1 => some (s.rd (CLE_SLOT_SP_REG m))
  | 2 => some (F32.ain pin)
  | 3 => some (F32.pinRate pin)
  | 4 => some (s.rd (if i < 128 then CLE_SLOT_OUT0 i else CLE_SLOT_OUT1 (i % 128)))
  | 5 =>
    let st := i / 16
    match s.stageNode st with
    | none => none
    | some n =>
      match s.teleOf n (i % 16) with
      | none => none
      | some (v, t) =>
        let limit := max (2 * (s.get (CLE_SLOT_PERIOD_PERIOD m) * 5)) (2 * s.period (6 * st) / 4)
        if t + limit < s.dt then none else some v
  | 6 => some (s.grantSource i)
  | 7 => (s.measOf (i / 2)).map (fun v => F32.ofQ32 (if i % 2 = 0 then v.1 else v.2))
  | 8 =>
    some (F32.ofFx (if i < 32 then ((s.thm.sns.toList[i]?).bind (·.used)).getD 0 else s.hotspot (i - 32)))
  | _ => none

/-! Duty maps (R128) -/

/-- The output of a slot as it stands. -/
def slotOut (s : Dev) (m : Nat) (second : Bool) : F32 := s.rd (if second then CLE_SLOT_OUT1 m else CLE_SLOT_OUT0 m)

/-- R128: evaluate one map. -/
def evalMap (s : Dev) (i : Fin 408) : Dev :=
  let y0 := s.slotOut (s.get (CLE_MAP_SRC_SLOT0 i)) (s.flag (CLE_MAP_SRC_OUT0 i))
  let y1 := s.slotOut (s.get (CLE_MAP_SRC_SLOT1 i)) (s.flag (CLE_MAP_SRC_OUT1 i))
  let two := s.flag (CLE_MAP_SRC_SRC1_EN i)
  let mix := fun (o a b : F32) =>
    let v := F32.add o (F32.mul a y0)
    if two then F32.add v (F32.mul b y1) else v
  s.writeDuty i (mix (s.rd (CLE_MAP_OFS i)) (s.rd (CLE_MAP_C0 i)) (s.rd (CLE_MAP_C1 i)))
    (mix (s.rd (CLE_MAP_OFSF i)) (s.rd (CLE_MAP_C0F i)) (s.rd (CLE_MAP_C1F i)))

/-- R128: every enabled map that names slot `m`. -/
def evalMaps (s : Dev) (m : Nat) : Dev :=
  s.forEach ((idx 408).filter (fun (i : Fin 408) => s.flag (CLE_MAP_SRC_EN i) && !s.isSecondPin i &&
      (s.get (CLE_MAP_SRC_SLOT0 i) == m || (s.flag (CLE_MAP_SRC_SRC1_EN i) && s.get (CLE_MAP_SRC_SLOT1 i) == m))))
    (fun i s => s.evalMap i)

/-! Coolant loops (R159, R160) -/

/-- The loops declared on slot `m`. -/
def loopsOf (s : Dev) (m : Nat) : List (Fin 8) :=
  (idx 8).filter (fun (j : Fin 8) => s.flag (THM_LOOP_CFG_EN j) && s.get (THM_LOOP_CFG_SLOT j) == m)

/-- Send a set-point to the loop's cooling unit. -/
def sendSetpoint (s : Dev) (j : Fin 8) (v : F32) : Dev :=
  match s.nodeById (s.get64 (THM_LOOP_NODE_LO j)) 4 with
  | some n => s.sendCtrl n true (0x0030 + s.get (THM_LOOP_CFG_CHAN j)) 1 [v] .setpoint
  | none => s

/-- R159: the set-points of the NODE loops on slot `m`, at most once per 1 ms each. -/
def loopSetpoints (s : Dev) (m : Nat) : Dev :=
  s.forEach (s.loopsOf m) (fun j s =>
    if s.get (THM_LOOP_CFG_ACT j) == 1 && s.thm.lastSp[j].all (fun t => decide (t + ms 1 ≤ s.dt)) then
      (s.putThm { s.thm with lastSp := s.thm.lastSp.set j (some s.dt) } : Dev).sendSetpoint j (s.rd (CLE_SLOT_OUT0 m))
    else s)

/-- The cables that follow loop `j`. -/
def followers (s : Dev) (j : Nat) : List Nat :=
  (List.range 16).filter (fun n => s.flag (THM_CAB_LOOP_LOOP_EN n) && s.get (THM_CAB_LOOP_LOOP n) == j)

/-- R160: the slot of a declared loop has faulted. -/
def loopFail (s : Dev) (m : Nat) : Dev :=
  s.forEach (s.loopsOf m) (fun j s =>
    let cables := s.followers j
    let s := (s.forEach cables (fun n s => s.setb (THM_CAB_STATUS_LOOP_FAIL n) true)).setb (THM_LOOP_STATUS_FAILED j) true
    let s : Dev := s.putThm { s.thm with loopFails := (m, j.val, cables) :: s.thm.loopFails }
    let s := s.when (s.get (THM_LOOP_CFG_ACT j) == 1) (·.sendSetpoint j (F32.ofInt (s.get (THM_LOOP_CFG_FAIL_LEVEL j))))
    s.post EV_THM_LOOP_FAIL)

/-- R160: the slot is closed again: what its fault has marked is cleared, whatever the loops and cables have been set to since, unless
another slot's fault stands on it. -/
def loopRecover (s : Dev) (m : Nat) : Dev :=
  let mine := s.thm.loopFails.filter (fun q => q.1 == m)
  let left := s.thm.loopFails.filter (fun q => q.1 != m)
  let s : Dev := s.putThm { s.thm with loopFails := left }
  s.forEach mine (fun q s =>
    (s.forEach q.2.2 (fun n s => s.setb (THM_CAB_STATUS_LOOP_FAIL n) (left.any (fun x => x.2.2.contains n)))).setb
      (THM_LOOP_STATUS_FAILED q.2.1) (left.any (fun x => x.2.1 == q.2.1)))

/-! Summaries -/

/-- R138: the cost of one execution in FAB cycles. -/
def slotCost (s : Dev) (m : Nat) : Nat :=
  let ty := s.get (CLE_SLOT_CFG_TYPE m)
  let n := s.get (CLE_SLOT_CFG_ORDER m) + 1
  8 + 4 + (if ty = tyPidf then 10 else if ty = tyBiq4 then 5 * n + 2 else if ty = tySs4 then n * (n + 4) + 4 else 6)

/-- R139: the load of a set of slots, in permille, rounded up. -/
def loadOf (s : Dev) (slots : List Nat) : Nat :=
  let r := slots.foldl (fun (a : Nat × Nat) m =>
    let p := max 1 (s.get (CLE_SLOT_PERIOD_PERIOD m))
    (a.1 * p + 125 * s.slotCost m * a.2, a.2 * p)) (0, 1)
  (r.1 + r.2 - 1) / r.2

def closedSlots (s : Dev) : List Nat := (List.range 128).filter (fun m => s.slotClosed m)

/-- R140: CLE_STATUS and CLE_CLOSED after slot `m` has changed its state. -/
def setSlotState (s : Dev) (m : Nat) (closed : Bool) : Dev :=
  let s := (s.set (CLE_SLOT_CTL_STATE m) closed.toNat).setBit (CLE_CLOSED (m / 32)) (m % 32) closed
  (s.set CLE_STATUS_CLOSED s.closedSlots.length).set CLE_STATUS_LOAD (min 1000 (s.loadOf s.closedSlots))

def setSlotFault (s : Dev) (m : Nat) (b : Bool) : Dev :=
  let s := (if b then s.latch (CLE_SLOT_CTL_FAULT m) else s.setb (CLE_SLOT_CTL_FAULT m) false).setBit (CLE_FAULT (m / 32)) (m % 32) b
  s.setb CLE_STATUS_FAULT ((List.range 128).any (fun k => s.flag (CLE_SLOT_CTL_FAULT k)))

/-- R141: STATE0 to STATE3 show the first four states. -/
def showStates (s : Dev) (m : Fin 128) : Dev :=
  s.forEach (List.range 4) (fun k s => s.wr (CLE_SLOT_STATEW m k) (s.cle.slots[m].st.getD k 0))

/-! Misses and faults (R135, R136) -/

/-- R136: the third consecutive miss. -/
def slotFault (s : Dev) (m : Fin 128) (cause : Nat) : Dev :=
  let feds := (idx 408).filter (fun (i : Fin 408) => s.feeds m i)
  let s := (s.setSlotFault m true).setSlotState m false
  let v := s.rd (CLE_SLOT_FAULT_VALUE m)
  let s := (s.wr (CLE_SLOT_OUT0 m) v).wr (CLE_SLOT_OUT1 m) v
  let s := (s.set (CLE_SLOT_CTL_MISS_RUN m) 0).modSlot m (fun x =>
    { x with
      queued := none
      started := none
      opening := false })
  let s := s.resampleAll.forEach feds (fun i s => s.disarmLeg i)
  let s := (s.loopFail m).post EV_CLE_SLOT_FAULT (leBytes 1 m ++ leBytes 1 cause)
  s.post EV_CLE_SLOT_OPENED

/-- R131: the slot becomes OPEN. -/
def openNow (s : Dev) (m : Fin 128) : Dev :=
  ((s.setSlotState m false).modSlot m (fun x =>
    { x with
      queued := none
      started := none
      opening := false })).post EV_CLE_SLOT_OPENED

/-- R131: an open that waited for the end of the execution in hand takes place. -/
def finishOpen (s : Dev) (m : Fin 128) : Dev := s.when (s.cle.slots[m].opening) (·.openNow m)

/-- R135: the execution of a slot that was queued or started is no longer awaited; what a pipeline has started runs on there. -/
def dropExec (s : Dev) (m : Fin 128) : Dev :=
  s.modSlot m (fun x =>
    { x with
      queued := none
      started := none })

/-- R135: a slot misses. -/
def slotMiss (s : Dev) (m : Fin 128) (cause : Nat) : Dev :=
  let was := s.flag (CLE_SLOT_CTL_MISS m)
  let s := ((s.latch (CLE_SLOT_CTL_MISS m)).set (CLE_SLOT_CTL_MISS_CAUSE m) cause).latch CLE_STATUS_MISS
  let s := (s.bump (CLE_SLOT_MISS_CNT m)).bump CLE_MISS_CNT
  let s := s.when (!was) (·.post EV_CLE_SLOT_MISS (leBytes 1 cause))
  let run := s.get (CLE_SLOT_CTL_MISS_RUN m) + 1
  if 3 ≤ run then s.slotFault m cause else s.set (CLE_SLOT_CTL_MISS_RUN m) run

/-! Sampling and execution -/

/-- R116: the next sample instant. -/
def nextSample (s : Dev) (m : Fin 128) : Nat :=
  let p := max 1 (s.get (CLE_SLOT_PERIOD_PERIOD m)) * 5
  let ph := s.get (CLE_SLOT_PHASE_PHASE m) * 5
  let at_ := fun (t : Nat) => if t ≤ ph then ph else ph + (t - ph + p - 1) / p * p
  match s.cle.slots[m].lastSample with
  | some t => at_ (max s.dt (t + 1))
  | none => at_ s.dt

/-- R117: queue one execution with the captured inputs, or miss as STALE when one is missing. `ia` is the index of source A. -/
def queueSample (s : Dev) (m : Fin 128) (ia : Nat) (a b : Option F32) : Dev :=
  match a, b with
  | some a, some b =>
    let e : SlotExec :=
      { sampleDt := s.dt
        rawA := a
        rawB := b
        rate := F32.ofInt (s.get (ALC_GRANT_W3_RAMP (ia % 128)))
        hold0 := s.rd (CLE_SLOT_OUT0 m)
        hold1 := s.rd (CLE_SLOT_OUT1 m) }
    s.modSlot m (fun x => { x with queued := some e })
  | _, _ => s.slotMiss m mcStale

/-- R117: capture the inputs of a CLOSED slot at its sample instant. -/
def slotCapture (s : Dev) (m : Fin 128) (pinA pinB : F32) : Dev :=
  if !s.slotClosed m then s
  else
    let ramp := s.get (CLE_SLOT_CFG_TYPE m) == tyRamp
    let ia := s.get (CLE_SLOT_SRCA_INDEX m)
    let a := s.rawSource m (s.get (CLE_SLOT_SRCA_KIND m)) ia pinA
    let b := if ramp then some 0 else s.rawSource m (s.get (CLE_SLOT_SRCB_KIND m)) (s.get (CLE_SLOT_SRCB_INDEX m)) pinB
    (s.modSlot m (fun x => { x with lastSample := some s.dt })).queueSample m ia a b

/-- R121: input A conditioned: the new filter state and the slewed value. -/
def conditionA (s : Dev) (m : Fin 128) (e : SlotExec) (ts : F32) : F32 × F32 :=
  let x := F32.add (F32.mul (s.rd (CLE_SLOT_GAIN_A m)) e.rawA) (s.rd (CLE_SLOT_OFS_A m))
  let l := s.cle.slots[m]
  if l.execs = 0 then (x, x)
  else
    let tau := s.rd (CLE_SLOT_SP_TAU m)
    let slew := s.rd (CLE_SLOT_SP_SLEW m)
    let f := if F32.lt 0 tau then F32.add l.f (F32.mul (F32.div ts (F32.add tau ts)) (F32.sub x l.f)) else x
    let lim := F32.mul slew ts
    let a := if F32.lt 0 slew then F32.add l.aPrev (F32.clamp (F32.opp lim) lim (F32.sub f l.aPrev)) else f
    (f, a)

/-- The inputs of the law of slot `m` for a queued execution. -/
def lawIn (s : Dev) (m : Fin 128) (e : SlotExec) : LawIn × F32 :=
  let ts := F32.ofFrac (5 * s.get (CLE_SLOT_PERIOD_PERIOD m)) 1000000000
  let fa := s.conditionA m e ts
  let l := s.cle.slots[m]
  let rate := F32.mul (F32.mul e.rate (F32.ofInt 100000)) (F32.abs (s.rd (CLE_SLOT_GAIN_A m)))
  ({ a := fa.2
     b := F32.add (F32.mul (s.rd (CLE_SLOT_GAIN_B m)) e.rawB) (s.rd (CLE_SLOT_OFS_B m))
     ts := ts
     ymin0 := s.rd (CLE_SLOT_YMIN0 m)
     ymax0 := s.rd (CLE_SLOT_YMAX0 m)
     ymin1 := s.rd (CLE_SLOT_YMIN1 m)
     ymax1 := s.rd (CLE_SLOT_YMAX1 m)
     coef := (List.range 36).map (fun k => s.rd (CLE_SLOT_COEF m k))
     st := if l.execs = 0 then [] else l.st
     order := s.get (CLE_SLOT_CFG_ORDER m)
     j := l.execs
     bumpN := s.get (CLE_SLOT_CFG_BUMP_N m)
     d0 := l.d0
     d1 := l.d1
     hold0 := e.hold0
     hold1 := e.hold1
     rate := if s.flag (CLE_SLOT_CFG_RATE_GRANT m) then some rate else none }, fa.1)

/-- R122 to R125: run the law; the offsets of a bumpless close come back beside the outcome. -/
def runLaw (ty : Nat) (x : LawIn) : LawOut × F32 × F32 :=
  let fresh := x.j = 0 && x.bumpN ≠ 0
  if ty = tyPidf then (x.pidf, 0, 0)
  else if ty = tyBiq4 then
    let d := if fresh then x.biqOffset else x.d0
    (x.biq4 d, d, 0)
  else if ty = tySs4 then
    let d0 := if fresh then F32.sub x.hold0 (x.dot 32 [x.a, x.b] 2) else x.d0
    let d1 := if fresh then F32.sub x.hold1 (x.dot 34 [x.a, x.b] 2) else x.d1
    (x.ss4 d0 d1, d0, d1)
  else (x.ramp, 0, 0)

/-- R135: the deadline in ns after the sample instant. -/
def slotDeadline (s : Dev) (m : Nat) : Nat :=
  let d := s.get (CLE_SLOT_DEADLINE_DEADLINE m)
  5 * (if d = 0 then s.get (CLE_SLOT_PERIOD_PERIOD m) else d)

/-! The pipelines (R118) -/

/-- FAB cycles of 2.5 ns up to a CTL tick. -/
def fabCycle (t : Nat) : Nat := (2 * t + 4) / 5

/-- The CTL tick at or after a FAB cycle. -/
def fabTick (c : Nat) : Nat := (c + 1) / 2 * 5

/-- The pipeline that is free first; of several, the one of lowest index. -/
def freePipe (s : Dev) : Fin 4 :=
  (idx 4).foldl (fun (a b : Fin 4) => if s.cle.pipes[b] < s.cle.pipes[a] then b else a) 0

/-- The queued executions that can start at or after cycle `c` ahead of their deadlines, as (sample cycle, deadline cycle, slot). -/
def startable (s : Dev) (c : Nat) : List (Nat × Nat × Fin 128) :=
  (idx 128).filterMap (fun (m : Fin 128) =>
    (s.cle.slots[m].queued).bind (fun e =>
      let q : Nat × Nat × Fin 128 := (fabCycle e.sampleDt, fabCycle (e.sampleDt + s.slotDeadline m), m)
      if max c q.1 < q.2.1 then some q else none))

/-- The next start: when a pipeline is free and an execution waits, the one of earliest deadline, ties to the lower slot. -/
def nextStart (s : Dev) : Option (Nat × Fin 128) :=
  let free := s.cle.pipes[s.freePipe]
  match s.startable free with
  | [] => none
  | q :: rest =>
    let c := max free (rest.foldl (fun a x => min a x.1) q.1)
    let ready := (q :: rest).filter (fun x => decide (x.1 ≤ c) && decide (c < x.2.1))
    (ready.foldl (fun (b : Option (Nat × Fin 128)) x =>
      match b with
      | some y => if x.2.1 < y.1 then some x.2 else b
      | none => some x.2) none).map (fun y => (c, y.2))

/-- A pipeline starts the queued execution of a slot at cycle `c`: it is taken up for the cost, and the execution completes 40 ns after that. -/
def startExec (s : Dev) (c : Nat) (m : Fin 128) : Dev :=
  match s.cle.slots[m].queued with
  | none => s
  | some e =>
    let last := c + s.slotCost m
    let s := s.modSlot m (fun x =>
      { x with
        queued := none
        started := some (e, fabTick (last + 16)) })
    s.putCle { s.cle with pipes := vupd s.cle.pipes s.freePipe (fun _ => last) }

/-- R118: the starts that fall before cycle `lim`, in their order. The number bounds them. -/
def runPipes : Nat → Nat → Dev → Dev
  | 0, _, s => s
  | n + 1, lim, s =>
    match s.nextStart with
    | some (c, m) => if c < lim then runPipes n lim (s.startExec c m) else s
    | none => s

/-- R118: the starts up to that of the queued execution of slot `m`. -/
def runPipesFor : Nat → Fin 128 → Dev → Dev
  | 0, _, s => s
  | n + 1, m, s =>
    if s.cle.slots[m].queued.isNone then s
    else
      match s.nextStart with
      | some (c, k) => runPipesFor n m (s.startExec c k)
      | none => s

/-- R118: the results of an execution, written in one tick. -/
def slotWrite (s : Dev) (m : Fin 128) (e : SlotExec) (done : Nat) (f a : F32) (o : LawOut) (d0 d1 : F32) : Dev :=
  let satWas := s.flag (CLE_SLOT_CTL_SAT m)
  let lat := min (done - e.sampleDt) 0xFFFF
  let s := (s.wr (CLE_SLOT_OUT0 m) o.y0).wr (CLE_SLOT_OUT1 m) o.y1
  let s := s.modSlot m (fun x =>
    { x with
      started := none
      f := f
      aPrev := a
      st := o.st
      execs := x.execs + 1
      d0 := d0
      d1 := d1 })
  let s := (s.showStates m).set (CLE_SLOT_CTL_MISS_RUN m) 0
  let s := (s.set (CLE_SLOT_LAT_LAT_LAST m) lat).set (CLE_SLOT_LAT_LAT_MAX m) (max lat (s.get (CLE_SLOT_LAT_LAT_MAX m)))
  let s := s.when o.sat (·.latch (CLE_SLOT_CTL_SAT m))
  let s := s.when (o.sat && !satWas) (·.post EV_CLE_SLOT_SAT)
  ((s.resampleAll.evalMaps m).slotCompleted m).loopSetpoints m

/-- R118, R135: an execution that a pipeline has started ends at `done`: it has missed as LATE when that is after its deadline. -/
def execDone (s : Dev) (m : Fin 128) (e : SlotExec) (done : Nat) : Dev :=
  if e.sampleDt + s.slotDeadline m < done then (s.dropExec m).slotMiss m mcLate
  else
    let li := s.lawIn m e
    let r := runLaw (s.get (CLE_SLOT_CFG_TYPE m)) li.1
    let ok := ([r.1.y0, r.1.y1, r.2.1, r.2.2, li.2, li.1.a] ++ r.1.st).all F32.finite
    if ok then s.slotWrite m e done li.2 li.1.a r.1 r.2.1 r.2.2 else (s.dropExec m).slotMiss m mcNan

/-- R118, R131, R135: the execution of a slot completes, and an open that waited for it takes place. -/
def slotComplete (s : Dev) (m : Fin 128) : Dev :=
  let s := runPipesFor 128 m s
  match s.cle.slots[m].started with
  | none => s
  | some (e, done) => ((s.reach done).execDone m e done).finishOpen m

/-- R135: the deadline of the execution of a slot. One that completes by then has not missed; of the others, one that no pipeline has
taken is dropped, and the results of one that has started are discarded. -/
def slotLate (s : Dev) (m : Fin 128) : Dev :=
  let late := fun (s : Dev) (e : SlotExec) =>
    (((s.reach (e.sampleDt + s.slotDeadline m)).dropExec m).slotMiss m mcLate).finishOpen m
  let s := match s.cle.slots[m].queued with
    | some e => runPipes 128 (fabCycle (e.sampleDt + s.slotDeadline m)) s
    | none => s
  match s.cle.slots[m].queued, s.cle.slots[m].started with
  | some e, _ => late s e
  | none, some (e, done) => if done ≤ e.sampleDt + s.slotDeadline m then s else late s e
  | none, none => s

/-- R135: what a slot's last execution has come to by its next sample instant, its deadline being no later. -/
def settle (s : Dev) (m : Fin 128) : Dev :=
  let s := s.slotLate m
  if s.cle.slots[m].started.isSome then s.slotComplete m else s

/-- R117: the sample instant of a CLOSED slot. -/
def slotSample (s : Dev) (m : Fin 128) (pinA pinB : F32) : Dev :=
  if !s.slotClosed m || s.cle.slots[m].opening then s
  else
    let s := s.reach (s.nextSample m)
    ((runPipes 128 (fabCycle s.dt) s).settle m).slotCapture m pinA pinB

/-! Opening and closing (R131) -/

/-- The coefficients a type uses (R122). -/
def usedCoefs (s : Dev) (m : Nat) : List Nat :=
  let ty := s.get (CLE_SLOT_CFG_TYPE m)
  let n := s.get (CLE_SLOT_CFG_ORDER m) + 1
  if ty = tyPidf then List.range 5
  else if ty = tyBiq4 then List.range (5 * n) ++ [20]
  else if ty = tySs4 then
    let sq := (List.range n).flatMap (fun r => (List.range n).map (fun c => 4 * r + c))
    let b := (List.range n).flatMap (fun r => [16 + 2 * r, 17 + 2 * r])
    let c := (List.range n).flatMap (fun k => [24 + k, 28 + k])
    sq ++ b ++ c ++ [32, 33, 34, 35]
  else if s.flag (CLE_SLOT_CFG_RATE_GRANT m) then [] else [0, 1]

/-- R131 row 4. -/
def closeParamOk (s : Dev) (m : Nat) : Bool :=
  let ty := s.get (CLE_SLOT_CFG_TYPE m)
  let p := s.get (CLE_SLOT_PERIOD_PERIOD m)
  let ramp := ty == tyRamp
  let coef := fun k => s.rd (CLE_SLOT_COEF m k)
  let nonneg := fun (x : F32) => !F32.lt x 0
  let base := [s.rd (CLE_SLOT_GAIN_A m), s.rd (CLE_SLOT_OFS_A m), s.rd (CLE_SLOT_SP_TAU m), s.rd (CLE_SLOT_SP_SLEW m),
    s.rd (CLE_SLOT_FAULT_VALUE m), s.rd (CLE_SLOT_YMIN0 m), s.rd (CLE_SLOT_YMAX0 m)]
  let inB := if ramp then [] else [s.rd (CLE_SLOT_GAIN_B m), s.rd (CLE_SLOT_OFS_B m)]
  let lim1 := if ty = tySs4 then [s.rd (CLE_SLOT_YMIN1 m), s.rd (CLE_SLOT_YMAX1 m)] else []
  decide (ty ≤ 3) && decide (1000 ≤ p) && decide (p ≤ 200000) && decide (s.get (CLE_SLOT_PHASE_PHASE m) < p) &&
    decide (s.get (CLE_SLOT_DEADLINE_DEADLINE m) ≤ p) && (base ++ inB ++ lim1).all F32.finite &&
    (s.usedCoefs m).all (fun k => F32.finite (coef k)) && nonneg (s.rd (CLE_SLOT_SP_TAU m)) &&
    nonneg (s.rd (CLE_SLOT_SP_SLEW m)) && (ty != tyPidf || nonneg (coef 3)) &&
    (!ramp || s.flag (CLE_SLOT_CFG_RATE_GRANT m) || (nonneg (coef 0) && nonneg (coef 1))) &&
    !F32.lt (s.rd (CLE_SLOT_YMAX0 m)) (s.rd (CLE_SLOT_YMIN0 m)) &&
    (ty != tySs4 || !F32.lt (s.rd (CLE_SLOT_YMAX1 m)) (s.rd (CLE_SLOT_YMIN1 m)))

/-- R131 row 5, R126. -/
def closeSourceOk (s : Dev) (m : Nat) : Bool :=
  let ramp := s.get (CLE_SLOT_CFG_TYPE m) == tyRamp
  let ka := s.get (CLE_SLOT_SRCA_KIND m)
  sourceOk ka (s.get (CLE_SLOT_SRCA_INDEX m)) &&
    (ramp || sourceOk (s.get (CLE_SLOT_SRCB_KIND m)) (s.get (CLE_SLOT_SRCB_INDEX m))) &&
    (!(ramp && s.flag (CLE_SLOT_CFG_RATE_GRANT m)) || ka == 6)

/-- R131, R517: the first failing condition of a close. A close in STANDBY, for which R517 names no code, is refused as with the engine
disabled (log entry 23). -/
def closeCheck (s : Dev) (m : Nat) : Option Code :=
  if !s.flag CLE_CTRL_EN || s.get GEN_PWR_STATE == 2 then some ST_CLE_CLE_DISABLED
  else if s.flag (CLE_SLOT_CTL_FAULT m) then some ST_CLE_CLOSE_FAULT
  else if !s.closeParamOk m then some ST_CLE_CLOSE_PARAM
  else if !s.closeSourceOk m then some ST_CLE_CLOSE_SRC
  else if 1000 < s.loadOf (m :: s.closedSlots) then some ST_CLE_CLOSE_LOAD
  else none

/-- R131: a request to close. -/
def closeSlot (s : Dev) (m : Fin 128) : Dev × Option Code :=
  if s.slotClosed m then (s, none)
  else
    match s.closeCheck m with
    | some c =>
      ((s.set (CLE_SLOT_CTL_ERR m) (c.toNat % 256)).post EV_CLE_CLOSE_REFUSED (leBytes 2 c.toNat), some c)
    | none =>
      let s := (s.set (CLE_SLOT_CTL_ERR m) 0).setSlotState m true
      let s := s.modSlot m (fun x =>
        { x with
          lastSample := some s.dt
          queued := none
          started := none
          opening := false
          execs := 0
          st := []
          d0 := 0
          d1 := 0 })
      ((s.loopRecover m).post EV_CLE_SLOT_CLOSED, none)

/-- R131 rows 2 and 3: a slot that feeds an armed leg cannot be opened. -/
def feedsArmed (s : Dev) (m : Nat) : Bool := (idx 408).any (fun (i : Fin 408) => s.feeds m i)

/-- R131: a request to open. An execution that a pipeline has started completes and writes its results first; one that has not started is
dropped. -/
def openSlot (s : Dev) (m : Fin 128) : Dev × Option Code :=
  if !s.slotClosed m then (s, none)
  else if s.feedsArmed m then
    ((s.set (CLE_SLOT_CTL_ERR m) (ST_BUSY_LIVE.toNat % 256)).post EV_CLE_OPEN_REFUSED (leBytes 2 ST_BUSY_LIVE.toNat),
      some ST_BUSY_LIVE)
  else
    let s := runPipes 128 (fabCycle s.dt) (s.set (CLE_SLOT_CTL_ERR m) 0)
    (if s.cle.slots[m].started.isSome then s.modSlot m (fun x => { x with opening := true }) else s.openNow m, none)

/-- R137, R10: clear FAULT, unless it has been set in this clock. -/
def clearSlotFault (s : Dev) (m : Nat) : Dev :=
  if s.flag (CLE_SLOT_CTL_FAULT m) && !(s.justSet (CLE_SLOT_CTL m)).getLsbD 29 then s.setSlotFault m false else s

end Dev

/-! The commands -/

/-- R117: SLOT_SAMPLE. -/
def effSlotSample (m : Fin 128) (pinA pinB : Word) (s : Dev) : Dev := s.slotSample m pinA pinB

def execSlotSample (m : Fin 128) (pinA pinB : Word) (s : State) : Host.Outcome State Fault Refusal :=
  s.onRun (effSlotSample m pinA pinB)

/-- R118: SLOT_EXECUTION_COMPLETE. -/
def effSlotExecutionComplete (m : Fin 128) (s : Dev) : Dev := s.slotComplete m

def execSlotExecutionComplete (m : Fin 128) (s : State) : Host.Outcome State Fault Refusal :=
  s.onRun (effSlotExecutionComplete m)

/-- R135: SLOT_DEADLINE_MISS. -/
def effSlotDeadlineMiss (m : Fin 128) (s : Dev) : Dev := s.slotLate m

def execSlotDeadlineMiss (m : Fin 128) (s : State) : Host.Outcome State Fault Refusal := s.onRun (effSlotDeadlineMiss m)

/-- R131: SLOT_OPEN. -/
def effSlotOpen (m : Fin 128) (s : Dev) : Dev :=
  let r := s.openSlot m
  r.1.answer (r.2.getD ST_OK)

def execSlotOpen (m : Fin 128) (s : State) : Host.Outcome State Fault Refusal := s.onReg 0x04 (effSlotOpen m)

/-- R131: SLOT_CLOSE. -/
def effSlotClose (m : Fin 128) (s : Dev) : Dev :=
  let r := s.closeSlot m
  r.1.answer (r.2.getD ST_OK)

def execSlotClose (m : Fin 128) (s : State) : Host.Outcome State Fault Refusal := s.onReg 0x04 (effSlotClose m)

/-- R137: SLOT_FAULT_CLEAR. -/
def effSlotFaultClear (m : Fin 128) (s : Dev) : Dev := (s.clearSlotFault m).answer ST_OK

def execSlotFaultClear (m : Fin 128) (s : State) : Host.Outcome State Fault Refusal := s.onReg 0x04 (effSlotFaultClear m)

end Sys2Proof.Machine
end

