-- ==== Sys2Proof/Machine/Thermal.lean ====
section
/-! DEFINITION. Cable cooling and temperature sensing (R144 to R164): sensor channels with their faults, cross-check and substitution, the
cable model, limits and recovery time, bands, derate, trips and hard trips, identification, and the die sensors. Temperatures are
held in 2^−64 °C, flows in 2^−64 L/min (log entry 6). -/

namespace Sys2Proof.Machine

/-- A fixed-point value as a rational number. -/
def fxRat (x : Int) : Rat := mkRat x fxOne

/-- A rational number in fixed point, rounded down. -/
def ratFx (x : Rat) : Int := (x * fxOne).floor

/-- R166: sensor STATE and FAULT codes. -/
def stOff : Nat := 0
def stOk : Nat := 1
def stHighDev : Nat := 2
def stSubst : Nat := 3
def stLost : Nat := 4
def sfOpen : Nat := 1
def sfShort : Nat := 2
def sfRange : Nat := 3
def sfRate : Nat := 4
def sfStale : Nat := 5
def sfLowDev : Nat := 6

/-- R168: trip causes. -/
def tcHot : Nat := 1
def tcSensor : Nat := 2
def tcFlow : Nat := 3

/-! Conversion of resistances (R144) -/

/-- Largest fixed-point temperature at or below which `below` holds, by bisection of the range from `lo` of width 2^n units. -/
def bisect (below : Int → Bool) : Nat → Int → Int
  | 0, lo => lo
  | n + 1, lo =>
    let mid := lo + (2 : Int) ^ n
    if below mid then bisect below n mid else bisect below n lo

/-- The IEC 60751 curve: resistance ratio R(t) / R(0) at a temperature in °C (log entry 11). -/
def ptRatio (t : Rat) : Rat :=
  let a : Rat := mkRat 39083 10000000
  let b : Rat := mkRat (-5775) 10000000000
  let c : Rat := mkRat (-4183) 1000000000000000
  let q := 1 + a * t + b * t * t
  if t < 0 then q + c * (t - 100) * t * t * t else q

/-- The temperature of a platinum resistor, by the curve, from −256 °C up to 768 °C. -/
def ptTemp (ohm r0 : Rat) : Int :=
  bisect (fun t => decide (ptRatio (fxRat t) * r0 ≤ ohm)) 74 (-(256 : Int) * fxOne)

/-- `atanh` in fixed point: `z + z^3/3 + …`, the terms from `2 k + 1` on, with `zz` the square of z. -/
def atanhTerms (zz : Int) : Nat → Nat → Int → Int
  | 0, _, _ => 0
  | n + 1, k, p => p / (2 * k + 1) + atanhTerms zz n (k + 1) (p * zz / 2 ^ 96)

/-- The natural logarithm of `num / den` between 1 and 2, in 2^−96. -/
def lnUnit (num den : Nat) : Int :=
  let z : Int := ((num - den : Int) * 2 ^ 96) / (num + den)
  2 * atanhTerms (z * z / 2 ^ 96) 60 0 z

/-- The natural logarithm of a positive fraction, in 2^−96. -/
def lnFrac (num den : Nat) : Int :=
  let q := num / den
  if 1 ≤ q then
    let k := Nat.log2 q
    lnUnit num (den * 2 ^ k) + k * lnUnit 2 1
  else
    let k := Nat.log2 (den / num) + 1
    lnUnit (num * 2 ^ k) den - k * lnUnit 2 1

/-- The temperature of an NTC thermistor by the beta equation, from its resistance at 25 °C and beta. -/
def ntcTemp (ohm r25 : Rat) (beta : Nat) : Int :=
  if ohm ≤ 0 || r25 ≤ 0 || beta = 0 then ratFx (-mkRat 27315 100)
  else
    let q := ohm / r25
    let l : Rat := mkRat (lnFrac q.num.toNat q.den) (2 ^ 96)
    let t25 : Rat := mkRat 29815 100
    ratFx (beta * t25 / (beta + t25 * l) - mkRat 27315 100)

/-- R543: the reference resistor of a TYPE. -/
def rref (ty : Nat) : Rat := if ty = 1 then 400 else if ty = 2 then 4000 else 40000

/-- The median of a list of numbers; of an even number, the mean of the middle two. -/
def median (l : List Int) : Int :=
  let s := sortBy (fun (a b : Int) => decide (a ≤ b)) l
  let n := s.length
  if n % 2 = 1 then s.getD (n / 2) 0 else (s.getD (n / 2 - 1) 0 + s.getD (n / 2) 0) / 2

/-! The linear model of R151: vectors (t1, t2, t3, 1, I²) and matrices over them in 2^−96 -/

abbrev Vec := List Int
abbrev Mat := List (List Int)

def fx96 : Nat := 2 ^ 96

def vecDot (a b : Vec) : Int := (List.zipWith (fun x y => x * y) a b).foldl (· + ·) 0 / fx96

def matVec (m : Mat) (v : Vec) : Vec := m.map (fun r => vecDot r v)

def matCol (m : Mat) (j : Nat) : Vec := m.map (fun r => r.getD j 0)

def matMul (a b : Mat) : Mat :=
  let cols := (List.range 5).map (matCol b)
  a.map (fun r => cols.map (vecDot r))

/-- `base^n`, by squaring; `k` bounds the bits of `n`. -/
def matPow (base : Mat) : Nat → Nat → Mat → Mat
  | 0, _, acc => acc
  | k + 1, n, acc =>
    if n = 0 then acc else matPow (matMul base base) k (n / 2) (if n % 2 = 1 then matMul acc base else acc)

def matOne : Mat := (List.range 5).map (fun i => (List.range 5).map (fun j => if i = j then (fx96 : Int) else 0))

/-- The greatest whole current, up to `rated`, whose heating `i² h` fits in `room`. -/
def bestAmp (room h : Rat) : Nat → Nat → Nat → Nat
  | 0, lo, _ => lo
  | k + 1, lo, hi =>
    if hi ≤ lo then lo
    else
      let mid := (lo + hi + 1) / 2
      if (mid * mid : Nat) * h ≤ room then bestAmp room h k mid hi else bestAmp room h k lo (mid - 1)

/-- R151: the parameters of one cable as rational numbers. -/
structure CabPar where
  rated : Nat
  target : Rat
  horizon : Nat
  c1 : Rat
  c2 : Rat
  c3 : Rat
  g12 : Rat
  g13 : Rat
  g23 : Rat
  gf : Rat
  rc : Rat
  alpha : Rat
  rp : Rat
  flow : Rat
  tin : Rat

namespace CabPar

/-- The step matrix of the linear model over 1 ms. -/
def matrix (p : CabPar) : Mat :=
  let k1 := mkRat 1 1000 / p.c1
  let k2 := mkRat 1 1000 / p.c2
  let k3 := mkRat 1 1000 / p.c3
  let gff := p.gf * p.flow
  let rcT := p.rc * (1 + p.alpha * (p.target - 20))
  [[1 - k1 * (p.g12 + p.g13), k1 * p.g12, k1 * p.g13, 0, k1 * rcT],
   [k2 * p.g12, 1 - k2 * (p.g12 + p.g23), k2 * p.g23, 0, k2 * p.rp],
   [k3 * p.g13, k3 * p.g23, 1 - k3 * (p.g13 + p.g23 + gff), k3 * gff * p.tin, 0],
   [0, 0, 0, 1, 0],
   [0, 0, 0, 0, 1]].map (fun r => r.map (fun x => (x * (fx96 : Rat)).floor))

def q96 (x : Int) : Rat := mkRat x fx96

/-- R151: the limit from a state, with the matrix of the horizon: the hotter node of the two at the horizon decides. -/
def limit (p : CabPar) (mh : Mat) (v : Vec) : Nat :=
  let free := matVec mh (v.take 4 ++ [0])
  let h := matCol mh 4
  let one := fun k => bestAmp (max 0 (p.target - q96 (free.getD k 0))) (q96 (h.getD k 0)) 13 0 p.rated
  min (one 0) (one 1)

/-- R151: the steady-state limit. Without flow no current is steady. -/
def steady (p : CabPar) : Nat :=
  let gff := p.gf * p.flow
  if gff ≤ 0 then 0
  else
    let p1 := p.rc * (1 + p.alpha * (p.target - 20))
    let d := (p.g12 + p.g13) * (p.g12 + p.g23) - p.g12 * p.g12
    let base := (p1 + p.rp) / gff
    let h1 := base + (p1 * (p.g12 + p.g23) + p.g12 * p.rp) / d
    let h2 := base + ((p.g12 + p.g13) * p.rp + p.g12 * p1) / d
    let room := max 0 (p.target - p.tin)
    min (bestAmp room h1 13 0 p.rated) (bestAmp room h2 13 0 p.rated)

/-- R151: seconds until the limit first reaches `demand`, carrying the limit throughout; none within the steps given. -/
def recover (p : CabPar) (m1 mh : Mat) (demand : Nat) : Nat → Nat → Vec → Nat → Option Nat
  | 0, _, _, _ => none
  | n + 1, k, v, lim =>
    let v := matVec m1 (v.take 4 ++ [((lim * lim * fx96 : Nat) : Int)])
    let lim := p.limit mh v
    if demand ≤ lim then some k else recover p m1 mh demand n (k + 1) v lim

end CabPar

namespace Dev

def modCab (s : Dev) (n : Fin 16) (f : CabSt → CabSt) : Dev := s.putThm { s.thm with cab := vupd s.thm.cab n f }
def modSns (s : Dev) (i : Fin 64) (f : SnsSt → SnsSt) : Dev := s.putThm { s.thm with sns := vupd s.thm.sns i f }
def cab (s : Dev) (n : Fin 16) : CabSt := s.thm.cab[n]

/-- R158: the cable is enabled and the block too. -/
def cabLive (s : Dev) (n : Nat) : Bool := s.flag THM_CTRL_EN && s.flag (THM_CAB_CFG_EN n)

/-- Whole degrees in fixed point. -/
def degFx (x : Int) : Int := x * fxOne

/-- A fixed-point value in 0.01 units, rounded down. -/
def centi (x : Int) : Int := x * 100 / fxOne

/-! Sensors of a cable (R146, R149, R154) -/

def snsState (s : Dev) (i : Nat) : Nat := s.get (THM_SNS_VAL_STATE i)

/-- R149: usable, and measured. -/
def snsUsable (s : Dev) (i : Nat) : Bool := s.snsState i == stOk || s.snsState i == stHighDev || s.snsState i == stSubst
def snsMeasured (s : Dev) (i : Nat) : Bool := s.snsState i == stOk || s.snsState i == stHighDev

/-- The enabled channels of a cable in a role (0: any). -/
def cabSensors (s : Dev) (n role : Nat) : List (Fin 64) :=
  (idx 64).filter (fun (i : Fin 64) =>
    s.flag (THM_SNS_CFG_EN i) && s.get (THM_SNS_CFG_ROLE i) != 0 && s.get (THM_SNS_CFG_CABLE i) == n &&
      (role == 0 || s.get (THM_SNS_CFG_ROLE i) == role))

/-- The highest value in use among channels. -/
def highest (s : Dev) (l : List (Fin 64)) : Option Int :=
  l.foldl (fun a i =>
    match a, s.thm.sns[i].used with
    | some x, some y => some (max x y)
    | none, y => y
    | x, none => x) none

def highestUsable (s : Dev) (n role : Nat) : Option Int := s.highest ((s.cabSensors n role).filter (fun i => s.snsUsable i))
def highestMeasured (s : Dev) (n role : Nat) : Option Int := s.highest ((s.cabSensors n role).filter (fun i => s.snsMeasured i))

def tLim (s : Dev) (n : Nat) : Int := degFx (s.get (THM_CAB_TEMP_T_LIM n))

/-- T_LIM − MARGIN. -/
def tMargin (s : Dev) (n : Nat) : Int := s.tLim n - (s.get (THM_CAB_TEMP_MARGIN n) : Int) * fxOne / 10

/-- R148: the coolant supply temperature. -/
def tinOf (s : Dev) (n : Nat) : Int := (s.highestUsable n 2).getD (degFx (s.get (THM_CAB_FLOW_TIN_MAX n)))

/-- R149: no contact sensor of the cable is measured. -/
def refreshOpenLoop (s : Dev) (n : Nat) : Dev := s.setb (THM_CAB_STATUS_OPEN_LOOP n) (s.highestMeasured n 1).isNone

/-! Limits, trips (R151, R155 to R158) -/

/-- R166: the summary bits. -/
def thmSummary (s : Dev) : Dev :=
  (s.setb THM_STATUS_TRIP ((List.range 16).any (fun n => s.flag (THM_CAB_STATUS_TRIP n)))).setb THM_STATUS_DERATE
    ((List.range 16).any (fun n => s.flag (THM_CAB_STATUS_DERATE n)))

/-- R151, R155: DERATE stands while ILIM is below I_RATED. -/
def refreshDerate (s : Dev) (n : Nat) : Dev :=
  let was := s.flag (THM_CAB_STATUS_DERATE n)
  let derate := decide (s.get (THM_CAB_LIMIT_ILIM n) < s.get (THM_CAB_CFG_I_RATED n))
  (s.setb (THM_CAB_STATUS_DERATE n) derate).thmSummary.when (derate && !was) (·.post EV_THM_CABLE_DERATE)

/-- Publish ILIM with what follows from it (R151, R155). -/
def setIlim (s : Dev) (n : Nat) (ilim : Nat) : Dev :=
  let s := s.set (THM_CAB_LIMIT_ILIM n) ilim
  (s.modCab (Fin.ofNat 16 n) (fun c => { c with pubDt := some s.dt })).refreshDerate n

/-- R151: TRIP or HARD holds ILIM at 0. -/
def cabHeld (s : Dev) (n : Nat) : Bool := s.flag (THM_CAB_STATUS_TRIP n) || s.flag (THM_CAB_STATUS_HARD n)

/-- R158, R151: the limit of a cable that is not enabled: I_ID during an identification, unless a trip holds it at 0. -/
def idleLimit (s : Dev) (n : Fin 16) : Nat :=
  match (s.cab n).ident with
  | some r => if s.flag THM_CTRL_EN && !s.cabHeld n then r.iId else 0
  | none => 0

/-- R155: a trip. -/
def cabTrip (s : Dev) (n : Fin 16) (cause : Nat) : Dev :=
  if s.flag (THM_CAB_STATUS_TRIP n) then s
  else
    let s := ((s.setb (THM_CAB_STATUS_TRIP n) true).set (THM_CAB_STATUS_TRIP_CAUSE n) cause).modCab n (fun c => { c with coolSince := none })
    (s.setIlim n 0).post EV_THM_CABLE_TRIP (leBytes 1 cause)

/-- R156, R157: a hard trip. -/
def cabHard (s : Dev) (n : Fin 16) (cause : Nat) : Dev :=
  if s.flag (THM_CAB_STATUS_HARD n) then s
  else
    let s := (s.setb (THM_CAB_STATUS_HARD n) true).set (THM_CAB_STATUS_HARD_CAUSE n) cause
    let s := (s.setBit THM_STATUS (16 + n.val) true).setIlim n 0
    ((s.refuseOutlet n).post EV_THM_CABLE_HARD_TRIP).freeze .hardTrip

/-- R155, R161: whether the model counts for trips: not during an identification. -/
def modelCounts (s : Dev) (n : Fin 16) : Bool := s.cabLive n && (s.cab n).started

/-- R155: evaluate the rows of the trip table for a cable. -/
def evalTrips (s : Dev) (n : Fin 16) : Dev :=
  let ident := (s.cab n).ident.isSome && s.flag THM_CTRL_EN
  if !s.cabLive n && !ident then s
  else
    let hot := s.modelCounts n
    let h := s.hotspot n
    let sn := s.highestMeasured n 0
    let above := fun (f : Field) => sn.any (fun x => decide (degFx (s.get f) ≤ x))
    let hotOver := fun (f : Field) => hot && decide (degFx (s.get f) ≤ h)
    let hard := THM_CAB_TEMP_T_HARD n
    let trip := THM_CAB_TEMP_T_TRIP n
    let hardNow := hotOver hard || above hard
    let tripNow := hotOver trip || above trip
    let hc := if hotOver hard then 1 else 2
    let tc := if hotOver trip then tcHot else tcSensor
    let s := s.when tripNow (·.cabTrip n tc)
    let s := s.when hardNow (·.cabHard n hc)
    let low := s.tLim n - degFx 10
    let flowOk := !s.flag (THM_CAB_STATUS_FLOW_LOW n) ||
      decide ((s.get (THM_CAB_LOOP_FLOW_MIN n) : Int) * fxOne / 10 ≤ (s.cab n).flow)
    let cool := (!hot || decide (h < low)) && sn.all (fun x => decide (x < low)) && flowOk
    s.modCab n (fun c => { c with coolSince := if cool then some (c.coolSince.getD s.dt) else none })

/-! Bands (R152) -/

/-- The margin of a cable. -/
def cabMargin (s : Dev) (n : Nat) : Int :=
  s.tLim n - (match s.highestUsable n 0 with
    | some x => max x (s.hotspot n)
    | none => s.hotspot n)

/-- The band a margin lies in. -/
def bandOf (margin : Int) : Nat := if degFx 10 < margin then 0 else if degFx 3 < margin then 1 else 2

/-- The period of a band in ns. -/
def bandPeriod (b : Nat) : Nat := if b = 0 then ms 100 else if b = 1 then ms 10 else ms 1

/-- The set of a channel, when it is a member of an enabled or disabled set. -/
def snsSet (s : Dev) (i : Nat) : Option Nat := if s.flag (THM_SNS_CFG_SET_EN i) then some (s.get (THM_SNS_CFG_SET i)) else none

/-- R152, R164: the enabled cables that use a channel, directly or through its set. -/
def snsCables (s : Dev) (i : Fin 64) : List Nat :=
  (List.range 16).filter (fun n => s.cabLive n &&
    ((s.cabSensors n 0).any (fun k => k == i || ((s.snsSet k).isSome && s.snsSet k == s.snsSet i))))

/-- R152: the band a channel samples at. -/
def snsBand (s : Dev) (i : Fin 64) : Nat := (s.snsCables i).foldl (fun a n => max a (s.get (THM_CAB_STATUS_BAND n))) 0

/-- R152: ask each present node that reports a sensor for the telemetry rate of its channels' bands, where it is not the one it was asked
for last. -/
def requestRates (s : Dev) : Dev :=
  s.forEach (idx 128) (fun (k : Fin 128) s =>
    let chans := (idx 64).filter (fun (i : Fin 64) =>
      s.flag (THM_SNS_CFG_EN i) && s.get (THM_SNS_CFG_TYPE i) == 4 && s.get64 (THM_SNS_PARAM0 i) == s.nodeId k)
    let rate := chans.foldl (fun a i => max a (s.snsBand i)) 0
    if s.nodePresent k && !chans.isEmpty && s.pst.seen[k].rateAsked != some rate then
      (s.modSeen k (fun x => { x with rateAsked := some rate })).sendCtrl k true 0x0005 1 [BitVec.ofNat 32 rate] .rate
    else s)

def setBand (s : Dev) (n : Fin 16) (b : Nat) : Dev :=
  if s.get (THM_CAB_STATUS_BAND n) = b then s
  else ((s.set (THM_CAB_STATUS_BAND n) b).modCab n (fun c => { c with fallSince := none })).requestRates

/-- R152: since when the margin has been above the fall level of the band. -/
def trackFall (s : Dev) (n : Fin 16) : Dev :=
  let b := s.get (THM_CAB_STATUS_BAND n)
  let above := (b == 1 && decide (degFx 11 < s.cabMargin n)) || (b == 2 && decide (degFx 4 < s.cabMargin n))
  s.modCab n (fun c => { c with fallSince := if above then some (c.fallSince.getD s.dt) else none })

/-- R152: a band rises at once. -/
def riseBand (s : Dev) (n : Fin 16) : Dev :=
  let b := bandOf (s.cabMargin n)
  (if s.get (THM_CAB_STATUS_BAND n) < b then s.setBand n b else s).trackFall n

/-! The observer (R147, R148, R150) -/

/-- The output words of a cable. -/
def showCab (s : Dev) (n : Fin 16) : Dev :=
  let c := s.cab n
  let s := (s.seti (THM_CAB_HOT_T1 n) (centi c.t1)).seti (THM_CAB_HOT_T2 n) (centi c.t2)
  (s.seti (THM_CAB_COOL_T3 n) (centi c.t3)).seti (THM_CAB_COOL_FLOW n) (centi c.flow)

/-- R148: the outlet current in A, and whether it is an estimate. -/
def cabCurrent (s : Dev) (n : Nat) : Rat × Bool :=
  match s.measOf n with
  | some v => (mkRat v.2.natAbs (2 ^ 32), false)
  | none =>
    if s.flag (ALC_GRANT_W7_VALID n) then (mkRat (s.get (ALC_GRANT_W1_I_LIMIT n)) 1000, true)
    else ((s.get (THM_CAB_CFG_I_RATED n) : Rat), true)

/-- R148, R160: the flow in L/min from the pulse-rate inputs in Hz. -/
def cabFlow (s : Dev) (n : Nat) (pins : List F32) : Rat :=
  let pin := F32.toRat (F32.mul (F32.pinRate (pins.getD (s.get (THM_CAB_FLOW_PIN n)) 0)) (s.rd (THM_CAB_FLOW_K n)))
  let raw : Rat :=
    if s.get (THM_CAB_FLOW_FSRC n) = 1 then pin
    else if s.flag (THM_CAB_STATUS_LOOP_FAIL n) then 0
    else mkRat (s.get (THM_CAB_FLOW_FLOW_FIXED n)) 10
  max 0 (min 200 raw)

/-- A binary32 parameter as a rational number. -/
def ratAt (s : Dev) (off : Nat) : Rat := F32.toRat (s.rd off)

/-- R147: one step of the model of a cable. -/
def stepModel (s : Dev) (n : Fin 16) (i : Rat) : Dev :=
  let c := s.cab n
  let t1 := fxRat c.t1
  let t2 := fxRat c.t2
  let t3 := fxRat c.t3
  let ts : Rat := mkRat 1 1000
  let p1 := i * i * s.ratAt (THM_CAB_RC n) * (1 + s.ratAt (THM_CAB_ALPHA n) * (t1 - 20))
  let p2 := i * i * s.ratAt (THM_CAB_RP n)
  let q12 := s.ratAt (THM_CAB_G12 n) * (t1 - t2)
  let q13 := s.ratAt (THM_CAB_G13 n) * (t1 - t3)
  let q23 := s.ratAt (THM_CAB_G23 n) * (t2 - t3)
  let out := s.ratAt (THM_CAB_GF n) * fxRat c.flow * (t3 - fxRat c.tin)
  s.modCab n (fun c => { c with
    t1 := ratFx (t1 + ts / s.ratAt (THM_CAB_C1 n) * (p1 - q12 - q13))
    t2 := ratFx (t2 + ts / s.ratAt (THM_CAB_C2 n) * (p2 + q12 - q23))
    t3 := ratFx (t3 + ts / s.ratAt (THM_CAB_C3 n) * (q13 + q23 - out)) })

/-- R150: the first step. -/
def startModel (s : Dev) (n : Fin 16) : Dev :=
  let d := s.tMargin n
  let contact := (s.highestUsable n 1).getD d
  s.modCab n (fun c => { c with
    t1 := contact
    t2 := contact
    t3 := (s.highestUsable n 3).getD d
    started := true })

/-- R155: low flow with current since when. -/
def trackFlow (s : Dev) (n : Fin 16) (i : Rat) : Dev :=
  let fmin := s.get (THM_CAB_LOOP_FLOW_MIN n)
  let low := fmin != 0 && decide (fxRat (s.cab n).flow < mkRat fmin 10) && decide (mkRat (s.get (THM_CAB_CFG_I_RATED n)) 20 < i)
  s.modCab n (fun c => { c with flowLowSince := if low then some (c.flowLowSince.getD s.dt) else none })

/-- R147, R155: the observer of one enabled cable steps. -/
def observe (s : Dev) (n : Fin 16) (pins : List F32) : Dev :=
  let i := s.cabCurrent n
  let flow := ratFx (s.cabFlow n pins)
  let tin := s.tinOf n
  let s := (s.setb (THM_CAB_STATUS_CUR_EST n) i.2).modCab n (fun c => { c with flow := flow, tin := tin })
  let s := if (s.cab n).started then s.stepModel n i.1 else s.startModel n
  ((((s.refreshOpenLoop n).showCab n).trackFlow n i.1).evalTrips n).trackFall n

/-- Show a long operation's progress in per mille (R496). -/
def longProgress (s : Dev) (src : Src) (p : Nat) : Dev :=
  match s.longOf src with
  | none => s
  | some o =>
    let s := s.putHif { s.hif with long := s.hif.long.map (fun (x : LongOp) => if x.src == src then { x with progress := max x.progress p } else x) }
    s.statusOut o.statusAddr o.state (max o.progress p) ST_OK

/-- R161: the readings in use of a cable's sensors of a role. -/
def roleReadings (s : Dev) (n role : Nat) : List Int := (s.cabSensors n role).map (fun i => (s.thm.sns[i].used).getD 0)

/-- R161: the session's request while an identification runs: a current, at the session's voltage. -/
def identRequest (s : Dev) (n : Fin 16) (amps : Nat) : Dev :=
  let v := match s.measOf n with
    | some v => v.1.toNat / 2 ^ 32
    | none => s.get (VSS_OUT_EVLIM_EV_VMAX n) / 10
  let v := if v = 0 then s.get (VSS_OUT_EVLIM_EV_VMAX n) / 10 else v
  let s := s.wr (VSS_OUT_REQ n) (BitVec.ofNat 32 (amps * v))
  s.when (amps != 0) (·.set (VSS_OUT_EVLIM_EV_IMAX n) amps)

/-- R161, R495, R497, R498: an identification that ends without a fit: the request falls to 0. -/
def identStop (s : Dev) (src : Src) : Dev :=
  s.forEach (idx 16) (fun (n : Fin 16) s =>
    match (s.cab n).ident with
    | some r =>
      if r.src == src then
        let s := s.modCab n (fun c => { c with ident := none })
        (s.setIlim n (s.idleLimit n)).identRequest n 0
      else s
    | none => s)

/-- R161: record the sample of one second; recorded samples are the operation's partial results (log entry 27). One
that the result buffer cannot take ends it (R497). -/
def identRecord (s : Dev) (n : Fin 16) (r : IdRun) (x : IdSample) : Dev :=
  let all := x :: r.samples
  let s := s.modCab n (fun c => { c with ident := some { r with samples := all } })
  let s := s.longPartial r.src 1 (Config.idSampleBytes ([(x.dt : Int), x.current, x.flow, x.tin] ++ x.contact ++ x.supply ++ x.ret))
    ((r.phase - 1) * 250)
  s.when (s.longOf r.src).isNone (·.identStop r.src)

/-- R161: an identification at an observer step: whether the current keeps to its band, and the sample of each second. -/
def identStep (s : Dev) (n : Fin 16) (pins : List F32) : Dev :=
  match (s.cab n).ident with
  | none => s
  | some r =>
    let i := (s.cabCurrent n).1
    let want : Rat := if r.phase = 2 then (r.iId : Rat) else 0
    let out := decide ((r.iId : Rat) < 20 * (i - want)) || decide ((r.iId : Rat) < 20 * (want - i))
    let r := { r with offSince := if out then some (r.offSince.getD s.dt) else none }
    let s := s.modCab n (fun c =>
      { c with
        ident := some r
        flow := ratFx (s.cabFlow n pins)
        tin := s.tinOf n })
    if r.phase = 4 || !(r.samples.head?).all (fun x => decide (x.dt + sec 1 ≤ s.dt)) then s
    else
      s.identRecord n r
        { dt := s.dt
          current := ratFx i
          flow := (s.cab n).flow
          tin := (s.cab n).tin
          contact := s.roleReadings n 1
          supply := s.roleReadings n 2
          ret := s.roleReadings n 3 }

/-- R147: the observers of all enabled cables step at a DT multiple of 1 ms. -/
def observeAll (s : Dev) (pins : List F32) : Dev :=
  let t := s.nextMultiple (ms 1) s.thm.lastStep
  let s := s.reach t
  let s := s.putThm { s.thm with lastStep := some t }
  let s := s.forEach ((idx 16).filter (fun (n : Fin 16) => s.cabLive n)) (fun n s => s.observe n pins)
  if s.flag THM_CTRL_EN then s.forEach (idx 16) (fun n s => s.identStep n pins) else s

/-! The limit (R151) -/

/-- R151: the demanded current of an outlet in whole A, rounded up: the vehicle's maximum current or its requested power at the voted
voltage, whichever is lower. -/
def demandAmps (s : Dev) (n : Nat) : Nat :=
  if !s.sessOpen n then 0
  else
    let p := (s.geti (VSS_OUT_REQ_P_REQ n)).natAbs
    let imax := s.get (VSS_OUT_EVLIM_EV_IMAX n)
    match s.measOf n with
    | some v => if v.1 ≤ 0 then imax else min imax ((p * 2 ^ 32 + v.1.toNat - 1) / v.1.toNat)
    | none => imax

def cabPar (s : Dev) (n : Fin 16) : CabPar where
  rated := s.get (THM_CAB_CFG_I_RATED n)
  target := fxRat (s.tMargin n) - (if s.flag (THM_CAB_STATUS_OPEN_LOOP n) then mkRat (s.get (THM_CAB_OBS_OLM n)) 10 else 0)
  horizon := s.get (THM_CAB_OBS_HORIZON n)
  c1 := s.ratAt (THM_CAB_C1 n)
  c2 := s.ratAt (THM_CAB_C2 n)
  c3 := s.ratAt (THM_CAB_C3 n)
  g12 := s.ratAt (THM_CAB_G12 n)
  g13 := s.ratAt (THM_CAB_G13 n)
  g23 := s.ratAt (THM_CAB_G23 n)
  gf := s.ratAt (THM_CAB_GF n)
  rc := s.ratAt (THM_CAB_RC n)
  alpha := s.ratAt (THM_CAB_ALPHA n)
  rp := s.ratAt (THM_CAB_RP n)
  flow := fxRat (s.cab n).flow
  tin := fxRat (s.cab n).tin

/-- R151: publish ILIM and TREC of an enabled cable. -/
def publishLimit (s : Dev) (n : Fin 16) : Dev :=
  if !s.cabLive n then s
  else
    let s := s.tick (.limit n) (bandPeriod (s.get (THM_CAB_STATUS_BAND n)))
    let p := s.cabPar n
    let c := s.cab n
    let m := p.matrix
    let mh := matPow m 20 (1000 * p.horizon) matOne
    let scale : Int := 2 ^ 32
    let v : Vec := [c.t1 * scale, c.t2 * scale, c.t3 * scale, fx96, 0]
    let model := p.limit mh v
    let ilim := if s.cabHeld n then 0 else model
    let demand := s.demandAmps n
    let trec :=
      if demand ≤ ilim then 0
      else if p.steady < demand then 0xFFFF
      else
        match p.recover (matPow m 20 1000 matOne) mh demand 6553 1 v model with
        | some k => 10 * k
        | none => 0xFFFE
    (s.set (THM_CAB_LIMIT_TREC n) trec).setIlim n ilim

/-! Sensor samples (R145, R149, R152 to R154) -/

/-- R145: the converted value of a channel, or its fault of order 1 to 3. -/
def snsConvert (s : Dev) (i : Fin 64) (ohm : F32) (period : Nat) : Nat ⊕ Int :=
  let ty := s.get (THM_SNS_CFG_TYPE i)
  if ty = 4 then
    match (idx 128).find? (fun (k : Fin 128) => s.nodePresent k && s.nodeId k == s.get64 (THM_SNS_PARAM0 i)) with
    | none => .inl sfStale
    | some k =>
      match s.teleOf k (s.get (THM_SNS_CFG_CHAN i)) with
      | some (v, t) =>
        if t + 3 * period ≤ s.dt then .inl sfStale
        else if !F32.finite v then .inl sfRange
        else .inr (ratFx (F32.toRat v))
      | none => .inl sfStale
  else if !F32.finite ohm then .inl sfOpen
  else
    let r := F32.toRat ohm
    if 20 * rref ty < r then .inl sfOpen
    else if r < 5 then .inl sfShort
    else if ty = 1 then .inr (ptTemp r 100)
    else if ty = 2 then .inr (ptTemp r 1000)
    else .inr (ntcTemp r (mkRat (s.rd (THM_SNS_PARAM0 i)).toNat 10) (s.get ⟨THM_SNS_PARAM1 i, 15, 0⟩))

/-- R145: the fault of this sample, 0 for none, with the converted value. -/
def snsJudge (s : Dev) (i : Fin 64) (ohm : F32) (period : Nat) : Nat × Option Int :=
  match s.snsConvert i ohm period with
  | .inl f => (f, none)
  | .inr v =>
    let rate := decide (s.get THM_CTRL_RATE_MAX * fxOne * period < (v - (s.thm.sns[i].meas.getD v)).natAbs * 1000000000)
    if v < degFx (-50) || degFx 250 < v then (sfRange, some v)
    else if rate then (sfRate, some v)
    else (0, some v)

/-- R153: the expected value of a channel. -/
def snsExpected (s : Dev) (i : Fin 64) : Int :=
  let role := s.get (THM_SNS_CFG_ROLE i)
  let n : Fin 16 := Fin.ofNat 16 (s.get (THM_SNS_CFG_CABLE i))
  if role = 1 then (s.cab n).t2 else if role = 2 then s.tinOf n else if role = 3 then (s.cab n).t3 else 0

/-- R153: the residuals of the other members without fault of the channel's set. -/
def othersR (s : Dev) (i : Fin 64) : List Int :=
  match s.snsSet i with
  | none => []
  | some k =>
    if !s.flag (THM_SET_CFG_EN k) then []
    else
      (idx 64).filterMap (fun (j : Fin 64) =>
        if j != i && s.flag (THM_SNS_CFG_EN j) && s.snsSet j == some k && s.get (THM_SNS_VAL_FAULT j) == 0 then
          s.thm.sns[j].meas.map (fun m => m - s.snsExpected j)
        else none)

/-- R153: the cross-check of a measured channel: runs, LOW_DEV and high deviation. -/
def crossCheck (s : Dev) (i : Fin 64) (v : Int) (fault : Nat) : Dev × Nat :=
  let rs := s.othersR i
  if rs.length < 2 then (s, fault)
  else
    let lim : Int := (s.get (THM_SET_CFG_DEV (s.get (THM_SNS_CFG_SET i))) : Int) * fxOne / 10
    let dev := v - s.snsExpected i - median rs
    let c := s.thm.sns[i]
    let low := if dev < -lim then c.lowRun + 1 else 0
    let high := if lim < dev then c.highRun + 1 else 0
    let good := if 2 * dev.natAbs ≤ lim.toNat then c.goodRun + 1 else 0
    let clear := decide (64 ≤ good)
    let fault := if 8 ≤ low then sfLowDev else if clear && fault = sfLowDev then 0 else fault
    (s.modSns i (fun x => { x with
      lowRun := low
      highRun := high
      goodRun := good
      high := if 8 ≤ high then true else if clear then false else x.high }), fault)

/-- R154: the value in use and the STATE that follow from the fault. -/
def snsState' (s : Dev) (i : Fin 64) (fault : Nat) (v : Option Int) : Nat × Option Int :=
  if fault = 0 then (if s.thm.sns[i].high then stHighDev else stOk, v)
  else
    let rs := s.othersR i
    if 2 ≤ rs.length then (stSubst, some (s.snsExpected i + median rs)) else (stLost, s.thm.sns[i].used)

/-- R166, R169: show a channel's value and state and post their changes. -/
def showSns (s : Dev) (i : Fin 64) (st fault : Nat) (used : Option Int) : Dev :=
  let stWas := s.snsState i
  let fWas := s.get (THM_SNS_VAL_FAULT i)
  let s := (s.set (THM_SNS_VAL_STATE i) st).set (THM_SNS_VAL_FAULT i) fault
  let s := (s.seti (THM_SNS_VAL_TEMP i) (centi (used.getD 0))).modSns i (fun x => { x with used := used })
  let s := s.when (fWas != fault) (·.latch THM_STATUS_SENSOR)
  let s := s.when (fWas == 0 && fault != 0) (·.post EV_THM_SENSOR_FAULT (leBytes 1 fault))
  let s := s.when (stWas != st && st == stSubst) (·.post EV_THM_SENSOR_SUBST)
  let s := s.when (stWas != st && st == stHighDev) (·.post EV_THM_SENSOR_HIGH_DEV)
  s.when (stWas != st && st == stLost) (·.post EV_THM_SENSOR_LOST)

/-- R149: at a sample of a cable's sensor, correct the model with the highest usable contact and return sensors. -/
def correctModel (s : Dev) (i : Fin 64) : Dev :=
  let n : Fin 16 := Fin.ofNat 16 (s.get (THM_SNS_CFG_CABLE i))
  let gain : Int := s.get (THM_CAB_OBS_LGAIN n)
  if s.get (THM_SNS_CFG_ROLE i) = 0 || !s.cabLive n || !(s.cab n).started then s
  else
    let d := (s.highestUsable n 1).map (fun m => gain * (m - (s.cab n).t2) / 256)
    let d3 := (s.highestUsable n 3).map (fun m => gain * (m - (s.cab n).t3) / 256)
    s.modCab n (fun c =>
      { c with
        t1 := c.t1 + d.getD 0
        t2 := c.t2 + d.getD 0
        t3 := c.t3 + d3.getD 0 })

/-- R154: a channel that is not enabled, or has no TYPE, is OFF: nothing is measured or used. -/
def snsOff (s : Dev) (i : Fin 64) : Dev :=
  let s := s.modSns i (fun _ => ⟨none, none, none, 0, 0, 0, 0, false⟩)
  s.showSns i stOff 0 none

/-- R161, R162: the sensor's sample as it was judged (its fault, and its temperature if it has one), and the fault it leaves. -/
def takeSample (s : Dev) (i : Fin 64) (j : Nat × Option Int) : Dev × Nat :=
  let was := s.get (THM_SNS_VAL_FAULT i)
  let calm := if j.1 = 0 then s.thm.sns[i].calmRun + 1 else 0
  let fault := if j.1 != 0 then j.1 else if was != 0 && was != sfLowDev && calm < 8 then was else if was = sfLowDev then sfLowDev else 0
  let s := s.modSns i (fun x => { x with
    meas := match j.2 with
      | some v => some v
      | none => x.meas
    lastDt := some s.dt
    calmRun := calm })
  match j.2 with
  | some v => if fault = 0 || fault = sfLowDev then s.crossCheck i v fault else (s, fault)
  | none => (s, fault)

/-- R161: the cable of a sensor follows its sample. -/
def cableFollows (s : Dev) (i : Fin 64) : Dev :=
  let n : Fin 16 := Fin.ofNat 16 (s.get (THM_SNS_CFG_CABLE i))
  if s.get (THM_SNS_CFG_ROLE i) == 0 then s
  else
    let s := s.when (s.cabLive n) (fun s => ((s.refreshOpenLoop n).showCab n).riseBand n)
    s.evalTrips n

/-- R145: sample a channel. -/
def sampleSensor (s : Dev) (i : Fin 64) (ohm : F32) : Dev :=
  if !s.flag (THM_SNS_CFG_EN i) || s.get (THM_SNS_CFG_TYPE i) = 0 then s
  else
    let period := bandPeriod (s.snsBand i)
    let s := s.reach (s.nextMultiple period s.thm.sns[i].lastDt)
    let j := s.snsJudge i ohm period
    let cc := s.takeSample i j
    let u := cc.1.snsState' i cc.2 j.2
    ((cc.1.showSns i u.1 cc.2 u.2).correctModel i).cableFollows i

/-! Enabling (R158, R162) -/

/-- R162: the conditions. -/
def cabParamOk (s : Dev) (n : Nat) : Bool :=
  let pos := fun off => F32.finite (s.rd off) && decide (0 < F32.units (s.rd off))
  let all := [THM_CAB_C1 n, THM_CAB_C2 n, THM_CAB_C3 n, THM_CAB_G12 n, THM_CAB_G13 n, THM_CAB_G23 n, THM_CAB_GF n, THM_CAB_RC n,
    THM_CAB_RP n].all pos
  let r := s.ratAt
  let a := s.rd (THM_CAB_ALPHA n)
  let tl := s.get (THM_CAB_TEMP_T_LIM n)
  let tt := s.get (THM_CAB_TEMP_T_TRIP n)
  let th := s.get (THM_CAB_TEMP_T_HARD n)
  let h := s.get (THM_CAB_OBS_HORIZON n)
  let ir := s.get (THM_CAB_CFG_I_RATED n)
  let slow := fun (c g : Rat) => decide (mkRat 1 100 * g ≤ c)
  all && F32.finite a && decide (0 ≤ F32.units a) && decide (F32.toRat a ≤ mkRat 1 100) &&
    slow (r (THM_CAB_C1 n)) (r (THM_CAB_G12 n) + r (THM_CAB_G13 n)) && slow (r (THM_CAB_C2 n)) (r (THM_CAB_G12 n) + r (THM_CAB_G23 n)) &&
    slow (r (THM_CAB_C3 n)) (r (THM_CAB_G13 n) + r (THM_CAB_G23 n) + 200 * r (THM_CAB_GF n)) &&
    decide (0 < tl) && decide (tl < tt) && decide (tt < th) && decide (10 ≤ h) && decide (h ≤ 600) && decide (1 ≤ ir) && decide (ir ≤ 3000) &&
    !(s.cabSensors n 1).isEmpty && !(s.cabSensors n 2).isEmpty

/-- R162: a write of 1 to a cable's EN. -/
def cabEnable (s : Dev) (n : Fin 16) : Dev × Option Code :=
  if s.flag (THM_CAB_CFG_EN n) then (s, none)
  else if !s.cabParamOk n then (s, some ST_THM_CAB_PARAM)
  else
    let s := (s.setb (THM_CAB_CFG_EN n) true).modCab n (fun c => { c with
      started := false
      flowLowSince := none
      coolSince := none
      fallSince := none })
    (((s.refreshOpenLoop n).setIlim n 0).requestRates, none)

/-- R158: a cable's EN, or the block's, is cleared. -/
def cabDisable (s : Dev) (n : Fin 16) : Dev :=
  let s := (s.setb (THM_CAB_CFG_EN n) false).modCab n (fun c => { c with started := false, fallSince := none })
  let s := (s.set (THM_CAB_STATUS_BAND n) 0).set (THM_CAB_LIMIT_TREC n) 0xFFFF
  (s.setIlim n (s.idleLimit n)).requestRates

/-! Identification (R161) -/

/-- R161: IDENTIFY. -/
def identify (s : Dev) (l : LongSrc) (outlet iId stepMin : Nat) : Dev :=
  match s.longCheck l with
  | some c => s.longRefuse l 0x0501 c
  | none =>
    if 16 ≤ outlet then s.longRefuse l 0x0501 ST_BAD_PARAM
    else
      let n : Fin 16 := Fin.ofNat 16 outlet
      let bad := decide (10 * iId < 3 * s.get (THM_CAB_CFG_I_RATED n)) || decide (stepMin < 10) || decide (120 < stepMin)
      let ok := s.life == lfCommissioning && s.sessOpen n && (s.sess n).comm && !s.flag (THM_CAB_CFG_EN n) &&
        (s.highestMeasured n 1).isSome && (s.highestMeasured n 2).isSome && (s.highestMeasured n 3).isSome
      if bad then s.longRefuse l 0x0501 ST_BAD_PARAM
      else if !ok || (s.cab n).ident.isSome then s.longRefuse l 0x0501 ST_BUSY_LIVE
      else
        let s := s.longAccept l 0x0501 false
        let r : IdRun := { src := l.src, iId := iId, step := sec (60 * stepMin), phase := 1, since := s.dt, offSince := none, samples := [] }
        let s := s.modCab n (fun c => { c with ident := some r })
        (s.setIlim n (s.idleLimit n)).identRequest n 0

/-- R161: an identification ends. -/
def identEnd (s : Dev) (n : Fin 16) (r : IdRun) (ok : Bool) (code : Code) : Dev :=
  let s := s.modCab n (fun c => { c with ident := none })
  let s := (s.setIlim n (s.idleLimit n)).identRequest n 0
  let s := s.when ok (·.post EV_THM_ID_DONE)
  s.longEnd r.src (if ok then .done else .failed) code

def identPhase (s : Dev) (n : Fin 16) (r : IdRun) (phase amps : Nat) : Dev :=
  let s := s.modCab n (fun c => { c with ident := some { r with phase := phase, since := s.dt, offSince := none } })
  (s.identRequest n amps).longProgress r.src ((phase - 1) * 250)

/-- R161: phase 1 has settled: over the last 5 min every bound sensor has changed by less than 0.2 K. -/
def identSettled (s : Dev) (r : IdRun) : Bool :=
  let span := r.samples.filter (fun x => decide (s.dt ≤ x.dt + sec 300))
  let rows := span.map (fun x => x.contact ++ x.supply ++ x.ret)
  let cols : List (List Int) := (List.range ((rows.headD []).length)).map (fun k => rows.map (fun l => l.getD k 0))
  decide (r.since + sec 300 ≤ s.dt) && !rows.isEmpty &&
    cols.all (fun l =>
      let a : Int := l.headD 0
      decide (5 * (l.foldl max a - l.foldl min a) < (fxOne : Int)))

/-- R161: a bound sensor of the cable has no measurement. -/
def identLost (s : Dev) (n : Nat) : Bool := (s.cabSensors n 0).any (fun i => !s.snsMeasured i)

/-- The six fitted values as rational numbers, with the cable's own GF, RC, ALPHA and RP. -/
structure FitPar where
  c1 : Rat
  c2 : Rat
  c3 : Rat
  g12 : Rat
  g13 : Rat
  g23 : Rat
  gf : Rat
  rc : Rat
  alpha : Rat
  rp : Rat

/-- R147: the step of the model over 1 ms at a constant current, flow and supply temperature, as a matrix over (t1, t2, t3, 1, 0). -/
def FitPar.matrix (p : FitPar) (i flow tin : Rat) : Mat :=
  let k1 := mkRat 1 1000 / p.c1
  let k2 := mkRat 1 1000 / p.c2
  let k3 := mkRat 1 1000 / p.c3
  let gff := p.gf * flow
  let w := i * i * p.rc
  [[1 + k1 * (w * p.alpha - p.g12 - p.g13), k1 * p.g12, k1 * p.g13, k1 * w * (1 - 20 * p.alpha), 0],
   [k2 * p.g12, 1 - k2 * (p.g12 + p.g23), k2 * p.g23, k2 * i * i * p.rp, 0],
   [k3 * p.g13, k3 * p.g23, 1 - k3 * (p.g13 + p.g23 + gff), k3 * gff * tin, 0],
   [0, 0, 0, 1, 0],
   [0, 0, 0, 0, 1]].map (fun r => r.map (fun x => (x * (fx96 : Rat)).floor))

/-- R161: the squared residuals of the contact and return sensors against the model, second by second from state `v`, with their number. -/
def FitPar.residuals (p : FitPar) : Vec → List IdSample → Rat × Nat
  | _, [] => (0, 0)
  | v, x :: rest =>
    let err := fun (model : Int) (m : Int) => (CabPar.q96 model - fxRat m) * (CabPar.q96 model - fxRat m)
    let es := x.contact.map (err (v.getD 1 0)) ++ x.ret.map (err (v.getD 2 0))
    let next := matVec (matPow (p.matrix (fxRat x.current) (fxRat x.flow) (fxRat x.tin)) 20 1000 matOne) v
    let r := FitPar.residuals p next rest
    (es.foldl (· + ·) r.1, es.length + r.2)

/-- R161: the mean square residual over the samples since the heating began, oldest first, from the sensors' first readings. -/
def FitPar.meanSquare (p : FitPar) (samples : List IdSample) : Rat :=
  match samples with
  | [] => 0
  | x :: _ =>
    let top := fun (l : List Int) => l.foldl max (l.headD x.tin)
    let up := fun (t : Int) => t * 2 ^ 32
    let v : Vec := [up (top x.contact), up (top x.contact), up (top x.ret), fx96, 0]
    let r := p.residuals v samples
    r.1 / (max 1 r.2 : Nat)

/-- The square root of a non-negative rational number as binary32. -/
def sqrtF32 (x : Rat) : F32 := F32.ofFrac (Nat.sqrt (x.num.toNat * 2 ^ 128 / x.den) : Nat) (2 ^ 64)

/-- R161, R162: whether a fit is plausible: positive values, the stability rule, and the mean square residual. -/
def fitOk (p : FitPar) (ws : List F32) (ms : Rat) : Bool :=
  let slow := fun (c g : Rat) => decide (mkRat 1 100 * g ≤ c)
  (ws.length == 6) && ws.all (fun x => F32.finite x && decide (0 < F32.units x)) &&
    slow p.c1 (p.g12 + p.g13) && slow p.c2 (p.g12 + p.g23) && slow p.c3 (p.g13 + p.g23 + 200 * p.gf) && decide (4 * ms ≤ 1)

/-- R161: the fit of phase 4. The six values that the least-squares fit of the samples gives are a free value; the residual is computed from
them (log entry 28). -/
def identFit (s : Dev) (n : Fin 16) (r : IdRun) : Dev :=
  let samples := r.samples.reverse
  let ws := Config.cableFit (samples.map (fun x => [(x.dt : Int), x.current, x.flow, x.tin] ++ x.contact ++ x.supply ++ x.ret))
  let q := fun k => F32.toRat (ws.getD k 0)
  let p : FitPar :=
    { c1 := q 0
      c2 := q 1
      c3 := q 2
      g12 := q 3
      g13 := q 4
      g23 := q 5
      gf := s.ratAt (THM_CAB_GF n)
      rc := s.ratAt (THM_CAB_RC n)
      alpha := s.ratAt (THM_CAB_ALPHA n)
      rp := s.ratAt (THM_CAB_RP n) }
  let ms := p.meanSquare samples
  if fitOk p ws ms then
    let s := s.longPartial r.src 1 ((ws ++ [sqrtF32 ms]).flatMap (fun w => leBytes 4 w.toNat)) 1000
    if (s.longOf r.src).isNone then s.identStop r.src else s.identEnd n r true ST_OK
  else s.identEnd n r false ST_THM_ID_IMPLAUSIBLE

/-- R161: a phase of an identification ends: the settling is reached or its 60 min are over; the heating or the cooling fails or has lasted
STEP_TIME; the fit is done. In the cooling the band is that about the request of 0 (log entry 26). -/
def identPhaseEnd (s : Dev) (n : Fin 16) : Dev :=
  match (s.cab n).ident with
  | none => s
  | some r =>
    if r.phase = 1 then
      if s.identSettled r then s.identPhase n r 2 r.iId else (s.reach (r.since + sec 3600)).identEnd n r false ST_THM_ID_UNSTABLE
    else if r.phase = 4 then s.identFit n r
    else if r.offSince.any (fun t => decide (t + sec 1 < s.dt)) then s.identEnd n r false ST_THM_ID_STEP
    else if s.identLost n then s.identEnd n r false ST_THM_ID_NO_SENSOR
    else (s.reach (r.since + r.step)).identPhase n r (r.phase + 1) 0

/-! Die sensors (R163) -/

/-- R163: one reading of a die sensor. -/
def dieReading (s : Dev) (t : List (BitVec 16)) (d : Fin 3) : Dev :=
  let v := (t.getD d.val 0#16).toInt
  let s := (s.seti (THM_DIE_TEMP d) v).seti (THM_DIE_PEAK d) (max v (s.geti (THM_DIE_PEAK d)))
  (s.putThm { s.thm with dieSince := s.thm.dieSince.set d (if 12500 ≤ v then some ((s.thm.dieSince[d]).getD s.dt) else none) })

/-- R163: the readings of one sample. -/
def dieReadings (s : Dev) (t : List (BitVec 16)) : Dev := s.forEach (idx 3) (fun d s => s.dieReading t d)

/-- R163: read the die sensors; the Bool says that a die has been at 125 °C for 10 ms. -/
def dieSample (s : Dev) (t : List (BitVec 16)) : Dev × Bool :=
  let s := s.tick .dieTemp (ms 1)
  let warmWas := s.flag THM_STATUS_DIE_WARM
  let s := s.dieReadings t
  let warm := t.any (fun x => decide ((s.get THM_DIE_CFG_WARN : Int) * 100 < x.toInt))
  let s := s.setb THM_STATUS_DIE_WARM warm
  let s := s.when (warm && !warmWas) (·.post EV_THM_DIE_WARM)
  (s, s.thm.dieSince.toList.any (fun x => x.any (fun a => decide (a + ms 10 ≤ s.dt))))

end Dev

/-! The commands -/

/-- R147: CABLE_OBSERVER_STEP. -/
def effCableObserverStep (pin0 pin1 pin2 pin3 : Word) (s : Dev) : Dev := s.observeAll [pin0, pin1, pin2, pin3]

def execCableObserverStep (pin0 pin1 pin2 pin3 : Word) (s : State) : Host.Outcome State Fault Refusal :=
  s.onRun (effCableObserverStep pin0 pin1 pin2 pin3)

/-- R155: CABLE_FLOW_TRIP. -/
def effCableFlowTrip (n : Fin 16) (s : Dev) : Dev :=
  match (s.cab n).flowLowSince with
  | none => s
  | some t =>
    let s := s.reach (t + Dev.sec 2)
    let was := s.flag (THM_CAB_STATUS_FLOW_LOW n)
    let s := (s.setb (THM_CAB_STATUS_FLOW_LOW n) true).when (!was) (·.post EV_THM_FLOW_LOW)
    s.cabTrip n tcFlow

def execCableFlowTrip (n : Fin 16) (s : State) : Host.Outcome State Fault Refusal := s.onRun (effCableFlowTrip n)

/-- R155: CABLE_TRIP_CLEAR. -/
def effCableTripClear (n : Fin 16) (s : Dev) : Dev :=
  match (s.cab n).coolSince with
  | none => s
  | some t =>
    if !s.flag (THM_CAB_STATUS_TRIP n) then s
    else
      let s := s.reach (t + Dev.sec 60)
      let s := ((s.setb (THM_CAB_STATUS_TRIP n) false).set (THM_CAB_STATUS_TRIP_CAUSE n) 0).setb (THM_CAB_STATUS_FLOW_LOW n) false
      let s := s.thmSummary.post EV_THM_CABLE_TRIP_CLEARED
      s.when (!s.cabLive n) (·.setIlim n (s.idleLimit n))

def execCableTripClear (n : Fin 16) (s : State) : Host.Outcome State Fault Refusal := s.onRun (effCableTripClear n)

/-- R151: CABLE_LIMIT_PUBLISH. -/
def effCableLimitPublish (n : Fin 16) (s : Dev) : Dev := s.publishLimit n

def execCableLimitPublish (n : Fin 16) (s : State) : Host.Outcome State Fault Refusal := s.onRun (effCableLimitPublish n)

/-- R145: SENSOR_SAMPLE. -/
def effSensorSample (n : Fin 64) (ohm : Word) (s : Dev) : Dev := s.sampleSensor n ohm

def execSensorSample (n : Fin 64) (ohm : Word) (s : State) : Host.Outcome State Fault Refusal := s.onRun (effSensorSample n ohm)

/-- R152: BAND_FALL. -/
def effBandFall (n : Fin 16) (s : Dev) : Dev :=
  match (s.cab n).fallSince with
  | none => s
  | some t =>
    let b := s.get (THM_CAB_STATUS_BAND n)
    (s.reach (t + Dev.sec 5)).setBand n (b - 1)

def execBandFall (n : Fin 16) (s : State) : Host.Outcome State Fault Refusal := s.onRun (effBandFall n)

/-- R162: CABLE_ENABLE. -/
def effCableEnable (n : Fin 16) (s : Dev) : Dev :=
  let r := s.cabEnable n
  r.1.answer (r.2.getD ST_OK)

def execCableEnable (n : Fin 16) (s : State) : Host.Outcome State Fault Refusal := s.onReg 0x05 (effCableEnable n)

/-- R161: IDENTIFY. -/
def effIdentify (l : LongSrc) (outlet : Byte) (iId stepTime : Code) (s : Dev) : Dev :=
  s.identify l outlet.toNat iId.toNat stepTime.toNat

def execIdentify (l : LongSrc) (outlet : Byte) (iId : Code) (stepTime : Code) (s : State) : Host.Outcome State Fault Refusal :=
  s.onHost l.src false false (effIdentify l outlet iId stepTime)

/-- R161: IDENTIFY_PHASE_END. -/
def effIdentifyPhaseEnd (n : Fin 16) (s : Dev) : Dev := s.identPhaseEnd n

def execIdentifyPhaseEnd (n : Fin 16) (s : State) : Host.Outcome State Fault Refusal := s.onRun (effIdentifyPhaseEnd n)

end Sys2Proof.Machine
end

