-- ==== Sys2Proof/Machine/Census.lean ====
section
/-! DEFINITION. The census (R213 to R216, R219, R225 to R227): MARKs, replies, admission, lost nodes, path delays and the dispatch
lead (R90, R91), breaks. Delays are in 2^−16 ns unless a name says otherwise. -/

namespace Sys2Proof.Machine

/-- R230: REFUSE causes. -/
def rcDuplicate : Nat := 1
def rcVersion : Nat := 2
def rcClass : Nat := 3
def rcLimit : Nat := 4

/-- R227: BREAK_KIND. -/
def bkNone : Nat := 0
def bkLane : Nat := 1
def bkLink : Nat := 2
def bkNode : Nat := 3
def bkSingle : Nat := 4
def bkMultiple : Nat := 5

/-- R210: a CENSUS reply. -/
structure CensusReply where
  id : Id64
  cls : Nat
  proto : Nat
  hop : Nat
  flags : Nat
  resid : Nat
  linkDn : Nat
  maker : Nat
  fw : Nat
  origin : Nat
deriving DecidableEq, Repr

/-- R210: the fields of a reply's data. -/
def parseReply (d : List Byte) : CensusReply :=
  { id := BitVec.ofNat 64 (fieldAt d 0 8), cls := fieldAt d 8 1, proto := fieldAt d 9 1, hop := fieldAt d 10 1, flags := fieldAt d 11 1,
    resid := fieldAt d 12 4, linkDn := fieldAt d 16 4, maker := fieldAt d 20 2, fw := fieldAt d 22 2, origin := fieldAt d 24 1 % 8 }

/-- R215: node classes. -/
def classKnown (c : Nat) : Bool := (decide (1 ≤ c) && decide (c ≤ 6)) || c == 0x7F

namespace Dev

/-! What the presence of nodes decides elsewhere -/

/-- R230, R84, R162, R334: after a node has become present or has ceased to be. -/
def presenceChanged (s : Dev) : Dev :=
  let s := s.set PST_PROT_STATUS_NODES ((idx 128).filter (fun (i : Fin 128) => s.nodePresent i)).length
  let s := s.forEach (List.range 8) (fun l s =>
    s.setb (THM_LOOP_STATUS_NODE_BOUND l) (s.nodeById (s.get64 (THM_LOOP_NODE_LO l)) 0).isSome)
  s.rebindAll.headsFollowNodes.requestRates

/-- R46, R517: whether a stage meets the conditions of availability now; outside RUN none does. -/
def stageMeets (s : Dev) (st : Nat) : Bool :=
  s.get GEN_PWR_STATE == 0 && s.get (ALC_STAGE_MAP_ROLE st) != 0 && s.flag (ALC_STAGE_MAP_EN st) &&
    (match s.stageNode st with
     | some i => decide (3 ≤ s.pst.seen[i].okRun)
     | none => false) &&
    s.get (EDG_STG_STATUS_LEG_FAULT st) == 0

/-- R46: since when each stage has met them. -/
def refreshStages (s : Dev) : Dev :=
  s.putAlc { s.alc with stageSince := Vector.ofFn (fun (st : Fin 64) =>
      if s.stageMeets st then some ((s.alc.stageSince[st]).getD s.dt) else none) }

/-! Lost nodes (R216, R103) -/

/-- R216, R103, R276: a present node goes LOST. -/
def loseNode (s : Dev) (i : Fin 128) : Dev :=
  let legs := s.armedPisteLegs.filter (fun (l : Fin 408) => s.stageNode (legStage l) == some i)
  let outs := s.outletsOfFrontEnd i
  let s := s.forEach legs (fun l s => s.faultLeg l fcNodeLost)
  let s := ((s.set (PST_NODE_INFO_STATE i) ndLost).modSeen i (fun x => { x with lostDt := s.dt, rateAsked := none })).post EV_PST_NODE_LOST
  let s := s.putPst { s.pst with refusedTold := [] }
  (s.forEach outs (fun n s => s.contactorGone n)).presenceChanged

/-- R216, R230: one census interval has passed for an entry. -/
def censusEntry (s : Dev) (i : Fin 128) : Dev :=
  if s.nodeState i = ndFree then s
  else
    let x := s.pst.seen[i]
    let ok := x.answered || x.answered2
    let s := s.modSeen i (fun x =>
      { x with
        missed := if ok then 0 else x.missed + 1
        okRun := if ok then min 3 (x.okRun + 1) else 0 })
    let s := if ok then s else (s.incSat (PST_NODE_ERR_MISSED i)).incSat (PST_NODE_AGE_AGE i)
    if !ok && s.nodePresent i && decide (3 ≤ x.missed + 1) then s.loseNode i else s

/-! What the piste shows of its time (R219, R225) -/

/-- R219, R230: TIME_VALID, UNRESOLVED and LINK_MISSING of a piste. -/
def timeSummary (s : Dev) (p : Fin 8) : Dev :=
  let n := s.cenNodes p
  let m := s.missingLinks p
  let unres := decide (2 ≤ m.length) && m.any (fun j => decide (j ≤ n))
  let valid := !s.flag (PST_CEN_TIME_MISMATCH p) && !unres
  let was := s.flag (PST_CEN_TIME_UNRESOLVED p)
  let s := (s.set (PST_CEN_TIME_LINK_MISSING p) (sumOf (m.map (fun j => 2 ^ (j - 1))))).setb (PST_CEN_TIME_UNRESOLVED p) unres
  let s := ((s.setb (PST_CEN_TIME_TIME_VALID p) valid).set ⟨PST_PROT_STATUS, 24 + p, 24 + p⟩ valid.toNat)
  s.when (unres && !was) (·.post EV_PST_TIME_UNRESOLVED)

/-- R225, R230: PATH_DELAY on the member in use, and which that is. -/
def showPath (s : Dev) (i : Fin 128) : Dev :=
  let p : Fin 8 := Fin.ofNat 8 (s.get (PST_NODE_INFO_PISTE i))
  let q : Fin 8 := Fin.ofNat 8 (p + 1)
  let k := s.get (PST_NODE_INFO_HOP i)
  let k2 := s.get (PST_NODE_INFO_HOP2 i)
  let x := s.pst.seen[i]
  let odd := s.twinned p && k2 != 0 && (k == 0 || !s.pathValid p k || (!x.answered && x.answered2))
  let s := s.setb (PST_NODE_INFO_ODD_TIME i) odd
  let d := if odd then s.pathDelay q k2 else if k = 0 then 0 else s.pathDelay p k
  s.wr (PST_NODE_PATH i) (BitVec.ofNat 32 (d / 2 ^ 12))

/-! Dispatch lead (R90, R91) -/

/-- R90, R91: a ring latency in 1/16 ns gives the lead; a capped piste faults its armed legs. -/
def setLead (s : Dev) (p : Fin 8) (lat : Nat) : Dev :=
  let capped := decide (48000 < lat + 4000)
  let was := s.flag (EDG_LEAD_CAPPED p)
  let s := (s.set (EDG_LEAD_LATENCY p) ((lat + 15) / 16)).set (EDG_LEAD_LEAD p) (min 3000 ((lat + 4000 + 79) / 80 * 5))
  let s := s.setb (EDG_LEAD_CAPPED p) capped
  let bits := s.get EDG_STATUS_CAPPED ||| 2 ^ p.val
  let s := s.set EDG_STATUS_CAPPED (if capped then bits else bits - 2 ^ p.val)
  let s := s.when (capped && !was) (·.post EV_EDG_LEAD_CAPPED)
  if capped then
    s.forEach (s.armedPisteLegs.filter (fun (l : Fin 408) =>
        s.flag (EDG_STG_STATUS_BOUND (legStage l)) && s.get (EDG_STG_STATUS_PISTE (legStage l)) == s.homePiste p))
      (fun l s => s.faultLeg l fcLead)
  else s

/-! The MARK's return (R213, R219) -/

/-- R209, R214: the SYNC frame and the CENSUS request of hop `k` for the last MARK, in one run with N = 10. -/
def sendSync (s : Dev) (p : Fin 8) (k interval : Nat) : Dev :=
  let t := s.pst.time[p]
  let f : SyncFrame :=
    { markDt := t.markDt, markFrac := t.markFrac, census := BitVec.ofNat 16 (s.get (PST_CEN_COUNT_CENSUS p)),
      pathDelay := s.pathDelay p k, valid := s.pathValid p k, odd := s.oddMember p, interval := interval, epoch := s.rd GEN_EPOCH }
  let a := s.nextSeq 5
  let b := a.2.nextSeq 6
  (b.2.emit (.sync p k a.1 b.1 f)).queueRun p ⟨k, 10, none, [⟨ftSync, a.1, 0, syncBytes f⟩, ⟨ftCensus, b.1, 0, []⟩]⟩

/-- R213, R517: the census interval in ms. -/
def censusMs (s : Dev) : Nat := if s.get GEN_PWR_STATE = 1 then 10 else 1

/-- R219: the run of censuses with |e| beyond 2 ns and within 1 ns, and MISMATCH. -/
def judgeMismatch (s : Dev) (p : Fin 8) (e : Int) : Dev :=
  let t := s.pst.time[p]
  let big := if 2 * nsFx < e.natAbs then t.bigRun + 1 else 0
  let small := if e.natAbs ≤ nsFx then t.smallRun + 1 else 0
  let s := s.modTime p (fun x => { x with bigRun := min big 3, smallRun := min small 3 })
  let was := s.flag (PST_CEN_TIME_MISMATCH p)
  if 3 ≤ big then (s.setb (PST_CEN_TIME_MISMATCH p) true).when (!was) (·.post EV_PST_TIME_MISMATCH)
  else if 3 ≤ small then s.setb (PST_CEN_TIME_MISMATCH p) false
  else s

/-- R213, R219, R90: the MARK returns on piste `p` with HOPCNT `n` after `lat` sixteenths of a ns. -/
def markReturn (s : Dev) (p : Fin 8) (n lat : Nat) : Dev :=
  if s.pst.time[p].returned || s.pst.time[p].marks = 0 then s
  else
    let before := s.cenNodes p
    let s := (s.set (PST_CEN_STATUS_NODES p) n).wr (PST_CEN_LAT p) (BitVec.ofNat 32 lat)
    let s := (s.setb (PST_CEN_TIME_HELD p) false).modTime p (fun x => { x with returned := true, lat := lat * 2 ^ 12, seen := .ring })
    let e0 := s.ringError p (lat * 2 ^ 12)
    let e : Int := if (s.missingLinks p).length = 1 then 0 else e0
    let c : Nat := ((s.linkSum p (n + 1) : Int) + (if (s.missingLinks p).length = 1 then e0 else 0)).toNat
    let s := s.modTime p (fun x =>
      { x with
        scaleNum := if c = 0 then 1 else (c : Int) + e
        scaleDen := if c = 0 then 1 else c })
    let s := (s.wr (PST_CEN_RESID p) (BitVec.ofInt 32 (e / 2 ^ 12))).judgeMismatch p e
    let s := s.timeSummary p
    let s := s.forEach ((idx 128).filter (fun (i : Fin 128) => s.nodeState i != ndFree && s.get (PST_NODE_INFO_PISTE i) == s.homePiste p))
      (fun i s => s.showPath i)
    let s := s.setLead p lat
    s.forEach ((List.range n).filter (fun k => decide (before ≤ k))) (fun k s => s.sendSync p (k + 1) s.censusMs)

/-! Admission (R215, R216) -/

/-- R215: why a node that replies for the first time is refused. -/
def refuseCause (s : Dev) (r : CensusReply) : Option Nat :=
  let live := (idx 128).filter (fun (i : Fin 128) => s.nodePresent i || s.nodeState i == ndPending)
  if live.any (fun (i : Fin 128) => (s.nodeId i).toNat % 2 ^ 48 == r.id.toNat % 2 ^ 48) then some rcDuplicate
  else if r.proto != 1 then some rcVersion
  else if !classKnown r.cls then some rcClass
  else if 128 ≤ s.get PST_PROT_STATUS_NODES then some rcLimit
  else none

/-- R216: the entry a new node gets, and whether it was a LOST one. -/
def newEntry (s : Dev) : Option (Fin 128 × Bool) :=
  match (idx 128).find? (fun (i : Fin 128) => s.nodeState i == ndFree) with
  | some i => some (i, false)
  | none =>
    let lost := (idx 128).filter (fun (i : Fin 128) => s.nodeState i == ndLost)
    match lost with
    | [] => none
    | a :: rest => some (rest.foldl (fun (b i : Fin 128) => if s.pst.seen[i].lostDt < s.pst.seen[b].lostDt then i else b) a, true)

/-- An entry with nothing in it. -/
def clearEntry (s : Dev) (i : Fin 128) : Dev :=
  let s := s.forEach (List.range 8) (fun k s => s.wr (PST_NODE_ID_LO i + 4 * k) 0)
  s.modSeen i (fun _ => (Dev.reset.pst.seen)[i])

/-- R210: the node table's words of a reply's node. -/
def showNode (s : Dev) (i : Fin 128) (p : Fin 8) (r : CensusReply) : Dev :=
  let s := (s.set (PST_NODE_INFO_PISTE i) (s.homePiste p)).setb (PST_NODE_INFO_TWIN i) (s.twinned p)
  let s := if s.oddMember p then s.set (PST_NODE_INFO_HOP2 i) r.hop else s.set (PST_NODE_INFO_HOP i) r.hop
  let s := if s.twinned p then s else s.set (PST_NODE_INFO_HOP2 i) 0
  let s := (s.setb (PST_NODE_INFO_TIME_STALE i) (r.flags.testBit 0)).setb (PST_NODE_INFO_STALE_TRI i) (r.flags.testBit 1)
  (s.setb (PST_NODE_INFO_ECHO_OK i) (r.flags.testBit 2)).set (PST_NODE_INFO_CLASS i) r.cls

/-- R210: the identity a reply gives. -/
def showIdentity (s : Dev) (i : Fin 128) (r : CensusReply) : Dev :=
  let s := (s.set64 (PST_NODE_ID_LO i) r.id).set (PST_NODE_AGE_AGE i) 0
  (s.set (PST_NODE_MAKER_MAKER i) r.maker).set (PST_NODE_MAKER_FW i) r.fw

/-- R210, R230: what a reply shows of its node. -/
def showReply (s : Dev) (i : Fin 128) (p : Fin 8) (r : CensusReply) : Dev :=
  let odd := s.oddMember p
  let link := if r.flags.testBit 2 then r.linkDn else 0
  let was := s.flag (PST_NODE_INFO_TIME_STALE i)
  let wasTri := s.flag (PST_NODE_INFO_STALE_TRI i)
  let s := (s.showNode i p r).showIdentity i r
  let s := if odd && !s.flag (PST_NODE_INFO_ODD_TIME i) then s else
    (s.set (PST_NODE_DELAY_LINK_DN i) (min 0xFFFF (link / 2 ^ 12))).set (PST_NODE_DELAY_RESID i) (min 0xFFFF (r.resid / 2 ^ 12))
  let s := s.modSeen i (fun x =>
    { x with
      linkDn := if odd then x.linkDn else link
      linkDn2 := if odd then link else x.linkDn2
      resid := if odd then x.resid else r.resid
      resid2 := if odd then r.resid else x.resid2
      faultIn := r.flags.testBit 3
      answered := x.answered || !odd
      answered2 := x.answered2 || odd
      originBad := if odd then x.originBad else r.origin != p.val
      originBad2 := if odd then r.origin != p.val else x.originBad2 })
  s.when (s.nodePresent i && ((r.flags.testBit 0 && !was) || (r.flags.testBit 1 && !wasTri)))
    (·.post EV_PST_NODE_STALE)

/-- The entry a reply belongs to: one that holds this ID at this place, or one with this ID that has not answered this census on this
member. -/
def replyEntry (s : Dev) (p : Fin 8) (r : CensusReply) : Option (Fin 128) :=
  let odd := s.oddMember p
  let same := (idx 128).filter (fun (i : Fin 128) => s.nodeState i != ndFree && s.nodeId i == r.id)
  let here := same.find? (fun (i : Fin 128) => s.get (PST_NODE_INFO_PISTE i) == s.homePiste p &&
    (if odd then s.get (PST_NODE_INFO_HOP2 i) else s.get (PST_NODE_INFO_HOP i)) == r.hop)
  here.orElse (fun _ => same.find? (fun (i : Fin 128) =>
    s.nodeState i != ndRefused && !(if odd then s.pst.seen[i].answered2 else s.pst.seen[i].answered)))

/-- R215, R216: a node that has no entry replies. -/
def newNode (s : Dev) (p : Fin 8) (r : CensusReply) : Dev :=
  let cause := s.refuseCause r
  match s.newEntry with
  | none =>
    if s.pst.refusedTold.contains r.id then s
    else (s.putPst { s.pst with refusedTold := r.id :: s.pst.refusedTold } : Dev).post EV_PST_NODE_REFUSED
      (leBytes 1 rcLimit ++ leBytes 1 0xFF)
  | some (i, lost) =>
    let s := (s.when lost (·.post EV_PST_NODE_FORGOTTEN)).clearEntry i
    match cause with
    | some c =>
      let s := ((s.set (PST_NODE_INFO_STATE i) ndRefused).set (PST_NODE_INFO_REFUSE i) c).showReply i p r
      s.post EV_PST_NODE_REFUSED (leBytes 1 c ++ leBytes 1 i)
    | none =>
      if s.pst.time[p].marks = 1 || s.flag PST_PROT_CTRL_HOT_ADD_EN then
        (((s.set (PST_NODE_INFO_STATE i) ndPresent).showReply i p r).post EV_PST_NODE_ADDED (leBytes 1 i)).presenceChanged
      else ((s.set (PST_NODE_INFO_STATE i) ndPending).showReply i p r).post EV_PST_NODE_PENDING

/-- R214 to R216: a CENSUS reply. -/
def censusReply (s : Dev) (p : Fin 8) (r : CensusReply) : Dev :=
  match s.replyEntry p r with
  | none => s.newNode p r
  | some i =>
    let lost := s.nodeState i == ndLost
    let moved := s.nodePresent i && !(s.get (PST_NODE_INFO_PISTE i) == s.homePiste p &&
      (s.oddMember p || s.get (PST_NODE_INFO_HOP i) == r.hop))
    if lost then
      (((s.set (PST_NODE_INFO_STATE i) ndPresent).showReply i p r).post EV_PST_NODE_RETURNED).presenceChanged
    else
      let s := s.showReply i p r
      if moved then s.rebindAll else s

/-- R199 to R201, R214: CENSUS_REPLY_RECEIVED's frame. -/
def replyFrame (s : Dev) (f : RxFrame) : Dev :=
  let s := s.countReserved f
  if !frameOk f ftCensus then s.discardFrame f
  else
    match s.frameNode f with
    | some i => if s.heardBefore i f then s else (s.hear i f).censusReply f.piste (parseReply f.data)
    | none => s.censusReply f.piste (parseReply f.data)

/-- R230: ACCEPT of a PENDING entry. -/
def admitAccept (s : Dev) (i : Fin 128) : Dev :=
  if s.nodeState i != ndPending || 128 ≤ s.get PST_PROT_STATUS_NODES then s
  else ((s.set (PST_NODE_INFO_STATE i) ndPresent).post EV_PST_NODE_ADDED (leBytes 1 i)).presenceChanged

/-- R230: FORGET of a LOST or REFUSED entry. -/
def admitForget (s : Dev) (i : Fin 128) : Dev :=
  if s.nodeState i == ndLost || s.nodeState i == ndRefused then
    let s := s.clearEntry i
    (s.putPst { s.pst with refusedTold := [] })
  else s

/-! Breaks (R226, R227) -/

/-- R227: a member's MARK fails to return, and at which even-member hop its head stands: `none` while the receiver names no head. -/
def memberHead (s : Dev) (p : Fin 8) (n : Nat) : Option Nat :=
  match s.pst.time[p].seen with
  | .none => some (if s.oddMember p then 0 else n + 1)
  | .head h =>
    if s.oddMember p then
      (match s.nodeAt p h with
       | some i => some (s.get (PST_NODE_INFO_HOP i))
       | none => some (n + 1 - h))
    else some h
  | .ring => none

/-- R227: the break of an unpaired piste or of a pair, by its even member: kind, from, to. -/
def breakOf (s : Dev) (p : Fin 8) : Option (Nat × Nat × Nat) :=
  let n := s.cenNodes p
  let open_ := fun (q : Fin 8) => decide (1 ≤ s.pst.time[q].missRun)
  if !s.twinned p then
    (if open_ p then (s.memberHead p n).map (fun h => (bkSingle, h - 1, h)) else none)
  else
    let q : Fin 8 := Fin.ofNat 8 (p + 1)
    match (if open_ p then s.memberHead p n else none), (if open_ q then s.memberHead q n else none) with
    | some a, none => some (bkLane, a - 1, a)
    | none, some b => some (bkLane, b, b + 1)
    | some a, some b => some (if b + 1 = a then bkLink else if b + 2 ≤ a then bkNode else bkMultiple, b, a)
    | none, none => none

/-- R227: report or clear a break. -/
def breakCensus (s : Dev) (p : Fin 8) : Dev :=
  let ms : List (Fin 8) := if s.twinned p then [p, Fin.ofNat 8 (p + 1)] else [p]
  let show_ := fun (s : Dev) (k a b : Nat) =>
    ((((s.set (PST_CEN_STATUS_BREAK_KIND p) k).set (PST_CEN_STATUS_BREAK_FROM p) a).set (PST_CEN_STATUS_BREAK_TO p) b).set
      ⟨PST_PROT_STATUS, 16 + p, 16 + p⟩ (k != bkNone).toNat)
  if ms.any (fun q => decide (2 ≤ s.pst.time[q].missRun)) then
    match s.breakOf p with
    | some (k, a, b) =>
      if s.get (PST_CEN_STATUS_BREAK_KIND p) = k && s.get (PST_CEN_STATUS_BREAK_FROM p) = a && s.get (PST_CEN_STATUS_BREAK_TO p) = b
      then s
      else (show_ s k a b).post EV_PST_BREAK (leBytes 1 k ++ leBytes 1 a ++ leBytes 1 b)
    | none => s
  else if s.get (PST_CEN_STATUS_BREAK_KIND p) != bkNone && ms.all (fun q => decide (3 ≤ s.pst.time[q].backRun)) then
    (show_ s bkNone 0 0).post EV_PST_BREAK_CLEARED
  else s

/-- R226: a node of a pair that fails the check. -/
def pairBadNode (s : Dev) (i : Fin 128) : Bool :=
  let p := s.get (PST_NODE_INFO_PISTE i)
  let x := s.pst.seen[i]
  s.nodePresent i && s.twinned p &&
    (!(x.answered && x.answered2) || s.get (PST_NODE_INFO_HOP i) + s.get (PST_NODE_INFO_HOP2 i) != s.cenNodes p + 1 ||
      x.originBad || x.originBad2)

/-- R226: check the pairs at a census. -/
def pairCheck (s : Dev) : Dev :=
  let bad := (idx 128).any (fun (i : Fin 128) => s.pairBadNode i)
  let was := s.flag PST_PROT_STATUS_PAIR_BAD
  (s.setb PST_PROT_STATUS_PAIR_BAD bad).when (bad && !was) (·.post EV_PST_TWIN_ORDER)

/-! The census instant (R213, R214) -/

/-- R213, R219, R227: the last MARK of a piste has come back or not within its interval. -/
def markResult (s : Dev) (p : Fin 8) (seen : StreamSeen) : Dev :=
  let t := s.pst.time[p]
  if t.marks = 0 then s
  else if t.returned then s.modTime p (fun x => { x with missRun := 0, backRun := min 3 (x.backRun + 1) })
  else (s.setb (PST_CEN_TIME_HELD p) true).modTime p (fun x => { x with missRun := min 3 (x.missRun + 1), backRun := 0, seen := seen })

/-- R213, R214: send the MARK on piste `p` at the first block boundary from now on, and give the census runs. The run in progress goes on after
it. -/
def sendMark (s : Dev) (p : Fin 8) (interval : Nat) : Dev :=
  let s := (s.advanceTx p).incWrap (PST_CEN_COUNT_CENSUS p)
  let x := s.pst.tx[p]
  let k := blockAt x s.dt
  let t := blockTime x k
  let s := s.modTx p (fun x => { x with next := max x.next k + 1 })
  let s := s.modTime p (fun x =>
    { x with markDt := t / 32, markFrac := t % 32 * 2048, returned := false, marks := min 2 (x.marks + 1) })
  let s := s.emit (.mark p t (markBlock 0 (BitVec.ofNat 16 (s.get (PST_CEN_COUNT_CENSUS p))) (s.twinned p) p))
  s.forEach (List.range (s.cenNodes p)) (fun k s => s.sendSync p (k + 1) interval)

/-- R213 to R216, R226, R227: CENSUS_MARK. `seen` gives, by piste, what its receiver has seen if the last MARK has not returned,
`unclaimed` the runs that have returned with RET = 0 since then (R230). -/
def census (s : Dev) (seen : List StreamSeen) (unclaimed : List Nat) : Dev :=
  let interval := s.censusMs
  let s := s.tick .census (ms interval)
  let up := (idx 8).filter (fun (p : Fin 8) => s.pisteState p == phUp)
  let held := up.any (fun p => s.pst.time[p].marks != 0) || (idx 128).any (fun (i : Fin 128) => s.nodePresent i)
  let s := s.forEach up (fun p s =>
    (s.incSat (PST_CEN_COUNT_UNCLAIMED p) ((unclaimed[p.val]?).getD 0)).markResult p ((seen[p.val]?).getD .none))
  let s := if held then s.pairCheck.forEach (idx 128) (fun i s => s.censusEntry i) else s
  let s := s.forEach (up.filter (fun (p : Fin 8) => s.homePiste p == p.val)) (fun p s => s.breakCensus p)
  let s := s.checkPlacement.refreshStages
  let s := s.forEach (idx 128) (fun i s => s.modSeen i (fun x => { x with answered := false, answered2 := false }))
  s.forEach up (fun p s => s.sendMark p interval)

end Dev

/-! The commands -/

/-- R213: CENSUS_MARK. -/
def effCensusMark (seen : List StreamSeen) (unclaimed : List Nat) (s : Dev) : Dev := s.census seen unclaimed

def execCensusMark (seen : List StreamSeen) (unclaimed : List Nat) (s : State) : Host.Outcome State Fault Refusal :=
  s.onRun (effCensusMark seen unclaimed)

/-- R219: MARK_RETURN. -/
def effMarkReturn (p : Fin 8) (n : Fin 17) (latency : Nat) (s : Dev) : Dev := s.markReturn p n latency

def execMarkReturn (p : Fin 8) (n : Fin 17) (latency : Nat) (s : State) : Host.Outcome State Fault Refusal :=
  s.onRun (effMarkReturn p n latency)

/-- R215: CENSUS_REPLY_RECEIVED. -/
def effCensusReplyReceived (f : RxFrame) (s : Dev) : Dev := s.replyFrame f

def execCensusReplyReceived (f : RxFrame) (s : State) : Host.Outcome State Fault Refusal := s.onRun (effCensusReplyReceived f)

/-- R230: PST_ADMIT_ACCEPT. -/
def effPstAdmitAccept (i : Fin 128) (s : Dev) : Dev := (s.admitAccept i).answer ST_OK

def execPstAdmitAccept (i : Fin 128) (s : State) : Host.Outcome State Fault Refusal := s.onReg 0x06 (effPstAdmitAccept i)

/-- R230: PST_ADMIT_FORGET. -/
def effPstAdmitForget (i : Fin 128) (s : Dev) : Dev := (s.admitForget i).answer ST_OK

def execPstAdmitForget (i : Fin 128) (s : State) : Host.Outcome State Fault Refusal := s.onReg 0x06 (effPstAdmitForget i)

end Sys2Proof.Machine
end

