-- ==== Sys2Proof/Machine/Metering.lean ====
section
/-! DEFINITION. Energy metering (R304 to R326): scaling, blocks, registers, harmonics, pulse outputs and saves. Energies are in 2^−32 mWh,
voltages and currents in 2^−32 V and A. -/

namespace Sys2Proof.Machine

/-- R312: one in fixed point. -/
def q32 : Nat := 2 ^ 32

/-- A rational number to the nearest 2^−32. -/
def ratQ32 (x : Rat) : Int := (x * q32 + 1 / 2).floor

/-- A 2^−32 value as a rational number. -/
def q32Rat (x : Int) : Rat := mkRat x q32

/-- The square root of `n`, rounded down, bit by bit from `2 ^ b` on. -/
def isqrt (n : Nat) : Nat → Nat → Nat
  | 0, r => r
  | b + 1, r => isqrt n b (if (r + 2 ^ b) * (r + 2 ^ b) ≤ n then r + 2 ^ b else r)

/-- The square root of a non-negative rational number as a binary32. -/
def sqrtF32 (x : Rat) : F32 := F32.ofFrac (isqrt (x * (2 : Rat) ^ 160).floor.toNat 150 0) (2 ^ 80)

/-- R305: K, as R531 gives it. -/
def kStep : Rat := mkRat 1 (2 ^ 23)

/-- R305: an over-range code. -/
def overRange (c : Int) : Bool := c.natAbs == 2 ^ 23 - 1

/-- The value of a list of codes at a position in samples, interpolated between neighbours; beyond its ends, the end. -/
def sampleAt (l : List Int) (pos : Rat) : Rat :=
  let k := pos.floor
  let f := pos - k
  let get := fun (j : Int) => if j < 0 then l.headD 0 else l.getD j.toNat (l.getLastD 0)
  if f = 0 then (get k : Rat) else (get k : Rat) * (1 - f) + (get (k + 1) : Rat) * f

/-- R313, R314: a display value in 0.001 kWh, and the energy between two display readings in 0.001 kWh: by the wrap counters, and by the
display values alone. -/
def display (e : Nat) : Nat := e / 1000 % 10 ^ 12
def betweenWraps (w0 a w1 b : Nat) : Int := ((w1 : Int) - w0) * 10 ^ 12 + ((b : Int) - a)
def betweenShown (a b : Nat) : Nat := (b + 10 ^ 12 - a) % 10 ^ 12

/-- R329: quantity indices. -/
def qGrid (g j : Nat) : Nat := 8 * g + j
def qOut (n j : Nat) : Nat := 16 + 4 * n + j

/-- R318: a quantity that a pulse output may take. -/
def pulseSource (q : Nat) : Bool :=
  if q < 16 then q % 8 < 6 else decide (q < 80) && decide (q % 4 < 2)

/-- R319: the width of a pulse, by the time since the due instant of the one before. -/
def pulseWidth (since : Option Nat) : Nat :=
  match since with
  | none => 30000000
  | some d => if 60000000 ≤ d then 30000000 else max 500000 (d / 2 / 10000 * 10000)

/-! Angles (R316) -/

/-- 2^−64 fixed point. -/
def fxA : Nat := 2 ^ 64

/-- The arc tangent of `z` in 2^−64, |z| below 1/4, by its series. -/
def atanSeries (z zz : Int) : Nat → Int → Int
  | 0, _ => 0
  | n + 1, k => z / k - atanSeries (z * zz / fxA) zz n (k + 2)

/-- Half the angle: the tangent of half the angle whose tangent is `z` (2^−64). -/
def halfTan (z : Int) : Int :=
  let h := (isqrt ((fxA : Int) * fxA + z * z).toNat 66 0 : Nat)
  z * fxA / (fxA + h)

/-- The arc tangent of `z` in [0, 1], in 2^−64 rad. -/
def atanUnit (z : Int) : Int :=
  let y := halfTan (halfTan z)
  4 * atanSeries y (y * y / fxA) 16 1

/-- The angle of (c, s) in degrees, from −180 to 180. -/
def angleDeg (c s : Rat) : Rat :=
  let a := if c < 0 then -c else c
  let b := if s < 0 then -s else s
  let quarter := atanUnit fxA
  let base : Rat :=
    if a = 0 && b = 0 then 0
    else if b ≤ a then mkRat (atanUnit (b / a * fxA).floor * 45) quarter.toNat
    else 90 - mkRat (atanUnit (a / b * fxA).floor * 45) quarter.toNat
  let q := if c < 0 then 180 - base else base
  if s < 0 then -q else q

namespace Dev

def modMtr (s : Dev) (f : Mtr → Mtr) : Dev := s.putMtr (f s.mtr)

/-! Registers (R309, R312, R313) -/

/-- R312, R313: show the register and the wrap counter of a quantity. -/
def showEnergy (s : Dev) (q : Nat) : Dev :=
  let e : Int := (s.mtr.acc.toList.getD q 0) / (q32 : Int)
  let net := (decide (q < 16) && q % 8 == 6) || (decide (16 ≤ q) && q % 4 == 2)
  let s := s.set64 (MTR_E_LO q) (BitVec.ofInt 64 e)
  if net then s
  else
    let w := e.toNat / 10 ^ 15
    let old := s.get (MTR_E_WRAP_WRAP q)
    (s.set (MTR_E_WRAP_WRAP q) w).when (old != w) (·.post EV_MTR_REGISTER_WRAP (leBytes 1 q))

/-- R310, R318: add to an accumulator, and to what each pulse output that takes it has gathered. -/
def book (s : Dev) (q : Fin 80) (x : Int) : Dev :=
  let s := s.modMtr (fun m => { m with acc := vupd m.acc q (· + x) })
  let s := s.forEach (idx 4) (fun k s =>
    if s.flag (MTR_PLS_CFG_EN k) && s.get (MTR_PLS_CFG_SRC k) == q.val && decide (0 < x) then
      s.modMtr (fun m => { m with pulses := vupd m.pulses k (fun p => { p with acc := p.acc + x.toNat }) })
    else s)
  s.showEnergy q

/-- R310: book a block's energy to import or export, and to NET. -/
def bookSigned (s : Dev) (qImp qExp qNet : Fin 80) (e : Int) : Dev :=
  let s := if 0 < e then s.book qImp e else if e < 0 then s.book qExp (-e) else s
  s.book qNet e

/-! Heads (R306, R307) -/

/-- R306, R307: a head's block that ends at `b`; none where it is not usable. -/
def headBlock (s : Dev) (h : Fin 48) (b : Nat) : Option HeadBlock :=
  let want := [b - 1000000, b - 750000, b - 500000, b - 250000]
  let frames := want.filterMap (fun t => s.mtr.frames[h].find? (fun f => f.dt == t))
  if frames.length = 4 && decide (1000000 ≤ b) && frames.all (fun f => decide (f.got ≤ b + us 100) && !f.spoilt) then
    let gv := F32.toRat (s.rd (MTR_HEAD_GAIN_V h))
    let gi := F32.toRat (s.rd (MTR_HEAD_GAIN_I h))
    let ov := (s.rd (MTR_HEAD_OFS_V h)).toInt
    let oi := (s.rd (MTR_HEAD_OFS_I h)).toInt
    let sums := (frames.flatMap (·.samples)).foldl (fun (a : Int × Int × Int) q =>
      (a.1 + (q.1 - ov), a.2.1 + (q.2 - oi), a.2.2 + (q.1 - ov) * (q.2 - oi))) (0, 0, 0)
    some { u := ratQ32 (gv * sums.1 / 32), i := ratQ32 (gi * sums.2.1 / 32), e := ratQ32 (gv * gi * sums.2.2 / 115200) }
  else none

/-! Grid points (R304, R305, R308, R311) -/

/-- R304: channel `j` (0 to 3 voltages, 4 to 7 currents) of grid point `g`. -/
def gpChannel (g j : Nat) : Nat := if j < 4 then 4 * g + j else 8 + 4 * g + (j - 4)

/-- R305: the factor of a channel. -/
def chScale (s : Dev) (c : Nat) : Rat := F32.toRat (s.rd (MTR_CH_RATIO c)) * F32.toRat (s.rd (MTR_CH_GAIN c)) * kStep

/-- R305: sample `k` of the block on channel `c`, delayed by `back` ns. -/
def chSample (s : Dev) (c : Nat) (codes : List Int) (base k : Nat) (back : Rat) : Rat :=
  let phase : Int := (s.rd (MTR_CH_PHASE c)).toInt
  let ofs : Int := (s.rd (MTR_CH_OFS c)).toInt
  s.chScale c * (sampleAt codes ((base + k : Nat) - ((phase : Rat) + back) / 31250) - ofs)

/-- R308, R315: T1 in ns: from the last window, or the nominal period while FREQ_UNLOCKED is set or no window has ended. -/
def period1 (s : Dev) (g : Nat) : Rat :=
  let f := s.get (MTR_GP_FREQ_F g)
  if s.flag (MTR_GP_STATUS_FREQ_UNLOCKED g) || f = 0 then (if s.flag MTR_CFG_FNOM then mkRat 1000000000 60 else 20000000)
  else mkRat (10 ^ 12) f

/-- R310: the sum of the squares of a channel's block. -/
def channelSquares (s : Dev) (c : Nat) (codes : List Int) : Rat :=
  let h := s.mtr.hist.toList.getD c []
  let all := h ++ codes
  (List.range 32).foldl (fun a k => let v := s.chSample c all h.length k 0; a + v * v) 0

/-- R309: RMS, OVR and SELF_FAIL of each channel of a point. -/
def channelBlock (s : Dev) (g : Nat) (x : GpSamples) (j : Nat) : Dev :=
  let c := gpChannel g j
  let codes := x.codes.getD j []
  let ovr := (codes.take 32).any overRange
  let was := s.flag (MTR_CH_STATUS_OVR c)
  let s := s.wr (MTR_CH_RMS c) (sqrtF32 (s.channelSquares c codes / 32))
  let s := (s.setb (MTR_CH_STATUS_OVR c) ovr).setb (MTR_CH_STATUS_SELF_FAIL c) (x.selfFail.getD j false)
  s.when (ovr && !was) (·.post EV_MTR_OVER_RANGE (leBytes 1 c))

/-- R311: a lost point and its return. -/
def gridVoltage (s : Dev) (g : Fin 2) : Dev :=
  let vnom : Rat := s.get (MTR_GP_CFG_VNOM g)
  let rms := fun (j : Nat) => F32.toRat (s.rd (MTR_CH_RMS (gpChannel g j)))
  let low := (List.range 3).any (fun j => decide (rms j * 100 < vnom * s.get (MTR_GP_CFG_LOST_PCT g)))
  let good := (List.range 3).all (fun j => decide (vnom * s.get (MTR_GP_CFG_RET_PCT g) ≤ rms j * 100))
  let s := s.modMtr (fun m =>
    { m with
      lowRun := vupd m.lowRun g (fun n => if low then min 20 (n + 1) else 0)
      goodRun := vupd m.goodRun g (fun n => if good then min 100 (n + 1) else 0) })
  let lost := s.flag (MTR_GP_STATUS_LOST g)
  let show_ := fun (s : Dev) (b : Bool) => (s.setb (MTR_GP_STATUS_LOST g) b).set ⟨MTR_STATUS, g, g⟩ b.toNat
  if !lost && s.mtr.lowRun[g] = 20 then (show_ s true).post EV_MTR_GRID_LOST
  else if lost && s.mtr.goodRun[g] = 100 then (show_ s false).post EV_MTR_GRID_RETURNED
  else s

/-- Keep the newest codes of every channel of a point. -/
def keepCodes (s : Dev) (g : Nat) (x : GpSamples) : Dev :=
  s.forEach (List.range 8) (fun j s =>
    let c : Fin 16 := Fin.ofNat 16 (gpChannel g j)
    s.modMtr (fun m => { m with hist := vupd m.hist c (fun l =>
      let n := l ++ (x.codes.getD j []).take 32
      n.drop (n.length - 200)) }))

/-- R325: an invalid block of grid point `g` adds its rated energy to the gap. -/
def gridGap (s : Dev) (g : Fin 2) : Dev :=
  let told := s.mtr.gapTold[g]
  let s := s.set64 (MTR_GP_GAP_LO g) (s.get64 (MTR_GP_GAP_LO g) + BitVec.ofNat 64 ((5 * s.get (MTR_GP_RATED_P_RATED g) + 17) / 18))
  let s := (s.latch MTR_STATUS_GAP).modMtr (fun m => { m with gapTold := m.gapTold.set g true })
  s.when (!told) (·.post EV_MTR_BLOCK_GAP (leBytes 1 g))

/-- R309, R310: a valid block of grid point `g`: its powers and its energies, from the sums of the products over 32 samples. -/
def gridEnergy (s : Dev) (g : Fin 2) (sums : Rat × Rat) : Dev :=
  let s := s.modMtr (fun m => { m with gapTold := m.gapTold.set g false })
  let s := (s.wr (MTR_GP_P g) (BitVec.ofInt 32 (sums.1 / 32 + 1 / 2).floor)).wr (MTR_GP_Q g) (BitVec.ofInt 32 (sums.2 / 32 + 1 / 2).floor)
  let q := fun (j : Nat) => (Fin.ofNat 80 (qGrid g j) : Fin 80)
  let s := s.bookSigned (q 0) (q 1) (q 6) (ratQ32 (sums.1 / 115200))
  let eq := ratQ32 (sums.2 / 115200)
  if 0 < eq then s.book (q 2) eq else if eq < 0 then s.book (q 3) (-eq) else s

/-- R308 to R311: one block of grid point `g`. -/
def gridBlock (s : Dev) (g : Fin 2) (x : GpSamples) : Dev :=
  if !s.flag (MTR_GP_CFG_EN g) then s.keepCodes g x
  else
    let all := fun (j : Nat) => (s.mtr.hist.toList.getD (gpChannel g j) []) ++ x.codes.getD j []
    let base := fun (j : Nat) => (s.mtr.hist.toList.getD (gpChannel g j) []).length
    let quarter := s.period1 g / 4
    let sums : Rat × Rat := (List.range 3).foldl (fun a l =>
      (List.range 32).foldl (fun (a : Rat × Rat) k =>
        let i := s.chSample (gpChannel g (4 + l)) (all (4 + l)) (base (4 + l)) k 0
        let v := s.chSample (gpChannel g l) (all l) (base l) k 0
        let vq := s.chSample (gpChannel g l) (all l) (base l) k quarter
        (a.1 + v * i, a.2 + vq * i)) a) (0, 0)
    let invalid := [0, 1, 2, 4, 5, 6].any (fun j => x.selfFail.getD j false) || s.testRuns 0x07 (leBytes 1 g) || s.testRuns 0x0C
    let ovr := (x.codes.map (·.take 32)).any (fun l => l.any overRange)
    let s := s.forEach (List.range 8) (fun j s => s.channelBlock g x j)
    let s := s.setb (MTR_GP_STATUS_LAST_VALID g) (!invalid)
    let p : Int := (sums.1 / 32 + 1 / 2).floor
    let s := s.modMtr (fun m => { m with
      gpBlocks := vupd m.gpBlocks g (fun l => ((if invalid then none else some p) :: l).take 10) })
    let s := if invalid then s.gridGap g else s.gridEnergy g sums
    let s := s.when ovr (fun s => (s.bump (MTR_GP_OVR_CNT g)).latch MTR_STATUS_OVR)
    (s.gridVoltage g).keepCodes g x

/-! Harmonics (R315 to R317) -/

/-- R316: the squared magnitude of order `h`. -/
def orderSquare (grouped : Bool) (per : Nat) (bins : List (Word × Word)) (h : Nat) : Rat :=
  let sq := fun (k : Nat) =>
    let b := bins.getD k (0, 0)
    F32.toRat b.1 * F32.toRat b.1 + F32.toRat b.2 * F32.toRat b.2
  if grouped then sq (per * h - 1) + sq (per * h) + sq (per * h + 1) else sq (per * h)

/-- An angle brought into [−180, 180). -/
def wrapDeg (x : Rat) : Rat := x - 360 * ((x + 180) / 360).floor

/-- R315: the measured frequency is outside the range that keeps windows on the fundamental. -/
def freqOff (s : Dev) (mHz : Nat) : Bool :=
  if s.flag MTR_CFG_FNOM then decide (mHz < 51000) || decide (69000 < mHz) else decide (mHz < 42500) || decide (57500 < mHz)

/-- R316: the magnitudes, phases and distortion of channel `j` of grid point `g`. -/
def harmChannel (s : Dev) (g : Fin 2) (j : Nat) (w : HarmWindow) (per : Nat) (grouped : Bool) (ref : Rat) : Dev :=
  let c := gpChannel g j
  let bins := w.bins.getD j []
  let s := (s.wr (MTR_HARM_MAG (64 * c)) (w.rms.getD j 0)).wr (MTR_HARM_PH (64 * c)) (F32.ofFrac w.mHz 1000)
  let s := s.forEach (List.range 63) (fun k s =>
    let h := k + 1
    let b := bins.getD (per * h) (0, 0)
    (s.wr (MTR_HARM_MAG (64 * c + h)) (sqrtF32 (orderSquare grouped per bins h))).wr (MTR_HARM_PH (64 * c + h))
      (F32.ofRat (wrapDeg (angleDeg (F32.toRat b.1) (F32.toRat b.2) - ref))))
  let one := orderSquare grouped per bins 1
  let rest : Rat := (List.range 62).foldl (fun a k => a + orderSquare grouped per bins (k + 2)) 0
  s.wr (MTR_CH_THD c) (if one = 0 then (if rest = 0 then 0 else F32.inf false) else sqrtF32 (rest / one))

/-- R317: the fundamental's energy is booked. -/
def bookOrder (s : Dev) (g : Fin 2) (e : Int) : Dev :=
  if 0 < e then s.book (Fin.ofNat 80 (qGrid g 4)) e else if e < 0 then s.book (Fin.ofNat 80 (qGrid g 5)) (-e) else s

/-- R315: the instant at which a window of `len` ns ends: `off` puts it on a multiple of 200 ms, otherwise it follows the one before. -/
def harmWindowEnd (s : Dev) (g : Fin 2) (off : Bool) (len : Nat) : Nat :=
  if off then s.nextMultiple (ms 200) (s.ticked (.window g))
  else match s.ticked (.window g) with
    | some t => max s.dt (t + len)
    | none => s.dt

/-- R315 to R317: a harmonic window of grid point `g` ends. -/
def harmonics (s : Dev) (g : Fin 2) (w : HarmWindow) : Dev :=
  if !s.flag (MTR_GP_CFG_EN g) then s
  else
    let per : Nat := if s.flag MTR_CFG_FNOM then 12 else 10
    let off := s.freqOff w.mHz
    let was := s.flag (MTR_GP_STATUS_FREQ_UNLOCKED g)
    let len : Rat := if was || off then 200000000 else mkRat (per * 10 ^ 12) w.mHz
    let s := s.tickAt (.window g) (s.harmWindowEnd g (was || off) len.floor.toNat)
    let bin := fun (j h : Nat) => (w.bins.getD j []).getD (per * h) (0, 0)
    let ref := angleDeg (F32.toRat (bin 0 1).1) (F32.toRat (bin 0 1).2)
    let grouped := s.flag MTR_CFG_HGRP
    let s := s.forEach (List.range 8) (fun j s => s.harmChannel g j w per grouped ref)
    let p1 : Rat := (List.range 3).foldl (fun a l =>
      let v := bin l 1
      let i := bin (4 + l) 1
      a + F32.toRat v.1 * F32.toRat i.1 + F32.toRat v.2 * F32.toRat i.2) 0
    let s := s.bookOrder g (ratQ32 (p1 * len / 3600000000))
    let s := (s.wr (MTR_GP_FREQ g) (BitVec.ofNat 32 w.mHz)).setb (MTR_GP_STATUS_FREQ_UNLOCKED g) off
    (s.bump MTR_HARM_SEQ).when (off && !was) (·.post EV_MTR_FREQ_UNLOCKED)

/-! Pulse outputs (R318 to R320) -/

def modPulse (s : Dev) (k : Fin 4) (f : PulseSt → PulseSt) : Dev := s.modMtr (fun m => { m with pulses := vupd m.pulses k f })

/-- R319, R320: one pulse falls due. -/
def pulseDue (s : Dev) (k : Fin 4) : Dev :=
  let p := s.mtr.pulses[k]
  let w := pulseWidth (p.lastDue.map (fun t => s.dt - t))
  let n := p.due.length
  if 4096 ≤ n then
    let was := s.flag (MTR_PLS_STATUS_OVERFLOW k)
    let s := (s.modPulse k (fun p => { p with lastDue := some s.dt })).bump (MTR_PLS_LOST k)
    let s := (s.latch (MTR_PLS_STATUS_OVERFLOW k)).latch MTR_STATUS_PLS
    s.when (!was) (·.post EV_MTR_PULSE_OVERFLOW)
  else
    let s := s.modPulse k (fun p =>
      { p with
        lastDue := some s.dt
        due := p.due ++ [w] })
    let s := s.set (MTR_PLS_STATUS_PENDING k) (n + 1)
    if n + 1 = 16 then
      let was := s.flag (MTR_PLS_STATUS_BACKLOG k)
      ((s.latch (MTR_PLS_STATUS_BACKLOG k)).latch MTR_STATUS_PLS).when (!was) (·.post EV_MTR_PULSE_BACKLOG)
    else s

/-- R318: the energy of one pulse of an output, in accumulator units. -/
def pulseUnit (s : Dev) (k : Fin 4) : Nat := max 1 (s.get (MTR_PLS_CONST_CONST k)) * q32

/-- R318: the pulses of one output that fall due at a commit tick. -/
def pulsesOf (s : Dev) (k : Fin 4) : Dev :=
  let s1 := s.modPulse k (fun p => { p with acc := p.acc % s.pulseUnit k })
  s1.forEach (List.range (s.mtr.pulses[k].acc / s.pulseUnit k)) (fun _ s => s.pulseDue k)

/-- R318: the pulses that fall due at a commit tick. -/
def pulsesDue (s : Dev) : Dev := s.forEach (idx 4) (fun k s => s.pulsesOf k)

/-- R319: the pulse waiting longest starts. -/
def pulseStart (s : Dev) (k : Fin 4) : Dev :=
  let p := s.mtr.pulses[k]
  match p.due with
  | [] => s
  | w :: rest =>
    if p.active then s
    else
      let s := match p.lastStart with
        | some (t, v) => s.reach (t + max (2 * v) (ms 1))
        | none => s
      (s.modPulse k (fun p =>
        { p with
          due := rest
          lastStart := some (s.dt, w)
          active := true })).set (MTR_PLS_STATUS_PENDING k) rest.length

/-- R319: a pulse ends. -/
def pulseEnd (s : Dev) (k : Fin 4) : Dev :=
  match s.mtr.pulses[k].lastStart with
  | some (t, w) => (s.reach (t + w)).modPulse k (fun p => { p with active := false })
  | none => s

/-- R318: an output that is enabled starts afresh. -/
def pulseEnable (s : Dev) (k : Fin 4) : Dev :=
  (s.modPulse k (fun _ => ⟨0, [], none, none, false⟩)).set (MTR_PLS_STATUS_PENDING k) 0

/-! Saves (R321, R322) -/

/-- R321: the highest |E| ÷ 1 ms of the last 100 blocks of an outlet, in W, rounded up. -/
def pSave (s : Dev) (n : Fin 16) : Nat :=
  let e := s.mtr.blocks[n].foldl max 0
  (e * 3600 + q32 - 1) / q32

/-- R321: the contents of a save record now. -/
def saveRecord (s : Dev) : SaveRec where
  seq := s.mtr.nextSeq
  epoch := s.rd GEN_EPOCH
  dt := s.dt
  utc := s.utcNow
  utcValid := s.utcValid
  acc := s.mtr.acc.toList
  tar := s.bil.tar.toList
  l0 := s.bil.l0
  gaps := (List.range 2).map (fun g => (s.get64 (MTR_GP_GAP_LO g)).toNat) ++ (List.range 16).map (fun n => (s.get64 (TRI_OUT_GAP_LO n)).toNat)
  pSave := (idx 16).map (fun n => s.pSave n)
  energised := (List.range 16).map (fun n => s.energised n)
  open_ := (List.range 16).map (fun n => s.sessOpen n)
  up := s.get ALC_RAMP_UP

def slotBad (s : Dev) (k : Nat) : Bool := (s.get MTR_SAVE_STATUS_BAD_SLOTS).testBit k

/-- R321: the next good slot after the last one used. -/
def nextSlot (s : Dev) : Option Nat :=
  ((List.range 16).map (fun d => (s.mtr.lastSlot + 1 + d) % 16)).find? (fun k => !s.slotBad k)

/-- R321: start writing a save record. -/
def startSave (s : Dev) : Dev :=
  match s.nextSlot with
  | none => s
  | some k => s.modMtr (fun m =>
      { m with
        saving := m.saving ++ [(k, s.saveRecord)]
        nextSeq := m.nextSeq + 1
        lastSlot := k })

/-- R322: the number of good slots. -/
def goodSlots (s : Dev) : Nat := ((List.range 16).filter (fun k => !s.slotBad k)).length

/-- R321, R322: the oldest save in progress ends. -/
def endSave (s : Dev) (good : Bool) : Dev :=
  match s.mtr.saving with
  | [] => s
  | (k, r) :: rest =>
    let i : Fin 16 := Fin.ofNat 16 k
    let failedBefore := s.mtr.slots[i].failed
    let s := s.modMtr (fun m =>
      { m with
        saving := rest
        slots := m.slots.set i ⟨if good then some r else none, good, !good⟩ })
    if good then
      let s := ((s.set64 MTR_SAVE_SEQ_LO (BitVec.ofNat 64 r.seq)).set MTR_SAVE_STATUS_LAST_SLOT k).set MTR_SAVE_STATUS_FAILS 0
      s.setb MTR_STATUS_SAVE_FAILED (s.flag MTR_STATUS_SAVE_FAULT)
    else
      let s := ((s.incSat MTR_SAVE_STATUS_FAILS).setb MTR_STATUS_SAVE_FAILED true).post EV_MTR_SAVE_FAIL (leBytes 1 k)
      let s := s.when failedBefore (fun s => s.set MTR_SAVE_STATUS_BAD_SLOTS (s.get MTR_SAVE_STATUS_BAD_SLOTS ||| 2 ^ k))
      if s.goodSlots < 8 && !s.flag MTR_STATUS_SAVE_FAULT then (s.setb MTR_STATUS_SAVE_FAULT true).post EV_MTR_SAVE_FAULT else s

/-- R322, R325, R275: the last save counts as failed. -/
def saveFailed (s : Dev) : Bool := s.flag MTR_STATUS_SAVE_FAILED || s.flag MTR_STATUS_LOSS_UNBOUNDED

end Dev

/-! The commands -/

/-- R319: PULSE_START. -/
def effPulseStart (k : Fin 4) (s : Dev) : Dev := s.pulseStart k

def execPulseStart (k : Fin 4) (s : State) : Host.Outcome State Fault Refusal := s.onRun (effPulseStart k)

/-- R319: PULSE_END. -/
def effPulseEnd (k : Fin 4) (s : Dev) : Dev := s.pulseEnd k

def execPulseEnd (k : Fin 4) (s : State) : Host.Outcome State Fault Refusal := s.onRun (effPulseEnd k)

/-- R316: HARMONIC_WINDOW_END. -/
def effHarmonicWindowEnd (g : Fin 2) (w : HarmWindow) (s : Dev) : Dev := s.harmonics g w

def execHarmonicWindowEnd (g : Fin 2) (w : HarmWindow) (s : State) : Host.Outcome State Fault Refusal := s.onRun (effHarmonicWindowEnd g w)

/-- R321: PERIODIC_SAVE. -/
def effPeriodicSave (s : Dev) : Dev := (s.tick .save (Dev.ms 100)).startSave

def execPeriodicSave (s : State) : Host.Outcome State Fault Refusal := s.onRun effPeriodicSave

/-- R322: SAVE_COMMIT_CHECK. -/
def effSaveCommitCheck (good : Bool) (s : Dev) : Dev := s.endSave good

def execSaveCommitCheck (good : Bool) (s : State) : Host.Outcome State Fault Refusal := s.onRun (effSaveCommitCheck good)

end Sys2Proof.Machine
end

