-- ==== Sys2Proof/Machine/Tariff.lean ====
section
/-! DEFINITION. Tariff time, the calendar and the scheduled boundaries of billing (R351, R352, R354, R357). Instants of legal time are in
ms, minutes are counted from 1970-01-01T00:00Z. -/

namespace Sys2Proof.Machine

/-- A field of a settings word. -/
def cfgBits (w : Word) (f : Field) : Nat := Dev.bitsOf w f.hi f.lo

/-- R351: STD_OFS in minutes. -/
def stdOfs (c : TariffCfg) : Int := (c.tz.extractLsb' 16 16).toInt

/-- R351: DST_OFS in minutes. -/
def dstOfs (c : TariffCfg) : Nat := cfgBits c.tz BIL_TZ_DST_OFS

/-- R351: the UTC minutes of the daylight changes that may be the last before a minute of a year: (minute, begins). -/
def dstChanges (c : TariffCfg) (year : Nat) : List (Nat × Bool) :=
  [(dstMinute c.dstBegin (year - 1), true), (dstMinute c.dstEnd (year - 1), false),
   (dstMinute c.dstBegin year, true), (dstMinute c.dstEnd year, false)]

/-- R351: daylight time is in force at a UTC minute: the last rule instant was a beginning. -/
def dstOn (c : TariffCfg) (m : Nat) : Bool :=
  if !(cfgBits c.tz BIL_TZ_DST_EN == 1) then false
  else
    let l := (dstChanges c (Date.ofDays (m / 1440)).year).filter (fun x => decide (x.1 ≤ m))
    (l.foldl (fun (best : Nat × Bool) x => if best.1 ≤ x.1 then x else best) (0, false)).2

/-- R351: tariff time of a UTC minute, in minutes. -/
def tariffTime (c : TariffCfg) (m : Nat) : Nat := ((m : Int) + stdOfs c + (if dstOn c m then dstOfs c else 0)).toNat

/-- R352: the day profile of a date. -/
def dayProfile (cal : Calendar) (day : Nat) : Option (List (Nat × Nat)) :=
  let x := Date.ofDays day
  let fits := fun (q : Option Nat × Nat × Nat × Nat) => q.2.1 == x.month && q.2.2.1 == x.day
  let k : Option Nat :=
    match cal.specials.find? (fun q => q.1 == some x.year && fits q) with
    | some q => some q.2.2.2
    | none =>
      match cal.specials.find? (fun q => q.1.isNone && fits q) with
      | some q => some q.2.2.2
      | none =>
        let key := fun (q : Nat × Nat × List Nat) => q.1 * 32 + q.2.1
        let asc := sortBy (fun a b => decide (key a ≤ key b)) cal.seasons
        let season := match (asc.filter (fun q => decide (key q ≤ x.month * 32 + x.day))).getLast? with
          | some q => some q
          | none => asc.getLast?
        season.bind (fun q => q.2.2[Date.weekday day]?)
  k.bind (fun i => cal.profiles[i]?)

/-- The tariff of the last switching point of a profile at or before a minute of the day. -/
def lastPoint (p : List (Nat × Nat)) (minute : Nat) : Option Nat :=
  ((p.filter (fun q => decide (q.1 ≤ minute))).foldl (fun (best : Option (Nat × Nat)) q =>
    match best with
    | some b => if b.1 ≤ q.1 then some q else best
    | none => some q) none).map (·.2)

/-- R352: the tariff (0 to 7) at a minute of tariff time; where the calendar names none, a free value. -/
def calTariff (cal : Calendar) (t : Nat) : Nat :=
  let day := t / 1440
  let found : Option Nat :=
    match (dayProfile cal day).bind (fun p => lastPoint p (t % 1440)) with
    | some x => some x
    | none => (dayProfile cal (day - 1)).bind (fun p => lastPoint p 1439)
  match found with
  | some x => (x - 1) % 8
  | none => Config.freeTariff t % 8

/-- R354: SUB in minutes. -/
def subMinutes (c : TariffCfg) : Nat := [1, 5, 10, 15, 30, 60].getD (cfgBits c.cfg BIL_CFG_SUB) 60

/-- R354: DI in minutes. -/
def diMinutes (c : TariffCfg) : Nat := [5, 10, 15, 30, 60].getD (cfgBits c.cfg BIL_CFG_DI) 60

/-- R357: the UTC minute at which tariff time first reaches a minute: the first occurrence of a repeated one, and the end of the skipped
time for a skipped one. -/
def firstReach (c : TariffCfg) (t : Nat) : Nat :=
  let u0 := ((t : Int) - stdOfs c).toNat
  let u1 := u0 - dstOfs c
  if dstOn c u1 then u1
  else if !dstOn c u0 then u0
  else
    let l := (dstChanges c (Date.ofDays (u0 / 1440)).year).filter (fun x => x.2 && decide (u1 < x.1) && decide (x.1 ≤ u0))
    (l.foldl (fun a x => max a x.1) u1)

/-- R357: the scheduled period boundaries in (a, b], in legal ms. -/
def scheduled (c : TariffCfg) (a b : Nat) : List Nat :=
  let mode := cfgBits c.cfg BIL_CFG_PMODE
  if 1 < mode then []
  else
    let d0 := a / 86400000 - 2
    let days := (List.range (b / 86400000 + 3 - d0)).map (d0 + ·)
    let days := if mode = 0 then days.filter (fun d => (Date.ofDays d).day == cfgBits c.cfg BIL_CFG_PDAY) else days
    let at_ := days.map (fun d => 60000 * firstReach c (d * 1440 + cfgBits c.cfg BIL_CFG_PMIN))
    at_.filter (fun u => decide (a < u) && decide (u ≤ b))

/-- R354: the sub-interval ends in (a, b], in legal ms, the first `n` of them. -/
def subEnds (c : TariffCfg) (n a b : Nat) : List Nat :=
  let p := subMinutes c * 60000
  ((List.range (min n ((b - a) / p + 1))).map (fun k => (a / p + 1 + k) * p)).filter (fun u => decide (u ≤ b))

namespace Dev

/-- R26, R34: the device time at which legal time reaches `u` ms, by the pair, the RTC rate and a running
slew. -/
def dtOfUtc (s : Dev) (u : Nat) : Nat :=
  match s.gen.pair with
  | none => s.dt
  | some (_, u0) =>
    let x := (u - u0) * 1000000
    let span := match s.bil.slew with
      | none => x
      | some w =>
        let l := w.left.natAbs * 1000000
        if w.left < 0 then (if x ≤ 99 * l then (x * 100 + 98) / 99 else x + l)
        else if x ≤ 101 * l then (x * 100 + 100) / 101
        else x - l
    let rate := 1000000000 + s.gen.rtcPpb
    ((s.gen.rtcAt : Int) + (((span : Int) - s.gen.rtcCount) * 1000000000 + rate - 1) / rate).toNat

/-- R352, R353: the tariff index (0 to 7 T1 to T8, 8 TDEF) at a legal instant, of the minute that begins at or before it. -/
def tariffAt (s : Dev) (u : Nat) : Nat :=
  if !s.utcValid then 8
  else if cfgBits s.bil.cfg.cfg BIL_CFG_CAL_EN = 0 then 0
  else calTariff s.bil.cfg.cal (tariffTime s.bil.cfg (u / 60000))

/-- R26, R359: the tariff index of a block that ends at the legal instant `u`; intervals are half-open. -/
def tariffOfEnd (s : Dev) (u : Nat) : Nat := s.tariffAt (u - 1)

/-- BIL_STATUS.TARIFF shows the tariff in force; TARIFF_SWITCH is posted when it changes. -/
def showTariff (s : Dev) : Dev :=
  let t := if s.flag BIL_STATUS_RUN then s.tariffAt s.utcNow + 1 else 0
  let old := s.get BIL_STATUS_TARIFF
  (s.set BIL_STATUS_TARIFF t).when (old != t && old != 0 && t != 0) (·.post EV_BIL_TARIFF_SWITCH)

end Dev

end Sys2Proof.Machine
end

