-- ==== Sys2Proof/Machine/Billing.lean ====
section
/-! DEFINITION. Billing (R348 to R365, R371 to R373): tariff registers, demand, billing periods, legal time and the tampers of sensors. -/

namespace Sys2Proof.Machine

/-- R355: demand marks. -/
def dmShort : Nat := 1
def dmPartial : Nat := 2
def dmOutage : Nat := 4
def dmTimeInvalid : Nat := 8
def dmSkipped : Nat := 16

/-- R358: period marks. -/
def pmCommand : Nat := 1
def pmSuspended : Nat := 2
def pmSetback : Nat := 4
def pmSkipped : Nat := 8
def pmSkippedMany : Nat := 16
def pmOutage : Nat := 32
def pmTimeInvalid : Nat := 64
def pmLoss : Nat := 128

/-- R349: the source register of a billed quantity. -/
def tariffSource (fund b : Nat) : Nat :=
  if b < 8 then
    let g := b / 4
    let j := b % 4
    8 * g + (if j < 2 && fund.testBit g then j + 4 else j)
  else 16 + 4 * ((b - 8) / 2) + b % 2

/-- R354: the active-energy register of a demand quantity. -/
def demandSource (d : Nat) : Nat := if d < 4 then 8 * (d / 2) + d % 2 else 16 + 4 * (d - 4)

namespace Dev

/-! Tariff registers (R349, R350) -/

/-- R349: show a tariff register and its wrap counter. -/
def showTariffReg (s : Dev) (b i : Nat) : Dev :=
  let e := ((s.bil.tar.toList.getD (9 * b + i) 0) / 2 ^ 32).toNat
  (s.set64 (BIL_TAR_E_LO b i) (BitVec.ofNat 64 e)).set (BIL_TAR_WRAP_WRAP b i) (e / 10 ^ 15)

/-- R350: what an accumulator has grown by since it was last booked. -/
def grown (s : Dev) (q : Nat) : Int := s.mtr.acc.toList.getD q 0 - s.bil.seen.toList.getD q 0

/-- R350, R354: book what the source registers have grown by to the tariff `i` and to the running sub-interval. -/
def bookGrowth (s : Dev) (i : Nat) : Dev :=
  let fund := cfgBits s.bil.cfg.cfg BIL_CFG_FUND_SEL
  let any := (List.range 40).any (fun b => s.grown (tariffSource fund b) != 0)
  let s := s.forEach (List.range 40) (fun b s =>
    let x := s.grown (tariffSource fund b)
    if x = 0 then s
    else (s.modBil (fun v => { v with tar := vupd v.tar (Fin.ofNat 360 (9 * b + i)) (· + x) })).showTariffReg b i)
  let s := s.modBil (fun v => { v with
    demand := Vector.ofFn (fun (d : Fin 20) => let x := v.demand[d]; { x with energy := x.energy + s.grown (demandSource d) }) })
  s.when (any && i == 8) (fun s => s.modBil (fun v => { v with periodMarks := v.periodMarks ||| pmTimeInvalid }))

/-! Demand (R354 to R356) -/

/-- R354: the running sub-interval starts now with the marks `m`, up to the next aligned end, or for SUB in DT while legal time is
invalid. -/
def startSub (s : Dev) (m : Nat) : Dev :=
  let p := subMinutes s.bil.cfg * 60000
  let v := s.utcValid
  let e := if v then (s.utcNow / p + 1) * p else s.dt + ms p
  let m := if v then m else m ||| dmTimeInvalid
  s.modBil (fun b =>
    { b with
      subEnd := some e
      subValid := v
      demand := b.demand.map (fun d =>
        { d with
          energy := 0
          marks := m }) })

/-- R355: one demand value is shown and compared with the maximum of tariff index `i`. -/
def putDemand (s : Dev) (d : Fin 20) (i utcSec value marks : Nat) : Dev :=
  let s := (s.set (BIL_DNOW_VALUE_VALUE d) value).set (BIL_DNOW_MARKS_VALUE d) marks
  if s.get (BIL_DMAX_VALUE_VALUE d i) < value then
    ((s.set (BIL_DMAX_VALUE_VALUE d i) value).set (BIL_DMAX_UTC_UTC d i) utcSec).set (BIL_DMAX_MARKS_MARKS d i) marks
  else s

/-- R354, R355: the running sub-interval closes with the further marks `m` at the legal instant `u`; every demand value is formed, marked
and compared. -/
def closeSub (s : Dev) (i u m : Nat) : Dev :=
  let di := diMinutes s.bil.cfg
  let n := di / max 1 (subMinutes s.bil.cfg)
  s.forEach (idx 20) (fun d s =>
    let x := s.bil.demand[d]
    let w := ((x.energy, x.marks ||| m) :: x.window).take n
    let sum := w.foldl (fun a e => a + e.1) (0 : Int)
    let value := (sum * 60 / ((di * 1000 * 2 ^ 32 : Nat) : Int)).toNat
    let marks := w.foldl (fun a e => a ||| e.2) (if w.length < n then dmPartial else 0)
    let s := s.modBil (fun b => { b with demand := vupd b.demand d (fun _ => ⟨w, 0, 0⟩) })
    s.putDemand d i (u / 1000) value marks)

/-- R356, R362, R363, R365: the window is cleared. -/
def clearWindows (s : Dev) : Dev :=
  s.modBil (fun b => { b with demand := b.demand.map (fun d => { d with window := [] }) })

/-- R354: the running sub-interval ends at its aligned end `e`, in legal ms. -/
def endSubValid (s : Dev) (e : Nat) : Dev :=
  (s.closeSub (s.tariffOfEnd e) e 0).modBil (fun b => { b with subEnd := some (e + subMinutes b.cfg * 60000) })

/-- R356: the running sub-interval ends at the device time `e`, legal time being invalid. -/
def endSubInvalid (s : Dev) (e : Nat) : Dev :=
  (s.closeSub 8 s.utcNow dmTimeInvalid).modBil (fun b =>
    { b with
      subEnd := some (e + ms (subMinutes b.cfg * 60000))
      demand := b.demand.map (fun d => { d with marks := dmTimeInvalid }) })

/-! Billing periods (R357, R358) -/

/-- The triad gaps of all outlets. -/
def gapSum (s : Dev) : Nat := (List.range 16).foldl (fun a n => a + (s.get64 (TRI_OUT_GAP_LO n)).toNat) 0

/-- R358: the demand maxima of the open period: value, UTC, marks. -/
def maximaNow (s : Dev) : List (Nat × Nat × Nat) :=
  (List.range 20).flatMap (fun d => (List.range 9).map (fun i =>
    (s.get (BIL_DMAX_VALUE_VALUE d i), s.get (BIL_DMAX_UTC_UTC d i), s.get (BIL_DMAX_MARKS_MARKS d i))))

def clearMaxima (s : Dev) : Dev :=
  s.forEach (List.range 20) (fun d s => s.forEach (List.range 9) (fun i s =>
    ((s.set (BIL_DMAX_VALUE_VALUE d i) 0).set (BIL_DMAX_UTC_UTC d i) 0).set (BIL_DMAX_MARKS_MARKS d i) 0))

/-- R348, R357: a billing period opens at the legal instant `u`. -/
def openPeriod (s : Dev) (u : Nat) : Dev :=
  let s := s.clearMaxima.set BIL_PERIOD_NO_NO (s.get BIL_PERIOD_NO_NO + 1)
  s.modBil (fun b =>
    { b with
      periodStart := u
      periodMarks := 0
      periodLoss := 0
      periodGap := s.gapSum
      periodLosses := [] })

/-- R358: the open period closes at the legal instant `u` with the further marks `m`: a save, the closed-period record, and the event. -/
def closePeriod (s : Dev) (u m many : Nat) : Dev :=
  let s := s.startSave
  let no := s.get BIL_PERIOD_NO_NO
  let marks := s.bil.periodMarks ||| m ||| (if s.bil.periodLosses.isEmpty then 0 else pmLoss)
  let r : ClosedPeriod :=
    { no := no
      start := s.bil.periodStart
      stop := u
      marks := marks
      saveSeq := s.mtr.nextSeq - 1
      tar := s.bil.tar.toList
      maxima := s.maximaNow
      lossBound := s.bil.periodLoss
      gap := s.gapSum - s.bil.periodGap
      losses := s.bil.periodLosses
      many := many
      acc := s.mtr.acc.toList }
  let full := decide (64 ≤ s.bil.history.length)
  let s := s.modBil (fun b => { b with history := (if full then b.history.drop 1 else b.history) ++ [r] })
  let s := s.when full (·.post EV_BIL_HISTORY_OVERWRITTEN)
  s.post EV_BIL_PERIOD_CLOSED (leBytes 4 no ++ leBytes 4 marks)

/-- R357: the open period closes and the next one opens at once. -/
def turnPeriod (s : Dev) (u m many : Nat) : Dev := (s.closePeriod u m many).openPeriod u

def modClosed (s : Dev) (u : Nat) : Dev :=
  s.modBil (fun b => { b with lastClosed := some (max (b.lastClosed.getD 0) u) })

/-- R357: a scheduled boundary closes the period, unless it lies at or before the latest one closed. -/
def scheduledClose (s : Dev) (u m : Nat) : Dev :=
  if u ≤ s.bil.lastClosed.getD 0 then s else (s.turnPeriod u m 0).modClosed u

/-- R357: the next scheduled boundary after the latest one closed. -/
def nextScheduled (s : Dev) : Option Nat :=
  let a := s.bil.lastClosed.getD s.bil.periodStart
  (scheduled s.bil.cfg a (a + 86400000 * 40)).head?

/-! The order of boundaries and blocks (R359) -/

/-- R359: every block that ends at or before the device time `t` is committed. -/
def committedTo (s : Dev) (t : Nat) : Bool := decide (t < ms ((s.get64 MTR_BLOCK_LO).toNat + 1))

/-- R359: close the earliest boundary up to the legal instant `u`, or the device time `d` while legal time is invalid; at one instant the
sub-interval goes first. -/
def closeNext (s : Dev) (u d : Nat) : Option Dev :=
  match s.bil.subEnd with
  | none => none
  | some e =>
    if !s.bil.subValid then (if e ≤ d then some (s.endSubInvalid e) else none)
    else
      let period := (s.nextScheduled).filter (fun p => decide (p ≤ u) && decide (p < e))
      match period with
      | some p => some (s.scheduledClose p 0)
      | none => if e ≤ u then some (s.endSubValid e) else none

/-- R359: close the boundaries up to an instant, in their order, at most `n` of them. -/
def closeDue (s : Dev) (u d : Nat) : Nat → Dev
  | 0 => s
  | n + 1 => match s.closeNext u d with
    | some t => t.closeDue u d n
    | none => s

/-- R354, R356, R359: the running sub-interval ends, once the blocks up to its end are committed. -/
def demandEnd (s : Dev) : Dev :=
  match s.bil.subEnd with
  | none => s
  | some e =>
    let t := if s.bil.subValid then s.dtOfUtc e else e
    if !s.committedTo t then s
    else
      let s := s.reach t
      if s.bil.subValid then (s.closeDue (e - 1) 0 64).endSubValid e else s.endSubInvalid e

/-- R357, R359: the next scheduled boundary closes the period, once the blocks up to it are committed. -/
def periodEnd (s : Dev) : Dev :=
  match s.nextScheduled with
  | some u =>
    if !s.committedTo (s.dtOfUtc u) then s
    else
      let s := (s.reach (s.dtOfUtc u)).closeDue u 0 64
      s.scheduledClose u 0
  | none => s

/-- R363, R364, R365: every boundary in (a, b] is closed in the order of legal time with zero accrual: sub-intervals with the mark `dm`, periods
with `pm`; of the periods at most `most` have a record of their own. Of a long row of sub-intervals only as many are formed as can hold
energy in the window. -/
def closeBetween (s : Dev) (a b dm pm : Nat) (most : Option Nat) : Dev :=
  let i := s.tariffOfEnd a
  let subs := (subEnds s.bil.cfg 61 a b).map (fun u => (u, false))
  let pers := (scheduled s.bil.cfg (max a (s.bil.lastClosed.getD 0)) b).map (fun u => (u, true))
  let most := most.getD pers.length
  let own := pers.take most
  let rest := pers.drop most
  let order := fun (x y : Nat × Bool) => decide (x.1 < y.1) || (x.1 == y.1 && !(x.2 && !y.2))
  let s := s.forEach (sortBy order (subs ++ own)) (fun x s =>
    if x.2 then s.scheduledClose x.1 pm else s.closeSub i x.1 dm)
  match rest.getLast? with
  | some x => (s.turnPeriod x.1 (pm ||| pmSkippedMany) rest.length).modClosed x.1
  | none => s

/-! Start and stop of billing (R348) -/

/-- R348: entry to SERVICE: billing runs and a period opens. -/
def billingStart (s : Dev) : Dev :=
  let s := (s.setb BIL_STATUS_RUN true).modBil (fun b =>
    { b with
      seen := s.mtr.acc
      lastClosed := if s.utcValid then some (max (b.lastClosed.getD 0) s.utcNow) else b.lastClosed })
  ((s.openPeriod s.utcNow).clearWindows.startSub 0).showTariff

/-- R348, R357: a transition out of SERVICE closes the period, marked SUSPENDED, and billing stops. -/
def billingStop (s : Dev) : Dev :=
  if !s.flag BIL_STATUS_RUN then s
  else
    let s := (s.closePeriod s.utcNow pmSuspended 0).setb BIL_STATUS_RUN false
    (s.modBil (fun b => { b with subEnd := none })).showTariff

/-! Settings (R353) -/

/-- What one SET of class 0x08 changes. -/
def applyCalSet (c : TariffCfg) : CalSet → TariffCfg
  | .cfg w => { c with cfg := w }
  | .tz w => { c with tz := w }
  | .daylight a b =>
    { c with
      dstBegin := a
      dstEnd := b }
  | .calendar k => { c with cal := k }

/-- R353: settings come into force: the registers show them, and a change of SUB or DI clears the demand window. -/
def enforce (s : Dev) (c : TariffCfg) : Dev :=
  let changed := subMinutes c != subMinutes s.bil.cfg || diMinutes c != diMinutes s.bil.cfg
  let s := ((s.wr BIL_CFG c.cfg).wr BIL_TZ c.tz).modBil (fun b =>
    { b with
      cfg := c
      pendingCfg := none })
  let s := if changed && s.flag BIL_STATUS_RUN then
      let p := subMinutes c * 60000
      s.clearWindows.modBil (fun b => { b with subEnd := some (if b.subValid then (s.utcNow / p + 1) * p else s.dt + ms p) })
    else s
  s.showTariff

/-- R353: pending settings whose whole minute has begun by the legal instant `u`. -/
def enforceDue (s : Dev) (u : Nat) : Dev :=
  match s.bil.pendingCfg with
  | some (m, c) => if m * 60000 ≤ u then s.enforce c else s
  | none => s

/-! The commit (R350, R353, R364) -/

/-- R26, R350, R353, R359: book a committed block that ends at the device time `b`; boundaries before its end are closed first. -/
def billBlock (s : Dev) (b : Nat) : Dev :=
  let u := s.utcUp b
  let s := (s.when (s.flag BIL_STATUS_RUN) (·.closeDue (u - 1) (b - 1) 64)).enforceDue (u - 1)
  let s := if s.flag BIL_STATUS_RUN then s.bookGrowth (s.tariffOfEnd u) else s
  let s := s.modBil (fun v => { v with seen := s.mtr.acc })
  s.when s.utcValid (·.modBil (fun v => { v with l0 := some (s.utcOf b) }))

/-! Legal time (R34, R360 to R364) -/

/-- R34: the correspondence pair is replaced by (`d`, `u`), legal time being `u` ms and `frac` ns at `d`, and both UTC values of that
instant are recorded. -/
def setPair (s : Dev) (d u : Nat) (frac : Nat := 0) : Dev :=
  let old := s.utcOf d
  let gen :=
    { s.gen with
      pair := some (d, u)
      rtcAt := d
      rtcCount := frac }
  (s.putGen gen).ledger LG_TIME_PAIR (leBytes 8 d ++ leBytes 8 old ++ leBytes 8 u)

/-- R361: how much of a slew remains. -/
def showSlew (s : Dev) (w : Option Slew) : Dev :=
  let left : Int := (w.map (·.left)).getD 0
  ((s.modBil (fun b => { b with slew := w })).wr BIL_SLEW (BitVec.ofInt 32 left)).setb BIL_STATUS_SLEWING w.isSome

/-- R361: a slew by `delta` ms begins; the pair keeps the part of a ms that legal time has reached. -/
def startSlew (s : Dev) (delta : Int) : Dev :=
  match s.gen.pair with
  | none => s
  | some _ =>
    let s := (s.setPair s.dt s.utcNow (s.utcNs s.dt % 1000000)).showSlew none
    if delta = 0 then s else s.showSlew (some ⟨delta, s.dt⟩)

/-- R361: one second of a slew has passed. -/
def slewStep (s : Dev) : Dev :=
  match s.bil.slew with
  | none => s
  | some w =>
    let t := w.last + sec 1
    let s := s.reach t
    let u := s.utcOf t
    let moved : Int := if w.left < 0 then -(min 10 w.left.natAbs : Nat) else (min 10 w.left.natAbs : Nat)
    let left := w.left - moved
    let s := s.setPair t u (s.utcNs t % 1000000)
    s.showSlew (if left = 0 then none else some ⟨left, t⟩)

/-- Legal time is set to `u` now. -/
def jump (s : Dev) (u : Nat) : Dev := (s.setPair s.dt u).showSlew none

/-- The marks of the sub-interval in which the legal instant `u` lies, when it begins there. -/
def lateMark (s : Dev) (u : Nat) : Nat := if u % (subMinutes s.bil.cfg * 60000) = 0 then 0 else dmShort

/-- R371: a clock step is booked and marks the manifests of open sessions. -/
def clockStep (s : Dev) : Dev := (s.bookTamper tpClockStep).flagSessions mfStepped

/-- R362: legal time steps back from `a` to `u`. -/
def stepBack (s : Dev) (a u : Nat) : Dev :=
  let run := s.flag BIL_STATUS_RUN
  let s := s.when run (fun s => (s.closeSub (s.tariffOfEnd a) a dmShort).clearWindows)
  let s := s.jump u
  let s := s.when run (fun s =>
    (s.startSub dmShort).modBil (fun b => { b with periodMarks := b.periodMarks ||| pmSetback }))
  s.clockStep

/-- R363: legal time steps forward from `a` to `u`. -/
def stepForward (s : Dev) (a u : Nat) : Dev :=
  let run := s.flag BIL_STATUS_RUN
  let s := s.when run (fun s =>
    ((s.closeSub (s.tariffOfEnd a) a dmShort).closeBetween a u dmSkipped pmSkipped (some 12)).clearWindows)
  let s := s.jump u
  (s.when run (fun s => s.startSub (s.lateMark u))).clockStep

/-- R356, R364: legal time becomes valid at `u`. -/
def validate (s : Dev) (u : Nat) : Dev :=
  let run := s.flag BIL_STATUS_RUN
  let s := s.when run (fun s => (s.closeSub 8 s.utcNow (dmShort ||| dmTimeInvalid)).clearWindows)
  let l0 := s.bil.l0
  let s := match l0 with
    | some l =>
      if u < l then s.when run (fun s => s.modBil (fun b => { b with periodMarks := b.periodMarks ||| pmSetback }))
      else s.when run (fun s => (s.closeBetween l u dmTimeInvalid pmTimeInvalid (some 12)).clearWindows)
    | none => s.modClosed u
  let s := (s.jump u).setb BIL_STATUS_TIME_VALID true
  let s := s.when run (·.startSub dmShort)
  s.when (l0.any (fun l => decide (u < l))) (·.clockStep)

/-- R360: legal time is set. -/
def setLegal (s : Dev) (u : Nat) : Dev :=
  let now := s.utcNow
  let delta : Int := (u : Int) - now
  let valid := s.utcValid
  let kind : Nat := if !valid then 3 else if delta.natAbs ≤ 90000 then 0 else if delta < 0 then 1 else 2
  let s := match kind with
    | 0 => s.startSlew delta
    | 1 => s.stepBack now u
    | 2 => s.stepForward now u
    | _ => s.validate u
  let s := s.setb GEN_STATUS_RTC_FAULT false
  let s := s.modBil (fun b => { b with l0 := if kind = 0 then b.l0 else some u })
  ((s.post EV_BIL_TIME_SET (leBytes 1 kind)).showTariff).normalUpdate

/-- R30, R356: legal time is declared invalid. -/
def timeInvalid (s : Dev) : Dev :=
  let was := s.utcValid
  let s := if was && s.bil.subEnd.isSome && s.bil.subValid then
      let e := s.dtOfUtc (s.bil.subEnd.getD 0)
      s.modBil (fun b =>
        { b with
          subEnd := some e
          subValid := false
          demand := b.demand.map (fun d => { d with marks := d.marks ||| dmTimeInvalid }) })
    else s
  let s := ((s.showSlew none).setb BIL_STATUS_TIME_VALID false).flagSessions mfTimeInvalid
  let s := s.putGen { s.gen with timeDeclared := true }
  (s.bookTamper tpTimeInvalid).showTariff.normalUpdate

/-! Restart (R365) -/

/-- R365: the sub-interval open at the reset closes as SHORT and OUTAGE, and the boundaries of the outage are closed, or wait for R364. `r` is
the legal time of the reset. -/
def billingRestart (s : Dev) (r : Option Nat) : Dev :=
  if !s.flag BIL_STATUS_RUN then s
  else
    let r := match r with
      | some u => some u
      | none => s.bil.l0
    let s := (s.closeSub (if s.utcValid then s.tariffOfEnd (r.getD s.utcNow) else 8) (r.getD s.utcNow) (dmShort ||| dmOutage)).clearWindows
    let s := match r with
      | some u => if s.utcValid then (s.closeBetween u s.utcNow dmOutage pmOutage none).clearWindows else s
      | none => s
    (s.startSub dmShort).showTariff

/-! Tampers of sensors (R371 to R373) -/

/-- R373: in HIBERNATE the always-on domain latches a type, with its UTC by the RTC, which DT does not tell. -/
def latchTamper (s : Dev) (t : Nat) : Dev :=
  let f := s.fresh
  let s := f.2
  let u := Config.freeNat f.1
  let l := match s.bil.latch.find? (fun x => x.1 == t) with
    | some x => (t, min 255 (x.2.1 + 1), x.2.2.1, u) :: s.bil.latch.filter (fun y => y.1 != t)
    | none => (t, 1, u, u) :: s.bil.latch
  (s.modBil (fun b => { b with latch := l })).setb BIL_TAMP_STATUS_HIB_LATCH true

/-- R371, R372: the field at the sensor has been `mT` or more for 1 s: the condition MAGNETIC when that is above MAG_MT. -/
def magnetic (s : Dev) (mT : Nat) : Dev :=
  if mT ≤ s.get BIL_TAMP_CFG_MAG_MT then s
  else
  match s.gen.phase with
  | .off => s
  | .hibernate => s.latchTamper tpMagnetic
  | _ =>
    if s.flag BIL_TAMP_STATUS_NORMAL then s.bookTamper tpMagnetic
    else
      let was := s.flag BIL_TAMP_STATUS_MAG_STARTUP
      ((s.setb BIL_TAMP_STATUS_MAG_STARTUP true).flagSessions mfMagStartup).when (!was) (·.post EV_BIL_MAG_STARTUP)

/-- R371: a PIN has been at a level for 100 ms: the cover is open when that is its pin and its open level. -/
def cover (s : Dev) (pin : Fin 4) (high : Bool) : Dev :=
  if !s.flag BIL_TAMP_CFG_COVER_EN || s.get BIL_TAMP_CFG_COVER_PIN != pin.val || s.flag BIL_TAMP_CFG_COVER_POL != high then s
  else
    match s.gen.phase with
    | .off => s
    | .hibernate => s.latchTamper tpCover
    | _ => s.bookTamper tpCover

end Dev

/-! The commands -/

/-- R354: DEMAND_SUBINTERVAL_END. -/
def effDemandSubintervalEnd (s : Dev) : Dev := if s.flag BIL_STATUS_RUN then s.demandEnd else s

def execDemandSubintervalEnd (s : State) : Host.Outcome State Fault Refusal := s.onRun effDemandSubintervalEnd

/-- R352, R359: TARIFF_SWITCH: the next whole minute of legal time at which another tariff is in force. A sub-interval that ends by then has
closed first. -/
def effTariffSwitch (s : Dev) : Dev :=
  if !s.flag BIL_STATUS_RUN || !s.utcValid then s.showTariff
  else
    let s := s.enforceDue s.utcNow
    if s.tariffAt s.utcNow + 1 != s.get BIL_STATUS_TARIFF then s.showTariff
    else
      let m := s.utcNow / 60000
      match (List.range 527040).find? (fun k => s.tariffAt ((m + 1 + k) * 60000) + 1 != s.get BIL_STATUS_TARIFF) with
      | some k => (s.reach (s.dtOfUtc ((m + 1 + k) * 60000))).showTariff
      | none => s

def execTariffSwitch (s : State) : Host.Outcome State Fault Refusal := s.onRun effTariffSwitch

/-- R357: BILLING_PERIOD_CLOSE. -/
def effBillingPeriodClose (s : Dev) : Dev :=
  if !s.flag BIL_STATUS_RUN || !s.utcValid then s else s.periodEnd

def execBillingPeriodClose (s : State) : Host.Outcome State Fault Refusal := s.onRun effBillingPeriodClose

/-- R361: SLEW_STEP. -/
def effSlewStep (s : Dev) : Dev := s.slewStep

def execSlewStep (s : State) : Host.Outcome State Fault Refusal := s.onRun effSlewStep

/-- R371: TAMPER_MAGNETIC. -/
def effTamperMagnetic (mT : Nat) (s : Dev) : Dev := s.magnetic mT

def execTamperMagnetic (mT : Nat) (s : State) : Host.Outcome State Fault Refusal := s.onDev (effTamperMagnetic mT)

/-- R371: TAMPER_COVER. -/
def effTamperCover (pin : Fin 4) (high : Bool) (s : Dev) : Dev := s.cover pin high

def execTamperCover (pin : Fin 4) (high : Bool) (s : State) : Host.Outcome State Fault Refusal := s.onDev (effTamperCover pin high)

end Sys2Proof.Machine
end

