-- ==== Sys2Proof/Machine/Display.lean ====
section
/-! DEFINITION. The display scroll (R255, R256, R366, R367): items, their values and the signed DISPLAY bodies. -/

namespace Sys2Proof.Machine

/-- R367: the parts of an ITEM_ID. -/
def itemSubject (id : Code) : Nat := id.toNat / 4096
def itemTariff (id : Code) : Nat := id.toNat / 256 % 16
def itemQuantity (id : Code) : Nat := id.toNat % 256

/-- R367: subject and quantity of an item fit together; `port`: in the sequence of the local display port, which shows no outlet. -/
def itemFits (port : Bool) (id : Code) : Bool :=
  let sub := itemSubject id
  let t := itemTariff id
  let q := itemQuantity id
  let outlet := sub == 0 && !port
  let grid := sub == 1 || sub == 2
  let tariffOk := decide (t ≤ 9) || t == 15
  if q = 0x01 || q = 0x02 || q = 0x05 || q = 0x10 then (outlet || grid) && tariffOk
  else if q = 0x03 || q = 0x04 || q = 0x11 then grid && tariffOk
  else if q = 0x20 || q = 0x21 || q = 0x22 then outlet && t == 0
  else if q = 0x30 || q = 0x31 || q = 0x32 || (0x40 ≤ q && q ≤ 0x46) then sub == 3 && t == 0
  else false

/-- `n` decimal digits of `x`, most significant first. -/
def decDigits : Nat → Nat → List Nat
  | 0, _ => []
  | n + 1, x => decDigits n (x / 10) ++ [x % 10]

/-- R256: 12 packed BCD digits, most significant first. -/
def bcd12 (x : Nat) : List Byte :=
  let d := decDigits 12 x
  (List.range 6).map (fun k => BitVec.ofNat 8 (16 * d.getD (2 * k) 0 + d.getD (2 * k + 1) 0))

/-- The number of decimal digits of `x`, at most `n`. -/
def decLen : Nat → Nat → Nat
  | 0, _ => 0
  | n + 1, x => if x = 0 then 0 else 1 + decLen n (x / 10)

/-- R367: the first 12 decimal digits of a number. -/
def firstDigits (x : Nat) : Nat := x / 10 ^ (decLen 80 x - 12)

/-- Bytes as a big-endian integer. -/
def beNat (l : List Byte) : Nat := l.foldl (fun a b => 256 * a + b.toNat) 0

/-- R367: legal time as YYMMDDhhmmss. -/
def clockDigits (utc : Nat) : Nat :=
  let t := utc / 1000
  let d := Date.ofDays (t / 86400)
  let r := t % 86400
  ((((d.year % 100 * 100 + d.month) * 100 + d.day) * 100 + r / 3600) * 100 + r / 60 % 60) * 100 + r % 60

namespace Dev

/-- R367: the tariff index an item names; `none`: the total. -/
def itemIndex (s : Dev) (id : Code) : Option Nat :=
  let t := itemTariff id
  if t = 0 then none else if t = 15 then some (s.tariffAt s.utcNow) else some (t - 1)

/-- R367: the register an item of outlet `n` names, in mWh: the source register or one of its tariff registers. -/
def itemEnergy (s : Dev) (n : Nat) (id : Code) (k : Nat) : Nat :=
  let sub := itemSubject id
  let src := if sub = 0 then 16 + 4 * n + k else 8 * (sub - 1) + k
  let b := if sub = 0 then 8 + 2 * n + k else 4 * (sub - 1) + k
  match s.itemIndex id with
  | none => s.energy src
  | some i => (s.tariffs b).getD i 0

/-- R367: the maximum demand an item names, in W: of one tariff, or the greatest of all. -/
def itemDemand (s : Dev) (n : Nat) (id : Code) (j : Nat) : Nat :=
  let sub := itemSubject id
  let d := if sub = 0 then 4 + n else 2 * (sub - 1) + j
  match s.itemIndex id with
  | some i => s.get (BIL_DMAX_VALUE_VALUE d i)
  | none => (List.range 9).foldl (fun a i => max a (s.get (BIL_DMAX_VALUE_VALUE d i))) 0

/-- R367: energy to and from the vehicle, and loss bound plus gap, of outlet `n`'s current or last session, in mWh. -/
def sessionFigures (s : Dev) (n : Fin 16) : Nat × Nat × Nat :=
  let x := s.sess n
  let m := s.sessManifest n
  match x.start with
  | none => (0, 0, m.lossBound + m.gap)
  | some _ => (m.stop.imp - m.start.imp, m.stop.exp - m.start.exp, m.lossBound + m.gap)

/-- R367: the value of an item as 12 digits, 9 before and 3 after the point. -/
def itemValue (s : Dev) (n : Fin 16) (id : Code) : Nat :=
  let q := itemQuantity id
  let kwh : Nat → Nat := display
  let whole : Nat → Nat := fun x => x % 10 ^ 9 * 1000
  let f := s.sessionFigures n
  if 0x01 ≤ q && q ≤ 0x04 then kwh (s.itemEnergy n id (q - 1))
  else if q = 0x05 then whole (s.itemEnergy n id 0 / 10 ^ 15)
  else if q = 0x10 then s.itemDemand n id 0 % 10 ^ 12
  else if q = 0x11 then s.itemDemand n id 1 % 10 ^ 12
  else if q = 0x20 then kwh f.1
  else if q = 0x21 then kwh f.2.1
  else if q = 0x22 then kwh f.2.2
  else if q = 0x30 then whole (s.tariffAt s.utcNow + 1)
  else if q = 0x31 then clockDigits s.utcNow
  else if q = 0x32 then whole (s.get BIL_PERIOD_NO_NO)
  else if q = 0x40 then whole ((s.get64 BIL_MAN_NO_LO).toNat - 1)
  else if q = 0x41 then
    firstDigits (beNat (Config.sha2 256 (((s.slotKey (s.get BIL_MAN_CFG_KEY_SLOT)).map (·.pub)).getD [])))
  else if q = 0x42 then whole (s.get GEN_FW_VER_VALUE)
  else if q = 0x43 then whole (!s.flag BIL_STATUS_SEAL_BROKEN).toNat
  else if q = 0x44 then whole (s.rd MTR_CAL_CNT).toNat
  else if q = 0x45 then whole s.tamperTotal
  else whole (s.flag BIL_TAMP_STATUS_MAG_STARTUP).toNat

/-- R256, R367: FLAGS of an item. -/
def itemFlags (s : Dev) (n : Fin 16) (id : Code) : Nat :=
  let q := itemQuantity id
  let tdef := s.flag BIL_STATUS_RUN && s.tariffAt s.utcNow == 8
  let loss :=
    if 0x20 ≤ q && q ≤ 0x22 then decide (0 < (s.sessionFigures n).2.2)
    else decide (0x01 ≤ q) && decide (q ≤ 0x05) && !s.bil.periodLosses.isEmpty
  tdef.toNat + 2 * (!s.utcValid).toNat + 4 * loss.toNat + 8 * (s.life == lfCommissioning).toNat

/-- R256: a DISPLAY body, signed with the key of `r`. -/
def displayBody (s : Dev) (r : KeyRec) (n : Fin 16) (item count : Nat) (id : Code) (dseq : Word) : List Byte :=
  let head := leBytes 1 (if itemSubject id = 0 then n.val else 0xFF) ++ leBytes 1 item ++ leBytes 1 count ++ leBytes 1 s.bil.dwell ++
    leBytes 2 id.toNat ++ bcd12 (s.itemValue n id) ++ leBytes 1 (s.itemFlags n id) ++ leBytes 1 (s.get GEN_LIFECYCLE_IDENTITY_GEN) ++
    leBytes 4 dseq.toNat ++ iso8601 s.utcNow
  head ++ signWith r head

/-- R256: the next DSEQ. -/
def nextDseq (s : Dev) : Word × Dev :=
  let d := s.sln.dseq + 1
  (d, s.modSln (fun x => { x with dseq := d }))

/-- R366: the item of a sequence that is due now. -/
def itemNow (s : Dev) (l : List Code) : Option (Nat × Code) :=
  if l.isEmpty then none
  else
    let k := s.dt / sec s.bil.dwell % l.length
    some (k, l.getD k 0)

/-- R255: the present display heads. -/
def displayHeads (s : Dev) : List (Fin 250) :=
  (idx 250).filter (fun (i : Fin 250) => s.slnState i == snPresent && s.flag (SLN_NODE_CFG_DISP_EN i))

/-- R255, R366: the scroll items that fall due now go out. -/
def displayDue (s : Dev) : Dev :=
  let s := (s.reach (s.nextMultiple (sec s.bil.dwell) s.bil.lastItem))
  let s := s.modBil (fun b => { b with lastItem := some s.dt })
  let key := if s.flag SLN_DISP_CFG_EN then s.usableKey (s.get SLN_DISP_CFG_KEY_SLOT) kuDisplay else none
  match key with
  | none => s.setb SLN_STATUS_DISP_OFF true
  | some r =>
    let s := s.setb SLN_STATUS_DISP_OFF false
    let s := match s.itemNow s.bil.scrollOut with
      | some (k, id) => s.forEach s.displayHeads (fun i s =>
          let q := s.nextDseq
          let n : Fin 16 := Fin.ofNat 16 (s.get (SLN_NODE_CFG_OUTLET i))
          q.2.slnDisplay i (q.2.displayBody r n k s.bil.scrollOut.length id q.1))
      | none => s
    match s.itemNow s.bil.scrollDsp with
    | some (k, id) =>
      let q := s.nextDseq
      let body := q.2.displayBody r 0 k s.bil.scrollDsp.length id q.1
      q.2.modSln (fun x => { x with dsp := some (q.1.toNat, body, s.dt) })
    | none => s

/-- R536: the level of DSP_RST_N: low during every reset and in HIBERNATE. -/
def dspRst (s : Dev) : Bool := s.live

end Dev

/-! The command -/

/-- R366: DISPLAY_ITEM_DUE. -/
def effDisplayItemDue (s : Dev) : Dev := s.displayDue

def execDisplayItemDue (s : State) : Host.Outcome State Fault Refusal := s.onRun effDisplayItemDue

end Sys2Proof.Machine
end

