-- ==== Sys2Proof/Machine/Triad.lean ====
section
/-! DEFINITION. The measurement triad (R333 to R343): the vote, holding and gaps, judging, exclusion and re-admission. Values are in
2^−32 V, A and mWh. -/

namespace Sys2Proof.Machine

/-- The median of two or three numbers. -/
def median3 (l : List Int) : Int :=
  match sortBy (fun (a b : Int) => decide (a ≤ b)) l with
  | [_, b, _] => b
  | [a, b] => (a + b) / 2
  | a :: _ => a
  | [] => 0

/-- The reference of a list of blocks: the median of each quantity. -/
def medianBlock (l : List HeadBlock) : HeadBlock :=
  { u := median3 (l.map (·.u)), i := median3 (l.map (·.i)), e := median3 (l.map (·.e)) }

/-- R337: 3.75 MW × 1 ms in mWh, rounded up. -/
def gapFull : Nat := 1042

namespace Dev

/-! Windows (R335) -/

def absRat (x : Rat) : Rat := if x < 0 then -x else x

/-- R335: the windows about a reference, for U, I and E, in V, A and mWh. -/
def windows (s : Dev) (r : HeadBlock) : Rat × Rat × Rat :=
  let rel : Rat := mkRat (s.get TRI_CFG_REL) 10000
  let au : Rat := mkRat (s.get TRI_ABS_ABS_U) 10
  let ai : Rat := mkRat (s.get TRI_ABS_ABS_I) 10
  let u := absRat (q32Rat r.u)
  let i := absRat (q32Rat r.i)
  (rel * u + au, rel * i + ai, rel * absRat (q32Rat r.e) + (au * i + ai * u) / 3600)

/-- R335: a head's block agrees with a reference, within `1 ÷ part` of each window. -/
def agrees (s : Dev) (part : Nat) (r b : HeadBlock) : Bool :=
  let w := s.windows r
  let near := fun (x y : Int) (w : Rat) => decide (absRat (q32Rat (x - y)) * part ≤ w)
  near b.u r.u w.1 && near b.i r.i w.2.1 && near b.e r.e w.2.2

/-- R335, R336: two blocks agree, with the windows taken about their mean. -/
def twoAgree (s : Dev) (a b : HeadBlock) : Bool :=
  let w := s.windows (medianBlock [a, b])
  decide (absRat (q32Rat (a.u - b.u)) ≤ w.1) && decide (absRat (q32Rat (a.i - b.i)) ≤ w.2.1) &&
    decide (absRat (q32Rat (a.e - b.e)) ≤ w.2.2)

/-! The vote (R336) -/

/-- R336: the vote of an outlet's usable admitted blocks. -/
def vote (s : Dev) (bs : List HeadBlock) : Option HeadBlock :=
  match bs with
  | [a, b] => if s.twoAgree a b then some (medianBlock bs) else none
  | [_, _, _] =>
    let m := medianBlock bs
    if 2 ≤ (bs.filter (fun b => s.agrees 1 m b)).length then some m else none
  | _ => none

/-- R337: the bound added to the gap for an unvoted block. -/
def gapBound (s : Dev) (n : Nat) (bs : List HeadBlock) : Nat :=
  if !s.energised n then 0
  else
    match bs with
    | [] => gapFull
    | b :: rest =>
      let top := rest.foldl (fun (a c : HeadBlock) => if a.e.natAbs < c.e.natAbs then c else a) b
      min gapFull (absRat (q32Rat top.e) + (s.windows top).2.2).ceil.toNat

def modTri (s : Dev) (n : Fin 16) (f : TriOut → TriOut) : Dev := s.putTri { s.tri with outs := vupd s.tri.outs n f }

/-- R336: a block has been voted. -/
def voted (s : Dev) (n : Fin 16) (v : HeadBlock) : Dev :=
  let lost := s.flag (TRI_OUT_STATUS_VOTE_LOST n)
  let s := s.modTri n (fun x =>
    { x with
      value := some (v.u, v.i)
      last := some (v.u, v.i)
      heldTold := false })
  let s := ((s.setb (TRI_OUT_STATUS_HELD n) false).setb (TRI_OUT_STATUS_VOTED n) true).set (TRI_OUT_STATUS_NOVOTE_RUN n) 0
  let s := (s.setBit TRI_STATUS n false).setb (TRI_OUT_STATUS_VOTE_LOST n) false
  s.when lost (·.post EV_TRI_VOTE_RESTORED (leBytes 1 n))

/-- R337, R338: a block has no vote. -/
def unvoted (s : Dev) (n : Fin 16) (bs : List HeadBlock) : Dev :=
  let run := s.get (TRI_OUT_STATUS_NOVOTE_RUN n) + 1
  let held := decide (run ≤ 2) && s.tri.outs[n].last.isSome && s.tri.outs[n].value.isSome
  let told := s.tri.outs[n].heldTold
  let lost := s.flag (TRI_OUT_STATUS_VOTE_LOST n)
  let s := s.modTri n (fun x =>
    { x with
      value := if held then x.last else none
      heldTold := true })
  let s := ((s.setb (TRI_OUT_STATUS_HELD n) held).setb (TRI_OUT_STATUS_VOTED n) false).incSat (TRI_OUT_STATUS_NOVOTE_RUN n)
  let s := (s.setBit TRI_STATUS n true).bump (TRI_OUT_UNVOTED n)
  let s := s.set64 (TRI_OUT_GAP_LO n) (s.get64 (TRI_OUT_GAP_LO n) + BitVec.ofNat 64 (s.gapBound n bs))
  let s := s.when (!told) (·.post EV_TRI_VOTE_HELD (leBytes 1 n))
  if 10 ≤ run && !lost then (s.setb (TRI_OUT_STATUS_VOTE_LOST n) true).post EV_TRI_VOTE_LOST (leBytes 1 n) else s

/-! Judging and exclusion (R336, R339, R340) -/

/-- R339: the runs of an admitted head. -/
def judgeHead (s : Dev) (h : Fin 48) (b : Option HeadBlock) (ref : Option HeadBlock) : Dev :=
  let s := match b with
    | some _ => s.set (TRI_HEAD_STATUS_ABS_RUN h) 0
    | none => s.incSat (TRI_HEAD_STATUS_ABS_RUN h)
  match b, ref with
  | some b, some r =>
    if s.agrees 1 r b then s.set (TRI_HEAD_STATUS_DIS_RUN h) 0
    else (s.incSat (TRI_HEAD_STATUS_DIS_RUN h)).bump (TRI_HEAD_DIS_CNT h)
  | _, _ => s

/-- R341: a testing head's block. The Bool says that it has completed step AGREE. -/
def testHead (s : Dev) (h : Fin 48) (b : Option HeadBlock) (ref : Option HeadBlock) : Dev × Bool :=
  let step := s.get (TRI_HEAD_STATUS_STEP h)
  if step = tsResync then
    match b with
    | none => (s.set (TRI_HEAD_TEST_PROGRESS h) 0, false)
    | some _ =>
      let s := s.incSat (TRI_HEAD_TEST_PROGRESS h)
      if s.get (TRI_HEAD_TEST_PROGRESS h) < 100 then (s, false)
      else
        let s := ((s.set (TRI_HEAD_STATUS_STEP h) tsSelf).set (TRI_HEAD_TEST_PROGRESS h) 0).modHead h
          (fun x => { x with stepDt := s.dt })
        (match s.headNode h with
         | some i => s.sendCtrl i true 0x0070 1 [1#32] (.headStart h)
         | none => s, false)
  else if step = tsAgree then
    let need := s.get TRI_TEST_TEST_BLOCKS
    let s := s.modHead h (fun x => { x with agreeBlocks := x.agreeBlocks + 1 })
    match b, ref with
    | none, _ => (s.headFail h, false)
    | some b, some r =>
      if s.agrees 2 r b then
        let s := s.incSat (TRI_HEAD_TEST_PROGRESS h)
        if need ≤ s.get (TRI_HEAD_TEST_PROGRESS h) then (s, true)
        else if 10 * need ≤ s.tri.heads[h].agreeBlocks then (s.headFail h, false) else (s, false)
      else (s.headFail h, false)
    | some _, none => if 10 * need ≤ s.tri.heads[h].agreeBlocks then (s.headFail h, false) else (s, false)
  else (s, false)

/-- R341: a head that has passed every step is admitted. -/
def admitHead (s : Dev) (h : Fin 48) : Dev :=
  ((s.setHead h hdAdmitted 0 0).set (TRI_HEAD_STATUS_FAILS h) 0).post EV_TRI_HEAD_ADMITTED (headPayload h)

/-- R339, R340: exclusions and host requests that fall in the block. -/
def settleHead (s : Dev) (h : Fin 48) : Dev :=
  let x := s.tri.heads[h]
  let s :=
    if s.headState h = hdAdmitted then
      if s.get TRI_CFG_EXCL_BLOCKS ≤ s.get (TRI_HEAD_STATUS_DIS_RUN h) then s.headStandby h hcDisagree
      else if s.get TRI_CFG_ABSENT_BLOCKS ≤ s.get (TRI_HEAD_STATUS_ABS_RUN h) then s.headStandby h hcAbsent
      else s
    else s
  let s := if x.wantStandby && (s.headState h = hdAdmitted || s.headState h = hdTesting) then s.headStandby h hcHost else s
  let s := if x.wantTest && s.headState h = hdStandby then s.headTest h else s
  s.modHead h (fun x => { x with wantStandby := false, wantTest := false })

/-- R336 to R341: the block of an enabled outlet that ends at `b`; the voted E. -/
def triadBlock (s : Dev) (n : Fin 16) (b : Nat) : Dev × Option Int :=
  if !s.flag (TRI_OUT_CFG_EN n) then (s.modTri n (fun x => { x with value := none }), none)
  else
    let heads := (headsOf n).map (fun (h : Fin 48) => (h, s.headState h, s.get (TRI_HEAD_STATUS_STEP h)))
    let block := fun (h : Fin 48) => s.headBlock h b
    let adm := (heads.filter (fun q => q.2.1 == hdAdmitted)).map (·.1)
    let bs := adm.filterMap block
    let v := s.vote bs
    let known := (heads.filter (fun q => q.2.1 == hdAdmitted || q.2.1 == hdTesting)).filterMap (fun q => block q.1)
    let agree := (heads.filter (fun q => q.2.1 == hdAdmitted || (q.2.1 == hdTesting && q.2.2 == tsAgree))).filterMap (fun q => block q.1)
    let ref := if 2 ≤ adm.length then v else if 2 ≤ agree.length then some (medianBlock agree) else none
    let judged : Option HeadBlock := if bs.length = 3 then v else none
    let bound := known
    let s := match v with
      | some v => s.voted n v
      | none => s.unvoted n bound
    let s := s.forEach adm (fun h s => s.judgeHead h (block h) judged)
    let tests := (heads.filter (fun q => q.2.1 == hdTesting)).map (·.1)
    let r := tests.foldl (fun (a : Dev × List (Fin 48)) h =>
      let t := a.1.testHead h (block h) ref
      (t.1, if t.2 then a.2 ++ [h] else a.2)) (s, [])
    let s := r.1.forEach r.2 (fun h s => s.admitHead h)
    let s := s.forEach (headsOf n) (fun h s => s.settleHead h)
    let low := decide (s.get (TRI_OUT_STATUS_ADMITTED n) < 3)
    let acc := s.tri.outs[n].secAcc + low.toNat
    let s := (s.modTri n (fun x => { x with secAcc := acc % 1000 })).when (acc == 1000) (·.bump (TRI_OUT_DEGRADED n))
    (s, v.map (·.e))

/-! Requests (R333, R339, R342) -/

/-- R333: two bound heads of an outlet share a piste or a pair. -/
def placementBad (s : Dev) (n : Nat) : Bool :=
  let ps := (headsOf n).filterMap (fun (h : Fin 48) => s.headPiste h)
  ps.eraseDups.length != ps.length

/-- R333: a write of 1 to TRI_OUT_CFG.EN. -/
def triadEnable (s : Dev) (n : Fin 16) : Dev × Option Code :=
  if s.flag (TRI_OUT_CFG_EN n) then (s, none)
  else
    let ids := (headsOf n).map (fun (h : Fin 48) => s.get64 (TRI_HEAD_NODE_LO h))
    if ids.contains 0#64 || ids.eraseDups.length != 3 then (s, some ST_BAD_PARAM)
    else if s.placementBad n then (s, some ST_TRI_PLACEMENT)
    else ((((s.setb (TRI_OUT_CFG_EN n) true).refreshTriad n).triadStart n), none)

/-- R339: a write of STANDBY bit k. -/
def standbyRequest (s : Dev) (n : Fin 16) (h : Fin 48) : Dev × Option Code :=
  let left := (s.admittedHeads n).filter (fun j => j != h)
  if !s.flag (TRI_OUT_CFG_EN n) then (s, none)
  else if s.energised n && decide (left.length < 2) then (s, some ST_BUSY_LIVE)
  else (s.modHead h (fun x => { x with wantStandby := true }), none)

/-- R342: a write of READMIT bit k. -/
def readmitRequest (s : Dev) (n : Fin 16) (h : Fin 48) : Dev × Option Code :=
  if !s.flag (TRI_OUT_CFG_EN n) || (s.headNode h).isNone then (s, some ST_TRI_HEAD_UNBOUND)
  else if s.headState h = hdStandby then (s.modHead h (fun x => { x with wantTest := true }), none)
  else (s, none)

/-- R342: READMIT_S after entry to STANDBY. -/
def readmitTimer (s : Dev) (h : Fin 48) : Dev :=
  let wait := s.get TRI_TEST_READMIT_S
  let c := s.get (TRI_HEAD_STATUS_CAUSE h)
  let may := c == hcDisagree || c == hcAbsent || c == hcNodeLost || (c == hcTestFail && decide (s.get (TRI_HEAD_STATUS_FAILS h) < 3))
  if wait = 0 || s.headState h != hdStandby || !may || (s.headNode h).isNone || !s.flag (TRI_OUT_CFG_EN (h.val / 3)) then s
  else (s.reach (s.tri.heads[h].standbyDt + sec wait)).headTest h

/-- R341: step SELF ends. -/
def selfResult (s : Dev) (h : Fin 48) (r : SelfResult) : Dev :=
  if s.headState h != hdTesting || s.get (TRI_HEAD_STATUS_STEP h) != tsSelf then s
  else
    match r with
    | .pass =>
      ((s.set (TRI_HEAD_STATUS_STEP h) tsAgree).set (TRI_HEAD_TEST_PROGRESS h) 0).modHead h
        (fun x => { x with stepDt := s.dt, agreeBlocks := 0 })
    | .fail => s.headFail h
    | .none => (s.reach (s.tri.heads[h].stepDt + ms 100)).headFail h

/-- R341: RESYNC not passed within 10 s. -/
def resyncTimeout (s : Dev) (h : Fin 48) : Dev :=
  if s.headState h != hdTesting || s.get (TRI_HEAD_STATUS_STEP h) != tsResync then s
  else (s.reach (s.tri.heads[h].stepDt + sec 10)).headFail h

end Dev

/-! The commands -/

/-- The head slot of outlet `n` and head `k`. -/
def slotOf (n : Fin 16) (k : Fin 3) : Fin 48 := ⟨3 * n.val + k.val, by omega⟩

/-- R333: TRIAD_ENABLE. -/
def effTriadEnable (n : Fin 16) (s : Dev) : Dev :=
  let r := s.triadEnable n
  r.1.answer (r.2.getD ST_OK)

def execTriadEnable (n : Fin 16) (s : State) : Host.Outcome State Fault Refusal := s.onReg 0x0D (effTriadEnable n)

/-- R339: HEAD_STANDBY_REQUEST. -/
def effHeadStandbyRequest (n : Fin 16) (k : Fin 3) (s : Dev) : Dev :=
  let r := s.standbyRequest n (slotOf n k)
  r.1.answer (r.2.getD ST_OK)

def execHeadStandbyRequest (n : Fin 16) (k : Fin 3) (s : State) : Host.Outcome State Fault Refusal := s.onReg 0x0D (effHeadStandbyRequest n k)

/-- R342: HEAD_READMIT_REQUEST. -/
def effHeadReadmitRequest (n : Fin 16) (k : Fin 3) (s : Dev) : Dev :=
  let r := s.readmitRequest n (slotOf n k)
  r.1.answer (r.2.getD ST_OK)

def execHeadReadmitRequest (n : Fin 16) (k : Fin 3) (s : State) : Host.Outcome State Fault Refusal := s.onReg 0x0D (effHeadReadmitRequest n k)

/-- R342: HEAD_READMIT_TIMER. -/
def effHeadReadmitTimer (h : Fin 48) (s : Dev) : Dev := s.readmitTimer h

def execHeadReadmitTimer (h : Fin 48) (s : State) : Host.Outcome State Fault Refusal := s.onRun (effHeadReadmitTimer h)

/-- R341: HEAD_SELF_TEST_RESULT. -/
def effHeadSelfTestResult (h : Fin 48) (r : SelfResult) (s : Dev) : Dev := s.selfResult h r

def execHeadSelfTestResult (h : Fin 48) (r : SelfResult) (s : State) : Host.Outcome State Fault Refusal := s.onRun (effHeadSelfTestResult h r)

/-- R341: HEAD_RESYNC_TIMEOUT. -/
def effHeadResyncTimeout (h : Fin 48) (s : Dev) : Dev := s.resyncTimeout h

def execHeadResyncTimeout (h : Fin 48) (s : State) : Host.Outcome State Fault Refusal := s.onRun (effHeadResyncTimeout h)

end Sys2Proof.Machine
end

