-- ==== Sys2Proof/Machine/Objects.lean ====
section
/-! DEFINITION. Object access and roles (R368 to R370), the settings it writes (R327, R353, R366), and the archive (R376, R377). -/

namespace Sys2Proof.Machine

/-- R368: the order of the cumulative roles. -/
def roleRank : Role → Nat
  | .public_ => 0
  | .customer _ _ => 1
  | .operator => 2
  | .installer => 3
  | .metrologist => 4

/-- R369: the channel code. -/
def channelCode : Channel → Nat
  | .host => 0
  | .uart => 1
  | .sln _ => 2

def isPublic (_ : Role) : Bool := true
def isOperator (r : Role) : Bool := decide (2 ≤ roleRank r)
def isInstaller (r : Role) : Bool := decide (3 ≤ roleRank r)
def isMetrologist (r : Role) : Bool := decide (4 ≤ roleRank r)

/-- R368: OPERATOR, or CUSTOMER of the session named. -/
def ownsSession (n : Nat) (sid : Id64) (r : Role) : Bool :=
  isOperator r || (match r with
    | .customer m x => m.val == n && x == sid
    | _ => false)

/-- R368: an object ID. -/
def objId (cls inst attr : Nat) : Word := BitVec.ofNat 32 (cls * 2 ^ 24 + inst % 2 ^ 16 * 2 ^ 8 + attr)

/-- R353, R368: the object a calendar SET writes. -/
def calSetId : CalSet → Word
  | .cfg _ => objId 0x08 0 0
  | .tz _ => objId 0x08 0 1
  | .daylight _ _ => objId 0x08 0 2
  | .calendar _ => objId 0x08 0 3

/-- R366, R368: the object a scroll SET writes. -/
def scrollSetId : ScrollSet → Word
  | .outlets _ => objId 0x09 0 0
  | .port _ => objId 0x09 0 1
  | .dwell _ => objId 0x09 0 2

/-- R327, R368: the object of a calibration value: channels 0 to 15, then head slots from 16 on. -/
def calItemId : CalItem → Word
  | .channel c j _ => objId 0x0A c j
  | .head h j _ => objId 0x0A (16 + h.val) j

/-- R327: the register of a calibration value. -/
def calItemReg : CalItem → Nat
  | .channel c j _ => [MTR_CH_RATIO c, MTR_CH_GAIN c, MTR_CH_OFS c, MTR_CH_PHASE c].getD j 0
  | .head h j _ => [MTR_HEAD_GAIN_V h, MTR_HEAD_GAIN_I h, MTR_HEAD_OFS_V h, MTR_HEAD_OFS_I h].getD j 0

def calItemValue : CalItem → Word
  | .channel _ _ v => v
  | .head _ _ v => v

/-- R306: a head's gain reaches so far, in V or A. -/
def gainReaches (v : Word) (least : Rat) : Bool := F32.finite v && decide (least ≤ F32.toRat v * (2 ^ 23 - 1))

/-- R306, R331: PHASE lies from −50 000 to +50 000; a head's gains reach 110 % of the MCS envelope. The value that is written is judged. -/
def calItemOk : CalItem → Bool
  | .channel _ j v => j != 3 || decide (v.toInt.natAbs ≤ 50000)
  | .head _ j v => if j = 0 then gainReaches v 1375 else if j = 1 then gainReaches v 3300 else true

/-- R351: a rule instant that exists. -/
def dstRuleOk (r : DstRule) : Bool :=
  decide (1 ≤ r.month) && decide (r.month ≤ 12) && decide (1 ≤ r.week) && decide (r.week ≤ 5) && decide (r.weekday ≤ 6) &&
    decide (r.minute ≤ 1439)

/-- A month and a day that exist in some year. -/
def dayOk (m d : Nat) : Bool := decide (1 ≤ m) && decide (m ≤ 12) && decide (1 ≤ d) && decide (d ≤ Date.monthDays 2020 m)

/-- R352: the limits of the calendar. -/
def calendarOk (c : Calendar) : Bool :=
  decide (c.seasons.length ≤ 12) && decide (c.profiles.length ≤ 32) && decide (c.specials.length ≤ 64) &&
  c.seasons.all (fun q => dayOk q.1 q.2.1 && q.2.2.length == 7 && q.2.2.all (fun p => decide (p < c.profiles.length))) &&
  c.profiles.all (fun p => decide (p.length ≤ 12) && p.all (fun q => decide (q.1 ≤ 1439) && decide (1 ≤ q.2) && decide (q.2 ≤ 8))) &&
  c.specials.all (fun q => dayOk q.2.1 q.2.2.1 && decide (q.2.2.2 < c.profiles.length))

/-- R351, R352, R354, R381: the ranges of a calendar SET. -/
def calSetOk : CalSet → Bool
  | .cfg w =>
    let t : TariffCfg := ⟨w, 0, ⟨1, 1, 0, 0⟩, ⟨1, 1, 0, 0⟩, ⟨[], [], []⟩⟩
    decide (cfgBits w BIL_CFG_PMODE ≤ 2) && decide (1 ≤ cfgBits w BIL_CFG_PDAY) && decide (cfgBits w BIL_CFG_PDAY ≤ 28) &&
      decide (cfgBits w BIL_CFG_PMIN ≤ 1439) && decide (cfgBits w BIL_CFG_DI ≤ 4) && decide (cfgBits w BIL_CFG_SUB ≤ 5) &&
      diMinutes t % subMinutes t == 0 && Dev.bitsOf w 7 3 == 0
  | .tz w =>
    decide (((w.extractLsb' 16 16).toInt).natAbs ≤ 840) && decide (cfgBits w BIL_TZ_DST_OFS ≤ 120) && Dev.bitsOf w 7 1 == 0
  | .daylight a b => dstRuleOk a && dstRuleOk b
  | .calendar c => calendarOk c

/-- R366, R367: the limits of a scroll SET. -/
def scrollSetOk : ScrollSet → Bool
  | .outlets l => decide (l.length ≤ 48) && l.all (itemFits false)
  | .port l => decide (l.length ≤ 48) && l.all (itemFits true)
  | .dwell n => decide (2 ≤ n) && decide (n ≤ 60)

/-- Two object settings that name the same object. -/
def objSettingId : ObjSetting → Word
  | .calendar x => calSetId x
  | .scroll x => scrollSetId x
  | .calibration x => calItemId x

/-- Put an object setting into a configuration copy. -/
def copySet (c : CfgCopy) (x : ObjSetting) : CfgCopy :=
  { c with objs := c.objs.filter (fun y => objSettingId y != objSettingId x) ++ [x] }

/-- R360: the range of legal time, in ms: from 2020-01-01T00:00:00Z to 2099-12-31T23:59:59Z. -/
def timeMin : Nat := 1577836800000
def timeMax : Nat := 4102444799999

namespace Dev

/-- R353, R327: write a setting to both configuration copies. -/
def keepObj (s : Dev) (x : ObjSetting) : Dev :=
  s.putGen { s.gen with
    cfg0 := copySet s.gen.cfg0 x
    cfg1 := copySet s.gen.cfg1 x }

/-! Requests, channels and associations (R368, R369) -/

/-- The channel of a request; none for a site-line node that is not present. -/
def channelOf (s : Dev) : ObjSrc → Option Channel
  | .desc (.ring _ _) => some .host
  | .desc (.uart _) => some .uart
  | .node i => if s.slnState i == snPresent then some (.sln i) else none

/-- Answer a request. -/
def objReply (s : Dev) (o : ObjSrc) (c : Code) (data : List Byte := []) : Dev :=
  match o with
  | .desc src => s.complete src c 0 data
  | .node i => s.emit (.objReply i c data)

def assocOf (s : Dev) (c : Channel) : Option Assoc := s.bil.assocs.find? (fun a => a.channel == c)

/-- R369: an association ends. -/
def endAssoc (s : Dev) (c : Channel) : Dev :=
  s.modBil (fun b => { b with assocs := b.assocs.filter (fun a => a.channel != c) })

/-- R369: a channel opens an association, in place of the one it held. -/
def openAssoc (s : Dev) (c : Channel) (r : Role) : Dev :=
  (s.endAssoc c).modBil (fun b => { b with assocs := ⟨c, r, s.dt⟩ :: b.assocs })

/-- R369: a request keeps its association alive. -/
def touchAssoc (s : Dev) (c : Channel) : Dev :=
  s.modBil (fun b => { b with assocs := b.assocs.map (fun a => if a.channel == c then { a with last := s.dt } else a) })

def accessOf (s : Dev) (c : Channel) : ChannelAccess := (s.bil.access.find? (fun a => a.channel == c)).getD ⟨c, [], none, none⟩

def modAccess (s : Dev) (c : Channel) (f : ChannelAccess → ChannelAccess) : Dev :=
  let a := f (s.accessOf c)
  s.modBil (fun b => { b with access := a :: b.access.filter (fun x => x.channel != c) })

/-- R368, R369: a request on an object: an association is needed, the object must exist, and the role must permit it. -/
def objRequest (s : Dev) (o : ObjSrc) (known : Bool) (need : Role → Bool) (act : Channel → Role → Dev → Dev) : Dev :=
  match s.channelOf o with
  | none => s
  | some c =>
    match s.assocOf c with
    | none => s.objReply o ST_BIL_NO_ASSOC
    | some a =>
      let s := s.touchAssoc c
      if !known then s.objReply o ST_BIL_NO_OBJECT
      else if !need a.role then s.objReply o ST_REFUSED_ROLE
      else act c a.role s

/-- R369: a SET or an ACTION is recorded in the wayledger with its role and channel. -/
def objRecord (s : Dev) (c : Channel) (r : Role) (id : Word) : Dev :=
  s.ledger LG_OBJ_WRITE (leBytes 1 (roleRank r) ++ leBytes 1 (channelCode c) ++ leBytes 4 id.toNat)

/-! Logins (R369, R370) -/

/-- R369: the HMAC key of a role's slot. -/
def roleKey (s : Dev) (r : Role) : Option KeyRec :=
  match r with
  | .operator => s.usableKey (s.get BIL_ROLE_SLOT_OPERATOR) kuRole
  | .installer => s.usableKey (s.get BIL_ROLE_SLOT_INSTALLER) kuRole
  | .metrologist => s.usableKey (s.get BIL_ROLE_SLOT_METROLOGIST) kuRole
  | _ => none

/-- R369: a failed attempt: five on a channel within 10 min lock it for 10 min. -/
def loginFailed (s : Dev) (c : Channel) : Dev :=
  let recent := s.dt :: (s.accessOf c).fails.filter (fun t => decide (s.dt < t + sec 600))
  let s := s.bookTamper tpAccessFail
  if 5 ≤ recent.length then
    (s.modAccess c (fun a =>
      { a with
        fails := []
        locked := some s.dt })).post EV_BIL_ACCESS_LOCKED (leBytes 1 (channelCode c))
  else s.modAccess c (fun a => { a with fails := recent })

/-- R369: CUSTOMER: the outlet's current session, or one that ended less than 24 h earlier. -/
def customerOk (s : Dev) (n : Fin 16) (sid : Id64) : Bool :=
  (s.sessOpen n && s.sessState n != ssClosing && s.get64 (VSS_OUT_SID_LO n) == sid && sid != 0) ||
    s.bil.recent.any (fun q => q.1 == n.val && q.2.1 == sid && decide (s.dt < q.2.2 + sec 86400))

/-- R369: an authenticated role is asked for. -/
def loginRole (s : Dev) (o : ObjSrc) (c : Channel) (r : Role) (mac : List Byte) : Dev :=
  let a := s.accessOf c
  if a.locked.isSome then s.objReply o ST_BIL_LOCKED
  else if r = .metrologist && !s.flag BIL_STATUS_SEAL_BROKEN then s.objReply o ST_BIL_SEAL_INTACT
  else
    match s.roleKey r with
    | none => s.objReply o ST_BIL_AUTH_FAIL
    | some k =>
      let ch := a.challenge
      let s := s.modAccess c (fun a => { a with challenge := none })
      let ok := match ch with
        | some x => Config.hmac 256 k.secret (x ++ leBytes 1 (channelCode c) ++ leBytes 8 (s.get64 GEN_DEVICE_ID_LO).toNat) == mac
        | none => false
      if ok then
        let s := s.openAssoc c r
        let s := if r = .metrologist then s.objRecord c r (objId 0x0C 0 0) else s
        s.objReply o ST_OK
      else (s.loginFailed c).objReply o ST_BIL_AUTH_FAIL

/-- R369: a login. -/
def login (s : Dev) (o : ObjSrc) (x : Login) : Dev :=
  match s.channelOf o with
  | none => s
  | some c =>
    match x with
    | .public_ => (s.openAssoc c .public_).objReply o ST_OK
    | .customer n sid =>
      if s.customerOk n sid then (s.openAssoc c (.customer n sid)).objReply o ST_OK
      else (s.loginFailed c).objReply o ST_BIL_AUTH_FAIL
    | .operator m => s.loginRole o c .operator m
    | .installer m => s.loginRole o c .installer m
    | .metrologist m => s.loginRole o c .metrologist m

/-- R369: a challenge of 16 bytes from the random source (R461). -/
def challenge (s : Dev) (o : ObjSrc) : Dev :=
  match s.channelOf o with
  | none => s
  | some c =>
    if !s.flag KEY_STATUS_RNG_OK then s.objReply o ST_KEY_RNG_UNAVAILABLE
    else
      let q := s.fresh
      let x := Config.freeBytes q.1 16
      (q.2.modAccess c (fun a => { a with challenge := some x })).objReply o ST_OK x

/-! GET (R368) -/

/-- The bytes of an energy value with its wrap counter. -/
def energyBytes (e : Nat) : List Byte := leBytes 8 e ++ leBytes 4 (e / 10 ^ 15)

/-- A rule instant as bytes. -/
def dstBytes (r : DstRule) : List Byte := leBytes 1 r.month ++ leBytes 1 r.week ++ leBytes 1 r.weekday ++ leBytes 2 r.minute

/-- The calendar as bytes. -/
def calendarBytes (c : Calendar) : List Byte :=
  leBytes 1 c.seasons.length ++ c.seasons.flatMap (fun q => leBytes 1 q.1 ++ leBytes 1 q.2.1 ++ q.2.2.flatMap (leBytes 1)) ++
  leBytes 1 c.profiles.length ++ c.profiles.flatMap (fun p => leBytes 1 p.length ++ p.flatMap (fun q => leBytes 2 q.1 ++ leBytes 1 q.2)) ++
  leBytes 1 c.specials.length ++
  c.specials.flatMap (fun q => leBytes 2 (q.1.getD 0) ++ leBytes 1 q.2.1 ++ leBytes 1 q.2.2.1 ++ leBytes 1 q.2.2.2)

/-- R358: a closed-period record as bytes. -/
def periodBytes (r : ClosedPeriod) : List Byte :=
  leBytes 4 r.no ++ leBytes 8 r.start ++ leBytes 8 r.stop ++ leBytes 4 r.marks ++ leBytes 8 r.saveSeq ++
  r.tar.flatMap (fun x => energyBytes (x / 2 ^ 32).toNat) ++
  r.maxima.flatMap (fun m => leBytes 4 m.1 ++ leBytes 4 m.2.1 ++ leBytes 4 m.2.2) ++
  leBytes 8 r.lossBound ++ leBytes 8 r.gap ++ leBytes 2 r.losses.length ++ r.losses.flatMap (leBytes 4) ++ leBytes 4 r.many

/-- R324: a loss record as bytes. -/
def lossBytes (r : LossRec) : List Byte :=
  leBytes 4 r.no ++ leBytes 4 r.before.toNat ++ leBytes 4 r.after.toNat ++ leBytes 1 r.cause ++ leBytes 8 r.s ++ leBytes 8 r.sUtc ++ leBytes 4 r.sEpoch.toNat ++
  leBytes 8 r.resetUtc ++ leBytes 1 r.resetValid.toNat ++ leBytes 8 r.restartUtc ++ leBytes 1 r.torn.toNat ++
  leBytes 1 r.unbounded.toNat ++ r.bounds.flatMap (leBytes 8)

/-- R368: the value of an object and who may get it; none: there is no such object. -/
def objValue (s : Dev) (id : Word) : Option (List Byte × (Role → Bool)) :=
  let cls := id.toNat / 2 ^ 24
  let inst := id.toNat / 2 ^ 8 % 2 ^ 16
  let attr := id.toNat % 2 ^ 8
  match cls with
  | 0x01 => if inst < 80 && attr = 0 then some (leBytes 8 (s.get64 (MTR_E_LO inst)).toNat ++ leBytes 4 (s.rd (MTR_E_WRAP inst)).toNat, isPublic) else none
  | 0x02 => if inst < 40 && attr < 9 then some (energyBytes ((s.tariffs inst).getD attr 0), isPublic) else none
  | 0x03 =>
    if 20 ≤ inst then none
    else if attr < 9 then
      some (leBytes 4 (s.rd (BIL_DMAX_VALUE inst attr)).toNat ++ leBytes 4 (s.rd (BIL_DMAX_UTC inst attr)).toNat ++
        leBytes 4 (s.rd (BIL_DMAX_MARKS inst attr)).toNat, isPublic)
    else if attr = 0xFF then some (leBytes 4 (s.rd (BIL_DNOW_VALUE inst)).toNat ++ leBytes 4 (s.rd (BIL_DNOW_MARKS inst)).toNat, isPublic)
    else none
  | 0x04 => if attr = 0 then (s.bil.history.find? (fun r => r.no % 65536 == inst)).map (fun r => (periodBytes r, isOperator)) else none
  | 0x05 =>
    if attr = 0 then (s.bil.archive.find? (fun m => m.no % 65536 == inst)).map (fun m => (manBytes m, ownsSession m.outlet m.sid))
    else none
  | 0x06 =>
    if 1 ≤ inst && inst ≤ 12 && attr = 0 then
      let i := inst - 1
      some (leBytes 4 (s.rd (BIL_TAMP_COUNT i)).toNat ++ leBytes 4 (s.rd (BIL_TAMP_FIRST i)).toNat ++
        leBytes 4 (s.rd (BIL_TAMP_LAST i)).toNat ++ leBytes 4 (s.rd (BIL_TAMP_TIMES i)).toNat, isOperator)
    else none
  | 0x07 => if attr = 0 then (s.mtr.losses.find? (fun r => r.no % 65536 == inst)).map (fun r => (lossBytes r, isOperator)) else none
  | 0x08 =>
    let c := (s.bil.pendingCfg.map (·.2)).getD s.bil.cfg
    if inst != 0 then none
    else match attr with
      | 0 => some (leBytes 4 c.cfg.toNat, isPublic)
      | 1 => some (leBytes 4 c.tz.toNat, isPublic)
      | 2 => some (dstBytes c.dstBegin ++ dstBytes c.dstEnd, isPublic)
      | 3 => some (calendarBytes c.cal, isPublic)
      | _ => none
  | 0x09 =>
    if inst != 0 then none
    else match attr with
      | 0 => some (s.bil.scrollOut.flatMap (fun x => leBytes 2 x.toNat), isPublic)
      | 1 => some (s.bil.scrollDsp.flatMap (fun x => leBytes 2 x.toNat), isPublic)
      | 2 => some (leBytes 1 s.bil.dwell, isPublic)
      | _ => none
  | 0x0A =>
    if 64 ≤ inst || 4 ≤ attr then none
    else
      let x : CalItem := if inst < 16 then .channel (Fin.ofNat 16 inst) (Fin.ofNat 4 attr) 0 else .head (Fin.ofNat 48 (inst - 16)) (Fin.ofNat 4 attr) 0
      some (leBytes 4 (s.rd (calItemReg x)).toNat, isOperator)
  | 0x0B => if inst = 0 && attr = 0 then some (leBytes 8 s.utcNow ++ leBytes 1 s.utcValid.toNat, isPublic) else none
  | 0x0C => if inst = 0 && attr = 0 then some (leBytes 1 (s.flag BIL_STATUS_SEAL_BROKEN).toNat, isPublic) else none
  | 0x0D =>
    if inst < 16 && attr = 0 then
      let n : Fin 16 := Fin.ofNat 16 inst
      let sid := s.get64 (VSS_OUT_SID_LO inst)
      let f := s.sessionFigures n
      some (leBytes 8 sid.toNat ++ leBytes 4 (s.rd (VSS_OUT_STATE inst)).toNat ++ leBytes 8 f.1 ++ leBytes 8 f.2.1 ++ leBytes 8 f.2.2,
        ownsSession inst sid)
    else none
  | _ => none

/-! SET and ACTION -/

/-- R353: a calendar SET. -/
def calendarSet (s : Dev) (o : ObjSrc) (x : CalSet) : Dev :=
  s.objRequest o true isInstaller (fun c r s =>
    if !calSetOk x then s.objReply o ST_BAD_PARAM
    else
      let base := (s.bil.pendingCfg.map (·.2)).getD s.bil.cfg
      let s := (s.objRecord c r (calSetId x)).keepObj (.calendar x)
      let s := s.modBil (fun b => { b with pendingCfg := some (s.utcNow / 60000 + 1, applyCalSet base x) })
      (s.bookTamper tpConfig).objReply o ST_OK)

/-- R366: what a scroll SET changes. -/
def applyScroll (s : Dev) (x : ScrollSet) : Dev :=
  s.modBil (fun b => match x with
    | .outlets l => { b with scrollOut := l }
    | .port l => { b with scrollDsp := l }
    | .dwell n => { b with dwell := n })

/-- R366: a scroll SET. -/
def scrollSet (s : Dev) (o : ObjSrc) (x : ScrollSet) : Dev :=
  s.objRequest o true isInstaller (fun c r s =>
    if !scrollSetOk x then s.objReply o ST_BAD_PARAM
    else (((((s.objRecord c r (scrollSetId x)).keepObj (.scroll x)).applyScroll x).bookTamper tpConfig).objReply o ST_OK))

/-- R327: calibration written before a block begins holds for it. -/
def applyCal (s : Dev) (begin_ : Nat) : Dev :=
  let due := s.mtr.pendCal.filter (fun p => decide (p.1 ≤ begin_))
  let s := s.modMtr (fun m => { m with pendCal := m.pendCal.filter (fun p => !decide (p.1 ≤ begin_)) })
  s.forEach due (fun p s => s.wr (calItemReg p.2) (calItemValue p.2))

/-- R342: a head whose calibration is applied is tested from step AGREE when it is ADMITTED or TESTING. -/
def calRetest (s : Dev) (h : Fin 48) : Dev :=
  if s.headState h = hdAdmitted || s.headState h = hdTesting then s.setHead h hdTesting 0 tsAgree else s

/-- R327: a calibration write. -/
def calibrationWrite (s : Dev) (o : ObjSrc) (x : CalItem) : Dev :=
  s.objRequest o true isMetrologist (fun c r s =>
    let live := match x with
      | .head h _ _ => s.energised (h.val / 3)
      | .channel _ _ _ => false
    if !calItemOk x then s.objReply o ST_BAD_PARAM
    else if live then s.objReply o ST_BUSY_LIVE
    else
      let s := (s.objRecord c r (calItemId x)).keepObj (.calibration x)
      let s := s.modMtr (fun m => { m with pendCal := m.pendCal ++ [(s.dt, x)] })
      let s := s.bump MTR_CAL_CNT
      let s := s.ledger LG_CAL_VALUES (leBytes 4 (calItemId x).toNat ++ leBytes 4 (s.rd (calItemReg x)).toNat ++ leBytes 4 (calItemValue x).toNat)
      let s := match x with
        | .head h _ _ => (s.calRetest h).post EV_MTR_CAL_CHANGED (leBytes 1 h)
        | .channel ch _ _ => s.post EV_MTR_CAL_CHANGED (leBytes 1 ch)
      (s.bookTamper tpCalibration).objReply o ST_OK)

/-- R360: a SET of legal time. -/
def legalTimeSet (s : Dev) (o : ObjSrc) (u : Nat) : Dev :=
  s.objRequest o true isOperator (fun c r s =>
    if u < timeMin || timeMax < u then s.objReply o ST_BIL_TIME_RANGE
    else ((s.objRecord c r (objId 0x0B 0 0)).setLegal u).objReply o ST_OK)

/-- R357: a close ACTION; without an open period there is nothing to close. -/
def periodCloseAction (s : Dev) (o : ObjSrc) : Dev :=
  s.objRequest o (s.flag BIL_STATUS_RUN) isOperator (fun c r s =>
    ((s.objRecord c r (objId 0x04 (s.get BIL_PERIOD_NO_NO) 0)).turnPeriod s.utcNow pmCommand 0).objReply o ST_OK)

/-- R372: MAG_STARTUP is cleared. -/
def magClear (s : Dev) (o : ObjSrc) : Dev :=
  s.objRequest o true isOperator (fun c r s =>
    ((s.objRecord c r (objId 0x06 tpMagnetic 0)).setb BIL_TAMP_STATUS_MAG_STARTUP false).objReply o ST_OK)

/-- R325: an UNBOUNDED loss record is acknowledged. -/
def unboundedAck (s : Dev) (o : ObjSrc) (number : Nat) : Dev :=
  s.objRequest o (s.mtr.losses.any (fun r => r.unbounded && r.no % 65536 == number)) isMetrologist (fun c r s =>
    ((s.objRecord c r (objId 0x07 number 0)).setb MTR_STATUS_LOSS_UNBOUNDED false).objReply o ST_OK)

/-- R370: the seal takes a state. -/
def setSeal (s : Dev) (broken : Bool) : Dev :=
  (s.setb BIL_STATUS_SEAL_BROKEN broken).post EV_BIL_SEAL_CHANGED (leBytes 1 broken.toNat)

/-- R370: a break ACTION. -/
def sealBreak (s : Dev) (o : ObjSrc) : Dev :=
  s.objRequest o true isInstaller (fun c r s =>
    if s.get VSS_STATUS_ENERGISED != 0 then s.objReply o ST_BUSY_LIVE
    else ((((s.objRecord c r (objId 0x0C 0 0)).setSeal true).flagSessions mfSealBroken).bookTamper tpSeal).objReply o ST_OK)

/-- R370: a reseal ACTION. -/
def sealReseal (s : Dev) (o : ObjSrc) : Dev :=
  s.objRequest o true isMetrologist (fun c r s =>
    (((s.objRecord c r (objId 0x0C 0 0)).setSeal false).endAssoc c).objReply o ST_OK)

/-! The archive (R376, R377) -/

/-- R376: manifests that wait are signed in MAN_NO order when the slot is usable under the same identity; a manifest whose signature
changes its bytes changes PREV_DIGEST of the one after it. -/
def lateSign (s : Dev) : Dev :=
  match s.usableKey (s.get BIL_MAN_CFG_KEY_SLOT) kuManifest with
  | none => s
  | some r =>
    let gen := s.get GEN_LIFECYCLE_IDENTITY_GEN
    if s.unsigned = 0 then s
    else
      let step := fun (acc : List Manifest × Option (Nat × List Byte)) (m : Manifest) =>
        if m.sig.isEmpty && m.identGen == gen then
          let prev := match acc.2 with
            | some (no, d) => if no + 1 = m.no then d else m.prevDigest
            | none => m.prevDigest
          let m := { m with
            alg := manAlg r.type
            flags := m.flags ||| 2 ^ 10
            prevDigest := prev }
          let m := { m with sig := signWith r (manBody m) }
          (acc.1 ++ [m], some (m.no, manDigest m))
        else (acc.1 ++ [m], acc.2)
      let q := s.bil.archive.foldl step ([], none)
      let last := match q.2 with
        | some (no, d) => if no + 1 = (s.get64 BIL_MAN_NO_LO).toNat then d else s.bil.lastDigest
        | none => s.bil.lastDigest
      let s := (s.modBil (fun b =>
        { b with
          archive := q.1
          lastDigest := last })).manStatus
      s.bindSlot

/-- R375: MAN_READ. -/
def manRead (s : Dev) (src : Src) (first count resLen : Nat) : Dev :=
  if count = 0 || 16 < count then s.complete src ST_BAD_PARAM
  else if resLen < 520 * count then s.complete src ST_HIF_BAD_ADDR
  else
    let l := (s.bil.archive.filter (fun m => decide (first ≤ m.no))).take count
    s.complete src ST_OK (BitVec.ofNat 32 l.length) (l.flatMap manBytes)

/-- R377: MAN_ACK. -/
def manAck (s : Dev) (src : Src) (last : Nat) : Dev :=
  let s := (s.modBil (fun b => { b with archive := b.archive.filter (fun m => decide (last < m.no)) })).manStatus
  let s := if s.bil.archive.length < 1900 then
      (s.modBil (fun b => { b with highTold := false })).setb BIL_STATUS_ARCHIVE_HIGH false
    else s
  s.complete src ST_OK

end Dev

/-! The commands -/

/-- A request of object access (R368): in FW_BAD its opcodes are not served (R513). -/
def State.onObj (s : State) (o : ObjSrc) (f : Dev → Dev) : Host.Outcome State Fault Refusal :=
  s.onLive (fun d => if d.serving then f d else d.objReply o ST_HIF_NOT_IN_CHANNEL)


/-- R369: OBJ_CHALLENGE. -/
def effObjChallenge (o : ObjSrc) (s : Dev) : Dev := s.challenge o

def execObjChallenge (o : ObjSrc) (s : State) : Host.Outcome State Fault Refusal := s.onObj o (effObjChallenge o)

/-- R369: OBJ_LOGIN. -/
def effObjLogin (o : ObjSrc) (x : Login) (s : Dev) : Dev := s.login o x

def execObjLogin (o : ObjSrc) (x : Login) (s : State) : Host.Outcome State Fault Refusal := s.onObj o (effObjLogin o x)

/-- R368: OBJ_GET. -/
def effObjGet (o : ObjSrc) (id : Word) (s : Dev) : Dev :=
  match s.objValue id with
  | none => s.objRequest o false isPublic (fun _ _ s => s)
  | some (v, need) => s.objRequest o true need (fun _ _ s => s.objReply o ST_OK v)

def execObjGet (o : ObjSrc) (id : Word) (s : State) : Host.Outcome State Fault Refusal := s.onObj o (effObjGet o id)

/-- R369: OBJ_END. -/
def effObjEnd (o : ObjSrc) (s : Dev) : Dev := s.objRequest o true isPublic (fun c _ s => (s.endAssoc c).objReply o ST_OK)

def execObjEnd (o : ObjSrc) (s : State) : Host.Outcome State Fault Refusal := s.onObj o (effObjEnd o)

/-- R369: ASSOCIATION_TIMEOUT. -/
def effAssociationTimeout (c : Channel) (s : Dev) : Dev :=
  match s.assocOf c with
  | some a => (s.reach (a.last + Dev.sec 600)).endAssoc c
  | none => s

def execAssociationTimeout (c : Channel) (s : State) : Host.Outcome State Fault Refusal := s.onRun (effAssociationTimeout c)

/-- R369: ACCESS_LOCK_EXPIRY. -/
def effAccessLockExpiry (c : Channel) (s : Dev) : Dev :=
  match (s.accessOf c).locked with
  | some t => (s.reach (t + Dev.sec 600)).modAccess c (fun a => { a with locked := none })
  | none => s

def execAccessLockExpiry (c : Channel) (s : State) : Host.Outcome State Fault Refusal := s.onRun (effAccessLockExpiry c)

/-- R360: LEGAL_TIME_SET. -/
def effLegalTimeSet (o : ObjSrc) (utc : Nat) (s : Dev) : Dev := s.legalTimeSet o utc

def execLegalTimeSet (o : ObjSrc) (utc : Nat) (s : State) : Host.Outcome State Fault Refusal := s.onObj o (effLegalTimeSet o utc)

/-- R353: CALENDAR_SET. -/
def effCalendarSet (o : ObjSrc) (x : CalSet) (s : Dev) : Dev := s.calendarSet o x

def execCalendarSet (o : ObjSrc) (x : CalSet) (s : State) : Host.Outcome State Fault Refusal := s.onObj o (effCalendarSet o x)

/-- R366: SCROLL_SET. -/
def effScrollSet (o : ObjSrc) (x : ScrollSet) (s : Dev) : Dev := s.scrollSet o x

def execScrollSet (o : ObjSrc) (x : ScrollSet) (s : State) : Host.Outcome State Fault Refusal := s.onObj o (effScrollSet o x)

/-- R327: CALIBRATION_WRITE. -/
def effCalibrationWrite (o : ObjSrc) (x : CalItem) (s : Dev) : Dev := s.calibrationWrite o x

def execCalibrationWrite (o : ObjSrc) (x : CalItem) (s : State) : Host.Outcome State Fault Refusal := s.onObj o (effCalibrationWrite o x)

/-- R357: PERIOD_CLOSE_ACTION. -/
def effPeriodCloseAction (o : ObjSrc) (s : Dev) : Dev := s.periodCloseAction o

def execPeriodCloseAction (o : ObjSrc) (s : State) : Host.Outcome State Fault Refusal := s.onObj o (effPeriodCloseAction o)

/-- R372: MAG_STARTUP_CLEAR. -/
def effMagStartupClear (o : ObjSrc) (s : Dev) : Dev := s.magClear o

def execMagStartupClear (o : ObjSrc) (s : State) : Host.Outcome State Fault Refusal := s.onObj o (effMagStartupClear o)

/-- R325: UNBOUNDED_ACKNOWLEDGE. -/
def effUnboundedAcknowledge (o : ObjSrc) (number : Code) (s : Dev) : Dev := s.unboundedAck o number.toNat

def execUnboundedAcknowledge (o : ObjSrc) (number : Code) (s : State) : Host.Outcome State Fault Refusal :=
  s.onObj o (effUnboundedAcknowledge o number)

/-- R370: SEAL_BREAK. -/
def effSealBreak (o : ObjSrc) (s : Dev) : Dev := s.sealBreak o

def execSealBreak (o : ObjSrc) (s : State) : Host.Outcome State Fault Refusal := s.onObj o (effSealBreak o)

/-- R370: SEAL_RESEAL. -/
def effSealReseal (o : ObjSrc) (s : Dev) : Dev := s.sealReseal o

def execSealReseal (o : ObjSrc) (s : State) : Host.Outcome State Fault Refusal := s.onObj o (effSealReseal o)

/-- R375: MAN_READ. -/
def effManRead (src : Src) (first : Id64) (count : Byte) (resLen : Nat) (s : Dev) : Dev := s.manRead src first.toNat count.toNat resLen

def execManRead (src : Src) (first : Id64) (count : Byte) (resLen : Nat) (s : State) : Host.Outcome State Fault Refusal :=
  s.onHost src false false (effManRead src first count resLen)

/-- R377: MAN_ACK. -/
def effManAck (src : Src) (last : Id64) (s : Dev) : Dev := s.manAck src last.toNat

def execManAck (src : Src) (last : Id64) (s : State) : Host.Outcome State Fault Refusal := s.onHost src false false (effManAck src last)

end Sys2Proof.Machine
end

