-- ==== Sys2Proof/Machine/Commit.lean ====
section
/-! DEFINITION. The commit of a metering block (R309) and everything that falls in it: votes, grid points, tariffs, pulses, sessions. -/

namespace Sys2Proof.Machine
namespace Dev

/-- R309: the end of the block to be committed: the one after the last committed, or the newest that has ended. -/
def blockEnd (s : Dev) : Nat := max (ms ((s.get64 MTR_BLOCK_LO).toNat + 1)) (s.dt / ms 1 * ms 1)

/-- R44, R45: measured power of a stage at port A, in W. -/
def stagePower (s : Dev) (st : Nat) : Option Int :=
  match s.stageNode st with
  | none => none
  | some i =>
    match s.teleOf i 0, s.teleOf i 1 with
    | some v, some a => some (F32.toRat v.1 * F32.toRat a.1 + 1 / 2).floor
    | _, _ => none

/-- R45: the measured power of a grid point's AFE stages. -/
def afePower (s : Dev) (g : Nat) : Int :=
  (List.range 64).foldl (fun a st =>
    if s.stageRole st == 1 && s.stageAttach st == g then a + (s.stagePower st).getD 0 else a) 0

/-- R44, R45: at each block the mean power of the last 10 blocks, where at least 8 are valid, less the AFE stages' is a sample of the point's
base load. -/
def baseSample (s : Dev) (g : Fin 2) : Dev :=
  let v := (s.mtr.gpBlocks[g]).filterMap id
  if v.length < 8 then s
  else
    let p := v.sum / (v.length : Int) - s.afePower g
    s.putAlc { s.alc with
      baseSamples := vupd s.alc.baseSamples g (fun l => (s.dt, p) :: l.filter (fun q => decide (s.dt < q.1 + sec 1))) }

/-- R311, R72: a grid point's block, and what its loss or its return starts. -/
def commitGrid (s : Dev) (g : Fin 2) (x : GpSamples) : Dev :=
  let was := s.flag (MTR_GP_STATUS_LOST g)
  let s := (s.gridBlock g x).baseSample g
  let lost := s.flag (MTR_GP_STATUS_LOST g)
  (s.when (!was && lost) (·.gridPointLost g)).when (was && !lost) (·.gridPointBack g)

/-- R374: sessions whose metered interval begins in the block that ends at `b`, before it is booked. -/
def startIntervals (s : Dev) (b : Nat) : Dev :=
  s.forEach (idx 16) (fun n s =>
    let x := s.sess n
    if x.start.isNone && x.energisedAt.any (fun t => decide (t ≤ b)) then
      s.modSess n (fun x => { x with start := some (s.manStart n b) })
    else s)

/-- R374: sessions whose metered interval ends in the block that ends at `b`, once it is booked. -/
def endIntervals (s : Dev) (b : Nat) : Dev :=
  s.forEach (idx 16) (fun n s =>
    let x := s.sess n
    if x.stop.isNone && x.start.isSome && x.openedAt.any (fun t => decide (t ≤ b)) then
      (s.modSess n (fun x => { x with stop := some (s.manEnd n b) })).settleManifest n
    else s)

/-- R272: energy delivered in a session so far, in mWh. -/
def delivered (s : Dev) (n : Fin 16) : Nat := s.energy (qOut n 0) - (s.sess n).imp0

/-- R272, R277: a session whose ENERGY_CAP (Wh) is reached stops. -/
def capReached (s : Dev) (n : Fin 16) : Dev :=
  let x := s.sess n
  if s.sessState n = ssCharging && x.cap != 0 && decide (x.cap * 1000 ≤ s.delivered n) then s.endSession n ocNormalHost else s

/-- R336, R309, R321: an outlet's block is voted and booked. -/
def commitOutlet (s : Dev) (n : Fin 16) (b : Nat) : Dev :=
  let r := s.triadBlock n b
  let e := r.2.getD 0
  let q := fun (j : Nat) => (Fin.ofNat 80 (qOut n j) : Fin 80)
  let s := r.1.bookSigned (q 0) (q 1) (q 2) e
  s.modMtr (fun m => { m with blocks := vupd m.blocks n (fun l => (e.natAbs :: l).take 100) })

/-- R309: the commit of the block that ends at `b`. -/
def commitBlock (s : Dev) (b : Nat) (gp0 gp1 : GpSamples) : Dev :=
  let s := (s.applyCal (b - ms 1)).startIntervals b
  let s := ((s.commitGrid 0 gp0).commitGrid 1 gp1).forEach (idx 16) (fun n s => s.commitOutlet n b)
  let s := s.modMtr (fun m => { m with frames := m.frames.map (fun l => l.filter (fun f => decide (b ≤ f.dt))) })
  let s := (s.billBlock b).set64 MTR_BLOCK_LO (BitVec.ofNat 64 (b / ms 1))
  let s := (s.pulsesDue).endIntervals b
  s.forEach (idx 16) (fun n s => s.capReached n)

end Dev

/-! The command -/

/-- R309: BLOCK_COMMIT. -/
def effBlockCommit (gp0 gp1 : GpSamples) (s : Dev) : Dev :=
  let b := s.blockEnd
  (s.reach b).commitBlock b gp0 gp1

def execBlockCommit (gp0 gp1 : GpSamples) (s : State) : Host.Outcome State Fault Refusal := s.onRun (effBlockCommit gp0 gp1)

end Sys2Proof.Machine
end

