-- ==== Sys2Proof/Machine/Saf.lean ====
section
/-! DEFINITION. Safety functions (R408 to R426): inputs, faults, functions, site stops, outlet enables and safe outputs. The two channels run
the same functions, each on its own readings of the pins and with its own states (R21, R408); the registers show what both grant. -/

namespace Sys2Proof.Machine

/-- R425: pair states. -/
def spOff : Nat := 0
def spDemanded : Nat := 1
def spRun : Nat := 2
def spWaitReset : Nat := 3
def spWaitTest : Nat := 4
def spFault : Nat := 5
def spWaitRelease : Nat := 6

/-- R413: functions. -/
def sfnNone : Nat := 0
def sfnEstop : Nat := 1
def sfnGuard : Nat := 2
def sfnCurtain : Nat := 3
def sfnTwohand : Nat := 4
def sfnReset : Nat := 5

/-- R410: modes. -/
def smContactEq : Nat := 0
def smContactAnt : Nat := 1
def smOssd : Nat := 2

/-- R413: the modes a function permits. -/
def funcModeOk (func mode : Nat) : Bool :=
  if 5 < func || 2 < mode then false
  else if func = sfnEstop then mode != smOssd
  else if func = sfnCurtain then mode == smOssd
  else if func = sfnTwohand || func = sfnReset then mode == smContactAnt
  else true

namespace Dev

def modSaf (s : Dev) (f : Saf → Saf) : Dev := s.putSaf (f s.saf)
def modChan (s : Dev) (c : Fin 2) (f : SafChan → SafChan) : Dev := s.modSaf (fun x => { x with chans := vupd x.chans c f })
def modPair (s : Dev) (c : Fin 2) (p : Fin 8) (f : SafPair → SafPair) : Dev := s.modChan c (fun x => { x with pairs := vupd x.pairs p f })

def chan (s : Dev) (c : Fin 2) : SafChan := s.saf.chans[c]
def chanPair (s : Dev) (c : Fin 2) (p : Fin 8) : SafPair := (s.chan c).pairs[p]

def pairFunc (s : Dev) (p : Nat) : Nat := s.get (SAF_PAIR_CFG_FUNC p)
def pairMode (s : Dev) (p : Nat) : Nat := s.get (SAF_PAIR_CFG_MODE p)
def pairState (s : Dev) (c : Fin 2) (p : Fin 8) : Nat := (s.chanPair c p).state
def pairFault (s : Dev) (c : Fin 2) (p : Fin 8) : Nat := (s.chanPair c p).fault

/-- A pair takes a state in one channel. -/
def pairTo (s : Dev) (c : Fin 2) (p : Fin 8) (st : Nat) : Dev := s.modPair c p (fun x => { x with state := st })

/-! Inputs (R410, R411) -/

/-- R411: one pin at one evaluation of a channel. In OSSD mode a high level counts at once and a low one when it has lasted TP_MAX. -/
def pinStep (s : Dev) (c : Fin 2) (i : Fin 16) (raw : Bool) : Dev :=
  let p := i.val / 2
  let x := (s.chan c).pins[i]
  let need : Nat :=
    if s.pairMode p = smOssd then (if raw then 0 else us (100 * s.get (SAF_PAIR_TIME_TP_MAX p)))
    else us (500 * s.get (SAF_PAIR_TIME_FILTER p))
  let since := match x.cand with
    | some (l, t) => if l == raw then t else s.dt
    | none => s.dt
  let y : SafPin :=
    if x.level == some raw then ⟨x.level, none⟩
    else if since + need ≤ s.dt then ⟨some raw, none⟩
    else ⟨x.level, some (raw, since)⟩
  s.modChan c (fun z => { z with pins := vupd z.pins i (fun _ => y) })

/-- The filtered level of pin `i` in a channel. -/
def pinLevel (s : Dev) (c : Fin 2) (i : Nat) : Option Bool := ((s.chan c).pins.toList[i]?).bind (·.level)

/-- R410, R411: whether each pin of a pair shows the actuated state to a channel; none until both have passed the filter. -/
def pairChannels (s : Dev) (c : Fin 2) (p : Fin 8) : Option (Bool × Bool) :=
  match s.pinLevel c (2 * p.val), s.pinLevel c (2 * p.val + 1) with
  | some a, some b => some (!a, if s.pairMode p = smContactAnt then b else !b)
  | _, _ => none

/-- R411: the pins call for the actuated state: one of them shows it. -/
def pinsActuated (s : Dev) (c : Fin 2) (p : Fin 8) : Bool := (s.pairChannels c p).any (fun q => q.1 || q.2)

/-- R411, R412: the pair is treated as actuated; so is one whose pins have not passed the filter yet (DEDUCED, log entry 41). -/
def pairActuated (s : Dev) (c : Fin 2) (p : Fin 8) : Bool :=
  s.pairFault c p != 0 || (s.pairChannels c p).isNone || s.pinsActuated c p

/-- Both pins show the actuated state. -/
def pairBoth (s : Dev) (c : Fin 2) (p : Fin 8) : Bool := s.pairChannels c p == some (true, true)

/-! Faults (R412) -/

/-- R412: a pair takes a fault; one that has a fault keeps it. -/
def takeFault (s : Dev) (c : Fin 2) (p : Fin 8) (f : Nat) : Dev :=
  s.modPair c p (fun x => if x.fault = 0 then { x with fault := f, clearAt := none } else x)

/-- R411, R412: the faults of a pair at one evaluation. -/
def pairFaults (s : Dev) (c : Fin 2) (p : Fin 8) (cross short : Bool) : Dev :=
  let contact := s.pairMode p != smOssd
  let differ := (s.pairChannels c p).any (fun q => q.1 != q.2)
  let since := (s.chanPair c p).differAt.getD s.dt
  let s := s.modPair c p (fun x => { x with differAt := if differ then some since else none })
  let s := s.when (differ && decide (since + ms (s.get (SAF_PAIR_TIME_DISC p)) < s.dt)) (·.takeFault c p 1)
  let s := s.when (contact && cross) (·.takeFault c p 2)
  let s := s.when (contact && short) (·.takeFault c p 3)
  if s.pairFault c p = 0 || s.pairFault c p = 4 then s
  else if s.pairBoth c p && !(contact && (cross || short)) then
    let t := (s.chanPair c p).clearAt.getD s.dt
    if t + sec 1 ≤ s.dt then s.modPair c p (fun x => { x with fault := 0, clearAt := none })
    else s.modPair c p (fun x => { x with clearAt := some t })
  else s.modPair c p (fun x => { x with clearAt := none })

/-! Enables and outputs (R418, R420) -/

/-- R420: the safety enable of an outlet: both channels grant it. -/
def safeEnable (s : Dev) (n : Nat) : Bool :=
  s.flag SAF_STATUS_CONFIRMED && !s.flag SAF_STATUS_XMON_FAULT && s.get SAF_STATUS_SITE_STOP == 0 && !s.flag (THM_CAB_STATUS_HARD n) &&
    !s.testRuns 0x0A &&
    (List.range 8).all (fun p =>
      !((s.pairFunc p == sfnGuard || s.pairFunc p == sfnCurtain) && (s.get (SAF_PAIR_MASK_OUT_MASK p)).testBit n) ||
        s.get (SAF_PAIR_STATUS_STATE p) == spRun)

/-- R413, R414, R416, R418: in a channel a pair holds the outputs of its SOUT_MASK off. -/
def pairHoldsOff (s : Dev) (c : Fin 2) (p : Fin 8) : Bool :=
  let f := s.pairFunc p
  if f = sfnEstop then
    s.pairState c p != spRun &&
      (match (s.chanPair c p).cat1At with
       | some t => (s.chan c).stop == 2 || decide (t + ms (s.get SAF_CFG_STOP1_T) ≤ s.dt)
       | none => true)
  else if f = sfnGuard || f = sfnCurtain then s.pairState c p != spRun
  else if f = sfnTwohand then p.val % 2 == 0 && s.pairState c p != spRun
  else false

/-- R418: a channel's element of an output may be on. -/
def elemOn (s : Dev) (c : Fin 2) (k : Nat) : Bool :=
  s.flag (SAF_SOUT_CFG_EN k) && s.flag SAF_STATUS_CONFIRMED && !s.flag GEN_LIFECYCLE_SAFE_HOLD &&
    (s.life == lfCommissioning || s.life == lfService) && !s.flag SAF_STATUS_XMON_FAULT && !s.flag (SAF_SOUT_STATUS_FAULT k) &&
    !(s.chan c).boot &&
    (idx 8).all (fun (p : Fin 8) => !((s.get (SAF_PAIR_MASK_SOUT_MASK p)).testBit k && s.pairHoldsOff c p))

/-- R418, R420, R425: elements, outputs and enables follow; a latched output keeps what its fault left. -/
def safDrive (s : Dev) : Dev :=
  let s := s.forEach (List.range 4) (fun k s =>
    let a := s.elemOn 0 k
    let b := s.elemOn 1 k
    let s := (s.setBit SAF_STATUS k (a && b)).setb (SAF_SOUT_STATUS_ON k) (a && b)
    if s.flag (SAF_SOUT_STATUS_FAULT k) then s else (s.setb (SAF_SOUT_STATUS_ELEM_A k) a).setb (SAF_SOUT_STATUS_ELEM_B k) b)
  s.set SAF_OUT_EN_EN ((List.range 16).foldl (fun a n => a + (s.safeEnable n).toNat * 2 ^ n) 0)

/-! Site stops (R414) -/

/-- R414: a channel decides a site stop: one of category 0 also replaces one of category 1. -/
def chanStop (s : Dev) (c : Fin 2) (cat1 : Bool) (p : Nat) : Dev :=
  s.modChan c (fun x =>
    if cat1 then (if x.stop = 0 then { x with stop := 1, stopBy := p } else x)
    else if x.stop = 2 then x
    else { x with stop := 2, stopBy := p })

/-- R414, R409: the site stop that the channels report, with what it does when it begins or rises: category 0 governs. -/
def showStop (s : Dev) : Dev :=
  let a := s.chan 0
  let b := s.chan 1
  let was := s.get SAF_STATUS_SITE_STOP
  let now := max a.stop b.stop
  let p := if a.stop = now then a.stopBy else b.stopBy
  let s := s.set SAF_STATUS_SITE_STOP now
  if now = 2 && was != 2 then ((s.post EV_SAF_SITE_STOP (leBytes 1 0 ++ leBytes 1 p)).safDrive).siteTrip ALC_TRIP_CAUSE_ESTOP0
  else if now = 1 && was = 0 then ((s.post EV_SAF_SITE_STOP (leBytes 1 1 ++ leBytes 1 p)).safDrive).refuseAll rsSafetyHold true
  else s.safDrive

/-- R425: the state that a pair shows: that of both channels; while they differ, the one that grants less (DESIGN CHOICE, log entry 41). -/
def jointState (a b : Nat) : Nat :=
  if a = b then a else (([spFault, spDemanded, spWaitTest, spWaitReset, spWaitRelease]).find? (fun v => a == v || b == v)).getD spOff

/-- R425, R426: a pair's register follows the channels, with the events of the change. PIN_A is channel A's and PIN_B channel B's. -/
def showPair (s : Dev) (p : Fin 8) : Dev :=
  let f := s.pairFunc p
  let st0 := s.get (SAF_PAIR_STATUS_STATE p)
  let f0 := s.get (SAF_PAIR_STATUS_FAULT p)
  let st := jointState (s.pairState 0 p) (s.pairState 1 p)
  let ft := if s.pairFault 0 p != 0 then s.pairFault 0 p else s.pairFault 1 p
  let s := (s.set (SAF_PAIR_STATUS_STATE p) st).setBit SAF_STATUS (8 + p.val) (st == spWaitTest)
  let s := s.set (SAF_PAIR_STATUS_FAULT p) ft
  let s := (s.setb (SAF_PAIR_STATUS_PIN_A p) ((s.pinLevel 0 (2 * p.val)).getD false)).setb (SAF_PAIR_STATUS_PIN_B p)
    ((s.pinLevel 1 (2 * p.val + 1)).getD false)
  let s := s.when (f0 == 0 && ft != 0) (·.post EV_SAF_PAIR_FAULT (leBytes 1 p ++ leBytes 1 ft))
  let leaves := f == sfnGuard || f == sfnCurtain || (f == sfnTwohand && p.val % 2 == 0)
  let s := s.when (leaves && st0 == spRun && st != spRun) (·.post EV_SAF_DEMAND (leBytes 1 p))
  s.when (f == sfnGuard && st0 == spWaitTest && st == spRun) (·.post EV_SAF_TEST_DONE (leBytes 1 p))

/-- What the channels have decided takes effect and is shown. -/
def safShow (s : Dev) : Dev := (s.forEach (idx 8) (fun p s => s.showPair p)).showStop

/-! Functions (R413 to R417) -/

/-- R417, R416: a decision that both channels take is reported once: the other channel has not taken it in the last 2 ms (R409). -/
def untold (s : Dev) (t : Option Nat) : Bool := !t.any (fun x => decide (s.dt ≤ x + ms 2))

/-- The other channel. -/
def otherChan (c : Fin 2) : Fin 2 := if c = 0 then 1 else 0

/-- R417: a channel's answer to a reset action, reported once. -/
def resetAnswer (s : Dev) (c : Fin 2) (ok : Bool) : Dev :=
  let told := ((s.chan (otherChan c)).answered).bind (fun q => if q.1 == ok then some q.2 else none)
  let s := s.modChan c (fun x => { x with answered := some (ok, s.dt) })
  s.when (s.untold told) (·.post (if ok then EV_SAF_STOP_RESET else EV_SAF_RESET_REFUSED))

/-- R417: a reset action in a channel. -/
def resetAction (s : Dev) (c : Fin 2) : Dev :=
  let stop := (s.chan c).stop != 0
  let estops := (idx 8).filter (fun (p : Fin 8) => s.pairFunc p == sfnEstop)
  let waiting := (idx 8).filter (fun (p : Fin 8) =>
    (s.pairFunc p == sfnGuard || s.pairFunc p == sfnCurtain) && s.pairState c p == spWaitReset)
  let clears := stop && estops.all (fun p => !s.pairActuated c p)
  let moves := waiting.filter (fun p => !s.pairActuated c p)
  if !stop && waiting.isEmpty then s
  else if !clears && moves.isEmpty then s.resetAnswer c false
  else
    let s := if clears then
        let s := s.modChan c (fun x => { x with stop := 0, boot := false })
        s.forEach estops (fun p s => s.modPair c p (fun x => { x with state := spRun, cat1At := none }))
      else s
    (s.forEach moves (fun p s => s.pairTo c p spRun)).resetAnswer c true

/-- R413, R414: an ESTOP pair. -/
def estopStep (s : Dev) (c : Fin 2) (p : Fin 8) : Dev :=
  let st := s.pairState c p
  if s.pairActuated c p then
    let s := s.pairTo c p (if s.pairFault c p != 0 then spFault else spDemanded)
    if st = spDemanded || st = spFault then s
    else if s.flag (SAF_PAIR_CFG_CAT p) then (s.modPair c p (fun x => { x with cat1At := some (x.cat1At.getD s.dt) })).chanStop c true p
    else (s.modPair c p (fun x => { x with cat1At := none })).chanStop c false p
  else if st = spDemanded || st = spFault then s.pairTo c p spWaitReset
  else s

/-- R413, R415: a GUARD or CURTAIN pair. Channel A keeps the test result. -/
def guardStep (s : Dev) (c : Fin 2) (p : Fin 8) : Dev :=
  let st := s.pairState c p
  if st = spWaitTest then
    let opened := ((s.chanPair c p).opened || s.pairBoth c p) && s.pairFault c p == 0
    let s := s.modPair c p (fun x => { x with opened := opened })
    if opened && !s.pairActuated c p then
      (s.pairTo c p spRun).when (c == 0) (·.modSaf (fun x => { x with tested := vupd x.tested p (fun _ => some (s.rd (SAF_PAIR_CFG p))) }))
    else s
  else if s.pairActuated c p then s.pairTo c p (if s.pairFault c p != 0 then spFault else spDemanded)
  else if st = spDemanded || st = spFault then s.pairTo c p (if s.flag (SAF_PAIR_CFG_RESTART p) then spRun else spWaitReset)
  else s

/-- R416: a two-hand pair, with its partner. With both hands released and nothing to wait for the state is DEMANDED. -/
def twohandStep (s : Dev) (c : Fin 2) (p : Fin 8) : Dev :=
  if p.val % 2 = 1 then s
  else
    let q : Fin 8 := Fin.ofNat 8 (p.val + 1)
    let st := s.pairState c p
    let h1 := !s.pairActuated c p
    let h2 := !s.pairActuated c q
    let t1 := (s.chanPair c p).pressAt.getD s.dt
    let t2 := (s.chanPair c q).pressAt.getD s.dt
    let s := (s.modPair c p (fun x => { x with pressAt := if h1 then some t1 else none })).modPair c q
      (fun x => { x with pressAt := if h2 then some t2 else none })
    let both := fun (s : Dev) (v : Nat) => (s.pairTo c p v).pairTo c q v
    if s.pairFault c p != 0 || s.pairFault c q != 0 then both s spFault
    else if st = spFault then both s spWaitRelease
    else if st = spRun then (if h1 && h2 then s else both s spWaitRelease)
    else if st = spDemanded then
      if !(h1 && h2) then s
      else if max t1 t2 - min t1 t2 ≤ ms 500 then both s spRun
      else
        let told := (s.chan (otherChan c)).syncAt
        ((both s spWaitRelease).modChan c (fun x => { x with syncAt := some s.dt })).when (s.untold told) (·.post EV_SAF_TWOHAND_SYNC_FAIL)
    else both s (if !h1 && !h2 then spDemanded else spWaitRelease)

/-- R417: the RESET pair: the release of an actuation of 100 ms to 5 s. -/
def resetPairStep (s : Dev) (c : Fin 2) (p : Fin 8) : Dev :=
  let bad := s.pairFault c p != 0
  let s := s.pairTo c p (if bad then spFault else spRun)
  let start := (s.chanPair c p).actAt
  if bad then s.modPair c p (fun x => { x with actAt := none })
  else if s.pairActuated c p then
    s.when (s.pinsActuated c p) (·.modPair c p (fun x => { x with actAt := some (start.getD s.dt) }))
  else
    let s := s.modPair c p (fun x => { x with actAt := none })
    s.when (!s.flag SAF_CFG_RESET_SRC && start.any (fun t => decide (t + ms 100 ≤ s.dt) && decide (s.dt ≤ t + sec 5))) (·.resetAction c)

/-- R413: one pair at one evaluation of a channel. -/
def pairStep (s : Dev) (c : Fin 2) (p : Fin 8) : Dev :=
  let f := s.pairFunc p
  if f = sfnEstop then s.estopStep c p
  else if f = sfnGuard || f = sfnCurtain then s.guardStep c p
  else if f = sfnTwohand then s.twohandStep c p
  else if f = sfnReset then s.resetPairStep c p
  else s.pairTo c p spOff

/-- R417: a reset action by the host: both channels take it. -/
def hostResetAction (s : Dev) : Dev := (s.forEach (idx 2) (fun (c : Fin 2) s => s.resetAction c)).safShow

/-! Safe outputs (R419) -/

/-- R419: an output takes a fault: the element that still switches goes off. -/
def soutFault (s : Dev) (k : Fin 4) (cause : Nat) : Dev :=
  if s.flag (SAF_SOUT_STATUS_FAULT k) then s
  else
    let s := (s.setb (SAF_SOUT_STATUS_FAULT k) true).set (SAF_SOUT_STATUS_CAUSE k) cause
    let s := (s.setb (SAF_SOUT_STATUS_ELEM_A k) (cause == 1)).setb (SAF_SOUT_STATUS_ELEM_B k) (cause == 2)
    let s := s.modSaf (fun x => { x with clean := x.clean.set k 0 })
    s.safDrive.post EV_SAF_SOUT_FAULT (leBytes 1 k ++ leBytes 1 cause)

/-- R419: what a readback shows of an output whose elements are commanded `a` and `b`. -/
def soutCause (a b : Bool) (x : SoutRead) : Nat :=
  if !a && x.aOn then 1 else if !b && x.bOn then 2 else if !b && x.vaux then 3 else if a && x.overload then 4 else 0

/-- R419: the readback of the outputs at a switch-off, and overloads. -/
def soutReads (s : Dev) (xs : List SoutRead) : Dev :=
  s.forEach ((idx 4).zip xs) (fun q s =>
    let c := soutCause (s.flag (SAF_SOUT_STATUS_ELEM_A q.1)) (s.flag (SAF_SOUT_STATUS_ELEM_B q.1)) q.2
    if c = 0 || !s.flag (SAF_SOUT_CFG_EN q.1) then s else s.soutFault q.1 c)

/-- R419: a dark test, once in every TP_PERIOD: of an output with TP_EN = 1, and of any whose FAULT is latched. -/
def darkTest (s : Dev) (k : Fin 4) (x : SoutRead) (cross : Option (Fin 4)) : Dev :=
  if !s.flag (SAF_SOUT_STATUS_FAULT k) && !(s.flag (SAF_SOUT_CFG_EN k) && s.flag (SAF_SOUT_CFG_TP_EN k)) then s
  else
    let s := match s.saf.darkAt[k] with
      | some t => s.reach (t + ms (10 * s.get SAF_CFG_TP_PERIOD))
      | none => s
    let c := soutCause false false x
    let s := match cross with
      | some j => (s.soutFault k 5).soutFault j 5
      | none => if c = 0 then s else s.soutFault k c
    let ok := c == 0 && !x.overload && cross.isNone
    s.modSaf (fun z =>
      { z with
        darkAt := vupd z.darkAt k (fun _ => some s.dt)
        clean := vupd z.clean k (fun n => if ok then n + 1 else 0) })

/-- R419: FAULT_CLR. -/
def faultClr (s : Dev) : Dev :=
  let ready := (idx 4).filter (fun (k : Fin 4) => s.flag (SAF_SOUT_STATUS_FAULT k) && decide (2 ≤ s.saf.clean[k]))
  (s.forEach ready (fun k s => (s.setb (SAF_SOUT_STATUS_FAULT k) false).set (SAF_SOUT_STATUS_CAUSE k) 0)).safDrive

/-! The evaluation (R408, R409) -/

/-- R408: one channel evaluates every function on its own readings. -/
def chanEval (s : Dev) (c : Fin 2) (pins : BitVec 16) (x : SafRead) : Dev :=
  let s := s.forEach (idx 16) (fun i s => s.pinStep c i (pins.getLsbD i))
  s.forEach (idx 8) (fun p s =>
    if s.pairFunc p = sfnNone then s.pairTo c p spOff
    else (s.pairFaults c p (x.cross.getLsbD p) (x.short24.getLsbD p)).pairStep c p)

/-- R409: the channels disagree: in their input states, their function states or their output commands. -/
def chansDiffer (s : Dev) : Bool :=
  let a := s.chan 0
  let b := s.chan 1
  decide (a.pins.map (·.level) ≠ b.pins.map (·.level)) || decide (a.pairs.map (fun x => (x.state, x.fault)) ≠ b.pairs.map (fun x => (x.state, x.fault))) ||
    a.stop != b.stop || (List.range 4).any (fun k => s.elemOn 0 k != s.elemOn 1 k)

/-- R409, R412: the channels have disagreed for 2 ms: each does the same on its own. -/
def xmonFault (s : Dev) : Dev :=
  let s := (s.setb SAF_STATUS_XMON_FAULT true).post EV_SAF_XMON_FAULT
  s.forEach (idx 2) (fun (c : Fin 2) s =>
    (s.chanStop c false 0xFF).forEach ((idx 8).filter (fun (p : Fin 8) => s.pairFunc p != sfnNone)) (fun p s => (s.takeFault c p 4).pairStep c p))

def safEval (s : Dev) (x : SafRead) : Dev :=
  let s := (s.chanEval 0 x.pinsA x).chanEval 1 x.pinsB x
  let disagree := s.chansDiffer || !x.beats || !x.checks
  let since := s.saf.xmonAt.getD s.dt
  let s := s.modSaf (fun z => { z with xmonAt := if disagree then some since else none })
  let s := if disagree && decide (since + ms 2 ≤ s.dt) && !s.flag SAF_STATUS_XMON_FAULT then s.xmonFault else s
  (s.soutReads x.souts).safShow

/-! Configuration (R413, R415, R422, R423) -/

/-- R423: the safety parameters are open. -/
def safOpen (s : Dev) : Bool := s.life == lfCommissioning && s.get VSS_STATUS_ENERGISED == 0

/-- R422: the words of the check value, in address order. -/
def safWords : List Nat :=
  [SAF_CFG] ++ (List.range 8).flatMap (fun p => [SAF_PAIR_CFG p, SAF_PAIR_MASK p, SAF_PAIR_TIME p]) ++
    (List.range 4).map (fun k => SAF_SOUT_CFG k)

/-- R422: the check value. -/
def safCheck (s : Dev) : Word := crc32 (safWords.flatMap (fun a => leBytes 4 (s.rd a).toNat))

/-- R422: CONFIRMED clears. -/
def unconfirm (s : Dev) : Dev :=
  let was := s.flag SAF_STATUS_CONFIRMED
  ((s.setb SAF_STATUS_CONFIRMED false).wr SAF_CONFIRM 0).when was (·.post EV_SAF_UNCONFIRMED)

/-- R415, R416: in both channels a pair takes a state and forgets its past; a fault that stands stays. -/
def restartPair (s : Dev) (p : Fin 8) (st : Nat) : Dev :=
  s.forEach (idx 2) (fun (c : Fin 2) s => s.modPair c p (fun x => ⟨st, x.fault, none, none, false, none, none, none⟩))

/-- R415: a pair whose configuration has just been written, and a pair at a start without a test result. -/
def freshPair (s : Dev) (p : Fin 8) : Dev :=
  let f := s.pairFunc p
  (s.modSaf (fun x => { x with tested := vupd x.tested p (fun _ => none) })).restartPair p
    (if f = sfnGuard then spWaitTest else if f = sfnCurtain then spDemanded
     else if f = sfnTwohand then spWaitRelease else if f = sfnNone then spOff else spRun)

/-- R422: an accepted write of a safety parameter. -/
def safWritten (s : Dev) (off : Nat) : Dev :=
  let s := (s.wr SAF_CHECK s.safCheck).unconfirm
  let s := match (idx 8).find? (fun (p : Fin 8) => off == SAF_PAIR_CFG p) with
    | some p => s.freshPair p
    | none => s
  s.safShow

/-- R413: the conditions that join several registers. -/
def safJoint (s : Dev) : Bool :=
  (List.range 8).all (fun p =>
    s.pairFunc p != sfnTwohand ||
      (if p % 2 = 0 then s.pairFunc (p + 1) == sfnTwohand && s.rd (SAF_PAIR_MASK p) == s.rd (SAF_PAIR_MASK (p + 1)) &&
          s.rd (SAF_PAIR_TIME p) == s.rd (SAF_PAIR_TIME (p + 1))
        else s.pairFunc (p - 1) == sfnTwohand)) &&
  decide (((List.range 8).filter (fun p => s.pairFunc p == sfnReset)).length ≤ 1)

/-- R422, R514: the confirmed value is kept in both configuration copies (0: none). -/
def keepConfirm (s : Dev) (v : Word) : Dev :=
  let f := fun (c : CfgCopy) => { c with regs := c.regs.filter (fun r => r.1 != SAF_CONFIRM) ++ [(SAF_CONFIRM, v)] }
  (s.putGen { s.gen with
    cfg0 := f s.gen.cfg0
    cfg1 := f s.gen.cfg1 })

/-- R422, R423: a write to SAF_CONFIRM. -/
def safConfirm (s : Dev) (v : Word) : Dev :=
  if !s.safOpen then s.reject SAF_REJECT_CNT_CNT ST_SAF_NOT_OPEN
  else if v != s.safCheck then s.reject SAF_REJECT_CNT_CNT ST_SAF_CHECK_MISMATCH
  else if !s.safJoint then s.reject SAF_REJECT_CNT_CNT ST_SAF_SAF_PARAM
  else
    let was := s.flag SAF_STATUS_CONFIRMED
    let s := ((s.setb SAF_STATUS_CONFIRMED true).wr SAF_CONFIRM v).keepConfirm v
    ((s.when (!was) (·.post EV_SAF_CONFIRMED)).safDrive).answer ST_OK

end Dev

/-! The commands -/

/-- R408: SAFETY_EVALUATION. -/
def effSafetyEvaluation (x : SafRead) (s : Dev) : Dev :=
  if s.gen.phase = .running then
    let s := s.reach (s.nextMultiple (Dev.us 250) s.saf.lastEval)
    (s.modSaf (fun z => { z with lastEval := some s.dt })).safEval x
  else s

def execSafetyEvaluation (x : SafRead) (s : State) : Host.Outcome State Fault Refusal := s.onRun (effSafetyEvaluation x)

/-- R414: CAT1_OUTPUT_OFF: STOP1_T after the decision of each channel that has decided. -/
def effCat1OutputOff (p : Fin 8) (s : Dev) : Dev :=
  match (idx 2).filterMap (fun (c : Fin 2) => (s.chanPair c p).cat1At) with
  | [] => s
  | t :: ts => (s.reach (ts.foldl max t + Dev.ms (s.get SAF_CFG_STOP1_T))).safDrive

def execCat1OutputOff (p : Fin 8) (s : State) : Host.Outcome State Fault Refusal := s.onRun (effCat1OutputOff p)

/-- R422: SAFETY_CONFIRM. -/
def effSafetyConfirm (value : Word) (s : Dev) : Dev := s.safConfirm value

def execSafetyConfirm (value : Word) (s : State) : Host.Outcome State Fault Refusal := s.onReg 0x0E (effSafetyConfirm value)

/-- R417: SAFETY_HOST_RESET. -/
def effSafetyHostReset (s : Dev) : Dev := (if s.flag SAF_CFG_RESET_SRC then s.hostResetAction else s).answer ST_OK

def execSafetyHostReset (s : State) : Host.Outcome State Fault Refusal := s.onReg 0x0E effSafetyHostReset

/-- R419: SOUT_FAULT_CLEAR. -/
def effSoutFaultClear (s : Dev) : Dev := s.faultClr.answer ST_OK

def execSoutFaultClear (s : State) : Host.Outcome State Fault Refusal := s.onReg 0x0E effSoutFaultClear

/-- R419: SOUT_DARK_TEST. -/
def effSoutDarkTest (k : Fin 4) (x : SoutRead) (cross : Option (Fin 4)) (s : Dev) : Dev := s.darkTest k x cross

def execSoutDarkTest (k : Fin 4) (x : SoutRead) (cross : Option (Fin 4)) (s : State) : Host.Outcome State Fault Refusal :=
  s.onRun (effSoutDarkTest k x cross)

end Sys2Proof.Machine
end

