-- ==== Sys2Proof/Machine/Ready.lean ====
section
/-! DEFINITION. What decides whether an outlet may be served and energised: stage capacity (R46, R47), the refusals of R49, the rows
of R275 and the site conditions of R508. -/

namespace Sys2Proof.Machine
namespace Dev

/-! Stages (R46, R47, R82) -/

/-- R46: the stage counts at a tick. -/
def stageAvailable (s : Dev) (st : Fin 64) : Bool :=
  s.stageMeets st && s.alc.stageSince[st].any (fun t => decide (t + ms 100 ≤ s.dt))

/-- R82: RATING in W. -/
def stageRating (s : Dev) (st : Nat) : Nat := min (s.get (ALC_STAGE_MAP_RATING st)) 1875 * 100

/-- R47: the summed rating of the available stages of a role at an attachment. -/
def stageCapacity (s : Dev) (role attach : Nat) : Nat :=
  sumOf (((idx 64).filter (fun (st : Fin 64) => s.stageRole st == role && s.stageAttach st == attach && s.stageAvailable st)).map
    (fun (st : Fin 64) => s.stageRating st))

/-- R82: roles. -/
def roleAfe : Nat := 1
def roleBattery : Nat := 2
def roleVehicle : Nat := 3

/-! Refusals (R49) -/

/-- R49, R275 row 1: the site-wide part of row 2: the outlet's own safety enable stands apart. -/
def siteHold (s : Dev) (n : Nat) : Bool :=
  s.flag GEN_LIFECYCLE_SAFE_HOLD || !s.flag ALC_CTRL_RUN || s.get SAF_STATUS_SITE_STOP != 0 || !s.flag (ALC_OUT_CFG_EN n)

/-- R448: the manifest signing key is usable. -/
def manKeyUsable (s : Dev) : Bool := (s.usableKey (s.get BIL_MAN_CFG_KEY_SLOT) kuManifest).isSome

/-- R275 row 4: at least 2 admitted heads, and the last metering save counts as good. -/
def triadOk (s : Dev) (n : Nat) : Bool := decide (2 ≤ s.triHealth n) && !s.saveFailed

/-- R49: the first condition that refuses an outlet. -/
def outRefusal (s : Dev) (n : Nat) : Option Nat :=
  if s.flag ALC_STATUS_TRIPPED then some rsSiteTrip
  else if s.siteHold n || !s.safeEnable n then some rsSafetyHold
  else if s.life == lfService && !(s.manKeyUsable && s.triadOk n) then some rsBilling
  else if s.stageCapacity roleVehicle n = 0 then some rsNoStage
  else none

/-- R70, R73, R41, R76: what refuses every string. -/
def strRefusalReason (s : Dev) : Option Nat :=
  if s.flag ALC_STATUS_TRIPPED then some rsSiteTrip
  else if s.flag GEN_LIFECYCLE_SAFE_HOLD || !s.flag ALC_CTRL_RUN || s.get SAF_STATUS_SITE_STOP != 0 then some rsSafetyHold
  else none

/-! The allocator's inputs of an outlet (R44) -/

/-- R44: there is no voted voltage for an outlet in a session; a held one is no voted one. -/
def voltageStale (s : Dev) (n : Fin 16) : Bool := s.sessOpen n && ((s.measOf n).isNone || s.flag (TRI_OUT_STATUS_HELD n))

/-- R44: a remaining energy request is older than 10 s. -/
def energyStale (s : Dev) (n : Fin 16) : Bool :=
  let x := s.sess n
  s.sessState n == ssCharging && !x.load && x.remaining.isSome && decide (x.lastLoop + sec 10 < s.dt)

/-- R44: the vehicle's request is older than 1 s. -/
def requestStale (s : Dev) (n : Fin 16) : Bool :=
  let x := s.sess n
  s.sessState n == ssCharging && !x.load && decide (x.lastLoop + sec 1 < s.dt)

/-- R44: a cable limit is older than 300 ms. -/
def cableStale (s : Dev) (n : Fin 16) : Bool :=
  s.flag (THM_CAB_CFG_EN n) && s.flag THM_CTRL_EN && !(s.cab n).pubDt.any (fun t => decide (s.dt ≤ t + ms 300))

/-- R44, R48, R50, R55, R272: the inputs of one outlet. -/
def outIn (s : Dev) (n : Fin 16) : OutIn :=
  let x := s.sess n
  let st := s.sessState n
  let old := s.requestStale n
  let req := (s.geti (VSS_OUT_REQ_P_REQ n)).toNat
  let vLim := s.get (VSS_OUT_LIM_V_MAX n)
  let iLim := s.get (VSS_OUT_LIM_I_MAX n)
  { en := s.flag (ALC_OUT_CFG_EN n)
    open_ := st != ssIdle
    started := x.opened
    request := if old then min req (s.geti (ALC_GRANT_W0_P_GRANT n)).toNat else req
    vMax := min (s.get (VSS_OUT_EVLIM_EV_VMAX n)) vLim
    iMax := min (s.get (VSS_OUT_EVLIM_EV_IMAX n)) iLim
    offer := x.offer
    remaining := if s.energyStale n then none else x.remaining
    stopping := decide (ssStopping ≤ st)
    cls := if st != ssIdle then x.cls.getD (s.get (ALC_OUT_CFG_CLASS n)) else s.get (ALC_OUT_CFG_CLASS n)
    weight := s.get (ALC_OUT_CFG_WEIGHT n)
    floor := s.get (ALC_OUT_CFG_FLOOR n)
    cap := s.get (ALC_OUT_CAP_CAP n)
    cableA := if s.cableStale n then 0 else s.get (THM_CAB_LIMIT_ILIM n)
    cableTrec := s.get (THM_CAB_LIMIT_TREC n)
    voltage := (match s.measOf n with
      | some (u, _) => (u * 10 / 2 ^ 32).toNat
      | none => 0)
    stageCap := s.stageCapacity roleVehicle n
    refusal := s.outRefusal n
    catOne := s.get SAF_STATUS_SITE_STOP == 1
    stale := old || s.cableStale n || s.voltageStale n || s.energyStale n }

/-! Preconditions (R275) -/

/-- R275 row 5. -/
def cableReady (s : Dev) (n : Fin 16) : Bool :=
  !s.flag (THM_CAB_STATUS_HARD n) &&
    ((s.flag (THM_CAB_CFG_EN n) && s.get (THM_CAB_LIMIT_ILIM n) != 0) || ((s.cab n).ident.isSome && s.flag THM_CTRL_EN))

/-- R275 row 7: a channel of the front-end reads 1. -/
def teleIsOne (s : Dev) (n : Nat) (c : Nat) : Bool :=
  match s.frontEnd n with
  | some i => (match s.teleOf i c with
    | some (v, _) => F32.finite v && F32.toRat v == 1
    | none => false)
  | none => false

/-- R275: the first row that fails, of rows 1 to 6, or of all 7; a LOAD session skips rows 3 and 7 (R279). -/
def waitRow (s : Dev) (n : Fin 16) (all load : Bool) : Option Nat :=
  if s.flag ALC_STATUS_TRIPPED || s.siteHold n then some wtHold
  else if !s.flag SAF_STATUS_CONFIRMED || !s.safeEnable n then some wtSafety
  else if s.life == lfService && !load && !s.manKeyUsable then some wtKey
  else if !s.triadOk n then some wtTriad
  else if !s.cableReady n then some wtCable
  else if s.stageCapacity roleVehicle n = 0 then some wtStage
  else if all && !load && !((s.sess n).plug && s.teleIsOne n 7) then some wtLock
  else none

/-! The site (R508) -/

/-- R508: bits 0 to 12 as they stand; `comm` says that a commissioning session is meant. -/
def siteConditions (s : Dev) (comm : Bool) : List Bool :=
  [ s.life == lfService || (s.life == lfCommissioning && comm), !s.flag GEN_LIFECYCLE_SAFE_HOLD, s.get GEN_PWR_STATE == 0,
    s.flag ALC_CTRL_RUN, s.flag EDG_CTRL_EN, s.flag CLE_CTRL_EN, s.flag THM_CTRL_EN, s.flag VSS_CTRL_EN,
    s.flag SAF_STATUS_CONFIRMED, s.get SAF_STATUS_SITE_STOP == 0, s.life != lfService || s.manKeyUsable,
    !s.flag MTR_STATUS_SAVE_FAILED,
    (List.range 8).all (fun p => !s.flag (PST_PHY_CTL_EN p) || s.pisteState p == phUp) ]

/-- R508: the site conditions hold for an outlet's session. -/
def siteReady (s : Dev) (n : Fin 16) : Bool := (s.siteConditions (s.sess n).comm).all id

/-- A word from bits, the first bit 0. -/
def wordOfBits : List Bool → Nat
  | [] => 0
  | b :: rest => b.toNat + 2 * wordOfBits rest

/-- R508, R526: GEN_CHG_READY as it stands, and CHG_READY when READY changes. -/
def chgReady (s : Dev) : Dev :=
  let c := s.siteConditions ((idx 16).any (fun (n : Fin 16) => s.sessOpen n && (s.sess n).comm))
  let ready := c.all id
  let outs := (idx 16).map (fun (n : Fin 16) => ready && (s.waitRow n false false).isNone)
  let was := s.flag GEN_CHG_READY_READY
  let w := wordOfBits c + ready.toNat * 2 ^ 13 + wordOfBits outs * 2 ^ 16
  (s.wr GEN_CHG_READY (BitVec.ofNat 32 w)).when (ready != was) (·.post EV_GEN_CHG_READY (leBytes 4 w))

/-! Power modes (R516, R517) -/

/-- R517: the modes in force. -/
def pmRun : Nat := 0
def pmIdle : Nat := 1
def pmStandby : Nat := 2
def pmHibernate : Nat := 3

/-- R516, R46: a mode comes into force; outside RUN no stage meets the conditions of availability. -/
def setMode (s : Dev) (m : Nat) : Dev :=
  let was := s.get GEN_PWR_STATE
  let s := (s.set GEN_PWR_MODE m).set GEN_PWR_STATE m
  if was = m then s else (s.refreshStages.post EV_GEN_POWER_MODE (leBytes 1 m)).chgReady

/-- R517: a session in IDLE reaches CableCheck with AUTO_RUN set. -/
def autoRun (s : Dev) : Dev :=
  if s.get GEN_PWR_STATE = pmIdle && s.flag GEN_PWR_AUTO_RUN then s.setMode pmRun else s

end Dev
end Sys2Proof.Machine
end

