-- ==== Sys2Proof/Machine/Vehicle.lean ====
section
/-! DEFINITION. Vehicle sessions (R264 to R284): the vehicle's messages, authorisation, cable check and energisation, the charge loop,
stopping, and the host's commands over sessions. -/

namespace Sys2Proof.Machine

/-- R271, VSS_OUT_STATE.PROTO. -/
def prNone : Nat := 0
def pr20 : Nat := 1
def pr2 : Nat := 2
def prLoad : Nat := 3

namespace Dev

/-! Values -/

/-- R120, R273: the voted or held voltage and current of an outlet, in V and A. -/
def outVolts (s : Dev) (n : Nat) : Rat := ((s.measOf n).map (fun (m : Int × Int) => (m.1 : Rat) / 2 ^ 32)).getD 0
def outAmps (s : Dev) (n : Nat) : Rat := ((s.measOf n).map (fun (m : Int × Int) => (m.2 : Rat) / 2 ^ 32)).getD 0

/-- R283: a real value shown in a register field of `w` bits, rounded down. -/
def natOf (w : Nat) (x : Rat) : Nat := min x.floor.toNat (2 ^ w - 1)

/-- R275: the check voltage in V. -/
def checkVolts (s : Dev) (n : Nat) : Rat := (min (s.get (VSS_OUT_EVLIM_EV_VMAX n)) (s.get (VSS_OUT_LIM_V_MAX n)) : Nat) / 10

/-- R271, R275: the voted voltage is within 20 V of `v`. -/
def within20 (s : Dev) (n : Nat) (v : Rat) : Bool :=
  (s.measOf n).isSome && decide (s.outVolts n ≤ v + 20) && decide (v ≤ s.outVolts n + 20)

/-- R277: the voted current is at or below 5 A. -/
def lowCurrent (s : Dev) (n : Nat) : Bool := (s.measOf n).any (fun (m : Int × Int) => decide (m.2.natAbs ≤ 5 * 2 ^ 32))

/-- R275: write a voltage to the set-point register of PRE_SLOT. -/
def setPoint (s : Dev) (n : Nat) (v : Rat) : Dev := s.wr (CLE_SLOT_SP_REG (s.get (VSS_OUT_CFG_PRE_SLOT n))) (F32.ofRat v)

/-! Responses (R273, R274) -/

/-- R274, R278: what a session that has ended tells its vehicle: ResponseCode FAILED or not, and the EVSEStatus of ISO 15118-2. -/
def endTold (s : Dev) (outcome : Nat) : V2gCode × Nat :=
  if outcome = ocSafety || outcome = ocInterrupted then (.failed, 1)
  else if outcome = ocTrip then (.failed, if s.flag ALC_TRIP_CAUSE_GRID then 2 else 3)
  else (.ok, 0)

/-- R273: the limits of a response, from the grant set last published. -/
def limitsResp (s : Dev) (n : Fin 16) (target : Rat × Rat) : V2gResp :=
  let p := s.geti (ALC_GRANT_W0_P_GRANT n)
  let v := max (s.outVolts n) 100
  let iLim : Rat := min ((s.get (ALC_GRANT_W1_I_LIMIT n) : Rat) / 1000) (s.get (VSS_OUT_LIM_I_MAX n))
  let bpt := s.flag (VSS_OUT_STATE_BPT n)
  let iMax := min iLim ((max 0 p : Int) / v)
  let refused := isRefusal (s.get (ALC_GRANT_W2_REASON n))
  { code := .ok
    ongoing := false
    terminate := false
    status := 0
    pMax := p.toNat
    iMax := (iMax * 10).floor.toNat
    vMax := s.get (VSS_OUT_LIM_V_MAX n)
    pDis := if bpt then (-p).toNat else 0
    iDis := if bpt then (min iLim ((max 0 (-p) : Int) / v) * 10).floor.toNat else 0
    u := (s.outVolts n * 10).floor
    i := (s.outAmps n * 10).floor
    powerLimited := refused || decide ((p.toNat : Rat) ≤ target.1 * target.2)
    currentLimited := decide (iMax ≤ target.2)
    data := []
    offers := []
    schedule := none }

/-- A response with a code and the present values only. -/
def plainResp (s : Dev) (n : Fin 16) (code : V2gCode) (ongoing : Bool) : V2gResp :=
  { code := code, ongoing := ongoing, terminate := false, status := 0, pMax := 0, iMax := 0, vMax := s.get (VSS_OUT_LIM_V_MAX n), pDis := 0,
    iDis := 0, u := (s.outVolts n * 10).floor, i := (s.outAmps n * 10).floor, powerLimited := false, currentLimited := false, data := [], offers := [],
    schedule := none }

/-- R212, R266, R268: an answer goes to the vehicle: the stack's Ethernet frames, whose coding lies outside the spec, go to the front-end in TUN
segments. -/
def toVehicle (s : Dev) (n : Fin 16) (r : V2gResp) : Dev :=
  let s := s.emit (.v2g n r)
  match s.frontEnd n with
  | some i =>
    let f := s.fresh
    f.2.forEach (Config.stackFrames f.1) (fun d s => s.sendEthernet i d)
  | none => s

def reply (s : Dev) (n : Fin 16) (code : V2gCode) (ongoing : Bool := false) : Dev := s.toVehicle n (s.plainResp n code ongoing)

/-- R274: the answer of a session that is stopping or closing. -/
def replyEnded (s : Dev) (n : Fin 16) : Dev :=
  let t := s.endTold (s.sess n).outcome
  s.toVehicle n { s.plainResp n t.1 false with
    terminate := true
    status := if s.get (VSS_OUT_STATE_PROTO n) = pr2 then t.2 else 0
    powerLimited := true }

/-- R271: a request outside the sequence of its state. -/
def sequenceError (s : Dev) (n : Fin 16) : Dev := ((s.bump VSS_PROTO_ERR).reply n .sequenceError).endSession n ocProtocol

/-! Beginning and end of a session (R265, R271) -/

/-- R271: IDLE after SessionStop, 5 s, or for a session that never began. -/
def goIdle (s : Dev) (n : Fin 16) : Dev := (s.enterState n ssIdle).modSess n (fun x => { x with comm := false, load := false })

/-- R374: a manifest still owed by the session before is made now. -/
def settleNow (s : Dev) (n : Fin 16) : Dev :=
  if (s.sess n).manDue then
    (s.modSess n (fun x => { x with manDue := false })).makeManifest (s.sessManifest n)
  else s

/-- R271: a session of the outlet begins, in LINKED or as a LOAD session. -/
def beginSession (s : Dev) (n : Fin 16) (st : Nat) : Dev :=
  let s := s.settleNow n
  let s := s.modSess n (fun x =>
    { Sess.idle with
      plug := x.plug
      link := x.link
      comm := x.comm
      keyTold := x.keyTold
      openedAt := x.openedAt
      opening := x.opening
      failedAt := x.failedAt
      opened := s.dt })
  let s := s.wr (VSS_OUT_STATE n) (BitVec.ofNat 32 (s.get (VSS_OUT_STATE_WELD n) * 2 ^ 21 + s.get (VSS_OUT_STATE_OUTCOME n) * 2 ^ 4))
  let s := (s.wr (VSS_OUT_REQ n) 0).wr (VSS_OUT_EVLIM n) 0
  (s.set64 (VSS_OUT_SID_LO n) 0).enterState n st

/-- R265, R266, R271: what the device has read of the front-end's link; as it comes up the outlet looks for a duplicate of its address. -/
def linkSeen (s : Dev) (n : Fin 16) (link : Nat) (plug : Bool) : Dev :=
  let x := s.sess n
  let open_ := s.sessOpen n && !x.load
  let lost := open_ && x.link == 2 && link != 2
  let s := s.modSess n (fun x => { x with link := link, plug := plug })
  let s := s.when lost (fun s => (s.post EV_VSS_LINK_DOWN).endSession n ocUnplugged)
  let s := s.when (open_ && x.plug && !plug) (·.endSession n ocUnplugged)
  let s := s.when (x.link != 2 && link == 2) (fun s => match s.frontEnd n with
    | some i => s.sendEthernet i (askOwn (s.outMac n))
    | none => s)
  if s.sessState n = ssIdle && link = 2 && s.flag (VSS_OUT_CFG_EN n) && !s.testRuns 0x0A then s.beginSession n ssLinked else s

/-- R271, R277, R509, R461, R517: SessionSetup is answered with FAILED. -/
def setupRefused (s : Dev) (n : Fin 16) : Bool :=
  s.flag GEN_LIFECYCLE_SAFE_HOLD || s.life == lfManufacture || s.life == lfDebugOpen || !s.flag VSS_CTRL_EN ||
    s.flag (VSS_OUT_STATE_WELD n) || !s.flag KEY_STATUS_RNG_OK || s.get GEN_PWR_STATE == pmStandby

/-- R374, R375, R272: what a session notes as it starts. -/
def noteStart (s : Dev) (n : Fin 16) (evccid : List Byte) : Dev :=
  let flags := (!s.utcValid).toNat * 2 ^ mfTimeInvalid + (s.flag BIL_STATUS_SEAL_BROKEN).toNat * 2 ^ mfSealBroken +
    (s.flag BIL_TAMP_STATUS_MAG_STARTUP).toNat * 2 ^ mfMagStartup
  s.modSess n (fun x =>
    { x with
      evccid := evccid
      flags := flags
      gap0 := (s.get64 (TRI_OUT_GAP_LO n)).toNat
      tamper0 := s.tamperTotal
      cal0 := s.get MTR_CAL_CNT_CNT
      imp0 := s.energy (qOut n 0)
      opened := s.dt })

/-- R268, R271: SessionSetup: a new SessionID from the random source. -/
def sessionSetup (s : Dev) (n : Fin 16) (evccid : List Byte) : Dev :=
  if s.setupRefused n then s.reply n .failed
  else
    let q := s.fresh
    let s := ((q.2.set64 (VSS_OUT_SID_LO n) (Config.freeId q.1)).noteStart n evccid).enterState n ssSetup
    let s := s.post EV_VSS_SESSION_START (leBytes 1 n ++ leBytes 1 (s.get (VSS_OUT_STATE_PROTO n)) ++
      leBytes 8 (s.get64 (VSS_OUT_SID_LO n)).toNat)
    s.reply n .ok

/-! Transport (R267, R269) -/

/-- R269: the TLS key slot is usable. -/
def tlsKey (s : Dev) (n : Nat) : Bool := (s.usableKey (s.get (VSS_OUT_TLS_TLS_SLOT n)) kuTls).isSome

/-- R269, R267, R271: an SDP request, for TLS or without. One that is not answered leaves the session where it is. -/
def sdpRequest (s : Dev) (n : Fin 16) (tls : Bool) : Dev :=
  let answered := fun (k : Nat) (s : Dev) =>
    let s := (s.set (VSS_OUT_STATE_PROTO n) prNone).setb (VSS_OUT_STATE_TLS n) false
    ((s.modSess n (fun x => { x with sdp := k })).enterState n ssSecure).reply n .ok
  let s := s.modSess n (fun x => { x with sdpSeen := true })
  if tls then
    if !s.flag (VSS_OUT_CFG_P20_EN n) then s
    else if s.tlsKey n then answered 1 (s.modSess n (fun x => { x with keyTold := false }))
    else if (s.sess n).keyTold then s
    else (s.modSess n (fun x => { x with keyTold := true })).post EV_VSS_TLS_KEY_BAD
  else if s.flag (VSS_OUT_CFG_PLAIN_EN n) && s.flag (VSS_OUT_CFG_P2_EN n) then answered 2 s
  else s

/-- R269: a chain's dates against legal time; while that is invalid they are not checked, and TIME_UNCHECKED sets. -/
def certDates (s : Dev) (n : Fin 16) (chain : List Byte) : Dev × Bool :=
  let d := Config.chainDates chain
  if s.utcValid then (s, decide (d.1 ≤ s.utcNow) && decide (s.utcNow ≤ d.2)) else (s.setb (VSS_OUT_STATE_TIME_UNCHECKED n) true, true)

/-- R266: a TCP connection; a second one while one is open is reset. -/
def tcpOpen (s : Dev) (n : Fin 16) : Dev :=
  if (s.sess n).tcp then s.emit (.tcpReset n) else s.modSess n (fun x => { x with tcp := true })

/-- R267, R269: a TLS handshake: the device presents its chain and signs with its key, and checks a vehicle certificate against the
installed anchors; a handshake that fails is counted. What is signed hangs on the whole handshake. -/
def tlsHandshake (s : Dev) (n : Fin 16) (tls13 : Bool) (cert : Option (List Byte × Bool)) : Dev :=
  let c : Dev × Bool := match cert with
    | none => (s, true)
    | some (chain, sig) => let q := s.certDates n chain; (q.1, sig && Config.chainOk s.vss.vehAnchors chain && q.2)
  let fail := fun (s : Dev) => s.bump VSS_PROTO_ERR
  match s.usableKey (s.get (VSS_OUT_TLS_TLS_SLOT n)) kuTls with
  | none => fail c.1
  | some r =>
    if tls13 && c.2 && (s.sess n).sdp == 1 && s.flag KEY_STATUS_RNG_OK then
      let q := c.1.fresh
      (q.2.emit (.tls n s.vss.chains[n] (signWith r (Config.freeBytes q.1 32)))).setb (VSS_OUT_STATE_TLS n) true
    else fail c.1

/-- R267: supportedAppProtocol. -/
def appProtocol (s : Dev) (n : Fin 16) (p20 p2 : Bool) : Dev :=
  let tls := s.flag (VSS_OUT_STATE_TLS n)
  if tls && p20 && s.flag (VSS_OUT_CFG_P20_EN n) then (s.set (VSS_OUT_STATE_PROTO n) pr20).reply n .ok
  else if !tls && p2 && (s.sess n).sdp == 2 && s.flag (VSS_OUT_CFG_P2_EN n) && s.flag (VSS_OUT_CFG_PLAIN_EN n) then
    (s.set (VSS_OUT_STATE_PROTO n) pr2).reply n .ok
  else s.reply n .noNegotiation

/-! Authorisation (R269, R270) -/

/-- R270: the host is asked. -/
def askHost (s : Dev) (n : Fin 16) (method : Nat) (chain : List Byte) : Dev :=
  let s := s.modSess n (fun x => { x with authAt := some s.dt })
  (s.post EV_VSS_AUTH_REQUEST (leBytes 1 n ++ leBytes 1 method ++ (s.sess n).evccid ++ chain)).reply n .ok true

/-- R269, R270: the first Authorization. -/
def firstAuthorization (s : Dev) (n : Fin 16) (c : Option Contract) : Dev :=
  let s := s.enterState n ssAuthorising
  let fail := fun (s : Dev) => (s.reply n .failed).endSession n ocAuthFailed
  match c with
  | none => if s.flag (VSS_OUT_CFG_EIM_EN n) then s.askHost n 0 [] else fail s
  | some k =>
    if s.get (VSS_OUT_STATE_PROTO n) != pr20 || !s.flag (VSS_OUT_CFG_PNC_EN n) then fail s
    else
      let q := s.certDates n k.chain
      if Config.chainOk s.vss.moAnchors k.chain && Config.challengeOk k.chain (s.sess n).challenge k.signature && q.2 then
        ((q.1.setb (VSS_OUT_STATE_PNC n) true).modSess n (fun x => { x with emaid := k.emaid })).askHost n 1 k.chain
      else fail q.1

/-- R270: an Authorization request. -/
def authorization (s : Dev) (n : Fin 16) (c : Option Contract) : Dev :=
  if s.sessState n = ssSetup then s.firstAuthorization n c
  else s.reply n .ok (!(s.sess n).accepted)

/-- R270: the host's answer, judged. -/
def authAnswer (s : Dev) (x : AuthAnswer) : Dev × Code :=
  if 16 ≤ x.outlet || 2 ≤ x.result || (8 ≤ x.cls && x.cls != 0xFF) then (s, ST_BAD_PARAM)
  else
    let n : Fin 16 := Fin.ofNat 16 x.outlet
    let y := s.sess n
    if s.sessState n = ssAuthorising && y.authAt.isSome && !y.accepted then
      if x.result = 0 then
        (s.modSess n (fun y =>
          { y with
            accepted := true
            cls := if x.cls = 0xFF then none else some x.cls
            bptPermit := x.bptPermit
            cap := x.cap }), ST_OK)
      else (s.endSession n ocAuthFailed, ST_OK)
    else if y.authLate then (s, ST_VSS_AUTH_LATE)
    else (s, ST_VSS_NO_SESSION)

/-- R270: a CertificateInstallation request is relayed; its answer comes with the host's. -/
def certRequest (s : Dev) (n : Fin 16) : Dev :=
  (s.modSess n (fun x => { x with certAt := some s.dt })).post EV_VSS_CERT_INSTALL_REQ

/-! Services and parameters (R267, R268) -/

/-- R267: the services offered under the protocol of the session. -/
def services (s : Dev) (n : Nat) : List V2gOffer :=
  if s.get (VSS_OUT_STATE_PROTO n) != pr20 then [.dc]
  else
    let m := s.flag (VSS_OUT_CFG_MCS n)
    (if m then .mcs else .dc) :: (if s.flag (VSS_OUT_CFG_BPT_EN n) then [if m then .mcsBpt else .dcBpt] else [])

/-- R267: the means of authorisation offered under the protocol of the session. -/
def authMeans (s : Dev) (n : Nat) : List V2gOffer :=
  (if s.get (VSS_OUT_STATE_PROTO n) = pr20 && s.flag (VSS_OUT_CFG_PNC_EN n) then [.pnc] else []) ++
    (if s.flag (VSS_OUT_CFG_EIM_EN n) then [.eim] else [])

/-- R268, R270: AuthorizationSetup: the means offered and a new challenge. -/
def authSetup (s : Dev) (n : Fin 16) : Dev :=
  let q := s.fresh
  let c := Config.freeBytes q.1 16
  let s := q.2.modSess n (fun x => { x with challenge := c })
  s.toVehicle n { s.plainResp n .ok false with data := c, offers := s.authMeans n }

/-- R267: ServiceDiscovery. -/
def serviceDiscovery (s : Dev) (n : Fin 16) : Dev := s.toVehicle n { s.plainResp n .ok false with offers := s.services n }

/-- R267: ServiceSelection. -/
def serviceSelection (s : Dev) (n : Fin 16) (service : Option V2gOffer) : Dev :=
  match service with
  | none => s.reply n .serviceSelectionInvalid
  | some v =>
    if (s.services n).contains v then (s.setb (VSS_OUT_STATE_BPT n) (v == .dcBpt || v == .mcsBpt)).reply n .ok
    else s.reply n .serviceSelectionInvalid

/-- R268: ScheduleExchange: the control mode; one entry of 24 h at the outlet's local cap. -/
def scheduleExchange (s : Dev) (n : Fin 16) (dynamic : Bool) : Dev :=
  let s := s.modSess n (fun y => { y with dynamic := dynamic })
  s.toVehicle n { s.plainResp n .ok false with schedule := some (s.outIn n).localCap }

/-- R268, R283: the vehicle's maximum voltage and current. -/
def evLimits (s : Dev) (n : Nat) (vMax iMax : Rat) : Dev :=
  (s.set (VSS_OUT_EVLIM_EV_VMAX n) (natOf 16 (vMax * 10))).set (VSS_OUT_EVLIM_EV_IMAX n) (natOf 16 iMax)

/-- R268: ChargeParameterDiscovery. -/
def chargeParameters (s : Dev) (n : Fin 16) (vMax iMax power discharge : Rat) (energy : Option Nat) : Dev :=
  let s := (s.evLimits n vMax iMax).modSess n (fun x =>
    { x with
      evPower := power.floor.toNat
      evDischarge := discharge.floor.toNat
      energyReq := energy })
  (if s.sessState n = ssAuthorising then s.enterState n ssParameters else s).reply n .ok

/-! Contactors (R276, R277) -/

def contChannel (s : Dev) (n : Nat) : Fin 20 := Fin.ofNat 20 (s.get (VSS_OUT_CFG_CONT_CH n))

/-- R276: command the outlet's contactor. -/
def commandContactor (s : Dev) (n : Fin 16) (on : Bool) : Dev :=
  if s.flag (VSS_OUT_CFG_CONT_EN n) then s.lswContactor (s.contChannel n) on
  else
    match s.frontEnd n with
    | some i => s.sendCtrl i true 0x0062 1 [if on then 1 else 0] (.contactor n)
    | none => s

/-- R276, R277: open the contactor. -/
def openContactor (s : Dev) (n : Fin 16) : Dev :=
  (s.modSess n (fun x => { x with opening := true, ackTold := x.opening && x.ackTold, failedAt := none })).commandContactor n false

/-- R276: an open write has failed: CONT_NO_ACK at the first failure. -/
def openFailed (s : Dev) (n : Fin 16) : Dev :=
  let s := s.modSess n (fun x => { x with failedAt := some s.dt })
  if (s.sess n).ackTold then s
  else (s.modSess n (fun x => { x with ackTold := true })).post EV_VSS_CONT_NO_ACK (leBytes 1 n)

/-- R276: the energisation instant. A contactor that closes for no session is opened again. -/
def energisedNow (s : Dev) (n : Fin 16) : Dev :=
  if s.energised n then s
  else
    let s := (s.contactorClosed n).post EV_VSS_ENERGISED
    let st := s.sessState n
    if st = ssCableCheck || st = ssPrecharge || st = ssCharging then s else s.openContactor n

/-! Cable check (R275, R508) -/

/-- R275: energise. -/
def energise (s : Dev) (n : Fin 16) : Dev :=
  let s := (s.modSess n (fun x => { x with closing := true })).commandContactor n true
  s.setPoint n (s.checkVolts n)

/-- R275: test the rows; show and tell the first that fails; energise when none does and the site permits it (R508). -/
def cableTest (s : Dev) (n : Fin 16) : Dev :=
  let x := s.sess n
  let row := s.waitRow n true x.load
  let s := s.set (VSS_OUT_STATE_WAIT n) (row.getD 0)
  match row with
  | some w =>
    if x.waitTold.contains w then s
    else (s.modSess n (fun x => { x with waitTold := w :: x.waitTold })).post EV_VSS_PRECOND_WAIT (leBytes 1 w)
  | none => if x.closing || s.energised n || !s.siteReady n || s.testRuns 0x0A then s else s.energise n

/-- R275, R517: a CableCheck request. -/
def cableCheck (s : Dev) (n : Fin 16) : Dev :=
  let s := if s.sessState n = ssCableCheck then s else (s.enterState n ssCableCheck).autoRun
  let s := if (s.sess n).finished then s else s.cableTest n
  s.reply n .ok (!(s.sess n).finished)

/-- R279: a LOAD session that has passed the check runs at the host's values. -/
def loadRuns (s : Dev) (n : Fin 16) : Dev :=
  let x := s.sess n
  ((s.setPoint n (F32.toRat x.target)).wr (VSS_OUT_REQ n) (BitVec.ofNat 32 x.evPower)).enterState n ssCharging

/-- R275: the voted voltage has come within 20 V of the check voltage: the insulation is judged. -/
def judgeInsulation (s : Dev) (n : Fin 16) : Dev :=
  if s.sessState n != ssCableCheck || !s.energised n || (s.sess n).finished || !s.within20 n (s.checkVolts n) then s
  else
    match (s.frontEnd n).bind (fun i => s.teleOf i 5) with
    | none => s
    | some (w, _) =>
      if !F32.finite w then s
      else
        let ohm := F32.toRat w * 1000
        let v := s.checkVolts n
        if ohm < (s.get (VSS_OUT_ISO_ISO_FAULT n) : Rat) * v then s.endSession n ocIsolation
        else
          let s := s.when (decide (ohm < (s.get (VSS_OUT_ISO_ISO_WARN n) : Rat) * v)) (·.post EV_VSS_ISO_WARN)
          let s := (s.modSess n (fun x => { x with finished := true })).set (VSS_OUT_STATE_WAIT n) 0
          if (s.sess n).load then s.loadRuns n else s

/-- R279: LOAD sessions are tested at each allocation tick, since no vehicle asks. -/
def loadTests (s : Dev) : Dev :=
  s.forEach ((idx 16).filter (fun (n : Fin 16) => (s.sess n).load && s.sessState n == ssCableCheck && !(s.sess n).finished))
    (fun n s => s.cableTest n)

/-! Precharge and charging (R272 to R275) -/

/-- R275: PreCharge. -/
def preCharge (s : Dev) (n : Fin 16) (target : Rat) : Dev :=
  let s := if s.sessState n = ssPrecharge then s else s.enterState n ssPrecharge
  let near := s.within20 n target
  ((s.setPoint n target).modSess n (fun x =>
    { x with
      target := F32.ofRat target
      reached := x.reached || near })).reply n .ok (!near)

/-- R272: the remaining energy request in Wh. -/
def remainingWh (s : Dev) (n : Fin 16) (energy : Option Nat) : Option Nat :=
  let x := s.sess n
  let done := s.delivered n / 1000
  let ev := if s.get (VSS_OUT_STATE_PROTO n) = pr2 then x.energyReq.map (· - done) else energy
  let cap := if x.cap = 0 then none else some (x.cap - done)
  match ev, cap with
  | some a, some b => some (min a b)
  | some a, none => some a
  | none, b => b

/-- R272: a charge-loop request hands its values to the allocator. -/
def takeLoop (s : Dev) (n : Fin 16) (x : ChargeLoop) : Dev :=
  let y := s.sess n
  let v := s.outVolts n
  let bpt := s.flag (VSS_OUT_STATE_BPT n) && s.flag (VSS_OUT_CFG_BPT_EN n) && y.bptPermit
  let req := if y.dynamic then x.power else max 0 x.current * v
  let offer := if !bpt then 0 else if y.dynamic then max 0 x.discharge else max 0 (-x.current * v)
  let shown : Int := if 0 < offer && req ≤ 0 then -(offer.floor) else req.floor
  let rem := s.remainingWh n x.energy
  let s := (s.evLimits n x.vMax x.iMax).wr (VSS_OUT_REQ n) (BitVec.ofInt 32 shown)
  s.modSess n (fun y =>
    { y with
      offer := offer.floor.toNat
      remaining := rem
      target := F32.ofRat x.voltage
      lastLoop := s.dt })

/-- R273, R274: the charge loop. -/
def chargeLoop (s : Dev) (n : Fin 16) (x : ChargeLoop) : Dev :=
  let s := s.takeLoop n x
  s.toVehicle n (s.limitsResp n (x.voltage, x.current))

/-! The limits on a state (R271) -/

/-- R271: the earlier of two limits. -/
def soonest : Option (Nat × Nat) → Option (Nat × Nat) → Option (Nat × Nat)
  | none, b => b
  | a, none => a
  | some a, some b => some (if a.1 ≤ b.1 then a else b)

/-- R271, R275: when the first limit on the state of outlet `n`'s session passes, and the outcome it ends with. AUTH, LOOP and the 5 s of
CLOSING have timeouts of their own. -/
def stateLimit (s : Dev) (n : Fin 16) : Option (Nat × Nat) :=
  let st := s.sessState n
  let x := s.sess n
  let msg := if x.load then none else some (x.lastMsg + sec 60, ocTimeout)
  if st = ssLinked then (if x.sdpSeen then none else some (x.since + sec 20, ocTimeout))
  else if st = ssSecure then (if s.get (VSS_OUT_STATE_PROTO n) = prNone then some (x.since + sec 20, ocTimeout) else none)
  else if st = ssSetup || st = ssAuthorising || st = ssParameters then msg
  else if st = ssCableCheck then
    soonest (if x.finished then none else some (x.since + sec (s.get VSS_TIMERS_CHECK_MAX), ocPrecondition)) msg
  else if st = ssPrecharge then
    soonest (if x.reached || s.within20 n (F32.toRat x.target) then none else some (x.since + sec 20, ocTimeout)) msg
  else none

/-- R276: the write of VCONT with the word `w` that outlet `n`'s front-end has yet to answer. -/
def contactorWrite (s : Dev) (n : Fin 16) (w : Word) : Option CtrlReq :=
  s.pst.ctrl.find? (fun r => r.why == .contactor n && r.frame.words == [w])

/-- R211: a request is no longer outstanding. -/
def dropCtrl (s : Dev) (r : CtrlReq) : Dev := s.putPst { s.pst with ctrl := eraseFirst (fun x => x == r) s.pst.ctrl }

/-! One message (R268, R271) -/

/-- R271: a request in a state below CHARGING that the state does not know, or one whose time has passed. -/
def inSequence (s : Dev) (n : Fin 16) (x : V2gReq) : Bool :=
  let st := s.sessState n
  let p20 := s.get (VSS_OUT_STATE_PROTO n) == pr20
  let y := s.sess n
  match x with
  | .sdp _ => st == ssLinked || st == ssSecure
  | .tcp => decide (ssLinked ≤ st)
  | .handshake _ _ => st == ssSecure
  | .appProtocol _ _ => st == ssSecure && y.sdp != 0
  | .sessionSetup _ => st == ssSecure && s.get (VSS_OUT_STATE_PROTO n) != prNone
  | .authSetup => st == ssSetup
  | .authorization _ => st == ssSetup || st == ssAuthorising
  | .certificateInstallation _ => p20 && (st == ssSetup || st == ssAuthorising) && y.certAt.isNone
  | .serviceDiscovery => if p20 then st == ssAuthorising && y.accepted else st == ssSetup
  | .serviceDetail => p20 && st == ssAuthorising && y.accepted
  | .serviceSelection _ => p20 && st == ssAuthorising && y.accepted
  | .chargeParameters _ _ _ _ _ => (st == ssAuthorising && y.accepted) || st == ssParameters
  | .scheduleExchange _ => p20 && (st == ssParameters || st == ssCharging)
  | .cableCheck => st == ssParameters || (st == ssCableCheck)
  | .preCharge _ => (st == ssCableCheck && y.finished) || st == ssPrecharge
  | .powerDelivery true => st == ssPrecharge
  | .powerDelivery false => st == ssPrecharge || st == ssCharging || st == ssStopping || st == ssClosing
  | .chargeLoop _ => st == ssCharging || st == ssStopping
  | .weldingDetection => st == ssStopping || st == ssClosing
  | .sessionStop => decide (ssSetup ≤ st)
  | .unsupported => decide (ssSecure ≤ st)
  | .broken => true

/-- R268: a message in its sequence, before the session has begun to end. -/
def inOrder (s : Dev) (n : Fin 16) (x : V2gReq) : Dev :=
  match x with
  | .sdp tls => s.sdpRequest n tls
  | .tcp => s.tcpOpen n
  | .handshake tls13 cert => s.tlsHandshake n tls13 cert
  | .appProtocol p20 p2 => s.appProtocol n p20 p2
  | .sessionSetup e => s.sessionSetup n e
  | .authSetup => s.authSetup n
  | .authorization c => s.authorization n c
  | .certificateInstallation _ => s.certRequest n
  | .serviceDiscovery => s.serviceDiscovery n
  | .serviceDetail => s.reply n .ok
  | .serviceSelection v => s.serviceSelection n v
  | .chargeParameters v i p d e => s.chargeParameters n v i p d e
  | .scheduleExchange d => s.scheduleExchange n d
  | .cableCheck => s.cableCheck n
  | .preCharge t => s.preCharge n t
  | .powerDelivery true => ((s.modSess n (fun y => { y with lastLoop := s.dt })).enterState n ssCharging).reply n .ok
  | .powerDelivery false => (s.endSession n ocNormalEv).reply n .ok
  | .chargeLoop y => s.chargeLoop n y
  | .weldingDetection => s.reply n .ok
  | .sessionStop =>
    let s := (s.endSession n ocNormalEv).reply n .ok
    if s.sessState n = ssClosing then s.goIdle n else s
  | .unsupported => s.reply n (if s.sessState n = ssSecure then .noNegotiation else .serviceSelectionInvalid)
  | .broken => ((s.bump VSS_PROTO_ERR).reply n .failed).endSession n ocProtocol

/-- R277, R274: a message in its sequence while the session stops or closes. -/
def inEnding (s : Dev) (n : Fin 16) (x : V2gReq) : Dev :=
  match x with
  | .tcp => s.tcpOpen n
  | .weldingDetection => s.reply n .ok
  | .powerDelivery false => s.reply n .ok
  | .sessionStop =>
    let s := s.reply n .ok
    if s.sessState n = ssClosing then s.goIdle n else s
  | _ => s.replyEnded n

/-- R266, R268: one request of a vehicle with a V2GTP payload of `len` bytes; one above 16 384 bytes is refused. -/
def v2gRequest (s : Dev) (n : Fin 16) (len : Nat) (x : V2gReq) : Dev :=
  let st := s.sessState n
  if 16384 < len || st = ssIdle || (s.sess n).load then s.bump VSS_PROTO_ERR
  else
    let s := s.modSess n (fun y => { y with lastMsg := s.dt })
    if ssStopping ≤ st then
      (if s.inSequence n x then s.inEnding n x
       else match x with
         | .chargeLoop _ => s.replyEnded n
         | _ => s.reply n .failed)
    else if s.inSequence n x then s.inOrder n x
    else s.sequenceError n

/-! The host (R270, R279, R283) -/

/-- R279: COMMISSION, judged. -/
def commission (s : Dev) (x : Commission) : Dev × Code :=
  let role := s.assocOf .host
  if 16 ≤ x.outlet || 2 ≤ x.kind then (s, ST_BAD_PARAM)
  else if !role.any (fun a => isInstaller a.role) then (s, ST_REFUSED_ROLE)
  else
    let n : Fin 16 := Fin.ofNat 16 x.outlet
    let st := s.sessState n
    let values := fun (s : Dev) => (s.evLimits n ((x.voltage : Rat) / 10) x.current).modSess n (fun y =>
      { y with
        evPower := x.power
        target := F32.ofRat ((x.voltage : Rat) / 10) })
    if s.life != lfCommissioning || s.testRuns 0x0A then (s, ST_BUSY_LIVE)
    else if x.kind = 0 then
      if st = ssIdle || st = ssLinked || st = ssSecure then (s.modSess n (fun y => { y with comm := true }), ST_OK) else (s, ST_BUSY_LIVE)
    else if (s.sess n).load && st != ssIdle && decide (st < ssStopping) then
      let s := values s
      (if st = ssCharging then s.loadRuns n else s, ST_OK)
    else if st != ssIdle || s.flag (VSS_OUT_STATE_WELD n) || s.flag GEN_LIFECYCLE_SAFE_HOLD || !s.flag VSS_CTRL_EN || !s.flag (VSS_OUT_CFG_EN n)
    then (s, ST_BUSY_LIVE)
    else
      let s := (s.beginSession n ssCableCheck).modSess n (fun y => { y with comm := true, load := true })
      let s := ((values s).noteStart n []).set (VSS_OUT_STATE_PROTO n) prLoad
      (s.cableTest n, ST_OK)

end Dev

/-! The commands -/

/-- R268: V2G_REQUEST. -/
def effV2gRequest (n : Fin 16) (len : Nat) (x : V2gReq) (s : Dev) : Dev := s.v2gRequest n len x

def execV2gRequest (n : Fin 16) (len : Nat) (x : V2gReq) (s : State) : Host.Outcome State Fault Refusal := s.onRun (effV2gRequest n len x)

/-- R265: VLINK_POLL. -/
def effVlinkPoll (n : Fin 16) (s : Dev) : Dev :=
  let s := s.tick (.vlink n) (Dev.ms 10)
  match s.frontEnd n with
  | none => s.linkSeen n 0 false
  | some i =>
    let en := s.flag (VSS_OUT_CFG_EN n)
    let s := s.when en (·.sendCtrl i false 0x0060 1 [] (.vlink n))
    s.sendCtrl i true 0x0061 1 [if en then 1 else 0] .lock

def execVlinkPoll (n : Fin 16) (s : State) : Host.Outcome State Fault Refusal := s.onRun (effVlinkPoll n)

/-- R271: SESSION_STATE_TIMEOUT: the state's first limit passes. -/
def effSessionStateTimeout (n : Fin 16) (s : Dev) : Dev :=
  match s.stateLimit n with
  | some (t, o) => (s.reach t).endSession n o
  | none => s

def execSessionStateTimeout (n : Fin 16) (s : State) : Host.Outcome State Fault Refusal := s.onRun (effSessionStateTimeout n)

/-- R270: AUTH_TIMEOUT. -/
def effAuthTimeout (n : Fin 16) (s : Dev) : Dev :=
  let x := s.sess n
  if s.sessState n = ssAuthorising && x.authAt.isSome && !x.accepted then
    let s := s.reach (x.authAt.getD 0 + Dev.sec (s.get VSS_TIMERS_AUTH))
    (s.modSess n (fun x => { x with authLate := true })).endSession n ocAuthFailed
  else s

def execAuthTimeout (n : Fin 16) (s : State) : Host.Outcome State Fault Refusal := s.onRun (effAuthTimeout n)

/-- R270: CERT_INSTALL_TIMEOUT: the request ends with FAILED and the session goes on. -/
def effCertInstallTimeout (n : Fin 16) (s : Dev) : Dev :=
  match (s.sess n).certAt with
  | none => s
  | some t => ((s.reach (t + Dev.sec 30)).modSess n (fun x => { x with certAt := none })).reply n .failed

def execCertInstallTimeout (n : Fin 16) (s : State) : Host.Outcome State Fault Refusal := s.onRun (effCertInstallTimeout n)

/-- R274: REFUSAL_HOLD_MAX. -/
def effRefusalHoldMax (n : Fin 16) (s : Dev) : Dev :=
  match (s.sess n).refusedAt with
  | some t => if s.sessState n = ssCharging then (s.reach (t + Dev.sec (10 * s.get VSS_TIMERS_HOLD_MAX))).endSession n ocRefused else s
  | none => s

def execRefusalHoldMax (n : Fin 16) (s : State) : Host.Outcome State Fault Refusal := s.onRun (effRefusalHoldMax n)

/-- R277: CHARGE_LOOP_TIMEOUT. -/
def effChargeLoopTimeout (n : Fin 16) (s : Dev) : Dev :=
  if s.sessState n = ssCharging && !(s.sess n).load then
    (s.reach ((s.sess n).lastLoop + Dev.ms (100 * s.get VSS_TIMERS_LOOP))).endSession n ocTimeout
  else s

def execChargeLoopTimeout (n : Fin 16) (s : State) : Host.Outcome State Fault Refusal := s.onRun (effChargeLoopTimeout n)

/-- R275: CABLE_CHECK_VOLTAGE_REACHED. -/
def effCableCheckVoltageReached (n : Fin 16) (s : Dev) : Dev := s.judgeInsulation n

def execCableCheckVoltageReached (n : Fin 16) (s : State) : Host.Outcome State Fault Refusal := s.onRun (effCableCheckVoltageReached n)

/-- R276: ENERGISATION_INSTANT: the outlet's channel conducts, or the close write to its front-end is answered OK. -/
def effEnergisationInstant (n : Fin 16) (s : Dev) : Dev :=
  if s.flag (VSS_OUT_CFG_CONT_EN n) then (if s.lswOn (s.contChannel n) then s.energisedNow n else s)
  else match s.contactorWrite n 1#32 with
    | some r => (s.dropCtrl r).energisedNow n
    | none => s

def execEnergisationInstant (n : Fin 16) (s : State) : Host.Outcome State Fault Refusal := s.onRun (effEnergisationInstant n)

/-- R277: STOP_CURRENT_LOW. -/
def effStopCurrentLow (n : Fin 16) (s : Dev) : Dev :=
  if s.sessState n = ssStopping && s.energised n && !(s.sess n).opening && s.lowCurrent n then s.openContactor n else s

def execStopCurrentLow (n : Fin 16) (s : State) : Host.Outcome State Fault Refusal := s.onRun (effStopCurrentLow n)

/-- R277: STOP_UNDER_LOAD: 1 s after the grant reached 0 the contactor is opened all the same. -/
def effStopUnderLoad (n : Fin 16) (s : Dev) : Dev :=
  match (s.sess n).zeroAt with
  | some t =>
    if s.sessState n = ssStopping && s.energised n && !(s.sess n).opening && !s.lowCurrent n then
      ((s.reach (t + Dev.sec 1)).post EV_VSS_STOP_UNDER_LOAD).openContactor n
    else s
  | none => s

def execStopUnderLoad (n : Fin 16) (s : State) : Host.Outcome State Fault Refusal := s.onRun (effStopUnderLoad n)

/-- R276: CONTACTOR_OPENED: the outlet's channel does not conduct, or the open write to its front-end is answered OK. -/
def effContactorOpened (n : Fin 16) (s : Dev) : Dev :=
  if s.flag (VSS_OUT_CFG_CONT_EN n) then (if s.lswOn (s.contChannel n) then s else s.contactorGone n)
  else match s.contactorWrite n 0#32 with
    | some r => (s.dropCtrl r).contactorGone n
    | none => s

def execContactorOpened (n : Fin 16) (s : State) : Host.Outcome State Fault Refusal := s.onRun (effContactorOpened n)

/-- R276: CONTACTOR_OPEN_RETRY: 10 ms after an open write has failed. -/
def effContactorOpenRetry (n : Fin 16) (s : Dev) : Dev :=
  match (s.sess n).failedAt with
  | some t =>
    if (s.sess n).opening && !s.flag (VSS_OUT_CFG_CONT_EN n) then
      ((s.reach (t + Dev.ms 10)).modSess n (fun x => { x with failedAt := none })).commandContactor n false
    else s
  | none => s

def execContactorOpenRetry (n : Fin 16) (s : State) : Host.Outcome State Fault Refusal := s.onRun (effContactorOpenRetry n)

/-- R277: WELD_CHECK: 500 ms after the opening instant. -/
def effWeldCheck (n : Fin 16) (s : Dev) : Dev :=
  let s := match (s.sess n).openedAt with
    | some t => s.reach (t + Dev.ms 500)
    | none => s
  let high := match (s.frontEnd n).bind (fun i => s.teleOf i 6) with
    | some (w, _) => F32.lt (F32.ofInt 60) w
    | none => false
  if !s.energised n && (s.sess n).openedAt.isSome && high && !s.flag (VSS_OUT_STATE_WELD n) then
    (s.setb (VSS_OUT_STATE_WELD n) true).post EV_VSS_WELD_SUSPECT
  else s

def execWeldCheck (n : Fin 16) (s : State) : Host.Outcome State Fault Refusal := s.onRun (effWeldCheck n)

/-- R376: MANIFEST_LATE_SIGN. -/
def effManifestLateSign (s : Dev) : Dev := s.lateSign

def execManifestLateSign (s : State) : Host.Outcome State Fault Refusal := s.onRun effManifestLateSign

/-- R283: SESSION_STOP. -/
def effSessionStop (n : Fin 16) (s : Dev) : Dev :=
  if s.sessState n = ssIdle then s.answer ST_VSS_NO_SESSION else (s.endSession n ocNormalHost).answer ST_OK

def execSessionStop (n : Fin 16) (s : State) : Host.Outcome State Fault Refusal := s.onReg 0x08 (effSessionStop n)

/-- R277: WELD_CLEAR. -/
def effWeldClear (n : Fin 16) (s : Dev) : Dev := (s.setb (VSS_OUT_STATE_WELD n) false).answer ST_OK

def execWeldClear (n : Fin 16) (s : State) : Host.Outcome State Fault Refusal := s.onReg 0x08 (effWeldClear n)

/-- R270: AUTH_ANSWER. -/
def effAuthAnswer (src : Src) (x : AuthAnswer) (s : Dev) : Dev :=
  let r := s.authAnswer x
  r.1.complete src r.2

def execAuthAnswer (src : Src) (x : AuthAnswer) (s : State) : Host.Outcome State Fault Refusal := s.onHost src false false (effAuthAnswer src x)

/-- R269, R270: CERT_RESPONSE: the host's response goes to the vehicle unchanged. -/
def effCertResponse (src : Src) (outlet : Nat) (response : List Byte) (s : Dev) : Dev :=
  if 16 ≤ outlet then s.complete src ST_BAD_PARAM
  else
    let n : Fin 16 := Fin.ofNat 16 outlet
    if (s.sess n).certAt.isNone then s.complete src ST_VSS_NO_SESSION
    else
      let s := s.modSess n (fun x => { x with certAt := none })
      (s.toVehicle n { s.plainResp n .ok false with data := response }).complete src ST_OK

def execCertResponse (src : Src) (outlet : Nat) (response : List Byte) (s : State) : Host.Outcome State Fault Refusal :=
  s.onHost src false false (effCertResponse src outlet response)

/-- R269: CHAIN_SET. -/
def effChainSet (src : Src) (outlet : Nat) (chain : List Byte) (s : Dev) : Dev :=
  if 16 ≤ outlet then s.complete src ST_BAD_PARAM
  else (s.putVss { s.vss with chains := s.vss.chains.set (Fin.ofNat 16 outlet) chain } : Dev).complete src ST_OK

def execChainSet (src : Src) (outlet : Nat) (chain : List Byte) (s : State) : Host.Outcome State Fault Refusal :=
  s.onHost src false false (effChainSet src outlet chain)

/-- R269: ANCHOR_SET. -/
def effAnchorSet (src : Src) (kind : Nat) (anchors : List (List Byte)) (s : Dev) : Dev :=
  if kind = 0 then (s.putVss { s.vss with vehAnchors := anchors } : Dev).complete src ST_OK
  else if kind = 1 then (s.putVss { s.vss with moAnchors := anchors } : Dev).complete src ST_OK
  else s.complete src ST_BAD_PARAM

def execAnchorSet (src : Src) (kind : Nat) (anchors : List (List Byte)) (s : State) : Host.Outcome State Fault Refusal :=
  s.onHost src false false (effAnchorSet src kind anchors)

/-- R279: COMMISSION. -/
def effCommission (src : Src) (x : Commission) (s : Dev) : Dev :=
  let r := s.commission x
  r.1.complete src r.2

def execCommission (src : Src) (x : Commission) (s : State) : Host.Outcome State Fault Refusal := s.onHost src false false (effCommission src x)

/-- R271: SESSION_CLOSING_TIMEOUT. -/
def effSessionClosingTimeout (n : Fin 16) (s : Dev) : Dev :=
  if s.sessState n = ssClosing then (s.reach ((s.sess n).since + Dev.sec 5)).goIdle n else s

def execSessionClosingTimeout (n : Fin 16) (s : State) : Host.Outcome State Fault Refusal := s.onRun (effSessionClosingTimeout n)

end Sys2Proof.Machine
end

