-- ==== Sys2Proof/Machine/AllocTick.lean ====
section
/-! DEFINITION. The allocation tick (R23, R44 to R49, R508): the snapshot of the inputs, and the solve's completion with rest
arbitration (R68, R69), the check of the set (R74) and its publication. -/

namespace Sys2Proof.Machine
namespace Dev

/-! The snapshot (R44) -/

/-- R44: the estimator's figures are older than 300 ms. -/
def bseStale (s : Dev) (k : Nat) : Bool :=
  s.flag (ALC_STR_CFG_EN k) && !s.bse.lastStep.any (fun t => decide (s.dt ≤ t + ms 300))

/-- R44, R47, R62: the inputs of one string. -/
def strIn (s : Dev) (k : Fin 48) : StrIn :=
  let x := s.str k
  let old := s.bseStale k
  let z := fun (n : Nat) => if old then 0 else n
  { en := s.flag (ALC_STR_CFG_EN k)
    dischEn := s.flag (ALC_STR_CFG_DISCH_EN k)
    chgEn := s.flag (ALC_STR_CFG_CHG_EN k)
    weight := s.get (ALC_STR_CFG_WEIGHT k)
    reserve := s.get (ALC_STR_CFG_RESERVE k)
    soc := s.get (BSE_STR_SOC_SOC_REP k)
    chgW := z x.chgW
    disW := z x.disW
    iChg := z (s.get (BSE_STR_LIM_I_CHG k))
    iDis := z (s.get (BSE_STR_LIM_I_DIS k))
    vMax := x.vLim
    stageCap := s.stageCapacity roleBattery k
    restReq := s.flag (BSE_STR_STATUS_REST_REQ k)
    restAge := s.get (BSE_STR_LEARN_LEARN_AGE k)
    refusal := s.strRefusalReason
    stale := old }

/-- R44: fewer than 8 of the last 10 metering blocks of a grid point in use are valid. -/
def gridStale (s : Dev) (g : Fin 2) : Bool :=
  s.flag (MTR_GP_CFG_EN g) && decide ((s.mtr.gpBlocks[g].filter (·.isSome)).length < 8)

/-- R45: the base load of a grid point in W; a point that is not in use draws nothing. -/
def baseLoad (s : Dev) (g : Fin 2) : Nat :=
  if !s.flag (MTR_GP_CFG_EN g) then 0
  else if s.gridStale g then s.get ALC_GRID_MARGIN_BASELOAD_MAX * 1000
  else ((s.alc.baseSamples[g].filter (fun (q : Nat × Int) => decide (s.dt < q.1 + sec 1))).foldl (fun a (q : Nat × Int) => max a q.2) 0).toNat

/-- R44, R47: the inputs of one grid point. -/
def gpIn (s : Dev) (g : Fin 2) : GpIn where
  capImp := s.get (ALC_GP_CAP_IMP g) * 1000
  capExp := s.get (ALC_GP_CAP_EXP g) * 1000
  base := s.baseLoad g
  afeCap := s.stageCapacity roleAfe g
  counts := s.alc.gpCounts[g]
  stale := s.gridStale g

/-- R44: the snapshot. -/
def snapshot (s : Dev) : AlcIn where
  tick := s.dt / ms 10
  run := s.flag ALC_CTRL_RUN
  outs := (idx 16).map (fun n => s.outIn n)
  strs := (idx 48).map (fun k => s.strIn k)
  gps := (idx 2).map (fun g => s.gpIn g)
  siteImp := s.get ALC_SITE_CAP_IMP * 1000
  siteExp := s.get ALC_SITE_CAP_EXP * 1000
  margin := s.get ALC_GRID_MARGIN_MARGIN
  targetMode := s.flag ALC_GRID_TARGET_MODE
  target := s.geti ALC_GRID_TARGET_TARGET * 1000
  up := s.get ALC_RAMP_UP * 100
  down := s.get ALC_RAMP_DOWN * 100
  snow := s.get ALC_SNOW_RATE * 100
  hyst := s.get ALC_HYST_HYST * 1000
  readmit := s.get ALC_HYST_READMIT_TICKS
  batteryFirst := s.flag ALC_SUPPLY_ORDER
  surplusEn := s.flag ALC_CTRL_SURPLUS_EN
  surplusLimit := s.get ALC_SURPLUS_LIMIT
  restEn := s.flag ALC_CTRL_REST_EN
  restMax := s.get ALC_REST_CTRL_MAX
  restMargin := s.get ALC_REST_CTRL_MARGIN
  abortTicks := s.get ALC_REST_CTRL_ABORT_TICKS
  ride := s.flag ALC_CTRL_GRID_LOSS_RIDE

/-- R44, R83: the stale inputs, numbered: grid points 0 and 1, strings from 2, cables from 50, vehicles from 66, outlet voltages from 82,
remaining energy requests from 98. -/
def staleInputs (s : Dev) : List Nat :=
  ((idx 2).filter (fun (g : Fin 2) => s.gridStale g)).map (·.val) ++
    ((idx 48).filter (fun (k : Fin 48) => s.bseStale k)).map (fun (k : Fin 48) => 2 + k.val) ++
    ((idx 16).filter (fun (n : Fin 16) => s.cableStale n)).map (fun (n : Fin 16) => 50 + n.val) ++
    ((idx 16).filter (fun (n : Fin 16) => s.requestStale n)).map (fun (n : Fin 16) => 66 + n.val) ++
    ((idx 16).filter (fun (n : Fin 16) => s.voltageStale n)).map (fun (n : Fin 16) => 82 + n.val) ++
    ((idx 16).filter (fun (n : Fin 16) => s.energyStale n)).map (fun (n : Fin 16) => 98 + n.val)

/-- R79, R83: show and tell the stale inputs. -/
def showStale (s : Dev) : Dev :=
  let l := s.staleInputs
  let new := l.filter (fun i => !s.alc.staleNow.contains i)
  let s := s.putAlc { s.alc with staleNow := l }
  let s := (s.setb ALC_STATUS_STALE_GRID (l.any (fun i => decide (i < 2)))).setb ALC_STATUS_STALE_BSE
    (l.any (fun i => decide (2 ≤ i) && decide (i < 50)))
  let s := (s.setb ALC_STATUS_STALE_THM (l.any (fun i => decide (50 ≤ i) && decide (i < 66)))).setb ALC_STATUS_STALE_VSS
    (l.any (fun i => decide (66 ≤ i) && decide (i < 82)))
  s.forEach new (fun _ s => s.post EV_ALC_INPUT_STALE)

/-- R23, R44, R508: the tick instant. -/
def allocTick (s : Dev) : Dev :=
  let s := (s.refreshStages.showStale.setb ALC_STATUS_RUNNING (s.flag ALC_CTRL_RUN)).lostAtTick
  let s := (s.set64 ALC_TICK_LO (BitVec.ofNat 64 (s.dt / ms 10))).chgReady.loadTests
  let x := s.snapshot
  (s.putAlc { s.alc with frozen := some x, lastIn := some x })

/-! Rest arbitration (R68, R69) -/

def modRest (s : Dev) (k : Fin 48) (f : RestSt → RestSt) : Dev := s.putAlc { s.alc with rests := vupd s.alc.rests k f }

/-- The resting strings. -/
def restingList (s : Dev) : List (Fin 48) := (idx 48).filter (fun (k : Fin 48) => s.alc.rests[k].resting)

/-- The instant of the last tick. -/
def tickDt (s : Dev) : Nat := s.alc.lastTick.getD 0

/-- The outlet targets with a set of strings resting. -/
def targetsWith (s : Dev) (x : AlcIn) (rest : List (Fin 48)) : List Int :=
  let b := s.before s.tickDt false
  ({ b with resting := (idx 48).map (fun (k : Fin 48) => rest.contains k) }.shares x).outT

/-- Some outlet target of `a` lies above that of `b`. -/
def raised (a b : List Int) : Bool := (a.zip b).any (fun p => decide (p.2 < p.1))

/-- R68: rests end when the estimator withdraws the request; a request that is gone may be postponed anew. -/
def endRests (s : Dev) (x : AlcIn) : Dev :=
  s.forEach (idx 48) (fun (k : Fin 48) s =>
    if (x.strs[k.val]?).any (·.restReq) then s
    else s.modRest k (fun _ => { resting := false, postponed := false, run := 0 }))

/-- R69: the ticks at which a rest has held a target down, and whether the rest is aborted; it lasts through this tick. -/
def abortRests (s : Dev) (x : AlcIn) : Dev × List (Fin 48) :=
  let l := s.restingList
  let now := s.targetsWith x l
  (s.forEach l (fun (k : Fin 48) s =>
    let low := raised (s.targetsWith x (l.filter (fun j => j != k))) now
    s.modRest k (fun r => { r with run := if low then r.run + 1 else 0 })),
   l.filter (fun (k : Fin 48) => raised (s.targetsWith x (l.filter (fun j => j != k))) now && decide (x.abortTicks ≤ s.alc.rests[k].run + 1)))

/-- R68: why a request is not granted. -/
def restAnswer (s : Dev) (x : AlcIn) (k : Fin 48) : Option Nat :=
  let l := s.restingList
  match x.strs[k.val]? with
  | none => some ppDisabled
  | some y =>
    let others := sumOf ((indexed x.strs).map (fun p =>
      p.2.supply (p.1 == k.val || l.any (fun (j : Fin 48) => j.val == p.1))))
    let top := (s.alc.draws.map (·.2)).foldl max 0
    if !y.en then some ppDisabled
    else if x.restMax ≤ l.length then some ppMaxResting
    else if others * 100 < (100 + x.restMargin) * top || raised (s.targetsWith x l) (s.targetsWith x (k :: l)) then some ppNeeded
    else none

/-- R68, R392: take one pending request. -/
def restOne (s : Dev) (x : AlcIn) (k : Fin 48) : Dev :=
  match s.restAnswer x k with
  | none =>
    let s := (s.modRest k (fun r => { r with resting := true, run := 0 })).restGranted k
    (s.set ALC_REST_STATUS_LAST_GRANTED k).post EV_ALC_REST_GRANTED
  | some c =>
    let first := !s.alc.rests[k].postponed
    let s := (s.modRest k (fun r => { r with postponed := true })).restPostponed k c
    (s.set ALC_REST_STATUS_LAST_POSTPONED k).when first (·.post EV_ALC_REST_POSTPONED)

/-- R68: pending requests, oldest starvation first, the lower index first among equals. -/
def restQueue (s : Dev) (x : AlcIn) (aborted : List (Fin 48)) : List (Fin 48) :=
  let age := fun (k : Fin 48) => ((x.strs[k.val]?).map (·.restAge)).getD 0
  sortBy (fun (a b : Fin 48) => decide (age b < age a) || (age a == age b && decide (a.val ≤ b.val)))
    ((idx 48).filter (fun (k : Fin 48) => (x.strs[k.val]?).any (·.restReq) && !s.alc.rests[k].resting && !aborted.contains k))

/-- R68, R69: rest arbitration of a tick; the strings whose rest ends after it. -/
def restTick (s : Dev) (x : AlcIn) : Dev × List (Fin 48) :=
  let s := s.endRests x
  let a := s.abortRests x
  let s := if x.restEn then a.1.forEach (a.1.restQueue x a.2) (fun k s => s.restOne x k) else a.1
  (s.set ALC_REST_STATUS_RESTING s.restingList.length, a.2)

/-- R69: the rests that a tick has aborted. -/
def restAbort (s : Dev) (l : List (Fin 48)) : Dev :=
  s.forEach l (fun k s =>
    ((s.modRest k (fun r => { r with resting := false, run := 0 })).restAborted k).post EV_ALC_REST_ABORTED)

/-! Publication (R23, R74) -/

/-- R23, R68, R69, R74: the tick's rests are arbitrated, its set is solved, checked and published. -/
def solveComplete (s : Dev) (x : AlcIn) (fault : Bool) : Dev :=
  let s := s.putAlc { s.alc with frozen := none }
  let r := s.restTick x
  (r.1.solvePublish x (r.1.before r.1.tickDt false) fault).restAbort r.2

end Dev

/-! The commands -/

/-- R44: ALLOCATION_TICK, at a DT multiple of 10 ms. -/
def effAllocationTick (s : Dev) : Dev :=
  let t := s.nextMultiple (Dev.ms 10) s.alc.lastTick
  let s := s.reach t
  (s.putAlc { s.alc with lastTick := some t } : Dev).allocTick

def execAllocationTick (s : State) : Host.Outcome State Fault Refusal := s.onRun effAllocationTick

/-- R23: GRANT_SOLVE_COMPLETE, `solveUs` µs after the tick instant and no later than 500 µs; `solverFault` says that the solve has
gone wrong. A set whose tick an immediate set has overtaken is discarded (R75). -/
def effGrantSolveComplete (solveUs : Nat) (solverFault : Bool) (s : Dev) : Dev :=
  match s.alc.frozen with
  | none => s
  | some x =>
    let d := min solveUs 500
    let s := (s.reach (s.alc.lastTick.getD 0 + Dev.us d)).set ALC_STATUS_SOLVE_US d
    s.solveComplete x solverFault

def execGrantSolveComplete (solveUs : Nat) (solverFault : Bool) (s : State) : Host.Outcome State Fault Refusal :=
  s.onRun (effGrantSolveComplete solveUs solverFault)

end Sys2Proof.Machine
end

