-- ==== Sys2Proof/Machine/Can.lean ====
section
/-! DEFINITION. The CAN FD controllers (R285 to R303): enabling, mailboxes and the offer order, error confinement, bus-off and its
recovery, filters and receive rings. What happens on the bus itself (ISO 11898-1) comes in as operands. -/

namespace Sys2Proof.Machine

namespace Dev

def canOf (s : Dev) (n : Fin 4) : CanSt := s.can[n]

def modCan (s : Dev) (n : Fin 4) (f : CanSt → CanSt) : Dev := s.putCan (vupd s.can n f)

/-- CAN_STATUS.STATE as R302 encodes it. -/
def canActive : Nat := 0
def canPassive : Nat := 1
def canBusOff : Nat := 2
def canOff : Nat := 3

/-- R301: a nibble with one bit for each controller that `p` holds of. -/
def canNibble (p : Fin 4 → Bool) : Nat := ((idx 4).filter p).foldl (fun a n => a + 2 ^ n.val) 0

/-- R301: CAN_SUMMARY. -/
def canSummary (s : Dev) : Dev :=
  ((s.set CAN_SUMMARY_ENABLED (canNibble (fun (n : Fin 4) => s.flag (CAN_CTL_EN n)))).set CAN_SUMMARY_BUSOFF
    (canNibble (fun (n : Fin 4) => s.get (CAN_STATUS_STATE n) == canBusOff))).set CAN_SUMMARY_PASSIVE
    (canNibble (fun (n : Fin 4) => s.get (CAN_STATUS_STATE n) == canPassive))

/-- R291, R302: TX_PEND, the mailboxes in use. -/
def canPend (s : Dev) (n : Fin 4) : Dev := s.set (CAN_STATUS_TX_PEND n) (min 32 (s.canOf n).pend.length)

def canEvent (s : Dev) (n : Fin 4) (c : Code) : Dev := s.post c (leBytes 1 n)

/-- Complete descriptors with one status. -/
def canEnd (s : Dev) (l : List CanPending) (c : Code) : Dev := s.forEach l (fun p s => s.complete p.src c)

/-! Enabling (R287, R292) -/

/-- R287: a nominal and a data bit in quanta and in mtq. -/
def canNq (s : Dev) (n : Fin 4) : Nat := 3 + s.get (CAN_NBT_NTSEG1_M1 n) + s.get (CAN_NBT_NTSEG2_M1 n)
def canDq (s : Dev) (n : Fin 4) : Nat := 3 + s.get (CAN_DBT_DTSEG1_M1 n) + s.get (CAN_DBT_DTSEG2_M1 n)
def canNbit (s : Dev) (n : Fin 4) : Nat := (s.get (CAN_NBT_NBRP_M1 n) + 1) * s.canNq n
def canDbit (s : Dev) (n : Fin 4) : Nat := (s.get (CAN_DBT_DBRP_M1 n) + 1) * s.canDq n

/-- R286, R287: the bit timing can be used. One bit of `m` mtq is a rate of 80 MHz / `m`. -/
def canTimingOk (s : Dev) (n : Fin 4) : Bool :=
  decide (80 ≤ s.canNbit n) && decide (s.canNbit n ≤ 8000) && decide (8 ≤ s.canNq n) &&
  decide (s.get (CAN_NBT_NSJW_M1 n) ≤ s.get (CAN_NBT_NTSEG2_M1 n)) && decide (s.get (CAN_NBT_NSJW_M1 n) ≤ s.get (CAN_NBT_NTSEG1_M1 n)) &&
  (!(s.flag (CAN_CTL_FD_EN n) && s.flag (CAN_CTL_BRS_EN n)) ||
    (decide (10 ≤ s.canDbit n) && decide (s.canDbit n ≤ s.canNbit n) &&
      decide (s.get (CAN_DBT_DSJW_M1 n) ≤ s.get (CAN_DBT_DTSEG2_M1 n)) && decide (s.get (CAN_DBT_DSJW_M1 n) ≤ s.get (CAN_DBT_DTSEG1_M1 n)))) &&
  (decide (80 ≤ s.canDbit n) || s.flag (CAN_TDC_TDC_EN n)) &&
  !(s.get (CAN_CTL_LOOP n) == 2 && s.flag (CAN_CTL_SILENT n))

/-- R292: `r` is a SUBMIT ring that controller `n` owns. -/
def canOwns (s : Dev) (n : Fin 4) (r : Nat) : Bool :=
  s.get (HIF_RING_CFG_KIND r) == kindSubmit && s.get (HIF_RING_CFG_OWNER r) == n.val + 1

/-- R286: `k` nominal bits in ns, rounded up. -/
def canBits (s : Dev) (n : Fin 4) (k : Nat) : Nat := (25 * k * s.canNbit n + 1) / 2

/-- R287, R292: why a write of 1 to EN is refused. -/
def canEnableBad (s : Dev) (n : Fin 4) : Option Code :=
  if !s.canTimingOk n then some ST_CAN_CAN_TIMING
  else if s.flag (CAN_RING_TX_EN n) && !s.canOwns n (s.get (CAN_RING_TX_RING n)) then some ST_CAN_CAN_RING
  else none

/-- Both error counters as R302 shows them; beyond 255 the eight bits of TEC are not stated. -/
def canCounters (s : Dev) (n : Fin 4) (tec rxc : Nat) : Dev :=
  let s := s.modCan n (fun x => { x with
    tec := tec
    rxc := rxc })
  let f := s.fresh
  let s := if tec ≤ 255 then s.set (CAN_ERRCNT_TEC n) tec else f.2.set (CAN_ERRCNT_TEC n) (Config.freeNat f.1)
  ((s.set (CAN_ERRCNT_REC n) rxc).setb (CAN_ERRCNT_RP n) (decide (128 ≤ rxc))).setb (CAN_STATUS_WARN n) (decide (96 ≤ tec) || decide (96 ≤ rxc))

/-- R287, R290: a write of 1 to EN. -/
def canEnable (s : Dev) (n : Fin 4) : Dev :=
  if s.flag (CAN_CTL_EN n) then s.answer ST_OK
  else
    match s.canEnableBad n with
    | some c => if c = ST_CAN_CAN_RING then s.reject CAN_REJECT_CNT_CNT c else s.answer c
    | none =>
      let s := (s.setb (CAN_CTL_EN n) true).canCounters n 0 0
      let s := s.modCan n (fun x => { x with
        tdcTold := false
        ovfTold := false
        joinFrom := s.dt })
      (s.set (CAN_STATUS_STATE n) canActive).canSummary.answer ST_OK

/-- R294, R302: a write of 0 to EN; `busy` says that a frame is on the bus, which is the one offered. -/
def canDisable (s : Dev) (n : Fin 4) (onBus : Option CanPending) : Dev :=
  if !s.flag (CAN_CTL_EN n) then s.answer ST_OK
  else
    let l := (s.canOf n).pend
    let keep := fun (p : CanPending) => some p == onBus
    let s := s.modCan n (fun x => { x with pend := l.filter keep })
    let s := (s.setb (CAN_CTL_EN n) false).set (CAN_STATUS_STATE n) canOff
    let s := ((s.setb (CAN_STATUS_RECOVERING n) false).setb (CAN_STATUS_BOFF_LOCKED n) false).canPend n
    let s := s.canEnd ((l.take 32).filter (fun p => !keep p)) ST_CAN_TX_ABORTED
    (s.canEnd ((l.drop 32).filter (fun p => !keep p)) ST_CAN_TX_DISABLED).canSummary.answer ST_OK

/-! Transmission (R291 to R294) -/

/-- R291, ISO 11898-1: the arbitration field as a number: 11 bits of base identifier, then RTR and IDE of a standard frame or SRR, IDE,
the 18 further bits and RTR of an extended one. -/
def canArb (f : CanFrame) : Nat :=
  if f.ide then (f.id / 2 ^ 18) * 2 ^ 21 + 2 ^ 20 + 2 ^ 19 + (f.id % 2 ^ 18) * 2 + f.rtr.toNat
  else (f.id % 2 ^ 11) * 2 ^ 21 + f.rtr.toNat * 2 ^ 20

/-- R285, R289, R295: a controller that sends frames: not bus-off, not in restricted operation, and silent only on a bus of its own. -/
def canSends (s : Dev) (n : Fin 4) : Bool :=
  s.get (CAN_STATUS_STATE n) != canBusOff && !s.flag (CAN_CTL_RESTRICTED n) && (!s.flag (CAN_CTL_SILENT n) || s.get (CAN_CTL_LOOP n) == 1)

/-- R290: since EN was set, or a protocol exception, the bus has had 11 bits by the instant `t`. -/
def canJoined (s : Dev) (n : Fin 4) (t : Nat) : Bool := decide ((s.canOf n).joinFrom + s.canBits n 11 ≤ t)

/-- R291: of the mailboxes filled by the instant `t`, the one offered to the bus. -/
def canOffered (s : Dev) (n : Fin 4) (t : Nat) : Option CanPending :=
  let l := ((s.canOf n).pend.take 32).filter (fun p => decide (p.since ≤ t))
  if !s.canSends n || !s.canJoined n t then none
  else if s.flag (CAN_CTL_TXORDER n) then l.head?
  else l.foldl (fun best p =>
    match best with
    | none => some p
    | some b => if canArb p.frame < canArb b.frame then some p else some b) none

/-- R294: the frame cannot be sent as it is written. -/
def canFormatBad (s : Dev) (n : Fin 4) (f : CanFrame) : Bool :=
  (f.fdf && !s.flag (CAN_CTL_FD_EN n)) || (f.brs && (!f.fdf || !s.flag (CAN_CTL_BRS_EN n))) || (f.rtr && f.fdf)

/-- R290 to R294, R483: a CAN_TX descriptor reaches its controller. -/
def canTx (s : Dev) (src : Src) (f : CanFrame) : Dev :=
  match src with
  | .uart _ => s.complete src ST_HIF_NOT_IN_CHANNEL
  | .ring r _ =>
    let o := s.get (HIF_RING_CFG_OWNER r)
    if o = 0 ∨ 4 < o then s.complete src ST_HIF_BAD_OPCODE
    else
      let n : Fin 4 := Fin.ofNat 4 (o - 1)
      if !s.flag (CAN_CTL_EN n) || !(s.flag (CAN_RING_TX_EN n) && s.get (CAN_RING_TX_RING n) == r.val) || (s.flag GEN_LIFECYCLE_SAFE_HOLD && !s.flag (CAN_CTL_SH_TX n))
      then s.complete src ST_CAN_TX_DISABLED
      else if s.canFormatBad n f then s.complete src ST_CAN_TX_FORMAT
      else (s.modCan n (fun x => { x with pend := x.pend ++ [⟨src, f, s.dt⟩] })).canPend n

/-- R290: SAFE-HOLD is entered: a controller that may not transmit in it gives up what it has. -/
def canSafeHold (s : Dev) : Dev :=
  s.forEach (idx 4) (fun n s =>
    if s.flag (CAN_CTL_SH_TX n) then s
    else
      let l := (s.canOf n).pend
      ((s.modCan n (fun x => { x with pend := [] })).canPend n).canEnd l ST_CAN_TX_DISABLED)

/-! Reception (R297 to R299) -/

/-- R298: filter `f` matches a frame. -/
def canMatches (s : Dev) (n : Fin 4) (x : CanFrame) (f : Fin 64) : Bool :=
  let m := BitVec.ofNat 29 (s.get (CAN_FLT_MASK_MASK n f))
  s.flag (CAN_FLT_ID_EN n f) && s.flag (CAN_FLT_ID_IDE n f) == x.ide &&
    (BitVec.ofNat 29 x.id &&& m) == (BitVec.ofNat 29 (s.get (CAN_FLT_ID_ID n f)) &&& m)

/-- R298: the lowest-index matching filter. -/
def canFilter (s : Dev) (n : Fin 4) (x : CanFrame) : Option (Fin 64) := (idx 64).find? (fun f => s.canMatches n x f)

/-- R285, R297: the payload length that a DLC stands for. -/
def canLen (x : CanFrame) : Nat :=
  if x.rtr then 0
  else if x.dlc.val ≤ 8 then x.dlc.val
  else if !x.fdf then 8
  else if x.dlc.val ≤ 12 then 4 * x.dlc.val - 24
  else 16 * x.dlc.val - 176

/-- R297: the payload, with 0 beyond what was given and nothing beyond the DLC length. -/
def canData (x : CanFrame) : List Byte := (x.data ++ List.replicate 64 0).take (canLen x)

/-- R297: the record of a received frame; `marker` holds bytes 12 to 15. -/
def canRecord (n : Fin 4) (x : CanFrame) (sof filter : Nat) (looped dflt : Bool) : CanRecord :=
  { id := x.id
    ide := x.ide
    fdf := x.fdf
    brs := x.brs
    esi := x.esi
    rtr := x.rtr
    marker := BitVec.ofNat 32 (x.dlc.val + x.fdf.toNat * 2 ^ 4 + x.brs.toNat * 2 ^ 5 + x.esi.toNat * 2 ^ 6 +
      (n.val + 4 * filter) * 2 ^ 8 + (looped.toNat + 2 * dflt.toNat) * 2 ^ 16)
    stamp := sof
    data := canData x }

/-- R299: deliver a record to a receive ring, or drop it. -/
def canToRing (s : Dev) (n : Fin 4) (ring : Nat) (r : CanRecord) : Dev :=
  let q : Fin 256 := Fin.ofNat 256 ring
  if s.ringUsable q kindRecord && s.ringHasRoom q then
    (s.modCan n (fun x => { x with ovfTold := false })).ringWrite q (.record n r) false
  else
    let told := (s.canOf n).ovfTold
    let s := ((s.bump (CAN_CNT_DROP n)).latch (CAN_STATUS_RX_OVF n)).modCan n (fun x => { x with ovfTold := true })
    if told then s else s.canEvent n EV_CAN_RX_OVERFLOW

/-- R298: filter a frame and deliver it. -/
def canDeliver (s : Dev) (n : Fin 4) (x : CanFrame) (sof : Nat) (looped : Bool) : Dev :=
  match s.canFilter n x with
  | none =>
    let s := s.bump (CAN_CNT_RX n)
    if s.flag (CAN_RING_DEF_EN n) then s.canToRing n (s.get (CAN_RING_DEF_RING n)) (canRecord n x sof 0 looped true) else s
  | some f =>
    let r := canRecord n x sof f looped false
    let dest := s.get (CAN_FLT_DEST_DEST n f)
    if dest = 3 then s
    else
      let s := s.bump (CAN_CNT_RX n)
      let s := if dest = 0 ∨ dest = 2 then s.canToRing n (s.get (CAN_FLT_DEST_RING n f)) r else s
      let k := s.get (CAN_FLT_DEST_STRING n f)
      if h : (dest = 1 ∨ dest = 2) ∧ k < 48 then s.bmsFrame ⟨k, h.2⟩ r else s

/-! Error confinement (R295, R296) -/

/-- R296: the bus-offs of the last 60 s. -/
def canBoffCnt (s : Dev) (n : Fin 4) : Nat :=
  min 255 ((s.canOf n).offs.filter (fun t => decide (s.dt < t + sec 60))).length

/-- R296: recovery starts; one that runs already goes on. -/
def canStartRecovery (s : Dev) (n : Fin 4) : Dev :=
  let s := s.setb (CAN_STATUS_BOFF_LOCKED n) false
  if s.flag (CAN_STATUS_RECOVERING n) then s
  else (s.setb (CAN_STATUS_RECOVERING n) true).modCan n (fun x => { x with recoverFrom := s.dt })

/-- R296: 128 occurrences of 11 consecutive recessive bits: recovery completes. -/
def canRecovered (s : Dev) (n : Fin 4) : Dev :=
  if s.get (CAN_STATUS_STATE n) != canBusOff || !s.flag (CAN_STATUS_RECOVERING n) then s
  else
    let s := s.reach ((s.canOf n).recoverFrom + s.canBits n 1408)
    let s := ((s.canCounters n 0 0).setb (CAN_STATUS_RECOVERING n) false).set (CAN_STATUS_STATE n) canActive
    s.canSummary.canEvent n EV_CAN_RECOVERED

/-- R295, R296: bus-off is entered. -/
def canEnterBusOff (s : Dev) (n : Fin 4) : Dev :=
  let l := (s.canOf n).pend
  let s := s.modCan n (fun x => { x with
    pend := x.pend.drop 32
    offs := s.dt :: x.offs.filter (fun t => decide (s.dt < t + sec 60)) })
  let s := ((s.set (CAN_STATUS_STATE n) canBusOff).bump (CAN_CNT_BOFF n)).canPend n
  let s := (s.set (CAN_STATUS_BOFF_CNT n) (s.canBoffCnt n)).canEnd (l.take 32) ST_CAN_TX_BUSOFF
  let s := s.canSummary.canEvent n EV_CAN_BUS_OFF
  let limit := s.get (CAN_CTL_BOFF_LIMIT n)
  if !s.flag (CAN_CTL_AUTO_REC n) then s
  else if limit = 0 ∨ s.canBoffCnt n < limit then s.canStartRecovery n
  else (s.setb (CAN_STATUS_BOFF_LOCKED n) true).canEvent n EV_CAN_BOFF_LOCKED

/-- R295: the counters take new values; warning level and state follow. -/
def canConfine (s : Dev) (n : Fin 4) (tec rxc : Nat) : Dev :=
  let warned := s.flag (CAN_STATUS_WARN n)
  let was := s.get (CAN_STATUS_STATE n)
  let s := s.canCounters n tec rxc
  let s := s.when (!warned && s.flag (CAN_STATUS_WARN n)) (·.canEvent n EV_CAN_WARNING)
  if 255 < tec then s.canEnterBusOff n
  else if 127 < tec ∨ 127 < rxc then
    if was = canPassive then s else ((s.set (CAN_STATUS_STATE n) canPassive).canSummary).canEvent n EV_CAN_ERROR_PASSIVE
  else if was = canActive then s
  else ((s.set (CAN_STATUS_STATE n) canActive).canSummary).canEvent n EV_CAN_ERROR_ACTIVE

/-- A controller that takes part in the bus: enabled and not bus-off. -/
def canOnBus (s : Dev) (n : Fin 4) : Bool := s.flag (CAN_CTL_EN n) && s.get (CAN_STATUS_STATE n) != canBusOff

/-- R295: a frame has been received: REC falls by one; above 127 it takes a value from 119 to 127 that the standard leaves open. -/
def canReceived (s : Dev) (n : Fin 4) : Dev :=
  let x := s.canOf n
  if 127 < x.rxc then
    let f := s.fresh
    f.2.canConfine n x.tec (119 + Config.freeNat f.1 % 9)
  else if x.rxc = 0 then s
  else s.canConfine n x.tec (x.rxc - 1)

/-- R295: a bus error. -/
def canError (s : Dev) (n : Fin 4) (e : CanError) : Dev :=
  let x := s.canOf n
  match e with
  | .transmit lec => (s.set (CAN_STATUS_LEC n) lec).canConfine n (x.tec + 8) x.rxc
  | .receive lec => (s.set (CAN_STATUS_LEC n) lec).canConfine n x.tec (x.rxc + 1)
  | .receiveEight lec => (s.set (CAN_STATUS_LEC n) lec).canConfine n x.tec (x.rxc + 8)
  | .uncounted lec => s.set (CAN_STATUS_LEC n) lec
  | .exception =>
    if s.flag (CAN_CTL_PXHD n) then (s.set (CAN_STATUS_LEC n) 2).canConfine n x.tec (x.rxc + 1)
    else
      let told := s.flag (CAN_STATUS_PXE n)
      let s := (s.latch (CAN_STATUS_PXE n)).modCan n (fun x => { x with joinFrom := s.dt })
      if told then s else s.canEvent n EV_CAN_PROTOCOL_EXCEPTION

/-- R288: the transmitter delay measured in an FD frame with BRS, from the edges on CANn_RX at these delays (mtq) after the edge on
CANn_TX, and the secondary sample point. -/
def canTdc (s : Dev) (n : Fin 4) (f : CanFrame) (edges : List Nat) : Dev :=
  match (if f.fdf && f.brs && s.flag (CAN_TDC_TDC_EN n) then edges.find? (fun e => decide (s.get (CAN_TDC_TDCF n) ≤ e)) else none) with
  | none => s
  | some e =>
    let v := min e 127
    let s := (s.set (CAN_TDC_TDCV n) v).modCan n (fun x => { x with ssp := min 127 (v + s.get (CAN_TDC_TDCO n)) })
    if 127 < v + s.get (CAN_TDC_TDCO n) then
      let told := (s.canOf n).tdcTold
      let s := (s.latch (CAN_STATUS_TDC_SAT n)).modCan n (fun x => { x with tdcTold := true })
      if told then s else s.canEvent n EV_CAN_TDC_SAT
    else s.modCan n (fun x => { x with tdcTold := false })

/-- R291: a mailbox is freed, the next frame of the ring takes it, and the descriptor completes. -/
def canDone (s : Dev) (n : Fin 4) (p : CanPending) (c : Code) (result : Word) : Dev :=
  let next := fun (l : List CanPending) => l.take 31 ++ ((l.drop 31).take 1).map (fun q => { q with since := s.dt }) ++ l.drop 32
  let full := decide (32 < (s.canOf n).pend.length)
  ((s.modCan n (fun x =>
    let l := eraseFirst (fun q => q == p) x.pend
    { x with pend := if full then next l else l })).canPend n).complete p.src c result

/-- R289 to R293: the offer of frame `p` ends. -/
def canOfferEnds (s : Dev) (n : Fin 4) (p : CanPending) (r : CanResult) (sof : Nat) (edges : List Nat) : Dev :=
  let shot := s.flag (CAN_CTL_ONE_SHOT n) || p.frame.oneShot
  let s := s.canTdc n p.frame edges
  match r with
  | .sent =>
    let s := (s.bump (CAN_CNT_TX n)).canDone n p ST_OK 0
    let x := s.canOf n
    let s := if x.tec = 0 ∨ !s.canOnBus n then s else s.canConfine n (x.tec - 1) x.rxc
    if s.get (CAN_CTL_LOOP n) = 0 then s else s.canDeliver n p.frame sof true
  | .arbitrationLost => if shot then s.canDone n p ST_CAN_TX_ARB_LOST 0 else s
  | .error lec => if shot then s.canDone n p ST_CAN_TX_ERROR (BitVec.ofNat 32 lec.val) else s

/-- R291, R294: the frame offered at `sof` ends its offer. A frame that was on the bus when EN was written to 0 finishes. -/
def canTxComplete (s : Dev) (n : Fin 4) (r : CanResult) (sof : Nat) (edges : List Nat) : Dev :=
  match s.canOffered n sof with
  | none => s
  | some p =>
    let s := (s.reach sof).canOfferEnds n p r sof edges
    if s.flag (CAN_CTL_EN n) || r == .sent then s
    else if (s.canOf n).pend.contains p then s.canDone n p ST_CAN_TX_ABORTED 0 else s

/-- R298: a frame has been received from the bus. -/
def canFrameReceived (s : Dev) (n : Fin 4) (x : CanFrame) (sof : Nat) : Dev :=
  if !s.canOnBus n || s.get (CAN_CTL_LOOP n) == 1 || !s.canJoined n sof then s else ((s.reach sof).canReceived n).canDeliver n x sof false

end Dev

/-! The commands of this chapter -/

/-- R287, R292: a write of 1 to CAN_CTL.EN. -/
def execCanEnable (n : Fin 4) (s : State) : Host.Outcome State Fault Refusal := s.onReg 0x09 (fun d => d.canEnable n)

/-- R294: a write of 0 to CAN_CTL.EN; `busy` says that a frame is on the bus. -/
def execCanDisable (n : Fin 4) (busy : Bool) (s : State) : Host.Outcome State Fault Refusal :=
  s.onReg 0x09 (fun d => d.canDisable n (if busy then d.canOffered n d.dt else none))

/-- R296: a write of 1 to RECOVER. -/
def execCanRecover (n : Fin 4) (s : State) : Host.Outcome State Fault Refusal :=
  s.onReg 0x09 (fun d => (if d.get (CAN_STATUS_STATE n) = Dev.canBusOff then d.canStartRecovery n else d).answer ST_OK)

/-- R291: the CAN_TX descriptor. -/
def execCanTx (src : Src) (record : List Byte) (s : State) : Host.Outcome State Fault Refusal := 
  s.onHost src false false (fun d => d.canTx src (parseCanRecord record))

/-- R291, R293: the offered frame is sent or its offer fails. -/
def execCanTxComplete (n : Fin 4) (r : CanResult) (sof : Nat) (edges : List Nat) (s : State) : Host.Outcome State Fault Refusal :=
  s.onRun (fun d => d.canTxComplete n r sof edges)

/-- R298: a received frame. -/
def execCanFrameReceived (n : Fin 4) (f : CanFrame) (sof : Nat) (s : State) : Host.Outcome State Fault Refusal :=
  s.onRun (fun d => d.canFrameReceived n f sof)

/-- R295: a bus error. -/
def execCanBusError (n : Fin 4) (e : CanError) (s : State) : Host.Outcome State Fault Refusal :=
  s.onRun (fun d => if d.canOnBus n then d.canError n e else d)

/-- R296: recovery is complete. -/
def execCanRecoveryComplete (n : Fin 4) (s : State) : Host.Outcome State Fault Refusal :=
  s.onRun (fun d => d.canRecovered n)

end Sys2Proof.Machine
end

