-- ==== Sys2Proof/Machine/NodeCtrl.lean ====
section
/-! DEFINITION. CTRL (R211): the host's NODE_CTRL descriptor, a node's response, the one repetition and the failure, and what a response
means to the block that asked. -/

namespace Sys2Proof.Machine

/-- R102, R221: no write but the device's own at an arm releases a latch: the RELEASE bits of a NODE_CMD word that the host writes are
cleared (log entry 22). -/
def withoutRelease (addr : Nat) (words : List Word) : List Word :=
  if addr ≤ 0x0004 then words.set (0x0004 - addr) ((words[0x0004 - addr]?).getD 0 &&& 0x100#32) else words

namespace Dev

/-- R211, R487: the host's request. -/
def nodeCtrl (s : Dev) (src : Src) (x : NodeCtrlReq) : Dev :=
  match src with
  | .uart _ => s.complete src ST_HIF_NOT_IN_CHANNEL
  | .ring _ _ =>
    if x.count = 0 ∨ 60 < x.count ∨ 65536 ≤ x.addr ∨ (x.write ∧ x.words.length ≠ x.count) then s.complete src ST_BAD_PARAM
    else
      match s.nodeById x.node 0 with
      | none => s.complete src ST_PST_NODE_ABSENT
      | some i => s.sendCtrl i x.write x.addr x.count (if x.write then withoutRelease x.addr x.words else x.words) (.host src)

/-- R341: the self-test is asked about again. -/
def askSelf (s : Dev) (node head : Nat) : Dev := s.sendCtrl node false 0x0070 1 [] (.headResult head)

/-- R341: HEAD_TEST as it was read. -/
def selfRead (s : Dev) (node head : Nat) (w : Word) : Dev :=
  if h : head < 48 then
    let r := bitsOf w 9 8
    if r = 2 then s.selfResult ⟨head, h⟩ .pass
    else if r = 3 then s.selfResult ⟨head, h⟩ .fail
    else if s.headState head == hdTesting && s.get (TRI_HEAD_STATUS_STEP head) == tsSelf then s.askSelf node head
    else s
  else s

/-- R211: a request is answered with STATUS and words. -/
def ctrlAnswered (s : Dev) (r : CtrlReq) (status : Nat) (words : List Word) : Dev :=
  match r.why with
  | .host src =>
    if status = 0 then s.complete src ST_OK 0 (words.flatMap (fun w => leBytes 4 w.toNat))
    else s.complete src ST_PST_CTRL_NACK (BitVec.ofNat 32 status)
  | .armMask n => s.armRead n (if status = 0 then words.head? else none)
  | .release n => if status = 0 then s.modLeg n (fun l => { l with relDt := some s.dt }) else s
  | .headStart h => if status = 0 then s.askSelf r.node h else s
  | .headResult h => if status = 0 then s.selfRead r.node h (words.headD 0) else s
  | .contactor n =>
    let close := r.frame.words == [1#32]
    if status = 0 then (if close then s.energisedNow n else s.contactorGone n)
    else if close then s else s.openFailed n
  | .vlink n =>
    if status = 0 then s.linkSeen n (bitsOf (words.headD 0) 1 0) ((words.headD 0).getLsbD 4) else s.linkSeen n 0 false
  | .leg _ => s
  | .setpoint => s
  | .rate => s
  | .lock => s
  | .display => s

/-- R211: a request has had no response for 4 ms. -/
def ctrlFailed (s : Dev) (r : CtrlReq) : Dev :=
  match r.why with
  | .host src => s.complete src ST_PST_CTRL_TIMEOUT
  | .contactor n => if r.frame.words == [1#32] then s else s.openFailed n
  | .vlink n => s.linkSeen n 0 false
  | .armMask n => s.armRead n none
  | .release _ => s
  | .headStart _ => s
  | .headResult _ => s
  | .leg _ => s
  | .setpoint => s
  | .rate => s
  | .lock => s
  | .display => s

/-- R211: the request of node `i` that a response with this TAG, ADDR and COUNT answers. -/
def ctrlMatch (s : Dev) (i : Nat) (d : List Byte) : Option CtrlReq :=
  s.pst.ctrl.find? (fun r => r.node == i && r.frame.tag.toNat == fieldAt d 1 1 && r.frame.addr == fieldAt d 2 2 && r.frame.count == fieldAt d 4 1 &&
    fieldAt d 0 1 == (if r.frame.write then 0x82 else 0x81))

/-- R211: a response of node `i`. -/
def ctrlResponse (s : Dev) (i : Fin 128) (d : List Byte) : Dev :=
  match s.ctrlMatch i d with
  | none => s
  | some r => (s.dropCtrl r).ctrlAnswered r (fieldAt d 5 1) (if r.frame.write then [] else (List.range r.frame.count).map (fun k => wordAt d (8 + 4 * k)))

/-- R211: 2 ms without a response: the request goes out once more, with its TAG. -/
def ctrlRetry (s : Dev) : Dev :=
  match s.pst.ctrl.find? (fun r => !r.again) with
  | none => s
  | some r =>
    let s := s.reach (r.sentDt + ms 2)
    let s : Dev := s.putPst { s.pst with ctrl := s.pst.ctrl.map (fun x => if x == r then { x with again := true } else x) }
    let q := s.nextSeq 4
    (q.2.emit (.ctrl r.node q.1 r.frame)).sendFrame r.node ftCtrl q.1 (ctrlBytes r.frame)

/-- R211: 4 ms without a response: the oldest request fails. -/
def ctrlTimeout (s : Dev) : Dev :=
  match s.pst.ctrl with
  | [] => s
  | r :: _ => ((s.reach (r.sentDt + ms 4)).dropCtrl r).ctrlFailed r

end Dev

/-- R211: NODE_CTRL. -/
def execNodeCtrl (src : Src) (x : NodeCtrlReq) (s : State) : Host.Outcome State Fault Refusal := s.onHost src false false (fun d => d.nodeCtrl src x)

/-- R211: CTRL_RETRY. -/
def execCtrlRetry (s : State) : Host.Outcome State Fault Refusal := s.onRun (fun d => d.ctrlRetry)

end Sys2Proof.Machine
end

