-- ==== Sys2Proof/Machine/Keys.lean ====
section
/-! DEFINITION. Keys and device security (R448 to R475): the root secret, slots and their atomic write, sealed import, blobs and working
slots, the host's key operations, the random source, and debug access. -/

namespace Sys2Proof.Machine

/-- R452: bytes of private material of a type; `hash` is the hash of an HMAC key. -/
def keyLen (ty hash : Nat) : Nat :=
  if ty = ktHmac then hash / 8
  else if ty = ktAes ∨ ty = ktP256 then 32
  else if ty = ktP384 ∨ ty = ktEcdh then 48
  else if ty = ktP521 then 66
  else 57

/-- R452: bytes of public material of a type: an uncompressed point, or 57 for Ed448; none for secret keys. -/
def pubLen (ty : Nat) : Nat := Config.pubBytes ty

/-- The public key of a private key; secret keys have none. -/
def pubOf (ty : Nat) (secret : List Byte) : List Byte := Config.pubKey ty secret

/-- ASCII text as bytes. -/
def ascii (x : String) : List Byte := x.toList.map (fun c => BitVec.ofNat 8 c.toNat)

/-- R453, R459: a creation that is refused: `blob` says that the destination is a blob. -/
def creationBad (ty usage hash : Nat) (blob : Bool) : Bool :=
  decide (ty = 0 ∨ 7 < ty) || decide (usage = 0 ∨ 256 ≤ usage) || (List.range 8).any (fun u => usage.testBit u && !typeSuits ty u) ||
  (usage.testBit kuSignHost && (usage.testBit kuManifest || usage.testBit kuDisplay || usage.testBit kuTls)) ||
  (usage.testBit kuRole && usage.testBit kuHmacHost) || (ty == ktHmac && !([256, 384, 512].contains hash)) ||
  (blob && (usage.testBit kuManifest || usage.testBit kuDisplay || usage.testBit kuTls || usage.testBit kuRole || usage.testBit kuUnwrap))

/-- R458: the check value of a key. -/
def checkValue (ty : Nat) (secret pub : List Byte) : List Byte :=
  if pubLen ty = 0 then (Config.hmac 256 secret (ascii "SRG-KCV")).take 4 else (Config.sha2 256 pub).take 4

/-- A key as an operation uses it: where it lies, TYPE, USAGE, hash and material. -/
structure UseKey where
  slot : Byte
  type : Nat
  usage : Nat
  hash : Nat
  secret : List Byte
  pub : List Byte
deriving DecidableEq, Repr

namespace Dev

/-! Derived keys (R450) -/

/-- R450: the usual context. -/
def keyContext (s : Dev) : List Byte :=
  leBytes 8 (s.get64 GEN_DEVICE_ID_LO).toNat ++ leBytes 1 (s.get GEN_LIFECYCLE_IDENTITY_GEN)

/-- R450: a key derived from the root. -/
def derived (s : Dev) (label : String) (bits : Nat) : List Byte := Config.kdf (s.key.root.getD []) (ascii label) s.keyContext bits

/-- R472: the attestation of a key, signed by the identity key. -/
def attestation (s : Dev) (slot : Byte) (ty usage : Nat) (pub : List Byte) : List Byte :=
  Config.sign ktEd448 (s.derived "SRG-IDK" 456) (s.keyContext ++ [slot] ++ leBytes 1 ty ++ leBytes 2 usage ++ Config.sha2 256 pub)

/-! Slots -/

/-- R474: the counts of KEY_STATUS. -/
def keyCounts (s : Dev) : Dev :=
  let n := fun (x : Nat) => ((List.range 64).filter (fun k => s.get (KEY_SLOT_STATE k) == x)).length
  (s.set KEY_STATUS_VALID (n 1)).set KEY_STATUS_BAD (n 2)

/-- R454, R371: a slot that billing or the site line names. -/
def keyNamed (s : Dev) (k : Nat) : Bool :=
  [s.get BIL_MAN_CFG_KEY_SLOT, s.get SLN_DISP_CFG_KEY_SLOT, s.get BIL_ROLE_SLOT_OPERATOR, s.get BIL_ROLE_SLOT_INSTALLER,
    s.get BIL_ROLE_SLOT_METROLOGIST].contains k

/-- R454: a slot fails its check at a load. -/
def slotFoundBad (s : Dev) (k : Nat) : Dev :=
  let s := ((s.set (KEY_SLOT_STATE k) 2).keyCounts).post EV_KEY_SLOT_BAD_FOUND (leBytes 1 k)
  s.when (s.keyNamed k) (·.bookTamper tpKey)

/-- R454, R459: load the key an operation names. -/
def loadKey (s : Dev) (r : KeyRef) : Dev × Except Code UseKey :=
  match r with
  | .slot k =>
    let i := k.toNat
    if 64 ≤ i then (s, .error ST_BAD_PARAM)
    else if s.get (KEY_SLOT_STATE i) = 0 then (s, .error ST_KEY_SLOT_EMPTY)
    else if s.get (KEY_SLOT_STATE i) = 2 then (s, .error ST_KEY_KEY_SLOT_BAD)
    else
      match s.slotKey i with
      | none => (s.slotFoundBad i, .error ST_KEY_KEY_SLOT_BAD)
      | some x => (s, .ok ⟨k, x.type, x.usage, x.hash, x.secret, x.pub⟩)
  | .work w =>
    if h : w.toNat < 16 then
      match s.key.work[w.toNat] with
      | none => (s, .error ST_KEY_WSLOT_EMPTY)
      | some x => (s, .ok ⟨w ||| 0x80, x.type, x.usage, x.hash, x.secret, x.pub⟩)
    else (s, .error ST_BAD_PARAM)

/-- R460, R463: load a key for the purpose `u`; one whose engine has failed is not used. -/
def loadFor (s : Dev) (r : KeyRef) (u : Nat) : Dev × Except Code UseKey :=
  if !s.flag KEY_STATUS_ROOT then (s, .error ST_KEY_NO_ROOT)
  else
    let q := s.loadKey r
    match q.2 with
    | .error c => (q.1, .error c)
    | .ok x =>
      if !x.usage.testBit u then (q.1, .error ST_KEY_WRONG_USAGE)
      else if !s.engineOk x.type then (q.1, .error ST_KEY_CHECK_FAIL)
      else (q.1, .ok x)

/-- R456, R457: why a slot may not be written or deleted now. -/
def slotHeld (s : Dev) (k : Nat) : Option Code :=
  if s.flag (KEY_SLOT_BOUND k) then some ST_KEY_KEY_BOUND
  else if (List.range 16).any (fun n => s.get (VSS_OUT_TLS_TLS_SLOT n) == k && s.sessOpen n) then some ST_BUSY_LIVE
  else none

/-! Key operations as a frame for tampers (R465) -/

/-- R465: run a key operation during which the tampers `l` occur; `f` says whether it causes a tamper of type KEY itself. -/
def keyOperation (s : Dev) (l : List (Fin 13)) (f : Dev → Dev × Bool) : Dev :=
  let s := (s.modBil (fun b => { b with keyOp := true })).forEach (l.filter (fun t => t.val != 0)) (fun t s => s.bookTamper t.val)
  let q := f s
  let s := q.1.modBil (fun b => { b with keyOp := q.1.key.rootRetry.isSome })
  let s := s.when (s.flag BIL_TAMP_STATUS_NORMAL && !s.bil.keyOp) (·.bookHeld)
  s.when q.2 (·.bookTamper tpKey)

/-- R449: write the root secret from the random source, or wait for it and try again 10 s later. -/
def rootCreate (s : Dev) : Dev :=
  if s.flag KEY_STATUS_RNG_OK then
    s.keyOperation [] (fun s =>
      let f := s.fresh
      let s := f.2.modKey (fun k => { k with
        root := some (Config.freeBytes f.1 48)
        rootRetry := none })
      ((s.setb KEY_STATUS_ROOT true).post EV_KEY_ROOT_CREATED (leBytes 1 (s.get GEN_LIFECYCLE_IDENTITY_GEN)), false))
  else
    (s.modKey (fun k => { k with rootRetry := some (s.dt + sec 10) })).modBil (fun b => { b with keyOp := true })

/-! Writing a slot (R455) -/

/-- R455: a record that no directory word names, of lowest number. -/
def freeRecord (s : Dev) : Fin 65 :=
  ((idx 65).find? (fun r =>
    !(List.range 64).any (fun k => s.get (KEY_SLOT_STATE k) != 0 && s.get (KEY_SLOT_RECORD k) == r.val))).getD 0

/-- R451: the 240 bytes of a record as they stand in MRAM: TYPE, SLOT, USAGE, WSEQ, NONCE, and BODY sealed under K_SLOT with its TAG. -/
def recordBytes (s : Dev) (r : KeyRec) : List Byte :=
  let nonce := leBytes 8 r.wseq ++ leBytes 1 r.slot ++ [0, 0, 0]
  let head := leBytes 1 r.type ++ leBytes 1 r.slot ++ leBytes 2 r.usage ++ leBytes 8 r.wseq ++ nonce
  let body := r.secret ++ r.pub
  head ++ Config.gcmSeal (s.derived "SRG-SLOT" 256) nonce head (body ++ leBytes (200 - body.length) 0)

/-- R455: WSEQ is incremented and written. -/
def nextWseq (s : Dev) : Dev := s.modKey (fun k => { k with wseq := k.wseq + 1 })

/-- R455: an aborted write. -/
def keyAbort (s : Dev) (step : Nat) : Dev := s.post EV_KEY_KEY_OP_ABORTED (leBytes 1 step)

/-- R455: steps 2 to 7 for slot `k`: the record goes to the free record, and one directory word makes it the slot's key. The Bool says
that a named slot's key was replaced (R371). -/
def writeSlot (s : Dev) (k : Nat) (x : KeyNew) (secret pub : List Byte) : Dev × Except Code Bool :=
  let s := s.nextWseq
  let r := s.freeRecord
  let rec_ : KeyRec :=
    { type := x.type, hash := x.hash, usage := x.usage, slot := k, wseq := s.key.wseq, secret := secret, pub := pub,
      intact := x.fail != some 3 && x.fail != some 4 }
  let s := s.modKey (fun q => { q with records := q.records.set r (some rec_) })
  match x.fail with
  | some i => if 3 ≤ i.val then (s.keyAbort i, .error ST_KEY_CHECK_FAIL) else (s.keyAbort 3, .error ST_KEY_CHECK_FAIL)
  | none =>
    let had := s.get (KEY_SLOT_STATE k) != 0
    let old := s.get (KEY_SLOT_RECORD k)
    let s := (((s.set (KEY_SLOT_STATE k) 1).set (KEY_SLOT_RECORD k) r).set (KEY_SLOT_TYPE k) x.type).set (KEY_SLOT_USAGE k) x.usage
    let s := if had then s.modKey (fun q => { q with records := q.records.setIfInBounds old none }) else s
    (s.keyCounts.post EV_KEY_SLOT_WRITTEN (leBytes 1 k ++ leBytes 1 x.type ++ leBytes 1 x.usage), .ok (had && s.keyNamed k))

/-- R459: bytes 0 to 31 of a blob. -/
def blobHead (s : Dev) (x : KeyNew) (nonce : List Byte) : List Byte :=
  ascii "SRGB" ++ leBytes 1 x.type ++ [0] ++ leBytes 2 x.usage ++ s.keyContext ++ [0, 0, 0] ++ nonce

/-- R459: a key sealed as a blob. -/
def makeBlob (s : Dev) (x : KeyNew) (secret pub : List Byte) : Dev × List Byte :=
  let s := s.nextWseq
  let nonce := leBytes 8 s.key.wseq ++ leBytes 4 0xFFFFFFFF
  let body := secret ++ pub
  let h := s.blobHead x nonce
  (s, h ++ Config.gcmSeal (s.derived "SRG-BLOB" 256) nonce h (body ++ leBytes (200 - body.length) 0))

/-- R455, R459, R460: store a new key and give what the operation returns. The Bool is that of `writeSlot`. -/
def storeKey (s : Dev) (x : KeyNew) (secret pub : List Byte) : Dev × Except Code (Bool × List Byte) :=
  match x.dest with
  | .blob => let q := s.makeBlob x secret pub; (q.1, .ok (false, q.2))
  | .slot k =>
    let q := s.writeSlot k.toNat x secret pub
    match q.2 with
    | .error c => (q.1, .error c)
    | .ok b => (q.1, .ok (b, pub ++ q.1.attestation k x.type x.usage pub))

/-- R453, R456 to R460: why GENERATE or IMPORT is refused at the start. -/
def newKeyBad (s : Dev) (x : KeyNew) : Option Code :=
  if !s.flag KEY_STATUS_ROOT then some ST_KEY_NO_ROOT
  else
    match x.dest with
    | .blob => if creationBad x.type x.usage x.hash true then some ST_BAD_PARAM else none
    | .slot k =>
      if 64 ≤ k.toNat || creationBad x.type x.usage x.hash false then some ST_BAD_PARAM else s.slotHeld k.toNat

/-! Long key operations -/

/-- R460, R496, R497: a key operation as a long operation: refused, or run to its end; the unit of its result is the byte. -/
def keyLong (s : Dev) (l : LongSrc) (op : Code) (bad : Option Code) (run : Dev → Dev × Except Code (List Byte)) : Dev :=
  match l.src with
  | .uart _ => s.complete l.src ST_HIF_NOT_IN_CHANNEL
  | .ring _ _ =>
    match (s.longCheck l).orElse (fun _ => bad) with
    | some c => s.longRefuse l op c
    | none =>
      let q := run (s.longAccept l op false)
      match q.2 with
      | .ok data =>
        (if data.isEmpty then q.1 else q.1.longPartial l.src data.length data 1000).longEnd l.src .done ST_OK
      | .error c => q.1.longEnd l.src .failed c

/-- A short key operation: refused, or completed with its result. -/
def keyShort (s : Dev) (src : Src) (q : Dev × Except Code (List Byte)) : Dev :=
  match src with
  | .uart _ => s.complete src ST_HIF_NOT_IN_CHANNEL
  | .ring _ _ =>
    match q.2 with
    | .ok data => q.1.complete src ST_OK 0 data
    | .error c => q.1.complete src c

/-- A long key operation that uses a loaded key: `run` gives its result. -/
def keyLongUse (s : Dev) (l : LongSrc) (op : Code) (r : KeyRef) (u : Nat) (run : UseKey → Except Code (List Byte)) : Dev :=
  let q := s.loadFor r u
  match q.2 with
  | .error c => q.1.keyLong l op (some c) (fun d => (d, .ok []))
  | .ok x => q.1.keyLong l op none (fun d => (d, run x))

/-- R455: the end of a new key's making: what the descriptor's status word says, and whether a tamper of type KEY follows. -/
def keyMade (l : LongSrc) (q : Dev × Except Code (Bool × List Byte)) : Dev × Bool :=
  match q.2 with
  | .ok r => ((q.1.longPartial l.src r.2.length r.2 1000).longEnd l.src .done ST_OK, r.1)
  | .error c => (q.1.longEnd l.src .failed c, false)

/-- R455: run the making of a new key as a long operation and a key operation. -/
def keyMaking (s : Dev) (l : LongSrc) (op : Code) (bad : Option Code) (tampers : List (Fin 13))
    (make : Dev → Dev × Except Code (Bool × List Byte)) : Dev :=
  match l.src with
  | .uart _ => s.complete l.src ST_HIF_NOT_IN_CHANNEL
  | .ring _ _ =>
    match (s.longCheck l).orElse (fun _ => bad) with
    | some c => s.longRefuse l op c
    | none => (s.longAccept l op false).keyOperation tampers (fun d => keyMade l (make d))

/-- R455, R460: GENERATE. -/
def keyGenerate (s : Dev) (l : LongSrc) (x : KeyNew) : Dev :=
  let bad := match s.newKeyBad x with
    | some c => some c
    | none => if !s.flag KEY_STATUS_RNG_OK then some ST_KEY_RNG_UNAVAILABLE
      else if !s.engineOk x.type then some ST_KEY_CHECK_FAIL else none
  s.keyMaking l 0x1001 bad x.tampers (fun d =>
    let f := d.fresh
    let secret := Config.freeBytes f.1 (keyLen x.type x.hash)
    f.2.storeKey x secret (pubOf x.type secret))

/-- R458, R452: open a sealed import with the UNWRAP key `u`. An HMAC key has 32 to 64 bytes; the others the length of their type. -/
def openImport (s : Dev) (x : KeySealed) (u : UseKey) : Option (List Byte) :=
  let target : List Byte := match x.new.dest with
    | .slot k => [k]
    | .blob => [0xFF]
  let ctx := s.keyContext ++ target ++ leBytes 1 x.new.type ++ leBytes 2 x.new.usage
  match Config.gcmOpen (Config.kdf (Config.ecdh u.secret x.point) (ascii "SRG-IMPORT") ctx 256) x.nonce ctx x.sealed with
  | none => none
  | some m =>
    let secret := if x.new.type = ktHmac then m else m.take (keyLen x.new.type x.new.hash)
    let fits := if x.new.type = ktHmac then decide (32 ≤ m.length) && decide (m.length ≤ 64) else secret.length == keyLen x.new.type x.new.hash
    if fits && checkValue x.new.type secret (pubOf x.new.type secret) == x.check then some secret else none

/-- R458, R460: IMPORT. -/
def keyImport (s : Dev) (l : LongSrc) (x : KeySealed) : Dev :=
  let q : Dev × Except Code UseKey := match s.newKeyBad x.new with
    | some c => (s, .error c)
    | none => s.loadFor (.slot x.unwrapSlot) kuUnwrap
  let bad := match q.2 with
    | .error c => some c
    | .ok _ => none
  q.1.keyMaking l 0x1002 bad x.new.tampers (fun d =>
    match q.2 with
    | .error c => (d, .error c)
    | .ok u =>
      match d.openImport x u with
      | none => (d.keyAbort 1, .error ST_KEY_CHECK_FAIL)
      | some secret => d.storeKey x.new secret (pubOf x.new.type secret))

/-- R456, R460: DELETE. -/
def keyDelete (s : Dev) (src : Src) (k : Byte) (tampers : List (Fin 13)) : Dev :=
  let i := k.toNat
  match src with
  | .uart _ => s.complete src ST_HIF_NOT_IN_CHANNEL
  | .ring _ _ =>
    if !s.flag KEY_STATUS_ROOT then s.complete src ST_KEY_NO_ROOT
    else if 64 ≤ i then s.complete src ST_BAD_PARAM
    else if s.get (KEY_SLOT_STATE i) = 0 then s.complete src ST_KEY_SLOT_EMPTY
    else
      match s.slotHeld i with
      | some c => s.complete src c
      | none => s.keyOperation tampers (fun s =>
          let r := s.get (KEY_SLOT_RECORD i)
          let s := (s.wr (KEY_SLOT i) 0).modKey (fun q => { q with records := q.records.setIfInBounds r none })
          ((s.keyCounts.post EV_KEY_SLOT_DELETED (leBytes 1 i)).complete src ST_OK, false))

/-- R460, R472: GET_PUBLIC: public key, attestation, and the factory's certificate of the identity key while it holds. -/
def keyGetPublic (s : Dev) (r : KeyRef) : Dev × Except Code (List Byte) :=
  if !s.flag KEY_STATUS_ROOT then (s, .error ST_KEY_NO_ROOT)
  else
    let q := s.loadKey r
    match q.2 with
    | .error c => (q.1, .error c)
    | .ok x =>
      (q.1, .ok (x.pub ++ s.attestation x.slot x.type x.usage x.pub ++
        (if s.get GEN_LIFECYCLE_IDENTITY_GEN = 1 then s.key.idCert else [])))

/-- R460, R462: SIGN: a digest of the hash of the TYPE, or a message for Ed448. -/
def signHost (x : UseKey) (m : List Byte) : Except Code (List Byte) :=
  if typeHash x.type != 0 && m.length != typeHash x.type / 8 then .error ST_BAD_PARAM else .ok (Config.sign x.type x.secret m)

/-- R460: VERIFY. -/
def verifyHost (x : UseKey) (m sig : List Byte) : Except Code (List Byte) :=
  if Config.verify x.type x.pub m sig then .ok [] else .error ST_KEY_CHECK_FAIL

/-- R460: CIPHER. -/
def cipherHost (x : UseKey) (r : CipherReq) : Except Code (List Byte) :=
  if 65536 < r.text.length || r.nonce.length != 12 then .error ST_BAD_PARAM
  else if r.decrypt then
    match Config.gcmOpen x.secret r.nonce r.aad r.text with
    | some p => .ok p
    | none => .error ST_KEY_CHECK_FAIL
  else .ok (Config.gcmSeal x.secret r.nonce r.aad r.text)

/-- A short operation with a loaded key. -/
def keyUse (s : Dev) (r : KeyRef) (u : Nat) (run : UseKey → Except Code (List Byte)) : Dev × Except Code (List Byte) :=
  let q := s.loadFor r u
  match q.2 with
  | .error c => (q.1, .error c)
  | .ok x => (q.1, run x)

/-- R463: the codes of the hashes among the algorithms whose known-answer test has failed. -/
def engineSha (bits : Nat) : Byte := if bits = 256 then 0x10 else if bits = 384 then 0x11 else 0x12

/-- R460: HASH. -/
def keyHash (s : Dev) (bits : Nat) (m : List Byte) : Dev × Except Code (List Byte) :=
  if !s.flag KEY_STATUS_ROOT then (s, .error ST_KEY_NO_ROOT)
  else if !([256, 384, 512].contains bits) || 65536 < m.length then (s, .error ST_BAD_PARAM)
  else if s.key.engineBad.contains (engineSha bits) then (s, .error ST_KEY_CHECK_FAIL)
  else (s, .ok (Config.sha2 bits m))

/-- R460, R461: RANDOM. -/
def keyRandom (s : Dev) (n : Nat) : Dev × Except Code (List Byte) :=
  if !s.flag KEY_STATUS_ROOT then (s, .error ST_KEY_NO_ROOT)
  else if n = 0 ∨ 4096 < n then (s, .error ST_BAD_PARAM)
  else if !s.flag KEY_STATUS_RNG_OK then (s, .error ST_KEY_RNG_UNAVAILABLE)
  else let f := s.fresh; (f.2, .ok (Config.freeBytes f.1 n))

/-! Working slots (R459) -/

/-- R473: KEY_WSLOT. -/
def workShow (s : Dev) : Dev :=
  s.set KEY_WSLOT_LOADED (((idx 16).filter (fun w => s.key.work[w].isSome)).foldl (fun a w => a + 2 ^ w.val) 0)

/-- R459: every working slot is zeroised. -/
def zeroiseWork (s : Dev) : Dev := (s.modKey (fun k => { k with work := Vector.replicate 16 none })).workShow

/-- R459: open a blob. The hash of an HMAC key and its length stand nowhere in it: both are free (log entry 43). -/
def openBlob (s : Dev) (b : List Byte) : Dev × Option WorkKey :=
  let h := b.take 32
  let ty := leNat ((b.drop 4).take 1)
  let usage := leNat ((b.drop 6).take 2)
  let ok := b.length == 248 && b.take 4 == ascii "SRGB" && (b.drop 8).take 9 == s.keyContext
  if !ok then (s, none)
  else
    match Config.gcmOpen (s.derived "SRG-BLOB" 256) ((b.drop 20).take 12) h (b.drop 32) with
    | none => (s, none)
    | some m =>
      let f := s.fresh
      let hash := if ty = ktHmac then 256 + 128 * (Config.freeNat f.1 % 3) else 0
      let f := f.2.fresh
      let n := if ty = ktHmac then 32 + Config.freeNat f.1 % 33 else keyLen ty hash
      (f.2, some ⟨ty, hash, usage, m.take n, (m.drop n).take (pubLen ty)⟩)

/-- R459, R460: LOAD_BLOB. -/
def keyLoadBlob (s : Dev) (w : Byte) (b : List Byte) : Dev × Except Code (List Byte) :=
  if !s.flag KEY_STATUS_ROOT then (s, .error ST_KEY_NO_ROOT)
  else if 16 ≤ w.toNat then (s, .error ST_BAD_PARAM)
  else
    let q := s.openBlob b
    match q.2 with
    | none => (q.1, .error ST_KEY_BLOB_BAD)
    | some x => ((q.1.modKey (fun k => { k with work := k.work.setIfInBounds w.toNat (some x) })).workShow, .ok [])

/-- R459, R460: UNLOAD. -/
def keyUnload (s : Dev) (w : Byte) : Dev × Except Code (List Byte) :=
  if !s.flag KEY_STATUS_ROOT then (s, .error ST_KEY_NO_ROOT)
  else if h : w.toNat < 16 then
    if s.key.work[w.toNat].isNone then (s, .error ST_KEY_WSLOT_EMPTY)
    else ((s.modKey (fun k => { k with work := k.work.set w.toNat none })).workShow, .ok [])
  else (s, .error ST_BAD_PARAM)

/-! The random source (R461) -/

/-- R461: a continuous health test fails. -/
def rngFail (s : Dev) : Dev :=
  if !s.flag KEY_STATUS_RNG_OK then s
  else
    let s := (s.setb KEY_STATUS_RNG_OK false).bump KEY_RNG_FAILS
    (s.modKey (fun k => { k with
      rngRun := 0
      rngRetest := some (s.dt + sec 10) })).post EV_KEY_RNG_FAIL

/-- R461: the start-up tests are repeated. -/
def rngRetest (s : Dev) (pass : Bool) : Dev :=
  match s.key.rngRetest with
  | none => s
  | some t =>
    let s := s.reach t
    if pass then
      ((s.modKey (fun k => { k with
        rngRun := 0
        rngRetest := none })).setb KEY_STATUS_RNG_OK true).post EV_KEY_RNG_RESTORED
    else if 3 ≤ s.key.rngRun + 1 then
      (s.modKey (fun k => { k with
        rngRun := 3
        rngRetest := none })).setb KEY_STATUS_RNG_LATCHED true
    else
      s.modKey (fun k => { k with
        rngRun := k.rngRun + 1
        rngRetest := some (s.dt + sec 10) })

/-- R449: the wait for the random source is over, or goes on for another 10 s. -/
def rootGenRetry (s : Dev) : Dev :=
  match s.key.rootRetry with
  | none => s
  | some t => (s.reach t).rootCreate

/-! Lifecycle transitions (R39) -/

/-- R39: the lifecycle state changes: recorded in the wayledger, and billing starts or stops with SERVICE. -/
def changeLife (s : Dev) (life : Nat) : Dev :=
  let old := s.life
  let s := s.when (old == lfService && life != lfService) (·.billingStop)
  let s := (s.set GEN_LIFECYCLE_LIFE life).ledger LG_LIFECYCLE (leBytes 1 old ++ leBytes 1 life)
  (s.when (old != lfService && life == lfService) (·.billingStart)).normalUpdate.chgReady

/-- R39, R467: the state is set; to set the state that holds is no transition. -/
def setLife (s : Dev) (life : Nat) : Dev := if s.life = life then s else s.changeLife life

/-! Debug access (R466, R467) -/

/-- R467: step 2: everything secret is overwritten. -/
def eraseSecrets (s : Dev) : Dev :=
  let s := s.forEach (List.range 64) (fun k s => s.wr (KEY_SLOT k) 0)
  let s := ((s.setb KEY_STATUS_ROOT false).setb KEY_STATUS_BOUND_ANY false).set KEY_STATUS_BOUND_SLOT 0
  (s.modKey (fun k => { k with
    root := none
    records := Vector.replicate 65 none })).keyCounts.zeroiseWork

/-- R467: steps 2 and 3. -/
def eraseFinish (s : Dev) : Dev :=
  s.keyOperation [] (fun s => ((s.eraseSecrets.setLife lfDebugOpen).setb KEY_STATUS_ERASE_PENDING false, false))

/-- R467: an accepted opening; `interrupted` says that a reset takes the device before step 2 has ended. -/
def debugOpening (s : Dev) (interrupted : Bool) : Dev :=
  let s := s.setb KEY_STATUS_ERASE_PENDING true
  if interrupted then s
  else ((s.eraseFinish.modKey (fun k => { k with debugOpen := true })).post EV_KEY_DEBUG_ERASED).emit (.debug ST_OK [])

/-- R466: three failed authorisations lock the port until the next reset (R464). -/
def debugLocked (s : Dev) : Bool := decide (3 ≤ s.key.debugFails)

/-- R466: a debugger asks for an opening. -/
def debugRequest (s : Dev) : Dev :=
  if s.debugLocked then s.emit (.debug ST_KEY_DEBUG_AUTH_FAIL [])
  else if !s.flag KEY_STATUS_RNG_OK then s.emit (.debug ST_KEY_RNG_UNAVAILABLE [])
  else
    let f := s.fresh
    let c := Config.freeBytes f.1 32
    (f.2.modKey (fun k => { k with challenge := some c })).emit (.debug ST_OK c)

/-- R466: the debugger's response. -/
def debugResponse (s : Dev) (sig : List Byte) (interrupted : Bool) : Dev :=
  let c := s.key.challenge
  let ok := !s.debugLocked && c.any (fun c =>
    Config.verify ktEd448 s.key.authority (c ++ leBytes 8 (s.get64 GEN_DEVICE_ID_LO).toNat ++ ascii "OPEN") sig)
  let s := s.modKey (fun k => { k with challenge := none })
  if !ok then (s.modKey (fun k => { k with debugFails := k.debugFails + 1 })).emit (.debug ST_KEY_DEBUG_AUTH_FAIL [])
  else if s.life = lfManufacture then s.emit (.debug ST_BAD_PARAM [])
  else if s.siteLive then s.emit (.debug ST_BUSY_LIVE [])
  else s.debugOpening interrupted

/-! Firmware (R468 to R471) -/

def bankOf (s : Dev) (b : Nat) : FwBank := if b = 0 then s.key.bankA else s.key.bankB

def modBank (s : Dev) (b : Nat) (f : FwBank → FwBank) : Dev :=
  s.modKey (fun k => if b = 0 then { k with bankA := f k.bankA } else { k with bankB := f k.bankB })

/-- The index of the bank not marked active. -/
def otherBank (s : Dev) : Nat := 1 - s.get KEY_FW_ACTIVE

/-- R468, R471: a bank that can be started: it authenticates, and its SEC_VER is not below the anti-rollback counter. -/
def bankBootable (s : Dev) (b : Nat) : Bool :=
  let x := s.bankOf b
  x.present && x.authentic && decide (s.get KEY_FW_SEC_ROLLBACK ≤ x.secVer)

/-- R473, R474: the registers of both banks. -/
def bankShow (s : Dev) : Dev :=
  let s := (s.setb KEY_FW_A_OK (s.bankBootable 0)).setb KEY_FW_B_OK (s.bankBootable 1)
  (s.wr KEY_FW_VER_A (if s.bankBootable 0 then s.key.bankA.version else 0)).wr KEY_FW_VER_B
    (if s.bankBootable 1 then s.key.bankB.version else 0)

/-- R463: an image can be authenticated at all: SHA-384 and ECDSA P-384 work. -/
def canAuthenticate (s : Dev) : Bool := !s.key.engineBad.contains 0x11 && !s.key.engineBad.contains (BitVec.ofNat 8 ktP384)

/-- R468: bytes `at` to `at + n - 1` of an image. -/
def fwField (b : List Byte) (at_ n : Nat) : List Byte := (b.drop at_).take n

/-- R468: the signature of an image: r then s, 66 bytes each, of which P-384 uses the last 48. -/
def fwSig (b : List Byte) : List Byte := (fwField b 64 66).drop 18 ++ (fwField b 130 66).drop 18

/-- R468: MAGIC, LENGTH, SIG and DIGEST of an image. -/
def imageSigned (s : Dev) (b : List Byte) : Bool :=
  let len := leNat (fwField b 12 4)
  s.canAuthenticate && fwField b 0 4 == ascii "SRGF" && decide (len ≤ 2097152 - 256) && b.length == 256 + len &&
    Config.verify ktP384 s.key.fwKey (Config.sha2 384 (b.take 64)) (fwSig b) && Config.sha2 384 (b.drop 256) == fwField b 16 48

/-- R468: why an image does not authenticate. -/
def imageBad (s : Dev) (b : List Byte) : Option Code :=
  if !s.imageSigned b || s.get GEN_REV_STEPPING < leNat (fwField b 10 2) then some ST_KEY_FW_SIG_BAD
  else if leNat (fwField b 8 2) < s.get KEY_FW_SEC_ROLLBACK then some ST_KEY_FW_ROLLBACK
  else none

/-- R470, R513: FW_STAGE. -/
def fwStage (s : Dev) (l : LongSrc) (x : FwImage) : Dev :=
  let bad :=
    if !s.flag KEY_STATUS_ROOT then some ST_KEY_NO_ROOT
    else if s.flag KEY_FW_TRIAL && !s.flag GEN_LIFECYCLE_CAUSE_FW then some ST_BUSY_LIVE
    else s.imageBad x.bytes
  s.keyLong l 0x100E bad (fun s =>
    let b := s.otherBank
    let c := s.imageBad x.mram
    let version := leNat (fwField x.mram 4 4)
    let s := (s.modBank b (fun _ => ⟨true, BitVec.ofNat 32 version, leNat (fwField x.mram 8 2), c.isNone⟩)).bankShow
    match c with
    | some c => (s, .error c)
    | none => (s.post EV_KEY_FW_STAGED (leBytes 1 b ++ leBytes 4 version), .ok []))

/-- R470: FW_CONFIRM. -/
def fwConfirm (s : Dev) : Dev × Except Code (List Byte) :=
  if !s.flag KEY_STATUS_ROOT then (s, .error ST_KEY_NO_ROOT)
  else if !s.flag KEY_FW_TRIAL then (s, .error ST_BAD_PARAM)
  else
    let x := s.bankOf (s.get KEY_FW_ACTIVE)
    let s := (s.setb KEY_FW_TRIAL false).set KEY_FW_TRIAL_LEFT 0
    let s := (s.set KEY_FW_SEC_ROLLBACK (max (s.get KEY_FW_SEC_ROLLBACK) x.secVer)).modKey (fun k => { k with trialSince := none })
    (s.bankShow.post EV_KEY_FW_CONFIRMED, .ok [])

end Dev

/-! The commands of this chapter -/

/-- R455: KEY_GENERATE. -/
def execKeyGenerate (l : LongSrc) (x : KeyNew) (s : State) : Host.Outcome State Fault Refusal := s.onHost l.src false false (fun d => d.keyGenerate l x)

/-- R458: KEY_IMPORT. -/
def execKeyImport (l : LongSrc) (x : KeySealed) (s : State) : Host.Outcome State Fault Refusal := s.onHost l.src false false (fun d => d.keyImport l x)

/-- R456: KEY_DELETE. -/
def execKeyDelete (src : Src) (k : Byte) (tampers : List (Fin 13)) (s : State) : Host.Outcome State Fault Refusal :=
  s.onHost src false false (fun d => d.keyDelete src k tampers)

/-- R460: KEY_GET_PUBLIC. -/
def execKeyGetPublic (src : Src) (r : KeyRef) (s : State) : Host.Outcome State Fault Refusal :=
  s.onHost src false false (fun d => d.keyShort src (d.keyGetPublic r))

/-- R460: KEY_MAKE_CSR: a request signed by a TLS slot. -/
def execKeyMakeCsr (l : LongSrc) (k : Byte) (body : List Byte) (s : State) : Host.Outcome State Fault Refusal :=
  s.onHost l.src false false (fun d => d.keyLongUse l 0x1005 (.slot k) kuTls (fun x => .ok (Config.csr x.type x.secret body)))

/-- R460: KEY_SIGN. -/
def execKeySign (l : LongSrc) (r : KeyRef) (m : List Byte) (s : State) : Host.Outcome State Fault Refusal :=
  s.onHost l.src false false (fun d => d.keyLongUse l 0x1006 r kuSignHost (fun x => Dev.signHost x m))

/-- R460: KEY_VERIFY. -/
def execKeyVerify (l : LongSrc) (r : KeyRef) (m sig : List Byte) (s : State) : Host.Outcome State Fault Refusal :=
  s.onHost l.src false false (fun d => d.keyLongUse l 0x1007 r kuSignHost (fun x => Dev.verifyHost x m sig))

/-- R460: KEY_HMAC. -/
def execKeyHmac (src : Src) (r : KeyRef) (m : List Byte) (s : State) : Host.Outcome State Fault Refusal :=
  s.onHost src false false (fun d => d.keyShort src (d.keyUse r kuHmacHost (fun x => .ok (Config.hmac x.hash x.secret m))))

/-- R460: KEY_CIPHER. -/
def execKeyCipher (src : Src) (r : KeyRef) (x : CipherReq) (s : State) : Host.Outcome State Fault Refusal :=
  s.onHost src false false (fun d => d.keyShort src (d.keyUse r kuCipherHost (fun k => Dev.cipherHost k x)))

/-- R460: KEY_HASH. -/
def execKeyHash (src : Src) (bits : Nat) (m : List Byte) (s : State) : Host.Outcome State Fault Refusal :=
  s.onHost src false false (fun d => d.keyShort src (d.keyHash bits m))

/-- R460: KEY_RANDOM. -/
def execKeyRandom (src : Src) (n : Nat) (s : State) : Host.Outcome State Fault Refusal := s.onHost src false false (fun d => d.keyShort src (d.keyRandom n))

/-- R459: KEY_LOAD_BLOB. -/
def execKeyLoadBlob (src : Src) (w : Byte) (blob : List Byte) (s : State) : Host.Outcome State Fault Refusal :=
  s.onHost src false false (fun d => d.keyShort src (d.keyLoadBlob w blob))

/-- R459: KEY_UNLOAD. -/
def execKeyUnload (src : Src) (w : Byte) (s : State) : Host.Outcome State Fault Refusal := s.onHost src false false (fun d => d.keyShort src (d.keyUnload w))

/-- R470: FW_STAGE. -/
def execFwStage (l : LongSrc) (x : FwImage) (s : State) : Host.Outcome State Fault Refusal := s.onHost l.src false true (fun d => d.fwStage l x)

/-- R470: FW_CONFIRM. -/
def execFwConfirm (src : Src) (s : State) : Host.Outcome State Fault Refusal := s.onHost src false false (fun d => d.keyShort src d.fwConfirm)

/-- R461: RNG_FAIL. -/
def execRngFail (s : State) : Host.Outcome State Fault Refusal := s.onLive (fun d => d.rngFail)

/-- R461: RNG_RETEST. -/
def execRngRetest (pass : Bool) (s : State) : Host.Outcome State Fault Refusal := s.onLive (fun d => d.rngRetest pass)

/-- R449: ROOT_GEN_RETRY. -/
def execRootGenRetry (s : State) : Host.Outcome State Fault Refusal := s.onLive (fun d => d.rootGenRetry)

/-- R466: DEBUG_OPEN_REQUEST. -/
def execDebugOpenRequest (s : State) : Host.Outcome State Fault Refusal := s.onLive (fun d => d.debugRequest)

/-- R466: DEBUG_AUTH_RESPONSE. -/
def execDebugAuthResponse (sig : List Byte) (interrupted : Bool) (s : State) : Host.Outcome State Fault Refusal :=
  s.onLive (fun d => d.debugResponse sig interrupted)

/-- R466: DEBUG_CLOSE. -/
def execDebugClose (s : State) : Host.Outcome State Fault Refusal :=
  s.onLive (fun d => (d.modKey (fun k => { k with debugOpen := false })).emit (.debug ST_OK []))

end Sys2Proof.Machine
end

