-- ==== Sys2Proof/Machine/Rings.lean ====
section
/-! DEFINITION. Rings, doorbells, descriptors, caravans, vectors and the host link (R480 to R502). -/

namespace Sys2Proof.Machine

namespace Dev

/-- R480, R501: HIF_RING_STATUS.STATE. -/
def rsOff : Nat := 0
def rsRun : Nat := 1
def rsSuspended : Nat := 2
def rsError : Nat := 3

/-! Staged entries (R494, R495) -/

/-- R494: HIF_STATUS.STAGING and the ring's own count. -/
def stagingSummary (s : Dev) (n : Fin 256) : Dev :=
  (s.stagedSummary n).setb HIF_STATUS_STAGING
    ((idx 256).any (fun (m : Fin 256) => !s.hif.rings[m].staged.isEmpty) || !s.hif.alertStore.isEmpty)

/-- Write the entries of `l` that may be written while ring `n` has room; what stays is handed back, in order. -/
def drainList (n : Fin 256) : List EntryBody → Dev → Dev × List EntryBody
  | [], s => (s, [])
  | b :: rest, s =>
    if s.mayWrite b && s.ringHasRoom n then drainList n rest (s.ringWrite n b true)
    else
      let q := drainList n rest s
      (q.1, b :: q.2)

/-- R494: the ALERT events of ring `n` in the common alert store, while it has room. -/
def drainAlerts (n : Fin 256) : List (Nat × Event) → Dev → Dev × List (Nat × Event)
  | [], s => (s, [])
  | e :: rest, s =>
    if e.1 == n.val && s.ringHasRoom n then drainAlerts n rest (s.ringWrite n (.event e.2) true)
    else
      let q := drainAlerts n rest s
      (q.1, e :: q.2)

/-- R494: entries are written as the host returns space. -/
def drain (s : Dev) (n : Fin 256) : Dev :=
  if !s.ringUsable n (s.get (HIF_RING_CFG_KIND n)) then s
  else
    let q := drainList n s.hif.rings[n].staged s
    let s := q.1.modRing n (fun r => { r with staged := q.2 })
    let s :=
      if s.get (HIF_RING_CFG_KIND n) == kindEvent then
        let a := drainAlerts n s.hif.alertStore s
        (a.1.putHif { a.1.hif with alertStore := a.2 })
      else s
    s.stagingSummary n

/-! Doorbells (R484) -/

/-- R484: an ignored doorbell is counted, and told once per ring per second. -/
def doorbellError (s : Dev) (n : Fin 256) : Dev :=
  let s := s.bump HIF_DB_ERR
  let due := (s.hif.rings[n].dbErr).all (fun t => decide (t + sec 1 ≤ s.dt))
  s.when due (fun s => (s.modRing n (fun r => { r with dbErr := some s.dt })).post EV_HIF_DB_ERROR (leBytes 1 n))

/-- R493: a vector is armed. -/
def armVector (s : Dev) (v : Fin 64) : Dev := s.modVector v (fun _ => ⟨true, 0, none⟩)

/-- R484, R493, R494: a doorbell write to ring `n`. -/
def doorbell (s : Dev) (n : Fin 256) (value : Word) : Dev :=
  let i := bitsOf value 11 0
  let size := s.ringSize n
  if !s.flag (HIF_RING_CFG_EN n) || decide (size ≤ i) then s.doorbellError n
  else if s.get (HIF_RING_CFG_KIND n) == kindSubmit then s.modRing n (fun r => { r with hostIdx := i })
  else
    let tail := s.get (HIF_RING_STATUS_INDEX n)
    let head := s.hif.rings[n].hostIdx
    if decide ((tail + size - head) % size < (i + size - head) % size) then s.doorbellError n
    else
      let returned := (i + size - head) % size
      let s := s.modRing n (fun r => { r with
        hostIdx := i
        written := r.written.drop returned })
      let v := s.ringVector n
      let s := if value.toNat.testBit 31 then (s.armVector v).when (tail != i) (·.signal v) else s
      s.drain n

/-! Descriptors (R483, R485, R486, R490) -/

/-- R487: the opcodes. -/
def opcodeKnown (o : Code) : Bool :=
  let b := o.toNat / 256
  let l := o.toNat % 256
  (b == 0x01 && decide (l ≤ 3)) || (b == 0x00 && decide (1 ≤ l) && decide (l ≤ 3)) || o == 0x0201 || o == 0x0501 || o == 0x0601 ||
    (b == 0x07 && decide (1 ≤ l) && decide (l ≤ 2)) || (b == 0x08 && decide (1 ≤ l) && decide (l ≤ 5)) || o == 0x0901 ||
    (b == 0x0B && decide (1 ≤ l) && decide (l ≤ 8)) || (b == 0x10 && decide (1 ≤ l) && decide (l ≤ 0x10)) || o == 0x1101

/-- R513: the opcodes served in FW_BAD. -/
def opcodeInFwBad (o : Code) : Bool :=
  o ∈ ([0x0100, 0x0101, 0x0102, 0x0103, 0x0002, 0x100E, 0x100F, 0x1101] : List Code)

/-- R486, R487: a buffer shorter than the operation needs, where the opcode alone fixes the need. -/
def descShort (d : Desc) : Bool :=
  if d.opcode = 0x0101 then decide (d.bufLen < 4) || decide (d.resLen < d.bufLen)
  else if d.opcode = 0x0102 then decide (d.bufLen < 8)
  else if d.opcode = 0x0701 then decide (d.bufLen < 1)
  else if d.opcode = 0x0702 then decide (d.resLen < 4096)
  else if d.opcode = 0x0901 then decide (d.bufLen < 80)
  else false

/-- R483, R486, R513: why a descriptor of ring `n` is not executed. -/
def descBad (s : Dev) (n : Fin 256) (d : Desc) : Option Code :=
  let own := s.get (HIF_RING_CFG_OWNER n)
  if !d.clean || !opcodeKnown d.opcode || (own != 0 && d.opcode != 0x0901) || (own == 0 && d.opcode == 0x0901) then
    some ST_HIF_BAD_OPCODE
  else if s.flag GEN_LIFECYCLE_CAUSE_FW && !opcodeInFwBad d.opcode then some ST_HIF_NOT_IN_CHANNEL
  else if descShort d then some ST_HIF_BAD_ADDR
  else none

/-- R484: how many entries of SUBMIT ring `n` its TAIL covers. -/
def covered (s : Dev) (n : Fin 256) : Nat :=
  (s.hif.rings[n].hostIdx + s.ringSize n - s.get (HIF_RING_STATUS_INDEX n)) % s.ringSize n

/-- R482, R490, R501: ring `n` has entries that the device may take now. -/
def mayServe (s : Dev) (n : Fin 256) : Bool :=
  let cq : Fin 256 := Fin.ofNat 256 (s.get (HIF_RING_CFG_CQ n))
  s.ringUsable n kindSubmit && !s.flag HIF_CTRL_QUIESCE && s.ringUsable cq kindComplete && s.ringHasRoom cq && decide (0 < s.covered n) &&
    (s.caravanRest n).isEmpty

/-- R483: the OWNER 0 rings of one PRIO that wait for their turn; `part` are those whose TAIL covers only a part of their next caravan. -/
def waitingRings (s : Dev) (part : List (Fin 256)) (prio : Nat) : List (Fin 256) :=
  (idx 256).filter (fun (m : Fin 256) => s.get (HIF_RING_CFG_OWNER m) == 0 && s.get (HIF_RING_CFG_PRIO m) == prio && s.mayServe m &&
    !part.contains m)

/-- R483: the ring served next among those of one PRIO: round robin. -/
def nextRing (s : Dev) (l : List (Fin 256)) (prio : Fin 4) : Option (Fin 256) :=
  (l.find? (fun (m : Fin 256) => decide (s.hif.served[prio] < m))).orElse (fun _ => l.head?)

/-- R483: whether it is the turn of ring `n`: PRIO 0 first, strictly above 1, and so on. Only its controller takes from an owned ring. -/
def ringTurn (s : Dev) (part : List (Fin 256)) (n : Fin 256) : Bool :=
  if s.get (HIF_RING_CFG_OWNER n) != 0 then true
  else (idx 4).findSome? (fun (p : Fin 4) => s.nextRing (s.waitingRings (part.filter (· != n)) p) p) == some n

/-- R490: these descriptors are one caravan, or one descriptor that is in none. -/
def isCaravan (ds : List Desc) : Bool := ds.dropLast.all (·.chain) && (ds.getLast?).any (fun d => !d.chain)

/-- R482, R483, R485, R490: whether the device fetches these descriptors from ring `n` now. -/
def mayFetch (s : Dev) (n : Fin 256) (part : List (Fin 256)) (ds : List Desc) : Bool :=
  s.mayServe n && s.ringTurn part n && isCaravan ds && decide (ds.length ≤ s.covered n) && decide (s.hif.exec.length + min ds.length 64 ≤ 512)

/-- R483: ring `n` has been served. -/
def ringServed (s : Dev) (n : Fin 256) : Dev :=
  if s.get (HIF_RING_CFG_OWNER n) != 0 then s
  else s.putHif { s.hif with served := vupd s.hif.served (Fin.ofNat 4 (s.get (HIF_RING_CFG_PRIO n))) (fun _ => n) }

/-- R490: the descriptors taken from ring `n`, at their entries. -/
def fetched (s : Dev) (n : Fin 256) (ds : List Desc) : List ExecDesc :=
  let head := s.get (HIF_RING_STATUS_INDEX n)
  let size := s.ringSize n
  (List.range ds.length).filterMap (fun i => (ds[i]?).map (fun d =>
    { ring := n, tag := d.tag, index := (head + i) % size, opcode := d.opcode, inCaravan := decide (1 < ds.length),
      last := decide (i + 1 = ds.length), waiting := decide (0 < i), bad := s.descBad n d,
      resAddr := d.resAddr, resLen := d.resLen }))

/-- R485, R490: fetch the next descriptor, or the whole next caravan, of ring `n`. -/
def fetch (s : Dev) (n : Fin 256) (part : List (Fin 256)) (ds : List Desc) : Dev :=
  if !s.mayFetch n part ds then s
  else
    let es := s.fetched n ds
    let s := s.ringServed n
    let cq : Fin 256 := Fin.ofNat 256 (s.get (HIF_RING_CFG_CQ n))
    let s := s.set (HIF_RING_STATUS_INDEX n) ((s.get (HIF_RING_STATUS_INDEX n) + ds.length) % s.ringSize n)
    if 64 < ds.length then
      s.forEach es (fun e s => s.deliverCompletion cq
        { tag := e.tag, ring := n, caravanEnd := e.last, long := false, index := e.index,
          status := ST_HIF_CARAVAN_TOO_LONG, result := 0, resAddr := 0, data := [] })
    else
      let s := (s.putHif { s.hif with exec := s.hif.exec ++ es }).runningSummary
      match es.head? with
      | some e =>
        match e.bad with
        | some c => s.complete (.ring n e.tag) c
        | none => s
      | none => s

/-! Enabling and disabling (R482, R292, R495) -/

/-- R494: the enabled EVENT rings. -/
def eventRings (s : Dev) : Nat :=
  ((idx 256).filter (fun (n : Fin 256) => s.flag (HIF_RING_CFG_EN n) && s.get (HIF_RING_CFG_KIND n) == kindEvent)).length

/-- R292, R482, R494: why a write of EN = 1 is refused. -/
def ringEnableBad (s : Dev) (n : Fin 256) : Bool :=
  let kind := s.get (HIF_RING_CFG_KIND n)
  let cq := s.get (HIF_RING_CFG_CQ n)
  let own := s.get (HIF_RING_CFG_OWNER n)
  if kind == kindSubmit then
    !(s.flag (HIF_RING_CFG_EN cq) && s.get (HIF_RING_CFG_KIND cq) == kindComplete) ||
      (own != 0 && !(s.flag (CAN_RING_TX_EN (own - 1)) && s.get (CAN_RING_TX_RING (own - 1)) == n.val))
  else kind == kindEvent && decide (8 ≤ s.eventRings)

/-- R495: the host uses the link again. Which speed and width it trained to is not the device's choice. -/
def linkUp (s : Dev) : Dev :=
  if s.flag HIF_STATUS_LINK_UP then s
  else if s.get HIF_STATUS_SPEED != 0 then s.setb HIF_STATUS_LINK_UP true
  else
    let f := s.fresh
    let g := f.2.fresh
    ((g.2.setb HIF_STATUS_LINK_UP true).set HIF_STATUS_SPEED (1 + Config.freeNat f.1 % 3)).set HIF_STATUS_WIDTH
      (2 ^ (Config.freeNat g.1 % 3))

/-- Keep the staged entries that the ring's kind can hold. -/
def stagedOfKind (s : Dev) (n : Fin 256) : Dev :=
  let kind := s.get (HIF_RING_CFG_KIND n)
  let fits := fun (b : EntryBody) => match b with
    | .completion _ => kind == kindComplete
    | .event _ => kind == kindEvent
    | .record _ _ => false
  s.modRing n (fun r => { r with staged := r.staged.filter fits })

/-- R495: the event LINK_RESTORED is written first into an EVENT ring that a link loss had suspended. -/
def linkRestored (s : Dev) (n : Fin 256) : Dev :=
  let p := leBytes 4 (s.rd HIF_LINK_EPOCH).toNat ++ leBytes 4 (s.rd HIF_EVT_DROP).toNat ++ leBytes 4 (s.rd HIF_ALERT_LOST).toNat
  let e : Event :=
    { code := EV_HIF_LINK_RESTORED, alert := true, seq := BitVec.ofNat 32 s.hif.seq, dt := s.dt, epoch := s.rd GEN_EPOCH, payload := p }
  let s := s.putHif { s.hif with seq := (s.hif.seq + 1) % 2 ^ 32 }
  (s.ringWrite n (.event e) false).record false 0x01 EV_HIF_LINK_RESTORED p

/-- R481, R482, R493 to R495: a write of EN = 1. -/
def ringEnable (s : Dev) (n : Fin 256) : Dev :=
  if s.flag (HIF_RING_CFG_EN n) then s
  else if s.ringEnableBad n then s.answer ST_BAD_PARAM
  else
    let kind := s.get (HIF_RING_CFG_KIND n)
    let was := s.get (HIF_RING_STATUS_STATE n)
    let s := (s.linkUp.setb (HIF_RING_CFG_EN n) true).set (HIF_RING_STATUS_STATE n) rsRun
    let s := (s.set (HIF_RING_STATUS_INDEX n) 0).modRing n (fun r => { r with
      hostIdx := 0
      phase := true
      written := [] })
    if kind == kindSubmit then s.drain (Fin.ofNat 256 (s.get (HIF_RING_CFG_CQ n)))
    else
      let s := (s.stagedOfKind n).armVector (s.ringVector n)
      (s.when (kind == kindEvent && was == rsSuspended) (·.linkRestored n)).drain n

/-- R482: a write of EN = 0. -/
def ringDisable (s : Dev) (n : Fin 256) : Dev :=
  let bound := (idx 256).any (fun (m : Fin 256) => s.flag (HIF_RING_CFG_EN m) && s.get (HIF_RING_CFG_KIND m) == kindSubmit &&
    s.get (HIF_RING_CFG_CQ m) == n.val)
  if s.flag (HIF_RING_CFG_EN n) && s.get (HIF_RING_CFG_KIND n) == kindComplete && bound then s.reject HIF_REJECT_CNT_CNT ST_BUSY_LIVE
  else (s.setb (HIF_RING_CFG_EN n) false).set (HIF_RING_STATUS_STATE n) rsOff

/-! Link loss (R495) and DMA errors (R502) -/

/-- R479: the MSI-X table and the pending bits as PCI Express resets them. -/
def msixReset (s : Dev) : Dev :=
  let s := s.forEach (List.range 256) (fun k s => s.wr (HIF_MSIX_ADDR_LO 0 + 4 * k) (resetWord (HIF_MSIX_ADDR_LO 0 + 4 * k)))
  ((s.wr (HIF_MSIX_PBA 0) 0).wr (HIF_MSIX_PBA 1) 0).forEach (idx 64) (fun v s => s.modVector v (fun _ => ⟨false, 0, none⟩))

/-- R495: a long operation that reads or writes host memory as it runs. -/
def usesHostMemory (o : LongOp) : Bool := o.opcode == 0x0501

/-- R495, R501: what the endpoint itself loses. A clear of Bus Master Enable leaves the link up, and PCI Express resets no MSI-X table for it
(PRESUMED, log entry 47). -/
def endpointLoss (s : Dev) (cause : LinkLossCause) : Dev :=
  match cause with
  | .bmeClear => s
  | _ => ((s.set HIF_STATUS_SPEED 0).set HIF_STATUS_WIDTH 0).msixReset

/-- R495: rings are suspended, what has not started is discarded, and the operations that use host memory fail. -/
def hostLoss (s : Dev) : Dev :=
  let s := (s.bump HIF_LINK_EPOCH).setb HIF_STATUS_LINK_UP false
  let s := s.forEach (idx 256) (fun (n : Fin 256) s =>
    if s.flag (HIF_RING_CFG_EN n) then (s.setb (HIF_RING_CFG_EN n) false).set (HIF_RING_STATUS_STATE n) rsSuspended else s)
  let late := (idx 4).flatMap (fun (n : Fin 4) => (s.canOf n).pend.drop 32)
  let s := s.forEach (idx 4) (fun (n : Fin 4) s => s.modCan n (fun x => { x with pend := x.pend.take 32 }))
  let gone := fun (e : ExecDesc) => e.waiting || late.any (fun p => p.src == .ring (Fin.ofNat 256 e.ring) e.tag)
  let s := (s.putHif { s.hif with exec := s.hif.exec.filter (fun e => !gone e) }).runningSummary
  s.forEach (s.hif.long.filter usesHostMemory) (fun o s => (s.identStop o.src).longEnd o.src .failed ST_HIF_LINK_LOST)

/-- R495: the host link is lost. Once Bus Master Enable has been cleared the device uses no link that could be lost again. -/
def linkLoss (s : Dev) (cause : LinkLossCause) : Dev :=
  (if s.flag HIF_STATUS_LINK_UP then s.hostLoss else s).endpointLoss cause

/-- R502: a DMA of ring `n`, which the device uses, completes with an error. -/
def dmaRingError (s : Dev) (n : Fin 256) (desc : Option Src) : Dev :=
  if !s.ringUsable n (s.get (HIF_RING_CFG_KIND n)) then s
  else
  let s := s.set (HIF_RING_STATUS_STATE n) rsError
  let s := match desc with
    | some (.ring m tag) =>
      let cq : Fin 256 := Fin.ofNat 256 (s.get (HIF_RING_CFG_CQ m))
      if s.ringUsable cq kindComplete then s.complete (.ring m tag) ST_HIF_DMA_ERROR
      else (s.putHif { s.hif with exec := eraseFirst (fun e => execIs e m tag) s.hif.exec }).runningSummary
    | _ => s
  s.post EV_HIF_RING_ERROR (leBytes 1 n)

/-- R502: a DMA of one operation completes with an error. -/
def dmaOpError (s : Dev) (src : Src) : Dev :=
  match s.longOf src with
  | some _ => (s.identStop src).longEnd src .failed ST_HIF_DMA_ERROR
  | none =>
    match src with
    | .ring n tag =>
      s.when (s.execOf n tag).isSome (fun s =>
        (s.putSln { s.sln with recv := s.sln.recv.filter (· != src) }).complete src ST_HIF_DMA_ERROR)
    | .uart _ => s

/-- R493: TIME µs after the first entry since the vector was armed. -/
def vectorTime (s : Dev) (v : Fin 64) : Dev :=
  let x := s.hif.vectors[v]
  match x.armed, x.firstDt with
  | true, some t => (s.reach (t + us (s.get (HIF_VEC_MOD_TIME v)))).signal v
  | _, _ => s

end Dev

/-! The commands -/

/-- R484: SUBMIT_DOORBELL. -/
def execSubmitDoorbell (n : Fin 256) (value : Word) (s : State) : Host.Outcome State Fault Refusal := s.onReg 0x01 (fun d => d.doorbell n value)

/-- R484: HEAD_DOORBELL. -/
def execHeadDoorbell (n : Fin 256) (value : Word) (s : State) : Host.Outcome State Fault Refusal := s.onReg 0x01 (fun d => d.doorbell n value)

/-- R485: DESCRIPTOR_FETCH. -/
def execDescriptorFetch (n : Fin 256) (part : List (Fin 256)) (entries : List (List Byte)) (s : State) : Host.Outcome State Fault Refusal :=
  s.onLive (fun d => d.fetch n part (entries.map parseDesc))

/-- R487: NOP. -/
def execNop (src : Src) (s : State) : Host.Outcome State Fault Refusal := s.onHost src true true (fun d => d.complete src ST_OK)

/-- R482: RING_ENABLE. -/
def execRingEnable (n : Fin 256) (s : State) : Host.Outcome State Fault Refusal := s.onReg 0x01 (fun d => d.ringEnable n)

/-- R482: RING_DISABLE. -/
def execRingDisable (n : Fin 256) (s : State) : Host.Outcome State Fault Refusal := s.onReg 0x01 (fun d => d.ringDisable n)

/-- R493: VECTOR_TIME_EXPIRY. -/
def execVectorTimeExpiry (v : Fin 64) (s : State) : Host.Outcome State Fault Refusal := s.onLive (fun d => d.vectorTime v)

/-- R495: PCIE_LINK_LOSS. -/
def execPcieLinkLoss (cause : LinkLossCause) (s : State) : Host.Outcome State Fault Refusal := s.onLive (fun d => d.linkLoss cause)

/-- R502: DMA_ERROR. -/
def execDmaError (what : DmaError) (s : State) : Host.Outcome State Fault Refusal :=
  s.onLive (fun d =>
    match what with
    | .ring n desc => d.dmaRingError n desc
    | .operation src => d.dmaOpError src)

end Sys2Proof.Machine
end

