-- ==== Sys2Proof/Machine/PistePhy.lean ====
section
/-! DEFINITION. The physical layer of the pistes (R171 to R192): bring-up states, attempts, alignment, inversion, twins, equalisation,
the figure of merit and echo windows. -/

namespace Sys2Proof.Machine

/-- R194: LAST_FAIL codes. -/
def pfTrain : Nat := 1
def pfOrigin : Nat := 2
def pfFom : Nat := 3
def pfVerify : Nat := 4

/-- R181: the figure of merit of an eye opening and an amplitude. -/
def fomOf (eye amp : Nat) : Nat := if amp = 0 then 0 else min 255 (256 * eye / amp)

namespace Dev

def locked (s : Dev) (p : Nat) : Bool := s.flag (PST_PHY_STATE_LOCKED p)

/-- R524: PISTES_UP, and PISTES_MS when it is first reached after a start. -/
def pistesUp (s : Dev) : Dev :=
  let up := (List.range 8).all (fun p => !s.flag (PST_PHY_CTL_EN p) || s.pisteState p == phUp)
  let s := s.setb GEN_STATUS_PISTES_UP up
  s.when (up && s.get GEN_BOOT2_PISTES_MS == 0xFFFF) (·.set GEN_BOOT2_PISTES_MS (min 0xFFFE ((s.dt - s.gen.bootDt) / 1000000)))

/-- R193: the summary of all pistes. -/
def phySummary (s : Dev) : Dev :=
  let mask := fun (f : Nat → Bool) => (List.range 8).foldl (fun a p => a + (f p).toNat * 2 ^ p) 0
  ((((s.set PST_PHY_SUMMARY_TEST (mask (fun p => s.pisteState p == phTest))).set PST_PHY_SUMMARY_FAILED
    (mask (fun p => s.pisteState p == phFailed))).set PST_PHY_SUMMARY_LOCKED (mask (fun p => s.locked p))).set PST_PHY_SUMMARY_UP
    (mask (fun p => s.pisteState p == phUp))).pistesUp

/-- R183, R185, R190, R191: what the transmitter of a piste sends in a state. -/
def streamOf (s : Dev) (p st : Nat) : TxStream :=
  if st = phDown then .quiet
  else if st = phUp || st = phRelock then .traffic
  else if st = phTest then
    (let loop := s.get (PST_PHY_CTL_LOOP p)
     if loop = 3 then .farEnd
     else if loop = 0 then (if s.flag (PST_PHY_CTL_PRBS_GEN p) then .prbs else .unstated)
     else .quiet)
  else .train (trainBlock (s.twinned p) p)

/-- R185, R189: the transmitter follows the state; a change is sent out. -/
def showStream (s : Dev) (p : Fin 8) (st : Nat) : Dev :=
  let x := s.streamOf p st
  let old := s.pst.phy[p].stream
  if old = x then s
  else
    let s := s.modPhy p (fun y => { y with stream := x })
    let s := if old = .quiet then s.txBegin p else s
    s.emit (.stream p x (s.flag (PST_PHY_CTL_TX_INV p)))

/-- R185: enter a state; every change is recorded in the wayledger. -/
def setPhy (s : Dev) (p : Fin 8) (st : Nat) : Dev :=
  let old := s.pisteState p
  let s := (s.set (PST_PHY_STATE_STATE p) st).modPhy p (fun x => { x with since := s.dt, sweep := [] })
  let s := (s.showStream p st).phySummary
  let s := if (st == phUp && old != phRelock) || (old == phUp && st != phRelock) || (old == phRelock && st != phUp) then s.txDrop p else s
  if old = st then s else s.ledger LG_PISTE_STATE (leBytes 1 p ++ leBytes 1 old ++ leBytes 1 st)

/-- R181: the receiver's lock; FOM is 0 without it. -/
def setLocked (s : Dev) (p : Nat) (b : Bool) : Dev :=
  let s := s.setb (PST_PHY_STATE_LOCKED p) b
  let s := s.when (!b) (fun s => ((s.set (PST_PHY_EQ_FOM p) 0).set (PST_PHY_EQ_FOM_MIN p) 0).modPhy (Fin.ofNat 8 p) (fun x => { x with lowRun := 0 }))
  s.phySummary

/-- R184: what the registers of piste `p` show of its receiver becomes what those of `q` showed in `x`: lock, inversion, signal detect, FOM,
CTLE, taps, invalid headers and lock losses. -/
def showReceiver (s : Dev) (x : Dev) (p q : Nat) : Dev :=
  let s := ((s.set (PST_PHY_STATE_LOCKED p) (x.get (PST_PHY_STATE_LOCKED q))).set (PST_PHY_STATE_RX_INV p)
    (x.get (PST_PHY_STATE_RX_INV q))).set (PST_PHY_STATE_SIG_DET p) (x.get (PST_PHY_STATE_SIG_DET q))
  (((s.wr (PST_PHY_EQ p) (x.rd (PST_PHY_EQ q))).wr (PST_PHY_DFE p) (x.rd (PST_PHY_DFE q))).wr (PST_PHY_BLKERR p)
    (x.rd (PST_PHY_BLKERR q))).wr (PST_PHY_LOCKLOSS p) (x.rd (PST_PHY_LOCKLOSS q))

/-- R184: exchange the receivers of a pair. -/
def swapReceivers (s : Dev) (k : Nat) (on : Bool) : Dev :=
  let p := 2 * k
  let q := 2 * k + 1
  let s := (s.showReceiver s p q).showReceiver s q p
  let ep := s.pst.phy[Fin.ofNat 8 p].echo
  let eq := s.pst.phy[Fin.ofNat 8 q].echo
  let s := s.modPhy (Fin.ofNat 8 p) (fun x => { x with crossed := on, echo := eq })
  ((s.modPhy (Fin.ofNat 8 q) (fun x => { x with crossed := on, echo := ep })).setBit PST_TWIN (8 + k) on).phySummary

/-- R186: an attempt starts. -/
def startAttempt (s : Dev) (p : Fin 8) : Dev :=
  let s := if s.pst.phy[p].crossed then s.swapReceivers (p.val / 2) false else s
  ((s.incSat (PST_PHY_STATE_ATTEMPTS p)).setb (PST_PHY_STATE_RX_INV p) false).setPhy p phTrain

/-- R186: the first attempt of a bring-up. -/
def firstAttempt (s : Dev) (p : Fin 8) : Dev :=
  (s.modPhy p (fun x => { x with fails := 0, attemptDt := s.dt, lowTold := false, lowRun := 0 })).startAttempt p

/-- R186: an attempt fails. After the third failure in a row, and after every failed retry, the piste is in FAILED. -/
def attemptFail (s : Dev) (p : Fin 8) (cause : Nat) : Dev :=
  let n := s.pst.phy[p].fails
  let s := (s.set (PST_PHY_STATE_LAST_FAIL p) cause).modPhy p (fun x => { x with fails := x.fails + 1 })
  if n + 1 < 3 then s.startAttempt p
  else
    let s := s.setPhy p phFailed
    s.when (n + 1 == 3) (·.post EV_PST_PHY_FAILED (leBytes 1 cause))

/-- R188: something live depends on the piste. -/
def pisteLive (s : Dev) (p : Nat) : Bool :=
  let home := s.homePiste p
  let legs := (idx 408).any (fun (i : Fin 408) => !isLocal i && s.armed i && s.flag (EDG_STG_STATUS_BOUND (legStage i)) &&
    s.get (EDG_STG_STATUS_PISTE (legStage i)) == home)
  let heads := (idx 48).any (fun (h : Fin 48) => s.energised (h.val / 3) && s.headPiste h == some home)
  (legs || heads) && !(s.twinned p && s.pisteState (partner p) == phUp)

/-- R185, R190, R191: an enabled piste leaves DOWN. -/
def leaveDown (s : Dev) (p : Fin 8) : Dev :=
  if s.get (PST_PHY_CTL_LOOP p) == 0 && !s.flag (PST_PHY_CTL_PRBS_GEN p) && !s.flag (PST_PHY_CTL_PRBS_CHK p) then s.firstAttempt p
  else (s.setPhy p phTest).headsLoseTest p

/-- R185, R186: a write of 1 to EN. -/
def pisteEnable (s : Dev) (p : Fin 8) : Dev :=
  if s.flag (PST_PHY_CTL_EN p) then s
  else ((s.setb (PST_PHY_CTL_EN p) true).set (PST_PHY_STATE_ATTEMPTS p) 0).leaveDown p

/-- R185, R188: a write of 0 to EN. -/
def pisteDisable (s : Dev) (p : Fin 8) : Dev × Option Code :=
  if !s.flag (PST_PHY_CTL_EN p) then (s, none)
  else if s.pisteLive p then (s.incSat PST_PHY_REJECT_CNT_CNT, some ST_BUSY_LIVE)
  else
    let test := s.pisteState p == phTest
    let s := (s.setb (PST_PHY_CTL_EN p) false).modPhy p (fun x => { x with fails := 0 })
    ((s.setPhy p phDown).when test (·.headsLeaveTest p), none)

/-- R188: a write of 1 to RESTART. -/
def pisteRestart (s : Dev) (p : Fin 8) : Dev × Option Code :=
  if s.pisteLive p then (s.incSat PST_PHY_REJECT_CNT_CNT, some ST_BUSY_LIVE)
  else if s.pisteState p = phDown || s.pisteState p = phTest then (s, none)
  else ((s.set (PST_PHY_STATE_ATTEMPTS p) 0).firstAttempt p, none)

/-- R185: the piste enters UP. -/
def pisteUp (s : Dev) (p : Fin 8) : Dev :=
  (s.setPhy p phUp).modTime p (fun x => { x with marks := 0 })

/-- R178, R185, R217: the receiver declares lock. -/
def rxLock (s : Dev) (p : Fin 8) : Dev :=
  let s := (s.setLocked p true).modPhy p (fun x => { x with echo := some s.dt })
  if s.pisteState p = phRelock then (s.pisteUp p).post EV_PST_PHY_GLITCH else s

/-- R178, R185: the receiver is no longer locked. -/
def rxLockLoss (s : Dev) (p : Fin 8) : Dev :=
  let st := s.pisteState p
  let s := (s.setLocked p false).modPhy p (fun x => { x with echo := none })
  let s := s.when (st != phTrain) (·.incSat (PST_PHY_LOCKLOSS_LOCKLOSS p))
  if st = phUp then s.setPhy p phRelock
  else if st = phAdapt || st = phVerify then s.attemptFail p pfVerify
  else s

/-- R179: 32 consecutive complemented known blocks: the receiver is inverted, until the next attempt, and hunts again, which is a lock loss
(log entry 31). -/
def rxInvert (s : Dev) (p : Fin 8) : Dev :=
  if s.flag (PST_PHY_CTL_RX_INV_AUTO p) && s.locked p && !s.flag (PST_PHY_STATE_RX_INV p) then
    ((s.setb (PST_PHY_STATE_RX_INV p) true).rxLockLoss p).post EV_PST_RX_INVERTED
  else s

/-- R185: ADAPT begins: the first CTLE setting, the taps at 0 (R180). -/
def enterAdapt (s : Dev) (p : Fin 8) : Dev :=
  let s := s.setPhy p phAdapt
  if s.flag (PST_PHY_CTL_ADAPT_FREEZE p) then s else (s.set (PST_PHY_EQ_CTLE p) 0).wr (PST_PHY_DFE p) 0

/-- R184, R185: 256 TRAIN blocks in a row of origin `o`, while the partner's receiver reports `r`. -/
def trainDone (s : Dev) (p : Fin 8) (o : Fin 8) (r : Option (Fin 8)) : Dev :=
  if s.pisteState p != phTrain then s
  else if o = p then (if s.locked p then s.enterAdapt p else s)
  else if s.twinned p && o.val == partner p && r == some p then
    let s := (s.swapReceivers (p.val / 2) true).post EV_PST_TWIN_REVERSED
    s.enterAdapt p
  else s

/-- R184, R185: 40 ms in TRAIN. -/
def trainTimeout (s : Dev) (p : Fin 8) (o : Option (Fin 8)) : Dev :=
  if s.pisteState p != phTrain then s
  else
    let s := s.reach (s.pst.phy[p].since + ms 40)
    let foreign := o.any (fun x => x != p && !(s.twinned p && x.val == partner p))
    s.attemptFail p (if foreign then pfOrigin else pfTrain)

/-- Show a figure of merit. -/
def showFom (s : Dev) (p : Nat) (f : Nat) : Dev :=
  (s.set (PST_PHY_EQ_FOM p) f).set (PST_PHY_EQ_FOM_MIN p) (min f (s.get (PST_PHY_EQ_FOM_MIN p)))

/-- R180: the CTLE sweep of the present state is over: all 16 settings have been tried, or the setting is held. -/
def sweepOver (s : Dev) (p : Fin 8) : Bool := s.flag (PST_PHY_CTL_ADAPT_FREEZE p) || decide (16 ≤ s.pst.phy[p].sweep.length)

/-- R182, R185: ADAPT ends with its final FOM. -/
def adaptDone (s : Dev) (p : Fin 8) (eye amp : Nat) : Dev :=
  if s.pisteState p != phAdapt || !s.sweepOver p then s
  else
    let s := s.reach (s.pst.phy[p].since + us 2600)
    let f := if s.locked p then fomOf eye amp else 0
    let s := s.showFom p f
    if f < 32 then s.attemptFail p pfFom
    else
      let s := s.when (decide (f < s.get (PST_PHY_CTL_FOM_WARN p))) (fun s =>
        (s.modPhy p (fun x => { x with lowTold := true })).post EV_PST_FOM_LOW (leBytes 1 f))
      s.setPhy p phVerify

/-- R185, R186: VERIFY ends. -/
def verifyDone (s : Dev) (p : Fin 8) (clean : Bool) : Dev :=
  if s.pisteState p != phVerify then s
  else if !clean then s.attemptFail p pfVerify
  else
    let s := s.reach (s.pst.phy[p].since + ms 1)
    let s := s.set (PST_PHY_STATE_UP_MS p) (min 4095 ((s.dt - s.pst.phy[p].attemptDt) / ms 1))
    let s := s.modPhy p (fun x => { x with fails := 0 })
    (s.pisteUp p).post EV_PST_PHY_UP

/-- R185: lock not regained within 2 ms. -/
def relockTimeout (s : Dev) (p : Fin 8) : Dev :=
  if s.pisteState p != phRelock then s
  else ((s.reach (s.pst.phy[p].since + ms 2)).firstAttempt p).post EV_PST_PHY_DOWN

/-- R186: 1 s in FAILED. -/
def failedRetry (s : Dev) (p : Fin 8) : Dev :=
  if s.pisteState p != phFailed then s else (s.reach (s.pst.phy[p].since + sec 1)).startAttempt p

/-- R180: the setting of the highest FOM of a sweep, the lowest of equals. -/
def bestSetting (l : List Nat) : Nat :=
  (l.foldl (fun (a : Nat × Nat × Nat) f => if a.2.1 < f + 1 then (a.2.2, f + 1, a.2.2 + 1) else (a.1, a.2.1, a.2.2 + 1)) (0, 0, 0)).1

/-- R190: TEST with the receiver fed from inside the package. -/
def nearEnd (s : Dev) (p : Nat) : Bool :=
  s.pisteState p == phTest && (s.get (PST_PHY_CTL_LOOP p) == 1 || s.get (PST_PHY_CTL_LOOP p) == 2)

/-- R180: one CTLE setting of the sweep has been tried for 100 µs. In a near-end loopback the receiver adapts as in ADAPT from the start of the
test (log entry 32). -/
def sweepStep (s : Dev) (p : Fin 8) (eye amp : Nat) : Dev :=
  let x := s.pst.phy[p]
  if !(s.pisteState p == phAdapt || s.nearEnd p) || s.flag (PST_PHY_CTL_ADAPT_FREEZE p) || 16 ≤ x.sweep.length then s
  else
    let l := x.sweep ++ [if s.locked p then fomOf eye amp else 0]
    let s := (s.reach (x.since + us (100 * l.length))).modPhy p (fun x => { x with sweep := l })
    s.set (PST_PHY_EQ_CTLE p) (if l.length < 16 then l.length else bestSetting l)

/-- R180, R190: the receiver adapts in the background. -/
def adapting (s : Dev) (p : Fin 8) : Bool :=
  let st := s.pisteState p
  (st == phVerify || st == phUp || st == phRelock || (s.nearEnd p && s.sweepOver p)) && !s.flag (PST_PHY_CTL_ADAPT_FREEZE p)

/-- R180: the neighbouring CTLE settings are trialled. -/
def eqTrial (s : Dev) (p : Fin 8) (up down : Nat) : Dev :=
  if !s.adapting p then s
  else
    let s := s.tick (.eqTrial p) (ms 100)
    let c := s.get (PST_PHY_EQ_CTLE p)
    let f := s.get (PST_PHY_EQ_FOM p)
    let okUp := decide (f + 8 ≤ up) && decide (c < 15)
    let okDn := decide (f + 8 ≤ down) && decide (0 < c)
    if okDn && (!okUp || decide (up ≤ down)) then s.set (PST_PHY_EQ_CTLE p) (c - 1)
    else if okUp then s.set (PST_PHY_EQ_CTLE p) (c + 1)
    else s

/-- R180: one sign-sign LMS step: each tap moves one code with the product of the signs of the error and of its past decision. -/
def lmsStep (s : Dev) (p : Fin 8) (err : Bool) (past : BitVec 5) : Dev :=
  if !(s.adapting p || (s.pisteState p == phAdapt && !s.flag (PST_PHY_CTL_ADAPT_FREEZE p) && s.sweepOver p)) then s
  else
    s.forEach (List.range 5) (fun k s =>
      let f : Field := ⟨PST_PHY_DFE p, 6 * k + 5, 6 * k⟩
      let v := s.geti f
      s.seti f (if err == past.getLsbD k then min 31 (v + 1) else max (-32) (v - 1)))

/-- R191: PRBS31 of ITU-T O.150: the generator's register and its next bit. Its sequence is that of x^31 + x^28 + 1, sent inverted. -/
def prbsNext (r : BitVec 31) : Bool × BitVec 31 :=
  let b := Bool.xor (r.getLsbD 30) (r.getLsbD 27)
  (!b, (r <<< 1) ||| (if b then 1#31 else 0#31))

/-- R191: the checker over runs of error-free bits, an error after each but the last: whether it is locked, how many bits in a row it has seen
without an error, and the errors it has counted. -/
def prbsCheck : List Nat → Bool × Nat × Nat → Bool × Nat × Nat
  | [], a => a
  | [n], a => (a.1 || decide (64 ≤ a.2.1 + n), a.2.1 + n, a.2.2)
  | n :: rest, a =>
    let on := a.1 || decide (64 ≤ a.2.1 + n)
    prbsCheck rest (on, 0, a.2.2 + on.toNat)

/-- R191: the checker works in TEST, but not with FE. It locks after 64 error-free bits and counts the errors from then on (log entry 33). -/
def prbsShow (s : Dev) (p : Fin 8) (prbs : List Nat) : Dev :=
  if s.pisteState p == phTest && s.flag (PST_PHY_CTL_PRBS_CHK p) && s.get (PST_PHY_CTL_LOOP p) != 3 then
    let q := prbsCheck prbs (s.flag (PST_PHY_PRBS_PRBS_LOCK p), s.pst.phy[p].prbsRun, 0)
    ((s.setb (PST_PHY_PRBS_PRBS_LOCK p) q.1).incSat (PST_PHY_PRBS_ERR p) q.2.2).modPhy p (fun x => { x with prbsRun := q.2.1 })
  else s

/-- R191: PRBS_CHK is set: the checker starts anew. -/
def prbsClear (s : Dev) (p : Fin 8) : Dev := (s.wr (PST_PHY_PRBS p) 0).modPhy p (fun x => { x with prbsRun := 0 })

/-- R182: in UP a figure of merit below FOM_WARN is told once, until it has stayed 16 above for 1000 updates. -/
def fomWatch (s : Dev) (p : Fin 8) (f : Nat) : Dev :=
  if s.pisteState p != phUp then s
  else
    let warn := s.get (PST_PHY_CTL_FOM_WARN p)
    let x := s.pst.phy[p]
    let run := if warn + 16 ≤ f then x.lowRun + 1 else 0
    if f < warn && !x.lowTold then
      (s.modPhy p (fun x => { x with lowTold := true, lowRun := 0 })).post EV_PST_FOM_LOW (leBytes 1 f)
    else s.modPhy p (fun x => { x with lowRun := run, lowTold := x.lowTold && decide (run < 1000) })

/-- R181, R182, R178, R191: the 1 ms update. `invalid` counts the invalid headers that came since the last one while the receiver was locked,
those of a lock loss with them; `prbs` are the runs of error-free bits that the checker has seen. -/
def fomUpdate (s : Dev) (p : Fin 8) (eye amp invalid : Nat) (prbs : List Nat) (signal : Bool) : Dev :=
  let s := (s.setb (PST_PHY_STATE_SIG_DET p) signal).bump (PST_PHY_BLKERR p) invalid
  let f := if s.locked p then fomOf eye amp else 0
  ((s.showFom p f).prbsShow p prbs).fomWatch p f

/-- One port of a node. -/
def modPort (s : Dev) (i : Fin 128) (odd : Bool) (f : NodePort → NodePort) : Dev :=
  s.modNode i (fun n => if odd then { n with odd := f n.odd } else { n with even := f n.even })

def port (s : Dev) (i : Fin 128) (odd : Bool) : NodePort := if odd then s.pst.nodes[i].odd else s.pst.nodes[i].even

/-- R217: the echo window of the receiver that hop `k`'s transmitter feeds on piste `p` ends (hop 0 is the device): it lasts 10 µs. -/
def windowEnd (s : Dev) (p : Fin 8) (k : Nat) : Dev :=
  match s.nodeAt p (k + 1) with
  | some i =>
    let odd := s.oddMember p
    (match (s.port i odd).window with
     | some t => s.reach (t + us 10)
     | none => s).modPort i odd (fun x => { x with window := none })
  | none =>
    (match s.pst.phy[p].echo with
     | some t => s.reach (t + us 10)
     | none => s).modPhy p (fun x => { x with echo := none })

/-- R217: an echo window ends. -/
def echoEnd (s : Dev) (p : Fin 8) (w : EchoEnd) : Dev :=
  match w with
  | .receiver => s.windowEnd p (s.cenNodes p)
  | .link1 d =>
    let s := (s.windowEnd p 0).modTime p (fun x => { x with link1 := d })
    (s.set (PST_CEN_LINK1_C1 p) ((d.getD 0) / 2 ^ 12)).setBit (PST_CEN_TIME p) 0 d.isNone
  | .node i odd d =>
    (s.windowEnd p (s.port i odd).hop).modPort i odd (fun x => { x with linkDn := d.getD 0, echoOk := d.isSome })

/-- R178, R179, R217: a node's receiver is aligned: its echo window opens. -/
def nodeAligned (s : Dev) (i : Fin 128) (odd : Bool) : Dev :=
  s.modPort i odd (fun x =>
    { x with
      aligned := true
      signal := true
      window := if x.aligned then x.window else some s.dt })

/-- R197: a node's LOS_IDLE on a member. -/
def losIdleOf (s : Dev) (i : Fin 128) (odd : Bool) : Block :=
  losIdleBlock (s.port i odd).hop (s.port i odd).signal odd (s.nodeId i)

/-- R177, R224: the OWN blocks of a head's orphan runs, in turn: one for each hop from its own to the last. -/
def orphanRuns (s : Dev) (i : Fin 128) (odd : Bool) : List Block :=
  let k := (s.port i odd).hop
  if k = 0 then []
  else ((List.range (s.get (PST_CEN_STATUS_NODES (s.get (PST_NODE_INFO_PISTE i) + odd.toNat)) + 1)).filter (fun h => decide (k ≤ h))).map
    (fun h => ownBlock h 33 false)

/-- R177, R220, R224: a node's receiver on a member is not aligned: the node sends LOS_IDLE, and its time is stale when it counts on this
receiver. -/
def nodeUnaligned (s : Dev) (i : Fin 128) (odd signal : Bool) : Dev :=
  let s := s.modPort i odd (fun x =>
    { x with
      aligned := false
      signal := signal
      window := none })
  let s := s.modNode i (fun n =>
    let n := if odd then n else { n with evenValid := false }
    if n.onOdd == odd then
      { n with
        stale := true
        stepped := false
        lastSync := none
        teleDue := n.teleDue || !n.stale }
    else n)
  s.emit (.losIdle i odd (s.losIdleOf i odd) (s.orphanRuns i odd))

/-- R178: a receiver declares lock. -/
def receiverLock (s : Dev) : Receiver → Dev
  | .device p => s.rxLock p
  | .node i odd => s.nodeAligned i odd

/-- R179: a receiver corrects an inversion of its input; a node does so by the same rule. -/
def receiverInvert (s : Dev) : Receiver → Dev
  | .device p => s.rxInvert p
  | .node i odd =>
    if (s.port i odd).aligned && !(s.port i odd).inverted then
      (s.modPort i odd (fun x => { x with inverted := true })).nodeUnaligned i odd true
    else s

end Dev

/-! The commands -/

/-- R185: PISTE_ENABLE. -/
def effPisteEnable (p : Fin 8) (s : Dev) : Dev := (s.pisteEnable p).answer ST_OK

def execPisteEnable (p : Fin 8) (s : State) : Host.Outcome State Fault Refusal := s.onReg 0x06 (effPisteEnable p)

/-- R188: PISTE_DISABLE. -/
def effPisteDisable (p : Fin 8) (s : Dev) : Dev :=
  let r := s.pisteDisable p
  r.1.answer (r.2.getD ST_OK)

def execPisteDisable (p : Fin 8) (s : State) : Host.Outcome State Fault Refusal := s.onReg 0x06 (effPisteDisable p)

/-- R188: PISTE_RESTART. -/
def effPisteRestart (p : Fin 8) (s : Dev) : Dev :=
  let r := s.pisteRestart p
  r.1.answer (r.2.getD ST_OK)

def execPisteRestart (p : Fin 8) (s : State) : Host.Outcome State Fault Refusal := s.onReg 0x06 (effPisteRestart p)

/-- R178: RX_LOCK. -/
def effRxLock (r : Receiver) (s : Dev) : Dev := s.receiverLock r

def execRxLock (r : Receiver) (s : State) : Host.Outcome State Fault Refusal :=
  match r with
  | .device p => s.onRun (effRxLock (.device p))
  | .node i odd => s.onDev (effRxLock (.node i odd))

/-- R178: RX_LOCK_LOSS. -/
def effRxLockLoss (p : Fin 8) (s : Dev) : Dev := if s.locked p then s.rxLockLoss p else s

def execRxLockLoss (p : Fin 8) (s : State) : Host.Outcome State Fault Refusal := s.onRun (effRxLockLoss p)

/-- R179: RX_INVERSION_DETECTED. -/
def effRxInversionDetected (r : Receiver) (s : Dev) : Dev := s.receiverInvert r

def execRxInversionDetected (r : Receiver) (s : State) : Host.Outcome State Fault Refusal :=
  match r with
  | .device p => s.onRun (effRxInversionDetected (.device p))
  | .node i odd => s.onDev (effRxInversionDetected (.node i odd))

/-- R185: PISTE_TRAIN_DONE. -/
def effPisteTrainDone (p : Fin 8) (origin : Fin 8) (partnerOrigin : Option (Fin 8)) (s : Dev) : Dev := s.trainDone p origin partnerOrigin

def execPisteTrainDone (p : Fin 8) (origin : Fin 8) (partnerOrigin : Option (Fin 8)) (s : State) :
    Host.Outcome State Fault Refusal := s.onRun (effPisteTrainDone p origin partnerOrigin)

/-- R185: PISTE_TRAIN_TIMEOUT. -/
def effPisteTrainTimeout (p : Fin 8) (origin : Option (Fin 8)) (s : Dev) : Dev := s.trainTimeout p origin

def execPisteTrainTimeout (p : Fin 8) (origin : Option (Fin 8)) (s : State) : Host.Outcome State Fault Refusal :=
  s.onRun (effPisteTrainTimeout p origin)

/-- R185: PISTE_ADAPT_DONE. -/
def effPisteAdaptDone (p : Fin 8) (eye amp : Nat) (s : Dev) : Dev := s.adaptDone p eye amp

def execPisteAdaptDone (p : Fin 8) (eye amp : Nat) (s : State) : Host.Outcome State Fault Refusal :=
  s.onRun (effPisteAdaptDone p eye amp)

/-- R185: PISTE_VERIFY_DONE. -/
def effPisteVerifyDone (p : Fin 8) (clean : Bool) (s : Dev) : Dev := s.verifyDone p clean

def execPisteVerifyDone (p : Fin 8) (clean : Bool) (s : State) : Host.Outcome State Fault Refusal := s.onRun (effPisteVerifyDone p clean)

/-- R185: PISTE_RELOCK_TIMEOUT. -/
def effPisteRelockTimeout (p : Fin 8) (s : Dev) : Dev := s.relockTimeout p

def execPisteRelockTimeout (p : Fin 8) (s : State) : Host.Outcome State Fault Refusal := s.onRun (effPisteRelockTimeout p)

/-- R186: PISTE_FAILED_RETRY. -/
def effPisteFailedRetry (p : Fin 8) (s : Dev) : Dev := s.failedRetry p

def execPisteFailedRetry (p : Fin 8) (s : State) : Host.Outcome State Fault Refusal := s.onRun (effPisteFailedRetry p)

/-- R180: CTLE_SWEEP_STEP. -/
def effCtleSweepStep (p : Fin 8) (eye amp : Nat) (s : Dev) : Dev := s.sweepStep p eye amp

def execCtleSweepStep (p : Fin 8) (eye amp : Nat) (s : State) : Host.Outcome State Fault Refusal :=
  s.onRun (effCtleSweepStep p eye amp)

/-- R180: EQ_TRIAL. -/
def effEqTrial (p : Fin 8) (eyeUp ampUp eyeDn ampDn : Nat) (s : Dev) : Dev := s.eqTrial p (fomOf eyeUp ampUp) (fomOf eyeDn ampDn)

def execEqTrial (p : Fin 8) (eyeUp ampUp eyeDn ampDn : Nat) (s : State) : Host.Outcome State Fault Refusal :=
  s.onRun (effEqTrial p eyeUp ampUp eyeDn ampDn)

/-- R180: DFE_LMS_STEP. -/
def effDfeLmsStep (p : Fin 8) (err : Bool) (past : BitVec 5) (s : Dev) : Dev := s.lmsStep p err past

def execDfeLmsStep (p : Fin 8) (err : Bool) (past : BitVec 5) (s : State) : Host.Outcome State Fault Refusal :=
  s.onRun (effDfeLmsStep p err past)

/-- R181: FOM_UPDATE. -/
def effFomUpdate (p : Fin 8) (eye amp invalid : Nat) (prbs : List Nat) (signal : Bool) (s : Dev) : Dev :=
  s.fomUpdate p eye amp invalid prbs signal

def execFomUpdate (p : Fin 8) (eye amp invalid : Nat) (prbs : List Nat) (signal : Bool) (s : State) :
    Host.Outcome State Fault Refusal := s.onRun (effFomUpdate p eye amp invalid prbs signal)

/-- R217: ECHO_COMPLETE. -/
def effEchoComplete (p : Fin 8) (window : EchoEnd) (s : Dev) : Dev := s.echoEnd p window

def execEchoComplete (p : Fin 8) (window : EchoEnd) (s : State) : Host.Outcome State Fault Refusal :=
  s.onRun (effEchoComplete p window)

end Sys2Proof.Machine
end

