-- ==== Sys2Proof/Machine/SafeHold.lean ====
section
/-! DEFINITION. SAFE-HOLD (R41, R42) and the power modes but HIBERNATE (R516, R517). -/

namespace Sys2Proof.Machine
namespace Dev

/-! SAFE-HOLD -/

/-- R41: every open session closes as interrupted. -/
def interruptSessions (s : Dev) : Dev :=
  s.forEach ((idx 16).filter (fun (n : Fin 16) => s.sessOpen n)) (fun n s => s.endSession n ocInterrupted)

/-- R41: SAFE-HOLD is entered. -/
def safeHoldEnter (s : Dev) : Dev :=
  (((s.disarmAll.refuseAll rsSafetyHold false).interruptSessions.safDrive.lswSafeHold).canSafeHold).freeze .safeHold

/-- R42: the last cause has cleared. -/
def safeHoldLeave (s : Dev) : Dev := s.safDrive.lswFollowAll lcCommand

/-- R42, R43: a SAFE-HOLD cause is present or not; SAFE_HOLD stands while any is. -/
def setCause (s : Dev) (cause : Field) (present : Bool) : Dev :=
  let was := s.flag GEN_LIFECYCLE_SAFE_HOLD
  let s := s.setb cause present
  let now := s.flag GEN_LIFECYCLE_CAUSE_HOST || s.flag GEN_LIFECYCLE_CAUSE_CONFIG || s.flag GEN_LIFECYCLE_CAUSE_FW ||
    s.flag GEN_LIFECYCLE_CAUSE_RST
  let s := s.setb GEN_LIFECYCLE_SAFE_HOLD now
  ((s.when (now && !was) (·.safeHoldEnter)).when (was && !now) (·.safeHoldLeave)).normalUpdate.chgReady

/-- R42, R43: a write of SH_REQ. -/
def shReq (s : Dev) (b : Bool) : Dev := (s.setb GEN_LIFECYCLE_SH_REQ b).setCause GEN_LIFECYCLE_CAUSE_HOST b

/-! Power modes -/

/-- R516: no leg is armed and no outlet energised. -/
def modeQuiet (s : Dev) : Bool := s.get EDG_STATUS_ARMED_LEGS == 0 && s.get VSS_STATUS_ENERGISED == 0

/-- R516: nor is a session open or a slot closed. -/
def modeStill (s : Dev) : Bool := s.modeQuiet && s.get VSS_STATUS_ACTIVE == 0 && s.get CLE_STATUS_CLOSED == 0

/-- The enabled pistes. -/
def enabledPistes (s : Dev) : List (Fin 8) := (idx 8).filter (fun (p : Fin 8) => s.flag (PST_PHY_CTL_EN p))

/-- R507, R517: bring-up of every enabled piste begins. -/
def bringUp (s : Dev) : Dev := s.forEach s.enabledPistes (fun p s => s.leaveDown p)

/-- R516, R517: a request for RUN. From IDLE it takes effect at the next DT multiple of 1 ms. -/
def modeRun (s : Dev) : Dev :=
  if s.get GEN_PWR_STATE = pmIdle then (s.reach (s.nextMultiple (ms 1) none)).setMode pmRun
  else if s.get GEN_PWR_STATE = pmStandby then (s.setMode pmRun).bringUp
  else s.setMode pmRun

/-- R516, R517: a request for IDLE. From STANDBY the pistes are brought up. -/
def modeIdle (s : Dev) : Dev × Option Code :=
  if !s.modeQuiet then (s.incSat GEN_REJECT_CNT_CNT, some ST_BUSY_LIVE)
  else if s.get GEN_PWR_STATE = pmStandby then ((s.setMode pmIdle).bringUp, none)
  else (s.setMode pmIdle, none)

/-- R517: a piste goes DOWN with the mode. -/
def pisteOff (s : Dev) (p : Fin 8) : Dev :=
  let test := s.pisteState p == phTest
  (((s.modPhy p (fun x => { x with fails := 0 })).setLocked p false).setPhy p phDown).when test (·.headsLeaveTest p)

/-- R516, R517: a request for STANDBY: the pistes go DOWN. -/
def modeStandby (s : Dev) : Dev × Option Code :=
  if !s.modeStill then (s.incSat GEN_REJECT_CNT_CNT, some ST_BUSY_LIVE)
  else ((s.setMode pmStandby).forEach s.enabledPistes (fun p s => s.pisteOff p), none)

/-- Answer a request that may be rejected. -/
def answered (q : Dev × Option Code) : Dev := q.1.answer (q.2.getD ST_OK)

end Dev

/-! The commands -/

/-- R42: SH_REQ_WRITE. -/
def execShReqWrite (request : Bool) (s : State) : Host.Outcome State Fault Refusal := s.onReg 0x00 (fun d => (d.shReq request).answer ST_OK)

/-- R516: MODE_RUN_REQUEST. -/
def execModeRunRequest (s : State) : Host.Outcome State Fault Refusal := s.onReg 0x00 (fun d => d.modeRun.answer ST_OK)

/-- R516: MODE_IDLE_REQUEST. -/
def execModeIdleRequest (s : State) : Host.Outcome State Fault Refusal := s.onReg 0x00 (fun d => Dev.answered d.modeIdle)

/-- R516: MODE_STANDBY_REQUEST. -/
def execModeStandbyRequest (s : State) : Host.Outcome State Fault Refusal := s.onReg 0x00 (fun d => Dev.answered d.modeStandby)

end Sys2Proof.Machine
end

