-- ==== Sys2Proof/Machine/Wayledger.lean ====
section
/-! DEFINITION. The wayledger (R520 to R526): writing staged entries to MRAM, freezing and releasing snapshots, and LDG_READ. -/

namespace Sys2Proof.Machine

/-- R520, R522: entries held in MRAM and in a snapshot. -/
def ledgerHeld : Nat := 16384

/-- R520: the 32 bytes of an entry. A continuation entry carries payload from byte 16 on. -/
def entryBytes (q : Word) (e : LdgEntry) : List Byte :=
  leBytes 4 q.toNat ++ leBytes 4 e.epoch.toNat ++ leBytes 8 e.dt ++
    (if e.cont then padTo 16 e.payload
     else leBytes 6 e.utc ++ leBytes 1 e.utcValid.toNat ++ [e.source] ++ leBytes 2 e.code.toNat ++ padTo 6 e.payload)

/-- R522: the header of a snapshot up to its CRC. -/
def snapHead (x : Snapshot) : List Byte :=
  [0x53, 0x52, 0x47, 0x4C] ++ leBytes 1 (Dev.triggerCode x.trigger) ++ [x.cause] ++ leBytes 2 x.entries.length ++ leBytes 4 x.freezeNo ++
    leBytes 4 x.lastSeq.toNat ++ leBytes 8 x.dt ++ leBytes 4 x.epoch.toNat

/-- R522: the 256 units of a snapshot: header and entries; units past the entries held are zero. -/
def snapBytes (x : Snapshot) : List Byte :=
  let es := x.entries.flatMap (fun p => entryBytes p.1 p.2)
  padTo 8192 (snapHead x ++ leBytes 4 (crc32 (snapHead x ++ es)).toNat ++ es)

namespace Dev

def modLdg (s : Dev) (f : Ldg → Ldg) : Dev := s.putLdg (f s.ldg)

/-- R521: the oldest staged entry is written to MRAM under the next SEQ. -/
def ledgerWrite (s : Dev) : Dev :=
  match s.ldg.staged with
  | [] => s
  | (_, e) :: rest =>
    let q := s.rd LDG_SEQ
    let s := s.modLdg (fun l => { l with
      staged := rest
      entries := ((q, e) :: l.entries).take ledgerHeld })
    (s.bump LDG_SEQ).set LDG_STATUS_STAGED rest.length

/-- R521: LEDGER_WRITE: the next entry goes to MRAM; at 2000 per second, 500 µs after the one before. -/
def ledgerPace (s : Dev) : Dev :=
  if s.ldg.staged.isEmpty then s
  else
    let s := match s.ldg.wroteAt with
      | some t => s.reach (t + 500000)
      | none => s
    (s.modLdg (fun l => { l with wroteAt := some s.dt })).ledgerWrite

/-- Every staged entry is written. -/
def ledgerFlush (s : Dev) : Dev := s.forEach (List.range s.ldg.staged.length) (fun _ s => s.ledgerWrite)

/-- R522: a slot is freed. -/
def snapRelease (s : Dev) (i : Fin 32) : Dev :=
  let s := s.modLdg (fun l => { l with snaps := l.snaps.set i none })
  (s.setBit LDG_SNAP_FROZEN i.val false).set LDG_STATUS_FROZEN s.frozenCount

/-- R523: how far SEQ lies before the next entry's, modulo 2^32. -/
def seqBack (s : Dev) (q : Word) : Nat := (s.rd LDG_SEQ - q).toNat

/-- R523: the entries that LDG_READ returns, oldest first, or why it returns none. -/
def ledgerUnits (s : Dev) (first : Word) (count : Nat) : Except Code (List Byte) :=
  let back := s.seqBack first
  if back = 0 || 2 ^ 31 ≤ back then .error ST_BAD_PARAM
  else
    let from_ := (s.ldg.entries.filter (fun p => decide (s.seqBack p.1 ≤ back))).reverse
    if from_.any (fun p => decide (back < s.seqBack p.1 + count)) then
      .ok ((from_.take count).flatMap (fun p => entryBytes p.1 p.2))
    else .error ST_LDG_SEQ_GONE

/-- R523: the units of a snapshot, or why there are none. -/
def snapUnits (s : Dev) (slot first count : Nat) : Except Code (List Byte) :=
  match s.ldg.snaps.toList[slot]? with
  | none => .error ST_BAD_PARAM
  | some none => .error ST_LDG_NO_SNAPSHOT
  | some (some x) => .ok (((snapBytes x).drop (32 * first)).take (32 * count))

/-- R523: what a request yields. -/
def ledgerAnswer (s : Dev) (r : LdgReadReq) (count : Nat) : Except Code (List Byte) :=
  if r.snapshot then
    if r.count = 0 || 256 < r.first.toNat + r.count then .error ST_BAD_PARAM else s.snapUnits r.slot r.first.toNat count
  else if r.count = 0 || ledgerHeld < r.count then .error ST_BAD_PARAM
  else s.ledgerUnits r.first count

/-- R499, R523: LDG_READ: a long operation over a ring, a short one over the service UART, where it needs OPERATOR and returns at most 127
units. -/
def ledgerRead (s : Dev) (l : LongSrc) (r : LdgReadReq) : Dev :=
  if overUart l.src then
    if !(s.assocOf .uart).any (fun a => isOperator a.role) then s.complete l.src ST_REFUSED_ROLE
    else match s.ledgerAnswer r (min r.count 127) with
      | .error c => s.complete l.src c
      | .ok d => s.complete l.src ST_OK 0 (leBytes 8 (d.length / 32) ++ d)
  else
    match s.ledgerAnswer r r.count with
    | .error c => s.longRefuse l 0x1101 ((s.longCheck l).getD c)
    | .ok d => s.longWhole l 0x1101 (d.length / 32) d true ST_OK

end Dev

/-! The commands -/

/-- R523: LDG_READ. -/
def execLdgRead (l : LongSrc) (r : LdgReadReq) (s : State) : Host.Outcome State Fault Refusal := s.onHost l.src true true (fun d => d.ledgerRead l r)

/-- R522: LDG_FREEZE. -/
def execLdgFreeze (s : State) : Host.Outcome State Fault Refusal := s.onReg 0x11 (fun d => (d.freeze .host).answer ST_OK)

/-- R522: LDG_RELEASE. -/
def execLdgRelease (slot : Fin 32) (s : State) : Host.Outcome State Fault Refusal := s.onReg 0x11 (fun d => (d.snapRelease slot).answer ST_OK)

/-- R521: LEDGER_WRITE. -/
def execLedgerWrite (s : State) : Host.Outcome State Fault Refusal := s.onLive (fun d => d.ledgerPace)

end Sys2Proof.Machine
end

