-- ==== Sys2Proof/Machine/ResetAssert.lean ====
section
/-! DEFINITION. Resets as they are taken (R509, R511): what is finished first, what outlives the reset (R37, R441, R451), the reset pin
(R510), the supply (R438), SRAM errors (R36) and the causes the device finds itself. -/

namespace Sys2Proof.Machine

/-- R509: CAUSE. -/
def resetNo : ResetCause → Nat
  | .powerOn => 0 | .brownOut => 1 | .pin => 2 | .watchdog => 3 | .host => 4 | .clockFail => 5 | .eccFatal => 6 | .linkDie => 7
  | .dieOvertemp => 8 | .fwSwitch => 9 | .fwRevert => 10

/-- R32: the causes after which DT restarts. -/
def restartsDt : ResetCause → Bool
  | .powerOn | .brownOut | .clockFail => true
  | _ => false

/-- R509: the causes that open a hold window. -/
def opensHold : ResetCause → Bool
  | .powerOn | .brownOut => false
  | _ => true

/-- R399: the causes by which the device resets itself. -/
def ownReset : ResetCause → Bool
  | .powerOn | .pin => false
  | _ => true

/-- R470: the causes that abandon a trial. -/
def endsTrial : ResetCause → Bool
  | .watchdog | .eccFatal | .clockFail => true
  | _ => false

/-! What outlives a reset -/

/-- R441, R438: the registers that the power die keeps. -/
def powerDieRegs : List Nat :=
  LSW_STATUS :: (List.range 20).flatMap (fun n => [LSW_CH_CFG n, LSW_CH_CTL n, LSW_CH_STATUS n, LSW_CH_CLAMP n])

/-- R278, R323: the session registers by which the restart finds the sessions that a reset has cut off. -/
def sessionRegs : List Nat := VSS_STATUS :: (List.range 16).flatMap (fun n => [VSS_OUT_STATE n, VSS_OUT_SID_LO n, VSS_OUT_SID_HI n])

/-- The bits of a register that outlive a reset; `hib`: that outlive HIBERNATE. LOSS_UNBOUNDED stands until it is acknowledged (R325). -/
def outliveMask (hib : Bool) (off : Nat) : Word :=
  if powerDieRegs.contains off || sessionRegs.contains off || (hib && (off == GEN_WAKE_CFG || off == GEN_WAKE_TIME)) then 0xFFFFFFFF
  else if off = GEN_RST_PIN then 0xE0000000
  else if off = MTR_STATUS then 0x80 ||| keptMask off
  else keptMask off

/-- A register as a reset leaves it; one that reads as at reset is not listed. -/
def outlive (hib : Bool) (p : Nat × Word) : Option (Nat × Word) :=
  let m := outliveMask hib p.1
  let w := (p.2 &&& m) ||| (resetWord p.1 &&& ~~~m)
  if w = resetWord p.1 then none else some (p.1, w)

namespace Dev

def modGen (s : Dev) (f : Gen → Gen) : Dev := s.putGen (f s.gen)

/-- The phase as it becomes. -/
def setPhase (s : Dev) (p : Phase) : Dev := s.modGen (fun g => { g with phase := p })

/-- R35, R37, R441, R511: the device as a reset leaves it, or HIBERNATE: what lies in MRAM, in the power die, in the always-on domain
and at the nodes is kept, and everything else is as State.reset has it. `guards`: channel A keeps the guard tests (R415). -/
def outlived (s : Dev) (p : Phase) (hib guards : Bool) : Dev :=
  { Dev.reset with
    dt := s.dt
    free := s.free + 1
    out := s.out
    regs := s.regs.filterMap (outlive hib)
    gen := { s.gen with
      phase := p
      timeDeclared := false
      resetDt := s.dt
      resetUtc := if s.gen.phase = .hibernate then some (Config.freeNat s.free) else if s.utcValid then some s.utcNow else none
      pair := if hib then s.gen.pair else none
      tests := []
      epochBefore := s.rd GEN_EPOCH }
    ldg := { s.ldg with
      staged := []
      lastDrop := none
      wroteAt := none }
    pst := { Dev.reset.pst with nodes := s.pst.nodes }
    sln := { Dev.reset.sln with dseq := s.sln.dseq }
    vss := s.vss
    mtr := { Dev.reset.mtr with
      acc := s.mtr.acc
      slots := s.mtr.slots
      losses := s.mtr.losses
      nextSeq := s.mtr.nextSeq
      lastSlot := s.mtr.lastSlot }
    bil := { s.bil with
      assocs := []
      access := []
      slew := none
      keyOp := false
      lastItem := none }
    key := { s.key with
      work := Vector.replicate 16 none
      challenge := none
      debugFails := 0
      debugOpen := false
      rngRun := 0
      rngRetest := none
      rootRetry := none
      trialSince := none
      engineBad := [] }
    bse := { Dev.reset.bse with
      copies := s.bse.copies
      good := s.bse.good
      strs := s.bse.strs }
    saf := { Dev.reset.saf with tested := if guards then s.saf.tested else Dev.reset.saf.tested }
    lsw := s.lsw
    thm := { Dev.reset.thm with dieHeld := s.thm.dieHeld } }

/-! Taking a reset (R509) -/

/-- R511, R321: saves in progress complete. -/
def endSaves (s : Dev) : Dev := s.forEach s.mtr.saving (fun _ s => s.endSave true)

/-- R509: a further cause sets its bit in ALSO. -/
def alsoCause (s : Dev) (c : Nat) : Dev := s.setBit GEN_RESET_CAUSE (16 + c) true

/-- R533: the VIO33 rail. -/
def railSet (s : Dev) (r : Rail) : Dev := s.putLsw { s.lsw with vio := r }

/-- R533: the rail is in regulation: it is on, and VAUX is at least 10 V. -/
def railGood (s : Dev) : Bool := s.lsw.vio != .off && decide (1000 ≤ s.get LSW_SUPPLY_VAUX)

/-- R470: a trial that a fault ends: the other bank is active, and FW_REVERT arises too. -/
def trialEnds (s : Dev) : Dev :=
  ((s.set KEY_FW_ACTIVE s.otherBank).setb KEY_FW_TRIAL false).alsoCause (resetNo .fwRevert)

/-- R510: a reset taken while the pin is armed clears STUCK. -/
def unstick (s : Dev) : Dev := s.when (s.flag GEN_RST_PIN_ARMED) (·.setb GEN_RST_PIN_STUCK false)

/-- R509, R511, R399: a reset is asserted while none is. Whether the estimator's commit before it succeeds is not the device's choice. -/
def assertReset (s : Dev) (c : ResetCause) : Dev :=
  let s := s.endSaves
  let f := s.fresh
  let s := f.2.when (s.serving && ownReset c) (·.bseCommit (Config.freeBool f.1))
  let s := ((s.wr GEN_RESET_CAUSE 0).set GEN_RESET_CAUSE_CAUSE (resetNo c)).unstick
  let s := s.when (s.flag KEY_FW_TRIAL && endsTrial c) (·.trialEnds)
  let s := s.railSet (if c = .brownOut then .off else .full)
  (s.when (opensHold c) (·.openHold)).outlived (.reset c) false (opensHold c)

/-- R509: a reset is taken for a cause. During another reset the cause only sets its bit; a loss of supply takes its place. -/
def takeReset (s : Dev) (c : ResetCause) : Dev :=
  match s.gen.phase with
  | .off => s
  | .reset c0 =>
    if c = .brownOut && c0 != .brownOut then
      (((s.alsoCause (resetNo c0)).set GEN_RESET_CAUSE_CAUSE (resetNo c)).railSet .off).setPhase (.reset c)
    else s.alsoCause (resetNo c)
  | .running | .hibernate => s.assertReset c

/-! The supply (R438) -/

/-- R438, R442: the power die loses what a power-on clears. -/
def lswSupplyLost (s : Dev) : Dev :=
  let s := s.lswAllOff lcBrownout
  let s := s.forEach (idx 20) (fun n s =>
    ((s.setb (LSW_CH_CTL_ON n) false).set (LSW_CH_STATUS_RETRY_CNT n) 0).modCh n (fun x =>
      { x with
        cooling := false
        shed := false
        unlocked := false }))
  let s := s.forEach (idx 20) (fun n s => s.showLswOff n)
  (((s.setb LSW_STATUS_HOLD false).setb LSW_STATUS_AGG_OVER false).modLsw (fun x =>
    { x with
      holdAt := none
      lowSince := none }))

/-- R438, R156: VAUX falls below the latch hold level: thermal latches, clamp locks and the hard-trip latches clear. -/
def latchesLost (s : Dev) : Dev :=
  let s := s.forEach (idx 20) (fun n s =>
    let s := ((s.setb (LSW_CH_STATUS_LATCH n) false).setb (LSW_CH_STATUS_LOCKED_CLAMP n) false).wr (LSW_CH_CLAMP n) 0
    (s.modCh n (fun x => { x with clamps := [] })).showLswOff n)
  (s.set THM_STATUS_HARD 0).forEach (List.range 16) (fun n s => s.setb (THM_CAB_STATUS_HARD n) false)

/-- R438: BROWN_OUT. -/
def brownOut (s : Dev) : Dev :=
  if s.gen.phase = .off || s.gen.phase = .reset .brownOut then s
  else
    let s := s.lswSupplyLost.takeReset .brownOut
    (s.set LSW_STATUS_SUPPLY 3).modLsw (fun x => { x with supplyAt := s.dt })

/-- R321: a save that the loss of supply tears. -/
def tearSaves (s : Dev) : Dev :=
  s.forEach s.mtr.saving (fun p s => s.modMtr (fun m =>
    { m with
      saving := m.saving.drop 1
      slots := m.slots.set (Fin.ofNat 16 p.1) ⟨none, false, false⟩ }))

/-- R438: the logic stops: nothing conducts, and nothing runs until a power-on. -/
def supplyGone (s : Dev) : Dev :=
  if s.gen.phase = .off then s else (((s.lswSupplyLost.latchesLost.tearSaves).railSet .off).outlived .off false false)

/-- R438, R532: VAUX is taken away: what its latches hold is gone, and the next start is a power-on. -/
def vauxRemoved (s : Dev) : Dev := s.brownOut.latchesLost.setPhase .off

/-! HIBERNATE (R516, R518) -/

/-- R516, R518: a request for HIBERNATE; whether the metering save and the estimator's commit succeed, and whether the board draws more from
VIO33 than HIBERNATE allows (R533), comes with it. -/
def hibernate (s : Dev) (saveGood commitGood vioHeavy : Bool) : Dev × Option Code :=
  if s.rd GEN_WAKE_CFG = 0 then (s.incSat GEN_REJECT_CNT_CNT, some ST_BAD_PARAM)
  else if !s.modeStill then (s.incSat GEN_REJECT_CNT_CNT, some ST_BUSY_LIVE)
  else
    let s := ((s.endSaves.startSave.endSave saveGood).bseCommit commitGood).zeroiseWork
    let s := ((s.setMode pmHibernate).linkLoss .dlDown).ledgerFlush
    let s := s.modGen (fun g => { g with
      hibDt := s.dt
      hibUtc := s.utcNow })
    ((s.railSet (if vioHeavy then .off else .reduced)).outlived .hibernate true true, none)

/-! SRAM errors (R36) -/

/-- R36: the rows of the SRAM table that hold control, allocation or edge state. -/
def sramFatal (region : Nat) : Bool := region ∈ [1, 2, 10]

/-- R36: the operation that read the word fails: a descriptor in execution completes, and a long operation ends as failed, with a code that
the spec does not state (a free value other than OK). -/
def failReader (s : Dev) (op : Option Src) : Dev :=
  match op with
  | none => s
  | some src =>
    let f := s.fresh
    let c : Code := BitVec.ofNat 16 (1 + Config.freeNat f.1 % 65535)
    if (s.longOf src).isSome then f.2.longEnd src .failed c
    else
      match src with
      | .uart _ => f.2.complete src c
      | .ring n tag => if (s.execOf n tag).isSome then f.2.complete src c else s

/-- R36: an SRAM error; `op` is the operation of a descriptor that read the word, if one did. -/
def sramError (s : Dev) (double : Bool) (region : Fin 15) (op : Option Src) : Dev :=
  if !double then s.incSat GEN_ECC_SINGLE
  else if sramFatal region then s.takeReset .eccFatal
  else ((s.incSat GEN_ECC_DOUBLE).post EV_GEN_ECC_DOUBLE (leBytes 1 region)).failReader op

/-! The reset pin (R510) -/

/-- R510: the pin has been low for 10 µs while armed. -/
def pinAssert (s : Dev) : Dev :=
  if !s.flag GEN_RST_PIN_ARMED || s.gen.phase = .off then s
  else
    let s := (s.setb GEN_RST_PIN_LEVEL false).takeReset .pin
    s.modGen (fun g => { g with
      pinLow := true
      pinLowSince := s.dt })

/-- R510: the rising edge after a low pin: it is disarmed until it has stayed high. -/
def pinRelease (s : Dev) : Dev :=
  ((s.setb GEN_RST_PIN_LEVEL true).setb GEN_RST_PIN_ARMED false).modGen (fun g => { g with
    pinLow := false
    pinHighSince := s.dt })

/-- R510: the pin has stayed high for 100 ms. -/
def pinArm (s : Dev) : Dev :=
  if s.flag GEN_RST_PIN_ARMED || s.gen.pinLow || !s.flag GEN_RST_PIN_LEVEL then s
  else (s.reach (s.gen.pinHighSince + ms 100)).setb GEN_RST_PIN_ARMED true

/-- R510: a low while disarmed. -/
def pinIgnored (s : Dev) : Dev :=
  if s.flag GEN_RST_PIN_ARMED then s
  else ((s.setb GEN_RST_PIN_LEVEL false).incSat GEN_RST_PIN_IGNORED).modGen (fun g => { g with pinLow := true })

/-! The causes of the device itself -/

/-- R516: GEN_RESET_CTL. -/
def hostReset (s : Dev) (v : Word) : Dev :=
  if bitsOf v 31 24 != 0xA5 || !v.toNat.testBit 0 then s
  else if s.get VSS_STATUS_ENERGISED != 0 && !v.toNat.testBit 1 then s.reject GEN_REJECT_CNT_CNT ST_BUSY_LIVE
  else s.takeReset .host

/-- R163: one set of die temperatures. -/
def dieTemps (s : Dev) (t : List (BitVec 16)) : Dev :=
  let q := s.dieSample t
  if q.2 then (q.1.putThm { q.1.thm with dieHeld := true }).takeReset .dieOvertemp else q.1

/-- R30, R34: the rate check of 10 s: the RTC's rate against CTL, `ppb` parts in 10^9 fast, is the rate by which legal time is converted from
now on. -/
def rateCheck (s : Dev) (ppb : Int) : Dev :=
  let s := s.modGen (fun g => { g with
    rtcCount := s.rtcSpan s.dt
    rtcAt := s.dt
    rtcPpb := max (-999999999) ppb })
  if ppb.natAbs ≤ 500000 then s else ((s.setb GEN_STATUS_RTC_FAULT true).post EV_GEN_RTC_FAULT).timeInvalid

/-- R470, R513: why FW_ACTIVATE is refused. -/
def activateBad (s : Dev) : Option Code :=
  let x := s.bankOf s.otherBank
  if !s.flag KEY_STATUS_ROOT && !s.flag GEN_LIFECYCLE_CAUSE_FW then some ST_KEY_NO_ROOT
  else if !x.present || !x.authentic then some ST_KEY_FW_SIG_BAD
  else if x.secVer < s.get KEY_FW_SEC_ROLLBACK then some ST_KEY_FW_ROLLBACK
  else if s.get VSS_STATUS_ENERGISED != 0 then some ST_BUSY_LIVE
  else none

/-- R470, R513: FW_ACTIVATE. -/
def fwActivate (s : Dev) (src : Src) : Dev :=
  match s.activateBad with
  | some c => s.complete src c
  | none => (((s.complete src ST_OK).set KEY_FW_ACTIVE s.otherBank).setb KEY_FW_TRIAL true).takeReset .fwSwitch

/-- R470: a trial has not been confirmed within 600 s of host-ready. -/
def trialTimeout (s : Dev) : Dev :=
  match s.key.trialSince with
  | none => s
  | some t =>
    if !s.flag KEY_FW_TRIAL then s
    else (((s.reach (t + sec 600)).set KEY_FW_ACTIVE s.otherBank).setb KEY_FW_TRIAL false).takeReset .fwRevert

end Dev

/-! The commands -/

/-- R31: ROOT_PLL_LOCK_LOSS. -/
def execRootPllLockLoss (s : State) : Host.Outcome State Fault Refusal := s.onDev (fun d => d.takeReset .clockFail)

/-- R22: DIE_LINK_FAIL. -/
def execDieLinkFail (s : State) : Host.Outcome State Fault Refusal := s.onDev (fun d => d.takeReset .linkDie)

/-- R36: SRAM_ECC_ERROR. -/
def execSramEccError (double : Bool) (region : Fin 15) (op : Option Src) (s : State) : Host.Outcome State Fault Refusal :=
  s.onLive (fun d => d.sramError double region op)

/-- R509: WATCHDOG_EXPIRY. -/
def execWatchdogExpiry (s : State) : Host.Outcome State Fault Refusal := s.onRun (fun d => d.takeReset .watchdog)

/-- R30: RTC_RATE_CHECK. -/
def execRtcRateCheck (ppb : Int) (s : State) : Host.Outcome State Fault Refusal := s.onRun (fun d => d.rateCheck ppb)

/-- R510: RESET_PIN_ASSERT. -/
def execResetPinAssert (s : State) : Host.Outcome State Fault Refusal := s.onDev (fun d => d.pinAssert)

/-- R510: RESET_PIN_RELEASE. -/
def execResetPinRelease (s : State) : Host.Outcome State Fault Refusal := s.onDev (fun d => d.pinRelease)

/-- R510: RESET_PIN_ARM. -/
def execResetPinArm (s : State) : Host.Outcome State Fault Refusal := s.onDev (fun d => d.pinArm)

/-- R510: RESET_PIN_IGNORED. -/
def execResetPinIgnored (s : State) : Host.Outcome State Fault Refusal := s.onDev (fun d => d.pinIgnored)

/-- R516: HOST_RESET. -/
def execHostReset (value : Word) (s : State) : Host.Outcome State Fault Refusal := s.onReg 0x00 (fun d => d.hostReset value)

/-- R516: HIBERNATE_REQUEST. -/
def execHibernateRequest (saveGood commitGood vioHeavy : Bool) (s : State) : Host.Outcome State Fault Refusal :=
  s.onReg 0x00 (fun d => Dev.answered (d.hibernate saveGood commitGood vioHeavy))

/-- R163: DIE_TEMP_SAMPLE. -/
def execDieTempSample (t0 t1 t2 : BitVec 16) (s : State) : Host.Outcome State Fault Refusal := s.onRun (fun d => d.dieTemps [t0, t1, t2])

/-- R163: DIE_OVERTEMP_RELEASE: every die is below 115 °C, and no longer holds the reset. -/
def execDieOvertempRelease (s : State) : Host.Outcome State Fault Refusal :=
  s.onDev (fun d => d.putThm { d.thm with dieHeld := false })

/-- R438: BROWN_OUT. -/
def execBrownOut (s : State) : Host.Outcome State Fault Refusal := s.onDev (fun d => d.brownOut)

/-- R438: VAUX_REVERSE. -/
def execVauxReverse (s : State) : Host.Outcome State Fault Refusal := s.onDev (fun d => d.supplyGone)

/-- R438: GROUND_LOST. -/
def execGroundLost (s : State) : Host.Outcome State Fault Refusal := s.onDev (fun d => d.supplyGone)

/-- R156, R438: VAUX_REMOVED. -/
def execVauxRemoved (s : State) : Host.Outcome State Fault Refusal := s.onDev (fun d => d.vauxRemoved)

/-- R470: FW_ACTIVATE. -/
def execFwActivate (src : Src) (s : State) : Host.Outcome State Fault Refusal := s.onHost src false true (fun d => d.fwActivate src)

/-- R470: FW_TRIAL_TIMEOUT. -/
def execFwTrialTimeout (s : State) : Host.Outcome State Fault Refusal := s.onLive (fun d => d.trialTimeout)

end Sys2Proof.Machine
end

