-- ==== Sys2Proof/Machine/HostAccess.lean ====
section
/-! DEFINITION. The host's accesses to BAR0 (R8 to R14, R479): what a read returns and clears, and what a write sets, rejects or starts, by the
access codes of the register table, the owning block's open rule, and the requests that fields carry. -/

namespace Sys2Proof.Machine

/-- The bits of a field in its word. -/
def FieldRow.bits (f : FieldRow) : Word := BitVec.ofNat 32 ((2 ^ (f.hi + 1 - f.lo) - 1) * 2 ^ f.lo)

/-- Whether a word gives a field another value. -/
def FieldRow.changes (f : FieldRow) (old v : Word) : Bool := (old ^^^ v) &&& f.bits != 0

/-- Whether a word gives a field a value outside its range. -/
def FieldRow.outside (f : FieldRow) (v : Word) : Bool :=
  let x := Dev.bitsOf v f.hi f.lo
  decide (x < f.least) || decide (f.greatest < x)

/-- Whether a field takes the value of a write: RW, or RWO. -/
def FieldRow.writable (f : FieldRow) : Bool := f.acc == .rw || f.acc == .rwo

/-- The index of the instance of a register that lies at `off`. -/
def instanceAt (off base stride n : Nat) : Option (Fin n) :=
  if h : base ≤ off ∧ (off - base) % stride = 0 ∧ (off - base) / stride < n then some ⟨(off - base) / stride, h.2.2⟩ else none

namespace Dev

/-! The blocks' rejections -/

/-- The counter of rejected writes of a block, and the code of a write that its open rule rejects. -/
def rejection (b : Nat) : Field × Code :=
  match b with
  | 0x01 => (HIF_REJECT_CNT_CNT, ST_HIF_NOT_OPEN)
  | 0x02 => (ALC_REJECT_CNT_CNT, ST_BAD_PARAM)
  | 0x03 => (EDG_REJECT_CNT_CNT, ST_EDG_NOT_OPEN)
  | 0x04 => (CLE_REJECT_CNT_CNT, ST_CLE_NOT_OPEN)
  | 0x05 => (THM_REJECT_CNT_CNT, ST_THM_NOT_OPEN)
  | 0x06 => (PST_PHY_REJECT_CNT_CNT, ST_PST_NOT_OPEN)
  | 0x07 => (SLN_REJECT_CNT_CNT, ST_SLN_NOT_OPEN)
  | 0x08 => (VSS_REJECT_CNT_CNT, ST_VSS_NOT_OPEN)
  | 0x09 => (CAN_REJECT_CNT_CNT, ST_CAN_NOT_OPEN)
  | 0x0A => (MTR_REJECT_CNT_CNT, ST_MTR_NOT_OPEN)
  | 0x0B => (BIL_REJECT_CNT_CNT, ST_BIL_NOT_OPEN)
  | 0x0C => (BSE_REJECT_CNT_CNT, ST_BSE_NOT_OPEN)
  | 0x0D => (TRI_REJECT_CNT_CNT, ST_TRI_NOT_OPEN)
  | 0x0E => (SAF_REJECT_CNT_CNT, ST_SAF_NOT_OPEN)
  | 0x0F => (LSW_REJECT_CNT_CNT, ST_LSW_NOT_OPEN)
  | _ => (GEN_REJECT_CNT_CNT, ST_BAD_PARAM)

/-- The code of a value that the block rejects. HIF and CAN reject it in the same way as a write that is not open (R500, R300), SAF as
SAF_PARAM (R423); elsewhere the spec states no code. -/
def valueCode (b : Nat) : Code :=
  if b = 0x01 || b = 0x09 then (rejection b).2 else if b = 0x0E then ST_SAF_SAF_PARAM else ST_BAD_PARAM

/-- R402, R403: the code of a value outside its range; an enable of a string without cells is refused as R403 says. -/
def outsideCode (b off : Nat) (v : Word) : Code :=
  if (instanceAt off (BSE_STR_CFG 0) 64 48).isSome && v.getLsbD 31 && bitsOf v 23 14 == 0 then ST_BSE_STR_PARAM else valueCode b

/-- A write of block `b` is rejected with a code. -/
def rejectIn (s : Dev) (b : Nat) (c : Code) : Dev := s.reject (rejection b).1 c

/-! Open rules -/

/-- R164: an enabled cable uses the sensor channel, directly or through its set. -/
def snsInUse (s : Dev) (i : Fin 64) : Bool :=
  (List.range 16).any (fun n => s.flag (THM_CAB_CFG_EN n) &&
    (s.cabSensors n 0).any (fun k => k == i || ((s.snsSet k).isSome && s.snsSet k == s.snsSet i)))

/-- R402: a string that is enabled and names the template, or the OCV table. -/
def templateInUse (s : Dev) (t : Nat) : Bool := (List.range 48).any (fun k => s.strEn k && s.get (BSE_STR_CFG_TPL k) == t)
def ocvInUse (s : Dev) (j : Nat) : Bool := (List.range 48).any (fun k => s.strEn k && s.get (BSE_STR_CFG_OCV_TBL k) == j)

/-- R76, R111, R130, R131, R141, R142, R164, R192, R259, R280, R300, R328, R344, R379, R402, R423, R443, R500: whether the RWO fields of
the register at `off` are open. PST_TWIN is judged by the pairs that change. -/
def regOpen (s : Dev) (off : Nat) : Bool :=
  let o := off % 0x10000
  match off / 0x10000 with
  | 0x01 => !s.flag (HIF_RING_CFG_EN ((o - 0x1000) / 16))
  | 0x02 => !s.flag ALC_CTRL_RUN
  | 0x03 =>
    if o < 0x1000 then (stageLegs ((o - 0x400) / 16)).all (fun i => !s.armed i)
    else if o < 0x4400 then !s.armed ((o - 0x1000) / 32)
    else if o < 0x4800 then (List.range 24).all (fun n => !(s.fltCovers ((o - 0x4400) / 4) (384 + n) && s.armed (384 + n)))
    else (s.slmMembers ((o - 0x4800) / 8)).all (fun i => !s.armed i)
  | 0x04 => if o < 0x8000 then !s.armed ((o - 0x4000) / 32) else !s.slotClosed ((o - 0x8000) / 256)
  | 0x05 =>
    if o < 0x1000 then !s.snsInUse (Fin.ofNat 64 ((o - 0x400) / 16))
    else if o < 0x3000 then !s.flag (THM_CAB_CFG_EN ((o - 0x1000) / 64))
    else !s.slotClosed (s.get (THM_LOOP_CFG_SLOT ((o - 0x3000) / 16)))
  | 0x06 => s.pisteState ((o - 0x1000) / 256) == phDown
  | 0x07 => !s.flag SLN_CTRL_EN
  | 0x08 => !s.flag (VSS_OUT_CFG_EN ((o - 0x1000) / 64))
  | 0x09 => !s.flag (CAN_CTL_EN ((o - 0x1000) / 2048))
  | 0x0A => if o < 0x1000 then !s.flag ALC_CTRL_RUN else !s.flag (MTR_PLS_CFG_EN ((o - 0x1000) / 16))
  | 0x0B => s.life != lfService
  | 0x0C =>
    if o < 0x800 then !s.templateInUse ((o - 0x400) / 64)
    else if o < 0x1000 then !s.ocvInUse ((o - 0x800) / 32)
    else !s.strEn ((o - 0x1000) / 64)
  | 0x0D =>
    if o < 0x1000 then s.get VSS_STATUS_ENERGISED == 0
    else if o < 0x2000 then !s.flag (TRI_OUT_CFG_EN ((o - 0x1000) / 32))
    else !s.flag (TRI_OUT_CFG_EN ((o - 0x2000) / 32 / 3))
  | 0x0E => s.safOpen
  | 0x0F => !s.flag (LSW_CH_CFG_EN ((o - 0x100) / 32))
  | _ => true

/-- R192: the pairs that a write of PST_TWIN changes are DOWN. -/
def twinOpen (s : Dev) (old v : Word) : Bool :=
  (List.range 4).all (fun i => (old ^^^ v).toNat.testBit i == false ||
    (s.pisteState (2 * i) == phDown && s.pisteState (2 * i + 1) == phDown))

/-! Conditions that join several fields -/

/-- R144: whether a channel may have the TYPE. -/
def snsTypeOk (i ty : Nat) : Bool := ty == 0 || (decide (ty ≤ 3) && decide (i < 24)) || (ty == 4 && decide (24 ≤ i))

/-- R153: a set mixes bound and unbound channels. -/
def setMixed (s : Dev) (t : Nat) : Bool :=
  let l := (List.range 64).filter (fun i => s.flag (THM_SNS_CFG_EN i) && s.snsSet i == some t)
  l.any (fun i => s.get (THM_SNS_CFG_ROLE i) != 0) && l.any (fun i => s.get (THM_SNS_CFG_ROLE i) == 0)

/-- R82: ATTACH lies in the range of its role: grid point 0 or 1, string 0 to 47, outlet 0 to 15. -/
def attachOk (role attach : Nat) : Bool :=
  if role = 1 then decide (attach ≤ 1) else if role = 2 then decide (attach ≤ 47) else role != 3 || decide (attach ≤ 15)

/-- What a write may not leave behind, judged on the device `t` as the write would leave it, `s` being the device before: the code of the
rejection. -/
def jointBad (s t : Dev) (off : Nat) : Option Code :=
  let b := off / 0x10000
  let bad :=
    match b with
    | 0x02 => (match instanceAt off (ALC_STAGE_MAP 0) 4 64 with
      | some st => !attachOk (t.get (ALC_STAGE_MAP_ROLE st)) (t.get (ALC_STAGE_MAP_ATTACH st))
      | none => false)
    | 0x05 => (match instanceAt off (THM_SNS_CFG 0) 16 64 with
      | some i => !snsTypeOk i (t.get (THM_SNS_CFG_TYPE i)) || (t.snsSet i).any (fun j => t.setMixed j)
      | none => false)
    | 0x07 => (match instanceAt off (SLN_NOTCH 0) 4 8 with
      | some k => decide (t.get (SLN_NOTCH_LAST k) < t.get (SLN_NOTCH_FIRST k))
      | none => false)
    | 0x08 => (match instanceAt off (VSS_OUT_ISO 0) 64 16 with
      | some n => decide (t.get (VSS_OUT_ISO_ISO_WARN n) ≤ t.get (VSS_OUT_ISO_ISO_FAULT n))
      | none => false)
    | 0x0A => (match instanceAt off (MTR_GP_CFG 0) 64 2 with
      | some g => decide (t.get (MTR_GP_CFG_RET_PCT g) ≤ t.get (MTR_GP_CFG_LOST_PCT g)) ||
          (t.flag (MTR_GP_CFG_EN g) && !s.flag (MTR_GP_CFG_EN g) && t.get (MTR_GP_RATED_P_RATED g) == 0)
      | none => false)
    | 0x0B => off == BIL_MAN_CFG && s.flag KEY_STATUS_BOUND_ANY && t.get BIL_MAN_CFG_KEY_SLOT != s.get KEY_STATUS_BOUND_SLOT
    | 0x0E => (match instanceAt off (SAF_PAIR_CFG 0) 16 8 with
      | some p => !funcModeOk (t.pairFunc p) (t.pairMode p)
      | none => false)
    | _ => false
  match instanceAt off (CAN_RING 0) 2048 4 with
  | some n =>
    let ring := s.get (CAN_RING_TX_RING n)
    let leaves := s.flag (CAN_RING_TX_EN n) && (!t.flag (CAN_RING_TX_EN n) || t.get (CAN_RING_TX_RING n) != ring)
    if leaves && s.flag (HIF_RING_CFG_EN ring) then some ST_BUSY_LIVE else none
  | none => if bad then some (valueCode b) else none

/-! Requests -/

/-- R516: a write of GEN_PWR.MODE. What the metering save and the estimator's commit come to, and what the board draws, is not the device's
choice. -/
def modeWrite (s : Dev) (m : Nat) : Dev :=
  if m = s.get GEN_PWR_STATE then s
  else if m = pmRun then s.modeRun
  else if m = pmIdle then answered s.modeIdle
  else if m = pmStandby then answered s.modeStandby
  else
    let f := s.fresh
    let g := f.2.fresh
    let h := g.2.fresh
    answered (h.2.hibernate (Config.freeBool f.1) (Config.freeBool g.1) (Config.freeBool h.1))

/-- The answer of a request that is refused. -/
def outcome (q : Dev × Option Code) : Dev :=
  match q.2 with
  | some c => q.1.answer c
  | none => q.1

def genAct (s : Dev) (off : Nat) (v : Word) : Dev :=
  if off = GEN_LIFECYCLE then (if v.getLsbD 11 == s.flag GEN_LIFECYCLE_SH_REQ then s else s.shReq (v.getLsbD 11))
  else if off = GEN_RESET_CTL then s.hostReset v
  else if off = GEN_PWR then s.modeWrite (bitsOf v 2 0)
  else s

/-- R493: a vector whose message is pending sends it when its mask clears. -/
def unmask (s : Dev) (v : Fin 64) : Dev :=
  let w := s.rd (HIF_MSIX_PBA (v / 32))
  if w.getLsbD (v % 32) && !s.flag (HIF_MSIX_CTRL_MASK v) then
    (s.wr (HIF_MSIX_PBA (v / 32)) (w &&& ~~~(BitVec.ofNat 32 (2 ^ (v.val % 32))))).emit (.msix v)
  else s

def hifAct (s : Dev) (off : Nat) (v : Word) : Dev :=
  match instanceAt off (HIF_RING_CFG 0) 16 256, instanceAt off (HIF_MSIX_CTRL 0) 16 64 with
  | some n, _ =>
    if v.getLsbD 31 == s.flag (HIF_RING_CFG_EN n) then s else if v.getLsbD 31 then s.ringEnable n else s.ringDisable n
  | _, some k => s.unmask k
  | _, _ => s.when (off == HIF_STATUS && v.getLsbD 22 && !s.flag HIF_STATUS_ALERT_OVF) (·.wr HIF_ALERT_FIRST 0)

def alcAct (s : Dev) (off : Nat) (v : Word) : Dev :=
  if off = ALC_CTRL then (if v.getLsbD 0 == s.flag ALC_CTRL_RUN then s else outcome (s.writeRun (v.getLsbD 0)))
  else if off = ALC_TRIP then
    (if v.getLsbD 1 && !s.flag ALC_TRIP_HOST_TRIP then s.hostTrip.when (v.getLsbD 0) (·.latch ALC_STATUS_CLEAR_REFUSED)
     else if v.getLsbD 0 then s.tripClear.1 else s)
  else s.when (off / 0x100 == 0x201) (·.refreshStages)

/-- R99: an arm by register. The fault pins are at whatever level they are. -/
def armByWrite (s : Dev) (i : Fin 408) : Dev × Option Code :=
  let f := s.fresh
  f.2.armLeg i (BitVec.ofNat 4 (Config.freeNat f.1))

/-- R99, R100: ARM and DISARM. -/
def legAct (s : Dev) (i : Fin 408) (v : Word) : Dev :=
  if v.getLsbD 0 then outcome (s.armByWrite i)
  else if v.getLsbD 1 then (if s.isSecondPin i then s else s.disarmLeg i)
  else s

/-- R99, R100, R114: the writes of EDG. R114 names no code for a write of EN = 0 while a leg is armed: it is refused BUSY_LIVE (DESIGN CHOICE,
log entry 74). -/
def edgAct (s : Dev) (off : Nat) (v : Word) : Dev :=
  match instanceAt off (EDG_LEG_CTL 0) 32 408 with
  | some i => s.legAct i v
  | none =>
    if off = EDG_CTRL then
      (if v.getLsbD 0 then s.setb EDG_CTRL_EN true
       else if (idx 408).any (fun (k : Fin 408) => s.armed k) then s.rejectIn 0x03 ST_BUSY_LIVE
       else s.setb EDG_CTRL_EN false)
    else if (instanceAt off (EDG_STG_CFG 0) 16 64).isSome then s.rebindAll
    else s

/-- R131, R137: OPEN, CLOSE and the clearing of FAULT. A write that carries the clearing and CLOSE clears first (log entry 24). -/
def slotAct (s : Dev) (m : Fin 128) (v : Word) : Dev :=
  let s := s.when (v.getLsbD 29) (·.clearSlotFault m)
  if v.getLsbD 0 then outcome (s.closeSlot m)
  else if v.getLsbD 1 then outcome (s.openSlot m)
  else s

def cleAct (s : Dev) (off : Nat) (v : Word) : Dev :=
  match instanceAt off (CLE_SLOT_CTL 0) 256 128 with
  | some m => s.slotAct m v
  | none =>
    if off != CLE_CTRL then s.resampleAll
    else if v.getLsbD 0 then s.setb CLE_CTRL_EN true
    else if s.get CLE_STATUS_CLOSED != 0 then s.rejectIn 0x04 ST_BUSY_LIVE
    else s.setb CLE_CTRL_EN false

/-- R158: THM_CTRL.EN. -/
def thmEnable (s : Dev) (en : Bool) : Dev :=
  if !en && (idx 16).any (fun (n : Fin 16) => (s.flag (THM_CAB_CFG_EN n) || (s.cab n).ident.isSome) && s.energised n) then
    s.rejectIn 0x05 ST_BUSY_LIVE
  else
    let s := s.setb THM_CTRL_EN en
    (s.forEach (idx 16) (fun n s =>
      let s := s.modCab n (fun c => { c with started := false, fallSince := none })
      s.setIlim n (s.idleLimit n))).requestRates

def thmAct (s : Dev) (off : Nat) (v : Word) : Dev :=
  match instanceAt off (THM_CAB_CFG 0) 64 16 with
  | some n =>
    let s := s.refreshDerate n
    if v.getLsbD 31 == s.flag (THM_CAB_CFG_EN n) then s
    else if v.getLsbD 31 then outcome (s.cabEnable n)
    else if s.energised n then s.rejectIn 0x05 ST_BUSY_LIVE
    else s.cabDisable n
  | none =>
    if off = THM_CTRL then (if v.getLsbD 0 != s.flag THM_CTRL_EN then s.thmEnable (v.getLsbD 0) else s)
    else
      let s := match instanceAt off (THM_SNS_CFG 0) 16 64 with
        | some i => s.when (!s.flag (THM_SNS_CFG_EN i) || s.get (THM_SNS_CFG_TYPE i) == 0) (·.snsOff i)
        | none => s
      s.requestRates

def pstAct (s : Dev) (off : Nat) (v : Word) : Dev :=
  match instanceAt off (PST_PHY_CTL 0) 256 8 with
  | some p =>
    if v.getLsbD 31 != s.flag (PST_PHY_CTL_EN p) then (if v.getLsbD 31 then s.pisteEnable p else outcome (s.pisteDisable p))
    else if v.getLsbD 0 then outcome (s.pisteRestart p)
    else s
  | none =>
    if off != PST_ADMIT then s
    else
      let i : Fin 128 := Fin.ofNat 128 (bitsOf v 6 0)
      let s := s.when (v.getLsbD 8) (·.admitAccept i)
      s.when (v.getLsbD 9) (·.admitForget i)

def slnAct (s : Dev) (off : Nat) (v : Word) : Dev :=
  if off = SLN_ADMIT then
    (if h : bitsOf v 7 0 < 250 then
      let i : Fin 250 := ⟨bitsOf v 7 0, h⟩
      let s := s.when (v.getLsbD 8) (·.slnAccept i)
      s.when (v.getLsbD 9) (·.slnForget i)
     else s)
  else if off = SLN_DISP_CFG then
    s.setb SLN_STATUS_DISP_OFF (!s.flag SLN_DISP_CFG_EN || (s.usableKey (s.get SLN_DISP_CFG_KEY_SLOT) kuDisplay).isNone)
  else s

/-- R280, R283: VSS_CTRL.EN and an outlet's EN. -/
def vssEnable (s : Dev) (en : Bool) : Dev :=
  if !en && s.get VSS_STATUS_ACTIVE != 0 then s.rejectIn 0x08 ST_BUSY_LIVE else (s.setb VSS_CTRL_EN en).chgReady

def outEnable (s : Dev) (n : Fin 16) (en : Bool) : Dev :=
  if en then
    (if s.get (VSS_OUT_LIM_V_MAX n) = 0 || s.get (VSS_OUT_LIM_I_MAX n) = 0 || !s.flag (VSS_OUT_CFG_PRE_EN n) then s.answer ST_BAD_PARAM
     else s.setb (VSS_OUT_CFG_EN n) true)
  else if s.sessOpen n then s.rejectIn 0x08 ST_BUSY_LIVE
  else s.setb (VSS_OUT_CFG_EN n) false

def vssAct (s : Dev) (off : Nat) (v : Word) : Dev :=
  match instanceAt off (VSS_OUT_CFG 0) 64 16, instanceAt off (VSS_OUT_CTL 0) 64 16 with
  | some n, _ =>
    let s := if v.getLsbD 31 == s.flag (VSS_OUT_CFG_EN n) then s else s.outEnable n (v.getLsbD 31)
    s.showOwners
  | _, some n =>
    let s := s.when (v.getLsbD 2) (·.setb (VSS_OUT_STATE_WELD n) false)
    if !v.getLsbD 1 then s
    else if s.sessState n = ssIdle then s.answer ST_VSS_NO_SESSION
    else s.endSession n ocNormalHost
  | _, _ => if off = VSS_CTRL && v.getLsbD 0 != s.flag VSS_CTRL_EN then s.vssEnable (v.getLsbD 0) else s

/-- R287, R294, R296: EN and RECOVER. Whether a frame is on the bus at a disable is not told to the host. -/
def canAct (s : Dev) (off : Nat) (v : Word) : Dev :=
  match instanceAt off (CAN_CTL 0) 2048 4 with
  | none => s
  | some n =>
    let s :=
      if v.getLsbD 31 == s.flag (CAN_CTL_EN n) then s
      else if v.getLsbD 31 then s.canEnable n
      else
        let f := s.fresh
        f.2.canDisable n (if Config.freeBool f.1 then f.2.canOffered n f.2.dt else none)
    if v.getLsbD 8 && s.get (CAN_STATUS_STATE n) == canBusOff then s.canStartRecovery n else s

/-- R318: a pulse output's EN. -/
def mtrAct (s : Dev) (off : Nat) (v : Word) : Dev :=
  match instanceAt off (MTR_PLS_CFG 0) 16 4 with
  | none => s
  | some k =>
    if v.getLsbD 31 == s.flag (MTR_PLS_CFG_EN k) then s
    else if v.getLsbD 31 && !pulseSource (s.get (MTR_PLS_CFG_SRC k)) then s.answer ST_BAD_PARAM
    else (s.setb (MTR_PLS_CFG_EN k) (v.getLsbD 31)).pulseEnable k

def bseAct (s : Dev) (off : Nat) (v : Word) : Dev :=
  match instanceAt off (BSE_STR_CFG 0) 64 48, instanceAt off (BSE_STR_CTL 0) 64 48 with
  | some k, _ =>
    if v.getLsbD 31 then outcome (s.strEnable k)
    else
      let q := s.strDisable k
      match q.2 with
      | some c => q.1.rejectIn 0x0C c
      | none => q.1
  | _, some k =>
    let s := s.when (v.getLsbD 0) (·.hostSwap k)
    if v.getLsbD 1 then (s.modStr k (fun x => { x with points := [] })).showStr k else s
  | _, _ =>
    if off != BSE_CTRL then s
    else if v.getLsbD 0 then s.setb BSE_CTRL_EN true
    else if !s.enabledStrings.isEmpty then s.rejectIn 0x0C ST_BUSY_LIVE
    else s.setb BSE_CTRL_EN false

/-- R344: a write of 0 to a triad's EN. -/
def triadDisable (s : Dev) (n : Fin 16) : Dev :=
  if s.energised n then s.rejectIn 0x0D ST_BUSY_LIVE else (s.setb (TRI_OUT_CFG_EN n) false).refreshTriad n

def triAct (s : Dev) (off : Nat) (v : Word) : Dev :=
  match instanceAt off (TRI_OUT_CFG 0) 32 16, instanceAt off (TRI_OUT_CTL 0) 32 16 with
  | some n, _ =>
    if v.getLsbD 31 == s.flag (TRI_OUT_CFG_EN n) then s
    else if v.getLsbD 31 then outcome (s.triadEnable n)
    else s.triadDisable n
  | _, some n =>
    let s := s.forEach (idx 3) (fun k s => if v.getLsbD (3 + k) then outcome (s.standbyRequest n (slotOf n k)) else s)
    s.forEach (idx 3) (fun k s => if v.getLsbD k then outcome (s.readmitRequest n (slotOf n k)) else s)
  | _, _ => s

def safAct (s : Dev) (off : Nat) (v : Word) : Dev :=
  if off = SAF_CONFIRM then s.safConfirm v
  else if off = SAF_CMD then
    let s := s.when (v.getLsbD 1) (·.faultClr)
    s.when (v.getLsbD 0 && s.flag SAF_CFG_RESET_SRC) (·.hostResetAction)
  else s

def lswAct (s : Dev) (off : Nat) (v : Word) : Dev :=
  match instanceAt off (LSW_CH_CFG 0) 32 20, instanceAt off (LSW_CH_CTL 0) 32 20 with
  | some n, _ => if v.getLsbD 31 == s.flag (LSW_CH_CFG_EN n) && (s.lswOwner n).isNone then s else s.lswEnWrite n (v.getLsbD 31)
  | _, some n =>
    let s := s.when (v.getLsbD 2) (·.lswUnlock n)
    s.lswOnWrite n (v.getLsbD 0)
  | _, _ => s

def ldgAct (s : Dev) (off : Nat) (v : Word) : Dev :=
  if off != LDG_CMD then s
  else
    let s := s.when (v.getLsbD 31) (·.freeze .host)
    s.when (v.getLsbD 8) (·.snapRelease (Fin.ofNat 32 (bitsOf v 4 0)))

/-- The requests that a write carries, after its plain fields are set. -/
def regAct (s : Dev) (off : Nat) (v : Word) : Dev :=
  match off / 0x10000 with
  | 0x00 => s.genAct off v
  | 0x01 => s.hifAct off v
  | 0x02 => s.alcAct off v
  | 0x03 => s.edgAct off v
  | 0x04 => s.cleAct off v
  | 0x05 => s.thmAct off v
  | 0x06 => s.pstAct off v
  | 0x07 => s.slnAct off v
  | 0x08 => s.vssAct off v
  | 0x09 => s.canAct off v
  | 0x0A => s.mtrAct off v
  | 0x0C => s.bseAct off v
  | 0x0D => s.triAct off v
  | 0x0E => s.safAct off v
  | 0x0F => s.lswAct off v
  | 0x11 => s.ldgAct off v
  | _ => s

/-- The fields whose writing is a request: they are left to `regAct`. -/
def actBits (off : Nat) : Word :=
  let en : Word := 0x80000000
  if off = GEN_LIFECYCLE then 0x800 else if off = GEN_PWR then 7
  else if off = ALC_CTRL || off = EDG_CTRL || off = CLE_CTRL || off = THM_CTRL || off = VSS_CTRL || off = BSE_CTRL then 1
  else if off = SAF_CONFIRM then 0xFFFFFFFF
  else if (instanceAt off (CLE_SLOT_CTL 0) 256 128).isSome then 0x20000000
  else if (instanceAt off (LSW_CH_CTL 0) 32 20).isSome then 1
  else if (instanceAt off (HIF_RING_CFG 0) 16 256).isSome || (instanceAt off (THM_CAB_CFG 0) 64 16).isSome ||
      (instanceAt off (PST_PHY_CTL 0) 256 8).isSome || (instanceAt off (VSS_OUT_CFG 0) 64 16).isSome ||
      (instanceAt off (CAN_CTL 0) 2048 4).isSome || (instanceAt off (MTR_PLS_CFG 0) 16 4).isSome ||
      (instanceAt off (BSE_STR_CFG 0) 64 48).isSome || (instanceAt off (TRI_OUT_CFG 0) 32 16).isSome ||
      (instanceAt off (LSW_CH_CFG 0) 32 20).isSome then en
  else 0

/-! Writes -/

/-- R415, R422: an accepted write of a safety parameter, whatever its value. -/
def afterChange (s : Dev) (off : Nat) (accepted : Bool) : Dev := if accepted && safWords.contains off then s.safWritten off else s

/-- R191, R194: PRBS_CHK has been set in a piste's control word that read `old`. -/
def afterCheck (s : Dev) (off : Nat) (old : Word) : Dev :=
  match instanceAt off (PST_PHY_CTL 0) 256 8 with
  | some p => s.when (s.flag (PST_PHY_CTL_PRBS_CHK p) && !old.getLsbD 24) (·.prbsClear p)
  | none => s

/-- R100, R131: a write that asks for both of two opposite acts, ARM and DISARM of a leg or OPEN and CLOSE of a slot. -/
def bothAsked (off : Nat) (v : Word) : Bool :=
  v.getLsbD 0 && v.getLsbD 1 && ((instanceAt off (EDG_LEG_CTL 0) 32 408).isSome || (instanceAt off (CLE_SLOT_CTL 0) 256 128).isSome)

/-- R100, R131: such a write is refused: nothing changes but the register's last refusal code. -/
def refuseBoth (s : Dev) (off : Nat) : Dev :=
  match instanceAt off (EDG_LEG_CTL 0) 32 408, instanceAt off (CLE_SLOT_CTL 0) 256 128 with
  | some i, _ => if s.isSecondPin i then s else (s.set (EDG_LEG_CTL_ARM_ERR i) (ST_BAD_PARAM.toNat % 256)).answer ST_BAD_PARAM
  | _, some m => (s.set (CLE_SLOT_CTL_ERR m) (ST_BAD_PARAM.toNat % 256)).answer ST_BAD_PARAM
  | _, _ => s

/-- R9: a write to a 32-bit register. While the owning function is not open, a write to a word whose fields are all RWO (or RO) is
rejected whatever it carries; in a word that also has fields of other codes a write that carries an RWO field's present value is no write of
that field (DESIGN CHOICE, log entry 12). R10: a W1C bit that hardware has set in this clock is not cleared. -/
def writeWord (s : Dev) (r : RegRow) (off : Nat) (v : Word) : Dev :=
  let b := off / 0x10000
  let old := s.rd off
  let isOpen := if off = PST_TWIN then s.twinOpen old v else s.regOpen off
  let takes := fun (f : FieldRow) => f.acc == .rw || (f.acc == .rwo && isOpen)
  if r.fields.any (fun f => takes f && f.outside v) then s.rejectIn b (outsideCode b off v)
  else
    let m := r.mask takes &&& ~~~actBits off
    let clear := r.mask (fun f => f.acc == .w1c) &&& v &&& ~~~actBits off &&& ~~~s.justSet off
    let w := ((old &&& ~~~m) ||| (v &&& m)) &&& ~~~clear
    let t := s.wr off w
    match s.jointBad t off with
    | some c => s.rejectIn b c
    | none =>
      let only := r.fields.all (fun f => f.acc == .rwo || f.acc == .ro)
      let shut := !isOpen && r.fields.any (fun f => f.acc == .rwo && (only || f.changes old v))
      let t := ((t.afterChange off isOpen).afterCheck off old).regAct off v
      t.when shut (·.rejectIn b (rejection b).2)

/-- R12: the staging word of a 64-bit register, or its present low word. -/
def staged (s : Dev) (lo : Nat) : Word :=
  match s.staging.find? (fun p => p.1 == lo) with
  | some p => p.2
  | none => s.rd lo

/-- R12: the staging word is reloaded. -/
def unstage (s : Dev) (lo : Nat) : Dev := s.putStaging (s.staging.filter (fun p => p.1 != lo))

/-- R12: a write of the low word. -/
def writeLow (s : Dev) (lo : Nat) (v : Word) : Dev := (s.unstage lo).putStaging ((s.unstage lo).staging ++ [(lo, v)])

/-- R12: a write of the high word sets the whole register, subject to its access rules; `lo` is the low word's offset. -/
def writeHigh (s : Dev) (r : RegRow) (lo : Nat) (v : Word) : Dev :=
  let low := s.staged lo
  let s := s.unstage lo
  let b := lo / 0x10000
  if !r.fields.any (·.writable) then s
  else if !s.regOpen lo then s.rejectIn b (rejection b).2
  else if b = 0x01 && bitsOf low 11 0 != 0 then s.rejectIn b (valueCode b)
  else
    let s := (s.wr lo low).wr (lo + 4) v
    if b = 0x01 then s else s.presenceChanged

/-- R12, R166: which word of a 64-bit register a row is (1 low, 2 high, 0 none). The parameters of a node channel (TYPE 4) are one 64-bit
register, PARAM1:PARAM0; those of the other types are two plain words. -/
def halfOf (s : Dev) (r : RegRow) (off : Nat) : Nat :=
  match instanceAt off (THM_SNS_PARAM0 0) 16 64, instanceAt off (THM_SNS_PARAM1 0) 16 64 with
  | some i, _ => if s.get (THM_SNS_CFG_TYPE i) = 4 then 1 else r.half
  | _, some i => if s.get (THM_SNS_CFG_TYPE i) = 4 then 2 else r.half
  | _, _ => r.half

/-- R9, R11, R12, R479, R513: a host write to BAR0. -/
def regWrite (s : Dev) (off : Nat) (v : Word) : Dev :=
  if off % 4 != 0 || !s.blockServed (off / 0x10000) then s
  else
    match rowAt off with
    | none => s
    | some r =>
      if s.halfOf r off = 1 then s.writeLow off v
      else if s.halfOf r off = 2 then s.writeHigh r (off - 4) v
      else if bothAsked off v then s.refuseBoth off
      else s.writeWord r off v

/-! Reads -/

/-- The word at an offset as it stands now: what the clock moves is computed. -/
def wordNow (s : Dev) (off : Nat) : Word :=
  let dt : Id64 := BitVec.ofNat 64 s.dt
  let utc : Id64 := BitVec.ofNat 64 s.utcNow
  if off = GEN_DT_LO then dt.extractLsb' 0 32
  else if off = GEN_DT_HI then dt.extractLsb' 32 32
  else if off = BIL_UTC_LO then utc.extractLsb' 0 32
  else if off = BIL_UTC_HI then utc.extractLsb' 32 32
  else if off = KEY_FW then
    let left := match s.key.trialSince with
      | some t => if s.flag KEY_FW_TRIAL then (t + sec 600 - s.dt) / sec 1 else 0
      | none => 0
    withBits (s.rd off) 27 16 left
  else
    match instanceAt off (EDG_LEG_PHASE 0) 32 408, instanceAt off (LSW_CH_CLAMP 0) 32 20, instanceAt off (CAN_STATUS 0) 2048 4 with
    | some i, _, _ => if s.flag (EDG_LEG_CFG_SLM_EN i) then BitVec.ofNat 32 (s.legPhase i) else s.rd off
    | _, some n, _ => withBits (s.rd off) 31 16 (s.clampWin n)
    | _, _, some n => withBits (s.rd off) (CAN_STATUS_BOFF_CNT n).hi (CAN_STATUS_BOFF_CNT n).lo (s.canBoffCnt n)
    | _, _, _ => s.rd off

/-- R9: the bits of a row that read as they stand; WO fields read 0. -/
def readMask (r : RegRow) : Word := r.mask (fun f => f.acc != .wo)

/-- R12: the capture word of a 64-bit register. -/
def captured (s : Dev) (lo : Nat) : Option Word := (s.capture.find? (fun p => p.1 == lo)).map (·.2)

/-- R12: a read of the low word captures the high one. -/
def captureHigh (s : Dev) (lo : Nat) : Dev :=
  let h := s.wordNow (lo + 4)
  (s.putCapture (s.capture.filter (fun p => p.1 != lo) ++ [(lo, h)]))

/-- R9, R11, R12, R194, R479, R513: a host read of BAR0: the value, and what the read changes. -/
def regRead (s : Dev) (off : Nat) : Dev × Word :=
  if off % 4 != 0 then (s, 0xFFFFFFFF)
  else if !s.blockServed (off / 0x10000) then (s, 0)
  else
    match rowAt off with
    | none => (s, 0)
    | some r =>
      let v := s.wordNow off &&& readMask r
      if s.halfOf r off = 1 then (s.captureHigh off, v)
      else if s.halfOf r off = 2 then (s, (s.captured (off - 4)).getD v)
      else if (instanceAt off (PST_PHY_EQ 0) 256 8).isSome then
        let p := (off - PST_PHY_EQ 0) / 256
        (s.set (PST_PHY_EQ_FOM_MIN p) (s.get (PST_PHY_EQ_FOM p)), v)
      else if r.clears = 0 then (s, v)
      else (s.wr off (s.rd off &&& ~~~(BitVec.ofNat 32 r.clears)), v)

/-! A write with its answer -/

/-- The first answer other than OK among outputs. -/
def firstBad : List Output → Option Code
  | [] => none
  | .writeStatus c :: rest => if c = ST_OK then firstBad rest else some c
  | _ :: rest => firstBad rest

/-- Whether an output is the answer to a write. -/
def isAnswer : Output → Bool
  | .writeStatus _ => true
  | _ => false

/-- R488: a register write and the code of its rejection or refusal. -/
def regWriteCode (s : Dev) (off : Nat) (v : Word) : Dev × Option Code :=
  let t := (s.putOut ([])).regWrite off v
  (t.putOut (s.out ++ t.out.filter (fun o => !isAnswer o)), firstBad t.out)

/-- A register write with one answer. -/
def hostWrite (s : Dev) (off : Nat) (v : Word) : Dev :=
  let q := s.regWriteCode off v
  q.1.answer (q.2.getD ST_OK)

/-- A register read before host-ready ends as Unsupported Request (R477). -/
def hostRead (s : Dev) (off : Nat) : Dev :=
  if !s.live then s.emit .unsupported
  else
    let q := s.regRead off
    q.1.emit (.readData q.2)

/-- R484: a read of BAR2: the index that the device keeps of a ring. From 0x800 on it reads 0 (R478). -/
def bar2Read (s : Dev) (off : Nat) : Word :=
  if off % 4 != 0 then 0xFFFFFFFF
  else if off % 8 = 0 ∧ off < 0x800 then BitVec.ofNat 32 (s.get (HIF_RING_STATUS_INDEX (off / 8)))
  else 0

/-- R478: a read of one of the two address ranges. -/
def barRead (s : Dev) (bar : Bar) (off : Nat) : Dev :=
  match bar with
  | .bar0 => s.hostRead off
  | .bar2 => if s.live then s.emit (.readData (s.bar2Read off)) else s.emit .unsupported

end Dev

/-! The commands -/

/-- R9: REGISTER_WRITE. -/
def execRegisterWrite (offset : BitVec 21) (value : Word) (s : State) : Host.Outcome State Fault Refusal :=
  s.onReg (offset.toNat / 0x10000) (fun d => d.hostWrite offset.toNat value)

/-- R12: REG64_LOW_READ. -/
def execReg64LowRead (offset : BitVec 21) (s : State) : Host.Outcome State Fault Refusal := s.onDev (fun d => d.hostRead offset.toNat)

/-- R12: REG64_LOW_WRITE. -/
def execReg64LowWrite (offset : BitVec 21) (value : Word) (s : State) : Host.Outcome State Fault Refusal :=
  s.onReg (offset.toNat / 0x10000) (fun d => d.hostWrite offset.toNat value)

/-- R12: REG64_HIGH_WRITE. -/
def execReg64HighWrite (offset : BitVec 21) (value : Word) (s : State) : Host.Outcome State Fault Refusal :=
  s.onReg (offset.toNat / 0x10000) (fun d => d.hostWrite offset.toNat value)

/-- R82, R484: CLEAR_ON_READ_READ: every read that is not one of a low half. -/
def execClearOnReadRead (bar : Bar) (offset : BitVec 21) (s : State) : Host.Outcome State Fault Refusal :=
  s.onDev (fun d => d.barRead bar offset.toNat)

/-- R477: PCIE_EARLY_REQUEST. From host-ready on the request ends normally. -/
def execPcieEarlyRequest (configuration : Bool) (s : State) : Host.Outcome State Fault Refusal :=
  s.onDev (fun d => if d.live then d else d.emit (if configuration then .retryStatus else .unsupported))

end Sys2Proof.Machine
end

