-- ==== Sys2Proof/Machine/Restart.lean ====
section
/-! DEFINITION. The start of the device (R507): what it finds at each step, the configuration (R38, R514), metering (R323 to R325), billing
(R365), sessions (R278) and safety (R415, R417, R422) at a restart, FW_BAD (R513), the reset pin's stuck state (R510), the wake from
HIBERNATE (R519) and the lifecycle transitions the host and the factory request (R39). -/

namespace Sys2Proof.Machine
namespace Dev

/-! Step 2: POR release -/

/-- R32: times that outlive the reset, when DT restarts: they count from 0. -/
def restartDt (s : Dev) : Dev :=
  let s := (s.putDt 0).putPst { s.pst with nodes := s.pst.nodes.map (fun (n : Node) =>
    { n with
      lastSync := n.lastSync.map (fun _ => 0)
      lastRun := 0
      spDt := 0
      heard := []
      even := { n.even with window := n.even.window.map (fun _ => 0) }
      odd := { n.odd with window := n.odd.window.map (fun _ => 0) } }) }
  let s := s.putLsw { s.lsw with
    supplyAt := 0
    lowSince := none
    holdAt := s.lsw.holdAt.map (fun _ => 0)
    chs := s.lsw.chs.map (fun (c : LswCh) =>
      { c with
        since := c.since.map (fun _ => 0)
        offAt := 0
        lockedAt := 0
        clamps := [] }) }
  let s := s.putLdg { s.ldg with lastFreeze := [] }
  (s.putBil { s.bil with recent := s.bil.recent.map (fun x => (x.1, x.2.1, 0)) }).modGen (fun g => { g with ticks := [] })

/-- R28, R32, R507: the reference is chosen (at a power-on; a CLOCK_FAIL reset keeps the choice), the root PLL locks, DT restarts at 0 and the run epoch increments. -/
def porRelease (s : Dev) (refclk : Bool) : Dev := (s.restartDt.modGen (fun g => { g with refclk := refclk })).bump GEN_EPOCH

/-- R510: after a release the pin is disarmed until it has stayed high. -/
def pinDisarm (s : Dev) : Dev :=
  (s.setb GEN_RST_PIN_ARMED false).modGen (fun g => { g with pinHighSince := s.dt })

/-- R509: the trigger of the snapshot that a cause freezes at the restart. -/
def restartTrigger (c : Nat) : Option Trigger :=
  if c = 3 then some .watchdog else if c = 1 then some .brownOut else if c ∈ [5, 6, 7, 8, 10] then some .faultReset else none

/-- R509, R438, R522: RESET_REPORT, the RESET entry, the record of a brown-out (lowest VAUX in mV, duration in µs) and the snapshot. -/
def resetReport (s : Dev) (vauxLow downUs : Nat) : Dev :=
  let c := s.get GEN_RESET_CAUSE_CAUSE
  let head := leBytes 1 c ++ leBytes 2 (s.get GEN_RESET_CAUSE_ALSO)
  let s := (s.post EV_GEN_RESET_REPORT (head ++ leBytes 4 (s.rd GEN_EPOCH).toNat)).ledger LG_RESET
    (head ++ leBytes 4 s.gen.epochBefore.toNat ++ leBytes 4 (s.rd GEN_EPOCH).toNat)
  let s := (s.when (c == 1) (·.ledger LG_SUPPLY (leBytes 1 3 ++ leBytes 4 vauxLow ++ leBytes 4 downUs))).ledgerFlush
  match restartTrigger c with
  | some t => s.freeze t (BitVec.ofNat 8 c)
  | none => s

/-! Step 3: identity and engines -/

/-- R463: the known-answer tests. -/
def engineTests (s : Dev) (bad : List Byte) : Dev :=
  let s := s.modKey (fun k => { k with engineBad := bad })
  (s.setb KEY_STATUS_ENGINE_FAIL (!bad.isEmpty)).forEach bad (fun b s => s.post EV_KEY_ENGINE_FAIL [b])

/-- R461: the start-up tests of the random source. -/
def rngStart (s : Dev) (pass : Bool) : Dev :=
  if pass then s.setb KEY_STATUS_RNG_OK true
  else
    (s.modKey (fun k => { k with
      rngRun := 1
      rngRetest := some (s.dt + sec 10) })).post EV_KEY_RNG_FAIL

/-- R449: a device without a root secret draws one; the first identity comes with the first start in MANUFACTURE. -/
def rootStart (s : Dev) : Dev :=
  if s.flag KEY_STATUS_ROOT || s.life == lfDebugOpen then s
  else (s.when (s.get GEN_LIFECYCLE_IDENTITY_GEN == 0) (·.set GEN_LIFECYCLE_IDENTITY_GEN 1)).rootCreate

/-- R467, R463, R461, R449: step 3. -/
def bootIdentity (s : Dev) (f : StartFacts) : Dev :=
  let s := s.when (s.flag KEY_STATUS_ERASE_PENDING) (·.eraseFinish)
  ((s.engineTests f.engineBad).rngStart f.rngPass).rootStart

/-! Step 4: firmware -/

/-- R469: a bank authenticates now. -/
def bankRuns (s : Dev) (b : Nat) : Bool := s.canAuthenticate && s.bankBootable b

/-- R473, R474: the banks as this start has found them. -/
def banksFound (s : Dev) : Dev :=
  if s.canAuthenticate then s.bankShow
  else (((s.setb KEY_FW_A_OK false).setb KEY_FW_B_OK false).wr KEY_FW_VER_A 0).wr KEY_FW_VER_B 0

/-- R43: a SAFE-HOLD cause found at the start. -/
def startCause (s : Dev) (cause : Field) : Dev := (s.setb cause true).setb GEN_LIFECYCLE_SAFE_HOLD true

/-- R470: the reset, or a further cause of it, was FW_REVERT. -/
def revertReset (s : Dev) : Bool := s.get GEN_RESET_CAUSE_CAUSE == 10 || (s.get GEN_RESET_CAUSE_ALSO).testBit 10

/-- R468, R469, R470: step 4. `wake` says that no reset came before. -/
def bootFirmware (s : Dev) (bad : List (Fin 2)) (wake : Bool) : Dev :=
  let s := s.forEach bad (fun b s => s.modBank b.val (fun x => { x with authentic := false }))
  let a := s.get KEY_FW_ACTIVE
  let turn := !s.bankRuns a && s.bankRuns s.otherBank
  let s := s.when turn (fun s => (s.set KEY_FW_ACTIVE s.otherBank).setb KEY_FW_TRIAL false)
  let s := (s.when (turn || (!wake && s.revertReset)) (·.post EV_KEY_FW_REVERTED)).banksFound
  let a := s.get KEY_FW_ACTIVE
  if s.bankRuns a then
    let x := s.bankOf a
    let changed := s.bil.fwLast != 0 && s.bil.fwLast != x.version
    let s := ((s.setb GEN_STATUS_FW_AUTH true).wr GEN_FW_VER x.version).set KEY_FW_SEC_RUN_SEC_VER x.secVer
    (s.when changed (·.holdTamper tpFirmware 0 true)).modBil (fun b => { b with fwLast := x.version })
  else (s.startCause GEN_LIFECYCLE_CAUSE_FW).freeze .safeHold

/-! Step 5: configuration, key slots, SAFE-HOLD causes, load switches, safety -/

/-- R38: both copies are checked; a bad one is rewritten from the other. The copy to start from, if one is good. -/
def checkCopies (s : Dev) (bad : List (Fin 2)) : Dev × Option CfgCopy :=
  let ok0 := s.gen.cfg0.good && !bad.contains 0
  let ok1 := s.gen.cfg1.good && !bad.contains 1
  if ok0 then
    let s1 := (s.modGen (fun g => { g with cfg1 := g.cfg0 })).post EV_GEN_CONFIG_REPAIRED (leBytes 1 1)
    (if ok1 then s else s1, some s.gen.cfg0)
  else if ok1 then
    ((s.modGen (fun g => { g with cfg0 := g.cfg1 })).post EV_GEN_CONFIG_REPAIRED (leBytes 1 0), some s.gen.cfg1)
  else
    ((s.modGen (fun g => { g with
      cfg0 := { g.cfg0 with good := false }
      cfg1 := { g.cfg1 with good := false } })).startCause GEN_LIFECYCLE_CAUSE_CONFIG, none)

/-- R508, R134: the fields that take their reset values after every reset, whatever the configuration holds. -/
def neverLoaded (off : Nat) : Word :=
  if off = ALC_CTRL || off = EDG_CTRL || off = CLE_CTRL || off = THM_CTRL || off = VSS_CTRL then 1
  else if (instanceAt off (CLE_SLOT_OUT0 0) 256 128).isSome || (instanceAt off (CLE_SLOT_OUT1 0) 256 128).isSome then 0xFFFFFFFF
  else 0

/-- Enables whose setting is an act of the block: they are set once every other register is loaded. -/
def loadedLast (off : Nat) : Bool :=
  (instanceAt off (CAN_CTL 0) 2048 4).isSome || (instanceAt off (THM_CAB_CFG 0) 64 16).isSome || (instanceAt off (MTR_PLS_CFG 0) 16 4).isSome

/-- R441: the command of a channel lies in the power die, and in the configuration only where that has lost it. -/
def isLswCommand (off : Nat) : Bool := (instanceAt off (LSW_CH_CTL 0) 32 20).isSome

/-- R514: the registers that a record may name. -/
def cfgBlock (off : Nat) : Bool :=
  off / 0x10000 ∈ [0x02, 0x03, 0x04, 0x05, 0x06, 0x07, 0x08, 0x09, 0x0A, 0x0C, 0x0D, 0x0E, 0x0F, 0x11] ||
    off == BIL_MAN_CFG || off == BIL_ROLE_SLOT || off == BIL_TAMP_CFG

/-- R38: the register records of a copy are loaded; fields that it does not name keep their reset values.
A wake leaves the power die as it is. -/
def loadRegs (s : Dev) (l : List (Nat × Word)) (wake supplyLost : Bool) : Dev :=
  let l := l.filter (fun p => cfgBlock p.1 && p.1 != SAF_CONFIRM && (supplyLost || !isLswCommand p.1) && !(wake && p.1 / 0x10000 == 0x0F))
  let s := s.when (!wake) (·.forEach (List.range 20) (fun n s => s.wr (LSW_CH_CFG n) (resetWord (LSW_CH_CFG n))))
  let s := s.forEach l (fun p s =>
    s.wr p.1 (p.2 &&& ~~~(neverLoaded p.1 ||| (if loadedLast p.1 then 0x80000000 else 0))))
  let s := s.forEach (l.filter (fun p => loadedLast p.1)) (fun p s => (s.regWriteCode p.1 p.2).1)
  s.forEach (List.range 16) (fun n s => s.refreshDerate n)

/-- R353, R366, R327: the object records of a copy. Settings that wait for their minute stay as they are. -/
def loadObjs (s : Dev) (l : List ObjSetting) : Dev :=
  let base := Dev.reset.bil
  let cfg := l.foldl (fun c x => (match x with
    | .calendar y => applyCalSet c y
    | _ => c)) base.cfg
  let s := s.when s.bil.pendingCfg.isNone (·.modBil (fun b => { b with cfg := cfg }))
  let s := s.modBil (fun b => { b with
    scrollOut := base.scrollOut
    scrollDsp := base.scrollDsp
    dwell := base.dwell })
  let s := s.forEach l (fun x s => match x with
    | .calendar _ => s
    | .scroll y => s.applyScroll y
    | .calibration y => s.wr (calItemReg y) (calItemValue y))
  (s.wr BIL_CFG s.bil.cfg.cfg).wr BIL_TZ s.bil.cfg.tz

/-- What follows from the registers loaded. -/
def loadedShow (s : Dev) : Dev :=
  let s := s.setb SLN_STATUS_DISP_OFF (!s.flag SLN_DISP_CFG_EN || (s.usableKey (s.get SLN_DISP_CFG_KEY_SLOT) kuDisplay).isNone)
  (s.showOwners.slnCounts).presenceChanged

/-- R454: every VALID slot is loaded and its tag verified. -/
def loadSlots (s : Dev) (bad : List (Fin 64)) : Dev :=
  let s := s.keyCounts
  s.forEach ((idx 64).filter (fun (k : Fin 64) => s.get (KEY_SLOT_STATE k) == 1 && (bad.contains k || (s.slotKey k).isNone)))
    (fun k s => s.slotFoundBad k)

/-- R415: a pair at a start: a guard that channel A knows as tested, with its configuration unchanged, comes back as demanded; every other
pair starts afresh. -/
def startPair (s : Dev) (p : Fin 8) : Dev :=
  if s.pairFunc p = sfnGuard && s.saf.tested[p] == some (s.rd (SAF_PAIR_CFG p)) then s.restartPair p spDemanded else s.freshPair p

/-- R422: CONFIRMED stands only when the check value equals the stored one. -/
def confirmStart (s : Dev) (stored : Option Word) : Dev :=
  let c := s.safCheck
  let ok := stored == some c
  (((s.wr SAF_CHECK c).setb SAF_STATUS_CONFIRMED ok).wr SAF_CONFIRM (if ok then c else 0)).when (!ok) (·.post EV_SAF_UNCONFIRMED)

/-- R415, R417, R422: the safety functions at a start: a site stop of category 0 that belongs to no pair. -/
def safStart (s : Dev) (stored : Option Word) : Dev :=
  let s := (s.confirmStart stored).forEach (idx 8) (fun p s => s.startPair p)
  let s := s.forEach (idx 2) (fun (c : Fin 2) s => s.modChan c (fun x =>
    { x with
      stop := 2
      stopBy := 0xFF
      boot := true }))
  (s.set SAF_STATUS_SITE_STOP 0).safShow

/-- R41: SAFE-HOLD found at the start: a snapshot; transmission stops; channels take their states unless the hold window runs. -/
def heldStart (s : Dev) : Dev :=
  if !s.flag GEN_LIFECYCLE_SAFE_HOLD then s
  else
    let s := (s.freeze .safeHold).canSafeHold
    s.when s.lsw.holdAt.isNone (·.lswSafeHold)

/-- R507: step 5. -/
def bootConfig (s : Dev) (f : StartFacts) (wake supplyLost : Bool) : Dev :=
  let q := s.checkCopies f.cfgBad
  let c := q.2.getD ⟨false, [], []⟩
  let s := ((q.1.loadRegs c.regs wake supplyLost).loadObjs c.objs).loadSlots f.slotBad
  let s := s.loadedShow
  let s := s.when (s.flag GEN_RST_PIN_STUCK) (·.startCause GEN_LIFECYCLE_CAUSE_RST)
  let s := (s.when (!wake) (·.persistReassert)).when supplyLost (·.lswFollowAll lcCommand)
  (s.safStart ((c.regs.find? (fun p => p.1 == SAF_CONFIRM)).map (·.2))).heldStart

/-! Step 6: metering -/

/-- R323: bounds are rounded up to a whole mWh; `x` in mJ. -/
def boundMwh (x : Nat) : Nat := (x + 3599) / 3600

/-- R323: the bound of an outlet: P_SAVE in W, UP in 100 W/ms, T in ms. -/
def outletBound (p up t : Nat) : Nat := boundMwh (min (3750000 * t) (p * t + 50 * up * t * t))

/-- R323: the bound of a grid point: P_RATED in kW, T in ms. -/
def gridBound (p t : Nat) : Nat := boundMwh (p * 1000 * t)

/-- R323: the intact record with the highest sequence number, and its slot. -/
def newestSave (s : Dev) (bad : List (Fin 16)) : Option (Nat × SaveRec) :=
  (idx 16).foldl (fun (best : Option (Nat × SaveRec)) (i : Fin 16) =>
    let x := s.mtr.slots[i]
    match x.saved with
    | some r =>
      if !x.intact || bad.contains i then best
      else (match best with
        | some b => if b.2.seq < r.seq then some (i.val, r) else best
        | none => some (i.val, r))
    | none => best) none

/-- R323: the slot written after slot `k` fails its CRC. -/
def tornAfter (s : Dev) (k : Nat) (bad : List (Fin 16)) : Bool :=
  match ((List.range 16).map (fun d => (k + 1 + d) % 16)).find? (fun j => !s.slotBad j) with
  | some j =>
    let i : Fin 16 := Fin.ofNat 16 j
    !(s.mtr.slots[i]).intact || bad.contains i
  | none => false

/-- R321, R350: the accumulators, and the tariff registers with them, as restored. The running sub-interval loses what they lose (R365). -/
def setAccs (s : Dev) (acc tar : List Int) : Dev :=
  let a : Vector Int 80 := Vector.ofFn (fun (i : Fin 80) => acc.getD i.val 0)
  let s := s.modBil (fun b => { b with
    tar := Vector.ofFn (fun (i : Fin 360) => tar.getD i.val 0)
    demand := Vector.ofFn (fun (d : Fin 20) =>
      let x := b.demand[d]
      let q := demandSource d.val
      { x with energy := max 0 (x.energy + (acc.getD q 0 - b.seen.toList.getD q 0)) })
    seen := a })
  let s := s.modMtr (fun m => { m with acc := a })
  let s := s.forEach (List.range 80) (fun q s =>
    (s.set (MTR_E_WRAP_WRAP q) ((acc.getD q 0).toNat / 2 ^ 32 / 10 ^ 15)).showEnergy q)
  s.forEach (List.range 40) (fun b s => s.forEach (List.range 9) (fun i s => s.showTariffReg b i))

/-- R323: everything rolls back to a save record. -/
def rollBack (s : Dev) (k : Nat) (r : SaveRec) : Dev :=
  let s := s.setAccs r.acc r.tar
  let s := s.forEach (List.range 2) (fun g s => s.set64 (MTR_GP_GAP_LO g) (BitVec.ofNat 64 (r.gaps.getD g 0)))
  let s := s.forEach (List.range 16) (fun n s => s.set64 (TRI_OUT_GAP_LO n) (BitVec.ofNat 64 (r.gaps.getD (2 + n) 0)))
  let s := s.modBil (fun b => { b with l0 := match b.l0 with
    | some u => some u
    | none => r.l0 })
  (s.set64 MTR_SAVE_SEQ_LO (BitVec.ofNat 64 r.seq)).set MTR_SAVE_STATUS_LAST_SLOT k

/-- R324: a loss record is written. -/
def addLoss (s : Dev) (r : LossRec) : Dev :=
  let no := s.get MTR_LOSS_CNT_CNT + 1
  (s.set MTR_LOSS_CNT_CNT no).modMtr (fun m => { m with losses := m.losses ++ [{ r with no := no }] })

/-- R323, R324: a loss record of this restart, without its bounds. -/
def lossHead (s : Dev) : LossRec :=
  { no := 0, before := s.gen.epochBefore, after := s.rd GEN_EPOCH, cause := s.get GEN_RESET_CAUSE_CAUSE, s := 0, sUtc := 0,
    sEpoch := 0, resetUtc := s.gen.resetUtc.getD 0, resetValid := s.gen.resetUtc.isSome, restartUtc := s.utcNow, torn := false, unbounded := false,
    unmetered := false, bounds := [] }

/-- R324, R358, R374: the loss falls into the open period and into the sessions it names, and counts as POWER_LOSS once normal service
begins (R372). -/
def bookLoss (s : Dev) (r : LossRec) (sessions : List (Fin 16)) : Dev :=
  let s := s.addLoss r
  let no := s.get MTR_LOSS_CNT_CNT
  let total := r.bounds.getD 16 0 + r.bounds.getD 18 0
  let s := s.when (s.flag BIL_STATUS_RUN) (·.modBil (fun b => { b with
    periodLoss := b.periodLoss + total
    periodLosses := b.periodLosses ++ [no] }))
  (s.forEach sessions (fun n s => s.modSess n (fun x => { x with losses := x.losses ++ [no] }))).holdTamper tpPowerLoss 0 true

/-- The outlets with a session open. -/
def openOutlets (s : Dev) : List (Fin 16) := (idx 16).filter (fun (n : Fin 16) => s.sessOpen n)

/-- R323: the bounds of a loss of T ms after a record: outlets, then each grid point active and reactive. -/
def lossBounds (s : Dev) (r : SaveRec) (t : Nat) : List Nat :=
  (List.range 16).map (fun n => outletBound (r.pSave.getD n 0) r.up t) ++
    (List.range 2).flatMap (fun g => List.replicate 2 (gridBound (s.get (MTR_GP_RATED_P_RATED g)) t))

/-- R323, R324: a restart with an intact record. -/
def restoreSave (s : Dev) (k : Nat) (r : SaveRec) (bad : List (Fin 16)) : Dev :=
  let torn := s.tornAfter k bad
  let s := s.rollBack k r
  let b := s.lossBounds r (if torn then 200 else 100)
  let open_ := s.openOutlets.filter (fun n => r.open_.getD n.val false)
  let s := s.bookLoss { s.lossHead with
    s := r.dt
    sUtc := r.utc
    sEpoch := r.epoch
    torn := torn
    bounds := b } open_
  s.post EV_MTR_LOSS_RECORDED (leBytes 4 (s.get MTR_LOSS_CNT_CNT) ++ leBytes 4 (b.getD 16 0 + b.getD 18 0))

/-- R325: the device has never metered: before SERVICE, with every save slot never written. -/
def neverMetered (s : Dev) : Bool :=
  (s.life == lfCommissioning || s.life == lfManufacture) && (idx 16).all (fun (i : Fin 16) => s.mtr.slots[i].saved.isNone && s.mtr.slots[i].intact)

/-- R325: a restart without an intact record. -/
def restoreUnbounded (s : Dev) : Dev :=
  if s.neverMetered then s.setAccs [] []
  else
    let s := match s.bil.history.getLast? with
      | some p => s.setAccs p.acc p.tar
      | none => s.setAccs [] []
    let s := s.bookLoss { s.lossHead with unbounded := true } s.openOutlets
    (s.setb MTR_STATUS_LOSS_UNBOUNDED true).post EV_MTR_LOSS_UNBOUNDED

/-- R323, R325: metering at a restart after a reset. -/
def meterRestart (s : Dev) (bad : List (Fin 16)) : Dev :=
  match s.newestSave bad with
  | some (k, r) => s.restoreSave k r bad
  | none => s.restoreUnbounded

/-- R326: metering at a wake: the record of the entry is restored, and each enabled grid point gets a record marked UNMETERED. -/
def meterWake (s : Dev) (bad : List (Fin 16)) : Dev :=
  let s := match s.newestSave bad with
    | some (k, r) => s.rollBack k r
    | none => s
  s.forEach ((List.range 2).filter (fun g => s.flag (MTR_GP_CFG_EN g))) (fun _ s =>
    (s.addLoss { s.lossHead with
      s := s.gen.hibDt
      sUtc := s.gen.hibUtc
      sEpoch := s.rd GEN_EPOCH
      resetUtc := s.gen.hibUtc
      resetValid := true
      unmetered := true }).post EV_MTR_UNMETERED)

/-! Step 6: legal time, sessions, billing, estimator, triad -/

/-- R34: legal time from the RTC, or its declaration as invalid. -/
def clockStart (s : Dev) (f : StartFacts) : Dev :=
  if f.rtcValid then (s.setPair s.dt f.utc).setb BIL_STATUS_TIME_VALID true
  else
    (s.setb BIL_STATUS_TIME_VALID false).modGen (fun g => { g with
      timeDeclared := true
      pair := none })

/-- R278: every session that was open ends INTERRUPTED; nothing is energised any more. -/
def interruptAll (s : Dev) : Dev :=
  let on := s.get VSS_STATUS_ENERGISED
  (s.set VSS_STATUS_ENERGISED 0).forEach s.openOutlets (fun n s =>
    let s := s.modSess n (fun x => { x with
      closing := false
      opening := false
      openedAt := if on.testBit n.val then some s.dt else x.openedAt
      stop := if x.energisedAt.isSome then some (x.stop.getD (s.manEnd n s.dt)) else x.stop
      outcome := if x.outcome = 0 then ocInterrupted else x.outcome })
    if s.sessState n = ssClosing then s.settleManifest n else s.closeSession n)

/-- R342: the heads that may be tested count as unbound until their nodes are present; then each enters TESTING. -/
def triadRestart (s : Dev) : Dev :=
  s.forEach (idx 48) (fun h s =>
    let c := s.get (TRI_HEAD_STATUS_CAUSE h)
    if s.headState h == hdStandby && (c == hcHost || (c == hcTestFail && s.get (TRI_HEAD_STATUS_FAILS h) == 3)) then s
    else (s.set (TRI_HEAD_STATUS_STATE h) hdUnbound).set (TRI_HEAD_STATUS_CAUSE h) 0)

/-- R348, R365, R376: billing resumes in SERVICE. -/
def billingResume (s : Dev) (r : Option Nat) : Dev :=
  let s := s.setb BIL_STATUS_RUN (s.life == lfService)
  ((s.setb BIL_STATUS_ARCHIVE_HIGH s.bil.highTold).billingRestart r).manStatus

/-- R507: step 6. -/
def bootServices (s : Dev) (f : StartFacts) (wake : Bool) (restarted : Bool) : Dev :=
  let s := (s.clockStart f).setb BIL_STATUS_RUN (s.life == lfService)
  let s := s.setb MTR_STATUS_SAVE_FAILED (s.flag MTR_STATUS_SAVE_FAULT)
  let s := if wake then s.meterWake f.saveBad else s.meterRestart f.saveBad
  let s := s.interruptAll.billingResume (if wake then some s.gen.hibUtc else s.gen.resetUtc)
  (s.bseRestart f.estBad restarted).triadRestart

/-! The whole start -/

/-- R477, R507: host-ready. -/
def hostReady (s : Dev) : Dev :=
  let s := (s.setb GEN_STATUS_HOST_READY true).linkUp
  let s := s.set GEN_BOOT_HOST_MS ((s.dt - s.gen.bootDt) / 1000000)
  let s := s.modKey (fun k => { k with trialSince := if s.flag KEY_FW_TRIAL then some s.dt else none })
  s.setPhase .running

/-- R507: the device begins service: normal service (R371), and bring-up of the pistes (step 7). -/
def serviceStart (s : Dev) : Dev :=
  let s := (s.set GEN_BOOT2_PISTES_MS 0xFFFF).normalUpdate
  (s.bringUp.phySummary).chgReady

/-- R507: how long after the release firmware authentication and host-ready come: free, within the times of steps 4 and 6. -/
def bootTimes (s : Dev) : Nat × Nat × Dev :=
  let a := s.fresh
  let h := a.2.fresh
  let auth := Config.freeNat a.1 % 33600001 * 5
  (auth, auth + Config.freeNat h.1 % ((ms 388 - auth) / 5 + 1) * 5, h.2)

/-- R507, R513: steps 3 to 8, from the release of the reset or from the wake. `restarted`: DT has restarted; `supplyLost`: the power die
has lost its commands. -/
def boot (s : Dev) (f : StartFacts) (wake restarted supplyLost : Bool) : Dev :=
  let q := s.bootTimes
  let t0 := s.dt
  let s := (q.2.2.modGen (fun g => { g with bootDt := t0 })).reach (t0 + q.1)
  let s := ((s.bootIdentity f).bootFirmware f.bankBad wake).set GEN_BOOT_AUTH_MS (q.1 / 1000000)
  if s.flag GEN_LIFECYCLE_CAUSE_FW then (s.reach (t0 + q.2.1)).hostReady
  else
    let s := (s.bootConfig f wake supplyLost).reach (t0 + q.2.1)
    (s.bootServices f wake restarted).hostReady.serviceStart

/-- R507, R509: a reset has been released. -/
def released (s : Dev) (f : StartFacts) (restarted : Bool) (downUs : Nat) : Dev :=
  let c := s.get GEN_RESET_CAUSE_CAUSE
  (s.pinDisarm.resetReport f.vauxLow downUs).boot f false restarted (decide (c ≤ 1))

/-- R507, R510: VAUX has been good for 10 ms: POR release; the device stays in reset while RESET_N is low. -/
def powerOn (s : Dev) (f : StartFacts) : Dev :=
  let go := fun (s : Dev) (downUs : Nat) =>
    let s := ((s.porRelease f.refclk).set LSW_STATUS_SUPPLY suNormal).railSet .full
    if f.pinLow then
      ((s.alsoCause (resetNo .pin)).setb GEN_RST_PIN_LEVEL false).modGen (fun g => { g with
        phase := .reset .powerOn
        pinLow := true
        pinLowSince := 0 })
    else
      ((s.setb GEN_RST_PIN_LEVEL true).modGen (fun g => { g with
        phase := .reset .powerOn
        pinLow := false })).released f true downUs
  match s.gen.phase with
  | .off => go ((s.wr GEN_RESET_CAUSE 0).setb GEN_RST_PIN_STUCK false) 0
  | .reset .brownOut => go s ((s.dt - s.lsw.supplyAt) / 1000)
  | _ => s

/-- R510, R163: the pin or a hot die holds the reset. -/
def resetHeld (s : Dev) : Bool :=
  (s.gen.pinLow && (s.flag GEN_RST_PIN_ARMED || s.gen.phase == .reset .powerOn)) || s.thm.dieHeld

/-- R507, R509, R32: a reset other than for the supply is released. -/
def resetRelease (s : Dev) (f : StartFacts) : Dev :=
  match s.gen.phase with
  | .reset c =>
    if c == .brownOut || s.resetHeld then s
    else if c == .clockFail then (s.porRelease s.gen.refclk).released f true 0
    else s.released f (s.get GEN_RESET_CAUSE_CAUSE ≤ 1) 0
  | _ => s

/-- R510, R42: RESET_N has been low for 5 s: the device restarts with the pin disarmed and cause RST_STUCK. -/
def pinStuck (s : Dev) (f : StartFacts) : Dev :=
  match s.gen.phase with
  | .reset c =>
    if c == .brownOut || !s.gen.pinLow || s.thm.dieHeld then s
    else
      let s := (s.reach (s.gen.pinLowSince + sec 5)).setb GEN_RST_PIN_STUCK true
      let s := (s.post EV_GEN_RST_PIN_STUCK).setb GEN_RST_PIN_ARMED false
      if c == .clockFail then (s.porRelease s.gen.refclk).released f true 0 else s.released f (s.get GEN_RESET_CAUSE_CAUSE ≤ 1) 0
  | _ => s

/-! HIBERNATE (R519) -/

/-- R524: the bit of a wake source in GEN_WAKE_CFG and GEN_WAKE_CAUSE. -/
def wakeBit : WakeSource → Nat
  | .rtc => 0 | .can => 1 | .sln => 2 | .host => 3 | .pin k => 4 + k.val

/-- R519: an enabled source wakes the device; `slept` is the duration of HIBERNATE in ns by the RTC. -/
def wake (s : Dev) (w : WakeSource) (slept : Nat) (f : StartFacts) : Dev :=
  if s.gen.phase != .hibernate || !(s.rd GEN_WAKE_CFG).getLsbD (wakeBit w) then s
  else
    let c := BitVec.ofNat 32 (2 ^ wakeBit w)
    let s := (s.putDt (s.dt + slept / 5 * 5)).railSet .full
    let s := ((s.wr GEN_WAKE_CAUSE c).setb GEN_STATUS_WOKEN true).post EV_GEN_WAKE (leBytes 4 c.toNat)
    s.boot f true false false

/-- R258: a WAKE frame from a node in the table: it wakes the device and counts as the node's reply. -/
def slnWake (s : Dev) (id : Id64) (slept : Nat) (f : StartFacts) : Dev :=
  match (idx 250).find? (fun (i : Fin 250) => s.slnState i != 0 && s.slnId i == id) with
  | none => s
  | some i =>
    let was := s.gen.phase == .hibernate
    let s := s.wake .sln slept f
    if !was || s.gen.phase == .hibernate then s
    else
      let s := (s.modEntry i (fun e => { e with
        fails := 0
        unsynced := false })).set (SLN_NODE_AGE_AGE i) 0
      let s := if s.slnState i = snLost then ((s.set (SLN_NODE_INFO_STATE i) snPresent).slnCounts).post EV_SLN_NODE_RETURNED
        else s
      s.post EV_SLN_WAKE

/-! Lifecycle (R39, R40) -/

/-- R39, R472: Yalkor's factory close, with the certificate of the identity key; in any other state, or with a test not passed, it is a
request that the table does not have. -/
def factoryClose (s : Dev) (passed : Bool) (cert : List Byte) : Dev :=
  if s.life = lfManufacture && passed then ((s.modKey (fun k => { k with idCert := cert })).setLife lfCommissioning).answer ST_OK
  else s.answer ST_BAD_PARAM

/-- R39: the conditions of the move to SERVICE beside the role. -/
def serviceReady (s : Dev) : Bool := s.flag SAF_STATUS_CONFIRMED && s.gen.cfg0.good && s.gen.cfg1.good && s.manKeyUsable

/-- R39, R40, R369: a transition between COMMISSIONING and SERVICE that needs the INSTALLER role on the host's channel. The spec gives no
order between the role and the other conditions: the role is judged first, with REFUSED_ROLE (DESIGN CHOICE, log entry 13). -/
def lifeByRole (s : Dev) (src : Src) (need : Option Code) (life : Nat) : Dev :=
  match s.assocOf .host with
  | some a =>
    if !isInstaller a.role then s.complete src ST_REFUSED_ROLE
    else
      match need with
      | some c => s.complete src c
      | none => ((s.touchAssoc .host).setLife life).complete src ST_OK
  | none => s.complete src ST_REFUSED_ROLE

/-- R39, R449: re-commissioning: a new identity and a new root secret. -/
def recommission (s : Dev) (src : Src) : Dev :=
  let f := s.fresh
  let s := (f.2.set GEN_LIFECYCLE_IDENTITY_GEN (f.2.get GEN_LIFECYCLE_IDENTITY_GEN + 1)).set64 GEN_DEVICE_ID_LO (Config.freeId f.1)
  ((s.setLife lfCommissioning).rootCreate).complete src ST_OK

/-- R39, R40: LIFECYCLE. Every transition that the table does not name is refused. -/
def lifecycle (s : Dev) (src : Src) (target : Nat) : Dev :=
  if s.life = lfCommissioning && target = lfService then
    s.lifeByRole src (if s.serviceReady then none else some ST_BAD_PARAM) lfService
  else if s.life = lfService && target = lfCommissioning then
    s.lifeByRole src (if s.siteLive then some ST_BUSY_LIVE else none) lfCommissioning
  else if s.life = lfDebugOpen && target = lfCommissioning && !s.key.debugOpen then s.recommission src
  else s.complete src ST_BAD_PARAM

end Dev

/-! The commands -/

/-- R507: POWER_ON_RESET. -/
def execPowerOnReset (facts : StartFacts) (s : State) : Host.Outcome State Fault Refusal := s.onDev (fun d => d.powerOn facts)

/-- R507: RESET_RELEASE. -/
def execResetRelease (facts : StartFacts) (s : State) : Host.Outcome State Fault Refusal := s.onDev (fun d => d.resetRelease facts)

/-- R510: RESET_PIN_STUCK. -/
def execResetPinStuck (facts : StartFacts) (s : State) : Host.Outcome State Fault Refusal := s.onDev (fun d => d.pinStuck facts)

/-- R519: HIBERNATE_WAKE. -/
def execHibernateWake (source : WakeSource) (slept : Nat) (facts : StartFacts) (s : State) : Host.Outcome State Fault Refusal :=
  s.onDev (fun d => d.wake source slept facts)

/-- R258: SLN_WAKE_FRAME. -/
def execSlnWakeFrame (id : Id64) (slept : Nat) (facts : StartFacts) (s : State) : Host.Outcome State Fault Refusal :=
  s.onDev (fun d => d.slnWake id slept facts)

/-- R39: FACTORY_CLOSE. -/
def execFactoryClose (testsPassed : Bool) (cert : List Byte) (s : State) : Host.Outcome State Fault Refusal :=
  s.onRun (fun d => d.factoryClose testsPassed cert)

/-- R39: LIFECYCLE. -/
def execLifecycle (src : Src) (target : Byte) (s : State) : Host.Outcome State Fault Refusal :=
  s.onHost src false false (fun d => d.lifecycle src target.toNat)

end Sys2Proof.Machine
end

