-- ==== Sys2Proof/Machine/HostIf.lean ====
section
/-! DEFINITION. The host interface's own descriptors (R487, R488, R498, R499), tests (R515) and the configuration image (R514). -/

namespace Sys2Proof.Machine
namespace Dev

/-! REG_READ and REG_WRITE -/

/-- R478: the offset lies in BAR0. -/
def inBar0 (off : Word) : Bool := decide (off.toNat < 0x200000)

/-- R487: read registers one after the other. -/
def readAll (s : Dev) (l : List Word) : Dev × List Byte :=
  l.foldl (fun q off => let r := q.1.regRead off.toNat; (r.1, q.2 ++ leBytes 4 r.2.toNat)) (s, [])

/-- R487: REG_READ. -/
def regReads (s : Dev) (src : Src) (l : List Word) : Dev :=
  if l.isEmpty || 256 < l.length || !l.all inBar0 then s.complete src ST_BAD_PARAM
  else
    let q := s.readAll l
    q.1.complete src ST_OK 0 q.2

/-- R488: a REG_WRITE ends with a code and the number of pairs applied. After a reset there is no ring to complete in. -/
def writesDone (s : Dev) (src : Src) (done : Nat) (c : Option Code) : Dev :=
  if s.live then s.complete src (c.getD ST_OK) (BitVec.ofNat 32 done) else s

/-- R99: a register write has asked for the LEG_CFG of this leg. -/
def armAsked (before after : Dev) (off : Nat) : Option (Fin 408) :=
  (instanceAt off (EDG_LEG_CTL 0) 32 408).bind (fun i => if after.armReading i && !before.armReading i then some i else none)

/-- R488: the pairs are applied in order up to the first that is rejected or refused; `done` have been applied. A write that stops the
device, such as a reset, ends them too. An arm of a piste leg is accepted or refused only when the node's LEG_CFG has been read (R99): the
pairs after it wait for that. -/
def writeAll (s : Dev) (src : Src) (done : Nat) : List (Word × Word) → Dev
  | [] => s.writesDone src done none
  | p :: rest =>
    if !s.live then s
    else if !inBar0 p.1 then s.writesDone src done (some ST_BAD_PARAM)
    else
      let q := s.regWriteCode p.1.toNat p.2
      match q.2, armAsked s q.1 p.1.toNat with
      | some c, _ => q.1.writesDone src done (some c)
      | none, some i => q.1.putHif { q.1.hif with armWait := q.1.hif.armWait ++ [⟨i, src, done, rest, none⟩] }
      | none, none => writeAll q.1 src (done + 1) rest

/-- R488: REG_WRITE. -/
def regWrites (s : Dev) (src : Src) (l : List (Word × Word)) : Dev :=
  if l.isEmpty || 256 < l.length then s.complete src ST_BAD_PARAM else s.writeAll src 0 l

/-- R488: the REG_WRITEs whose arm has been accepted go on, those whose arm has been refused end. -/
def resumeWrites (s : Dev) : Dev :=
  let l := s.hif.armWait.filter (fun (x : ArmWait) => x.result.isSome)
  (s.putHif { s.hif with armWait := s.hif.armWait.filter (fun (x : ArmWait) => x.result.isNone) }).forEach l (fun x s =>
    match x.result with
    | some (some c) => s.writesDone x.src x.done (some c)
    | _ => s.writeAll x.src (x.done + 1) x.rest)

/-! Tests (R515) -/

/-- R515: the codes, and how many parameter bytes each has. -/
def testParams (code : Nat) : Option Nat :=
  if code = 0x0007 then some 1 else if code = 0x0008 || code = 0x0009 then some 2
  else if 1 ≤ code && code ≤ 0x000D then some 0 else none

/-- R515: the tests that wait for their window. -/
def testQueues (code : Nat) : Bool := code ∈ [0x0004, 0x0005, 0x000A, 0x000B, 0x000C]

def testByte (p : List Byte) (i : Nat) : Nat := (p[i]?.getD 0).toNat

/-- R515: the head slot that HEAD_TEST names. -/
def testHeadSlot (p : List Byte) : Fin 48 := slotOf (Fin.ofNat 16 (testByte p 0)) (Fin.ofNat 3 (testByte p 1))

/-- R515: the parameters name something that exists. -/
def testParamsOk (code : Nat) (p : List Byte) : Bool :=
  if code = 0x0007 then decide (testByte p 0 < 2)
  else if code = 0x0008 then decide (testByte p 0 < 16) && decide (testByte p 1 < 3)
  else if code = 0x0009 then decide (testByte p 0 < 8) && decide (testByte p 1 < 4)
  else true

/-- R515: why a test is refused at once. -/
def testRefused (s : Dev) (code : Nat) (p : List Byte) : Option Code :=
  if (code = 0x0007 || code = 0x000C) && s.life = lfService then some ST_BUSY_LIVE
  else if code = 0x0008 then
    (if s.energised (testByte p 0) && s.get (TRI_OUT_STATUS_ADMITTED (testByte p 0)) < 3 then some ST_BUSY_LIVE
     else (s.readmitRequest (Fin.ofNat 16 (testByte p 0)) (testHeadSlot p)).2)
  else if code = 0x0009 && s.pisteLive (testByte p 0) then some ST_BUSY_LIVE
  else none

/-- R515: the safe window of a queued test holds. -/
def testWindow (s : Dev) (code : Nat) (quiet generating : Bool) : Bool :=
  if code = 0x0004 then quiet
  else if code = 0x0005 then quiet && !generating
  else if code = 0x000A then s.get SAF_STATUS_SOUT_ON == 0 && s.get VSS_STATUS_ENERGISED == 0
  else if code = 0x000B then s.get VSS_STATUS_ACTIVE == 0
  else s.get VSS_STATUS_ENERGISED == 0

/-- GEN_TEST.QUEUED. -/
def showTests (s : Dev) : Dev := s.set GEN_TEST_QUEUED (s.gen.tests.filter (fun t => !t.running)).length

/-- R515, R191: a piste enters TEST with PRBS31, and the heads on it are excluded. -/
def prbsStart (s : Dev) (p : Fin 8) (loop : Nat) : Dev :=
  let s := (((s.set (PST_PHY_CTL_LOOP p) loop).setb (PST_PHY_CTL_PRBS_GEN p) true).setb (PST_PHY_CTL_PRBS_CHK p) true).prbsClear p
  (s.setPhy p phTest).headsLoseTest p

/-- R515: the piste is brought up again. -/
def prbsEnd (s : Dev) (p : Fin 8) : Dev :=
  let s := ((s.set (PST_PHY_CTL_LOOP p) 0).setb (PST_PHY_CTL_PRBS_GEN p) false).setb (PST_PHY_CTL_PRBS_CHK p) false
  if s.pisteState p != phTest then s
  else if s.flag (PST_PHY_CTL_EN p) then (s.firstAttempt p).headsLeaveTest p
  else (s.setPhy p phDown).headsLeaveTest p

/-- R515: what a test does when it starts. -/
def testBegin (s : Dev) (code : Nat) (p : List Byte) : Dev :=
  if code = 0x0005 then s.setb KEY_STATUS_RNG_OK false
  else if code = 0x0008 then (s.readmitRequest (Fin.ofNat 16 (testByte p 0)) (testHeadSlot p)).1
  else if code = 0x0009 then s.prbsStart (Fin.ofNat 8 (testByte p 0)) (testByte p 1)
  else if code = 0x000A then s.safDrive
  else if code = 0x000B || code = 0x000C then s.normalUpdate
  else s

/-- R515: an item has failed. -/
def itemFailed (w : Word) : Bool := w.getLsbD 31

/-- R515: what a test leaves when it ends; `items` are its items, none when it is cancelled. -/
def testFinish (s : Dev) (code : Nat) (p : List Byte) (items : List Word) : Dev :=
  let failed := items.any itemFailed
  if code = 0x0003 then
    s.forEach (List.range 2) (fun b s =>
      let s := match items[b]? with
        | some w => s.modBank b (fun x => { x with authentic := x.present && !itemFailed w })
        | none => s
      s.banksFound)
  else if code = 0x0004 then
    (if failed then s.engineTests (s.key.engineBad ++ (items.filter itemFailed).map (fun w => w.setWidth 8)) else s)
  else if code = 0x0005 then (if failed then s.rngStart false else s.setb KEY_STATUS_RNG_OK (!s.flag KEY_STATUS_RNG_LATCHED))
  else if code = 0x0009 then s.prbsEnd (Fin.ofNat 8 (testByte p 0))
  else if code = 0x000A then s.safDrive
  else if code = 0x000B || code = 0x000C then s.normalUpdate
  else s

def dropTest (s : Dev) (src : Src) : Dev :=
  (s.modGen (fun g => { g with tests := eraseFirst (fun t => t.src.src == src) g.tests })).showTests

def testOf (s : Dev) (src : Src) : Option QueuedTest := s.gen.tests.find? (fun t => t.src.src == src)

/-- R515, R526: a test is over: GEN_TEST, the wayledger and the status word. -/
def testOver (s : Dev) (t : QueuedTest) (result : Code) (items : List Word) : Dev :=
  let bad := result != ST_OK
  let s := (s.set GEN_TEST_LAST_CODE t.code).setb GEN_TEST_LAST_FAIL bad
  let s := s.ledger LG_TEST (leBytes 2 t.code ++ leBytes 2 result.toNat)
  let s := if bad && !items.isEmpty then s.longPartial t.src.src items.length (items.flatMap (fun w => leBytes 4 w.toNat)) 1000 else s
  s.longEnd t.src.src (if bad then .failed else .done) result

/-- R515, R496: TEST. -/
def testRequest (s : Dev) (l : LongSrc) (x : TestReq) : Dev :=
  let code := x.code.toNat
  let p := x.params
  if s.flag GEN_LIFECYCLE_CAUSE_FW && code != 0x0002 && code != 0x0003 then s.complete l.src ST_HIF_NOT_IN_CHANNEL
  else
    let queued := testQueues code
    let full := queued && decide (8 ≤ (s.gen.tests.filter (fun t => !t.running)).length)
    let bad := match s.longCheck l with
      | some c => some c
      | none =>
        if (testParams code).isNone || !testParamsOk code p then some ST_BAD_PARAM
        else match s.testRefused code p with
          | some c => some c
          | none => if full then some ST_GEN_QUEUE_FULL else none
    match bad with
    | some c => s.longRefuse l 0x0002 c
    | none =>
      let t : QueuedTest := { src := l, code := code, params := p, since := s.dt, running := !queued }
      let s := ((s.longAccept l 0x0002 queued).modGen (fun g => { g with tests := g.tests ++ [t] })).showTests
      if queued then s else s.testBegin code p

/-- R515: a queued test starts. -/
def testStart (s : Dev) (t : QueuedTest) : Dev :=
  let s := (s.modGen (fun g => { g with tests := g.tests.map (fun (x : QueuedTest) =>
    if x.src.src == t.src.src then
      { x with
        since := s.dt
        running := true }
    else x) })).showTests
  let s := s.putHif { s.hif with long := s.hif.long.map (fun (o : LongOp) =>
    if o.src == t.src.src then { o with state := .running } else o) }
  (s.statusOut t.src.statusAddr .running 0 ST_OK).testBegin t.code t.params

/-- R515: at an allocation tick every queued test whose window holds starts. -/
def testWindowOpen (s : Dev) (quiet generating : Bool) : Dev :=
  let s := s.tick .testWindow (ms 10)
  s.forEach (s.gen.tests.filter (fun t => !t.running)) (fun t s => if s.testWindow t.code quiet generating then s.testStart t else s)

/-- R515: a queued test has not started within 24 h. -/
def testExpiry (s : Dev) (src : Src) : Dev :=
  match s.testOf src with
  | none => s
  | some t =>
    if t.running then s else (((s.reach (t.since + sec 86400)).dropTest src).testOver t ST_GEN_TEST_EXPIRED [])

/-- R515: how long a test runs, where that is stated. -/
def testSpan (code : Nat) : Nat :=
  if code = 0x0007 then ms 200 else if code = 0x0009 then sec 1 else if code = 0x000C then ms 50 else 0

/-- R515: a running test ends with its items. -/
def operationDone (s : Dev) (src : Src) (items : List Word) : Dev :=
  match s.testOf src with
  | none => s
  | some t =>
    if !t.running then s
    else (((s.reach (t.since + testSpan t.code)).dropTest src).testFinish t.code t.params items).testOver t (if items.any itemFailed then ST_GEN_TEST_FAIL else ST_OK) items

/-- R497: a running operation has more of its result. -/
def partialReady (s : Dev) (src : Src) (units : Nat) (data : List Byte) (progress : Nat) : Dev :=
  match s.longOf src with
  | none => s
  | some o => if o.state = .queued then s else s.longPartial src units data (min progress 1000)

/-! LONG_CANCEL (R498) -/

/-- R498: a long operation is stopped. -/
def cancelLong (s : Dev) (o : LongOp) : Dev :=
  let s := match s.testOf o.src with
    | some t => if t.running then (s.dropTest o.src).testFinish t.code t.params [] else s.dropTest o.src
    | none => s.identStop o.src
  if 0 < o.valid then s.longEnd o.src .done ST_PARTIAL else s.longEnd o.src .failed ST_HIF_CANCELLED

/-- R498: LONG_CANCEL names a TAG. -/
def longCancel (s : Dev) (src : Src) (tag : Word) : Dev :=
  match s.hif.long.find? (fun o => srcTag o.src == tag) with
  | some o => (s.cancelLong o).complete src ST_OK
  | none =>
    let own := fun (e : ExecDesc) => match src with
      | .ring n t => execIs e n.val t
      | .uart _ => false
    if s.hif.exec.any (fun e => e.tag == tag && !e.waiting && !own e) then s.complete src ST_BUSY_LIVE
    else s.complete src ST_BAD_PARAM

/-! CFG_WRITE (R514) -/

/-- R514: a register record is in order: its target, its bits and its ranges, and no manifest key slot other than a BOUND one. -/
def cfgRegOk (s : Dev) (off : Nat) (v : Word) : Bool :=
  off % 4 == 0 && off != SAF_CONFIRM && cfgBlock off &&
    (match rowAt off with
     | some r => r.fields.any (·.writable) && v &&& ~~~(r.mask (·.writable)) == 0 && !r.fields.any (fun f => f.writable && f.outside v)
     | none => false) &&
    (instanceAt off (ALC_STAGE_MAP 0) 4 64).all (fun _ => attachOk (bitsOf v 27 26) (bitsOf v 25 20)) &&
    !(off == BIL_MAN_CFG && s.flag KEY_STATUS_BOUND_ANY && bitsOf v 5 0 != s.get KEY_STATUS_BOUND_SLOT)

/-- R514: what is wrong with a record, if anything. `broken` says that CONFIG_BAD is present, `cal` that the image holds calibration, `role`
that the host holds INSTALLER. -/
def cfgRecordBad (s : Dev) (broken cal role : Bool) : CfgRecord → Option Code
  | .reg off v => if s.cfgRegOk off v then none else some ST_BAD_PARAM
  | .obj (.calendar x) => if !broken && !role then some ST_REFUSED_ROLE else if calSetOk x then none else some ST_BAD_PARAM
  | .obj (.scroll x) => if !broken && !role then some ST_REFUSED_ROLE else if scrollSetOk x then none else some ST_BAD_PARAM
  | .obj (.calibration x) =>
    if !broken then some ST_REFUSED_ROLE else if cal && calItemOk x then none else some ST_BAD_PARAM
  | .other kind target =>
    let c := target.toNat / 2 ^ 24
    if kind = 2 ∧ !broken ∧ (c = 0x0A ∨ (c = 0x08 ∨ c = 0x09) ∧ !role) then some ST_REFUSED_ROLE else some ST_BAD_PARAM

/-- The first record that fails, with its index. -/
def firstBadRecord (s : Dev) (broken cal role : Bool) : Nat → List CfgRecord → Option (Nat × Code)
  | _, [] => none
  | i, r :: rest =>
    match s.cfgRecordBad broken cal role r with
    | some c => some (i, c)
    | none => firstBadRecord s broken cal role (i + 1) rest

/-- R514: an object record's setting, when its data stands for one of the object it names. -/
def parseObject (target : Word) (data : List Byte) : CfgRecord :=
  match Config.objRecord target data with
  | some x => if objSettingId x = target then .obj x else .other 2 target
  | none => .other 2 target

/-- R514: one record from its KIND, its LEN, its two zero bytes, its TARGET, and its data with the padding. -/
def parseRecord (kind len zeros : Nat) (target : Word) (padded : List Byte) : CfgRecord :=
  let data := padded.take len
  if zeros ≠ 0 ∨ leNat (padded.drop len) ≠ 0 then .other (BitVec.ofNat 8 kind) target
  else if kind = 1 ∧ len = 4 then .reg target.toNat (BitVec.ofNat 32 (leNat data))
  else if kind = 2 ∧ 1 ≤ len ∧ len ≤ 240 then parseObject target data
  else .other (BitVec.ofNat 8 kind) target

/-- R514: `n` records that fill the bytes exactly. -/
def parseRecords : Nat → List Byte → Option (List CfgRecord)
  | 0, l => if l.isEmpty then some [] else none
  | n + 1, l =>
    let len := leAt l 1 1
    let size := (len + 3) / 4 * 4
    if l.length < 8 + size then none
    else
      (parseRecords n (l.drop (8 + size))).map
        (parseRecord (leAt l 0 1) len (leAt l 2 2) (BitVec.ofNat 32 (leAt l 4 4)) ((l.drop 8).take size) :: ·)

/-- R514: an image whose MAGIC, FORMAT, zero bits, COUNT, LENGTH and CRC are right. -/
def parseImage (l : List Byte) : Option CfgImage :=
  let body := l.drop 32
  if leAt l 0 4 ≠ 0x43475253 ∨ leAt l 4 1 ≠ 1 ∨ 2 ≤ leAt l 5 1 ∨ leAt l 6 2 ≠ 0 ∨ leAt l 28 4 ≠ 0 ∨ l.length < 32 then none
  else if leAt l 16 4 = 0 ∨ 65536 < leAt l 16 4 ∨ leAt l 20 4 ≠ body.length ∨ leAt l 24 4 ≠ (crc32 (l.take 24 ++ body)).toNat then none
  else
    (parseRecords (leAt l 16 4) body).map (fun rs =>
      { cal := (leAt l 5 1).testBit 0
        deviceId := BitVec.ofNat 64 (leAt l 8 8)
        records := rs })

/-- R514: the header is in order, and the image is for this device. -/
def cfgImageOf (s : Dev) (l : List Byte) : Option CfgImage :=
  (parseImage l).bind (fun x => if x.deviceId = 0 ∨ x.deviceId = s.get64 GEN_DEVICE_ID_LO then some x else none)

/-- The copy that an image makes: of two records with one target the later stands. -/
def copyOf (l : List CfgRecord) : CfgCopy :=
  l.foldl (fun c r => match r with
    | .reg off v => { c with regs := c.regs.filter (fun p => p.1 != off) ++ [(off, v)] }
    | .obj x => copySet c x
    | .other _ _ => c) ⟨true, [], []⟩

def isCalRecord : CfgRecord → Bool
  | .obj (.calibration _) => true
  | _ => false

/-- R514: both copies are replaced, and the confirmed safety value is cleared. Calibration so accepted breaks the seal. -/
def cfgReplace (s : Dev) (l : List CfgRecord) : Dev :=
  let c := copyOf l
  let n := (l.filter isCalRecord).length
  let s := s.modGen (fun g => { g with
    cfg0 := c
    cfg1 := c })
  let s := (s.modBil (fun b => { b with pendingCfg := none })).unconfirm.safDrive
  if n = 0 then s
  else (((s.setSeal true).bump MTR_CAL_CNT n).holdTamper tpCalibration 0 true).holdTamper tpSeal 0 true

/-- R514: CFG_WRITE. -/
def cfgWrite (s : Dev) (l : LongSrc) (image : List Byte) : Dev :=
  let broken := s.flag GEN_LIFECYCLE_CAUSE_CONFIG
  let bad := match s.longCheck l with
    | some c => some c
    | none => if broken || (s.life == lfCommissioning && !s.siteLive) then none else some ST_BUSY_LIVE
  match bad with
  | some c => s.longRefuse l 0x0003 c
  | none =>
    let s := s.longAccept l 0x0003 false
    match s.cfgImageOf image with
    | none => s.longEnd l.src .failed ST_BAD_PARAM
    | some x =>
      let role := (s.assocOf .host).any (fun a => isInstaller a.role)
      match s.firstBadRecord broken x.cal role 0 x.records with
      | some (i, c) => (s.longPartial l.src 1 (leBytes 4 i) 0).longEnd l.src .failed c
      | none => (s.cfgReplace x.records).longEnd l.src .done ST_OK

/-! The service UART (R499) -/

/-- R499: the opcodes served over the UART. -/
def opcodeOnUart (o : Code) : Bool :=
  o ∈ ([0x0100, 0x0101, 0x0B03, 0x0B04, 0x0B05, 0x0B06, 0x0B07, 0x0B08, 0x1101] : List Code)

/-- R486, R499: a request over the UART, one descriptor and its input data, which its BUF_LEN must not exceed. -/
def uartRequest (s : Dev) (d : Desc) (input : List Byte) : Dev :=
  let src : Src := .uart d.tag
  if !d.clean || !opcodeKnown d.opcode then s.complete src ST_HIF_BAD_OPCODE
  else if !opcodeOnUart d.opcode || (s.flag GEN_LIFECYCLE_CAUSE_FW && !opcodeInFwBad d.opcode) then s.complete src ST_HIF_NOT_IN_CHANNEL
  else if 4096 < d.bufLen || input.length < d.bufLen || descShort { d with resLen := 4096 } then s.complete src ST_HIF_BAD_ADDR
  else s

/-- R499: a frame has come over the UART. One that holds no descriptor is discarded as one with a bad CRC is (log entry 46). A request that
is served runs as the command of its opcode. -/
def uartFrame (s : Dev) (frame : List Byte) : Dev :=
  match uartPayload frame with
  | none => s.bump HIF_UART_ERR
  | some p => if p.length < 64 then s.bump HIF_UART_ERR else s.uartRequest (parseDesc (p.take 64)) (p.drop 64)

end Dev

/-! The commands -/

/-- R487: REG_READ. -/
def execRegRead (src : Src) (offsets : List Word) (s : State) : Host.Outcome State Fault Refusal :=
  s.onHost src true true (fun d => d.regReads src offsets)

/-- R488: REG_WRITE. -/
def execRegWrite (src : Src) (pairs : List (Word × Word)) (s : State) : Host.Outcome State Fault Refusal :=
  s.onHost src false true (fun d => d.regWrites src pairs)

/-- R211: CTRL_RESPONSE_RECEIVED. -/
def execCtrlResponseReceived (f : RxFrame) (s : State) : Host.Outcome State Fault Refusal :=
  s.onRun (fun d => d.takeFrame f ftCtrl (fun i d => (d.ctrlResponse i f.data).resumeWrites))

/-- R211: CTRL_TIMEOUT. -/
def execCtrlTimeout (s : State) : Host.Outcome State Fault Refusal := s.onRun (fun d => d.ctrlTimeout.resumeWrites)

/-- R498: LONG_CANCEL. -/
def execLongCancel (src : Src) (tag : Word) (s : State) : Host.Outcome State Fault Refusal :=
  s.onHost src false true (fun d => d.longCancel src tag)

/-- R515: LONG_OPERATION_DONE. -/
def execLongOperationDone (src : Src) (items : List Word) (s : State) : Host.Outcome State Fault Refusal :=
  s.onLive (fun d => d.operationDone src items)

/-- R497: LONG_PARTIAL_READY. -/
def execLongPartialReady (src : Src) (units : Nat) (data : List Byte) (progress : Nat) (s : State) : Host.Outcome State Fault Refusal :=
  s.onLive (fun d => d.partialReady src units data progress)

/-- R515: TEST. -/
def execTest (l : LongSrc) (t : TestReq) (s : State) : Host.Outcome State Fault Refusal :=
  s.onHost l.src false true (fun d => d.testRequest l t)

/-- R515: TEST_WINDOW_OPEN. -/
def execTestWindowOpen (quiet generating : Bool) (s : State) : Host.Outcome State Fault Refusal :=
  s.onLive (fun d => d.testWindowOpen quiet generating)

/-- R515: TEST_EXPIRY. -/
def execTestExpiry (src : Src) (s : State) : Host.Outcome State Fault Refusal := s.onLive (fun d => d.testExpiry src)

/-- R514: CFG_WRITE. -/
def execCfgWrite (l : LongSrc) (image : List Byte) (s : State) : Host.Outcome State Fault Refusal :=
  s.onHost l.src false false (fun d => d.cfgWrite l image)

/-- R499: UART_FRAME_RECEIVED. -/
def execUartFrameReceived (frame : List Byte) (s : State) : Host.Outcome State Fault Refusal := s.onLive (fun d => d.uartFrame frame)

end Sys2Proof.Machine
end

