-- ==== Sys2Proof/Machine/NodeSide.lean ====
section
/-! DEFINITION. The nodes of the pistes as their obligations describe them (R198, R211, R213, R218, R220 to R222, R224, R225, R228, R265,
R341). A node is known by its node table entry. -/

namespace Sys2Proof.Machine

/-- R211: CTRL statuses. -/
def csOk : Nat := 0
def csBadAddr : Nat := 1
def csReadOnly : Nat := 2
def csBadValue : Nat := 3

/-- R220: |e| limits in 2^−16 ns: 0.5 ns, 4 ns, 100 ps. -/
def eFresh : Nat := 32768
def eStep : Nat := 262144
def eSlew : Nat := 6553

/-- The reset word of a node register that software writes (R228). -/
def nodeReset (addr : Nat) : Word :=
  if addr = 0x0005 then 1#32
  else if 0x0010 ≤ addr && addr < 0x0028 && addr % 4 = 3 then 1#32
  else if addr = 0x0040 then 1000#32
  else 0#32

/-- A node's register file lookup. -/
def nodeGet (l : List (Nat × Word)) (addr : Nat) : Word := ((l.find? (fun q => q.1 == addr)).map (·.2)).getD (nodeReset addr)

/-- Store a node register. -/
def nodePut (l : List (Nat × Word)) (addr : Nat) (w : Word) : List (Nat × Word) :=
  let l := l.filter (fun q => q.1 != addr)
  if w = nodeReset addr then l else (addr, w) :: l

/-- R228, R265, R341: whether a node of class `cls` has a register at an address below 0x0100. -/
def nodeHas (cls addr : Nat) : Bool :=
  addr ≤ 2 || (decide (4 ≤ addr) && addr ≤ 6) || (cls == 1 && decide (0x10 ≤ addr) && decide (addr < 0x28)) ||
    (decide (0x30 ≤ addr) && decide (addr < 0x42)) || (decide (0x50 ≤ addr) && decide (addr ≤ 0x52)) ||
    (cls == 3 && decide (0x60 ≤ addr) && decide (addr ≤ 0x62)) || (cls == 2 && addr == 0x70)

/-- R228: the bits software may write. -/
def nodeMask (addr : Nat) : Word :=
  if addr = 0x0005 then 3#32
  else if addr = 0x0006 then 0x3FFFFFF#32
  else if 0x0010 ≤ addr && addr < 0x0028 then
    (if addr % 4 = 2 then 0x3FFFFFFF#32 else if addr % 4 = 3 then 3#32 else 0x3FFFFFF#32)
  else if addr = 0x0040 then 0xFFFF#32
  else if addr = 0x0061 || addr = 0x0062 then 1#32
  else 0xFFFFFFFF#32

/-- R228: words that cannot be written. -/
def nodeReadOnly (addr : Nat) : Bool := addr ≤ 2 || (decide (0x50 ≤ addr) && decide (addr ≤ 0x52)) || addr == 0x60

/-- The command level at the end of the period a node's leg is running. -/
def NodeLeg.level (x : NodeLeg) : Bool :=
  x.gate == .edges && (if x.cmd.changes.length % 2 = 1 then !x.cmd.start else x.cmd.start)

namespace Node

def rd (n : Node) (addr : Nat) : Word := nodeGet n.regs addr

def wr (n : Node) (addr : Nat) (w : Word) : Node := { n with regs := nodePut n.regs addr w }

/-- Count one more in a saturating counter. -/
def count (n : Node) (addr : Nat) : Node :=
  let v := n.rd addr
  if v = 0xFFFFFFFF#32 then n else n.wr addr (v + 1)

def modLeg (n : Node) (j : Fin 6) (f : NodeLeg → NodeLeg) : Node := { n with legs := vupd n.legs j f }

/-- R228: LEG_CFG.ARMED. -/
def legArmed (n : Node) (j : Nat) : Bool := (n.rd (0x0013 + 4 * j)).getLsbD 1

/-- R101: a fault input that covers leg `j` is asserted. -/
def legHit (n : Node) (j : Fin 6) : Bool := (n.legs[j].fltMask &&& n.fltIn) != 0#6

/-- R220: the node's time becomes stale; STATUS changes. -/
def goStale (n : Node) : Node :=
  { n with
    stale := true
    stepped := false
    lastSync := none
    teleDue := n.teleDue || !n.stale }

/-- R228: a write to NODE_CMD. -/
def command (n : Node) (w : Word) : Node :=
  let n := (idx 6).foldl (fun (n : Node) (j : Fin 6) =>
    if w.getLsbD j && !n.legHit j then
      n.modLeg j (fun x =>
        { x with
          fault := false
          stale := false
          gate := .off
          gates := .idle })
    else n) n
  if w.getLsbD 8 then (n.wr 0x0050 0).wr 0x0051 0 else n

/-- R221, R228: a write to LEG_CFG. With ARMED = 1 the leg waits for its first usable frame; with ARMED = 0 its gates go off at its next
boundary. -/
def writeLegCfg (n : Node) (j : Fin 6) (w : Word) : Node :=
  (n.wr (0x0013 + 4 * j.val) (w &&& 3#32)).modLeg j (fun x =>
    { x with
      seen := false
      prev := false
      frames := [] })

/-- R228, R265, R341: one word written. -/
def write (n : Node) (dt addr : Nat) (w : Word) : Node :=
  if addr = 0x0004 then n.command w
  else if 0x0010 ≤ addr && addr < 0x0028 && addr % 4 = 3 then n.writeLegCfg (Fin.ofNat 6 ((addr - 0x0010) / 4)) w
  else if 0x0030 ≤ addr && addr < 0x0040 then
    { n.wr addr w with
      spDt := dt
      safe := false }
  else if addr = 0x0062 then n.wr addr ((n.rd addr &&& 2#32) ||| (w &&& 1#32))
  else if addr = 0x0061 then { n.wr addr (w &&& 1#32) with safe := n.safe && !w.getLsbD 0 }
  else if addr = 0x0070 then (if w.getLsbD 0 then n.wr addr 0x100#32 else n)
  else n.wr addr (w &&& nodeMask addr)

end Node

namespace Dev

def nodeClass (s : Dev) (i : Nat) : Nat := s.get (PST_NODE_INFO_CLASS i)

/-- R228: what a register of node `i` reads as. A maker's register reads as a free value. -/
def nodeRead (s : Dev) (i : Fin 128) (addr k : Nat) : Word :=
  let n := s.pst.nodes[i]
  if addr = 0 then s.rd (PST_NODE_ID_LO i)
  else if addr = 1 then s.rd (PST_NODE_ID_HI i)
  else if addr = 2 then BitVec.ofNat 32 (s.get (PST_NODE_MAKER_MAKER i) * 2 ^ 16 + 0x100 + s.nodeClass i)
  else if addr = 4 then 0#32
  else if 0x0010 ≤ addr && addr < 0x0028 && addr % 4 = 3 then
    let j : Fin 6 := Fin.ofNat 6 ((addr - 0x0010) / 4)
    (n.rd addr &&& 3#32) ||| BitVec.ofNat 32 (n.legs[j].fltMask.toNat * 4)
  else if 0x0100 ≤ addr then Config.freeWord (s.free + k)
  else n.rd addr

/-- R211: the status of a request at node `i`. -/
def ctrlStatus (s : Dev) (i : Fin 128) (f : CtrlFrame) : Nat :=
  let cls := s.nodeClass i
  let as := (List.range f.count).map (f.addr + ·)
  if as.any (fun a => decide (0x8000 ≤ a) || (decide (a < 0x100) && !nodeHas cls a)) then csBadAddr
  else if f.write && as.any (fun a => decide (a < 0x100) && nodeReadOnly a) then csReadOnly
  else if f.write && (as.zip f.words).any (fun q => q.1 == 0x0005 && q.2 &&& 3#32 == 3#32) then csBadValue
  else csOk

/-- R211: node `i` executes a CTRL request; the STATUS and the words of its response. -/
def nodeAnswer (s : Dev) (i : Fin 128) (f : CtrlFrame) : Dev × (Nat × List Word) :=
  let st := s.ctrlStatus i f
  if st != csOk then (s, (st, []))
  else if f.write then
    let ws := ((List.range f.count).map (f.addr + ·)).zip f.words
    (s.modNode i (fun n => ws.foldl (fun n q => if q.1 < 0x100 then n.write s.dt q.1 q.2 else n) n), (csOk, []))
  else
    let r := (List.range f.count).map (fun k => s.nodeRead i (f.addr + k) k)
    (s.putFree (s.free + f.count), (csOk, r))

/-! Frames to a node (R198 to R201, R203, R212) -/

/-- R175: how long a block lasts, in 2^−16 ns. -/
def blockFx : Int := 337920

/-- R200: whether a frame to a node of a TYPE may have a LEN. -/
def nodeLenOk (type len : Nat) : Bool :=
  if type = ftEdge then len == 8
  else if type = ftSync then len == 3
  else if type = ftCensus then len == 0
  else if type = ftCtrl then decide (1 ≤ len) && decide (len ≤ 31)
  else if type = ftTun then decide (2 ≤ len) && decide (len ≤ 31)
  else false

/-- R199, R205: an EDGE frame at its stage node; `eof` is when its EOF arrived, on the node's own time. -/
def nodeEdge (n : Node) (eof : Int) (f : EdgeFrame) : Node :=
  f.members.foldl (fun (n : Node) q => n.modLeg q.1 (fun x => { x with frames := ((f.btag, eof, q.2) :: x.frames).take 4 })) n

/-- R201: the SEQ of a node's next frame of a TYPE. -/
def nodeSeq (n : Node) (type : Fin 8) : Nat × Node := (n.seqs[type], { n with seqs := vupd n.seqs type (fun k => (k + 1) % 65536) })

/-- A frame of a node waits for a run of the node's. -/
def nodeQueue (n : Node) (type : Fin 8) (sub : Nat) (d : List Byte) : Node :=
  let q := nodeSeq n type
  { q.2 with outbox := q.2.outbox ++ [⟨type.val, q.1, sub, d⟩] }

/-- R198, R200, R201: what node `i` does with one frame of its run, and whether it has been asked for a CENSUS reply. `own` is when the run
arrived, on the node's own time. -/
def nodeFrame (i : Fin 128) (odd : Bool) (own : Int) (acc : Dev × Bool) (q : WireFrame × Nat) : Dev × Bool :=
  let s := acc.1
  let f := q.1
  let n := s.pst.nodes[i]
  if !f.ok f.type.toNat (nodeLenOk f.type.toNat) then (s.modNode i (fun n => n.count 0x0050), acc.2)
  else if n.heard.any (fun h => h.1 == f.type && h.2.1 == f.seq && decide (s.dt ≤ h.2.2 + ms 10)) then acc
  else
    let s := s.modNode i (fun n => { n with heard := (f.type, f.seq, s.dt) :: n.heard.filter (fun h => decide (s.dt ≤ h.2.2 + ms 10)) })
    let type := f.type.toNat
    if type = ftEdge then
      (if s.nodeClass i == 1 then (s.modNode i (fun n => nodeEdge n (own + blockFx * (q.2 : Int)) (edgeOf f.data)), acc.2) else (s, acc.2))
    else if type = ftSync then (s.modPort i odd (fun x => { x with sync := some (syncOf f.data) }), acc.2)
    else if type = ftCensus then (s, true)
    else if type = ftTun then
      (if s.nodeClass i = 3 && (n.rd 0x0061).getLsbD 0 then
        let j := tunJoin n.tunIn f.data
        let s := s.modNode i (fun n => { n with tunIn := j.1 })
        (match j.2 with
         | some d => s.emit (.vehicle i (d ++ leBytes 4 (crc32 d).toNat))
         | none => s, acc.2)
       else (s, acc.2))
    else
      match ctrlOf f.data with
      | none => (s, acc.2)
      | some c =>
        let r := s.nodeAnswer i c
        (r.1.modNode i (fun n => nodeQueue n 4 0 (responseBytes c r.2.1 r.2.2)), acc.2)

/-! Frames from a node (R206, R208, R210, R212) -/

/-- R206: the STATUS of a TELE frame. -/
def teleStatus (n : Node) : Nat :=
  let bits := fun (use : NodeLeg → Bool) => ((idx 6).filter (fun (j : Fin 6) => use n.legs[j])).foldl (fun a (j : Fin 6) => a + 2 ^ j.val) 0
  bits (·.fault) + 64 * ((idx 6).any (fun (j : Fin 6) => n.legs[j].stale)).toNat + 128 * n.stale.toNat + 256 * n.edgeMiss.toNat +
    512 * (n.fltIn != 0#6).toNat

/-- R206: the latest sample instant of a node at its own time `t`, in ns. A stage node samples TELE_OFS after each boundary of leg 0, and at every
ms where that leg has no PERIOD up to 1 ms (log entry 34). -/
def sampleInstant (cls : Nat) (n : Node) (t : Int) : Int :=
  if cls = 1 then
    let p : Int := bitsOf (n.rd 0x0010) 25 0
    let c : Int := bitsOf (n.rd 0x0011) 25 0 + bitsOf (n.rd 0x0006) 25 0
    if p = 0 || 4000000 < p then t / 1000000 * 1000000 else ((4 * t - c) / p * p + c) / 4
  else
    let rate := bitsOf (n.rd 0x0005) 1 0
    let q : Int := if rate = 0 then 100000000 else if rate = 1 then 10000000 else 1000000
    t / q * q

/-- R206: the data of one half of a TELE frame. -/
def teleBytes (n : Node) (at_ : Int) (half : Nat) (channels : List Word) : List Byte :=
  leBytes 8 at_.toNat ++ (List.range 8).flatMap (fun k => leBytes 4 ((channels[8 * half + k]?).getD 0x7FC00000#32).toNat) ++
    leBytes 2 (teleStatus n) ++ leBytes 6 0

/-- R206: TELE of the last sample instant, both halves, when it has not been sent, or when STATUS has changed. -/
def nodeTele (cls : Nat) (n : Node) (t : Int) (x : NodeIn) : Node :=
  let at_ := sampleInstant cls n t
  if n.teleAt == some at_ && !n.teleDue then n
  else
    let n := { n with outbox := n.outbox.filter (fun f => f.type != ftTele) }
    let m := nodeQueue (nodeQueue n 2 0 (teleBytes n at_ 0 x.channels)) 2 1 (teleBytes n at_ 1 x.channels)
    { m with
      teleAt := some at_
      teleDue := false
      edgeMiss := false }

/-- R208: a 24-bit code. -/
def bytes24 (v : Int) : List Byte := leBytes 3 (v % 2 ^ 24).toNat

/-- R208, R341: MEAS of the last eight samples of a head. -/
def nodeMeas (n : Node) (t : Int) (x : NodeIn) : Node :=
  let at_ := (t - 218750) / 250000 * 250000
  if n.measAt == some at_ then n
  else
    let self := bitsOf (n.rd 0x0070) 9 8
    let status := n.stale.toNat + 2 * x.vOver.toNat + 4 * x.cOver.toNat + 8 * (self == 1 || self == 3).toNat
    let d := leBytes 8 at_.toNat ++ (List.range 8).flatMap (fun k =>
        let c := (x.codes[k]?).getD (0, 0)
        bytes24 c.1 ++ bytes24 c.2) ++ leBytes 2 status ++ leBytes 6 0
    { nodeQueue { n with outbox := n.outbox.filter (fun f => f.type != ftMeas) } 3 0 d with measAt := some at_ }

/-- R210: the CENSUS reply of node `i` on a member. -/
def replyBytes (s : Dev) (i : Fin 128) (odd : Bool) : List Byte :=
  let n := s.pst.nodes[i]
  let x := s.port i odd
  let flags := n.stale.toNat + 2 * ((idx 6).any (fun (j : Fin 6) => n.legs[j].stale)).toNat + 4 * x.echoOk.toNat + 8 * (n.fltIn != 0#6).toNat +
    16 * odd.toNat
  leBytes 8 (s.nodeId i).toNat ++ leBytes 1 (s.nodeClass i) ++ leBytes 1 1 ++ leBytes 1 x.hop ++ leBytes 1 flags ++ leBytes 4 x.resid ++
    leBytes 4 (if x.echoOk then x.linkDn else 0) ++ leBytes 2 (s.get (PST_NODE_MAKER_MAKER i)) ++ leBytes 2 (s.get (PST_NODE_MAKER_FW i)) ++
    leBytes 1 x.origin ++ leBytes 7 0

/-- R212: the Ethernet frames of the vehicle, in segments. -/
def nodeTun (n : Node) (x : NodeIn) : Node :=
  (x.ether.filter (fun d => !d.isEmpty && decide (d.length ≤ 1518))).foldl (fun (n : Node) d =>
    (tunSegments n.tunId d).foldl (fun (n : Node) part => nodeQueue n 7 0 part) { n with tunId := (n.tunId + 1) % 65536 }) n

/-- R341: a head's self-test has ended. -/
def nodeSelf (n : Node) (x : NodeIn) : Node :=
  match x.selfTest with
  | some ok => if n.rd 0x0070 = 0x100#32 then n.wr 0x0070 (if ok then 0x200#32 else 0x300#32) else n
  | none => n

/-- R265: a front-end's vehicle link and contactor as they stand. -/
def nodeLink (n : Node) (x : NodeIn) : Node :=
  (n.wr 0x0060 (x.vlink.zeroExtend 32)).wr 0x0062 ((n.rd 0x0062 &&& 1#32) ||| (if x.feedback then 2#32 else 0#32))

/-- R198, R206, R208, R212, R265: what a node has to say at its own time `t` (ns) joins the frames that wait. -/
def nodeSpeak (s : Dev) (i : Fin 128) (t : Int) (x : NodeIn) : Dev :=
  let cls := s.nodeClass i
  s.modNode i (fun n =>
    let n := nodeTele cls n t x
    let n := if cls = 2 then nodeMeas n t x else n
    if cls = 3 && (n.rd 0x0061).getLsbD 0 then nodeTun n x else n)

/-- R198, R224: a run with its own hop and RET = 0 comes to node `i`: it takes the frames, and returns the run with its own, its CENSUS reply first. -/
def nodeOwns (s : Dev) (i : Fin 128) (odd : Bool) (arrival : Int) (orphan : Bool) (hop n : Nat) (run : List Block) (x : NodeIn) : Dev :=
  let own := arrival + s.pst.nodes[i].offset
  let r := (framesIn run).foldl (nodeFrame i odd own) (s.modNode i (fun n => if s.nodeClass i = 3 then nodeLink n x else nodeSelf n x), false)
  let s := r.1.nodeSpeak i (own / 65536) x
  let s := if r.2 || orphan then
      s.modNode i (fun n =>
        let q := nodeSeq n 6
        { q.2 with outbox := ⟨ftCensus, q.1, 0, s.replyBytes i odd⟩ :: q.2.outbox })
    else s
  let q := takeFit n s.pst.nodes[i].outbox
  let s := s.modNode i (fun n =>
    { n with
      lastRun := s.dt
      outbox := q.2 })
  let f := s.fresh
  f.2.emit (.nodeRun i odd hop n q.1 (scramble (Config.scrambler f.1) (runBlocks hop n true q.1)))

/-- R198, R177, R213: blocks pass node `i` on a member; a MARK among them goes on with its HOPCNT increased. -/
def nodePass (s : Dev) (i : Fin 128) (odd : Bool) (l : List Block) : Dev :=
  let f := s.fresh
  f.2.emit (.nodeForward i odd (scramble (Config.scrambler f.1) (l.map forwardBlock)))

/-- R198, R224: blocks come to node `i` on a member, a run's OWN first; `arrival` is when, on the node's counter (2^−16 ns), and `orphan` says that
they lie among LOS_IDLE. A node takes a run with RET = 0 and its own hop, and forwards every other. -/
def nodeRun (s : Dev) (i : Fin 128) (odd : Bool) (arrival : Int) (orphan : Bool) (before : BitVec 58) (line : List Block) (x : NodeIn) : Dev :=
  let l := descramble before line
  match l with
  | [] => s
  | b :: rest =>
    match ownOf b with
    | some (hop, n, ret) =>
      if ret || hop = 0 || hop != (s.port i odd).hop then s.nodePass i odd l
      else s.nodeOwns i odd arrival orphan hop n (b :: takeRun n rest) x
    | none => s.nodePass i odd l

/-! MARK and SYNC (R213, R218, R220) -/

/-- R213, R218: node `i` takes its hop from a MARK, forwards it and records its arrival; RESID is the departure less the arrival. -/
def nodeMark (s : Dev) (i : Fin 128) (odd : Bool) (m : Mark) (arrival departure : Int) : Dev :=
  ((s.nodeAligned i odd).modPort i odd (fun x =>
    { x with
      hop := m.hopcnt + 1
      census := m.census
      origin := m.piste
      arrival := arrival
      resid := (departure - arrival).toNat })).emit (.markOn i odd (markBlock (m.hopcnt + 1) m.census m.twin m.piste))

/-- R220, R225: node `i` applies the SYNC that its last census run on a member brought: e is the time of the MARK's arrival less the node's own. -/
def nodeSync (s : Dev) (i : Fin 128) (odd : Bool) : Dev :=
  let n := s.pst.nodes[i]
  let x := s.port i odd
  match x.sync with
  | none => s
  | some f =>
    let s := s.modPort i odd (fun x => { x with sync := none })
    let valid := f.valid && f.census == x.census
    let s := s.modNode i (fun n => if odd then n else { n with evenValid := valid })
    if !valid || (odd && n.evenValid) then s
    else
      let e : Int := ((f.markDt * 65536 + f.markFrac + f.pathDelay : Nat) : Int) - (x.arrival + n.offset)
      let step := n.stale || decide (eStep < e.natAbs) || (odd != n.onOdd && decide (65536 < e.natAbs))
      let fresh := n.stale && n.stepped && decide (e.natAbs ≤ eFresh)
      let adj := if step then e else max (-(eSlew : Int)) (min (eSlew : Int) e)
      s.modNode i (fun n =>
        { n.wr 0x0052 (BitVec.ofInt 32 e) with
          stale := if n.stale then !fresh else step
          stepped := step
          offset := n.offset + adj
          lastSync := some s.dt
          interval := f.interval
          onOdd := odd
          teleDue := n.teleDue || (n.stale != (if n.stale then !fresh else step)) })

/-- R220: no valid SYNC for more than 3 × INTERVAL. -/
def nodeTimeStale (s : Dev) (i : Fin 128) : Dev :=
  let n := s.pst.nodes[i]
  let s := match n.lastSync with
    | some t => s.reach (t + ms (3 * n.interval) + 1)
    | none => s
  s.modNode i Node.goStale

/-- The leg registers of a node as numbers (R228). -/
def nodeNat (n : Node) (addr hi lo : Nat) : Nat := bitsOf (n.rd addr) hi lo

/-- The next boundary of a node's leg, an edge time: the one after the last, or the first from now on where none has passed yet or the last
lies elsewhere (log entry 25). -/
def nodeNext (n : Node) (j : Fin 6) (now : Nat) : Nat :=
  let p := nodeNat n (0x0010 + 4 * j.val) 25 0
  let from_ := boundaryFrom p (nodeNat n (0x0011 + 4 * j.val) 25 0)
  match n.legs[j].bdry with
  | none => from_ (4 * now)
  | some b =>
    let c := from_ (b + 1)
    if c ≤ 4 * now + p && 4 * now ≤ c + p then c else from_ (4 * now)

/-- R205, R87: a node's leg runs a command from boundary `b`, its gates derived with the node's own dead times and COMP_EN. -/
def nodeLegRun (n : Node) (j : Fin 6) (b : Nat) (c : LegCmd) (x : NodeLeg) : NodeLeg :=
  let level := x.level
  let nb := b + nodeNat n (0x0010 + 4 * j.val) 25 0
  let d := 0x0012 + 4 * j.val
  let changes := (if c.start == level then [] else [b]) ++ c.changes.map (b + ·)
  { x with
    prev := true
    cmd := c
    gate := if c.driven then .edges else .off
    gates := if c.driven then x.gates.through (nodeNat n d 13 0) (nodeNat n d 29 16) ((n.rd (0x0013 + 4 * j.val)).getLsbD 0) nb (toggles level changes)
      else x.gates.allOff b }

/-- R221, R203: the watchdog at the next boundary of leg `j`. A frame is in time when its EOF came 50 ns before the boundary. -/
def nodeBoundary (s : Dev) (i : Fin 128) (j : Fin 6) : Dev :=
  let n := s.pst.nodes[i]
  if s.nodeClass i != 1 || nodeNat n (0x0010 + 4 * j.val) 25 0 = 0 then s
  else
  let b := nodeNext n j s.dt
  let s := (s.reach ((b + 3) / 4)).modNode i (fun n => n.modLeg j (fun x => { x with bdry := some b }))
  let x := n.legs[j]
  let tag := btagOf b (nodeNat n (0x0010 + 4 * j.val) 25 0)
  let f := (x.frames.find? (fun q => q.1 == tag && decide (q.2.1 + 50 * 65536 ≤ 16384 * (b : Int)))).map (·.2.2)
  let s := s.modNode i (fun n => n.modLeg j (fun x => { x with frames := x.frames.filter (fun q => q.1 != tag) }))
  let tri := fun (n : Node) =>
    { (n.modLeg j (fun x =>
        { x with
          stale := true
          gate := .floating
          gates := .idle })) with teleDue := true }
  let off := fun (n : Node) => n.modLeg j (fun x =>
    { x with
      gate := .off
      gates := x.gates.allOff b })
  if x.fault || x.stale then s
  else if !n.legArmed j then s.modNode i off
  else
    match f with
    | none =>
      if x.seen && x.prev then
        s.modNode i (fun n =>
          { (n.count 0x0051).modLeg j (fun x =>
              { nodeLegRun n j b { x.cmd with start := x.level } x with prev := false }) with
            edgeMiss := true
            teleDue := n.teleDue || !n.edgeMiss })
      else if x.seen then s.modNode i (fun n => tri (n.count 0x0051))
      else if n.stale then s.modNode i tri
      else s.modNode i off
    | some c =>
      if n.stale then s.modNode i tri
      else
        s.modNode i (fun n => n.modLeg j (fun x => { nodeLegRun n j b c x with seen := true }))

/-- R101: fault input `k` of a stage node: the legs it covers are tri-stated and latched. -/
def nodeFault (s : Dev) (i : Fin 128) (k : Fin 6) (active : Bool) : Dev :=
  if s.nodeClass i != 1 then s
  else
    s.modNode i (fun n =>
      let bit : BitVec 6 := BitVec.ofNat 6 (2 ^ k.val)
      let n := { n with fltIn := if active then n.fltIn ||| bit else n.fltIn &&& ~~~bit, teleDue := true }
      (idx 6).foldl (fun (n : Node) (j : Fin 6) =>
        if n.legHit j then
          n.modLeg j (fun x =>
            { x with
              fault := true
              gate := .floating
              gates := .idle })
        else n) n)

/-- R222, R265: node `i` has owned no run for 100 ms. -/
def nodeNoRun (s : Dev) (i : Fin 128) : Dev :=
  let c := s.nodeClass i
  let s := s.reach (s.pst.nodes[i].lastRun + ms 100)
  if c = 3 then s.modNode i (fun n =>
    { ((n.wr 0x0062 (n.rd 0x0062 &&& 2#32)).wr 0x0061 0) with safe := true })
  else if c = 5 || c = 6 || c = 0x7F then s.modNode i (fun n => { n with safe := true })
  else s

/-- R222: no SETPOINT write has reached a cooling unit for FAIL_HOLD ms: it runs at FAIL_SP. -/
def nodeFailHold (s : Dev) (i : Fin 128) : Dev :=
  if s.nodeClass i = 4 then
    let n := s.pst.nodes[i]
    (s.reach (n.spDt + ms (n.rd 0x0040).toNat)).modNode i (fun n => { n with safe := true })
  else s

end Dev

/-! The commands -/

/-- R213: NODE_MARK_FORWARD. -/
def effNodeMarkForward (i : Fin 128) (odd : Bool) (m : Mark) (arrival departure : Int) (s : Dev) : Dev := s.nodeMark i odd m arrival departure

def execNodeMarkForward (i : Fin 128) (odd : Bool) (m : Mark) (arrival departure : Int) (s : State) : Host.Outcome State Fault Refusal :=
  s.onDev (effNodeMarkForward i odd m arrival departure)

/-- R198: NODE_RUN_OWN. -/
def effNodeRunOwn (i : Fin 128) (odd : Bool) (arrival : Int) (orphan : Bool) (before : BitVec 58) (line : List Block) (x : NodeIn) (s : Dev) : Dev :=
  s.nodeRun i odd arrival orphan before line x

def execNodeRunOwn (i : Fin 128) (odd : Bool) (arrival : Int) (orphan : Bool) (before : BitVec 58) (line : List Block) (x : NodeIn) (s : State) :
    Host.Outcome State Fault Refusal := s.onDev (effNodeRunOwn i odd arrival orphan before line x)

/-- R220: NODE_SYNC_APPLY. -/
def effNodeSyncApply (i : Fin 128) (odd : Bool) (s : Dev) : Dev := s.nodeSync i odd

def execNodeSyncApply (i : Fin 128) (odd : Bool) (s : State) : Host.Outcome State Fault Refusal := s.onDev (effNodeSyncApply i odd)

/-- R220: NODE_TIME_STALE. -/
def effNodeTimeStale (i : Fin 128) (s : Dev) : Dev := s.nodeTimeStale i

def execNodeTimeStale (i : Fin 128) (s : State) : Host.Outcome State Fault Refusal := s.onDev (effNodeTimeStale i)

/-- R221: NODE_LEG_BOUNDARY. -/
def effNodeLegBoundary (i : Fin 128) (j : Fin 6) (s : Dev) : Dev := s.nodeBoundary i j

def execNodeLegBoundary (i : Fin 128) (j : Fin 6) (s : State) : Host.Outcome State Fault Refusal :=
  s.onDev (effNodeLegBoundary i j)

/-- R101: NODE_FAULT_INPUT. -/
def effNodeFaultInput (i : Fin 128) (k : Fin 6) (active : Bool) (s : Dev) : Dev := s.nodeFault i k active

def execNodeFaultInput (i : Fin 128) (k : Fin 6) (active : Bool) (s : State) : Host.Outcome State Fault Refusal :=
  s.onDev (effNodeFaultInput i k active)

/-- R177: NODE_RX_ALIGN_LOSS. -/
def effNodeRxAlignLoss (i : Fin 128) (odd signal : Bool) (s : Dev) : Dev := s.nodeUnaligned i odd signal

def execNodeRxAlignLoss (i : Fin 128) (odd signal : Bool) (s : State) : Host.Outcome State Fault Refusal :=
  s.onDev (effNodeRxAlignLoss i odd signal)

/-- R222: NODE_NO_RUN_TIMEOUT. -/
def effNodeNoRunTimeout (i : Fin 128) (s : Dev) : Dev := s.nodeNoRun i

def execNodeNoRunTimeout (i : Fin 128) (s : State) : Host.Outcome State Fault Refusal := s.onDev (effNodeNoRunTimeout i)

/-- R222: FAIL_HOLD_EXPIRY. -/
def effFailHoldExpiry (i : Fin 128) (s : Dev) : Dev := s.nodeFailHold i

def execFailHoldExpiry (i : Fin 128) (s : State) : Host.Outcome State Fault Refusal := s.onDev (effFailHoldExpiry i)

end Sys2Proof.Machine
end

