-- ==== Sys2Proof/Machine/Dispatch.lean ====
section
/-! DEFINITION. Which meaning each command has: one arm per constructor of Instr. -/

namespace Sys2Proof.Machine

def exec (i : Instr) (s : State) : Host.Outcome State Fault Refusal :=
  match i with
  | .registerWrite offset value => Sys2Proof.Machine.execRegisterWrite offset value s
  | .reg64LowRead offset => Sys2Proof.Machine.execReg64LowRead offset s
  | .reg64LowWrite offset value => Sys2Proof.Machine.execReg64LowWrite offset value s
  | .reg64HighWrite offset value => Sys2Proof.Machine.execReg64HighWrite offset value s
  | .clearOnReadRead bar offset => Sys2Proof.Machine.execClearOnReadRead bar offset s
  | .powerOnReset facts => Sys2Proof.Machine.execPowerOnReset facts s
  | .resetRelease facts => Sys2Proof.Machine.execResetRelease facts s
  | .pcieEarlyRequest configuration => Sys2Proof.Machine.execPcieEarlyRequest configuration s
  | .rootPllLockLoss => Sys2Proof.Machine.execRootPllLockLoss s
  | .dieLinkFail => Sys2Proof.Machine.execDieLinkFail s
  | .sramEccError double region op => Sys2Proof.Machine.execSramEccError double region op s
  | .watchdogExpiry => Sys2Proof.Machine.execWatchdogExpiry s
  | .rtcRateCheck ppb => Sys2Proof.Machine.execRtcRateCheck ppb s
  | .resetPinAssert => Sys2Proof.Machine.execResetPinAssert s
  | .resetPinRelease => Sys2Proof.Machine.execResetPinRelease s
  | .resetPinStuck facts => Sys2Proof.Machine.execResetPinStuck facts s
  | .resetPinArm => Sys2Proof.Machine.execResetPinArm s
  | .resetPinIgnored => Sys2Proof.Machine.execResetPinIgnored s
  | .hostReset value => Sys2Proof.Machine.execHostReset value s
  | .shReqWrite request => Sys2Proof.Machine.execShReqWrite request s
  | .factoryClose testsPassed cert => Sys2Proof.Machine.execFactoryClose testsPassed cert s
  | .lifecycle src target => Sys2Proof.Machine.execLifecycle src target s
  | .allocationTick => Sys2Proof.Machine.execAllocationTick s
  | .grantSolveComplete solveUs solverFault => Sys2Proof.Machine.execGrantSolveComplete solveUs solverFault s
  | .alcRunWrite run => Sys2Proof.Machine.execAlcRunWrite run s
  | .alcHostTrip withClear => Sys2Proof.Machine.execAlcHostTrip withClear s
  | .alcTripClear => Sys2Proof.Machine.execAlcTripClear s
  | .tripClear src => Sys2Proof.Machine.execTripClear src s
  | .gridPointRecount g => Sys2Proof.Machine.execGridPointRecount g s
  | .legArm leg pins => Sys2Proof.Machine.execLegArm leg pins s
  | .legDisarm leg => Sys2Proof.Machine.execLegDisarm leg s
  | .legForceWrite leg force => Sys2Proof.Machine.execLegForceWrite leg force s
  | .legCutoff leg => Sys2Proof.Machine.execLegCutoff leg s
  | .fltInputAssert k => Sys2Proof.Machine.execFltInputAssert k s
  | .slotSample m pinA pinB => Sys2Proof.Machine.execSlotSample m pinA pinB s
  | .slotExecutionComplete m => Sys2Proof.Machine.execSlotExecutionComplete m s
  | .slotDeadlineMiss m => Sys2Proof.Machine.execSlotDeadlineMiss m s
  | .slotOpen m => Sys2Proof.Machine.execSlotOpen m s
  | .slotClose m => Sys2Proof.Machine.execSlotClose m s
  | .slotFaultClear m => Sys2Proof.Machine.execSlotFaultClear m s
  | .cableObserverStep pin0 pin1 pin2 pin3 => Sys2Proof.Machine.execCableObserverStep pin0 pin1 pin2 pin3 s
  | .cableFlowTrip n => Sys2Proof.Machine.execCableFlowTrip n s
  | .cableTripClear n => Sys2Proof.Machine.execCableTripClear n s
  | .cableLimitPublish n => Sys2Proof.Machine.execCableLimitPublish n s
  | .sensorSample n ohm => Sys2Proof.Machine.execSensorSample n ohm s
  | .bandFall n => Sys2Proof.Machine.execBandFall n s
  | .dieTempSample t0 t1 t2 => Sys2Proof.Machine.execDieTempSample t0 t1 t2 s
  | .dieOvertempRelease => Sys2Proof.Machine.execDieOvertempRelease s
  | .cableEnable n => Sys2Proof.Machine.execCableEnable n s
  | .identify l outlet iId stepTime => Sys2Proof.Machine.execIdentify l outlet iId stepTime s
  | .identifyPhaseEnd n => Sys2Proof.Machine.execIdentifyPhaseEnd n s
  | .pisteEnable p => Sys2Proof.Machine.execPisteEnable p s
  | .pisteDisable p => Sys2Proof.Machine.execPisteDisable p s
  | .pisteRestart p => Sys2Proof.Machine.execPisteRestart p s
  | .rxLock rx => Sys2Proof.Machine.execRxLock rx s
  | .rxLockLoss p => Sys2Proof.Machine.execRxLockLoss p s
  | .rxInversionDetected rx => Sys2Proof.Machine.execRxInversionDetected rx s
  | .pisteTrainDone p origin partnerOrigin => Sys2Proof.Machine.execPisteTrainDone p origin partnerOrigin s
  | .pisteTrainTimeout p origin => Sys2Proof.Machine.execPisteTrainTimeout p origin s
  | .pisteAdaptDone p eye amp => Sys2Proof.Machine.execPisteAdaptDone p eye amp s
  | .pisteVerifyDone p clean => Sys2Proof.Machine.execPisteVerifyDone p clean s
  | .pisteRelockTimeout p => Sys2Proof.Machine.execPisteRelockTimeout p s
  | .pisteFailedRetry p => Sys2Proof.Machine.execPisteFailedRetry p s
  | .ctleSweepStep p eye amp => Sys2Proof.Machine.execCtleSweepStep p eye amp s
  | .eqTrial p eyeUp ampUp eyeDn ampDn => Sys2Proof.Machine.execEqTrial p eyeUp ampUp eyeDn ampDn s
  | .dfeLmsStep p err past => Sys2Proof.Machine.execDfeLmsStep p err past s
  | .fomUpdate p eye amp invalid prbs signal => Sys2Proof.Machine.execFomUpdate p eye amp invalid prbs signal s
  | .echoComplete p window => Sys2Proof.Machine.execEchoComplete p window s
  | .censusMark seen unclaimed => Sys2Proof.Machine.execCensusMark seen unclaimed s
  | .markReturn p n latency => Sys2Proof.Machine.execMarkReturn p n latency s
  | .censusReplyReceived f => Sys2Proof.Machine.execCensusReplyReceived f s
  | .pstAdmitAccept entry => Sys2Proof.Machine.execPstAdmitAccept entry s
  | .pstAdmitForget entry => Sys2Proof.Machine.execPstAdmitForget entry s
  | .teleFrameReceived f => Sys2Proof.Machine.execTeleFrameReceived f s
  | .measFrameReceived f => Sys2Proof.Machine.execMeasFrameReceived f s
  | .tunFrameReceived f => Sys2Proof.Machine.execTunFrameReceived f s
  | .nodeCtrl src x => Sys2Proof.Machine.execNodeCtrl src x s
  | .ctrlResponseReceived f => Sys2Proof.Machine.execCtrlResponseReceived f s
  | .ctrlRetry => Sys2Proof.Machine.execCtrlRetry s
  | .ctrlTimeout => Sys2Proof.Machine.execCtrlTimeout s
  | .nodeMarkForward n odd mark arrival departure => Sys2Proof.Machine.execNodeMarkForward n odd mark arrival departure s
  | .nodeRunOwn n odd arrival orphan before line x => Sys2Proof.Machine.execNodeRunOwn n odd arrival orphan before line x s
  | .nodeSyncApply n odd => Sys2Proof.Machine.execNodeSyncApply n odd s
  | .nodeTimeStale n => Sys2Proof.Machine.execNodeTimeStale n s
  | .nodeLegBoundary n j => Sys2Proof.Machine.execNodeLegBoundary n j s
  | .nodeFaultInput n k active => Sys2Proof.Machine.execNodeFaultInput n k active s
  | .nodeRxAlignLoss n odd signal => Sys2Proof.Machine.execNodeRxAlignLoss n odd signal s
  | .nodeNoRunTimeout n => Sys2Proof.Machine.execNodeNoRunTimeout n s
  | .superframeStart => Sys2Proof.Machine.execSuperframeStart s
  | .slnPollSend respMax => Sys2Proof.Machine.execSlnPollSend respMax s
  | .slnReplyReceived n x => Sys2Proof.Machine.execSlnReplyReceived n x s
  | .slnReplyTimeout n => Sys2Proof.Machine.execSlnReplyTimeout n s
  | .slnRelayForward n f => Sys2Proof.Machine.execSlnRelayForward n f s
  | .slnJoinReq r => Sys2Proof.Machine.execSlnJoinReq r s
  | .slnAdmitAccept n => Sys2Proof.Machine.execSlnAdmitAccept n s
  | .slnAdmitForget n => Sys2Proof.Machine.execSlnAdmitForget n s
  | .slnRouteRecompute => Sys2Proof.Machine.execSlnRouteRecompute s
  | .slnTmapExpiry n down => Sys2Proof.Machine.execSlnTmapExpiry n down s
  | .slnNoiseImpulse => Sys2Proof.Machine.execSlnNoiseImpulse s
  | .slnNoiseHoldEnd => Sys2Proof.Machine.execSlnNoiseHoldEnd s
  | .slnWakeFrame id slept facts => Sys2Proof.Machine.execSlnWakeFrame id slept facts s
  | .slnSend src entry data => Sys2Proof.Machine.execSlnSend src entry data s
  | .slnRecv src bufLen => Sys2Proof.Machine.execSlnRecv src bufLen s
  | .displayItemDue => Sys2Proof.Machine.execDisplayItemDue s
  | .dspTransaction readyLow waited miso => Sys2Proof.Machine.execDspTransaction readyLow waited miso s
  | .v2gRequest n len x => Sys2Proof.Machine.execV2gRequest n len x s
  | .vlinkPoll n => Sys2Proof.Machine.execVlinkPoll n s
  | .sessionStateTimeout n => Sys2Proof.Machine.execSessionStateTimeout n s
  | .authTimeout n => Sys2Proof.Machine.execAuthTimeout n s
  | .certInstallTimeout n => Sys2Proof.Machine.execCertInstallTimeout n s
  | .refusalHoldMax n => Sys2Proof.Machine.execRefusalHoldMax n s
  | .chargeLoopTimeout n => Sys2Proof.Machine.execChargeLoopTimeout n s
  | .cableCheckVoltageReached n => Sys2Proof.Machine.execCableCheckVoltageReached n s
  | .energisationInstant n => Sys2Proof.Machine.execEnergisationInstant n s
  | .stopCurrentLow n => Sys2Proof.Machine.execStopCurrentLow n s
  | .stopUnderLoad n => Sys2Proof.Machine.execStopUnderLoad n s
  | .contactorOpened n => Sys2Proof.Machine.execContactorOpened n s
  | .contactorOpenRetry n => Sys2Proof.Machine.execContactorOpenRetry n s
  | .weldCheck n => Sys2Proof.Machine.execWeldCheck n s
  | .manifestLateSign => Sys2Proof.Machine.execManifestLateSign s
  | .sessionStop n => Sys2Proof.Machine.execSessionStop n s
  | .weldClear n => Sys2Proof.Machine.execWeldClear n s
  | .authAnswer src x => Sys2Proof.Machine.execAuthAnswer src x s
  | .certResponse src outlet response => Sys2Proof.Machine.execCertResponse src outlet response s
  | .chainSet src outlet chain => Sys2Proof.Machine.execChainSet src outlet chain s
  | .anchorSet src kind anchors => Sys2Proof.Machine.execAnchorSet src kind anchors s
  | .commission src x => Sys2Proof.Machine.execCommission src x s
  | .canEnable n => Sys2Proof.Machine.execCanEnable n s
  | .canDisable n busy => Sys2Proof.Machine.execCanDisable n busy s
  | .canRecover n => Sys2Proof.Machine.execCanRecover n s
  | .canTx src record => Sys2Proof.Machine.execCanTx src record s
  | .canTxComplete n r sof edges => Sys2Proof.Machine.execCanTxComplete n r sof edges s
  | .canFrameReceived n f sof => Sys2Proof.Machine.execCanFrameReceived n f sof s
  | .canBusError n e => Sys2Proof.Machine.execCanBusError n e s
  | .canRecoveryComplete n => Sys2Proof.Machine.execCanRecoveryComplete n s
  | .blockCommit gp0 gp1 => Sys2Proof.Machine.execBlockCommit gp0 gp1 s
  | .pulseStart k => Sys2Proof.Machine.execPulseStart k s
  | .pulseEnd k => Sys2Proof.Machine.execPulseEnd k s
  | .harmonicWindowEnd g w => Sys2Proof.Machine.execHarmonicWindowEnd g w s
  | .periodicSave => Sys2Proof.Machine.execPeriodicSave s
  | .saveCommitCheck good => Sys2Proof.Machine.execSaveCommitCheck good s
  | .triadEnable n => Sys2Proof.Machine.execTriadEnable n s
  | .headStandbyRequest n k => Sys2Proof.Machine.execHeadStandbyRequest n k s
  | .headReadmitRequest n k => Sys2Proof.Machine.execHeadReadmitRequest n k s
  | .headReadmitTimer h => Sys2Proof.Machine.execHeadReadmitTimer h s
  | .headSelfTestResult h r => Sys2Proof.Machine.execHeadSelfTestResult h r s
  | .headResyncTimeout h => Sys2Proof.Machine.execHeadResyncTimeout h s
  | .demandSubintervalEnd => Sys2Proof.Machine.execDemandSubintervalEnd s
  | .tariffSwitch => Sys2Proof.Machine.execTariffSwitch s
  | .billingPeriodClose => Sys2Proof.Machine.execBillingPeriodClose s
  | .slewStep => Sys2Proof.Machine.execSlewStep s
  | .tamperMagnetic mT => Sys2Proof.Machine.execTamperMagnetic mT s
  | .tamperCover pin high => Sys2Proof.Machine.execTamperCover pin high s
  | .objChallenge o => Sys2Proof.Machine.execObjChallenge o s
  | .objLogin o x => Sys2Proof.Machine.execObjLogin o x s
  | .objGet o id => Sys2Proof.Machine.execObjGet o id s
  | .objEnd o => Sys2Proof.Machine.execObjEnd o s
  | .associationTimeout c => Sys2Proof.Machine.execAssociationTimeout c s
  | .accessLockExpiry c => Sys2Proof.Machine.execAccessLockExpiry c s
  | .legalTimeSet o utc => Sys2Proof.Machine.execLegalTimeSet o utc s
  | .calendarSet o x => Sys2Proof.Machine.execCalendarSet o x s
  | .scrollSet o x => Sys2Proof.Machine.execScrollSet o x s
  | .calibrationWrite o x => Sys2Proof.Machine.execCalibrationWrite o x s
  | .periodCloseAction o => Sys2Proof.Machine.execPeriodCloseAction o s
  | .magStartupClear o => Sys2Proof.Machine.execMagStartupClear o s
  | .unboundedAcknowledge o number => Sys2Proof.Machine.execUnboundedAcknowledge o number s
  | .sealBreak o => Sys2Proof.Machine.execSealBreak o s
  | .sealReseal o => Sys2Proof.Machine.execSealReseal o s
  | .manRead src first count resLen => Sys2Proof.Machine.execManRead src first count resLen s
  | .manAck src last => Sys2Proof.Machine.execManAck src last s
  | .estimatorStep good => Sys2Proof.Machine.execEstimatorStep good s
  | .estimatorCommit good => Sys2Proof.Machine.execEstimatorCommit good s
  | .bmsStaleTimeout k => Sys2Proof.Machine.execBmsStaleTimeout k s
  | .learnAgeTick k => Sys2Proof.Machine.execLearnAgeTick k s
  | .stringEnable k => Sys2Proof.Machine.execStringEnable k s
  | .stringSwap k => Sys2Proof.Machine.execStringSwap k s
  | .stringForget k => Sys2Proof.Machine.execStringForget k s
  | .safetyEvaluation x => Sys2Proof.Machine.execSafetyEvaluation x s
  | .cat1OutputOff p => Sys2Proof.Machine.execCat1OutputOff p s
  | .safetyConfirm value => Sys2Proof.Machine.execSafetyConfirm value s
  | .safetyHostReset => Sys2Proof.Machine.execSafetyHostReset s
  | .soutFaultClear => Sys2Proof.Machine.execSoutFaultClear s
  | .soutDarkTest k x cross => Sys2Proof.Machine.execSoutDarkTest k x cross s
  | .lswOnWrite n on => Sys2Proof.Machine.execLswOnWrite n on s
  | .lswEnWrite n en => Sys2Proof.Machine.execLswEnWrite n en s
  | .lswUnlock n => Sys2Proof.Machine.execLswUnlock n s
  | .lswOvercurrent n since => Sys2Proof.Machine.execLswOvercurrent n since s
  | .lswThermalShutdown n => Sys2Proof.Machine.execLswThermalShutdown n s
  | .lswTempWarn n tj => Sys2Proof.Machine.execLswTempWarn n tj s
  | .lswRetry n => Sys2Proof.Machine.execLswRetry n s
  | .lswRetryCntReset n => Sys2Proof.Machine.execLswRetryCntReset n s
  | .lswAggEval meas vaux vhold => Sys2Proof.Machine.execLswAggEval meas vaux vhold s
  | .lswOffstateTest n v0 v1 => Sys2Proof.Machine.execLswOffstateTest n v0 v1 s
  | .vauxSurge => Sys2Proof.Machine.execVauxSurge s
  | .vauxSurgeEnd peak => Sys2Proof.Machine.execVauxSurgeEnd peak s
  | .vauxDip => Sys2Proof.Machine.execVauxDip s
  | .vauxDipEnd lowest => Sys2Proof.Machine.execVauxDipEnd lowest s
  | .brownOut => Sys2Proof.Machine.execBrownOut s
  | .vauxReverse => Sys2Proof.Machine.execVauxReverse s
  | .groundLost => Sys2Proof.Machine.execGroundLost s
  | .vauxRemoved => Sys2Proof.Machine.execVauxRemoved s
  | .holdWindowEnd => Sys2Proof.Machine.execHoldWindowEnd s
  | .keyGenerate l x => Sys2Proof.Machine.execKeyGenerate l x s
  | .keyImport l x => Sys2Proof.Machine.execKeyImport l x s
  | .keyDelete src k tampers => Sys2Proof.Machine.execKeyDelete src k tampers s
  | .keyGetPublic src r => Sys2Proof.Machine.execKeyGetPublic src r s
  | .keyMakeCsr l k body => Sys2Proof.Machine.execKeyMakeCsr l k body s
  | .keySign l r m => Sys2Proof.Machine.execKeySign l r m s
  | .keyVerify l r m sig => Sys2Proof.Machine.execKeyVerify l r m sig s
  | .keyHmac src r m => Sys2Proof.Machine.execKeyHmac src r m s
  | .keyCipher src r x => Sys2Proof.Machine.execKeyCipher src r x s
  | .keyHash src bits m => Sys2Proof.Machine.execKeyHash src bits m s
  | .keyRandom src n => Sys2Proof.Machine.execKeyRandom src n s
  | .keyLoadBlob src w blob => Sys2Proof.Machine.execKeyLoadBlob src w blob s
  | .keyUnload src w => Sys2Proof.Machine.execKeyUnload src w s
  | .fwStage l x => Sys2Proof.Machine.execFwStage l x s
  | .fwActivate src => Sys2Proof.Machine.execFwActivate src s
  | .fwConfirm src => Sys2Proof.Machine.execFwConfirm src s
  | .fwTrialTimeout => Sys2Proof.Machine.execFwTrialTimeout s
  | .rngFail => Sys2Proof.Machine.execRngFail s
  | .rngRetest pass => Sys2Proof.Machine.execRngRetest pass s
  | .rootGenRetry => Sys2Proof.Machine.execRootGenRetry s
  | .debugOpenRequest => Sys2Proof.Machine.execDebugOpenRequest s
  | .debugAuthResponse sig interrupted => Sys2Proof.Machine.execDebugAuthResponse sig interrupted s
  | .debugClose => Sys2Proof.Machine.execDebugClose s
  | .submitDoorbell n value => Sys2Proof.Machine.execSubmitDoorbell n value s
  | .headDoorbell n value => Sys2Proof.Machine.execHeadDoorbell n value s
  | .descriptorFetch n part entries => Sys2Proof.Machine.execDescriptorFetch n part entries s
  | .nop src => Sys2Proof.Machine.execNop src s
  | .regRead src offsets => Sys2Proof.Machine.execRegRead src offsets s
  | .regWrite src pairs => Sys2Proof.Machine.execRegWrite src pairs s
  | .longCancel src tag => Sys2Proof.Machine.execLongCancel src tag s
  | .longOperationDone src items => Sys2Proof.Machine.execLongOperationDone src items s
  | .longPartialReady src units data progress => Sys2Proof.Machine.execLongPartialReady src units data progress s
  | .test l t => Sys2Proof.Machine.execTest l t s
  | .testWindowOpen quiet generating => Sys2Proof.Machine.execTestWindowOpen quiet generating s
  | .testExpiry src => Sys2Proof.Machine.execTestExpiry src s
  | .cfgWrite l image => Sys2Proof.Machine.execCfgWrite l image s
  | .ringEnable n => Sys2Proof.Machine.execRingEnable n s
  | .ringDisable n => Sys2Proof.Machine.execRingDisable n s
  | .vectorTimeExpiry v => Sys2Proof.Machine.execVectorTimeExpiry v s
  | .pcieLinkLoss cause => Sys2Proof.Machine.execPcieLinkLoss cause s
  | .dmaError what => Sys2Proof.Machine.execDmaError what s
  | .uartFrameReceived frame => Sys2Proof.Machine.execUartFrameReceived frame s
  | .modeRunRequest => Sys2Proof.Machine.execModeRunRequest s
  | .modeIdleRequest => Sys2Proof.Machine.execModeIdleRequest s
  | .modeStandbyRequest => Sys2Proof.Machine.execModeStandbyRequest s
  | .hibernateRequest saveGood commitGood vioHeavy => Sys2Proof.Machine.execHibernateRequest saveGood commitGood vioHeavy s
  | .hibernateWake source slept facts => Sys2Proof.Machine.execHibernateWake source slept facts s
  | .ldgRead l r => Sys2Proof.Machine.execLdgRead l r s
  | .ldgFreeze => Sys2Proof.Machine.execLdgFreeze s
  | .ldgRelease slot => Sys2Proof.Machine.execLdgRelease slot s
  | .ledgerWrite => Sys2Proof.Machine.execLedgerWrite s
  | .sessionClosingTimeout n => Sys2Proof.Machine.execSessionClosingTimeout n s
  | .failHoldExpiry n => Sys2Proof.Machine.execFailHoldExpiry n s
  | .nodeUnsynced n => Sys2Proof.Machine.execNodeUnsynced n s

end Sys2Proof.Machine
end

