-- ==== Sys2Proof/Safety.lean ====
section
/-! DEFINITION. What a run keeps: the bounds the spec sets on the stores of the device, and for each command the parts of the device and
the registers it may change, and the states in which the device takes it. -/

namespace Sys2Proof.Machine

/-- Every row of the register maps. -/
def regRows : List RegRow := (List.range 18).flatMap blockRows

/-- The parts of the device beside its register file. -/
inductive DevPart
  | dt
  | free
  | out
  | capture
  | staging
  | sets
  | gen
  | hif
  | ldg
  | alc
  | edg
  | pst
  | cle
  | thm
  | mtr
  | tri
  | vss
  | bil
  | key
  | sln
  | lsw
  | saf
  | bse
  | can
deriving DecidableEq, Repr

/-- The part is the same in both. -/
def DevPart.same (s t : Dev) : DevPart → Prop
  | .dt => t.dt = s.dt
  | .free => t.free = s.free
  | .out => t.out = s.out
  | .capture => t.capture = s.capture
  | .staging => t.staging = s.staging
  | .sets => t.sets = s.sets
  | .gen => t.gen = s.gen
  | .hif => t.hif = s.hif
  | .ldg => t.ldg = s.ldg
  | .alc => t.alc = s.alc
  | .edg => t.edg = s.edg
  | .pst => t.pst = s.pst
  | .cle => t.cle = s.cle
  | .thm => t.thm = s.thm
  | .mtr => t.mtr = s.mtr
  | .tri => t.tri = s.tri
  | .vss => t.vss = s.vss
  | .bil => t.bil = s.bil
  | .key => t.key = s.key
  | .sln => t.sln = s.sln
  | .lsw => t.lsw = s.lsw
  | .saf => t.saf = s.saf
  | .bse => t.bse = s.bse
  | .can => t.can = s.can

/-- What a command may change: parts of the device, and registers, each named by the offset of its first instance. -/
structure Frame where
  parts : List DevPart
  regs : List Nat
deriving DecidableEq, Repr

/-- Outside the frame nothing differs: every other part is the same, and every offset that is no instance of a listed register reads the
same. -/
def Frame.holds (f : Frame) (s t : Dev) : Prop :=
  (∀ p, p ∉ f.parts → p.same s t) ∧
    ∀ off, (∀ r ∈ regRows, r.off ∈ f.regs → r.hits off = false) → t.rd off = s.rd off

/-- R520, R521: the wayledger holds its last 16 384 entries, its staging store at most 8192. -/
def Ldg.fits (l : Ldg) : Prop := l.entries.length ≤ 16384 ∧ l.staged.length ≤ 8192

/-- R494: the common alert store holds at most 1024 events. -/
def Hif.fits (h : Hif) : Prop := h.alertStore.length ≤ 1024

/-- The register file is in its canonical form, and every store the spec bounds is within its bound. -/
structure Dev.Fits (s : Dev) : Prop where
  regs : regWf s.regs = true
  ldg : s.ldg.fits
  hif : s.hif.fits

/-- What posting an event and recording it may change. -/
def eventRegs : List Nat :=
  [HIF_STATUS, HIF_EVT_DROP, HIF_ALERT_LOST, HIF_ALERT_FIRST, HIF_RING_STATUS 0, HIF_MSIX_PBA 0, LDG_STATUS, LDG_DROP]

/-- What completing a descriptor may change. -/
def completionRegs : List Nat :=
  [HIF_STATUS, HIF_RING_STATUS 0, HIF_MSIX_PBA 0]

/-- What stopping a charging session may change. -/
def sessionEndRegs : List Nat :=
  [VSS_STATUS, VSS_OUT_CFG 0, VSS_OUT_STATE 0, VSS_OUT_REQ 0, BIL_STATUS, BIL_MAN_STATUS, BIL_MAN_NO_LO, BIL_MAN_NO_HI, BIL_MAN_OVERWRITTEN,
   KEY_STATUS, KEY_SLOT 0, LSW_CH_CTL 0]

/-- What switching a load channel may change. -/
def switchRegs : List Nat :=
  [LSW_STATUS, LSW_CH_STATUS 0, LSW_CH_CLAMP 0, LSW_CH_CNT 0]

/-- What publishing grants may change. -/
def grantRegs : List Nat :=
  [ALC_GRANT_SEQ, ALC_GRANT_W0 0, ALC_GRANT_W1 0, ALC_GRANT_W2 0, ALC_GRANT_W3 0, ALC_GRANT_W4 0, ALC_GRANT_W5 0, ALC_GRANT_W6 0, ALC_GRANT_W7 0]

/-- What recording a tamper may change. -/
def tamperRegs : List Nat :=
  [BIL_TAMP_COUNT 0, BIL_TAMP_FIRST 0, BIL_TAMP_LAST 0, BIL_TAMP_TIMES 0]

/-- What the states of metering heads may change. -/
def headRegs : List Nat :=
  [TRI_STATUS, TRI_OUT_STATUS 0, TRI_HEAD_STATUS 0, TRI_HEAD_TEST 0]

/-- What disarming or faulting a leg may change. -/
def legRegs : List Nat :=
  [EDG_STATUS, EDG_STG_STATUS 0, EDG_LEG_CTL 0, EDG_PWM_CTL 0]

/-- What a change of state of a piste may change. -/
def pisteRegs : List Nat :=
  [GEN_STATUS, GEN_BOOT2, PST_PHY_SUMMARY, PST_PHY_STATE 0]

/-- What each command may change, over all its operands and all states. The commands that write or read whatever register they name,
that take a reset or that start the device have no fixed frame. -/
def frameOf : Instr → Option Frame
  | .registerWrite _ _ => none
  | .reg64LowRead _ => none
  | .reg64LowWrite _ _ => none
  | .reg64HighWrite _ _ => none
  | .clearOnReadRead _ _ => none
  | .powerOnReset _ => none
  | .resetRelease _ => none
  | .pcieEarlyRequest _ => some ⟨[.out], []⟩
  | .rootPllLockLoss => none
  | .dieLinkFail => none
  | .sramEccError _ _ _ => none
  | .watchdogExpiry => none
  | .rtcRateCheck _ =>
    some ⟨[.out, .sets, .gen, .hif, .ldg, .vss, .bil], eventRegs ++ tamperRegs ++ [GEN_STATUS, BIL_STATUS, BIL_SLEW, BIL_TAMP_STATUS]⟩
  | .resetPinAssert => none
  | .resetPinRelease => some ⟨[.out, .gen], [GEN_RST_PIN]⟩
  | .resetPinStuck _ => none
  | .resetPinArm => some ⟨[.dt, .out], [GEN_RST_PIN]⟩
  | .resetPinIgnored => some ⟨[.out, .gen], [GEN_RST_PIN]⟩
  | .hostReset _ => none
  | .shReqWrite _ =>
    some ⟨[.free, .out, .sets, .hif, .ldg, .alc, .edg, .pst, .cle, .vss, .bil, .sln, .lsw, .can], eventRegs ++ sessionEndRegs ++ switchRegs ++
      grantRegs ++ tamperRegs ++ [GEN_LIFECYCLE, GEN_CHG_READY, ALC_STATUS, EDG_STATUS, EDG_LEG_CTL 0, EDG_PWM_CTL 0, EDG_SLM_STATUS 0, PST_EDGE_LATE,
      CAN_STATUS 0, BIL_TAMP_STATUS, SAF_STATUS, SAF_OUT_EN, SAF_SOUT_STATUS 0, LDG_SNAP_FROZEN, LDG_SNAP_OVERWRITTEN, LDG_SNAP_INFO 0,
      LDG_SNAP_SEQ 0]⟩
  | .factoryClose _ _ =>
    some ⟨[.out, .sets, .hif, .ldg, .mtr, .bil, .key], eventRegs ++ tamperRegs ++ [GEN_LIFECYCLE, GEN_CHG_READY, BIL_STATUS, BIL_PERIOD_NO,
      BIL_TAMP_STATUS, BIL_DMAX_VALUE 0 0, BIL_DMAX_UTC 0 0, BIL_DMAX_MARKS 0 0]⟩
  | .lifecycle _ _ =>
    some ⟨[.free, .out, .sets, .hif, .ldg, .mtr, .bil, .key], eventRegs ++ tamperRegs ++ [GEN_LIFECYCLE, GEN_DEVICE_ID_LO, GEN_DEVICE_ID_HI,
      GEN_CHG_READY, BIL_STATUS, BIL_PERIOD_NO, BIL_TAMP_STATUS, BIL_DMAX_VALUE 0 0, BIL_DMAX_UTC 0 0, BIL_DMAX_MARKS 0 0, KEY_STATUS]⟩
  | .allocationTick =>
    some ⟨[.dt, .free, .out, .sets, .hif, .ldg, .alc, .edg, .pst, .cle, .vss, .bil, .sln, .lsw], eventRegs ++ sessionEndRegs ++ switchRegs ++
      grantRegs ++ legRegs ++ [GEN_CHG_READY, ALC_STATUS, ALC_TRIP, ALC_TICK_LO, ALC_TICK_HI, CLE_SLOT_SP_REG 0, PST_EDGE_LATE, LDG_SNAP_FROZEN,
      LDG_SNAP_OVERWRITTEN, LDG_SNAP_INFO 0, LDG_SNAP_SEQ 0]⟩
  | .grantSolveComplete _ _ =>
    some ⟨[.dt, .free, .out, .sets, .hif, .ldg, .alc, .edg, .pst, .cle, .vss, .bil, .bse], eventRegs ++ sessionEndRegs ++ grantRegs ++ legRegs ++
      [ALC_STATUS, ALC_TRIP, ALC_REST_STATUS, PST_EDGE_LATE, BSE_STR_STATUS 0, LDG_SNAP_FROZEN, LDG_SNAP_OVERWRITTEN, LDG_SNAP_INFO 0,
      LDG_SNAP_SEQ 0]⟩
  | .alcRunWrite _ => some ⟨[.out], [ALC_CTRL, ALC_REJECT_CNT]⟩
  | .alcHostTrip _ =>
    some ⟨[.free, .out, .sets, .hif, .ldg, .alc, .edg, .pst, .cle, .vss, .bil], eventRegs ++ sessionEndRegs ++ grantRegs ++ legRegs ++ [ALC_STATUS,
      ALC_TRIP, PST_EDGE_LATE, LDG_SNAP_FROZEN, LDG_SNAP_OVERWRITTEN, LDG_SNAP_INFO 0, LDG_SNAP_SEQ 0]⟩
  | .alcTripClear => some ⟨[.out, .sets, .hif, .ldg, .alc, .edg], eventRegs ++ legRegs ++ [ALC_STATUS, ALC_TRIP]⟩
  | .tripClear _ => some ⟨[.out, .sets, .hif, .ldg, .alc, .edg], eventRegs ++ legRegs ++ [ALC_STATUS, ALC_TRIP]⟩
  | .gridPointRecount _ => some ⟨[.dt, .out, .alc, .edg], legRegs⟩
  | .legArm _ _ => some ⟨[.free, .out, .sets, .hif, .ldg, .edg, .pst], eventRegs ++ legRegs ++ [EDG_SLM_STATUS 0, PST_EDGE_LATE]⟩
  | .legDisarm _ =>
    some ⟨[.free, .out, .sets, .hif, .ldg, .edg, .pst], eventRegs ++ [EDG_STATUS, EDG_LEG_CTL 0, EDG_PWM_CTL 0, EDG_SLM_STATUS 0, PST_EDGE_LATE]⟩
  | .legForceWrite _ _ => some ⟨[.out], [EDG_LEG_CTL 0, EDG_PWM_CTL 0]⟩
  | .legCutoff _ =>
    some ⟨[.dt, .free, .out, .sets, .hif, .ldg, .edg, .pst], eventRegs ++ [EDG_LEG_RISE 0, EDG_LEG_FALL 0, EDG_LEG_CTL 0, EDG_LEG_SHORT_CNT 0,
      EDG_PWM_RISE 0, EDG_PWM_FALL 0, EDG_PWM_CTL 0, EDG_PWM_SHORT_CNT 0, PST_EDGE_LATE]⟩
  | .fltInputAssert _ =>
    some ⟨[.free, .out, .sets, .hif, .ldg, .alc, .edg, .pst], eventRegs ++ legRegs ++ [EDG_SLM_STATUS 0, PST_EDGE_LATE]⟩
  | .slotSample _ _ _ =>
    some ⟨[.dt, .free, .out, .sets, .hif, .ldg, .edg, .pst, .cle, .thm], eventRegs ++ [EDG_STATUS, EDG_LATE_CNT, EDG_LEG_CTL 0, EDG_PWM_CTL 0,
      EDG_SLM_STATUS 0, CLE_STATUS, CLE_MISS_CNT, CLE_CLOSED 0, CLE_FAULT 0, CLE_SLOT_CTL 0, CLE_SLOT_LAT 0, CLE_SLOT_OUT0 0, CLE_SLOT_OUT1 0,
      CLE_SLOT_MISS_CNT 0, CLE_SLOT_STATEW 0 0, THM_CAB_STATUS 0, THM_LOOP_STATUS 0, PST_EDGE_LATE]⟩
  | .slotExecutionComplete _ =>
    some ⟨[.dt, .free, .out, .sets, .hif, .ldg, .edg, .pst, .cle, .thm], eventRegs ++ [EDG_STATUS, EDG_LATE_CNT, EDG_LEG_CTL 0, EDG_PWM_CTL 0,
      EDG_SLM_STATUS 0, CLE_STATUS, CLE_MISS_CNT, CLE_CLOSED 0, CLE_FAULT 0, CLE_SLOT_CTL 0, CLE_SLOT_LAT 0, CLE_SLOT_OUT0 0, CLE_SLOT_OUT1 0,
      CLE_SLOT_MISS_CNT 0, CLE_SLOT_STATEW 0 0, THM_CAB_STATUS 0, THM_LOOP_STATUS 0, PST_EDGE_LATE]⟩
  | .slotDeadlineMiss _ =>
    some ⟨[.dt, .free, .out, .sets, .hif, .ldg, .edg, .pst, .cle, .thm], eventRegs ++ [EDG_STATUS, EDG_LEG_CTL 0, EDG_PWM_CTL 0, EDG_SLM_STATUS 0,
      CLE_STATUS, CLE_MISS_CNT, CLE_CLOSED 0, CLE_FAULT 0, CLE_SLOT_CTL 0, CLE_SLOT_OUT0 0, CLE_SLOT_OUT1 0, CLE_SLOT_MISS_CNT 0, THM_CAB_STATUS 0,
      THM_LOOP_STATUS 0, PST_EDGE_LATE]⟩
  | .slotOpen _ => some ⟨[.out, .sets, .hif, .ldg, .cle], eventRegs ++ [CLE_STATUS, CLE_CLOSED 0, CLE_SLOT_CTL 0]⟩
  | .slotClose _ =>
    some ⟨[.out, .sets, .hif, .ldg, .cle, .thm], eventRegs ++ [CLE_STATUS, CLE_CLOSED 0, CLE_SLOT_CTL 0, THM_CAB_STATUS 0, THM_LOOP_STATUS 0]⟩
  | .slotFaultClear _ => some ⟨[.out, .sets], [CLE_STATUS, CLE_FAULT 0, CLE_SLOT_CTL 0]⟩
  | .cableObserverStep _ _ _ _ =>
    some ⟨[.dt, .free, .out, .sets, .hif, .ldg, .alc, .edg, .pst, .cle, .thm, .vss, .bil], eventRegs ++ sessionEndRegs ++ grantRegs ++ [ALC_STATUS,
      THM_STATUS, THM_CAB_LIMIT 0, THM_CAB_HOT 0, THM_CAB_COOL 0, THM_CAB_STATUS 0, PST_EDGE_LATE, VSS_OUT_EVLIM 0, LDG_SNAP_FROZEN,
      LDG_SNAP_OVERWRITTEN, LDG_SNAP_INFO 0, LDG_SNAP_SEQ 0]⟩
  | .cableFlowTrip _ => some ⟨[.dt, .out, .sets, .hif, .ldg, .thm], eventRegs ++ [THM_STATUS, THM_CAB_LIMIT 0, THM_CAB_STATUS 0]⟩
  | .cableTripClear _ => some ⟨[.dt, .out, .sets, .hif, .ldg, .thm], eventRegs ++ [THM_STATUS, THM_CAB_LIMIT 0, THM_CAB_STATUS 0]⟩
  | .cableLimitPublish _ => some ⟨[.dt, .out, .sets, .gen, .hif, .ldg, .thm], eventRegs ++ [THM_STATUS, THM_CAB_LIMIT 0, THM_CAB_STATUS 0]⟩
  | .sensorSample _ _ =>
    some ⟨[.dt, .free, .out, .sets, .hif, .ldg, .alc, .edg, .pst, .cle, .thm, .vss, .bil], eventRegs ++ sessionEndRegs ++ grantRegs ++ [ALC_STATUS,
      THM_STATUS, THM_SNS_VAL 0, THM_CAB_LIMIT 0, THM_CAB_HOT 0, THM_CAB_COOL 0, THM_CAB_STATUS 0, PST_EDGE_LATE, LDG_SNAP_FROZEN,
      LDG_SNAP_OVERWRITTEN, LDG_SNAP_INFO 0, LDG_SNAP_SEQ 0]⟩
  | .bandFall _ => some ⟨[.dt, .free, .out, .sets, .hif, .ldg, .edg, .pst, .thm], eventRegs ++ [THM_CAB_STATUS 0, PST_EDGE_LATE]⟩
  | .dieTempSample _ _ _ => none
  | .dieOvertempRelease => some ⟨[.out, .thm], []⟩
  | .cableEnable _ =>
    some ⟨[.free, .out, .sets, .hif, .ldg, .edg, .pst, .thm], eventRegs ++ [THM_STATUS, THM_CAB_CFG 0, THM_CAB_LIMIT 0, THM_CAB_STATUS 0,
      PST_EDGE_LATE]⟩
  | .identify _ _ _ _ =>
    some ⟨[.out, .sets, .hif, .ldg, .thm], eventRegs ++ [THM_STATUS, THM_CAB_LIMIT 0, THM_CAB_STATUS 0, VSS_OUT_REQ 0, VSS_OUT_EVLIM 0]⟩
  | .identifyPhaseEnd _ =>
    some ⟨[.dt, .out, .sets, .hif, .ldg, .thm], eventRegs ++ [THM_STATUS, THM_CAB_LIMIT 0, THM_CAB_STATUS 0, VSS_OUT_REQ 0, VSS_OUT_EVLIM 0]⟩
  | .pisteEnable _ =>
    some ⟨[.free, .out, .sets, .hif, .ldg, .pst, .tri, .bil], eventRegs ++ tamperRegs ++ headRegs ++ pisteRegs ++ [PST_TWIN, PST_PHY_CTL 0,
      PST_PHY_EQ 0, PST_PHY_DFE 0, PST_PHY_BLKERR 0, PST_PHY_LOCKLOSS 0]⟩
  | .pisteDisable _ =>
    some ⟨[.free, .out, .sets, .hif, .ldg, .pst, .tri], eventRegs ++ headRegs ++ pisteRegs ++ [PST_PHY_REJECT_CNT, PST_PHY_CTL 0]⟩
  | .pisteRestart _ =>
    some ⟨[.free, .out, .sets, .hif, .ldg, .pst], eventRegs ++ pisteRegs ++ [PST_TWIN, PST_PHY_REJECT_CNT, PST_PHY_EQ 0, PST_PHY_DFE 0,
      PST_PHY_BLKERR 0, PST_PHY_LOCKLOSS 0]⟩
  | .rxLock _ => some ⟨[.free, .out, .sets, .hif, .ldg, .pst], eventRegs ++ pisteRegs ++ [PST_PHY_EQ 0]⟩
  | .rxLockLoss _ =>
    some ⟨[.free, .out, .sets, .hif, .ldg, .pst], eventRegs ++ pisteRegs ++ [PST_TWIN, PST_PHY_EQ 0, PST_PHY_DFE 0, PST_PHY_BLKERR 0,
      PST_PHY_LOCKLOSS 0]⟩
  | .rxInversionDetected _ =>
    some ⟨[.free, .out, .sets, .hif, .ldg, .pst], eventRegs ++ pisteRegs ++ [PST_TWIN, PST_PHY_EQ 0, PST_PHY_DFE 0, PST_PHY_BLKERR 0,
      PST_PHY_LOCKLOSS 0]⟩
  | .pisteTrainDone _ _ _ =>
    some ⟨[.free, .out, .sets, .hif, .ldg, .pst], eventRegs ++ pisteRegs ++ [PST_TWIN, PST_PHY_EQ 0, PST_PHY_DFE 0, PST_PHY_BLKERR 0,
      PST_PHY_LOCKLOSS 0]⟩
  | .pisteTrainTimeout _ _ =>
    some ⟨[.dt, .free, .out, .sets, .hif, .ldg, .pst], eventRegs ++ pisteRegs ++ [PST_TWIN, PST_PHY_EQ 0, PST_PHY_DFE 0, PST_PHY_BLKERR 0,
      PST_PHY_LOCKLOSS 0]⟩
  | .pisteAdaptDone _ _ _ =>
    some ⟨[.dt, .free, .out, .sets, .hif, .ldg, .pst], eventRegs ++ pisteRegs ++ [PST_TWIN, PST_PHY_EQ 0, PST_PHY_DFE 0, PST_PHY_BLKERR 0,
      PST_PHY_LOCKLOSS 0]⟩
  | .pisteVerifyDone _ _ =>
    some ⟨[.dt, .free, .out, .sets, .hif, .ldg, .pst], eventRegs ++ pisteRegs ++ [PST_TWIN, PST_PHY_EQ 0, PST_PHY_DFE 0, PST_PHY_BLKERR 0,
      PST_PHY_LOCKLOSS 0]⟩
  | .pisteRelockTimeout _ =>
    some ⟨[.dt, .free, .out, .sets, .hif, .ldg, .pst], eventRegs ++ pisteRegs ++ [PST_TWIN, PST_PHY_EQ 0, PST_PHY_DFE 0, PST_PHY_BLKERR 0,
      PST_PHY_LOCKLOSS 0]⟩
  | .pisteFailedRetry _ =>
    some ⟨[.dt, .free, .out, .sets, .hif, .ldg, .pst], eventRegs ++ pisteRegs ++ [PST_TWIN, PST_PHY_EQ 0, PST_PHY_DFE 0, PST_PHY_BLKERR 0,
      PST_PHY_LOCKLOSS 0]⟩
  | .ctleSweepStep _ _ _ => some ⟨[.dt, .out, .pst], [PST_PHY_EQ 0]⟩
  | .eqTrial _ _ _ _ _ => some ⟨[.dt, .out, .gen], [PST_PHY_EQ 0]⟩
  | .dfeLmsStep _ _ _ => some ⟨[.out], [PST_PHY_DFE 0]⟩
  | .fomUpdate _ _ _ _ _ _ =>
    some ⟨[.out, .sets, .hif, .ldg, .pst], eventRegs ++ [PST_PHY_STATE 0, PST_PHY_EQ 0, PST_PHY_BLKERR 0, PST_PHY_PRBS 0]⟩
  | .echoComplete _ _ => some ⟨[.dt, .out, .pst], [PST_CEN_TIME 0, PST_CEN_LINK1 0]⟩
  | .censusMark _ _ =>
    some ⟨[.dt, .free, .out, .sets, .gen, .hif, .ldg, .alc, .edg, .pst, .tri, .vss, .bil], eventRegs ++ tamperRegs ++ headRegs ++ legRegs ++
      [EDG_SLM_STATUS 0, THM_LOOP_STATUS 0, PST_PROT_STATUS, PST_EDGE_LATE, PST_CEN_STATUS 0, PST_CEN_TIME 0, PST_CEN_COUNT 0, PST_NODE_INFO 0,
      PST_NODE_ERR 0, PST_NODE_AGE 0, VSS_STATUS, VSS_OUT_CFG 0, VSS_OUT_STATE 0, BIL_STATUS, BIL_MAN_STATUS, BIL_MAN_NO_LO, BIL_MAN_NO_HI,
      BIL_MAN_OVERWRITTEN, LSW_CH_CTL 0, KEY_STATUS, KEY_SLOT 0]⟩
  | .markReturn _ _ _ =>
    some ⟨[.free, .out, .sets, .hif, .ldg, .alc, .edg, .pst], eventRegs ++ legRegs ++ [EDG_LEAD 0, EDG_SLM_STATUS 0, PST_PROT_STATUS, PST_EDGE_LATE,
      PST_CEN_STATUS 0, PST_CEN_LAT 0, PST_CEN_RESID 0, PST_CEN_TIME 0, PST_NODE_INFO 0, PST_NODE_PATH 0]⟩
  | .censusReplyReceived _ =>
    some ⟨[.free, .out, .sets, .hif, .ldg, .edg, .pst, .tri, .bil], eventRegs ++ tamperRegs ++ headRegs ++ [EDG_STG_STATUS 0, THM_LOOP_STATUS 0,
      PST_PROT_STATUS, PST_FRAME_ERR, PST_EDGE_LATE, PST_NODE_ID_LO 0, PST_NODE_ID_HI 0, PST_NODE_INFO 0, PST_NODE_PATH 0, PST_NODE_DELAY 0,
      PST_NODE_MAKER 0, PST_NODE_ERR 0, PST_NODE_AGE 0]⟩
  | .pstAdmitAccept _ =>
    some ⟨[.free, .out, .sets, .hif, .ldg, .edg, .pst, .tri, .bil], eventRegs ++ tamperRegs ++ headRegs ++ [EDG_STG_STATUS 0, THM_LOOP_STATUS 0,
      PST_PROT_STATUS, PST_EDGE_LATE, PST_NODE_INFO 0]⟩
  | .pstAdmitForget _ =>
    some ⟨[.out, .pst], [PST_NODE_ID_LO 0, PST_NODE_ID_HI 0, PST_NODE_INFO 0, PST_NODE_PATH 0, PST_NODE_DELAY 0, PST_NODE_MAKER 0, PST_NODE_ERR 0,
      PST_NODE_AGE 0]⟩
  | .teleFrameReceived _ =>
    some ⟨[.free, .out, .sets, .hif, .ldg, .alc, .edg, .pst, .bse], eventRegs ++ legRegs ++ [EDG_SLM_STATUS 0, PST_FRAME_ERR, PST_EDGE_LATE,
      PST_NODE_ERR 0, BSE_STR_SOC 0, BSE_STR_STATUS 0]⟩
  | .measFrameReceived _ => some ⟨[.out, .pst, .mtr], [PST_FRAME_ERR, PST_NODE_ERR 0]⟩
  | .tunFrameReceived _ =>
    some ⟨[.free, .out, .sets, .hif, .ldg, .edg, .pst], eventRegs ++ [PST_FRAME_ERR, PST_EDGE_LATE, PST_NODE_ERR 0, VSS_PROTO_ERR]⟩
  | .nodeCtrl _ _ => some ⟨[.free, .out, .sets, .hif, .ldg, .edg, .pst], eventRegs ++ [PST_EDGE_LATE]⟩
  | .ctrlResponseReceived _ => none
  | .ctrlRetry => some ⟨[.dt, .free, .out, .sets, .hif, .ldg, .edg, .pst], eventRegs ++ [PST_EDGE_LATE]⟩
  | .ctrlTimeout => none
  | .nodeMarkForward _ _ _ _ _ => some ⟨[.out, .pst], []⟩
  | .nodeRunOwn _ _ _ _ _ _ _ => some ⟨[.free, .out, .pst], []⟩
  | .nodeSyncApply _ _ => some ⟨[.out, .pst], []⟩
  | .nodeTimeStale _ => some ⟨[.dt, .out, .pst], []⟩
  | .nodeLegBoundary _ _ => some ⟨[.dt, .out, .pst], []⟩
  | .nodeFaultInput _ _ _ => some ⟨[.out, .pst], []⟩
  | .nodeRxAlignLoss _ _ _ => some ⟨[.out, .pst], []⟩
  | .nodeNoRunTimeout _ => some ⟨[.dt, .out, .pst], []⟩
  | .superframeStart => some ⟨[.dt, .out, .gen, .sln], [SLN_STATUS, SLN_SF_NUM, SLN_CNT_SLIP, SLN_NODE_AGE 0]⟩
  | .slnPollSend _ => some ⟨[.dt, .out, .sets, .hif, .ldg, .sln], eventRegs ++ [SLN_STATUS, SLN_CNT_DEFER, SLN_CNT_RETX, SLN_CNT_SLIP]⟩
  | .slnReplyReceived _ _ =>
    some ⟨[.dt, .out, .sets, .hif, .ldg, .sln], eventRegs ++ [SLN_STATUS, SLN_CNT_DROP, SLN_CNT_CRC, SLN_NODE_INFO 0, SLN_NODE_LINK 0,
      SLN_NODE_ERR 0, SLN_NODE_AGE 0]⟩
  | .slnReplyTimeout _ =>
    some ⟨[.dt, .out, .sets, .hif, .ldg, .sln], eventRegs ++ [SLN_STATUS, SLN_CNT_DROP, SLN_NODE_INFO 0, SLN_NODE_LINK 0, SLN_NODE_ERR 0]⟩
  | .slnRelayForward _ _ => some ⟨[.out], []⟩
  | .slnJoinReq _ =>
    some ⟨[.out, .sets, .hif, .ldg, .sln], eventRegs ++ [SLN_STATUS, SLN_NODE_ID_LO 0, SLN_NODE_ID_HI 0, SLN_NODE_INFO 0, SLN_NODE_LINK 0]⟩
  | .slnAdmitAccept _ => some ⟨[.out, .sets, .hif, .ldg, .sln], eventRegs ++ [SLN_STATUS, SLN_NODE_INFO 0, SLN_NODE_LINK 0]⟩
  | .slnAdmitForget _ =>
    some ⟨[.out, .sln], [SLN_STATUS, SLN_NODE_ID_LO 0, SLN_NODE_ID_HI 0, SLN_NODE_INFO 0, SLN_NODE_LINK 0, SLN_NODE_CFG 0, SLN_NODE_ERR 0,
      SLN_NODE_AGE 0]⟩
  | .slnRouteRecompute => some ⟨[.out, .sets, .hif, .ldg, .sln], eventRegs ++ [SLN_STATUS, SLN_NODE_INFO 0, SLN_NODE_LINK 0]⟩
  | .slnTmapExpiry _ _ => some ⟨[.dt, .out, .sln], [SLN_NODE_LINK 0]⟩
  | .slnNoiseImpulse => some ⟨[.out, .sln], []⟩
  | .slnNoiseHoldEnd => some ⟨[.dt, .out, .sets, .hif, .ldg, .sln], eventRegs ++ [SLN_STATUS]⟩
  | .slnWakeFrame _ _ _ => none
  | .slnSend _ _ _ => some ⟨[.out, .hif, .sln], completionRegs⟩
  | .slnRecv _ _ => some ⟨[.out, .hif, .sln], completionRegs⟩
  | .displayItemDue => some ⟨[.dt, .out, .bil, .sln], [SLN_STATUS]⟩
  | .dspTransaction _ _ _ => some ⟨[.dt, .out, .sets, .hif, .ldg, .sln], eventRegs⟩
  | .v2gRequest _ _ _ =>
    some ⟨[.free, .out, .sets, .hif, .ldg, .alc, .edg, .pst, .vss, .bil, .sln, .lsw], eventRegs ++ sessionEndRegs ++ switchRegs ++ [GEN_PWR,
      GEN_CHG_READY, CLE_SLOT_SP_REG 0, PST_EDGE_LATE, VSS_PROTO_ERR, VSS_OUT_SID_LO 0, VSS_OUT_SID_HI 0, VSS_OUT_EVLIM 0]⟩
  | .vlinkPoll _ =>
    some ⟨[.dt, .free, .out, .sets, .gen, .hif, .ldg, .edg, .pst, .vss, .bil], eventRegs ++ sessionEndRegs ++ [PST_EDGE_LATE, VSS_OUT_SID_LO 0,
      VSS_OUT_SID_HI 0, VSS_OUT_EVLIM 0]⟩
  | .sessionStateTimeout _ =>
    some ⟨[.dt, .free, .out, .sets, .hif, .ldg, .edg, .pst, .vss, .bil], eventRegs ++ sessionEndRegs ++ [PST_EDGE_LATE]⟩
  | .authTimeout _ => some ⟨[.dt, .free, .out, .sets, .hif, .ldg, .edg, .pst, .vss, .bil], eventRegs ++ sessionEndRegs ++ [PST_EDGE_LATE]⟩
  | .certInstallTimeout _ => some ⟨[.dt, .free, .out, .sets, .hif, .ldg, .edg, .pst, .vss], eventRegs ++ [PST_EDGE_LATE]⟩
  | .refusalHoldMax _ =>
    some ⟨[.dt, .free, .out, .sets, .hif, .ldg, .edg, .pst, .vss, .bil], eventRegs ++ sessionEndRegs ++ [PST_EDGE_LATE]⟩
  | .chargeLoopTimeout _ =>
    some ⟨[.dt, .free, .out, .sets, .hif, .ldg, .edg, .pst, .vss, .bil], eventRegs ++ sessionEndRegs ++ [PST_EDGE_LATE]⟩
  | .cableCheckVoltageReached _ =>
    some ⟨[.free, .out, .sets, .hif, .ldg, .edg, .pst, .vss, .bil], eventRegs ++ sessionEndRegs ++ [CLE_SLOT_SP_REG 0, PST_EDGE_LATE]⟩
  | .energisationInstant _ =>
    some ⟨[.free, .out, .sets, .hif, .ldg, .edg, .pst, .vss, .bil, .sln, .lsw], eventRegs ++ sessionEndRegs ++ switchRegs ++ [PST_EDGE_LATE]⟩
  | .stopCurrentLow _ =>
    some ⟨[.free, .out, .sets, .hif, .ldg, .edg, .pst, .vss, .bil, .sln, .lsw], eventRegs ++ sessionEndRegs ++ switchRegs ++ [PST_EDGE_LATE]⟩
  | .stopUnderLoad _ =>
    some ⟨[.dt, .free, .out, .sets, .hif, .ldg, .edg, .pst, .vss, .bil, .sln, .lsw], eventRegs ++ sessionEndRegs ++ switchRegs ++ [PST_EDGE_LATE]⟩
  | .contactorOpened _ =>
    some ⟨[.free, .out, .sets, .hif, .ldg, .edg, .pst, .vss, .bil], eventRegs ++ [PST_EDGE_LATE, VSS_STATUS, VSS_OUT_CFG 0, VSS_OUT_STATE 0,
      BIL_STATUS, BIL_MAN_STATUS, BIL_MAN_NO_LO, BIL_MAN_NO_HI, BIL_MAN_OVERWRITTEN, LSW_CH_CTL 0, KEY_STATUS, KEY_SLOT 0]⟩
  | .contactorOpenRetry _ =>
    some ⟨[.dt, .free, .out, .sets, .hif, .ldg, .edg, .pst, .vss, .bil, .sln, .lsw], eventRegs ++ sessionEndRegs ++ switchRegs ++ [PST_EDGE_LATE]⟩
  | .weldCheck _ => some ⟨[.dt, .out, .sets, .hif, .ldg], eventRegs ++ [VSS_OUT_STATE 0]⟩
  | .manifestLateSign => some ⟨[.out, .sets, .hif, .ldg, .bil], eventRegs ++ [BIL_MAN_STATUS, KEY_STATUS, KEY_SLOT 0]⟩
  | .sessionStop _ => some ⟨[.free, .out, .sets, .hif, .ldg, .edg, .pst, .vss, .bil], eventRegs ++ sessionEndRegs ++ [PST_EDGE_LATE]⟩
  | .weldClear _ => some ⟨[.out], [VSS_OUT_STATE 0]⟩
  | .authAnswer _ _ => some ⟨[.free, .out, .sets, .hif, .ldg, .edg, .pst, .vss, .bil], eventRegs ++ sessionEndRegs ++ [PST_EDGE_LATE]⟩
  | .certResponse _ _ _ => some ⟨[.free, .out, .sets, .hif, .ldg, .edg, .pst, .vss], eventRegs ++ [PST_EDGE_LATE]⟩
  | .chainSet _ _ _ => some ⟨[.out, .hif, .vss], completionRegs⟩
  | .anchorSet _ _ _ => some ⟨[.out, .hif, .vss], completionRegs⟩
  | .commission _ _ =>
    some ⟨[.free, .out, .sets, .hif, .ldg, .edg, .pst, .vss, .bil, .sln, .lsw], eventRegs ++ sessionEndRegs ++ switchRegs ++ [CLE_SLOT_SP_REG 0,
      PST_EDGE_LATE, VSS_OUT_SID_LO 0, VSS_OUT_SID_HI 0, VSS_OUT_EVLIM 0]⟩
  | .canEnable _ => some ⟨[.free, .out, .can], [CAN_SUMMARY, CAN_REJECT_CNT, CAN_CTL 0, CAN_STATUS 0, CAN_ERRCNT 0]⟩
  | .canDisable _ _ => some ⟨[.out, .hif, .can], completionRegs ++ [CAN_SUMMARY, CAN_CTL 0, CAN_STATUS 0]⟩
  | .canRecover _ => some ⟨[.out, .can], [CAN_STATUS 0]⟩
  | .canTx _ _ => some ⟨[.out, .hif, .can], completionRegs ++ [CAN_STATUS 0]⟩
  | .canTxComplete _ _ _ _ =>
    some ⟨[.dt, .free, .out, .sets, .hif, .ldg, .edg, .pst, .bse, .can], eventRegs ++ [PST_EDGE_LATE, CAN_SUMMARY, CAN_TDC 0, CAN_STATUS 0,
      CAN_ERRCNT 0, CAN_CNT_RX 0, CAN_CNT_TX 0, CAN_CNT_DROP 0, CAN_CNT_BOFF 0, BSE_STR_STATUS 0, BSE_STR_CANIGN 0]⟩
  | .canFrameReceived _ _ _ =>
    some ⟨[.dt, .free, .out, .sets, .hif, .ldg, .edg, .pst, .bse, .can], eventRegs ++ [PST_EDGE_LATE, CAN_SUMMARY, CAN_STATUS 0, CAN_ERRCNT 0,
      CAN_CNT_RX 0, CAN_CNT_DROP 0, CAN_CNT_BOFF 0, BSE_STR_STATUS 0, BSE_STR_CANIGN 0]⟩
  | .canBusError _ _ =>
    some ⟨[.free, .out, .sets, .hif, .ldg, .can], eventRegs ++ [CAN_SUMMARY, CAN_STATUS 0, CAN_ERRCNT 0, CAN_CNT_BOFF 0]⟩
  | .canRecoveryComplete _ => some ⟨[.dt, .free, .out, .sets, .hif, .ldg, .can], eventRegs ++ [CAN_SUMMARY, CAN_STATUS 0, CAN_ERRCNT 0]⟩
  | .blockCommit _ _ =>
    some ⟨[.dt, .free, .out, .sets, .hif, .ldg, .alc, .edg, .pst, .cle, .mtr, .tri, .vss, .bil], eventRegs ++ sessionEndRegs ++ grantRegs ++
      tamperRegs ++ headRegs ++ legRegs ++ [ALC_STATUS, ALC_TRIP, PST_EDGE_LATE, MTR_STATUS, MTR_BLOCK_LO, MTR_BLOCK_HI, MTR_GP_STATUS 0, MTR_GP_P 0,
      MTR_GP_Q 0, MTR_GP_GAP_LO 0, MTR_GP_GAP_HI 0, MTR_GP_OVR_CNT 0, MTR_CH_RATIO 0, MTR_CH_GAIN 0, MTR_CH_OFS 0, MTR_CH_PHASE 0, MTR_CH_RMS 0,
      MTR_CH_STATUS 0, MTR_HEAD_GAIN_V 0, MTR_HEAD_GAIN_I 0, MTR_HEAD_OFS_V 0, MTR_HEAD_OFS_I 0, MTR_E_LO 0, MTR_E_HI 0, MTR_E_WRAP 0,
      MTR_PLS_STATUS 0, MTR_PLS_LOST 0, BIL_PERIOD_NO, BIL_CFG, BIL_TZ, BIL_TAR_E_LO 0 0, BIL_TAR_E_HI 0 0, BIL_TAR_WRAP 0 0, BIL_DMAX_VALUE 0 0,
      BIL_DMAX_UTC 0 0, BIL_DMAX_MARKS 0 0, BIL_DNOW_VALUE 0, BIL_DNOW_MARKS 0, TRI_OUT_GAP_LO 0, TRI_OUT_GAP_HI 0, TRI_OUT_UNVOTED 0,
      TRI_OUT_DEGRADED 0, TRI_HEAD_DIS_CNT 0, LDG_SNAP_FROZEN, LDG_SNAP_OVERWRITTEN, LDG_SNAP_INFO 0, LDG_SNAP_SEQ 0]⟩
  | .pulseStart _ => some ⟨[.dt, .out, .mtr], [MTR_PLS_STATUS 0]⟩
  | .pulseEnd _ => some ⟨[.dt, .out, .mtr], []⟩
  | .harmonicWindowEnd _ _ =>
    some ⟨[.dt, .out, .sets, .gen, .hif, .ldg, .mtr], eventRegs ++ [MTR_HARM_SEQ, MTR_GP_STATUS 0, MTR_GP_FREQ 0, MTR_CH_THD 0, MTR_E_LO 0,
      MTR_E_HI 0, MTR_E_WRAP 0, MTR_HARM_MAG 0, MTR_HARM_PH 0]⟩
  | .periodicSave => some ⟨[.dt, .out, .gen, .mtr], []⟩
  | .saveCommitCheck _ =>
    some ⟨[.out, .sets, .hif, .ldg, .mtr], eventRegs ++ [MTR_STATUS, MTR_SAVE_STATUS, MTR_SAVE_SEQ_LO, MTR_SAVE_SEQ_HI]⟩
  | .triadEnable _ => some ⟨[.out, .sets, .hif, .ldg, .tri], eventRegs ++ headRegs ++ [TRI_OUT_CFG 0]⟩
  | .headStandbyRequest _ _ => some ⟨[.out, .tri], []⟩
  | .headReadmitRequest _ _ => some ⟨[.out, .tri], []⟩
  | .headReadmitTimer _ => some ⟨[.dt, .out, .sets, .hif, .ldg, .tri], eventRegs ++ headRegs⟩
  | .headSelfTestResult _ _ => some ⟨[.dt, .out, .sets, .hif, .ldg, .tri, .bil], eventRegs ++ tamperRegs ++ headRegs⟩
  | .headResyncTimeout _ => some ⟨[.dt, .out, .sets, .hif, .ldg, .tri, .bil], eventRegs ++ tamperRegs ++ headRegs⟩
  | .demandSubintervalEnd =>
    some ⟨[.dt, .out, .sets, .hif, .ldg, .mtr, .bil], eventRegs ++ [BIL_PERIOD_NO, BIL_DMAX_VALUE 0 0, BIL_DMAX_UTC 0 0, BIL_DMAX_MARKS 0 0,
      BIL_DNOW_VALUE 0, BIL_DNOW_MARKS 0]⟩
  | .tariffSwitch => some ⟨[.dt, .out, .sets, .hif, .ldg, .bil], eventRegs ++ [BIL_STATUS, BIL_CFG, BIL_TZ]⟩
  | .billingPeriodClose =>
    some ⟨[.dt, .out, .sets, .hif, .ldg, .mtr, .bil], eventRegs ++ [BIL_PERIOD_NO, BIL_DMAX_VALUE 0 0, BIL_DMAX_UTC 0 0, BIL_DMAX_MARKS 0 0,
      BIL_DNOW_VALUE 0, BIL_DNOW_MARKS 0]⟩
  | .slewStep => some ⟨[.dt, .out, .sets, .gen, .hif, .ldg, .bil], eventRegs ++ [BIL_STATUS, BIL_SLEW]⟩
  | .tamperMagnetic _ => some ⟨[.free, .out, .sets, .hif, .ldg, .vss, .bil], eventRegs ++ tamperRegs ++ [BIL_TAMP_STATUS]⟩
  | .tamperCover _ _ => some ⟨[.free, .out, .sets, .hif, .ldg, .bil], eventRegs ++ tamperRegs ++ [BIL_TAMP_STATUS]⟩
  | .objChallenge _ => some ⟨[.free, .out, .hif, .bil], completionRegs⟩
  | .objLogin _ _ => some ⟨[.out, .sets, .hif, .ldg, .bil], eventRegs ++ tamperRegs⟩
  | .objGet _ _ => some ⟨[.out, .hif, .bil], completionRegs⟩
  | .objEnd _ => some ⟨[.out, .hif, .bil], completionRegs⟩
  | .associationTimeout _ => some ⟨[.dt, .out, .bil], []⟩
  | .accessLockExpiry _ => some ⟨[.dt, .out, .bil], []⟩
  | .legalTimeSet _ _ =>
    some ⟨[.out, .sets, .gen, .hif, .ldg, .mtr, .vss, .bil], eventRegs ++ tamperRegs ++ [GEN_STATUS, BIL_STATUS, BIL_PERIOD_NO, BIL_SLEW,
      BIL_TAMP_STATUS, BIL_DMAX_VALUE 0 0, BIL_DMAX_UTC 0 0, BIL_DMAX_MARKS 0 0, BIL_DNOW_VALUE 0, BIL_DNOW_MARKS 0]⟩
  | .calendarSet _ _ => some ⟨[.out, .sets, .gen, .hif, .ldg, .bil], eventRegs ++ tamperRegs⟩
  | .scrollSet _ _ => some ⟨[.out, .sets, .gen, .hif, .ldg, .bil], eventRegs ++ tamperRegs⟩
  | .calibrationWrite _ _ => some ⟨[.out, .sets, .gen, .hif, .ldg, .mtr, .tri, .bil], eventRegs ++ tamperRegs ++ headRegs ++ [MTR_CAL_CNT]⟩
  | .periodCloseAction _ =>
    some ⟨[.out, .sets, .hif, .ldg, .mtr, .bil], eventRegs ++ [BIL_PERIOD_NO, BIL_DMAX_VALUE 0 0, BIL_DMAX_UTC 0 0, BIL_DMAX_MARKS 0 0]⟩
  | .magStartupClear _ => some ⟨[.out, .sets, .hif, .ldg, .bil], eventRegs ++ [BIL_TAMP_STATUS]⟩
  | .unboundedAcknowledge _ _ => some ⟨[.out, .sets, .hif, .ldg, .bil], eventRegs ++ [MTR_STATUS]⟩
  | .sealBreak _ => some ⟨[.out, .sets, .hif, .ldg, .vss, .bil], eventRegs ++ tamperRegs ++ [BIL_STATUS]⟩
  | .sealReseal _ => some ⟨[.out, .sets, .hif, .ldg, .bil], eventRegs ++ [BIL_STATUS]⟩
  | .manRead _ _ _ _ => some ⟨[.out, .hif], completionRegs⟩
  | .manAck _ _ => some ⟨[.out, .hif, .bil], completionRegs ++ [BIL_STATUS, BIL_MAN_STATUS]⟩
  | .estimatorStep _ =>
    some ⟨[.dt, .free, .out, .sets, .hif, .ldg, .edg, .pst, .bse], eventRegs ++ [PST_EDGE_LATE, BSE_STATUS, BSE_COMMIT_SEQ_LO, BSE_COMMIT_SEQ_HI,
      BSE_STR_CAP 0, BSE_STR_SOC 0, BSE_STR_LIM 0, BSE_STR_LEARN 0, BSE_STR_STATUS 0]⟩
  | .estimatorCommit _ => some ⟨[.dt, .out, .sets, .hif, .ldg, .bse], eventRegs ++ [BSE_COMMIT_SEQ_LO, BSE_COMMIT_SEQ_HI]⟩
  | .bmsStaleTimeout _ => some ⟨[.dt, .out, .sets, .hif, .ldg], eventRegs ++ [BSE_STR_STATUS 0]⟩
  | .learnAgeTick _ => some ⟨[.dt, .out, .sets, .hif, .ldg, .bse], eventRegs ++ [BSE_STATUS, BSE_STR_LEARN 0, BSE_STR_STATUS 0]⟩
  | .stringEnable _ =>
    some ⟨[.free, .out, .sets, .hif, .ldg, .edg, .pst, .bse], eventRegs ++ [PST_EDGE_LATE, BSE_STATUS, BSE_STR_CFG 0, BSE_STR_CAP 0,
      BSE_STR_LEARN 0, BSE_STR_STATUS 0]⟩
  | .stringSwap _ => some ⟨[.out, .bse], []⟩
  | .stringForget _ => some ⟨[.out, .bse], [BSE_STR_SOC 0, BSE_STR_STATUS 0]⟩
  | .safetyEvaluation _ =>
    some ⟨[.dt, .free, .out, .sets, .hif, .ldg, .alc, .edg, .pst, .cle, .vss, .bil, .saf], eventRegs ++ sessionEndRegs ++ grantRegs ++ legRegs ++
      [ALC_STATUS, ALC_TRIP, PST_EDGE_LATE, SAF_STATUS, SAF_OUT_EN, SAF_PAIR_STATUS 0, SAF_SOUT_STATUS 0, LDG_SNAP_FROZEN, LDG_SNAP_OVERWRITTEN,
      LDG_SNAP_INFO 0, LDG_SNAP_SEQ 0]⟩
  | .cat1OutputOff _ => some ⟨[.dt, .out], [SAF_STATUS, SAF_OUT_EN, SAF_SOUT_STATUS 0]⟩
  | .safetyConfirm _ =>
    some ⟨[.out, .sets, .gen, .hif, .ldg], eventRegs ++ [SAF_STATUS, SAF_REJECT_CNT, SAF_CONFIRM, SAF_OUT_EN, SAF_SOUT_STATUS 0]⟩
  | .safetyHostReset =>
    some ⟨[.free, .out, .sets, .hif, .ldg, .alc, .edg, .pst, .cle, .vss, .bil, .saf], eventRegs ++ sessionEndRegs ++ grantRegs ++ legRegs ++
      [ALC_STATUS, ALC_TRIP, PST_EDGE_LATE, SAF_STATUS, SAF_OUT_EN, SAF_PAIR_STATUS 0, SAF_SOUT_STATUS 0, LDG_SNAP_FROZEN, LDG_SNAP_OVERWRITTEN,
      LDG_SNAP_INFO 0, LDG_SNAP_SEQ 0]⟩
  | .soutFaultClear => some ⟨[.out], [SAF_STATUS, SAF_OUT_EN, SAF_SOUT_STATUS 0]⟩
  | .soutDarkTest _ _ _ => some ⟨[.dt, .out, .sets, .hif, .ldg, .saf], eventRegs ++ [SAF_STATUS, SAF_OUT_EN, SAF_SOUT_STATUS 0]⟩
  | .lswOnWrite _ _ =>
    some ⟨[.free, .out, .sets, .hif, .ldg, .edg, .pst, .vss, .bil, .sln, .lsw], eventRegs ++ sessionEndRegs ++ switchRegs ++ [PST_EDGE_LATE,
      LSW_REJECT_CNT]⟩
  | .lswEnWrite _ _ =>
    some ⟨[.free, .out, .sets, .hif, .ldg, .edg, .pst, .vss, .bil, .sln, .lsw], eventRegs ++ sessionEndRegs ++ switchRegs ++ [PST_EDGE_LATE,
      LSW_REJECT_CNT, LSW_CH_CFG 0]⟩
  | .lswUnlock _ => some ⟨[.out, .sets, .hif, .ldg, .lsw], eventRegs ++ [LSW_REJECT_CNT, LSW_CH_STATUS 0, LSW_CH_CLAMP 0]⟩
  | .lswOvercurrent _ _ =>
    some ⟨[.dt, .free, .out, .sets, .hif, .ldg, .edg, .pst, .vss, .bil, .sln, .lsw], eventRegs ++ sessionEndRegs ++ switchRegs ++ [PST_EDGE_LATE]⟩
  | .lswThermalShutdown _ =>
    some ⟨[.free, .out, .sets, .hif, .ldg, .edg, .pst, .vss, .bil, .sln, .lsw], eventRegs ++ sessionEndRegs ++ switchRegs ++ [PST_EDGE_LATE]⟩
  | .lswTempWarn _ _ => some ⟨[.out, .sets, .hif, .ldg], eventRegs ++ [LSW_CH_STATUS 0, LSW_CH_MEAS 0]⟩
  | .lswRetry _ => some ⟨[.dt, .out, .sets, .hif, .ldg, .sln, .lsw], eventRegs ++ [LSW_STATUS, LSW_CH_STATUS 0]⟩
  | .lswRetryCntReset _ => some ⟨[.dt, .out], [LSW_CH_STATUS 0]⟩
  | .lswAggEval _ _ _ =>
    some ⟨[.dt, .free, .out, .sets, .gen, .hif, .ldg, .edg, .pst, .vss, .bil, .sln, .lsw], eventRegs ++ sessionEndRegs ++ switchRegs ++
      [PST_EDGE_LATE, LSW_SUPPLY, LSW_AGG, LSW_CH_MEAS 0]⟩
  | .lswOffstateTest _ _ _ => some ⟨[.dt, .out, .sets, .hif, .ldg, .lsw], eventRegs ++ [LSW_CH_STATUS 0]⟩
  | .vauxSurge =>
    some ⟨[.free, .out, .sets, .hif, .ldg, .edg, .pst, .vss, .bil, .sln, .lsw], eventRegs ++ sessionEndRegs ++ switchRegs ++ [PST_EDGE_LATE,
      LSW_SURGE_CNT]⟩
  | .vauxSurgeEnd _ =>
    some ⟨[.free, .out, .sets, .hif, .ldg, .edg, .pst, .vss, .bil, .sln, .lsw], eventRegs ++ sessionEndRegs ++ switchRegs ++ [PST_EDGE_LATE]⟩
  | .vauxDip => some ⟨[.free, .out, .sets, .hif, .ldg, .lsw], eventRegs ++ [LSW_STATUS, LSW_DIP_CNT]⟩
  | .vauxDipEnd _ =>
    some ⟨[.free, .out, .sets, .hif, .ldg, .edg, .pst, .vss, .bil, .sln, .lsw], eventRegs ++ sessionEndRegs ++ switchRegs ++ [PST_EDGE_LATE]⟩
  | .brownOut => none
  | .vauxReverse => none
  | .groundLost => none
  | .vauxRemoved => none
  | .holdWindowEnd =>
    some ⟨[.dt, .free, .out, .sets, .hif, .ldg, .edg, .pst, .vss, .bil, .sln, .lsw], eventRegs ++ sessionEndRegs ++ switchRegs ++ [PST_EDGE_LATE]⟩
  | .keyGenerate _ _ => some ⟨[.free, .out, .sets, .hif, .ldg, .bil, .key], eventRegs ++ tamperRegs ++ [KEY_STATUS, KEY_SLOT 0]⟩
  | .keyImport _ _ => some ⟨[.out, .sets, .hif, .ldg, .bil, .key], eventRegs ++ tamperRegs ++ [KEY_STATUS, KEY_SLOT 0]⟩
  | .keyDelete _ _ _ => some ⟨[.out, .sets, .hif, .ldg, .bil, .key], eventRegs ++ tamperRegs ++ [KEY_STATUS, KEY_SLOT 0]⟩
  | .keyGetPublic _ _ => some ⟨[.out, .sets, .hif, .ldg, .bil], eventRegs ++ tamperRegs ++ [KEY_STATUS, KEY_SLOT 0]⟩
  | .keyMakeCsr _ _ _ => some ⟨[.out, .sets, .hif, .ldg, .bil], eventRegs ++ tamperRegs ++ [KEY_STATUS, KEY_SLOT 0]⟩
  | .keySign _ _ _ => some ⟨[.out, .sets, .hif, .ldg, .bil], eventRegs ++ tamperRegs ++ [KEY_STATUS, KEY_SLOT 0]⟩
  | .keyVerify _ _ _ _ => some ⟨[.out, .sets, .hif, .ldg, .bil], eventRegs ++ tamperRegs ++ [KEY_STATUS, KEY_SLOT 0]⟩
  | .keyHmac _ _ _ => some ⟨[.out, .sets, .hif, .ldg, .bil], eventRegs ++ tamperRegs ++ [KEY_STATUS, KEY_SLOT 0]⟩
  | .keyCipher _ _ _ => some ⟨[.out, .sets, .hif, .ldg, .bil], eventRegs ++ tamperRegs ++ [KEY_STATUS, KEY_SLOT 0]⟩
  | .keyHash _ _ _ => some ⟨[.out, .hif], completionRegs⟩
  | .keyRandom _ _ => some ⟨[.free, .out, .hif], completionRegs⟩
  | .keyLoadBlob _ _ _ => some ⟨[.free, .out, .hif, .key], completionRegs ++ [KEY_WSLOT]⟩
  | .keyUnload _ _ => some ⟨[.out, .hif, .key], completionRegs ++ [KEY_WSLOT]⟩
  | .fwStage _ _ => some ⟨[.out, .sets, .hif, .ldg, .key], eventRegs ++ [KEY_FW, KEY_FW_VER_A, KEY_FW_VER_B]⟩
  | .fwActivate _ => none
  | .fwConfirm _ => some ⟨[.out, .sets, .hif, .ldg, .key], eventRegs ++ [KEY_FW, KEY_FW_SEC, KEY_FW_VER_A, KEY_FW_VER_B]⟩
  | .fwTrialTimeout => none
  | .rngFail => some ⟨[.out, .sets, .hif, .ldg, .key], eventRegs ++ [KEY_STATUS, KEY_RNG_FAILS]⟩
  | .rngRetest _ => some ⟨[.dt, .out, .sets, .hif, .ldg, .key], eventRegs ++ [KEY_STATUS]⟩
  | .rootGenRetry => some ⟨[.dt, .free, .out, .sets, .hif, .ldg, .bil, .key], eventRegs ++ tamperRegs ++ [KEY_STATUS]⟩
  | .debugOpenRequest => some ⟨[.free, .out, .key], []⟩
  | .debugAuthResponse _ _ =>
    some ⟨[.out, .sets, .hif, .ldg, .mtr, .bil, .key], eventRegs ++ tamperRegs ++ [GEN_LIFECYCLE, GEN_CHG_READY, BIL_STATUS, BIL_PERIOD_NO,
      BIL_TAMP_STATUS, BIL_DMAX_VALUE 0 0, BIL_DMAX_UTC 0 0, BIL_DMAX_MARKS 0 0, KEY_STATUS, KEY_WSLOT, KEY_SLOT 0]⟩
  | .debugClose => some ⟨[.out, .key], []⟩
  | .submitDoorbell _ _ => some ⟨[.out, .sets, .hif, .ldg], eventRegs ++ [HIF_DB_ERR]⟩
  | .headDoorbell _ _ => some ⟨[.out, .sets, .hif, .ldg], eventRegs ++ [HIF_DB_ERR]⟩
  | .descriptorFetch _ _ _ => some ⟨[.out, .hif], completionRegs⟩
  | .nop _ => some ⟨[.out, .hif], completionRegs⟩
  | .regRead _ _ => none
  | .regWrite _ _ => none
  | .longCancel _ _ =>
    some ⟨[.free, .out, .sets, .gen, .hif, .ldg, .pst, .thm, .tri, .bil, .key], eventRegs ++ tamperRegs ++ headRegs ++ pisteRegs ++ [GEN_TEST,
      THM_STATUS, THM_CAB_LIMIT 0, THM_CAB_STATUS 0, PST_TWIN, PST_PHY_CTL 0, PST_PHY_EQ 0, PST_PHY_DFE 0, PST_PHY_BLKERR 0, PST_PHY_LOCKLOSS 0,
      VSS_OUT_REQ 0, VSS_OUT_EVLIM 0, BIL_TAMP_STATUS, SAF_STATUS, SAF_OUT_EN, SAF_SOUT_STATUS 0, KEY_STATUS, KEY_FW, KEY_FW_VER_A, KEY_FW_VER_B]⟩
  | .longOperationDone _ _ =>
    some ⟨[.dt, .free, .out, .sets, .gen, .hif, .ldg, .pst, .tri, .bil, .key], eventRegs ++ tamperRegs ++ headRegs ++ pisteRegs ++ [GEN_TEST,
      PST_TWIN, PST_PHY_CTL 0, PST_PHY_EQ 0, PST_PHY_DFE 0, PST_PHY_BLKERR 0, PST_PHY_LOCKLOSS 0, BIL_TAMP_STATUS, SAF_STATUS, SAF_OUT_EN,
      SAF_SOUT_STATUS 0, KEY_STATUS, KEY_FW, KEY_FW_VER_A, KEY_FW_VER_B]⟩
  | .longPartialReady _ _ _ _ => some ⟨[.out, .sets, .hif, .ldg], eventRegs⟩
  | .test _ _ =>
    some ⟨[.free, .out, .sets, .gen, .hif, .ldg, .pst, .tri, .bil], eventRegs ++ tamperRegs ++ headRegs ++ pisteRegs ++ [GEN_TEST, PST_PHY_CTL 0,
      PST_PHY_PRBS 0, BIL_TAMP_STATUS, SAF_STATUS, SAF_OUT_EN, SAF_SOUT_STATUS 0, KEY_STATUS]⟩
  | .testWindowOpen _ _ =>
    some ⟨[.dt, .free, .out, .sets, .gen, .hif, .ldg, .pst, .tri, .bil], eventRegs ++ tamperRegs ++ headRegs ++ pisteRegs ++ [GEN_TEST,
      PST_PHY_CTL 0, PST_PHY_PRBS 0, BIL_TAMP_STATUS, SAF_STATUS, SAF_OUT_EN, SAF_SOUT_STATUS 0, KEY_STATUS]⟩
  | .testExpiry _ => some ⟨[.dt, .out, .sets, .gen, .hif, .ldg], eventRegs ++ [GEN_TEST]⟩
  | .cfgWrite _ _ =>
    some ⟨[.out, .sets, .gen, .hif, .ldg, .bil], eventRegs ++ [MTR_CAL_CNT, BIL_STATUS, SAF_STATUS, SAF_CONFIRM, SAF_OUT_EN, SAF_SOUT_STATUS 0]⟩
  | .ringEnable _ => some ⟨[.free, .out, .sets, .hif, .ldg], eventRegs ++ [HIF_RING_CFG 0]⟩
  | .ringDisable _ => some ⟨[.out], [HIF_REJECT_CNT, HIF_RING_CFG 0, HIF_RING_STATUS 0]⟩
  | .vectorTimeExpiry _ => some ⟨[.dt, .out, .hif], [HIF_MSIX_PBA 0]⟩
  | .pcieLinkLoss _ =>
    some ⟨[.out, .sets, .hif, .ldg, .thm, .can], eventRegs ++ [HIF_LINK_EPOCH, HIF_RING_CFG 0, HIF_MSIX_ADDR_LO 0, HIF_MSIX_ADDR_HI 0,
      HIF_MSIX_DATA 0, HIF_MSIX_CTRL 0, THM_STATUS, THM_CAB_LIMIT 0, THM_CAB_STATUS 0, VSS_OUT_REQ 0, VSS_OUT_EVLIM 0]⟩
  | .dmaError _ =>
    some ⟨[.out, .sets, .hif, .ldg, .thm, .sln], eventRegs ++ [THM_STATUS, THM_CAB_LIMIT 0, THM_CAB_STATUS 0, VSS_OUT_REQ 0, VSS_OUT_EVLIM 0]⟩
  | .uartFrameReceived _ => some ⟨[.out, .hif], completionRegs ++ [HIF_UART_ERR]⟩
  | .modeRunRequest =>
    some ⟨[.dt, .free, .out, .sets, .hif, .ldg, .alc, .pst, .tri, .bil], eventRegs ++ tamperRegs ++ headRegs ++ pisteRegs ++ [GEN_PWR,
      GEN_CHG_READY, PST_TWIN, PST_PHY_EQ 0, PST_PHY_DFE 0, PST_PHY_BLKERR 0, PST_PHY_LOCKLOSS 0]⟩
  | .modeIdleRequest =>
    some ⟨[.free, .out, .sets, .hif, .ldg, .alc, .pst, .tri, .bil], eventRegs ++ tamperRegs ++ headRegs ++ pisteRegs ++ [GEN_PWR, GEN_CHG_READY,
      GEN_REJECT_CNT, PST_TWIN, PST_PHY_EQ 0, PST_PHY_DFE 0, PST_PHY_BLKERR 0, PST_PHY_LOCKLOSS 0]⟩
  | .modeStandbyRequest =>
    some ⟨[.free, .out, .sets, .hif, .ldg, .alc, .pst, .tri], eventRegs ++ headRegs ++ pisteRegs ++ [GEN_PWR, GEN_CHG_READY, GEN_REJECT_CNT,
      PST_PHY_EQ 0]⟩
  | .hibernateRequest _ _ _ => none
  | .hibernateWake _ _ _ => none
  | .ldgRead _ _ => some ⟨[.out, .sets, .hif, .ldg], eventRegs⟩
  | .ldgFreeze => some ⟨[.out, .sets, .hif, .ldg], eventRegs ++ [LDG_SNAP_FROZEN, LDG_SNAP_OVERWRITTEN, LDG_SNAP_INFO 0, LDG_SNAP_SEQ 0]⟩
  | .ldgRelease _ => some ⟨[.out, .ldg], [LDG_STATUS, LDG_SNAP_FROZEN]⟩
  | .ledgerWrite => some ⟨[.dt, .out, .ldg], [LDG_STATUS, LDG_SEQ]⟩
  | .sessionClosingTimeout _ => some ⟨[.dt, .out, .vss], [VSS_STATUS, VSS_OUT_STATE 0]⟩
  | .failHoldExpiry _ => some ⟨[.dt, .out, .pst], []⟩
  | .nodeUnsynced _ => some ⟨[.out, .sln], []⟩

/-! Which commands the device takes in a state -/

/-- What serves a command. `always`: a pin, the supply or a node, whatever the device does. `live`: a function of the running device.
`run`: a function that needs firmware (R513). `reg b`: a host write to a register of block b. `host src uart fw`: a descriptor, with whether
its opcode is served over the service UART (R499) and in FW_BAD (R513). `obj o`: a request of object access (R368). `power`: a function of the
power die, which runs while VAUX feeds it (R438). -/
inductive Gate
  | always
  | live
  | run
  | reg (block : Nat)
  | host (src : Src) (uart fw : Bool)
  | obj (o : ObjSrc)
  | power
deriving DecidableEq, Repr

/-- The device takes the command. -/
def Gate.opens (d : Dev) : Gate → Bool
  | .always => true
  | .live => d.live
  | .run => d.serving
  | .reg b => d.live && d.blockServed b
  | .host src uart fw => d.live && (uart || !Dev.overUart src) && (fw || d.serving)
  | .obj _ => d.serving
  | .power => !(d.gen.phase == .off || d.get LSW_STATUS_SUPPLY == 3)

/-- What is left of a command the device does not take: a register write of the running device is without effect and before host-ready is
answered Unsupported Request (R477); a request of the running device completes NOT_IN_CHANNEL (R499, R513); anything else does nothing. -/
def Gate.shut (d : Dev) : Gate → Dev
  | .reg _ => if d.live then d else d.emit .unsupported
  | .host src _ _ => if d.live then d.complete src ST_HIF_NOT_IN_CHANNEL else d
  | .obj o => if d.live then d.objReply o ST_HIF_NOT_IN_CHANNEL else d
  | _ => d

/-- What serves each command. -/
def gateOf : Instr → Gate
  | .registerWrite offset _ => .reg (offset.toNat / 0x10000)
  | .reg64LowRead _ => .always
  | .reg64LowWrite offset _ => .reg (offset.toNat / 0x10000)
  | .reg64HighWrite offset _ => .reg (offset.toNat / 0x10000)
  | .clearOnReadRead _ _ => .always
  | .powerOnReset _ => .always
  | .resetRelease _ => .always
  | .pcieEarlyRequest _ => .always
  | .rootPllLockLoss => .always
  | .dieLinkFail => .always
  | .sramEccError _ _ _ => .live
  | .watchdogExpiry => .run
  | .rtcRateCheck _ => .run
  | .resetPinAssert => .always
  | .resetPinRelease => .always
  | .resetPinStuck _ => .always
  | .resetPinArm => .always
  | .resetPinIgnored => .always
  | .hostReset _ => .reg 0x00
  | .shReqWrite _ => .reg 0x00
  | .factoryClose _ _ => .run
  | .lifecycle src _ => .host src false false
  | .allocationTick => .run
  | .grantSolveComplete _ _ => .run
  | .alcRunWrite _ => .reg 0x02
  | .alcHostTrip _ => .reg 0x02
  | .alcTripClear => .reg 0x02
  | .tripClear src => .host src false false
  | .gridPointRecount _ => .run
  | .legArm _ _ => .reg 0x03
  | .legDisarm _ => .reg 0x03
  | .legForceWrite _ _ => .reg 0x03
  | .legCutoff _ => .run
  | .fltInputAssert _ => .run
  | .slotSample _ _ _ => .run
  | .slotExecutionComplete _ => .run
  | .slotDeadlineMiss _ => .run
  | .slotOpen _ => .reg 0x04
  | .slotClose _ => .reg 0x04
  | .slotFaultClear _ => .reg 0x04
  | .cableObserverStep _ _ _ _ => .run
  | .cableFlowTrip _ => .run
  | .cableTripClear _ => .run
  | .cableLimitPublish _ => .run
  | .sensorSample _ _ => .run
  | .bandFall _ => .run
  | .dieTempSample _ _ _ => .run
  | .dieOvertempRelease => .always
  | .cableEnable _ => .reg 0x05
  | .identify l _ _ _ => .host l.src false false
  | .identifyPhaseEnd _ => .run
  | .pisteEnable _ => .reg 0x06
  | .pisteDisable _ => .reg 0x06
  | .pisteRestart _ => .reg 0x06
  | .rxLock rx => (match rx with | .device _ => .run | .node _ _ => .always)
  | .rxLockLoss _ => .run
  | .rxInversionDetected rx => (match rx with | .device _ => .run | .node _ _ => .always)
  | .pisteTrainDone _ _ _ => .run
  | .pisteTrainTimeout _ _ => .run
  | .pisteAdaptDone _ _ _ => .run
  | .pisteVerifyDone _ _ => .run
  | .pisteRelockTimeout _ => .run
  | .pisteFailedRetry _ => .run
  | .ctleSweepStep _ _ _ => .run
  | .eqTrial _ _ _ _ _ => .run
  | .dfeLmsStep _ _ _ => .run
  | .fomUpdate _ _ _ _ _ _ => .run
  | .echoComplete _ _ => .run
  | .censusMark _ _ => .run
  | .markReturn _ _ _ => .run
  | .censusReplyReceived _ => .run
  | .pstAdmitAccept _ => .reg 0x06
  | .pstAdmitForget _ => .reg 0x06
  | .teleFrameReceived _ => .run
  | .measFrameReceived _ => .run
  | .tunFrameReceived _ => .run
  | .nodeCtrl src _ => .host src false false
  | .ctrlResponseReceived _ => .run
  | .ctrlRetry => .run
  | .ctrlTimeout => .run
  | .nodeMarkForward _ _ _ _ _ => .always
  | .nodeRunOwn _ _ _ _ _ _ _ => .always
  | .nodeSyncApply _ _ => .always
  | .nodeTimeStale _ => .always
  | .nodeLegBoundary _ _ => .always
  | .nodeFaultInput _ _ _ => .always
  | .nodeRxAlignLoss _ _ _ => .always
  | .nodeNoRunTimeout _ => .always
  | .superframeStart => .run
  | .slnPollSend _ => .run
  | .slnReplyReceived _ _ => .run
  | .slnReplyTimeout _ => .run
  | .slnRelayForward _ _ => .always
  | .slnJoinReq _ => .run
  | .slnAdmitAccept _ => .reg 0x07
  | .slnAdmitForget _ => .reg 0x07
  | .slnRouteRecompute => .run
  | .slnTmapExpiry _ _ => .run
  | .slnNoiseImpulse => .run
  | .slnNoiseHoldEnd => .run
  | .slnWakeFrame _ _ _ => .always
  | .slnSend src _ _ => .host src false false
  | .slnRecv src _ => .host src false false
  | .displayItemDue => .run
  | .dspTransaction _ _ _ => .run
  | .v2gRequest _ _ _ => .run
  | .vlinkPoll _ => .run
  | .sessionStateTimeout _ => .run
  | .authTimeout _ => .run
  | .certInstallTimeout _ => .run
  | .refusalHoldMax _ => .run
  | .chargeLoopTimeout _ => .run
  | .cableCheckVoltageReached _ => .run
  | .energisationInstant _ => .run
  | .stopCurrentLow _ => .run
  | .stopUnderLoad _ => .run
  | .contactorOpened _ => .run
  | .contactorOpenRetry _ => .run
  | .weldCheck _ => .run
  | .manifestLateSign => .run
  | .sessionStop _ => .reg 0x08
  | .weldClear _ => .reg 0x08
  | .authAnswer src _ => .host src false false
  | .certResponse src _ _ => .host src false false
  | .chainSet src _ _ => .host src false false
  | .anchorSet src _ _ => .host src false false
  | .commission src _ => .host src false false
  | .canEnable _ => .reg 0x09
  | .canDisable _ _ => .reg 0x09
  | .canRecover _ => .reg 0x09
  | .canTx src _ => .host src false false
  | .canTxComplete _ _ _ _ => .run
  | .canFrameReceived _ _ _ => .run
  | .canBusError _ _ => .run
  | .canRecoveryComplete _ => .run
  | .blockCommit _ _ => .run
  | .pulseStart _ => .run
  | .pulseEnd _ => .run
  | .harmonicWindowEnd _ _ => .run
  | .periodicSave => .run
  | .saveCommitCheck _ => .run
  | .triadEnable _ => .reg 0x0D
  | .headStandbyRequest _ _ => .reg 0x0D
  | .headReadmitRequest _ _ => .reg 0x0D
  | .headReadmitTimer _ => .run
  | .headSelfTestResult _ _ => .run
  | .headResyncTimeout _ => .run
  | .demandSubintervalEnd => .run
  | .tariffSwitch => .run
  | .billingPeriodClose => .run
  | .slewStep => .run
  | .tamperMagnetic _ => .always
  | .tamperCover _ _ => .always
  | .objChallenge o => .obj o
  | .objLogin o _ => .obj o
  | .objGet o _ => .obj o
  | .objEnd o => .obj o
  | .associationTimeout _ => .run
  | .accessLockExpiry _ => .run
  | .legalTimeSet o _ => .obj o
  | .calendarSet o _ => .obj o
  | .scrollSet o _ => .obj o
  | .calibrationWrite o _ => .obj o
  | .periodCloseAction o => .obj o
  | .magStartupClear o => .obj o
  | .unboundedAcknowledge o _ => .obj o
  | .sealBreak o => .obj o
  | .sealReseal o => .obj o
  | .manRead src _ _ _ => .host src false false
  | .manAck src _ => .host src false false
  | .estimatorStep _ => .run
  | .estimatorCommit _ => .run
  | .bmsStaleTimeout _ => .run
  | .learnAgeTick _ => .run
  | .stringEnable _ => .reg 0x0C
  | .stringSwap _ => .reg 0x0C
  | .stringForget _ => .reg 0x0C
  | .safetyEvaluation _ => .run
  | .cat1OutputOff _ => .run
  | .safetyConfirm _ => .reg 0x0E
  | .safetyHostReset => .reg 0x0E
  | .soutFaultClear => .reg 0x0E
  | .soutDarkTest _ _ _ => .run
  | .lswOnWrite _ _ => .reg 0x0F
  | .lswEnWrite _ _ => .reg 0x0F
  | .lswUnlock _ => .reg 0x0F
  | .lswOvercurrent _ _ => .power
  | .lswThermalShutdown _ => .power
  | .lswTempWarn _ _ => .power
  | .lswRetry _ => .power
  | .lswRetryCntReset _ => .power
  | .lswAggEval _ _ _ => .power
  | .lswOffstateTest _ _ _ => .power
  | .vauxSurge => .power
  | .vauxSurgeEnd _ => .power
  | .vauxDip => .power
  | .vauxDipEnd _ => .power
  | .brownOut => .always
  | .vauxReverse => .always
  | .groundLost => .always
  | .vauxRemoved => .always
  | .holdWindowEnd => .always
  | .keyGenerate l _ => .host l.src false false
  | .keyImport l _ => .host l.src false false
  | .keyDelete src _ _ => .host src false false
  | .keyGetPublic src _ => .host src false false
  | .keyMakeCsr l _ _ => .host l.src false false
  | .keySign l _ _ => .host l.src false false
  | .keyVerify l _ _ _ => .host l.src false false
  | .keyHmac src _ _ => .host src false false
  | .keyCipher src _ _ => .host src false false
  | .keyHash src _ _ => .host src false false
  | .keyRandom src _ => .host src false false
  | .keyLoadBlob src _ _ => .host src false false
  | .keyUnload src _ => .host src false false
  | .fwStage l _ => .host l.src false true
  | .fwActivate src => .host src false true
  | .fwConfirm src => .host src false false
  | .fwTrialTimeout => .live
  | .rngFail => .live
  | .rngRetest _ => .live
  | .rootGenRetry => .live
  | .debugOpenRequest => .live
  | .debugAuthResponse _ _ => .live
  | .debugClose => .live
  | .submitDoorbell _ _ => .reg 0x01
  | .headDoorbell _ _ => .reg 0x01
  | .descriptorFetch _ _ _ => .live
  | .nop src => .host src true true
  | .regRead src _ => .host src true true
  | .regWrite src _ => .host src false true
  | .longCancel src _ => .host src false true
  | .longOperationDone _ _ => .live
  | .longPartialReady _ _ _ _ => .live
  | .test l _ => .host l.src false true
  | .testWindowOpen _ _ => .live
  | .testExpiry _ => .live
  | .cfgWrite l _ => .host l.src false false
  | .ringEnable _ => .reg 0x01
  | .ringDisable _ => .reg 0x01
  | .vectorTimeExpiry _ => .live
  | .pcieLinkLoss _ => .live
  | .dmaError _ => .live
  | .uartFrameReceived _ => .live
  | .modeRunRequest => .reg 0x00
  | .modeIdleRequest => .reg 0x00
  | .modeStandbyRequest => .reg 0x00
  | .hibernateRequest _ _ _ => .reg 0x00
  | .hibernateWake _ _ _ => .always
  | .ldgRead l _ => .host l.src true true
  | .ldgFreeze => .reg 0x11
  | .ldgRelease _ => .reg 0x11
  | .ledgerWrite => .live
  | .sessionClosingTimeout _ => .run
  | .failHoldExpiry _ => .always
  | .nodeUnsynced _ => .always

/-- The device takes the command in this state. -/
def taken (c : Instr) (s : State) : Bool := (gateOf c).opens s.dev

/-- The command answers a next state, leaves the queue as it was, and `P` holds of the device after it. -/
def Completes (c : Instr) (s : State) (P : Dev → Prop) : Prop :=
  ∃ t, exec c s = .next t ∧ t.pending = s.pending ∧ P t.dev

end Sys2Proof.Machine
end

