-- ==== Sys2Proof/Certificates/Slice0/Obligations.lean ====
section
/-! DEFINITION. The statements for the provers, one `def Obligations.<Name> : Prop` each. The statements of a family have one clause for each way a command of it goes: hypotheses on the state and the operands
alone, and the conclusion that `exec` answers a next state, with what that state holds (`Completes`, `taken` and `gateOf` stand in Sys2Proof/Safety.lean). -/

open Sys2Proof
open Sys2Proof.Machine

/-- A force is written as it is; a disarm clears ARMED of an armed leg, leaving its fault and its force, and has no effect on a leg that is not armed (R97), nor on the second
pin of a pair (R108). Arming an armed leg has no effect; a refused arm leaves the leg disarmed with the low byte of the first failing code in ARM_ERR and answers that
code; an accepted arm of a local output sets ARMED, clears FAULT and its cause, and clears ARM_ERR (R99, R100). An arm of a piste leg that meets the conditions judged at
once reads the LEG_CFG of its node and leaves the leg disarmed until the response (R99); that a second arm before the response has no effect is the model's choice (log
entry 19). EDG_CTRL.EN = 0 refuses with ARM_DISABLED. -/
def Obligations.LegCommands : Prop :=
  (∀ (s : State) (leg : LegRef) (force : BitVec 2), taken (.legForceWrite leg force) s = true →
    Completes (.legForceWrite leg force) s (fun t =>
      t.get (EDG_LEG_CTL_FORCE leg.ix) = force.toNat ∧ t.edg = s.dev.edg ∧ t.out = [.writeStatus ST_OK])) ∧
  (∀ (s : State) (leg : LegRef), taken (.legDisarm leg) s = true → s.dev.isSecondPin leg.ix = false → s.dev.armed leg.ix = true →
    Completes (.legDisarm leg) s (fun t =>
      t.armed leg.ix = false ∧ t.legFaulted leg.ix = s.dev.legFaulted leg.ix ∧
        t.get (EDG_LEG_CTL_FORCE leg.ix) = s.dev.get (EDG_LEG_CTL_FORCE leg.ix))) ∧
  (∀ (s : State) (leg : LegRef), taken (.legDisarm leg) s = true → (s.dev.isSecondPin leg.ix || !s.dev.armed leg.ix) = true →
    Completes (.legDisarm leg) s (fun t => t.regs = s.dev.regs ∧ t.edg = s.dev.edg ∧ t.out = [.writeStatus ST_OK])) ∧
  (∀ (s : State) (leg : LegRef) (pins : BitVec 4), taken (.legArm leg pins) s = true →
    (s.dev.armed leg.ix || s.dev.isSecondPin leg.ix || s.dev.armReading leg.ix) = true →
    Completes (.legArm leg pins) s (fun t => t.regs = s.dev.regs ∧ t.edg = s.dev.edg ∧ t.pst = s.dev.pst ∧ t.out = [.writeStatus ST_OK])) ∧
  (∀ (s : State) (n : Fin 24) (pins : BitVec 4) (c : Code), taken (.legArm (.pwm n) pins) s = true → s.dev.armed (LegRef.pwm n).ix = false →
    s.dev.isSecondPin (LegRef.pwm n).ix = false → s.dev.armReading (LegRef.pwm n).ix = false → s.dev.armCheck (LegRef.pwm n).ix none pins = some c →
    Completes (.legArm (.pwm n) pins) s (fun t =>
      t.armed (LegRef.pwm n).ix = false ∧ t.get (EDG_LEG_CTL_ARM_ERR (LegRef.pwm n).ix) = c.toNat % 256 ∧ t.edg = s.dev.edg ∧
        .writeStatus c ∈ t.out)) ∧
  (∀ (s : State) (n : Fin 24) (pins : BitVec 4), taken (.legArm (.pwm n) pins) s = true → s.dev.armed (LegRef.pwm n).ix = false →
    s.dev.isSecondPin (LegRef.pwm n).ix = false → s.dev.armReading (LegRef.pwm n).ix = false → s.dev.armCheck (LegRef.pwm n).ix none pins = none →
    Completes (.legArm (.pwm n) pins) s (fun t =>
      t.armed (LegRef.pwm n).ix = true ∧ t.legFaulted (LegRef.pwm n).ix = false ∧ t.get (EDG_LEG_CTL_FAULT_CAUSE (LegRef.pwm n).ix) = 0 ∧
        t.get (EDG_LEG_CTL_ARM_ERR (LegRef.pwm n).ix) = 0 ∧ .writeStatus ST_OK ∈ t.out)) ∧
  (∀ (s : State) (leg : Fin 384) (pins : BitVec 4) (c : Code), taken (.legArm (.leg leg) pins) s = true → s.dev.armed (LegRef.leg leg).ix = false →
    s.dev.armReading (LegRef.leg leg).ix = false → s.dev.armCheck6 (LegRef.leg leg).ix = some c →
    Completes (.legArm (.leg leg) pins) s (fun t =>
      t.armed (LegRef.leg leg).ix = false ∧ t.get (EDG_LEG_CTL_ARM_ERR (LegRef.leg leg).ix) = c.toNat % 256 ∧ t.edg = s.dev.edg ∧
        t.pst = s.dev.pst ∧ .writeStatus c ∈ t.out)) ∧
  (∀ (s : State) (leg : Fin 384) (pins : BitVec 4) (n : Fin 128), taken (.legArm (.leg leg) pins) s = true → s.dev.armed (LegRef.leg leg).ix = false →
    s.dev.armReading (LegRef.leg leg).ix = false → s.dev.armCheck6 (LegRef.leg leg).ix = none → s.dev.stageNode (leg.val / 6) = some n →
    Completes (.legArm (.leg leg) pins) s (fun t =>
      t.armed (LegRef.leg leg).ix = false ∧ t.armReading (LegRef.leg leg).ix = true ∧
        ∃ r : CtrlReq, t.pst.ctrl = s.dev.pst.ctrl ++ [r] ∧ r.node = n.val ∧ r.frame.write = false ∧ r.frame.addr = 0x0013 + 4 * (leg.val % 6) ∧
          r.frame.count = 1 ∧ r.why = .armMask (LegRef.leg leg).ix)) ∧
  (∀ (s : State) (leg : LegRef) (m : Option (BitVec 6)) (pins : BitVec 4), s.dev.flag EDG_CTRL_EN = false →
    s.dev.armCheck leg.ix m pins = some ST_EDG_ARM_DISABLED)

/-- An allocation tick falls on a DT multiple of 10 ms when the tick before it did, is shown in ALC_TICK and freezes a snapshot; the solve of a frozen tick shows its time, at
most 500 microseconds, and a solve gone wrong counts in SOLVE_FAILS, which saturates; with no frozen tick (an immediate set has overtaken it) a solve does nothing (R23,
R44, R74). Writing RUN 1 sets it, RUN 0 is refused BUSY_LIVE and counted while the site is live and otherwise clears it, and RUNNING follows at the next tick only (R76);
a lost grid point whose loss report has gone for 10 s counts again (R72). The solve's time within the bound is a free value of the model (log entry 3). -/
def Obligations.AllocatorTicksAndRun : Prop :=
  (∀ s : State, taken .allocationTick s = true →
    Completes .allocationTick s (fun t =>
      s.dev.dt ≤ t.dt ∧ t.alc.lastTick = some t.dt ∧ t.alc.frozen.isSome = true ∧ t.alc.lastIn = t.alc.frozen ∧
        t.get64 ALC_TICK_LO = BitVec.ofNat 64 (t.dt / Dev.ms 10) ∧
        (s.dev.alc.lastTick.all (fun l => l % Dev.ms 10 == 0) = true → t.dt % Dev.ms 10 = 0))) ∧
  (∀ (s : State) (us : Nat) (fault : Bool), taken (.grantSolveComplete us fault) s = true → s.dev.alc.frozen = none →
    Completes (.grantSolveComplete us fault) s (fun t => t = s.dev.start)) ∧
  (∀ (s : State) (us : Nat) (fault : Bool), taken (.grantSolveComplete us fault) s = true → s.dev.alc.frozen.isSome = true →
    Completes (.grantSolveComplete us fault) s (fun t =>
      t.get ALC_STATUS_SOLVE_US = min us 500 ∧
        (t.get ALC_STATUS_SOLVE_FAILS = min (s.dev.get ALC_STATUS_SOLVE_FAILS + 1) 255 ∨
          fault = false ∧ t.get ALC_STATUS_SOLVE_FAILS = 0))) ∧
  (∀ s : State, taken (.alcRunWrite true) s = true →
    Completes (.alcRunWrite true) s (fun t => t.flag ALC_CTRL_RUN = true ∧ t.flag ALC_STATUS_RUNNING = s.dev.flag ALC_STATUS_RUNNING ∧
      .writeStatus ST_OK ∈ t.out)) ∧
  (∀ s : State, taken (.alcRunWrite false) s = true → s.dev.flag ALC_CTRL_RUN = true → s.dev.siteLive = true →
    Completes (.alcRunWrite false) s (fun t =>
      t.flag ALC_CTRL_RUN = true ∧ t.get ALC_REJECT_CNT_CNT = min (s.dev.get ALC_REJECT_CNT_CNT + 1) 65535 ∧ .writeStatus ST_BUSY_LIVE ∈ t.out)) ∧
  (∀ s : State, taken (.alcRunWrite false) s = true → (s.dev.flag ALC_CTRL_RUN = false ∨ s.dev.siteLive = false) →
    Completes (.alcRunWrite false) s (fun t =>
      t.flag ALC_CTRL_RUN = false ∧ t.flag ALC_STATUS_RUNNING = s.dev.flag ALC_STATUS_RUNNING ∧ .writeStatus ST_OK ∈ t.out)) ∧
  (∀ (s : State) (g : Fin 2), taken (.gridPointRecount g) s = true → (s.dev.alc.gpBack[g] = none ∨ s.dev.alc.gpCounts[g] = true) →
    Completes (.gridPointRecount g) s (fun t => t = s.dev.start)) ∧
  (∀ (s : State) (g : Fin 2) (t0 : Nat), taken (.gridPointRecount g) s = true → s.dev.alc.gpBack[g] = some t0 → s.dev.alc.gpCounts[g] = false →
    Completes (.gridPointRecount g) s (fun t => t.alc.gpCounts = s.dev.alc.gpCounts.set g true ∧ t.dt = max s.dev.dt (t0 + Dev.sec 10)))

/-- Only a CLOSED slot that does not wait to open samples; with no execution outstanding it samples at its next sample instant, and then either one execution is queued with
that instant or the slot misses as STALE (R116, R117). With nothing queued or started an execution's end and its deadline do nothing. The execution that a pipeline is to
start next completes its cost and 40 ns after its start, at a CTL tick (R118). A deadline that passes with the execution not started, or started and not complete, drops
it, sets MISS with cause LATE and counts in both counters; an execution in time whose results are finite writes the outputs of its control law and ends the run of misses;
one that ends after its deadline has missed as LATE too; at the third consecutive miss the slot is OPEN and FAULT with its outputs at FAULT_VALUE (R118, R135, R136). -/
def Obligations.SlotRuns : Prop :=
  (∀ (s : State) (m : Fin 128) (a b : Word), taken (.slotSample m a b) s = true → (s.dev.slotClosed m = false ∨ s.dev.cle.slots[m].opening = true) →
    Completes (.slotSample m a b) s (fun t => t = s.dev.start)) ∧
  (∀ (s : State) (m : Fin 128) (a b : Word), taken (.slotSample m a b) s = true → s.dev.slotClosed m = true → s.dev.cle.slots[m].opening = false →
    s.dev.cle.slots[m].queued = none → s.dev.cle.slots[m].started = none →
    Completes (.slotSample m a b) s (fun t =>
      t.dt = max s.dev.dt (s.dev.nextSample m) ∧ t.cle.slots[m].lastSample = some t.dt ∧
        (t.cle.slots[m].queued.any (fun e => e.sampleDt == t.dt) = true ∨
          t.flag (CLE_SLOT_CTL_MISS m) = true ∧ t.get (CLE_SLOT_CTL_MISS_CAUSE m) = 2))) ∧
  (∀ (s : State) (m : Fin 128), taken (.slotExecutionComplete m) s = true → s.dev.cle.slots[m].queued = none → s.dev.cle.slots[m].started = none →
    Completes (.slotExecutionComplete m) s (fun t => t = s.dev.start)) ∧
  (∀ (s : State) (m : Fin 128) (e : SlotExec) (c : Nat), taken (.slotExecutionComplete m) s = true → s.dev.cle.slots[m].queued = some e →
    s.dev.nextStart = some (c, m) →
    Completes (.slotExecutionComplete m) s (fun t => t.cle.slots[m].queued = none ∧ t.cle.slots[m].started = none ∧
      t.dt = max s.dev.dt (Dev.fabTick (c + s.dev.slotCost m + 16)))) ∧
  (∀ (s : State) (m : Fin 128) (e : SlotExec) (done : Nat), taken (.slotExecutionComplete m) s = true → s.dev.cle.slots[m].queued = none →
    s.dev.cle.slots[m].started = some (e, done) → e.sampleDt + s.dev.slotDeadline m < done →
    Completes (.slotExecutionComplete m) s (fun t => t.dt = max s.dev.dt done ∧ t.cle.slots[m].started = none ∧
      t.flag (CLE_SLOT_CTL_MISS m) = true ∧ t.get (CLE_SLOT_CTL_MISS_CAUSE m) = 1)) ∧
  (∀ (s : State) (m : Fin 128) (e : SlotExec) (done : Nat) (u : Dev), taken (.slotExecutionComplete m) s = true →
    s.dev.cle.slots[m].queued = none → s.dev.cle.slots[m].started = some (e, done) → done ≤ e.sampleDt + s.dev.slotDeadline m →
    u = s.dev.start.reach done →
    ([(Dev.runLaw (u.get (CLE_SLOT_CFG_TYPE m)) (u.lawIn m e).1).1.y0, (Dev.runLaw (u.get (CLE_SLOT_CFG_TYPE m)) (u.lawIn m e).1).1.y1, (Dev.runLaw (u.get (CLE_SLOT_CFG_TYPE m)) (u.lawIn m e).1).2.1, (Dev.runLaw (u.get (CLE_SLOT_CFG_TYPE m)) (u.lawIn m e).1).2.2,
      (u.lawIn m e).2, (u.lawIn m e).1.a] ++ (Dev.runLaw (u.get (CLE_SLOT_CFG_TYPE m)) (u.lawIn m e).1).1.st).all F32.finite = true →
    Completes (.slotExecutionComplete m) s (fun t =>
      t.rd (CLE_SLOT_OUT0 m) = (Dev.runLaw (u.get (CLE_SLOT_CFG_TYPE m)) (u.lawIn m e).1).1.y0 ∧ t.rd (CLE_SLOT_OUT1 m) = (Dev.runLaw (u.get (CLE_SLOT_CFG_TYPE m)) (u.lawIn m e).1).1.y1 ∧
        t.get (CLE_SLOT_CTL_MISS_RUN m) = 0 ∧ t.dt = u.dt ∧ t.cle.slots[m].started = none)) ∧
  (∀ (s : State) (m : Fin 128), taken (.slotDeadlineMiss m) s = true → s.dev.cle.slots[m].queued = none →
    s.dev.cle.slots[m].started.all (fun x => decide (x.2 ≤ x.1.sampleDt + s.dev.slotDeadline m)) = true →
    Completes (.slotDeadlineMiss m) s (fun t => t = s.dev.start)) ∧
  (∀ (s : State) (m : Fin 128) (e : SlotExec), taken (.slotDeadlineMiss m) s = true →
    (s.dev.cle.slots[m].queued = some e ∧ s.dev.nextStart = none ∨
      s.dev.cle.slots[m].queued = none ∧ ∃ done, s.dev.cle.slots[m].started = some (e, done) ∧ e.sampleDt + s.dev.slotDeadline m < done) →
    Completes (.slotDeadlineMiss m) s (fun t =>
      t.cle.slots[m].queued = none ∧ t.cle.slots[m].started = none ∧ t.flag (CLE_SLOT_CTL_MISS m) = true ∧ t.get (CLE_SLOT_CTL_MISS_CAUSE m) = 1 ∧
        t.dt = max s.dev.dt (e.sampleDt + s.dev.slotDeadline m) ∧
        t.rd (CLE_SLOT_MISS_CNT m) = s.dev.rd (CLE_SLOT_MISS_CNT m) + 1 ∧ t.rd CLE_MISS_CNT = s.dev.rd CLE_MISS_CNT + 1 ∧
        (2 ≤ s.dev.get (CLE_SLOT_CTL_MISS_RUN m) → t.flag (CLE_SLOT_CTL_FAULT m) = true ∧ t.slotClosed m = false ∧
          t.rd (CLE_SLOT_OUT0 m) = s.dev.rd (CLE_SLOT_FAULT_VALUE m) ∧ t.rd (CLE_SLOT_OUT1 m) = s.dev.rd (CLE_SLOT_FAULT_VALUE m))))

/-- Enabling a disabled piste with no loop and no pattern starts an attempt in TRAIN, otherwise it enters TEST; a disable or a restart is refused BUSY_LIVE while something
live depends on the piste, and otherwise leaves DOWN, or starts anew with ATTEMPTS 1 (R185, R186, R188). A setting of a sweep is tried for 100 microseconds and the sweep
goes to the next one, after the sixteenth to the best; a trial 8 better moves the setting by one; the 1 ms update shows the figure of merit of a locked receiver, and 0
without lock; each tap moves one code with the product of the signs and stays within its 6 bits; an echo window that ends is recorded (R180, R181, R182, R217). -/
def Obligations.PisteCommandsAndEqualisation : Prop :=
  (∀ (s : State) (p : Fin 8), taken (.pisteEnable p) s = true → s.dev.flag (PST_PHY_CTL_EN p) = false →
    Completes (.pisteEnable p) s (fun t => t.flag (PST_PHY_CTL_EN p) = true ∧ .writeStatus ST_OK ∈ t.out ∧
      t.pisteState p = (if (s.dev.get (PST_PHY_CTL_LOOP p) == 0 && !s.dev.flag (PST_PHY_CTL_PRBS_GEN p) && !s.dev.flag (PST_PHY_CTL_PRBS_CHK p)) = true
        then phTrain else phTest) ∧
      t.get (PST_PHY_STATE_ATTEMPTS p) = (if t.pisteState p = phTrain then 1 else 0))) ∧
  (∀ (s : State) (p : Fin 8), taken (.pisteDisable p) s = true → s.dev.flag (PST_PHY_CTL_EN p) = true → s.dev.pisteLive p = true →
    Completes (.pisteDisable p) s (fun t => t.flag (PST_PHY_CTL_EN p) = true ∧ t.pisteState p = s.dev.pisteState p ∧
      t.get PST_PHY_REJECT_CNT_CNT = min (s.dev.get PST_PHY_REJECT_CNT_CNT + 1) 65535 ∧ .writeStatus ST_BUSY_LIVE ∈ t.out)) ∧
  (∀ (s : State) (p : Fin 8), taken (.pisteDisable p) s = true → s.dev.flag (PST_PHY_CTL_EN p) = true → s.dev.pisteLive p = false →
    Completes (.pisteDisable p) s (fun t => t.flag (PST_PHY_CTL_EN p) = false ∧ t.pisteState p = phDown ∧ .writeStatus ST_OK ∈ t.out)) ∧
  (∀ (s : State) (p : Fin 8), taken (.pisteRestart p) s = true → s.dev.pisteLive p = true →
    Completes (.pisteRestart p) s (fun t => t.pisteState p = s.dev.pisteState p ∧
      t.get PST_PHY_REJECT_CNT_CNT = min (s.dev.get PST_PHY_REJECT_CNT_CNT + 1) 65535 ∧ .writeStatus ST_BUSY_LIVE ∈ t.out)) ∧
  (∀ (s : State) (p : Fin 8), taken (.pisteRestart p) s = true → s.dev.pisteLive p = false → s.dev.pisteState p ≠ phDown →
    s.dev.pisteState p ≠ phTest →
    Completes (.pisteRestart p) s (fun t => t.pisteState p = phTrain ∧ t.get (PST_PHY_STATE_ATTEMPTS p) = 1 ∧ .writeStatus ST_OK ∈ t.out)) ∧
  (∀ (s : State) (p : Fin 8), taken (.pisteRestart p) s = true → s.dev.pisteLive p = false →
    s.dev.pisteState p = phDown ∨ s.dev.pisteState p = phTest →
    Completes (.pisteRestart p) s (fun t => t.regs = s.dev.regs ∧ .writeStatus ST_OK ∈ t.out)) ∧
  (∀ (s : State) (p : Fin 8) (eye amp : Nat), taken (.ctleSweepStep p eye amp) s = true → s.dev.pisteState p = phAdapt →
    s.dev.flag (PST_PHY_CTL_ADAPT_FREEZE p) = false → s.dev.pst.phy[p].sweep.length < 15 →
    Completes (.ctleSweepStep p eye amp) s (fun t =>
      t.get (PST_PHY_EQ_CTLE p) = s.dev.pst.phy[p].sweep.length + 1 ∧
        t.dt = max s.dev.dt (s.dev.pst.phy[p].since + 100000 * (s.dev.pst.phy[p].sweep.length + 1)))) ∧
  (∀ (s : State) (p : Fin 8) (eye amp : Nat), taken (.ctleSweepStep p eye amp) s = true → s.dev.pisteState p = phAdapt →
    s.dev.flag (PST_PHY_CTL_ADAPT_FREEZE p) = false → s.dev.pst.phy[p].sweep.length = 15 →
    Completes (.ctleSweepStep p eye amp) s (fun t =>
      t.get (PST_PHY_EQ_CTLE p) = Dev.bestSetting (s.dev.pst.phy[p].sweep ++ [if s.dev.locked p = true then fomOf eye amp else 0]) % 16 ∧
        t.dt = max s.dev.dt (s.dev.pst.phy[p].since + 1600000))) ∧
  (∀ (s : State) (p : Fin 8) (eu au ed ad : Nat), taken (.eqTrial p eu au ed ad) s = true → s.dev.adapting p = true →
    s.dev.get (PST_PHY_EQ_FOM p) + 8 ≤ fomOf eu au → s.dev.get (PST_PHY_EQ_CTLE p) < 15 → fomOf ed ad < fomOf eu au →
    Completes (.eqTrial p eu au ed ad) s (fun t => t.get (PST_PHY_EQ_CTLE p) = s.dev.get (PST_PHY_EQ_CTLE p) + 1)) ∧
  (∀ (s : State) (p : Fin 8) (eu au ed ad : Nat), taken (.eqTrial p eu au ed ad) s = true → s.dev.adapting p = true →
    s.dev.get (PST_PHY_EQ_FOM p) + 8 ≤ fomOf ed ad → 0 < s.dev.get (PST_PHY_EQ_CTLE p) → fomOf eu au ≤ fomOf ed ad →
    Completes (.eqTrial p eu au ed ad) s (fun t => t.get (PST_PHY_EQ_CTLE p) = s.dev.get (PST_PHY_EQ_CTLE p) - 1)) ∧
  (∀ (s : State) (p : Fin 8) (err : Bool) (past : BitVec 5), taken (.dfeLmsStep p err past) s = true → s.dev.adapting p = true →
    Completes (.dfeLmsStep p err past) s (fun t => ∀ k : Fin 5,
      t.geti ⟨PST_PHY_DFE p, 6 * k + 5, 6 * k⟩ =
        (if (err == past.getLsbD k) = true then min 31 (s.dev.geti ⟨PST_PHY_DFE p, 6 * k + 5, 6 * k⟩ + 1)
         else max (-32) (s.dev.geti ⟨PST_PHY_DFE p, 6 * k + 5, 6 * k⟩ - 1)))) ∧
  (∀ (s : State) (p : Fin 8) (eye amp invalid : Nat) (prbs : List Nat) (sig : Bool), taken (.fomUpdate p eye amp invalid prbs sig) s = true →
    Completes (.fomUpdate p eye amp invalid prbs sig) s (fun t =>
      t.flag (PST_PHY_STATE_SIG_DET p) = sig ∧
        t.get (PST_PHY_EQ_FOM p) = (if s.dev.locked p = true then fomOf eye amp else 0) ∧
        t.get (PST_PHY_EQ_FOM_MIN p) = min (t.get (PST_PHY_EQ_FOM p)) (s.dev.get (PST_PHY_EQ_FOM_MIN p)) ∧
        t.rd (PST_PHY_BLKERR p) = s.dev.rd (PST_PHY_BLKERR p) + BitVec.ofNat 32 invalid)) ∧
  (∀ (s : State) (p : Fin 8) (t0 : Nat), taken (.echoComplete p .receiver) s = true → s.dev.nodeAt p (s.dev.cenNodes p + 1) = none →
    s.dev.pst.phy[p].echo = some t0 →
    Completes (.echoComplete p .receiver) s (fun t => t.pst.phy[p].echo = none ∧ t.regs = s.dev.regs ∧ t.dt = max s.dev.dt (t0 + 10000))) ∧
  (∀ (s : State) (p : Fin 8) (d : Nat), taken (.echoComplete p (.link1 (some d))) s = true →
    Completes (.echoComplete p (.link1 (some d))) s (fun t => t.pst.time[p].link1 = some d ∧
      t.get (PST_CEN_LINK1_C1 p) = d / 4096 % 2 ^ 32)) ∧
  (∀ (s : State) (p : Fin 8) (n : Fin 128) (odd : Bool) (d : Nat), taken (.echoComplete p (.node n odd (some d))) s = true →
    Completes (.echoComplete p (.node n odd (some d))) s (fun t => (t.port n odd).linkDn = d ∧ (t.port n odd).echoOk = true ∧ t.regs = s.dev.regs))

/-- A census falls on the next DT multiple of its interval, and on every piste that is UP the MARK it sends has not yet returned; a MARK that returns gives the piste's node
count and ring latency, and the dispatch lead that follows from the latency; one that was not awaited does nothing (R213, R219, R90). A new node whose reply is valid and
gives no cause for refusal becomes present at once where hot add is on, and otherwise pending once the start's first MARK is over; ACCEPT makes a pending node present;
FORGET empties a lost or refused entry; both do nothing on other entries (R215, R216, R230). -/
def Obligations.CensusAndAdmission : Prop :=
  (∀ (s : State) (seen : List StreamSeen) (unclaimed : List Nat), taken (.censusMark seen unclaimed) s = true →
    Completes (.censusMark seen unclaimed) s (fun t =>
      t.dt = max s.dev.dt (s.dev.nextMultiple (Dev.ms s.dev.censusMs) (s.dev.ticked .census)) ∧
        ∀ p : Fin 8, s.dev.pisteState p = phUp →
          t.pst.time[p].returned = false)) ∧
  (∀ (s : State) (p : Fin 8) (n : Fin 17) (lat : Nat), taken (.markReturn p n lat) s = true →
    (s.dev.pst.time[p].returned || s.dev.pst.time[p].marks == 0) = true →
    Completes (.markReturn p n lat) s (fun t => t = s.dev.start)) ∧
  (∀ (s : State) (p : Fin 8) (n : Fin 17) (lat : Nat), taken (.markReturn p n lat) s = true →
    s.dev.pst.time[p].returned = false → s.dev.pst.time[p].marks ≠ 0 →
    Completes (.markReturn p n lat) s (fun t =>
      t.get (PST_CEN_STATUS_NODES p) = n ∧ t.rd (PST_CEN_LAT p) = BitVec.ofNat 32 lat ∧ t.flag (PST_CEN_TIME_HELD p) = false ∧
        t.get (EDG_LEAD_LEAD p) = min 3000 ((lat + 4000 + 79) / 80 * 5) ∧
        t.flag (EDG_LEAD_CAPPED p) = decide (48000 < lat + 4000))) ∧
  (∀ (s : State) (f : RxFrame) (i : Fin 128), taken (.censusReplyReceived f) s = true → frameOk f ftCensus = true → s.dev.frameNode f = none →
    s.dev.replyEntry f.piste (parseReply f.data) = none → s.dev.refuseCause (parseReply f.data) = none → s.dev.newEntry = some (i, false) →
    Completes (.censusReplyReceived f) s (fun t =>
      t.nodeState i = (if s.dev.pst.time[f.piste].marks = 1 ∨ s.dev.flag PST_PROT_CTRL_HOT_ADD_EN = true then ndPresent else ndPending) ∧
        t.nodeId i = (parseReply f.data).id)) ∧
  (∀ (s : State) (i : Fin 128), taken (.pstAdmitAccept i) s = true → s.dev.nodeState i = ndPending → s.dev.get PST_PROT_STATUS_NODES < 128 →
    Completes (.pstAdmitAccept i) s (fun t => t.nodePresent i = true ∧ .writeStatus ST_OK ∈ t.out)) ∧
  (∀ (s : State) (i : Fin 128), taken (.pstAdmitAccept i) s = true → s.dev.nodeState i ≠ ndPending →
    Completes (.pstAdmitAccept i) s (fun t => t.regs = s.dev.regs ∧ t.out = [.writeStatus ST_OK])) ∧
  (∀ (s : State) (i : Fin 128), taken (.pstAdmitForget i) s = true → s.dev.nodeState i = ndLost ∨ s.dev.nodeState i = ndRefused →
    Completes (.pstAdmitForget i) s (fun t => t.nodeState i = ndFree ∧ t.pst.refusedTold = [] ∧ .writeStatus ST_OK ∈ t.out)) ∧
  (∀ (s : State) (i : Fin 128), taken (.pstAdmitForget i) s = true → s.dev.nodeState i ≠ ndLost → s.dev.nodeState i ≠ ndRefused →
    Completes (.pstAdmitForget i) s (fun t => t.regs = s.dev.regs ∧ t.out = [.writeStatus ST_OK]))

/-- A command on an owned channel is refused LSW_OWNED and counted, one on with a latch or a clamp lock LSW_LOCKED; a command off turns a free channel off, and one on turns
it on when nothing holds it off; EN 0 turns it off; UNLOCK is refused until the clamp has cooled for 10 s, and then unlocks it (R429 to R436, R443). A mean above 30 A
over the last second sets AGG_OVER and sheds the channel picked, one at or below 27 A for 1 s clears it (that the sums of the evaluations are averaged is the model's
choice, log entry 42); a surge turns every channel off and is counted, a dip leaves them as they are and is counted, and each ends in NORMAL; the hold window ends 500 ms
after it opened (R428, R438, R440). -/
def Obligations.SwitchCommandsAndSupply : Prop :=
  (∀ (s : State) (n : Fin 20) (on : Bool), taken (.lswOnWrite n on) s = true → (s.dev.lswOwner n).isSome = true →
    Completes (.lswOnWrite n on) s (fun t => t.get LSW_REJECT_CNT_CNT = min (s.dev.get LSW_REJECT_CNT_CNT + 1) 65535 ∧
      t.flag (LSW_CH_CTL_ON n) = s.dev.flag (LSW_CH_CTL_ON n) ∧ t.lsw = s.dev.lsw ∧ t.out = [.writeStatus ST_LSW_OWNED])) ∧
  (∀ (s : State) (n : Fin 20), taken (.lswOnWrite n true) s = true → s.dev.lswOwner n = none →
    (s.dev.flag (LSW_CH_STATUS_LATCH n) || s.dev.flag (LSW_CH_STATUS_LOCKED_CLAMP n)) = true →
    Completes (.lswOnWrite n true) s (fun t => t.get LSW_REJECT_CNT_CNT = min (s.dev.get LSW_REJECT_CNT_CNT + 1) 65535 ∧
      t.flag (LSW_CH_CTL_ON n) = s.dev.flag (LSW_CH_CTL_ON n) ∧ t.out = [.writeStatus ST_LSW_LOCKED])) ∧
  (∀ (s : State) (n : Fin 20), taken (.lswOnWrite n false) s = true → s.dev.lswOwner n = none → s.dev.lsw.holdAt = none →
    s.dev.get LSW_STATUS_SUPPLY ≠ suDip →
    Completes (.lswOnWrite n false) s (fun t => t.flag (LSW_CH_CTL_ON n) = false ∧ t.lswOn n = false ∧ .writeStatus ST_OK ∈ t.out)) ∧
  (∀ (s : State) (n : Fin 20), taken (.lswOnWrite n true) s = true → s.dev.lswOwner n = none → s.dev.lsw.holdAt = none →
    s.dev.get LSW_STATUS_SUPPLY = suNormal → s.dev.flag GEN_LIFECYCLE_SAFE_HOLD = false → s.dev.flag (LSW_CH_STATUS_LATCH n) = false →
    s.dev.flag (LSW_CH_STATUS_LOCKED_CLAMP n) = false → s.dev.flag (LSW_CH_CFG_EN n) = true → s.dev.lsw.chs[n].cooling = false →
    Completes (.lswOnWrite n true) s (fun t => t.flag (LSW_CH_CTL_ON n) = true ∧ t.lswOn n = true ∧ .writeStatus ST_OK ∈ t.out)) ∧
  (∀ (s : State) (n : Fin 20) (en : Bool), taken (.lswEnWrite n en) s = true → s.dev.lswOwner n = none →
    Completes (.lswEnWrite n en) s (fun t => t.flag (LSW_CH_CFG_EN n) = en ∧ t.flag (LSW_CH_CTL_ON n) = s.dev.flag (LSW_CH_CTL_ON n) ∧
      .writeStatus ST_OK ∈ t.out)) ∧
  (∀ (s : State) (n : Fin 20), taken (.lswEnWrite n false) s = true → s.dev.lswOwner n = none → s.dev.lswOn n = true →
    Completes (.lswEnWrite n false) s (fun t => t.flag (LSW_CH_CFG_EN n) = false ∧ t.lswOn n = false ∧ .writeStatus ST_OK ∈ t.out)) ∧
  (∀ (s : State) (n : Fin 20), taken (.lswUnlock n) s = true → s.dev.flag (LSW_CH_STATUS_LOCKED_CLAMP n) = true →
    (decide (s.dev.dt < s.dev.lsw.chs[n].lockedAt + 10000000000) || s.dev.clampWin n != 0) = true →
    Completes (.lswUnlock n) s (fun t => t.flag (LSW_CH_STATUS_LOCKED_CLAMP n) = true ∧
      t.get LSW_REJECT_CNT_CNT = min (s.dev.get LSW_REJECT_CNT_CNT + 1) 65535 ∧ t.out = [.writeStatus ST_LSW_COOL_PENDING])) ∧
  (∀ (s : State) (n : Fin 20), taken (.lswUnlock n) s = true → s.dev.flag (LSW_CH_STATUS_LOCKED_CLAMP n) = true →
    s.dev.lsw.chs[n].lockedAt + 10000000000 ≤ s.dev.dt → s.dev.clampWin n = 0 →
    Completes (.lswUnlock n) s (fun t => t.flag (LSW_CH_STATUS_LOCKED_CLAMP n) = false ∧ t.lsw.chs[n].unlocked = true ∧
      t.get (LSW_CH_CLAMP_WIN n) = 0 ∧ .writeStatus ST_OK ∈ t.out)) ∧
  (∀ (s : State) (l : List LswMeas) (vaux vhold : Nat) (u : Dev), taken (.lswAggEval l vaux vhold) s = true →
    u = s.dev.start.tick .switches (Dev.ms 10) → 30000 * (u.aggWindow l).length < ((u.aggWindow l).map (·.2)).sum →
    Completes (.lswAggEval l vaux vhold) s (fun t => t.flag LSW_STATUS_AGG_OVER = true ∧ t.dt = u.dt ∧ t.lsw.sums = u.aggWindow l ∧
      ∀ n, s.dev.shedPick = some n → t.lswOn n = false ∧ t.lsw.chs[n].shed = true)) ∧
  (∀ (s : State) (l : List LswMeas) (vaux vhold t0 : Nat) (u : Dev), taken (.lswAggEval l vaux vhold) s = true →
    u = s.dev.start.tick .switches (Dev.ms 10) → ((u.aggWindow l).map (·.2)).sum ≤ 27000 * (u.aggWindow l).length →
    s.dev.lsw.lowSince = some t0 → t0 + 1000000000 ≤ u.dt →
    Completes (.lswAggEval l vaux vhold) s (fun t => t.flag LSW_STATUS_AGG_OVER = false ∧ t.get LSW_STATUS_ON = s.dev.get LSW_STATUS_ON)) ∧
  (∀ s : State, taken .vauxSurge s = true → s.dev.get LSW_STATUS_SUPPLY ≠ suSurge →
    Completes .vauxSurge s (fun t => t.get LSW_STATUS_SUPPLY = suSurge ∧ t.rd LSW_SURGE_CNT = s.dev.rd LSW_SURGE_CNT + 1 ∧
      ∀ n : Fin 20, t.lswOn n = false)) ∧
  (∀ (s : State) (peak : Nat), taken (.vauxSurgeEnd peak) s = true → s.dev.get LSW_STATUS_SUPPLY = suSurge →
    Completes (.vauxSurgeEnd peak) s (fun t => t.get LSW_STATUS_SUPPLY = suNormal)) ∧
  (∀ s : State, taken .vauxDip s = true → s.dev.get LSW_STATUS_SUPPLY ≠ suDip →
    Completes .vauxDip s (fun t => t.get LSW_STATUS_SUPPLY = suDip ∧ t.rd LSW_DIP_CNT = s.dev.rd LSW_DIP_CNT + 1 ∧
      t.get LSW_STATUS_ON = s.dev.get LSW_STATUS_ON)) ∧
  (∀ (s : State) (low : Nat), taken (.vauxDipEnd low) s = true → s.dev.get LSW_STATUS_SUPPLY = suDip →
    Completes (.vauxDipEnd low) s (fun t => t.get LSW_STATUS_SUPPLY = suNormal)) ∧
  (∀ (s : State) (t0 : Nat), s.dev.lsw.holdAt = some t0 →
    Completes .holdWindowEnd s (fun t => t.lsw.holdAt = none ∧ t.flag LSW_STATUS_HOLD = false ∧ t.dt = max s.dev.dt (t0 + 500000000))) ∧
  (∀ s : State, s.dev.lsw.holdAt = none → Completes .holdWindowEnd s (fun t => t = s.dev.start))

/-- The estimator steps at each DT multiple of 100 ms and steps no string while it is not enabled; its state is committed at each whole second: a good commit writes the copy
that was not the good one and takes the next sequence number, a failed one leaves the old copy in force and the sequence number as it was (R384, R385, R400). A string
whose parameters hold together is enabled, and otherwise the enable is refused with the code of the failing check, parameters out of relation being STR_PARAM; a declared
swap is taken at the next step; FORGET discards the stored rest points; a template signal without an update sets BMS_STALE; LEARN_AGE counts hours and saturates (R391,
R395, R396, R402, R403). -/
def Obligations.BatteryEstimator : Prop :=
  (∀ (s : State) (g : Bool), taken (.estimatorStep g) s = true → s.dev.bse.extra = false →
    s.dev.flag BSE_CTRL_EN = false →
    Completes (.estimatorStep g) s (fun t => t.dt = max s.dev.dt (s.dev.nextMultiple (Dev.ms 100) s.dev.bse.lastStep) ∧
      t.bse.lastStep = some (s.dev.nextMultiple (Dev.ms 100) s.dev.bse.lastStep) ∧ t.bse.strs = s.dev.bse.strs ∧ t.regs = s.dev.regs)) ∧
  (∀ (s : State) (g : Bool), taken (.estimatorStep g) s = true → s.dev.flag BSE_CTRL_EN = true → s.dev.bse.extra = false →
    Completes (.estimatorStep g) s (fun t => t.bse.lastStep = some (s.dev.nextMultiple (Dev.ms 100) s.dev.bse.lastStep) ∧
      t.get BSE_STATUS_ENABLED = ((idx 48).filter (fun (k : Fin 48) => s.dev.strEn k)).length)) ∧
  (∀ s : State, taken (.estimatorCommit true) s = true →
    Completes (.estimatorCommit true) s (fun t => t.dt = max s.dev.dt (s.dev.nextMultiple (Dev.sec 1) s.dev.bse.lastCommit) ∧
      t.bse.good ≠ s.dev.bse.good ∧ t.bse.copies[t.bse.good].seq = s.dev.bse.copies[s.dev.bse.good].seq + 1 ∧
      t.bse.copies[t.bse.good].intact = true ∧ t.bse.copies[s.dev.bse.good] = s.dev.bse.copies[s.dev.bse.good] ∧
      t.get64 BSE_COMMIT_SEQ_LO = BitVec.ofNat 64 (s.dev.bse.copies[s.dev.bse.good].seq + 1))) ∧
  (∀ s : State, taken (.estimatorCommit false) s = true →
    Completes (.estimatorCommit false) s (fun t => t.bse.good = s.dev.bse.good ∧
      t.bse.copies[s.dev.bse.good] = s.dev.bse.copies[s.dev.bse.good] ∧ t.get64 BSE_COMMIT_SEQ_LO = s.dev.get64 BSE_COMMIT_SEQ_LO)) ∧
  (∀ (s : State) (k : Fin 48), taken (.stringEnable k) s = true → s.dev.strEn k = false → s.dev.strRefusal k = none →
    Completes (.stringEnable k) s (fun t => t.strEn k = true ∧ t.get (BSE_STR_STATUS_STATE k) = bsActive ∧ .writeStatus ST_OK ∈ t.out ∧
      (s.dev.get (BSE_STR_CAP_CAP k) = 0 → t.get (BSE_STR_CAP_CAP k) = s.dev.get (BSE_STR_CAP_C_RATED k)) ∧
      t.get (BSE_STR_LEARN_LEARN_AGE k) = 0)) ∧
  (∀ (s : State) (k : Fin 48) (c : Code), taken (.stringEnable k) s = true → s.dev.strEn k = false → s.dev.strRefusal k = some c →
    Completes (.stringEnable k) s (fun t => t.strEn k = false ∧ t.regs = s.dev.regs ∧ .writeStatus c ∈ t.out)) ∧
  (∀ (s : State) (k : Fin 48), s.dev.get (BSE_STR_CAP_C_RATED k) = 0 ∨ s.dev.get (BSE_STR_CFG_CELLS k) = 0 ∨
      s.dev.get (BSE_STR_EMPTY_V_EMPTY k) = 0 ∨ s.dev.get (BSE_STR_FULL_V_FULL k) ≤ s.dev.get (BSE_STR_EMPTY_V_EMPTY k) ∨
      s.dev.get (BSE_STR_VMAX_V_MAX k) < s.dev.get (BSE_STR_FULL_V_FULL k) ∨
      s.dev.get (BSE_STR_FULL_I_TAPER k) ≤ s.dev.get (BSE_STR_REST_I_REST k) ∨ s.dev.get64 (BSE_STR_NODE_LO k) = 0 →
    s.dev.strRefusal k = some ST_BSE_STR_PARAM) ∧
  (∀ (s : State) (k : Fin 48), taken (.stringSwap k) s = true → s.dev.strEn k = true →
    Completes (.stringSwap k) s (fun t => (t.str k).swap = some swHost ∧ t.regs = s.dev.regs)) ∧
  (∀ (s : State) (k : Fin 48), taken (.stringForget k) s = true →
    Completes (.stringForget k) s (fun t => (t.str k).points = [] ∧ t.get (BSE_STR_STATUS_POINTS k) = 0)) ∧
  (∀ (s : State) (k : Fin 48), taken (.bmsStaleTimeout k) s = true → s.dev.flag BSE_CTRL_EN = true → s.dev.strEn k = true →
    s.dev.flag (BSE_STR_STATUS_BMS_STALE k) = false → s.dev.signals k ≠ [] →
    Completes (.bmsStaleTimeout k) s (fun t => t.flag (BSE_STR_STATUS_BMS_STALE k) = true ∧
      ∃ j ∈ s.dev.signals k, t.dt = max s.dev.dt ((s.dev.str k).sigs[j].2 + Dev.sec 1))) ∧
  (∀ (s : State) (k : Fin 48), taken (.bmsStaleTimeout k) s = true → s.dev.strEn k = false →
    Completes (.bmsStaleTimeout k) s (fun t => t = s.dev.start)) ∧
  (∀ (s : State) (k : Fin 48), taken (.learnAgeTick k) s = true → s.dev.strEn k = true →
    Completes (.learnAgeTick k) s (fun t => t.get (BSE_STR_LEARN_LEARN_AGE k) = min (s.dev.get (BSE_STR_LEARN_LEARN_AGE k) + 1) 65535 ∧
      (t.str k).ageFrom = (s.dev.str k).ageFrom + Dev.sec 3600 ∧
      t.flag (BSE_STR_STATUS_STARVED k) = decide (s.dev.get BSE_CFG_STARVE_H ≤ t.get (BSE_STR_LEARN_LEARN_AGE k))))

/-- The actions of object access: a close ends the open period now, the clear takes MAG_STARTUP away, the acknowledgement takes LOSS_UNBOUNDED away, a break is refused while
an outlet is energised and else breaks the seal, a reseal restores it and ends the association (R325, R357, R370, R372). A read of the archive answers up to 16 whole
manifests from a number on; an acknowledgement drops every manifest up to the number named and no other (R375, R377). -/
def Obligations.ObjectActionsAndArchive : Prop :=
  (∀ (s : State) (o : ObjSrc) (c : Channel) (a : Assoc), taken (.periodCloseAction o) s = true → s.dev.channelOf o = some c →
    s.dev.assocOf c = some a → isOperator a.role = true → s.dev.flag BIL_STATUS_RUN = true →
    Completes (.periodCloseAction o) s (fun t => t.bil.periodStart = s.dev.utcNow ∧ ∃ r : ClosedPeriod, t.bil.history.getLast? = some r ∧
      r.no = s.dev.get BIL_PERIOD_NO_NO ∧ r.start = s.dev.bil.periodStart ∧ r.stop = s.dev.utcNow ∧ r.marks.testBit 0 = true)) ∧
  (∀ (s : State) (o : ObjSrc) (c : Channel) (a : Assoc), taken (.magStartupClear o) s = true → s.dev.channelOf o = some c →
    s.dev.assocOf c = some a →
    Completes (.magStartupClear o) s (fun t => if isOperator a.role then t.flag BIL_TAMP_STATUS_MAG_STARTUP = false
      else t = (s.dev.start.touchAssoc c).objReply o ST_REFUSED_ROLE)) ∧
  (∀ (s : State) (o : ObjSrc) (c : Channel) (a : Assoc) (n : Code), taken (.unboundedAcknowledge o n) s = true → s.dev.channelOf o = some c →
    s.dev.assocOf c = some a → isMetrologist a.role = true →
    Completes (.unboundedAcknowledge o n) s (fun t =>
      if s.dev.mtr.losses.any (fun r => r.unbounded && r.no % 65536 == n.toNat) then t.flag MTR_STATUS_LOSS_UNBOUNDED = false
      else t = (s.dev.start.touchAssoc c).objReply o ST_BIL_NO_OBJECT)) ∧
  (∀ (s : State) (o : ObjSrc) (c : Channel) (a : Assoc), taken (.sealBreak o) s = true → s.dev.channelOf o = some c →
    s.dev.assocOf c = some a → isInstaller a.role = true → s.dev.get VSS_STATUS_ENERGISED ≠ 0 →
    Completes (.sealBreak o) s (fun t => t = (s.dev.start.touchAssoc c).objReply o ST_BUSY_LIVE)) ∧
  (∀ (s : State) (o : ObjSrc) (c : Channel) (a : Assoc), taken (.sealBreak o) s = true → s.dev.channelOf o = some c →
    s.dev.assocOf c = some a → isInstaller a.role = true → s.dev.get VSS_STATUS_ENERGISED = 0 →
    Completes (.sealBreak o) s (fun t => t.flag BIL_STATUS_SEAL_BROKEN = true)) ∧
  (∀ (s : State) (o : ObjSrc) (c : Channel) (a : Assoc), taken (.sealReseal o) s = true → s.dev.channelOf o = some c →
    s.dev.assocOf c = some a → isMetrologist a.role = true →
    Completes (.sealReseal o) s (fun t => t.flag BIL_STATUS_SEAL_BROKEN = false ∧ t.assocOf c = none)) ∧
  (∀ (s : State) (src : Src) (f : Id64) (n : Byte) (l : Nat), taken (.manRead src f n l) s = true → n = 0 ∨ 16 < n.toNat →
    Completes (.manRead src f n l) s (fun t => t = s.dev.start.complete src ST_BAD_PARAM)) ∧
  (∀ (s : State) (src : Src) (f : Id64) (n : Byte) (l : Nat), taken (.manRead src f n l) s = true → 1 ≤ n.toNat → n.toNat ≤ 16 → l < 520 * n.toNat →
    Completes (.manRead src f n l) s (fun t => t = s.dev.start.complete src ST_HIF_BAD_ADDR)) ∧
  (∀ (s : State) (src : Src) (f : Id64) (n : Byte) (l : Nat), taken (.manRead src f n l) s = true → 1 ≤ n.toNat → n.toNat ≤ 16 → 520 * n.toNat ≤ l →
    Completes (.manRead src f n l) s (fun t => ∃ ms : List Manifest,
      ms = (s.dev.bil.archive.filter (fun m => decide (f.toNat ≤ m.no))).take n.toNat ∧
      t = s.dev.start.complete src ST_OK (BitVec.ofNat 32 ms.length) (ms.flatMap Dev.manBytes))) ∧
  (∀ (s : State) (src : Src) (k : Id64), taken (.manAck src k) s = true →
    Completes (.manAck src k) s (fun t => t.bil.archive = s.dev.bil.archive.filter (fun m => decide (k.toNat < m.no)) ∧
      t.get BIL_MAN_STATUS_UNACK = t.bil.archive.length % 2 ^ 16 ∧
      (t.bil.archive.length < 1900 → t.flag BIL_STATUS_ARCHIVE_HIGH = false)))

/-- A request of the host is a cause of SAFE-HOLD, which stands while any cause does; IDLE is refused BUSY_LIVE while a leg is armed or an outlet energised, STANDBY also
while a session is open or a slot closed, and a refusal counts and leaves the mode; RUN is taken in every mode (R41, R42, R516, R517). The factory closes a device in
MANUFACTURE that has passed its tests and gives it its identity certificate; in another state, or with a test not passed, it is answered BAD_PARAM. The host's INSTALLER
moves the device to SERVICE when everything SERVICE needs holds, and back when the site is not live, BUSY_LIVE otherwise; without an association it is REFUSED_ROLE; a
device in DEBUG-OPEN whose debug port is closed goes back to COMMISSIONING; a LIFECYCLE descriptor in MANUFACTURE is refused BAD_PARAM (R39, R40, R369). -/
def Obligations.ModesAndLifecycle : Prop :=
  (∀ s : State, taken (.shReqWrite true) s = true →
    Completes (.shReqWrite true) s (fun t => t.flag GEN_LIFECYCLE_SAFE_HOLD = true ∧ t.flag GEN_LIFECYCLE_CAUSE_HOST = true ∧
      t.flag GEN_LIFECYCLE_SH_REQ = true ∧ .writeStatus ST_OK ∈ t.out)) ∧
  (∀ s : State, taken (.shReqWrite false) s = true →
    Completes (.shReqWrite false) s (fun t => t.flag GEN_LIFECYCLE_SH_REQ = false ∧ t.flag GEN_LIFECYCLE_CAUSE_HOST = false ∧
      t.flag GEN_LIFECYCLE_SAFE_HOLD = (s.dev.flag GEN_LIFECYCLE_CAUSE_CONFIG || s.dev.flag GEN_LIFECYCLE_CAUSE_FW || s.dev.flag GEN_LIFECYCLE_CAUSE_RST))) ∧
  (∀ s : State, taken .modeRunRequest s = true →
    Completes .modeRunRequest s (fun t => t.get GEN_PWR_STATE = 0 ∧ .writeStatus ST_OK ∈ t.out ∧
      (s.dev.get GEN_PWR_STATE = 1 → t.dt = max s.dev.dt (s.dev.nextMultiple (Dev.ms 1) none)))) ∧
  (∀ s : State, taken .modeIdleRequest s = true → s.dev.get EDG_STATUS_ARMED_LEGS = 0 → s.dev.get VSS_STATUS_ENERGISED = 0 →
    Completes .modeIdleRequest s (fun t => t.get GEN_PWR_STATE = 1 ∧ .writeStatus ST_OK ∈ t.out)) ∧
  (∀ s : State, taken .modeIdleRequest s = true → s.dev.get EDG_STATUS_ARMED_LEGS ≠ 0 ∨ s.dev.get VSS_STATUS_ENERGISED ≠ 0 →
    Completes .modeIdleRequest s (fun t => t.get GEN_PWR_STATE = s.dev.get GEN_PWR_STATE ∧ .writeStatus ST_BUSY_LIVE ∈ t.out ∧
      t.get GEN_REJECT_CNT_CNT = min (s.dev.get GEN_REJECT_CNT_CNT + 1) 65535)) ∧
  (∀ s : State, taken .modeStandbyRequest s = true → s.dev.modeStill = true →
    Completes .modeStandbyRequest s (fun t => t.get GEN_PWR_STATE = 2 ∧ .writeStatus ST_OK ∈ t.out ∧
      ∀ p : Fin 8, s.dev.flag (PST_PHY_CTL_EN p) = true → t.pisteState p = phDown)) ∧
  (∀ s : State, taken .modeStandbyRequest s = true → s.dev.modeStill = false →
    Completes .modeStandbyRequest s (fun t => t.get GEN_PWR_STATE = s.dev.get GEN_PWR_STATE ∧ .writeStatus ST_BUSY_LIVE ∈ t.out ∧
      t.get GEN_REJECT_CNT_CNT = min (s.dev.get GEN_REJECT_CNT_CNT + 1) 65535)) ∧
  (∀ (s : State) (cert : List Byte), taken (.factoryClose true cert) s = true → s.dev.life = lfManufacture →
    Completes (.factoryClose true cert) s (fun t => t.life = lfCommissioning ∧ t.key.idCert = cert ∧ .writeStatus ST_OK ∈ t.out)) ∧
  (∀ (s : State) (p : Bool) (cert : List Byte), taken (.factoryClose p cert) s = true → (s.dev.life ≠ lfManufacture ∨ p = false) →
    Completes (.factoryClose p cert) s (fun t => t.regs = s.dev.regs ∧ t.key = s.dev.key ∧ t.out = [.writeStatus ST_BAD_PARAM])) ∧
  (∀ (s : State) (src : Src) (a : Assoc), taken (.lifecycle src (BitVec.ofNat 8 lfService)) s = true → s.dev.life = lfCommissioning → s.dev.serviceReady = true →
    s.dev.assocOf .host = some a → isInstaller a.role = true →
    Completes (.lifecycle src (BitVec.ofNat 8 lfService)) s (fun t => t.life = lfService ∧ t.flag BIL_STATUS_RUN = true)) ∧
  (∀ (s : State) (src : Src), taken (.lifecycle src (BitVec.ofNat 8 lfService)) s = true → s.dev.life = lfCommissioning → s.dev.assocOf .host = none →
    Completes (.lifecycle src (BitVec.ofNat 8 lfService)) s (fun t => t = s.dev.start.complete src ST_REFUSED_ROLE)) ∧
  (∀ (s : State) (src : Src) (a : Assoc), taken (.lifecycle src (BitVec.ofNat 8 lfCommissioning)) s = true → s.dev.life = lfService → s.dev.siteLive = true →
    s.dev.assocOf .host = some a → isInstaller a.role = true →
    Completes (.lifecycle src (BitVec.ofNat 8 lfCommissioning)) s (fun t => t = s.dev.start.complete src ST_BUSY_LIVE)) ∧
  (∀ (s : State) (src : Src) (a : Assoc), taken (.lifecycle src (BitVec.ofNat 8 lfCommissioning)) s = true → s.dev.life = lfService → s.dev.siteLive = false →
    s.dev.assocOf .host = some a → isInstaller a.role = true →
    Completes (.lifecycle src (BitVec.ofNat 8 lfCommissioning)) s (fun t => t.life = lfCommissioning ∧ t.flag BIL_STATUS_RUN = false)) ∧
  (∀ (s : State) (src : Src), taken (.lifecycle src (BitVec.ofNat 8 lfCommissioning)) s = true → s.dev.life = lfDebugOpen → s.dev.key.debugOpen = false →
    Completes (.lifecycle src (BitVec.ofNat 8 lfCommissioning)) s (fun t => t.life = lfCommissioning)) ∧
  (∀ (s : State) (src : Src) (x : Byte), taken (.lifecycle src x) s = true → s.dev.life = lfManufacture →
    Completes (.lifecycle src x) s (fun t => t = s.dev.start.complete src ST_BAD_PARAM))

/-- The commit of a block falls at the block's end, or now where that is past: MTR_BLOCK reads the end in milliseconds, the frames of the heads that the block has used are
dropped, an outlet or a grid point that is not enabled books no energy, and each channel of an enabled grid point shows the root of its mean square (R309, R310). A
display item falls due at a multiple of DWELL: without an enabled, usable display key nothing is displayed and DISP_OFF reads 1; with one DISP_OFF reads 0, the item of
the local port waits with its sequence number and signed body, and each present display head has its frame (R255, R366, R367). The pulse that waits longest starts, no
sooner than the pause after the one before it, and ends after its width; without one waiting, or while one is on, nothing starts; a harmonic window of an enabled point
shows its frequency and whether that is unlocked, and counts; a save is started at a DT multiple of 100 ms in the next good slot with the next number; a save that is good
is shown, and one that fails is counted and shown as failed (R316, R319, R321, R322). -/
def Obligations.BlocksPulsesAndDisplay : Prop :=
  (∀ (s : State) (a b : GpSamples), taken (.blockCommit a b) s = true →
    Completes (.blockCommit a b) s (fun t => t.dt = max s.dev.dt s.dev.blockEnd ∧
      t.get64 MTR_BLOCK_LO = BitVec.ofNat 64 (s.dev.blockEnd / Dev.ms 1) ∧
      (∀ h : Fin 48, ∀ f ∈ t.mtr.frames[h], s.dev.blockEnd ≤ f.dt) ∧
      (∀ (n : Fin 16) (q : Fin 80), q.val / 4 = 4 + n.val → s.dev.flag (TRI_OUT_CFG_EN n) = false → t.mtr.acc[q] = s.dev.mtr.acc[q]) ∧
      (∀ (g : Fin 2) (q : Fin 80), q.val / 8 = g.val → s.dev.flag (MTR_GP_CFG_EN g) = false → t.mtr.acc[q] = s.dev.mtr.acc[q]))) ∧
  (∀ (s : State) (a b : GpSamples) (g : Fin 2) (j : Fin 8), taken (.blockCommit a b) s = true → s.dev.mtr.pendCal = [] →
    s.dev.flag (MTR_GP_CFG_EN g) = true →
    Completes (.blockCommit a b) s (fun t => t.rd (MTR_CH_RMS (Dev.gpChannel g j)) =
      sqrtF32 (s.dev.channelSquares (Dev.gpChannel g j) ((if g = 0 then a else b).codes.getD j []) / 32))) ∧
  (∀ s : State, taken .displayItemDue s = true → s.dev.flag SLN_DISP_CFG_EN = false →
    Completes .displayItemDue s (fun t => t.flag SLN_STATUS_DISP_OFF = true ∧
      t.dt = max s.dev.dt (s.dev.nextMultiple (Dev.sec s.dev.bil.dwell) s.dev.bil.lastItem) ∧ t.bil.lastItem = some t.dt)) ∧
  (∀ (s : State) (r : KeyRec), taken .displayItemDue s = true → s.dev.flag SLN_DISP_CFG_EN = true →
    s.dev.usableKey (s.dev.get SLN_DISP_CFG_KEY_SLOT) kuDisplay = some r →
    Completes .displayItemDue s (fun t => t.flag SLN_STATUS_DISP_OFF = false ∧
      t.dt = max s.dev.dt (s.dev.nextMultiple (Dev.sec s.dev.bil.dwell) s.dev.bil.lastItem) ∧ t.bil.lastItem = some t.dt ∧
      (∀ k id, t.itemNow t.bil.scrollDsp = some (k, id) →
        t.sln.dsp = some (t.sln.dseq.toNat, t.displayBody r 0 k t.bil.scrollDsp.length id t.sln.dseq, t.dt)) ∧
      (∀ k id, t.itemNow t.bil.scrollOut = some (k, id) → ∀ i ∈ s.dev.displayHeads,
        (t.sln.entries[i].disp.any (fun d => d.type == sfDisplay) || t.sln.entries[i].retry.any (fun d => d.type == sfDisplay)) = true))) ∧
  (∀ (s : State) (k : Fin 4) (w : Nat) (l : List Nat), taken (.pulseStart k) s = true → s.dev.mtr.pulses[k].due = w :: l →
    s.dev.mtr.pulses[k].active = false →
    Completes (.pulseStart k) s (fun t => t.mtr.pulses[k].active = true ∧ t.mtr.pulses[k].due = l ∧ t.mtr.pulses[k].lastStart = some (t.dt, w) ∧
      t.dt = max s.dev.dt ((s.dev.mtr.pulses[k].lastStart.map (fun q => q.1 + max (2 * q.2) 1000000)).getD 0) ∧
      t.get (MTR_PLS_STATUS_PENDING k) = l.length % 2 ^ 13)) ∧
  (∀ (s : State) (k : Fin 4), taken (.pulseStart k) s = true → s.dev.mtr.pulses[k].active = true ∨ s.dev.mtr.pulses[k].due = [] →
    Completes (.pulseStart k) s (fun t => t = s.dev.start)) ∧
  (∀ (s : State) (k : Fin 4) (q : Nat × Nat), taken (.pulseEnd k) s = true → s.dev.mtr.pulses[k].lastStart = some q →
    Completes (.pulseEnd k) s (fun t => t.mtr.pulses[k].active = false ∧ t.dt = max s.dev.dt (q.1 + q.2))) ∧
  (∀ (s : State) (g : Fin 2) (w : HarmWindow), taken (.harmonicWindowEnd g w) s = true → s.dev.flag (MTR_GP_CFG_EN g) = true →
    Completes (.harmonicWindowEnd g w) s (fun t => t.rd (MTR_GP_FREQ g) = BitVec.ofNat 32 w.mHz ∧
      t.flag (MTR_GP_STATUS_FREQ_UNLOCKED g) = s.dev.freqOff w.mHz ∧ t.rd MTR_HARM_SEQ = s.dev.rd MTR_HARM_SEQ + 1)) ∧
  (∀ (s : State) (g : Fin 2) (w : HarmWindow), taken (.harmonicWindowEnd g w) s = true → s.dev.flag (MTR_GP_CFG_EN g) = false →
    Completes (.harmonicWindowEnd g w) s (fun t => t = s.dev.start)) ∧
  (∀ (s : State) (k : Nat), taken .periodicSave s = true → s.dev.nextSlot = some k →
    Completes .periodicSave s (fun t => t.dt = max s.dev.dt (s.dev.nextMultiple 100000000 (s.dev.ticked .save)) ∧ t.mtr.nextSeq = s.dev.mtr.nextSeq + 1 ∧
      t.mtr.lastSlot = k ∧ ∃ r : SaveRec, t.mtr.saving = s.dev.mtr.saving ++ [(k, r)] ∧ r.seq = s.dev.mtr.nextSeq ∧ r.acc = s.dev.mtr.acc.toList ∧
      r.dt = t.dt)) ∧
  (∀ s : State, taken .periodicSave s = true → s.dev.nextSlot = none →
    Completes .periodicSave s (fun t => t.mtr = s.dev.mtr)) ∧
  (∀ (s : State) (k : Fin 16) (r : SaveRec) (l : List (Nat × SaveRec)), taken (.saveCommitCheck true) s = true → s.dev.mtr.saving = (k.val, r) :: l →
    Completes (.saveCommitCheck true) s (fun t => t.mtr.saving = l ∧ t.mtr.slots[k] = ⟨some r, true, false⟩ ∧
      t.get64 MTR_SAVE_SEQ_LO = BitVec.ofNat 64 r.seq ∧ t.get MTR_SAVE_STATUS_FAILS = 0)) ∧
  (∀ (s : State) (k : Fin 16) (r : SaveRec) (l : List (Nat × SaveRec)), taken (.saveCommitCheck false) s = true → s.dev.mtr.saving = (k.val, r) :: l →
    Completes (.saveCommitCheck false) s (fun t => t.mtr.saving = l ∧ t.mtr.slots[k] = ⟨none, false, true⟩ ∧
      t.get MTR_SAVE_STATUS_FAILS = min (s.dev.get MTR_SAVE_STATUS_FAILS + 1) 255 ∧ t.flag MTR_STATUS_SAVE_FAILED = true))

/-- A demand sub-interval ends at its legal instant, once the blocks up to it are committed, with its energy at the head of the window and the next one set SUB later; with no
billing nothing is closed, and a tariff switch shows tariff 0; with the time invalid it shows tariff 9, and otherwise the tariff in force; a scheduled boundary closes the
open period once the blocks up to it are committed, with a record of its number, start and end; each second of a slew leaves 10 ms less of it, and the last of it ends it
(R352, R354, R357, R359, R361). A field that is not above MAG_MT is no tamper. In normal service a magnetic tamper is counted, and held while a key operation runs; before
normal service MAG_STARTUP is set and nothing is counted; in HIBERNATE it is latched; without power nothing is seen. An open cover counts when its sensor is enabled and
its pin is at the open level (R371, R372, R373). -/
def Obligations.BillingAndTampers : Prop :=
  (∀ s : State, taken .demandSubintervalEnd s = true → s.dev.flag BIL_STATUS_RUN = false →
    Completes .demandSubintervalEnd s (fun t => t = s.dev.start)) ∧
  (∀ (s : State) (e : Nat), taken .demandSubintervalEnd s = true → s.dev.flag BIL_STATUS_RUN = true → s.dev.bil.subEnd = some e →
    s.dev.bil.subValid = true → s.dev.committedTo (s.dev.dtOfUtc e) = true → 0 < e → s.dev.nextScheduled.all (fun p => decide (e ≤ p)) = true →
    Completes .demandSubintervalEnd s (fun t => t.dt = max s.dev.dt (s.dev.dtOfUtc e) ∧
      t.bil.subEnd = some (e + subMinutes s.dev.bil.cfg * 60000) ∧ ∀ d : Fin 20, t.bil.demand[d].energy = 0 ∧
        t.bil.demand[d].window.head?.map (·.1) = (if diMinutes s.dev.bil.cfg / max 1 (subMinutes s.dev.bil.cfg) = 0 then none
          else some s.dev.bil.demand[d].energy))) ∧
  (∀ (s : State) (e : Nat), taken .demandSubintervalEnd s = true → s.dev.bil.subEnd = some e →
    s.dev.committedTo (if s.dev.bil.subValid then s.dev.dtOfUtc e else e) = false →
    Completes .demandSubintervalEnd s (fun t => t = s.dev.start)) ∧
  (∀ s : State, taken .tariffSwitch s = true → s.dev.flag BIL_STATUS_RUN = false →
    Completes .tariffSwitch s (fun t => t.get BIL_STATUS_TARIFF = 0)) ∧
  (∀ s : State, taken .tariffSwitch s = true → s.dev.flag BIL_STATUS_RUN = true → s.dev.utcValid = false →
    Completes .tariffSwitch s (fun t => t.get BIL_STATUS_TARIFF = 9)) ∧
  (∀ s : State, taken .tariffSwitch s = true → s.dev.flag BIL_STATUS_RUN = true → s.dev.utcValid = true → s.dev.bil.pendingCfg = none →
    s.dev.tariffAt s.dev.utcNow + 1 ≠ s.dev.get BIL_STATUS_TARIFF →
    Completes .tariffSwitch s (fun t => t.get BIL_STATUS_TARIFF = (s.dev.tariffAt s.dev.utcNow + 1) % 16 ∧ t.dt = s.dev.dt)) ∧
  (∀ s : State, taken .billingPeriodClose s = true → (s.dev.flag BIL_STATUS_RUN && s.dev.utcValid) = false →
    Completes .billingPeriodClose s (fun t => t = s.dev.start)) ∧
  (∀ (s : State) (u : Nat), taken .billingPeriodClose s = true → (s.dev.flag BIL_STATUS_RUN && s.dev.utcValid) = true →
    s.dev.nextScheduled = some u → s.dev.committedTo (s.dev.dtOfUtc u) = true → s.dev.bil.lastClosed.getD 0 < u →
    Completes .billingPeriodClose s (fun t => t.dt = max s.dev.dt (s.dev.dtOfUtc u) ∧ t.bil.lastClosed = some u ∧ t.bil.periodStart = u ∧
      ∃ r : ClosedPeriod, t.bil.history.getLast? = some r ∧ r.no = s.dev.get BIL_PERIOD_NO_NO ∧ r.start = s.dev.bil.periodStart ∧ r.stop = u)) ∧
  (∀ (s : State) (u : Nat), taken .billingPeriodClose s = true → s.dev.nextScheduled = some u → s.dev.committedTo (s.dev.dtOfUtc u) = false →
    Completes .billingPeriodClose s (fun t => t = s.dev.start)) ∧
  (∀ (s : State) (w : Slew), taken .slewStep s = true → s.dev.bil.slew = some w → 10 < w.left →
    Completes .slewStep s (fun t => t.dt = max s.dev.dt (w.last + 1000000000) ∧ t.bil.slew = some ⟨w.left - 10, w.last + 1000000000⟩ ∧
      t.rd BIL_SLEW = BitVec.ofInt 32 (w.left - 10) ∧ t.flag BIL_STATUS_SLEWING = true)) ∧
  (∀ (s : State) (w : Slew), taken .slewStep s = true → s.dev.bil.slew = some w → -10 ≤ w.left → w.left ≤ 10 →
    Completes .slewStep s (fun t => t.bil.slew = none ∧ t.rd BIL_SLEW = 0 ∧ t.flag BIL_STATUS_SLEWING = false)) ∧
  (∀ s : State, taken .slewStep s = true → s.dev.bil.slew = none → Completes .slewStep s (fun t => t = s.dev.start)) ∧
  (∀ (s : State) (mT : Nat), mT ≤ s.dev.get BIL_TAMP_CFG_MAG_MT → Completes (.tamperMagnetic mT) s (fun t => t = s.dev.start)) ∧
  (∀ (s : State) (mT : Nat), s.dev.get BIL_TAMP_CFG_MAG_MT < mT → s.dev.gen.phase = .running → s.dev.flag BIL_TAMP_STATUS_NORMAL = true →
    s.dev.bil.keyOp = false →
    Completes (.tamperMagnetic mT) s (fun t =>
      t.get (BIL_TAMP_COUNT_COUNT (tpMagnetic - 1)) = (s.dev.get (BIL_TAMP_COUNT_COUNT (tpMagnetic - 1)) + 1) % 2 ^ 32)) ∧
  (∀ (s : State) (mT : Nat), s.dev.get BIL_TAMP_CFG_MAG_MT < mT → s.dev.gen.phase = .running → s.dev.flag BIL_TAMP_STATUS_NORMAL = true →
    s.dev.bil.keyOp = true →
    Completes (.tamperMagnetic mT) s (fun t => t.bil.held = s.dev.bil.held ++ [(tpMagnetic, s.dev.utcNow / 1000, s.dev.utcValid)] ∧
      t.regs = s.dev.regs)) ∧
  (∀ (s : State) (mT : Nat), s.dev.get BIL_TAMP_CFG_MAG_MT < mT → s.dev.gen.phase = .running → s.dev.flag BIL_TAMP_STATUS_NORMAL = false →
    Completes (.tamperMagnetic mT) s (fun t => t.flag BIL_TAMP_STATUS_MAG_STARTUP = true ∧
      ∀ i : Nat, t.get (BIL_TAMP_COUNT_COUNT i) = s.dev.get (BIL_TAMP_COUNT_COUNT i))) ∧
  (∀ (s : State) (mT : Nat), s.dev.get BIL_TAMP_CFG_MAG_MT < mT → s.dev.gen.phase = .hibernate →
    Completes (.tamperMagnetic mT) s (fun t => t.flag BIL_TAMP_STATUS_HIB_LATCH = true ∧ ∃ n u v, t.bil.latch.head? = some (tpMagnetic, n, u, v))) ∧
  (∀ (s : State) (mT : Nat), s.dev.gen.phase = .off → Completes (.tamperMagnetic mT) s (fun t => t = s.dev.start)) ∧
  (∀ (s : State) (pin : Fin 4) (high : Bool), (s.dev.flag BIL_TAMP_CFG_COVER_EN = false ∨ s.dev.get BIL_TAMP_CFG_COVER_PIN ≠ pin.val ∨
      s.dev.flag BIL_TAMP_CFG_COVER_POL ≠ high) →
    Completes (.tamperCover pin high) s (fun t => t = s.dev.start)) ∧
  (∀ (s : State) (pin : Fin 4) (high : Bool), s.dev.flag BIL_TAMP_CFG_COVER_EN = true → s.dev.get BIL_TAMP_CFG_COVER_PIN = pin.val →
    s.dev.flag BIL_TAMP_CFG_COVER_POL = high → s.dev.gen.phase = .running → s.dev.flag BIL_TAMP_STATUS_NORMAL = true →
    s.dev.bil.keyOp = false →
    Completes (.tamperCover pin high) s (fun t =>
      t.get (BIL_TAMP_COUNT_COUNT (tpCover - 1)) = (s.dev.get (BIL_TAMP_COUNT_COUNT (tpCover - 1)) + 1) % 2 ^ 32))

/-- A value outside the stated range of a field that takes writes at any time changes nothing in the word and is answered with a code; the words of the interrupt table take
any value whole; the base of a running ring is not open: a write, whatever it carries, is rejected with NOT_OPEN, counted, and the word keeps its value; so is a write of
an armed leg's configuration (R9, R111, R500). A write of a low word goes to the register's staging word and changes no register; a write of the high word of a ring's
base sets both words at once and reloads the staging word; a read of a low word captures the high word (R12); a word of a 32-bit register reads as it stands and then
reads 0 in the bits that clear; the read of an equaliser's word puts the least figure of merit to the present one (R9, R194); a read of a ring's doorbell returns the
index that the device keeps (R484). -/
def Obligations.HostRegisterAccess : Prop :=
  (∀ (s : State) (off : BitVec 21) (v : Word) (r : RegRow) (f : FieldRow), taken (.registerWrite off v) s = true → off.toNat % 4 = 0 →
    rowAt off.toNat = some r → s.dev.halfOf r off.toNat = 0 → f ∈ r.fields → f.acc = .rw → f.outside v = true → Dev.bothAsked off.toNat v = false →
    Completes (.registerWrite off v) s (fun t => t.rd off.toNat = s.dev.rd off.toNat ∧ ∃ c : Code, c ≠ ST_OK ∧ .writeStatus c ∈ t.out)) ∧
  (∀ (s : State) (k : Fin 64) (v : Word), taken (.registerWrite (BitVec.ofNat 21 (HIF_MSIX_ADDR_LO k)) v) s = true →
    Completes (.registerWrite (BitVec.ofNat 21 (HIF_MSIX_ADDR_LO k)) v) s (fun t => t.rd (HIF_MSIX_ADDR_LO k) = v ∧
      .writeStatus ST_OK ∈ t.out ∧ ∀ a : Nat, a ≠ HIF_MSIX_ADDR_LO k → t.rd a = s.dev.rd a)) ∧
  (∀ (s : State) (n : Fin 256) (v : Word), taken (.reg64HighWrite (BitVec.ofNat 21 (HIF_RING_BASE_HI n)) v) s = true →
    s.dev.flag (HIF_RING_CFG_EN n) = true →
    Completes (.reg64HighWrite (BitVec.ofNat 21 (HIF_RING_BASE_HI n)) v) s (fun t => t.rd (HIF_RING_BASE_HI n) = s.dev.rd (HIF_RING_BASE_HI n) ∧
      t.rd (HIF_RING_BASE_LO n) = s.dev.rd (HIF_RING_BASE_LO n) ∧ .writeStatus ST_HIF_NOT_OPEN ∈ t.out ∧
      t.get HIF_REJECT_CNT_CNT = min (s.dev.get HIF_REJECT_CNT_CNT + 1) 65535)) ∧
  (∀ (s : State) (i : Fin 408) (v : Word), taken (.registerWrite (BitVec.ofNat 21 (EDG_LEG_CFG i)) v) s = true → s.dev.armed i = true →
    Completes (.registerWrite (BitVec.ofNat 21 (EDG_LEG_CFG i)) v) s (fun t => t.rd (EDG_LEG_CFG i) = s.dev.rd (EDG_LEG_CFG i) ∧
      .writeStatus ST_EDG_NOT_OPEN ∈ t.out)) ∧
  (∀ (s : State) (off : BitVec 21) (v : Word) (r : RegRow), taken (.reg64LowWrite off v) s = true → off.toNat % 4 = 0 →
    rowAt off.toNat = some r → s.dev.halfOf r off.toNat = 1 →
    Completes (.reg64LowWrite off v) s (fun t => t.staged off.toNat = v ∧ t.regs = s.dev.regs)) ∧
  (∀ (s : State) (n : Fin 256) (v : Word), taken (.reg64HighWrite (BitVec.ofNat 21 (HIF_RING_BASE_HI n)) v) s = true →
    s.dev.flag (HIF_RING_CFG_EN n) = false → (s.dev.staged (HIF_RING_BASE_LO n)).toNat % 4096 = 0 →
    Completes (.reg64HighWrite (BitVec.ofNat 21 (HIF_RING_BASE_HI n)) v) s (fun t => t.rd (HIF_RING_BASE_HI n) = v ∧
      t.rd (HIF_RING_BASE_LO n) = s.dev.staged (HIF_RING_BASE_LO n) ∧ t.staged (HIF_RING_BASE_LO n) = t.rd (HIF_RING_BASE_LO n) ∧
      ∀ a : Nat, a ≠ HIF_RING_BASE_LO n → a ≠ HIF_RING_BASE_HI n → t.rd a = s.dev.rd a)) ∧
  (∀ (s : State) (off : BitVec 21) (r : RegRow), s.dev.live = true → s.dev.blockServed (off.toNat / 65536) = true → off.toNat % 4 = 0 →
    rowAt off.toNat = some r → s.dev.halfOf r off.toNat = 1 →
    Completes (.reg64LowRead off) s (fun t => t.captured off.toNat = some (s.dev.wordNow (off.toNat + 4)) ∧
      .readData (s.dev.wordNow off.toNat &&& Dev.readMask r) ∈ t.out ∧ t.regs = s.dev.regs)) ∧
  (∀ (s : State) (off : BitVec 21) (r : RegRow), s.dev.live = true → s.dev.blockServed (off.toNat / 65536) = true → off.toNat % 4 = 0 →
    rowAt off.toNat = some r → s.dev.halfOf r off.toNat = 0 → instanceAt off.toNat (PST_PHY_EQ 0) 256 8 = none →
    Completes (.clearOnReadRead .bar0 off) s (fun t => .readData (s.dev.wordNow off.toNat &&& Dev.readMask r) ∈ t.out ∧
      t.rd off.toNat = s.dev.rd off.toNat &&& ~~~(BitVec.ofNat 32 r.clears) ∧ ∀ a : Nat, a ≠ off.toNat → t.rd a = s.dev.rd a)) ∧
  (∀ (s : State) (p : Fin 8), s.dev.live = true → s.dev.blockServed 6 = true →
    Completes (.clearOnReadRead .bar0 (BitVec.ofNat 21 (PST_PHY_EQ p))) s (fun t => .readData (s.dev.rd (PST_PHY_EQ p)) ∈ t.out ∧
      t.get (PST_PHY_EQ_FOM_MIN p) = s.dev.get (PST_PHY_EQ_FOM p) ∧ t.get (PST_PHY_EQ_FOM p) = s.dev.get (PST_PHY_EQ_FOM p))) ∧
  (∀ (s : State) (n : Fin 256), s.dev.live = true →
    Completes (.clearOnReadRead .bar2 (BitVec.ofNat 21 (8 * n))) s (fun t =>
      t = s.dev.start.emit (.readData (BitVec.ofNat 32 (s.dev.get (HIF_RING_STATUS_INDEX n))))))

/-- REG_READ of one register, or of two, returns the words read, one after the other, little-endian; a list of fewer than 1 or more than 256 completes with BAD_PARAM (R487).
A configuration image is refused with BUSY_LIVE when CONFIG_BAD does not stand and the device is not in COMMISSIONING without a live site; where it is taken, an image
whose header, CRC or record layout is broken, or which is for another device, fails with BAD_PARAM and changes no copy; an image whose records all pass replaces both
copies alike, drops a stored one and unconfirms the safety parameters (R514). A UART frame with a bad CRC or length is counted and not answered; a request whose opcode is
not served over the UART is answered with NOT_IN_CHANNEL, and one with a non-zero reserved field or an unknown opcode with BAD_OPCODE (R486, R499). -/
def Obligations.ReadsConfigurationAndUart : Prop :=
  (∀ (s : State) (src : Src) (a : Word), taken (.regRead src [a]) s = true → a.toNat < 0x200000 →
    Completes (.regRead src [a]) s (fun t =>
      t = (s.dev.start.regRead a.toNat).1.complete src ST_OK 0 (leBytes 4 (s.dev.start.regRead a.toNat).2.toNat))) ∧
  (∀ (s : State) (src : Src) (a b : Word), taken (.regRead src [a, b]) s = true → a.toNat < 0x200000 → b.toNat < 0x200000 →
    Completes (.regRead src [a, b]) s (fun t => ∃ d : Dev, d = (s.dev.start.regRead a.toNat).1 ∧
      t = (d.regRead b.toNat).1.complete src ST_OK 0 (leBytes 4 (s.dev.start.regRead a.toNat).2.toNat ++ leBytes 4 (d.regRead b.toNat).2.toNat))) ∧
  (∀ (s : State) (src : Src) (l : List Word), taken (.regRead src l) s = true → l = [] ∨ 256 < l.length →
    Completes (.regRead src l) s (fun t => t = s.dev.start.complete src ST_BAD_PARAM)) ∧
  (∀ (s : State) (l : LongSrc) (x : List Byte), taken (.cfgWrite l x) s = true → s.dev.longCheck l = none →
    s.dev.flag GEN_LIFECYCLE_CAUSE_CONFIG = false → s.dev.life ≠ lfCommissioning ∨ s.dev.siteLive = true →
    Completes (.cfgWrite l x) s (fun t => t = s.dev.start.longRefuse l 0x0003 ST_BUSY_LIVE ∧ t.gen.cfg0 = s.dev.gen.cfg0 ∧ t.gen.cfg1 = s.dev.gen.cfg1)) ∧
  (∀ (s : State) (l : LongSrc) (x : List Byte), taken (.cfgWrite l x) s = true → s.dev.longCheck l = none →
    s.dev.flag GEN_LIFECYCLE_CAUSE_CONFIG = true → s.dev.cfgImageOf x = none →
    Completes (.cfgWrite l x) s (fun t => t = (s.dev.start.longAccept l 0x0003 false).longEnd l.src .failed ST_BAD_PARAM ∧
      t.gen.cfg0 = s.dev.gen.cfg0 ∧ t.gen.cfg1 = s.dev.gen.cfg1)) ∧
  (∀ (s : State) (l : LongSrc) (x : List Byte) (y : CfgImage), taken (.cfgWrite l x) s = true → s.dev.longCheck l = none →
    s.dev.flag GEN_LIFECYCLE_CAUSE_CONFIG = true ∨ (s.dev.life = lfCommissioning ∧ s.dev.siteLive = false) → s.dev.cfgImageOf x = some y →
    s.dev.firstBadRecord (s.dev.flag GEN_LIFECYCLE_CAUSE_CONFIG) y.cal ((s.dev.assocOf .host).any (fun a => isInstaller a.role)) 0 y.records = none →
    Completes (.cfgWrite l x) s (fun t => t.gen.cfg0 = Dev.copyOf y.records ∧ t.gen.cfg1 = Dev.copyOf y.records ∧ t.bil.pendingCfg = none ∧
      t.flag SAF_STATUS_CONFIRMED = false)) ∧
  (∀ (s : State) (frame : List Byte), taken (.uartFrameReceived frame) s = true → uartPayload frame = none →
    Completes (.uartFrameReceived frame) s (fun t => t.rd HIF_UART_ERR = s.dev.rd HIF_UART_ERR + 1 ∧ t.out = [])) ∧
  (∀ (s : State) (frame p : List Byte), taken (.uartFrameReceived frame) s = true → uartPayload frame = some p → 64 ≤ p.length →
    (parseDesc (p.take 64)).clean = true → Dev.opcodeKnown (parseDesc (p.take 64)).opcode = true →
    Dev.opcodeOnUart (parseDesc (p.take 64)).opcode = false →
    Completes (.uartFrameReceived frame) s (fun t =>
      t = s.dev.start.complete (.uart (parseDesc (p.take 64)).tag) ST_HIF_NOT_IN_CHANNEL)) ∧
  (∀ (s : State) (frame p : List Byte), taken (.uartFrameReceived frame) s = true → uartPayload frame = some p → 64 ≤ p.length →
    ((parseDesc (p.take 64)).clean = false ∨ Dev.opcodeKnown (parseDesc (p.take 64)).opcode = false) →
    Completes (.uartFrameReceived frame) s (fun t =>
      t = s.dev.start.complete (.uart (parseDesc (p.take 64)).tag) ST_HIF_BAD_OPCODE))

/-- A submit doorbell of a disabled ring or with an index past the ring's size, and a doorbell past the device's TAIL, are ignored and counted; one of a SUBMIT ring moves its
TAIL; one of another kind that returns all entries, with nothing staged, moves the host's index, and ARM arms the ring's vector (R484). A descriptor that may be fetched
(R482, R483, R485) and is well formed is in execution and the ring's index moves on; one of an unknown opcode is fetched and completes BAD_OPCODE; of a caravan of more
than 64 none comes into execution, and nothing is fetched while QUIESCE is set or the TAIL covers nothing (R486, R490, R501). NOP completes with OK. A vector whose TIME
ends sends its message, or is pending while masked, and is disarmed (R493). The loss of the link in use disables and suspends every enabled ring and counts; without one
only the endpoint's own state goes (R495). A DMA error of a ring in use puts it into ERROR, and one of an operation in execution completes that with DMA_ERROR (R502). -/
def Obligations.DoorbellsAndLink : Prop :=
  (∀ (s : State) (n : Fin 256) (v : Word), taken (.submitDoorbell n v) s = true →
    s.dev.flag (HIF_RING_CFG_EN n) = false ∨ s.dev.ringSize n ≤ v.toNat % 4096 →
    Completes (.submitDoorbell n v) s (fun t => t.rd HIF_DB_ERR = s.dev.rd HIF_DB_ERR + 1 ∧ t.hif.rings[n].hostIdx = s.dev.hif.rings[n].hostIdx)) ∧
  (∀ (s : State) (n : Fin 256) (v : Word), taken (.submitDoorbell n v) s = true → s.dev.flag (HIF_RING_CFG_EN n) = true →
    v.toNat % 4096 < s.dev.ringSize n → s.dev.get (HIF_RING_CFG_KIND n) = kindSubmit →
    Completes (.submitDoorbell n v) s (fun t => t.hif.rings[n].hostIdx = v.toNat % 4096 ∧ t.regs = s.dev.regs)) ∧
  (∀ (s : State) (n : Fin 256) (v : Word), taken (.headDoorbell n v) s = true → s.dev.flag (HIF_RING_CFG_EN n) = true →
    v.toNat % 4096 < s.dev.ringSize n → s.dev.get (HIF_RING_CFG_KIND n) ≠ kindSubmit →
    (s.dev.get (HIF_RING_STATUS_INDEX n) + s.dev.ringSize n - s.dev.hif.rings[n].hostIdx) % s.dev.ringSize n <
      (v.toNat % 4096 + s.dev.ringSize n - s.dev.hif.rings[n].hostIdx) % s.dev.ringSize n →
    Completes (.headDoorbell n v) s (fun t => t.rd HIF_DB_ERR = s.dev.rd HIF_DB_ERR + 1 ∧ t.hif.rings[n].hostIdx = s.dev.hif.rings[n].hostIdx)) ∧
  (∀ (s : State) (n : Fin 256) (v : Word), taken (.headDoorbell n v) s = true → s.dev.flag (HIF_RING_CFG_EN n) = true →
    v.toNat % 4096 < s.dev.ringSize n → s.dev.get (HIF_RING_CFG_KIND n) ≠ kindSubmit → v.toNat % 4096 = s.dev.get (HIF_RING_STATUS_INDEX n) →
    s.dev.hif.rings[n].staged = [] → s.dev.hif.alertStore = [] →
    Completes (.headDoorbell n v) s (fun t => t.hif.rings[n].hostIdx = v.toNat % 4096 ∧ t.hif.rings[n].staged = [] ∧
      t.hif.vectors[s.dev.ringVector n] = if v.toNat.testBit 31 then ⟨true, 0, none⟩ else s.dev.hif.vectors[s.dev.ringVector n])) ∧
  (∀ (s : State) (n : Fin 256) (part : List (Fin 256)) (es : List (List Byte)), taken (.descriptorFetch n part es) s = true →
    s.dev.flag HIF_CTRL_QUIESCE = true ∨ s.dev.covered n = 0 →
    Completes (.descriptorFetch n part es) s (fun t => t = s.dev.start)) ∧
  (∀ (s : State) (n : Fin 256) (part : List (Fin 256)) (e : List Byte), taken (.descriptorFetch n part [e]) s = true →
    s.dev.get (HIF_RING_CFG_LOG2 n) ≤ 12 → s.dev.mayFetch n part [parseDesc e] = true → s.dev.descBad n (parseDesc e) = none →
    Completes (.descriptorFetch n part [e]) s (fun t =>
      t.get (HIF_RING_STATUS_INDEX n) = (s.dev.get (HIF_RING_STATUS_INDEX n) + 1) % s.dev.ringSize n ∧
      ∃ x : ExecDesc, t.hif.exec = s.dev.hif.exec ++ [x] ∧ x.ring = n.val ∧ x.tag = (parseDesc e).tag ∧ x.opcode = (parseDesc e).opcode ∧
        x.index = s.dev.get (HIF_RING_STATUS_INDEX n) % s.dev.ringSize n ∧ x.waiting = false)) ∧
  (∀ (s : State) (n : Fin 256) (part : List (Fin 256)) (e : List Byte), taken (.descriptorFetch n part [e]) s = true →
    s.dev.get (HIF_RING_CFG_LOG2 n) ≤ 12 → s.dev.mayFetch n part [parseDesc e] = true → Dev.opcodeKnown (parseDesc e).opcode = false →
    Completes (.descriptorFetch n part [e]) s (fun t => ∃ u : Dev, t = u.complete (.ring n (parseDesc e).tag) ST_HIF_BAD_OPCODE ∧
      u.hif.exec.length = s.dev.hif.exec.length + 1 ∧ u.get (HIF_RING_STATUS_INDEX n) = (s.dev.get (HIF_RING_STATUS_INDEX n) + 1) % s.dev.ringSize n)) ∧
  (∀ (s : State) (n : Fin 256) (part : List (Fin 256)) (es : List (List Byte)), taken (.descriptorFetch n part es) s = true →
    s.dev.mayFetch n part (es.map parseDesc) = true → 64 < es.length →
    Completes (.descriptorFetch n part es) s (fun t => t.hif.exec = s.dev.hif.exec)) ∧
  (∀ (s : State) (src : Src), taken (.nop src) s = true → Completes (.nop src) s (fun t => t = s.dev.start.complete src ST_OK)) ∧
  (∀ (s : State) (v : Fin 64) (t0 : Nat), taken (.vectorTimeExpiry v) s = true → s.dev.hif.vectors[v].armed = true → s.dev.hif.vectors[v].firstDt = some t0 →
    Completes (.vectorTimeExpiry v) s (fun t => t.dt = max s.dev.dt (t0 + Dev.us (s.dev.get (HIF_VEC_MOD_TIME v))) ∧ t.hif.vectors[v].armed = false ∧
      (s.dev.flag (HIF_MSIX_CTRL_MASK v) = false → .msix v ∈ t.out) ∧
      (s.dev.flag (HIF_MSIX_CTRL_MASK v) = true → (t.rd (HIF_MSIX_PBA (v / 32))).toNat.testBit (v.val % 32) = true))) ∧
  (∀ (s : State) (c : LinkLossCause), taken (.pcieLinkLoss c) s = true → s.dev.flag HIF_STATUS_LINK_UP = true →
    Completes (.pcieLinkLoss c) s (fun t => t.rd HIF_LINK_EPOCH = s.dev.rd HIF_LINK_EPOCH + 1 ∧ t.flag HIF_STATUS_LINK_UP = false ∧
      ∀ n : Fin 256, t.flag (HIF_RING_CFG_EN n) = false ∧ (s.dev.flag (HIF_RING_CFG_EN n) = true → t.get (HIF_RING_STATUS_STATE n) = 2))) ∧
  (∀ (s : State) (c : LinkLossCause), taken (.pcieLinkLoss c) s = true → s.dev.flag HIF_STATUS_LINK_UP = false →
    Completes (.pcieLinkLoss c) s (fun t => t = s.dev.start.endpointLoss c)) ∧
  (∀ (s : State) (n : Fin 256), taken (.dmaError (.ring n none)) s = true →
    s.dev.ringUsable n (s.dev.get (HIF_RING_CFG_KIND n)) = true →
    Completes (.dmaError (.ring n none)) s (fun t => t.get (HIF_RING_STATUS_STATE n) = 3)) ∧
  (∀ (s : State) (n : Fin 256) (tag : Word), taken (.dmaError (.operation (.ring n tag))) s = true → s.dev.longOf (.ring n tag) = none →
    (s.dev.execOf n tag).isSome = true →
    Completes (.dmaError (.operation (.ring n tag))) s (fun t => ∃ u : Dev, t = u.complete (.ring n tag) ST_HIF_DMA_ERROR ∧
      u.regs = s.dev.regs ∧ u.hif = s.dev.hif))

/-- The cut-off of an armed leg whose group has committed makes the committed values the active RISE and FALL (R92); a fault input whose EN is 0 has no effect, and one that
is enabled faults every armed local output its mask covers (R109). -/
def Obligations.LegCutoffAndFaultInput : Prop :=
  (∀ (s : State) (leg : LegRef) (e : Nat × Nat), taken (.legCutoff leg) s = true → s.dev.isSecondPin leg.ix = false →
    s.dev.period leg.ix ≠ 0 → s.dev.armed leg.ix = true → (s.dev.leg leg.ix).pend = some e →
    Completes (.legCutoff leg) s (fun t =>
      t.get (EDG_LEG_RISE_RISE leg.ix) = e.1 % 2 ^ 26 ∧ t.get (EDG_LEG_FALL_FALL leg.ix) = e.2 % 2 ^ 26)) ∧
  (∀ (s : State) (leg : LegRef), taken (.legCutoff leg) s = true → s.dev.isSecondPin leg.ix = false → s.dev.period leg.ix ≠ 0 →
    s.dev.armed leg.ix = false →
    Completes (.legCutoff leg) s (fun t => t.regs = s.dev.regs ∧ (t.leg leg.ix).bdry = none ∧ t.dt = max s.dev.dt (s.dev.cutoffDt leg.ix (s.dev.nextBoundary leg.ix)))) ∧
  (∀ (s : State) (k : Fin 4), taken (.fltInputAssert k) s = true → s.dev.flag (EDG_FLT_EN k) = false →
    Completes (.fltInputAssert k) s (fun t => t = s.dev.start)) ∧
  (∀ (s : State) (k : Fin 4) (n : Fin 24), taken (.fltInputAssert k) s = true → s.dev.flag (EDG_FLT_EN k) = true →
    s.dev.isSecondPin (LegRef.pwm n).ix = false → s.dev.armed (LegRef.pwm n).ix = true → s.dev.fltCovers k (LegRef.pwm n).ix = true →
    Completes (.fltInputAssert k) s (fun t => t.armed (LegRef.pwm n).ix = false ∧ t.legFaulted (LegRef.pwm n).ix = true))

/-- The host trip latches TRIPPED with cause HOST; a CLEAR beside it is refused; a clear is refused and leaves the causes while a cause that cannot be cleared is present,
else it empties ALC_TRIP and TRIPPED; with no trip it has no effect (R70, R71, R80). -/
def Obligations.SiteTripLatch : Prop :=
  (∀ (s : State) (withClear : Bool), taken (.alcHostTrip withClear) s = true → s.dev.flag ALC_TRIP_HOST_TRIP = false →
    Completes (.alcHostTrip withClear) s (fun t =>
      t.flag ALC_TRIP_HOST_TRIP = true ∧ t.flag ALC_TRIP_CAUSE_HOST = true ∧ t.flag ALC_STATUS_TRIPPED = true ∧
        (withClear = true → t.flag ALC_STATUS_CLEAR_REFUSED = true))) ∧
  (∀ s : State, taken (.alcHostTrip false) s = true → s.dev.flag ALC_TRIP_HOST_TRIP = true →
    Completes (.alcHostTrip false) s (fun t => t.regs = s.dev.regs ∧ t.alc = s.dev.alc)) ∧
  (∀ s : State, taken .alcTripClear s = true → s.dev.tripCausePresent = true →
    Completes .alcTripClear s (fun t => t.rd ALC_TRIP = s.dev.rd ALC_TRIP ∧ t.flag ALC_STATUS_CLEAR_REFUSED = true ∧
      t.flag ALC_STATUS_TRIPPED = s.dev.flag ALC_STATUS_TRIPPED)) ∧
  (∀ s : State, taken .alcTripClear s = true → s.dev.tripCausePresent = false → s.dev.flag ALC_STATUS_TRIPPED = true →
    Completes .alcTripClear s (fun t => t.rd ALC_TRIP = 0 ∧ t.flag ALC_STATUS_TRIPPED = false)) ∧
  (∀ s : State, taken .alcTripClear s = true → s.dev.tripCausePresent = false → s.dev.flag ALC_STATUS_TRIPPED = false →
    Completes .alcTripClear s (fun t => t.regs = s.dev.regs ∧ t.alc = s.dev.alc)) ∧
  (∀ (s : State) (src : Src), taken (.tripClear src) s = true → s.dev.tripCausePresent = true →
    Completes (.tripClear src) s (fun t => t.rd ALC_TRIP = s.dev.rd ALC_TRIP ∧ t.flag ALC_STATUS_CLEAR_REFUSED = true ∧
      ∃ u : Dev, t = u.complete src ST_ALC_TRIP_CAUSE_PRESENT)) ∧
  (∀ (s : State) (src : Src), taken (.tripClear src) s = true → s.dev.tripCausePresent = false → s.dev.flag ALC_STATUS_TRIPPED = true →
    Completes (.tripClear src) s (fun t => t.rd ALC_TRIP = 0 ∧ t.flag ALC_STATUS_TRIPPED = false ∧
      ∃ u : Dev, t = u.complete src ST_OK)) ∧
  (∀ (s : State) (src : Src), taken (.tripClear src) s = true → s.dev.tripCausePresent = false → s.dev.flag ALC_STATUS_TRIPPED = false →
    Completes (.tripClear src) s (fun t => t = s.dev.start.complete src ST_OK))

/-- A flow trip of a cable without a trip latches FLOW_LOW and TRIP with cause FLOW and ILIM 0, 2 s after the flow fell; a trip clears, with FLOW_LOW and its cause, 60 s
after the cable was cool, and leaves HARD; a band falls by one after 5 s; a cable whose parameters pass is enabled with its model not started and ILIM 0, and one whose
parameters do not is refused CAB_PARAM. The commands of conditions that are not pending do nothing (R152, R155, R158). -/
def Obligations.CableTripsAndBands : Prop :=
  (∀ (s : State) (n : Fin 16), taken (.cableFlowTrip n) s = true → (s.dev.cab n).flowLowSince = none →
    Completes (.cableFlowTrip n) s (fun t => t = s.dev.start)) ∧
  (∀ (s : State) (n : Fin 16) (since : Nat), taken (.cableFlowTrip n) s = true → (s.dev.cab n).flowLowSince = some since →
    s.dev.flag (THM_CAB_STATUS_TRIP n) = false →
    Completes (.cableFlowTrip n) s (fun t =>
      t.flag (THM_CAB_STATUS_FLOW_LOW n) = true ∧ t.flag (THM_CAB_STATUS_TRIP n) = true ∧ t.get (THM_CAB_STATUS_TRIP_CAUSE n) = 3 ∧
        t.get (THM_CAB_LIMIT_ILIM n) = 0 ∧ t.dt = max s.dev.dt (since + 2000000000))) ∧
  (∀ (s : State) (n : Fin 16), taken (.cableTripClear n) s = true →
    ((s.dev.cab n).coolSince.isNone || !s.dev.flag (THM_CAB_STATUS_TRIP n)) = true →
    Completes (.cableTripClear n) s (fun t => t = s.dev.start)) ∧
  (∀ (s : State) (n : Fin 16) (since : Nat), taken (.cableTripClear n) s = true → (s.dev.cab n).coolSince = some since →
    s.dev.flag (THM_CAB_STATUS_TRIP n) = true →
    Completes (.cableTripClear n) s (fun t =>
      t.flag (THM_CAB_STATUS_TRIP n) = false ∧ t.get (THM_CAB_STATUS_TRIP_CAUSE n) = 0 ∧ t.flag (THM_CAB_STATUS_FLOW_LOW n) = false ∧
        t.flag (THM_CAB_STATUS_HARD n) = s.dev.flag (THM_CAB_STATUS_HARD n) ∧ t.dt = max s.dev.dt (since + 60000000000))) ∧
  (∀ (s : State) (n : Fin 16), taken (.bandFall n) s = true → (s.dev.cab n).fallSince = none →
    Completes (.bandFall n) s (fun t => t = s.dev.start)) ∧
  (∀ (s : State) (n : Fin 16) (since : Nat), taken (.bandFall n) s = true → (s.dev.cab n).fallSince = some since →
    Completes (.bandFall n) s (fun t =>
      t.get (THM_CAB_STATUS_BAND n) = s.dev.get (THM_CAB_STATUS_BAND n) - 1 ∧ t.dt = max s.dev.dt (since + 5000000000))) ∧
  (∀ (s : State) (n : Fin 16), taken (.cableEnable n) s = true → s.dev.flag (THM_CAB_CFG_EN n) = false → s.dev.cabParamOk n = false →
    Completes (.cableEnable n) s (fun t => t.regs = s.dev.regs ∧ t.thm = s.dev.thm ∧ t.out = [.writeStatus ST_THM_CAB_PARAM])) ∧
  (∀ (s : State) (n : Fin 16), taken (.cableEnable n) s = true → s.dev.flag (THM_CAB_CFG_EN n) = false → s.dev.cabParamOk n = true →
    Completes (.cableEnable n) s (fun t =>
      t.flag (THM_CAB_CFG_EN n) = true ∧ (t.cab n).started = false ∧ t.get (THM_CAB_LIMIT_ILIM n) = 0 ∧ .writeStatus ST_OK ∈ t.out))

/-- Closing a closed slot and opening an open one have no effect; a refused close leaves the slot open with the low byte of the first failing code in ERR; an accepted close
shows CLOSED with ERR 0, nothing outstanding and the first execution to come; a slot that feeds an armed leg cannot be opened; an accepted open with nothing started shows
OPEN at once, and with an execution started waits for its end (R131); FAULT is cleared unless it was set in the same clock (R10, R137). That a close leaves MISS_RUN as it
was is read from R136. -/
def Obligations.SlotOpenCloseClear : Prop :=
  (∀ (s : State) (m : Fin 128), taken (.slotClose m) s = true → s.dev.slotClosed m = true →
    Completes (.slotClose m) s (fun t => t.regs = s.dev.regs ∧ t.cle = s.dev.cle ∧ t.out = [.writeStatus ST_OK])) ∧
  (∀ (s : State) (m : Fin 128) (c : Code), taken (.slotClose m) s = true → s.dev.slotClosed m = false → s.dev.closeCheck m = some c →
    Completes (.slotClose m) s (fun t => t.slotClosed m = false ∧ t.get (CLE_SLOT_CTL_ERR m) = c.toNat % 256 ∧ t.cle = s.dev.cle ∧
      .writeStatus c ∈ t.out)) ∧
  (∀ (s : State) (m : Fin 128), taken (.slotClose m) s = true → s.dev.slotClosed m = false → s.dev.closeCheck m = none →
    Completes (.slotClose m) s (fun t => t.slotClosed m = true ∧ t.get (CLE_SLOT_CTL_ERR m) = 0 ∧
      t.get (CLE_SLOT_CTL_MISS_RUN m) = s.dev.get (CLE_SLOT_CTL_MISS_RUN m) ∧
      t.cle.slots[m].queued = none ∧ t.cle.slots[m].started = none ∧ t.cle.slots[m].execs = 0 ∧ .writeStatus ST_OK ∈ t.out)) ∧
  (∀ (s : State) (m : Fin 128), taken (.slotOpen m) s = true → s.dev.slotClosed m = false →
    Completes (.slotOpen m) s (fun t => t.regs = s.dev.regs ∧ t.cle = s.dev.cle ∧ t.out = [.writeStatus ST_OK])) ∧
  (∀ (s : State) (m : Fin 128), taken (.slotOpen m) s = true → s.dev.slotClosed m = true → s.dev.feedsArmed m = true →
    Completes (.slotOpen m) s (fun t => t.slotClosed m = true ∧ t.get (CLE_SLOT_CTL_ERR m) = ST_BUSY_LIVE.toNat % 256 ∧ t.cle = s.dev.cle ∧
      .writeStatus ST_BUSY_LIVE ∈ t.out)) ∧
  (∀ (s : State) (m : Fin 128), taken (.slotOpen m) s = true → s.dev.slotClosed m = true → s.dev.feedsArmed m = false →
    s.dev.cle.slots[m].queued = none → s.dev.cle.slots[m].started = none →
    Completes (.slotOpen m) s (fun t => t.slotClosed m = false ∧ t.get (CLE_SLOT_CTL_ERR m) = 0 ∧ t.cle.slots[m].queued = none ∧
      .writeStatus ST_OK ∈ t.out)) ∧
  (∀ (s : State) (m : Fin 128) (x : SlotExec × Nat), taken (.slotOpen m) s = true → s.dev.slotClosed m = true → s.dev.feedsArmed m = false →
    s.dev.cle.slots[m].queued = none → s.dev.cle.slots[m].started = some x →
    Completes (.slotOpen m) s (fun t => t.slotClosed m = true ∧ t.get (CLE_SLOT_CTL_ERR m) = 0 ∧ t.cle.slots[m].opening = true ∧
      t.cle.slots[m].started = some x ∧ t.out = [.writeStatus ST_OK])) ∧
  (∀ (s : State) (m : Fin 128), taken (.slotFaultClear m) s = true → (s.dev.justSet (CLE_SLOT_CTL m)).getLsbD 29 = false →
    Completes (.slotFaultClear m) s (fun t => t.flag (CLE_SLOT_CTL_FAULT m) = false ∧ t.slotClosed m = s.dev.slotClosed m ∧ t.cle = s.dev.cle ∧
      .writeStatus ST_OK ∈ t.out)) ∧
  (∀ (s : State) (m : Fin 128), taken (.slotFaultClear m) s = true → (s.dev.justSet (CLE_SLOT_CTL m)).getLsbD 29 = true →
    Completes (.slotFaultClear m) s (fun t => t.regs = s.dev.regs ∧ t.cle = s.dev.cle ∧ t.out = [.writeStatus ST_OK]))

/-- CABLE_OBSERVER_STEP falls on the DT multiple of 1 ms after the last step (log entry 4). The observer of an enabled cable that has not started takes T1 and T2 from the
highest usable contact sensor and T3 from the highest usable return sensor, T_LIM less MARGIN standing in where there is none (R150); one that has started steps T1, T2
and T3 by the equations of R147 with the outlet's voted current, the flow and the supply temperature of R148, in fixed point (log entry 6). CABLE_LIMIT_PUBLISH of a cable
that is not enabled does nothing; of an enabled cable, at its band's rate, it publishes at most I_RATED, 0 A while a trip stands, TREC 0 where the limit covers the
demand, and DERATE exactly when the limit is below I_RATED (R151, R152). SENSOR_SAMPLE of a channel that is off does nothing; a sample that is judged faulty leaves that
fault in the channel; a good sample of a channel without fault and outside every set is measured and used, at the channel's sample instant (R145, R153, R154). -/
def Obligations.ObserverLimitAndSensors : Prop :=
  (∀ (s : State) (p0 p1 p2 p3 : Word), taken (.cableObserverStep p0 p1 p2 p3) s = true →
    Completes (.cableObserverStep p0 p1 p2 p3) s (fun t => t.dt = max s.dev.dt (s.dev.nextMultiple (Dev.ms 1) s.dev.thm.lastStep) ∧
      t.thm.lastStep = some (s.dev.nextMultiple (Dev.ms 1) s.dev.thm.lastStep) ∧
      ∀ n : Fin 16, s.dev.cabLive n = true → (s.dev.cab n).started = false →
        (t.cab n).started = true ∧ (t.cab n).t1 = (s.dev.highestUsable n 1).getD (s.dev.tMargin n) ∧
        (t.cab n).t2 = (s.dev.highestUsable n 1).getD (s.dev.tMargin n) ∧ (t.cab n).t3 = (s.dev.highestUsable n 3).getD (s.dev.tMargin n))) ∧
  (∀ (s : State) (p0 p1 p2 p3 : Word) (n : Fin 16) (u : Dev) (v : Int × Int) (i t1 t2 t3 q12 q13 q23 ts : Rat),
    taken (.cableObserverStep p0 p1 p2 p3) s = true → s.dev.cabLive n = true → (s.dev.cab n).started = true →
    u = s.dev.start.reach (s.dev.nextMultiple (Dev.ms 1) s.dev.thm.lastStep) → u.measOf n = some v → i = mkRat v.2.natAbs (2 ^ 32) →
    t1 = fxRat (s.dev.cab n).t1 → t2 = fxRat (s.dev.cab n).t2 → t3 = fxRat (s.dev.cab n).t3 → ts = mkRat 1 1000 →
    q12 = u.ratAt (THM_CAB_G12 n) * (t1 - t2) → q13 = u.ratAt (THM_CAB_G13 n) * (t1 - t3) → q23 = u.ratAt (THM_CAB_G23 n) * (t2 - t3) →
    Completes (.cableObserverStep p0 p1 p2 p3) s (fun t =>
      (t.cab n).t1 = ratFx (t1 + ts / u.ratAt (THM_CAB_C1 n) *
        (i * i * u.ratAt (THM_CAB_RC n) * (1 + u.ratAt (THM_CAB_ALPHA n) * (t1 - 20)) - q12 - q13)) ∧
      (t.cab n).t2 = ratFx (t2 + ts / u.ratAt (THM_CAB_C2 n) * (i * i * u.ratAt (THM_CAB_RP n) + q12 - q23)) ∧
      (t.cab n).t3 = ratFx (t3 + ts / u.ratAt (THM_CAB_C3 n) *
        (q13 + q23 - u.ratAt (THM_CAB_GF n) * fxRat (ratFx (u.cabFlow n [p0, p1, p2, p3])) * (t3 - fxRat (u.tinOf n)))))) ∧
  (∀ (s : State) (n : Fin 16), taken (.cableLimitPublish n) s = true → s.dev.cabLive n = false →
    Completes (.cableLimitPublish n) s (fun t => t = s.dev.start)) ∧
  (∀ (s : State) (n : Fin 16), taken (.cableLimitPublish n) s = true → s.dev.cabLive n = true →
    Completes (.cableLimitPublish n) s (fun t =>
      t.dt = max s.dev.dt (s.dev.nextMultiple (Dev.bandPeriod (s.dev.get (THM_CAB_STATUS_BAND n))) (s.dev.ticked (.limit n))) ∧
      t.get (THM_CAB_LIMIT_ILIM n) ≤ s.dev.get (THM_CAB_CFG_I_RATED n) ∧
        ((s.dev.flag (THM_CAB_STATUS_TRIP n) || s.dev.flag (THM_CAB_STATUS_HARD n)) = true → t.get (THM_CAB_LIMIT_ILIM n) = 0) ∧
        (t.demandAmps n ≤ t.get (THM_CAB_LIMIT_ILIM n) → t.get (THM_CAB_LIMIT_TREC n) = 0) ∧
        t.flag (THM_CAB_STATUS_DERATE n) = decide (t.get (THM_CAB_LIMIT_ILIM n) < s.dev.get (THM_CAB_CFG_I_RATED n)))) ∧
  (∀ (s : State) (n : Fin 64) (ohm : Word), taken (.sensorSample n ohm) s = true →
    (!s.dev.flag (THM_SNS_CFG_EN n) || s.dev.get (THM_SNS_CFG_TYPE n) == 0) = true →
    Completes (.sensorSample n ohm) s (fun t => t = s.dev.start)) ∧
  (∀ (s : State) (n : Fin 64) (ohm : Word) (u : Dev), taken (.sensorSample n ohm) s = true → s.dev.flag (THM_SNS_CFG_EN n) = true →
    s.dev.get (THM_SNS_CFG_TYPE n) ≠ 0 →
    u = s.dev.start.reach (s.dev.nextMultiple (Dev.bandPeriod (s.dev.snsBand n)) s.dev.thm.sns[n].lastDt) →
    (u.snsJudge n ohm (Dev.bandPeriod (s.dev.snsBand n))).1 ≠ 0 →
    Completes (.sensorSample n ohm) s (fun t =>
      t.dt = u.dt ∧ t.get (THM_SNS_VAL_FAULT n) = (u.snsJudge n ohm (Dev.bandPeriod (s.dev.snsBand n))).1 % 8)) ∧
  (∀ (s : State) (n : Fin 64) (ohm : Word) (u : Dev) (v : Int), taken (.sensorSample n ohm) s = true → s.dev.flag (THM_SNS_CFG_EN n) = true →
    s.dev.get (THM_SNS_CFG_TYPE n) ≠ 0 → s.dev.snsSet n = none → s.dev.get (THM_SNS_VAL_FAULT n) = 0 →
    u = s.dev.start.reach (s.dev.nextMultiple (Dev.bandPeriod (s.dev.snsBand n)) s.dev.thm.sns[n].lastDt) →
    u.snsJudge n ohm (Dev.bandPeriod (s.dev.snsBand n)) = (0, some v) →
    Completes (.sensorSample n ohm) s (fun t => t.dt = u.dt ∧ t.get (THM_SNS_VAL_FAULT n) = 0 ∧ t.thm.sns[n].meas = some v ∧
      t.thm.sns[n].used = some v ∧ t.thm.sns[n].lastDt = some u.dt ∧ t.get (THM_SNS_VAL_STATE n) = (if s.dev.thm.sns[n].high = true then stHighDev else stOk)))

/-- IDENTIFY of an outlet above 15 or with a STEP_TIME outside 10 to 120 min is refused BAD_PARAM; outside COMMISSIONING, without a session of the outlet, with its cable
enabled or while one runs it is refused BUSY_LIVE; an accepted one starts phase 1 on the outlet's cable with the request at 0. Phase 1 ends when the temperatures have
settled, with phase 2 at the identification current; where they have not, it ends the identification after 60 min; phases 2 and 3 end STEP_TIME after they began with the
next phase and the request at 0; a current outside its band for more than 1 s or a lost sensor ends the identification at once with the request at 0; phase 4 fits at once
and ends the identification and its operation (R161). Where a phase ends later than it is told, the device time has already come that far (DESIGN CHOICE, log entry 4). -/
def Obligations.Identification : Prop :=
  (∀ (s : State) (l : LongSrc) (o : Byte) (i st : Code), taken (.identify l o i st) s = true → s.dev.longCheck l = none → (16 ≤ o.toNat ∨ st.toNat < 10 ∨ 120 < st.toNat) →
    Completes (.identify l o i st) s (fun t => t = s.dev.start.longRefuse l 0x0501 ST_BAD_PARAM)) ∧
  (∀ (s : State) (l : LongSrc) (n : Fin 16) (i st : Code), taken (.identify l (BitVec.ofNat 8 n) i st) s = true → s.dev.longCheck l = none →
    3 * s.dev.get (THM_CAB_CFG_I_RATED n) ≤ 10 * i.toNat → 10 ≤ st.toNat → st.toNat ≤ 120 →
    (s.dev.life == lfCommissioning && s.dev.sessOpen n && (s.dev.sess n).comm && !s.dev.flag (THM_CAB_CFG_EN n) &&
      (s.dev.highestMeasured n 1).isSome && (s.dev.highestMeasured n 2).isSome && (s.dev.highestMeasured n 3).isSome) = true →
    (s.dev.cab n).ident = none →
    Completes (.identify l (BitVec.ofNat 8 n) i st) s (fun t =>
      (t.cab n).ident = some ⟨l.src, i.toNat, Dev.sec (60 * st.toNat), 1, s.dev.dt, none, []⟩ ∧ t.rd (VSS_OUT_REQ n) = 0)) ∧
  (∀ (s : State) (l : LongSrc) (n : Fin 16) (i st : Code), taken (.identify l (BitVec.ofNat 8 n) i st) s = true → s.dev.longCheck l = none →
    3 * s.dev.get (THM_CAB_CFG_I_RATED n) ≤ 10 * i.toNat → 10 ≤ st.toNat → st.toNat ≤ 120 →
    (s.dev.life ≠ lfCommissioning ∨ s.dev.sessOpen n = false ∨ s.dev.flag (THM_CAB_CFG_EN n) = true ∨ (s.dev.cab n).ident.isSome = true) →
    Completes (.identify l (BitVec.ofNat 8 n) i st) s (fun t => t = s.dev.start.longRefuse l 0x0501 ST_BUSY_LIVE)) ∧
  (∀ (s : State) (n : Fin 16), taken (.identifyPhaseEnd n) s = true → (s.dev.cab n).ident = none →
    Completes (.identifyPhaseEnd n) s (fun t => t = s.dev.start)) ∧
  (∀ (s : State) (n : Fin 16) (r : IdRun), taken (.identifyPhaseEnd n) s = true → (s.dev.cab n).ident = some r → r.phase = 1 →
    s.dev.identSettled r = true →
    Completes (.identifyPhaseEnd n) s (fun t => (t.cab n).ident = some { r with phase := 2, since := s.dev.dt, offSince := none } ∧
      t.get (VSS_OUT_EVLIM_EV_IMAX n) = (if r.iId = 0 then s.dev.get (VSS_OUT_EVLIM_EV_IMAX n) else r.iId % 2 ^ 16))) ∧
  (∀ (s : State) (n : Fin 16) (r : IdRun), taken (.identifyPhaseEnd n) s = true → (s.dev.cab n).ident = some r → r.phase = 1 →
    s.dev.identSettled r = false →
    Completes (.identifyPhaseEnd n) s (fun t => (t.cab n).ident = none ∧ t.dt = max s.dev.dt (r.since + 3600000000000))) ∧
  (∀ (s : State) (n : Fin 16) (r : IdRun), taken (.identifyPhaseEnd n) s = true → (s.dev.cab n).ident = some r → r.phase = 2 ∨ r.phase = 3 →
    r.offSince.all (fun t0 => decide (s.dev.dt ≤ t0 + 1000000000)) = true → s.dev.identLost n = false →
    Completes (.identifyPhaseEnd n) s (fun t => t.dt = max s.dev.dt (r.since + r.step) ∧
      (t.cab n).ident = some { r with phase := r.phase + 1, since := t.dt, offSince := none } ∧ t.rd (VSS_OUT_REQ n) = 0)) ∧
  (∀ (s : State) (n : Fin 16) (r : IdRun), taken (.identifyPhaseEnd n) s = true → (s.dev.cab n).ident = some r → r.phase = 2 ∨ r.phase = 3 →
    (r.offSince.any (fun t0 => decide (t0 + 1000000000 < s.dev.dt)) || s.dev.identLost n) = true →
    Completes (.identifyPhaseEnd n) s (fun t => (t.cab n).ident = none ∧ t.dt = s.dev.dt ∧ t.rd (VSS_OUT_REQ n) = 0)) ∧
  (∀ (s : State) (n : Fin 16) (r : IdRun), taken (.identifyPhaseEnd n) s = true → (s.dev.cab n).ident = some r → r.phase = 4 →
    Completes (.identifyPhaseEnd n) s (fun t => (t.cab n).ident.all (fun x => x.src != r.src) = true ∧ t.dt = s.dev.dt ∧
      t.longOf r.src = none))

/-- TRAIN ends in ADAPT on the piste's own origin under lock, with the first CTLE setting and the taps at 0 unless the equaliser is frozen; an attempt fails after 40 ms in
TRAIN; ADAPT ends 2.6 ms after it began, its sweep over, in VERIFY with a figure of merit of 32 or more under lock, and fails the attempt below; VERIFY ends clean after 1
ms in UP, and not clean in a failed attempt; a failed attempt starts the next one until three in a row have failed, then the piste is FAILED, and tries again after 1 s
(R180, R185, R186). The device's receiver that declares lock is locked, and lock regained in RELOCK is UP again; lock lost in UP counts and is RELOCK, with FOM 0; not
regained in 2 ms it is a new attempt in TRAIN. An inversion found with RX_INV_AUTO set by a receiver locked in TRAIN and not yet inverted sets RX_INV, and the receiver
hunts again (log entry 31); otherwise it has no effect. A node's receiver is aligned by its lock, and corrects an inversion by the same rule (R178, R179, R185). A time
limit that has passed already ends at the present device time (log entry 4). -/
def Obligations.PisteBringUp : Prop :=
  (∀ (s : State) (p : Fin 8) (r : Option (Fin 8)), taken (.pisteTrainDone p p r) s = true → s.dev.pisteState p = phTrain → s.dev.locked p = true →
    Completes (.pisteTrainDone p p r) s (fun t => t.pisteState p = phAdapt ∧ (s.dev.flag (PST_PHY_CTL_ADAPT_FREEZE p) = false →
      t.get (PST_PHY_EQ_CTLE p) = 0 ∧ t.rd (PST_PHY_DFE p) = 0))) ∧
  (∀ (s : State) (p : Fin 8) (o : Option (Fin 8)), taken (.pisteTrainTimeout p o) s = true → s.dev.pisteState p = phTrain →
    Completes (.pisteTrainTimeout p o) s (fun t =>
      t.dt = max s.dev.dt (s.dev.pst.phy[p].since + 40000000) ∧
      t.pisteState p = (if s.dev.pst.phy[p].fails + 1 < 3 then phTrain else phFailed))) ∧
  (∀ (s : State) (p : Fin 8) (eye amp : Nat), taken (.pisteAdaptDone p eye amp) s = true → s.dev.pisteState p = phAdapt →
    s.dev.sweepOver p = true → s.dev.locked p = true →
    Completes (.pisteAdaptDone p eye amp) s (fun t =>
      t.dt = max s.dev.dt (s.dev.pst.phy[p].since + 2600000) ∧
      t.pisteState p = (if 32 ≤ fomOf eye amp then phVerify else if s.dev.pst.phy[p].fails + 1 < 3 then phTrain else phFailed))) ∧
  (∀ (s : State) (p : Fin 8) (eye amp : Nat), taken (.pisteAdaptDone p eye amp) s = true →
    s.dev.pisteState p ≠ phAdapt ∨ s.dev.sweepOver p = false →
    Completes (.pisteAdaptDone p eye amp) s (fun t => t = s.dev.start)) ∧
  (∀ (s : State) (p : Fin 8), taken (.pisteVerifyDone p true) s = true → s.dev.pisteState p = phVerify →
    Completes (.pisteVerifyDone p true) s (fun t =>
      t.dt = max s.dev.dt (s.dev.pst.phy[p].since + 1000000) ∧ t.pisteState p = phUp ∧
      t.get (PST_PHY_STATE_UP_MS p) = min 4095 ((t.dt - s.dev.pst.phy[p].attemptDt) / 1000000))) ∧
  (∀ (s : State) (p : Fin 8), taken (.pisteVerifyDone p false) s = true → s.dev.pisteState p = phVerify →
    Completes (.pisteVerifyDone p false) s (fun t =>
      t.pisteState p = (if s.dev.pst.phy[p].fails + 1 < 3 then phTrain else phFailed) ∧ t.get (PST_PHY_STATE_LAST_FAIL p) = pfVerify)) ∧
  (∀ (s : State) (p : Fin 8), taken (.rxLock (.device p)) s = true →
    Completes (.rxLock (.device p)) s (fun t => t.locked p = true ∧
      t.pisteState p = (if s.dev.pisteState p = phRelock then phUp else s.dev.pisteState p))) ∧
  (∀ (s : State) (i : Fin 128) (odd : Bool),
    Completes (.rxLock (.node i odd)) s (fun t => (t.port i odd).aligned = true ∧ t.regs = s.dev.regs)) ∧
  (∀ (s : State) (p : Fin 8), taken (.rxLockLoss p) s = true → s.dev.locked p = true → s.dev.pisteState p = phUp →
    Completes (.rxLockLoss p) s (fun t => t.locked p = false ∧ t.pisteState p = phRelock ∧ t.get (PST_PHY_EQ_FOM p) = 0 ∧
      t.get (PST_PHY_LOCKLOSS_LOCKLOSS p) = min (s.dev.get (PST_PHY_LOCKLOSS_LOCKLOSS p) + 1) 65535)) ∧
  (∀ (s : State) (p : Fin 8), taken (.rxInversionDetected (.device p)) s = true →
    (s.dev.flag (PST_PHY_CTL_RX_INV_AUTO p) && s.dev.locked p && !s.dev.flag (PST_PHY_STATE_RX_INV p)) = true → s.dev.pisteState p = phTrain →
    Completes (.rxInversionDetected (.device p)) s (fun t => t.locked p = false ∧ t.flag (PST_PHY_STATE_RX_INV p) = true ∧
      t.pisteState p = phTrain)) ∧
  (∀ (s : State) (p : Fin 8), taken (.rxInversionDetected (.device p)) s = true →
    (s.dev.flag (PST_PHY_CTL_RX_INV_AUTO p) && s.dev.locked p && !s.dev.flag (PST_PHY_STATE_RX_INV p)) = false →
    Completes (.rxInversionDetected (.device p)) s (fun t => t = s.dev.start)) ∧
  (∀ (s : State) (i : Fin 128) (odd : Bool), (s.dev.port i odd).aligned = true → (s.dev.port i odd).inverted = false →
    Completes (.rxInversionDetected (.node i odd)) s (fun t => (t.port i odd).inverted = true ∧ (t.port i odd).aligned = false)) ∧
  (∀ (s : State) (p : Fin 8), taken (.pisteRelockTimeout p) s = true → s.dev.pisteState p = phRelock →
    Completes (.pisteRelockTimeout p) s (fun t =>
      t.dt = max s.dev.dt (s.dev.pst.phy[p].since + 2000000) ∧ t.pisteState p = phTrain)) ∧
  (∀ (s : State) (p : Fin 8), taken (.pisteFailedRetry p) s = true → s.dev.pisteState p = phFailed →
    Completes (.pisteFailedRetry p) s (fun t =>
      t.dt = max s.dev.dt (s.dev.pst.phy[p].since + 1000000000) ∧ t.pisteState p = phTrain))

/-- A frame that is not whole is discarded and counted, with its reserved blocks. A TELE frame of a present node, not a repeat, keeps its fault input bit and, with SUBTYPE 0,
its sample time and each value that is a number, and leaves the other half; where its STATUS shows a fault of an armed leg of the stage bound to the node, sampled after
the leg's last release, the leg is faulted and not armed. A MEAS frame of a present head node goes to the front of the frames of every head bound to it; an opening TUN
segment that is not the last is kept with its bytes; a TELE frame of an absent node, or one that repeats a frame of the last 10 ms, is not acted on (R101, R196, R199,
R201, R206, R208, R212, R216, R229). -/
def Obligations.FramesReceived : Prop :=
  (∀ (s : State) (f : RxFrame), taken (.teleFrameReceived f) s = true → frameOk f ftTele = false →
    Completes (.teleFrameReceived f) s (fun t => t.rd PST_FRAME_ERR = s.dev.rd PST_FRAME_ERR + BitVec.ofNat 32 f.reserved + 1 ∧ t.pst = s.dev.pst)) ∧
  (∀ (s : State) (f : RxFrame), taken (.measFrameReceived f) s = true → frameOk f ftMeas = false →
    Completes (.measFrameReceived f) s (fun t => t.rd PST_FRAME_ERR = s.dev.rd PST_FRAME_ERR + BitVec.ofNat 32 f.reserved + 1 ∧ t.mtr = s.dev.mtr)) ∧
  (∀ (s : State) (f : RxFrame), taken (.tunFrameReceived f) s = true → frameOk f ftTun = false →
    Completes (.tunFrameReceived f) s (fun t => t.rd PST_FRAME_ERR = s.dev.rd PST_FRAME_ERR + BitVec.ofNat 32 f.reserved + 1 ∧ t.pst = s.dev.pst)) ∧
  (∀ (s : State) (f : RxFrame) (i : Fin 128), taken (.teleFrameReceived f) s = true → frameOk f ftTele = true → s.dev.frameNode f = some i →
    s.dev.heardBefore i f = false → s.dev.nodePresent i = true → f.sub = 0#8 →
    Completes (.teleFrameReceived f) s (fun t => t.pst.seen[i].lo.dt = some (fieldAt f.data 0 8) ∧
      t.pst.seen[i].faultIn = (fieldAt f.data 40 2).testBit 9 ∧ t.pst.seen[i].hi = s.dev.pst.seen[i].hi ∧
      ∀ k : Fin 8, F32.isNaN (wordAt f.data (8 + 4 * k)) = false →
        t.pst.seen[i].lo.ch[k]? = some (some (wordAt f.data (8 + 4 * k), fieldAt f.data 0 8)))) ∧
  (∀ (s : State) (f : RxFrame) (i : Fin 128) (st : Fin 64) (k : Fin 408), taken (.teleFrameReceived f) s = true → frameOk f ftTele = true →
    s.dev.frameNode f = some i → s.dev.heardBefore i f = false → s.dev.nodePresent i = true → s.dev.get (PST_NODE_INFO_CLASS i) = 1 →
    s.dev.stageNode st = some i → k.val < 384 → k.val / 6 = st.val → (fieldAt f.data 40 2).testBit (k.val % 6) = true →
    s.dev.actsOn k (fieldAt f.data 0 8) = true →
    Completes (.teleFrameReceived f) s (fun t => t.armed k = false ∧ t.legFaulted k = true)) ∧
  (∀ (s : State) (f : RxFrame) (i : Fin 128) (h : Fin 48), taken (.measFrameReceived f) s = true → frameOk f ftMeas = true →
    s.dev.frameNode f = some i → s.dev.heardBefore i f = false → s.dev.nodePresent i = true →
    s.dev.get64 (TRI_HEAD_NODE_LO h) = s.dev.nodeId i → s.dev.get (PST_NODE_INFO_CLASS i) = 2 →
    Completes (.measFrameReceived f) s (fun t =>
      t.mtr.frames[h].head? = some ⟨fieldAt f.data 0 8, s.dev.dt, fieldAt f.data 56 2 % 16 != 0, Dev.measSamples f.data⟩)) ∧
  (∀ (s : State) (f : RxFrame) (i : Fin 128), taken (.tunFrameReceived f) s = true → frameOk f ftTun = true → s.dev.frameNode f = some i →
    s.dev.heardBefore i f = false → s.dev.nodePresent i = true → fieldAt f.data 2 1 = 0 → fieldAt f.data 3 1 = 1 →
    1 ≤ fieldAt f.data 4 2 → fieldAt f.data 4 2 ≤ 240 → fieldAt f.data 4 2 + 8 ≤ f.data.length →
    Completes (.tunFrameReceived f) s (fun t =>
      t.pst.tun.head? = some (i.val, fieldAt f.data 0 2, 1, (f.data.drop 8).take (fieldAt f.data 4 2)))) ∧
  (∀ (s : State) (f : RxFrame) (i : Fin 128), taken (.teleFrameReceived f) s = true → frameOk f ftTele = true → s.dev.frameNode f = some i →
    s.dev.nodePresent i = false ∨ s.dev.heardBefore i f = true →
    Completes (.teleFrameReceived f) s (fun t => t = s.dev.start.countReserved f))

/-- A node control request of a ring for 1 to 60 registers of a present node, their offsets below 65536 and a write with as many words, is sent and kept until it is answered,
a write without the release bits of NODE_CMD (log entry 22); one outside these bounds is refused BAD_PARAM, one for no present node NODE_ABSENT. A response that matches a
request ends it: a set point's without more, the host's completes it with the words read, or with CTRL_NACK and the STATUS of the node. 2 ms without an answer the oldest
unrepeated request is sent again, and 4 ms without an answer the oldest is dropped, the host's with CTRL_TIMEOUT; with none there is no effect (R211, R487). A limit that
has passed already falls at the present device time (log entry 4). -/
def Obligations.NodeRegisterTransactions : Prop :=
  (∀ (s : State) (r : Fin 256) (tag : Word) (x : NodeCtrlReq), taken (.nodeCtrl (.ring r tag) x) s = true →
    x.count = 0 ∨ 60 < x.count ∨ 65536 ≤ x.addr ∨ (x.write ∧ x.words.length ≠ x.count) →
    Completes (.nodeCtrl (.ring r tag) x) s (fun t => t = s.dev.start.complete (.ring r tag) ST_BAD_PARAM)) ∧
  (∀ (s : State) (r : Fin 256) (tag : Word) (x : NodeCtrlReq), taken (.nodeCtrl (.ring r tag) x) s = true →
    ¬ (x.count = 0 ∨ 60 < x.count ∨ 65536 ≤ x.addr ∨ (x.write ∧ x.words.length ≠ x.count)) → s.dev.nodeById x.node 0 = none →
    Completes (.nodeCtrl (.ring r tag) x) s (fun t => t = s.dev.start.complete (.ring r tag) ST_PST_NODE_ABSENT)) ∧
  (∀ (s : State) (r : Fin 256) (tag : Word) (x : NodeCtrlReq) (i : Fin 128), taken (.nodeCtrl (.ring r tag) x) s = true →
    ¬ (x.count = 0 ∨ 60 < x.count ∨ 65536 ≤ x.addr ∨ (x.write ∧ x.words.length ≠ x.count)) → s.dev.nodeById x.node 0 = some i →
    Completes (.nodeCtrl (.ring r tag) x) s (fun t =>
      t.pst.ctrl = s.dev.pst.ctrl ++ [⟨i, ⟨x.write, BitVec.ofNat 8 s.dev.pst.tag, x.addr, x.count, if x.write then withoutRelease x.addr x.words else x.words⟩, .host (.ring r tag), s.dev.dt, false⟩])) ∧
  (∀ (s : State) (f : RxFrame) (i : Fin 128) (q : CtrlReq), taken (.ctrlResponseReceived f) s = true → frameOk f ftCtrl = true →
    s.dev.frameNode f = some i → s.dev.heardBefore i f = false → s.dev.nodePresent i = true → s.dev.ctrlMatch i f.data = some q →
    q.why = .setpoint →
    Completes (.ctrlResponseReceived f) s (fun t => t.pst.ctrl = Dev.eraseFirst (fun x => x == q) s.dev.pst.ctrl)) ∧
  (∀ (s : State) (f : RxFrame) (i : Fin 128) (q : CtrlReq) (src : Src), taken (.ctrlResponseReceived f) s = true → frameOk f ftCtrl = true →
    s.dev.frameNode f = some i → s.dev.heardBefore i f = false → s.dev.nodePresent i = true → s.dev.ctrlMatch i f.data = some q →
    q.why = .host src → s.dev.hif.armWait = [] →
    Completes (.ctrlResponseReceived f) s (fun t => ∃ u : Dev, u.pst.ctrl = Dev.eraseFirst (fun x => x == q) s.dev.pst.ctrl ∧
      t = (if fieldAt f.data 5 1 = 0 then u.complete src ST_OK 0 ((if q.frame.write then [] else
          (List.range q.frame.count).map (fun k => wordAt f.data (8 + 4 * k))).flatMap (fun w => leBytes 4 w.toNat))
        else u.complete src ST_PST_CTRL_NACK (BitVec.ofNat 32 (fieldAt f.data 5 1))))) ∧
  (∀ (s : State) (q : CtrlReq), taken .ctrlRetry s = true → s.dev.pst.ctrl.find? (fun r => !r.again) = some q →
    Completes .ctrlRetry s (fun t => t.dt = max s.dev.dt (q.sentDt + 2000000) ∧
      t.pst.ctrl = s.dev.pst.ctrl.map (fun x => if x = q then { x with again := true } else x) ∧
      ∃ seq, .ctrl q.node seq q.frame ∈ t.out)) ∧
  (∀ (s : State) (q : CtrlReq) (l : List CtrlReq), taken .ctrlTimeout s = true → s.dev.pst.ctrl = q :: l → q.why = .setpoint →
    Completes .ctrlTimeout s (fun t => t.dt = max s.dev.dt (q.sentDt + 4000000) ∧ t.pst.ctrl = l)) ∧
  (∀ (s : State) (q : CtrlReq) (l : List CtrlReq) (src : Src), taken .ctrlTimeout s = true → s.dev.pst.ctrl = q :: l → q.why = .host src →
    s.dev.hif.armWait = [] →
    Completes .ctrlTimeout s (fun t => ∃ u : Dev, u.pst.ctrl = l ∧ u.dt = max s.dev.dt (q.sentDt + 4000000) ∧
      t = u.complete src ST_PST_CTRL_TIMEOUT)) ∧
  (∀ (s : State), taken .ctrlTimeout s = true → s.dev.pst.ctrl = [] → s.dev.hif.armWait = [] → Completes .ctrlTimeout s (fun t => t = s.dev.start))

/-- A node takes its hop, the census, the origin, the MARK's arrival and its RESID from a MARK it forwards with the next hop, and leaves its other port as it was (R213,
R218). A run that is returned, of no hop or of another node is forwarded, as many blocks as came, and changes nothing at the node; its own run is answered by the run of
its own frames of the same length of blocks, and an orphan run with its CENSUS reply among them or waiting; the node keeps the time (R198, R224). Without a SYNC of its
port nothing happens. A SYNC of the even port that is not valid for its last MARK leaves the time alone; a valid one, on the member the node counts on, moves the time by
the error, by no more than the slew while the time is not stale and the error is small, and by the whole error while it is stale or the error is large, after which it is
stale unless it was stale, had stepped and the error was small enough (R220, R225). Without a valid SYNC for more than three intervals the time is stale; a receiver that
loses alignment tells it on the line, and makes the time stale of a node that counts on it (R177, R220). -/
def Obligations.NodeTimeKeeping : Prop :=
  (∀ (s : State) (i : Fin 128) (odd : Bool) (m : Mark) (a d : Int),
    Completes (.nodeMarkForward i odd m a d) s (fun t =>
      (t.port i odd).hop = m.hopcnt + 1 ∧ (t.port i odd).census = m.census ∧ (t.port i odd).arrival = a ∧ (t.port i odd).resid = (d - a).toNat ∧
        (t.port i odd).origin = m.piste ∧ t.port i (!odd) = s.dev.port i (!odd) ∧
        t.out = [.markOn i odd (markBlock (m.hopcnt + 1) m.census m.twin m.piste)])) ∧
  (∀ (s : State) (i : Fin 128) (odd orphan : Bool) (a : Int) (v : BitVec 58) (l : List Block) (x : NodeIn) (b : Block) (hop n : Nat) (ret : Bool),
    (descramble v l).head? = some b → ownOf b = some (hop, n, ret) → (ret || hop == 0 || hop != (s.dev.port i odd).hop) = true →
    Completes (.nodeRunOwn i odd a orphan v l x) s (fun t =>
      t.pst = s.dev.pst ∧ ∃ line, t.out = [.nodeForward i odd line] ∧ line.length = l.length)) ∧
  (∀ (s : State) (i : Fin 128) (odd orphan : Bool) (a : Int) (v : BitVec 58) (l : List Block) (x : NodeIn) (b : Block) (hop n : Nat),
    (descramble v l).head? = some b → ownOf b = some (hop, n, false) → hop ≠ 0 → hop = (s.dev.port i odd).hop →
    Completes (.nodeRunOwn i odd a orphan v l x) s (fun t =>
      t.pst.nodes[i].lastRun = s.dev.dt ∧ ∃ fs line, .nodeRun i odd hop n fs line ∈ t.out ∧ line.length = (runBlocks hop n true fs).length ∧
        (orphan = true → ∃ f ∈ fs ++ t.pst.nodes[i].outbox, f.type = ftCensus ∧ f.data = t.replyBytes i odd))) ∧
  (∀ (s : State) (i : Fin 128) (odd : Bool), (s.dev.port i odd).sync = none →
    Completes (.nodeSyncApply i odd) s (fun t => t = s.dev.start)) ∧
  (∀ (s : State) (i : Fin 128) (f : SyncFrame), (s.dev.port i false).sync = some f →
    (f.valid && f.census == (s.dev.port i false).census) = false →
    Completes (.nodeSyncApply i false) s (fun t =>
      t.pst.nodes[i].offset = s.dev.pst.nodes[i].offset ∧ t.pst.nodes[i].lastSync = s.dev.pst.nodes[i].lastSync ∧
        t.pst.nodes[i].evenValid = false ∧ (t.port i false).sync = none)) ∧
  (∀ (s : State) (i : Fin 128) (odd : Bool) (f : SyncFrame) (e : Int), (s.dev.port i odd).sync = some f → f.valid = true →
    f.census = (s.dev.port i odd).census → (odd = true → s.dev.pst.nodes[i].evenValid = false) → s.dev.pst.nodes[i].onOdd = odd →
    s.dev.pst.nodes[i].stale = false →
    e = ((f.markDt * 65536 + f.markFrac + f.pathDelay : Nat) : Int) - ((s.dev.port i odd).arrival + s.dev.pst.nodes[i].offset) →
    e.natAbs ≤ eStep →
    Completes (.nodeSyncApply i odd) s (fun t =>
      t.pst.nodes[i].offset = s.dev.pst.nodes[i].offset + max (-(eSlew : Int)) (min (eSlew : Int) e) ∧
        t.pst.nodes[i].lastSync = some s.dev.dt ∧ t.pst.nodes[i].interval = f.interval ∧ t.pst.nodes[i].stale = false)) ∧
  (∀ (s : State) (i : Fin 128) (odd : Bool) (f : SyncFrame) (e : Int), (s.dev.port i odd).sync = some f → f.valid = true →
    f.census = (s.dev.port i odd).census → (odd = true → s.dev.pst.nodes[i].evenValid = false) →
    e = ((f.markDt * 65536 + f.markFrac + f.pathDelay : Nat) : Int) - ((s.dev.port i odd).arrival + s.dev.pst.nodes[i].offset) →
    (s.dev.pst.nodes[i].stale = true ∨ eStep < e.natAbs) →
    Completes (.nodeSyncApply i odd) s (fun t =>
      t.pst.nodes[i].offset = s.dev.pst.nodes[i].offset + e ∧ t.pst.nodes[i].stepped = true ∧ t.pst.nodes[i].lastSync = some s.dev.dt ∧
        t.pst.nodes[i].stale = (!(s.dev.pst.nodes[i].stale && s.dev.pst.nodes[i].stepped && decide (e.natAbs ≤ eFresh))))) ∧
  (∀ (s : State) (i : Fin 128) (t0 : Nat), s.dev.pst.nodes[i].lastSync = some t0 →
    Completes (.nodeTimeStale i) s (fun t =>
      t.pst.nodes[i].stale = true ∧ t.pst.nodes[i].lastSync = none ∧
        t.dt = max s.dev.dt (t0 + Dev.ms (3 * s.dev.pst.nodes[i].interval) + 1))) ∧
  (∀ (s : State) (i : Fin 128) (odd signal : Bool),
    Completes (.nodeRxAlignLoss i odd signal) s (fun t => (t.port i odd).aligned = false ∧ (t.port i odd).signal = signal ∧
      t.pst.nodes[i].stale = (s.dev.pst.nodes[i].stale || s.dev.pst.nodes[i].onOdd == odd) ∧ t.pst.nodes[i].offset = s.dev.pst.nodes[i].offset ∧
      ∃ runs, t.out = [.losIdle i odd (losIdleBlock (s.dev.port i odd).hop signal odd (s.dev.nodeId i)) runs]))

/-- At a boundary an armed leg of a stage node, with neither latch set and the node's time not stale, drives the command that came for this boundary in time; without any
frame it drives its last command once more and EDGE_MISS is told, and without one for a second time in a row it floats and latches stale, told in the next TELE (R203,
R221). A node of another class, or a leg without a period, has no boundary. A fault input floats the legs it covers and latches their fault; its end releases no latch
(R101, R221). A node of class 3, 5, 6 or 0x7F is in its safe state 100 ms after its last run, a front-end with its contactor commanded open and its tunnel off; a cooling
unit runs at its fail set point when its hold time is over (R222, R228, R265). Times that have passed already fall at the present device time (log entry 4). -/
def Obligations.NodeSafety : Prop :=
  (∀ (s : State) (i : Fin 128) (j : Fin 6) (b : Nat) (c : LegCmd) (eof : Int), s.dev.nodeClass i = 1 →
    Dev.nodeNat s.dev.pst.nodes[i] (0x0010 + 4 * j.val) 25 0 ≠ 0 → b = Dev.nodeNext s.dev.pst.nodes[i] j s.dev.dt →
    s.dev.pst.nodes[i].legArmed j = true → s.dev.pst.nodes[i].legs[j].fault = false → s.dev.pst.nodes[i].legs[j].stale = false →
    s.dev.pst.nodes[i].stale = false →
    s.dev.pst.nodes[i].legs[j].frames.find? (fun q => q.1 == btagOf b (Dev.nodeNat s.dev.pst.nodes[i] (0x0010 + 4 * j.val) 25 0) &&
      decide (q.2.1 + 50 * 65536 ≤ 16384 * (b : Int))) = some (btagOf b (Dev.nodeNat s.dev.pst.nodes[i] (0x0010 + 4 * j.val) 25 0), eof, c) →
    Completes (.nodeLegBoundary i j) s (fun t =>
      t.pst.nodes[i].legs[j].gate = (if c.driven then .edges else .off) ∧ t.pst.nodes[i].legs[j].cmd = c ∧
        t.pst.nodes[i].legs[j].stale = false ∧ t.pst.nodes[i].legs[j].bdry = some b ∧ t.dt = max s.dev.dt ((b + 3) / 4))) ∧
  (∀ (s : State) (i : Fin 128) (j : Fin 6), s.dev.nodeClass i = 1 → Dev.nodeNat s.dev.pst.nodes[i] (0x0010 + 4 * j.val) 25 0 ≠ 0 →
    s.dev.pst.nodes[i].legArmed j = true → s.dev.pst.nodes[i].legs[j].fault = false → s.dev.pst.nodes[i].legs[j].stale = false →
    s.dev.pst.nodes[i].legs[j].seen = true → s.dev.pst.nodes[i].legs[j].prev = true → s.dev.pst.nodes[i].legs[j].frames = [] →
    Completes (.nodeLegBoundary i j) s (fun t =>
      t.pst.nodes[i].legs[j].gate = (if s.dev.pst.nodes[i].legs[j].cmd.driven then .edges else .off) ∧
        t.pst.nodes[i].legs[j].prev = false ∧ t.pst.nodes[i].legs[j].stale = false ∧ t.pst.nodes[i].edgeMiss = true)) ∧
  (∀ (s : State) (i : Fin 128) (j : Fin 6), s.dev.nodeClass i = 1 → Dev.nodeNat s.dev.pst.nodes[i] (0x0010 + 4 * j.val) 25 0 ≠ 0 →
    s.dev.pst.nodes[i].legArmed j = true → s.dev.pst.nodes[i].legs[j].fault = false → s.dev.pst.nodes[i].legs[j].stale = false →
    s.dev.pst.nodes[i].legs[j].seen = true → s.dev.pst.nodes[i].legs[j].prev = false → s.dev.pst.nodes[i].legs[j].frames = [] →
    Completes (.nodeLegBoundary i j) s (fun t =>
      t.pst.nodes[i].legs[j].gate = .floating ∧ t.pst.nodes[i].legs[j].stale = true ∧ t.pst.nodes[i].teleDue = true)) ∧
  (∀ (s : State) (i : Fin 128) (j : Fin 6), s.dev.nodeClass i ≠ 1 ∨ Dev.nodeNat s.dev.pst.nodes[i] (0x0010 + 4 * j.val) 25 0 = 0 →
    Completes (.nodeLegBoundary i j) s (fun t => t = s.dev.start)) ∧
  (∀ (s : State) (i : Fin 128) (k j : Fin 6), s.dev.nodeClass i = 1 → s.dev.pst.nodes[i].legs[j].fltMask.getLsbD k = true →
    Completes (.nodeFaultInput i k true) s (fun t =>
      t.pst.nodes[i].legs[j].fault = true ∧ t.pst.nodes[i].legs[j].gate = .floating ∧ t.pst.nodes[i].fltIn.getLsbD k = true ∧
        t.pst.nodes[i].teleDue = true)) ∧
  (∀ (s : State) (i : Fin 128) (k : Fin 6), s.dev.nodeClass i = 1 →
    Completes (.nodeFaultInput i k false) s (fun t => t.pst.nodes[i].fltIn.getLsbD k = false ∧
      ∀ j : Fin 6, s.dev.pst.nodes[i].legs[j].fault = true → t.pst.nodes[i].legs[j].fault = true)) ∧
  (∀ (s : State) (i : Fin 128), s.dev.nodeClass i = 3 ∨ s.dev.nodeClass i = 5 ∨ s.dev.nodeClass i = 6 ∨ s.dev.nodeClass i = 0x7F →
    Completes (.nodeNoRunTimeout i) s (fun t => t.pst.nodes[i].safe = true ∧ t.dt = max s.dev.dt (s.dev.pst.nodes[i].lastRun + 100000000) ∧
      (s.dev.nodeClass i = 3 → t.pst.nodes[i].rd 0x0061 = 0 ∧ (t.pst.nodes[i].rd 0x0062).getLsbD 0 = false))) ∧
  (∀ (s : State) (i : Fin 128), s.dev.nodeClass i = 4 →
    Completes (.failHoldExpiry i) s (fun t => t.pst.nodes[i].safe = true ∧
      t.dt = max s.dev.dt (s.dev.pst.nodes[i].spDt + Dev.ms (s.dev.pst.nodes[i].rd 0x0040).toNat)))

/-- A superframe of a site line in operation starts at a DT multiple of its length with a beacon and the next number, and nothing slipped in it yet. The first poll waiting is
due when the line is free: one whose exchange could run past the end of the poll region slips and is counted; one that fits goes on the line to its PRESENT entry, or its
first relay, when no noise hold is on. A reply makes its entry present with age 0, and one that cannot be decoded is counted; an exchange without a reply counts, and
makes the entry LOST at LOST_POLLS, with nothing waiting for it; a relay forwards a frame of the device to the next address of its route; an impulse starts the noise hold
afresh, which ends after HOLD. With the site line not in operation, nothing waiting or no hold on, these commands have no effect (R244, R245, R246, R248, R251, R254). An
instant that has passed already falls at the present device time (log entry 4). -/
def Obligations.SiteLinePolls : Prop :=
  (∀ s : State, taken .superframeStart s = true → s.dev.slnOn = true →
    Completes .superframeStart s (fun t =>
      t.dt = max s.dev.dt (s.dev.nextMultiple (Dev.ms s.dev.sfLen) (s.dev.ticked .superframe)) ∧ t.rd SLN_SF_NUM = s.dev.rd SLN_SF_NUM + 1 ∧
        t.sln.slipped = [] ∧ t.sln.admits = [] ∧ ∃ late body syms, .slnBeacon late body syms ∈ t.out)) ∧
  (∀ s : State, taken .superframeStart s = true → s.dev.slnOn = false → Completes .superframeStart s (fun t => t = s.dev.start)) ∧
  (∀ (s : State) (r : Fin 65) (p : SlnPoll) (l : List SlnPoll), taken (.slnPollSend r) s = true → s.dev.slnOn = true →
    s.dev.sln.polls = p :: l →
    s.dev.pollsEnd < max s.dev.dt s.dev.sln.lineAt +
      s.dev.exchangeNs (s.dev.pollShape p).1 (s.dev.pollShape p).2.1 (s.dev.pollShape p).2.2 r →
    Completes (.slnPollSend r) s (fun t => t.dt = max s.dev.dt s.dev.sln.lineAt ∧
      t.sln.polls = l ∧ t.sln.slipped = s.dev.sln.slipped ++ [p] ∧ t.rd SLN_CNT_SLIP = s.dev.rd SLN_CNT_SLIP + 1)) ∧
  (∀ (s : State) (r : Fin 65), taken (.slnPollSend r) s = true → s.dev.slnOn = false ∨ s.dev.sln.polls = [] →
    Completes (.slnPollSend r) s (fun t => t = s.dev.start)) ∧
  (∀ (s : State) (r : Fin 65) (i : Fin 250) (l : List SlnPoll), taken (.slnPollSend r) s = true → s.dev.slnOn = true →
    s.dev.sln.polls = .entry i :: l → s.dev.sln.holdEnd = none → s.dev.slnState i = snPresent →
    max s.dev.dt s.dev.sln.lineAt +
      s.dev.exchangeNs (s.dev.pollShape (.entry i)).1 (s.dev.pollShape (.entry i)).2.1 (s.dev.pollShape (.entry i)).2.2 r ≤ s.dev.pollsEnd →
    Completes (.slnPollSend r) s (fun t => t.dt = max s.dev.dt s.dev.sln.lineAt ∧ t.sln.polls = l ∧ t.sln.current = some i ∧
      t.sln.entries[i].flight.isSome = true ∧ ∃ map rate n sf f syms,
        .slnFrame adDevice (s.dev.sln.entries[i].route.headD i.val) map rate n r.val sf f syms ∈ t.out ∧ f.final = i.val)) ∧
  (∀ (s : State) (i : Fin 250) (x : SlnReply), taken (.slnReplyReceived i x) s = true →
    s.dev.slnState i = snPresent ∨ s.dev.slnState i = snLost →
    Completes (.slnReplyReceived i x) s (fun t => t.slnState i = snPresent ∧ t.get (SLN_NODE_AGE_AGE i) = 0 ∧
      (x.decoded = false → t.rd SLN_CNT_CRC = s.dev.rd SLN_CNT_CRC + 1))) ∧
  (∀ (s : State) (i : Fin 250), taken (.slnReplyTimeout i) s = true → s.dev.slnState i = snPresent →
    s.dev.get SLN_CTRL_LOST_POLLS ≤ s.dev.sln.entries[i].fails + 1 →
    Completes (.slnReplyTimeout i) s (fun t => t.slnState i = snLost ∧ t.sln.entries[i].queue = [])) ∧
  (∀ (s : State) (i : Fin 250), taken (.slnReplyTimeout i) s = true → s.dev.slnState i = snPresent →
    s.dev.sln.entries[i].fails + 1 < s.dev.get SLN_CTRL_LOST_POLLS →
    Completes (.slnReplyTimeout i) s (fun t => t.slnState i = snPresent ∧ t.sln.entries[i].fails = s.dev.sln.entries[i].fails + 1)) ∧
  (∀ (s : State) (i : Fin 250) (f : SlnFrame), f.orig = adDevice →
    Completes (.slnRelayForward i f) s (fun t => t.regs = s.dev.regs ∧ t.sln = s.dev.sln ∧
      ∃ map rate n syms, t.out = [.slnFrame i (((f.route ++ [f.final])[f.next + 1]?).getD f.final) map rate n 0 (s.dev.rd SLN_SF_NUM)
        { f with next := f.next + 1 } syms])) ∧
  (∀ s : State, taken .slnNoiseImpulse s = true → s.dev.slnOn = true →
    Completes .slnNoiseImpulse s (fun t => t.sln.holdEnd = some (s.dev.dt + 10000 * s.dev.get SLN_NOISE_HOLD))) ∧
  (∀ (s : State) (t0 : Nat), taken .slnNoiseHoldEnd s = true → s.dev.sln.holdEnd = some t0 →
    Completes .slnNoiseHoldEnd s (fun t => t.sln.holdEnd = none ∧ t.dt = max s.dev.dt t0)) ∧
  (∀ s : State, taken .slnNoiseHoldEnd s = true → s.dev.sln.holdEnd = none → Completes .slnNoiseHoldEnd s (fun t => t = s.dev.start))

/-- A known protocol and class joins in the first free entry, present under AUTO_ADMIT and otherwise pending, and an unknown protocol is refused; ACCEPT makes a pending node
present; FORGET frees a lost, pending or refused entry; a recomputation takes WAYSTATION mode from 33 present nodes and leaves it after 600 s with at most 32; a direction
whose map is more than 60 s old has none, and the device sounds its own; a node that loses its synchronisation has to join again (R239, R247, R248, R250, R261). -/
def Obligations.SiteLineNodes : Prop :=
  (∀ (s : State) (r : SlnJoin) (i : Fin 250), taken (.slnJoinReq r) s = true → s.dev.slnOn = true →
    (idx 250).find? (fun (j : Fin 250) => s.dev.slnState j != snFree && s.dev.slnId j == r.id) = none → r.proto = 1 → r.cls = 0x20 →
    250 ≤ r.former → (s.dev.slnIn snFree).head? = some i →
    Completes (.slnJoinReq r) s (fun t => t.slnId i = r.id ∧
      t.slnState i = (if s.dev.flag SLN_CTRL_AUTO_ADMIT then snPresent else snPending))) ∧
  (∀ (s : State) (r : SlnJoin) (i : Fin 250), taken (.slnJoinReq r) s = true → s.dev.slnOn = true →
    (idx 250).find? (fun (j : Fin 250) => s.dev.slnState j != snFree && s.dev.slnId j == r.id) = none → r.proto ≠ 1 →
    (s.dev.slnIn snFree).head? = some i →
    Completes (.slnJoinReq r) s (fun t => t.slnId i = r.id ∧ t.slnState i = snRefused ∧ t.get (SLN_NODE_INFO_REFUSE i) = 3)) ∧
  (∀ (s : State) (i : Fin 250), taken (.slnAdmitAccept i) s = true → s.dev.slnState i = snPending →
    Completes (.slnAdmitAccept i) s (fun t => t.slnState i = snPresent ∧ .writeStatus ST_OK ∈ t.out)) ∧
  (∀ (s : State) (i : Fin 250), taken (.slnAdmitForget i) s = true →
    s.dev.slnState i = snLost ∨ s.dev.slnState i = snPending ∨ s.dev.slnState i = snRefused →
    Completes (.slnAdmitForget i) s (fun t => t.slnState i = snFree ∧ t.sln.entries[i] = SlnEntry.empty ∧ .writeStatus ST_OK ∈ t.out)) ∧
  (∀ (s : State) (i : Fin 250), taken (.slnAdmitForget i) s = true → s.dev.slnState i = snPresent →
    Completes (.slnAdmitForget i) s (fun t => t.regs = s.dev.regs ∧ t.sln = s.dev.sln ∧ .writeStatus ST_OK ∈ t.out)) ∧
  (∀ s : State, taken .slnRouteRecompute s = true → s.dev.slnOn = true →
    Completes .slnRouteRecompute s (fun t =>
      t.get SLN_STATUS_MODE = (if s.dev.get SLN_STATUS_MODE = 1
        then (if s.dev.sln.lowSince.any (fun u => decide (u + 600000000000 ≤ s.dev.dt)) then 0 else 1)
        else (if 33 ≤ (s.dev.slnIn snPresent).length then 1 else 0)))) ∧
  (∀ (s : State) (i : Fin 250) (down : Bool) (m : ToneMap) (t0 : Nat), taken (.slnTmapExpiry i down) s = true →
    (if down then s.dev.linkOf adDevice i else s.dev.linkOf i adDevice).map = some (m, t0) →
    Completes (.slnTmapExpiry i down) s (fun t => (if down then t.linkOf adDevice i else t.linkOf i adDevice).map = none ∧
      t.dt = max s.dev.dt (t0 + 60000000001) ∧
      (down = true → t.sln.entries[i].queue.any (fun q => q.type == sfSound) = true))) ∧
  (∀ (s : State) (i : Fin 250), Completes (.nodeUnsynced i) s (fun t => t.sln.entries[i].unsynced = true ∧ t.regs = s.dev.regs))

/-- A message to a present entry that fits one frame on every link of its route waits as one frame; one to an entry that is not present is refused NODE_ABSENT, one of no
bytes or of more than 4096 BAD_PARAM; a receive with a buffer under 4096 bytes is refused BAD_ADDR, else it takes the message that has waited longest, with its length,
its entry and its bytes, or waits; the display item in hand is sent once the display is ready, waits while it is not, and is dropped after 100 ms (R246, R487, R536). An
attempt that is past already falls at the present device time (log entry 4). -/
def Obligations.SiteLineMessages : Prop :=
  (∀ (s : State) (src : Src) (e : Byte) (d : List Byte), taken (.slnSend src e d) s = true → (d.isEmpty || decide (4096 < d.length)) = true →
    Completes (.slnSend src e d) s (fun t => t = s.dev.start.complete src ST_BAD_PARAM)) ∧
  (∀ (s : State) (src : Src) (e : Byte) (d : List Byte), taken (.slnSend src e d) s = true → d ≠ [] → d.length ≤ 4096 →
    (idx 250).find? (fun (i : Fin 250) => i.val == e.toNat && s.dev.slnState i == snPresent) = none →
    Completes (.slnSend src e d) s (fun t => t = s.dev.start.complete src ST_SLN_NODE_ABSENT)) ∧
  (∀ (s : State) (src : Src) (e : Byte) (d : List Byte) (i : Fin 250), taken (.slnSend src e d) s = true → d ≠ [] → d.length ≤ 4096 →
    (idx 250).find? (fun (i : Fin 250) => i.val == e.toNat && s.dev.slnState i == snPresent) = some i →
    (∀ q ∈ Dev.routeLinks s.dev.sln.entries[i].route i, d.length ≤ fitBody (s.dev.txMap q.1 q.2).2.2 (s.dev.txMap q.1 q.2).2.1 1536) →
    d.length ≤ 1536 →
    Completes (.slnSend src e d) s (fun t =>
      t.sln.entries[i].queue = s.dev.sln.entries[i].queue ++ [⟨sfData, d, false, none, 0, some src⟩])) ∧
  (∀ (s : State) (src : Src) (n : Nat), taken (.slnRecv src n) s = true → n < 4096 →
    Completes (.slnRecv src n) s (fun t => t = s.dev.start.complete src ST_HIF_BAD_ADDR)) ∧
  (∀ (s : State) (src : Src) (n i : Nat) (d : List Byte) (l : List (Nat × List Byte)), taken (.slnRecv src n) s = true → 4096 ≤ n →
    s.dev.sln.inbox = (i, d) :: l →
    Completes (.slnRecv src n) s (fun t => ∃ u : Dev, u.sln.inbox = l ∧ u.sln.recv = s.dev.sln.recv ∧
      t = u.complete src ST_OK (BitVec.ofNat 32 (d.length * 2 ^ 16 + i)) d)) ∧
  (∀ (s : State) (src : Src) (n : Nat), taken (.slnRecv src n) s = true → 4096 ≤ n → s.dev.sln.inbox = [] →
    Completes (.slnRecv src n) s (fun t => t.sln.recv = s.dev.sln.recv ++ [src] ∧ t.out = [])) ∧
  (∀ (s : State) (ready : Bool) (w : Nat) (m : Byte) (q due : Nat) (body : List Byte), taken (.dspTransaction ready w m) s = true →
    s.dev.sln.dsp = some (q, body, due) →
    Completes (.dspTransaction ready w m) s (fun t => t.dt = max s.dev.dt (due + w) ∧
      (100000000 < w → t.sln.dsp = none) ∧
      (w ≤ 100000000 → ready = true → t.sln.dsp = none ∧ .dsp body ∈ t.out) ∧
      (w ≤ 100000000 → ready = false → t.sln.dsp = some (q, body, due)))) ∧
  (∀ (s : State) (ready : Bool) (w : Nat) (m : Byte), taken (.dspTransaction ready w m) s = true → s.dev.sln.dsp = none →
    Completes (.dspTransaction ready w m) s (fun t => t = s.dev.start))

/-- Over a session with its vehicle: a request with no session, or with a payload above 16 384 bytes, is counted and changes no session; one outside its sequence before the
session has begun to end is counted, answered SEQUENCE_ERROR and ends the session; so does a message that cannot be decoded, answered FAILED. A TCP connection is opened,
and a second one reset. An SDP request without TLS is answered where that is enabled, and supportedAppProtocol then takes ISO 15118-2 (R266, R267, R269). A session setup
is answered FAILED where the site refuses it, and otherwise gets a SessionID from the random source and its EVCCID; the first Authorization under EIM asks the host and is
answered OK, ongoing; charge parameters after the acceptance set the vehicle's limits; PreCharge sets the set point of the outlet's slot and goes on until the voltage is
within 20 V; PowerDelivery begins charging; a charge loop is answered with the limits of the grant last published; a power delivery that stops an energised session's
charging ends it as NORMAL_EV with demand 0; SessionStop in CLOSING is answered OK and the session is idle (R268, R270 to R275, R277). An ended session stops while its
outlet is energised and otherwise closes. -/
def Obligations.VehicleMessages : Prop :=
  (∀ (s : State) (n : Fin 16) (len : Nat) (x : V2gReq), taken (.v2gRequest n len x) s = true → s.dev.sessState n = ssIdle ∨ 16384 < len →
    Completes (.v2gRequest n len x) s (fun t => t.rd VSS_PROTO_ERR = s.dev.rd VSS_PROTO_ERR + 1 ∧ t.vss = s.dev.vss ∧ t.out = [])) ∧
  (∀ (s : State) (n : Fin 16) (len : Nat) (x : V2gReq), taken (.v2gRequest n len x) s = true → len ≤ 16384 → s.dev.sessState n ≠ ssIdle →
    s.dev.sessState n < ssStopping → (s.dev.sess n).load = false → s.dev.inSequence n x = false →
    Completes (.v2gRequest n len x) s (fun t => t.rd VSS_PROTO_ERR = s.dev.rd VSS_PROTO_ERR + 1 ∧
      t.sessState n = (if s.dev.energised n then ssStopping else ssClosing) ∧ .v2g n (s.dev.plainResp n .sequenceError false) ∈ t.out)) ∧
  (∀ (s : State) (n : Fin 16) (len : Nat), taken (.v2gRequest n len .tcp) s = true → len ≤ 16384 → ssLinked ≤ s.dev.sessState n →
    s.dev.sessState n < ssStopping → (s.dev.sess n).load = false →
    Completes (.v2gRequest n len .tcp) s (fun t => (t.sess n).tcp = true ∧ ((s.dev.sess n).tcp = true → .tcpReset n ∈ t.out) ∧
      t.regs = s.dev.regs)) ∧
  (∀ (s : State) (n : Fin 16) (len : Nat), taken (.v2gRequest n len (.sdp false)) s = true → len ≤ 16384 → s.dev.sessState n = ssLinked →
    (s.dev.sess n).load = false → s.dev.flag (VSS_OUT_CFG_PLAIN_EN n) = true → s.dev.flag (VSS_OUT_CFG_P2_EN n) = true →
    Completes (.v2gRequest n len (.sdp false)) s (fun t => t.sessState n = ssSecure ∧ (t.sess n).sdp = 2 ∧ t.flag (VSS_OUT_STATE_TLS n) = false ∧
      t.get (VSS_OUT_STATE_PROTO n) = prNone ∧ ∃ r : V2gResp, r.code = .ok ∧ .v2g n r ∈ t.out)) ∧
  (∀ (s : State) (n : Fin 16) (len : Nat) (p20 : Bool), taken (.v2gRequest n len (.appProtocol p20 true)) s = true → len ≤ 16384 →
    s.dev.sessState n = ssSecure → (s.dev.sess n).load = false → (s.dev.sess n).sdp = 2 → s.dev.flag (VSS_OUT_STATE_TLS n) = false →
    s.dev.flag (VSS_OUT_CFG_PLAIN_EN n) = true → s.dev.flag (VSS_OUT_CFG_P2_EN n) = true →
    Completes (.v2gRequest n len (.appProtocol p20 true)) s (fun t => t.sessState n = ssSecure ∧ t.get (VSS_OUT_STATE_PROTO n) = pr2 ∧
      ∃ r : V2gResp, r.code = .ok ∧ .v2g n r ∈ t.out)) ∧
  (∀ (s : State) (n : Fin 16) (len : Nat) (e : List Byte), taken (.v2gRequest n len (.sessionSetup e)) s = true → len ≤ 16384 →
    s.dev.sessState n = ssSecure → (s.dev.sess n).load = false → s.dev.get (VSS_OUT_STATE_PROTO n) ≠ prNone → s.dev.setupRefused n = true →
    Completes (.v2gRequest n len (.sessionSetup e)) s (fun t => t.sessState n = ssSecure ∧ .v2g n (s.dev.plainResp n .failed false) ∈ t.out)) ∧
  (∀ (s : State) (n : Fin 16) (len : Nat) (e : List Byte), taken (.v2gRequest n len (.sessionSetup e)) s = true → len ≤ 16384 →
    s.dev.sessState n = ssSecure → (s.dev.sess n).load = false → s.dev.get (VSS_OUT_STATE_PROTO n) ≠ prNone → s.dev.setupRefused n = false →
    Completes (.v2gRequest n len (.sessionSetup e)) s (fun t => t.sessState n = ssSetup ∧ (t.sess n).evccid = e ∧
      t.get64 (VSS_OUT_SID_LO n) = Config.freeId s.dev.free ∧ s.dev.free < t.free ∧ ∃ r : V2gResp, r.code = .ok ∧ .v2g n r ∈ t.out)) ∧
  (∀ (s : State) (n : Fin 16) (len : Nat), taken (.v2gRequest n len (.authorization none)) s = true → len ≤ 16384 →
    s.dev.sessState n = ssSetup → (s.dev.sess n).load = false → s.dev.flag (VSS_OUT_CFG_EIM_EN n) = true →
    Completes (.v2gRequest n len (.authorization none)) s (fun t => t.sessState n = ssAuthorising ∧ (t.sess n).authAt = some s.dev.dt ∧
      ∃ r : V2gResp, r.code = .ok ∧ r.ongoing = true ∧ .v2g n r ∈ t.out)) ∧
  (∀ (s : State) (n : Fin 16) (len : Nat) (v i p d : Rat) (e : Option Nat), taken (.v2gRequest n len (.chargeParameters v i p d e)) s = true →
    len ≤ 16384 → s.dev.sessState n = ssAuthorising → (s.dev.sess n).load = false → (s.dev.sess n).accepted = true →
    Completes (.v2gRequest n len (.chargeParameters v i p d e)) s (fun t => t.sessState n = ssParameters ∧
      t.get (VSS_OUT_EVLIM_EV_VMAX n) = Dev.natOf 16 (v * 10) ∧ t.get (VSS_OUT_EVLIM_EV_IMAX n) = Dev.natOf 16 i ∧
      (t.sess n).energyReq = e ∧ ∃ r : V2gResp, r.code = .ok ∧ .v2g n r ∈ t.out)) ∧
  (∀ (s : State) (n : Fin 16) (len : Nat) (u : Rat), taken (.v2gRequest n len (.preCharge u)) s = true → len ≤ 16384 →
    s.dev.sessState n = ssPrecharge → (s.dev.sess n).load = false →
    Completes (.v2gRequest n len (.preCharge u)) s (fun t => t.sessState n = ssPrecharge ∧ (t.sess n).target = F32.ofRat u ∧
      t.rd (CLE_SLOT_SP_REG (s.dev.get (VSS_OUT_CFG_PRE_SLOT n))) = F32.ofRat u ∧
      ∃ r : V2gResp, r.code = .ok ∧ r.ongoing = (!s.dev.within20 n u) ∧ .v2g n r ∈ t.out)) ∧
  (∀ (s : State) (n : Fin 16) (len : Nat), taken (.v2gRequest n len (.powerDelivery true)) s = true → len ≤ 16384 →
    s.dev.sessState n = ssPrecharge → (s.dev.sess n).load = false →
    Completes (.v2gRequest n len (.powerDelivery true)) s (fun t => t.sessState n = ssCharging ∧ (t.sess n).lastLoop = s.dev.dt ∧
      ∃ r : V2gResp, r.code = .ok ∧ .v2g n r ∈ t.out)) ∧
  (∀ (s : State) (n : Fin 16) (len : Nat) (x : ChargeLoop), taken (.v2gRequest n len (.chargeLoop x)) s = true → len ≤ 16384 →
    s.dev.sessState n = ssCharging → (s.dev.sess n).load = false →
    Completes (.v2gRequest n len (.chargeLoop x)) s (fun t => t.sessState n = ssCharging ∧ (t.sess n).lastLoop = s.dev.dt ∧
      (t.sess n).target = F32.ofRat x.voltage ∧ ∃ u : Dev, u.out = [] ∧ u.alc = s.dev.alc ∧ u.rd (ALC_GRANT_W0 n) = s.dev.rd (ALC_GRANT_W0 n) ∧
      .v2g n (u.limitsResp n (x.voltage, x.current)) ∈ t.out)) ∧
  (∀ (s : State) (n : Fin 16) (len : Nat), taken (.v2gRequest n len (.powerDelivery false)) s = true → len ≤ 16384 →
    s.dev.sessState n = ssCharging → (s.dev.sess n).load = false → (s.dev.sess n).outcome = 0 → s.dev.energised n = true →
    Completes (.v2gRequest n len (.powerDelivery false)) s (fun t => t.sessState n = ssStopping ∧ (t.sess n).outcome = ocNormalEv ∧
      t.rd (VSS_OUT_REQ n) = 0 ∧ ∃ r : V2gResp, r.code = .ok ∧ .v2g n r ∈ t.out)) ∧
  (∀ (s : State) (n : Fin 16) (len : Nat), taken (.v2gRequest n len .sessionStop) s = true → len ≤ 16384 →
    s.dev.sessState n = ssClosing → (s.dev.sess n).load = false →
    Completes (.v2gRequest n len .sessionStop) s (fun t => t.sessState n = ssIdle ∧ .v2g n (s.dev.plainResp n .ok false) ∈ t.out)) ∧
  (∀ (s : State) (n : Fin 16) (len : Nat), taken (.v2gRequest n len .broken) s = true → len ≤ 16384 → ssLinked ≤ s.dev.sessState n →
    s.dev.sessState n < ssStopping → (s.dev.sess n).load = false →
    Completes (.v2gRequest n len .broken) s (fun t => t.rd VSS_PROTO_ERR = s.dev.rd VSS_PROTO_ERR + 1 ∧
      t.sessState n = (if s.dev.energised n then ssStopping else ssClosing) ∧ .v2g n (s.dev.plainResp n .failed false) ∈ t.out))

/-- A session whose state's first limit has passed (R271) ends as TIMEOUT, or as PRECONDITION in the cable check; an idle, charging or ending session has no such limit; one
the host has not answered ends as AUTH_FAILED, and a later answer is too late; one refused for the hold time ends as REFUSED; one without a charge loop ends as TIMEOUT; a
certificate request not answered in 30 s is answered FAILED and the session goes on; a closed session is idle after 5 s. The first cause of an end stands, and a session
of an energised outlet stops where another closes (R270, R271, R274, R277). A poll of an outlet without a front-end reads no link and no plug; one of an enabled outlet
reads its front-end's link and writes the lock, in that order (R265). A limit that has passed falls at the present device time where that is later (log entry 4). -/
def Obligations.SessionTimeouts : Prop :=
  (∀ (s : State) (n : Fin 16) (t0 o : Nat), taken (.sessionStateTimeout n) s = true → s.dev.stateLimit n = some (t0, o) →
    (s.dev.sess n).outcome = 0 →
    Completes (.sessionStateTimeout n) s (fun t => t.sessState n = (if s.dev.energised n then ssStopping else ssClosing) ∧
      (t.sess n).outcome = o ∧ t.dt = max s.dev.dt t0 ∧ (o = ocTimeout ∨ (o = ocPrecondition ∧ s.dev.sessState n = ssCableCheck)))) ∧
  (∀ (s : State) (n : Fin 16), taken (.sessionStateTimeout n) s = true → s.dev.sessState n = ssIdle ∨ ssCharging ≤ s.dev.sessState n →
    Completes (.sessionStateTimeout n) s (fun t => t = s.dev.start)) ∧
  (∀ (s : State) (n : Fin 16) (t0 : Nat), taken (.authTimeout n) s = true → s.dev.sessState n = ssAuthorising → (s.dev.sess n).authAt = some t0 →
    (s.dev.sess n).accepted = false → (s.dev.sess n).outcome = 0 →
    Completes (.authTimeout n) s (fun t => t.sessState n = (if s.dev.energised n then ssStopping else ssClosing) ∧
      (t.sess n).outcome = ocAuthFailed ∧ (t.sess n).authLate = true ∧ t.dt = max s.dev.dt (t0 + Dev.sec (s.dev.get VSS_TIMERS_AUTH)))) ∧
  (∀ (s : State) (n : Fin 16) (t0 : Nat), taken (.certInstallTimeout n) s = true → (s.dev.sess n).certAt = some t0 →
    Completes (.certInstallTimeout n) s (fun t => (t.sess n).certAt = none ∧ t.sessState n = s.dev.sessState n ∧ t.dt = max s.dev.dt (t0 + 30000000000) ∧
      .v2g n (s.dev.plainResp n .failed false) ∈ t.out)) ∧
  (∀ (s : State) (n : Fin 16), taken (.refusalHoldMax n) s = true → s.dev.sessState n = ssCharging → (s.dev.sess n).refusedAt.isSome = true →
    (s.dev.sess n).outcome = 0 →
    Completes (.refusalHoldMax n) s (fun t => t.sessState n = (if s.dev.energised n then ssStopping else ssClosing) ∧ (t.sess n).outcome = ocRefused)) ∧
  (∀ (s : State) (n : Fin 16), taken (.chargeLoopTimeout n) s = true → s.dev.sessState n = ssCharging → (s.dev.sess n).load = false →
    (s.dev.sess n).outcome = 0 →
    Completes (.chargeLoopTimeout n) s (fun t => t.sessState n = (if s.dev.energised n then ssStopping else ssClosing) ∧ (t.sess n).outcome = ocTimeout ∧
      t.dt = max s.dev.dt ((s.dev.sess n).lastLoop + Dev.ms (100 * s.dev.get VSS_TIMERS_LOOP)))) ∧
  (∀ (s : State) (n : Fin 16), taken (.sessionClosingTimeout n) s = true → s.dev.sessState n = ssClosing →
    Completes (.sessionClosingTimeout n) s (fun t => t.sessState n = ssIdle ∧ (t.sess n).comm = false ∧ (t.sess n).load = false ∧
      (t.get VSS_STATUS_ACTIVE).testBit n = false ∧ t.dt = max s.dev.dt ((s.dev.sess n).since + 5000000000))) ∧
  (∀ (s : State) (n : Fin 16), taken (.vlinkPoll n) s = true → s.dev.frontEnd n = none → s.dev.sessState n = ssIdle →
    Completes (.vlinkPoll n) s (fun t => (t.sess n).link = 0 ∧ (t.sess n).plug = false ∧ t.sessState n = ssIdle)) ∧
  (∀ (s : State) (n : Fin 16) (i : Fin 128), taken (.vlinkPoll n) s = true → s.dev.frontEnd n = some i → s.dev.flag (VSS_OUT_CFG_EN n) = true →
    Completes (.vlinkPoll n) s (fun t => ∃ a b, t.pst.ctrl = s.dev.pst.ctrl ++ [a, b] ∧ a.node = i.val ∧ a.frame.write = false ∧ a.frame.addr = 0x60 ∧
      b.node = i.val ∧ b.frame.write = true ∧ b.frame.addr = 0x61 ∧ b.frame.words = [1]))

/-- In the cable check of an energised outlet the insulation is judged once the voltage is within 20 V of the check voltage: a resistance below ISO_FAULT per volt ends the
session as ISOLATION, otherwise the check is finished, with WAIT 0, and the session waits for its vehicle (R275). A contactor whose channel conducts, or whose close write
to the front-end is outstanding, energises its outlet in a session from the cable check to charging; without such a write nothing happens (R276). A stopping session opens
its contactor when its current is at most 5 A, and above that 1 s after its grant fell to 0 all the same: the write is under way, or the channel's ON is 0; an opened
contactor takes a stopping session to CLOSING; an open write through the front-end that has failed is repeated after 10 ms; a voltage above 60 V 500 ms after the opening
instant sets WELD, and without one there is no check (R276, R277). An instant that has passed falls at the present device time (log entry 4). -/
def Obligations.OutletContactors : Prop :=
  (∀ (s : State) (n : Fin 16) (w : Word) (m : Nat), taken (.cableCheckVoltageReached n) s = true → s.dev.sessState n = ssCableCheck →
    s.dev.energised n = true → (s.dev.sess n).finished = false → s.dev.within20 n (s.dev.checkVolts n) = true → (s.dev.sess n).outcome = 0 →
    (s.dev.frontEnd n).bind (fun i => s.dev.teleOf i 5) = some (w, m) → F32.finite w = true →
    F32.toRat w * 1000 < (s.dev.get (VSS_OUT_ISO_ISO_FAULT n) : Rat) * s.dev.checkVolts n →
    Completes (.cableCheckVoltageReached n) s (fun t => t.sessState n = ssStopping ∧ (t.sess n).outcome = ocIsolation)) ∧
  (∀ (s : State) (n : Fin 16) (w : Word) (m : Nat), taken (.cableCheckVoltageReached n) s = true → s.dev.sessState n = ssCableCheck →
    s.dev.energised n = true → (s.dev.sess n).finished = false → s.dev.within20 n (s.dev.checkVolts n) = true → (s.dev.sess n).load = false →
    (s.dev.frontEnd n).bind (fun i => s.dev.teleOf i 5) = some (w, m) → F32.finite w = true →
    ¬ F32.toRat w * 1000 < (s.dev.get (VSS_OUT_ISO_ISO_FAULT n) : Rat) * s.dev.checkVolts n →
    Completes (.cableCheckVoltageReached n) s (fun t => t.sessState n = ssCableCheck ∧ (t.sess n).finished = true ∧ t.get (VSS_OUT_STATE_WAIT n) = 0)) ∧
  (∀ (s : State) (n : Fin 16), taken (.energisationInstant n) s = true → s.dev.energised n = false →
    (s.dev.flag (VSS_OUT_CFG_CONT_EN n) = true ∧ s.dev.lswOn (s.dev.contChannel n) = true) ∨
      (s.dev.flag (VSS_OUT_CFG_CONT_EN n) = false ∧ (s.dev.contactorWrite n 1#32).isSome = true) →
    s.dev.sessState n = ssCableCheck ∨ s.dev.sessState n = ssPrecharge ∨ s.dev.sessState n = ssCharging →
    Completes (.energisationInstant n) s (fun t => t.energised n = true ∧ (t.sess n).energisedAt = some s.dev.dt ∧ t.sessState n = s.dev.sessState n)) ∧
  (∀ (s : State) (n : Fin 16), taken (.energisationInstant n) s = true → s.dev.flag (VSS_OUT_CFG_CONT_EN n) = false → s.dev.contactorWrite n 1#32 = none →
    Completes (.energisationInstant n) s (fun t => t = s.dev.start)) ∧
  (∀ (s : State) (n : Fin 16), taken (.stopCurrentLow n) s = true → s.dev.sessState n = ssStopping → s.dev.energised n = true →
    (s.dev.sess n).opening = false → s.dev.lowCurrent n = true →
    Completes (.stopCurrentLow n) s (fun t =>
      (s.dev.flag (VSS_OUT_CFG_CONT_EN n) = false → (t.sess n).opening = true ∧ t.sessState n = ssStopping) ∧
        (s.dev.flag (VSS_OUT_CFG_CONT_EN n) = true → t.flag (LSW_CH_CTL_ON (s.dev.contChannel n)) = false))) ∧
  (∀ (s : State) (n : Fin 16) (t0 : Nat), taken (.stopUnderLoad n) s = true → s.dev.sessState n = ssStopping → s.dev.energised n = true →
    (s.dev.sess n).opening = false → (s.dev.sess n).zeroAt = some t0 → s.dev.lowCurrent n = false →
    Completes (.stopUnderLoad n) s (fun t => t.dt = max s.dev.dt (t0 + 1000000000) ∧
      (s.dev.flag (VSS_OUT_CFG_CONT_EN n) = false → (t.sess n).opening = true ∧ t.sessState n = ssStopping) ∧
        (s.dev.flag (VSS_OUT_CFG_CONT_EN n) = true → t.flag (LSW_CH_CTL_ON (s.dev.contChannel n)) = false))) ∧
  (∀ (s : State) (n : Fin 16), taken (.contactorOpened n) s = true → s.dev.energised n = true →
    (s.dev.flag (VSS_OUT_CFG_CONT_EN n) = true ∧ s.dev.lswOn (s.dev.contChannel n) = false) ∨
      (s.dev.flag (VSS_OUT_CFG_CONT_EN n) = false ∧ (s.dev.contactorWrite n 0#32).isSome = true) →
    Completes (.contactorOpened n) s (fun t => t.energised n = false ∧ (t.sess n).openedAt = some s.dev.dt ∧
      t.sessState n = (if s.dev.sessState n = ssStopping then ssClosing else s.dev.sessState n))) ∧
  (∀ (s : State) (n : Fin 16) (i : Fin 128) (t0 : Nat), taken (.contactorOpenRetry n) s = true → (s.dev.sess n).opening = true →
    (s.dev.sess n).failedAt = some t0 → s.dev.flag (VSS_OUT_CFG_CONT_EN n) = false → s.dev.frontEnd n = some i →
    Completes (.contactorOpenRetry n) s (fun t => t.dt = max s.dev.dt (t0 + 10000000) ∧ (t.sess n).failedAt = none ∧
      ∃ a, t.pst.ctrl = s.dev.pst.ctrl ++ [a] ∧ a.node = i.val ∧ a.frame.addr = 0x62 ∧ a.frame.words = [0])) ∧
  (∀ (s : State) (n : Fin 16) (w : Word) (m t0 : Nat), taken (.weldCheck n) s = true → s.dev.energised n = false → (s.dev.sess n).openedAt = some t0 →
    (s.dev.frontEnd n).bind (fun i => s.dev.teleOf i 6) = some (w, m) → F32.lt (F32.ofInt 60) w = true →
    Completes (.weldCheck n) s (fun t => t.flag (VSS_OUT_STATE_WELD n) = true ∧ t.dt = max s.dev.dt (t0 + 500000000))) ∧
  (∀ (s : State) (n : Fin 16), taken (.weldCheck n) s = true → (s.dev.sess n).openedAt = none →
    Completes (.weldCheck n) s (fun t => t = s.dev.start))

/-- The host's stop of no session is answered NO_SESSION, and of one that has not begun to end, ends it as NORMAL_HOST; the host clears WELD; it accepts a vehicle that asks,
with its class, permission and energy cap; answers a certificate request, whose response goes to the vehicle as it is; gives an outlet its chain and the device the
anchors of either kind; as an installer it marks a session of a device in COMMISSIONING as commissioning, and without that role it is refused REFUSED_ROLE; an operand
outside its range is refused BAD_PARAM. A manifest that waits for its key is signed late once the key is usable, and says so (R269, R270, R277, R279, R283, R376). -/
def Obligations.HostOverSessions : Prop :=
  (∀ (s : State) (n : Fin 16), taken (.sessionStop n) s = true → s.dev.sessState n = ssIdle →
    Completes (.sessionStop n) s (fun t => t.regs = s.dev.regs ∧ t.out = [.writeStatus ST_VSS_NO_SESSION])) ∧
  (∀ (s : State) (n : Fin 16), taken (.sessionStop n) s = true → s.dev.sessState n ≠ ssIdle → s.dev.sessState n < ssStopping →
    (s.dev.sess n).outcome = 0 →
    Completes (.sessionStop n) s (fun t => t.sessState n = (if s.dev.energised n then ssStopping else ssClosing) ∧
      (t.sess n).outcome = ocNormalHost ∧ .writeStatus ST_OK ∈ t.out)) ∧
  (∀ (s : State) (n : Fin 16), taken (.weldClear n) s = true →
    Completes (.weldClear n) s (fun t => t.flag (VSS_OUT_STATE_WELD n) = false ∧ .writeStatus ST_OK ∈ t.out)) ∧
  (∀ (s : State) (src : Src) (x : AuthAnswer), taken (.authAnswer src x) s = true → 16 ≤ x.outlet ∨ 2 ≤ x.result →
    Completes (.authAnswer src x) s (fun t => t = s.dev.start.complete src ST_BAD_PARAM)) ∧
  (∀ (s : State) (src : Src) (n : Fin 16) (c k : Nat) (b : Bool), taken (.authAnswer src ⟨n, 0, c, b, k⟩) s = true → c < 8 →
    s.dev.sessState n = ssAuthorising → (s.dev.sess n).authAt.isSome = true → (s.dev.sess n).accepted = false →
    Completes (.authAnswer src ⟨n, 0, c, b, k⟩) s (fun t => (t.sess n).accepted = true ∧ (t.sess n).cls = some c ∧ (t.sess n).bptPermit = b ∧
      (t.sess n).cap = k ∧ t.sessState n = ssAuthorising)) ∧
  (∀ (s : State) (src : Src) (o : Nat) (d : List Byte), taken (.certResponse src o d) s = true → 16 ≤ o →
    Completes (.certResponse src o d) s (fun t => t = s.dev.start.complete src ST_BAD_PARAM)) ∧
  (∀ (s : State) (src : Src) (n : Fin 16) (d : List Byte), taken (.certResponse src n d) s = true → (s.dev.sess n).certAt.isSome = true →
    Completes (.certResponse src n d) s (fun t => (t.sess n).certAt = none ∧ .v2g n { s.dev.plainResp n .ok false with data := d } ∈ t.out)) ∧
  (∀ (s : State) (src : Src) (n : Fin 16) (d : List Byte), taken (.chainSet src n d) s = true →
    Completes (.chainSet src n d) s (fun t => t.vss.chains[n] = d)) ∧
  (∀ (s : State) (src : Src) (k : Nat) (d : List (List Byte)), taken (.anchorSet src k d) s = true →
    Completes (.anchorSet src k d) s (fun t =>
      (k = 0 → t.vss.vehAnchors = d ∧ t.vss.moAnchors = s.dev.vss.moAnchors) ∧
        (k = 1 → t.vss.moAnchors = d ∧ t.vss.vehAnchors = s.dev.vss.vehAnchors) ∧ (2 ≤ k → t = s.dev.start.complete src ST_BAD_PARAM))) ∧
  (∀ (s : State) (src : Src) (x : Commission), taken (.commission src x) s = true → x.outlet < 16 → x.kind < 2 →
    (s.dev.assocOf .host).any (fun a => isInstaller a.role) = false →
    Completes (.commission src x) s (fun t => t = s.dev.start.complete src ST_REFUSED_ROLE)) ∧
  (∀ (s : State) (src : Src) (n : Fin 16) (p c v : Nat), taken (.commission src ⟨n, 0, p, c, v⟩) s = true →
    (s.dev.assocOf .host).any (fun a => isInstaller a.role) = true → s.dev.life = lfCommissioning → s.dev.testRuns 0x0A = false →
    s.dev.sessState n = ssIdle ∨ s.dev.sessState n = ssLinked →
    Completes (.commission src ⟨n, 0, p, c, v⟩) s (fun t => (t.sess n).comm = true ∧ t.sessState n = s.dev.sessState n)) ∧
  (∀ (s : State) (m : Manifest) (r : KeyRec), taken .manifestLateSign s = true → s.dev.usableKey (s.dev.get BIL_MAN_CFG_KEY_SLOT) kuManifest = some r →
    s.dev.bil.archive = [m] → m.sig = [] → m.identGen = s.dev.get GEN_LIFECYCLE_IDENTITY_GEN →
    Completes .manifestLateSign s (fun t => ∃ x : Manifest, x = { m with alg := Dev.manAlg r.type, flags := m.flags ||| 2 ^ 10 } ∧
      t.bil.archive = [{ x with sig := Dev.signWith r (Dev.manBody x) }]))

/-- A shutdown of a conducting channel turns it off with its cause, latched when no retry is left and otherwise cooling; a retry whose conditions hold turns it on and counts;
60 s of conduction clear the count; the junction warning sets above 150 °C and clears below 140 °C; the off-state test sets its flags after three results in a row (R432,
R433, R434, R437). -/
def Obligations.SwitchProtections : Prop :=
  (∀ (s : State) (n : Fin 20) (since t0 : Nat), taken (.lswOvercurrent n since) s = true → s.dev.lswOn n = true → s.dev.lsw.chs[n].since = some t0 →
    Completes (.lswOvercurrent n since) s (fun t => t.lswOn n = false ∧ t.get (LSW_CH_STATUS_CAUSE n) = lcOvercurrent ∧
      t.dt = max s.dev.dt (max since t0 + Dev.ms (s.dev.get (LSW_CH_CFG_LIM_T n))) ∧
      (s.dev.get (LSW_CH_CFG_RETRY_MAX n) ≤ s.dev.get (LSW_CH_STATUS_RETRY_CNT n) → t.flag (LSW_CH_STATUS_LATCH n) = true) ∧
      (s.dev.get (LSW_CH_STATUS_RETRY_CNT n) < s.dev.get (LSW_CH_CFG_RETRY_MAX n) → t.lsw.chs[n].cooling = true))) ∧
  (∀ (s : State) (n : Fin 20), taken (.lswThermalShutdown n) s = true → s.dev.lswOn n = true →
    Completes (.lswThermalShutdown n) s (fun t => t.lswOn n = false ∧ t.get (LSW_CH_STATUS_CAUSE n) = lcThermal ∧
      (s.dev.get (LSW_CH_CFG_RETRY_MAX n) ≤ s.dev.get (LSW_CH_STATUS_RETRY_CNT n) → t.flag (LSW_CH_STATUS_LATCH n) = true) ∧
      (s.dev.get (LSW_CH_STATUS_RETRY_CNT n) < s.dev.get (LSW_CH_CFG_RETRY_MAX n) → t.lsw.chs[n].cooling = true))) ∧
  (∀ (s : State) (n : Fin 20) (since : Nat), s.dev.lsw.chs[n].since = none → Completes (.lswOvercurrent n since) s (fun t => t = s.dev.start)) ∧
  (∀ (s : State) (n : Fin 20), s.dev.lswOn n = false → Completes (.lswThermalShutdown n) s (fun t => t = s.dev.start)) ∧
  (∀ (s : State) (n : Fin 20) (tj : Int), taken (.lswTempWarn n tj) s = true →
    Completes (.lswTempWarn n tj) s (fun t => t.flag (LSW_CH_STATUS_TWARN n) =
        (decide (1500 < tj) || (s.dev.flag (LSW_CH_STATUS_TWARN n) && decide (1400 ≤ tj))) ∧
      t.lsw = s.dev.lsw ∧ (-32768 ≤ tj → tj < 32768 → t.geti (LSW_CH_MEAS_TJ n) = tj))) ∧
  (∀ (s : State) (n : Fin 20), taken (.lswRetry n) s = true → s.dev.lsw.chs[n].cooling = true →
    s.dev.get (LSW_CH_STATUS_RETRY_CNT n) < s.dev.get (LSW_CH_CFG_RETRY_MAX n) → s.dev.geti (LSW_CH_MEAS_TJ n) < 1400 →
    (s.dev.modCh n (fun x => { x with cooling := false })).lswFree n = true → s.dev.get LSW_STATUS_SUPPLY ≠ suDip →
    Completes (.lswRetry n) s (fun t => t.lswOn n = true ∧ t.lsw.chs[n].cooling = false ∧ t.dt = max s.dev.dt (s.dev.retryDue n) ∧
      t.get (LSW_CH_STATUS_RETRY_CNT n) = s.dev.get (LSW_CH_STATUS_RETRY_CNT n) + 1)) ∧
  (∀ (s : State) (n : Fin 20), s.dev.lsw.chs[n].cooling = false → Completes (.lswRetry n) s (fun t => t = s.dev.start)) ∧
  (∀ (s : State) (n : Fin 20) (t0 : Nat), taken (.lswRetryCntReset n) s = true → s.dev.lsw.chs[n].since = some t0 →
    Completes (.lswRetryCntReset n) s (fun t => t.get (LSW_CH_STATUS_RETRY_CNT n) = 0 ∧ t.dt = max s.dev.dt (t0 + 60000000000))) ∧
  (∀ (s : State) (n : Fin 20) (v0 v1 : Nat), taken (.lswOffstateTest n v0 v1) s = true → s.dev.lswOn n = false → s.dev.flag (LSW_CH_CFG_OL_EN n) = true →
    s.dev.get LSW_STATUS_SUPPLY = suNormal →
    Completes (.lswOffstateTest n v0 v1) s (fun t =>
      t.flag (LSW_CH_STATUS_SHORT_VAUX n) = (Dev.threeRuns (s.dev.flag (LSW_CH_STATUS_SHORT_VAUX n)) (decide (4000 < v0))
        s.dev.lsw.chs[n].shortYes s.dev.lsw.chs[n].shortNo).1 ∧
      t.flag (LSW_CH_STATUS_OPEN_LOAD n) = (Dev.threeRuns (s.dev.flag (LSW_CH_STATUS_OPEN_LOAD n)) (decide (v0 ≤ 4000) && decide (4000 < v1))
        s.dev.lsw.chs[n].openYes s.dev.lsw.chs[n].openNo).1)) ∧
  (∀ (s : State) (n : Fin 20) (v0 v1 : Nat), s.dev.lswOn n = true → Completes (.lswOffstateTest n v0 v1) s (fun t => t = s.dev.start))

/-- A controller whose receive ring cannot be used is refused and counted, otherwise it is enabled, active with cleared counters; disabled with no frame on the bus, it is off
and gives up what it has; a bus error of a controller on the bus shows its code and moves the counter by 8, and a transmit counter that passes 255 is bus-off, counted;
off the bus no error counts; a recovery is started by the host in bus-off, elsewhere the request changes nothing, and ends active with cleared counters, 128 × 11 bit
times after it began at the earliest (R287, R290, R292, R294, R295, R296). -/
def Obligations.CanControllers : Prop :=
  (∀ (s : State) (n : Fin 4), taken (.canEnable n) s = true → s.dev.flag (CAN_CTL_EN n) = false → s.dev.canEnableBad n = some ST_CAN_CAN_RING →
    Completes (.canEnable n) s (fun t => t.flag (CAN_CTL_EN n) = false ∧
      t.get CAN_REJECT_CNT_CNT = min (s.dev.get CAN_REJECT_CNT_CNT + 1) 65535 ∧ t.out = [.writeStatus ST_CAN_CAN_RING])) ∧
  (∀ (s : State) (n : Fin 4), taken (.canEnable n) s = true → s.dev.flag (CAN_CTL_EN n) = false → s.dev.canEnableBad n = none →
    Completes (.canEnable n) s (fun t => t.flag (CAN_CTL_EN n) = true ∧ t.get (CAN_STATUS_STATE n) = Dev.canActive ∧
      (t.canOf n).tec = 0 ∧ (t.canOf n).rxc = 0 ∧ t.get (CAN_ERRCNT_TEC n) = 0)) ∧
  (∀ (s : State) (n : Fin 4), taken (.canDisable n false) s = true → s.dev.flag (CAN_CTL_EN n) = true →
    Completes (.canDisable n false) s (fun t => t.flag (CAN_CTL_EN n) = false ∧ t.get (CAN_STATUS_STATE n) = Dev.canOff ∧ (t.canOf n).pend = [] ∧
      t.get (CAN_STATUS_TX_PEND n) = 0)) ∧
  (∀ (s : State) (n : Fin 4), taken (.canRecover n) s = true → s.dev.get (CAN_STATUS_STATE n) = Dev.canBusOff →
    Completes (.canRecover n) s (fun t => t.flag (CAN_STATUS_RECOVERING n) = true ∧ t.flag (CAN_STATUS_BOFF_LOCKED n) = false)) ∧
  (∀ (s : State) (n : Fin 4), taken (.canRecover n) s = true → s.dev.get (CAN_STATUS_STATE n) ≠ Dev.canBusOff →
    Completes (.canRecover n) s (fun t => t.regs = s.dev.regs ∧ t.can = s.dev.can ∧ t.out = [.writeStatus ST_OK])) ∧
  (∀ (s : State) (n : Fin 4), taken (.canRecoveryComplete n) s = true → s.dev.get (CAN_STATUS_STATE n) = Dev.canBusOff →
    s.dev.flag (CAN_STATUS_RECOVERING n) = true →
    Completes (.canRecoveryComplete n) s (fun t => t.get (CAN_STATUS_STATE n) = Dev.canActive ∧ t.flag (CAN_STATUS_RECOVERING n) = false ∧
      (t.canOf n).tec = 0 ∧ (t.canOf n).rxc = 0 ∧ t.dt = max s.dev.dt ((s.dev.canOf n).recoverFrom + s.dev.canBits n 1408))) ∧
  (∀ (s : State) (n : Fin 4) (lec : Fin 8), taken (.canBusError n (.transmit lec)) s = true → s.dev.canOnBus n = true →
    Completes (.canBusError n (.transmit lec)) s (fun t => t.get (CAN_STATUS_LEC n) = lec ∧ (t.canOf n).tec = (s.dev.canOf n).tec + 8 ∧
      (247 < (s.dev.canOf n).tec → t.get (CAN_STATUS_STATE n) = Dev.canBusOff ∧ t.rd (CAN_CNT_BOFF n) = s.dev.rd (CAN_CNT_BOFF n) + 1))) ∧
  (∀ (s : State) (n : Fin 4) (lec : Fin 8), taken (.canBusError n (.receiveEight lec)) s = true → s.dev.canOnBus n = true →
    Completes (.canBusError n (.receiveEight lec)) s (fun t => t.get (CAN_STATUS_LEC n) = lec ∧ (t.canOf n).rxc = (s.dev.canOf n).rxc + 8 ∧
      (t.canOf n).tec = (s.dev.canOf n).tec)) ∧
  (∀ (s : State) (n : Fin 4) (e : CanError), taken (.canBusError n e) s = true → s.dev.canOnBus n = false →
    Completes (.canBusError n e) s (fun t => t = s.dev.start))

/-- A CAN_TX descriptor of a ring no controller owns is refused, one for a controller that is off or does not transmit is TX_DISABLED, one whose record cannot be sent as
written is TX_FORMAT, and outside SAFE-HOLD any other of the controller's transmit ring waits behind those before it. With at most 32 frames waiting, the frame offered
frees its mailbox and counts when it is sent; when it loses arbitration it stays unless it is one-shot, which gives it up; with no frame offered the command has no
effect. A received frame that matches no filter, with no default ring, is counted only; one whose filter names a receive ring with room is written there as a record; a
controller off the bus receives nothing (R289, R291, R293, R297, R298, R299, R483). A start of frame that has passed falls at the present device time (log entry 4). -/
def Obligations.CanFrames : Prop :=
  (∀ (s : State) (r : Fin 256) (tag : Word) (f : List Byte), taken (.canTx (.ring r tag) f) s = true →
    s.dev.get (HIF_RING_CFG_OWNER r) = 0 ∨ 4 < s.dev.get (HIF_RING_CFG_OWNER r) →
    Completes (.canTx (.ring r tag) f) s (fun t => t = s.dev.start.complete (.ring r tag) ST_HIF_BAD_OPCODE)) ∧
  (∀ (s : State) (r : Fin 256) (tag : Word) (f : List Byte) (n : Fin 4), taken (.canTx (.ring r tag) f) s = true →
    s.dev.get (HIF_RING_CFG_OWNER r) = n.val + 1 → (s.dev.flag (CAN_CTL_EN n) && s.dev.flag (CAN_RING_TX_EN n)) = false →
    Completes (.canTx (.ring r tag) f) s (fun t => t = s.dev.start.complete (.ring r tag) ST_CAN_TX_DISABLED)) ∧
  (∀ (s : State) (r : Fin 256) (tag : Word) (f : List Byte) (n : Fin 4), taken (.canTx (.ring r tag) f) s = true →
    s.dev.get (HIF_RING_CFG_OWNER r) = n.val + 1 → s.dev.flag (CAN_CTL_EN n) = true → s.dev.flag (CAN_RING_TX_EN n) = true →
    s.dev.get (CAN_RING_TX_RING n) = r.val →
    s.dev.flag GEN_LIFECYCLE_SAFE_HOLD = false → s.dev.canFormatBad n (parseCanRecord f) = true →
    Completes (.canTx (.ring r tag) f) s (fun t => t = s.dev.start.complete (.ring r tag) ST_CAN_TX_FORMAT)) ∧
  (∀ (s : State) (r : Fin 256) (tag : Word) (f : List Byte) (n : Fin 4), taken (.canTx (.ring r tag) f) s = true →
    s.dev.get (HIF_RING_CFG_OWNER r) = n.val + 1 → s.dev.flag (CAN_CTL_EN n) = true → s.dev.flag (CAN_RING_TX_EN n) = true →
    s.dev.get (CAN_RING_TX_RING n) = r.val →
    s.dev.flag GEN_LIFECYCLE_SAFE_HOLD = false → s.dev.canFormatBad n (parseCanRecord f) = false →
    Completes (.canTx (.ring r tag) f) s (fun t => (t.canOf n).pend = (s.dev.canOf n).pend ++ [⟨.ring r tag, parseCanRecord f, s.dev.dt⟩] ∧
      t.get (CAN_STATUS_TX_PEND n) = min 32 ((s.dev.canOf n).pend.length + 1) ∧ t.out = [])) ∧
  (∀ (s : State) (n : Fin 4) (sof : Nat) (edges : List Nat) (p : CanPending), taken (.canTxComplete n .sent sof edges) s = true →
    s.dev.canOffered n sof = some p → (s.dev.canOf n).tec ≤ 256 → (s.dev.canOf n).pend.length ≤ 32 →
    Completes (.canTxComplete n .sent sof edges) s (fun t => t.dt = max s.dev.dt sof ∧
      (t.canOf n).pend = Dev.eraseFirst (fun q => q == p) (s.dev.canOf n).pend ∧ t.rd (CAN_CNT_TX n) = s.dev.rd (CAN_CNT_TX n) + 1)) ∧
  (∀ (s : State) (n : Fin 4) (r : CanResult) (sof : Nat) (edges : List Nat), taken (.canTxComplete n r sof edges) s = true →
    s.dev.canOffered n sof = none → Completes (.canTxComplete n r sof edges) s (fun t => t = s.dev.start)) ∧
  (∀ (s : State) (n : Fin 4) (sof : Nat) (edges : List Nat) (p : CanPending), taken (.canTxComplete n .arbitrationLost sof edges) s = true →
    s.dev.canOffered n sof = some p → s.dev.flag (CAN_CTL_EN n) = true →
    Completes (.canTxComplete n .arbitrationLost sof edges) s (fun t =>
      ((s.dev.flag (CAN_CTL_ONE_SHOT n) || p.frame.oneShot) = false → (t.canOf n).pend = (s.dev.canOf n).pend) ∧
      ((s.dev.flag (CAN_CTL_ONE_SHOT n) || p.frame.oneShot) = true → (s.dev.canOf n).pend.length ≤ 32 →
        (t.canOf n).pend = Dev.eraseFirst (fun q => q == p) (s.dev.canOf n).pend))) ∧
  (∀ (s : State) (n : Fin 4) (f : CanFrame) (sof : Nat), taken (.canFrameReceived n f sof) s = true → s.dev.canOnBus n = false →
    Completes (.canFrameReceived n f sof) s (fun t => t = s.dev.start)) ∧
  (∀ (s : State) (n : Fin 4) (f : CanFrame) (sof : Nat), taken (.canFrameReceived n f sof) s = true → s.dev.canOnBus n = true →
    s.dev.get (CAN_CTL_LOOP n) ≠ 1 → s.dev.canJoined n sof = true → (s.dev.canOf n).rxc = 0 → s.dev.canFilter n f = none → s.dev.flag (CAN_RING_DEF_EN n) = false →
    Completes (.canFrameReceived n f sof) s (fun t => t.rd (CAN_CNT_RX n) = s.dev.rd (CAN_CNT_RX n) + 1 ∧ t.can = s.dev.can)) ∧
  (∀ (s : State) (n : Fin 4) (f : CanFrame) (sof : Nat) (q : Fin 64), taken (.canFrameReceived n f sof) s = true → s.dev.canOnBus n = true →
    s.dev.get (CAN_CTL_LOOP n) ≠ 1 → s.dev.canJoined n sof = true → (s.dev.canOf n).rxc = 0 → s.dev.canFilter n f = some q →
    s.dev.get (CAN_FLT_DEST_DEST n q) = 0 → s.dev.ringUsable (Fin.ofNat 256 (s.dev.get (CAN_FLT_DEST_RING n q))) kindRecord = true →
    s.dev.ringHasRoom (Fin.ofNat 256 (s.dev.get (CAN_FLT_DEST_RING n q))) = true → max s.dev.dt sof = s.dev.dt →
    Completes (.canFrameReceived n f sof) s (fun t => t.rd (CAN_CNT_RX n) = s.dev.rd (CAN_CNT_RX n) + 1 ∧ ∃ u : Dev,
      t = u.ringWrite (Fin.ofNat 256 (s.dev.get (CAN_FLT_DEST_RING n q))) (.record n (Dev.canRecord n f sof q false false)) false))

/-- Enabling an outlet's heads needs three different nodes, otherwise it is refused BAD_PARAM, and with a placement that is allowed it is enabled; a head of an enabled outlet
may not be taken out while its energised outlet would keep fewer than two admitted, BUSY_LIVE, and otherwise waits to go to STANDBY; readmission of an unbound head, or at
an outlet that is not enabled, is refused, and of a bound head in STANDBY waits for its test; READMIT_S after its entry to STANDBY a bound head of an enabled outlet that
DISAGREE took out starts its test in RESYNC, and a head in another state does not; a self-test that passes goes on to AGREE, one that fails returns to STANDBY as
TEST_FAIL, counted up to 3, and so does a resynchronisation not passed in 10 s, as TEST_FAIL (R333, R339, R341, R342). A time that has passed falls at the present device
time (log entry 4). -/
def Obligations.MeteringHeads : Prop :=
  (∀ (s : State) (n : Fin 16), taken (.triadEnable n) s = true → s.dev.flag (TRI_OUT_CFG_EN n) = false →
    (((Dev.headsOf n).map (fun (h : Fin 48) => s.dev.get64 (TRI_HEAD_NODE_LO h))).contains 0#64 ||
      ((Dev.headsOf n).map (fun (h : Fin 48) => s.dev.get64 (TRI_HEAD_NODE_LO h))).eraseDups.length != 3) = true →
    Completes (.triadEnable n) s (fun t => t.regs = s.dev.regs ∧ t.out = [.writeStatus ST_BAD_PARAM])) ∧
  (∀ (s : State) (n : Fin 16), taken (.triadEnable n) s = true → s.dev.flag (TRI_OUT_CFG_EN n) = false →
    (((Dev.headsOf n).map (fun (h : Fin 48) => s.dev.get64 (TRI_HEAD_NODE_LO h))).contains 0#64 ||
      ((Dev.headsOf n).map (fun (h : Fin 48) => s.dev.get64 (TRI_HEAD_NODE_LO h))).eraseDups.length != 3) = false → s.dev.placementBad n = false →
    Completes (.triadEnable n) s (fun t => t.flag (TRI_OUT_CFG_EN n) = true ∧ .writeStatus ST_OK ∈ t.out)) ∧
  (∀ (s : State) (n : Fin 16) (k : Fin 3), taken (.headStandbyRequest n k) s = true → s.dev.flag (TRI_OUT_CFG_EN n) = true →
    (s.dev.energised n && decide (((s.dev.admittedHeads n).filter (fun j => j != slotOf n k)).length < 2)) = true →
    Completes (.headStandbyRequest n k) s (fun t => t.regs = s.dev.regs ∧ t.tri = s.dev.tri ∧ t.out = [.writeStatus ST_BUSY_LIVE])) ∧
  (∀ (s : State) (n : Fin 16) (k : Fin 3), taken (.headStandbyRequest n k) s = true → s.dev.flag (TRI_OUT_CFG_EN n) = true →
    (s.dev.energised n && decide (((s.dev.admittedHeads n).filter (fun j => j != slotOf n k)).length < 2)) = false →
    Completes (.headStandbyRequest n k) s (fun t => t.tri.heads[slotOf n k].wantStandby = true ∧ t.out = [.writeStatus ST_OK])) ∧
  (∀ (s : State) (n : Fin 16) (k : Fin 3), taken (.headReadmitRequest n k) s = true →
    (!s.dev.flag (TRI_OUT_CFG_EN n) || (s.dev.headNode (slotOf n k)).isNone) = true →
    Completes (.headReadmitRequest n k) s (fun t => t.regs = s.dev.regs ∧ t.out = [.writeStatus ST_TRI_HEAD_UNBOUND])) ∧
  (∀ (s : State) (n : Fin 16) (k : Fin 3), taken (.headReadmitRequest n k) s = true → s.dev.flag (TRI_OUT_CFG_EN n) = true →
    (s.dev.headNode (slotOf n k)).isSome = true → s.dev.headState (slotOf n k) = hdStandby →
    Completes (.headReadmitRequest n k) s (fun t => t.tri.heads[slotOf n k].wantTest = true ∧ t.out = [.writeStatus ST_OK])) ∧
  (∀ (s : State) (h : Fin 48), taken (.headReadmitTimer h) s = true → s.dev.get TRI_TEST_READMIT_S ≠ 0 → s.dev.headState h = hdStandby →
    s.dev.get (TRI_HEAD_STATUS_CAUSE h) = hcDisagree → (s.dev.headNode h).isSome = true → s.dev.flag (TRI_OUT_CFG_EN (h.val / 3)) = true →
    Completes (.headReadmitTimer h) s (fun t => t.headState h = hdTesting ∧ t.get (TRI_HEAD_STATUS_STEP h) = tsResync ∧
      t.dt = max s.dev.dt (s.dev.tri.heads[h].standbyDt + Dev.sec (s.dev.get TRI_TEST_READMIT_S)))) ∧
  (∀ (s : State) (h : Fin 48), taken (.headReadmitTimer h) s = true → s.dev.headState h ≠ hdStandby →
    Completes (.headReadmitTimer h) s (fun t => t = s.dev.start)) ∧
  (∀ (s : State) (h : Fin 48), taken (.headSelfTestResult h .pass) s = true → s.dev.headState h = hdTesting →
    s.dev.get (TRI_HEAD_STATUS_STEP h) = tsSelf →
    Completes (.headSelfTestResult h .pass) s (fun t => t.headState h = hdTesting ∧ t.get (TRI_HEAD_STATUS_STEP h) = tsAgree)) ∧
  (∀ (s : State) (h : Fin 48), taken (.headSelfTestResult h .fail) s = true → s.dev.headState h = hdTesting →
    s.dev.get (TRI_HEAD_STATUS_STEP h) = tsSelf →
    Completes (.headSelfTestResult h .fail) s (fun t => t.headState h = hdStandby ∧ t.get (TRI_HEAD_STATUS_CAUSE h) = hcTestFail ∧
      t.get (TRI_HEAD_STATUS_FAILS h) = min 3 (s.dev.get (TRI_HEAD_STATUS_FAILS h) + 1))) ∧
  (∀ (s : State) (h : Fin 48), taken (.headResyncTimeout h) s = true → s.dev.headState h = hdTesting →
    s.dev.get (TRI_HEAD_STATUS_STEP h) = tsResync →
    Completes (.headResyncTimeout h) s (fun t => t.headState h = hdStandby ∧ t.get (TRI_HEAD_STATUS_CAUSE h) = hcTestFail ∧
      t.dt = max s.dev.dt (s.dev.tri.heads[h].stepDt + 10000000000)))

/-- On a channel, PUBLIC opens an association at once, and a CUSTOMER whose session is its outlet's; a challenge is a fresh value, refused without a random source; an
INSTALLER's login with the right code over it opens one and uses the challenge up. A login with no challenge to answer opens none, and the fifth failed attempt within 10
min locks the channel; on a locked channel an OPERATOR's login is LOCKED, and a METROLOGIST's with the seal intact is SEAL_INTACT. A read without an association is
NO_ASSOC, of an unknown object NO_OBJECT, beyond the role REFUSED_ROLE, and otherwise brings the value; an association ends on request and 10 min after its last request,
and the lock 10 min after it began (R368, R369). A time that has passed falls at the present device time (log entry 4). -/
def Obligations.ObjectAssociations : Prop :=
  (∀ (s : State) (o : ObjSrc) (c : Channel), taken (.objLogin o .public_) s = true → s.dev.channelOf o = some c →
    Completes (.objLogin o .public_) s (fun t => (t.assocOf c).map (·.role) = some Role.public_ ∧ (t.accessOf c).fails = (s.dev.accessOf c).fails)) ∧
  (∀ (s : State) (o : ObjSrc) (c : Channel) (n : Fin 16) (sid : Id64), taken (.objLogin o (.customer n sid)) s = true →
    s.dev.channelOf o = some c →
    Completes (.objLogin o (.customer n sid)) s (fun t =>
      if s.dev.customerOk n sid then (t.assocOf c).map (·.role) = some (Role.customer n sid) else t.assocOf c = s.dev.assocOf c)) ∧
  (∀ (s : State) (o : ObjSrc) (c : Channel) (m : List Byte), taken (.objLogin o (.operator m)) s = true → s.dev.channelOf o = some c →
    (s.dev.accessOf c).locked.isSome = true →
    Completes (.objLogin o (.operator m)) s (fun t => t = s.dev.start.objReply o ST_BIL_LOCKED)) ∧
  (∀ (s : State) (o : ObjSrc) (c : Channel) (m : List Byte), taken (.objLogin o (.metrologist m)) s = true → s.dev.channelOf o = some c →
    (s.dev.accessOf c).locked = none → s.dev.flag BIL_STATUS_SEAL_BROKEN = false →
    Completes (.objLogin o (.metrologist m)) s (fun t => t = s.dev.start.objReply o ST_BIL_SEAL_INTACT)) ∧
  (∀ (s : State) (o : ObjSrc) (c : Channel) (m x : List Byte) (k : KeyRec), taken (.objLogin o (.installer m)) s = true →
    s.dev.channelOf o = some c → (s.dev.accessOf c).locked = none → s.dev.roleKey .installer = some k → (s.dev.accessOf c).challenge = some x →
    m = Config.hmac 256 k.secret (x ++ leBytes 1 (channelCode c) ++ leBytes 8 (s.dev.get64 GEN_DEVICE_ID_LO).toNat) →
    Completes (.objLogin o (.installer m)) s (fun t => (t.assocOf c).map (·.role) = some Role.installer ∧ (t.accessOf c).challenge = none)) ∧
  (∀ (s : State) (o : ObjSrc) (c : Channel) (m : List Byte) (k : KeyRec), taken (.objLogin o (.installer m)) s = true →
    s.dev.channelOf o = some c → (s.dev.accessOf c).locked = none → s.dev.roleKey .installer = some k → (s.dev.accessOf c).challenge = none →
    Completes (.objLogin o (.installer m)) s (fun t => t.assocOf c = s.dev.assocOf c ∧
      (4 ≤ ((s.dev.accessOf c).fails.filter (fun t => decide (s.dev.dt < t + Dev.sec 600))).length → (t.accessOf c).locked = some s.dev.dt))) ∧
  (∀ (s : State) (o : ObjSrc) (c : Channel), taken (.objChallenge o) s = true → s.dev.channelOf o = some c → s.dev.flag KEY_STATUS_RNG_OK = true →
    Completes (.objChallenge o) s (fun t => ∃ x : List Byte, (t.accessOf c).challenge = some x ∧ t.assocOf c = s.dev.assocOf c)) ∧
  (∀ (s : State) (o : ObjSrc) (c : Channel), taken (.objChallenge o) s = true → s.dev.channelOf o = some c → s.dev.flag KEY_STATUS_RNG_OK = false →
    Completes (.objChallenge o) s (fun t => t = s.dev.start.objReply o ST_KEY_RNG_UNAVAILABLE)) ∧
  (∀ (s : State) (o : ObjSrc) (c : Channel) (id : Word), taken (.objGet o id) s = true → s.dev.channelOf o = some c → s.dev.assocOf c = none →
    Completes (.objGet o id) s (fun t => t = s.dev.start.objReply o ST_BIL_NO_ASSOC)) ∧
  (∀ (s : State) (o : ObjSrc) (c : Channel) (id : Word) (a : Assoc), taken (.objGet o id) s = true → s.dev.channelOf o = some c →
    s.dev.assocOf c = some a →
    Completes (.objGet o id) s (fun t => t = match s.dev.objValue id with
      | none => (s.dev.start.touchAssoc c).objReply o ST_BIL_NO_OBJECT
      | some (v, need) => (s.dev.start.touchAssoc c).objReply o (if need a.role then ST_OK else ST_REFUSED_ROLE) (if need a.role then v else []))) ∧
  (∀ (s : State) (o : ObjSrc) (c : Channel) (a : Assoc), taken (.objEnd o) s = true → s.dev.channelOf o = some c → s.dev.assocOf c = some a →
    Completes (.objEnd o) s (fun t => t.assocOf c = none)) ∧
  (∀ (s : State) (c : Channel) (a : Assoc), taken (.associationTimeout c) s = true → s.dev.assocOf c = some a →
    Completes (.associationTimeout c) s (fun t => t.assocOf c = none ∧ t.dt = max s.dev.dt (a.last + Dev.sec 600))) ∧
  (∀ (s : State) (c : Channel) (l : Nat), taken (.accessLockExpiry c) s = true → (s.dev.accessOf c).locked = some l →
    Completes (.accessLockExpiry c) s (fun t => (t.accessOf c).locked = none ∧ t.dt = max s.dev.dt (l + Dev.sec 600)))

/-- Over an association of the role a setting needs: legal time outside its range is TIME_RANGE, within 90 s of a valid present time it slews by the difference, and otherwise
legal time takes the value at once, and no slew goes on; both clear RTC_FAULT (R353, R360, R361). A calendar setting in its range waits for the next minute and stands in
both configuration copies; the DWELL of the scroll is taken from 2 to 60 s and is BAD_PARAM outside; the outlets' scroll list is taken with at most 48 items that fit
(R354, R366). A calibration write by another role than METROLOGIST is REFUSED_ROLE, of a head whose outlet is energised BUSY_LIVE, and of a grid channel in its range it
counts, waits for the next block and stands in both copies (R327). -/
def Obligations.ObjectSettings : Prop :=
  (∀ (s : State) (o : ObjSrc) (c : Channel) (a : Assoc) (u : Nat), taken (.legalTimeSet o u) s = true → s.dev.channelOf o = some c →
    s.dev.assocOf c = some a → isOperator a.role = true → u < timeMin ∨ timeMax < u →
    Completes (.legalTimeSet o u) s (fun t => t = (s.dev.start.touchAssoc c).objReply o ST_BIL_TIME_RANGE)) ∧
  (∀ (s : State) (o : ObjSrc) (c : Channel) (a : Assoc) (u : Nat), taken (.legalTimeSet o u) s = true → s.dev.channelOf o = some c →
    s.dev.assocOf c = some a → isOperator a.role = true → timeMin ≤ u → u ≤ timeMax → s.dev.utcValid = true →
    ((u : Int) - s.dev.utcNow).natAbs ≤ 90000 →
    Completes (.legalTimeSet o u) s (fun t => t.bil.slew.map (·.left) = (if (u : Int) - s.dev.utcNow = 0 then none else some ((u : Int) - s.dev.utcNow)) ∧
      t.flag GEN_STATUS_RTC_FAULT = false ∧ t.dt = s.dev.dt)) ∧
  (∀ (s : State) (o : ObjSrc) (c : Channel) (a : Assoc) (u : Nat), taken (.legalTimeSet o u) s = true → s.dev.channelOf o = some c →
    s.dev.assocOf c = some a → isOperator a.role = true → timeMin ≤ u → u ≤ timeMax →
    s.dev.utcValid = false ∨ 90000 < ((u : Int) - s.dev.utcNow).natAbs →
    Completes (.legalTimeSet o u) s (fun t => t.gen.pair = some (s.dev.dt, u) ∧ t.bil.slew = none ∧ t.utcNow = u ∧ t.bil.l0 = some u ∧
      t.flag GEN_STATUS_RTC_FAULT = false)) ∧
  (∀ (s : State) (o : ObjSrc) (c : Channel) (a : Assoc) (x : CalSet), taken (.calendarSet o x) s = true → s.dev.channelOf o = some c →
    s.dev.assocOf c = some a → isInstaller a.role = true → calSetOk x = true →
    Completes (.calendarSet o x) s (fun t =>
      t.bil.pendingCfg = some (s.dev.utcNow / 60000 + 1, Dev.applyCalSet ((s.dev.bil.pendingCfg.map (·.2)).getD s.dev.bil.cfg) x) ∧
      t.bil.cfg = s.dev.bil.cfg ∧ t.gen.cfg0 = copySet s.dev.gen.cfg0 (.calendar x) ∧ t.gen.cfg1 = copySet s.dev.gen.cfg1 (.calendar x))) ∧
  (∀ (s : State) (o : ObjSrc) (c : Channel) (a : Assoc) (n : Nat), taken (.scrollSet o (.dwell n)) s = true → s.dev.channelOf o = some c →
    s.dev.assocOf c = some a → isInstaller a.role = true →
    Completes (.scrollSet o (.dwell n)) s (fun t => if 2 ≤ n ∧ n ≤ 60 then t.bil.dwell = n
      else t = (s.dev.start.touchAssoc c).objReply o ST_BAD_PARAM)) ∧
  (∀ (s : State) (o : ObjSrc) (c : Channel) (a : Assoc) (l : List Code), taken (.scrollSet o (.outlets l)) s = true → s.dev.channelOf o = some c →
    s.dev.assocOf c = some a → isInstaller a.role = true → l.length ≤ 48 → l.all (itemFits false) = true →
    Completes (.scrollSet o (.outlets l)) s (fun t => t.bil.scrollOut = l ∧ t.bil.scrollDsp = s.dev.bil.scrollDsp)) ∧
  (∀ (s : State) (o : ObjSrc) (c : Channel) (a : Assoc) (x : CalItem), taken (.calibrationWrite o x) s = true → s.dev.channelOf o = some c →
    s.dev.assocOf c = some a → isMetrologist a.role = false →
    Completes (.calibrationWrite o x) s (fun t => t = (s.dev.start.touchAssoc c).objReply o ST_REFUSED_ROLE)) ∧
  (∀ (s : State) (o : ObjSrc) (c : Channel) (a : Assoc) (h : Fin 48) (j : Fin 4) (v : Word), taken (.calibrationWrite o (.head h j v)) s = true →
    s.dev.channelOf o = some c → s.dev.assocOf c = some a → isMetrologist a.role = true → calItemOk (.head h j v) = true → s.dev.energised (h.val / 3) = true →
    Completes (.calibrationWrite o (.head h j v)) s (fun t => t = (s.dev.start.touchAssoc c).objReply o ST_BUSY_LIVE)) ∧
  (∀ (s : State) (o : ObjSrc) (c : Channel) (a : Assoc) (k : Fin 16) (j : Fin 4) (v : Word), taken (.calibrationWrite o (.channel k j v)) s = true →
    s.dev.channelOf o = some c → s.dev.assocOf c = some a → isMetrologist a.role = true → calItemOk (.channel k j v) = true →
    Completes (.calibrationWrite o (.channel k j v)) s (fun t => t.rd MTR_CAL_CNT = s.dev.rd MTR_CAL_CNT + 1 ∧
      t.mtr.pendCal = s.dev.mtr.pendCal ++ [(s.dev.dt, .channel k j v)] ∧
      t.gen.cfg0 = copySet s.dev.gen.cfg0 (.calibration (.channel k j v)) ∧ t.gen.cfg1 = copySet s.dev.gen.cfg1 (.calibration (.channel k j v))))

/-- A test asked for without a status word is refused with BAD_PARAM, the seventeenth open long operation with LONG_LIMIT, and the ninth waiting test with QUEUE_FULL; a test
that waits for its window is queued, starts in its window (MEAS_DIE when no outlet is energised), and expires failed 24 h after it was asked for; a running one ends with
its items, failed when one has; new data of a running operation follow its result, with as many units; LONG_CANCEL of a waiting test drops it, and one of a TAG that names
nothing completes with BAD_PARAM and changes no long operation (R496, R497, R498, R515). An instant that has passed falls at the present device time (log entry 4). -/
def Obligations.LongOperations : Prop :=
  (∀ (s : State) (l : LongSrc) (x : TestReq), taken (.test l x) s = true → Dev.overUart l.src = false → l.statusAddr = 0 →
    s.dev.flag GEN_LIFECYCLE_CAUSE_FW = false →
    Completes (.test l x) s (fun t => t = s.dev.start.longRefuse l 0x0002 ST_BAD_PARAM ∧ t.gen.tests = s.dev.gen.tests ∧ t.hif.long = s.dev.hif.long)) ∧
  (∀ (s : State) (l : LongSrc) (x : TestReq), taken (.test l x) s = true → Dev.overUart l.src = false → l.statusAddr ≠ 0 →
    s.dev.flag GEN_LIFECYCLE_CAUSE_FW = false → 16 ≤ s.dev.hif.long.length →
    Completes (.test l x) s (fun t => t = s.dev.start.longRefuse l 0x0002 ST_HIF_LONG_LIMIT ∧ t.hif.long = s.dev.hif.long)) ∧
  (∀ (s : State) (l : LongSrc), taken (.test l ⟨0x000B, []⟩) s = true → Dev.overUart l.src = false → l.statusAddr ≠ 0 →
    s.dev.flag GEN_LIFECYCLE_CAUSE_FW = false → s.dev.hif.long.length < 16 → (s.dev.gen.tests.filter (fun t => !t.running)).length < 8 →
    Completes (.test l ⟨0x000B, []⟩) s (fun t => t.hif.long.length = s.dev.hif.long.length + 1 ∧
      t.gen.tests = s.dev.gen.tests ++ [{ src := l, code := 0x000B, params := [], since := s.dev.dt, running := false }] ∧
      t.get GEN_TEST_QUEUED = (s.dev.gen.tests.filter (fun t => !t.running)).length + 1)) ∧
  (∀ (s : State) (l : LongSrc), taken (.test l ⟨0x000B, []⟩) s = true → Dev.overUart l.src = false → l.statusAddr ≠ 0 →
    s.dev.flag GEN_LIFECYCLE_CAUSE_FW = false → s.dev.hif.long.length < 16 → 8 ≤ (s.dev.gen.tests.filter (fun t => !t.running)).length →
    Completes (.test l ⟨0x000B, []⟩) s (fun t => t = s.dev.start.longRefuse l 0x0002 ST_GEN_QUEUE_FULL ∧ t.gen.tests = s.dev.gen.tests)) ∧
  (∀ (s : State) (q g : Bool), taken (.testWindowOpen q g) s = true → s.dev.gen.tests.filter (fun t => !t.running) = [] →
    Completes (.testWindowOpen q g) s (fun t => t.dt = max s.dev.dt (s.dev.nextMultiple (Dev.ms 10) (s.dev.ticked .testWindow)) ∧ t.gen.tests = s.dev.gen.tests ∧ t.regs = s.dev.regs)) ∧
  (∀ (s : State) (q g : Bool) (x : QueuedTest), taken (.testWindowOpen q g) s = true → s.dev.gen.tests = [x] → x.running = false → x.code = 0x000C →
    Completes (.testWindowOpen q g) s (fun t => t.gen.tests = [if s.dev.get VSS_STATUS_ENERGISED = 0 then { x with since := t.dt, running := true } else x])) ∧
  (∀ (s : State) (src : Src) (x : QueuedTest), taken (.testExpiry src) s = true → s.dev.testOf src = some x → x.running = false →
    Completes (.testExpiry src) s (fun t => t.dt = max s.dev.dt (x.since + Dev.sec 86400) ∧ t.gen.tests.length + 1 = s.dev.gen.tests.length ∧
      t.get GEN_TEST_LAST_CODE = x.code % 2 ^ 16 ∧ t.flag GEN_TEST_LAST_FAIL = true)) ∧
  (∀ (s : State) (src : Src) (x : QueuedTest) (items : List Word), taken (.longOperationDone src items) s = true → s.dev.testOf src = some x →
    x.running = true → x.code = 0x0001 →
    Completes (.longOperationDone src items) s (fun t => t.gen.tests.length + 1 = s.dev.gen.tests.length ∧
      t.get GEN_TEST_LAST_CODE = 1 ∧ t.flag GEN_TEST_LAST_FAIL = items.any Dev.itemFailed)) ∧
  (∀ (s : State) (src : Src) (u p : Nat) (d : List Byte) (o : LongOp), taken (.longPartialReady src u d p) s = true → s.dev.longOf src = some o →
    o.state ≠ .queued → 8 + o.data.length + d.length ≤ o.resLen →
    Completes (.longPartialReady src u d p) s (fun t => ∃ o' : LongOp, t.longOf src = some o' ∧ o'.valid = o.valid + u ∧ o'.data = o.data ++ d ∧
      o'.state = .partialReady)) ∧
  (∀ (s : State) (src : Src) (tag : Word), taken (.longCancel src tag) s = true → s.dev.hif.long.all (fun o => Dev.srcTag o.src != tag) = true →
    s.dev.hif.exec.all (fun e => e.tag != tag) = true →
    Completes (.longCancel src tag) s (fun t => t = s.dev.start.complete src ST_BAD_PARAM ∧ t.hif.long = s.dev.hif.long)) ∧
  (∀ (s : State) (src : Src) (tag : Word) (o : LongOp) (x : QueuedTest), taken (.longCancel src tag) s = true →
    s.dev.hif.long.find? (fun o => Dev.srcTag o.src == tag) = some o → s.dev.testOf o.src = some x → x.running = false →
    Completes (.longCancel src tag) s (fun t => t.hif.long.length + 1 = s.dev.hif.long.length ∧ t.gen.tests.length + 1 = s.dev.gen.tests.length))

/-- The oldest staged entry is written to MRAM under the next SEQ, 500 µs after the one before it at the earliest, and the last 16 384 entries are kept; with none staged
nothing is written. A freeze of the host takes a free slot with the last entries and counts, but within 1 s of the last by the same trigger it changes nothing; a release
frees its slot and no other (R521, R522). A read of no entries, or from LDG_SEQ on, is refused BAD_PARAM, one of an empty snapshot NO_SNAPSHOT, and over the UART one
without an association REFUSED_ROLE; over a ring a read whose entries are held ends at once with their units (R523). A write that comes late falls at the present device
time (log entry 4). -/
def Obligations.WayledgerAndSnapshots : Prop :=
  (∀ (s : State) (k : Bool) (e : LdgEntry) (rest : List (Bool × LdgEntry)), taken .ledgerWrite s = true → s.dev.ldg.staged = (k, e) :: rest →
    Completes .ledgerWrite s (fun t => t.ldg.staged = rest ∧ t.ldg.entries.head? = some (s.dev.rd LDG_SEQ, e) ∧ t.rd LDG_SEQ = s.dev.rd LDG_SEQ + 1 ∧
      t.ldg.wroteAt = some t.dt ∧
      t.dt = max s.dev.dt ((s.dev.ldg.wroteAt.map (· + 500000)).getD 0) ∧
      t.ldg.entries.length = min (s.dev.ldg.entries.length + 1) 16384)) ∧
  (∀ s : State, taken .ledgerWrite s = true → s.dev.ldg.staged = [] → Completes .ledgerWrite s (fun t => t = s.dev.start)) ∧
  (∀ (s : State) (t0 : Nat), taken .ldgFreeze s = true → (.host, t0) ∈ s.dev.ldg.lastFreeze → s.dev.dt < t0 + 1000000000 →
    Completes .ldgFreeze s (fun t => t.ldg = s.dev.ldg ∧ t.regs = s.dev.regs ∧ .writeStatus ST_OK ∈ t.out)) ∧
  (∀ (s : State) (i : Fin 32), taken .ldgFreeze s = true → s.dev.ldg.lastFreeze.all (fun p => p.1 != .host) = true → s.dev.freeSnap = some i →
    Completes .ldgFreeze s (fun t => t.ldg.freezeNo = s.dev.ldg.freezeNo + 1 ∧ (t.rd LDG_SNAP_FROZEN).toNat.testBit i.val = true ∧
      t.get LDG_STATUS_FROZEN = s.dev.frozenCount + 1 ∧
      ∃ x : Snapshot, t.ldg.snaps[i] = some x ∧ x.trigger = .host ∧ x.freezeNo = s.dev.ldg.freezeNo + 1 ∧ x.entries = (s.dev.ldg.entries.take 255).reverse)) ∧
  (∀ (s : State) (i : Fin 32), taken (.ldgRelease i) s = true →
    Completes (.ldgRelease i) s (fun t => t.ldg.snaps[i] = none ∧ (t.rd LDG_SNAP_FROZEN).toNat.testBit i.val = false ∧
      ∀ j : Fin 32, j ≠ i → t.ldg.snaps[j] = s.dev.ldg.snaps[j])) ∧
  (∀ (s : State) (l : LongSrc) (r : LdgReadReq), taken (.ldgRead l r) s = true → Dev.overUart l.src = false → s.dev.longCheck l = none →
    r.snapshot = false → r.count = 0 ∨ r.first = s.dev.rd LDG_SEQ →
    Completes (.ldgRead l r) s (fun t => t = s.dev.start.longRefuse l 0x1101 ST_BAD_PARAM)) ∧
  (∀ (s : State) (l : LongSrc) (r : LdgReadReq), taken (.ldgRead l r) s = true → Dev.overUart l.src = false → s.dev.longCheck l = none →
    r.snapshot = true → 1 ≤ r.count → r.first.toNat + r.count ≤ 256 → r.slot < 32 → (s.dev.ldg.snaps.toList[r.slot]?) = some none →
    Completes (.ldgRead l r) s (fun t => t = s.dev.start.longRefuse l 0x1101 ST_LDG_NO_SNAPSHOT)) ∧
  (∀ (s : State) (tag : Word) (a b c : Nat) (r : LdgReadReq), taken (.ldgRead ⟨.uart tag, a, b, c⟩ r) s = true → s.dev.assocOf .uart = none →
    Completes (.ldgRead ⟨.uart tag, a, b, c⟩ r) s (fun t => t = s.dev.start.complete (.uart tag) ST_REFUSED_ROLE)) ∧
  (∀ (s : State) (l : LongSrc) (r : LdgReadReq) (d : List Byte), taken (.ldgRead l r) s = true → Dev.overUart l.src = false →
    s.dev.ledgerAnswer r r.count = .ok d →
    Completes (.ldgRead l r) s (fun t => t = s.dev.start.longWhole l 0x1101 (d.length / 32) d true ST_OK))

/-- KEY_GENERATE into a slot that no condition refuses: when every step succeeds the slot is VALID with the TYPE and USAGE asked for, one write sequence number on, and no
other slot changes; when a step fails no slot register changes (R453, R455); into a BOUND slot it is refused with KEY_BOUND (R457). KEY_IMPORT of a sealed key with a
usable unwrap key: where the seal opens and every step succeeds the slot takes the key, and where the seal does not open no slot and no record changes (R458). KEY_DELETE
of a BOUND slot only completes with KEY_BOUND; of a filled slot that nothing holds it empties the slot and no other slot changes (R456, R457). All with the root present
(R460). -/
def Obligations.KeySlotWriting : Prop :=
  (∀ (s : State) (l : LongSrc) (x : KeyNew) (k : Byte), taken (.keyGenerate l x) s = true → s.dev.longCheck l = none → x.dest = .slot k →
    s.dev.newKeyBad x = none → s.dev.flag KEY_STATUS_RNG_OK = true → s.dev.engineOk x.type = true → x.fail = none →
    Completes (.keyGenerate l x) s (fun t => t.get (KEY_SLOT_STATE k.toNat) = 1 ∧ t.get (KEY_SLOT_TYPE k.toNat) = x.type ∧
      t.get (KEY_SLOT_USAGE k.toNat) = x.usage ∧ t.key.wseq = s.dev.key.wseq + 1 ∧
      ∀ j : Nat, j < 64 → j ≠ k.toNat → t.rd (KEY_SLOT j) = s.dev.rd (KEY_SLOT j))) ∧
  (∀ (s : State) (l : LongSrc) (x : KeyNew) (k : Byte) (i : Fin 7), taken (.keyGenerate l x) s = true → s.dev.longCheck l = none → x.dest = .slot k →
    s.dev.newKeyBad x = none → s.dev.flag KEY_STATUS_RNG_OK = true → s.dev.engineOk x.type = true → x.fail = some i →
    Completes (.keyGenerate l x) s (fun t => ∀ j : Nat, t.rd (KEY_SLOT j) = s.dev.rd (KEY_SLOT j))) ∧
  (∀ (s : State) (l : LongSrc) (x : KeyNew) (k : Byte), taken (.keyGenerate l x) s = true → s.dev.longCheck l = none → x.dest = .slot k → k.toNat < 64 →
    s.dev.flag KEY_STATUS_ROOT = true → creationBad x.type x.usage x.hash false = false → s.dev.flag (KEY_SLOT_BOUND k.toNat) = true →
    Completes (.keyGenerate l x) s (fun t => t = s.dev.start.longRefuse l 0x1001 ST_KEY_KEY_BOUND)) ∧
  (∀ (s : State) (l : LongSrc) (x : KeySealed) (u : UseKey) (k : Byte), taken (.keyImport l x) s = true → s.dev.longCheck l = none →
    s.dev.newKeyBad x.new = none → (s.dev.loadFor (.slot x.unwrapSlot) kuUnwrap).2 = .ok u → x.new.dest = .slot k → x.new.fail = none →
    Completes (.keyImport l x) s (fun t =>
      if (s.dev.openImport x u).isSome = true then
        t.get (KEY_SLOT_STATE k.toNat) = 1 ∧ t.get (KEY_SLOT_TYPE k.toNat) = x.new.type ∧ t.get (KEY_SLOT_USAGE k.toNat) = x.new.usage
      else t.key.records = s.dev.key.records ∧ ∀ j : Nat, t.rd (KEY_SLOT j) = s.dev.rd (KEY_SLOT j))) ∧
  (∀ (s : State) (src : Src) (k : Byte) (l : List (Fin 13)), taken (.keyDelete src k l) s = true → s.dev.flag KEY_STATUS_ROOT = true → k.toNat < 64 →
    s.dev.get (KEY_SLOT_STATE k.toNat) ≠ 0 → s.dev.flag (KEY_SLOT_BOUND k.toNat) = true →
    Completes (.keyDelete src k l) s (fun t => t = s.dev.start.complete src ST_KEY_KEY_BOUND)) ∧
  (∀ (s : State) (src : Src) (k : Byte) (l : List (Fin 13)), taken (.keyDelete src k l) s = true → s.dev.flag KEY_STATUS_ROOT = true → k.toNat < 64 →
    s.dev.get (KEY_SLOT_STATE k.toNat) ≠ 0 → s.dev.slotHeld k.toNat = none →
    Completes (.keyDelete src k l) s (fun t => t.rd (KEY_SLOT k.toNat) = 0 ∧ ∀ j : Nat, j < 64 → j ≠ k.toNat → t.rd (KEY_SLOT j) = s.dev.rd (KEY_SLOT j)))

/-- With the key an operation names loaded for its use, a signature writes its result, as many bytes as its type has, and ends DONE; over a digest of the wrong length it
fails BAD_PARAM; a check ends DONE or fails CHECK_FAIL, and a certificate request ends DONE; a message code completes with it, a cipher with the text or CHECK_FAIL, a
hash with the digest, a random request with 1 to 4096 bytes and otherwise BAD_PARAM; a public key comes with its attestation. A signature with the root absent is refused
NO_ROOT. A blob loads into a working slot or is BLOB_BAD; an unloaded slot is empty, and unloading an empty one is WSLOT_EMPTY (R459, R460, R461, R462, R472, R496, R497).
What a key operation computes is a free value of its stated length (log entry 3). -/
def Obligations.KeyUses : Prop :=
  (∀ (s : State) (l : LongSrc) (r : KeyRef) (m : List Byte) (x : UseKey), taken (.keySign l r m) s = true → s.dev.longCheck l = none → l.statusAddr ≠ 0 →
    (s.dev.loadFor r kuSignHost).2 = .ok x → typeHash x.type = 0 ∨ m.length = typeHash x.type / 8 → 3 ≤ x.type → x.type ≤ 6 →
    s.dev.longOf l.src = none → s.dev.flag HIF_STATUS_LINK_UP = true → 8 + Config.sigBytes x.type ≤ l.resLen →
    Completes (.keySign l r m) s (fun t => .memWrite (l.resAddr + 8) (Config.sign x.type x.secret m) ∈ t.out ∧
      .memWrite l.resAddr (leBytes 4 (Config.sigBytes x.type) ++ leBytes 4 0) ∈ t.out ∧
      .memWrite l.statusAddr (statusImage 4 1000 ST_OK) ∈ t.out ∧ t.hif.long = s.dev.hif.long)) ∧
  (∀ (s : State) (l : LongSrc) (r : KeyRef) (m : List Byte) (x : UseKey), taken (.keySign l r m) s = true → s.dev.longCheck l = none →
    (s.dev.loadFor r kuSignHost).2 = .ok x → typeHash x.type ≠ 0 → m.length ≠ typeHash x.type / 8 → s.dev.longOf l.src = none → l.statusAddr ≠ 0 →
    s.dev.flag HIF_STATUS_LINK_UP = true →
    Completes (.keySign l r m) s (fun t => .memWrite l.statusAddr (statusImage 5 0 ST_BAD_PARAM) ∈ t.out ∧ t.hif.long = s.dev.hif.long)) ∧
  (∀ (s : State) (l : LongSrc) (r : KeyRef) (m : List Byte), taken (.keySign l r m) s = true → s.dev.longCheck l = none →
    s.dev.flag KEY_STATUS_ROOT = false →
    Completes (.keySign l r m) s (fun t => t = s.dev.start.longRefuse l 0x1006 ST_KEY_NO_ROOT)) ∧
  (∀ (s : State) (l : LongSrc) (r : KeyRef) (m sig : List Byte) (x : UseKey), taken (.keyVerify l r m sig) s = true → s.dev.longCheck l = none →
    (s.dev.loadFor r kuSignHost).2 = .ok x → s.dev.longOf l.src = none → l.statusAddr ≠ 0 → s.dev.flag HIF_STATUS_LINK_UP = true →
    Completes (.keyVerify l r m sig) s (fun t => t.hif.long = s.dev.hif.long ∧
      .memWrite l.statusAddr (if Config.verify x.type x.pub m sig then statusImage 4 1000 ST_OK else statusImage 5 0 ST_KEY_CHECK_FAIL) ∈ t.out)) ∧
  (∀ (s : State) (l : LongSrc) (k : Byte) (b : List Byte) (x : UseKey), taken (.keyMakeCsr l k b) s = true → s.dev.longCheck l = none →
    (s.dev.loadFor (.slot k) kuTls).2 = .ok x → s.dev.longOf l.src = none → l.statusAddr ≠ 0 → s.dev.flag HIF_STATUS_LINK_UP = true →
    8 + (Config.csr x.type x.secret b).length ≤ l.resLen →
    Completes (.keyMakeCsr l k b) s (fun t => t.hif.long = s.dev.hif.long ∧ .memWrite l.statusAddr (statusImage 4 1000 ST_OK) ∈ t.out)) ∧
  (∀ (s : State) (src : Src) (r : KeyRef) (m : List Byte) (x : UseKey), taken (.keyHmac src r m) s = true → (s.dev.loadFor r kuHmacHost).2 = .ok x →
    Completes (.keyHmac src r m) s (fun t => t = s.dev.start.complete src ST_OK 0 (Config.hmac x.hash x.secret m))) ∧
  (∀ (s : State) (src : Src) (r : KeyRef) (c : CipherReq) (x : UseKey), taken (.keyCipher src r c) s = true → (s.dev.loadFor r kuCipherHost).2 = .ok x →
    c.text.length ≤ 65536 → c.nonce.length = 12 →
    Completes (.keyCipher src r c) s (fun t => t = if c.decrypt then (match Config.gcmOpen x.secret c.nonce c.aad c.text with
        | some p => s.dev.start.complete src ST_OK 0 p
        | none => s.dev.start.complete src ST_KEY_CHECK_FAIL)
      else s.dev.start.complete src ST_OK 0 (Config.gcmSeal x.secret c.nonce c.aad c.text))) ∧
  (∀ (s : State) (src : Src) (m : List Byte), taken (.keyHash src 256 m) s = true → s.dev.flag KEY_STATUS_ROOT = true → m.length ≤ 65536 →
    (0x10 : Byte) ∉ s.dev.key.engineBad →
    Completes (.keyHash src 256 m) s (fun t => t = s.dev.start.complete src ST_OK 0 (Config.sha2 256 m))) ∧
  (∀ (s : State) (src : Src) (n : Nat), taken (.keyRandom src n) s = true → s.dev.flag KEY_STATUS_ROOT = true → s.dev.flag KEY_STATUS_RNG_OK = true →
    1 ≤ n → n ≤ 4096 →
    Completes (.keyRandom src n) s (fun t => ∃ (d : Dev) (b : List Byte), t = d.complete src ST_OK 0 b ∧ b.length = n ∧ d.regs = s.dev.regs)) ∧
  (∀ (s : State) (src : Src) (n : Nat), taken (.keyRandom src n) s = true → s.dev.flag KEY_STATUS_ROOT = true → n = 0 ∨ 4096 < n →
    Completes (.keyRandom src n) s (fun t => t = s.dev.start.complete src ST_BAD_PARAM)) ∧
  (∀ (s : State) (src : Src) (r : KeyRef) (x : UseKey), taken (.keyGetPublic src r) s = true → s.dev.flag KEY_STATUS_ROOT = true → (s.dev.loadKey r).2 = .ok x →
    s.dev.get GEN_LIFECYCLE_IDENTITY_GEN ≠ 1 →
    Completes (.keyGetPublic src r) s (fun t => t = s.dev.start.complete src ST_OK 0 (x.pub ++ s.dev.attestation x.slot x.type x.usage x.pub))) ∧
  (∀ (s : State) (src : Src) (w : Byte) (b : List Byte), taken (.keyLoadBlob src w b) s = true → s.dev.flag KEY_STATUS_ROOT = true → w.toNat < 16 →
    Completes (.keyLoadBlob src w b) s (fun t => match (s.dev.openBlob b).2 with
      | none => t = s.dev.start.complete src ST_KEY_BLOB_BAD
      | some x => t.key.work.toList[w.toNat]? = some (some x))) ∧
  (∀ (s : State) (src : Src) (w : Byte), taken (.keyUnload src w) s = true → s.dev.flag KEY_STATUS_ROOT = true → w.toNat < 16 →
    Completes (.keyUnload src w) s (fun t => t.key.work.toList[w.toNat]? = some none ∧
      (s.dev.key.work.toList[w.toNat]? = some none → t = s.dev.start.complete src ST_KEY_WSLOT_EMPTY)))

/-- A health failure makes the random source unavailable, counts, and has its start-up tests repeated 10 s later; they make it available when they pass, wait another 10 s
when they fail, and latch it at the third failure in a row; without one due nothing happens. The root that waits for the source is written when the wait ends with the
source available, and otherwise waits another 10 s (R449, R461). An image that is not signed is refused FW_SIG_BAD; one that authenticates, and does so again as it reads
back, takes the bank not active with its version and security version, and one that does not read back good leaves a bank that cannot be started; the active bank stays
(R468, R470). A confirmation outside a trial is BAD_PARAM; it ends the trial and raises the anti-rollback counter, and never lowers it (R470, R471). A time that has
passed falls at the present device time (log entry 4). -/
def Obligations.RandomSourceAndFirmware : Prop :=
  (∀ s : State, taken .rngFail s = true → s.dev.flag KEY_STATUS_RNG_OK = true →
    Completes .rngFail s (fun t => t.flag KEY_STATUS_RNG_OK = false ∧ t.rd KEY_RNG_FAILS = s.dev.rd KEY_RNG_FAILS + 1 ∧
      t.key.rngRetest = some (s.dev.dt + Dev.sec 10) ∧ t.key.rngRun = 0)) ∧
  (∀ s : State, taken .rngFail s = true → s.dev.flag KEY_STATUS_RNG_OK = false → Completes .rngFail s (fun t => t = s.dev.start)) ∧
  (∀ (s : State) (t0 : Nat), taken (.rngRetest true) s = true → s.dev.key.rngRetest = some t0 →
    Completes (.rngRetest true) s (fun t => t.flag KEY_STATUS_RNG_OK = true ∧ t.key.rngRetest = none ∧ t.dt = max s.dev.dt t0)) ∧
  (∀ (s : State) (t0 : Nat), taken (.rngRetest false) s = true → s.dev.key.rngRetest = some t0 →
    Completes (.rngRetest false) s (fun t => if 2 ≤ s.dev.key.rngRun then t.flag KEY_STATUS_RNG_LATCHED = true ∧ t.key.rngRetest = none
      else t.key.rngRun = s.dev.key.rngRun + 1 ∧ t.key.rngRetest = some (max s.dev.dt t0 + Dev.sec 10))) ∧
  (∀ (s : State) (t0 : Nat), taken .rootGenRetry s = true → s.dev.key.rootRetry = some t0 →
    Completes .rootGenRetry s (fun t => t.dt = max s.dev.dt t0 ∧
      if s.dev.flag KEY_STATUS_RNG_OK then t.flag KEY_STATUS_ROOT = true ∧ t.key.root.isSome = true ∧ t.key.rootRetry = none
      else t.key.rootRetry = some (max s.dev.dt t0 + Dev.sec 10) ∧ t.regs = s.dev.regs)) ∧
  (∀ (s : State) (l : LongSrc) (x : FwImage), taken (.fwStage l x) s = true → Dev.overUart l.src = false → s.dev.longCheck l = none →
    s.dev.flag KEY_STATUS_ROOT = true → s.dev.flag KEY_FW_TRIAL = false → s.dev.imageSigned x.bytes = false →
    Completes (.fwStage l x) s (fun t => t = s.dev.start.longRefuse l 0x100E ST_KEY_FW_SIG_BAD)) ∧
  (∀ (s : State) (l : LongSrc) (x : FwImage), taken (.fwStage l x) s = true → Dev.overUart l.src = false → s.dev.longCheck l = none →
    s.dev.flag KEY_STATUS_ROOT = true → s.dev.flag KEY_FW_TRIAL = false → Completes (.fwStage l x) s (fun t => s.dev.imageBad x.bytes = none → s.dev.imageBad x.mram = none →
      t.bankOf t.otherBank = ⟨true, BitVec.ofNat 32 (leNat (Dev.fwField x.mram 4 4)), leNat (Dev.fwField x.mram 8 2), true⟩ ∧
      t.bankBootable t.otherBank = true ∧ t.get KEY_FW_ACTIVE = s.dev.get KEY_FW_ACTIVE ∧
      t.bankOf (s.dev.get KEY_FW_ACTIVE) = s.dev.bankOf (s.dev.get KEY_FW_ACTIVE))) ∧
  (∀ (s : State) (l : LongSrc) (x : FwImage) (c : Code), taken (.fwStage l x) s = true → Dev.overUart l.src = false → s.dev.longCheck l = none →
    s.dev.flag KEY_STATUS_ROOT = true → s.dev.flag KEY_FW_TRIAL = false →
    Completes (.fwStage l x) s (fun t => s.dev.imageBad x.bytes = none → s.dev.imageBad x.mram = some c → t.bankBootable t.otherBank = false ∧ t.get KEY_FW_ACTIVE = s.dev.get KEY_FW_ACTIVE)) ∧
  (∀ (s : State) (src : Src), taken (.fwConfirm src) s = true → s.dev.flag KEY_STATUS_ROOT = true → s.dev.flag KEY_FW_TRIAL = false →
    Completes (.fwConfirm src) s (fun t => t = s.dev.start.complete src ST_BAD_PARAM)) ∧
  (∀ (s : State) (src : Src), taken (.fwConfirm src) s = true → s.dev.flag KEY_STATUS_ROOT = true → s.dev.flag KEY_FW_TRIAL = true →
    (s.dev.bankOf (s.dev.get KEY_FW_ACTIVE)).secVer < 65536 →
    Completes (.fwConfirm src) s (fun t => t.flag KEY_FW_TRIAL = false ∧ t.key.trialSince = none ∧
      t.get KEY_FW_SEC_ROLLBACK = max (s.dev.get KEY_FW_SEC_ROLLBACK) (s.dev.bankOf (s.dev.get KEY_FW_ACTIVE)).secVer))

/-- DEBUG_OPEN_REQUEST gives a challenge of 32 random bytes while the random source is good and fewer than three responses have failed; after three it is only answered
DEBUG_AUTH_FAIL. DEBUG_AUTH_RESPONSE without a challenge, and one whose signature over challenge, device ID and "OPEN" does not verify under the authority key, fails and
counts, and no register and no root secret changes. One that verifies, on a device outside MANUFACTURE: on a live site it is answered BUSY_LIVE with nothing changed;
otherwise ERASE_PENDING stands where a reset interrupts the erase, and where none does the root secret, every key slot and every record are erased, the life is DEBUG-OPEN
and the port is open. Each response uses the challenge up. DEBUG_CLOSE closes the port (R466, R467). The bits of the challenge are a free value (log entry 3);
verification is the model's uninterpreted function. -/
def Obligations.DebugAccess : Prop :=
  (∀ s : State, taken .debugOpenRequest s = true → s.dev.key.debugFails < 3 → s.dev.flag KEY_STATUS_RNG_OK = true →
    Completes .debugOpenRequest s (fun t => ∃ c : List Byte, t.key.challenge = some c ∧ c.length = 32 ∧ .debug ST_OK c ∈ t.out)) ∧
  (∀ s : State, taken .debugOpenRequest s = true → 3 ≤ s.dev.key.debugFails →
    Completes .debugOpenRequest s (fun t => t = s.dev.start.emit (.debug ST_KEY_DEBUG_AUTH_FAIL []))) ∧
  (∀ (s : State) (sig : List Byte) (i : Bool), taken (.debugAuthResponse sig i) s = true → s.dev.key.challenge = none →
    Completes (.debugAuthResponse sig i) s (fun t => t.key.debugFails = s.dev.key.debugFails + 1 ∧ t.regs = s.dev.regs ∧
      t.key.root = s.dev.key.root ∧ .debug ST_KEY_DEBUG_AUTH_FAIL [] ∈ t.out)) ∧
  (∀ (s : State) (sig c : List Byte) (i : Bool), taken (.debugAuthResponse sig i) s = true → s.dev.key.challenge = some c →
    s.dev.key.debugFails < 3 → s.dev.life ≠ lfManufacture →
    Completes (.debugAuthResponse sig i) s (fun t => t.key.challenge = none ∧
      if Config.verify ktEd448 s.dev.key.authority (c ++ leBytes 8 (s.dev.get64 GEN_DEVICE_ID_LO).toNat ++ ascii "OPEN") sig = true then
        if s.dev.siteLive = true then t.regs = s.dev.regs ∧ t.key.root = s.dev.key.root ∧ .debug ST_BUSY_LIVE [] ∈ t.out
        else if i = true then t.flag KEY_STATUS_ERASE_PENDING = true ∧ t.key.root = s.dev.key.root
        else t.key.root = none ∧ t.flag KEY_STATUS_ROOT = false ∧ t.life = lfDebugOpen ∧ t.flag KEY_STATUS_ERASE_PENDING = false ∧
          t.key.debugOpen = true ∧ (∀ k : Nat, k < 64 → t.rd (KEY_SLOT k) = 0) ∧ t.key.records = Vector.replicate 65 none
      else t.key.debugFails = s.dev.key.debugFails + 1 ∧ t.regs = s.dev.regs ∧ t.key.root = s.dev.key.root ∧
        .debug ST_KEY_DEBUG_AUTH_FAIL [] ∈ t.out)) ∧
  (∀ s : State, taken .debugClose s = true → Completes .debugClose s (fun t => t.key.debugOpen = false ∧ t.regs = s.dev.regs))

/-- Each command completes, for every operand and in every state where the device takes it. SAFETY_EVALUATION of a running device falls on the next multiple of 250
microseconds; without a confirmed check value every safe output is then off and every outlet's safety enable absent (R408, R418, R420). CAT1_OUTPUT_OFF: when both
channels have decided the category 1 stop of an ESTOP pair that is not in RUN, the outputs of its SOUT_MASK are off STOP1_T after the later decision; where neither has
decided it changes nothing (R414). SAFETY_CONFIRM is rejected and counted with NOT_OPEN outside the open parameters, and with CHECK_MISMATCH for any other value; the
value of SAF_CHECK, with the joint conditions met, confirms (R422, R423). SAFETY_HOST_RESET changes no register with RESET_SRC = PAIR; with HOST it clears a site stop
that stands in both channels, that of a start too, when no ESTOP pair is actuated (R417). SOUT_FAULT_CLEAR clears a latched FAULT only after two clean dark tests in a
row. SOUT_DARK_TEST changes nothing of an output without EN and TP_EN and without FAULT; one with both whose element A does not switch off latches STUCK_A with the other
element off; a clean test of an output with a latched FAULT counts, TP_PERIOD after the last (R419). -/
def Obligations.SafetyFunctions : Prop :=
  (∀ (s : State) (x : SafRead), taken (.safetyEvaluation x) s = true → s.dev.gen.phase = .running →
    Completes (.safetyEvaluation x) s (fun t => t.saf.lastEval = some (max s.dev.dt (s.dev.nextMultiple (Dev.us 250) s.dev.saf.lastEval)) ∧
      t.dt = max s.dev.dt (s.dev.nextMultiple (Dev.us 250) s.dev.saf.lastEval) ∧
      (s.dev.flag SAF_STATUS_CONFIRMED = false → t.get SAF_OUT_EN_EN = 0 ∧
        ∀ k : Nat, k < 4 → t.flag (SAF_SOUT_STATUS_ON k) = false))) ∧
  (∀ (s : State) (p : Fin 8) (d0 d1 : Nat), taken (.cat1OutputOff p) s = true → s.dev.pairFunc p = sfnEstop →
    (s.dev.chanPair 0 p).cat1At = some d0 → (s.dev.chanPair 1 p).cat1At = some d1 → (∃ c : Fin 2, s.dev.pairState c p ≠ spRun) →
    Completes (.cat1OutputOff p) s (fun t => t.dt = max s.dev.dt (max d0 d1 + Dev.ms (s.dev.get SAF_CFG_STOP1_T)) ∧
      ∀ k : Nat, k < 4 → (s.dev.get (SAF_PAIR_MASK_SOUT_MASK p)).testBit k = true → t.flag (SAF_SOUT_STATUS_ON k) = false)) ∧
  (∀ (s : State) (p : Fin 8), taken (.cat1OutputOff p) s = true → (∀ c : Fin 2, (s.dev.chanPair c p).cat1At = none) →
    Completes (.cat1OutputOff p) s (fun t => t = s.dev.start)) ∧
  (∀ (s : State) (v : Word), taken (.safetyConfirm v) s = true → s.dev.safOpen = false →
    Completes (.safetyConfirm v) s (fun t => .writeStatus ST_SAF_NOT_OPEN ∈ t.out ∧ t.flag SAF_STATUS_CONFIRMED = s.dev.flag SAF_STATUS_CONFIRMED ∧
      t.get SAF_REJECT_CNT_CNT = min (s.dev.get SAF_REJECT_CNT_CNT + 1) 65535)) ∧
  (∀ (s : State) (v : Word), taken (.safetyConfirm v) s = true → s.dev.safOpen = true → v ≠ s.dev.safCheck →
    Completes (.safetyConfirm v) s (fun t => .writeStatus ST_SAF_CHECK_MISMATCH ∈ t.out ∧ t.flag SAF_STATUS_CONFIRMED = s.dev.flag SAF_STATUS_CONFIRMED ∧
      t.get SAF_REJECT_CNT_CNT = min (s.dev.get SAF_REJECT_CNT_CNT + 1) 65535)) ∧
  (∀ (s : State), taken (.safetyConfirm s.dev.safCheck) s = true → s.dev.safOpen = true → s.dev.safJoint = true →
    Completes (.safetyConfirm s.dev.safCheck) s (fun t => .writeStatus ST_OK ∈ t.out ∧ t.flag SAF_STATUS_CONFIRMED = true ∧
      t.rd SAF_CONFIRM = s.dev.safCheck)) ∧
  (∀ s : State, taken .safetyHostReset s = true → s.dev.flag SAF_CFG_RESET_SRC = false →
    Completes .safetyHostReset s (fun t => t.regs = s.dev.regs ∧ t.saf = s.dev.saf ∧ .writeStatus ST_OK ∈ t.out)) ∧
  (∀ s : State, taken .safetyHostReset s = true → s.dev.flag SAF_CFG_RESET_SRC = true → (∀ c : Fin 2, (s.dev.chan c).stop ≠ 0) →
    (∀ (c : Fin 2) (p : Fin 8), s.dev.pairFunc p = sfnEstop → s.dev.pairActuated c p = false) →
    Completes .safetyHostReset s (fun t => t.get SAF_STATUS_SITE_STOP = 0 ∧ .writeStatus ST_OK ∈ t.out ∧
      (∀ c : Fin 2, (t.chan c).stop = 0 ∧ (t.chan c).boot = false) ∧
      ∀ (c : Fin 2) (p : Fin 8), s.dev.pairFunc p = sfnEstop → t.pairState c p = spRun)) ∧
  (∀ (s : State) (k : Fin 4), taken .soutFaultClear s = true → s.dev.flag (SAF_SOUT_STATUS_FAULT k) = true →
    Completes .soutFaultClear s (fun t => t.flag (SAF_SOUT_STATUS_FAULT k) = decide (s.dev.saf.clean[k] < 2))) ∧
  (∀ (s : State) (k : Fin 4) (x : SoutRead) (c : Option (Fin 4)), taken (.soutDarkTest k x c) s = true →
    s.dev.flag (SAF_SOUT_STATUS_FAULT k) = false → (s.dev.flag (SAF_SOUT_CFG_EN k) = false ∨ s.dev.flag (SAF_SOUT_CFG_TP_EN k) = false) →
    Completes (.soutDarkTest k x c) s (fun t => t = s.dev.start)) ∧
  (∀ (s : State) (k : Fin 4) (x : SoutRead), taken (.soutDarkTest k x none) s = true → s.dev.flag (SAF_SOUT_STATUS_FAULT k) = true →
    x.aOn = false → x.bOn = false → x.vaux = false → x.overload = false →
    Completes (.soutDarkTest k x none) s (fun t => t.saf.clean[k] = s.dev.saf.clean[k] + 1 ∧ t.regs = s.dev.regs ∧ t.saf.darkAt[k] = some t.dt ∧
      ∀ t0 : Nat, s.dev.saf.darkAt[k] = some t0 → t.dt = max s.dev.dt (t0 + Dev.ms (10 * s.dev.get SAF_CFG_TP_PERIOD)))) ∧
  (∀ (s : State) (k : Fin 4) (x : SoutRead), taken (.soutDarkTest k x none) s = true → s.dev.flag (SAF_SOUT_CFG_EN k) = true →
    s.dev.flag (SAF_SOUT_CFG_TP_EN k) = true → s.dev.flag (SAF_SOUT_STATUS_FAULT k) = false → x.aOn = true →
    Completes (.soutDarkTest k x none) s (fun t => t.flag (SAF_SOUT_STATUS_FAULT k) = true ∧ t.get (SAF_SOUT_STATUS_CAUSE k) = 1 ∧
      t.flag (SAF_SOUT_STATUS_ELEM_B k) = false ∧ t.saf.clean[k] = 0))

/-- ROOT_PLL_LOCK_LOSS, DIE_LINK_FAIL, WATCHDOG_EXPIRY, HOST_RESET, DIE_TEMP_SAMPLE, FW_ACTIVATE and FW_TRIAL_TIMEOUT each complete by taking the running device into reset
with their cause in CAUSE: CLOCK_FAIL, LINK_DIE (a hold window opens with it), WATCHDOG, HOST, DIE_OVERTEMP, FW_SWITCH, FW_REVERT (R22, R31, R163, R470, R509). A further
cause during a reset sets only its bit in ALSO. HOST_RESET does nothing without its key and RST bit, and is refused and counted with BUSY_LIVE while an outlet is
energised and FORCE is clear (R516). SRAM_ECC_ERROR: a single-bit error is counted; a double-bit one in a fatal region (log entry 2 names them) resets with ECC_FATAL; in
any other it is counted in ECC_DOUBLE and the descriptor in execution that read the word completes with a code other than OK, itself a free value (R36, log entry 3).
DIE_TEMP_SAMPLE without 10 ms at the limit only measures, at the next multiple of 1 ms (log entry 4), and DIE_WARM says that a die is above WARN (R163);
DIE_OVERTEMP_RELEASE lets the dies hold no reset. RTC_RATE_CHECK takes the measured rate, and above 500 ppm sets RTC_FAULT and declares legal time invalid (R30).
FW_ACTIVATE refused by a condition of R470 only completes with that code; accepted, the other bank is active and on trial; the trial's end at 600 s turns back to the
other bank (R470). -/
def Obligations.ResetCauses : Prop :=
  (∀ s : State, s.dev.gen.phase = .running → Completes .rootPllLockLoss s (fun t => t.gen.phase = .reset .clockFail ∧
    t.get GEN_RESET_CAUSE_CAUSE = 5 ∧ t.dt = s.dev.dt)) ∧
  (∀ s : State, s.dev.gen.phase = .running → Completes .dieLinkFail s (fun t => t.gen.phase = .reset .linkDie ∧ t.get GEN_RESET_CAUSE_CAUSE = 7 ∧
    (s.dev.lsw.holdAt = none → t.flag LSW_STATUS_HOLD = true ∧ t.lsw.holdAt = some s.dev.dt) ∧ t.dt = s.dev.dt)) ∧
  (∀ (s : State) (c : ResetCause), s.dev.gen.phase = .reset c → Completes .dieLinkFail s (fun t => t.gen.phase = .reset c ∧
    (t.get GEN_RESET_CAUSE_ALSO).testBit 7 = true ∧ t.get GEN_RESET_CAUSE_CAUSE = s.dev.get GEN_RESET_CAUSE_CAUSE)) ∧
  (∀ s : State, taken .watchdogExpiry s = true → Completes .watchdogExpiry s (fun t => t.gen.phase = .reset .watchdog ∧ t.get GEN_RESET_CAUSE_CAUSE = 3)) ∧
  (∀ (s : State) (v : Word), taken (.hostReset v) s = true → v.toNat / 2 ^ 24 ≠ 0xA5 ∨ v.toNat.testBit 0 = false →
    Completes (.hostReset v) s (fun t => t = s.dev.start)) ∧
  (∀ (s : State) (v : Word), taken (.hostReset v) s = true → v.toNat / 2 ^ 24 = 0xA5 → v.toNat.testBit 0 = true → v.toNat.testBit 1 = false →
    s.dev.get VSS_STATUS_ENERGISED ≠ 0 →
    Completes (.hostReset v) s (fun t => t.gen.phase = .running ∧ .writeStatus ST_BUSY_LIVE ∈ t.out ∧
      t.get GEN_REJECT_CNT_CNT = min (s.dev.get GEN_REJECT_CNT_CNT + 1) 65535)) ∧
  (∀ (s : State) (v : Word), taken (.hostReset v) s = true → v.toNat / 2 ^ 24 = 0xA5 → v.toNat.testBit 0 = true →
    v.toNat.testBit 1 = true ∨ s.dev.get VSS_STATUS_ENERGISED = 0 →
    Completes (.hostReset v) s (fun t => t.gen.phase = .reset .host ∧ t.get GEN_RESET_CAUSE_CAUSE = 4)) ∧
  (∀ (s : State) (r : Fin 15) (op : Option Src), taken (.sramEccError false r op) s = true →
    Completes (.sramEccError false r op) s (fun t => t.get GEN_ECC_SINGLE = min (s.dev.get GEN_ECC_SINGLE + 1) 65535 ∧ t.gen.phase = .running)) ∧
  (∀ (s : State) (r : Fin 15) (op : Option Src), taken (.sramEccError true r op) s = true → Dev.sramFatal r = true →
    Completes (.sramEccError true r op) s (fun t => t.gen.phase = .reset .eccFatal ∧ t.get GEN_RESET_CAUSE_CAUSE = 6)) ∧
  (∀ (s : State) (r : Fin 15) (op : Option Src), taken (.sramEccError true r op) s = true → Dev.sramFatal r = false →
    Completes (.sramEccError true r op) s (fun t => t.gen.phase = .running ∧ t.get GEN_ECC_DOUBLE = min (s.dev.get GEN_ECC_DOUBLE + 1) 65535 ∧
      ∀ src : Src, op = some src → s.dev.longOf src = none → ∀ n tag, src = .ring n tag → (s.dev.execOf n tag).isSome = true →
        ∃ d : Dev, ∃ c : Code, c ≠ ST_OK ∧ t = d.complete src c)) ∧
  (∀ (s : State) (a b c : BitVec 16), taken (.dieTempSample a b c) s = true → (s.dev.dieSample [a, b, c]).2 = true →
    Completes (.dieTempSample a b c) s (fun t => t.gen.phase = .reset .dieOvertemp ∧ t.get GEN_RESET_CAUSE_CAUSE = 8 ∧ t.thm.dieHeld = true)) ∧
  (∀ (s : State) (a b c : BitVec 16), taken (.dieTempSample a b c) s = true → (s.dev.dieSample [a, b, c]).2 = false →
    Completes (.dieTempSample a b c) s (fun t => t.gen.phase = .running ∧
      t.dt = max s.dev.dt (s.dev.nextMultiple (Dev.ms 1) (s.dev.ticked .dieTemp)) ∧
      (t.flag THM_STATUS_DIE_WARM = true ↔
        ∃ x : BitVec 16, x ∈ [a, b, c] ∧ (s.dev.get THM_DIE_CFG_WARN : Int) * 100 < x.toInt))) ∧
  (∀ s : State, Completes .dieOvertempRelease s (fun t => t.thm.dieHeld = false ∧ t.regs = s.dev.regs)) ∧
  (∀ (s : State) (p : Int), taken (.rtcRateCheck p) s = true →
    Completes (.rtcRateCheck p) s (fun t => t.gen.rtcPpb = max (-999999999) p ∧
      if p.natAbs ≤ 500000 then t.regs = s.dev.regs else t.flag GEN_STATUS_RTC_FAULT = true ∧ t.utcValid = false)) ∧
  (∀ (s : State) (src : Src) (c : Code), taken (.fwActivate src) s = true → s.dev.activateBad = some c →
    Completes (.fwActivate src) s (fun t => t = s.dev.start.complete src c)) ∧
  (∀ (s : State) (src : Src), taken (.fwActivate src) s = true → s.dev.activateBad = none →
    Completes (.fwActivate src) s (fun t => t.gen.phase = .reset .fwSwitch ∧ t.get GEN_RESET_CAUSE_CAUSE = 9 ∧ t.get KEY_FW_ACTIVE = s.dev.otherBank ∧
      t.flag KEY_FW_TRIAL = true)) ∧
  (∀ (s : State) (t0 : Nat), taken .fwTrialTimeout s = true → s.dev.key.trialSince = some t0 → s.dev.flag KEY_FW_TRIAL = true →
    Completes .fwTrialTimeout s (fun t => t.gen.phase = .reset .fwRevert ∧ t.get GEN_RESET_CAUSE_CAUSE = 10 ∧ t.get KEY_FW_ACTIVE = s.dev.otherBank ∧
      t.flag KEY_FW_TRIAL = false ∧ t.dt = max s.dev.dt (t0 + Dev.sec 600)))

/-- RESET_PIN_ASSERT of the running device resets with cause PIN while the pin is armed, and does nothing while it is not; RESET_PIN_RELEASE shows the high level and disarms
the pin; RESET_PIN_ARM arms it 100 ms after that edge, when it is high and not armed; RESET_PIN_IGNORED only counts while it is not armed (R510). BROWN_OUT of the running
device resets with its cause and switches VIO33 off; VAUX_REVERSE and GROUND_LOST stop a device that has its supply; VAUX_REMOVED stops it and clears the thermal latches,
the clamp locks and the hard trips (R438, R532, R533). HIBERNATE_REQUEST is rejected and counted with BAD_PARAM without a wake source and with BUSY_LIVE where a condition
of entry fails; otherwise HIBERNATE is entered, the working copies of the keys are erased, GEN_WAKE_CFG stands, and VIO33 is reduced, or off where the board draws more
than it gives then, which the command's operand says (R516, R518, R533). -/
def Obligations.PinAndSupply : Prop :=
  (∀ s : State, s.dev.flag GEN_RST_PIN_ARMED = true → s.dev.gen.phase = .running →
    Completes .resetPinAssert s (fun t => t.gen.phase = .reset .pin ∧ t.get GEN_RESET_CAUSE_CAUSE = 2 ∧ t.gen.pinLow = true ∧ t.gen.pinLowSince = s.dev.dt)) ∧
  (∀ s : State, s.dev.flag GEN_RST_PIN_ARMED = false → Completes .resetPinAssert s (fun t => t = s.dev.start)) ∧
  (∀ s : State, Completes .resetPinRelease s (fun t => t.flag GEN_RST_PIN_LEVEL = true ∧ t.flag GEN_RST_PIN_ARMED = false ∧ t.gen.pinLow = false ∧
    t.gen.pinHighSince = s.dev.dt)) ∧
  (∀ s : State, s.dev.flag GEN_RST_PIN_ARMED = false → s.dev.gen.pinLow = false → s.dev.flag GEN_RST_PIN_LEVEL = true →
    Completes .resetPinArm s (fun t => t.flag GEN_RST_PIN_ARMED = true ∧ t.dt = max s.dev.dt (s.dev.gen.pinHighSince + Dev.ms 100))) ∧
  (∀ s : State, s.dev.flag GEN_RST_PIN_ARMED = false →
    Completes .resetPinIgnored s (fun t => t.get GEN_RST_PIN_IGNORED = min (s.dev.get GEN_RST_PIN_IGNORED + 1) 65535 ∧ t.gen.phase = s.dev.gen.phase)) ∧
  (∀ s : State, s.dev.gen.phase = .running →
    Completes .brownOut s (fun t => t.gen.phase = .reset .brownOut ∧ t.get GEN_RESET_CAUSE_CAUSE = 1 ∧ t.get LSW_STATUS_SUPPLY = 3 ∧ t.lsw.vio = .off)) ∧
  (∀ s : State, Completes .vauxRemoved s (fun t => t.gen.phase = .off ∧ t.get THM_STATUS_HARD = 0 ∧
    ∀ n : Fin 20, t.flag (LSW_CH_STATUS_LATCH n) = false ∧ t.flag (LSW_CH_STATUS_LOCKED_CLAMP n) = false)) ∧
  (∀ s : State, s.dev.gen.phase ≠ .off → Completes .vauxReverse s (fun t => t.gen.phase = .off ∧ t.lsw.vio = .off ∧ t.get THM_STATUS_HARD = 0)) ∧
  (∀ s : State, s.dev.gen.phase ≠ .off → Completes .groundLost s (fun t => t.gen.phase = .off ∧ t.lsw.vio = .off ∧ t.get THM_STATUS_HARD = 0)) ∧
  (∀ (s : State) (a b v : Bool), taken (.hibernateRequest a b v) s = true → s.dev.rd GEN_WAKE_CFG = 0 →
    Completes (.hibernateRequest a b v) s (fun t => t.gen.phase = .running ∧ .writeStatus ST_BAD_PARAM ∈ t.out ∧
      t.get GEN_REJECT_CNT_CNT = min (s.dev.get GEN_REJECT_CNT_CNT + 1) 65535)) ∧
  (∀ (s : State) (a b v : Bool), taken (.hibernateRequest a b v) s = true → s.dev.rd GEN_WAKE_CFG ≠ 0 → s.dev.modeStill = false →
    Completes (.hibernateRequest a b v) s (fun t => t.gen.phase = .running ∧ .writeStatus ST_BUSY_LIVE ∈ t.out ∧
      t.get GEN_REJECT_CNT_CNT = min (s.dev.get GEN_REJECT_CNT_CNT + 1) 65535)) ∧
  (∀ (s : State) (a b v : Bool), taken (.hibernateRequest a b v) s = true → s.dev.rd GEN_WAKE_CFG ≠ 0 → s.dev.modeStill = true →
    Completes (.hibernateRequest a b v) s (fun t => t.gen.phase = .hibernate ∧ t.key.work = Vector.replicate 16 none ∧ t.gen.hibDt = s.dev.dt ∧ t.lsw.vio = (if v = true then .off else .reduced) ∧
      t.rd GEN_WAKE_CFG = s.dev.rd GEN_WAKE_CFG))

/-- POWER_ON_RESET of a device without supply, and of one in a brown-out, with RESET_N high completes host-ready and running, with DT at most 388 ms after it began anew at 0,
the run epoch incremented and CAUSE showing POWER_ON or BROWN_OUT; with RESET_N low a device without supply stays in reset with ALSO bit PIN and DT 0; a running device
does nothing (R32, R507, R510). RESET_RELEASE completes a WATCHDOG reset that nothing holds at most 388 ms later, DT and run epoch going on and the pin disarmed, and a
CLOCK_FAIL reset with DT anew and the run epoch incremented; a hot die holds any reset (R163). RESET_PIN_STUCK of a PIN reset whose pin is low starts the device with
STUCK set and the pin disarmed, in SAFE-HOLD with RST_STUCK unless it is in FW_BAD (R42, R513). HIBERNATE_WAKE by an enabled source ends running with WOKEN set, the
source in GEN_WAKE_CAUSE, DT on from its value at entry by at least the whole 5 ns of the duration, and the run epoch kept; by a source that is not enabled, or outside
HIBERNATE, nothing happens (R519). SLN_WAKE_FRAME from a node in the table wakes a device whose SLN source is enabled; from any other node it does nothing (R258). The
start's length within its bounds is a free value (log entry 3). -/
def Obligations.StartsAndWakes : Prop :=
  (∀ (s : State) (f : StartFacts), s.dev.gen.phase = .off → f.pinLow = false →
    Completes (.powerOnReset f) s (fun t => t.gen.phase = .running ∧ t.flag GEN_STATUS_HOST_READY = true ∧ t.get GEN_RESET_CAUSE_CAUSE = 0 ∧
      t.rd GEN_EPOCH = s.dev.rd GEN_EPOCH + 1 ∧ t.dt ≤ Dev.ms 388)) ∧
  (∀ (s : State) (f : StartFacts), s.dev.gen.phase = .reset .brownOut → s.dev.get GEN_RESET_CAUSE_CAUSE = 1 → f.pinLow = false →
    Completes (.powerOnReset f) s (fun t => t.gen.phase = .running ∧ t.flag GEN_STATUS_HOST_READY = true ∧ t.get GEN_RESET_CAUSE_CAUSE = 1 ∧
      t.rd GEN_EPOCH = s.dev.rd GEN_EPOCH + 1 ∧ t.dt ≤ Dev.ms 388)) ∧
  (∀ (s : State) (f : StartFacts), s.dev.gen.phase = .off → f.pinLow = true →
    Completes (.powerOnReset f) s (fun t => t.gen.phase = .reset .powerOn ∧ (t.get GEN_RESET_CAUSE_ALSO).testBit 2 = true ∧ t.dt = 0 ∧
      t.rd GEN_EPOCH = s.dev.rd GEN_EPOCH + 1)) ∧
  (∀ (s : State) (f : StartFacts), s.dev.gen.phase = .running → Completes (.powerOnReset f) s (fun t => t = s.dev.start)) ∧
  (∀ (s : State) (f : StartFacts), s.dev.gen.phase = .reset .watchdog → s.dev.resetHeld = false →
    Completes (.resetRelease f) s (fun t => t.gen.phase = .running ∧ t.flag GEN_STATUS_HOST_READY = true ∧ t.flag GEN_RST_PIN_ARMED = false ∧
      s.dev.dt ≤ t.dt ∧ t.dt ≤ s.dev.dt + Dev.ms 388 ∧ t.rd GEN_EPOCH = s.dev.rd GEN_EPOCH)) ∧
  (∀ (s : State) (f : StartFacts), s.dev.gen.phase = .reset .clockFail → s.dev.resetHeld = false →
    Completes (.resetRelease f) s (fun t => t.gen.phase = .running ∧ t.dt ≤ Dev.ms 388 ∧ t.rd GEN_EPOCH = s.dev.rd GEN_EPOCH + 1)) ∧
  (∀ (s : State) (f : StartFacts) (c : ResetCause), s.dev.gen.phase = .reset c → s.dev.thm.dieHeld = true →
    Completes (.resetRelease f) s (fun t => t = s.dev.start)) ∧
  (∀ (s : State) (f : StartFacts), s.dev.gen.phase = .reset .pin → s.dev.gen.pinLow = true → s.dev.thm.dieHeld = false →
    Completes (.resetPinStuck f) s (fun t => t.gen.phase = .running ∧ t.flag GEN_RST_PIN_STUCK = true ∧ t.flag GEN_RST_PIN_ARMED = false ∧
      (t.flag GEN_LIFECYCLE_CAUSE_FW = false → t.flag GEN_LIFECYCLE_CAUSE_RST = true ∧ t.flag GEN_LIFECYCLE_SAFE_HOLD = true))) ∧
  (∀ (s : State) (w : WakeSource) (d : Nat) (f : StartFacts), s.dev.gen.phase = .hibernate → (s.dev.rd GEN_WAKE_CFG).getLsbD (Dev.wakeBit w) = true →
    Completes (.hibernateWake w d f) s (fun t => t.gen.phase = .running ∧ t.flag GEN_STATUS_WOKEN = true ∧ t.rd GEN_EPOCH = s.dev.rd GEN_EPOCH ∧
      s.dev.dt + d / 5 * 5 ≤ t.dt ∧ t.rd GEN_WAKE_CAUSE = BitVec.ofNat 32 (2 ^ Dev.wakeBit w))) ∧
  (∀ (s : State) (w : WakeSource) (d : Nat) (f : StartFacts), s.dev.gen.phase ≠ .hibernate ∨ (s.dev.rd GEN_WAKE_CFG).getLsbD (Dev.wakeBit w) = false →
    Completes (.hibernateWake w d f) s (fun t => t = s.dev.start)) ∧
  (∀ (s : State) (x : Id64) (d : Nat) (f : StartFacts), (∀ i : Fin 250, s.dev.slnState i = 0 ∨ s.dev.slnId i ≠ x) →
    Completes (.slnWakeFrame x d f) s (fun t => t = s.dev.start)) ∧
  (∀ (s : State) (i : Fin 250) (d : Nat) (f : StartFacts), s.dev.gen.phase = .hibernate → s.dev.slnState i ≠ 0 → (s.dev.rd GEN_WAKE_CFG).getLsbD 2 = true →
    Completes (.slnWakeFrame (s.dev.slnId i) d f) s (fun t => t.gen.phase = .running ∧ t.flag GEN_STATUS_WOKEN = true ∧ t.rd GEN_WAKE_CAUSE = 4))

/-- For every command and state: the step of the state with that command put at the front of its queue is exec of the command on the state with the queue's rest. That
commands wait first in, first out, is the model's reading of a device driven by commands (log entry 1). -/
def Obligations.StepRunsTheFrontCommand : Prop :=
  ∀ (c : Instr) (rest : List Instr) (s : State), step { s with pending := c :: rest } = exec c { s with pending := rest }

/-- With no command waiting one CTL tick of 5 ns passes, which is the model's choice (log entry 5): DT advances in a running device and in reset, and stands still in
HIBERNATE and without supply (R17, R32); no register changes. -/
def Obligations.IdleTick : Prop :=
  (∀ s : State, s.pending = [] → ∃ t, step s = .next t ∧ t.pending = [] ∧ t.dev.regs = s.dev.regs ∧ t.dev.gen = s.dev.gen) ∧
  (∀ s : State, s.pending = [] → s.dev.gen.phase = .running → ∃ t, step s = .next t ∧ t.dev.dt = s.dev.dt + 5) ∧
  (∀ (s : State) (c : ResetCause), s.pending = [] → s.dev.gen.phase = .reset c → ∃ t, step s = .next t ∧ t.dev.dt = s.dev.dt + 5) ∧
  (∀ s : State, s.pending = [] → s.dev.gen.phase = .hibernate ∨ s.dev.gen.phase = .off → ∃ t, step s = .next t ∧ t.dev.dt = s.dev.dt)

/-- No command stops the device: every command of the table answers a next state from every state, and leaves the commands that wait as they are, so a queue of any length is
worked off in as many steps as it is long. -/
def Obligations.EveryCommandCompletes : Prop :=
  (∀ (c : Instr) (s : State), ∃ t, exec c s = .next t ∧ t.pending = s.pending) ∧
  (∀ s : State, ∃ t, Sys2Proof.core.run s.pending.length s = .next t ∧ Machine.State.pending t = [])

/-- A command that the device does not take still completes, and does only this: a register access is answered Unsupported Request before host-ready and has no effect
afterwards (its block is not served in FW_BAD); a descriptor or an object request of a device past host-ready completes with NOT_IN_CHANNEL, where its channel or FW_BAD
does not serve it, and before host-ready has no effect; what belongs to a function that does not run has no effect (R477, R499, R513). -/
def Obligations.ClosedGates : Prop :=
  (∀ (c : Instr) (s : State), taken c s = false → exec c s = .next { s with dev := (gateOf c).shut s.dev.start }) ∧
  (∀ (s : State) (b : Nat), (Gate.reg b).shut s.dev = if s.dev.live = true then s.dev else s.dev.emit .unsupported) ∧
  (∀ (s : State) (src : Src) (u f : Bool), (Gate.host src u f).shut s.dev = if s.dev.live = true then s.dev.complete src ST_HIF_NOT_IN_CHANNEL else s.dev) ∧
  (∀ (s : State) (o : ObjSrc), (Gate.obj o).shut s.dev = if s.dev.live = true then s.dev.objReply o ST_HIF_NOT_IN_CHANNEL else s.dev) ∧
  (∀ (s : State) (g : Gate), g = .always ∨ g = .live ∨ g = .run ∨ g = .power → g.shut s.dev = s.dev)

/-- Until host-ready (see Start-up) PCIE_EARLY_REQUEST of a configuration request is answered with Configuration Request Retry Status, and every read and write of BAR0 and
BAR2 with Unsupported Request; nothing else of the device changes by it. From host-ready on PCIE_EARLY_REQUEST does nothing. -/
def Obligations.BeforeHostReady : Prop :=
  (∀ s : State, s.dev.live = false → Completes (.pcieEarlyRequest true) s (fun t => t = s.dev.start.emit .retryStatus)) ∧
  (∀ s : State, s.dev.live = false → Completes (.pcieEarlyRequest false) s (fun t => t = s.dev.start.emit .unsupported)) ∧
  (∀ (c : Instr) (s : State) (b : Nat), gateOf c = .reg b → s.dev.live = false → Completes c s (fun t => t = s.dev.start.emit .unsupported)) ∧
  (∀ (s : State) (off : BitVec 21), s.dev.live = false → Completes (.reg64LowRead off) s (fun t => t = s.dev.start.emit .unsupported)) ∧
  (∀ (s : State) (bar : Bar) (off : BitVec 21), s.dev.live = false → Completes (.clearOnReadRead bar off) s (fun t => t = s.dev.start.emit .unsupported)) ∧
  (∀ (c : Bool) (s : State), s.dev.live = true → Completes (.pcieEarlyRequest c) s (fun t => t = s.dev.start))

/-- What every step keeps, whatever the command and the state: the register file stays in its canonical form (R12), the wayledger holds at most 16 384 entries and 8192 staged
ones (R520, R521), and the alert store at most 1024 (R494). -/
def Obligations.StoresStayWithinBounds : Prop :=
  ∀ s t : State, s.dev.Fits → step s = .next t → t.dev.Fits

/-- The device before its first power-on has no supply and is within its bounds, with DT at 0, no command waiting, no descriptor and no long operation in execution, no ring
enabled, no leg armed, no outlet energised, no slot closed, no object association, the wayledger empty, and every register at its reset value (R14, R32, R40, R84, R494,
R520). That it begins in MANUFACTURE and without a root secret is the model's choice (log entry 2). -/
def Obligations.ResetState : Prop :=
  State.reset.dev.Fits ∧
  State.reset.pending = [] ∧
  State.reset.dev.dt = 0 ∧
  State.reset.dev.gen.phase = .off ∧
  State.reset.dev.ldg.entries = [] ∧
  State.reset.dev.bil.assocs = [] ∧
  State.reset.dev.hif.exec = [] ∧
  State.reset.dev.hif.long = [] ∧
  (∀ n : Fin 256, State.reset.dev.flag (HIF_RING_CFG_EN n) = false) ∧
  State.reset.dev.get EDG_STATUS_ARMED_LEGS = 0 ∧
  State.reset.dev.get VSS_STATUS_ENERGISED = 0 ∧
  State.reset.dev.get CLE_STATUS_CLOSED = 0 ∧
  State.reset.dev.regs = [] ∧
  (∀ a : Nat, State.reset.dev.rd a = resetWord a) ∧
  State.reset.dev.key.root = none ∧
  State.reset.dev.life = lfManufacture

/-- Outside the parts of the device and the registers that a command's frame names, every part is the same after the command and every register reads as before, and the
commands that wait are untouched. The commands without a frame are the accesses to whatever register is named (a register write or read, REG_READ and REG_WRITE, and the
responses and timeouts of node transactions on which a REG_WRITE waits) and those that can begin or end a reset or a start (R8, R9, R99, R509). -/
def Obligations.CommandFrames : Prop :=
  ∀ (c : Instr) (f : Frame) (s t : State), frameOf c = some f → exec c s = .next t → t.pending = s.pending ∧
  f.holds s.dev t.dev

/-- A step that takes a command leaves DT where it was or takes it forward; DT goes back only where POR release restarts it, so the statement is of every command but
POWER_ON_RESET, RESET_RELEASE and RESET_PIN_STUCK (R32, R509, R510). -/
def Obligations.DeviceTimeRuns : Prop :=
  ∀ (c : Instr) (rest : List Instr) (s t : State), s.pending = c :: rest → step s = .next t → (∀ f, c ≠ .powerOnReset f) → (∀ f, c ≠ .resetRelease f) →
    (∀ f, c ≠ .resetPinStuck f) → s.dev.dt ≤ t.dev.dt

/-- A read of an unassigned address returns 0 and a write to one has no effect; the bits of a register that no field covers read as 0, here for every word but the high word
of a 64-bit pair, which reads as captured (R11, R12). -/
def Obligations.UnassignedAddresses : Prop :=
  (∀ (s : State) (off : BitVec 21), s.dev.live = true → off.toNat % 4 = 0 → rowAt off.toNat = none →
    Completes (.clearOnReadRead .bar0 off) s (fun t => .readData 0 ∈ t.out ∧ t.regs = s.dev.regs)) ∧
  (∀ (s : State) (off : BitVec 21) (v : Word), taken (.registerWrite off v) s = true → rowAt off.toNat = none →
    Completes (.registerWrite off v) s (fun t => t.regs = s.dev.regs ∧ .writeStatus ST_OK ∈ t.out)) ∧
  (∀ (s : State) (off : BitVec 21) (r : RegRow) (i : Nat), s.dev.live = true → s.dev.blockServed (off.toNat / 65536) = true → off.toNat % 4 = 0 →
    rowAt off.toNat = some r → s.dev.halfOf r off.toNat ≠ 2 → (∀ f ∈ r.fields, i < f.lo ∨ f.hi < i) →
    Completes (.clearOnReadRead .bar0 off) s (fun t => ∃ v : Word, .readData v ∈ t.out ∧ v.getLsbD i = false))

/-- A SUBMIT ring names its COMPLETE ring in CQ. RING_ENABLE of a SUBMIT ring whose CQ does not name an enabled COMPLETE ring is refused with BAD_PARAM; otherwise a ring that
belongs to no CAN controller is enabled, whichever other SUBMIT rings name the same CQ. RING_DISABLE of an enabled COMPLETE ring that an enabled SUBMIT ring names is
rejected with BUSY_LIVE and counted; of any other ring it leaves the ring disabled. An enabled COMPLETE ring starts empty at index 0 with its vector armed and the link in
use. While the COMPLETE ring is full, DESCRIPTOR_FETCH takes no descriptor from a SUBMIT ring bound to it. -/
def Obligations.RingEnableRules : Prop :=
  (∀ (s : State) (n : Fin 256), taken (.ringEnable n) s = true → s.dev.flag (HIF_RING_CFG_EN n) = false →
    s.dev.get (HIF_RING_CFG_KIND n) = kindSubmit →
    s.dev.flag (HIF_RING_CFG_EN (s.dev.get (HIF_RING_CFG_CQ n))) = false ∨ s.dev.get (HIF_RING_CFG_KIND (s.dev.get (HIF_RING_CFG_CQ n))) ≠ kindComplete →
    Completes (.ringEnable n) s (fun t => t.regs = s.dev.regs ∧ .writeStatus ST_BAD_PARAM ∈ t.out)) ∧
  (∀ (s : State) (n : Fin 256), taken (.ringEnable n) s = true → s.dev.flag (HIF_RING_CFG_EN n) = false →
    s.dev.get (HIF_RING_CFG_KIND n) = kindSubmit → s.dev.get (HIF_RING_CFG_OWNER n) = 0 →
    s.dev.flag (HIF_RING_CFG_EN (s.dev.get (HIF_RING_CFG_CQ n))) = true → s.dev.get (HIF_RING_CFG_KIND (s.dev.get (HIF_RING_CFG_CQ n))) = kindComplete →
    Completes (.ringEnable n) s (fun t => t.flag (HIF_RING_CFG_EN n) = true ∧ t.get (HIF_RING_STATUS_STATE n) = 1 ∧ t.hif.rings[n].hostIdx = 0)) ∧
  (∀ (s : State) (n m : Fin 256), taken (.ringDisable n) s = true → s.dev.flag (HIF_RING_CFG_EN n) = true → s.dev.get (HIF_RING_CFG_KIND n) = kindComplete →
    s.dev.flag (HIF_RING_CFG_EN m) = true → s.dev.get (HIF_RING_CFG_KIND m) = kindSubmit → s.dev.get (HIF_RING_CFG_CQ m) = n.val →
    Completes (.ringDisable n) s (fun t => t.flag (HIF_RING_CFG_EN n) = true ∧ .writeStatus ST_BUSY_LIVE ∈ t.out ∧
      t.get HIF_REJECT_CNT_CNT = min (s.dev.get HIF_REJECT_CNT_CNT + 1) 65535)) ∧
  (∀ (s : State) (n : Fin 256), taken (.ringDisable n) s = true → s.dev.get (HIF_RING_CFG_KIND n) ≠ kindComplete ∨
      (∀ m : Fin 256, s.dev.flag (HIF_RING_CFG_EN m) = true → s.dev.get (HIF_RING_CFG_KIND m) = kindSubmit → s.dev.get (HIF_RING_CFG_CQ m) ≠ n.val) →
    Completes (.ringDisable n) s (fun t => t.flag (HIF_RING_CFG_EN n) = false ∧ t.get (HIF_RING_STATUS_STATE n) = 0)) ∧
  (∀ (s : State) (n : Fin 256), taken (.ringEnable n) s = true → s.dev.flag (HIF_RING_CFG_EN n) = false →
    s.dev.get (HIF_RING_CFG_KIND n) = kindComplete → s.dev.hif.rings[n].staged = [] →
    Completes (.ringEnable n) s (fun t => t.flag (HIF_RING_CFG_EN n) = true ∧ t.get (HIF_RING_STATUS_STATE n) = 1 ∧ t.get (HIF_RING_STATUS_INDEX n) = 0 ∧
      t.hif.rings[n].hostIdx = 0 ∧ t.hif.rings[n].written = [] ∧ t.hif.vectors[s.dev.ringVector n] = ⟨true, 0, none⟩ ∧ t.flag HIF_STATUS_LINK_UP = true)) ∧
  (∀ (s : State) (n : Fin 256) (part : List (Fin 256)) (es : List (List Byte)), taken (.descriptorFetch n part es) s = true →
    s.dev.ringHasRoom (Fin.ofNat 256 (s.dev.get (HIF_RING_CFG_CQ n))) = false →
    Completes (.descriptorFetch n part es) s (fun t => t = s.dev.start))

/-- REG_WRITE of no pair, or of more than 256, only completes with BAD_PARAM. Otherwise it applies its pairs in order, each as a register write: with d j the device after the
first j pairs, all of them applied, it completes OK with RESULT the number of pairs; where pair k is the first that is rejected or refused, it completes with that write's
code and RESULT k, and the pairs before it keep their effect; where pair k asks for the arm of a piste leg, which the node's answer decides (R99), it waits for that
answer with the pairs after it. Addresses lie in BAR0 and no pair takes the device into a reset. Over the UART it completes NOT_IN_CHANNEL (R488, R499). -/
def Obligations.RegisterWriteDescriptor : Prop :=
  (∀ (s : State) (src : Src) (l : List (Word × Word)), taken (.regWrite src l) s = true → l = [] ∨ 256 < l.length →
    Completes (.regWrite src l) s (fun t => t = s.dev.start.complete src ST_BAD_PARAM)) ∧
  (∀ (s : State) (src : Src) (l : List (Word × Word)) (d : Nat → Dev) (k : Nat), taken (.regWrite src l) s = true → l ≠ [] → l.length ≤ 256 → k = l.length →
    (∀ p ∈ l, Dev.inBar0 p.1 = true) →
    d 0 = s.dev.start → (∀ j : Nat, j < k → (d j).live = true ∧ ((d j).regWriteCode (l.getD j (0, 0)).1.toNat (l.getD j (0, 0)).2).2 = none ∧
      Dev.armAsked (d j) (d (j + 1)) (l.getD j (0, 0)).1.toNat = none ∧
      d (j + 1) = ((d j).regWriteCode (l.getD j (0, 0)).1.toNat (l.getD j (0, 0)).2).1) → (d k).live = true →
    Completes (.regWrite src l) s (fun t => t = (d k).complete src ST_OK (BitVec.ofNat 32 k))) ∧
  (∀ (s : State) (src : Src) (l : List (Word × Word)) (d : Nat → Dev) (k : Nat) (c : Code), taken (.regWrite src l) s = true → l.length ≤ 256 → k < l.length →
    (∀ p ∈ l, Dev.inBar0 p.1 = true) →
    d 0 = s.dev.start → (∀ j : Nat, j < k → (d j).live = true ∧ ((d j).regWriteCode (l.getD j (0, 0)).1.toNat (l.getD j (0, 0)).2).2 = none ∧
      Dev.armAsked (d j) (d (j + 1)) (l.getD j (0, 0)).1.toNat = none ∧
      d (j + 1) = ((d j).regWriteCode (l.getD j (0, 0)).1.toNat (l.getD j (0, 0)).2).1) → (d k).live = true →
    ((d k).regWriteCode (l.getD k (0, 0)).1.toNat (l.getD k (0, 0)).2).2 = some c →
    ((d k).regWriteCode (l.getD k (0, 0)).1.toNat (l.getD k (0, 0)).2).1.live = true →
    Completes (.regWrite src l) s (fun t =>
      t = ((d k).regWriteCode (l.getD k (0, 0)).1.toNat (l.getD k (0, 0)).2).1.complete src c (BitVec.ofNat 32 k))) ∧
  (∀ (s : State) (src : Src) (l : List (Word × Word)) (d : Nat → Dev) (k : Nat) (i : Fin 408), taken (.regWrite src l) s = true → l.length ≤ 256 →
    k < l.length → (∀ p ∈ l, Dev.inBar0 p.1 = true) →
    d 0 = s.dev.start → (∀ j : Nat, j < k → (d j).live = true ∧ ((d j).regWriteCode (l.getD j (0, 0)).1.toNat (l.getD j (0, 0)).2).2 = none ∧
      Dev.armAsked (d j) (d (j + 1)) (l.getD j (0, 0)).1.toNat = none ∧
      d (j + 1) = ((d j).regWriteCode (l.getD j (0, 0)).1.toNat (l.getD j (0, 0)).2).1) → (d k).live = true →
    ((d k).regWriteCode (l.getD k (0, 0)).1.toNat (l.getD k (0, 0)).2).2 = none →
    Dev.armAsked (d k) ((d k).regWriteCode (l.getD k (0, 0)).1.toNat (l.getD k (0, 0)).2).1 (l.getD k (0, 0)).1.toNat = some i →
    Completes (.regWrite src l) s (fun t => t.regs = ((d k).regWriteCode (l.getD k (0, 0)).1.toNat (l.getD k (0, 0)).2).1.regs ∧
      ⟨i, src, k, l.drop (k + 1), none⟩ ∈ t.hif.armWait)) ∧
  (∀ (s : State) (src : Src) (l : List (Word × Word)), taken (.regWrite src l) s = false → s.dev.live = true →
    Completes (.regWrite src l) s (fun t => t = s.dev.start.complete src ST_HIF_NOT_IN_CHANNEL))
end

