-- ==== Sys2Proof/Laws/Regs.lean ====
section
/-! SUPPORT. Laws of the register file: what a write leaves to a later read, of the same word and of any other, and that every
write keeps the canonical form. -/

namespace Sys2Proof.Machine

theorem regGet_erase_same (m : List (Nat × Word)) (off : Nat) : regGet (regErase m off) off = none := by
  induction m with
  | nil => rfl
  | cons p rest ih =>
    by_cases h : p.1 = off
    · simpa [regErase, h] using ih
    · simpa [regErase, h, regGet] using ih

theorem regGet_erase_other (m : List (Nat × Word)) {off a : Nat} (ne : a ≠ off) :
    regGet (regErase m off) a = regGet m a := by
  induction m with
  | nil => rfl
  | cons p rest ih =>
    by_cases h : p.1 = off
    · have : p.1 ≠ a := fun e => ne (e.symm.trans h)
      simpa [regErase, h, regGet, Ne.symm ne] using ih
    · by_cases k : p.1 = a
      · simp [regErase, regGet, k, ne]
      · simpa [regErase, h, regGet, k] using ih

theorem regGet_place_same (m : List (Nat × Word)) (off : Nat) (v : Word) (fresh : regGet m off = none) :
    regGet (regPlace m off v) off = some v := by
  induction m with
  | nil => simp [regPlace, regGet]
  | cons p rest ih =>
    by_cases k : p.1 = off
    · simp [regGet, k] at fresh
    · simp only [regGet, if_neg k] at fresh
      by_cases h : off < p.1
      · simp [regPlace, h, regGet]
      · simpa [regPlace, h, regGet, k] using ih fresh

theorem regGet_place_other (m : List (Nat × Word)) {off a : Nat} (v : Word) (ne : a ≠ off) :
    regGet (regPlace m off v) a = regGet m a := by
  induction m with
  | nil => simp [regPlace, regGet, Ne.symm ne]
  | cons p rest ih =>
    by_cases h : off < p.1
    · simp [regPlace, h, regGet, Ne.symm ne]
    · by_cases k : p.1 = a
      · rw [regPlace, if_neg h]
        simp [regGet, k]
      · simpa [regPlace, h, regGet, k] using ih

theorem mem_regPlace {m : List (Nat × Word)} {off : Nat} {v : Word} {q : Nat × Word} (hq : q ∈ regPlace m off v) :
    q = (off, v) ∨ q ∈ m := by
  induction m with
  | nil => simpa [regPlace] using hq
  | cons p rest ih =>
    by_cases h : off < p.1
    · simpa [regPlace, h] using hq
    · simp only [regPlace, if_neg h, List.mem_cons] at hq ⊢
      rcases hq with rfl | hq
      · exact .inr (.inl rfl)
      · rcases ih hq with e | e
        · exact .inl e
        · exact .inr (.inr e)

theorem regPlace_pairwise (m : List (Nat × Word)) (off : Nat) (v : Word) (sorted : m.Pairwise (fun p q => p.1 < q.1))
    (absent : ∀ p ∈ m, p.1 ≠ off) : (regPlace m off v).Pairwise (fun p q => p.1 < q.1) := by
  induction m with
  | nil => simp [regPlace]
  | cons p rest ih =>
    have hp : p.1 ≠ off := absent p (by simp)
    rw [List.pairwise_cons] at sorted
    by_cases h : off < p.1
    · simp only [regPlace, if_pos h, List.pairwise_cons]
      refine ⟨?_, sorted⟩
      intro q hq
      rcases List.mem_cons.mp hq with rfl | hq
      · exact h
      · exact Nat.lt_trans h (sorted.1 q hq)
    · simp only [regPlace, if_neg h, List.pairwise_cons]
      refine ⟨?_, ih sorted.2 (fun q hq => absent q (by simp [hq]))⟩
      intro q hq
      rcases mem_regPlace hq with rfl | hq
      · have : p.1 < off := by omega
        exact this
      · exact sorted.1 q hq

theorem regWf_iff (m : List (Nat × Word)) :
    regWf m = true ↔ (∀ p ∈ m, p.2 ≠ resetWord p.1) ∧ m.Pairwise (fun p q => p.1 < q.1) := by
  simp only [regWf, decide_eq_true_eq]

/-- Every write of a word keeps the canonical form. -/
theorem regWf_put (m : List (Nat × Word)) (off : Nat) (v : Word) (wf : regWf m = true) : regWf (regPut m off v) = true := by
  rw [regWf_iff] at wf ⊢
  have e : ∀ p ∈ regErase m off, p ∈ m ∧ p.1 ≠ off := by
    intro p hp
    simpa [regErase] using hp
  have s : (regErase m off).Pairwise (fun p q => p.1 < q.1) := wf.2.filter _
  unfold regPut
  split
  · exact ⟨fun p hp => wf.1 p (e p hp).1, s⟩
  · refine ⟨?_, regPlace_pairwise _ _ _ s (fun p hp => (e p hp).2)⟩
    intro p hp
    rcases mem_regPlace hp with rfl | hp
    · assumption
    · exact wf.1 p (e p hp).1

/-- A part of a register file in canonical form is in canonical form. -/
theorem regWf_filterMap (m : List (Nat × Word)) (f : Nat × Word → Option (Nat × Word)) (wf : regWf m = true)
    (keeps : ∀ p q, f p = some q → q.1 = p.1 ∧ q.2 ≠ resetWord q.1) : regWf (m.filterMap f) = true := by
  rw [regWf_iff] at wf ⊢
  refine ⟨?_, ?_⟩
  · intro q hq
    obtain ⟨p, _, e⟩ := List.mem_filterMap.mp hq
    exact (keeps p q e).2
  · rw [List.pairwise_filterMap]
    refine wf.2.imp ?_
    intro a b lt q hq r hr
    rw [(keeps a q hq).1, (keeps b r hr).1]
    exact lt

namespace Dev

@[simp] theorem wr_regs (s : Dev) (off : Nat) (v : Word) : (s.wr off v).regs = regPut s.regs off v := (rfl)

/-- A word reads as it was written. -/
@[simp] theorem rd_wr_same (s : Dev) (off : Nat) (v : Word) : (s.wr off v).rd off = v := by
  unfold rd
  rw [wr_regs]
  by_cases h : v = resetWord off
  · rw [regPut, if_pos h, regGet_erase_same, h]
  · rw [regPut, if_neg h, regGet_place_same _ _ _ (regGet_erase_same s.regs off)]

/-- A write leaves every other word as it was. -/
theorem rd_wr_other (s : Dev) {off a : Nat} (v : Word) (ne : a ≠ off) : (s.wr off v).rd a = s.rd a := by
  unfold rd
  rw [wr_regs]
  by_cases h : v = resetWord off
  · rw [regPut, if_pos h, regGet_erase_other _ ne]
  · rw [regPut, if_neg h, regGet_place_other _ _ ne, regGet_erase_other _ ne]

/-- What a read gives depends on the register file alone. -/
theorem rd_congr {s t : Dev} (h : t.regs = s.regs) (a : Nat) : t.rd a = s.rd a := by
  unfold rd
  rw [h]

/-- One bit of a word with a field replaced. -/
theorem withBits_bit (w : Word) (hi lo v i : Nat) :
    (withBits w hi lo v).getLsbD i =
      (if lo ≤ i ∧ i < hi + 1 then decide (i < 32) && v.testBit (i - lo) else w.getLsbD i) := by
  unfold withBits
  by_cases h : i < 32
  · simp only [BitVec.getLsbD_or, BitVec.getLsbD_and, BitVec.getLsbD_not, BitVec.getLsbD_ofNat, h, decide_true, Bool.true_and,
      Nat.testBit_shiftLeft, Nat.testBit_two_pow_sub_one, ge_iff_le]
    by_cases a : lo ≤ i
    · by_cases b : i < hi + 1
      · have c : i - lo < hi + 1 - lo := by omega
        simp [a, b, c]
      · have c : ¬ i - lo < hi + 1 - lo := by omega
        simp [a, b, c]
    · simp [a]
  · have h2 : 32 ≤ i := by omega
    rw [BitVec.getLsbD_of_ge _ _ h2, BitVec.getLsbD_of_ge _ _ h2]
    simp [h]

theorem bitsOf_bit (w : Word) (hi lo i : Nat) : (bitsOf w hi lo).testBit i = (decide (i < hi + 1 - lo) && w.getLsbD (lo + i)) := by
  simp [bitsOf, Nat.testBit_mod_two_pow, Nat.testBit_shiftRight, BitVec.testBit_toNat]

/-- Bits of a word with a field replaced: the field's own bits. -/
theorem bitsOf_withBits_same (w : Word) (hi lo v : Nat) (lt : hi < 32) :
    bitsOf (withBits w hi lo v) hi lo = v % 2 ^ (hi + 1 - lo) := by
  apply Nat.eq_of_testBit_eq
  intro i
  rw [bitsOf_bit, withBits_bit, Nat.testBit_mod_two_pow]
  by_cases h : i < hi + 1 - lo
  · have a : lo ≤ lo + i ∧ lo + i < hi + 1 := by omega
    have b : lo + i < 32 := by omega
    simp [h, a, b]
  · simp [h]

/-- Bits of a word with a field replaced: bits of another field. -/
theorem bitsOf_withBits_other (w : Word) (hi lo v hi' lo' : Nat) (apart : hi < lo' ∨ hi' < lo) :
    bitsOf (withBits w hi lo v) hi' lo' = bitsOf w hi' lo' := by
  apply Nat.eq_of_testBit_eq
  intro i
  rw [bitsOf_bit, bitsOf_bit, withBits_bit]
  by_cases h : i < hi' + 1 - lo'
  · have a : ¬ (lo ≤ lo' + i ∧ lo' + i < hi + 1) := by omega
    rw [if_neg a]
  · simp [h]

/-- A field reads as it was set, modulo its width. -/
theorem get_set_same (s : Dev) (f : Field) (v : Nat) (lt : f.hi < 32) :
    (s.set f v).get f = v % 2 ^ (f.hi + 1 - f.lo) := by
  simp only [get, set, rd_wr_same]
  exact bitsOf_withBits_same _ _ _ _ lt

/-- Setting a field leaves every other field as it was: of another word, or apart in the same word. -/
theorem get_set_other (s : Dev) (f g : Field) (v : Nat) (apart : g.off ≠ f.off ∨ f.hi < g.lo ∨ g.hi < f.lo) :
    (s.set f v).get g = s.get g := by
  simp only [get, set]
  by_cases e : g.off = f.off
  · rw [e, rd_wr_same]
    exact bitsOf_withBits_other _ _ _ _ _ _ (by rcases apart with a | a; exact absurd e a; exact a)
  · rw [rd_wr_other _ _ e]

/-- Setting a field leaves every other word as it was. -/
theorem rd_set_other (s : Dev) (f : Field) (v : Nat) {a : Nat} (ne : a ≠ f.off) : (s.set f v).rd a = s.rd a :=
  rd_wr_other s _ ne

theorem flag_setb_same (s : Dev) (f : Field) (b : Bool) (le : f.lo ≤ f.hi) (lt : f.hi < 32) : (s.setb f b).flag f = b := by
  unfold flag setb
  rw [get_set_same _ _ _ lt]
  have : 1 < 2 ^ (f.hi + 1 - f.lo) := Nat.one_lt_two_pow (by omega)
  cases b
  · simp
  · simp [Nat.mod_eq_of_lt this]

theorem flag_setb_other (s : Dev) (f g : Field) (b : Bool) (apart : g.off ≠ f.off ∨ f.hi < g.lo ∨ g.hi < f.lo) :
    (s.setb f b).flag g = s.flag g := by
  unfold flag setb
  rw [get_set_other _ _ _ _ apart]

end Dev

end Sys2Proof.Machine
end

