-- ==== Sys2Proof/Laws/Changes.lean ====
section
/-! SUPPORT. What a function of the device may change, as one number: bit k for part k of the device, bit 32 + k for row k of the register
maps (`rowChunk`), bit 30 when device time may go back, bit 31 when any register may change. `Changes m s t` is closed under everything a
meaning is built from, so each definition of the model has one lemma `ch_<name>` that names what it may change. -/

namespace Sys2Proof.Machine

/-- The rows of the register maps in pieces of at most twelve. -/
def rowChunk : Nat → List RegRow
  | 0 => regRowsGEN0
  | 1 => regRowsGEN1
  | 2 => regRowsHIF0
  | 3 => regRowsHIF1
  | 4 => regRowsALC0
  | 5 => regRowsALC1
  | 6 => regRowsALC2
  | 7 => regRowsEDG0
  | 8 => regRowsEDG1
  | 9 => regRowsEDG2
  | 10 => regRowsCLE0
  | 11 => regRowsCLE1
  | 12 => regRowsCLE2
  | 13 => regRowsCLE3
  | 14 => regRowsTHM0
  | 15 => regRowsTHM1
  | 16 => regRowsTHM2
  | 17 => regRowsPST0
  | 18 => regRowsPST1
  | 19 => regRowsPST2
  | 20 => regRowsSLN0
  | 21 => regRowsSLN1
  | 22 => regRowsVSS0
  | 23 => regRowsVSS1
  | 24 => regRowsCAN0
  | 25 => regRowsCAN1
  | 26 => regRowsMTR0
  | 27 => regRowsMTR1
  | 28 => regRowsMTR2
  | 29 => regRowsMTR3
  | 30 => regRowsBIL0
  | 31 => regRowsBIL1
  | 32 => regRowsBIL2
  | 33 => regRowsBSE0
  | 34 => regRowsBSE1
  | 35 => regRowsBSE2
  | 36 => regRowsTRI0
  | 37 => regRowsTRI1
  | 38 => regRowsSAF0
  | 39 => regRowsSAF1
  | 40 => regRowsLSW0
  | 41 => regRowsKEY0
  | 42 => regRowsLDG0
  | _ => []

/-- Row k covers an offset. -/
def RowHas (k off : Nat) : Prop := ∃ r, (rowChunk (k / 12))[k % 12]? = some r ∧ r.hits off = true

def DevPart.bit : DevPart → Nat
  | .dt => 0
  | .free => 1
  | .out => 2
  | .capture => 3
  | .staging => 4
  | .sets => 5
  | .gen => 6
  | .hif => 7
  | .ldg => 8
  | .alc => 9
  | .edg => 10
  | .pst => 11
  | .cle => 12
  | .thm => 13
  | .mtr => 14
  | .tri => 15
  | .vss => 16
  | .bil => 17
  | .key => 18
  | .sln => 19
  | .lsw => 20
  | .saf => 21
  | .bse => 22
  | .can => 23

/-- A register the mask lets change. -/
def Writes (m off : Nat) : Prop := m.testBit 31 = true ∨ ∃ k, m.testBit (32 + k) = true ∧ RowHas k off

namespace Dev

structure Changes (m : Nat) (s t : Dev) : Prop where
  fits : s.Fits → t.Fits
  same : ∀ p : DevPart, m.testBit p.bit = false → p.same s t
  regs : m.testBit 31 = false → ∀ off, (∀ k, m.testBit (32 + k) = true → ¬RowHas k off) → t.rd off = s.rd off
  time : m.testBit 30 = false → s.dt ≤ t.dt
  free : s.free ≤ t.free

/-- Every bit of `T` is a bit of `m`. -/
abbrev Within (T m : Nat) : Prop := T &&& m = T

theorem sub_trans {T U m : Nat} (h : Within U m) (d : Within T U) : Within T m := by
  unfold Within at *
  rw [← d, Nat.and_assoc, h]

theorem bit_of {T m k : Nat} (h : Within T m) (d : T.testBit k = true) : m.testBit k = true := by
  have e := congrArg (fun x => Nat.testBit x k) h
  simp [d] at e
  exact e

theorem reg_of {T m k off : Nat} (h : Within T m) (r : RowHas k off) (d : T.testBit (32 + k) = true) : Writes m off :=
  .inr ⟨k, bit_of h d, r⟩

theorem reg_of2 {T m k k2 off : Nat} (h : Within T m) (r : RowHas k off ∨ RowHas k2 off) (d : T.testBit (32 + k) = true)
    (e : T.testBit (32 + k2) = true) : Writes m off :=
  r.elim (fun r => .inr ⟨k, bit_of h d, r⟩) (fun r => .inr ⟨k2, bit_of h e, r⟩)

theorem reg_of3 {T m k k2 k3 off : Nat} (h : Within T m) (r : RowHas k off ∨ RowHas k2 off ∨ RowHas k3 off) (d : T.testBit (32 + k) = true)
    (e : T.testBit (32 + k2) = true) (f : T.testBit (32 + k3) = true) : Writes m off :=
  r.elim (fun r => .inr ⟨k, bit_of h d, r⟩) (fun r => reg_of2 h r e f)

theorem writes_at {m a b : Nat} (w : Writes m a) (e : b = a) : Writes m b := e ▸ w

theorem any_of {T m : Nat} (h : Within T m) (d : T.testBit 31 = true) (off : Nat) : Writes m off := .inl (bit_of h d)

theorem Changes.refl (m : Nat) (s : Dev) : Changes m s s :=
  ⟨id, fun p _ => by cases p <;> rfl, fun _ _ _ => rfl, fun _ => Nat.le_refl _, Nat.le_refl _⟩

theorem Changes.trans {m : Nat} {s t u : Dev} (a : Changes m s t) (b : Changes m t u) : Changes m s u := by
  refine ⟨fun h => b.fits (a.fits h), fun p hp => ?_, fun w off h => (b.regs w off h).trans (a.regs w off h),
    fun h => Nat.le_trans (a.time h) (b.time h), Nat.le_trans a.free b.free⟩
  have x := a.same p hp
  have y := b.same p hp
  cases p <;> exact Eq.trans y x

theorem ch_wr {m : Nat} {s0 : Dev} (s : Dev) (off : Nat) (v : Word) (hb : Writes m off) (h : Changes m s0 s) :
    Changes m s0 (s.wr off v) := by
  refine h.trans ⟨fun f => ⟨regWf_put _ _ _ f.regs, f.ldg, f.hif⟩, fun p _ => by cases p <;> rfl, fun w a ha => ?_,
    fun _ => Nat.le_refl _, Nat.le_refl _⟩
  apply rd_wr_other
  rintro rfl
  rcases hb with hb | ⟨k, hk, hr⟩
  · exact Bool.noConfusion (hb.symm.trans w)
  · exact ha k hk hr

theorem ch_set {m : Nat} {s0 : Dev} (s : Dev) (f : Field) (v : Nat) (hb : Writes m f.off) (h : Changes m s0 s) :
    Changes m s0 (s.set f v) := ch_wr _ _ _ hb h
theorem ch_seti {m : Nat} {s0 : Dev} (s : Dev) (f : Field) (v : Int) (hb : Writes m f.off) (h : Changes m s0 s) :
    Changes m s0 (s.seti f v) := ch_set _ _ _ hb h
theorem ch_setb {m : Nat} {s0 : Dev} (s : Dev) (f : Field) (v : Bool) (hb : Writes m f.off) (h : Changes m s0 s) :
    Changes m s0 (s.setb f v) := ch_set _ _ _ hb h
theorem ch_incSat {m : Nat} {s0 : Dev} (s : Dev) (f : Field) (n : Nat) (hb : Writes m f.off) (h : Changes m s0 s) :
    Changes m s0 (s.incSat f n) := ch_set _ _ _ hb h
theorem ch_incWrap {m : Nat} {s0 : Dev} (s : Dev) (f : Field) (n : Nat) (hb : Writes m f.off) (h : Changes m s0 s) :
    Changes m s0 (s.incWrap f n) := ch_set _ _ _ hb h
theorem ch_bump {m : Nat} {s0 : Dev} (s : Dev) (off : Nat) (n : Nat) (hb : Writes m off) (h : Changes m s0 s) :
    Changes m s0 (s.bump off n) := ch_wr _ _ _ hb h
theorem ch_set64 {m : Nat} {s0 : Dev} (s : Dev) (lo : Nat) (v : Id64) (hb : Writes m lo) (hc : Writes m (lo + 4)) (h : Changes m s0 s) :
    Changes m s0 (s.set64 lo v) := ch_wr _ _ _ hc (ch_wr _ _ _ hb h)

theorem ch_putDt {m : Nat} {s0 : Dev} (s : Dev) (x : Nat) (hb : m.testBit 0 = true) (hx : s.dt ≤ x) (h : Changes m s0 s) :
    Changes m s0 (s.putDt x) := by
  refine h.trans ⟨fun f => ⟨f.regs, f.ldg, f.hif⟩, fun p hp => ?_, fun _ _ _ => rfl, fun _ => hx, Nat.le_refl _⟩
  cases p with
  | dt => exact Bool.noConfusion (hb.symm.trans hp)
  | _ => rfl

theorem ch_putFree {m : Nat} {s0 : Dev} (s : Dev) (x : Nat) (hb : m.testBit 1 = true) (hx : s.free ≤ x) (h : Changes m s0 s) :
    Changes m s0 (s.putFree x) := by
  refine h.trans ⟨fun f => ⟨f.regs, f.ldg, f.hif⟩, fun p hp => ?_, fun _ _ _ => rfl, fun _ => Nat.le_refl _, hx⟩
  cases p with
  | free => exact Bool.noConfusion (hb.symm.trans hp)
  | _ => rfl

theorem ch_putOut {m : Nat} {s0 : Dev} (s : Dev) (x : List Output) (hb : m.testBit 2 = true) (h : Changes m s0 s) :
    Changes m s0 (s.putOut x) := by
  refine h.trans ⟨fun f => ⟨f.regs, f.ldg, f.hif⟩, fun p hp => ?_, fun _ _ _ => rfl, fun _ => Nat.le_refl _, Nat.le_refl _⟩
  cases p with
  | out => exact Bool.noConfusion (hb.symm.trans hp)
  | _ => rfl

theorem ch_putCapture {m : Nat} {s0 : Dev} (s : Dev) (x : List (Nat × Word)) (hb : m.testBit 3 = true) (h : Changes m s0 s) :
    Changes m s0 (s.putCapture x) := by
  refine h.trans ⟨fun f => ⟨f.regs, f.ldg, f.hif⟩, fun p hp => ?_, fun _ _ _ => rfl, fun _ => Nat.le_refl _, Nat.le_refl _⟩
  cases p with
  | capture => exact Bool.noConfusion (hb.symm.trans hp)
  | _ => rfl

theorem ch_putStaging {m : Nat} {s0 : Dev} (s : Dev) (x : List (Nat × Word)) (hb : m.testBit 4 = true) (h : Changes m s0 s) :
    Changes m s0 (s.putStaging x) := by
  refine h.trans ⟨fun f => ⟨f.regs, f.ldg, f.hif⟩, fun p hp => ?_, fun _ _ _ => rfl, fun _ => Nat.le_refl _, Nat.le_refl _⟩
  cases p with
  | staging => exact Bool.noConfusion (hb.symm.trans hp)
  | _ => rfl

theorem ch_putSets {m : Nat} {s0 : Dev} (s : Dev) (x : List (Nat × Nat × Word)) (hb : m.testBit 5 = true) (h : Changes m s0 s) :
    Changes m s0 (s.putSets x) := by
  refine h.trans ⟨fun f => ⟨f.regs, f.ldg, f.hif⟩, fun p hp => ?_, fun _ _ _ => rfl, fun _ => Nat.le_refl _, Nat.le_refl _⟩
  cases p with
  | sets => exact Bool.noConfusion (hb.symm.trans hp)
  | _ => rfl

theorem ch_putGen {m : Nat} {s0 : Dev} (s : Dev) (x : Gen) (hb : m.testBit 6 = true) (h : Changes m s0 s) :
    Changes m s0 (s.putGen x) := by
  refine h.trans ⟨fun f => ⟨f.regs, f.ldg, f.hif⟩, fun p hp => ?_, fun _ _ _ => rfl, fun _ => Nat.le_refl _, Nat.le_refl _⟩
  cases p with
  | gen => exact Bool.noConfusion (hb.symm.trans hp)
  | _ => rfl

theorem ch_putHif {m : Nat} {s0 : Dev} (s : Dev) (x : Hif) (hb : m.testBit 7 = true) (hx : s.hif.fits → x.fits) (h : Changes m s0 s) :
    Changes m s0 (s.putHif x) := by
  refine h.trans ⟨fun f => ⟨f.regs, f.ldg, hx f.hif⟩, fun p hp => ?_, fun _ _ _ => rfl, fun _ => Nat.le_refl _, Nat.le_refl _⟩
  cases p with
  | hif => exact Bool.noConfusion (hb.symm.trans hp)
  | _ => rfl

theorem ch_putLdg {m : Nat} {s0 : Dev} (s : Dev) (x : Ldg) (hb : m.testBit 8 = true) (hx : s.ldg.fits → x.fits) (h : Changes m s0 s) :
    Changes m s0 (s.putLdg x) := by
  refine h.trans ⟨fun f => ⟨f.regs, hx f.ldg, f.hif⟩, fun p hp => ?_, fun _ _ _ => rfl, fun _ => Nat.le_refl _, Nat.le_refl _⟩
  cases p with
  | ldg => exact Bool.noConfusion (hb.symm.trans hp)
  | _ => rfl

theorem ch_putAlc {m : Nat} {s0 : Dev} (s : Dev) (x : Alc) (hb : m.testBit 9 = true) (h : Changes m s0 s) :
    Changes m s0 (s.putAlc x) := by
  refine h.trans ⟨fun f => ⟨f.regs, f.ldg, f.hif⟩, fun p hp => ?_, fun _ _ _ => rfl, fun _ => Nat.le_refl _, Nat.le_refl _⟩
  cases p with
  | alc => exact Bool.noConfusion (hb.symm.trans hp)
  | _ => rfl

theorem ch_putEdg {m : Nat} {s0 : Dev} (s : Dev) (x : Edg) (hb : m.testBit 10 = true) (h : Changes m s0 s) :
    Changes m s0 (s.putEdg x) := by
  refine h.trans ⟨fun f => ⟨f.regs, f.ldg, f.hif⟩, fun p hp => ?_, fun _ _ _ => rfl, fun _ => Nat.le_refl _, Nat.le_refl _⟩
  cases p with
  | edg => exact Bool.noConfusion (hb.symm.trans hp)
  | _ => rfl

theorem ch_putPst {m : Nat} {s0 : Dev} (s : Dev) (x : Pst) (hb : m.testBit 11 = true) (h : Changes m s0 s) :
    Changes m s0 (s.putPst x) := by
  refine h.trans ⟨fun f => ⟨f.regs, f.ldg, f.hif⟩, fun p hp => ?_, fun _ _ _ => rfl, fun _ => Nat.le_refl _, Nat.le_refl _⟩
  cases p with
  | pst => exact Bool.noConfusion (hb.symm.trans hp)
  | _ => rfl

theorem ch_putCle {m : Nat} {s0 : Dev} (s : Dev) (x : Cle) (hb : m.testBit 12 = true) (h : Changes m s0 s) :
    Changes m s0 (s.putCle x) := by
  refine h.trans ⟨fun f => ⟨f.regs, f.ldg, f.hif⟩, fun p hp => ?_, fun _ _ _ => rfl, fun _ => Nat.le_refl _, Nat.le_refl _⟩
  cases p with
  | cle => exact Bool.noConfusion (hb.symm.trans hp)
  | _ => rfl

theorem ch_putThm {m : Nat} {s0 : Dev} (s : Dev) (x : Thm) (hb : m.testBit 13 = true) (h : Changes m s0 s) :
    Changes m s0 (s.putThm x) := by
  refine h.trans ⟨fun f => ⟨f.regs, f.ldg, f.hif⟩, fun p hp => ?_, fun _ _ _ => rfl, fun _ => Nat.le_refl _, Nat.le_refl _⟩
  cases p with
  | thm => exact Bool.noConfusion (hb.symm.trans hp)
  | _ => rfl

theorem ch_putMtr {m : Nat} {s0 : Dev} (s : Dev) (x : Mtr) (hb : m.testBit 14 = true) (h : Changes m s0 s) :
    Changes m s0 (s.putMtr x) := by
  refine h.trans ⟨fun f => ⟨f.regs, f.ldg, f.hif⟩, fun p hp => ?_, fun _ _ _ => rfl, fun _ => Nat.le_refl _, Nat.le_refl _⟩
  cases p with
  | mtr => exact Bool.noConfusion (hb.symm.trans hp)
  | _ => rfl

theorem ch_putTri {m : Nat} {s0 : Dev} (s : Dev) (x : Tri) (hb : m.testBit 15 = true) (h : Changes m s0 s) :
    Changes m s0 (s.putTri x) := by
  refine h.trans ⟨fun f => ⟨f.regs, f.ldg, f.hif⟩, fun p hp => ?_, fun _ _ _ => rfl, fun _ => Nat.le_refl _, Nat.le_refl _⟩
  cases p with
  | tri => exact Bool.noConfusion (hb.symm.trans hp)
  | _ => rfl

theorem ch_putVss {m : Nat} {s0 : Dev} (s : Dev) (x : Vss) (hb : m.testBit 16 = true) (h : Changes m s0 s) :
    Changes m s0 (s.putVss x) := by
  refine h.trans ⟨fun f => ⟨f.regs, f.ldg, f.hif⟩, fun p hp => ?_, fun _ _ _ => rfl, fun _ => Nat.le_refl _, Nat.le_refl _⟩
  cases p with
  | vss => exact Bool.noConfusion (hb.symm.trans hp)
  | _ => rfl

theorem ch_putBil {m : Nat} {s0 : Dev} (s : Dev) (x : Bil) (hb : m.testBit 17 = true) (h : Changes m s0 s) :
    Changes m s0 (s.putBil x) := by
  refine h.trans ⟨fun f => ⟨f.regs, f.ldg, f.hif⟩, fun p hp => ?_, fun _ _ _ => rfl, fun _ => Nat.le_refl _, Nat.le_refl _⟩
  cases p with
  | bil => exact Bool.noConfusion (hb.symm.trans hp)
  | _ => rfl

theorem ch_putKey {m : Nat} {s0 : Dev} (s : Dev) (x : Key) (hb : m.testBit 18 = true) (h : Changes m s0 s) :
    Changes m s0 (s.putKey x) := by
  refine h.trans ⟨fun f => ⟨f.regs, f.ldg, f.hif⟩, fun p hp => ?_, fun _ _ _ => rfl, fun _ => Nat.le_refl _, Nat.le_refl _⟩
  cases p with
  | key => exact Bool.noConfusion (hb.symm.trans hp)
  | _ => rfl

theorem ch_putSln {m : Nat} {s0 : Dev} (s : Dev) (x : Sln) (hb : m.testBit 19 = true) (h : Changes m s0 s) :
    Changes m s0 (s.putSln x) := by
  refine h.trans ⟨fun f => ⟨f.regs, f.ldg, f.hif⟩, fun p hp => ?_, fun _ _ _ => rfl, fun _ => Nat.le_refl _, Nat.le_refl _⟩
  cases p with
  | sln => exact Bool.noConfusion (hb.symm.trans hp)
  | _ => rfl

theorem ch_putLsw {m : Nat} {s0 : Dev} (s : Dev) (x : Lsw) (hb : m.testBit 20 = true) (h : Changes m s0 s) :
    Changes m s0 (s.putLsw x) := by
  refine h.trans ⟨fun f => ⟨f.regs, f.ldg, f.hif⟩, fun p hp => ?_, fun _ _ _ => rfl, fun _ => Nat.le_refl _, Nat.le_refl _⟩
  cases p with
  | lsw => exact Bool.noConfusion (hb.symm.trans hp)
  | _ => rfl

theorem ch_putSaf {m : Nat} {s0 : Dev} (s : Dev) (x : Saf) (hb : m.testBit 21 = true) (h : Changes m s0 s) :
    Changes m s0 (s.putSaf x) := by
  refine h.trans ⟨fun f => ⟨f.regs, f.ldg, f.hif⟩, fun p hp => ?_, fun _ _ _ => rfl, fun _ => Nat.le_refl _, Nat.le_refl _⟩
  cases p with
  | saf => exact Bool.noConfusion (hb.symm.trans hp)
  | _ => rfl

theorem ch_putBse {m : Nat} {s0 : Dev} (s : Dev) (x : Bse) (hb : m.testBit 22 = true) (h : Changes m s0 s) :
    Changes m s0 (s.putBse x) := by
  refine h.trans ⟨fun f => ⟨f.regs, f.ldg, f.hif⟩, fun p hp => ?_, fun _ _ _ => rfl, fun _ => Nat.le_refl _, Nat.le_refl _⟩
  cases p with
  | bse => exact Bool.noConfusion (hb.symm.trans hp)
  | _ => rfl

theorem ch_putCan {m : Nat} {s0 : Dev} (s : Dev) (x : Vector CanSt 4) (hb : m.testBit 23 = true) (h : Changes m s0 s) :
    Changes m s0 (s.putCan x) := by
  refine h.trans ⟨fun f => ⟨f.regs, f.ldg, f.hif⟩, fun p hp => ?_, fun _ _ _ => rfl, fun _ => Nat.le_refl _, Nat.le_refl _⟩
  cases p with
  | can => exact Bool.noConfusion (hb.symm.trans hp)
  | _ => rfl

theorem ch_latch {m : Nat} {s0 : Dev} (s : Dev) (f : Field) (hb : Writes m f.off) (hs : m.testBit 5 = true) (h : Changes m s0 s) :
    Changes m s0 (s.latch f) := ch_putSets _ _ hs (ch_setb _ _ _ hb h)

theorem hif_same {a b : Hif} (h : b.alertStore = a.alertStore) (f : a.fits) : b.fits := Nat.le_trans (Nat.le_of_eq (congrArg List.length h)) f

theorem ldg_same {a b : Ldg} (h : b.entries = a.entries) (k : b.staged = a.staged) (f : a.fits) : b.fits := by
  unfold Ldg.fits
  rw [h, k]
  exact f

/-- Device time restarts. -/
theorem ch_putDtBack {m : Nat} {s0 : Dev} (s : Dev) (x : Nat) (hb : m.testBit 0 = true) (hk : m.testBit 30 = true) (h : Changes m s0 s) :
    Changes m s0 (s.putDt x) := by
  refine h.trans ⟨fun f => ⟨f.regs, f.ldg, f.hif⟩, fun p hp => ?_, fun _ _ _ => rfl, fun h => Bool.noConfusion (hk.symm.trans h), Nat.le_refl _⟩
  cases p with
  | dt => exact Bool.noConfusion (hb.symm.trans hp)
  | _ => rfl

theorem ch_forEach {m : Nat} {s0 : Dev} {α : Type} (s : Dev) (l : List α) (f : α → Dev → Dev) (h : Changes m s0 s)
    (hf : ∀ a t, Changes m s0 t → Changes m s0 (f a t)) : Changes m s0 (s.forEach l f) := by
  unfold Dev.forEach
  induction l generalizing s with
  | nil => exact h
  | cons a l ih => exact ih _ (hf a s h)

theorem ch_forEachMem {m : Nat} {s0 : Dev} {α : Type} (s : Dev) (l : List α) (f : α → Dev → Dev) (h : Changes m s0 s)
    (hf : ∀ a t, a ∈ l → Changes m s0 t → Changes m s0 (f a t)) : Changes m s0 (s.forEach l f) := by
  unfold Dev.forEach
  induction l generalizing s with
  | nil => exact h
  | cons a l ih => exact ih _ (hf a s (by simp) h) (fun b t hb => hf b t (by simp [hb]))

theorem ch_foldl {m : Nat} {s0 : Dev} {α β : Type} (g : β → Dev) (l : List α) (f : β → α → β) (b : β) (h : Changes m s0 (g b))
    (hf : ∀ b a, Changes m s0 (g b) → Changes m s0 (g (f b a))) : Changes m s0 (g (l.foldl f b)) := by
  induction l generalizing b with
  | nil => exact h
  | cons a l ih => exact ih _ (hf b a h)

theorem ch_when {m : Nat} {s0 : Dev} (s : Dev) (b : Bool) (f : Dev → Dev) (h : Changes m s0 s)
    (hf : b = true → Changes m s0 (f s)) : Changes m s0 (s.when b f) := by
  unfold Dev.when
  split
  · exact hf ‹_›
  · exact h

end Dev

/-- What every command has in common: the queue stays, the outputs begin anew. -/
theorem of_onDev {m : Nat} {s t : State} {f : Dev → Dev} (h : s.onDev f = .next t) (hb : m.testBit 2 = true)
    (hf : ∀ d, Dev.Changes m s.dev d → Dev.Changes m s.dev (f d)) : t.pending = s.pending ∧ Dev.Changes m s.dev t.dev := by
  cases h
  exact ⟨rfl, hf _ (Dev.ch_putOut _ _ hb (Dev.Changes.refl _ _))⟩

end Sys2Proof.Machine
end

