-- ==== Sys2Proof/Laws/RegRows.lean ====
section
/-! SUPPORT. Which row of the register maps each register is. -/

namespace Sys2Proof.Machine

theorem at_GEN_ID : RowHas 0 GEN_ID := ⟨_, rfl, rfl⟩
theorem at_GEN_REV : RowHas 1 GEN_REV := ⟨_, rfl, rfl⟩
theorem at_GEN_FW_VER : RowHas 2 GEN_FW_VER := ⟨_, rfl, rfl⟩
theorem at_GEN_STATUS : RowHas 3 GEN_STATUS := ⟨_, rfl, rfl⟩
theorem at_GEN_LIFECYCLE : RowHas 4 GEN_LIFECYCLE := ⟨_, rfl, rfl⟩
theorem at_GEN_RESET_CAUSE : RowHas 5 GEN_RESET_CAUSE := ⟨_, rfl, rfl⟩
theorem at_GEN_RESET_CTL : RowHas 6 GEN_RESET_CTL := ⟨_, rfl, rfl⟩
theorem at_GEN_RST_PIN : RowHas 7 GEN_RST_PIN := ⟨_, rfl, rfl⟩
theorem at_GEN_EPOCH : RowHas 8 GEN_EPOCH := ⟨_, rfl, rfl⟩
theorem at_GEN_DT_LO : RowHas 9 GEN_DT_LO := ⟨_, rfl, rfl⟩
theorem at_GEN_DT_HI : RowHas 10 GEN_DT_HI := ⟨_, rfl, rfl⟩
theorem at_GEN_DEVICE_ID_LO : RowHas 11 GEN_DEVICE_ID_LO := ⟨_, rfl, rfl⟩
theorem at_GEN_DEVICE_ID_HI : RowHas 12 GEN_DEVICE_ID_HI := ⟨_, rfl, rfl⟩
theorem at_GEN_BOOT : RowHas 13 GEN_BOOT := ⟨_, rfl, rfl⟩
theorem at_GEN_BOOT2 : RowHas 14 GEN_BOOT2 := ⟨_, rfl, rfl⟩
theorem at_GEN_PWR : RowHas 15 GEN_PWR := ⟨_, rfl, rfl⟩
theorem at_GEN_WAKE_CFG : RowHas 16 GEN_WAKE_CFG := ⟨_, rfl, rfl⟩
theorem at_GEN_WAKE_TIME : RowHas 17 GEN_WAKE_TIME := ⟨_, rfl, rfl⟩
theorem at_GEN_WAKE_CAUSE : RowHas 18 GEN_WAKE_CAUSE := ⟨_, rfl, rfl⟩
theorem at_GEN_CHG_READY : RowHas 19 GEN_CHG_READY := ⟨_, rfl, rfl⟩
theorem at_GEN_TEST : RowHas 20 GEN_TEST := ⟨_, rfl, rfl⟩
theorem at_GEN_REJECT_CNT : RowHas 21 GEN_REJECT_CNT := ⟨_, rfl, rfl⟩
theorem at_GEN_ECC : RowHas 22 GEN_ECC := ⟨_, rfl, rfl⟩
theorem at_HIF_CTRL : RowHas 24 HIF_CTRL := ⟨_, rfl, rfl⟩
theorem at_HIF_STATUS : RowHas 25 HIF_STATUS := ⟨_, rfl, rfl⟩
theorem at_HIF_REJECT_CNT : RowHas 26 HIF_REJECT_CNT := ⟨_, rfl, rfl⟩
theorem at_HIF_LINK_EPOCH : RowHas 27 HIF_LINK_EPOCH := ⟨_, rfl, rfl⟩
theorem at_HIF_EVT_DROP : RowHas 28 HIF_EVT_DROP := ⟨_, rfl, rfl⟩
theorem at_HIF_ALERT_LOST : RowHas 29 HIF_ALERT_LOST := ⟨_, rfl, rfl⟩
theorem at_HIF_ALERT_FIRST : RowHas 30 HIF_ALERT_FIRST := ⟨_, rfl, rfl⟩
theorem at_HIF_DB_ERR : RowHas 31 HIF_DB_ERR := ⟨_, rfl, rfl⟩
theorem at_HIF_UART_ERR : RowHas 32 HIF_UART_ERR := ⟨_, rfl, rfl⟩
theorem at_HIF_VEC_MOD (i : Nat) : RowHas 33 (HIF_VEC_MOD i) := ⟨_, rfl, by simp [RegRow.hits, HIF_VEC_MOD]; omega⟩
theorem at_HIF_EVT_ROUTE (i : Nat) : RowHas 34 (HIF_EVT_ROUTE i) := ⟨_, rfl, by simp [RegRow.hits, HIF_EVT_ROUTE]; omega⟩
theorem at_HIF_RING_BASE_LO (i : Nat) : RowHas 35 (HIF_RING_BASE_LO i) := ⟨_, rfl, by simp [RegRow.hits, HIF_RING_BASE_LO]; omega⟩
theorem at_HIF_RING_BASE_HI (i : Nat) : RowHas 36 (HIF_RING_BASE_HI i) := ⟨_, rfl, by simp [RegRow.hits, HIF_RING_BASE_HI]; omega⟩
theorem at_HIF_RING_CFG (i : Nat) : RowHas 37 (HIF_RING_CFG i) := ⟨_, rfl, by simp [RegRow.hits, HIF_RING_CFG]; omega⟩
theorem at_HIF_RING_STATUS (i : Nat) : RowHas 38 (HIF_RING_STATUS i) := ⟨_, rfl, by simp [RegRow.hits, HIF_RING_STATUS]; omega⟩
theorem at_HIF_MSIX_ADDR_LO (i : Nat) : RowHas 39 (HIF_MSIX_ADDR_LO i) := ⟨_, rfl, by simp [RegRow.hits, HIF_MSIX_ADDR_LO]; omega⟩
theorem at_HIF_MSIX_ADDR_HI (i : Nat) : RowHas 40 (HIF_MSIX_ADDR_HI i) := ⟨_, rfl, by simp [RegRow.hits, HIF_MSIX_ADDR_HI]; omega⟩
theorem at_HIF_MSIX_DATA (i : Nat) : RowHas 41 (HIF_MSIX_DATA i) := ⟨_, rfl, by simp [RegRow.hits, HIF_MSIX_DATA]; omega⟩
theorem at_HIF_MSIX_CTRL (i : Nat) : RowHas 42 (HIF_MSIX_CTRL i) := ⟨_, rfl, by simp [RegRow.hits, HIF_MSIX_CTRL]; omega⟩
theorem at_HIF_MSIX_PBA (i : Nat) : RowHas 43 (HIF_MSIX_PBA i) := ⟨_, rfl, by simp [RegRow.hits, HIF_MSIX_PBA]; omega⟩
theorem at_ALC_CTRL : RowHas 48 ALC_CTRL := ⟨_, rfl, rfl⟩
theorem at_ALC_STATUS : RowHas 49 ALC_STATUS := ⟨_, rfl, rfl⟩
theorem at_ALC_TRIP : RowHas 50 ALC_TRIP := ⟨_, rfl, rfl⟩
theorem at_ALC_REJECT_CNT : RowHas 51 ALC_REJECT_CNT := ⟨_, rfl, rfl⟩
theorem at_ALC_TICK_LO : RowHas 52 ALC_TICK_LO := ⟨_, rfl, rfl⟩
theorem at_ALC_TICK_HI : RowHas 53 ALC_TICK_HI := ⟨_, rfl, rfl⟩
theorem at_ALC_GRANT_SEQ : RowHas 54 ALC_GRANT_SEQ := ⟨_, rfl, rfl⟩
theorem at_ALC_SITE_CAP : RowHas 55 ALC_SITE_CAP := ⟨_, rfl, rfl⟩
theorem at_ALC_GP_CAP (i : Nat) : RowHas 56 (ALC_GP_CAP i) := ⟨_, rfl, by simp [RegRow.hits, ALC_GP_CAP]; omega⟩
theorem at_ALC_GRID_TARGET : RowHas 57 ALC_GRID_TARGET := ⟨_, rfl, rfl⟩
theorem at_ALC_GRID_MARGIN : RowHas 58 ALC_GRID_MARGIN := ⟨_, rfl, rfl⟩
theorem at_ALC_RAMP : RowHas 59 ALC_RAMP := ⟨_, rfl, rfl⟩
theorem at_ALC_SNOW : RowHas 60 ALC_SNOW := ⟨_, rfl, rfl⟩
theorem at_ALC_HYST : RowHas 61 ALC_HYST := ⟨_, rfl, rfl⟩
theorem at_ALC_SUPPLY : RowHas 62 ALC_SUPPLY := ⟨_, rfl, rfl⟩
theorem at_ALC_SURPLUS : RowHas 63 ALC_SURPLUS := ⟨_, rfl, rfl⟩
theorem at_ALC_REST_CTRL : RowHas 64 ALC_REST_CTRL := ⟨_, rfl, rfl⟩
theorem at_ALC_REST_STATUS : RowHas 65 ALC_REST_STATUS := ⟨_, rfl, rfl⟩
theorem at_ALC_STAGE_MAP (i : Nat) : RowHas 66 (ALC_STAGE_MAP i) := ⟨_, rfl, by simp [RegRow.hits, ALC_STAGE_MAP]; omega⟩
theorem at_ALC_OUT_CFG (i : Nat) : RowHas 67 (ALC_OUT_CFG i) := ⟨_, rfl, by simp [RegRow.hits, ALC_OUT_CFG]; omega⟩
theorem at_ALC_OUT_CAP (i : Nat) : RowHas 68 (ALC_OUT_CAP i) := ⟨_, rfl, by simp [RegRow.hits, ALC_OUT_CAP]; omega⟩
theorem at_ALC_STR_CFG (i : Nat) : RowHas 69 (ALC_STR_CFG i) := ⟨_, rfl, by simp [RegRow.hits, ALC_STR_CFG]; omega⟩
theorem at_ALC_GRANT_W0 (i : Nat) : RowHas 70 (ALC_GRANT_W0 i) := ⟨_, rfl, by simp [RegRow.hits, ALC_GRANT_W0]; omega⟩
theorem at_ALC_GRANT_W1 (i : Nat) : RowHas 71 (ALC_GRANT_W1 i) := ⟨_, rfl, by simp [RegRow.hits, ALC_GRANT_W1]; omega⟩
theorem at_ALC_GRANT_W2 (i : Nat) : RowHas 72 (ALC_GRANT_W2 i) := ⟨_, rfl, by simp [RegRow.hits, ALC_GRANT_W2]; omega⟩
theorem at_ALC_GRANT_W3 (i : Nat) : RowHas 73 (ALC_GRANT_W3 i) := ⟨_, rfl, by simp [RegRow.hits, ALC_GRANT_W3]; omega⟩
theorem at_ALC_GRANT_W4 (i : Nat) : RowHas 74 (ALC_GRANT_W4 i) := ⟨_, rfl, by simp [RegRow.hits, ALC_GRANT_W4]; omega⟩
theorem at_ALC_GRANT_W5 (i : Nat) : RowHas 75 (ALC_GRANT_W5 i) := ⟨_, rfl, by simp [RegRow.hits, ALC_GRANT_W5]; omega⟩
theorem at_ALC_GRANT_W6 (i : Nat) : RowHas 76 (ALC_GRANT_W6 i) := ⟨_, rfl, by simp [RegRow.hits, ALC_GRANT_W6]; omega⟩
theorem at_ALC_GRANT_W7 (i : Nat) : RowHas 77 (ALC_GRANT_W7 i) := ⟨_, rfl, by simp [RegRow.hits, ALC_GRANT_W7]; omega⟩
theorem at_EDG_CTRL : RowHas 84 EDG_CTRL := ⟨_, rfl, rfl⟩
theorem at_EDG_STATUS : RowHas 85 EDG_STATUS := ⟨_, rfl, rfl⟩
theorem at_EDG_REJECT_CNT : RowHas 86 EDG_REJECT_CNT := ⟨_, rfl, rfl⟩
theorem at_EDG_LATE_CNT : RowHas 87 EDG_LATE_CNT := ⟨_, rfl, rfl⟩
theorem at_EDG_LEAD (i : Nat) : RowHas 88 (EDG_LEAD i) := ⟨_, rfl, by simp [RegRow.hits, EDG_LEAD]; omega⟩
theorem at_EDG_STG_CFG (i : Nat) : RowHas 89 (EDG_STG_CFG i) := ⟨_, rfl, by simp [RegRow.hits, EDG_STG_CFG]; omega⟩
theorem at_EDG_STG_STATUS (i : Nat) : RowHas 90 (EDG_STG_STATUS i) := ⟨_, rfl, by simp [RegRow.hits, EDG_STG_STATUS]; omega⟩
theorem at_EDG_STG_NODE_LO (i : Nat) : RowHas 91 (EDG_STG_NODE_LO i) := ⟨_, rfl, by simp [RegRow.hits, EDG_STG_NODE_LO]; omega⟩
theorem at_EDG_STG_NODE_HI (i : Nat) : RowHas 92 (EDG_STG_NODE_HI i) := ⟨_, rfl, by simp [RegRow.hits, EDG_STG_NODE_HI]; omega⟩
theorem at_EDG_LEG_PERIOD (i : Nat) : RowHas 93 (EDG_LEG_PERIOD i) ∨ RowHas 101 (EDG_LEG_PERIOD i) := by
  by_cases h : i % 408 < 384
  · exact .inl ⟨_, rfl, by simp [RegRow.hits, EDG_LEG_PERIOD]; omega⟩
  · exact .inr ⟨_, rfl, by simp [RegRow.hits, EDG_LEG_PERIOD]; omega⟩
theorem at_EDG_LEG_PHASE (i : Nat) : RowHas 94 (EDG_LEG_PHASE i) ∨ RowHas 102 (EDG_LEG_PHASE i) := by
  by_cases h : i % 408 < 384
  · exact .inl ⟨_, rfl, by simp [RegRow.hits, EDG_LEG_PHASE]; omega⟩
  · exact .inr ⟨_, rfl, by simp [RegRow.hits, EDG_LEG_PHASE]; omega⟩
theorem at_EDG_LEG_DEAD (i : Nat) : RowHas 95 (EDG_LEG_DEAD i) ∨ RowHas 103 (EDG_LEG_DEAD i) := by
  by_cases h : i % 408 < 384
  · exact .inl ⟨_, rfl, by simp [RegRow.hits, EDG_LEG_DEAD]; omega⟩
  · exact .inr ⟨_, rfl, by simp [RegRow.hits, EDG_LEG_DEAD]; omega⟩
theorem at_EDG_LEG_CFG (i : Nat) : RowHas 96 (EDG_LEG_CFG i) ∨ RowHas 104 (EDG_LEG_CFG i) ∨ RowHas 105 (EDG_LEG_CFG i) := by
  by_cases h : i % 408 < 384
  · exact .inl ⟨_, rfl, by simp [RegRow.hits, EDG_LEG_CFG]; omega⟩
  · by_cases e : i % 408 % 2 = 0
    · exact .inr (.inl ⟨_, rfl, by simp [RegRow.hits, EDG_LEG_CFG]; omega⟩)
    · exact .inr (.inr ⟨_, rfl, by simp [RegRow.hits, EDG_LEG_CFG]; omega⟩)
theorem at_EDG_LEG_RISE (i : Nat) : RowHas 97 (EDG_LEG_RISE i) ∨ RowHas 106 (EDG_LEG_RISE i) := by
  by_cases h : i % 408 < 384
  · exact .inl ⟨_, rfl, by simp [RegRow.hits, EDG_LEG_RISE]; omega⟩
  · exact .inr ⟨_, rfl, by simp [RegRow.hits, EDG_LEG_RISE]; omega⟩
theorem at_EDG_LEG_FALL (i : Nat) : RowHas 98 (EDG_LEG_FALL i) ∨ RowHas 107 (EDG_LEG_FALL i) := by
  by_cases h : i % 408 < 384
  · exact .inl ⟨_, rfl, by simp [RegRow.hits, EDG_LEG_FALL]; omega⟩
  · exact .inr ⟨_, rfl, by simp [RegRow.hits, EDG_LEG_FALL]; omega⟩
theorem at_EDG_LEG_CTL (i : Nat) : RowHas 99 (EDG_LEG_CTL i) ∨ RowHas 108 (EDG_LEG_CTL i) := by
  by_cases h : i % 408 < 384
  · exact .inl ⟨_, rfl, by simp [RegRow.hits, EDG_LEG_CTL]; omega⟩
  · exact .inr ⟨_, rfl, by simp [RegRow.hits, EDG_LEG_CTL]; omega⟩
theorem at_EDG_LEG_SHORT_CNT (i : Nat) : RowHas 100 (EDG_LEG_SHORT_CNT i) ∨ RowHas 109 (EDG_LEG_SHORT_CNT i) := by
  by_cases h : i % 408 < 384
  · exact .inl ⟨_, rfl, by simp [RegRow.hits, EDG_LEG_SHORT_CNT]; omega⟩
  · exact .inr ⟨_, rfl, by simp [RegRow.hits, EDG_LEG_SHORT_CNT]; omega⟩
theorem at_EDG_PWM_PERIOD (i : Nat) : RowHas 101 (EDG_PWM_PERIOD i) := ⟨_, rfl, by simp [RegRow.hits, EDG_PWM_PERIOD]; omega⟩
theorem at_EDG_PWM_PHASE (i : Nat) : RowHas 102 (EDG_PWM_PHASE i) := ⟨_, rfl, by simp [RegRow.hits, EDG_PWM_PHASE]; omega⟩
theorem at_EDG_PWM_DEAD (i : Nat) : RowHas 103 (EDG_PWM_DEAD i) := ⟨_, rfl, by simp [RegRow.hits, EDG_PWM_DEAD]; omega⟩
theorem at_EDG_PWM_CFG (i : Nat) : RowHas 104 (EDG_PWM_CFG i) ∨ RowHas 105 (EDG_PWM_CFG i) := by
  by_cases e : i % 24 % 2 = 0
  · exact .inl ⟨_, rfl, by simp [RegRow.hits, EDG_PWM_CFG]; omega⟩
  · exact .inr ⟨_, rfl, by simp [RegRow.hits, EDG_PWM_CFG]; omega⟩
theorem at_EDG_PWM_RISE (i : Nat) : RowHas 106 (EDG_PWM_RISE i) := ⟨_, rfl, by simp [RegRow.hits, EDG_PWM_RISE]; omega⟩
theorem at_EDG_PWM_FALL (i : Nat) : RowHas 107 (EDG_PWM_FALL i) := ⟨_, rfl, by simp [RegRow.hits, EDG_PWM_FALL]; omega⟩
theorem at_EDG_PWM_CTL (i : Nat) : RowHas 108 (EDG_PWM_CTL i) := ⟨_, rfl, by simp [RegRow.hits, EDG_PWM_CTL]; omega⟩
theorem at_EDG_PWM_SHORT_CNT (i : Nat) : RowHas 109 (EDG_PWM_SHORT_CNT i) := ⟨_, rfl, by simp [RegRow.hits, EDG_PWM_SHORT_CNT]; omega⟩
theorem at_EDG_FLT (i : Nat) : RowHas 110 (EDG_FLT i) := ⟨_, rfl, by simp [RegRow.hits, EDG_FLT]; omega⟩
theorem at_EDG_SLM_CFG (i : Nat) : RowHas 111 (EDG_SLM_CFG i) := ⟨_, rfl, by simp [RegRow.hits, EDG_SLM_CFG]; omega⟩
theorem at_EDG_SLM_STATUS (i : Nat) : RowHas 112 (EDG_SLM_STATUS i) := ⟨_, rfl, by simp [RegRow.hits, EDG_SLM_STATUS]; omega⟩
theorem at_CLE_CTRL : RowHas 120 CLE_CTRL := ⟨_, rfl, rfl⟩
theorem at_CLE_STATUS : RowHas 121 CLE_STATUS := ⟨_, rfl, rfl⟩
theorem at_CLE_REJECT_CNT : RowHas 122 CLE_REJECT_CNT := ⟨_, rfl, rfl⟩
theorem at_CLE_MISS_CNT : RowHas 123 CLE_MISS_CNT := ⟨_, rfl, rfl⟩
theorem at_CLE_CLOSED (i : Nat) : RowHas 124 (CLE_CLOSED i) := ⟨_, rfl, by simp [RegRow.hits, CLE_CLOSED]; omega⟩
theorem at_CLE_FAULT (i : Nat) : RowHas 125 (CLE_FAULT i) := ⟨_, rfl, by simp [RegRow.hits, CLE_FAULT]; omega⟩
theorem at_CLE_MAP_SRC (i : Nat) : RowHas 126 (CLE_MAP_SRC i) ∨ RowHas 133 (CLE_MAP_SRC i) := by
  by_cases h : i % 408 < 384
  · exact .inl ⟨_, rfl, by simp [RegRow.hits, CLE_MAP_SRC]; omega⟩
  · exact .inr ⟨_, rfl, by simp [RegRow.hits, CLE_MAP_SRC]; omega⟩
theorem at_CLE_MAP_C0 (i : Nat) : RowHas 127 (CLE_MAP_C0 i) ∨ RowHas 134 (CLE_MAP_C0 i) := by
  by_cases h : i % 408 < 384
  · exact .inl ⟨_, rfl, by simp [RegRow.hits, CLE_MAP_C0]; omega⟩
  · exact .inr ⟨_, rfl, by simp [RegRow.hits, CLE_MAP_C0]; omega⟩
theorem at_CLE_MAP_C1 (i : Nat) : RowHas 128 (CLE_MAP_C1 i) ∨ RowHas 135 (CLE_MAP_C1 i) := by
  by_cases h : i % 408 < 384
  · exact .inl ⟨_, rfl, by simp [RegRow.hits, CLE_MAP_C1]; omega⟩
  · exact .inr ⟨_, rfl, by simp [RegRow.hits, CLE_MAP_C1]; omega⟩
theorem at_CLE_MAP_OFS (i : Nat) : RowHas 129 (CLE_MAP_OFS i) ∨ RowHas 136 (CLE_MAP_OFS i) := by
  by_cases h : i % 408 < 384
  · exact .inl ⟨_, rfl, by simp [RegRow.hits, CLE_MAP_OFS]; omega⟩
  · exact .inr ⟨_, rfl, by simp [RegRow.hits, CLE_MAP_OFS]; omega⟩
theorem at_CLE_MAP_C0F (i : Nat) : RowHas 130 (CLE_MAP_C0F i) ∨ RowHas 137 (CLE_MAP_C0F i) := by
  by_cases h : i % 408 < 384
  · exact .inl ⟨_, rfl, by simp [RegRow.hits, CLE_MAP_C0F]; omega⟩
  · exact .inr ⟨_, rfl, by simp [RegRow.hits, CLE_MAP_C0F]; omega⟩
theorem at_CLE_MAP_C1F (i : Nat) : RowHas 131 (CLE_MAP_C1F i) ∨ RowHas 138 (CLE_MAP_C1F i) := by
  by_cases h : i % 408 < 384
  · exact .inl ⟨_, rfl, by simp [RegRow.hits, CLE_MAP_C1F]; omega⟩
  · exact .inr ⟨_, rfl, by simp [RegRow.hits, CLE_MAP_C1F]; omega⟩
theorem at_CLE_MAP_OFSF (i : Nat) : RowHas 132 (CLE_MAP_OFSF i) ∨ RowHas 139 (CLE_MAP_OFSF i) := by
  by_cases h : i % 408 < 384
  · exact .inl ⟨_, rfl, by simp [RegRow.hits, CLE_MAP_OFSF]; omega⟩
  · exact .inr ⟨_, rfl, by simp [RegRow.hits, CLE_MAP_OFSF]; omega⟩
theorem at_CLE_PWMMAP_SRC (i : Nat) : RowHas 133 (CLE_PWMMAP_SRC i) := ⟨_, rfl, by simp [RegRow.hits, CLE_PWMMAP_SRC]; omega⟩
theorem at_CLE_PWMMAP_C0 (i : Nat) : RowHas 134 (CLE_PWMMAP_C0 i) := ⟨_, rfl, by simp [RegRow.hits, CLE_PWMMAP_C0]; omega⟩
theorem at_CLE_PWMMAP_C1 (i : Nat) : RowHas 135 (CLE_PWMMAP_C1 i) := ⟨_, rfl, by simp [RegRow.hits, CLE_PWMMAP_C1]; omega⟩
theorem at_CLE_PWMMAP_OFS (i : Nat) : RowHas 136 (CLE_PWMMAP_OFS i) := ⟨_, rfl, by simp [RegRow.hits, CLE_PWMMAP_OFS]; omega⟩
theorem at_CLE_PWMMAP_C0F (i : Nat) : RowHas 137 (CLE_PWMMAP_C0F i) := ⟨_, rfl, by simp [RegRow.hits, CLE_PWMMAP_C0F]; omega⟩
theorem at_CLE_PWMMAP_C1F (i : Nat) : RowHas 138 (CLE_PWMMAP_C1F i) := ⟨_, rfl, by simp [RegRow.hits, CLE_PWMMAP_C1F]; omega⟩
theorem at_CLE_PWMMAP_OFSF (i : Nat) : RowHas 139 (CLE_PWMMAP_OFSF i) := ⟨_, rfl, by simp [RegRow.hits, CLE_PWMMAP_OFSF]; omega⟩
theorem at_CLE_SLOT_CTL (i : Nat) : RowHas 140 (CLE_SLOT_CTL i) := ⟨_, rfl, by simp [RegRow.hits, CLE_SLOT_CTL]; omega⟩
theorem at_CLE_SLOT_CFG (i : Nat) : RowHas 141 (CLE_SLOT_CFG i) := ⟨_, rfl, by simp [RegRow.hits, CLE_SLOT_CFG]; omega⟩
theorem at_CLE_SLOT_PERIOD (i : Nat) : RowHas 142 (CLE_SLOT_PERIOD i) := ⟨_, rfl, by simp [RegRow.hits, CLE_SLOT_PERIOD]; omega⟩
theorem at_CLE_SLOT_PHASE (i : Nat) : RowHas 143 (CLE_SLOT_PHASE i) := ⟨_, rfl, by simp [RegRow.hits, CLE_SLOT_PHASE]; omega⟩
theorem at_CLE_SLOT_DEADLINE (i : Nat) : RowHas 144 (CLE_SLOT_DEADLINE i) := ⟨_, rfl, by simp [RegRow.hits, CLE_SLOT_DEADLINE]; omega⟩
theorem at_CLE_SLOT_SRCA (i : Nat) : RowHas 145 (CLE_SLOT_SRCA i) := ⟨_, rfl, by simp [RegRow.hits, CLE_SLOT_SRCA]; omega⟩
theorem at_CLE_SLOT_SRCB (i : Nat) : RowHas 146 (CLE_SLOT_SRCB i) := ⟨_, rfl, by simp [RegRow.hits, CLE_SLOT_SRCB]; omega⟩
theorem at_CLE_SLOT_LAT (i : Nat) : RowHas 147 (CLE_SLOT_LAT i) := ⟨_, rfl, by simp [RegRow.hits, CLE_SLOT_LAT]; omega⟩
theorem at_CLE_SLOT_GAIN_A (i : Nat) : RowHas 148 (CLE_SLOT_GAIN_A i) := ⟨_, rfl, by simp [RegRow.hits, CLE_SLOT_GAIN_A]; omega⟩
theorem at_CLE_SLOT_OFS_A (i : Nat) : RowHas 149 (CLE_SLOT_OFS_A i) := ⟨_, rfl, by simp [RegRow.hits, CLE_SLOT_OFS_A]; omega⟩
theorem at_CLE_SLOT_GAIN_B (i : Nat) : RowHas 150 (CLE_SLOT_GAIN_B i) := ⟨_, rfl, by simp [RegRow.hits, CLE_SLOT_GAIN_B]; omega⟩
theorem at_CLE_SLOT_OFS_B (i : Nat) : RowHas 151 (CLE_SLOT_OFS_B i) := ⟨_, rfl, by simp [RegRow.hits, CLE_SLOT_OFS_B]; omega⟩
theorem at_CLE_SLOT_SP_TAU (i : Nat) : RowHas 152 (CLE_SLOT_SP_TAU i) := ⟨_, rfl, by simp [RegRow.hits, CLE_SLOT_SP_TAU]; omega⟩
theorem at_CLE_SLOT_SP_SLEW (i : Nat) : RowHas 153 (CLE_SLOT_SP_SLEW i) := ⟨_, rfl, by simp [RegRow.hits, CLE_SLOT_SP_SLEW]; omega⟩
theorem at_CLE_SLOT_SP_REG (i : Nat) : RowHas 154 (CLE_SLOT_SP_REG i) := ⟨_, rfl, by simp [RegRow.hits, CLE_SLOT_SP_REG]; omega⟩
theorem at_CLE_SLOT_FAULT_VALUE (i : Nat) : RowHas 155 (CLE_SLOT_FAULT_VALUE i) := ⟨_, rfl, by simp [RegRow.hits, CLE_SLOT_FAULT_VALUE]; omega⟩
theorem at_CLE_SLOT_YMIN0 (i : Nat) : RowHas 156 (CLE_SLOT_YMIN0 i) := ⟨_, rfl, by simp [RegRow.hits, CLE_SLOT_YMIN0]; omega⟩
theorem at_CLE_SLOT_YMAX0 (i : Nat) : RowHas 157 (CLE_SLOT_YMAX0 i) := ⟨_, rfl, by simp [RegRow.hits, CLE_SLOT_YMAX0]; omega⟩
theorem at_CLE_SLOT_YMIN1 (i : Nat) : RowHas 158 (CLE_SLOT_YMIN1 i) := ⟨_, rfl, by simp [RegRow.hits, CLE_SLOT_YMIN1]; omega⟩
theorem at_CLE_SLOT_YMAX1 (i : Nat) : RowHas 159 (CLE_SLOT_YMAX1 i) := ⟨_, rfl, by simp [RegRow.hits, CLE_SLOT_YMAX1]; omega⟩
theorem at_CLE_SLOT_OUT0 (i : Nat) : RowHas 160 (CLE_SLOT_OUT0 i) := ⟨_, rfl, by simp [RegRow.hits, CLE_SLOT_OUT0]; omega⟩
theorem at_CLE_SLOT_OUT1 (i : Nat) : RowHas 161 (CLE_SLOT_OUT1 i) := ⟨_, rfl, by simp [RegRow.hits, CLE_SLOT_OUT1]; omega⟩
theorem at_CLE_SLOT_MISS_CNT (i : Nat) : RowHas 162 (CLE_SLOT_MISS_CNT i) := ⟨_, rfl, by simp [RegRow.hits, CLE_SLOT_MISS_CNT]; omega⟩
theorem at_CLE_SLOT_COEF (i j : Nat) : RowHas 163 (CLE_SLOT_COEF i j) := ⟨_, rfl, by simp [RegRow.hits, CLE_SLOT_COEF]; omega⟩
theorem at_CLE_SLOT_STATEW (i j : Nat) : RowHas 164 (CLE_SLOT_STATEW i j) := ⟨_, rfl, by simp [RegRow.hits, CLE_SLOT_STATEW]; omega⟩
theorem at_THM_CTRL : RowHas 168 THM_CTRL := ⟨_, rfl, rfl⟩
theorem at_THM_STATUS : RowHas 169 THM_STATUS := ⟨_, rfl, rfl⟩
theorem at_THM_REJECT_CNT : RowHas 170 THM_REJECT_CNT := ⟨_, rfl, rfl⟩
theorem at_THM_DIE (i : Nat) : RowHas 171 (THM_DIE i) := ⟨_, rfl, by simp [RegRow.hits, THM_DIE]; omega⟩
theorem at_THM_DIE_CFG : RowHas 172 THM_DIE_CFG := ⟨_, rfl, rfl⟩
theorem at_THM_SET_CFG (i : Nat) : RowHas 173 (THM_SET_CFG i) := ⟨_, rfl, by simp [RegRow.hits, THM_SET_CFG]; omega⟩
theorem at_THM_SNS_CFG (i : Nat) : RowHas 174 (THM_SNS_CFG i) := ⟨_, rfl, by simp [RegRow.hits, THM_SNS_CFG]; omega⟩
theorem at_THM_SNS_PARAM0 (i : Nat) : RowHas 175 (THM_SNS_PARAM0 i) := ⟨_, rfl, by simp [RegRow.hits, THM_SNS_PARAM0]; omega⟩
theorem at_THM_SNS_PARAM1 (i : Nat) : RowHas 176 (THM_SNS_PARAM1 i) := ⟨_, rfl, by simp [RegRow.hits, THM_SNS_PARAM1]; omega⟩
theorem at_THM_SNS_VAL (i : Nat) : RowHas 177 (THM_SNS_VAL i) := ⟨_, rfl, by simp [RegRow.hits, THM_SNS_VAL]; omega⟩
theorem at_THM_CAB_CFG (i : Nat) : RowHas 178 (THM_CAB_CFG i) := ⟨_, rfl, by simp [RegRow.hits, THM_CAB_CFG]; omega⟩
theorem at_THM_CAB_TEMP (i : Nat) : RowHas 179 (THM_CAB_TEMP i) := ⟨_, rfl, by simp [RegRow.hits, THM_CAB_TEMP]; omega⟩
theorem at_THM_CAB_FLOW (i : Nat) : RowHas 180 (THM_CAB_FLOW i) := ⟨_, rfl, by simp [RegRow.hits, THM_CAB_FLOW]; omega⟩
theorem at_THM_CAB_FLOW_K (i : Nat) : RowHas 181 (THM_CAB_FLOW_K i) := ⟨_, rfl, by simp [RegRow.hits, THM_CAB_FLOW_K]; omega⟩
theorem at_THM_CAB_C1 (i : Nat) : RowHas 182 (THM_CAB_C1 i) := ⟨_, rfl, by simp [RegRow.hits, THM_CAB_C1]; omega⟩
theorem at_THM_CAB_C2 (i : Nat) : RowHas 183 (THM_CAB_C2 i) := ⟨_, rfl, by simp [RegRow.hits, THM_CAB_C2]; omega⟩
theorem at_THM_CAB_C3 (i : Nat) : RowHas 184 (THM_CAB_C3 i) := ⟨_, rfl, by simp [RegRow.hits, THM_CAB_C3]; omega⟩
theorem at_THM_CAB_G12 (i : Nat) : RowHas 185 (THM_CAB_G12 i) := ⟨_, rfl, by simp [RegRow.hits, THM_CAB_G12]; omega⟩
theorem at_THM_CAB_G13 (i : Nat) : RowHas 186 (THM_CAB_G13 i) := ⟨_, rfl, by simp [RegRow.hits, THM_CAB_G13]; omega⟩
theorem at_THM_CAB_G23 (i : Nat) : RowHas 187 (THM_CAB_G23 i) := ⟨_, rfl, by simp [RegRow.hits, THM_CAB_G23]; omega⟩
theorem at_THM_CAB_GF (i : Nat) : RowHas 188 (THM_CAB_GF i) := ⟨_, rfl, by simp [RegRow.hits, THM_CAB_GF]; omega⟩
theorem at_THM_CAB_RC (i : Nat) : RowHas 189 (THM_CAB_RC i) := ⟨_, rfl, by simp [RegRow.hits, THM_CAB_RC]; omega⟩
theorem at_THM_CAB_ALPHA (i : Nat) : RowHas 190 (THM_CAB_ALPHA i) := ⟨_, rfl, by simp [RegRow.hits, THM_CAB_ALPHA]; omega⟩
theorem at_THM_CAB_RP (i : Nat) : RowHas 191 (THM_CAB_RP i) := ⟨_, rfl, by simp [RegRow.hits, THM_CAB_RP]; omega⟩
theorem at_THM_CAB_OBS (i : Nat) : RowHas 192 (THM_CAB_OBS i) := ⟨_, rfl, by simp [RegRow.hits, THM_CAB_OBS]; omega⟩
theorem at_THM_CAB_LOOP (i : Nat) : RowHas 193 (THM_CAB_LOOP i) := ⟨_, rfl, by simp [RegRow.hits, THM_CAB_LOOP]; omega⟩
theorem at_THM_CAB_LIMIT (i : Nat) : RowHas 194 (THM_CAB_LIMIT i) := ⟨_, rfl, by simp [RegRow.hits, THM_CAB_LIMIT]; omega⟩
theorem at_THM_CAB_HOT (i : Nat) : RowHas 195 (THM_CAB_HOT i) := ⟨_, rfl, by simp [RegRow.hits, THM_CAB_HOT]; omega⟩
theorem at_THM_CAB_COOL (i : Nat) : RowHas 196 (THM_CAB_COOL i) := ⟨_, rfl, by simp [RegRow.hits, THM_CAB_COOL]; omega⟩
theorem at_THM_CAB_STATUS (i : Nat) : RowHas 197 (THM_CAB_STATUS i) := ⟨_, rfl, by simp [RegRow.hits, THM_CAB_STATUS]; omega⟩
theorem at_THM_LOOP_CFG (i : Nat) : RowHas 198 (THM_LOOP_CFG i) := ⟨_, rfl, by simp [RegRow.hits, THM_LOOP_CFG]; omega⟩
theorem at_THM_LOOP_NODE_LO (i : Nat) : RowHas 199 (THM_LOOP_NODE_LO i) := ⟨_, rfl, by simp [RegRow.hits, THM_LOOP_NODE_LO]; omega⟩
theorem at_THM_LOOP_NODE_HI (i : Nat) : RowHas 200 (THM_LOOP_NODE_HI i) := ⟨_, rfl, by simp [RegRow.hits, THM_LOOP_NODE_HI]; omega⟩
theorem at_THM_LOOP_STATUS (i : Nat) : RowHas 201 (THM_LOOP_STATUS i) := ⟨_, rfl, by simp [RegRow.hits, THM_LOOP_STATUS]; omega⟩
theorem at_PST_PROT_CTRL : RowHas 204 PST_PROT_CTRL := ⟨_, rfl, rfl⟩
theorem at_PST_PROT_STATUS : RowHas 205 PST_PROT_STATUS := ⟨_, rfl, rfl⟩
theorem at_PST_ADMIT : RowHas 206 PST_ADMIT := ⟨_, rfl, rfl⟩
theorem at_PST_FRAME_ERR : RowHas 207 PST_FRAME_ERR := ⟨_, rfl, rfl⟩
theorem at_PST_EDGE_LATE : RowHas 208 PST_EDGE_LATE := ⟨_, rfl, rfl⟩
theorem at_PST_CEN_STATUS (i : Nat) : RowHas 209 (PST_CEN_STATUS i) := ⟨_, rfl, by simp [RegRow.hits, PST_CEN_STATUS]; omega⟩
theorem at_PST_CEN_LAT (i : Nat) : RowHas 210 (PST_CEN_LAT i) := ⟨_, rfl, by simp [RegRow.hits, PST_CEN_LAT]; omega⟩
theorem at_PST_CEN_RESID (i : Nat) : RowHas 211 (PST_CEN_RESID i) := ⟨_, rfl, by simp [RegRow.hits, PST_CEN_RESID]; omega⟩
theorem at_PST_CEN_TIME (i : Nat) : RowHas 212 (PST_CEN_TIME i) := ⟨_, rfl, by simp [RegRow.hits, PST_CEN_TIME]; omega⟩
theorem at_PST_CEN_LINK1 (i : Nat) : RowHas 213 (PST_CEN_LINK1 i) := ⟨_, rfl, by simp [RegRow.hits, PST_CEN_LINK1]; omega⟩
theorem at_PST_CEN_COUNT (i : Nat) : RowHas 214 (PST_CEN_COUNT i) := ⟨_, rfl, by simp [RegRow.hits, PST_CEN_COUNT]; omega⟩
theorem at_PST_PHY_SUMMARY : RowHas 215 PST_PHY_SUMMARY := ⟨_, rfl, rfl⟩
theorem at_PST_TWIN : RowHas 216 PST_TWIN := ⟨_, rfl, rfl⟩
theorem at_PST_PHY_REJECT_CNT : RowHas 217 PST_PHY_REJECT_CNT := ⟨_, rfl, rfl⟩
theorem at_PST_PHY_CTL (i : Nat) : RowHas 218 (PST_PHY_CTL i) := ⟨_, rfl, by simp [RegRow.hits, PST_PHY_CTL]; omega⟩
theorem at_PST_PHY_STATE (i : Nat) : RowHas 219 (PST_PHY_STATE i) := ⟨_, rfl, by simp [RegRow.hits, PST_PHY_STATE]; omega⟩
theorem at_PST_PHY_TX (i : Nat) : RowHas 220 (PST_PHY_TX i) := ⟨_, rfl, by simp [RegRow.hits, PST_PHY_TX]; omega⟩
theorem at_PST_PHY_EQ (i : Nat) : RowHas 221 (PST_PHY_EQ i) := ⟨_, rfl, by simp [RegRow.hits, PST_PHY_EQ]; omega⟩
theorem at_PST_PHY_DFE (i : Nat) : RowHas 222 (PST_PHY_DFE i) := ⟨_, rfl, by simp [RegRow.hits, PST_PHY_DFE]; omega⟩
theorem at_PST_PHY_BLKERR (i : Nat) : RowHas 223 (PST_PHY_BLKERR i) := ⟨_, rfl, by simp [RegRow.hits, PST_PHY_BLKERR]; omega⟩
theorem at_PST_PHY_LOCKLOSS (i : Nat) : RowHas 224 (PST_PHY_LOCKLOSS i) := ⟨_, rfl, by simp [RegRow.hits, PST_PHY_LOCKLOSS]; omega⟩
theorem at_PST_PHY_PRBS (i : Nat) : RowHas 225 (PST_PHY_PRBS i) := ⟨_, rfl, by simp [RegRow.hits, PST_PHY_PRBS]; omega⟩
theorem at_PST_NODE_ID_LO (i : Nat) : RowHas 226 (PST_NODE_ID_LO i) := ⟨_, rfl, by simp [RegRow.hits, PST_NODE_ID_LO]; omega⟩
theorem at_PST_NODE_ID_HI (i : Nat) : RowHas 227 (PST_NODE_ID_HI i) := ⟨_, rfl, by simp [RegRow.hits, PST_NODE_ID_HI]; omega⟩
theorem at_PST_NODE_INFO (i : Nat) : RowHas 228 (PST_NODE_INFO i) := ⟨_, rfl, by simp [RegRow.hits, PST_NODE_INFO]; omega⟩
theorem at_PST_NODE_PATH (i : Nat) : RowHas 229 (PST_NODE_PATH i) := ⟨_, rfl, by simp [RegRow.hits, PST_NODE_PATH]; omega⟩
theorem at_PST_NODE_DELAY (i : Nat) : RowHas 230 (PST_NODE_DELAY i) := ⟨_, rfl, by simp [RegRow.hits, PST_NODE_DELAY]; omega⟩
theorem at_PST_NODE_MAKER (i : Nat) : RowHas 231 (PST_NODE_MAKER i) := ⟨_, rfl, by simp [RegRow.hits, PST_NODE_MAKER]; omega⟩
theorem at_PST_NODE_ERR (i : Nat) : RowHas 232 (PST_NODE_ERR i) := ⟨_, rfl, by simp [RegRow.hits, PST_NODE_ERR]; omega⟩
theorem at_PST_NODE_AGE (i : Nat) : RowHas 233 (PST_NODE_AGE i) := ⟨_, rfl, by simp [RegRow.hits, PST_NODE_AGE]; omega⟩
theorem at_SLN_CTRL : RowHas 240 SLN_CTRL := ⟨_, rfl, rfl⟩
theorem at_SLN_STATUS : RowHas 241 SLN_STATUS := ⟨_, rfl, rfl⟩
theorem at_SLN_REJECT_CNT : RowHas 242 SLN_REJECT_CNT := ⟨_, rfl, rfl⟩
theorem at_SLN_SF_NUM : RowHas 243 SLN_SF_NUM := ⟨_, rfl, rfl⟩
theorem at_SLN_NOISE : RowHas 244 SLN_NOISE := ⟨_, rfl, rfl⟩
theorem at_SLN_TX : RowHas 245 SLN_TX := ⟨_, rfl, rfl⟩
theorem at_SLN_NOTCH (i : Nat) : RowHas 246 (SLN_NOTCH i) := ⟨_, rfl, by simp [RegRow.hits, SLN_NOTCH]; omega⟩
theorem at_SLN_DISP_CFG : RowHas 247 SLN_DISP_CFG := ⟨_, rfl, rfl⟩
theorem at_SLN_ADMIT : RowHas 248 SLN_ADMIT := ⟨_, rfl, rfl⟩
theorem at_SLN_CNT_DEFER : RowHas 249 SLN_CNT_DEFER := ⟨_, rfl, rfl⟩
theorem at_SLN_CNT_RETX : RowHas 250 SLN_CNT_RETX := ⟨_, rfl, rfl⟩
theorem at_SLN_CNT_DROP : RowHas 251 SLN_CNT_DROP := ⟨_, rfl, rfl⟩
theorem at_SLN_CNT_SLIP : RowHas 252 SLN_CNT_SLIP := ⟨_, rfl, rfl⟩
theorem at_SLN_CNT_CRC : RowHas 253 SLN_CNT_CRC := ⟨_, rfl, rfl⟩
theorem at_SLN_NODE_ID_LO (i : Nat) : RowHas 254 (SLN_NODE_ID_LO i) := ⟨_, rfl, by simp [RegRow.hits, SLN_NODE_ID_LO]; omega⟩
theorem at_SLN_NODE_ID_HI (i : Nat) : RowHas 255 (SLN_NODE_ID_HI i) := ⟨_, rfl, by simp [RegRow.hits, SLN_NODE_ID_HI]; omega⟩
theorem at_SLN_NODE_INFO (i : Nat) : RowHas 256 (SLN_NODE_INFO i) := ⟨_, rfl, by simp [RegRow.hits, SLN_NODE_INFO]; omega⟩
theorem at_SLN_NODE_LINK (i : Nat) : RowHas 257 (SLN_NODE_LINK i) := ⟨_, rfl, by simp [RegRow.hits, SLN_NODE_LINK]; omega⟩
theorem at_SLN_NODE_CFG (i : Nat) : RowHas 258 (SLN_NODE_CFG i) := ⟨_, rfl, by simp [RegRow.hits, SLN_NODE_CFG]; omega⟩
theorem at_SLN_NODE_ERR (i : Nat) : RowHas 259 (SLN_NODE_ERR i) := ⟨_, rfl, by simp [RegRow.hits, SLN_NODE_ERR]; omega⟩
theorem at_SLN_NODE_AGE (i : Nat) : RowHas 260 (SLN_NODE_AGE i) := ⟨_, rfl, by simp [RegRow.hits, SLN_NODE_AGE]; omega⟩
theorem at_VSS_CTRL : RowHas 264 VSS_CTRL := ⟨_, rfl, rfl⟩
theorem at_VSS_STATUS : RowHas 265 VSS_STATUS := ⟨_, rfl, rfl⟩
theorem at_VSS_REJECT_CNT : RowHas 266 VSS_REJECT_CNT := ⟨_, rfl, rfl⟩
theorem at_VSS_TIMERS : RowHas 267 VSS_TIMERS := ⟨_, rfl, rfl⟩
theorem at_VSS_PROTO_ERR : RowHas 268 VSS_PROTO_ERR := ⟨_, rfl, rfl⟩
theorem at_VSS_OUT_CFG (i : Nat) : RowHas 269 (VSS_OUT_CFG i) := ⟨_, rfl, by simp [RegRow.hits, VSS_OUT_CFG]; omega⟩
theorem at_VSS_OUT_LIM (i : Nat) : RowHas 270 (VSS_OUT_LIM i) := ⟨_, rfl, by simp [RegRow.hits, VSS_OUT_LIM]; omega⟩
theorem at_VSS_OUT_ISO (i : Nat) : RowHas 271 (VSS_OUT_ISO i) := ⟨_, rfl, by simp [RegRow.hits, VSS_OUT_ISO]; omega⟩
theorem at_VSS_OUT_TLS (i : Nat) : RowHas 272 (VSS_OUT_TLS i) := ⟨_, rfl, by simp [RegRow.hits, VSS_OUT_TLS]; omega⟩
theorem at_VSS_OUT_NODE_LO (i : Nat) : RowHas 273 (VSS_OUT_NODE_LO i) := ⟨_, rfl, by simp [RegRow.hits, VSS_OUT_NODE_LO]; omega⟩
theorem at_VSS_OUT_NODE_HI (i : Nat) : RowHas 274 (VSS_OUT_NODE_HI i) := ⟨_, rfl, by simp [RegRow.hits, VSS_OUT_NODE_HI]; omega⟩
theorem at_VSS_OUT_MAC_LO (i : Nat) : RowHas 275 (VSS_OUT_MAC_LO i) := ⟨_, rfl, by simp [RegRow.hits, VSS_OUT_MAC_LO]; omega⟩
theorem at_VSS_OUT_MAC_HI (i : Nat) : RowHas 276 (VSS_OUT_MAC_HI i) := ⟨_, rfl, by simp [RegRow.hits, VSS_OUT_MAC_HI]; omega⟩
theorem at_VSS_OUT_STATE (i : Nat) : RowHas 277 (VSS_OUT_STATE i) := ⟨_, rfl, by simp [RegRow.hits, VSS_OUT_STATE]; omega⟩
theorem at_VSS_OUT_CTL (i : Nat) : RowHas 278 (VSS_OUT_CTL i) := ⟨_, rfl, by simp [RegRow.hits, VSS_OUT_CTL]; omega⟩
theorem at_VSS_OUT_SID_LO (i : Nat) : RowHas 279 (VSS_OUT_SID_LO i) := ⟨_, rfl, by simp [RegRow.hits, VSS_OUT_SID_LO]; omega⟩
theorem at_VSS_OUT_SID_HI (i : Nat) : RowHas 280 (VSS_OUT_SID_HI i) := ⟨_, rfl, by simp [RegRow.hits, VSS_OUT_SID_HI]; omega⟩
theorem at_VSS_OUT_REQ (i : Nat) : RowHas 281 (VSS_OUT_REQ i) := ⟨_, rfl, by simp [RegRow.hits, VSS_OUT_REQ]; omega⟩
theorem at_VSS_OUT_EVLIM (i : Nat) : RowHas 282 (VSS_OUT_EVLIM i) := ⟨_, rfl, by simp [RegRow.hits, VSS_OUT_EVLIM]; omega⟩
theorem at_CAN_SUMMARY : RowHas 288 CAN_SUMMARY := ⟨_, rfl, rfl⟩
theorem at_CAN_REJECT_CNT : RowHas 289 CAN_REJECT_CNT := ⟨_, rfl, rfl⟩
theorem at_CAN_CTL (i : Nat) : RowHas 290 (CAN_CTL i) := ⟨_, rfl, by simp [RegRow.hits, CAN_CTL]; omega⟩
theorem at_CAN_NBT (i : Nat) : RowHas 291 (CAN_NBT i) := ⟨_, rfl, by simp [RegRow.hits, CAN_NBT]; omega⟩
theorem at_CAN_DBT (i : Nat) : RowHas 292 (CAN_DBT i) := ⟨_, rfl, by simp [RegRow.hits, CAN_DBT]; omega⟩
theorem at_CAN_TDC (i : Nat) : RowHas 293 (CAN_TDC i) := ⟨_, rfl, by simp [RegRow.hits, CAN_TDC]; omega⟩
theorem at_CAN_STATUS (i : Nat) : RowHas 294 (CAN_STATUS i) := ⟨_, rfl, by simp [RegRow.hits, CAN_STATUS]; omega⟩
theorem at_CAN_ERRCNT (i : Nat) : RowHas 295 (CAN_ERRCNT i) := ⟨_, rfl, by simp [RegRow.hits, CAN_ERRCNT]; omega⟩
theorem at_CAN_RING (i : Nat) : RowHas 296 (CAN_RING i) := ⟨_, rfl, by simp [RegRow.hits, CAN_RING]; omega⟩
theorem at_CAN_CNT_RX (i : Nat) : RowHas 297 (CAN_CNT_RX i) := ⟨_, rfl, by simp [RegRow.hits, CAN_CNT_RX]; omega⟩
theorem at_CAN_CNT_TX (i : Nat) : RowHas 298 (CAN_CNT_TX i) := ⟨_, rfl, by simp [RegRow.hits, CAN_CNT_TX]; omega⟩
theorem at_CAN_CNT_DROP (i : Nat) : RowHas 299 (CAN_CNT_DROP i) := ⟨_, rfl, by simp [RegRow.hits, CAN_CNT_DROP]; omega⟩
theorem at_CAN_CNT_BOFF (i : Nat) : RowHas 300 (CAN_CNT_BOFF i) := ⟨_, rfl, by simp [RegRow.hits, CAN_CNT_BOFF]; omega⟩
theorem at_CAN_FLT_ID (i j : Nat) : RowHas 301 (CAN_FLT_ID i j) := ⟨_, rfl, by simp [RegRow.hits, CAN_FLT_ID]; omega⟩
theorem at_CAN_FLT_MASK (i j : Nat) : RowHas 302 (CAN_FLT_MASK i j) := ⟨_, rfl, by simp [RegRow.hits, CAN_FLT_MASK]; omega⟩
theorem at_CAN_FLT_DEST (i j : Nat) : RowHas 303 (CAN_FLT_DEST i j) := ⟨_, rfl, by simp [RegRow.hits, CAN_FLT_DEST]; omega⟩
theorem at_MTR_CFG : RowHas 312 MTR_CFG := ⟨_, rfl, rfl⟩
theorem at_MTR_STATUS : RowHas 313 MTR_STATUS := ⟨_, rfl, rfl⟩
theorem at_MTR_REJECT_CNT : RowHas 314 MTR_REJECT_CNT := ⟨_, rfl, rfl⟩
theorem at_MTR_CAL_CNT : RowHas 315 MTR_CAL_CNT := ⟨_, rfl, rfl⟩
theorem at_MTR_BLOCK_LO : RowHas 316 MTR_BLOCK_LO := ⟨_, rfl, rfl⟩
theorem at_MTR_BLOCK_HI : RowHas 317 MTR_BLOCK_HI := ⟨_, rfl, rfl⟩
theorem at_MTR_SAVE_STATUS : RowHas 318 MTR_SAVE_STATUS := ⟨_, rfl, rfl⟩
theorem at_MTR_SAVE_SEQ_LO : RowHas 319 MTR_SAVE_SEQ_LO := ⟨_, rfl, rfl⟩
theorem at_MTR_SAVE_SEQ_HI : RowHas 320 MTR_SAVE_SEQ_HI := ⟨_, rfl, rfl⟩
theorem at_MTR_LOSS_CNT : RowHas 321 MTR_LOSS_CNT := ⟨_, rfl, rfl⟩
theorem at_MTR_HARM_SEQ : RowHas 322 MTR_HARM_SEQ := ⟨_, rfl, rfl⟩
theorem at_MTR_GP_CFG (i : Nat) : RowHas 323 (MTR_GP_CFG i) := ⟨_, rfl, by simp [RegRow.hits, MTR_GP_CFG]; omega⟩
theorem at_MTR_GP_RATED (i : Nat) : RowHas 324 (MTR_GP_RATED i) := ⟨_, rfl, by simp [RegRow.hits, MTR_GP_RATED]; omega⟩
theorem at_MTR_GP_STATUS (i : Nat) : RowHas 325 (MTR_GP_STATUS i) := ⟨_, rfl, by simp [RegRow.hits, MTR_GP_STATUS]; omega⟩
theorem at_MTR_GP_P (i : Nat) : RowHas 326 (MTR_GP_P i) := ⟨_, rfl, by simp [RegRow.hits, MTR_GP_P]; omega⟩
theorem at_MTR_GP_Q (i : Nat) : RowHas 327 (MTR_GP_Q i) := ⟨_, rfl, by simp [RegRow.hits, MTR_GP_Q]; omega⟩
theorem at_MTR_GP_FREQ (i : Nat) : RowHas 328 (MTR_GP_FREQ i) := ⟨_, rfl, by simp [RegRow.hits, MTR_GP_FREQ]; omega⟩
theorem at_MTR_GP_GAP_LO (i : Nat) : RowHas 329 (MTR_GP_GAP_LO i) := ⟨_, rfl, by simp [RegRow.hits, MTR_GP_GAP_LO]; omega⟩
theorem at_MTR_GP_GAP_HI (i : Nat) : RowHas 330 (MTR_GP_GAP_HI i) := ⟨_, rfl, by simp [RegRow.hits, MTR_GP_GAP_HI]; omega⟩
theorem at_MTR_GP_OVR_CNT (i : Nat) : RowHas 331 (MTR_GP_OVR_CNT i) := ⟨_, rfl, by simp [RegRow.hits, MTR_GP_OVR_CNT]; omega⟩
theorem at_MTR_CH_RATIO (i : Nat) : RowHas 332 (MTR_CH_RATIO i) := ⟨_, rfl, by simp [RegRow.hits, MTR_CH_RATIO]; omega⟩
theorem at_MTR_CH_GAIN (i : Nat) : RowHas 333 (MTR_CH_GAIN i) := ⟨_, rfl, by simp [RegRow.hits, MTR_CH_GAIN]; omega⟩
theorem at_MTR_CH_OFS (i : Nat) : RowHas 334 (MTR_CH_OFS i) := ⟨_, rfl, by simp [RegRow.hits, MTR_CH_OFS]; omega⟩
theorem at_MTR_CH_PHASE (i : Nat) : RowHas 335 (MTR_CH_PHASE i) := ⟨_, rfl, by simp [RegRow.hits, MTR_CH_PHASE]; omega⟩
theorem at_MTR_CH_RMS (i : Nat) : RowHas 336 (MTR_CH_RMS i) := ⟨_, rfl, by simp [RegRow.hits, MTR_CH_RMS]; omega⟩
theorem at_MTR_CH_THD (i : Nat) : RowHas 337 (MTR_CH_THD i) := ⟨_, rfl, by simp [RegRow.hits, MTR_CH_THD]; omega⟩
theorem at_MTR_CH_STATUS (i : Nat) : RowHas 338 (MTR_CH_STATUS i) := ⟨_, rfl, by simp [RegRow.hits, MTR_CH_STATUS]; omega⟩
theorem at_MTR_HEAD_GAIN_V (i : Nat) : RowHas 339 (MTR_HEAD_GAIN_V i) := ⟨_, rfl, by simp [RegRow.hits, MTR_HEAD_GAIN_V]; omega⟩
theorem at_MTR_HEAD_GAIN_I (i : Nat) : RowHas 340 (MTR_HEAD_GAIN_I i) := ⟨_, rfl, by simp [RegRow.hits, MTR_HEAD_GAIN_I]; omega⟩
theorem at_MTR_HEAD_OFS_V (i : Nat) : RowHas 341 (MTR_HEAD_OFS_V i) := ⟨_, rfl, by simp [RegRow.hits, MTR_HEAD_OFS_V]; omega⟩
theorem at_MTR_HEAD_OFS_I (i : Nat) : RowHas 342 (MTR_HEAD_OFS_I i) := ⟨_, rfl, by simp [RegRow.hits, MTR_HEAD_OFS_I]; omega⟩
theorem at_MTR_E_LO (i : Nat) : RowHas 343 (MTR_E_LO i) := ⟨_, rfl, by simp [RegRow.hits, MTR_E_LO]; omega⟩
theorem at_MTR_E_HI (i : Nat) : RowHas 344 (MTR_E_HI i) := ⟨_, rfl, by simp [RegRow.hits, MTR_E_HI]; omega⟩
theorem at_MTR_E_WRAP (i : Nat) : RowHas 345 (MTR_E_WRAP i) := ⟨_, rfl, by simp [RegRow.hits, MTR_E_WRAP]; omega⟩
theorem at_MTR_PLS_CFG (i : Nat) : RowHas 346 (MTR_PLS_CFG i) := ⟨_, rfl, by simp [RegRow.hits, MTR_PLS_CFG]; omega⟩
theorem at_MTR_PLS_CONST (i : Nat) : RowHas 347 (MTR_PLS_CONST i) := ⟨_, rfl, by simp [RegRow.hits, MTR_PLS_CONST]; omega⟩
theorem at_MTR_PLS_STATUS (i : Nat) : RowHas 348 (MTR_PLS_STATUS i) := ⟨_, rfl, by simp [RegRow.hits, MTR_PLS_STATUS]; omega⟩
theorem at_MTR_PLS_LOST (i : Nat) : RowHas 349 (MTR_PLS_LOST i) := ⟨_, rfl, by simp [RegRow.hits, MTR_PLS_LOST]; omega⟩
theorem at_MTR_HARM_MAG (i : Nat) : RowHas 350 (MTR_HARM_MAG i) := ⟨_, rfl, by simp [RegRow.hits, MTR_HARM_MAG]; omega⟩
theorem at_MTR_HARM_PH (i : Nat) : RowHas 351 (MTR_HARM_PH i) := ⟨_, rfl, by simp [RegRow.hits, MTR_HARM_PH]; omega⟩
theorem at_BIL_STATUS : RowHas 360 BIL_STATUS := ⟨_, rfl, rfl⟩
theorem at_BIL_REJECT_CNT : RowHas 361 BIL_REJECT_CNT := ⟨_, rfl, rfl⟩
theorem at_BIL_PERIOD_NO : RowHas 362 BIL_PERIOD_NO := ⟨_, rfl, rfl⟩
theorem at_BIL_UTC_LO : RowHas 363 BIL_UTC_LO := ⟨_, rfl, rfl⟩
theorem at_BIL_UTC_HI : RowHas 364 BIL_UTC_HI := ⟨_, rfl, rfl⟩
theorem at_BIL_SLEW : RowHas 365 BIL_SLEW := ⟨_, rfl, rfl⟩
theorem at_BIL_CFG : RowHas 366 BIL_CFG := ⟨_, rfl, rfl⟩
theorem at_BIL_TZ : RowHas 367 BIL_TZ := ⟨_, rfl, rfl⟩
theorem at_BIL_MAN_CFG : RowHas 368 BIL_MAN_CFG := ⟨_, rfl, rfl⟩
theorem at_BIL_ROLE_SLOT : RowHas 369 BIL_ROLE_SLOT := ⟨_, rfl, rfl⟩
theorem at_BIL_MAN_STATUS : RowHas 370 BIL_MAN_STATUS := ⟨_, rfl, rfl⟩
theorem at_BIL_MAN_NO_LO : RowHas 371 BIL_MAN_NO_LO := ⟨_, rfl, rfl⟩
theorem at_BIL_MAN_NO_HI : RowHas 372 BIL_MAN_NO_HI := ⟨_, rfl, rfl⟩
theorem at_BIL_MAN_OVERWRITTEN : RowHas 373 BIL_MAN_OVERWRITTEN := ⟨_, rfl, rfl⟩
theorem at_BIL_TAMP_CFG : RowHas 374 BIL_TAMP_CFG := ⟨_, rfl, rfl⟩
theorem at_BIL_TAMP_STATUS : RowHas 375 BIL_TAMP_STATUS := ⟨_, rfl, rfl⟩
theorem at_BIL_TAMP_COUNT (i : Nat) : RowHas 376 (BIL_TAMP_COUNT i) := ⟨_, rfl, by simp [RegRow.hits, BIL_TAMP_COUNT]; omega⟩
theorem at_BIL_TAMP_FIRST (i : Nat) : RowHas 377 (BIL_TAMP_FIRST i) := ⟨_, rfl, by simp [RegRow.hits, BIL_TAMP_FIRST]; omega⟩
theorem at_BIL_TAMP_LAST (i : Nat) : RowHas 378 (BIL_TAMP_LAST i) := ⟨_, rfl, by simp [RegRow.hits, BIL_TAMP_LAST]; omega⟩
theorem at_BIL_TAMP_TIMES (i : Nat) : RowHas 379 (BIL_TAMP_TIMES i) := ⟨_, rfl, by simp [RegRow.hits, BIL_TAMP_TIMES]; omega⟩
theorem at_BIL_TAR_E_LO (i j : Nat) : RowHas 380 (BIL_TAR_E_LO i j) := ⟨_, rfl, by simp [RegRow.hits, BIL_TAR_E_LO]; omega⟩
theorem at_BIL_TAR_E_HI (i j : Nat) : RowHas 381 (BIL_TAR_E_HI i j) := ⟨_, rfl, by simp [RegRow.hits, BIL_TAR_E_HI]; omega⟩
theorem at_BIL_TAR_WRAP (i j : Nat) : RowHas 382 (BIL_TAR_WRAP i j) := ⟨_, rfl, by simp [RegRow.hits, BIL_TAR_WRAP]; omega⟩
theorem at_BIL_DMAX_VALUE (i j : Nat) : RowHas 383 (BIL_DMAX_VALUE i j) := ⟨_, rfl, by simp [RegRow.hits, BIL_DMAX_VALUE]; omega⟩
theorem at_BIL_DMAX_UTC (i j : Nat) : RowHas 384 (BIL_DMAX_UTC i j) := ⟨_, rfl, by simp [RegRow.hits, BIL_DMAX_UTC]; omega⟩
theorem at_BIL_DMAX_MARKS (i j : Nat) : RowHas 385 (BIL_DMAX_MARKS i j) := ⟨_, rfl, by simp [RegRow.hits, BIL_DMAX_MARKS]; omega⟩
theorem at_BIL_DNOW_VALUE (i : Nat) : RowHas 386 (BIL_DNOW_VALUE i) := ⟨_, rfl, by simp [RegRow.hits, BIL_DNOW_VALUE]; omega⟩
theorem at_BIL_DNOW_MARKS (i : Nat) : RowHas 387 (BIL_DNOW_MARKS i) := ⟨_, rfl, by simp [RegRow.hits, BIL_DNOW_MARKS]; omega⟩
theorem at_BSE_CTRL : RowHas 396 BSE_CTRL := ⟨_, rfl, rfl⟩
theorem at_BSE_CFG : RowHas 397 BSE_CFG := ⟨_, rfl, rfl⟩
theorem at_BSE_CFG2 : RowHas 398 BSE_CFG2 := ⟨_, rfl, rfl⟩
theorem at_BSE_STATUS : RowHas 399 BSE_STATUS := ⟨_, rfl, rfl⟩
theorem at_BSE_REJECT_CNT : RowHas 400 BSE_REJECT_CNT := ⟨_, rfl, rfl⟩
theorem at_BSE_COMMIT_SEQ_LO : RowHas 401 BSE_COMMIT_SEQ_LO := ⟨_, rfl, rfl⟩
theorem at_BSE_COMMIT_SEQ_HI : RowHas 402 BSE_COMMIT_SEQ_HI := ⟨_, rfl, rfl⟩
theorem at_BSE_SIG_CFG (i : Nat) : RowHas 403 (BSE_SIG_CFG i) := ⟨_, rfl, by simp [RegRow.hits, BSE_SIG_CFG]; omega⟩
theorem at_BSE_SIG_SCALE (i : Nat) : RowHas 404 (BSE_SIG_SCALE i) := ⟨_, rfl, by simp [RegRow.hits, BSE_SIG_SCALE]; omega⟩
theorem at_BSE_OCV (i j : Nat) : RowHas 405 (BSE_OCV i j) ∨ RowHas 406 (BSE_OCV i j) := by
  by_cases e : j % 6 < 5
  · exact .inl ⟨_, rfl, by simp [RegRow.hits, BSE_OCV]; omega⟩
  · exact .inr ⟨_, rfl, by simp [RegRow.hits, BSE_OCV]; omega⟩
theorem at_BSE_STR_CFG (i : Nat) : RowHas 407 (BSE_STR_CFG i) := ⟨_, rfl, by simp [RegRow.hits, BSE_STR_CFG]; omega⟩
theorem at_BSE_STR_NODE_LO (i : Nat) : RowHas 408 (BSE_STR_NODE_LO i) := ⟨_, rfl, by simp [RegRow.hits, BSE_STR_NODE_LO]; omega⟩
theorem at_BSE_STR_NODE_HI (i : Nat) : RowHas 409 (BSE_STR_NODE_HI i) := ⟨_, rfl, by simp [RegRow.hits, BSE_STR_NODE_HI]; omega⟩
theorem at_BSE_STR_CAN (i : Nat) : RowHas 410 (BSE_STR_CAN i) := ⟨_, rfl, by simp [RegRow.hits, BSE_STR_CAN]; omega⟩
theorem at_BSE_STR_CAP (i : Nat) : RowHas 411 (BSE_STR_CAP i) := ⟨_, rfl, by simp [RegRow.hits, BSE_STR_CAP]; omega⟩
theorem at_BSE_STR_FULL (i : Nat) : RowHas 412 (BSE_STR_FULL i) := ⟨_, rfl, by simp [RegRow.hits, BSE_STR_FULL]; omega⟩
theorem at_BSE_STR_EMPTY (i : Nat) : RowHas 413 (BSE_STR_EMPTY i) := ⟨_, rfl, by simp [RegRow.hits, BSE_STR_EMPTY]; omega⟩
theorem at_BSE_STR_HOLD (i : Nat) : RowHas 414 (BSE_STR_HOLD i) := ⟨_, rfl, by simp [RegRow.hits, BSE_STR_HOLD]; omega⟩
theorem at_BSE_STR_REST (i : Nat) : RowHas 415 (BSE_STR_REST i) := ⟨_, rfl, by simp [RegRow.hits, BSE_STR_REST]; omega⟩
theorem at_BSE_STR_ILIM (i : Nat) : RowHas 416 (BSE_STR_ILIM i) := ⟨_, rfl, by simp [RegRow.hits, BSE_STR_ILIM]; omega⟩
theorem at_BSE_STR_VMAX (i : Nat) : RowHas 417 (BSE_STR_VMAX i) := ⟨_, rfl, by simp [RegRow.hits, BSE_STR_VMAX]; omega⟩
theorem at_BSE_STR_SOC (i : Nat) : RowHas 418 (BSE_STR_SOC i) := ⟨_, rfl, by simp [RegRow.hits, BSE_STR_SOC]; omega⟩
theorem at_BSE_STR_LIM (i : Nat) : RowHas 419 (BSE_STR_LIM i) := ⟨_, rfl, by simp [RegRow.hits, BSE_STR_LIM]; omega⟩
theorem at_BSE_STR_LEARN (i : Nat) : RowHas 420 (BSE_STR_LEARN i) := ⟨_, rfl, by simp [RegRow.hits, BSE_STR_LEARN]; omega⟩
theorem at_BSE_STR_STATUS (i : Nat) : RowHas 421 (BSE_STR_STATUS i) := ⟨_, rfl, by simp [RegRow.hits, BSE_STR_STATUS]; omega⟩
theorem at_BSE_STR_CTL (i : Nat) : RowHas 422 (BSE_STR_CTL i) := ⟨_, rfl, by simp [RegRow.hits, BSE_STR_CTL]; omega⟩
theorem at_BSE_STR_CANIGN (i : Nat) : RowHas 423 (BSE_STR_CANIGN i) := ⟨_, rfl, by simp [RegRow.hits, BSE_STR_CANIGN]; omega⟩
theorem at_TRI_CFG : RowHas 432 TRI_CFG := ⟨_, rfl, rfl⟩
theorem at_TRI_ABS : RowHas 433 TRI_ABS := ⟨_, rfl, rfl⟩
theorem at_TRI_TEST : RowHas 434 TRI_TEST := ⟨_, rfl, rfl⟩
theorem at_TRI_STATUS : RowHas 435 TRI_STATUS := ⟨_, rfl, rfl⟩
theorem at_TRI_REJECT_CNT : RowHas 436 TRI_REJECT_CNT := ⟨_, rfl, rfl⟩
theorem at_TRI_OUT_CFG (i : Nat) : RowHas 437 (TRI_OUT_CFG i) := ⟨_, rfl, by simp [RegRow.hits, TRI_OUT_CFG]; omega⟩
theorem at_TRI_OUT_STATUS (i : Nat) : RowHas 438 (TRI_OUT_STATUS i) := ⟨_, rfl, by simp [RegRow.hits, TRI_OUT_STATUS]; omega⟩
theorem at_TRI_OUT_GAP_LO (i : Nat) : RowHas 439 (TRI_OUT_GAP_LO i) := ⟨_, rfl, by simp [RegRow.hits, TRI_OUT_GAP_LO]; omega⟩
theorem at_TRI_OUT_GAP_HI (i : Nat) : RowHas 440 (TRI_OUT_GAP_HI i) := ⟨_, rfl, by simp [RegRow.hits, TRI_OUT_GAP_HI]; omega⟩
theorem at_TRI_OUT_UNVOTED (i : Nat) : RowHas 441 (TRI_OUT_UNVOTED i) := ⟨_, rfl, by simp [RegRow.hits, TRI_OUT_UNVOTED]; omega⟩
theorem at_TRI_OUT_DEGRADED (i : Nat) : RowHas 442 (TRI_OUT_DEGRADED i) := ⟨_, rfl, by simp [RegRow.hits, TRI_OUT_DEGRADED]; omega⟩
theorem at_TRI_OUT_CTL (i : Nat) : RowHas 443 (TRI_OUT_CTL i) := ⟨_, rfl, by simp [RegRow.hits, TRI_OUT_CTL]; omega⟩
theorem at_TRI_HEAD_NODE_LO (i : Nat) : RowHas 444 (TRI_HEAD_NODE_LO i) := ⟨_, rfl, by simp [RegRow.hits, TRI_HEAD_NODE_LO]; omega⟩
theorem at_TRI_HEAD_NODE_HI (i : Nat) : RowHas 445 (TRI_HEAD_NODE_HI i) := ⟨_, rfl, by simp [RegRow.hits, TRI_HEAD_NODE_HI]; omega⟩
theorem at_TRI_HEAD_STATUS (i : Nat) : RowHas 446 (TRI_HEAD_STATUS i) := ⟨_, rfl, by simp [RegRow.hits, TRI_HEAD_STATUS]; omega⟩
theorem at_TRI_HEAD_DIS_CNT (i : Nat) : RowHas 447 (TRI_HEAD_DIS_CNT i) := ⟨_, rfl, by simp [RegRow.hits, TRI_HEAD_DIS_CNT]; omega⟩
theorem at_TRI_HEAD_TEST (i : Nat) : RowHas 448 (TRI_HEAD_TEST i) := ⟨_, rfl, by simp [RegRow.hits, TRI_HEAD_TEST]; omega⟩
theorem at_SAF_STATUS : RowHas 456 SAF_STATUS := ⟨_, rfl, rfl⟩
theorem at_SAF_REJECT_CNT : RowHas 457 SAF_REJECT_CNT := ⟨_, rfl, rfl⟩
theorem at_SAF_CHECK : RowHas 458 SAF_CHECK := ⟨_, rfl, rfl⟩
theorem at_SAF_CONFIRM : RowHas 459 SAF_CONFIRM := ⟨_, rfl, rfl⟩
theorem at_SAF_CMD : RowHas 460 SAF_CMD := ⟨_, rfl, rfl⟩
theorem at_SAF_OUT_EN : RowHas 461 SAF_OUT_EN := ⟨_, rfl, rfl⟩
theorem at_SAF_CFG : RowHas 462 SAF_CFG := ⟨_, rfl, rfl⟩
theorem at_SAF_PAIR_CFG (i : Nat) : RowHas 463 (SAF_PAIR_CFG i) := ⟨_, rfl, by simp [RegRow.hits, SAF_PAIR_CFG]; omega⟩
theorem at_SAF_PAIR_MASK (i : Nat) : RowHas 464 (SAF_PAIR_MASK i) := ⟨_, rfl, by simp [RegRow.hits, SAF_PAIR_MASK]; omega⟩
theorem at_SAF_PAIR_TIME (i : Nat) : RowHas 465 (SAF_PAIR_TIME i) := ⟨_, rfl, by simp [RegRow.hits, SAF_PAIR_TIME]; omega⟩
theorem at_SAF_PAIR_STATUS (i : Nat) : RowHas 466 (SAF_PAIR_STATUS i) := ⟨_, rfl, by simp [RegRow.hits, SAF_PAIR_STATUS]; omega⟩
theorem at_SAF_SOUT_CFG (i : Nat) : RowHas 467 (SAF_SOUT_CFG i) := ⟨_, rfl, by simp [RegRow.hits, SAF_SOUT_CFG]; omega⟩
theorem at_SAF_SOUT_STATUS (i : Nat) : RowHas 468 (SAF_SOUT_STATUS i) := ⟨_, rfl, by simp [RegRow.hits, SAF_SOUT_STATUS]; omega⟩
theorem at_LSW_STATUS : RowHas 480 LSW_STATUS := ⟨_, rfl, rfl⟩
theorem at_LSW_REJECT_CNT : RowHas 481 LSW_REJECT_CNT := ⟨_, rfl, rfl⟩
theorem at_LSW_SUPPLY : RowHas 482 LSW_SUPPLY := ⟨_, rfl, rfl⟩
theorem at_LSW_AGG : RowHas 483 LSW_AGG := ⟨_, rfl, rfl⟩
theorem at_LSW_SURGE_CNT : RowHas 484 LSW_SURGE_CNT := ⟨_, rfl, rfl⟩
theorem at_LSW_DIP_CNT : RowHas 485 LSW_DIP_CNT := ⟨_, rfl, rfl⟩
theorem at_LSW_CH_CFG (i : Nat) : RowHas 486 (LSW_CH_CFG i) := ⟨_, rfl, by simp [RegRow.hits, LSW_CH_CFG]; omega⟩
theorem at_LSW_CH_CTL (i : Nat) : RowHas 487 (LSW_CH_CTL i) := ⟨_, rfl, by simp [RegRow.hits, LSW_CH_CTL]; omega⟩
theorem at_LSW_CH_STATUS (i : Nat) : RowHas 488 (LSW_CH_STATUS i) := ⟨_, rfl, by simp [RegRow.hits, LSW_CH_STATUS]; omega⟩
theorem at_LSW_CH_MEAS (i : Nat) : RowHas 489 (LSW_CH_MEAS i) := ⟨_, rfl, by simp [RegRow.hits, LSW_CH_MEAS]; omega⟩
theorem at_LSW_CH_CLAMP (i : Nat) : RowHas 490 (LSW_CH_CLAMP i) := ⟨_, rfl, by simp [RegRow.hits, LSW_CH_CLAMP]; omega⟩
theorem at_LSW_CH_CNT (i : Nat) : RowHas 491 (LSW_CH_CNT i) := ⟨_, rfl, by simp [RegRow.hits, LSW_CH_CNT]; omega⟩
theorem at_KEY_STATUS : RowHas 492 KEY_STATUS := ⟨_, rfl, rfl⟩
theorem at_KEY_RNG_FAILS : RowHas 493 KEY_RNG_FAILS := ⟨_, rfl, rfl⟩
theorem at_KEY_WSLOT : RowHas 494 KEY_WSLOT := ⟨_, rfl, rfl⟩
theorem at_KEY_FW : RowHas 495 KEY_FW := ⟨_, rfl, rfl⟩
theorem at_KEY_FW_SEC : RowHas 496 KEY_FW_SEC := ⟨_, rfl, rfl⟩
theorem at_KEY_FW_VER_A : RowHas 497 KEY_FW_VER_A := ⟨_, rfl, rfl⟩
theorem at_KEY_FW_VER_B : RowHas 498 KEY_FW_VER_B := ⟨_, rfl, rfl⟩
theorem at_KEY_SLOT (i : Nat) : RowHas 499 (KEY_SLOT i) := ⟨_, rfl, by simp [RegRow.hits, KEY_SLOT]; omega⟩
theorem at_LDG_CTRL : RowHas 504 LDG_CTRL := ⟨_, rfl, rfl⟩
theorem at_LDG_CMD : RowHas 505 LDG_CMD := ⟨_, rfl, rfl⟩
theorem at_LDG_STATUS : RowHas 506 LDG_STATUS := ⟨_, rfl, rfl⟩
theorem at_LDG_SEQ : RowHas 507 LDG_SEQ := ⟨_, rfl, rfl⟩
theorem at_LDG_DROP : RowHas 508 LDG_DROP := ⟨_, rfl, rfl⟩
theorem at_LDG_SNAP_FROZEN : RowHas 509 LDG_SNAP_FROZEN := ⟨_, rfl, rfl⟩
theorem at_LDG_SNAP_OVERWRITTEN : RowHas 510 LDG_SNAP_OVERWRITTEN := ⟨_, rfl, rfl⟩
theorem at_LDG_SNAP_INFO (i : Nat) : RowHas 511 (LDG_SNAP_INFO i) := ⟨_, rfl, by simp [RegRow.hits, LDG_SNAP_INFO]; omega⟩
theorem at_LDG_SNAP_SEQ (i : Nat) : RowHas 512 (LDG_SNAP_SEQ i) := ⟨_, rfl, by simp [RegRow.hits, LDG_SNAP_SEQ]; omega⟩
theorem hi_GEN_DEVICE_ID_LO : GEN_DEVICE_ID_LO + 4 = GEN_DEVICE_ID_HI := by dsimp only [GEN_DEVICE_ID_LO, GEN_DEVICE_ID_HI]; first | done | omega
theorem hi_ALC_TICK_LO : ALC_TICK_LO + 4 = ALC_TICK_HI := by dsimp only [ALC_TICK_LO, ALC_TICK_HI]; first | done | omega
theorem hi_PST_NODE_ID_LO (i : Nat) : PST_NODE_ID_LO i + 4 = PST_NODE_ID_HI i := by dsimp only [PST_NODE_ID_LO, PST_NODE_ID_HI]; first | done | omega
theorem hi_SLN_NODE_ID_LO (i : Nat) : SLN_NODE_ID_LO i + 4 = SLN_NODE_ID_HI i := by dsimp only [SLN_NODE_ID_LO, SLN_NODE_ID_HI]; first | done | omega
theorem hi_VSS_OUT_SID_LO (i : Nat) : VSS_OUT_SID_LO i + 4 = VSS_OUT_SID_HI i := by dsimp only [VSS_OUT_SID_LO, VSS_OUT_SID_HI]; first | done | omega
theorem hi_MTR_BLOCK_LO : MTR_BLOCK_LO + 4 = MTR_BLOCK_HI := by dsimp only [MTR_BLOCK_LO, MTR_BLOCK_HI]; first | done | omega
theorem hi_MTR_SAVE_SEQ_LO : MTR_SAVE_SEQ_LO + 4 = MTR_SAVE_SEQ_HI := by dsimp only [MTR_SAVE_SEQ_LO, MTR_SAVE_SEQ_HI]; first | done | omega
theorem hi_MTR_GP_GAP_LO (i : Nat) : MTR_GP_GAP_LO i + 4 = MTR_GP_GAP_HI i := by dsimp only [MTR_GP_GAP_LO, MTR_GP_GAP_HI]; first | done | omega
theorem hi_MTR_E_LO (i : Nat) : MTR_E_LO i + 4 = MTR_E_HI i := by dsimp only [MTR_E_LO, MTR_E_HI]; first | done | omega
theorem hi_BIL_MAN_NO_LO : BIL_MAN_NO_LO + 4 = BIL_MAN_NO_HI := by dsimp only [BIL_MAN_NO_LO, BIL_MAN_NO_HI]; first | done | omega
theorem hi_BIL_TAR_E_LO (i j : Nat) : BIL_TAR_E_LO i j + 4 = BIL_TAR_E_HI i j := by dsimp only [BIL_TAR_E_LO, BIL_TAR_E_HI]; first | done | omega
theorem hi_BSE_COMMIT_SEQ_LO : BSE_COMMIT_SEQ_LO + 4 = BSE_COMMIT_SEQ_HI := by dsimp only [BSE_COMMIT_SEQ_LO, BSE_COMMIT_SEQ_HI]; first | done | omega
theorem hi_TRI_OUT_GAP_LO (i : Nat) : TRI_OUT_GAP_LO i + 4 = TRI_OUT_GAP_HI i := by dsimp only [TRI_OUT_GAP_LO, TRI_OUT_GAP_HI]; first | done | omega

end Sys2Proof.Machine
end

