-- ==== Sys2Proof/Laws/OpsCh.lean ====
section
/-! SUPPORT. What each definition of Machine/Ops.lean may change. -/

namespace Sys2Proof.Machine

set_option linter.all false
set_option Elab.async false

namespace Dev

theorem ch_reach {m : Nat} {s0 : Dev} (s : Dev) (t : Nat)
    (hm : Within 0x1 m) (h0 : Changes m s0 s) :
    Changes m s0 (Dev.reach s t) := by
  unfold Dev.reach
  try dsimp only
  repeat' (first | with_reducible assumption | split | (intro _) | with_reducible apply ch_putDt | exact bit_of hm (by decide) | exact Nat.le_max_left _ _ | exact Nat.le_add_right _ _)

theorem ch_tickAt {m : Nat} {s0 : Dev} (s : Dev) (k : Tick) (t : Nat)
    (hm : Within 0x41 m) (h0 : Changes m s0 s) :
    Changes m s0 (Dev.tickAt s k t) := by
  unfold Dev.tickAt
  try dsimp only
  repeat' (first | with_reducible assumption | split | (intro _) | with_reducible apply ch_putGen | with_reducible apply ch_reach | exact sub_trans hm (by decide) | exact bit_of hm (by decide))

theorem ch_tick {m : Nat} {s0 : Dev} (s : Dev) (k : Tick) (p : Nat)
    (hm : Within 0x41 m) (h0 : Changes m s0 s) :
    Changes m s0 (Dev.tick s k p) := by
  unfold Dev.tick
  try dsimp only
  repeat' (first | with_reducible assumption | split | (intro _) | with_reducible apply ch_tickAt | exact sub_trans hm (by decide))

theorem ch_start {m : Nat} {s0 : Dev} (s : Dev)
    (hm : Within 0x4 m) (h0 : Changes m s0 s) :
    Changes m s0 (Dev.start s) := by
  unfold Dev.start
  try dsimp only
  repeat' (first | with_reducible assumption | split | (intro _) | with_reducible apply ch_putOut | exact bit_of hm (by decide))

theorem ch_emit {m : Nat} {s0 : Dev} (s : Dev) (o : Output)
    (hm : Within 0x4 m) (h0 : Changes m s0 s) :
    Changes m s0 (Dev.emit s o) := by
  unfold Dev.emit
  try dsimp only
  repeat' (first | with_reducible assumption | split | (intro _) | with_reducible apply ch_putOut | exact bit_of hm (by decide))

theorem ch_fresh {m : Nat} {s0 : Dev} (s : Dev)
    (hm : Within 0x2 m) (h0 : Changes m s0 s) :
    Changes m s0 (Dev.fresh s).2 := by
  unfold Dev.fresh
  try dsimp only
  repeat' (first | with_reducible assumption | split | (intro _) | with_reducible apply ch_putFree | exact bit_of hm (by decide) | exact Nat.le_succ _ | exact Nat.le_add_right _ _)


end Dev

end Sys2Proof.Machine
end

