-- ==== Sys2Proof/Laws/EventsCh.lean ====
section
/-! SUPPORT. What each definition of Machine/Events.lean may change. -/

namespace Sys2Proof.Machine

set_option linter.all false
set_option Elab.async false

namespace Dev

theorem ch_answer {m : Nat} {s0 : Dev} (s : Dev) (c : Code)
    (hm : Within 0x4 m) (h0 : Changes m s0 s) :
    Changes m s0 (Dev.answer s c) := by
  unfold Dev.answer
  try dsimp only
  repeat' (first | with_reducible assumption | split | (intro _) | with_reducible apply ch_emit | exact sub_trans hm (by decide))

theorem ch_reject {m : Nat} {s0 : Dev} (s : Dev) (cnt : Field) (c : Code)
    (hm : Within 0x4 m) (h0 : Changes m s0 s) (h1 : Writes m cnt.off) :
    Changes m s0 (Dev.reject s cnt c) := by
  unfold Dev.reject
  try dsimp only
  repeat' (first | with_reducible assumption | split | (intro _) | with_reducible apply ch_incSat | with_reducible apply ch_answer | exact sub_trans hm (by decide))

theorem ch_memWrite {m : Nat} {s0 : Dev} (s : Dev) (addr : Nat) (bytes : List Byte)
    (hm : Within 0x4 m) (h0 : Changes m s0 s) :
    Changes m s0 (Dev.memWrite s addr bytes) := by
  unfold Dev.memWrite
  try dsimp only
  repeat' (first | with_reducible assumption | split | (intro _) | with_reducible apply ch_emit | exact sub_trans hm (by decide))

theorem ch_entryOut {m : Nat} {s0 : Dev} (s : Dev) (n : Fin 256) (i : Nat) (x : RingEntry)
    (hm : Within 0x4 m) (h0 : Changes m s0 s) :
    Changes m s0 (Dev.entryOut s n i x) := by
  unfold Dev.entryOut
  try dsimp only
  repeat' (first | with_reducible assumption | split | (intro _) | with_reducible apply ch_memWrite | exact sub_trans hm (by decide))

theorem ch_modRing {m : Nat} {s0 : Dev} (s : Dev) (n : Fin 256) (f : Ring → Ring)
    (hm : Within 0x80 m) (h0 : Changes m s0 s) :
    Changes m s0 (Dev.modRing s n f) := by
  unfold Dev.modRing
  try dsimp only
  repeat' (first | with_reducible assumption | with_reducible exact hif_same rfl | split | (intro _) | with_reducible apply ch_putHif | exact bit_of hm (by decide))

theorem ch_modVector {m : Nat} {s0 : Dev} (s : Dev) (v : Fin 64) (f : VectorSt → VectorSt)
    (hm : Within 0x80 m) (h0 : Changes m s0 s) :
    Changes m s0 (Dev.modVector s v f) := by
  unfold Dev.modVector
  try dsimp only
  repeat' (first | with_reducible assumption | with_reducible exact hif_same rfl | split | (intro _) | with_reducible apply ch_putHif | exact bit_of hm (by decide))

theorem ch_signal {m : Nat} {s0 : Dev} (s : Dev) (v : Fin 64)
    (hm : Within 0x8000000000000000084 m) (h0 : Changes m s0 s) :
    Changes m s0 (Dev.signal s v) := by
  unfold Dev.signal
  try dsimp only
  repeat' (first | with_reducible assumption | split | (intro _) | with_reducible apply ch_wr | with_reducible apply ch_modVector | with_reducible apply ch_emit | exact sub_trans hm (by decide) | with_reducible exact reg_of hm (at_HIF_MSIX_PBA _) (by decide))

theorem ch_vectorEntry {m : Nat} {s0 : Dev} (s : Dev) (v : Fin 64) (alert : Bool)
    (hm : Within 0x8000000000000000084 m) (h0 : Changes m s0 s) :
    Changes m s0 (Dev.vectorEntry s v alert) := by
  unfold Dev.vectorEntry
  try dsimp only
  repeat' (first | with_reducible assumption | split | (intro _) | with_reducible apply ch_modVector | with_reducible apply ch_signal | exact sub_trans hm (by decide))

theorem ch_ringWrite {m : Nat} {s0 : Dev} (s : Dev) (n : Fin 256) (b : EntryBody) (staged : Bool)
    (hm : Within 0x8400000000000000084 m) (h0 : Changes m s0 s) :
    Changes m s0 (Dev.ringWrite s n b staged) := by
  unfold Dev.ringWrite
  try dsimp only
  repeat' (first | with_reducible assumption | split | (intro _) | with_reducible apply ch_set | with_reducible apply ch_entryOut | with_reducible apply ch_modRing | with_reducible apply ch_vectorEntry | exact sub_trans hm (by decide) | with_reducible exact reg_of hm (at_HIF_RING_STATUS _) (by decide))

theorem ch_stagedSummary {m : Nat} {s0 : Dev} (s : Dev) (n : Fin 256)
    (hm : Within 0x400000000000000000 m) (h0 : Changes m s0 s) :
    Changes m s0 (Dev.stagedSummary s n) := by
  unfold Dev.stagedSummary
  try dsimp only
  repeat' (first | with_reducible assumption | split | (intro _) | with_reducible apply ch_set | with_reducible exact reg_of hm (at_HIF_RING_STATUS _) (by decide))

theorem ch_stageEntry {m : Nat} {s0 : Dev} (s : Dev) (n : Fin 256) (b : EntryBody)
    (hm : Within 0x400200000000000080 m) (h0 : Changes m s0 s) :
    Changes m s0 (Dev.stageEntry s n b) := by
  unfold Dev.stageEntry
  try dsimp only
  repeat' (first | with_reducible assumption | split | (intro _) | with_reducible apply ch_setb | with_reducible apply ch_stagedSummary | with_reducible apply ch_modRing | exact sub_trans hm (by decide) | with_reducible exact reg_of hm at_HIF_STATUS (by decide))

theorem ch_stageEvent {m : Nat} {s0 : Dev} (s : Dev) (n : Fin 256) (e : Event)
    (hm : Within 0x4072000000000000A0 m) (h0 : Changes m s0 s) :
    Changes m s0 (Dev.stageEvent s n e).1 := by
  unfold Dev.stageEvent
  try dsimp only
  repeat' (first | with_reducible assumption | with_reducible exact hif_same rfl | split | (intro _) | with_reducible apply ch_when | with_reducible apply ch_putHif | with_reducible apply ch_bump | with_reducible apply ch_set | with_reducible apply ch_latch | with_reducible apply ch_stageEntry | with_reducible apply ch_stagedSummary | with_reducible apply ch_modRing | exact sub_trans hm (by decide) | exact bit_of hm (by decide) | with_reducible exact reg_of hm at_HIF_STATUS (by decide) | with_reducible exact reg_of hm at_HIF_EVT_DROP (by decide) | with_reducible exact reg_of hm at_HIF_ALERT_LOST (by decide) | with_reducible exact reg_of hm at_HIF_ALERT_FIRST (by decide))
  all_goals (simp only [Hif.fits, List.length_append, List.length_cons, List.length_nil]; omega)

theorem ch_deliverEvent {m : Nat} {s0 : Dev} (s : Dev) (e : Event)
    (hm : Within 0x84072000000000000A4 m) (h0 : Changes m s0 s) :
    Changes m s0 (Dev.deliverEvent s e).1 := by
  unfold Dev.deliverEvent
  try dsimp only
  repeat' (first | with_reducible assumption | split | (intro _) | with_reducible apply ch_ringWrite | with_reducible apply ch_stageEvent | exact sub_trans hm (by decide))

theorem ch_raiseRaw {m : Nat} {s0 : Dev} (s : Dev) (code : Code) (payload : List Byte)
    (hm : Within 0x84072000000000000A4 m) (h0 : Changes m s0 s) :
    Changes m s0 (Dev.raiseRaw s code payload).1 := by
  unfold Dev.raiseRaw
  try dsimp only
  repeat' (first | with_reducible assumption | with_reducible exact hif_same rfl | split | (intro _) | with_reducible apply ch_putHif | with_reducible apply ch_deliverEvent | exact sub_trans hm (by decide) | exact bit_of hm (by decide))

theorem ch_raise {m : Nat} {s0 : Dev} (s : Dev) (code : Code) (payload : List Byte)
    (hm : Within 0x84072000000000000A4 m) (h0 : Changes m s0 s) :
    Changes m s0 (Dev.raise s code payload) := by
  unfold Dev.raise
  try dsimp only
  repeat' (first | with_reducible assumption | split | (intro _) | with_reducible apply ch_raiseRaw | exact sub_trans hm (by decide))

theorem dropInfoEntry_length {l r : List (Bool × LdgEntry)} (h : dropInfoEntry l = some r) : r.length + 1 = l.length := by
  induction l generalizing r with
  | nil => cases h
  | cons p rest ih =>
    obtain ⟨i, e⟩ := p
    unfold dropInfoEntry at h
    split at h
    · cases h
      rfl
    · cases hd : dropInfoEntry rest with
      | none => simp [hd] at h
      | some x =>
        simp only [hd, Option.map_some, Option.some.injEq] at h
        subst h
        simp [ih hd]

theorem ch_ledgerPut {m : Nat} {s0 : Dev} (s : Dev) (info : Bool) (e : LdgEntry)
    (hm : Within 0x1400000000000000000000000000000000000000000000000000000000000000000000000000000000000000000000000000000000000000000000000000000000000100 m) (h0 : Changes m s0 s) :
    Changes m s0 (Dev.ledgerPut s info e).1 := by
  unfold Dev.ledgerPut
  try dsimp only
  repeat' (first | with_reducible assumption | with_reducible exact ldg_same rfl rfl | split | (intro _) | with_reducible apply ch_putLdg | with_reducible apply ch_set | with_reducible apply ch_bump | exact bit_of hm (by decide) | with_reducible exact reg_of hm at_LDG_STATUS (by decide) | with_reducible exact reg_of hm at_LDG_DROP (by decide))
  · rename_i f
    exact ⟨f.1, by simp; omega⟩
  · rename_i l e f
    have := dropInfoEntry_length e
    exact ⟨f.1, by have := f.2; simp; omega⟩

theorem ch_ledgerPutAll {m : Nat} {s0 : Dev} (s : Dev) (info : Bool) (es : List LdgEntry)
    (hm : Within 0x1400000000000000000000000000000000000000000000000000000000000000000000000000000000000000000000000000000000000000000000000000000000000100 m) (h0 : Changes m s0 s) :
    Changes m s0 (Dev.ledgerPutAll s info es).1 := by
  unfold ledgerPutAll
  exact ch_foldl Prod.fst _ _ _ h0 (fun b a h => ch_ledgerPut _ _ _ (sub_trans hm (by decide)) h)

theorem ch_ledgerDropped {m : Nat} {s0 : Dev} (s : Dev)
    (hm : Within 0x14000000000000000000000000000000000000000000000000000000000000000000000000000000000000000000000000000000000000000000084072000000000001A4 m) (h0 : Changes m s0 s) :
    Changes m s0 (Dev.ledgerDropped s) := by
  unfold Dev.ledgerDropped
  try dsimp only
  repeat' (first | with_reducible assumption | with_reducible exact ldg_same rfl rfl | split | (intro _) | with_reducible apply ch_putLdg | with_reducible apply ch_ledgerPutAll | with_reducible apply ch_raise | exact sub_trans hm (by decide) | exact bit_of hm (by decide))

theorem ch_record {m : Nat} {s0 : Dev} (s : Dev) (info : Bool) (source : Byte) (code : Code) (payload : List Byte)
    (hm : Within 0x14000000000000000000000000000000000000000000000000000000000000000000000000000000000000000000000000000000000000000000084072000000000001A4 m) (h0 : Changes m s0 s) :
    Changes m s0 (Dev.record s info source code payload) := by
  unfold Dev.record
  try dsimp only
  repeat' (first | with_reducible assumption | split | (intro _) | with_reducible apply ch_ledgerPutAll | with_reducible apply ch_ledgerDropped | exact sub_trans hm (by decide))

theorem ch_post {m : Nat} {s0 : Dev} (s : Dev) (code : Code) (payload : optParam (List Byte) [])
    (hm : Within 0x14000000000000000000000000000000000000000000000000000000000000000000000000000000000000000000000000000000000000000000084072000000000001A4 m) (h0 : Changes m s0 s) :
    Changes m s0 (Dev.post s code payload) := by
  unfold Dev.post
  try dsimp only
  repeat' (first | with_reducible assumption | split | (intro _) | with_reducible apply ch_raise | with_reducible apply ch_record | exact sub_trans hm (by decide))

theorem ch_postLongDone {m : Nat} {s0 : Dev} (s : Dev) (src : Src) (op : Code) (result : Code)
    (hm : Within 0x14000000000000000000000000000000000000000000000000000000000000000000000000000000000000000000000000000000000000000000084072000000000001A4 m) (h0 : Changes m s0 s) :
    Changes m s0 (Dev.postLongDone s src op result) := by
  unfold Dev.postLongDone
  try dsimp only
  repeat' (first | with_reducible assumption | split | (intro _) | with_reducible apply ch_post | exact sub_trans hm (by decide))

theorem ch_statusOut {m : Nat} {s0 : Dev} (s : Dev) (addr : Nat) (st : LongState) (progress : Nat) (result : Code)
    (hm : Within 0x4 m) (h0 : Changes m s0 s) :
    Changes m s0 (Dev.statusOut s addr st progress result) := by
  unfold Dev.statusOut
  try dsimp only
  repeat' (first | with_reducible assumption | split | (intro _) | with_reducible apply ch_when | with_reducible apply ch_memWrite | exact sub_trans hm (by decide))

theorem ch_deliverCompletion {m : Nat} {s0 : Dev} (s : Dev) (cq : Fin 256) (c : Completion)
    (hm : Within 0x8400200000000000084 m) (h0 : Changes m s0 s) :
    Changes m s0 (Dev.deliverCompletion s cq c) := by
  unfold Dev.deliverCompletion
  try dsimp only
  repeat' (first | with_reducible assumption | split | (intro _) | with_reducible apply ch_ringWrite | with_reducible apply ch_stageEntry | exact sub_trans hm (by decide))

theorem ch_caravanSkip {m : Nat} {s0 : Dev} (s : Dev) (n : Fin 256) (cq : Fin 256)
    (hm : Within 0x8400200000000000084 m) (h0 : Changes m s0 s) :
    Changes m s0 (Dev.caravanSkip s n cq) := by
  unfold Dev.caravanSkip
  try dsimp only
  repeat' (first | with_reducible assumption | with_reducible exact hif_same rfl | split | (intro _) | with_reducible apply ch_forEach | with_reducible apply ch_putHif | with_reducible apply ch_deliverCompletion | exact sub_trans hm (by decide) | exact bit_of hm (by decide))

theorem ch_finishDesc {m : Nat} {s0 : Dev} (s : Dev) (n : Fin 256) (tag : Word) (status : Code) (result : Word) (data : List Byte) (long : Bool)
    (hm : Within 0x8400200000000000084 m) (h0 : Changes m s0 s) :
    Changes m s0 (Dev.finishDesc s n tag status result data long) := by
  unfold Dev.finishDesc
  try dsimp only
  repeat' (first | with_reducible assumption | with_reducible exact hif_same rfl | split | (intro _) | with_reducible apply ch_putHif | with_reducible apply ch_deliverCompletion | with_reducible apply ch_caravanSkip | exact sub_trans hm (by decide) | exact bit_of hm (by decide))

theorem ch_runningSummary {m : Nat} {s0 : Dev} (s : Dev)
    (hm : Within 0x200000000000000 m) (h0 : Changes m s0 s) :
    Changes m s0 (Dev.runningSummary s) := by
  unfold Dev.runningSummary
  try dsimp only
  repeat' (first | with_reducible assumption | split | (intro _) | with_reducible apply ch_set | with_reducible exact reg_of hm at_HIF_STATUS (by decide))

theorem ch_caravanNext {m : Nat} {s0 : Dev} (s : Dev) (n : Fin 256)
    (hm : Within 0x8400200000000000084 m) (h0 : Changes m s0 s) :
    Changes m s0 (Dev.caravanNext s n) := by
  unfold Dev.caravanNext
  try dsimp only
  repeat' (first | with_reducible assumption | with_reducible exact hif_same rfl | split | (intro _) | with_reducible apply ch_putHif | with_reducible apply ch_finishDesc | exact sub_trans hm (by decide) | exact bit_of hm (by decide))

theorem ch_completeWith {m : Nat} {s0 : Dev} (s : Dev) (src : Src) (status : Code) (result : Word) (data : List Byte) (long : Bool)
    (hm : Within 0x8400200000000000084 m) (h0 : Changes m s0 s) :
    Changes m s0 (Dev.completeWith s src status result data long) := by
  unfold Dev.completeWith
  try dsimp only
  repeat' (first | with_reducible assumption | split | (intro _) | with_reducible apply ch_when | with_reducible apply ch_emit | with_reducible apply ch_finishDesc | with_reducible apply ch_runningSummary | with_reducible apply ch_caravanNext | exact sub_trans hm (by decide))

theorem ch_complete {m : Nat} {s0 : Dev} (s : Dev) (src : Src) (status : Code) (result : optParam Word 0) (data : optParam (List Byte) [])
    (hm : Within 0x8400200000000000084 m) (h0 : Changes m s0 s) :
    Changes m s0 (Dev.complete s src status result data) := by
  unfold Dev.complete
  try dsimp only
  repeat' (first | with_reducible assumption | split | (intro _) | with_reducible apply ch_completeWith | exact sub_trans hm (by decide))

theorem ch_longRefuse {m : Nat} {s0 : Dev} (s : Dev) (l : LongSrc) (op : Code) (code : Code)
    (hm : Within 0x14000000000000000000000000000000000000000000000000000000000000000000000000000000000000000000000000000000000000000000084072000000000001A4 m) (h0 : Changes m s0 s) :
    Changes m s0 (Dev.longRefuse s l op code) := by
  unfold Dev.longRefuse
  try dsimp only
  repeat' (first | with_reducible assumption | split | (intro _) | with_reducible apply ch_postLongDone | with_reducible apply ch_statusOut | with_reducible apply ch_complete | exact sub_trans hm (by decide))

theorem ch_longAccept {m : Nat} {s0 : Dev} (s : Dev) (l : LongSrc) (op : Code) (queued : Bool)
    (hm : Within 0x8400200000000000084 m) (h0 : Changes m s0 s) :
    Changes m s0 (Dev.longAccept s l op queued) := by
  unfold Dev.longAccept
  try dsimp only
  repeat' (first | with_reducible assumption | with_reducible exact hif_same rfl | split | (intro _) | with_reducible apply ch_putHif | with_reducible apply ch_statusOut | with_reducible apply ch_completeWith | exact sub_trans hm (by decide) | exact bit_of hm (by decide))

theorem ch_resultOut {m : Nat} {s0 : Dev} (s : Dev) (o : LongOp) (valid : Nat) (data : List Byte)
    (hm : Within 0x4 m) (h0 : Changes m s0 s) :
    Changes m s0 (Dev.resultOut s o valid data) := by
  unfold Dev.resultOut
  try dsimp only
  repeat' (first | with_reducible assumption | split | (intro _) | with_reducible apply ch_when | with_reducible apply ch_memWrite | exact sub_trans hm (by decide))

theorem ch_longEnd {m : Nat} {s0 : Dev} (s : Dev) (src : Src) (st : LongState) (result : Code)
    (hm : Within 0x14000000000000000000000000000000000000000000000000000000000000000000000000000000000000000000000000000000000000000000084072000000000001A4 m) (h0 : Changes m s0 s) :
    Changes m s0 (Dev.longEnd s src st result) := by
  unfold Dev.longEnd
  try dsimp only
  repeat' (first | with_reducible assumption | with_reducible exact hif_same rfl | split | (intro _) | with_reducible apply ch_putHif | with_reducible apply ch_postLongDone | with_reducible apply ch_statusOut | exact sub_trans hm (by decide) | exact bit_of hm (by decide))

theorem ch_longPartial {m : Nat} {s0 : Dev} (s : Dev) (src : Src) (units : Nat) (data : List Byte) (progress : Nat)
    (hm : Within 0x14000000000000000000000000000000000000000000000000000000000000000000000000000000000000000000000000000000000000000000084072000000000001A4 m) (h0 : Changes m s0 s) :
    Changes m s0 (Dev.longPartial s src units data progress) := by
  unfold Dev.longPartial
  try dsimp only
  repeat' (first | with_reducible assumption | with_reducible exact hif_same rfl | split | (intro _) | with_reducible apply ch_when | with_reducible apply ch_putHif | with_reducible apply ch_resultOut | with_reducible apply ch_longEnd | with_reducible apply ch_statusOut | exact sub_trans hm (by decide) | exact bit_of hm (by decide))

theorem ch_longWhole {m : Nat} {s0 : Dev} (s : Dev) (l : LongSrc) (op : Code) (units : Nat) (data : List Byte) (ok : Bool) (code : Code)
    (hm : Within 0x14000000000000000000000000000000000000000000000000000000000000000000000000000000000000000000000000000000000000000000084072000000000001A4 m) (h0 : Changes m s0 s) :
    Changes m s0 (Dev.longWhole s l op units data ok code) := by
  unfold Dev.longWhole
  try dsimp only
  repeat' (first | with_reducible assumption | split | (intro _) | with_reducible apply ch_longRefuse | with_reducible apply ch_longAccept | with_reducible apply ch_longPartial | with_reducible apply ch_longEnd | exact sub_trans hm (by decide))

theorem ch_putSnap {m : Nat} {s0 : Dev} (s : Dev) (i : Fin 32) (x : Snapshot)
    (hm : Within 0x1A400000000000000000000000000000000000000000000000000000000000000000000000000000000000000000000000000000000000000000000000000000000000100 m) (h0 : Changes m s0 s) :
    Changes m s0 (Dev.putSnap s i x) := by
  unfold Dev.putSnap
  try dsimp only
  repeat' (first | with_reducible assumption | with_reducible exact ldg_same rfl rfl | split | (intro _) | with_reducible apply ch_putLdg | with_reducible apply ch_set | with_reducible apply ch_wr | exact bit_of hm (by decide) | with_reducible exact reg_of hm at_LDG_STATUS (by decide) | with_reducible exact reg_of hm at_LDG_SNAP_FROZEN (by decide) | with_reducible exact reg_of hm (at_LDG_SNAP_INFO _) (by decide) | with_reducible exact reg_of hm (at_LDG_SNAP_SEQ _) (by decide))

theorem ch_freeze {m : Nat} {s0 : Dev} (s : Dev) (t : Trigger) (cause : optParam Byte 255)
    (hm : Within 0x1F4000000000000000000000000000000000000000000000000000000000000000000000000000000000000000000000000000000000000000000084072000000000001A4 m) (h0 : Changes m s0 s) :
    Changes m s0 (Dev.freeze s t cause) := by
  unfold Dev.freeze
  try dsimp only
  repeat' (first | with_reducible assumption | with_reducible exact ldg_same rfl rfl | split | (intro _) | with_reducible apply ch_putLdg | with_reducible apply ch_putSnap | with_reducible apply ch_bump | with_reducible apply ch_post | with_reducible apply ch_putSnap | exact sub_trans hm (by decide) | exact bit_of hm (by decide) | with_reducible exact reg_of hm at_LDG_SNAP_OVERWRITTEN (by decide))

theorem ch_ledger {m : Nat} {s0 : Dev} (s : Dev) (code : Code) (payload : List Byte)
    (hm : Within 0x14000000000000000000000000000000000000000000000000000000000000000000000000000000000000000000000000000000000000000000084072000000000001A4 m) (h0 : Changes m s0 s) :
    Changes m s0 (Dev.ledger s code payload) := by
  unfold Dev.ledger
  try dsimp only
  repeat' (first | with_reducible assumption | split | (intro _) | with_reducible apply ch_record | exact sub_trans hm (by decide))

end Dev

/-! The forms of a meaning -/

theorem of_onLive {m : Nat} {s t : State} {f : Dev → Dev} (h : s.onLive f = .next t) (hb : m.testBit 2 = true)
    (hf : ∀ d, Dev.Changes m s.dev d → Dev.Changes m s.dev (f d)) : t.pending = s.pending ∧ Dev.Changes m s.dev t.dev := by
  refine of_onDev h hb (fun d hd => ?_)
  split
  · exact hf d hd
  · exact hd

theorem of_onRun {m : Nat} {s t : State} {f : Dev → Dev} (h : s.onRun f = .next t) (hb : m.testBit 2 = true)
    (hf : ∀ d, Dev.Changes m s.dev d → Dev.Changes m s.dev (f d)) : t.pending = s.pending ∧ Dev.Changes m s.dev t.dev := by
  refine of_onDev h hb (fun d hd => ?_)
  split
  · exact hf d hd
  · exact hd

theorem of_onPower {m : Nat} {s t : State} {f : Dev → Dev} (h : s.onPower f = .next t) (hb : m.testBit 2 = true)
    (hf : ∀ d, Dev.Changes m s.dev d → Dev.Changes m s.dev (f d)) : t.pending = s.pending ∧ Dev.Changes m s.dev t.dev := by
  refine of_onDev h hb (fun d hd => ?_)
  split
  · exact hd
  · exact hf d hd

theorem of_onReg {m b : Nat} {s t : State} {f : Dev → Dev} (h : s.onReg b f = .next t) (hb : m.testBit 2 = true)
    (hf : ∀ d, Dev.Changes m s.dev d → Dev.Changes m s.dev (f d)) : t.pending = s.pending ∧ Dev.Changes m s.dev t.dev := by
  refine of_onDev h hb (fun d hd => ?_)
  split
  · exact Dev.ch_putOut _ _ hb hd
  · split
    · exact hf d hd
    · exact hd

theorem of_onHost {m : Nat} {s t : State} {src : Src} {u w : Bool} {f : Dev → Dev} (h : s.onHost src u w f = .next t)
    (hc : Dev.Within 0x8400200000000000084 m) (hf : ∀ d, Dev.Changes m s.dev d → Dev.Changes m s.dev (f d)) :
    t.pending = s.pending ∧ Dev.Changes m s.dev t.dev := by
  refine of_onLive h (Dev.bit_of hc (by decide)) (fun d hd => ?_)
  split
  · exact Dev.ch_complete _ _ _ _ _ hc hd
  · exact hf d hd

namespace Dev


end Dev

end Sys2Proof.Machine
end

