-- ==== Sys2Proof/Laws/RecordsCh.lean ====
section
/-! SUPPORT. What each definition of Machine/Records.lean may change. -/

namespace Sys2Proof.Machine

set_option linter.all false
set_option Elab.async false

namespace Dev

theorem ch_modBil {m : Nat} {s0 : Dev} (s : Dev) (f : Bil → Bil)
    (hm : Within 0x20000 m) (h0 : Changes m s0 s) :
    Changes m s0 (Dev.modBil s f) := by
  unfold Dev.modBil
  try dsimp only
  repeat' (first | with_reducible assumption | split | (intro _) | with_reducible apply ch_putBil | exact bit_of hm (by decide))

theorem ch_countTamper {m : Nat} {s0 : Dev} (s : Dev) (t : Nat) (n : Nat) (u0 : Nat) (u1 : Nat) (valid : Bool)
    (hm : Within 0x140000000000000000000000000000000F0000000000000000000000000000000000000000000000000000000000000000000000000000000000084072000000000001A4 m) (h0 : Changes m s0 s) :
    Changes m s0 (Dev.countTamper s t n u0 u1 valid) := by
  unfold Dev.countTamper
  try dsimp only
  repeat' (first | with_reducible assumption | split | (intro _) | with_reducible apply ch_when | with_reducible apply ch_setb | with_reducible apply ch_set | with_reducible apply ch_incWrap | with_reducible apply ch_post | exact sub_trans hm (by decide) | with_reducible exact reg_of hm (at_BIL_TAMP_COUNT _) (by decide) | with_reducible exact reg_of hm (at_BIL_TAMP_FIRST _) (by decide) | with_reducible exact reg_of hm (at_BIL_TAMP_LAST _) (by decide) | with_reducible exact reg_of hm (at_BIL_TAMP_TIMES _) (by decide))

theorem ch_bookHeld {m : Nat} {s0 : Dev} (s : Dev)
    (hm : Within 0x140000000000000000000000000000000F0000000000000000000000000000000000000000000000000000000000000000000000000000000000084072000000000201A4 m) (h0 : Changes m s0 s) :
    Changes m s0 (Dev.bookHeld s) := by
  unfold Dev.bookHeld
  try dsimp only
  repeat' (first | with_reducible assumption | split | (intro _) | with_reducible apply ch_forEach | with_reducible apply ch_modBil | with_reducible apply ch_countTamper | exact sub_trans hm (by decide))

theorem ch_bookLatch {m : Nat} {s0 : Dev} (s : Dev)
    (hm : Within 0x140000000000000000000000000000000F8000000000000000000000000000000000000000000000000000000000000000000000000000000000084072000000000201A4 m) (h0 : Changes m s0 s) :
    Changes m s0 (Dev.bookLatch s) := by
  unfold Dev.bookLatch
  try dsimp only
  repeat' (first | with_reducible assumption | split | (intro _) | with_reducible apply ch_forEach | with_reducible apply ch_setb | with_reducible apply ch_modBil | with_reducible apply ch_countTamper | exact sub_trans hm (by decide) | with_reducible exact reg_of hm at_BIL_TAMP_STATUS (by decide))

theorem ch_normalUpdate {m : Nat} {s0 : Dev} (s : Dev)
    (hm : Within 0x140000000000000000000000000000000F8000000000000000000000000000000000000000000000000000000000000000000000000000000000084072000000000201A4 m) (h0 : Changes m s0 s) :
    Changes m s0 (Dev.normalUpdate s) := by
  unfold Dev.normalUpdate
  try dsimp only
  repeat' (first | with_reducible assumption | split | (intro _) | with_reducible apply ch_setb | with_reducible apply ch_bookHeld | with_reducible apply ch_bookLatch | exact sub_trans hm (by decide) | with_reducible exact reg_of hm at_BIL_TAMP_STATUS (by decide))

theorem ch_bindSlot {m : Nat} {s0 : Dev} (s : Dev)
    (hm : Within 0x14081000000000000000000000000000000000000000000000000000000000000000000000000000000000000000000000000000000000000000084072000000000001A4 m) (h0 : Changes m s0 s) :
    Changes m s0 (Dev.bindSlot s) := by
  unfold Dev.bindSlot
  try dsimp only
  repeat' (first | with_reducible assumption | split | (intro _) | with_reducible apply ch_setb | with_reducible apply ch_set | with_reducible apply ch_post | exact sub_trans hm (by decide) | with_reducible exact reg_of hm at_KEY_STATUS (by decide) | with_reducible exact reg_of hm (at_KEY_SLOT _) (by decide))

theorem ch_manStatus {m : Nat} {s0 : Dev} (s : Dev)
    (hm : Within 0x40000000000000000000000000000000000000000000000000000000000000000000000000000000000000000000000000000 m) (h0 : Changes m s0 s) :
    Changes m s0 (Dev.manStatus s) := by
  unfold Dev.manStatus
  try dsimp only
  repeat' (first | with_reducible assumption | split | (intro _) | with_reducible apply ch_set | with_reducible exact reg_of hm at_BIL_MAN_STATUS (by decide))

theorem ch_archiveMan {m : Nat} {s0 : Dev} (s : Dev) (a1 : Manifest)
    (hm : Within 0x14000000000000000000000000000000002401000000000000000000000000000000000000000000000000000000000000000000000000000000084072000000000201A4 m) (h0 : Changes m s0 s) :
    Changes m s0 (Dev.archiveMan s a1) := by
  unfold Dev.archiveMan
  try dsimp only
  repeat' (first | with_reducible assumption | split | (intro _) | with_reducible apply ch_when | with_reducible apply ch_bump | with_reducible apply ch_setb | with_reducible apply ch_modBil | with_reducible apply ch_manStatus | with_reducible apply ch_post | exact sub_trans hm (by decide) | with_reducible exact reg_of hm at_BIL_STATUS (by decide) | with_reducible exact reg_of hm at_BIL_MAN_OVERWRITTEN (by decide))

theorem ch_makeManifest {m : Nat} {s0 : Dev} (s : Dev) (a1 : Manifest)
    (hm : Within 0x14081000000000000000000000000000003C01000000000000000000000000000000000000000000000000000000000000000000000000000000084072000000000201A4 m) (h0 : Changes m s0 s) :
    Changes m s0 (Dev.makeManifest s a1) := by
  unfold Dev.makeManifest
  try dsimp only
  repeat' (first | with_reducible assumption | split | (intro _) | with_reducible apply ch_when | with_reducible apply ch_set64 | with_reducible apply ch_modBil | with_reducible apply ch_bindSlot | with_reducible apply ch_archiveMan | exact sub_trans hm (by decide) | with_reducible exact reg_of hm at_BIL_MAN_NO_LO (by decide) | with_reducible exact reg_of hm at_BIL_MAN_NO_HI (by decide) | with_reducible exact writes_at (reg_of hm at_BIL_MAN_NO_HI (by decide)) hi_BIL_MAN_NO_LO)

theorem ch_holdTamper {m : Nat} {s0 : Dev} (s : Dev) (t : Nat) (utc : Nat) (valid : Bool)
    (hm : Within 0x20000 m) (h0 : Changes m s0 s) :
    Changes m s0 (Dev.holdTamper s t utc valid) := by
  unfold Dev.holdTamper
  try dsimp only
  repeat' (first | with_reducible assumption | split | (intro _) | with_reducible apply ch_modBil | exact sub_trans hm (by decide))

theorem ch_bookTamper {m : Nat} {s0 : Dev} (s : Dev) (t : Nat)
    (hm : Within 0x140000000000000000000000000000000F0000000000000000000000000000000000000000000000000000000000000000000000000000000000084072000000000201A4 m) (h0 : Changes m s0 s) :
    Changes m s0 (Dev.bookTamper s t) := by
  unfold Dev.bookTamper
  try dsimp only
  repeat' (first | with_reducible assumption | split | (intro _) | with_reducible apply ch_holdTamper | with_reducible apply ch_countTamper | exact sub_trans hm (by decide))

theorem ch_modKey {m : Nat} {s0 : Dev} (s : Dev) (f : Key → Key)
    (hm : Within 0x40000 m) (h0 : Changes m s0 s) :
    Changes m s0 (Dev.modKey s f) := by
  unfold Dev.modKey
  try dsimp only
  repeat' (first | with_reducible assumption | split | (intro _) | with_reducible apply ch_putKey | exact bit_of hm (by decide))


end Dev

end Sys2Proof.Machine
end

