-- ==== Sys2Proof/Laws/NodesCh.lean ====
section
/-! SUPPORT. What each definition of Machine/Nodes.lean may change. -/

namespace Sys2Proof.Machine

set_option linter.all false
set_option Elab.async false

namespace Dev

theorem ch_modNode {m : Nat} {s0 : Dev} (s : Dev) (i : Fin 128) (f : Node → Node)
    (hm : Within 0x800 m) (h0 : Changes m s0 s) :
    Changes m s0 (Dev.modNode s i f) := by
  unfold Dev.modNode
  try dsimp only
  repeat' (first | with_reducible assumption | split | (intro _) | with_reducible apply ch_putPst | exact bit_of hm (by decide))

theorem ch_modPhy {m : Nat} {s0 : Dev} (s : Dev) (p : Fin 8) (f : Phy → Phy)
    (hm : Within 0x800 m) (h0 : Changes m s0 s) :
    Changes m s0 (Dev.modPhy s p f) := by
  unfold Dev.modPhy
  try dsimp only
  repeat' (first | with_reducible assumption | split | (intro _) | with_reducible apply ch_putPst | exact bit_of hm (by decide))

theorem ch_modTime {m : Nat} {s0 : Dev} (s : Dev) (p : Fin 8) (f : PisteTime → PisteTime)
    (hm : Within 0x800 m) (h0 : Changes m s0 s) :
    Changes m s0 (Dev.modTime s p f) := by
  unfold Dev.modTime
  try dsimp only
  repeat' (first | with_reducible assumption | split | (intro _) | with_reducible apply ch_putPst | exact bit_of hm (by decide))

theorem ch_modSeen {m : Nat} {s0 : Dev} (s : Dev) (i : Fin 128) (f : NodeSeen → NodeSeen)
    (hm : Within 0x800 m) (h0 : Changes m s0 s) :
    Changes m s0 (Dev.modSeen s i f) := by
  unfold Dev.modSeen
  try dsimp only
  repeat' (first | with_reducible assumption | split | (intro _) | with_reducible apply ch_putPst | exact bit_of hm (by decide))


end Dev

end Sys2Proof.Machine
end

