-- ==== Sys2Proof/Laws/PisteTxCh.lean ====
section
/-! SUPPORT. What each definition of Machine/PisteTx.lean may change. -/

namespace Sys2Proof.Machine

set_option linter.all false
set_option Elab.async false

namespace Dev

theorem ch_modTx {m : Nat} {s0 : Dev} (s : Dev) (p : Fin 8) (f : PisteTx → PisteTx)
    (hm : Within 0x800 m) (h0 : Changes m s0 s) :
    Changes m s0 (Dev.modTx s p f) := by
  unfold Dev.modTx
  try dsimp only
  repeat' (first | with_reducible assumption | split | (intro _) | with_reducible apply ch_putPst | exact bit_of hm (by decide))

theorem ch_countLate {m : Nat} {s0 : Dev} (s : Dev)
    (hm : Within 0x14000000000000000000000000000000000000000000000000000000000000000000000000010000000000000000000000000000000000000000084072000000000005A4 m) (h0 : Changes m s0 s) :
    Changes m s0 (Dev.countLate s) := by
  unfold Dev.countLate
  try dsimp only
  repeat' (first | with_reducible assumption | split | (intro _) | with_reducible apply ch_when | with_reducible apply ch_putEdg | with_reducible apply ch_bump | with_reducible apply ch_post | exact sub_trans hm (by decide) | exact bit_of hm (by decide) | with_reducible exact reg_of hm at_PST_EDGE_LATE (by decide))

theorem ch_sendRun {m : Nat} {s0 : Dev} (s : Dev) (p : Fin 8) (x : PisteTx) (r : TxRun)
    (hm : Within 0x14000000000000000000000000000000000000000000000000000000000000000000000000010000000000000000000000000000000000000000084072000000000005A6 m) (h0 : Changes m s0 s) :
    Changes m s0 (Dev.sendRun s p x r) := by
  unfold Dev.sendRun
  try dsimp only
  repeat' (first | with_reducible assumption | split | (intro _) | with_reducible apply ch_when | with_reducible apply ch_countLate | with_reducible apply ch_fresh | with_reducible apply ch_emit | exact sub_trans hm (by decide))

theorem ch_startRuns {m : Nat} {s0 : Dev} (p : Fin 8) (a1 : Nat) (a2 : Dev)
    (hm : Within 0x1400000000000000000000000000000000000000000000000000000000000000000000000001000000000000000000000000000000000000000008407200000000000DA6 m) (h2 : Changes m s0 a2) :
    Changes m s0 (Dev.startRuns p a1 a2) := by
  induction a1 generalizing a2 with
  | zero => exact h2
  | succ k ih =>
    unfold Dev.startRuns
    try dsimp only
    repeat' (first | with_reducible assumption | split | with_reducible apply ch_sendRun | with_reducible apply ch_modTx | with_reducible apply ih | exact sub_trans hm (by decide))


theorem ch_advanceTx {m : Nat} {s0 : Dev} (s : Dev) (p : Fin 8)
    (hm : Within 0x1400000000000000000000000000000000000000000000000000000000000000000000000001000000000000000000000000000000000000000008407200000000000DA6 m) (h0 : Changes m s0 s) :
    Changes m s0 (Dev.advanceTx s p) := by
  unfold Dev.advanceTx
  try dsimp only
  repeat' (first | with_reducible assumption | split | (intro _) | with_reducible apply ch_startRuns | exact sub_trans hm (by decide))

theorem ch_queueRun {m : Nat} {s0 : Dev} (s : Dev) (p : Fin 8) (r : TxRun)
    (hm : Within 0x1400000000000000000000000000000000000000000000000000000000000000000000000001000000000000000000000000000000000000000008407200000000000DA6 m) (h0 : Changes m s0 s) :
    Changes m s0 (Dev.queueRun s p r) := by
  unfold Dev.queueRun
  try dsimp only
  repeat' (first | with_reducible assumption | split | (intro _) | with_reducible apply ch_modTx | with_reducible apply ch_advanceTx | exact sub_trans hm (by decide))

theorem ch_sendEdgeRuns {m : Nat} {s0 : Dev} (s : Dev) (i : Nat) (b : Nat) (seq : Nat) (f : EdgeFrame)
    (hm : Within 0x1400000000000000000000000000000000000000000000000000000000000000000000000001000000000000000000000000000000000000000008407200000000000DA6 m) (h0 : Changes m s0 s) :
    Changes m s0 (Dev.sendEdgeRuns s i b seq f) := by
  unfold Dev.sendEdgeRuns
  try dsimp only
  repeat' (first | with_reducible assumption | split | (intro _) | with_reducible apply ch_forEach | with_reducible apply ch_queueRun | exact sub_trans hm (by decide))

theorem ch_queueFrame {m : Nat} {s0 : Dev} (s : Dev) (p : Fin 8) (hop : Nat) (f : TxFrame)
    (hm : Within 0x1400000000000000000000000000000000000000000000000000000000000000000000000001000000000000000000000000000000000000000008407200000000000DA6 m) (h0 : Changes m s0 s) :
    Changes m s0 (Dev.queueFrame s p hop f) := by
  unfold Dev.queueFrame
  try dsimp only
  repeat' (first | with_reducible assumption | split | (intro _) | with_reducible apply ch_modTx | with_reducible apply ch_advanceTx | exact sub_trans hm (by decide))

theorem ch_nextSeq {m : Nat} {s0 : Dev} (s : Dev) (type : Fin 8)
    (hm : Within 0x800 m) (h0 : Changes m s0 s) :
    Changes m s0 (Dev.nextSeq s type).2 := by
  unfold Dev.nextSeq
  try dsimp only
  repeat' (first | with_reducible assumption | split | (intro _) | with_reducible apply ch_putPst | exact bit_of hm (by decide))

theorem ch_sendFrame {m : Nat} {s0 : Dev} (s : Dev) (i : Nat) (type : Nat) (seq : Nat) (d : List Byte)
    (hm : Within 0x1400000000000000000000000000000000000000000000000000000000000000000000000001000000000000000000000000000000000000000008407200000000000DA6 m) (h0 : Changes m s0 s) :
    Changes m s0 (Dev.sendFrame s i type seq d) := by
  unfold Dev.sendFrame
  try dsimp only
  repeat' (first | with_reducible assumption | split | (intro _) | with_reducible apply ch_forEach | with_reducible apply ch_queueFrame | exact sub_trans hm (by decide))

theorem ch_sendCtrl {m : Nat} {s0 : Dev} (s : Dev) (node : Nat) (write : Bool) (addr : Nat) (count : Nat) (words : List Word) (why : CtrlWhy)
    (hm : Within 0x1400000000000000000000000000000000000000000000000000000000000000000000000001000000000000000000000000000000000000000008407200000000000DA6 m) (h0 : Changes m s0 s) :
    Changes m s0 (Dev.sendCtrl s node write addr count words why) := by
  unfold Dev.sendCtrl
  try dsimp only
  repeat' (first | with_reducible assumption | split | (intro _) | with_reducible apply ch_putPst | with_reducible apply ch_nextSeq | with_reducible apply ch_sendFrame | with_reducible apply ch_emit | exact sub_trans hm (by decide) | exact bit_of hm (by decide))

theorem ch_txBegin {m : Nat} {s0 : Dev} (s : Dev) (p : Fin 8)
    (hm : Within 0x802 m) (h0 : Changes m s0 s) :
    Changes m s0 (Dev.txBegin s p) := by
  unfold Dev.txBegin
  try dsimp only
  repeat' (first | with_reducible assumption | split | (intro _) | with_reducible apply ch_fresh | with_reducible apply ch_modTx | exact sub_trans hm (by decide))

theorem ch_sendEthernet {m : Nat} {s0 : Dev} (s : Dev) (i : Nat) (d : List Byte)
    (hm : Within 0x1400000000000000000000000000000000000000000000000000000000000000000000000001000000000000000000000000000000000000000008407200000000000DA6 m) (h0 : Changes m s0 s) :
    Changes m s0 (Dev.sendEthernet s i d) := by
  unfold Dev.sendEthernet
  try dsimp only
  repeat' (first | with_reducible assumption | split | (intro _) | with_reducible apply ch_forEach | with_reducible apply ch_putPst | with_reducible apply ch_nextSeq | with_reducible apply ch_sendFrame | exact sub_trans hm (by decide) | exact bit_of hm (by decide))

theorem ch_txDrop {m : Nat} {s0 : Dev} (s : Dev) (p : Fin 8)
    (hm : Within 0x800 m) (h0 : Changes m s0 s) :
    Changes m s0 (Dev.txDrop s p) := by
  unfold Dev.txDrop
  try dsimp only
  repeat' (first | with_reducible assumption | split | (intro _) | with_reducible apply ch_modTx | exact sub_trans hm (by decide))


end Dev

end Sys2Proof.Machine
end

