-- ==== Sys2Proof/Laws/BatteryCh.lean ====
section
/-! SUPPORT. What each definition of Machine/Battery.lean may change. -/

namespace Sys2Proof.Machine

set_option linter.all false
set_option Elab.async false

namespace Dev

theorem ch_modBse {m : Nat} {s0 : Dev} (s : Dev) (f : Bse → Bse)
    (hm : Within 0x400000 m) (h0 : Changes m s0 s) :
    Changes m s0 (Dev.modBse s f) := by
  unfold Dev.modBse
  try dsimp only
  repeat' (first | with_reducible assumption | split | (intro _) | with_reducible apply ch_putBse | exact bit_of hm (by decide))

theorem ch_modStr {m : Nat} {s0 : Dev} (s : Dev) (k : Fin 48) (f : Str → Str)
    (hm : Within 0x400000 m) (h0 : Changes m s0 s) :
    Changes m s0 (Dev.modStr s k f) := by
  unfold Dev.modStr
  try dsimp only
  repeat' (first | with_reducible assumption | split | (intro _) | with_reducible apply ch_modBse | exact sub_trans hm (by decide))

theorem ch_bseSummary {m : Nat} {s0 : Dev} (s : Dev)
    (hm : Within 0x800000000000000000000000000000000000000000000000000000000000000000000000000000000000000000000000000000000000 m) (h0 : Changes m s0 s) :
    Changes m s0 (Dev.bseSummary s) := by
  unfold Dev.bseSummary
  try dsimp only
  repeat' (first | with_reducible assumption | split | (intro _) | with_reducible apply ch_set | with_reducible exact reg_of hm at_BSE_STATUS (by decide))

theorem ch_extraCommit {m : Nat} {s0 : Dev} (s : Dev)
    (hm : Within 0x400000 m) (h0 : Changes m s0 s) :
    Changes m s0 (Dev.extraCommit s) := by
  unfold Dev.extraCommit
  try dsimp only
  repeat' (first | with_reducible assumption | split | (intro _) | with_reducible apply ch_modBse | exact sub_trans hm (by decide))

theorem ch_strRate {m : Nat} {s0 : Dev} (s : Dev) (k : Fin 48) (rate : Nat)
    (hm : Within 0x1400000000000000000000000000000000000000000000000000000000000000000000000001000000000000000000000000000000000000000008407200000000400DA6 m) (h0 : Changes m s0 s) :
    Changes m s0 (Dev.strRate s k rate) := by
  unfold Dev.strRate
  try dsimp only
  repeat' (first | with_reducible assumption | split | (intro _) | with_reducible apply ch_modStr | with_reducible apply ch_sendCtrl | exact sub_trans hm (by decide))

theorem ch_postStr {m : Nat} {s0 : Dev} (s : Dev) (c : Code) (k : Nat) (more : optParam (List Byte) [])
    (hm : Within 0x14000000000000000000000000000000000000000000000000000000000000000000000000000000000000000000000000000000000000000000084072000000000001A4 m) (h0 : Changes m s0 s) :
    Changes m s0 (Dev.postStr s c k more) := by
  unfold Dev.postStr
  try dsimp only
  repeat' (first | with_reducible assumption | split | (intro _) | with_reducible apply ch_post | exact sub_trans hm (by decide))

theorem ch_judgeStarved {m : Nat} {s0 : Dev} (s : Dev) (k : Fin 48)
    (hm : Within 0x14000000000000000000002000008000000000000000000000000000000000000000000000000000000000000000000000000000000000000000084072000000000001A4 m) (h0 : Changes m s0 s) :
    Changes m s0 (Dev.judgeStarved s k) := by
  unfold Dev.judgeStarved
  try dsimp only
  repeat' (first | with_reducible assumption | split | (intro _) | with_reducible apply ch_when | with_reducible apply ch_setb | with_reducible apply ch_bseSummary | with_reducible apply ch_postStr | exact sub_trans hm (by decide) | with_reducible exact reg_of hm (at_BSE_STR_STATUS _) (by decide))

theorem ch_ageZero {m : Nat} {s0 : Dev} (s : Dev) (k : Fin 48)
    (hm : Within 0x14000000000000000000003000008000000000000000000000000000000000000000000000000000000000000000000000000000000000000000084072000000004001A4 m) (h0 : Changes m s0 s) :
    Changes m s0 (Dev.ageZero s k) := by
  unfold Dev.ageZero
  try dsimp only
  repeat' (first | with_reducible assumption | split | (intro _) | with_reducible apply ch_set | with_reducible apply ch_judgeStarved | with_reducible apply ch_modStr | exact sub_trans hm (by decide) | with_reducible exact reg_of hm (at_BSE_STR_LEARN _) (by decide))

theorem ch_strEnable {m : Nat} {s0 : Dev} (s : Dev) (k : Fin 48)
    (hm : Within 0x1400000000000000000000300880800000000000000000000000000000000000000000000001000000000000000000000000000000000000000008407200000000400DA6 m) (h0 : Changes m s0 s) :
    Changes m s0 (Dev.strEnable s k).1 := by
  unfold Dev.strEnable
  try dsimp only
  repeat' (first | with_reducible assumption | split | (intro _) | with_reducible apply ch_when | with_reducible apply ch_setb | with_reducible apply ch_set | with_reducible apply ch_modStr | with_reducible apply ch_bseSummary | with_reducible apply ch_extraCommit | with_reducible apply ch_strRate | with_reducible apply ch_ageZero | exact sub_trans hm (by decide) | with_reducible exact reg_of hm (at_BSE_STR_CFG _) (by decide) | with_reducible exact reg_of hm (at_BSE_STR_CAP _) (by decide) | with_reducible exact reg_of hm (at_BSE_STR_STATUS _) (by decide))

theorem ch_effStringEnable {m : Nat} {s0 : Dev} (k : Fin 48) (s : Dev)
    (hm : Within 0x1400000000000000000000300880800000000000000000000000000000000000000000000001000000000000000000000000000000000000000008407200000000400DA6 m) (h1 : Changes m s0 s) :
    Changes m s0 (effStringEnable k s) := by
  unfold effStringEnable
  try dsimp only
  repeat' (first | with_reducible assumption | split | (intro _) | with_reducible apply ch_strEnable | with_reducible apply ch_answer | exact sub_trans hm (by decide))

theorem ch_anchor {m : Nat} {s0 : Dev} (s : Dev) (k : Fin 48) (soc : Rat) (ev : Code)
    (hm : Within 0x14000000000000000000002000000000000000000000000000000000000000000000000000000000000000000000000000000000000000000000084072000000004001A4 m) (h0 : Changes m s0 s) :
    Changes m s0 (Dev.anchor s k soc ev) := by
  unfold Dev.anchor
  try dsimp only
  repeat' (first | with_reducible assumption | split | (intro _) | with_reducible apply ch_setb | with_reducible apply ch_modStr | with_reducible apply ch_extraCommit | with_reducible apply ch_postStr | exact sub_trans hm (by decide) | with_reducible exact reg_of hm (at_BSE_STR_STATUS _) (by decide))

theorem ch_withdrawRest {m : Nat} {s0 : Dev} (s : Dev) (k : Fin 48)
    (hm : Within 0x14000000000000000000002000000000000000000000000000000000000000000000000000000000000000000000000000000000000000000000084072000000004001A4 m) (h0 : Changes m s0 s) :
    Changes m s0 (Dev.withdrawRest s k) := by
  unfold Dev.withdrawRest
  try dsimp only
  repeat' (first | with_reducible assumption | split | (intro _) | with_reducible apply ch_set | with_reducible apply ch_setb | with_reducible apply ch_postStr | with_reducible apply ch_modStr | exact sub_trans hm (by decide) | with_reducible exact reg_of hm (at_BSE_STR_STATUS _) (by decide))

theorem ch_restPostponed {m : Nat} {s0 : Dev} (s : Dev) (k : Fin 48) (cause : Nat)
    (hm : Within 0x200000000000000000000000000000000000000000000000000000000000000000000000000000000000000000000000000000000000000000 m) (h0 : Changes m s0 s) :
    Changes m s0 (Dev.restPostponed s k cause) := by
  unfold Dev.restPostponed
  try dsimp only
  repeat' (first | with_reducible assumption | split | (intro _) | with_reducible apply ch_set | with_reducible apply ch_setb | with_reducible exact reg_of hm (at_BSE_STR_STATUS _) (by decide))

theorem ch_estimate {m : Nat} {s0 : Dev} (s : Dev) (k : Fin 48) (ocv : Rat) (atRest : Bool)
    (hm : Within 0x200000000000000000000000000000000000000000000000000000000000000000000000000000000000000000000000000000000000400000 m) (h0 : Changes m s0 s) :
    Changes m s0 (Dev.estimate s k ocv atRest) := by
  unfold Dev.estimate
  try dsimp only
  repeat' (first | with_reducible assumption | split | (intro _) | with_reducible apply ch_when | with_reducible apply ch_setb | with_reducible apply ch_modStr | exact sub_trans hm (by decide) | with_reducible exact reg_of hm (at_BSE_STR_STATUS _) (by decide))

theorem ch_learnPoint {m : Nat} {s0 : Dev} (s : Dev) (k : Fin 48) (p : RestPoint)
    (hm : Within 0x14000000000000000000003008008000000000000000000000000000000000000000000000000000000000000000000000000000000000000000084072000000004001A4 m) (h0 : Changes m s0 s) :
    Changes m s0 (Dev.learnPoint s k p) := by
  unfold Dev.learnPoint
  try dsimp only
  repeat' (first | with_reducible assumption | split | (intro _) | with_reducible apply ch_set | with_reducible apply ch_modStr | with_reducible apply ch_ageZero | with_reducible apply ch_extraCommit | with_reducible apply ch_postStr | exact sub_trans hm (by decide) | with_reducible exact reg_of hm (at_BSE_STR_CAP _) (by decide) | with_reducible exact reg_of hm (at_BSE_STR_LEARN _) (by decide))

theorem ch_restPoint {m : Nat} {s0 : Dev} (s : Dev) (k : Fin 48) (ocv : Rat) (swapped : Bool)
    (hm : Within 0x14000000000000000000003008008000000000000000000000000000000000000000000000000000000000000000000000000000000000000000084072000000004001A4 m) (h0 : Changes m s0 s) :
    Changes m s0 (Dev.restPoint s k ocv swapped) := by
  unfold Dev.restPoint
  try dsimp only
  repeat' (first | with_reducible assumption | split | (intro _) | with_reducible apply ch_when | with_reducible apply ch_setb | with_reducible apply ch_modStr | with_reducible apply ch_extraCommit | with_reducible apply ch_withdrawRest | with_reducible apply ch_postStr | with_reducible apply ch_estimate | with_reducible apply ch_learnPoint | exact sub_trans hm (by decide) | with_reducible exact reg_of hm (at_BSE_STR_STATUS _) (by decide))

theorem ch_restAborted {m : Nat} {s0 : Dev} (s : Dev) (k : Fin 48)
    (hm : Within 0x200000000000000000000000000000000000000000000000000000000000000000000000000000000000000000000000000000000000400000 m) (h0 : Changes m s0 s) :
    Changes m s0 (Dev.restAborted s k) := by
  unfold Dev.restAborted
  try dsimp only
  repeat' (first | with_reducible assumption | split | (intro _) | with_reducible apply ch_set | with_reducible apply ch_setb | with_reducible apply ch_modStr | exact sub_trans hm (by decide) | with_reducible exact reg_of hm (at_BSE_STR_STATUS _) (by decide))

theorem ch_hostSwap {m : Nat} {s0 : Dev} (s : Dev) (k : Fin 48)
    (hm : Within 0x400000 m) (h0 : Changes m s0 s) :
    Changes m s0 (Dev.hostSwap s k) := by
  unfold Dev.hostSwap
  try dsimp only
  repeat' (first | with_reducible assumption | split | (intro _) | with_reducible apply ch_modStr | exact sub_trans hm (by decide))

theorem ch_effStringSwap {m : Nat} {s0 : Dev} (k : Fin 48) (s : Dev)
    (hm : Within 0x400004 m) (h1 : Changes m s0 s) :
    Changes m s0 (effStringSwap k s) := by
  unfold effStringSwap
  try dsimp only
  repeat' (first | with_reducible assumption | split | (intro _) | with_reducible apply ch_answer | with_reducible apply ch_hostSwap | exact sub_trans hm (by decide))

theorem ch_restRequest {m : Nat} {s0 : Dev} (s : Dev) (k : Fin 48)
    (hm : Within 0x14000000000000000000002000000000000000000000000000000000000000000000000000000000000000000000000000000000000000000000084072000000004001A4 m) (h0 : Changes m s0 s) :
    Changes m s0 (Dev.restRequest s k) := by
  unfold Dev.restRequest
  try dsimp only
  repeat' (first | with_reducible assumption | split | (intro _) | with_reducible apply ch_setb | with_reducible apply ch_withdrawRest | with_reducible apply ch_postStr | exact sub_trans hm (by decide) | with_reducible exact reg_of hm (at_BSE_STR_STATUS _) (by decide))

theorem ch_countBroken {m : Nat} {s0 : Dev} (s : Dev) (k : Fin 48)
    (hm : Within 0x200000000000000000000000000000000000000000000000000000000000000000000000000000000000000000000000000000000000400020 m) (h0 : Changes m s0 s) :
    Changes m s0 (Dev.countBroken s k) := by
  unfold Dev.countBroken
  try dsimp only
  repeat' (first | with_reducible assumption | split | (intro _) | with_reducible apply ch_latch | with_reducible apply ch_setb | with_reducible apply ch_modStr | exact sub_trans hm (by decide) | exact bit_of hm (by decide) | with_reducible exact reg_of hm (at_BSE_STR_STATUS _) (by decide))

theorem ch_countCharge {m : Nat} {s0 : Dev} (s : Dev) (k : Fin 48) (i0 : Rat) (i1 : Rat) (gap : Nat)
    (hm : Within 0x200000000000000000000000000000000000000000000000000000000000000000000000000000000000000000000000000000000000400020 m) (h0 : Changes m s0 s) :
    Changes m s0 (Dev.countCharge s k i0 i1 gap) := by
  unfold Dev.countCharge
  try dsimp only
  repeat' (first | with_reducible assumption | split | (intro _) | with_reducible apply ch_when | with_reducible apply ch_latch | with_reducible apply ch_setb | with_reducible apply ch_modStr | exact sub_trans hm (by decide) | exact bit_of hm (by decide) | with_reducible exact reg_of hm (at_BSE_STR_STATUS _) (by decide))

theorem ch_countSample {m : Nat} {s0 : Dev} (s : Dev) (k : Fin 48) (t : Nat) (i : Rat)
    (hm : Within 0x200000000000000000000000000000000000000000000000000000000000000000000000000000000000000000000000000000000000400020 m) (h0 : Changes m s0 s) :
    Changes m s0 (Dev.countSample s k t i) := by
  unfold Dev.countSample
  try dsimp only
  repeat' (first | with_reducible assumption | split | (intro _) | with_reducible apply ch_modStr | with_reducible apply ch_countBroken | with_reducible apply ch_countCharge | exact sub_trans hm (by decide))

theorem ch_showStr {m : Nat} {s0 : Dev} (s : Dev) (k : Fin 48)
    (hm : Within 0x240000000000000000000000000000000000000000000000000000000000000000000000000000000000000000000000000000000000000000 m) (h0 : Changes m s0 s) :
    Changes m s0 (Dev.showStr s k) := by
  unfold Dev.showStr
  try dsimp only
  repeat' (first | with_reducible assumption | split | (intro _) | with_reducible apply ch_set | with_reducible apply ch_seti | with_reducible exact reg_of hm (at_BSE_STR_SOC _) (by decide) | with_reducible exact reg_of hm (at_BSE_STR_STATUS _) (by decide))

theorem ch_strWake {m : Nat} {s0 : Dev} (s : Dev) (k : Fin 48)
    (hm : Within 0x1400000000000000000000200000000000000000000000000000000000000000000000000001000000000000000000000000000000000000000008407200000000400DA6 m) (h0 : Changes m s0 s) :
    Changes m s0 (Dev.strWake s k) := by
  unfold Dev.strWake
  try dsimp only
  repeat' (first | with_reducible assumption | split | (intro _) | with_reducible apply ch_set | with_reducible apply ch_postStr | with_reducible apply ch_strRate | exact sub_trans hm (by decide) | with_reducible exact reg_of hm (at_BSE_STR_STATUS _) (by decide))

theorem ch_strSample {m : Nat} {s0 : Dev} (s : Dev) (k : Fin 48) (t : Nat) (v : Rat) (i : Rat)
    (hm : Within 0x1400000000000000000000240000000000000000000000000000000000000000000000000001000000000000000000000000000000000000000008407200000000400DA6 m) (h0 : Changes m s0 s) :
    Changes m s0 (Dev.strSample s k t v i) := by
  unfold Dev.strSample
  try dsimp only
  repeat' (first | with_reducible assumption | split | (intro _) | with_reducible apply ch_countSample | with_reducible apply ch_modStr | with_reducible apply ch_estimate | with_reducible apply ch_showStr | with_reducible apply ch_strWake | exact sub_trans hm (by decide))

theorem ch_strTele {m : Nat} {s0 : Dev} (s : Dev) (i : Fin 128) (stale : Bool)
    (hm : Within 0x1400000000000000000000240000000000000000000000000000000000000000000000000001000000000000000000000000000000000000000008407200000000400DA6 m) (h0 : Changes m s0 s) :
    Changes m s0 (Dev.strTele s i stale) := by
  unfold Dev.strTele
  try dsimp only
  repeat' (first | with_reducible assumption | split | (intro _) | with_reducible apply ch_forEach | with_reducible apply ch_modStr | with_reducible apply ch_countBroken | with_reducible apply ch_strSample | exact sub_trans hm (by decide))

theorem ch_loadStr {m : Nat} {s0 : Dev} (s : Dev) (k : Fin 48) (x : StrSave)
    (hm : Within 0x340800000000000000000000000000000000000000000000000000000000000000000000000000000000000000000000000000000000400000 m) (h0 : Changes m s0 s) :
    Changes m s0 (Dev.loadStr s k x) := by
  unfold Dev.loadStr
  try dsimp only
  repeat' (first | with_reducible assumption | split | (intro _) | with_reducible apply ch_set | with_reducible apply ch_setb | with_reducible apply ch_showStr | with_reducible apply ch_modStr | exact sub_trans hm (by decide) | with_reducible exact reg_of hm (at_BSE_STR_CAP _) (by decide) | with_reducible exact reg_of hm (at_BSE_STR_LEARN _) (by decide) | with_reducible exact reg_of hm (at_BSE_STR_STATUS _) (by decide))

theorem ch_bseCommit {m : Nat} {s0 : Dev} (s : Dev) (good : Bool)
    (hm : Within 0x14000000000000000000000000060000000000000000000000000000000000000000000000000000000000000000000000000000000000000000084072000000004001A4 m) (h0 : Changes m s0 s) :
    Changes m s0 (Dev.bseCommit s good) := by
  unfold Dev.bseCommit
  try dsimp only
  repeat' (first | with_reducible assumption | split | (intro _) | with_reducible apply ch_set64 | with_reducible apply ch_modBse | with_reducible apply ch_post | exact sub_trans hm (by decide) | with_reducible exact reg_of hm at_BSE_COMMIT_SEQ_LO (by decide) | with_reducible exact reg_of hm at_BSE_COMMIT_SEQ_HI (by decide) | with_reducible exact writes_at (reg_of hm at_BSE_COMMIT_SEQ_HI (by decide)) hi_BSE_COMMIT_SEQ_LO)

theorem ch_effLearnAgeTick {m : Nat} {s0 : Dev} (k : Fin 48) (s : Dev)
    (hm : Within 0x14000000000000000000003000008000000000000000000000000000000000000000000000000000000000000000000000000000000000000000084072000000004001A5 m) (h1 : Changes m s0 s) :
    Changes m s0 (effLearnAgeTick k s) := by
  unfold effLearnAgeTick
  try dsimp only
  repeat' (first | with_reducible assumption | split | (intro _) | with_reducible apply ch_incSat | with_reducible apply ch_modStr | with_reducible apply ch_reach | with_reducible apply ch_judgeStarved | exact sub_trans hm (by decide) | with_reducible exact reg_of hm (at_BSE_STR_LEARN _) (by decide))

theorem ch_bmsFlag {m : Nat} {s0 : Dev} (s : Dev) (k : Fin 48) (f : Field) (ev : Code) (b : Bool)
    (hm : Within 0x14000000000000000000000000000000000000000000000000000000000000000000000000000000000000000000000000000000000000000000084072000000000001A4 m) (h0 : Changes m s0 s) (h2 : Writes m f.off) :
    Changes m s0 (Dev.bmsFlag s k f ev b) := by
  unfold Dev.bmsFlag
  try dsimp only
  repeat' (first | with_reducible assumption | split | (intro _) | with_reducible apply ch_setb | with_reducible apply ch_postStr | exact sub_trans hm (by decide))

theorem ch_stepGaps {m : Nat} {s0 : Dev} (s : Dev) (k : Fin 48)
    (hm : Within 0x200000000000000000000000000000000000000000000000000000000000000000000000000000000000000000000000000000000000400020 m) (h0 : Changes m s0 s) :
    Changes m s0 (Dev.stepGaps s k) := by
  unfold Dev.stepGaps
  try dsimp only
  repeat' (first | with_reducible assumption | split | (intro _) | with_reducible apply ch_setb | with_reducible apply ch_modStr | with_reducible apply ch_countBroken | exact sub_trans hm (by decide) | with_reducible exact reg_of hm (at_BSE_STR_STATUS _) (by decide))

theorem ch_estimateNow {m : Nat} {s0 : Dev} (s : Dev) (k : Fin 48)
    (hm : Within 0x200000000000000000000000000000000000000000000000000000000000000000000000000000000000000000000000000000000000400000 m) (h0 : Changes m s0 s) :
    Changes m s0 (Dev.estimateNow s k) := by
  unfold Dev.estimateNow
  try dsimp only
  repeat' (first | with_reducible assumption | split | (intro _) | with_reducible apply ch_estimate | with_reducible apply ch_modStr | exact sub_trans hm (by decide))

theorem ch_strSwap {m : Nat} {s0 : Dev} (s : Dev) (k : Fin 48) (cause : Nat)
    (hm : Within 0x14000000000000000000003008008000000000000000000000000000000000000000000000000000000000000000000000000000000000000000084072000000004001A4 m) (h0 : Changes m s0 s) :
    Changes m s0 (Dev.strSwap s k cause) := by
  unfold Dev.strSwap
  try dsimp only
  repeat' (first | with_reducible assumption | split | (intro _) | with_reducible apply ch_when | with_reducible apply ch_set | with_reducible apply ch_setb | with_reducible apply ch_withdrawRest | with_reducible apply ch_ageZero | with_reducible apply ch_modStr | with_reducible apply ch_estimateNow | with_reducible apply ch_extraCommit | with_reducible apply ch_postStr | exact sub_trans hm (by decide) | with_reducible exact reg_of hm (at_BSE_STR_CAP _) (by decide) | with_reducible exact reg_of hm (at_BSE_STR_LEARN _) (by decide) | with_reducible exact reg_of hm (at_BSE_STR_STATUS _) (by decide))

theorem ch_anchors {m : Nat} {s0 : Dev} (s : Dev) (k : Fin 48)
    (hm : Within 0x14000000000000000000002000000000000000000000000000000000000000000000000000000000000000000000000000000000000000000000084072000000004001A4 m) (h0 : Changes m s0 s) :
    Changes m s0 (Dev.anchors s k) := by
  unfold Dev.anchors
  try dsimp only
  repeat' (first | with_reducible assumption | split | (intro _) | with_reducible apply ch_anchor | exact sub_trans hm (by decide))

theorem ch_strLimits {m : Nat} {s0 : Dev} (s : Dev) (k : Fin 48)
    (hm : Within 0x80000000000000000000000000000000000000000000000000000000000000000000000000000000000000000000000000000000000400000 m) (h0 : Changes m s0 s) :
    Changes m s0 (Dev.strLimits s k) := by
  unfold Dev.strLimits
  try dsimp only
  repeat' (first | with_reducible assumption | split | (intro _) | with_reducible apply ch_set | with_reducible apply ch_modStr | exact sub_trans hm (by decide) | with_reducible exact reg_of hm (at_BSE_STR_LIM _) (by decide))

theorem ch_strState {m : Nat} {s0 : Dev} (s : Dev) (k : Fin 48)
    (hm : Within 0x1400000000000000000000200000000000000000000000000000000000000000000000000001000000000000000000000000000000000000000008407200000000400DA6 m) (h0 : Changes m s0 s) :
    Changes m s0 (Dev.strState s k) := by
  unfold Dev.strState
  try dsimp only
  repeat' (first | with_reducible assumption | split | (intro _) | with_reducible apply ch_set | with_reducible apply ch_postStr | with_reducible apply ch_strRate | with_reducible apply ch_modStr | exact sub_trans hm (by decide) | with_reducible exact reg_of hm (at_BSE_STR_STATUS _) (by decide))

theorem ch_strStep {m : Nat} {s0 : Dev} (s : Dev) (k : Fin 48)
    (hm : Within 0x14000000000000000000003C0800800000000000000000000000000000000000000000000001000000000000000000000000000000000000000008407200000000400DA6 m) (h0 : Changes m s0 s) :
    Changes m s0 (Dev.strStep s k) := by
  unfold Dev.strStep
  try dsimp only
  repeat' (first | with_reducible assumption | split | (intro _) | with_reducible apply ch_when | with_reducible apply ch_strRate | with_reducible apply ch_bmsFlag | with_reducible apply ch_stepGaps | with_reducible apply ch_modStr | with_reducible apply ch_strSwap | with_reducible apply ch_anchors | with_reducible apply ch_restPoint | with_reducible apply ch_strLimits | with_reducible apply ch_restRequest | with_reducible apply ch_showStr | with_reducible apply ch_strState | exact sub_trans hm (by decide) | with_reducible exact reg_of hm (at_BSE_STR_STATUS _) (by decide))

theorem ch_swapOff {m : Nat} {s0 : Dev} (s : Dev) (k : Fin 48)
    (hm : Within 0x14000000000000000000003008008000000000000000000000000000000000000000000000000000000000000000000000000000000000000000084072000000004001A4 m) (h0 : Changes m s0 s) :
    Changes m s0 (Dev.swapOff s k) := by
  unfold Dev.swapOff
  try dsimp only
  repeat' (first | with_reducible assumption | split | (intro _) | with_reducible apply ch_strSwap | with_reducible apply ch_modStr | exact sub_trans hm (by decide))

theorem ch_effEstimatorStep {m : Nat} {s0 : Dev} (good : Bool) (s : Dev)
    (hm : Within 0x14000000000000000000003C0806800000000000000000000000000000000000000000000001000000000000000000000000000000000000000008407200000000400DA7 m) (h1 : Changes m s0 s) :
    Changes m s0 (effEstimatorStep good s) := by
  unfold effEstimatorStep
  try dsimp only
  repeat' (first | with_reducible assumption | split | (intro _) | with_reducible apply ch_forEach | with_reducible apply ch_when | with_reducible apply ch_modBse | with_reducible apply ch_reach | with_reducible apply ch_bseCommit | with_reducible apply ch_bseSummary | with_reducible apply ch_strStep | with_reducible apply ch_swapOff | exact sub_trans hm (by decide))

theorem ch_takeIdent {m : Nat} {s0 : Dev} (s : Dev) (k : Fin 48)
    (hm : Within 0x400000 m) (h0 : Changes m s0 s) :
    Changes m s0 (Dev.takeIdent s k) := by
  unfold Dev.takeIdent
  try dsimp only
  repeat' (first | with_reducible assumption | split | (intro _) | with_reducible apply ch_modStr | exact sub_trans hm (by decide))

theorem ch_effBmsStaleTimeout {m : Nat} {s0 : Dev} (k : Fin 48) (s : Dev)
    (hm : Within 0x14000000000000000000002000000000000000000000000000000000000000000000000000000000000000000000000000000000000000000000084072000000000001A5 m) (h1 : Changes m s0 s) :
    Changes m s0 (effBmsStaleTimeout k s) := by
  unfold effBmsStaleTimeout
  try dsimp only
  repeat' (first | with_reducible assumption | split | (intro _) | with_reducible apply ch_bmsFlag | with_reducible apply ch_reach | exact sub_trans hm (by decide) | with_reducible exact reg_of hm (at_BSE_STR_STATUS _) (by decide))

theorem ch_bseRestart {m : Nat} {s0 : Dev} (s : Dev) (bad : List (Fin 2)) (restarted : Bool)
    (hm : Within 0x14000000000000000000003408068000000000000000000000000000000000000000000000000000000000000000000000000000000000000000084072000000004001A4 m) (h0 : Changes m s0 s) :
    Changes m s0 (Dev.bseRestart s bad restarted) := by
  unfold Dev.bseRestart
  try dsimp only
  repeat' (first | with_reducible assumption | split | (intro _) | with_reducible apply ch_forEach | with_reducible apply ch_set64 | with_reducible apply ch_setb | with_reducible apply ch_set | with_reducible apply ch_modStr | with_reducible apply ch_modBse | with_reducible apply ch_loadStr | with_reducible apply ch_post | with_reducible apply ch_judgeStarved | exact sub_trans hm (by decide) | with_reducible exact reg_of hm at_BSE_STATUS (by decide) | with_reducible exact reg_of hm at_BSE_COMMIT_SEQ_LO (by decide) | with_reducible exact reg_of hm at_BSE_COMMIT_SEQ_HI (by decide) | with_reducible exact reg_of hm (at_BSE_STR_CAP _) (by decide) | with_reducible exact reg_of hm (at_BSE_STR_LEARN _) (by decide) | with_reducible exact reg_of hm (at_BSE_STR_STATUS _) (by decide) | with_reducible exact writes_at (reg_of hm at_BSE_COMMIT_SEQ_HI (by decide)) hi_BSE_COMMIT_SEQ_LO)

theorem ch_bmsFrame {m : Nat} {s0 : Dev} (s : Dev) (k : Fin 48) (r : CanRecord)
    (hm : Within 0x1400000000000000000000A00000000000000000000000000000000000000000000000000001000000000000000000000000000000000000000008407200000000400DA6 m) (h0 : Changes m s0 s) :
    Changes m s0 (Dev.bmsFrame s k r) := by
  unfold Dev.bmsFrame
  try dsimp only
  repeat' (first | with_reducible assumption | split | (intro _) | with_reducible apply ch_forEach | with_reducible apply ch_when | with_reducible apply ch_bump | with_reducible apply ch_modStr | with_reducible apply ch_strWake | with_reducible apply ch_takeIdent | with_reducible apply ch_bmsFlag | exact sub_trans hm (by decide) | with_reducible exact reg_of hm (at_BSE_STR_STATUS _) (by decide) | with_reducible exact reg_of hm (at_BSE_STR_CANIGN _) (by decide))

theorem ch_effEstimatorCommit {m : Nat} {s0 : Dev} (good : Bool) (s : Dev)
    (hm : Within 0x14000000000000000000000000060000000000000000000000000000000000000000000000000000000000000000000000000000000000000000084072000000004001A5 m) (h1 : Changes m s0 s) :
    Changes m s0 (effEstimatorCommit good s) := by
  unfold effEstimatorCommit
  try dsimp only
  repeat' (first | with_reducible assumption | split | (intro _) | with_reducible apply ch_bseCommit | with_reducible apply ch_modBse | with_reducible apply ch_reach | exact sub_trans hm (by decide))

theorem ch_effStringForget {m : Nat} {s0 : Dev} (k : Fin 48) (s : Dev)
    (hm : Within 0x240000000000000000000000000000000000000000000000000000000000000000000000000000000000000000000000000000000000400004 m) (h1 : Changes m s0 s) :
    Changes m s0 (effStringForget k s) := by
  unfold effStringForget
  try dsimp only
  repeat' (first | with_reducible assumption | split | (intro _) | with_reducible apply ch_answer | with_reducible apply ch_showStr | with_reducible apply ch_modStr | exact sub_trans hm (by decide))

theorem ch_restGranted {m : Nat} {s0 : Dev} (s : Dev) (k : Fin 48)
    (hm : Within 0x200000000000000000000000000000000000000000000000000000000000000000000000000000000000000000000000000000000000400000 m) (h0 : Changes m s0 s) :
    Changes m s0 (Dev.restGranted s k) := by
  unfold Dev.restGranted
  try dsimp only
  repeat' (first | with_reducible assumption | split | (intro _) | with_reducible apply ch_set | with_reducible apply ch_setb | with_reducible apply ch_modStr | exact sub_trans hm (by decide) | with_reducible exact reg_of hm (at_BSE_STR_STATUS _) (by decide))

theorem ch_strDisable {m : Nat} {s0 : Dev} (s : Dev) (k : Fin 48)
    (hm : Within 0x14000000000000000000002800808000000000000000000000000000000000000000000000000000000000000000000000000000000000000000084072000000004001A4 m) (h0 : Changes m s0 s) :
    Changes m s0 (Dev.strDisable s k).1 := by
  unfold Dev.strDisable
  try dsimp only
  repeat' (first | with_reducible assumption | split | (intro _) | with_reducible apply ch_set | with_reducible apply ch_setb | with_reducible apply ch_wr | with_reducible apply ch_withdrawRest | with_reducible apply ch_bseSummary | with_reducible apply ch_modStr | exact sub_trans hm (by decide) | with_reducible exact reg_of hm (at_BSE_STR_CFG _) (by decide) | with_reducible exact reg_of hm (at_BSE_STR_LIM _) (by decide) | with_reducible exact reg_of hm (at_BSE_STR_STATUS _) (by decide))

theorem ch_execStringEnable {m : Nat} {k : Fin 48} {s t : State} (hm : Within 0x1400000000000000000000300880800000000000000000000000000000000000000000000001000000000000000000000000000000000000000008407200000000400DA6 m)
    (h : execStringEnable k s = .next t) : t.pending = s.pending ∧ Changes m s.dev t.dev := by
  unfold execStringEnable at h
  refine of_onReg h (bit_of hm (by decide)) (fun d hd => ?_)
  try dsimp only
  repeat' (first | with_reducible assumption | split | (intro _) | with_reducible apply ch_effStringEnable | exact sub_trans hm (by decide))

theorem ch_execEstimatorStep {m : Nat} {good : Bool} {s t : State} (hm : Within 0x14000000000000000000003C0806800000000000000000000000000000000000000000000001000000000000000000000000000000000000000008407200000000400DA7 m)
    (h : execEstimatorStep good s = .next t) : t.pending = s.pending ∧ Changes m s.dev t.dev := by
  unfold execEstimatorStep at h
  refine of_onRun h (bit_of hm (by decide)) (fun d hd => ?_)
  try dsimp only
  repeat' (first | with_reducible assumption | split | (intro _) | with_reducible apply ch_effEstimatorStep | exact sub_trans hm (by decide))

theorem ch_execBmsStaleTimeout {m : Nat} {k : Fin 48} {s t : State} (hm : Within 0x14000000000000000000002000000000000000000000000000000000000000000000000000000000000000000000000000000000000000000000084072000000000001A5 m)
    (h : execBmsStaleTimeout k s = .next t) : t.pending = s.pending ∧ Changes m s.dev t.dev := by
  unfold execBmsStaleTimeout at h
  refine of_onRun h (bit_of hm (by decide)) (fun d hd => ?_)
  try dsimp only
  repeat' (first | with_reducible assumption | split | (intro _) | with_reducible apply ch_effBmsStaleTimeout | exact sub_trans hm (by decide))

theorem ch_execStringForget {m : Nat} {k : Fin 48} {s t : State} (hm : Within 0x240000000000000000000000000000000000000000000000000000000000000000000000000000000000000000000000000000000000400004 m)
    (h : execStringForget k s = .next t) : t.pending = s.pending ∧ Changes m s.dev t.dev := by
  unfold execStringForget at h
  refine of_onReg h (bit_of hm (by decide)) (fun d hd => ?_)
  try dsimp only
  repeat' (first | with_reducible assumption | split | (intro _) | with_reducible apply ch_effStringForget | exact sub_trans hm (by decide))

theorem ch_execEstimatorCommit {m : Nat} {good : Bool} {s t : State} (hm : Within 0x14000000000000000000000000060000000000000000000000000000000000000000000000000000000000000000000000000000000000000000084072000000004001A5 m)
    (h : execEstimatorCommit good s = .next t) : t.pending = s.pending ∧ Changes m s.dev t.dev := by
  unfold execEstimatorCommit at h
  refine of_onRun h (bit_of hm (by decide)) (fun d hd => ?_)
  try dsimp only
  repeat' (first | with_reducible assumption | split | (intro _) | with_reducible apply ch_effEstimatorCommit | exact sub_trans hm (by decide))

theorem ch_execLearnAgeTick {m : Nat} {k : Fin 48} {s t : State} (hm : Within 0x14000000000000000000003000008000000000000000000000000000000000000000000000000000000000000000000000000000000000000000084072000000004001A5 m)
    (h : execLearnAgeTick k s = .next t) : t.pending = s.pending ∧ Changes m s.dev t.dev := by
  unfold execLearnAgeTick at h
  refine of_onRun h (bit_of hm (by decide)) (fun d hd => ?_)
  try dsimp only
  repeat' (first | with_reducible assumption | split | (intro _) | with_reducible apply ch_effLearnAgeTick | exact sub_trans hm (by decide))

theorem ch_execStringSwap {m : Nat} {k : Fin 48} {s t : State} (hm : Within 0x400004 m)
    (h : execStringSwap k s = .next t) : t.pending = s.pending ∧ Changes m s.dev t.dev := by
  unfold execStringSwap at h
  refine of_onReg h (bit_of hm (by decide)) (fun d hd => ?_)
  try dsimp only
  repeat' (first | with_reducible assumption | split | (intro _) | with_reducible apply ch_effStringSwap | exact sub_trans hm (by decide))

end Dev

end Sys2Proof.Machine
end

