-- ==== Sys2Proof/Laws/EdgeCh.lean ====
section
/-! SUPPORT. What each definition of Machine/Edge.lean may change. -/

namespace Sys2Proof.Machine

set_option linter.all false
set_option Elab.async false

namespace Dev

theorem ch_sendEdge {m : Nat} {s0 : Dev} (s : Dev) (st : Nat) (b : Nat) (f : EdgeFrame)
    (hm : Within 0x1400000000000000000000000000000000000000000000000000000000000000000000000001000000000000000000000000000000000000000008407200000000000DA6 m) (h0 : Changes m s0 s) :
    Changes m s0 (Dev.sendEdge s st b f) := by
  unfold Dev.sendEdge
  try dsimp only
  repeat' (first | with_reducible assumption | split | (intro _) | with_reducible apply ch_nextSeq | with_reducible apply ch_emit | with_reducible apply ch_sendEdgeRuns | exact sub_trans hm (by decide))

theorem ch_sendPhase {m : Nat} {s0 : Dev} (s : Dev) (i : Fin 408)
    (hm : Within 0x1400000000000000000000000000000000000000000000000000000000000000000000000001000000000000000000000000000000000000000008407200000000000DA6 m) (h0 : Changes m s0 s) :
    Changes m s0 (Dev.sendPhase s i) := by
  unfold Dev.sendPhase
  try dsimp only
  repeat' (first | with_reducible assumption | split | (intro _) | with_reducible apply ch_sendCtrl | exact sub_trans hm (by decide))

theorem ch_modLeg {m : Nat} {s0 : Dev} (s : Dev) (i : Fin 408) (f : LegSt → LegSt)
    (hm : Within 0x400 m) (h0 : Changes m s0 s) :
    Changes m s0 (Dev.modLeg s i f) := by
  unfold Dev.modLeg
  try dsimp only
  repeat' (first | with_reducible assumption | split | (intro _) | with_reducible apply ch_putEdg | exact bit_of hm (by decide))

theorem ch_respreadLeg {m : Nat} {s0 : Dev} (s : Dev) (g : Nat) (occ : Nat) (i : Fin 408)
    (hm : Within 0x1400000000000000000000000000000000000000000000000000000000000000000000000001000000000000000000000000000000000000000008407200000000000DA6 m) (h0 : Changes m s0 s) :
    Changes m s0 (Dev.respreadLeg s g occ i) := by
  unfold Dev.respreadLeg
  try dsimp only
  repeat' (first | with_reducible assumption | split | (intro _) | with_reducible apply ch_sendPhase | with_reducible apply ch_modLeg | exact sub_trans hm (by decide))

theorem ch_sendUnarm {m : Nat} {s0 : Dev} (s : Dev) (i : Fin 408)
    (hm : Within 0x1400000000000000000000000000000000000000000000000000000000000000000000000001000000000000000000000000000000000000000008407200000000000DA6 m) (h0 : Changes m s0 s) :
    Changes m s0 (Dev.sendUnarm s i) := by
  unfold Dev.sendUnarm
  try dsimp only
  repeat' (first | with_reducible assumption | split | (intro _) | with_reducible apply ch_sendCtrl | exact sub_trans hm (by decide))

theorem ch_refreshOut {m : Nat} {s0 : Dev} (s : Dev) (i : Fin 408)
    (hm : Within 0x100800000000000000000000000000000000 m) (h0 : Changes m s0 s) :
    Changes m s0 (Dev.refreshOut s i) := by
  unfold Dev.refreshOut
  try dsimp only
  repeat' (first | with_reducible assumption | split | (intro _) | with_reducible apply ch_set | with_reducible exact reg_of2 hm (at_EDG_LEG_CTL _) (by decide) (by decide))

theorem ch_setArmed {m : Nat} {s0 : Dev} (s : Dev) (i : Nat) (b : Bool)
    (hm : Within 0x100800200000000000000000000000000000 m) (h0 : Changes m s0 s) :
    Changes m s0 (Dev.setArmed s i b) := by
  unfold Dev.setArmed
  try dsimp only
  repeat' (first | with_reducible assumption | split | (intro _) | with_reducible apply ch_set | with_reducible apply ch_setb | with_reducible exact reg_of hm at_EDG_STATUS (by decide) | with_reducible exact reg_of2 hm (at_EDG_LEG_CTL _) (by decide) (by decide))

theorem ch_respread {m : Nat} {s0 : Dev} (s : Dev) (g : Nat)
    (hm : Within 0x1400000000000000000000000000000000000000000000000000000000000000000000000001000000000000000000000001000000000000000008407200000000000DA6 m) (h0 : Changes m s0 s) :
    Changes m s0 (Dev.respread s g) := by
  unfold Dev.respread
  try dsimp only
  repeat' (first | with_reducible assumption | split | (intro _) | with_reducible apply ch_forEach | with_reducible apply ch_set | with_reducible apply ch_post | with_reducible apply ch_respreadLeg | exact sub_trans hm (by decide) | with_reducible exact reg_of hm (at_EDG_SLM_STATUS _) (by decide))

theorem ch_respreadOf {m : Nat} {s0 : Dev} (s : Dev) (i : Nat)
    (hm : Within 0x1400000000000000000000000000000000000000000000000000000000000000000000000001000000000000000000000001000000000000000008407200000000000DA6 m) (h0 : Changes m s0 s) :
    Changes m s0 (Dev.respreadOf s i) := by
  unfold Dev.respreadOf
  try dsimp only
  repeat' (first | with_reducible assumption | split | (intro _) | with_reducible apply ch_when | with_reducible apply ch_respread | exact sub_trans hm (by decide))

theorem ch_disarmLeg {m : Nat} {s0 : Dev} (s : Dev) (i : Fin 408)
    (hm : Within 0x1400000000000000000000000000000000000000000000000000000000000000000000000001000000000000000000000001100800200000000008407200000000000DA6 m) (h0 : Changes m s0 s) :
    Changes m s0 (Dev.disarmLeg s i) := by
  unfold Dev.disarmLeg
  try dsimp only
  repeat' (first | with_reducible assumption | split | (intro _) | with_reducible apply ch_refreshOut | with_reducible apply ch_modLeg | with_reducible apply ch_setArmed | with_reducible apply ch_respreadOf | with_reducible apply ch_post | with_reducible apply ch_sendUnarm | exact sub_trans hm (by decide))

theorem ch_effLegDisarm {m : Nat} {s0 : Dev} (leg : LegRef) (s : Dev)
    (hm : Within 0x1400000000000000000000000000000000000000000000000000000000000000000000000001000000000000000000000001100800200000000008407200000000000DA6 m) (h1 : Changes m s0 s) :
    Changes m s0 (effLegDisarm leg s) := by
  unfold effLegDisarm
  try dsimp only
  repeat' (first | with_reducible assumption | split | (intro _) | with_reducible apply ch_answer | with_reducible apply ch_disarmLeg | exact sub_trans hm (by decide))

theorem ch_rebind {m : Nat} {s0 : Dev} (s : Dev) (st : Nat)
    (hm : Within 0x4000000000000000000000000000000 m) (h0 : Changes m s0 s) :
    Changes m s0 (Dev.rebind s st) := by
  unfold Dev.rebind
  try dsimp only
  repeat' (first | with_reducible assumption | split | (intro _) | with_reducible apply ch_set | with_reducible apply ch_setb | with_reducible exact reg_of hm (at_EDG_STG_STATUS _) (by decide))

theorem ch_effLegForceWrite {m : Nat} {s0 : Dev} (leg : LegRef) (force : BitVec 2) (s : Dev)
    (hm : Within 0x100800000000000000000000000000000004 m) (h2 : Changes m s0 s) :
    Changes m s0 (effLegForceWrite leg force s) := by
  unfold effLegForceWrite
  try dsimp only
  repeat' (first | with_reducible assumption | split | (intro _) | with_reducible apply ch_set | with_reducible apply ch_answer | exact sub_trans hm (by decide) | with_reducible exact reg_of2 hm (at_EDG_LEG_CTL _) (by decide) (by decide))

theorem ch_rebindAll {m : Nat} {s0 : Dev} (s : Dev)
    (hm : Within 0x4000000000000000000000000000000 m) (h0 : Changes m s0 s) :
    Changes m s0 (Dev.rebindAll s) := by
  unfold Dev.rebindAll
  try dsimp only
  repeat' (first | with_reducible assumption | split | (intro _) | with_reducible apply ch_forEach | with_reducible apply ch_rebind | exact sub_trans hm (by decide))

theorem ch_dispatchMoved {m : Nat} {s0 : Dev} (s : Dev) (i : Fin 408) (ob : Nat) (c : LegCmd)
    (hm : Within 0x1400000000000000000000000000000000000000000000000000000000000000000000000001000000000000000000000000000000000000000008407200000000000DA6 m) (h0 : Changes m s0 s) :
    Changes m s0 (Dev.dispatchMoved s i ob c) := by
  unfold Dev.dispatchMoved
  try dsimp only
  repeat' (first | with_reducible assumption | split | (intro _) | with_reducible apply ch_sendPhase | with_reducible apply ch_sendEdge | exact sub_trans hm (by decide))

theorem ch_refreshFaults {m : Nat} {s0 : Dev} (s : Dev) (i : Nat)
    (hm : Within 0x4200000000000000000000000000000 m) (h0 : Changes m s0 s) :
    Changes m s0 (Dev.refreshFaults s i) := by
  unfold Dev.refreshFaults
  try dsimp only
  repeat' (first | with_reducible assumption | split | (intro _) | with_reducible apply ch_set | with_reducible apply ch_setb | with_reducible exact reg_of hm at_EDG_STATUS (by decide) | with_reducible exact reg_of hm (at_EDG_STG_STATUS _) (by decide))

theorem ch_armAccept {m : Nat} {s0 : Dev} (s : Dev) (i : Fin 408)
    (hm : Within 0x1400000000000000000000000000000000000000000000000000000000000000000000000001000000000000000000000001100804200000000008407200000000000DA6 m) (h0 : Changes m s0 s) :
    Changes m s0 (Dev.armAccept s i) := by
  unfold Dev.armAccept
  try dsimp only
  repeat' (first | with_reducible assumption | split | (intro _) | with_reducible apply ch_set | with_reducible apply ch_setb | with_reducible apply ch_setArmed | with_reducible apply ch_modLeg | with_reducible apply ch_respreadOf | with_reducible apply ch_refreshOut | with_reducible apply ch_refreshFaults | with_reducible apply ch_sendCtrl | with_reducible apply ch_post | exact sub_trans hm (by decide) | with_reducible exact reg_of2 hm (at_EDG_LEG_CTL _) (by decide) (by decide))

theorem ch_armRefuse {m : Nat} {s0 : Dev} (s : Dev) (i : Fin 408) (c : Code)
    (hm : Within 0x14000000000000000000000000000000000000000000000000000000000000000000000000000000000000000000000000001008000000000000084072000000000001A4 m) (h0 : Changes m s0 s) :
    Changes m s0 (Dev.armRefuse s i c) := by
  unfold Dev.armRefuse
  try dsimp only
  repeat' (first | with_reducible assumption | split | (intro _) | with_reducible apply ch_set | with_reducible apply ch_post | exact sub_trans hm (by decide) | with_reducible exact reg_of2 hm (at_EDG_LEG_CTL _) (by decide) (by decide))

theorem ch_armJudge {m : Nat} {s0 : Dev} (s : Dev) (i : Fin 408) (fltMask : Option (BitVec 6)) (pins : BitVec 4)
    (hm : Within 0x1400000000000000000000000000000000000000000000000000000000000000000000000001000000000000000000000001100804200000000008407200000000000DA6 m) (h0 : Changes m s0 s) :
    Changes m s0 (Dev.armJudge s i fltMask pins).1 := by
  unfold Dev.armJudge
  try dsimp only
  repeat' (first | with_reducible assumption | split | (intro _) | with_reducible apply ch_armAccept | with_reducible apply ch_armRefuse | exact sub_trans hm (by decide))

theorem ch_armRead {m : Nat} {s0 : Dev} (s : Dev) (i : Fin 408) (w : Option Word)
    (hm : Within 0x1400000000000000000000000000000000000000000000000000000000000000000000000001000000000000000000000001100804200000000008407200000000000DA6 m) (h0 : Changes m s0 s) :
    Changes m s0 (Dev.armRead s i w) := by
  unfold Dev.armRead
  try dsimp only
  repeat' (first | with_reducible assumption | with_reducible exact hif_same rfl | split | (intro _) | with_reducible apply ch_putHif | with_reducible apply ch_armJudge | exact sub_trans hm (by decide) | exact bit_of hm (by decide))

theorem ch_setAllocForce {m : Nat} {s0 : Dev} (s : Dev) (st : Nat) (b : Bool)
    (hm : Within 0x100804200000000000000000000000000400 m) (h0 : Changes m s0 s) :
    Changes m s0 (Dev.setAllocForce s st b) := by
  unfold Dev.setAllocForce
  try dsimp only
  repeat' (first | with_reducible assumption | split | (intro _) | with_reducible apply ch_forEach | with_reducible apply ch_setb | with_reducible apply ch_refreshOut | with_reducible apply ch_modLeg | exact sub_trans hm (by decide) | with_reducible exact reg_of hm at_EDG_STATUS (by decide) | with_reducible exact reg_of hm (at_EDG_STG_STATUS _) (by decide))

theorem ch_shortFlags {m : Nat} {s0 : Dev} (s : Dev) (i : Nat) (j : Judged)
    (hm : Within 0x14000000000000000000000000000000000000000000000000000000000000000000000000000000000000000000000000003018000000000000084072000000000001A4 m) (h0 : Changes m s0 s) :
    Changes m s0 (Dev.shortFlags s i j) := by
  unfold Dev.shortFlags
  try dsimp only
  repeat' (first | with_reducible assumption | split | (intro _) | with_reducible apply ch_when | with_reducible apply ch_bump | with_reducible apply ch_latch | with_reducible apply ch_post | exact sub_trans hm (by decide) | exact bit_of hm (by decide) | with_reducible exact reg_of2 hm (at_EDG_LEG_CTL _) (by decide) (by decide) | with_reducible exact reg_of2 hm (at_EDG_LEG_SHORT_CNT _) (by decide) (by decide))

theorem ch_dispatchEdge {m : Nat} {s0 : Dev} (s : Dev) (i : Fin 408) (b : Nat)
    (hm : Within 0x1400000000000000000000000000000000000000000000000000000000000000000000000001000000000000000000000000000000000000000008407200000000000DA6 m) (h0 : Changes m s0 s) :
    Changes m s0 (Dev.dispatchEdge s i b) := by
  unfold Dev.dispatchEdge
  try dsimp only
  repeat' (first | with_reducible assumption | split | (intro _) | with_reducible apply ch_sendEdge | exact sub_trans hm (by decide))

theorem ch_cutoff {m : Nat} {s0 : Dev} (s : Dev) (i : Fin 408)
    (hm : Within 0x14000000000000000000000000000000000000000000000000000000000000000000000000010000000000000000000000003C1E00000000000008407200000000000DA7 m) (h0 : Changes m s0 s) :
    Changes m s0 (Dev.cutoff s i) := by
  unfold Dev.cutoff
  try dsimp only
  repeat' (first | with_reducible assumption | split | (intro _) | with_reducible apply ch_set | with_reducible apply ch_reach | with_reducible apply ch_modLeg | with_reducible apply ch_shortFlags | with_reducible apply ch_dispatchMoved | with_reducible apply ch_dispatchEdge | with_reducible apply ch_refreshOut | exact sub_trans hm (by decide) | with_reducible exact reg_of2 hm (at_EDG_LEG_RISE _) (by decide) (by decide) | with_reducible exact reg_of2 hm (at_EDG_LEG_FALL _) (by decide) (by decide))

theorem ch_faultLeg {m : Nat} {s0 : Dev} (s : Dev) (i : Fin 408) (cause : Nat)
    (hm : Within 0x1400000000000000000000000000000000000000000000000000000000000000000000000001000000000000000000000001100804200000000008407200000000000FA6 m) (h0 : Changes m s0 s) :
    Changes m s0 (Dev.faultLeg s i cause) := by
  unfold Dev.faultLeg
  try dsimp only
  repeat' (first | with_reducible assumption | split | (intro _) | with_reducible apply ch_when | with_reducible apply ch_putAlc | with_reducible apply ch_setb | with_reducible apply ch_set | with_reducible apply ch_setArmed | with_reducible apply ch_modLeg | with_reducible apply ch_refreshFaults | with_reducible apply ch_refreshOut | with_reducible apply ch_sendUnarm | with_reducible apply ch_respreadOf | with_reducible apply ch_post | exact sub_trans hm (by decide) | exact bit_of hm (by decide) | with_reducible exact reg_of2 hm (at_EDG_LEG_CTL _) (by decide) (by decide))

theorem ch_fltAssert {m : Nat} {s0 : Dev} (s : Dev) (k : Fin 4)
    (hm : Within 0x1400000000000000000000000000000000000000000000000000000000000000000000000001000000000000000000000001100804200000000008407200000000000FA6 m) (h0 : Changes m s0 s) :
    Changes m s0 (Dev.fltAssert s k) := by
  unfold Dev.fltAssert
  try dsimp only
  repeat' (first | with_reducible assumption | split | (intro _) | with_reducible apply ch_forEach | with_reducible apply ch_faultLeg | exact sub_trans hm (by decide))

theorem ch_effFltInputAssert {m : Nat} {s0 : Dev} (k : Fin 4) (s : Dev)
    (hm : Within 0x1400000000000000000000000000000000000000000000000000000000000000000000000001000000000000000000000001100804200000000008407200000000000FA6 m) (h1 : Changes m s0 s) :
    Changes m s0 (effFltInputAssert k s) := by
  unfold effFltInputAssert
  try dsimp only
  repeat' (first | with_reducible assumption | split | (intro _) | with_reducible apply ch_fltAssert | exact sub_trans hm (by decide))

theorem ch_effLegCutoff {m : Nat} {s0 : Dev} (leg : LegRef) (s : Dev)
    (hm : Within 0x14000000000000000000000000000000000000000000000000000000000000000000000000010000000000000000000000003C1E00000000000008407200000000000DA7 m) (h1 : Changes m s0 s) :
    Changes m s0 (effLegCutoff leg s) := by
  unfold effLegCutoff
  try dsimp only
  repeat' (first | with_reducible assumption | split | (intro _) | with_reducible apply ch_cutoff | exact sub_trans hm (by decide))

theorem ch_commitLeg {m : Nat} {s0 : Dev} (s : Dev) (i : Fin 408)
    (hm : Within 0x1400000000000000000000000000000000000000000000000000000000000000000000000000000000000000000000000000100800A000000000084072000000000005A4 m) (h0 : Changes m s0 s) :
    Changes m s0 (Dev.commitLeg s i) := by
  unfold Dev.commitLeg
  try dsimp only
  repeat' (first | with_reducible assumption | split | (intro _) | with_reducible apply ch_when | with_reducible apply ch_latch | with_reducible apply ch_bump | with_reducible apply ch_modLeg | with_reducible apply ch_post | exact sub_trans hm (by decide) | exact bit_of hm (by decide) | with_reducible exact reg_of hm at_EDG_STATUS (by decide) | with_reducible exact reg_of hm at_EDG_LATE_CNT (by decide) | with_reducible exact reg_of2 hm (at_EDG_LEG_CTL _) (by decide) (by decide))

theorem ch_slotCompleted {m : Nat} {s0 : Dev} (s : Dev) (a1 : Nat)
    (hm : Within 0x1400000000000000000000000000000000000000000000000000000000000000000000000000000000000000000000000000100800A000000000084072000000000005A4 m) (h0 : Changes m s0 s) :
    Changes m s0 (Dev.slotCompleted s a1) := by
  unfold Dev.slotCompleted
  try dsimp only
  repeat' (first | with_reducible assumption | split | (intro _) | with_reducible apply ch_forEach | with_reducible apply ch_putEdg | with_reducible apply ch_commitLeg | exact sub_trans hm (by decide) | exact bit_of hm (by decide))

theorem ch_armLeg {m : Nat} {s0 : Dev} (s : Dev) (i : Fin 408) (pins : BitVec 4)
    (hm : Within 0x1400000000000000000000000000000000000000000000000000000000000000000000000001000000000000000000000001100804200000000008407200000000000DA6 m) (h0 : Changes m s0 s) :
    Changes m s0 (Dev.armLeg s i pins).1 := by
  unfold Dev.armLeg
  try dsimp only
  repeat' (first | with_reducible assumption | split | (intro _) | with_reducible apply ch_armJudge | with_reducible apply ch_sendCtrl | exact sub_trans hm (by decide))

theorem ch_effLegArm {m : Nat} {s0 : Dev} (leg : LegRef) (pins : BitVec 4) (s : Dev)
    (hm : Within 0x1400000000000000000000000000000000000000000000000000000000000000000000000001000000000000000000000001100804200000000008407200000000000DA6 m) (h2 : Changes m s0 s) :
    Changes m s0 (effLegArm leg pins s) := by
  unfold effLegArm
  try dsimp only
  repeat' (first | with_reducible assumption | split | (intro _) | with_reducible apply ch_armLeg | with_reducible apply ch_answer | exact sub_trans hm (by decide))

theorem ch_writeDuty {m : Nat} {s0 : Dev} (s : Dev) (i : Fin 408) (d : F32) (f : F32)
    (hm : Within 0x100800000000000000000000000000000420 m) (h0 : Changes m s0 s) :
    Changes m s0 (Dev.writeDuty s i d f) := by
  unfold Dev.writeDuty
  try dsimp only
  repeat' (first | with_reducible assumption | split | (intro _) | with_reducible apply ch_when | with_reducible apply ch_latch | with_reducible apply ch_modLeg | exact sub_trans hm (by decide) | exact bit_of hm (by decide) | with_reducible exact reg_of2 hm (at_EDG_LEG_CTL _) (by decide) (by decide))

theorem ch_disarmAll {m : Nat} {s0 : Dev} (s : Dev)
    (hm : Within 0x1400000000000000000000000000000000000000000000000000000000000000000000000001000000000000000000000001100800200000000008407200000000000DA6 m) (h0 : Changes m s0 s) :
    Changes m s0 (Dev.disarmAll s) := by
  unfold Dev.disarmAll
  try dsimp only
  repeat' (first | with_reducible assumption | split | (intro _) | with_reducible apply ch_forEach | with_reducible apply ch_disarmLeg | exact sub_trans hm (by decide))

theorem ch_execLegDisarm {m : Nat} {leg : LegRef} {s t : State} (hm : Within 0x1400000000000000000000000000000000000000000000000000000000000000000000000001000000000000000000000001100800200000000008407200000000000DA6 m)
    (h : execLegDisarm leg s = .next t) : t.pending = s.pending ∧ Changes m s.dev t.dev := by
  unfold execLegDisarm at h
  refine of_onReg h (bit_of hm (by decide)) (fun d hd => ?_)
  try dsimp only
  repeat' (first | with_reducible assumption | split | (intro _) | with_reducible apply ch_effLegDisarm | exact sub_trans hm (by decide))

theorem ch_execLegForceWrite {m : Nat} {leg : LegRef} {force : BitVec 2} {s t : State} (hm : Within 0x100800000000000000000000000000000004 m)
    (h : execLegForceWrite leg force s = .next t) : t.pending = s.pending ∧ Changes m s.dev t.dev := by
  unfold execLegForceWrite at h
  refine of_onReg h (bit_of hm (by decide)) (fun d hd => ?_)
  try dsimp only
  repeat' (first | with_reducible assumption | split | (intro _) | with_reducible apply ch_effLegForceWrite | exact sub_trans hm (by decide))

theorem ch_execLegCutoff {m : Nat} {leg : LegRef} {s t : State} (hm : Within 0x14000000000000000000000000000000000000000000000000000000000000000000000000010000000000000000000000003C1E00000000000008407200000000000DA7 m)
    (h : execLegCutoff leg s = .next t) : t.pending = s.pending ∧ Changes m s.dev t.dev := by
  unfold execLegCutoff at h
  refine of_onRun h (bit_of hm (by decide)) (fun d hd => ?_)
  try dsimp only
  repeat' (first | with_reducible assumption | split | (intro _) | with_reducible apply ch_effLegCutoff | exact sub_trans hm (by decide))

theorem ch_execFltInputAssert {m : Nat} {k : Fin 4} {s t : State} (hm : Within 0x1400000000000000000000000000000000000000000000000000000000000000000000000001000000000000000000000001100804200000000008407200000000000FA6 m)
    (h : execFltInputAssert k s = .next t) : t.pending = s.pending ∧ Changes m s.dev t.dev := by
  unfold execFltInputAssert at h
  refine of_onRun h (bit_of hm (by decide)) (fun d hd => ?_)
  try dsimp only
  repeat' (first | with_reducible assumption | split | (intro _) | with_reducible apply ch_effFltInputAssert | exact sub_trans hm (by decide))

theorem ch_execLegArm {m : Nat} {leg : LegRef} {pins : BitVec 4} {s t : State} (hm : Within 0x1400000000000000000000000000000000000000000000000000000000000000000000000001000000000000000000000001100804200000000008407200000000000DA6 m)
    (h : execLegArm leg pins s = .next t) : t.pending = s.pending ∧ Changes m s.dev t.dev := by
  unfold execLegArm at h
  refine of_onReg h (bit_of hm (by decide)) (fun d hd => ?_)
  try dsimp only
  repeat' (first | with_reducible assumption | split | (intro _) | with_reducible apply ch_effLegArm | exact sub_trans hm (by decide))

end Dev

end Sys2Proof.Machine
end

