-- ==== Sys2Proof/Laws/SessionCh.lean ====
section
/-! SUPPORT. What each definition of Machine/Session.lean may change. -/

namespace Sys2Proof.Machine

set_option linter.all false
set_option Elab.async false

namespace Dev

theorem ch_modSess {m : Nat} {s0 : Dev} (s : Dev) (n : Fin 16) (f : Sess → Sess)
    (hm : Within 0x10000 m) (h0 : Changes m s0 s) :
    Changes m s0 (Dev.modSess s n f) := by
  unfold Dev.modSess
  try dsimp only
  repeat' (first | with_reducible assumption | split | (intro _) | with_reducible apply ch_putVss | exact bit_of hm (by decide))

theorem ch_setBit {m : Nat} {s0 : Dev} (s : Dev) (off : Nat) (i : Nat) (b : Bool)
    (hm : Within 0x0 m) (h0 : Changes m s0 s) (h1 : Writes m off) :
    Changes m s0 (Dev.setBit s off i b) := by
  unfold Dev.setBit
  try dsimp only
  repeat' (first | with_reducible assumption | split | (intro _) | with_reducible apply ch_set)

theorem ch_enterState {m : Nat} {s0 : Dev} (s : Dev) (n : Fin 16) (st : Nat)
    (hm : Within 0x200200000000000000000000000000000000000000000000000000000000000000000000010000 m) (h0 : Changes m s0 s) :
    Changes m s0 (Dev.enterState s n st) := by
  unfold Dev.enterState
  try dsimp only
  repeat' (first | with_reducible assumption | split | (intro _) | with_reducible apply ch_set | with_reducible apply ch_modSess | with_reducible apply ch_setBit | exact sub_trans hm (by decide) | with_reducible exact reg_of hm at_VSS_STATUS (by decide) | with_reducible exact reg_of hm (at_VSS_OUT_STATE _) (by decide))

theorem ch_zeroDemand {m : Nat} {s0 : Dev} (s : Dev) (n : Fin 16)
    (hm : Within 0x2000000000000000000000000000000000000000000000000000000000000000000000000010000 m) (h0 : Changes m s0 s) :
    Changes m s0 (Dev.zeroDemand s n) := by
  unfold Dev.zeroDemand
  try dsimp only
  repeat' (first | with_reducible assumption | split | (intro _) | with_reducible apply ch_wr | with_reducible apply ch_modSess | exact sub_trans hm (by decide) | with_reducible exact reg_of hm (at_VSS_OUT_REQ _) (by decide))

theorem ch_withdrawClose {m : Nat} {s0 : Dev} (s : Dev) (n : Fin 16)
    (hm : Within 0x1400008000000000000000000000000000000000000000000000000000002000000000000001000000000000000000000000000000000000000008407200000000010DA6 m) (h0 : Changes m s0 s) :
    Changes m s0 (Dev.withdrawClose s n) := by
  unfold Dev.withdrawClose
  try dsimp only
  repeat' (first | with_reducible assumption | split | (intro _) | with_reducible apply ch_setb | with_reducible apply ch_modSess | with_reducible apply ch_sendCtrl | exact sub_trans hm (by decide) | with_reducible exact reg_of hm (at_VSS_OUT_CFG _) (by decide) | with_reducible exact reg_of hm (at_LSW_CH_CTL _) (by decide))

theorem ch_settleManifest {m : Nat} {s0 : Dev} (s : Dev) (n : Fin 16)
    (hm : Within 0x14081000000000000000000000000000003C01000000000000000000000000000000000000000000000000000000000000000000000000000000084072000000000301A4 m) (h0 : Changes m s0 s) :
    Changes m s0 (Dev.settleManifest s n) := by
  unfold Dev.settleManifest
  try dsimp only
  repeat' (first | with_reducible assumption | split | (intro _) | with_reducible apply ch_makeManifest | with_reducible apply ch_modSess | exact sub_trans hm (by decide))

theorem ch_closeSession {m : Nat} {s0 : Dev} (s : Dev) (n : Fin 16)
    (hm : Within 0x14081080000000000000000000000000003C0100000000000000000000202200000000000001000000000000000000000000000000000000000008407200000000030DA6 m) (h0 : Changes m s0 s) :
    Changes m s0 (Dev.closeSession s n) := by
  unfold Dev.closeSession
  try dsimp only
  repeat' (first | with_reducible assumption | split | (intro _) | with_reducible apply ch_set | with_reducible apply ch_enterState | with_reducible apply ch_withdrawClose | with_reducible apply ch_post | with_reducible apply ch_modBil | with_reducible apply ch_modSess | with_reducible apply ch_settleManifest | exact sub_trans hm (by decide) | with_reducible exact reg_of hm (at_VSS_OUT_STATE _) (by decide))

theorem ch_endSession {m : Nat} {s0 : Dev} (s : Dev) (n : Fin 16) (outcome : Nat)
    (hm : Within 0x14081080000000000000000000000000003C0100000000000000000002202200000000000001000000000000000000000000000000000000000008407200000000030DA6 m) (h0 : Changes m s0 s) :
    Changes m s0 (Dev.endSession s n outcome) := by
  unfold Dev.endSession
  try dsimp only
  repeat' (first | with_reducible assumption | split | (intro _) | with_reducible apply ch_modSess | with_reducible apply ch_enterState | with_reducible apply ch_zeroDemand | with_reducible apply ch_closeSession | exact sub_trans hm (by decide))

theorem ch_sessionReason {m : Nat} {s0 : Dev} (s : Dev) (n : Fin 16) (reason : Nat) (p : Int) (valid : Bool)
    (hm : Within 0x14081080000000000000000000000000003C0100000000000000000002202200000000000001000000000000000000000000000000000000000008407200000000030DA6 m) (h0 : Changes m s0 s) :
    Changes m s0 (Dev.sessionReason s n reason p valid) := by
  unfold Dev.sessionReason
  try dsimp only
  repeat' (first | with_reducible assumption | split | (intro _) | with_reducible apply ch_set | with_reducible apply ch_modSess | with_reducible apply ch_endSession | exact sub_trans hm (by decide) | with_reducible exact reg_of hm (at_VSS_OUT_STATE _) (by decide))

theorem ch_flagSessions {m : Nat} {s0 : Dev} (s : Dev) (bit : Nat)
    (hm : Within 0x10000 m) (h0 : Changes m s0 s) :
    Changes m s0 (Dev.flagSessions s bit) := by
  unfold Dev.flagSessions
  try dsimp only
  repeat' (first | with_reducible assumption | split | (intro _) | with_reducible apply ch_forEach | with_reducible apply ch_modSess | exact sub_trans hm (by decide))


end Dev

end Sys2Proof.Machine
end

