-- ==== Sys2Proof/Laws/AllocCh.lean ====
section
/-! SUPPORT. What each definition of Machine/Alloc.lean may change. -/

namespace Sys2Proof.Machine

set_option linter.all false
set_option Elab.async false

namespace Dev

theorem ch_startSnow {m : Nat} {s0 : Dev} (s : Dev) (falls : List (Nat × Nat))
    (hm : Within 0x200 m) (h0 : Changes m s0 s) :
    Changes m s0 (Dev.startSnow s falls) := by
  unfold Dev.startSnow
  try dsimp only
  repeat' (first | with_reducible assumption | split | (intro _) | with_reducible apply ch_putAlc | exact bit_of hm (by decide))

theorem ch_putGrant {m : Nat} {s0 : Dev} (s : Dev) (i : Nat) (g : Grant)
    (hm : Within 0x3FC0000000000000000000000000 m) (h0 : Changes m s0 s) :
    Changes m s0 (Dev.putGrant s i g) := by
  unfold Dev.putGrant
  try dsimp only
  repeat' (first | with_reducible assumption | split | (intro _) | with_reducible apply ch_set | with_reducible apply ch_wr | with_reducible exact reg_of hm (at_ALC_GRANT_W0 _) (by decide) | with_reducible exact reg_of hm (at_ALC_GRANT_W1 _) (by decide) | with_reducible exact reg_of hm (at_ALC_GRANT_W2 _) (by decide) | with_reducible exact reg_of hm (at_ALC_GRANT_W3 _) (by decide) | with_reducible exact reg_of hm (at_ALC_GRANT_W4 _) (by decide) | with_reducible exact reg_of hm (at_ALC_GRANT_W5 _) (by decide) | with_reducible exact reg_of hm (at_ALC_GRANT_W6 _) (by decide) | with_reducible exact reg_of hm (at_ALC_GRANT_W7 _) (by decide))

theorem ch_modSlot {m : Nat} {s0 : Dev} (s : Dev) (a1 : Fin 128) (f : SlotSt → SlotSt)
    (hm : Within 0x1000 m) (h0 : Changes m s0 s) :
    Changes m s0 (Dev.modSlot s a1 f) := by
  unfold Dev.modSlot
  try dsimp only
  repeat' (first | with_reducible assumption | split | (intro _) | with_reducible apply ch_putCle | exact bit_of hm (by decide))

theorem ch_resample {m : Nat} {s0 : Dev} (s : Dev) (a1 : Fin 128)
    (hm : Within 0x1000 m) (h0 : Changes m s0 s) :
    Changes m s0 (Dev.resample s a1) := by
  unfold Dev.resample
  try dsimp only
  repeat' (first | with_reducible assumption | split | (intro _) | with_reducible apply ch_modSlot | exact sub_trans hm (by decide))

theorem ch_resampleAll {m : Nat} {s0 : Dev} (s : Dev)
    (hm : Within 0x1000 m) (h0 : Changes m s0 s) :
    Changes m s0 (Dev.resampleAll s) := by
  unfold Dev.resampleAll
  try dsimp only
  repeat' (first | with_reducible assumption | split | (intro _) | with_reducible apply ch_forEach | with_reducible apply ch_resample | exact sub_trans hm (by decide))

theorem ch_noteDraw {m : Nat} {s0 : Dev} (s : Dev)
    (hm : Within 0x200 m) (h0 : Changes m s0 s) :
    Changes m s0 (Dev.noteDraw s) := by
  unfold Dev.noteDraw
  try dsimp only
  repeat' (first | with_reducible assumption | split | (intro _) | with_reducible apply ch_putAlc | exact bit_of hm (by decide))

theorem ch_tellSessions {m : Nat} {s0 : Dev} (s : Dev)
    (hm : Within 0x14081080000000000000000000000000003C0100000000000000000002202200000000000001000000000000000000000000000000000000000008407200000000030DA6 m) (h0 : Changes m s0 s) :
    Changes m s0 (Dev.tellSessions s) := by
  unfold Dev.tellSessions
  try dsimp only
  repeat' (first | with_reducible assumption | split | (intro _) | with_reducible apply ch_forEach | with_reducible apply ch_sessionReason | exact sub_trans hm (by decide))

theorem ch_publish {m : Nat} {s0 : Dev} (s : Dev) (gs : List Grant)
    (hm : Within 0x14081080000000000000000000000000003C0100000000000000000002202200000000000001000000000000000000000000000000003FC0004208407200000000031FA6 m) (h0 : Changes m s0 s) :
    Changes m s0 (Dev.publish s gs) := by
  unfold Dev.publish
  try dsimp only
  repeat' (first | with_reducible assumption | split | (intro _) | with_reducible apply ch_forEach | with_reducible apply ch_putGrant | with_reducible apply ch_setb | with_reducible apply ch_bump | with_reducible apply ch_putGrant | with_reducible apply ch_resampleAll | with_reducible apply ch_noteDraw | with_reducible apply ch_post | with_reducible apply ch_tellSessions | exact sub_trans hm (by decide) | exact bit_of hm (by decide) | with_reducible exact reg_of hm at_ALC_STATUS (by decide) | with_reducible exact reg_of hm at_ALC_GRANT_SEQ (by decide))

theorem ch_dropTick {m : Nat} {s0 : Dev} (s : Dev)
    (hm : Within 0x200 m) (h0 : Changes m s0 s) :
    Changes m s0 (Dev.dropTick s) := by
  unfold Dev.dropTick
  try dsimp only
  repeat' (first | with_reducible assumption | split | (intro _) | with_reducible apply ch_putAlc | exact bit_of hm (by decide))

theorem ch_refuseOutlet {m : Nat} {s0 : Dev} (s : Dev) (n : Nat)
    (hm : Within 0x14081080000000000000000000000000003C0100000000000000000002202200000000000001000000000000000000000000000000003FC0004208407200000000031FA6 m) (h0 : Changes m s0 s) :
    Changes m s0 (Dev.refuseOutlet s n) := by
  unfold Dev.refuseOutlet
  try dsimp only
  repeat' (first | with_reducible assumption | split | (intro _) | with_reducible apply ch_startSnow | with_reducible apply ch_publish | with_reducible apply ch_dropTick | exact sub_trans hm (by decide))

theorem ch_refreshForce {m : Nat} {s0 : Dev} (s : Dev)
    (hm : Within 0x100804200000000000000000000000000400 m) (h0 : Changes m s0 s) :
    Changes m s0 (Dev.refreshForce s) := by
  unfold Dev.refreshForce
  try dsimp only
  repeat' (first | with_reducible assumption | split | (intro _) | with_reducible apply ch_forEach | with_reducible apply ch_setAllocForce | exact sub_trans hm (by decide))

theorem ch_tripClear {m : Nat} {s0 : Dev} (s : Dev)
    (hm : Within 0x14000000000000000000000000000000000000000000000000000000000000000000000000000000000000000000000000001008042000000006084072000000000007A4 m) (h0 : Changes m s0 s) :
    Changes m s0 (Dev.tripClear s).1 := by
  unfold Dev.tripClear
  try dsimp only
  repeat' (first | with_reducible assumption | split | (intro _) | with_reducible apply ch_putAlc | with_reducible apply ch_latch | with_reducible apply ch_wr | with_reducible apply ch_setb | with_reducible apply ch_post | with_reducible apply ch_refreshForce | exact sub_trans hm (by decide) | exact bit_of hm (by decide) | with_reducible exact reg_of hm at_ALC_STATUS (by decide) | with_reducible exact reg_of hm at_ALC_TRIP (by decide))

theorem ch_effTripClear {m : Nat} {s0 : Dev} (src : Src) (s : Dev)
    (hm : Within 0x14000000000000000000000000000000000000000000000000000000000000000000000000000000000000000000000000001008042000000006084072000000000007A4 m) (h1 : Changes m s0 s) :
    Changes m s0 (effTripClear src s) := by
  unfold effTripClear
  try dsimp only
  repeat' (first | with_reducible assumption | split | (intro _) | with_reducible apply ch_tripClear | with_reducible apply ch_complete | exact sub_trans hm (by decide))

theorem ch_refuseAll {m : Nat} {s0 : Dev} (s : Dev) (reason : Nat) (snow : Bool)
    (hm : Within 0x14081080000000000000000000000000003C0100000000000000000002202200000000000001000000000000000000000000000000003FC0004208407200000000031FA6 m) (h0 : Changes m s0 s) :
    Changes m s0 (Dev.refuseAll s reason snow) := by
  unfold Dev.refuseAll
  try dsimp only
  repeat' (first | with_reducible assumption | split | (intro _) | with_reducible apply ch_when | with_reducible apply ch_startSnow | with_reducible apply ch_publish | with_reducible apply ch_dropTick | exact sub_trans hm (by decide))

theorem ch_siteTrip {m : Nat} {s0 : Dev} (s : Dev) (cause : Field)
    (hm : Within 0x1F4081080000000000000000000000000003C0100000000000000000002202200000000000001000000000000000000000000100804203FC0004208407200000000031FA6 m) (h0 : Changes m s0 s) (h1 : Writes m cause.off) :
    Changes m s0 (Dev.siteTrip s cause) := by
  unfold Dev.siteTrip
  try dsimp only
  repeat' (first | with_reducible assumption | split | (intro _) | with_reducible apply ch_setb | with_reducible apply ch_freeze | with_reducible apply ch_post | with_reducible apply ch_refreshForce | with_reducible apply ch_refuseAll | exact sub_trans hm (by decide) | with_reducible exact reg_of hm at_ALC_STATUS (by decide))

theorem ch_hostTrip {m : Nat} {s0 : Dev} (s : Dev)
    (hm : Within 0x1F4081080000000000000000000000000003C0100000000000000000002202200000000000001000000000000000000000000100804203FC0004608407200000000031FA6 m) (h0 : Changes m s0 s) :
    Changes m s0 (Dev.hostTrip s) := by
  unfold Dev.hostTrip
  try dsimp only
  repeat' (first | with_reducible assumption | split | (intro _) | with_reducible apply ch_setb | with_reducible apply ch_siteTrip | exact sub_trans hm (by decide) | with_reducible exact reg_of hm at_ALC_TRIP (by decide))

theorem ch_effAlcHostTrip {m : Nat} {s0 : Dev} (withClear : Bool) (s : Dev)
    (hm : Within 0x1F4081080000000000000000000000000003C0100000000000000000002202200000000000001000000000000000000000000100804203FC0004608407200000000031FA6 m) (h1 : Changes m s0 s) :
    Changes m s0 (effAlcHostTrip withClear s) := by
  unfold effAlcHostTrip
  try dsimp only
  repeat' (first | with_reducible assumption | split | (intro _) | with_reducible apply ch_when | with_reducible apply ch_latch | with_reducible apply ch_answer | with_reducible apply ch_tripClear | with_reducible apply ch_hostTrip | exact sub_trans hm (by decide) | exact bit_of hm (by decide) | with_reducible exact reg_of hm at_ALC_STATUS (by decide))

theorem ch_effGridPointRecount {m : Nat} {s0 : Dev} (g : Fin 2) (s : Dev)
    (hm : Within 0x100804200000000000000000000000000601 m) (h1 : Changes m s0 s) :
    Changes m s0 (effGridPointRecount g s) := by
  unfold effGridPointRecount
  try dsimp only
  repeat' (first | with_reducible assumption | split | (intro _) | with_reducible apply ch_putAlc | with_reducible apply ch_reach | with_reducible apply ch_refreshForce | exact sub_trans hm (by decide) | exact bit_of hm (by decide))

theorem ch_writeRun {m : Nat} {s0 : Dev} (s : Dev) (run : Bool)
    (hm : Within 0x900000000000000000000 m) (h0 : Changes m s0 s) :
    Changes m s0 (Dev.writeRun s run).1 := by
  unfold Dev.writeRun
  try dsimp only
  repeat' (first | with_reducible assumption | split | (intro _) | with_reducible apply ch_incSat | with_reducible apply ch_setb | with_reducible exact reg_of hm at_ALC_CTRL (by decide) | with_reducible exact reg_of hm at_ALC_REJECT_CNT (by decide))

theorem ch_solveFailed {m : Nat} {s0 : Dev} (s : Dev) (x : AlcIn) (b : Before)
    (hm : Within 0x1F4081080000000000000000000000000003C0100000000000000000002202200000000000001000000000000000000000000100804203FC0004608407200000000031FA6 m) (h0 : Changes m s0 s) :
    Changes m s0 (Dev.solveFailed s x b) := by
  unfold Dev.solveFailed
  try dsimp only
  repeat' (first | with_reducible assumption | split | (intro _) | with_reducible apply ch_when | with_reducible apply ch_incSat | with_reducible apply ch_publish | with_reducible apply ch_startSnow | with_reducible apply ch_post | with_reducible apply ch_siteTrip | exact sub_trans hm (by decide) | with_reducible exact reg_of hm at_ALC_STATUS (by decide) | with_reducible exact reg_of hm at_ALC_TRIP (by decide))

theorem ch_effAlcRunWrite {m : Nat} {s0 : Dev} (run : Bool) (s : Dev)
    (hm : Within 0x900000000000000000004 m) (h1 : Changes m s0 s) :
    Changes m s0 (effAlcRunWrite run s) := by
  unfold effAlcRunWrite
  try dsimp only
  repeat' (first | with_reducible assumption | split | (intro _) | with_reducible apply ch_writeRun | with_reducible apply ch_answer | exact sub_trans hm (by decide))

theorem ch_keepSolved {m : Nat} {s0 : Dev} (s : Dev) (r : Solved)
    (hm : Within 0x200 m) (h0 : Changes m s0 s) :
    Changes m s0 (Dev.keepSolved s r) := by
  unfold Dev.keepSolved
  try dsimp only
  repeat' (first | with_reducible assumption | split | (intro _) | with_reducible apply ch_putAlc | exact bit_of hm (by decide))

theorem ch_solvePublish {m : Nat} {s0 : Dev} (s : Dev) (x : AlcIn) (b : Before) (fault : Bool)
    (hm : Within 0x1F4081080000000000000000000000000003C0100000000000000000002202200000000000001000000000000000000000000100804203FC0004608407200000000031FA6 m) (h0 : Changes m s0 s) :
    Changes m s0 (Dev.solvePublish s x b fault) := by
  unfold Dev.solvePublish
  try dsimp only
  repeat' (first | with_reducible assumption | split | (intro _) | with_reducible apply ch_set | with_reducible apply ch_solveFailed | with_reducible apply ch_publish | with_reducible apply ch_keepSolved | exact sub_trans hm (by decide) | with_reducible exact reg_of hm at_ALC_STATUS (by decide))

theorem ch_resolveWithout {m : Nat} {s0 : Dev} (s : Dev) (g : Nat)
    (hm : Within 0x1F4081080000000000000000000000000003C0100000000000000000002202200000000000001000000000000000000000000100804203FC0004608407200000000031FA6 m) (h0 : Changes m s0 s) :
    Changes m s0 (Dev.resolveWithout s g) := by
  unfold Dev.resolveWithout
  try dsimp only
  repeat' (first | with_reducible assumption | split | (intro _) | with_reducible apply ch_putAlc | with_reducible apply ch_solvePublish | with_reducible apply ch_dropTick | exact sub_trans hm (by decide) | exact bit_of hm (by decide))

theorem ch_gridPointBack {m : Nat} {s0 : Dev} (s : Dev) (g : Fin 2)
    (hm : Within 0x200 m) (h0 : Changes m s0 s) :
    Changes m s0 (Dev.gridPointBack s g) := by
  unfold Dev.gridPointBack
  try dsimp only
  repeat' (first | with_reducible assumption | split | (intro _) | with_reducible apply ch_putAlc | exact bit_of hm (by decide))

theorem ch_effAlcTripClear {m : Nat} {s0 : Dev} (s : Dev)
    (hm : Within 0x14000000000000000000000000000000000000000000000000000000000000000000000000000000000000000000000000001008042000000006084072000000000007A4 m) (h0 : Changes m s0 s) :
    Changes m s0 (effAlcTripClear s) := by
  unfold effAlcTripClear
  try dsimp only
  repeat' (first | with_reducible assumption | split | (intro _) | with_reducible apply ch_answer | with_reducible apply ch_tripClear | exact sub_trans hm (by decide))

theorem ch_gridPointLost {m : Nat} {s0 : Dev} (s : Dev) (g : Fin 2)
    (hm : Within 0x1F4081080000000000000000000000000003C0100000000000000000002202200000000000001000000000000000000000000100804203FC0004608407200000000031FA6 m) (h0 : Changes m s0 s) :
    Changes m s0 (Dev.gridPointLost s g) := by
  unfold Dev.gridPointLost
  try dsimp only
  repeat' (first | with_reducible assumption | split | (intro _) | with_reducible apply ch_putAlc | with_reducible apply ch_post | with_reducible apply ch_refreshForce | with_reducible apply ch_resolveWithout | with_reducible apply ch_siteTrip | exact sub_trans hm (by decide) | exact bit_of hm (by decide) | with_reducible exact reg_of hm at_ALC_TRIP (by decide))

theorem ch_lostAtTick {m : Nat} {s0 : Dev} (s : Dev)
    (hm : Within 0x1F4081080000000000000000000000000003C0100000000000000000002202200000000000001000000000000000000000000100804203FC0004608407200000000031FA6 m) (h0 : Changes m s0 s) :
    Changes m s0 (Dev.lostAtTick s) := by
  unfold Dev.lostAtTick
  try dsimp only
  repeat' (first | with_reducible assumption | split | (intro _) | with_reducible apply ch_when | with_reducible apply ch_siteTrip | exact sub_trans hm (by decide) | with_reducible exact reg_of hm at_ALC_TRIP (by decide))

theorem ch_execAlcHostTrip {m : Nat} {withClear : Bool} {s t : State} (hm : Within 0x1F4081080000000000000000000000000003C0100000000000000000002202200000000000001000000000000000000000000100804203FC0004608407200000000031FA6 m)
    (h : execAlcHostTrip withClear s = .next t) : t.pending = s.pending ∧ Changes m s.dev t.dev := by
  unfold execAlcHostTrip at h
  refine of_onReg h (bit_of hm (by decide)) (fun d hd => ?_)
  try dsimp only
  repeat' (first | with_reducible assumption | split | (intro _) | with_reducible apply ch_effAlcHostTrip | exact sub_trans hm (by decide))

theorem ch_execGridPointRecount {m : Nat} {g : Fin 2} {s t : State} (hm : Within 0x100804200000000000000000000000000605 m)
    (h : execGridPointRecount g s = .next t) : t.pending = s.pending ∧ Changes m s.dev t.dev := by
  unfold execGridPointRecount at h
  refine of_onRun h (bit_of hm (by decide)) (fun d hd => ?_)
  try dsimp only
  repeat' (first | with_reducible assumption | split | (intro _) | with_reducible apply ch_effGridPointRecount | exact sub_trans hm (by decide))

theorem ch_execAlcRunWrite {m : Nat} {run : Bool} {s t : State} (hm : Within 0x900000000000000000004 m)
    (h : execAlcRunWrite run s = .next t) : t.pending = s.pending ∧ Changes m s.dev t.dev := by
  unfold execAlcRunWrite at h
  refine of_onReg h (bit_of hm (by decide)) (fun d hd => ?_)
  try dsimp only
  repeat' (first | with_reducible assumption | split | (intro _) | with_reducible apply ch_effAlcRunWrite | exact sub_trans hm (by decide))

theorem ch_execTripClear {m : Nat} {src : Src} {s t : State} (hm : Within 0x14000000000000000000000000000000000000000000000000000000000000000000000000000000000000000000000000001008042000000006084072000000000007A4 m)
    (h : execTripClear src s = .next t) : t.pending = s.pending ∧ Changes m s.dev t.dev := by
  unfold execTripClear at h
  refine of_onHost h (sub_trans hm (by decide)) (fun d hd => ?_)
  try dsimp only
  repeat' (first | with_reducible assumption | split | (intro _) | with_reducible apply ch_effTripClear | exact sub_trans hm (by decide))

theorem ch_execAlcTripClear {m : Nat}  {s t : State} (hm : Within 0x14000000000000000000000000000000000000000000000000000000000000000000000000000000000000000000000000001008042000000006084072000000000007A4 m)
    (h : execAlcTripClear  s = .next t) : t.pending = s.pending ∧ Changes m s.dev t.dev := by
  unfold execAlcTripClear at h
  refine of_onReg h (bit_of hm (by decide)) (fun d hd => ?_)
  try dsimp only
  repeat' (first | with_reducible assumption | split | (intro _) | with_reducible apply ch_effAlcTripClear | exact sub_trans hm (by decide))

end Dev

end Sys2Proof.Machine
end

