-- ==== Sys2Proof/Laws/CleCh.lean ====
section
/-! SUPPORT. What each definition of Machine/Cle.lean may change. -/

namespace Sys2Proof.Machine

set_option linter.all false
set_option Elab.async false

namespace Dev

theorem ch_evalMap {m : Nat} {s0 : Dev} (s : Dev) (i : Fin 408)
    (hm : Within 0x100800000000000000000000000000000420 m) (h0 : Changes m s0 s) :
    Changes m s0 (Dev.evalMap s i) := by
  unfold Dev.evalMap
  try dsimp only
  repeat' (first | with_reducible assumption | split | (intro _) | with_reducible apply ch_writeDuty | exact sub_trans hm (by decide))

theorem ch_setSlotState {m : Nat} {s0 : Dev} (s : Dev) (a1 : Nat) (closed : Bool)
    (hm : Within 0x10001200000000000000000000000000000000000000 m) (h0 : Changes m s0 s) :
    Changes m s0 (Dev.setSlotState s a1 closed) := by
  unfold Dev.setSlotState
  try dsimp only
  repeat' (first | with_reducible assumption | split | (intro _) | with_reducible apply ch_set | with_reducible apply ch_setBit | exact sub_trans hm (by decide) | with_reducible exact reg_of hm at_CLE_STATUS (by decide) | with_reducible exact reg_of hm (at_CLE_CLOSED _) (by decide) | with_reducible exact reg_of hm (at_CLE_SLOT_CTL _) (by decide))

theorem ch_loopRecover {m : Nat} {s0 : Dev} (s : Dev) (a1 : Nat)
    (hm : Within 0x22000000000000000000000000000000000000000000000000000002000 m) (h0 : Changes m s0 s) :
    Changes m s0 (Dev.loopRecover s a1) := by
  unfold Dev.loopRecover
  try dsimp only
  repeat' (first | with_reducible assumption | split | (intro _) | with_reducible apply ch_forEach | with_reducible apply ch_putThm | with_reducible apply ch_setb | exact bit_of hm (by decide) | with_reducible exact reg_of hm (at_THM_CAB_STATUS _) (by decide) | with_reducible exact reg_of hm (at_THM_LOOP_STATUS _) (by decide))

theorem ch_closeSlot {m : Nat} {s0 : Dev} (s : Dev) (a1 : Fin 128)
    (hm : Within 0x14000000000000000000000000000000000000000000000000000000000000000000000000000220000000000000100012000000000000000000084072000000000031A4 m) (h0 : Changes m s0 s) :
    Changes m s0 (Dev.closeSlot s a1).1 := by
  unfold Dev.closeSlot
  try dsimp only
  repeat' (first | with_reducible assumption | split | (intro _) | with_reducible apply ch_set | with_reducible apply ch_post | with_reducible apply ch_setSlotState | with_reducible apply ch_modSlot | with_reducible apply ch_loopRecover | exact sub_trans hm (by decide) | with_reducible exact reg_of hm (at_CLE_SLOT_CTL _) (by decide))

theorem ch_effSlotClose {m : Nat} {s0 : Dev} (a0 : Fin 128) (s : Dev)
    (hm : Within 0x14000000000000000000000000000000000000000000000000000000000000000000000000000220000000000000100012000000000000000000084072000000000031A4 m) (h1 : Changes m s0 s) :
    Changes m s0 (effSlotClose a0 s) := by
  unfold effSlotClose
  try dsimp only
  repeat' (first | with_reducible assumption | split | (intro _) | with_reducible apply ch_closeSlot | with_reducible apply ch_answer | exact sub_trans hm (by decide))

theorem ch_startExec {m : Nat} {s0 : Dev} (s : Dev) (c : Nat) (a2 : Fin 128)
    (hm : Within 0x1000 m) (h0 : Changes m s0 s) :
    Changes m s0 (Dev.startExec s c a2) := by
  unfold Dev.startExec
  try dsimp only
  repeat' (first | with_reducible assumption | split | (intro _) | with_reducible apply ch_putCle | with_reducible apply ch_modSlot | exact sub_trans hm (by decide) | exact bit_of hm (by decide))

theorem ch_runPipesFor {m : Nat} {s0 : Dev} (a0 : Nat) (a1 : Fin 128) (a2 : Dev)
    (hm : Within 0x1000 m) (h2 : Changes m s0 a2) :
    Changes m s0 (Dev.runPipesFor a0 a1 a2) := by
  induction a0 generalizing a2 with
  | zero => exact h2
  | succ k ih =>
    unfold Dev.runPipesFor
    try dsimp only
    repeat' (first | with_reducible assumption | split | with_reducible apply ch_startExec | with_reducible apply ih | exact sub_trans hm (by decide))


theorem ch_openNow {m : Nat} {s0 : Dev} (s : Dev) (a1 : Fin 128)
    (hm : Within 0x14000000000000000000000000000000000000000000000000000000000000000000000000000000000000000000100012000000000000000000084072000000000011A4 m) (h0 : Changes m s0 s) :
    Changes m s0 (Dev.openNow s a1) := by
  unfold Dev.openNow
  try dsimp only
  repeat' (first | with_reducible assumption | split | (intro _) | with_reducible apply ch_post | with_reducible apply ch_modSlot | with_reducible apply ch_setSlotState | exact sub_trans hm (by decide))

theorem ch_finishOpen {m : Nat} {s0 : Dev} (s : Dev) (a1 : Fin 128)
    (hm : Within 0x14000000000000000000000000000000000000000000000000000000000000000000000000000000000000000000100012000000000000000000084072000000000011A4 m) (h0 : Changes m s0 s) :
    Changes m s0 (Dev.finishOpen s a1) := by
  unfold Dev.finishOpen
  try dsimp only
  repeat' (first | with_reducible assumption | split | (intro _) | with_reducible apply ch_when | with_reducible apply ch_openNow | exact sub_trans hm (by decide))

theorem ch_setSlotFault {m : Nat} {s0 : Dev} (s : Dev) (a1 : Nat) (b : Bool)
    (hm : Within 0x10002200000000000000000000000000000000000020 m) (h0 : Changes m s0 s) :
    Changes m s0 (Dev.setSlotFault s a1 b) := by
  unfold Dev.setSlotFault
  try dsimp only
  repeat' (first | with_reducible assumption | split | (intro _) | with_reducible apply ch_latch | with_reducible apply ch_setb | with_reducible apply ch_setBit | exact sub_trans hm (by decide) | exact bit_of hm (by decide) | with_reducible exact reg_of hm at_CLE_STATUS (by decide) | with_reducible exact reg_of hm (at_CLE_FAULT _) (by decide) | with_reducible exact reg_of hm (at_CLE_SLOT_CTL _) (by decide))

theorem ch_sendSetpoint {m : Nat} {s0 : Dev} (s : Dev) (j : Fin 8) (v : F32)
    (hm : Within 0x1400000000000000000000000000000000000000000000000000000000000000000000000001000000000000000000000000000000000000000008407200000000000DA6 m) (h0 : Changes m s0 s) :
    Changes m s0 (Dev.sendSetpoint s j v) := by
  unfold Dev.sendSetpoint
  try dsimp only
  repeat' (first | with_reducible assumption | split | (intro _) | with_reducible apply ch_sendCtrl | exact sub_trans hm (by decide))

theorem ch_loopFail {m : Nat} {s0 : Dev} (s : Dev) (a1 : Nat)
    (hm : Within 0x1400000000000000000000000000000000000000000000000000000000000000000000000001022000000000000000000000000000000000000008407200000000002DA6 m) (h0 : Changes m s0 s) :
    Changes m s0 (Dev.loopFail s a1) := by
  unfold Dev.loopFail
  try dsimp only
  repeat' (first | with_reducible assumption | split | (intro _) | with_reducible apply ch_forEach | with_reducible apply ch_when | with_reducible apply ch_putThm | with_reducible apply ch_setb | with_reducible apply ch_sendSetpoint | with_reducible apply ch_post | exact sub_trans hm (by decide) | exact bit_of hm (by decide) | with_reducible exact reg_of hm (at_THM_CAB_STATUS _) (by decide) | with_reducible exact reg_of hm (at_THM_LOOP_STATUS _) (by decide))

theorem ch_slotFault {m : Nat} {s0 : Dev} (s : Dev) (a1 : Fin 128) (cause : Nat)
    (hm : Within 0x1400000000000000000000000000000000000000000000000000000000000000000000000001022000000003000010003201100800200000000008407200000000003DA6 m) (h0 : Changes m s0 s) :
    Changes m s0 (Dev.slotFault s a1 cause) := by
  unfold Dev.slotFault
  try dsimp only
  repeat' (first | with_reducible assumption | split | (intro _) | with_reducible apply ch_forEach | with_reducible apply ch_wr | with_reducible apply ch_set | with_reducible apply ch_setSlotState | with_reducible apply ch_setSlotFault | with_reducible apply ch_modSlot | with_reducible apply ch_resampleAll | with_reducible apply ch_disarmLeg | with_reducible apply ch_post | with_reducible apply ch_loopFail | exact sub_trans hm (by decide) | with_reducible exact reg_of hm (at_CLE_SLOT_CTL _) (by decide) | with_reducible exact reg_of hm (at_CLE_SLOT_OUT0 _) (by decide) | with_reducible exact reg_of hm (at_CLE_SLOT_OUT1 _) (by decide))

theorem ch_slotMiss {m : Nat} {s0 : Dev} (s : Dev) (a1 : Fin 128) (cause : Nat)
    (hm : Within 0x1400000000000000000000000000000000000000000000000000000000000000000000000001022000000007000010003A01100800200000000008407200000000003DA6 m) (h0 : Changes m s0 s) :
    Changes m s0 (Dev.slotMiss s a1 cause) := by
  unfold Dev.slotMiss
  try dsimp only
  repeat' (first | with_reducible assumption | split | (intro _) | with_reducible apply ch_when | with_reducible apply ch_latch | with_reducible apply ch_set | with_reducible apply ch_bump | with_reducible apply ch_post | with_reducible apply ch_slotFault | exact sub_trans hm (by decide) | exact bit_of hm (by decide) | with_reducible exact reg_of hm at_CLE_STATUS (by decide) | with_reducible exact reg_of hm at_CLE_MISS_CNT (by decide) | with_reducible exact reg_of hm (at_CLE_SLOT_CTL _) (by decide) | with_reducible exact reg_of hm (at_CLE_SLOT_MISS_CNT _) (by decide))

theorem ch_dropExec {m : Nat} {s0 : Dev} (s : Dev) (a1 : Fin 128)
    (hm : Within 0x1000 m) (h0 : Changes m s0 s) :
    Changes m s0 (Dev.dropExec s a1) := by
  unfold Dev.dropExec
  try dsimp only
  repeat' (first | with_reducible assumption | split | (intro _) | with_reducible apply ch_modSlot | exact sub_trans hm (by decide))

theorem ch_showStates {m : Nat} {s0 : Dev} (s : Dev) (a1 : Fin 128)
    (hm : Within 0x10000000000000000000000000000000000000000000000000 m) (h0 : Changes m s0 s) :
    Changes m s0 (Dev.showStates s a1) := by
  unfold Dev.showStates
  try dsimp only
  repeat' (first | with_reducible assumption | split | (intro _) | with_reducible apply ch_forEach | with_reducible apply ch_wr | with_reducible exact reg_of hm (at_CLE_SLOT_STATEW _ _) (by decide))

theorem ch_loopSetpoints {m : Nat} {s0 : Dev} (s : Dev) (a1 : Nat)
    (hm : Within 0x1400000000000000000000000000000000000000000000000000000000000000000000000001000000000000000000000000000000000000000008407200000000002DA6 m) (h0 : Changes m s0 s) :
    Changes m s0 (Dev.loopSetpoints s a1) := by
  unfold Dev.loopSetpoints
  try dsimp only
  repeat' (first | with_reducible assumption | split | (intro _) | with_reducible apply ch_forEach | with_reducible apply ch_putThm | with_reducible apply ch_sendSetpoint | exact sub_trans hm (by decide) | exact bit_of hm (by decide))

theorem ch_evalMaps {m : Nat} {s0 : Dev} (s : Dev) (a1 : Nat)
    (hm : Within 0x100800000000000000000000000000000420 m) (h0 : Changes m s0 s) :
    Changes m s0 (Dev.evalMaps s a1) := by
  unfold Dev.evalMaps
  try dsimp only
  repeat' (first | with_reducible assumption | split | (intro _) | with_reducible apply ch_forEach | with_reducible apply ch_evalMap | exact sub_trans hm (by decide))

theorem ch_slotWrite {m : Nat} {s0 : Dev} (s : Dev) (a1 : Fin 128) (e : SlotExec) (done : Nat) (f : F32) (a : F32) (o : LawOut) (d0 : F32) (d1 : F32)
    (hm : Within 0x1400000000000000000000000000000000000000000000000000000000000000000000000001000000000013000810000000100800A00000000008407200000000003DA6 m) (h0 : Changes m s0 s) :
    Changes m s0 (Dev.slotWrite s a1 e done f a o d0 d1) := by
  unfold Dev.slotWrite
  try dsimp only
  repeat' (first | with_reducible assumption | split | (intro _) | with_reducible apply ch_when | with_reducible apply ch_wr | with_reducible apply ch_set | with_reducible apply ch_latch | with_reducible apply ch_modSlot | with_reducible apply ch_showStates | with_reducible apply ch_post | with_reducible apply ch_loopSetpoints | with_reducible apply ch_slotCompleted | with_reducible apply ch_evalMaps | with_reducible apply ch_resampleAll | exact sub_trans hm (by decide) | exact bit_of hm (by decide) | with_reducible exact reg_of hm (at_CLE_SLOT_CTL _) (by decide) | with_reducible exact reg_of hm (at_CLE_SLOT_LAT _) (by decide) | with_reducible exact reg_of hm (at_CLE_SLOT_OUT0 _) (by decide) | with_reducible exact reg_of hm (at_CLE_SLOT_OUT1 _) (by decide))

theorem ch_execDone {m : Nat} {s0 : Dev} (s : Dev) (a1 : Fin 128) (e : SlotExec) (done : Nat)
    (hm : Within 0x1400000000000000000000000000000000000000000000000000000000000000000000000001022000000017000810003A01100800A00000000008407200000000003DA6 m) (h0 : Changes m s0 s) :
    Changes m s0 (Dev.execDone s a1 e done) := by
  unfold Dev.execDone
  try dsimp only
  repeat' (first | with_reducible assumption | split | (intro _) | with_reducible apply ch_slotMiss | with_reducible apply ch_dropExec | with_reducible apply ch_slotWrite | exact sub_trans hm (by decide))

theorem ch_slotComplete {m : Nat} {s0 : Dev} (s : Dev) (a1 : Fin 128)
    (hm : Within 0x1400000000000000000000000000000000000000000000000000000000000000000000000001022000000017000810003A01100800A00000000008407200000000003DA7 m) (h0 : Changes m s0 s) :
    Changes m s0 (Dev.slotComplete s a1) := by
  unfold Dev.slotComplete
  try dsimp only
  repeat' (first | with_reducible assumption | split | (intro _) | with_reducible apply ch_runPipesFor | with_reducible apply ch_finishOpen | with_reducible apply ch_execDone | with_reducible apply ch_reach | exact sub_trans hm (by decide))

theorem ch_queueSample {m : Nat} {s0 : Dev} (s : Dev) (a1 : Fin 128) (ia : Nat) (a : Option F32) (b : Option F32)
    (hm : Within 0x1400000000000000000000000000000000000000000000000000000000000000000000000001022000000007000010003A01100800200000000008407200000000003DA6 m) (h0 : Changes m s0 s) :
    Changes m s0 (Dev.queueSample s a1 ia a b) := by
  unfold Dev.queueSample
  try dsimp only
  repeat' (first | with_reducible assumption | split | (intro _) | with_reducible apply ch_modSlot | with_reducible apply ch_slotMiss | exact sub_trans hm (by decide))

theorem ch_slotCapture {m : Nat} {s0 : Dev} (s : Dev) (a1 : Fin 128) (pinA : F32) (pinB : F32)
    (hm : Within 0x1400000000000000000000000000000000000000000000000000000000000000000000000001022000000007000010003A01100800200000000008407200000000003DA6 m) (h0 : Changes m s0 s) :
    Changes m s0 (Dev.slotCapture s a1 pinA pinB) := by
  unfold Dev.slotCapture
  try dsimp only
  repeat' (first | with_reducible assumption | split | (intro _) | with_reducible apply ch_queueSample | with_reducible apply ch_modSlot | exact sub_trans hm (by decide))

theorem ch_clearSlotFault {m : Nat} {s0 : Dev} (s : Dev) (a1 : Nat)
    (hm : Within 0x10002200000000000000000000000000000000000020 m) (h0 : Changes m s0 s) :
    Changes m s0 (Dev.clearSlotFault s a1) := by
  unfold Dev.clearSlotFault
  try dsimp only
  repeat' (first | with_reducible assumption | split | (intro _) | with_reducible apply ch_setSlotFault | exact sub_trans hm (by decide))

theorem ch_runPipes {m : Nat} {s0 : Dev} (a0 : Nat) (a1 : Nat) (a2 : Dev)
    (hm : Within 0x1000 m) (h2 : Changes m s0 a2) :
    Changes m s0 (Dev.runPipes a0 a1 a2) := by
  induction a0 generalizing a1 a2 with
  | zero => exact h2
  | succ k ih =>
    unfold Dev.runPipes
    try dsimp only
    repeat' (first | with_reducible assumption | split | with_reducible apply ch_startExec | with_reducible apply ih | exact sub_trans hm (by decide))


theorem ch_openSlot {m : Nat} {s0 : Dev} (s : Dev) (a1 : Fin 128)
    (hm : Within 0x14000000000000000000000000000000000000000000000000000000000000000000000000000000000000000000100012000000000000000000084072000000000011A4 m) (h0 : Changes m s0 s) :
    Changes m s0 (Dev.openSlot s a1).1 := by
  unfold Dev.openSlot
  try dsimp only
  repeat' (first | with_reducible assumption | split | (intro _) | with_reducible apply ch_set | with_reducible apply ch_post | with_reducible apply ch_runPipes | with_reducible apply ch_modSlot | with_reducible apply ch_openNow | exact sub_trans hm (by decide) | with_reducible exact reg_of hm (at_CLE_SLOT_CTL _) (by decide))

theorem ch_effSlotOpen {m : Nat} {s0 : Dev} (a0 : Fin 128) (s : Dev)
    (hm : Within 0x14000000000000000000000000000000000000000000000000000000000000000000000000000000000000000000100012000000000000000000084072000000000011A4 m) (h1 : Changes m s0 s) :
    Changes m s0 (effSlotOpen a0 s) := by
  unfold effSlotOpen
  try dsimp only
  repeat' (first | with_reducible assumption | split | (intro _) | with_reducible apply ch_openSlot | with_reducible apply ch_answer | exact sub_trans hm (by decide))

theorem ch_slotLate {m : Nat} {s0 : Dev} (s : Dev) (a1 : Fin 128)
    (hm : Within 0x1400000000000000000000000000000000000000000000000000000000000000000000000001022000000007000010003A01100800200000000008407200000000003DA7 m) (h0 : Changes m s0 s) :
    Changes m s0 (Dev.slotLate s a1) := by
  unfold Dev.slotLate
  try dsimp only
  repeat' (first | with_reducible assumption | split | (intro _) | with_reducible apply ch_finishOpen | with_reducible apply ch_slotMiss | with_reducible apply ch_dropExec | with_reducible apply ch_reach | with_reducible apply ch_runPipes | exact sub_trans hm (by decide))

theorem ch_settle {m : Nat} {s0 : Dev} (s : Dev) (a1 : Fin 128)
    (hm : Within 0x1400000000000000000000000000000000000000000000000000000000000000000000000001022000000017000810003A01100800A00000000008407200000000003DA7 m) (h0 : Changes m s0 s) :
    Changes m s0 (Dev.settle s a1) := by
  unfold Dev.settle
  try dsimp only
  repeat' (first | with_reducible assumption | split | (intro _) | with_reducible apply ch_slotLate | with_reducible apply ch_slotComplete | exact sub_trans hm (by decide))

theorem ch_slotSample {m : Nat} {s0 : Dev} (s : Dev) (a1 : Fin 128) (pinA : F32) (pinB : F32)
    (hm : Within 0x1400000000000000000000000000000000000000000000000000000000000000000000000001022000000017000810003A01100800A00000000008407200000000003DA7 m) (h0 : Changes m s0 s) :
    Changes m s0 (Dev.slotSample s a1 pinA pinB) := by
  unfold Dev.slotSample
  try dsimp only
  repeat' (first | with_reducible assumption | split | (intro _) | with_reducible apply ch_reach | with_reducible apply ch_slotCapture | with_reducible apply ch_settle | with_reducible apply ch_runPipes | exact sub_trans hm (by decide))

theorem ch_effSlotExecutionComplete {m : Nat} {s0 : Dev} (a0 : Fin 128) (s : Dev)
    (hm : Within 0x1400000000000000000000000000000000000000000000000000000000000000000000000001022000000017000810003A01100800A00000000008407200000000003DA7 m) (h1 : Changes m s0 s) :
    Changes m s0 (effSlotExecutionComplete a0 s) := by
  unfold effSlotExecutionComplete
  try dsimp only
  repeat' (first | with_reducible assumption | split | (intro _) | with_reducible apply ch_slotComplete | exact sub_trans hm (by decide))

theorem ch_effSlotDeadlineMiss {m : Nat} {s0 : Dev} (a0 : Fin 128) (s : Dev)
    (hm : Within 0x1400000000000000000000000000000000000000000000000000000000000000000000000001022000000007000010003A01100800200000000008407200000000003DA7 m) (h1 : Changes m s0 s) :
    Changes m s0 (effSlotDeadlineMiss a0 s) := by
  unfold effSlotDeadlineMiss
  try dsimp only
  repeat' (first | with_reducible assumption | split | (intro _) | with_reducible apply ch_slotLate | exact sub_trans hm (by decide))

theorem ch_effSlotSample {m : Nat} {s0 : Dev} (a0 : Fin 128) (pinA : Word) (pinB : Word) (s : Dev)
    (hm : Within 0x1400000000000000000000000000000000000000000000000000000000000000000000000001022000000017000810003A01100800A00000000008407200000000003DA7 m) (h3 : Changes m s0 s) :
    Changes m s0 (effSlotSample a0 pinA pinB s) := by
  unfold effSlotSample
  try dsimp only
  repeat' (first | with_reducible assumption | split | (intro _) | with_reducible apply ch_slotSample | exact sub_trans hm (by decide))

theorem ch_effSlotFaultClear {m : Nat} {s0 : Dev} (a0 : Fin 128) (s : Dev)
    (hm : Within 0x10002200000000000000000000000000000000000024 m) (h1 : Changes m s0 s) :
    Changes m s0 (effSlotFaultClear a0 s) := by
  unfold effSlotFaultClear
  try dsimp only
  repeat' (first | with_reducible assumption | split | (intro _) | with_reducible apply ch_answer | with_reducible apply ch_clearSlotFault | exact sub_trans hm (by decide))

theorem ch_execSlotClose {m : Nat} {a0 : Fin 128} {s t : State} (hm : Within 0x14000000000000000000000000000000000000000000000000000000000000000000000000000220000000000000100012000000000000000000084072000000000031A4 m)
    (h : execSlotClose a0 s = .next t) : t.pending = s.pending ∧ Changes m s.dev t.dev := by
  unfold execSlotClose at h
  refine of_onReg h (bit_of hm (by decide)) (fun d hd => ?_)
  try dsimp only
  repeat' (first | with_reducible assumption | split | (intro _) | with_reducible apply ch_effSlotClose | exact sub_trans hm (by decide))

theorem ch_execSlotDeadlineMiss {m : Nat} {a0 : Fin 128} {s t : State} (hm : Within 0x1400000000000000000000000000000000000000000000000000000000000000000000000001022000000007000010003A01100800200000000008407200000000003DA7 m)
    (h : execSlotDeadlineMiss a0 s = .next t) : t.pending = s.pending ∧ Changes m s.dev t.dev := by
  unfold execSlotDeadlineMiss at h
  refine of_onRun h (bit_of hm (by decide)) (fun d hd => ?_)
  try dsimp only
  repeat' (first | with_reducible assumption | split | (intro _) | with_reducible apply ch_effSlotDeadlineMiss | exact sub_trans hm (by decide))

theorem ch_execSlotFaultClear {m : Nat} {a0 : Fin 128} {s t : State} (hm : Within 0x10002200000000000000000000000000000000000024 m)
    (h : execSlotFaultClear a0 s = .next t) : t.pending = s.pending ∧ Changes m s.dev t.dev := by
  unfold execSlotFaultClear at h
  refine of_onReg h (bit_of hm (by decide)) (fun d hd => ?_)
  try dsimp only
  repeat' (first | with_reducible assumption | split | (intro _) | with_reducible apply ch_effSlotFaultClear | exact sub_trans hm (by decide))

theorem ch_execSlotOpen {m : Nat} {a0 : Fin 128} {s t : State} (hm : Within 0x14000000000000000000000000000000000000000000000000000000000000000000000000000000000000000000100012000000000000000000084072000000000011A4 m)
    (h : execSlotOpen a0 s = .next t) : t.pending = s.pending ∧ Changes m s.dev t.dev := by
  unfold execSlotOpen at h
  refine of_onReg h (bit_of hm (by decide)) (fun d hd => ?_)
  try dsimp only
  repeat' (first | with_reducible assumption | split | (intro _) | with_reducible apply ch_effSlotOpen | exact sub_trans hm (by decide))

theorem ch_execSlotSample {m : Nat} {a0 : Fin 128} {pinA : Word} {pinB : Word} {s t : State} (hm : Within 0x1400000000000000000000000000000000000000000000000000000000000000000000000001022000000017000810003A01100800A00000000008407200000000003DA7 m)
    (h : execSlotSample a0 pinA pinB s = .next t) : t.pending = s.pending ∧ Changes m s.dev t.dev := by
  unfold execSlotSample at h
  refine of_onRun h (bit_of hm (by decide)) (fun d hd => ?_)
  try dsimp only
  repeat' (first | with_reducible assumption | split | (intro _) | with_reducible apply ch_effSlotSample | exact sub_trans hm (by decide))

theorem ch_execSlotExecutionComplete {m : Nat} {a0 : Fin 128} {s t : State} (hm : Within 0x1400000000000000000000000000000000000000000000000000000000000000000000000001022000000017000810003A01100800A00000000008407200000000003DA7 m)
    (h : execSlotExecutionComplete a0 s = .next t) : t.pending = s.pending ∧ Changes m s.dev t.dev := by
  unfold execSlotExecutionComplete at h
  refine of_onRun h (bit_of hm (by decide)) (fun d hd => ?_)
  try dsimp only
  repeat' (first | with_reducible assumption | split | (intro _) | with_reducible apply ch_effSlotExecutionComplete | exact sub_trans hm (by decide))

end Dev

end Sys2Proof.Machine
end

