-- ==== Sys2Proof/Laws/ThermalCh.lean ====
section
/-! SUPPORT. What each definition of Machine/Thermal.lean may change. -/

namespace Sys2Proof.Machine

set_option linter.all false
set_option Elab.async false

namespace Dev

theorem ch_thmSummary {m : Nat} {s0 : Dev} (s : Dev)
    (hm : Within 0x200000000000000000000000000000000000000000000000000 m) (h0 : Changes m s0 s) :
    Changes m s0 (Dev.thmSummary s) := by
  unfold Dev.thmSummary
  try dsimp only
  repeat' (first | with_reducible assumption | split | (intro _) | with_reducible apply ch_setb | with_reducible exact reg_of hm at_THM_STATUS (by decide))

theorem ch_refreshDerate {m : Nat} {s0 : Dev} (s : Dev) (n : Nat)
    (hm : Within 0x14000000000000000000000000000000000000000000000000000000000000000000000000000020000002000000000000000000000000000000084072000000000001A4 m) (h0 : Changes m s0 s) :
    Changes m s0 (Dev.refreshDerate s n) := by
  unfold Dev.refreshDerate
  try dsimp only
  repeat' (first | with_reducible assumption | split | (intro _) | with_reducible apply ch_when | with_reducible apply ch_setb | with_reducible apply ch_thmSummary | with_reducible apply ch_post | exact sub_trans hm (by decide) | with_reducible exact reg_of hm (at_THM_CAB_STATUS _) (by decide))

theorem ch_modCab {m : Nat} {s0 : Dev} (s : Dev) (n : Fin 16) (f : CabSt → CabSt)
    (hm : Within 0x2000 m) (h0 : Changes m s0 s) :
    Changes m s0 (Dev.modCab s n f) := by
  unfold Dev.modCab
  try dsimp only
  repeat' (first | with_reducible assumption | split | (intro _) | with_reducible apply ch_putThm | exact bit_of hm (by decide))

theorem ch_setIlim {m : Nat} {s0 : Dev} (s : Dev) (n : Nat) (ilim : Nat)
    (hm : Within 0x14000000000000000000000000000000000000000000000000000000000000000000000000000024000002000000000000000000000000000000084072000000000021A4 m) (h0 : Changes m s0 s) :
    Changes m s0 (Dev.setIlim s n ilim) := by
  unfold Dev.setIlim
  try dsimp only
  repeat' (first | with_reducible assumption | split | (intro _) | with_reducible apply ch_set | with_reducible apply ch_refreshDerate | with_reducible apply ch_modCab | exact sub_trans hm (by decide) | with_reducible exact reg_of hm (at_THM_CAB_LIMIT _) (by decide))

theorem ch_effCableTripClear {m : Nat} {s0 : Dev} (n : Fin 16) (s : Dev)
    (hm : Within 0x14000000000000000000000000000000000000000000000000000000000000000000000000000024000002000000000000000000000000000000084072000000000021A5 m) (h1 : Changes m s0 s) :
    Changes m s0 (effCableTripClear n s) := by
  unfold effCableTripClear
  try dsimp only
  repeat' (first | with_reducible assumption | split | (intro _) | with_reducible apply ch_when | with_reducible apply ch_setb | with_reducible apply ch_set | with_reducible apply ch_reach | with_reducible apply ch_post | with_reducible apply ch_thmSummary | with_reducible apply ch_setIlim | exact sub_trans hm (by decide) | with_reducible exact reg_of hm (at_THM_CAB_STATUS _) (by decide))

theorem ch_identRequest {m : Nat} {s0 : Dev} (s : Dev) (n : Fin 16) (amps : Nat)
    (hm : Within 0x6000000000000000000000000000000000000000000000000000000000000000000000000000000 m) (h0 : Changes m s0 s) :
    Changes m s0 (Dev.identRequest s n amps) := by
  unfold Dev.identRequest
  try dsimp only
  repeat' (first | with_reducible assumption | split | (intro _) | with_reducible apply ch_when | with_reducible apply ch_wr | with_reducible apply ch_set | with_reducible exact reg_of hm (at_VSS_OUT_REQ _) (by decide) | with_reducible exact reg_of hm (at_VSS_OUT_EVLIM _) (by decide))

theorem ch_identStop {m : Nat} {s0 : Dev} (s : Dev) (src : Src)
    (hm : Within 0x14000000000000000000000000000000000000000000000000000000060000000000000000000024000002000000000000000000000000000000084072000000000021A4 m) (h0 : Changes m s0 s) :
    Changes m s0 (Dev.identStop s src) := by
  unfold Dev.identStop
  try dsimp only
  repeat' (first | with_reducible assumption | split | (intro _) | with_reducible apply ch_forEach | with_reducible apply ch_modCab | with_reducible apply ch_identRequest | with_reducible apply ch_setIlim | exact sub_trans hm (by decide))

theorem ch_dieReading {m : Nat} {s0 : Dev} (s : Dev) (t : List (BitVec 16)) (d : Fin 3)
    (hm : Within 0x800000000000000000000000000000000000000000000002000 m) (h0 : Changes m s0 s) :
    Changes m s0 (Dev.dieReading s t d) := by
  unfold Dev.dieReading
  try dsimp only
  repeat' (first | with_reducible assumption | split | (intro _) | with_reducible apply ch_putThm | with_reducible apply ch_seti | exact bit_of hm (by decide) | with_reducible exact reg_of hm (at_THM_DIE _) (by decide))

theorem ch_dieReadings {m : Nat} {s0 : Dev} (s : Dev) (t : List (BitVec 16))
    (hm : Within 0x800000000000000000000000000000000000000000000002000 m) (h0 : Changes m s0 s) :
    Changes m s0 (Dev.dieReadings s t) := by
  unfold Dev.dieReadings
  try dsimp only
  repeat' (first | with_reducible assumption | split | (intro _) | with_reducible apply ch_forEach | with_reducible apply ch_dieReading | exact sub_trans hm (by decide))

theorem ch_dieSample {m : Nat} {s0 : Dev} (s : Dev) (t : List (BitVec 16))
    (hm : Within 0x1400000000000000000000000000000000000000000000000000000000000000000000000000000000000A000000000000000000000000000000084072000000000021E5 m) (h0 : Changes m s0 s) :
    Changes m s0 (Dev.dieSample s t).1 := by
  unfold Dev.dieSample
  try dsimp only
  repeat' (first | with_reducible assumption | split | (intro _) | with_reducible apply ch_when | with_reducible apply ch_setb | with_reducible apply ch_tick | with_reducible apply ch_dieReadings | with_reducible apply ch_post | exact sub_trans hm (by decide) | with_reducible exact reg_of hm at_THM_STATUS (by decide))

theorem ch_identify {m : Nat} {s0 : Dev} (s : Dev) (l : LongSrc) (outlet : Nat) (iId : Nat) (stepMin : Nat)
    (hm : Within 0x14000000000000000000000000000000000000000000000000000000060000000000000000000024000002000000000000000000000000000000084072000000000021A4 m) (h0 : Changes m s0 s) :
    Changes m s0 (Dev.identify s l outlet iId stepMin) := by
  unfold Dev.identify
  try dsimp only
  repeat' (first | with_reducible assumption | split | (intro _) | with_reducible apply ch_longRefuse | with_reducible apply ch_longAccept | with_reducible apply ch_modCab | with_reducible apply ch_identRequest | with_reducible apply ch_setIlim | exact sub_trans hm (by decide))

theorem ch_effIdentify {m : Nat} {s0 : Dev} (l : LongSrc) (outlet : Byte) (iId : Code) (stepTime : Code) (s : Dev)
    (hm : Within 0x14000000000000000000000000000000000000000000000000000000060000000000000000000024000002000000000000000000000000000000084072000000000021A4 m) (h4 : Changes m s0 s) :
    Changes m s0 (effIdentify l outlet iId stepTime s) := by
  unfold effIdentify
  try dsimp only
  repeat' (first | with_reducible assumption | split | (intro _) | with_reducible apply ch_identify | exact sub_trans hm (by decide))

theorem ch_stepModel {m : Nat} {s0 : Dev} (s : Dev) (n : Fin 16) (i : Rat)
    (hm : Within 0x2000 m) (h0 : Changes m s0 s) :
    Changes m s0 (Dev.stepModel s n i) := by
  unfold Dev.stepModel
  try dsimp only
  repeat' (first | with_reducible assumption | split | (intro _) | with_reducible apply ch_modCab | exact sub_trans hm (by decide))

theorem ch_startModel {m : Nat} {s0 : Dev} (s : Dev) (n : Fin 16)
    (hm : Within 0x2000 m) (h0 : Changes m s0 s) :
    Changes m s0 (Dev.startModel s n) := by
  unfold Dev.startModel
  try dsimp only
  repeat' (first | with_reducible assumption | split | (intro _) | with_reducible apply ch_modCab | exact sub_trans hm (by decide))

theorem ch_trackFall {m : Nat} {s0 : Dev} (s : Dev) (n : Fin 16)
    (hm : Within 0x2000 m) (h0 : Changes m s0 s) :
    Changes m s0 (Dev.trackFall s n) := by
  unfold Dev.trackFall
  try dsimp only
  repeat' (first | with_reducible assumption | split | (intro _) | with_reducible apply ch_modCab | exact sub_trans hm (by decide))

theorem ch_cabTrip {m : Nat} {s0 : Dev} (s : Dev) (n : Fin 16) (cause : Nat)
    (hm : Within 0x14000000000000000000000000000000000000000000000000000000000000000000000000000024000002000000000000000000000000000000084072000000000021A4 m) (h0 : Changes m s0 s) :
    Changes m s0 (Dev.cabTrip s n cause) := by
  unfold Dev.cabTrip
  try dsimp only
  repeat' (first | with_reducible assumption | split | (intro _) | with_reducible apply ch_set | with_reducible apply ch_setb | with_reducible apply ch_modCab | with_reducible apply ch_post | with_reducible apply ch_setIlim | exact sub_trans hm (by decide) | with_reducible exact reg_of hm (at_THM_CAB_STATUS _) (by decide))

theorem ch_cabHard {m : Nat} {s0 : Dev} (s : Dev) (n : Fin 16) (cause : Nat)
    (hm : Within 0x1F4081080000000000000000000000000003C0100000000000000000002202200000000000001002400000200000000000000000000003FC0004208407200000000033FA6 m) (h0 : Changes m s0 s) :
    Changes m s0 (Dev.cabHard s n cause) := by
  unfold Dev.cabHard
  try dsimp only
  repeat' (first | with_reducible assumption | split | (intro _) | with_reducible apply ch_set | with_reducible apply ch_setb | with_reducible apply ch_setIlim | with_reducible apply ch_setBit | with_reducible apply ch_freeze | with_reducible apply ch_post | with_reducible apply ch_refuseOutlet | exact sub_trans hm (by decide) | with_reducible exact reg_of hm at_THM_STATUS (by decide) | with_reducible exact reg_of hm (at_THM_CAB_STATUS _) (by decide))

theorem ch_evalTrips {m : Nat} {s0 : Dev} (s : Dev) (n : Fin 16)
    (hm : Within 0x1F4081080000000000000000000000000003C0100000000000000000002202200000000000001002400000200000000000000000000003FC0004208407200000000033FA6 m) (h0 : Changes m s0 s) :
    Changes m s0 (Dev.evalTrips s n) := by
  unfold Dev.evalTrips
  try dsimp only
  repeat' (first | with_reducible assumption | split | (intro _) | with_reducible apply ch_when | with_reducible apply ch_cabTrip | with_reducible apply ch_cabHard | with_reducible apply ch_modCab | exact sub_trans hm (by decide))

theorem ch_trackFlow {m : Nat} {s0 : Dev} (s : Dev) (n : Fin 16) (i : Rat)
    (hm : Within 0x2000 m) (h0 : Changes m s0 s) :
    Changes m s0 (Dev.trackFlow s n i) := by
  unfold Dev.trackFlow
  try dsimp only
  repeat' (first | with_reducible assumption | split | (intro _) | with_reducible apply ch_modCab | exact sub_trans hm (by decide))

theorem ch_showCab {m : Nat} {s0 : Dev} (s : Dev) (n : Fin 16)
    (hm : Within 0x1800000000000000000000000000000000000000000000000000000000 m) (h0 : Changes m s0 s) :
    Changes m s0 (Dev.showCab s n) := by
  unfold Dev.showCab
  try dsimp only
  repeat' (first | with_reducible assumption | split | (intro _) | with_reducible apply ch_seti | with_reducible exact reg_of hm (at_THM_CAB_HOT _) (by decide) | with_reducible exact reg_of hm (at_THM_CAB_COOL _) (by decide))

theorem ch_refreshOpenLoop {m : Nat} {s0 : Dev} (s : Dev) (n : Nat)
    (hm : Within 0x2000000000000000000000000000000000000000000000000000000000 m) (h0 : Changes m s0 s) :
    Changes m s0 (Dev.refreshOpenLoop s n) := by
  unfold Dev.refreshOpenLoop
  try dsimp only
  repeat' (first | with_reducible assumption | split | (intro _) | with_reducible apply ch_setb | with_reducible exact reg_of hm (at_THM_CAB_STATUS _) (by decide))

theorem ch_observe {m : Nat} {s0 : Dev} (s : Dev) (n : Fin 16) (pins : List F32)
    (hm : Within 0x1F4081080000000000000000000000000003C0100000000000000000002202200000000000001003C00000200000000000000000000003FC0004208407200000000033FA6 m) (h0 : Changes m s0 s) :
    Changes m s0 (Dev.observe s n pins) := by
  unfold Dev.observe
  try dsimp only
  repeat' (first | with_reducible assumption | split | (intro _) | with_reducible apply ch_setb | with_reducible apply ch_modCab | with_reducible apply ch_stepModel | with_reducible apply ch_startModel | with_reducible apply ch_trackFall | with_reducible apply ch_evalTrips | with_reducible apply ch_trackFlow | with_reducible apply ch_showCab | with_reducible apply ch_refreshOpenLoop | exact sub_trans hm (by decide) | with_reducible exact reg_of hm (at_THM_CAB_STATUS _) (by decide))

theorem ch_identRecord {m : Nat} {s0 : Dev} (s : Dev) (n : Fin 16) (r : IdRun) (x : IdSample)
    (hm : Within 0x14000000000000000000000000000000000000000000000000000000060000000000000000000024000002000000000000000000000000000000084072000000000021A4 m) (h0 : Changes m s0 s) :
    Changes m s0 (Dev.identRecord s n r x) := by
  unfold Dev.identRecord
  try dsimp only
  repeat' (first | with_reducible assumption | split | (intro _) | with_reducible apply ch_when | with_reducible apply ch_modCab | with_reducible apply ch_longPartial | with_reducible apply ch_identStop | exact sub_trans hm (by decide))

theorem ch_identStep {m : Nat} {s0 : Dev} (s : Dev) (n : Fin 16) (pins : List F32)
    (hm : Within 0x14000000000000000000000000000000000000000000000000000000060000000000000000000024000002000000000000000000000000000000084072000000000021A4 m) (h0 : Changes m s0 s) :
    Changes m s0 (Dev.identStep s n pins) := by
  unfold Dev.identStep
  try dsimp only
  repeat' (first | with_reducible assumption | split | (intro _) | with_reducible apply ch_modCab | with_reducible apply ch_identRecord | exact sub_trans hm (by decide))

theorem ch_observeAll {m : Nat} {s0 : Dev} (s : Dev) (pins : List F32)
    (hm : Within 0x1F4081080000000000000000000000000003C0100000000000000000006202200000000000001003C00000200000000000000000000003FC0004208407200000000033FA7 m) (h0 : Changes m s0 s) :
    Changes m s0 (Dev.observeAll s pins) := by
  unfold Dev.observeAll
  try dsimp only
  repeat' (first | with_reducible assumption | split | (intro _) | with_reducible apply ch_forEach | with_reducible apply ch_putThm | with_reducible apply ch_reach | with_reducible apply ch_observe | with_reducible apply ch_identStep | exact sub_trans hm (by decide) | exact bit_of hm (by decide))

theorem ch_effCableObserverStep {m : Nat} {s0 : Dev} (pin0 : Word) (pin1 : Word) (pin2 : Word) (pin3 : Word) (s : Dev)
    (hm : Within 0x1F4081080000000000000000000000000003C0100000000000000000006202200000000000001003C00000200000000000000000000003FC0004208407200000000033FA7 m) (h4 : Changes m s0 s) :
    Changes m s0 (effCableObserverStep pin0 pin1 pin2 pin3 s) := by
  unfold effCableObserverStep
  try dsimp only
  repeat' (first | with_reducible assumption | split | (intro _) | with_reducible apply ch_observeAll | exact sub_trans hm (by decide))

theorem ch_requestRates {m : Nat} {s0 : Dev} (s : Dev)
    (hm : Within 0x1400000000000000000000000000000000000000000000000000000000000000000000000001000000000000000000000000000000000000000008407200000000000DA6 m) (h0 : Changes m s0 s) :
    Changes m s0 (Dev.requestRates s) := by
  unfold Dev.requestRates
  try dsimp only
  repeat' (first | with_reducible assumption | split | (intro _) | with_reducible apply ch_forEach | with_reducible apply ch_sendCtrl | with_reducible apply ch_modSeen | exact sub_trans hm (by decide))

theorem ch_cabEnable {m : Nat} {s0 : Dev} (s : Dev) (n : Fin 16)
    (hm : Within 0x1400000000000000000000000000000000000000000000000000000000000000000000000001002400040200000000000000000000000000000008407200000000002DA6 m) (h0 : Changes m s0 s) :
    Changes m s0 (Dev.cabEnable s n).1 := by
  unfold Dev.cabEnable
  try dsimp only
  repeat' (first | with_reducible assumption | split | (intro _) | with_reducible apply ch_setb | with_reducible apply ch_modCab | with_reducible apply ch_requestRates | with_reducible apply ch_setIlim | with_reducible apply ch_refreshOpenLoop | exact sub_trans hm (by decide) | with_reducible exact reg_of hm (at_THM_CAB_CFG _) (by decide))

theorem ch_effCableEnable {m : Nat} {s0 : Dev} (n : Fin 16) (s : Dev)
    (hm : Within 0x1400000000000000000000000000000000000000000000000000000000000000000000000001002400040200000000000000000000000000000008407200000000002DA6 m) (h1 : Changes m s0 s) :
    Changes m s0 (effCableEnable n s) := by
  unfold effCableEnable
  try dsimp only
  repeat' (first | with_reducible assumption | split | (intro _) | with_reducible apply ch_cabEnable | with_reducible apply ch_answer | exact sub_trans hm (by decide))

theorem ch_effCableFlowTrip {m : Nat} {s0 : Dev} (n : Fin 16) (s : Dev)
    (hm : Within 0x14000000000000000000000000000000000000000000000000000000000000000000000000000024000002000000000000000000000000000000084072000000000021A5 m) (h1 : Changes m s0 s) :
    Changes m s0 (effCableFlowTrip n s) := by
  unfold effCableFlowTrip
  try dsimp only
  repeat' (first | with_reducible assumption | split | (intro _) | with_reducible apply ch_when | with_reducible apply ch_setb | with_reducible apply ch_reach | with_reducible apply ch_post | with_reducible apply ch_cabTrip | exact sub_trans hm (by decide) | with_reducible exact reg_of hm (at_THM_CAB_STATUS _) (by decide))

theorem ch_correctModel {m : Nat} {s0 : Dev} (s : Dev) (i : Fin 64)
    (hm : Within 0x2000 m) (h0 : Changes m s0 s) :
    Changes m s0 (Dev.correctModel s i) := by
  unfold Dev.correctModel
  try dsimp only
  repeat' (first | with_reducible assumption | split | (intro _) | with_reducible apply ch_modCab | exact sub_trans hm (by decide))

theorem ch_setBand {m : Nat} {s0 : Dev} (s : Dev) (n : Fin 16) (b : Nat)
    (hm : Within 0x1400000000000000000000000000000000000000000000000000000000000000000000000001002000000000000000000000000000000000000008407200000000002DA6 m) (h0 : Changes m s0 s) :
    Changes m s0 (Dev.setBand s n b) := by
  unfold Dev.setBand
  try dsimp only
  repeat' (first | with_reducible assumption | split | (intro _) | with_reducible apply ch_set | with_reducible apply ch_requestRates | with_reducible apply ch_modCab | exact sub_trans hm (by decide) | with_reducible exact reg_of hm (at_THM_CAB_STATUS _) (by decide))

theorem ch_riseBand {m : Nat} {s0 : Dev} (s : Dev) (n : Fin 16)
    (hm : Within 0x1400000000000000000000000000000000000000000000000000000000000000000000000001002000000000000000000000000000000000000008407200000000002DA6 m) (h0 : Changes m s0 s) :
    Changes m s0 (Dev.riseBand s n) := by
  unfold Dev.riseBand
  try dsimp only
  repeat' (first | with_reducible assumption | split | (intro _) | with_reducible apply ch_trackFall | with_reducible apply ch_setBand | exact sub_trans hm (by decide))

theorem ch_cabDisable {m : Nat} {s0 : Dev} (s : Dev) (n : Fin 16)
    (hm : Within 0x1400000000000000000000000000000000000000000000000000000000000000000000000001002400040200000000000000000000000000000008407200000000002DA6 m) (h0 : Changes m s0 s) :
    Changes m s0 (Dev.cabDisable s n) := by
  unfold Dev.cabDisable
  try dsimp only
  repeat' (first | with_reducible assumption | split | (intro _) | with_reducible apply ch_setb | with_reducible apply ch_set | with_reducible apply ch_modCab | with_reducible apply ch_requestRates | with_reducible apply ch_setIlim | exact sub_trans hm (by decide) | with_reducible exact reg_of hm (at_THM_CAB_CFG _) (by decide) | with_reducible exact reg_of hm (at_THM_CAB_LIMIT _) (by decide) | with_reducible exact reg_of hm (at_THM_CAB_STATUS _) (by decide))

theorem ch_modSns {m : Nat} {s0 : Dev} (s : Dev) (i : Fin 64) (f : SnsSt → SnsSt)
    (hm : Within 0x2000 m) (h0 : Changes m s0 s) :
    Changes m s0 (Dev.modSns s i f) := by
  unfold Dev.modSns
  try dsimp only
  repeat' (first | with_reducible assumption | split | (intro _) | with_reducible apply ch_putThm | exact bit_of hm (by decide))

theorem ch_crossCheck {m : Nat} {s0 : Dev} (s : Dev) (i : Fin 64) (v : Int) (fault : Nat)
    (hm : Within 0x2000 m) (h0 : Changes m s0 s) :
    Changes m s0 (Dev.crossCheck s i v fault).1 := by
  unfold Dev.crossCheck
  try dsimp only
  repeat' (first | with_reducible assumption | split | (intro _) | with_reducible apply ch_modSns | exact sub_trans hm (by decide))

theorem ch_takeSample {m : Nat} {s0 : Dev} (s : Dev) (i : Fin 64) (j : Nat × Option Int)
    (hm : Within 0x2000 m) (h0 : Changes m s0 s) :
    Changes m s0 (Dev.takeSample s i j).1 := by
  unfold Dev.takeSample
  try dsimp only
  repeat' (first | with_reducible assumption | split | (intro _) | with_reducible apply ch_modSns | with_reducible apply ch_crossCheck | exact sub_trans hm (by decide))

theorem ch_cableFollows {m : Nat} {s0 : Dev} (s : Dev) (i : Fin 64)
    (hm : Within 0x1F4081080000000000000000000000000003C0100000000000000000002202200000000000001003C00000200000000000000000000003FC0004208407200000000033FA6 m) (h0 : Changes m s0 s) :
    Changes m s0 (Dev.cableFollows s i) := by
  unfold Dev.cableFollows
  try dsimp only
  repeat' (first | with_reducible assumption | split | (intro _) | with_reducible apply ch_when | with_reducible apply ch_riseBand | with_reducible apply ch_showCab | with_reducible apply ch_refreshOpenLoop | with_reducible apply ch_evalTrips | exact sub_trans hm (by decide))

theorem ch_showSns {m : Nat} {s0 : Dev} (s : Dev) (i : Fin 64) (st : Nat) (fault : Nat) (used : Option Int)
    (hm : Within 0x14000000000000000000000000000000000000000000000000000000000000000000000000000000000202000000000000000000000000000000084072000000000021A4 m) (h0 : Changes m s0 s) :
    Changes m s0 (Dev.showSns s i st fault used) := by
  unfold Dev.showSns
  try dsimp only
  repeat' (first | with_reducible assumption | split | (intro _) | with_reducible apply ch_when | with_reducible apply ch_set | with_reducible apply ch_seti | with_reducible apply ch_latch | with_reducible apply ch_modSns | with_reducible apply ch_post | exact sub_trans hm (by decide) | exact bit_of hm (by decide) | with_reducible exact reg_of hm at_THM_STATUS (by decide) | with_reducible exact reg_of hm (at_THM_SNS_VAL _) (by decide))

theorem ch_sampleSensor {m : Nat} {s0 : Dev} (s : Dev) (i : Fin 64) (ohm : F32)
    (hm : Within 0x1F4081080000000000000000000000000003C0100000000000000000002202200000000000001003C00020200000000000000000000003FC0004208407200000000033FA7 m) (h0 : Changes m s0 s) :
    Changes m s0 (Dev.sampleSensor s i ohm) := by
  unfold Dev.sampleSensor
  try dsimp only
  repeat' (first | with_reducible assumption | split | (intro _) | with_reducible apply ch_reach | with_reducible apply ch_takeSample | with_reducible apply ch_cableFollows | with_reducible apply ch_correctModel | with_reducible apply ch_showSns | exact sub_trans hm (by decide))

theorem ch_effSensorSample {m : Nat} {s0 : Dev} (n : Fin 64) (ohm : Word) (s : Dev)
    (hm : Within 0x1F4081080000000000000000000000000003C0100000000000000000002202200000000000001003C00020200000000000000000000003FC0004208407200000000033FA7 m) (h2 : Changes m s0 s) :
    Changes m s0 (effSensorSample n ohm s) := by
  unfold effSensorSample
  try dsimp only
  repeat' (first | with_reducible assumption | split | (intro _) | with_reducible apply ch_sampleSensor | exact sub_trans hm (by decide))

theorem ch_longProgress {m : Nat} {s0 : Dev} (s : Dev) (src : Src) (p : Nat)
    (hm : Within 0x84 m) (h0 : Changes m s0 s) :
    Changes m s0 (Dev.longProgress s src p) := by
  unfold Dev.longProgress
  try dsimp only
  repeat' (first | with_reducible assumption | with_reducible exact hif_same rfl | split | (intro _) | with_reducible apply ch_putHif | with_reducible apply ch_statusOut | exact sub_trans hm (by decide) | exact bit_of hm (by decide))

theorem ch_identPhase {m : Nat} {s0 : Dev} (s : Dev) (n : Fin 16) (r : IdRun) (phase : Nat) (amps : Nat)
    (hm : Within 0x6000000000000000000000000000000000000000000000000000000000000000000000000002084 m) (h0 : Changes m s0 s) :
    Changes m s0 (Dev.identPhase s n r phase amps) := by
  unfold Dev.identPhase
  try dsimp only
  repeat' (first | with_reducible assumption | split | (intro _) | with_reducible apply ch_modCab | with_reducible apply ch_longProgress | with_reducible apply ch_identRequest | exact sub_trans hm (by decide))

theorem ch_identEnd {m : Nat} {s0 : Dev} (s : Dev) (n : Fin 16) (r : IdRun) (ok : Bool) (code : Code)
    (hm : Within 0x14000000000000000000000000000000000000000000000000000000060000000000000000000024000002000000000000000000000000000000084072000000000021A4 m) (h0 : Changes m s0 s) :
    Changes m s0 (Dev.identEnd s n r ok code) := by
  unfold Dev.identEnd
  try dsimp only
  repeat' (first | with_reducible assumption | split | (intro _) | with_reducible apply ch_when | with_reducible apply ch_modCab | with_reducible apply ch_identRequest | with_reducible apply ch_setIlim | with_reducible apply ch_post | with_reducible apply ch_longEnd | exact sub_trans hm (by decide))

theorem ch_identFit {m : Nat} {s0 : Dev} (s : Dev) (n : Fin 16) (r : IdRun)
    (hm : Within 0x14000000000000000000000000000000000000000000000000000000060000000000000000000024000002000000000000000000000000000000084072000000000021A4 m) (h0 : Changes m s0 s) :
    Changes m s0 (Dev.identFit s n r) := by
  unfold Dev.identFit
  try dsimp only
  repeat' (first | with_reducible assumption | split | (intro _) | with_reducible apply ch_longPartial | with_reducible apply ch_identStop | with_reducible apply ch_identEnd | exact sub_trans hm (by decide))

theorem ch_identPhaseEnd {m : Nat} {s0 : Dev} (s : Dev) (n : Fin 16)
    (hm : Within 0x14000000000000000000000000000000000000000000000000000000060000000000000000000024000002000000000000000000000000000000084072000000000021A5 m) (h0 : Changes m s0 s) :
    Changes m s0 (Dev.identPhaseEnd s n) := by
  unfold Dev.identPhaseEnd
  try dsimp only
  repeat' (first | with_reducible assumption | split | (intro _) | with_reducible apply ch_identPhase | with_reducible apply ch_identEnd | with_reducible apply ch_reach | with_reducible apply ch_identFit | exact sub_trans hm (by decide))

theorem ch_effIdentifyPhaseEnd {m : Nat} {s0 : Dev} (n : Fin 16) (s : Dev)
    (hm : Within 0x14000000000000000000000000000000000000000000000000000000060000000000000000000024000002000000000000000000000000000000084072000000000021A5 m) (h1 : Changes m s0 s) :
    Changes m s0 (effIdentifyPhaseEnd n s) := by
  unfold effIdentifyPhaseEnd
  try dsimp only
  repeat' (first | with_reducible assumption | split | (intro _) | with_reducible apply ch_identPhaseEnd | exact sub_trans hm (by decide))

theorem ch_publishLimit {m : Nat} {s0 : Dev} (s : Dev) (n : Fin 16)
    (hm : Within 0x14000000000000000000000000000000000000000000000000000000000000000000000000000024000002000000000000000000000000000000084072000000000021E5 m) (h0 : Changes m s0 s) :
    Changes m s0 (Dev.publishLimit s n) := by
  unfold Dev.publishLimit
  try dsimp only
  repeat' (first | with_reducible assumption | split | (intro _) | with_reducible apply ch_set | with_reducible apply ch_tick | with_reducible apply ch_setIlim | exact sub_trans hm (by decide) | with_reducible exact reg_of hm (at_THM_CAB_LIMIT _) (by decide))

theorem ch_effCableLimitPublish {m : Nat} {s0 : Dev} (n : Fin 16) (s : Dev)
    (hm : Within 0x14000000000000000000000000000000000000000000000000000000000000000000000000000024000002000000000000000000000000000000084072000000000021E5 m) (h1 : Changes m s0 s) :
    Changes m s0 (effCableLimitPublish n s) := by
  unfold effCableLimitPublish
  try dsimp only
  repeat' (first | with_reducible assumption | split | (intro _) | with_reducible apply ch_publishLimit | exact sub_trans hm (by decide))

theorem ch_snsOff {m : Nat} {s0 : Dev} (s : Dev) (i : Fin 64)
    (hm : Within 0x14000000000000000000000000000000000000000000000000000000000000000000000000000000000202000000000000000000000000000000084072000000000021A4 m) (h0 : Changes m s0 s) :
    Changes m s0 (Dev.snsOff s i) := by
  unfold Dev.snsOff
  try dsimp only
  repeat' (first | with_reducible assumption | split | (intro _) | with_reducible apply ch_modSns | with_reducible apply ch_showSns | exact sub_trans hm (by decide))

theorem ch_effBandFall {m : Nat} {s0 : Dev} (n : Fin 16) (s : Dev)
    (hm : Within 0x1400000000000000000000000000000000000000000000000000000000000000000000000001002000000000000000000000000000000000000008407200000000002DA7 m) (h1 : Changes m s0 s) :
    Changes m s0 (effBandFall n s) := by
  unfold effBandFall
  try dsimp only
  repeat' (first | with_reducible assumption | split | (intro _) | with_reducible apply ch_setBand | with_reducible apply ch_reach | exact sub_trans hm (by decide))

theorem ch_execCableTripClear {m : Nat} {n : Fin 16} {s t : State} (hm : Within 0x14000000000000000000000000000000000000000000000000000000000000000000000000000024000002000000000000000000000000000000084072000000000021A5 m)
    (h : execCableTripClear n s = .next t) : t.pending = s.pending ∧ Changes m s.dev t.dev := by
  unfold execCableTripClear at h
  refine of_onRun h (bit_of hm (by decide)) (fun d hd => ?_)
  try dsimp only
  repeat' (first | with_reducible assumption | split | (intro _) | with_reducible apply ch_effCableTripClear | exact sub_trans hm (by decide))

theorem ch_execCableObserverStep {m : Nat} {pin0 : Word} {pin1 : Word} {pin2 : Word} {pin3 : Word} {s t : State} (hm : Within 0x1F4081080000000000000000000000000003C0100000000000000000006202200000000000001003C00000200000000000000000000003FC0004208407200000000033FA7 m)
    (h : execCableObserverStep pin0 pin1 pin2 pin3 s = .next t) : t.pending = s.pending ∧ Changes m s.dev t.dev := by
  unfold execCableObserverStep at h
  refine of_onRun h (bit_of hm (by decide)) (fun d hd => ?_)
  try dsimp only
  repeat' (first | with_reducible assumption | split | (intro _) | with_reducible apply ch_effCableObserverStep | exact sub_trans hm (by decide))

theorem ch_execCableFlowTrip {m : Nat} {n : Fin 16} {s t : State} (hm : Within 0x14000000000000000000000000000000000000000000000000000000000000000000000000000024000002000000000000000000000000000000084072000000000021A5 m)
    (h : execCableFlowTrip n s = .next t) : t.pending = s.pending ∧ Changes m s.dev t.dev := by
  unfold execCableFlowTrip at h
  refine of_onRun h (bit_of hm (by decide)) (fun d hd => ?_)
  try dsimp only
  repeat' (first | with_reducible assumption | split | (intro _) | with_reducible apply ch_effCableFlowTrip | exact sub_trans hm (by decide))

theorem ch_execCableEnable {m : Nat} {n : Fin 16} {s t : State} (hm : Within 0x1400000000000000000000000000000000000000000000000000000000000000000000000001002400040200000000000000000000000000000008407200000000002DA6 m)
    (h : execCableEnable n s = .next t) : t.pending = s.pending ∧ Changes m s.dev t.dev := by
  unfold execCableEnable at h
  refine of_onReg h (bit_of hm (by decide)) (fun d hd => ?_)
  try dsimp only
  repeat' (first | with_reducible assumption | split | (intro _) | with_reducible apply ch_effCableEnable | exact sub_trans hm (by decide))

theorem ch_execSensorSample {m : Nat} {n : Fin 64} {ohm : Word} {s t : State} (hm : Within 0x1F4081080000000000000000000000000003C0100000000000000000002202200000000000001003C00020200000000000000000000003FC0004208407200000000033FA7 m)
    (h : execSensorSample n ohm s = .next t) : t.pending = s.pending ∧ Changes m s.dev t.dev := by
  unfold execSensorSample at h
  refine of_onRun h (bit_of hm (by decide)) (fun d hd => ?_)
  try dsimp only
  repeat' (first | with_reducible assumption | split | (intro _) | with_reducible apply ch_effSensorSample | exact sub_trans hm (by decide))

theorem ch_execCableLimitPublish {m : Nat} {n : Fin 16} {s t : State} (hm : Within 0x14000000000000000000000000000000000000000000000000000000000000000000000000000024000002000000000000000000000000000000084072000000000021E5 m)
    (h : execCableLimitPublish n s = .next t) : t.pending = s.pending ∧ Changes m s.dev t.dev := by
  unfold execCableLimitPublish at h
  refine of_onRun h (bit_of hm (by decide)) (fun d hd => ?_)
  try dsimp only
  repeat' (first | with_reducible assumption | split | (intro _) | with_reducible apply ch_effCableLimitPublish | exact sub_trans hm (by decide))

theorem ch_execBandFall {m : Nat} {n : Fin 16} {s t : State} (hm : Within 0x1400000000000000000000000000000000000000000000000000000000000000000000000001002000000000000000000000000000000000000008407200000000002DA7 m)
    (h : execBandFall n s = .next t) : t.pending = s.pending ∧ Changes m s.dev t.dev := by
  unfold execBandFall at h
  refine of_onRun h (bit_of hm (by decide)) (fun d hd => ?_)
  try dsimp only
  repeat' (first | with_reducible assumption | split | (intro _) | with_reducible apply ch_effBandFall | exact sub_trans hm (by decide))

theorem ch_execIdentify {m : Nat} {l : LongSrc} {outlet : Byte} {iId : Code} {stepTime : Code} {s t : State} (hm : Within 0x14000000000000000000000000000000000000000000000000000000060000000000000000000024000002000000000000000000000000000000084072000000000021A4 m)
    (h : execIdentify l outlet iId stepTime s = .next t) : t.pending = s.pending ∧ Changes m s.dev t.dev := by
  unfold execIdentify at h
  refine of_onHost h (sub_trans hm (by decide)) (fun d hd => ?_)
  try dsimp only
  repeat' (first | with_reducible assumption | split | (intro _) | with_reducible apply ch_effIdentify | exact sub_trans hm (by decide))

theorem ch_execIdentifyPhaseEnd {m : Nat} {n : Fin 16} {s t : State} (hm : Within 0x14000000000000000000000000000000000000000000000000000000060000000000000000000024000002000000000000000000000000000000084072000000000021A5 m)
    (h : execIdentifyPhaseEnd n s = .next t) : t.pending = s.pending ∧ Changes m s.dev t.dev := by
  unfold execIdentifyPhaseEnd at h
  refine of_onRun h (bit_of hm (by decide)) (fun d hd => ?_)
  try dsimp only
  repeat' (first | with_reducible assumption | split | (intro _) | with_reducible apply ch_effIdentifyPhaseEnd | exact sub_trans hm (by decide))

end Dev

end Sys2Proof.Machine
end

