-- ==== Sys2Proof/Laws/HeadsCh.lean ====
section
/-! SUPPORT. What each definition of Machine/Heads.lean may change. -/

namespace Sys2Proof.Machine

set_option linter.all false
set_option Elab.async false

namespace Dev

theorem ch_modHead {m : Nat} {s0 : Dev} (s : Dev) (a1 : Fin 48) (f : HeadSt → HeadSt)
    (hm : Within 0x8000 m) (h0 : Changes m s0 s) :
    Changes m s0 (Dev.modHead s a1 f) := by
  unfold Dev.modHead
  try dsimp only
  repeat' (first | with_reducible assumption | split | (intro _) | with_reducible apply ch_putTri | exact bit_of hm (by decide))

theorem ch_refreshTriad {m : Nat} {s0 : Dev} (s : Dev) (n : Nat)
    (hm : Within 0x14000000000000000048000000000000000000000000000000000000000000000000000000000000000000000000000000000000000000000000084072000000000001A4 m) (h0 : Changes m s0 s) :
    Changes m s0 (Dev.refreshTriad s n) := by
  unfold Dev.refreshTriad
  try dsimp only
  repeat' (first | with_reducible assumption | split | (intro _) | with_reducible apply ch_when | with_reducible apply ch_set | with_reducible apply ch_setBit | with_reducible apply ch_post | exact sub_trans hm (by decide) | with_reducible exact reg_of hm at_TRI_STATUS (by decide) | with_reducible exact reg_of hm (at_TRI_OUT_STATUS _) (by decide))

theorem ch_setHead {m : Nat} {s0 : Dev} (s : Dev) (a1 : Fin 48) (st : Nat) (cause : Nat) (step : Nat)
    (hm : Within 0x14000000000000014048000000000000000000000000000000000000000000000000000000000000000000000000000000000000000000000000084072000000000081A4 m) (h0 : Changes m s0 s) :
    Changes m s0 (Dev.setHead s a1 st cause step) := by
  unfold Dev.setHead
  try dsimp only
  repeat' (first | with_reducible assumption | split | (intro _) | with_reducible apply ch_set | with_reducible apply ch_refreshTriad | with_reducible apply ch_modHead | exact sub_trans hm (by decide) | with_reducible exact reg_of hm (at_TRI_HEAD_STATUS _) (by decide) | with_reducible exact reg_of hm (at_TRI_HEAD_TEST _) (by decide))

theorem ch_headTest {m : Nat} {s0 : Dev} (s : Dev) (a1 : Fin 48)
    (hm : Within 0x14000000000000014048000000000000000000000000000000000000000000000000000000000000000000000000000000000000000000000000084072000000000081A4 m) (h0 : Changes m s0 s) :
    Changes m s0 (Dev.headTest s a1) := by
  unfold Dev.headTest
  try dsimp only
  repeat' (first | with_reducible assumption | split | (intro _) | with_reducible apply ch_modHead | with_reducible apply ch_setHead | exact sub_trans hm (by decide))

theorem ch_headsLeaveTest {m : Nat} {s0 : Dev} (s : Dev) (p : Nat)
    (hm : Within 0x14000000000000014048000000000000000000000000000000000000000000000000000000000000000000000000000000000000000000000000084072000000000081A4 m) (h0 : Changes m s0 s) :
    Changes m s0 (Dev.headsLeaveTest s p) := by
  unfold Dev.headsLeaveTest
  try dsimp only
  repeat' (first | with_reducible assumption | split | (intro _) | with_reducible apply ch_forEach | with_reducible apply ch_headTest | exact sub_trans hm (by decide))

theorem ch_headStandby {m : Nat} {s0 : Dev} (s : Dev) (a1 : Fin 48) (cause : Nat)
    (hm : Within 0x140000000000000140480000000000000F0000000000000000000000000000000000000000000000000000000000000000000000000000000000084072000000000281A4 m) (h0 : Changes m s0 s) :
    Changes m s0 (Dev.headStandby s a1 cause) := by
  unfold Dev.headStandby
  try dsimp only
  repeat' (first | with_reducible assumption | split | (intro _) | with_reducible apply ch_when | with_reducible apply ch_modHead | with_reducible apply ch_setHead | with_reducible apply ch_post | with_reducible apply ch_bookTamper | exact sub_trans hm (by decide))

theorem ch_headsFollowNodes {m : Nat} {s0 : Dev} (s : Dev)
    (hm : Within 0x140000000000000140480000000000000F0000000000000000000000000000000000000000000000000000000000000000000000000000000000084072000000000281A4 m) (h0 : Changes m s0 s) :
    Changes m s0 (Dev.headsFollowNodes s) := by
  unfold Dev.headsFollowNodes
  try dsimp only
  repeat' (first | with_reducible assumption | split | (intro _) | with_reducible apply ch_forEach | with_reducible apply ch_headTest | with_reducible apply ch_headStandby | exact sub_trans hm (by decide))

theorem ch_checkPlacement {m : Nat} {s0 : Dev} (s : Dev)
    (hm : Within 0x140000000000000140480000000000000F0000000000000000000000000000000000000000000000000000000000000000000000000000000000084072000000000281A4 m) (h0 : Changes m s0 s) :
    Changes m s0 (Dev.checkPlacement s) := by
  unfold Dev.checkPlacement
  try dsimp only
  repeat' (first | with_reducible assumption | split | (intro _) | with_reducible apply ch_forEach | with_reducible apply ch_headStandby | with_reducible apply ch_headTest | exact sub_trans hm (by decide))

theorem ch_headFail {m : Nat} {s0 : Dev} (s : Dev) (a1 : Fin 48)
    (hm : Within 0x140000000000000140480000000000000F0000000000000000000000000000000000000000000000000000000000000000000000000000000000084072000000000281A4 m) (h0 : Changes m s0 s) :
    Changes m s0 (Dev.headFail s a1) := by
  unfold Dev.headFail
  try dsimp only
  repeat' (first | with_reducible assumption | split | (intro _) | with_reducible apply ch_set | with_reducible apply ch_headStandby | with_reducible apply ch_post | exact sub_trans hm (by decide) | with_reducible exact reg_of hm (at_TRI_HEAD_STATUS _) (by decide))

theorem ch_triadStart {m : Nat} {s0 : Dev} (s : Dev) (n : Nat)
    (hm : Within 0x14000000000000014048000000000000000000000000000000000000000000000000000000000000000000000000000000000000000000000000084072000000000081A4 m) (h0 : Changes m s0 s) :
    Changes m s0 (Dev.triadStart s n) := by
  unfold Dev.triadStart
  try dsimp only
  repeat' (first | with_reducible assumption | split | (intro _) | with_reducible apply ch_forEach | with_reducible apply ch_headTest | exact sub_trans hm (by decide))

theorem ch_headsLoseTest {m : Nat} {s0 : Dev} (s : Dev) (p : Nat)
    (hm : Within 0x140000000000000140480000000000000F0000000000000000000000000000000000000000000000000000000000000000000000000000000000084072000000000281A4 m) (h0 : Changes m s0 s) :
    Changes m s0 (Dev.headsLoseTest s p) := by
  unfold Dev.headsLoseTest
  try dsimp only
  repeat' (first | with_reducible assumption | split | (intro _) | with_reducible apply ch_forEach | with_reducible apply ch_headStandby | exact sub_trans hm (by decide))


end Dev

end Sys2Proof.Machine
end

