-- ==== Sys2Proof/Laws/PistePhyCh.lean ====
section
/-! SUPPORT. What each definition of Machine/PistePhy.lean may change. -/

namespace Sys2Proof.Machine

set_option linter.all false
set_option Elab.async false

namespace Dev

theorem ch_showReceiver {m : Nat} {s0 : Dev} (s : Dev) (x : Dev) (p : Nat) (q : Nat)
    (hm : Within 0x1E800000000000000000000000000000000000000000000000000000000000000 m) (h0 : Changes m s0 s) (h1 : Changes m s0 x) :
    Changes m s0 (Dev.showReceiver s x p q) := by
  unfold Dev.showReceiver
  try dsimp only
  repeat' (first | with_reducible assumption | split | (intro _) | with_reducible apply ch_set | with_reducible apply ch_wr | with_reducible exact reg_of hm (at_PST_PHY_STATE _) (by decide) | with_reducible exact reg_of hm (at_PST_PHY_EQ _) (by decide) | with_reducible exact reg_of hm (at_PST_PHY_DFE _) (by decide) | with_reducible exact reg_of hm (at_PST_PHY_BLKERR _) (by decide) | with_reducible exact reg_of hm (at_PST_PHY_LOCKLOSS _) (by decide))

theorem ch_pistesUp {m : Nat} {s0 : Dev} (s : Dev)
    (hm : Within 0x400800000000 m) (h0 : Changes m s0 s) :
    Changes m s0 (Dev.pistesUp s) := by
  unfold Dev.pistesUp
  try dsimp only
  repeat' (first | with_reducible assumption | split | (intro _) | with_reducible apply ch_when | with_reducible apply ch_setb | with_reducible apply ch_set | with_reducible exact reg_of hm at_GEN_STATUS (by decide) | with_reducible exact reg_of hm at_GEN_BOOT2 (by decide))

theorem ch_phySummary {m : Nat} {s0 : Dev} (s : Dev)
    (hm : Within 0x80000000000000000000000000000000000000000000000000400800000000 m) (h0 : Changes m s0 s) :
    Changes m s0 (Dev.phySummary s) := by
  unfold Dev.phySummary
  try dsimp only
  repeat' (first | with_reducible assumption | split | (intro _) | with_reducible apply ch_set | with_reducible apply ch_pistesUp | exact sub_trans hm (by decide) | with_reducible exact reg_of hm at_PST_PHY_SUMMARY (by decide))

theorem ch_swapReceivers {m : Nat} {s0 : Dev} (s : Dev) (k : Nat) (on : Bool)
    (hm : Within 0x1E980000000000000000000000000000000000000000000000000400800000800 m) (h0 : Changes m s0 s) :
    Changes m s0 (Dev.swapReceivers s k on) := by
  unfold Dev.swapReceivers
  try dsimp only
  repeat' (first | with_reducible assumption | split | (intro _) | with_reducible apply ch_showReceiver | with_reducible apply ch_modPhy | with_reducible apply ch_phySummary | with_reducible apply ch_setBit | exact sub_trans hm (by decide) | with_reducible exact reg_of hm at_PST_TWIN (by decide))

theorem ch_showStream {m : Nat} {s0 : Dev} (s : Dev) (p : Fin 8) (st : Nat)
    (hm : Within 0x806 m) (h0 : Changes m s0 s) :
    Changes m s0 (Dev.showStream s p st) := by
  unfold Dev.showStream
  try dsimp only
  repeat' (first | with_reducible assumption | split | (intro _) | with_reducible apply ch_modPhy | with_reducible apply ch_txBegin | with_reducible apply ch_emit | exact sub_trans hm (by decide))

theorem ch_setPhy {m : Nat} {s0 : Dev} (s : Dev) (p : Fin 8) (st : Nat)
    (hm : Within 0x14000000000000000000000000000000000000000000000000000000000000000000000008800000000000000000000000000000000000000000084072004008000009A6 m) (h0 : Changes m s0 s) :
    Changes m s0 (Dev.setPhy s p st) := by
  unfold Dev.setPhy
  try dsimp only
  repeat' (first | with_reducible assumption | split | (intro _) | with_reducible apply ch_set | with_reducible apply ch_modPhy | with_reducible apply ch_phySummary | with_reducible apply ch_showStream | with_reducible apply ch_txDrop | with_reducible apply ch_ledger | exact sub_trans hm (by decide) | with_reducible exact reg_of hm (at_PST_PHY_STATE _) (by decide))

theorem ch_startAttempt {m : Nat} {s0 : Dev} (s : Dev) (p : Fin 8)
    (hm : Within 0x140000000000000000000000000000000000000000000000000000000000000000000001E9800000000000000000000000000000000000000000084072004008000009A6 m) (h0 : Changes m s0 s) :
    Changes m s0 (Dev.startAttempt s p) := by
  unfold Dev.startAttempt
  try dsimp only
  repeat' (first | with_reducible assumption | split | (intro _) | with_reducible apply ch_setb | with_reducible apply ch_incSat | with_reducible apply ch_swapReceivers | with_reducible apply ch_setPhy | exact sub_trans hm (by decide) | with_reducible exact reg_of hm (at_PST_PHY_STATE _) (by decide))

theorem ch_firstAttempt {m : Nat} {s0 : Dev} (s : Dev) (p : Fin 8)
    (hm : Within 0x140000000000000000000000000000000000000000000000000000000000000000000001E9800000000000000000000000000000000000000000084072004008000009A6 m) (h0 : Changes m s0 s) :
    Changes m s0 (Dev.firstAttempt s p) := by
  unfold Dev.firstAttempt
  try dsimp only
  repeat' (first | with_reducible assumption | split | (intro _) | with_reducible apply ch_startAttempt | with_reducible apply ch_modPhy | exact sub_trans hm (by decide))

theorem ch_leaveDown {m : Nat} {s0 : Dev} (s : Dev) (p : Fin 8)
    (hm : Within 0x140000000000000140480000000000000F00000000000000000000000000000000000001E9800000000000000000000000000000000000000000084072004008000289A6 m) (h0 : Changes m s0 s) :
    Changes m s0 (Dev.leaveDown s p) := by
  unfold Dev.leaveDown
  try dsimp only
  repeat' (first | with_reducible assumption | split | (intro _) | with_reducible apply ch_firstAttempt | with_reducible apply ch_headsLoseTest | with_reducible apply ch_setPhy | exact sub_trans hm (by decide))

theorem ch_setLocked {m : Nat} {s0 : Dev} (s : Dev) (p : Nat) (b : Bool)
    (hm : Within 0x2880000000000000000000000000000000000000000000000000400800000800 m) (h0 : Changes m s0 s) :
    Changes m s0 (Dev.setLocked s p b) := by
  unfold Dev.setLocked
  try dsimp only
  repeat' (first | with_reducible assumption | split | (intro _) | with_reducible apply ch_when | with_reducible apply ch_setb | with_reducible apply ch_set | with_reducible apply ch_modPhy | with_reducible apply ch_phySummary | exact sub_trans hm (by decide) | with_reducible exact reg_of hm (at_PST_PHY_STATE _) (by decide) | with_reducible exact reg_of hm (at_PST_PHY_EQ _) (by decide))

theorem ch_relockTimeout {m : Nat} {s0 : Dev} (s : Dev) (p : Fin 8)
    (hm : Within 0x140000000000000000000000000000000000000000000000000000000000000000000001E9800000000000000000000000000000000000000000084072004008000009A7 m) (h0 : Changes m s0 s) :
    Changes m s0 (Dev.relockTimeout s p) := by
  unfold Dev.relockTimeout
  try dsimp only
  repeat' (first | with_reducible assumption | split | (intro _) | with_reducible apply ch_post | with_reducible apply ch_firstAttempt | with_reducible apply ch_reach | exact sub_trans hm (by decide))

theorem ch_effPisteRelockTimeout {m : Nat} {s0 : Dev} (p : Fin 8) (s : Dev)
    (hm : Within 0x140000000000000000000000000000000000000000000000000000000000000000000001E9800000000000000000000000000000000000000000084072004008000009A7 m) (h1 : Changes m s0 s) :
    Changes m s0 (effPisteRelockTimeout p s) := by
  unfold effPisteRelockTimeout
  try dsimp only
  repeat' (first | with_reducible assumption | split | (intro _) | with_reducible apply ch_relockTimeout | exact sub_trans hm (by decide))

theorem ch_pisteEnable {m : Nat} {s0 : Dev} (s : Dev) (p : Fin 8)
    (hm : Within 0x140000000000000140480000000000000F00000000000000000000000000000000000001ED800000000000000000000000000000000000000000084072004008000289A6 m) (h0 : Changes m s0 s) :
    Changes m s0 (Dev.pisteEnable s p) := by
  unfold Dev.pisteEnable
  try dsimp only
  repeat' (first | with_reducible assumption | split | (intro _) | with_reducible apply ch_set | with_reducible apply ch_setb | with_reducible apply ch_leaveDown | exact sub_trans hm (by decide) | with_reducible exact reg_of hm (at_PST_PHY_CTL _) (by decide) | with_reducible exact reg_of hm (at_PST_PHY_STATE _) (by decide))

theorem ch_effPisteEnable {m : Nat} {s0 : Dev} (p : Fin 8) (s : Dev)
    (hm : Within 0x140000000000000140480000000000000F00000000000000000000000000000000000001ED800000000000000000000000000000000000000000084072004008000289A6 m) (h1 : Changes m s0 s) :
    Changes m s0 (effPisteEnable p s) := by
  unfold effPisteEnable
  try dsimp only
  repeat' (first | with_reducible assumption | split | (intro _) | with_reducible apply ch_answer | with_reducible apply ch_pisteEnable | exact sub_trans hm (by decide))

theorem ch_pisteUp {m : Nat} {s0 : Dev} (s : Dev) (p : Fin 8)
    (hm : Within 0x14000000000000000000000000000000000000000000000000000000000000000000000008800000000000000000000000000000000000000000084072004008000009A6 m) (h0 : Changes m s0 s) :
    Changes m s0 (Dev.pisteUp s p) := by
  unfold Dev.pisteUp
  try dsimp only
  repeat' (first | with_reducible assumption | split | (intro _) | with_reducible apply ch_modTime | with_reducible apply ch_setPhy | exact sub_trans hm (by decide))

theorem ch_rxLock {m : Nat} {s0 : Dev} (s : Dev) (p : Fin 8)
    (hm : Within 0x14000000000000000000000000000000000000000000000000000000000000000000000028800000000000000000000000000000000000000000084072004008000009A6 m) (h0 : Changes m s0 s) :
    Changes m s0 (Dev.rxLock s p) := by
  unfold Dev.rxLock
  try dsimp only
  repeat' (first | with_reducible assumption | split | (intro _) | with_reducible apply ch_modPhy | with_reducible apply ch_setLocked | with_reducible apply ch_post | with_reducible apply ch_pisteUp | exact sub_trans hm (by decide))

theorem ch_modPort {m : Nat} {s0 : Dev} (s : Dev) (i : Fin 128) (odd : Bool) (f : NodePort → NodePort)
    (hm : Within 0x800 m) (h0 : Changes m s0 s) :
    Changes m s0 (Dev.modPort s i odd f) := by
  unfold Dev.modPort
  try dsimp only
  repeat' (first | with_reducible assumption | split | (intro _) | with_reducible apply ch_modNode | exact sub_trans hm (by decide))

theorem ch_nodeAligned {m : Nat} {s0 : Dev} (s : Dev) (i : Fin 128) (odd : Bool)
    (hm : Within 0x800 m) (h0 : Changes m s0 s) :
    Changes m s0 (Dev.nodeAligned s i odd) := by
  unfold Dev.nodeAligned
  try dsimp only
  repeat' (first | with_reducible assumption | split | (intro _) | with_reducible apply ch_modPort | exact sub_trans hm (by decide))

theorem ch_receiverLock {m : Nat} {s0 : Dev} (s : Dev) (a1 : Receiver)
    (hm : Within 0x14000000000000000000000000000000000000000000000000000000000000000000000028800000000000000000000000000000000000000000084072004008000009A6 m) (h0 : Changes m s0 s) :
    Changes m s0 (Dev.receiverLock s a1) := by
  unfold Dev.receiverLock
  try dsimp only
  repeat' (first | with_reducible assumption | split | (intro _) | with_reducible apply ch_rxLock | with_reducible apply ch_nodeAligned | exact sub_trans hm (by decide))

theorem ch_effRxLock {m : Nat} {s0 : Dev} (r : Receiver) (s : Dev)
    (hm : Within 0x14000000000000000000000000000000000000000000000000000000000000000000000028800000000000000000000000000000000000000000084072004008000009A6 m) (h1 : Changes m s0 s) :
    Changes m s0 (effRxLock r s) := by
  unfold effRxLock
  try dsimp only
  repeat' (first | with_reducible assumption | split | (intro _) | with_reducible apply ch_receiverLock | exact sub_trans hm (by decide))

theorem ch_failedRetry {m : Nat} {s0 : Dev} (s : Dev) (p : Fin 8)
    (hm : Within 0x140000000000000000000000000000000000000000000000000000000000000000000001E9800000000000000000000000000000000000000000084072004008000009A7 m) (h0 : Changes m s0 s) :
    Changes m s0 (Dev.failedRetry s p) := by
  unfold Dev.failedRetry
  try dsimp only
  repeat' (first | with_reducible assumption | split | (intro _) | with_reducible apply ch_startAttempt | with_reducible apply ch_reach | exact sub_trans hm (by decide))

theorem ch_pisteDisable {m : Nat} {s0 : Dev} (s : Dev) (p : Fin 8)
    (hm : Within 0x1400000000000001404800000000000000000000000000000000000000000000000000000E800000000000000000000000000000000000000000084072004008000089A6 m) (h0 : Changes m s0 s) :
    Changes m s0 (Dev.pisteDisable s p).1 := by
  unfold Dev.pisteDisable
  try dsimp only
  repeat' (first | with_reducible assumption | split | (intro _) | with_reducible apply ch_when | with_reducible apply ch_incSat | with_reducible apply ch_setb | with_reducible apply ch_modPhy | with_reducible apply ch_setPhy | with_reducible apply ch_headsLeaveTest | exact sub_trans hm (by decide) | with_reducible exact reg_of hm at_PST_PHY_REJECT_CNT (by decide) | with_reducible exact reg_of hm (at_PST_PHY_CTL _) (by decide))

theorem ch_windowEnd {m : Nat} {s0 : Dev} (s : Dev) (p : Fin 8) (k : Nat)
    (hm : Within 0x801 m) (h0 : Changes m s0 s) :
    Changes m s0 (Dev.windowEnd s p k) := by
  unfold Dev.windowEnd
  try dsimp only
  repeat' (first | with_reducible assumption | split | (intro _) | with_reducible apply ch_modPort | with_reducible apply ch_reach | with_reducible apply ch_modPhy | exact sub_trans hm (by decide))

theorem ch_echoEnd {m : Nat} {s0 : Dev} (s : Dev) (p : Fin 8) (w : EchoEnd)
    (hm : Within 0x30000000000000000000000000000000000000000000000000000000000801 m) (h0 : Changes m s0 s) :
    Changes m s0 (Dev.echoEnd s p w) := by
  unfold Dev.echoEnd
  try dsimp only
  repeat' (first | with_reducible assumption | split | (intro _) | with_reducible apply ch_set | with_reducible apply ch_windowEnd | with_reducible apply ch_modTime | with_reducible apply ch_setBit | with_reducible apply ch_modPort | exact sub_trans hm (by decide) | with_reducible exact reg_of hm (at_PST_CEN_TIME _) (by decide) | with_reducible exact reg_of hm (at_PST_CEN_LINK1 _) (by decide))

theorem ch_effEchoComplete {m : Nat} {s0 : Dev} (p : Fin 8) (window : EchoEnd) (s : Dev)
    (hm : Within 0x30000000000000000000000000000000000000000000000000000000000801 m) (h2 : Changes m s0 s) :
    Changes m s0 (effEchoComplete p window s) := by
  unfold effEchoComplete
  try dsimp only
  repeat' (first | with_reducible assumption | split | (intro _) | with_reducible apply ch_echoEnd | exact sub_trans hm (by decide))

theorem ch_lmsStep {m : Nat} {s0 : Dev} (s : Dev) (p : Fin 8) (err : Bool) (past : BitVec 5)
    (hm : Within 0x4000000000000000000000000000000000000000000000000000000000000000 m) (h0 : Changes m s0 s) :
    Changes m s0 (Dev.lmsStep s p err past) := by
  unfold Dev.lmsStep
  try dsimp only
  repeat' (first | with_reducible assumption | split | (intro _) | with_reducible apply ch_forEach | with_reducible apply ch_seti | with_reducible exact reg_of hm (at_PST_PHY_DFE _) (by decide))

theorem ch_effDfeLmsStep {m : Nat} {s0 : Dev} (p : Fin 8) (err : Bool) (past : BitVec 5) (s : Dev)
    (hm : Within 0x4000000000000000000000000000000000000000000000000000000000000000 m) (h3 : Changes m s0 s) :
    Changes m s0 (effDfeLmsStep p err past s) := by
  unfold effDfeLmsStep
  try dsimp only
  repeat' (first | with_reducible assumption | split | (intro _) | with_reducible apply ch_lmsStep | exact sub_trans hm (by decide))

theorem ch_enterAdapt {m : Nat} {s0 : Dev} (s : Dev) (p : Fin 8)
    (hm : Within 0x14000000000000000000000000000000000000000000000000000000000000000000000068800000000000000000000000000000000000000000084072004008000009A6 m) (h0 : Changes m s0 s) :
    Changes m s0 (Dev.enterAdapt s p) := by
  unfold Dev.enterAdapt
  try dsimp only
  repeat' (first | with_reducible assumption | split | (intro _) | with_reducible apply ch_wr | with_reducible apply ch_set | with_reducible apply ch_setPhy | exact sub_trans hm (by decide) | with_reducible exact reg_of hm (at_PST_PHY_EQ _) (by decide) | with_reducible exact reg_of hm (at_PST_PHY_DFE _) (by decide))

theorem ch_trainDone {m : Nat} {s0 : Dev} (s : Dev) (p : Fin 8) (o : Fin 8) (r : Option (Fin 8))
    (hm : Within 0x140000000000000000000000000000000000000000000000000000000000000000000001E9800000000000000000000000000000000000000000084072004008000009A6 m) (h0 : Changes m s0 s) :
    Changes m s0 (Dev.trainDone s p o r) := by
  unfold Dev.trainDone
  try dsimp only
  repeat' (first | with_reducible assumption | split | (intro _) | with_reducible apply ch_enterAdapt | with_reducible apply ch_post | with_reducible apply ch_swapReceivers | exact sub_trans hm (by decide))

theorem ch_effPisteTrainDone {m : Nat} {s0 : Dev} (p : Fin 8) (origin : Fin 8) (partnerOrigin : Option (Fin 8)) (s : Dev)
    (hm : Within 0x140000000000000000000000000000000000000000000000000000000000000000000001E9800000000000000000000000000000000000000000084072004008000009A6 m) (h3 : Changes m s0 s) :
    Changes m s0 (effPisteTrainDone p origin partnerOrigin s) := by
  unfold effPisteTrainDone
  try dsimp only
  repeat' (first | with_reducible assumption | split | (intro _) | with_reducible apply ch_trainDone | exact sub_trans hm (by decide))

theorem ch_eqTrial {m : Nat} {s0 : Dev} (s : Dev) (p : Fin 8) (up : Nat) (down : Nat)
    (hm : Within 0x2000000000000000000000000000000000000000000000000000000000000041 m) (h0 : Changes m s0 s) :
    Changes m s0 (Dev.eqTrial s p up down) := by
  unfold Dev.eqTrial
  try dsimp only
  repeat' (first | with_reducible assumption | split | (intro _) | with_reducible apply ch_set | with_reducible apply ch_tick | exact sub_trans hm (by decide) | with_reducible exact reg_of hm (at_PST_PHY_EQ _) (by decide))

theorem ch_effEqTrial {m : Nat} {s0 : Dev} (p : Fin 8) (eyeUp : Nat) (ampUp : Nat) (eyeDn : Nat) (ampDn : Nat) (s : Dev)
    (hm : Within 0x2000000000000000000000000000000000000000000000000000000000000041 m) (h5 : Changes m s0 s) :
    Changes m s0 (effEqTrial p eyeUp ampUp eyeDn ampDn s) := by
  unfold effEqTrial
  try dsimp only
  repeat' (first | with_reducible assumption | split | (intro _) | with_reducible apply ch_eqTrial | exact sub_trans hm (by decide))

theorem ch_showFom {m : Nat} {s0 : Dev} (s : Dev) (p : Nat) (f : Nat)
    (hm : Within 0x2000000000000000000000000000000000000000000000000000000000000000 m) (h0 : Changes m s0 s) :
    Changes m s0 (Dev.showFom s p f) := by
  unfold Dev.showFom
  try dsimp only
  repeat' (first | with_reducible assumption | split | (intro _) | with_reducible apply ch_set | with_reducible exact reg_of hm (at_PST_PHY_EQ _) (by decide))

theorem ch_attemptFail {m : Nat} {s0 : Dev} (s : Dev) (p : Fin 8) (cause : Nat)
    (hm : Within 0x140000000000000000000000000000000000000000000000000000000000000000000001E9800000000000000000000000000000000000000000084072004008000009A6 m) (h0 : Changes m s0 s) :
    Changes m s0 (Dev.attemptFail s p cause) := by
  unfold Dev.attemptFail
  try dsimp only
  repeat' (first | with_reducible assumption | split | (intro _) | with_reducible apply ch_when | with_reducible apply ch_set | with_reducible apply ch_modPhy | with_reducible apply ch_startAttempt | with_reducible apply ch_setPhy | with_reducible apply ch_post | exact sub_trans hm (by decide) | with_reducible exact reg_of hm (at_PST_PHY_STATE _) (by decide))

theorem ch_adaptDone {m : Nat} {s0 : Dev} (s : Dev) (p : Fin 8) (eye : Nat) (amp : Nat)
    (hm : Within 0x140000000000000000000000000000000000000000000000000000000000000000000001E9800000000000000000000000000000000000000000084072004008000009A7 m) (h0 : Changes m s0 s) :
    Changes m s0 (Dev.adaptDone s p eye amp) := by
  unfold Dev.adaptDone
  try dsimp only
  repeat' (first | with_reducible assumption | split | (intro _) | with_reducible apply ch_when | with_reducible apply ch_reach | with_reducible apply ch_showFom | with_reducible apply ch_attemptFail | with_reducible apply ch_post | with_reducible apply ch_modPhy | with_reducible apply ch_setPhy | exact sub_trans hm (by decide))

theorem ch_effPisteDisable {m : Nat} {s0 : Dev} (p : Fin 8) (s : Dev)
    (hm : Within 0x1400000000000001404800000000000000000000000000000000000000000000000000000E800000000000000000000000000000000000000000084072004008000089A6 m) (h1 : Changes m s0 s) :
    Changes m s0 (effPisteDisable p s) := by
  unfold effPisteDisable
  try dsimp only
  repeat' (first | with_reducible assumption | split | (intro _) | with_reducible apply ch_pisteDisable | with_reducible apply ch_answer | exact sub_trans hm (by decide))

theorem ch_fomWatch {m : Nat} {s0 : Dev} (s : Dev) (p : Fin 8) (f : Nat)
    (hm : Within 0x14000000000000000000000000000000000000000000000000000000000000000000000000000000000000000000000000000000000000000000084072000000000009A4 m) (h0 : Changes m s0 s) :
    Changes m s0 (Dev.fomWatch s p f) := by
  unfold Dev.fomWatch
  try dsimp only
  repeat' (first | with_reducible assumption | split | (intro _) | with_reducible apply ch_post | with_reducible apply ch_modPhy | exact sub_trans hm (by decide))

theorem ch_verifyDone {m : Nat} {s0 : Dev} (s : Dev) (p : Fin 8) (clean : Bool)
    (hm : Within 0x140000000000000000000000000000000000000000000000000000000000000000000001E9800000000000000000000000000000000000000000084072004008000009A7 m) (h0 : Changes m s0 s) :
    Changes m s0 (Dev.verifyDone s p clean) := by
  unfold Dev.verifyDone
  try dsimp only
  repeat' (first | with_reducible assumption | split | (intro _) | with_reducible apply ch_set | with_reducible apply ch_attemptFail | with_reducible apply ch_reach | with_reducible apply ch_modPhy | with_reducible apply ch_post | with_reducible apply ch_pisteUp | exact sub_trans hm (by decide) | with_reducible exact reg_of hm (at_PST_PHY_STATE _) (by decide))

theorem ch_effPisteVerifyDone {m : Nat} {s0 : Dev} (p : Fin 8) (clean : Bool) (s : Dev)
    (hm : Within 0x140000000000000000000000000000000000000000000000000000000000000000000001E9800000000000000000000000000000000000000000084072004008000009A7 m) (h2 : Changes m s0 s) :
    Changes m s0 (effPisteVerifyDone p clean s) := by
  unfold effPisteVerifyDone
  try dsimp only
  repeat' (first | with_reducible assumption | split | (intro _) | with_reducible apply ch_verifyDone | exact sub_trans hm (by decide))

theorem ch_sweepStep {m : Nat} {s0 : Dev} (s : Dev) (p : Fin 8) (eye : Nat) (amp : Nat)
    (hm : Within 0x2000000000000000000000000000000000000000000000000000000000000801 m) (h0 : Changes m s0 s) :
    Changes m s0 (Dev.sweepStep s p eye amp) := by
  unfold Dev.sweepStep
  try dsimp only
  repeat' (first | with_reducible assumption | split | (intro _) | with_reducible apply ch_set | with_reducible apply ch_modPhy | with_reducible apply ch_reach | exact sub_trans hm (by decide) | with_reducible exact reg_of hm (at_PST_PHY_EQ _) (by decide))

theorem ch_rxLockLoss {m : Nat} {s0 : Dev} (s : Dev) (p : Fin 8)
    (hm : Within 0x140000000000000000000000000000000000000000000000000000000000000000000001E9800000000000000000000000000000000000000000084072004008000009A6 m) (h0 : Changes m s0 s) :
    Changes m s0 (Dev.rxLockLoss s p) := by
  unfold Dev.rxLockLoss
  try dsimp only
  repeat' (first | with_reducible assumption | split | (intro _) | with_reducible apply ch_when | with_reducible apply ch_incSat | with_reducible apply ch_modPhy | with_reducible apply ch_setLocked | with_reducible apply ch_setPhy | with_reducible apply ch_attemptFail | exact sub_trans hm (by decide) | with_reducible exact reg_of hm (at_PST_PHY_LOCKLOSS _) (by decide))

theorem ch_rxInvert {m : Nat} {s0 : Dev} (s : Dev) (p : Fin 8)
    (hm : Within 0x140000000000000000000000000000000000000000000000000000000000000000000001E9800000000000000000000000000000000000000000084072004008000009A6 m) (h0 : Changes m s0 s) :
    Changes m s0 (Dev.rxInvert s p) := by
  unfold Dev.rxInvert
  try dsimp only
  repeat' (first | with_reducible assumption | split | (intro _) | with_reducible apply ch_setb | with_reducible apply ch_post | with_reducible apply ch_rxLockLoss | exact sub_trans hm (by decide) | with_reducible exact reg_of hm (at_PST_PHY_STATE _) (by decide))

theorem ch_nodeUnaligned {m : Nat} {s0 : Dev} (s : Dev) (i : Fin 128) (odd : Bool) (signal : Bool)
    (hm : Within 0x804 m) (h0 : Changes m s0 s) :
    Changes m s0 (Dev.nodeUnaligned s i odd signal) := by
  unfold Dev.nodeUnaligned
  try dsimp only
  repeat' (first | with_reducible assumption | split | (intro _) | with_reducible apply ch_modPort | with_reducible apply ch_modNode | with_reducible apply ch_emit | exact sub_trans hm (by decide))

theorem ch_receiverInvert {m : Nat} {s0 : Dev} (s : Dev) (a1 : Receiver)
    (hm : Within 0x140000000000000000000000000000000000000000000000000000000000000000000001E9800000000000000000000000000000000000000000084072004008000009A6 m) (h0 : Changes m s0 s) :
    Changes m s0 (Dev.receiverInvert s a1) := by
  unfold Dev.receiverInvert
  try dsimp only
  repeat' (first | with_reducible assumption | split | (intro _) | with_reducible apply ch_rxInvert | with_reducible apply ch_nodeUnaligned | with_reducible apply ch_modPort | exact sub_trans hm (by decide))

theorem ch_effRxInversionDetected {m : Nat} {s0 : Dev} (r : Receiver) (s : Dev)
    (hm : Within 0x140000000000000000000000000000000000000000000000000000000000000000000001E9800000000000000000000000000000000000000000084072004008000009A6 m) (h1 : Changes m s0 s) :
    Changes m s0 (effRxInversionDetected r s) := by
  unfold effRxInversionDetected
  try dsimp only
  repeat' (first | with_reducible assumption | split | (intro _) | with_reducible apply ch_receiverInvert | exact sub_trans hm (by decide))

theorem ch_trainTimeout {m : Nat} {s0 : Dev} (s : Dev) (p : Fin 8) (o : Option (Fin 8))
    (hm : Within 0x140000000000000000000000000000000000000000000000000000000000000000000001E9800000000000000000000000000000000000000000084072004008000009A7 m) (h0 : Changes m s0 s) :
    Changes m s0 (Dev.trainTimeout s p o) := by
  unfold Dev.trainTimeout
  try dsimp only
  repeat' (first | with_reducible assumption | split | (intro _) | with_reducible apply ch_reach | with_reducible apply ch_attemptFail | exact sub_trans hm (by decide))

theorem ch_effPisteTrainTimeout {m : Nat} {s0 : Dev} (p : Fin 8) (origin : Option (Fin 8)) (s : Dev)
    (hm : Within 0x140000000000000000000000000000000000000000000000000000000000000000000001E9800000000000000000000000000000000000000000084072004008000009A7 m) (h2 : Changes m s0 s) :
    Changes m s0 (effPisteTrainTimeout p origin s) := by
  unfold effPisteTrainTimeout
  try dsimp only
  repeat' (first | with_reducible assumption | split | (intro _) | with_reducible apply ch_trainTimeout | exact sub_trans hm (by decide))

theorem ch_effRxLockLoss {m : Nat} {s0 : Dev} (p : Fin 8) (s : Dev)
    (hm : Within 0x140000000000000000000000000000000000000000000000000000000000000000000001E9800000000000000000000000000000000000000000084072004008000009A6 m) (h1 : Changes m s0 s) :
    Changes m s0 (effRxLockLoss p s) := by
  unfold effRxLockLoss
  try dsimp only
  repeat' (first | with_reducible assumption | split | (intro _) | with_reducible apply ch_rxLockLoss | exact sub_trans hm (by decide))

theorem ch_effCtleSweepStep {m : Nat} {s0 : Dev} (p : Fin 8) (eye : Nat) (amp : Nat) (s : Dev)
    (hm : Within 0x2000000000000000000000000000000000000000000000000000000000000801 m) (h3 : Changes m s0 s) :
    Changes m s0 (effCtleSweepStep p eye amp s) := by
  unfold effCtleSweepStep
  try dsimp only
  repeat' (first | with_reducible assumption | split | (intro _) | with_reducible apply ch_sweepStep | exact sub_trans hm (by decide))

theorem ch_effPisteFailedRetry {m : Nat} {s0 : Dev} (p : Fin 8) (s : Dev)
    (hm : Within 0x140000000000000000000000000000000000000000000000000000000000000000000001E9800000000000000000000000000000000000000000084072004008000009A7 m) (h1 : Changes m s0 s) :
    Changes m s0 (effPisteFailedRetry p s) := by
  unfold effPisteFailedRetry
  try dsimp only
  repeat' (first | with_reducible assumption | split | (intro _) | with_reducible apply ch_failedRetry | exact sub_trans hm (by decide))

theorem ch_pisteRestart {m : Nat} {s0 : Dev} (s : Dev) (p : Fin 8)
    (hm : Within 0x140000000000000000000000000000000000000000000000000000000000000000000001EB800000000000000000000000000000000000000000084072004008000009A6 m) (h0 : Changes m s0 s) :
    Changes m s0 (Dev.pisteRestart s p).1 := by
  unfold Dev.pisteRestart
  try dsimp only
  repeat' (first | with_reducible assumption | split | (intro _) | with_reducible apply ch_incSat | with_reducible apply ch_set | with_reducible apply ch_firstAttempt | exact sub_trans hm (by decide) | with_reducible exact reg_of hm at_PST_PHY_REJECT_CNT (by decide) | with_reducible exact reg_of hm (at_PST_PHY_STATE _) (by decide))

theorem ch_prbsClear {m : Nat} {s0 : Dev} (s : Dev) (p : Fin 8)
    (hm : Within 0x20000000000000000000000000000000000000000000000000000000000000800 m) (h0 : Changes m s0 s) :
    Changes m s0 (Dev.prbsClear s p) := by
  unfold Dev.prbsClear
  try dsimp only
  repeat' (first | with_reducible assumption | split | (intro _) | with_reducible apply ch_wr | with_reducible apply ch_modPhy | exact sub_trans hm (by decide) | with_reducible exact reg_of hm (at_PST_PHY_PRBS _) (by decide))

theorem ch_effPisteRestart {m : Nat} {s0 : Dev} (p : Fin 8) (s : Dev)
    (hm : Within 0x140000000000000000000000000000000000000000000000000000000000000000000001EB800000000000000000000000000000000000000000084072004008000009A6 m) (h1 : Changes m s0 s) :
    Changes m s0 (effPisteRestart p s) := by
  unfold effPisteRestart
  try dsimp only
  repeat' (first | with_reducible assumption | split | (intro _) | with_reducible apply ch_pisteRestart | with_reducible apply ch_answer | exact sub_trans hm (by decide))

theorem ch_prbsShow {m : Nat} {s0 : Dev} (s : Dev) (p : Fin 8) (prbs : List Nat)
    (hm : Within 0x20000000000000000000000000000000000000000000000000000000000000800 m) (h0 : Changes m s0 s) :
    Changes m s0 (Dev.prbsShow s p prbs) := by
  unfold Dev.prbsShow
  try dsimp only
  repeat' (first | with_reducible assumption | split | (intro _) | with_reducible apply ch_incSat | with_reducible apply ch_setb | with_reducible apply ch_modPhy | exact sub_trans hm (by decide) | with_reducible exact reg_of hm (at_PST_PHY_PRBS _) (by decide))

theorem ch_fomUpdate {m : Nat} {s0 : Dev} (s : Dev) (p : Fin 8) (eye : Nat) (amp : Nat) (invalid : Nat) (prbs : List Nat) (signal : Bool)
    (hm : Within 0x140000000000000000000000000000000000000000000000000000000000000000000002A8000000000000000000000000000000000000000000084072000000000009A4 m) (h0 : Changes m s0 s) :
    Changes m s0 (Dev.fomUpdate s p eye amp invalid prbs signal) := by
  unfold Dev.fomUpdate
  try dsimp only
  repeat' (first | with_reducible assumption | split | (intro _) | with_reducible apply ch_bump | with_reducible apply ch_setb | with_reducible apply ch_fomWatch | with_reducible apply ch_prbsShow | with_reducible apply ch_showFom | exact sub_trans hm (by decide) | with_reducible exact reg_of hm (at_PST_PHY_STATE _) (by decide) | with_reducible exact reg_of hm (at_PST_PHY_BLKERR _) (by decide))

theorem ch_effPisteAdaptDone {m : Nat} {s0 : Dev} (p : Fin 8) (eye : Nat) (amp : Nat) (s : Dev)
    (hm : Within 0x140000000000000000000000000000000000000000000000000000000000000000000001E9800000000000000000000000000000000000000000084072004008000009A7 m) (h3 : Changes m s0 s) :
    Changes m s0 (effPisteAdaptDone p eye amp s) := by
  unfold effPisteAdaptDone
  try dsimp only
  repeat' (first | with_reducible assumption | split | (intro _) | with_reducible apply ch_adaptDone | exact sub_trans hm (by decide))

theorem ch_effFomUpdate {m : Nat} {s0 : Dev} (p : Fin 8) (eye : Nat) (amp : Nat) (invalid : Nat) (prbs : List Nat) (signal : Bool) (s : Dev)
    (hm : Within 0x140000000000000000000000000000000000000000000000000000000000000000000002A8000000000000000000000000000000000000000000084072000000000009A4 m) (h6 : Changes m s0 s) :
    Changes m s0 (effFomUpdate p eye amp invalid prbs signal s) := by
  unfold effFomUpdate
  try dsimp only
  repeat' (first | with_reducible assumption | split | (intro _) | with_reducible apply ch_fomUpdate | exact sub_trans hm (by decide))

theorem ch_execRxLock {m : Nat} {r : Receiver} {s t : State} (hm : Within 0x14000000000000000000000000000000000000000000000000000000000000000000000028800000000000000000000000000000000000000000084072004008000009A6 m)
    (h : execRxLock r s = .next t) : t.pending = s.pending ∧ Changes m s.dev t.dev := by
  unfold execRxLock at h
  split at h
  all_goals first | refine of_onRun h (bit_of hm (by decide)) (fun d hd => ?_) | refine of_onDev h (bit_of hm (by decide)) (fun d hd => ?_)
  all_goals try dsimp only
  all_goals repeat' (first | with_reducible assumption | split | (intro _) | with_reducible apply ch_effRxLock | exact sub_trans hm (by decide))

theorem ch_execPisteRelockTimeout {m : Nat} {p : Fin 8} {s t : State} (hm : Within 0x140000000000000000000000000000000000000000000000000000000000000000000001E9800000000000000000000000000000000000000000084072004008000009A7 m)
    (h : execPisteRelockTimeout p s = .next t) : t.pending = s.pending ∧ Changes m s.dev t.dev := by
  unfold execPisteRelockTimeout at h
  refine of_onRun h (bit_of hm (by decide)) (fun d hd => ?_)
  try dsimp only
  repeat' (first | with_reducible assumption | split | (intro _) | with_reducible apply ch_effPisteRelockTimeout | exact sub_trans hm (by decide))

theorem ch_execDfeLmsStep {m : Nat} {p : Fin 8} {err : Bool} {past : BitVec 5} {s t : State} (hm : Within 0x4000000000000000000000000000000000000000000000000000000000000004 m)
    (h : execDfeLmsStep p err past s = .next t) : t.pending = s.pending ∧ Changes m s.dev t.dev := by
  unfold execDfeLmsStep at h
  refine of_onRun h (bit_of hm (by decide)) (fun d hd => ?_)
  try dsimp only
  repeat' (first | with_reducible assumption | split | (intro _) | with_reducible apply ch_effDfeLmsStep | exact sub_trans hm (by decide))

theorem ch_execPisteDisable {m : Nat} {p : Fin 8} {s t : State} (hm : Within 0x1400000000000001404800000000000000000000000000000000000000000000000000000E800000000000000000000000000000000000000000084072004008000089A6 m)
    (h : execPisteDisable p s = .next t) : t.pending = s.pending ∧ Changes m s.dev t.dev := by
  unfold execPisteDisable at h
  refine of_onReg h (bit_of hm (by decide)) (fun d hd => ?_)
  try dsimp only
  repeat' (first | with_reducible assumption | split | (intro _) | with_reducible apply ch_effPisteDisable | exact sub_trans hm (by decide))

theorem ch_execRxInversionDetected {m : Nat} {r : Receiver} {s t : State} (hm : Within 0x140000000000000000000000000000000000000000000000000000000000000000000001E9800000000000000000000000000000000000000000084072004008000009A6 m)
    (h : execRxInversionDetected r s = .next t) : t.pending = s.pending ∧ Changes m s.dev t.dev := by
  unfold execRxInversionDetected at h
  split at h
  all_goals first | refine of_onRun h (bit_of hm (by decide)) (fun d hd => ?_) | refine of_onDev h (bit_of hm (by decide)) (fun d hd => ?_)
  all_goals try dsimp only
  all_goals repeat' (first | with_reducible assumption | split | (intro _) | with_reducible apply ch_effRxInversionDetected | exact sub_trans hm (by decide))

theorem ch_execPisteTrainDone {m : Nat} {p : Fin 8} {origin : Fin 8} {partnerOrigin : Option (Fin 8)} {s t : State} (hm : Within 0x140000000000000000000000000000000000000000000000000000000000000000000001E9800000000000000000000000000000000000000000084072004008000009A6 m)
    (h : execPisteTrainDone p origin partnerOrigin s = .next t) : t.pending = s.pending ∧ Changes m s.dev t.dev := by
  unfold execPisteTrainDone at h
  refine of_onRun h (bit_of hm (by decide)) (fun d hd => ?_)
  try dsimp only
  repeat' (first | with_reducible assumption | split | (intro _) | with_reducible apply ch_effPisteTrainDone | exact sub_trans hm (by decide))

theorem ch_execEchoComplete {m : Nat} {p : Fin 8} {window : EchoEnd} {s t : State} (hm : Within 0x30000000000000000000000000000000000000000000000000000000000805 m)
    (h : execEchoComplete p window s = .next t) : t.pending = s.pending ∧ Changes m s.dev t.dev := by
  unfold execEchoComplete at h
  refine of_onRun h (bit_of hm (by decide)) (fun d hd => ?_)
  try dsimp only
  repeat' (first | with_reducible assumption | split | (intro _) | with_reducible apply ch_effEchoComplete | exact sub_trans hm (by decide))

theorem ch_execPisteFailedRetry {m : Nat} {p : Fin 8} {s t : State} (hm : Within 0x140000000000000000000000000000000000000000000000000000000000000000000001E9800000000000000000000000000000000000000000084072004008000009A7 m)
    (h : execPisteFailedRetry p s = .next t) : t.pending = s.pending ∧ Changes m s.dev t.dev := by
  unfold execPisteFailedRetry at h
  refine of_onRun h (bit_of hm (by decide)) (fun d hd => ?_)
  try dsimp only
  repeat' (first | with_reducible assumption | split | (intro _) | with_reducible apply ch_effPisteFailedRetry | exact sub_trans hm (by decide))

theorem ch_execPisteVerifyDone {m : Nat} {p : Fin 8} {clean : Bool} {s t : State} (hm : Within 0x140000000000000000000000000000000000000000000000000000000000000000000001E9800000000000000000000000000000000000000000084072004008000009A7 m)
    (h : execPisteVerifyDone p clean s = .next t) : t.pending = s.pending ∧ Changes m s.dev t.dev := by
  unfold execPisteVerifyDone at h
  refine of_onRun h (bit_of hm (by decide)) (fun d hd => ?_)
  try dsimp only
  repeat' (first | with_reducible assumption | split | (intro _) | with_reducible apply ch_effPisteVerifyDone | exact sub_trans hm (by decide))

theorem ch_execPisteRestart {m : Nat} {p : Fin 8} {s t : State} (hm : Within 0x140000000000000000000000000000000000000000000000000000000000000000000001EB800000000000000000000000000000000000000000084072004008000009A6 m)
    (h : execPisteRestart p s = .next t) : t.pending = s.pending ∧ Changes m s.dev t.dev := by
  unfold execPisteRestart at h
  refine of_onReg h (bit_of hm (by decide)) (fun d hd => ?_)
  try dsimp only
  repeat' (first | with_reducible assumption | split | (intro _) | with_reducible apply ch_effPisteRestart | exact sub_trans hm (by decide))

theorem ch_execPisteEnable {m : Nat} {p : Fin 8} {s t : State} (hm : Within 0x140000000000000140480000000000000F00000000000000000000000000000000000001ED800000000000000000000000000000000000000000084072004008000289A6 m)
    (h : execPisteEnable p s = .next t) : t.pending = s.pending ∧ Changes m s.dev t.dev := by
  unfold execPisteEnable at h
  refine of_onReg h (bit_of hm (by decide)) (fun d hd => ?_)
  try dsimp only
  repeat' (first | with_reducible assumption | split | (intro _) | with_reducible apply ch_effPisteEnable | exact sub_trans hm (by decide))

theorem ch_execPisteAdaptDone {m : Nat} {p : Fin 8} {eye : Nat} {amp : Nat} {s t : State} (hm : Within 0x140000000000000000000000000000000000000000000000000000000000000000000001E9800000000000000000000000000000000000000000084072004008000009A7 m)
    (h : execPisteAdaptDone p eye amp s = .next t) : t.pending = s.pending ∧ Changes m s.dev t.dev := by
  unfold execPisteAdaptDone at h
  refine of_onRun h (bit_of hm (by decide)) (fun d hd => ?_)
  try dsimp only
  repeat' (first | with_reducible assumption | split | (intro _) | with_reducible apply ch_effPisteAdaptDone | exact sub_trans hm (by decide))

theorem ch_execFomUpdate {m : Nat} {p : Fin 8} {eye : Nat} {amp : Nat} {invalid : Nat} {prbs : List Nat} {signal : Bool} {s t : State} (hm : Within 0x140000000000000000000000000000000000000000000000000000000000000000000002A8000000000000000000000000000000000000000000084072000000000009A4 m)
    (h : execFomUpdate p eye amp invalid prbs signal s = .next t) : t.pending = s.pending ∧ Changes m s.dev t.dev := by
  unfold execFomUpdate at h
  refine of_onRun h (bit_of hm (by decide)) (fun d hd => ?_)
  try dsimp only
  repeat' (first | with_reducible assumption | split | (intro _) | with_reducible apply ch_effFomUpdate | exact sub_trans hm (by decide))

theorem ch_execEqTrial {m : Nat} {p : Fin 8} {eyeUp : Nat} {ampUp : Nat} {eyeDn : Nat} {ampDn : Nat} {s t : State} (hm : Within 0x2000000000000000000000000000000000000000000000000000000000000045 m)
    (h : execEqTrial p eyeUp ampUp eyeDn ampDn s = .next t) : t.pending = s.pending ∧ Changes m s.dev t.dev := by
  unfold execEqTrial at h
  refine of_onRun h (bit_of hm (by decide)) (fun d hd => ?_)
  try dsimp only
  repeat' (first | with_reducible assumption | split | (intro _) | with_reducible apply ch_effEqTrial | exact sub_trans hm (by decide))

theorem ch_execPisteTrainTimeout {m : Nat} {p : Fin 8} {origin : Option (Fin 8)} {s t : State} (hm : Within 0x140000000000000000000000000000000000000000000000000000000000000000000001E9800000000000000000000000000000000000000000084072004008000009A7 m)
    (h : execPisteTrainTimeout p origin s = .next t) : t.pending = s.pending ∧ Changes m s.dev t.dev := by
  unfold execPisteTrainTimeout at h
  refine of_onRun h (bit_of hm (by decide)) (fun d hd => ?_)
  try dsimp only
  repeat' (first | with_reducible assumption | split | (intro _) | with_reducible apply ch_effPisteTrainTimeout | exact sub_trans hm (by decide))

theorem ch_execCtleSweepStep {m : Nat} {p : Fin 8} {eye : Nat} {amp : Nat} {s t : State} (hm : Within 0x2000000000000000000000000000000000000000000000000000000000000805 m)
    (h : execCtleSweepStep p eye amp s = .next t) : t.pending = s.pending ∧ Changes m s.dev t.dev := by
  unfold execCtleSweepStep at h
  refine of_onRun h (bit_of hm (by decide)) (fun d hd => ?_)
  try dsimp only
  repeat' (first | with_reducible assumption | split | (intro _) | with_reducible apply ch_effCtleSweepStep | exact sub_trans hm (by decide))

theorem ch_execRxLockLoss {m : Nat} {p : Fin 8} {s t : State} (hm : Within 0x140000000000000000000000000000000000000000000000000000000000000000000001E9800000000000000000000000000000000000000000084072004008000009A6 m)
    (h : execRxLockLoss p s = .next t) : t.pending = s.pending ∧ Changes m s.dev t.dev := by
  unfold execRxLockLoss at h
  refine of_onRun h (bit_of hm (by decide)) (fun d hd => ?_)
  try dsimp only
  repeat' (first | with_reducible assumption | split | (intro _) | with_reducible apply ch_effRxLockLoss | exact sub_trans hm (by decide))

end Dev

end Sys2Proof.Machine
end

