-- ==== Sys2Proof/Laws/ContactorCh.lean ====
section
/-! SUPPORT. What each definition of Machine/Contactor.lean may change. -/

namespace Sys2Proof.Machine

set_option linter.all false
set_option Elab.async false

namespace Dev

theorem ch_contactorClosed {m : Nat} {s0 : Dev} (s : Dev) (n : Fin 16)
    (hm : Within 0x200000000000000000000000000000000000000000000000000000000000000000000010000 m) (h0 : Changes m s0 s) :
    Changes m s0 (Dev.contactorClosed s n) := by
  unfold Dev.contactorClosed
  try dsimp only
  repeat' (first | with_reducible assumption | split | (intro _) | with_reducible apply ch_modSess | with_reducible apply ch_setBit | exact sub_trans hm (by decide) | with_reducible exact reg_of hm at_VSS_STATUS (by decide))

theorem ch_contactorGone {m : Nat} {s0 : Dev} (s : Dev) (n : Fin 16)
    (hm : Within 0x14081080000000000000000000000000003C0100000000000000000000202200000000000001000000000000000000000000000000000000000008407200000000030DA6 m) (h0 : Changes m s0 s) :
    Changes m s0 (Dev.contactorGone s n) := by
  unfold Dev.contactorGone
  try dsimp only
  repeat' (first | with_reducible assumption | split | (intro _) | with_reducible apply ch_modSess | with_reducible apply ch_setBit | with_reducible apply ch_closeSession | exact sub_trans hm (by decide) | with_reducible exact reg_of hm at_VSS_STATUS (by decide))


end Dev

end Sys2Proof.Machine
end

