-- ==== Sys2Proof/Laws/FramesCh.lean ====
section
/-! SUPPORT. What each definition of Machine/Frames.lean may change. -/

namespace Sys2Proof.Machine

set_option linter.all false
set_option Elab.async false

namespace Dev

theorem ch_countReserved {m : Nat} {s0 : Dev} (s : Dev) (f : RxFrame)
    (hm : Within 0x800000000000000000000000000000000000000000000000000000000000 m) (h0 : Changes m s0 s) :
    Changes m s0 (Dev.countReserved s f) := by
  unfold Dev.countReserved
  try dsimp only
  repeat' (first | with_reducible assumption | split | (intro _) | with_reducible apply ch_bump | with_reducible exact reg_of hm at_PST_FRAME_ERR (by decide))

theorem ch_discardFrame {m : Nat} {s0 : Dev} (s : Dev) (f : RxFrame)
    (hm : Within 0x1000000800000000000000000000000000000000000000000000000000000000000 m) (h0 : Changes m s0 s) :
    Changes m s0 (Dev.discardFrame s f) := by
  unfold Dev.discardFrame
  try dsimp only
  repeat' (first | with_reducible assumption | split | (intro _) | with_reducible apply ch_bump | with_reducible apply ch_incSat | with_reducible exact reg_of hm at_PST_FRAME_ERR (by decide) | with_reducible exact reg_of hm (at_PST_NODE_ERR _) (by decide))

theorem ch_hear {m : Nat} {s0 : Dev} (s : Dev) (i : Nat) (f : RxFrame)
    (hm : Within 0x800 m) (h0 : Changes m s0 s) :
    Changes m s0 (Dev.hear s i f) := by
  unfold Dev.hear
  try dsimp only
  repeat' (first | with_reducible assumption | split | (intro _) | with_reducible apply ch_putPst | exact bit_of hm (by decide))

theorem ch_takeFrame {m : Nat} {s0 : Dev} (s : Dev) (f : RxFrame) (type : Nat) (use : Fin 128 → Dev → Dev)
    (hm : Within 0x1000000800000000000000000000000000000000000000000000000000000000800 m) (h0 : Changes m s0 s) (h3 : ∀ x0 x1, Changes m s0 x1 → Changes m s0 (use x0 x1)) :
    Changes m s0 (Dev.takeFrame s f type use) := by
  unfold Dev.takeFrame
  try dsimp only
  repeat' (first | with_reducible assumption | split | (intro _) | with_reducible apply ch_countReserved | with_reducible apply ch_discardFrame | with_reducible apply ch_hear | with_reducible apply h3 | exact sub_trans hm (by decide))

theorem ch_measFrame {m : Nat} {s0 : Dev} (s : Dev) (i : Fin 128) (f : RxFrame)
    (hm : Within 0x4000 m) (h0 : Changes m s0 s) :
    Changes m s0 (Dev.measFrame s i f) := by
  unfold Dev.measFrame
  try dsimp only
  repeat' (first | with_reducible assumption | split | (intro _) | with_reducible apply ch_forEach | with_reducible apply ch_putMtr | exact bit_of hm (by decide))

theorem ch_effMeasFrameReceived {m : Nat} {s0 : Dev} (f : RxFrame) (s : Dev)
    (hm : Within 0x1000000800000000000000000000000000000000000000000000000000000004800 m) (h1 : Changes m s0 s) :
    Changes m s0 (effMeasFrameReceived f s) := by
  unfold effMeasFrameReceived
  try dsimp only
  repeat' (first | with_reducible assumption | split | (intro _) | with_reducible apply ch_takeFrame | with_reducible apply ch_measFrame | exact sub_trans hm (by decide))

theorem ch_stageTele {m : Nat} {s0 : Dev} (s : Dev) (st : Nat) (sampleDt : Nat) (status : Nat)
    (hm : Within 0x1400000000000000000000000000000000000000000000000000000000000000000000000001000000000000000000000001100804200000000008407200000000000FA6 m) (h0 : Changes m s0 s) :
    Changes m s0 (Dev.stageTele s st sampleDt status) := by
  unfold Dev.stageTele
  try dsimp only
  repeat' (first | with_reducible assumption | split | (intro _) | with_reducible apply ch_forEach | with_reducible apply ch_faultLeg | exact sub_trans hm (by decide))

theorem ch_teleFrame {m : Nat} {s0 : Dev} (s : Dev) (i : Fin 128) (f : RxFrame)
    (hm : Within 0x1400000000000000000000240000000000000000000000000000000000000000000000000001000000000000000000000001100804200000000008407200000000400FA6 m) (h0 : Changes m s0 s) :
    Changes m s0 (Dev.teleFrame s i f) := by
  unfold Dev.teleFrame
  try dsimp only
  repeat' (first | with_reducible assumption | split | (intro _) | with_reducible apply ch_forEach | with_reducible apply ch_modSeen | with_reducible apply ch_stageTele | with_reducible apply ch_strTele | exact sub_trans hm (by decide))

theorem ch_effTeleFrameReceived {m : Nat} {s0 : Dev} (f : RxFrame) (s : Dev)
    (hm : Within 0x1400000000000000000000240000000000000000000000000000000000000000000001000001800000000000000000000001100804200000000008407200000000400FA6 m) (h1 : Changes m s0 s) :
    Changes m s0 (effTeleFrameReceived f s) := by
  unfold effTeleFrameReceived
  try dsimp only
  repeat' (first | with_reducible assumption | split | (intro _) | with_reducible apply ch_takeFrame | with_reducible apply ch_teleFrame | exact sub_trans hm (by decide))

theorem ch_etherFrame {m : Nat} {s0 : Dev} (s : Dev) (i : Fin 128) (d : List Byte)
    (hm : Within 0x1400000000000000000000000000000000000000000000000000000000001000000000000001000000000000000000000000000000000000000008407200000000000DA6 m) (h0 : Changes m s0 s) :
    Changes m s0 (Dev.etherFrame s i d) := by
  unfold Dev.etherFrame
  try dsimp only
  repeat' (first | with_reducible assumption | split | (intro _) | with_reducible apply ch_bump | with_reducible apply ch_emit | with_reducible apply ch_sendEthernet | exact sub_trans hm (by decide) | with_reducible exact reg_of hm at_VSS_PROTO_ERR (by decide))

theorem ch_tunFrame {m : Nat} {s0 : Dev} (s : Dev) (i : Fin 128) (f : RxFrame)
    (hm : Within 0x1400000000000000000000000000000000000000000000000000000000001000000000000001000000000000000000000000000000000000000008407200000000000DA6 m) (h0 : Changes m s0 s) :
    Changes m s0 (Dev.tunFrame s i f) := by
  unfold Dev.tunFrame
  try dsimp only
  repeat' (first | with_reducible assumption | split | (intro _) | with_reducible apply ch_putPst | with_reducible apply ch_etherFrame | exact sub_trans hm (by decide) | exact bit_of hm (by decide))

theorem ch_effTunFrameReceived {m : Nat} {s0 : Dev} (f : RxFrame) (s : Dev)
    (hm : Within 0x1400000000000000000000000000000000000000000000000000000000001000000001000001800000000000000000000000000000000000000008407200000000000DA6 m) (h1 : Changes m s0 s) :
    Changes m s0 (effTunFrameReceived f s) := by
  unfold effTunFrameReceived
  try dsimp only
  repeat' (first | with_reducible assumption | split | (intro _) | with_reducible apply ch_takeFrame | with_reducible apply ch_tunFrame | exact sub_trans hm (by decide))

theorem ch_execMeasFrameReceived {m : Nat} {f : RxFrame} {s t : State} (hm : Within 0x1000000800000000000000000000000000000000000000000000000000000004804 m)
    (h : execMeasFrameReceived f s = .next t) : t.pending = s.pending ∧ Changes m s.dev t.dev := by
  unfold execMeasFrameReceived at h
  refine of_onRun h (bit_of hm (by decide)) (fun d hd => ?_)
  try dsimp only
  repeat' (first | with_reducible assumption | split | (intro _) | with_reducible apply ch_effMeasFrameReceived | exact sub_trans hm (by decide))

theorem ch_execTeleFrameReceived {m : Nat} {f : RxFrame} {s t : State} (hm : Within 0x1400000000000000000000240000000000000000000000000000000000000000000001000001800000000000000000000001100804200000000008407200000000400FA6 m)
    (h : execTeleFrameReceived f s = .next t) : t.pending = s.pending ∧ Changes m s.dev t.dev := by
  unfold execTeleFrameReceived at h
  refine of_onRun h (bit_of hm (by decide)) (fun d hd => ?_)
  try dsimp only
  repeat' (first | with_reducible assumption | split | (intro _) | with_reducible apply ch_effTeleFrameReceived | exact sub_trans hm (by decide))

theorem ch_execTunFrameReceived {m : Nat} {f : RxFrame} {s t : State} (hm : Within 0x1400000000000000000000000000000000000000000000000000000000001000000001000001800000000000000000000000000000000000000008407200000000000DA6 m)
    (h : execTunFrameReceived f s = .next t) : t.pending = s.pending ∧ Changes m s.dev t.dev := by
  unfold execTunFrameReceived at h
  refine of_onRun h (bit_of hm (by decide)) (fun d hd => ?_)
  try dsimp only
  repeat' (first | with_reducible assumption | split | (intro _) | with_reducible apply ch_effTunFrameReceived | exact sub_trans hm (by decide))

end Dev

end Sys2Proof.Machine
end

