-- ==== Sys2Proof/Laws/CensusCh.lean ====
section
/-! SUPPORT. What each definition of Machine/Census.lean may change. -/

namespace Sys2Proof.Machine

set_option linter.all false
set_option Elab.async false

namespace Dev

theorem ch_presenceChanged {m : Nat} {s0 : Dev} (s : Dev)
    (hm : Within 0x140000000000000140480000000000000F000000000000000000000000000000000000000001220000000000000000000000000004000000000008407200000000028DA6 m) (h0 : Changes m s0 s) :
    Changes m s0 (Dev.presenceChanged s) := by
  unfold Dev.presenceChanged
  try dsimp only
  repeat' (first | with_reducible assumption | split | (intro _) | with_reducible apply ch_forEach | with_reducible apply ch_set | with_reducible apply ch_setb | with_reducible apply ch_requestRates | with_reducible apply ch_headsFollowNodes | with_reducible apply ch_rebindAll | exact sub_trans hm (by decide) | with_reducible exact reg_of hm (at_THM_LOOP_STATUS _) (by decide) | with_reducible exact reg_of hm at_PST_PROT_STATUS (by decide))

theorem ch_loseNode {m : Nat} {s0 : Dev} (s : Dev) (i : Fin 128)
    (hm : Within 0x140810800000000140480000000000000F3C0100000000000000000000202200000000100001220000000000000000000001100804200000000008407200000000038FA6 m) (h0 : Changes m s0 s) :
    Changes m s0 (Dev.loseNode s i) := by
  unfold Dev.loseNode
  try dsimp only
  repeat' (first | with_reducible assumption | split | (intro _) | with_reducible apply ch_forEach | with_reducible apply ch_putPst | with_reducible apply ch_set | with_reducible apply ch_faultLeg | with_reducible apply ch_post | with_reducible apply ch_modSeen | with_reducible apply ch_presenceChanged | with_reducible apply ch_contactorGone | exact sub_trans hm (by decide) | exact bit_of hm (by decide) | with_reducible exact reg_of hm (at_PST_NODE_INFO _) (by decide))

theorem ch_clearEntry {m : Nat} {s0 : Dev} (s : Dev) (i : Fin 128)
    (hm : Within 0x3FC0000000000000000000000000000000000000000000000000000000000000800 m) (h0 : Changes m s0 s) :
    Changes m s0 (Dev.clearEntry s i) := by
  unfold Dev.clearEntry
  apply ch_modSeen _ _ _ (sub_trans hm (by decide))
  apply ch_forEachMem _ _ _ h0
  intro k t hk ht
  apply ch_wr _ _ _ _ ht
  have := List.mem_range.1 hk
  obtain rfl | rfl | rfl | rfl | rfl | rfl | rfl | rfl : k = 0 ∨ k = 1 ∨ k = 2 ∨ k = 3 ∨ k = 4 ∨ k = 5 ∨ k = 6 ∨ k = 7 := by omega
  · exact writes_at (reg_of hm (at_PST_NODE_ID_LO i) (by decide)) (by dsimp only [PST_NODE_ID_LO, PST_NODE_ID_LO]; first | done | omega)
  · exact writes_at (reg_of hm (at_PST_NODE_ID_HI i) (by decide)) (by dsimp only [PST_NODE_ID_LO, PST_NODE_ID_HI]; first | done | omega)
  · exact writes_at (reg_of hm (at_PST_NODE_INFO i) (by decide)) (by dsimp only [PST_NODE_ID_LO, PST_NODE_INFO]; first | done | omega)
  · exact writes_at (reg_of hm (at_PST_NODE_PATH i) (by decide)) (by dsimp only [PST_NODE_ID_LO, PST_NODE_PATH]; first | done | omega)
  · exact writes_at (reg_of hm (at_PST_NODE_DELAY i) (by decide)) (by dsimp only [PST_NODE_ID_LO, PST_NODE_DELAY]; first | done | omega)
  · exact writes_at (reg_of hm (at_PST_NODE_MAKER i) (by decide)) (by dsimp only [PST_NODE_ID_LO, PST_NODE_MAKER]; first | done | omega)
  · exact writes_at (reg_of hm (at_PST_NODE_ERR i) (by decide)) (by dsimp only [PST_NODE_ID_LO, PST_NODE_ERR]; first | done | omega)
  · exact writes_at (reg_of hm (at_PST_NODE_AGE i) (by decide)) (by dsimp only [PST_NODE_ID_LO, PST_NODE_AGE]; first | done | omega)

theorem ch_admitForget {m : Nat} {s0 : Dev} (s : Dev) (i : Fin 128)
    (hm : Within 0x3FC0000000000000000000000000000000000000000000000000000000000000800 m) (h0 : Changes m s0 s) :
    Changes m s0 (Dev.admitForget s i) := by
  unfold Dev.admitForget
  try dsimp only
  repeat' (first | with_reducible assumption | split | (intro _) | with_reducible apply ch_putPst | with_reducible apply ch_clearEntry | exact sub_trans hm (by decide) | exact bit_of hm (by decide))

theorem ch_markResult {m : Nat} {s0 : Dev} (s : Dev) (p : Fin 8) (seen : StreamSeen)
    (hm : Within 0x10000000000000000000000000000000000000000000000000000000000800 m) (h0 : Changes m s0 s) :
    Changes m s0 (Dev.markResult s p seen) := by
  unfold Dev.markResult
  try dsimp only
  repeat' (first | with_reducible assumption | split | (intro _) | with_reducible apply ch_setb | with_reducible apply ch_modTime | exact sub_trans hm (by decide) | with_reducible exact reg_of hm (at_PST_CEN_TIME _) (by decide))

theorem ch_pairCheck {m : Nat} {s0 : Dev} (s : Dev)
    (hm : Within 0x14000000000000000000000000000000000000000000000000000000000000000000000000002000000000000000000000000000000000000000084072000000000001A4 m) (h0 : Changes m s0 s) :
    Changes m s0 (Dev.pairCheck s) := by
  unfold Dev.pairCheck
  try dsimp only
  repeat' (first | with_reducible assumption | split | (intro _) | with_reducible apply ch_when | with_reducible apply ch_setb | with_reducible apply ch_post | exact sub_trans hm (by decide) | with_reducible exact reg_of hm at_PST_PROT_STATUS (by decide))

theorem ch_censusEntry {m : Nat} {s0 : Dev} (s : Dev) (i : Fin 128)
    (hm : Within 0x140810800000000140480000000000000F3C0100000000000000000000202200000003100001220000000000000000000001100804200000000008407200000000038FA6 m) (h0 : Changes m s0 s) :
    Changes m s0 (Dev.censusEntry s i) := by
  unfold Dev.censusEntry
  try dsimp only
  repeat' (first | with_reducible assumption | split | (intro _) | with_reducible apply ch_incSat | with_reducible apply ch_modSeen | with_reducible apply ch_loseNode | exact sub_trans hm (by decide) | with_reducible exact reg_of hm (at_PST_NODE_ERR _) (by decide) | with_reducible exact reg_of hm (at_PST_NODE_AGE _) (by decide))

theorem ch_breakCensus {m : Nat} {s0 : Dev} (s : Dev) (p : Fin 8)
    (hm : Within 0x14000000000000000000000000000000000000000000000000000000000000000000000000022000000000000000000000000000000000000000084072000000000001A4 m) (h0 : Changes m s0 s) :
    Changes m s0 (Dev.breakCensus s p) := by
  unfold Dev.breakCensus
  try dsimp only
  repeat' (first | with_reducible assumption | split | (intro _) | with_reducible apply ch_set | with_reducible apply ch_post | exact sub_trans hm (by decide) | with_reducible exact reg_of hm at_PST_PROT_STATUS (by decide) | with_reducible exact reg_of hm (at_PST_CEN_STATUS _) (by decide))

theorem ch_refreshStages {m : Nat} {s0 : Dev} (s : Dev)
    (hm : Within 0x200 m) (h0 : Changes m s0 s) :
    Changes m s0 (Dev.refreshStages s) := by
  unfold Dev.refreshStages
  try dsimp only
  repeat' (first | with_reducible assumption | split | (intro _) | with_reducible apply ch_putAlc | exact bit_of hm (by decide))

theorem ch_sendSync {m : Nat} {s0 : Dev} (s : Dev) (p : Fin 8) (k : Nat) (interval : Nat)
    (hm : Within 0x1400000000000000000000000000000000000000000000000000000000000000000000000001000000000000000000000000000000000000000008407200000000000DA6 m) (h0 : Changes m s0 s) :
    Changes m s0 (Dev.sendSync s p k interval) := by
  unfold Dev.sendSync
  try dsimp only
  repeat' (first | with_reducible assumption | split | (intro _) | with_reducible apply ch_nextSeq | with_reducible apply ch_queueRun | with_reducible apply ch_emit | exact sub_trans hm (by decide))

theorem ch_sendMark {m : Nat} {s0 : Dev} (s : Dev) (p : Fin 8) (interval : Nat)
    (hm : Within 0x1400000000000000000000000000000000000000000000000000000000000000000000000041000000000000000000000000000000000000000008407200000000000DA6 m) (h0 : Changes m s0 s) :
    Changes m s0 (Dev.sendMark s p interval) := by
  unfold Dev.sendMark
  try dsimp only
  repeat' (first | with_reducible assumption | split | (intro _) | with_reducible apply ch_forEach | with_reducible apply ch_incWrap | with_reducible apply ch_advanceTx | with_reducible apply ch_modTx | with_reducible apply ch_modTime | with_reducible apply ch_emit | with_reducible apply ch_sendSync | exact sub_trans hm (by decide) | with_reducible exact reg_of hm (at_PST_CEN_COUNT _) (by decide))

theorem ch_census {m : Nat} {s0 : Dev} (s : Dev) (seen : List StreamSeen) (unclaimed : List Nat)
    (hm : Within 0x140810800000000140480000000000000F3C0100000000000000000000202200000003100053220000000000000000000001100804200000000008407200000000038FE7 m) (h0 : Changes m s0 s) :
    Changes m s0 (Dev.census s seen unclaimed) := by
  unfold Dev.census
  try dsimp only
  repeat' (first | with_reducible assumption | split | (intro _) | with_reducible apply ch_forEach | with_reducible apply ch_incSat | with_reducible apply ch_tick | with_reducible apply ch_markResult | with_reducible apply ch_pairCheck | with_reducible apply ch_censusEntry | with_reducible apply ch_breakCensus | with_reducible apply ch_refreshStages | with_reducible apply ch_checkPlacement | with_reducible apply ch_modSeen | with_reducible apply ch_sendMark | exact sub_trans hm (by decide) | with_reducible exact reg_of hm (at_PST_CEN_COUNT _) (by decide))

theorem ch_admitAccept {m : Nat} {s0 : Dev} (s : Dev) (i : Fin 128)
    (hm : Within 0x140000000000000140480000000000000F000000000000000000000000000000000000100001220000000000000000000000000004000000000008407200000000028DA6 m) (h0 : Changes m s0 s) :
    Changes m s0 (Dev.admitAccept s i) := by
  unfold Dev.admitAccept
  try dsimp only
  repeat' (first | with_reducible assumption | split | (intro _) | with_reducible apply ch_set | with_reducible apply ch_presenceChanged | with_reducible apply ch_post | exact sub_trans hm (by decide) | with_reducible exact reg_of hm (at_PST_NODE_INFO _) (by decide))

theorem ch_effPstAdmitAccept {m : Nat} {s0 : Dev} (i : Fin 128) (s : Dev)
    (hm : Within 0x140000000000000140480000000000000F000000000000000000000000000000000000100001220000000000000000000000000004000000000008407200000000028DA6 m) (h1 : Changes m s0 s) :
    Changes m s0 (effPstAdmitAccept i s) := by
  unfold effPstAdmitAccept
  try dsimp only
  repeat' (first | with_reducible assumption | split | (intro _) | with_reducible apply ch_answer | with_reducible apply ch_admitAccept | exact sub_trans hm (by decide))

theorem ch_showIdentity {m : Nat} {s0 : Dev} (s : Dev) (i : Fin 128) (r : CensusReply)
    (hm : Within 0x28C0000000000000000000000000000000000000000000000000000000000000000 m) (h0 : Changes m s0 s) :
    Changes m s0 (Dev.showIdentity s i r) := by
  unfold Dev.showIdentity
  try dsimp only
  repeat' (first | with_reducible assumption | split | (intro _) | with_reducible apply ch_set | with_reducible apply ch_set64 | with_reducible exact reg_of hm (at_PST_NODE_ID_LO _) (by decide) | with_reducible exact reg_of hm (at_PST_NODE_ID_HI _) (by decide) | with_reducible exact reg_of hm (at_PST_NODE_MAKER _) (by decide) | with_reducible exact reg_of hm (at_PST_NODE_AGE _) (by decide) | with_reducible exact writes_at (reg_of hm (at_PST_NODE_ID_HI _) (by decide)) (hi_PST_NODE_ID_LO _))

theorem ch_showNode {m : Nat} {s0 : Dev} (s : Dev) (i : Fin 128) (p : Fin 8) (r : CensusReply)
    (hm : Within 0x100000000000000000000000000000000000000000000000000000000000000000 m) (h0 : Changes m s0 s) :
    Changes m s0 (Dev.showNode s i p r) := by
  unfold Dev.showNode
  try dsimp only
  repeat' (first | with_reducible assumption | split | (intro _) | with_reducible apply ch_setb | with_reducible apply ch_set | with_reducible exact reg_of hm (at_PST_NODE_INFO _) (by decide))

theorem ch_showReply {m : Nat} {s0 : Dev} (s : Dev) (i : Fin 128) (p : Fin 8) (r : CensusReply)
    (hm : Within 0x1400000000000000000000000000000000000000000000000000000000000000000002DC00000000000000000000000000000000000000000000084072000000000009A4 m) (h0 : Changes m s0 s) :
    Changes m s0 (Dev.showReply s i p r) := by
  unfold Dev.showReply
  try dsimp only
  repeat' (first | with_reducible assumption | split | (intro _) | with_reducible apply ch_when | with_reducible apply ch_set | with_reducible apply ch_showIdentity | with_reducible apply ch_showNode | with_reducible apply ch_modSeen | with_reducible apply ch_post | exact sub_trans hm (by decide) | with_reducible exact reg_of hm (at_PST_NODE_DELAY _) (by decide))

theorem ch_newNode {m : Nat} {s0 : Dev} (s : Dev) (p : Fin 8) (r : CensusReply)
    (hm : Within 0x140000000000000140480000000000000F000000000000000000000000000000000003FC0001220000000000000000000000000004000000000008407200000000028DA6 m) (h0 : Changes m s0 s) :
    Changes m s0 (Dev.newNode s p r) := by
  unfold Dev.newNode
  try dsimp only
  repeat' (first | with_reducible assumption | split | (intro _) | with_reducible apply ch_when | with_reducible apply ch_putPst | with_reducible apply ch_set | with_reducible apply ch_post | with_reducible apply ch_clearEntry | with_reducible apply ch_showReply | with_reducible apply ch_presenceChanged | exact sub_trans hm (by decide) | exact bit_of hm (by decide) | with_reducible exact reg_of hm (at_PST_NODE_INFO _) (by decide))

theorem ch_censusReply {m : Nat} {s0 : Dev} (s : Dev) (p : Fin 8) (r : CensusReply)
    (hm : Within 0x140000000000000140480000000000000F000000000000000000000000000000000003FC0001220000000000000000000000000004000000000008407200000000028DA6 m) (h0 : Changes m s0 s) :
    Changes m s0 (Dev.censusReply s p r) := by
  unfold Dev.censusReply
  try dsimp only
  repeat' (first | with_reducible assumption | split | (intro _) | with_reducible apply ch_set | with_reducible apply ch_newNode | with_reducible apply ch_presenceChanged | with_reducible apply ch_post | with_reducible apply ch_showReply | with_reducible apply ch_rebindAll | exact sub_trans hm (by decide) | with_reducible exact reg_of hm (at_PST_NODE_INFO _) (by decide))

theorem ch_replyFrame {m : Nat} {s0 : Dev} (s : Dev) (f : RxFrame)
    (hm : Within 0x140000000000000140480000000000000F000000000000000000000000000000000003FC0001A20000000000000000000000000004000000000008407200000000028DA6 m) (h0 : Changes m s0 s) :
    Changes m s0 (Dev.replyFrame s f) := by
  unfold Dev.replyFrame
  try dsimp only
  repeat' (first | with_reducible assumption | split | (intro _) | with_reducible apply ch_countReserved | with_reducible apply ch_discardFrame | with_reducible apply ch_censusReply | with_reducible apply ch_hear | exact sub_trans hm (by decide))

theorem ch_effCensusReplyReceived {m : Nat} {s0 : Dev} (f : RxFrame) (s : Dev)
    (hm : Within 0x140000000000000140480000000000000F000000000000000000000000000000000003FC0001A20000000000000000000000000004000000000008407200000000028DA6 m) (h1 : Changes m s0 s) :
    Changes m s0 (effCensusReplyReceived f s) := by
  unfold effCensusReplyReceived
  try dsimp only
  repeat' (first | with_reducible assumption | split | (intro _) | with_reducible apply ch_replyFrame | exact sub_trans hm (by decide))

theorem ch_effPstAdmitForget {m : Nat} {s0 : Dev} (i : Fin 128) (s : Dev)
    (hm : Within 0x3FC0000000000000000000000000000000000000000000000000000000000000804 m) (h1 : Changes m s0 s) :
    Changes m s0 (effPstAdmitForget i s) := by
  unfold effPstAdmitForget
  try dsimp only
  repeat' (first | with_reducible assumption | split | (intro _) | with_reducible apply ch_answer | with_reducible apply ch_admitForget | exact sub_trans hm (by decide))

theorem ch_judgeMismatch {m : Nat} {s0 : Dev} (s : Dev) (p : Fin 8) (e : Int)
    (hm : Within 0x14000000000000000000000000000000000000000000000000000000000000000000000000100000000000000000000000000000000000000000084072000000000009A4 m) (h0 : Changes m s0 s) :
    Changes m s0 (Dev.judgeMismatch s p e) := by
  unfold Dev.judgeMismatch
  try dsimp only
  repeat' (first | with_reducible assumption | split | (intro _) | with_reducible apply ch_when | with_reducible apply ch_setb | with_reducible apply ch_modTime | with_reducible apply ch_post | exact sub_trans hm (by decide) | with_reducible exact reg_of hm (at_PST_CEN_TIME _) (by decide))

theorem ch_timeSummary {m : Nat} {s0 : Dev} (s : Dev) (p : Fin 8)
    (hm : Within 0x14000000000000000000000000000000000000000000000000000000000000000000000000102000000000000000000000000000000000000000084072000000000001A4 m) (h0 : Changes m s0 s) :
    Changes m s0 (Dev.timeSummary s p) := by
  unfold Dev.timeSummary
  try dsimp only
  repeat' (first | with_reducible assumption | split | (intro _) | with_reducible apply ch_when | with_reducible apply ch_setb | with_reducible apply ch_set | with_reducible apply ch_post | exact sub_trans hm (by decide) | with_reducible exact reg_of hm at_PST_PROT_STATUS (by decide) | with_reducible exact reg_of hm (at_PST_CEN_TIME _) (by decide))

theorem ch_showPath {m : Nat} {s0 : Dev} (s : Dev) (i : Fin 128)
    (hm : Within 0x300000000000000000000000000000000000000000000000000000000000000000 m) (h0 : Changes m s0 s) :
    Changes m s0 (Dev.showPath s i) := by
  unfold Dev.showPath
  try dsimp only
  repeat' (first | with_reducible assumption | split | (intro _) | with_reducible apply ch_setb | with_reducible apply ch_wr | with_reducible exact reg_of hm (at_PST_NODE_INFO _) (by decide) | with_reducible exact reg_of hm (at_PST_NODE_PATH _) (by decide))

theorem ch_setLead {m : Nat} {s0 : Dev} (s : Dev) (p : Fin 8) (lat : Nat)
    (hm : Within 0x1400000000000000000000000000000000000000000000000000000000000000000000000001000000000000000000000001100805200000000008407200000000000FA6 m) (h0 : Changes m s0 s) :
    Changes m s0 (Dev.setLead s p lat) := by
  unfold Dev.setLead
  try dsimp only
  repeat' (first | with_reducible assumption | split | (intro _) | with_reducible apply ch_forEach | with_reducible apply ch_when | with_reducible apply ch_set | with_reducible apply ch_setb | with_reducible apply ch_post | with_reducible apply ch_faultLeg | exact sub_trans hm (by decide) | with_reducible exact reg_of hm at_EDG_STATUS (by decide) | with_reducible exact reg_of hm (at_EDG_LEAD _) (by decide))

theorem ch_markReturn {m : Nat} {s0 : Dev} (s : Dev) (p : Fin 8) (n : Nat) (lat : Nat)
    (hm : Within 0x140000000000000000000000000000000000000000000000000000000000000000000030001F200000000000000000000001100805200000000008407200000000000FA6 m) (h0 : Changes m s0 s) :
    Changes m s0 (Dev.markReturn s p n lat) := by
  unfold Dev.markReturn
  try dsimp only
  repeat' (first | with_reducible assumption | split | (intro _) | with_reducible apply ch_forEach | with_reducible apply ch_wr | with_reducible apply ch_set | with_reducible apply ch_setb | with_reducible apply ch_modTime | with_reducible apply ch_judgeMismatch | with_reducible apply ch_timeSummary | with_reducible apply ch_showPath | with_reducible apply ch_setLead | with_reducible apply ch_sendSync | exact sub_trans hm (by decide) | with_reducible exact reg_of hm (at_PST_CEN_STATUS _) (by decide) | with_reducible exact reg_of hm (at_PST_CEN_LAT _) (by decide) | with_reducible exact reg_of hm (at_PST_CEN_RESID _) (by decide) | with_reducible exact reg_of hm (at_PST_CEN_TIME _) (by decide))

theorem ch_effMarkReturn {m : Nat} {s0 : Dev} (p : Fin 8) (n : Fin 17) (latency : Nat) (s : Dev)
    (hm : Within 0x140000000000000000000000000000000000000000000000000000000000000000000030001F200000000000000000000001100805200000000008407200000000000FA6 m) (h3 : Changes m s0 s) :
    Changes m s0 (effMarkReturn p n latency s) := by
  unfold effMarkReturn
  try dsimp only
  repeat' (first | with_reducible assumption | split | (intro _) | with_reducible apply ch_markReturn | exact sub_trans hm (by decide))

theorem ch_effCensusMark {m : Nat} {s0 : Dev} (seen : List StreamSeen) (unclaimed : List Nat) (s : Dev)
    (hm : Within 0x140810800000000140480000000000000F3C0100000000000000000000202200000003100053220000000000000000000001100804200000000008407200000000038FE7 m) (h2 : Changes m s0 s) :
    Changes m s0 (effCensusMark seen unclaimed s) := by
  unfold effCensusMark
  try dsimp only
  repeat' (first | with_reducible assumption | split | (intro _) | with_reducible apply ch_census | exact sub_trans hm (by decide))

theorem ch_execCensusReplyReceived {m : Nat} {f : RxFrame} {s t : State} (hm : Within 0x140000000000000140480000000000000F000000000000000000000000000000000003FC0001A20000000000000000000000000004000000000008407200000000028DA6 m)
    (h : execCensusReplyReceived f s = .next t) : t.pending = s.pending ∧ Changes m s.dev t.dev := by
  unfold execCensusReplyReceived at h
  refine of_onRun h (bit_of hm (by decide)) (fun d hd => ?_)
  try dsimp only
  repeat' (first | with_reducible assumption | split | (intro _) | with_reducible apply ch_effCensusReplyReceived | exact sub_trans hm (by decide))

theorem ch_execPstAdmitForget {m : Nat} {i : Fin 128} {s t : State} (hm : Within 0x3FC0000000000000000000000000000000000000000000000000000000000000804 m)
    (h : execPstAdmitForget i s = .next t) : t.pending = s.pending ∧ Changes m s.dev t.dev := by
  unfold execPstAdmitForget at h
  refine of_onReg h (bit_of hm (by decide)) (fun d hd => ?_)
  try dsimp only
  repeat' (first | with_reducible assumption | split | (intro _) | with_reducible apply ch_effPstAdmitForget | exact sub_trans hm (by decide))

theorem ch_execMarkReturn {m : Nat} {p : Fin 8} {n : Fin 17} {latency : Nat} {s t : State} (hm : Within 0x140000000000000000000000000000000000000000000000000000000000000000000030001F200000000000000000000001100805200000000008407200000000000FA6 m)
    (h : execMarkReturn p n latency s = .next t) : t.pending = s.pending ∧ Changes m s.dev t.dev := by
  unfold execMarkReturn at h
  refine of_onRun h (bit_of hm (by decide)) (fun d hd => ?_)
  try dsimp only
  repeat' (first | with_reducible assumption | split | (intro _) | with_reducible apply ch_effMarkReturn | exact sub_trans hm (by decide))

theorem ch_execCensusMark {m : Nat} {seen : List StreamSeen} {unclaimed : List Nat} {s t : State} (hm : Within 0x140810800000000140480000000000000F3C0100000000000000000000202200000003100053220000000000000000000001100804200000000008407200000000038FE7 m)
    (h : execCensusMark seen unclaimed s = .next t) : t.pending = s.pending ∧ Changes m s.dev t.dev := by
  unfold execCensusMark at h
  refine of_onRun h (bit_of hm (by decide)) (fun d hd => ?_)
  try dsimp only
  repeat' (first | with_reducible assumption | split | (intro _) | with_reducible apply ch_effCensusMark | exact sub_trans hm (by decide))

theorem ch_execPstAdmitAccept {m : Nat} {i : Fin 128} {s t : State} (hm : Within 0x140000000000000140480000000000000F000000000000000000000000000000000000100001220000000000000000000000000004000000000008407200000000028DA6 m)
    (h : execPstAdmitAccept i s = .next t) : t.pending = s.pending ∧ Changes m s.dev t.dev := by
  unfold execPstAdmitAccept at h
  refine of_onReg h (bit_of hm (by decide)) (fun d hd => ?_)
  try dsimp only
  repeat' (first | with_reducible assumption | split | (intro _) | with_reducible apply ch_effPstAdmitAccept | exact sub_trans hm (by decide))

end Dev

end Sys2Proof.Machine
end

