-- ==== Sys2Proof/Laws/NodeSideCh.lean ====
section
/-! SUPPORT. What each definition of Machine/NodeSide.lean may change. -/

namespace Sys2Proof.Machine

set_option linter.all false
set_option Elab.async false

namespace Dev

theorem ch_nodeTimeStale {m : Nat} {s0 : Dev} (s : Dev) (i : Fin 128)
    (hm : Within 0x801 m) (h0 : Changes m s0 s) :
    Changes m s0 (Dev.nodeTimeStale s i) := by
  unfold Dev.nodeTimeStale
  try dsimp only
  repeat' (first | with_reducible assumption | split | (intro _) | with_reducible apply ch_reach | with_reducible apply ch_modNode | exact sub_trans hm (by decide))

theorem ch_effNodeTimeStale {m : Nat} {s0 : Dev} (i : Fin 128) (s : Dev)
    (hm : Within 0x801 m) (h1 : Changes m s0 s) :
    Changes m s0 (effNodeTimeStale i s) := by
  unfold effNodeTimeStale
  try dsimp only
  repeat' (first | with_reducible assumption | split | (intro _) | with_reducible apply ch_nodeTimeStale | exact sub_trans hm (by decide))

theorem ch_nodeFailHold {m : Nat} {s0 : Dev} (s : Dev) (i : Fin 128)
    (hm : Within 0x801 m) (h0 : Changes m s0 s) :
    Changes m s0 (Dev.nodeFailHold s i) := by
  unfold Dev.nodeFailHold
  try dsimp only
  repeat' (first | with_reducible assumption | split | (intro _) | with_reducible apply ch_modNode | with_reducible apply ch_reach | exact sub_trans hm (by decide))

theorem ch_effFailHoldExpiry {m : Nat} {s0 : Dev} (i : Fin 128) (s : Dev)
    (hm : Within 0x801 m) (h1 : Changes m s0 s) :
    Changes m s0 (effFailHoldExpiry i s) := by
  unfold effFailHoldExpiry
  try dsimp only
  repeat' (first | with_reducible assumption | split | (intro _) | with_reducible apply ch_nodeFailHold | exact sub_trans hm (by decide))

theorem ch_nodeSync {m : Nat} {s0 : Dev} (s : Dev) (i : Fin 128) (odd : Bool)
    (hm : Within 0x800 m) (h0 : Changes m s0 s) :
    Changes m s0 (Dev.nodeSync s i odd) := by
  unfold Dev.nodeSync
  try dsimp only
  repeat' (first | with_reducible assumption | split | (intro _) | with_reducible apply ch_modPort | with_reducible apply ch_modNode | exact sub_trans hm (by decide))

theorem ch_effNodeSyncApply {m : Nat} {s0 : Dev} (i : Fin 128) (odd : Bool) (s : Dev)
    (hm : Within 0x800 m) (h2 : Changes m s0 s) :
    Changes m s0 (effNodeSyncApply i odd s) := by
  unfold effNodeSyncApply
  try dsimp only
  repeat' (first | with_reducible assumption | split | (intro _) | with_reducible apply ch_nodeSync | exact sub_trans hm (by decide))

theorem ch_nodeFault {m : Nat} {s0 : Dev} (s : Dev) (i : Fin 128) (k : Fin 6) (active : Bool)
    (hm : Within 0x800 m) (h0 : Changes m s0 s) :
    Changes m s0 (Dev.nodeFault s i k active) := by
  unfold Dev.nodeFault
  try dsimp only
  repeat' (first | with_reducible assumption | split | (intro _) | with_reducible apply ch_modNode | exact sub_trans hm (by decide))

theorem ch_effNodeFaultInput {m : Nat} {s0 : Dev} (i : Fin 128) (k : Fin 6) (active : Bool) (s : Dev)
    (hm : Within 0x800 m) (h3 : Changes m s0 s) :
    Changes m s0 (effNodeFaultInput i k active s) := by
  unfold effNodeFaultInput
  try dsimp only
  repeat' (first | with_reducible assumption | split | (intro _) | with_reducible apply ch_nodeFault | exact sub_trans hm (by decide))

theorem ch_nodeAnswer {m : Nat} {s0 : Dev} (s : Dev) (i : Fin 128) (f : CtrlFrame)
    (hm : Within 0x802 m) (h0 : Changes m s0 s) :
    Changes m s0 (Dev.nodeAnswer s i f).1 := by
  unfold Dev.nodeAnswer
  try dsimp only
  repeat' (first | with_reducible assumption | split | (intro _) | with_reducible apply ch_putFree | with_reducible apply ch_modNode | exact sub_trans hm (by decide) | exact bit_of hm (by decide) | exact Nat.le_succ _ | exact Nat.le_add_right _ _)

theorem ch_nodeFrame {m : Nat} {s0 : Dev} (i : Fin 128) (odd : Bool) (own : Int) (acc : Dev × Bool) (q : WireFrame × Nat)
    (hm : Within 0x806 m) (h3 : Changes m s0 acc.1) :
    Changes m s0 (Dev.nodeFrame i odd own acc q).1 := by
  unfold Dev.nodeFrame
  try dsimp only
  repeat' (first | with_reducible assumption | split | (intro _) | with_reducible apply ch_modNode | with_reducible apply ch_modPort | with_reducible apply ch_emit | with_reducible apply ch_nodeAnswer | exact sub_trans hm (by decide))

theorem ch_nodeSpeak {m : Nat} {s0 : Dev} (s : Dev) (i : Fin 128) (t : Int) (x : NodeIn)
    (hm : Within 0x800 m) (h0 : Changes m s0 s) :
    Changes m s0 (Dev.nodeSpeak s i t x) := by
  unfold Dev.nodeSpeak
  try dsimp only
  repeat' (first | with_reducible assumption | split | (intro _) | with_reducible apply ch_modNode | exact sub_trans hm (by decide))

theorem ch_nodeNoRun {m : Nat} {s0 : Dev} (s : Dev) (i : Fin 128)
    (hm : Within 0x801 m) (h0 : Changes m s0 s) :
    Changes m s0 (Dev.nodeNoRun s i) := by
  unfold Dev.nodeNoRun
  try dsimp only
  repeat' (first | with_reducible assumption | split | (intro _) | with_reducible apply ch_reach | with_reducible apply ch_modNode | exact sub_trans hm (by decide))

theorem ch_effNodeNoRunTimeout {m : Nat} {s0 : Dev} (i : Fin 128) (s : Dev)
    (hm : Within 0x801 m) (h1 : Changes m s0 s) :
    Changes m s0 (effNodeNoRunTimeout i s) := by
  unfold effNodeNoRunTimeout
  try dsimp only
  repeat' (first | with_reducible assumption | split | (intro _) | with_reducible apply ch_nodeNoRun | exact sub_trans hm (by decide))

theorem ch_nodeMark {m : Nat} {s0 : Dev} (s : Dev) (i : Fin 128) (odd : Bool) (a3 : Mark) (arrival : Int) (departure : Int)
    (hm : Within 0x804 m) (h0 : Changes m s0 s) :
    Changes m s0 (Dev.nodeMark s i odd a3 arrival departure) := by
  unfold Dev.nodeMark
  try dsimp only
  repeat' (first | with_reducible assumption | split | (intro _) | with_reducible apply ch_emit | with_reducible apply ch_modPort | with_reducible apply ch_nodeAligned | exact sub_trans hm (by decide))

theorem ch_effNodeMarkForward {m : Nat} {s0 : Dev} (i : Fin 128) (odd : Bool) (a2 : Mark) (arrival : Int) (departure : Int) (s : Dev)
    (hm : Within 0x804 m) (h5 : Changes m s0 s) :
    Changes m s0 (effNodeMarkForward i odd a2 arrival departure s) := by
  unfold effNodeMarkForward
  try dsimp only
  repeat' (first | with_reducible assumption | split | (intro _) | with_reducible apply ch_nodeMark | exact sub_trans hm (by decide))

theorem ch_nodeOwns {m : Nat} {s0 : Dev} (s : Dev) (i : Fin 128) (odd : Bool) (arrival : Int) (orphan : Bool) (hop : Nat) (n : Nat) (run : List Block) (x : NodeIn)
    (hm : Within 0x806 m) (h0 : Changes m s0 s) :
    Changes m s0 (Dev.nodeOwns s i odd arrival orphan hop n run x) := by
  unfold Dev.nodeOwns
  try dsimp only
  repeat' (first | with_reducible assumption | split | (intro _) | with_reducible apply ch_nodeFrame | with_reducible apply ch_modNode | with_reducible apply ch_nodeSpeak | with_reducible apply ch_fresh | with_reducible apply ch_emit | with_reducible apply ch_foldl Prod.fst | exact sub_trans hm (by decide))

theorem ch_nodeBoundary {m : Nat} {s0 : Dev} (s : Dev) (i : Fin 128) (j : Fin 6)
    (hm : Within 0x801 m) (h0 : Changes m s0 s) :
    Changes m s0 (Dev.nodeBoundary s i j) := by
  unfold Dev.nodeBoundary
  try dsimp only
  repeat' (first | with_reducible assumption | split | (intro _) | with_reducible apply ch_modNode | with_reducible apply ch_reach | exact sub_trans hm (by decide))

theorem ch_effNodeLegBoundary {m : Nat} {s0 : Dev} (i : Fin 128) (j : Fin 6) (s : Dev)
    (hm : Within 0x801 m) (h2 : Changes m s0 s) :
    Changes m s0 (effNodeLegBoundary i j s) := by
  unfold effNodeLegBoundary
  try dsimp only
  repeat' (first | with_reducible assumption | split | (intro _) | with_reducible apply ch_nodeBoundary | exact sub_trans hm (by decide))

theorem ch_nodePass {m : Nat} {s0 : Dev} (s : Dev) (i : Fin 128) (odd : Bool) (l : List Block)
    (hm : Within 0x6 m) (h0 : Changes m s0 s) :
    Changes m s0 (Dev.nodePass s i odd l) := by
  unfold Dev.nodePass
  try dsimp only
  repeat' (first | with_reducible assumption | split | (intro _) | with_reducible apply ch_fresh | with_reducible apply ch_emit | exact sub_trans hm (by decide))

theorem ch_nodeRun {m : Nat} {s0 : Dev} (s : Dev) (i : Fin 128) (odd : Bool) (arrival : Int) (orphan : Bool) (before : BitVec 58) (line : List Block) (x : NodeIn)
    (hm : Within 0x806 m) (h0 : Changes m s0 s) :
    Changes m s0 (Dev.nodeRun s i odd arrival orphan before line x) := by
  unfold Dev.nodeRun
  try dsimp only
  repeat' (first | with_reducible assumption | split | (intro _) | with_reducible apply ch_nodePass | with_reducible apply ch_nodeOwns | exact sub_trans hm (by decide))

theorem ch_effNodeRunOwn {m : Nat} {s0 : Dev} (i : Fin 128) (odd : Bool) (arrival : Int) (orphan : Bool) (before : BitVec 58) (line : List Block) (x : NodeIn) (s : Dev)
    (hm : Within 0x806 m) (h7 : Changes m s0 s) :
    Changes m s0 (effNodeRunOwn i odd arrival orphan before line x s) := by
  unfold effNodeRunOwn
  try dsimp only
  repeat' (first | with_reducible assumption | split | (intro _) | with_reducible apply ch_nodeRun | exact sub_trans hm (by decide))

theorem ch_effNodeRxAlignLoss {m : Nat} {s0 : Dev} (i : Fin 128) (odd : Bool) (signal : Bool) (s : Dev)
    (hm : Within 0x804 m) (h3 : Changes m s0 s) :
    Changes m s0 (effNodeRxAlignLoss i odd signal s) := by
  unfold effNodeRxAlignLoss
  try dsimp only
  repeat' (first | with_reducible assumption | split | (intro _) | with_reducible apply ch_nodeUnaligned | exact sub_trans hm (by decide))

theorem ch_execNodeTimeStale {m : Nat} {i : Fin 128} {s t : State} (hm : Within 0x805 m)
    (h : execNodeTimeStale i s = .next t) : t.pending = s.pending ∧ Changes m s.dev t.dev := by
  unfold execNodeTimeStale at h
  refine of_onDev h (bit_of hm (by decide)) (fun d hd => ?_)
  try dsimp only
  repeat' (first | with_reducible assumption | split | (intro _) | with_reducible apply ch_effNodeTimeStale | exact sub_trans hm (by decide))

theorem ch_execNodeSyncApply {m : Nat} {i : Fin 128} {odd : Bool} {s t : State} (hm : Within 0x804 m)
    (h : execNodeSyncApply i odd s = .next t) : t.pending = s.pending ∧ Changes m s.dev t.dev := by
  unfold execNodeSyncApply at h
  refine of_onDev h (bit_of hm (by decide)) (fun d hd => ?_)
  try dsimp only
  repeat' (first | with_reducible assumption | split | (intro _) | with_reducible apply ch_effNodeSyncApply | exact sub_trans hm (by decide))

theorem ch_execNodeFaultInput {m : Nat} {i : Fin 128} {k : Fin 6} {active : Bool} {s t : State} (hm : Within 0x804 m)
    (h : execNodeFaultInput i k active s = .next t) : t.pending = s.pending ∧ Changes m s.dev t.dev := by
  unfold execNodeFaultInput at h
  refine of_onDev h (bit_of hm (by decide)) (fun d hd => ?_)
  try dsimp only
  repeat' (first | with_reducible assumption | split | (intro _) | with_reducible apply ch_effNodeFaultInput | exact sub_trans hm (by decide))

theorem ch_execNodeNoRunTimeout {m : Nat} {i : Fin 128} {s t : State} (hm : Within 0x805 m)
    (h : execNodeNoRunTimeout i s = .next t) : t.pending = s.pending ∧ Changes m s.dev t.dev := by
  unfold execNodeNoRunTimeout at h
  refine of_onDev h (bit_of hm (by decide)) (fun d hd => ?_)
  try dsimp only
  repeat' (first | with_reducible assumption | split | (intro _) | with_reducible apply ch_effNodeNoRunTimeout | exact sub_trans hm (by decide))

theorem ch_execNodeMarkForward {m : Nat} {i : Fin 128} {odd : Bool} {a2 : Mark} {arrival : Int} {departure : Int} {s t : State} (hm : Within 0x804 m)
    (h : execNodeMarkForward i odd a2 arrival departure s = .next t) : t.pending = s.pending ∧ Changes m s.dev t.dev := by
  unfold execNodeMarkForward at h
  refine of_onDev h (bit_of hm (by decide)) (fun d hd => ?_)
  try dsimp only
  repeat' (first | with_reducible assumption | split | (intro _) | with_reducible apply ch_effNodeMarkForward | exact sub_trans hm (by decide))

theorem ch_execNodeLegBoundary {m : Nat} {i : Fin 128} {j : Fin 6} {s t : State} (hm : Within 0x805 m)
    (h : execNodeLegBoundary i j s = .next t) : t.pending = s.pending ∧ Changes m s.dev t.dev := by
  unfold execNodeLegBoundary at h
  refine of_onDev h (bit_of hm (by decide)) (fun d hd => ?_)
  try dsimp only
  repeat' (first | with_reducible assumption | split | (intro _) | with_reducible apply ch_effNodeLegBoundary | exact sub_trans hm (by decide))

theorem ch_execNodeRunOwn {m : Nat} {i : Fin 128} {odd : Bool} {arrival : Int} {orphan : Bool} {before : BitVec 58} {line : List Block} {x : NodeIn} {s t : State} (hm : Within 0x806 m)
    (h : execNodeRunOwn i odd arrival orphan before line x s = .next t) : t.pending = s.pending ∧ Changes m s.dev t.dev := by
  unfold execNodeRunOwn at h
  refine of_onDev h (bit_of hm (by decide)) (fun d hd => ?_)
  try dsimp only
  repeat' (first | with_reducible assumption | split | (intro _) | with_reducible apply ch_effNodeRunOwn | exact sub_trans hm (by decide))

theorem ch_execFailHoldExpiry {m : Nat} {i : Fin 128} {s t : State} (hm : Within 0x805 m)
    (h : execFailHoldExpiry i s = .next t) : t.pending = s.pending ∧ Changes m s.dev t.dev := by
  unfold execFailHoldExpiry at h
  refine of_onDev h (bit_of hm (by decide)) (fun d hd => ?_)
  try dsimp only
  repeat' (first | with_reducible assumption | split | (intro _) | with_reducible apply ch_effFailHoldExpiry | exact sub_trans hm (by decide))

theorem ch_execNodeRxAlignLoss {m : Nat} {i : Fin 128} {odd : Bool} {signal : Bool} {s t : State} (hm : Within 0x804 m)
    (h : execNodeRxAlignLoss i odd signal s = .next t) : t.pending = s.pending ∧ Changes m s.dev t.dev := by
  unfold execNodeRxAlignLoss at h
  refine of_onDev h (bit_of hm (by decide)) (fun d hd => ?_)
  try dsimp only
  repeat' (first | with_reducible assumption | split | (intro _) | with_reducible apply ch_effNodeRxAlignLoss | exact sub_trans hm (by decide))

end Dev

end Sys2Proof.Machine
end

