-- ==== Sys2Proof/Laws/SiteLineCh.lean ====
section
/-! SUPPORT. What each definition of Machine/SiteLine.lean may change. -/

namespace Sys2Proof.Machine

set_option linter.all false
set_option Elab.async false

namespace Dev

theorem ch_modSln {m : Nat} {s0 : Dev} (s : Dev) (f : Sln → Sln)
    (hm : Within 0x80000 m) (h0 : Changes m s0 s) :
    Changes m s0 (Dev.modSln s f) := by
  unfold Dev.modSln
  try dsimp only
  repeat' (first | with_reducible assumption | split | (intro _) | with_reducible apply ch_putSln | exact bit_of hm (by decide))

theorem ch_slnRecv {m : Nat} {s0 : Dev} (s : Dev) (src : Src)
    (hm : Within 0x8400200000000080084 m) (h0 : Changes m s0 s) :
    Changes m s0 (Dev.slnRecv s src) := by
  unfold Dev.slnRecv
  try dsimp only
  repeat' (first | with_reducible assumption | split | (intro _) | with_reducible apply ch_complete | with_reducible apply ch_modSln | exact sub_trans hm (by decide))

theorem ch_effSlnRecv {m : Nat} {s0 : Dev} (src : Src) (bufLen : Nat) (s : Dev)
    (hm : Within 0x8400200000000080084 m) (h2 : Changes m s0 s) :
    Changes m s0 (effSlnRecv src bufLen s) := by
  unfold effSlnRecv
  try dsimp only
  repeat' (first | with_reducible assumption | split | (intro _) | with_reducible apply ch_complete | with_reducible apply ch_slnRecv | exact sub_trans hm (by decide))

theorem ch_superframe {m : Nat} {s0 : Dev} (s : Dev)
    (hm : Within 0x10100A00000000000000000000000000000000000000000000000000000000000000080045 m) (h0 : Changes m s0 s) :
    Changes m s0 (Dev.superframe s) := by
  unfold Dev.superframe
  try dsimp only
  repeat' (first | with_reducible assumption | split | (intro _) | with_reducible apply ch_forEach | with_reducible apply ch_when | with_reducible apply ch_bump | with_reducible apply ch_incSat | with_reducible apply ch_setb | with_reducible apply ch_tick | with_reducible apply ch_modSln | with_reducible apply ch_emit | exact sub_trans hm (by decide) | with_reducible exact reg_of hm at_SLN_STATUS (by decide) | with_reducible exact reg_of hm at_SLN_SF_NUM (by decide) | with_reducible exact reg_of hm at_SLN_CNT_SLIP (by decide) | with_reducible exact reg_of hm (at_SLN_NODE_AGE _) (by decide))

theorem ch_effSuperframeStart {m : Nat} {s0 : Dev} (s : Dev)
    (hm : Within 0x10100A00000000000000000000000000000000000000000000000000000000000000080045 m) (h0 : Changes m s0 s) :
    Changes m s0 (effSuperframeStart s) := by
  unfold effSuperframeStart
  try dsimp only
  repeat' (first | with_reducible assumption | split | (intro _) | with_reducible apply ch_superframe | exact sub_trans hm (by decide))

theorem ch_modEntry {m : Nat} {s0 : Dev} (s : Dev) (i : Fin 250) (f : SlnEntry → SlnEntry)
    (hm : Within 0x80000 m) (h0 : Changes m s0 s) :
    Changes m s0 (Dev.modEntry s i f) := by
  unfold Dev.modEntry
  try dsimp only
  repeat' (first | with_reducible assumption | split | (intro _) | with_reducible apply ch_putSln | exact bit_of hm (by decide))

theorem ch_slnDrop {m : Nat} {s0 : Dev} (s : Dev) (i : Fin 250) (t : SlnTx)
    (hm : Within 0x14000000000000000000000000000000000000000000000000000000000000000800000000000000000000000000000000000000000000000000084072000000000801A4 m) (h0 : Changes m s0 s) :
    Changes m s0 (Dev.slnDrop s i t) := by
  unfold Dev.slnDrop
  try dsimp only
  repeat' (first | with_reducible assumption | split | (intro _) | with_reducible apply ch_bump | with_reducible apply ch_post | with_reducible apply ch_modEntry | with_reducible apply ch_complete | exact sub_trans hm (by decide) | with_reducible exact reg_of hm at_SLN_CNT_DROP (by decide))

theorem ch_slnRepeat {m : Nat} {s0 : Dev} (s : Dev) (i : Fin 250)
    (hm : Within 0x14000000000000000000000000000000000000000000000000000000000000000800000000000000000000000000000000000000000000000000084072000000000801A4 m) (h0 : Changes m s0 s) :
    Changes m s0 (Dev.slnRepeat s i) := by
  unfold Dev.slnRepeat
  try dsimp only
  repeat' (first | with_reducible assumption | split | (intro _) | with_reducible apply ch_modEntry | with_reducible apply ch_slnDrop | exact sub_trans hm (by decide))

theorem ch_slnAdmit {m : Nat} {s0 : Dev} (s : Dev) (r : SlnJoin) (entry : Nat) (result : Nat)
    (hm : Within 0x80000 m) (h0 : Changes m s0 s) :
    Changes m s0 (Dev.slnAdmit s r entry result) := by
  unfold Dev.slnAdmit
  try dsimp only
  repeat' (first | with_reducible assumption | split | (intro _) | with_reducible apply ch_modSln | exact sub_trans hm (by decide))

theorem ch_slnCounts {m : Nat} {s0 : Dev} (s : Dev)
    (hm : Within 0x200000000000000000000000000000000000000000000000000000000000000080000 m) (h0 : Changes m s0 s) :
    Changes m s0 (Dev.slnCounts s) := by
  unfold Dev.slnCounts
  try dsimp only
  repeat' (first | with_reducible assumption | split | (intro _) | with_reducible apply ch_set | with_reducible apply ch_modSln | exact sub_trans hm (by decide) | with_reducible exact reg_of hm at_SLN_STATUS (by decide))

theorem ch_slnEnter {m : Nat} {s0 : Dev} (s : Dev) (i : Fin 250) (r : SlnJoin) (st : Nat) (refuse : Nat)
    (hm : Within 0x1C00200000000000000000000000000000000000000000000000000000000000000080000 m) (h0 : Changes m s0 s) :
    Changes m s0 (Dev.slnEnter s i r st refuse) := by
  unfold Dev.slnEnter
  try dsimp only
  repeat' (first | with_reducible assumption | split | (intro _) | with_reducible apply ch_set | with_reducible apply ch_set64 | with_reducible apply ch_slnCounts | with_reducible apply ch_modEntry | exact sub_trans hm (by decide) | with_reducible exact reg_of hm (at_SLN_NODE_ID_LO _) (by decide) | with_reducible exact reg_of hm (at_SLN_NODE_ID_HI _) (by decide) | with_reducible exact reg_of hm (at_SLN_NODE_INFO _) (by decide) | with_reducible exact writes_at (reg_of hm (at_SLN_NODE_ID_HI _) (by decide)) (hi_SLN_NODE_ID_LO _))

theorem ch_modLink {m : Nat} {s0 : Dev} (s : Dev) (a : Nat) (b : Nat) (f : SlnLink → SlnLink)
    (hm : Within 0x80000 m) (h0 : Changes m s0 s) :
    Changes m s0 (Dev.modLink s a b f) := by
  unfold Dev.modLink
  try dsimp only
  repeat' (first | with_reducible assumption | split | (intro _) | with_reducible apply ch_modSln | exact sub_trans hm (by decide))

theorem ch_showLink {m : Nat} {s0 : Dev} (s : Dev) (i : Fin 250)
    (hm : Within 0x2000000000000000000000000000000000000000000000000000000000000000000000000 m) (h0 : Changes m s0 s) :
    Changes m s0 (Dev.showLink s i) := by
  unfold Dev.showLink
  try dsimp only
  repeat' (first | with_reducible assumption | split | (intro _) | with_reducible apply ch_set | with_reducible exact reg_of hm (at_SLN_NODE_LINK _) (by decide))

theorem ch_slnQueue {m : Nat} {s0 : Dev} (s : Dev) (i : Fin 250) (t : SlnTx)
    (hm : Within 0x80000 m) (h0 : Changes m s0 s) :
    Changes m s0 (Dev.slnQueue s i t) := by
  unfold Dev.slnQueue
  try dsimp only
  repeat' (first | with_reducible assumption | split | (intro _) | with_reducible apply ch_modEntry | exact sub_trans hm (by decide))

theorem ch_soundDown {m : Nat} {s0 : Dev} (s : Dev) (i : Fin 250)
    (hm : Within 0x2000000000000000000000000000000000000000000000000000000000000000000080000 m) (h0 : Changes m s0 s) :
    Changes m s0 (Dev.soundDown s i) := by
  unfold Dev.soundDown
  try dsimp only
  repeat' (first | with_reducible assumption | split | (intro _) | with_reducible apply ch_modLink | with_reducible apply ch_showLink | with_reducible apply ch_slnQueue | exact sub_trans hm (by decide))

theorem ch_slnJoin {m : Nat} {s0 : Dev} (s : Dev) (r : SlnJoin)
    (hm : Within 0x1400000000000000000000000000000000000000000000000000000000000003C002000000000000000000000000000000000000000000000000084072000000000801A4 m) (h0 : Changes m s0 s) :
    Changes m s0 (Dev.slnJoin s r) := by
  unfold Dev.slnJoin
  try dsimp only
  repeat' (first | with_reducible assumption | split | (intro _) | with_reducible apply ch_set | with_reducible apply ch_modEntry | with_reducible apply ch_slnAdmit | with_reducible apply ch_post | with_reducible apply ch_slnCounts | with_reducible apply ch_slnEnter | with_reducible apply ch_soundDown | exact sub_trans hm (by decide) | with_reducible exact reg_of hm (at_SLN_NODE_INFO _) (by decide))

theorem ch_slnEmit {m : Nat} {s0 : Dev} (s : Dev) (src : Nat) (dst : Nat) (respMax : Nat) (f : SlnFrame)
    (hm : Within 0x4 m) (h0 : Changes m s0 s) :
    Changes m s0 (Dev.slnEmit s src dst respMax f) := by
  unfold Dev.slnEmit
  try dsimp only
  repeat' (first | with_reducible assumption | split | (intro _) | with_reducible apply ch_emit | exact sub_trans hm (by decide))

theorem ch_slnTransmit {m : Nat} {s0 : Dev} (s : Dev) (i : Fin 250) (t : SlnTx) (again : Bool) (respMax : Nat)
    (hm : Within 0x80004 m) (h0 : Changes m s0 s) :
    Changes m s0 (Dev.slnTransmit s i t again respMax) := by
  unfold Dev.slnTransmit
  try dsimp only
  repeat' (first | with_reducible assumption | split | (intro _) | with_reducible apply ch_modEntry | with_reducible apply ch_modSln | with_reducible apply ch_slnEmit | exact sub_trans hm (by decide))

theorem ch_slnSent {m : Nat} {s0 : Dev} (s : Dev) (route : List Nat) (dst : Nat) (n : Nat) (respMax : Nat)
    (hm : Within 0x80000 m) (h0 : Changes m s0 s) :
    Changes m s0 (Dev.slnSent s route dst n respMax) := by
  unfold Dev.slnSent
  try dsimp only
  repeat' (first | with_reducible assumption | split | (intro _) | with_reducible apply ch_modSln | exact sub_trans hm (by decide))

theorem ch_slnDisplay {m : Nat} {s0 : Dev} (s : Dev) (i : Fin 250) (body : List Byte)
    (hm : Within 0x80000 m) (h0 : Changes m s0 s) :
    Changes m s0 (Dev.slnDisplay s i body) := by
  unfold Dev.slnDisplay
  try dsimp only
  repeat' (first | with_reducible assumption | split | (intro _) | with_reducible apply ch_modEntry | exact sub_trans hm (by decide))

theorem ch_slnLose {m : Nat} {s0 : Dev} (s : Dev) (i : Fin 250)
    (hm : Within 0x14000000000000000000000000000000000000000000000000000000000000010802000000000000000000000000000000000000000000000000084072000000000801A4 m) (h0 : Changes m s0 s) :
    Changes m s0 (Dev.slnLose s i) := by
  unfold Dev.slnLose
  try dsimp only
  repeat' (first | with_reducible assumption | split | (intro _) | with_reducible apply ch_forEach | with_reducible apply ch_set | with_reducible apply ch_modEntry | with_reducible apply ch_post | with_reducible apply ch_slnCounts | with_reducible apply ch_slnDrop | exact sub_trans hm (by decide) | with_reducible exact reg_of hm (at_SLN_NODE_INFO _) (by decide))

theorem ch_effSlnJoinReq {m : Nat} {s0 : Dev} (r : SlnJoin) (s : Dev)
    (hm : Within 0x1400000000000000000000000000000000000000000000000000000000000003C002000000000000000000000000000000000000000000000000084072000000000801A4 m) (h1 : Changes m s0 s) :
    Changes m s0 (effSlnJoinReq r s) := by
  unfold effSlnJoinReq
  try dsimp only
  repeat' (first | with_reducible assumption | split | (intro _) | with_reducible apply ch_slnJoin | exact sub_trans hm (by decide))

theorem ch_setRoutes {m : Nat} {s0 : Dev} (s : Dev) (rs : List (Fin 250 × List Nat)) (relays : List Nat)
    (hm : Within 0x14000000000000000000000000000000000000000000000000000000000000030002000000000000000000000000000000000000000000000000084072000000000801A4 m) (h0 : Changes m s0 s) :
    Changes m s0 (Dev.setRoutes s rs relays) := by
  unfold Dev.setRoutes
  try dsimp only
  repeat' (first | with_reducible assumption | split | (intro _) | with_reducible apply ch_forEach | with_reducible apply ch_when | with_reducible apply ch_set | with_reducible apply ch_setb | with_reducible apply ch_modEntry | with_reducible apply ch_showLink | with_reducible apply ch_modSln | with_reducible apply ch_post | exact sub_trans hm (by decide) | with_reducible exact reg_of hm at_SLN_STATUS (by decide) | with_reducible exact reg_of hm (at_SLN_NODE_INFO _) (by decide))

theorem ch_recompute {m : Nat} {s0 : Dev} (s : Dev)
    (hm : Within 0x14000000000000000000000000000000000000000000000000000000000000030002000000000000000000000000000000000000000000000000084072000000000801A4 m) (h0 : Changes m s0 s) :
    Changes m s0 (Dev.recompute s) := by
  unfold Dev.recompute
  try dsimp only
  repeat' (first | with_reducible assumption | split | (intro _) | with_reducible apply ch_set | with_reducible apply ch_post | with_reducible apply ch_setRoutes | exact sub_trans hm (by decide) | with_reducible exact reg_of hm at_SLN_STATUS (by decide))

theorem ch_effSlnRouteRecompute {m : Nat} {s0 : Dev} (s : Dev)
    (hm : Within 0x14000000000000000000000000000000000000000000000000000000000000030002000000000000000000000000000000000000000000000000084072000000000801A4 m) (h0 : Changes m s0 s) :
    Changes m s0 (effSlnRouteRecompute s) := by
  unfold effSlnRouteRecompute
  try dsimp only
  repeat' (first | with_reducible assumption | split | (intro _) | with_reducible apply ch_recompute | exact sub_trans hm (by decide))

theorem ch_slnNext {m : Nat} {s0 : Dev} (s : Dev) (i : Fin 250) (respMax : Nat)
    (hm : Within 0x40000000000000000000000000000000000000000000000000000000000000000080004 m) (h0 : Changes m s0 s) :
    Changes m s0 (Dev.slnNext s i respMax) := by
  unfold Dev.slnNext
  try dsimp only
  repeat' (first | with_reducible assumption | split | (intro _) | with_reducible apply ch_when | with_reducible apply ch_bump | with_reducible apply ch_slnTransmit | with_reducible apply ch_modEntry | exact sub_trans hm (by decide) | with_reducible exact reg_of hm at_SLN_CNT_RETX (by decide))

theorem ch_slnForget {m : Nat} {s0 : Dev} (s : Dev) (i : Fin 250)
    (hm : Within 0x1FC00200000000000000000000000000000000000000000000000000000000000000080000 m) (h0 : Changes m s0 s) :
    Changes m s0 (Dev.slnForget s i) := by
  unfold Dev.slnForget
  dsimp only
  split
  · apply ch_slnCounts _ (sub_trans hm (by decide))
    apply ch_modEntry _ _ _ (sub_trans hm (by decide))
    apply ch_forEachMem _ _ _ h0
    intro k t hk ht
    apply ch_wr _ _ _ _ ht
    have := List.mem_range.1 hk
    obtain rfl | rfl | rfl | rfl | rfl | rfl | rfl : k = 0 ∨ k = 1 ∨ k = 2 ∨ k = 3 ∨ k = 4 ∨ k = 5 ∨ k = 6 := by omega
    · exact writes_at (reg_of hm (at_SLN_NODE_ID_LO i) (by decide)) (by dsimp only [SLN_NODE_ID_LO, SLN_NODE_ID_LO]; first | done | omega)
    · exact writes_at (reg_of hm (at_SLN_NODE_ID_HI i) (by decide)) (by dsimp only [SLN_NODE_ID_LO, SLN_NODE_ID_HI]; first | done | omega)
    · exact writes_at (reg_of hm (at_SLN_NODE_INFO i) (by decide)) (by dsimp only [SLN_NODE_ID_LO, SLN_NODE_INFO]; first | done | omega)
    · exact writes_at (reg_of hm (at_SLN_NODE_LINK i) (by decide)) (by dsimp only [SLN_NODE_ID_LO, SLN_NODE_LINK]; first | done | omega)
    · exact writes_at (reg_of hm (at_SLN_NODE_CFG i) (by decide)) (by dsimp only [SLN_NODE_ID_LO, SLN_NODE_CFG]; first | done | omega)
    · exact writes_at (reg_of hm (at_SLN_NODE_ERR i) (by decide)) (by dsimp only [SLN_NODE_ID_LO, SLN_NODE_ERR]; first | done | omega)
    · exact writes_at (reg_of hm (at_SLN_NODE_AGE i) (by decide)) (by dsimp only [SLN_NODE_ID_LO, SLN_NODE_AGE]; first | done | omega)
  · exact h0

theorem ch_slnSend {m : Nat} {s0 : Dev} (s : Dev) (src : Src) (entry : Nat) (d : List Byte)
    (hm : Within 0x8400200000000080084 m) (h0 : Changes m s0 s) :
    Changes m s0 (Dev.slnSend s src entry d) := by
  unfold Dev.slnSend
  try dsimp only
  repeat' (first | with_reducible assumption | split | (intro _) | with_reducible apply ch_forEach | with_reducible apply ch_complete | with_reducible apply ch_slnQueue | exact sub_trans hm (by decide))

theorem ch_effSlnSend {m : Nat} {s0 : Dev} (src : Src) (entry : Byte) (data : List Byte) (s : Dev)
    (hm : Within 0x8400200000000080084 m) (h3 : Changes m s0 s) :
    Changes m s0 (effSlnSend src entry data s) := by
  unfold effSlnSend
  try dsimp only
  repeat' (first | with_reducible assumption | split | (intro _) | with_reducible apply ch_slnSend | exact sub_trans hm (by decide))

theorem ch_slnDeliver {m : Nat} {s0 : Dev} (s : Dev) (i : Nat) (d : List Byte)
    (hm : Within 0x8400200000000080084 m) (h0 : Changes m s0 s) :
    Changes m s0 (Dev.slnDeliver s i d) := by
  unfold Dev.slnDeliver
  try dsimp only
  repeat' (first | with_reducible assumption | split | (intro _) | with_reducible apply ch_complete | with_reducible apply ch_modSln | exact sub_trans hm (by decide))

theorem ch_slnTake {m : Nat} {s0 : Dev} (s : Dev) (i : Fin 250) (x : SlnReply)
    (hm : Within 0x2200000000000000000000000000000000000000000000000000008400200000000080084 m) (h0 : Changes m s0 s) :
    Changes m s0 (Dev.slnTake s i x) := by
  unfold Dev.slnTake
  try dsimp only
  repeat' (first | with_reducible assumption | split | (intro _) | with_reducible apply ch_forEach | with_reducible apply ch_bump | with_reducible apply ch_modEntry | with_reducible apply ch_slnDeliver | with_reducible apply ch_showLink | with_reducible apply ch_modLink | with_reducible apply ch_slnQueue | exact sub_trans hm (by decide) | with_reducible exact reg_of hm at_SLN_CNT_CRC (by decide))

theorem ch_effSlnAdmitForget {m : Nat} {s0 : Dev} (i : Fin 250) (s : Dev)
    (hm : Within 0x1FC00200000000000000000000000000000000000000000000000000000000000000080004 m) (h1 : Changes m s0 s) :
    Changes m s0 (effSlnAdmitForget i s) := by
  unfold effSlnAdmitForget
  try dsimp only
  repeat' (first | with_reducible assumption | split | (intro _) | with_reducible apply ch_answer | with_reducible apply ch_slnForget | exact sub_trans hm (by decide))

theorem ch_slnAccept {m : Nat} {s0 : Dev} (s : Dev) (i : Fin 250)
    (hm : Within 0x14000000000000000000000000000000000000000000000000000000000000030002000000000000000000000000000000000000000000000000084072000000000801A4 m) (h0 : Changes m s0 s) :
    Changes m s0 (Dev.slnAccept s i) := by
  unfold Dev.slnAccept
  try dsimp only
  repeat' (first | with_reducible assumption | split | (intro _) | with_reducible apply ch_set | with_reducible apply ch_soundDown | with_reducible apply ch_post | with_reducible apply ch_slnCounts | exact sub_trans hm (by decide) | with_reducible exact reg_of hm (at_SLN_NODE_INFO _) (by decide))

theorem ch_effSlnAdmitAccept {m : Nat} {s0 : Dev} (i : Fin 250) (s : Dev)
    (hm : Within 0x14000000000000000000000000000000000000000000000000000000000000030002000000000000000000000000000000000000000000000000084072000000000801A4 m) (h1 : Changes m s0 s) :
    Changes m s0 (effSlnAdmitAccept i s) := by
  unfold effSlnAdmitAccept
  try dsimp only
  repeat' (first | with_reducible assumption | split | (intro _) | with_reducible apply ch_answer | with_reducible apply ch_slnAccept | exact sub_trans hm (by decide))

theorem ch_mapExpiry {m : Nat} {s0 : Dev} (s : Dev) (i : Fin 250) (down : Bool)
    (hm : Within 0x2000000000000000000000000000000000000000000000000000000000000000000080001 m) (h0 : Changes m s0 s) :
    Changes m s0 (Dev.mapExpiry s i down) := by
  unfold Dev.mapExpiry
  try dsimp only
  repeat' (first | with_reducible assumption | split | (intro _) | with_reducible apply ch_reach | with_reducible apply ch_soundDown | with_reducible apply ch_showLink | with_reducible apply ch_modLink | exact sub_trans hm (by decide))

theorem ch_effSlnTmapExpiry {m : Nat} {s0 : Dev} (i : Fin 250) (down : Bool) (s : Dev)
    (hm : Within 0x2000000000000000000000000000000000000000000000000000000000000000000080001 m) (h2 : Changes m s0 s) :
    Changes m s0 (effSlnTmapExpiry i down s) := by
  unfold effSlnTmapExpiry
  try dsimp only
  repeat' (first | with_reducible assumption | split | (intro _) | with_reducible apply ch_mapExpiry | exact sub_trans hm (by decide))

theorem ch_linkResult {m : Nat} {s0 : Dev} (s : Dev) (a : Nat) (b : Nat) (failed : Bool)
    (hm : Within 0x80000 m) (h0 : Changes m s0 s) :
    Changes m s0 (Dev.linkResult s a b failed) := by
  unfold Dev.linkResult
  try dsimp only
  repeat' (first | with_reducible assumption | split | (intro _) | with_reducible apply ch_modLink | exact sub_trans hm (by decide))

theorem ch_noiseLimit {m : Nat} {s0 : Dev} (s : Dev)
    (hm : Within 0x14000000000000000000000000000000000000000000000000000000000000000002000000000000000000000000000000000000000000000000084072000000000801A4 m) (h0 : Changes m s0 s) :
    Changes m s0 (Dev.noiseLimit s) := by
  unfold Dev.noiseLimit
  try dsimp only
  repeat' (first | with_reducible assumption | split | (intro _) | with_reducible apply ch_when | with_reducible apply ch_setb | with_reducible apply ch_modSln | with_reducible apply ch_post | exact sub_trans hm (by decide) | with_reducible exact reg_of hm at_SLN_STATUS (by decide))

theorem ch_noiseEnd {m : Nat} {s0 : Dev} (s : Dev)
    (hm : Within 0x14000000000000000000000000000000000000000000000000000000000000000002000000000000000000000000000000000000000000000000084072000000000801A5 m) (h0 : Changes m s0 s) :
    Changes m s0 (Dev.noiseEnd s) := by
  unfold Dev.noiseEnd
  try dsimp only
  repeat' (first | with_reducible assumption | split | (intro _) | with_reducible apply ch_noiseLimit | with_reducible apply ch_reach | with_reducible apply ch_modSln | exact sub_trans hm (by decide))

theorem ch_effSlnNoiseHoldEnd {m : Nat} {s0 : Dev} (s : Dev)
    (hm : Within 0x14000000000000000000000000000000000000000000000000000000000000000002000000000000000000000000000000000000000000000000084072000000000801A5 m) (h0 : Changes m s0 s) :
    Changes m s0 (effSlnNoiseHoldEnd s) := by
  unfold effSlnNoiseHoldEnd
  try dsimp only
  repeat' (first | with_reducible assumption | split | (intro _) | with_reducible apply ch_noiseEnd | exact sub_trans hm (by decide))

theorem ch_noiseHold {m : Nat} {s0 : Dev} (s : Dev)
    (hm : Within 0x80000 m) (h0 : Changes m s0 s) :
    Changes m s0 (Dev.noiseHold s) := by
  unfold Dev.noiseHold
  try dsimp only
  repeat' (first | with_reducible assumption | split | (intro _) | with_reducible apply ch_modSln | exact sub_trans hm (by decide))

theorem ch_effSlnNoiseImpulse {m : Nat} {s0 : Dev} (s : Dev)
    (hm : Within 0x80000 m) (h0 : Changes m s0 s) :
    Changes m s0 (effSlnNoiseImpulse s) := by
  unfold effSlnNoiseImpulse
  try dsimp only
  repeat' (first | with_reducible assumption | split | (intro _) | with_reducible apply ch_noiseHold | exact sub_trans hm (by decide))

theorem ch_slnTimeout {m : Nat} {s0 : Dev} (s : Dev) (i : Fin 250)
    (hm : Within 0x140000000000000000000000000000000000000000000000000000000000000B0802000000000000000000000000000000000000000000000000084072000000000801A5 m) (h0 : Changes m s0 s) :
    Changes m s0 (Dev.slnTimeout s i) := by
  unfold Dev.slnTimeout
  try dsimp only
  repeat' (first | with_reducible assumption | split | (intro _) | with_reducible apply ch_when | with_reducible apply ch_incSat | with_reducible apply ch_reach | with_reducible apply ch_modSln | with_reducible apply ch_modEntry | with_reducible apply ch_linkResult | with_reducible apply ch_slnLose | with_reducible apply ch_slnRepeat | with_reducible apply ch_showLink | with_reducible apply ch_soundDown | exact sub_trans hm (by decide) | with_reducible exact reg_of hm (at_SLN_NODE_ERR _) (by decide))

theorem ch_effSlnReplyTimeout {m : Nat} {s0 : Dev} (i : Fin 250) (s : Dev)
    (hm : Within 0x140000000000000000000000000000000000000000000000000000000000000B0802000000000000000000000000000000000000000000000000084072000000000801A5 m) (h1 : Changes m s0 s) :
    Changes m s0 (effSlnReplyTimeout i s) := by
  unfold effSlnReplyTimeout
  try dsimp only
  repeat' (first | with_reducible assumption | split | (intro _) | with_reducible apply ch_slnTimeout | exact sub_trans hm (by decide))

theorem ch_dspSend {m : Nat} {s0 : Dev} (s : Dev) (readyLow : Bool) (waited : Nat) (miso : Byte)
    (hm : Within 0x14000000000000000000000000000000000000000000000000000000000000000000000000000000000000000000000000000000000000000000084072000000000801A5 m) (h0 : Changes m s0 s) :
    Changes m s0 (Dev.dspSend s readyLow waited miso) := by
  unfold Dev.dspSend
  try dsimp only
  repeat' (first | with_reducible assumption | split | (intro _) | with_reducible apply ch_when | with_reducible apply ch_reach | with_reducible apply ch_modSln | with_reducible apply ch_emit | with_reducible apply ch_post | exact sub_trans hm (by decide))

theorem ch_effDspTransaction {m : Nat} {s0 : Dev} (readyLow : Bool) (waited : Nat) (miso : Byte) (s : Dev)
    (hm : Within 0x14000000000000000000000000000000000000000000000000000000000000000000000000000000000000000000000000000000000000000000084072000000000801A5 m) (h3 : Changes m s0 s) :
    Changes m s0 (effDspTransaction readyLow waited miso s) := by
  unfold effDspTransaction
  try dsimp only
  repeat' (first | with_reducible assumption | split | (intro _) | with_reducible apply ch_dspSend | exact sub_trans hm (by decide))

theorem ch_effNodeUnsynced {m : Nat} {s0 : Dev} (i : Fin 250) (s : Dev)
    (hm : Within 0x80000 m) (h1 : Changes m s0 s) :
    Changes m s0 (effNodeUnsynced i s) := by
  unfold effNodeUnsynced
  try dsimp only
  repeat' (first | with_reducible assumption | split | (intro _) | with_reducible apply ch_modEntry | exact sub_trans hm (by decide))

theorem ch_effSlnRelayForward {m : Nat} {s0 : Dev} (i : Fin 250) (f : SlnFrame) (s : Dev)
    (hm : Within 0x4 m) (h2 : Changes m s0 s) :
    Changes m s0 (effSlnRelayForward i f s) := by
  unfold effSlnRelayForward
  try dsimp only
  repeat' (first | with_reducible assumption | split | (intro _) | with_reducible apply ch_slnEmit | exact sub_trans hm (by decide))

theorem ch_slnAck {m : Nat} {s0 : Dev} (s : Dev) (i : Fin 250) (f : SlnFrame)
    (hm : Within 0x14000000000000000000000000000000000000000000000000000000000000000800000000000000000000000000000000000000000000000000084072000000000801A4 m) (h0 : Changes m s0 s) :
    Changes m s0 (Dev.slnAck s i f) := by
  unfold Dev.slnAck
  try dsimp only
  repeat' (first | with_reducible assumption | split | (intro _) | with_reducible apply ch_linkResult | with_reducible apply ch_modEntry | with_reducible apply ch_complete | with_reducible apply ch_slnRepeat | exact sub_trans hm (by decide))

theorem ch_slnReply {m : Nat} {s0 : Dev} (s : Dev) (i : Fin 250) (x : SlnReply)
    (hm : Within 0x140000000000000000000000000000000000000000000000000000000000001B2802000000000000000000000000000000000000000000000000084072000000000801A5 m) (h0 : Changes m s0 s) :
    Changes m s0 (Dev.slnReply s i x) := by
  unfold Dev.slnReply
  try dsimp only
  repeat' (first | with_reducible assumption | split | (intro _) | with_reducible apply ch_when | with_reducible apply ch_set | with_reducible apply ch_incSat | with_reducible apply ch_bump | with_reducible apply ch_reach | with_reducible apply ch_modSln | with_reducible apply ch_modEntry | with_reducible apply ch_modLink | with_reducible apply ch_post | with_reducible apply ch_slnCounts | with_reducible apply ch_linkResult | with_reducible apply ch_slnRepeat | with_reducible apply ch_showLink | with_reducible apply ch_slnTake | with_reducible apply ch_slnAck | with_reducible apply ch_soundDown | exact sub_trans hm (by decide) | with_reducible exact reg_of hm at_SLN_CNT_CRC (by decide) | with_reducible exact reg_of hm (at_SLN_NODE_INFO _) (by decide) | with_reducible exact reg_of hm (at_SLN_NODE_ERR _) (by decide) | with_reducible exact reg_of hm (at_SLN_NODE_AGE _) (by decide))

theorem ch_effSlnReplyReceived {m : Nat} {s0 : Dev} (i : Fin 250) (x : SlnReply) (s : Dev)
    (hm : Within 0x140000000000000000000000000000000000000000000000000000000000001B2802000000000000000000000000000000000000000000000000084072000000000801A5 m) (h2 : Changes m s0 s) :
    Changes m s0 (effSlnReplyReceived i x s) := by
  unfold effSlnReplyReceived
  try dsimp only
  repeat' (first | with_reducible assumption | split | (intro _) | with_reducible apply ch_slnReply | exact sub_trans hm (by decide))

theorem ch_sendAdmit {m : Nat} {s0 : Dev} (s : Dev) (via : Option Nat) (body : List Byte) (respMax : Nat)
    (hm : Within 0x80004 m) (h0 : Changes m s0 s) :
    Changes m s0 (Dev.sendAdmit s via body respMax) := by
  unfold Dev.sendAdmit
  try dsimp only
  repeat' (first | with_reducible assumption | split | (intro _) | with_reducible apply ch_slnSent | with_reducible apply ch_slnEmit | exact sub_trans hm (by decide))

theorem ch_pollSend {m : Nat} {s0 : Dev} (s : Dev) (respMax : Nat)
    (hm : Within 0x14000000000000000000000000000000000000000000000000000000000000001602000000000000000000000000000000000000000000000000084072000000000801A5 m) (h0 : Changes m s0 s) :
    Changes m s0 (Dev.pollSend s respMax) := by
  unfold Dev.pollSend
  try dsimp only
  repeat' (first | with_reducible assumption | split | (intro _) | with_reducible apply ch_bump | with_reducible apply ch_reach | with_reducible apply ch_modSln | with_reducible apply ch_noiseLimit | with_reducible apply ch_slnNext | with_reducible apply ch_slnSent | with_reducible apply ch_sendAdmit | exact sub_trans hm (by decide) | with_reducible exact reg_of hm at_SLN_CNT_DEFER (by decide) | with_reducible exact reg_of hm at_SLN_CNT_SLIP (by decide))

theorem ch_effSlnPollSend {m : Nat} {s0 : Dev} (respMax : Fin 65) (s : Dev)
    (hm : Within 0x14000000000000000000000000000000000000000000000000000000000000001602000000000000000000000000000000000000000000000000084072000000000801A5 m) (h1 : Changes m s0 s) :
    Changes m s0 (effSlnPollSend respMax s) := by
  unfold effSlnPollSend
  try dsimp only
  repeat' (first | with_reducible assumption | split | (intro _) | with_reducible apply ch_pollSend | exact sub_trans hm (by decide))

theorem ch_execSlnRecv {m : Nat} {src : Src} {bufLen : Nat} {s t : State} (hm : Within 0x8400200000000080084 m)
    (h : execSlnRecv src bufLen s = .next t) : t.pending = s.pending ∧ Changes m s.dev t.dev := by
  unfold execSlnRecv at h
  refine of_onHost h (sub_trans hm (by decide)) (fun d hd => ?_)
  try dsimp only
  repeat' (first | with_reducible assumption | split | (intro _) | with_reducible apply ch_effSlnRecv | exact sub_trans hm (by decide))

theorem ch_execSlnJoinReq {m : Nat} {r : SlnJoin} {s t : State} (hm : Within 0x1400000000000000000000000000000000000000000000000000000000000003C002000000000000000000000000000000000000000000000000084072000000000801A4 m)
    (h : execSlnJoinReq r s = .next t) : t.pending = s.pending ∧ Changes m s.dev t.dev := by
  unfold execSlnJoinReq at h
  refine of_onRun h (bit_of hm (by decide)) (fun d hd => ?_)
  try dsimp only
  repeat' (first | with_reducible assumption | split | (intro _) | with_reducible apply ch_effSlnJoinReq | exact sub_trans hm (by decide))

theorem ch_execSlnRouteRecompute {m : Nat}  {s t : State} (hm : Within 0x14000000000000000000000000000000000000000000000000000000000000030002000000000000000000000000000000000000000000000000084072000000000801A4 m)
    (h : execSlnRouteRecompute  s = .next t) : t.pending = s.pending ∧ Changes m s.dev t.dev := by
  unfold execSlnRouteRecompute at h
  refine of_onRun h (bit_of hm (by decide)) (fun d hd => ?_)
  try dsimp only
  repeat' (first | with_reducible assumption | split | (intro _) | with_reducible apply ch_effSlnRouteRecompute | exact sub_trans hm (by decide))

theorem ch_execSlnSend {m : Nat} {src : Src} {entry : Byte} {data : List Byte} {s t : State} (hm : Within 0x8400200000000080084 m)
    (h : execSlnSend src entry data s = .next t) : t.pending = s.pending ∧ Changes m s.dev t.dev := by
  unfold execSlnSend at h
  refine of_onHost h (sub_trans hm (by decide)) (fun d hd => ?_)
  try dsimp only
  repeat' (first | with_reducible assumption | split | (intro _) | with_reducible apply ch_effSlnSend | exact sub_trans hm (by decide))

theorem ch_execSlnNoiseHoldEnd {m : Nat}  {s t : State} (hm : Within 0x14000000000000000000000000000000000000000000000000000000000000000002000000000000000000000000000000000000000000000000084072000000000801A5 m)
    (h : execSlnNoiseHoldEnd  s = .next t) : t.pending = s.pending ∧ Changes m s.dev t.dev := by
  unfold execSlnNoiseHoldEnd at h
  refine of_onRun h (bit_of hm (by decide)) (fun d hd => ?_)
  try dsimp only
  repeat' (first | with_reducible assumption | split | (intro _) | with_reducible apply ch_effSlnNoiseHoldEnd | exact sub_trans hm (by decide))

theorem ch_execSlnNoiseImpulse {m : Nat}  {s t : State} (hm : Within 0x80004 m)
    (h : execSlnNoiseImpulse  s = .next t) : t.pending = s.pending ∧ Changes m s.dev t.dev := by
  unfold execSlnNoiseImpulse at h
  refine of_onRun h (bit_of hm (by decide)) (fun d hd => ?_)
  try dsimp only
  repeat' (first | with_reducible assumption | split | (intro _) | with_reducible apply ch_effSlnNoiseImpulse | exact sub_trans hm (by decide))

theorem ch_execSlnAdmitForget {m : Nat} {i : Fin 250} {s t : State} (hm : Within 0x1FC00200000000000000000000000000000000000000000000000000000000000000080004 m)
    (h : execSlnAdmitForget i s = .next t) : t.pending = s.pending ∧ Changes m s.dev t.dev := by
  unfold execSlnAdmitForget at h
  refine of_onReg h (bit_of hm (by decide)) (fun d hd => ?_)
  try dsimp only
  repeat' (first | with_reducible assumption | split | (intro _) | with_reducible apply ch_effSlnAdmitForget | exact sub_trans hm (by decide))

theorem ch_execSlnReplyTimeout {m : Nat} {i : Fin 250} {s t : State} (hm : Within 0x140000000000000000000000000000000000000000000000000000000000000B0802000000000000000000000000000000000000000000000000084072000000000801A5 m)
    (h : execSlnReplyTimeout i s = .next t) : t.pending = s.pending ∧ Changes m s.dev t.dev := by
  unfold execSlnReplyTimeout at h
  refine of_onRun h (bit_of hm (by decide)) (fun d hd => ?_)
  try dsimp only
  repeat' (first | with_reducible assumption | split | (intro _) | with_reducible apply ch_effSlnReplyTimeout | exact sub_trans hm (by decide))

theorem ch_execSlnTmapExpiry {m : Nat} {i : Fin 250} {down : Bool} {s t : State} (hm : Within 0x2000000000000000000000000000000000000000000000000000000000000000000080005 m)
    (h : execSlnTmapExpiry i down s = .next t) : t.pending = s.pending ∧ Changes m s.dev t.dev := by
  unfold execSlnTmapExpiry at h
  refine of_onRun h (bit_of hm (by decide)) (fun d hd => ?_)
  try dsimp only
  repeat' (first | with_reducible assumption | split | (intro _) | with_reducible apply ch_effSlnTmapExpiry | exact sub_trans hm (by decide))

theorem ch_execSlnRelayForward {m : Nat} {i : Fin 250} {f : SlnFrame} {s t : State} (hm : Within 0x4 m)
    (h : execSlnRelayForward i f s = .next t) : t.pending = s.pending ∧ Changes m s.dev t.dev := by
  unfold execSlnRelayForward at h
  refine of_onDev h (bit_of hm (by decide)) (fun d hd => ?_)
  try dsimp only
  repeat' (first | with_reducible assumption | split | (intro _) | with_reducible apply ch_effSlnRelayForward | exact sub_trans hm (by decide))

theorem ch_execDspTransaction {m : Nat} {readyLow : Bool} {waited : Nat} {miso : Byte} {s t : State} (hm : Within 0x14000000000000000000000000000000000000000000000000000000000000000000000000000000000000000000000000000000000000000000084072000000000801A5 m)
    (h : execDspTransaction readyLow waited miso s = .next t) : t.pending = s.pending ∧ Changes m s.dev t.dev := by
  unfold execDspTransaction at h
  refine of_onRun h (bit_of hm (by decide)) (fun d hd => ?_)
  try dsimp only
  repeat' (first | with_reducible assumption | split | (intro _) | with_reducible apply ch_effDspTransaction | exact sub_trans hm (by decide))

theorem ch_execSlnAdmitAccept {m : Nat} {i : Fin 250} {s t : State} (hm : Within 0x14000000000000000000000000000000000000000000000000000000000000030002000000000000000000000000000000000000000000000000084072000000000801A4 m)
    (h : execSlnAdmitAccept i s = .next t) : t.pending = s.pending ∧ Changes m s.dev t.dev := by
  unfold execSlnAdmitAccept at h
  refine of_onReg h (bit_of hm (by decide)) (fun d hd => ?_)
  try dsimp only
  repeat' (first | with_reducible assumption | split | (intro _) | with_reducible apply ch_effSlnAdmitAccept | exact sub_trans hm (by decide))

theorem ch_execSuperframeStart {m : Nat}  {s t : State} (hm : Within 0x10100A00000000000000000000000000000000000000000000000000000000000000080045 m)
    (h : execSuperframeStart  s = .next t) : t.pending = s.pending ∧ Changes m s.dev t.dev := by
  unfold execSuperframeStart at h
  refine of_onRun h (bit_of hm (by decide)) (fun d hd => ?_)
  try dsimp only
  repeat' (first | with_reducible assumption | split | (intro _) | with_reducible apply ch_effSuperframeStart | exact sub_trans hm (by decide))

theorem ch_execSlnReplyReceived {m : Nat} {i : Fin 250} {x : SlnReply} {s t : State} (hm : Within 0x140000000000000000000000000000000000000000000000000000000000001B2802000000000000000000000000000000000000000000000000084072000000000801A5 m)
    (h : execSlnReplyReceived i x s = .next t) : t.pending = s.pending ∧ Changes m s.dev t.dev := by
  unfold execSlnReplyReceived at h
  refine of_onRun h (bit_of hm (by decide)) (fun d hd => ?_)
  try dsimp only
  repeat' (first | with_reducible assumption | split | (intro _) | with_reducible apply ch_effSlnReplyReceived | exact sub_trans hm (by decide))

theorem ch_execSlnPollSend {m : Nat} {respMax : Fin 65} {s t : State} (hm : Within 0x14000000000000000000000000000000000000000000000000000000000000001602000000000000000000000000000000000000000000000000084072000000000801A5 m)
    (h : execSlnPollSend respMax s = .next t) : t.pending = s.pending ∧ Changes m s.dev t.dev := by
  unfold execSlnPollSend at h
  refine of_onRun h (bit_of hm (by decide)) (fun d hd => ?_)
  try dsimp only
  repeat' (first | with_reducible assumption | split | (intro _) | with_reducible apply ch_effSlnPollSend | exact sub_trans hm (by decide))

theorem ch_execNodeUnsynced {m : Nat} {i : Fin 250} {s t : State} (hm : Within 0x80004 m)
    (h : execNodeUnsynced i s = .next t) : t.pending = s.pending ∧ Changes m s.dev t.dev := by
  unfold execNodeUnsynced at h
  refine of_onDev h (bit_of hm (by decide)) (fun d hd => ?_)
  try dsimp only
  repeat' (first | with_reducible assumption | split | (intro _) | with_reducible apply ch_effNodeUnsynced | exact sub_trans hm (by decide))

end Dev

end Sys2Proof.Machine
end

