-- ==== Sys2Proof/Laws/MeteringCh.lean ====
section
/-! SUPPORT. What each definition of Machine/Metering.lean may change. -/

namespace Sys2Proof.Machine

set_option linter.all false
set_option Elab.async false

namespace Dev

theorem ch_modMtr {m : Nat} {s0 : Dev} (s : Dev) (f : Mtr → Mtr)
    (hm : Within 0x4000 m) (h0 : Changes m s0 s) :
    Changes m s0 (Dev.modMtr s f) := by
  unfold Dev.modMtr
  try dsimp only
  repeat' (first | with_reducible assumption | split | (intro _) | with_reducible apply ch_putMtr | exact bit_of hm (by decide))

theorem ch_startSave {m : Nat} {s0 : Dev} (s : Dev)
    (hm : Within 0x4000 m) (h0 : Changes m s0 s) :
    Changes m s0 (Dev.startSave s) := by
  unfold Dev.startSave
  try dsimp only
  repeat' (first | with_reducible assumption | split | (intro _) | with_reducible apply ch_modMtr | exact sub_trans hm (by decide))

theorem ch_showEnergy {m : Nat} {s0 : Dev} (s : Dev) (q : Nat)
    (hm : Within 0x14000000000000000000000000000000000000000380000000000000000000000000000000000000000000000000000000000000000000000000084072000000000001A4 m) (h0 : Changes m s0 s) :
    Changes m s0 (Dev.showEnergy s q) := by
  unfold Dev.showEnergy
  try dsimp only
  repeat' (first | with_reducible assumption | split | (intro _) | with_reducible apply ch_when | with_reducible apply ch_set64 | with_reducible apply ch_set | with_reducible apply ch_post | exact sub_trans hm (by decide) | with_reducible exact reg_of hm (at_MTR_E_LO _) (by decide) | with_reducible exact reg_of hm (at_MTR_E_HI _) (by decide) | with_reducible exact reg_of hm (at_MTR_E_WRAP _) (by decide) | with_reducible exact writes_at (reg_of hm (at_MTR_E_HI _) (by decide)) (hi_MTR_E_LO _))

theorem ch_book {m : Nat} {s0 : Dev} (s : Dev) (q : Fin 80) (x : Int)
    (hm : Within 0x14000000000000000000000000000000000000000380000000000000000000000000000000000000000000000000000000000000000000000000084072000000000041A4 m) (h0 : Changes m s0 s) :
    Changes m s0 (Dev.book s q x) := by
  unfold Dev.book
  try dsimp only
  repeat' (first | with_reducible assumption | split | (intro _) | with_reducible apply ch_forEach | with_reducible apply ch_modMtr | with_reducible apply ch_showEnergy | exact sub_trans hm (by decide))

theorem ch_bookSigned {m : Nat} {s0 : Dev} (s : Dev) (qImp : Fin 80) (qExp : Fin 80) (qNet : Fin 80) (e : Int)
    (hm : Within 0x14000000000000000000000000000000000000000380000000000000000000000000000000000000000000000000000000000000000000000000084072000000000041A4 m) (h0 : Changes m s0 s) :
    Changes m s0 (Dev.bookSigned s qImp qExp qNet e) := by
  unfold Dev.bookSigned
  try dsimp only
  repeat' (first | with_reducible assumption | split | (intro _) | with_reducible apply ch_book | exact sub_trans hm (by decide))

theorem ch_keepCodes {m : Nat} {s0 : Dev} (s : Dev) (g : Nat) (x : GpSamples)
    (hm : Within 0x4000 m) (h0 : Changes m s0 s) :
    Changes m s0 (Dev.keepCodes s g x) := by
  unfold Dev.keepCodes
  try dsimp only
  repeat' (first | with_reducible assumption | split | (intro _) | with_reducible apply ch_forEach | with_reducible apply ch_modMtr | exact sub_trans hm (by decide))

theorem ch_gridVoltage {m : Nat} {s0 : Dev} (s : Dev) (g : Fin 2)
    (hm : Within 0x14000000000000000000000000000000000000000000002002000000000000000000000000000000000000000000000000000000000000000000084072000000000041A4 m) (h0 : Changes m s0 s) :
    Changes m s0 (Dev.gridVoltage s g) := by
  unfold Dev.gridVoltage
  try dsimp only
  repeat' (first | with_reducible assumption | split | (intro _) | with_reducible apply ch_set | with_reducible apply ch_setb | with_reducible apply ch_modMtr | with_reducible apply ch_post | exact sub_trans hm (by decide) | with_reducible exact reg_of hm at_MTR_STATUS (by decide) | with_reducible exact reg_of hm (at_MTR_GP_STATUS _) (by decide))

theorem ch_modPulse {m : Nat} {s0 : Dev} (s : Dev) (k : Fin 4) (f : PulseSt → PulseSt)
    (hm : Within 0x4000 m) (h0 : Changes m s0 s) :
    Changes m s0 (Dev.modPulse s k f) := by
  unfold Dev.modPulse
  try dsimp only
  repeat' (first | with_reducible assumption | split | (intro _) | with_reducible apply ch_modMtr | exact sub_trans hm (by decide))

theorem ch_pulseDue {m : Nat} {s0 : Dev} (s : Dev) (k : Fin 4)
    (hm : Within 0x14000000000000000000000000000000000000003000000002000000000000000000000000000000000000000000000000000000000000000000084072000000000041A4 m) (h0 : Changes m s0 s) :
    Changes m s0 (Dev.pulseDue s k) := by
  unfold Dev.pulseDue
  try dsimp only
  repeat' (first | with_reducible assumption | split | (intro _) | with_reducible apply ch_when | with_reducible apply ch_bump | with_reducible apply ch_latch | with_reducible apply ch_set | with_reducible apply ch_modPulse | with_reducible apply ch_post | exact sub_trans hm (by decide) | exact bit_of hm (by decide) | with_reducible exact reg_of hm at_MTR_STATUS (by decide) | with_reducible exact reg_of hm (at_MTR_PLS_STATUS _) (by decide) | with_reducible exact reg_of hm (at_MTR_PLS_LOST _) (by decide))

theorem ch_pulsesOf {m : Nat} {s0 : Dev} (s : Dev) (k : Fin 4)
    (hm : Within 0x14000000000000000000000000000000000000003000000002000000000000000000000000000000000000000000000000000000000000000000084072000000000041A4 m) (h0 : Changes m s0 s) :
    Changes m s0 (Dev.pulsesOf s k) := by
  unfold Dev.pulsesOf
  try dsimp only
  repeat' (first | with_reducible assumption | split | (intro _) | with_reducible apply ch_forEach | with_reducible apply ch_modPulse | with_reducible apply ch_pulseDue | exact sub_trans hm (by decide))

theorem ch_pulsesDue {m : Nat} {s0 : Dev} (s : Dev)
    (hm : Within 0x14000000000000000000000000000000000000003000000002000000000000000000000000000000000000000000000000000000000000000000084072000000000041A4 m) (h0 : Changes m s0 s) :
    Changes m s0 (Dev.pulsesDue s) := by
  unfold Dev.pulsesDue
  try dsimp only
  repeat' (first | with_reducible assumption | split | (intro _) | with_reducible apply ch_forEach | with_reducible apply ch_pulsesOf | exact sub_trans hm (by decide))

theorem ch_effPeriodicSave {m : Nat} {s0 : Dev} (s : Dev)
    (hm : Within 0x4041 m) (h0 : Changes m s0 s) :
    Changes m s0 (effPeriodicSave s) := by
  unfold effPeriodicSave
  try dsimp only
  repeat' (first | with_reducible assumption | split | (intro _) | with_reducible apply ch_startSave | with_reducible apply ch_tick | exact sub_trans hm (by decide))

theorem ch_pulseEnd {m : Nat} {s0 : Dev} (s : Dev) (k : Fin 4)
    (hm : Within 0x4001 m) (h0 : Changes m s0 s) :
    Changes m s0 (Dev.pulseEnd s k) := by
  unfold Dev.pulseEnd
  try dsimp only
  repeat' (first | with_reducible assumption | split | (intro _) | with_reducible apply ch_modPulse | with_reducible apply ch_reach | exact sub_trans hm (by decide))

theorem ch_effPulseEnd {m : Nat} {s0 : Dev} (k : Fin 4) (s : Dev)
    (hm : Within 0x4001 m) (h1 : Changes m s0 s) :
    Changes m s0 (effPulseEnd k s) := by
  unfold effPulseEnd
  try dsimp only
  repeat' (first | with_reducible assumption | split | (intro _) | with_reducible apply ch_pulseEnd | exact sub_trans hm (by decide))

theorem ch_bookOrder {m : Nat} {s0 : Dev} (s : Dev) (g : Fin 2) (e : Int)
    (hm : Within 0x14000000000000000000000000000000000000000380000000000000000000000000000000000000000000000000000000000000000000000000084072000000000041A4 m) (h0 : Changes m s0 s) :
    Changes m s0 (Dev.bookOrder s g e) := by
  unfold Dev.bookOrder
  try dsimp only
  repeat' (first | with_reducible assumption | split | (intro _) | with_reducible apply ch_book | exact sub_trans hm (by decide))

theorem ch_harmChannel {m : Nat} {s0 : Dev} (s : Dev) (g : Fin 2) (j : Nat) (w : HarmWindow) (per : Nat) (grouped : Bool) (ref : Rat)
    (hm : Within 0xC00200000000000000000000000000000000000000000000000000000000000000000000000000000000000000000000 m) (h0 : Changes m s0 s) :
    Changes m s0 (Dev.harmChannel s g j w per grouped ref) := by
  unfold Dev.harmChannel
  try dsimp only
  repeat' (first | with_reducible assumption | split | (intro _) | with_reducible apply ch_forEach | with_reducible apply ch_wr | with_reducible exact reg_of hm (at_MTR_CH_THD _) (by decide) | with_reducible exact reg_of hm (at_MTR_HARM_MAG _) (by decide) | with_reducible exact reg_of hm (at_MTR_HARM_PH _) (by decide))

theorem ch_endSave {m : Nat} {s0 : Dev} (s : Dev) (good : Bool)
    (hm : Within 0x140000000000000000000000000000000000000000000001C2000000000000000000000000000000000000000000000000000000000000000000084072000000000041A4 m) (h0 : Changes m s0 s) :
    Changes m s0 (Dev.endSave s good) := by
  unfold Dev.endSave
  try dsimp only
  repeat' (first | with_reducible assumption | split | (intro _) | with_reducible apply ch_when | with_reducible apply ch_set | with_reducible apply ch_set64 | with_reducible apply ch_setb | with_reducible apply ch_incSat | with_reducible apply ch_modMtr | with_reducible apply ch_post | exact sub_trans hm (by decide) | with_reducible exact reg_of hm at_MTR_STATUS (by decide) | with_reducible exact reg_of hm at_MTR_SAVE_STATUS (by decide) | with_reducible exact reg_of hm at_MTR_SAVE_SEQ_LO (by decide) | with_reducible exact reg_of hm at_MTR_SAVE_SEQ_HI (by decide) | with_reducible exact writes_at (reg_of hm at_MTR_SAVE_SEQ_HI (by decide)) hi_MTR_SAVE_SEQ_LO)

theorem ch_channelBlock {m : Nat} {s0 : Dev} (s : Dev) (g : Nat) (x : GpSamples) (j : Nat)
    (hm : Within 0x14000000000000000000000000000000000000000005000000000000000000000000000000000000000000000000000000000000000000000000084072000000000001A4 m) (h0 : Changes m s0 s) :
    Changes m s0 (Dev.channelBlock s g x j) := by
  unfold Dev.channelBlock
  try dsimp only
  repeat' (first | with_reducible assumption | split | (intro _) | with_reducible apply ch_when | with_reducible apply ch_wr | with_reducible apply ch_setb | with_reducible apply ch_post | exact sub_trans hm (by decide) | with_reducible exact reg_of hm (at_MTR_CH_RMS _) (by decide) | with_reducible exact reg_of hm (at_MTR_CH_STATUS _) (by decide))

theorem ch_gridGap {m : Nat} {s0 : Dev} (s : Dev) (g : Fin 2)
    (hm : Within 0x14000000000000000000000000000000000000000000060002000000000000000000000000000000000000000000000000000000000000000000084072000000000041A4 m) (h0 : Changes m s0 s) :
    Changes m s0 (Dev.gridGap s g) := by
  unfold Dev.gridGap
  try dsimp only
  repeat' (first | with_reducible assumption | split | (intro _) | with_reducible apply ch_when | with_reducible apply ch_set64 | with_reducible apply ch_latch | with_reducible apply ch_modMtr | with_reducible apply ch_post | exact sub_trans hm (by decide) | exact bit_of hm (by decide) | with_reducible exact reg_of hm at_MTR_STATUS (by decide) | with_reducible exact reg_of hm (at_MTR_GP_GAP_LO _) (by decide) | with_reducible exact reg_of hm (at_MTR_GP_GAP_HI _) (by decide) | with_reducible exact writes_at (reg_of hm (at_MTR_GP_GAP_HI _) (by decide)) (hi_MTR_GP_GAP_LO _))

theorem ch_gridEnergy {m : Nat} {s0 : Dev} (s : Dev) (g : Fin 2) (sums : Rat × Rat)
    (hm : Within 0x1400000000000000000000000000000000000000038000C000000000000000000000000000000000000000000000000000000000000000000000084072000000000041A4 m) (h0 : Changes m s0 s) :
    Changes m s0 (Dev.gridEnergy s g sums) := by
  unfold Dev.gridEnergy
  try dsimp only
  repeat' (first | with_reducible assumption | split | (intro _) | with_reducible apply ch_wr | with_reducible apply ch_modMtr | with_reducible apply ch_bookSigned | with_reducible apply ch_book | exact sub_trans hm (by decide) | with_reducible exact reg_of hm (at_MTR_GP_P _) (by decide) | with_reducible exact reg_of hm (at_MTR_GP_Q _) (by decide))

theorem ch_gridBlock {m : Nat} {s0 : Dev} (s : Dev) (g : Fin 2) (x : GpSamples)
    (hm : Within 0x140000000000000000000000000000000000000003850EE002000000000000000000000000000000000000000000000000000000000000000000084072000000000041A4 m) (h0 : Changes m s0 s) :
    Changes m s0 (Dev.gridBlock s g x) := by
  unfold Dev.gridBlock
  try dsimp only
  repeat' (first | with_reducible assumption | split | (intro _) | with_reducible apply ch_forEach | with_reducible apply ch_when | with_reducible apply ch_setb | with_reducible apply ch_latch | with_reducible apply ch_bump | with_reducible apply ch_keepCodes | with_reducible apply ch_channelBlock | with_reducible apply ch_modMtr | with_reducible apply ch_gridGap | with_reducible apply ch_gridEnergy | with_reducible apply ch_gridVoltage | exact sub_trans hm (by decide) | exact bit_of hm (by decide) | with_reducible exact reg_of hm at_MTR_STATUS (by decide) | with_reducible exact reg_of hm (at_MTR_GP_STATUS _) (by decide) | with_reducible exact reg_of hm (at_MTR_GP_OVR_CNT _) (by decide))

theorem ch_effSaveCommitCheck {m : Nat} {s0 : Dev} (good : Bool) (s : Dev)
    (hm : Within 0x140000000000000000000000000000000000000000000001C2000000000000000000000000000000000000000000000000000000000000000000084072000000000041A4 m) (h1 : Changes m s0 s) :
    Changes m s0 (effSaveCommitCheck good s) := by
  unfold effSaveCommitCheck
  try dsimp only
  repeat' (first | with_reducible assumption | split | (intro _) | with_reducible apply ch_endSave | exact sub_trans hm (by decide))

theorem ch_pulseStart {m : Nat} {s0 : Dev} (s : Dev) (k : Fin 4)
    (hm : Within 0x100000000000000000000000000000000000000000000000000000000000000000000000000000000000000000004001 m) (h0 : Changes m s0 s) :
    Changes m s0 (Dev.pulseStart s k) := by
  unfold Dev.pulseStart
  try dsimp only
  repeat' (first | with_reducible assumption | split | (intro _) | with_reducible apply ch_set | with_reducible apply ch_reach | with_reducible apply ch_modPulse | exact sub_trans hm (by decide) | with_reducible exact reg_of hm (at_MTR_PLS_STATUS _) (by decide))

theorem ch_pulseEnable {m : Nat} {s0 : Dev} (s : Dev) (k : Fin 4)
    (hm : Within 0x100000000000000000000000000000000000000000000000000000000000000000000000000000000000000000004000 m) (h0 : Changes m s0 s) :
    Changes m s0 (Dev.pulseEnable s k) := by
  unfold Dev.pulseEnable
  try dsimp only
  repeat' (first | with_reducible assumption | split | (intro _) | with_reducible apply ch_set | with_reducible apply ch_modPulse | exact sub_trans hm (by decide) | with_reducible exact reg_of hm (at_MTR_PLS_STATUS _) (by decide))

theorem ch_harmonics {m : Nat} {s0 : Dev} (s : Dev) (g : Fin 2) (w : HarmWindow)
    (hm : Within 0x1400000000000000000000000000000000000000C382012400000000000000000000000000000000000000000000000000000000000000000000084072000000000041E5 m) (h0 : Changes m s0 s) :
    Changes m s0 (Dev.harmonics s g w) := by
  unfold Dev.harmonics
  try dsimp only
  repeat' (first | with_reducible assumption | split | (intro _) | with_reducible apply ch_forEach | with_reducible apply ch_when | with_reducible apply ch_setb | with_reducible apply ch_wr | with_reducible apply ch_bump | with_reducible apply ch_tickAt | with_reducible apply ch_harmChannel | with_reducible apply ch_bookOrder | with_reducible apply ch_post | exact sub_trans hm (by decide) | with_reducible exact reg_of hm at_MTR_HARM_SEQ (by decide) | with_reducible exact reg_of hm (at_MTR_GP_STATUS _) (by decide) | with_reducible exact reg_of hm (at_MTR_GP_FREQ _) (by decide))

theorem ch_effPulseStart {m : Nat} {s0 : Dev} (k : Fin 4) (s : Dev)
    (hm : Within 0x100000000000000000000000000000000000000000000000000000000000000000000000000000000000000000004001 m) (h1 : Changes m s0 s) :
    Changes m s0 (effPulseStart k s) := by
  unfold effPulseStart
  try dsimp only
  repeat' (first | with_reducible assumption | split | (intro _) | with_reducible apply ch_pulseStart | exact sub_trans hm (by decide))

theorem ch_effHarmonicWindowEnd {m : Nat} {s0 : Dev} (g : Fin 2) (w : HarmWindow) (s : Dev)
    (hm : Within 0x1400000000000000000000000000000000000000C382012400000000000000000000000000000000000000000000000000000000000000000000084072000000000041E5 m) (h2 : Changes m s0 s) :
    Changes m s0 (effHarmonicWindowEnd g w s) := by
  unfold effHarmonicWindowEnd
  try dsimp only
  repeat' (first | with_reducible assumption | split | (intro _) | with_reducible apply ch_harmonics | exact sub_trans hm (by decide))

theorem ch_execSaveCommitCheck {m : Nat} {good : Bool} {s t : State} (hm : Within 0x140000000000000000000000000000000000000000000001C2000000000000000000000000000000000000000000000000000000000000000000084072000000000041A4 m)
    (h : execSaveCommitCheck good s = .next t) : t.pending = s.pending ∧ Changes m s.dev t.dev := by
  unfold execSaveCommitCheck at h
  refine of_onRun h (bit_of hm (by decide)) (fun d hd => ?_)
  try dsimp only
  repeat' (first | with_reducible assumption | split | (intro _) | with_reducible apply ch_effSaveCommitCheck | exact sub_trans hm (by decide))

theorem ch_execPeriodicSave {m : Nat}  {s t : State} (hm : Within 0x4045 m)
    (h : execPeriodicSave  s = .next t) : t.pending = s.pending ∧ Changes m s.dev t.dev := by
  unfold execPeriodicSave at h
  refine of_onRun h (bit_of hm (by decide)) (fun d hd => ?_)
  try dsimp only
  repeat' (first | with_reducible assumption | split | (intro _) | with_reducible apply ch_effPeriodicSave | exact sub_trans hm (by decide))

theorem ch_execPulseStart {m : Nat} {k : Fin 4} {s t : State} (hm : Within 0x100000000000000000000000000000000000000000000000000000000000000000000000000000000000000000004005 m)
    (h : execPulseStart k s = .next t) : t.pending = s.pending ∧ Changes m s.dev t.dev := by
  unfold execPulseStart at h
  refine of_onRun h (bit_of hm (by decide)) (fun d hd => ?_)
  try dsimp only
  repeat' (first | with_reducible assumption | split | (intro _) | with_reducible apply ch_effPulseStart | exact sub_trans hm (by decide))

theorem ch_execHarmonicWindowEnd {m : Nat} {g : Fin 2} {w : HarmWindow} {s t : State} (hm : Within 0x1400000000000000000000000000000000000000C382012400000000000000000000000000000000000000000000000000000000000000000000084072000000000041E5 m)
    (h : execHarmonicWindowEnd g w s = .next t) : t.pending = s.pending ∧ Changes m s.dev t.dev := by
  unfold execHarmonicWindowEnd at h
  refine of_onRun h (bit_of hm (by decide)) (fun d hd => ?_)
  try dsimp only
  repeat' (first | with_reducible assumption | split | (intro _) | with_reducible apply ch_effHarmonicWindowEnd | exact sub_trans hm (by decide))

theorem ch_execPulseEnd {m : Nat} {k : Fin 4} {s t : State} (hm : Within 0x4005 m)
    (h : execPulseEnd k s = .next t) : t.pending = s.pending ∧ Changes m s.dev t.dev := by
  unfold execPulseEnd at h
  refine of_onRun h (bit_of hm (by decide)) (fun d hd => ?_)
  try dsimp only
  repeat' (first | with_reducible assumption | split | (intro _) | with_reducible apply ch_effPulseEnd | exact sub_trans hm (by decide))

end Dev

end Sys2Proof.Machine
end

