-- ==== Sys2Proof/Laws/TriadCh.lean ====
section
/-! SUPPORT. What each definition of Machine/Triad.lean may change. -/

namespace Sys2Proof.Machine

set_option linter.all false
set_option Elab.async false

namespace Dev

theorem ch_modTri {m : Nat} {s0 : Dev} (s : Dev) (n : Fin 16) (f : TriOut → TriOut)
    (hm : Within 0x8000 m) (h0 : Changes m s0 s) :
    Changes m s0 (Dev.modTri s n f) := by
  unfold Dev.modTri
  try dsimp only
  repeat' (first | with_reducible assumption | split | (intro _) | with_reducible apply ch_putTri | exact bit_of hm (by decide))

theorem ch_voted {m : Nat} {s0 : Dev} (s : Dev) (n : Fin 16) (v : HeadBlock)
    (hm : Within 0x14000000000000000048000000000000000000000000000000000000000000000000000000000000000000000000000000000000000000000000084072000000000081A4 m) (h0 : Changes m s0 s) :
    Changes m s0 (Dev.voted s n v) := by
  unfold Dev.voted
  try dsimp only
  repeat' (first | with_reducible assumption | split | (intro _) | with_reducible apply ch_when | with_reducible apply ch_set | with_reducible apply ch_setb | with_reducible apply ch_modTri | with_reducible apply ch_setBit | with_reducible apply ch_post | exact sub_trans hm (by decide) | with_reducible exact reg_of hm at_TRI_STATUS (by decide) | with_reducible exact reg_of hm (at_TRI_OUT_STATUS _) (by decide))

theorem ch_unvoted {m : Nat} {s0 : Dev} (s : Dev) (n : Fin 16) (bs : List HeadBlock)
    (hm : Within 0x140000000000000003C8000000000000000000000000000000000000000000000000000000000000000000000000000000000000000000000000084072000000000081A4 m) (h0 : Changes m s0 s) :
    Changes m s0 (Dev.unvoted s n bs) := by
  unfold Dev.unvoted
  try dsimp only
  repeat' (first | with_reducible assumption | split | (intro _) | with_reducible apply ch_when | with_reducible apply ch_incSat | with_reducible apply ch_setb | with_reducible apply ch_bump | with_reducible apply ch_set64 | with_reducible apply ch_modTri | with_reducible apply ch_setBit | with_reducible apply ch_post | exact sub_trans hm (by decide) | with_reducible exact reg_of hm at_TRI_STATUS (by decide) | with_reducible exact reg_of hm (at_TRI_OUT_STATUS _) (by decide) | with_reducible exact reg_of hm (at_TRI_OUT_GAP_LO _) (by decide) | with_reducible exact reg_of hm (at_TRI_OUT_GAP_HI _) (by decide) | with_reducible exact reg_of hm (at_TRI_OUT_UNVOTED _) (by decide) | with_reducible exact writes_at (reg_of hm (at_TRI_OUT_GAP_HI _) (by decide)) (hi_TRI_OUT_GAP_LO _))

theorem ch_judgeHead {m : Nat} {s0 : Dev} (s : Dev) (a1 : Fin 48) (b : Option HeadBlock) (ref : Option HeadBlock)
    (hm : Within 0xC00000000000000000000000000000000000000000000000000000000000000000000000000000000000000000000000000000000000000000000000 m) (h0 : Changes m s0 s) :
    Changes m s0 (Dev.judgeHead s a1 b ref) := by
  unfold Dev.judgeHead
  try dsimp only
  repeat' (first | with_reducible assumption | split | (intro _) | with_reducible apply ch_set | with_reducible apply ch_incSat | with_reducible apply ch_bump | with_reducible exact reg_of hm (at_TRI_HEAD_STATUS _) (by decide) | with_reducible exact reg_of hm (at_TRI_HEAD_DIS_CNT _) (by decide))

theorem ch_testHead {m : Nat} {s0 : Dev} (s : Dev) (a1 : Fin 48) (b : Option HeadBlock) (ref : Option HeadBlock)
    (hm : Within 0x140000000000000140480000000000000F000000000000000000000000000000000000000001000000000000000000000000000000000000000008407200000000028DA6 m) (h0 : Changes m s0 s) :
    Changes m s0 (Dev.testHead s a1 b ref).1 := by
  unfold Dev.testHead
  try dsimp only
  repeat' (first | with_reducible assumption | split | (intro _) | with_reducible apply ch_set | with_reducible apply ch_incSat | with_reducible apply ch_modHead | with_reducible apply ch_sendCtrl | with_reducible apply ch_headFail | exact sub_trans hm (by decide) | with_reducible exact reg_of hm (at_TRI_HEAD_STATUS _) (by decide) | with_reducible exact reg_of hm (at_TRI_HEAD_TEST _) (by decide))

theorem ch_admitHead {m : Nat} {s0 : Dev} (s : Dev) (a1 : Fin 48)
    (hm : Within 0x14000000000000014048000000000000000000000000000000000000000000000000000000000000000000000000000000000000000000000000084072000000000081A4 m) (h0 : Changes m s0 s) :
    Changes m s0 (Dev.admitHead s a1) := by
  unfold Dev.admitHead
  try dsimp only
  repeat' (first | with_reducible assumption | split | (intro _) | with_reducible apply ch_set | with_reducible apply ch_post | with_reducible apply ch_setHead | exact sub_trans hm (by decide) | with_reducible exact reg_of hm (at_TRI_HEAD_STATUS _) (by decide))

theorem ch_settleHead {m : Nat} {s0 : Dev} (s : Dev) (a1 : Fin 48)
    (hm : Within 0x140000000000000140480000000000000F0000000000000000000000000000000000000000000000000000000000000000000000000000000000084072000000000281A4 m) (h0 : Changes m s0 s) :
    Changes m s0 (Dev.settleHead s a1) := by
  unfold Dev.settleHead
  try dsimp only
  repeat' (first | with_reducible assumption | split | (intro _) | with_reducible apply ch_headStandby | with_reducible apply ch_headTest | with_reducible apply ch_modHead | exact sub_trans hm (by decide))

theorem ch_triadBlock {m : Nat} {s0 : Dev} (s : Dev) (n : Fin 16) (b : Nat)
    (hm : Within 0x1400000000000001C7C80000000000000F000000000000000000000000000000000000000001000000000000000000000000000000000000000008407200000000028DA6 m) (h0 : Changes m s0 s) :
    Changes m s0 (Dev.triadBlock s n b).1 := by
  unfold Dev.triadBlock
  try dsimp only
  repeat' (first | with_reducible assumption | split | (intro _) | with_reducible apply ch_forEach | with_reducible apply ch_when | with_reducible apply ch_bump | with_reducible apply ch_modTri | with_reducible apply ch_voted | with_reducible apply ch_unvoted | with_reducible apply ch_judgeHead | with_reducible apply ch_testHead | with_reducible apply ch_admitHead | with_reducible apply ch_settleHead | with_reducible apply ch_foldl Prod.fst | exact sub_trans hm (by decide) | with_reducible exact reg_of hm (at_TRI_OUT_DEGRADED _) (by decide))

theorem ch_triadEnable {m : Nat} {s0 : Dev} (s : Dev) (n : Fin 16)
    (hm : Within 0x14000000000000014068000000000000000000000000000000000000000000000000000000000000000000000000000000000000000000000000084072000000000081A4 m) (h0 : Changes m s0 s) :
    Changes m s0 (Dev.triadEnable s n).1 := by
  unfold Dev.triadEnable
  try dsimp only
  repeat' (first | with_reducible assumption | split | (intro _) | with_reducible apply ch_setb | with_reducible apply ch_triadStart | with_reducible apply ch_refreshTriad | exact sub_trans hm (by decide) | with_reducible exact reg_of hm (at_TRI_OUT_CFG _) (by decide))

theorem ch_effTriadEnable {m : Nat} {s0 : Dev} (n : Fin 16) (s : Dev)
    (hm : Within 0x14000000000000014068000000000000000000000000000000000000000000000000000000000000000000000000000000000000000000000000084072000000000081A4 m) (h1 : Changes m s0 s) :
    Changes m s0 (effTriadEnable n s) := by
  unfold effTriadEnable
  try dsimp only
  repeat' (first | with_reducible assumption | split | (intro _) | with_reducible apply ch_triadEnable | with_reducible apply ch_answer | exact sub_trans hm (by decide))

theorem ch_readmitTimer {m : Nat} {s0 : Dev} (s : Dev) (a1 : Fin 48)
    (hm : Within 0x14000000000000014048000000000000000000000000000000000000000000000000000000000000000000000000000000000000000000000000084072000000000081A5 m) (h0 : Changes m s0 s) :
    Changes m s0 (Dev.readmitTimer s a1) := by
  unfold Dev.readmitTimer
  try dsimp only
  repeat' (first | with_reducible assumption | split | (intro _) | with_reducible apply ch_headTest | with_reducible apply ch_reach | exact sub_trans hm (by decide))

theorem ch_effHeadReadmitTimer {m : Nat} {s0 : Dev} (a0 : Fin 48) (s : Dev)
    (hm : Within 0x14000000000000014048000000000000000000000000000000000000000000000000000000000000000000000000000000000000000000000000084072000000000081A5 m) (h1 : Changes m s0 s) :
    Changes m s0 (effHeadReadmitTimer a0 s) := by
  unfold effHeadReadmitTimer
  try dsimp only
  repeat' (first | with_reducible assumption | split | (intro _) | with_reducible apply ch_readmitTimer | exact sub_trans hm (by decide))

theorem ch_resyncTimeout {m : Nat} {s0 : Dev} (s : Dev) (a1 : Fin 48)
    (hm : Within 0x140000000000000140480000000000000F0000000000000000000000000000000000000000000000000000000000000000000000000000000000084072000000000281A5 m) (h0 : Changes m s0 s) :
    Changes m s0 (Dev.resyncTimeout s a1) := by
  unfold Dev.resyncTimeout
  try dsimp only
  repeat' (first | with_reducible assumption | split | (intro _) | with_reducible apply ch_headFail | with_reducible apply ch_reach | exact sub_trans hm (by decide))

theorem ch_selfResult {m : Nat} {s0 : Dev} (s : Dev) (a1 : Fin 48) (r : SelfResult)
    (hm : Within 0x140000000000000140480000000000000F0000000000000000000000000000000000000000000000000000000000000000000000000000000000084072000000000281A5 m) (h0 : Changes m s0 s) :
    Changes m s0 (Dev.selfResult s a1 r) := by
  unfold Dev.selfResult
  try dsimp only
  repeat' (first | with_reducible assumption | split | (intro _) | with_reducible apply ch_set | with_reducible apply ch_modHead | with_reducible apply ch_headFail | with_reducible apply ch_reach | exact sub_trans hm (by decide) | with_reducible exact reg_of hm (at_TRI_HEAD_STATUS _) (by decide) | with_reducible exact reg_of hm (at_TRI_HEAD_TEST _) (by decide))

theorem ch_effHeadSelfTestResult {m : Nat} {s0 : Dev} (a0 : Fin 48) (r : SelfResult) (s : Dev)
    (hm : Within 0x140000000000000140480000000000000F0000000000000000000000000000000000000000000000000000000000000000000000000000000000084072000000000281A5 m) (h2 : Changes m s0 s) :
    Changes m s0 (effHeadSelfTestResult a0 r s) := by
  unfold effHeadSelfTestResult
  try dsimp only
  repeat' (first | with_reducible assumption | split | (intro _) | with_reducible apply ch_selfResult | exact sub_trans hm (by decide))

theorem ch_readmitRequest {m : Nat} {s0 : Dev} (s : Dev) (n : Fin 16) (a2 : Fin 48)
    (hm : Within 0x8000 m) (h0 : Changes m s0 s) :
    Changes m s0 (Dev.readmitRequest s n a2).1 := by
  unfold Dev.readmitRequest
  try dsimp only
  repeat' (first | with_reducible assumption | split | (intro _) | with_reducible apply ch_modHead | exact sub_trans hm (by decide))

theorem ch_effHeadReadmitRequest {m : Nat} {s0 : Dev} (n : Fin 16) (k : Fin 3) (s : Dev)
    (hm : Within 0x8004 m) (h2 : Changes m s0 s) :
    Changes m s0 (effHeadReadmitRequest n k s) := by
  unfold effHeadReadmitRequest
  try dsimp only
  repeat' (first | with_reducible assumption | split | (intro _) | with_reducible apply ch_readmitRequest | with_reducible apply ch_answer | exact sub_trans hm (by decide))

theorem ch_effHeadResyncTimeout {m : Nat} {s0 : Dev} (a0 : Fin 48) (s : Dev)
    (hm : Within 0x140000000000000140480000000000000F0000000000000000000000000000000000000000000000000000000000000000000000000000000000084072000000000281A5 m) (h1 : Changes m s0 s) :
    Changes m s0 (effHeadResyncTimeout a0 s) := by
  unfold effHeadResyncTimeout
  try dsimp only
  repeat' (first | with_reducible assumption | split | (intro _) | with_reducible apply ch_resyncTimeout | exact sub_trans hm (by decide))

theorem ch_standbyRequest {m : Nat} {s0 : Dev} (s : Dev) (n : Fin 16) (a2 : Fin 48)
    (hm : Within 0x8000 m) (h0 : Changes m s0 s) :
    Changes m s0 (Dev.standbyRequest s n a2).1 := by
  unfold Dev.standbyRequest
  try dsimp only
  repeat' (first | with_reducible assumption | split | (intro _) | with_reducible apply ch_modHead | exact sub_trans hm (by decide))

theorem ch_effHeadStandbyRequest {m : Nat} {s0 : Dev} (n : Fin 16) (k : Fin 3) (s : Dev)
    (hm : Within 0x8004 m) (h2 : Changes m s0 s) :
    Changes m s0 (effHeadStandbyRequest n k s) := by
  unfold effHeadStandbyRequest
  try dsimp only
  repeat' (first | with_reducible assumption | split | (intro _) | with_reducible apply ch_standbyRequest | with_reducible apply ch_answer | exact sub_trans hm (by decide))

theorem ch_execTriadEnable {m : Nat} {n : Fin 16} {s t : State} (hm : Within 0x14000000000000014068000000000000000000000000000000000000000000000000000000000000000000000000000000000000000000000000084072000000000081A4 m)
    (h : execTriadEnable n s = .next t) : t.pending = s.pending ∧ Changes m s.dev t.dev := by
  unfold execTriadEnable at h
  refine of_onReg h (bit_of hm (by decide)) (fun d hd => ?_)
  try dsimp only
  repeat' (first | with_reducible assumption | split | (intro _) | with_reducible apply ch_effTriadEnable | exact sub_trans hm (by decide))

theorem ch_execHeadReadmitTimer {m : Nat} {a0 : Fin 48} {s t : State} (hm : Within 0x14000000000000014048000000000000000000000000000000000000000000000000000000000000000000000000000000000000000000000000084072000000000081A5 m)
    (h : execHeadReadmitTimer a0 s = .next t) : t.pending = s.pending ∧ Changes m s.dev t.dev := by
  unfold execHeadReadmitTimer at h
  refine of_onRun h (bit_of hm (by decide)) (fun d hd => ?_)
  try dsimp only
  repeat' (first | with_reducible assumption | split | (intro _) | with_reducible apply ch_effHeadReadmitTimer | exact sub_trans hm (by decide))

theorem ch_execHeadSelfTestResult {m : Nat} {a0 : Fin 48} {r : SelfResult} {s t : State} (hm : Within 0x140000000000000140480000000000000F0000000000000000000000000000000000000000000000000000000000000000000000000000000000084072000000000281A5 m)
    (h : execHeadSelfTestResult a0 r s = .next t) : t.pending = s.pending ∧ Changes m s.dev t.dev := by
  unfold execHeadSelfTestResult at h
  refine of_onRun h (bit_of hm (by decide)) (fun d hd => ?_)
  try dsimp only
  repeat' (first | with_reducible assumption | split | (intro _) | with_reducible apply ch_effHeadSelfTestResult | exact sub_trans hm (by decide))

theorem ch_execHeadResyncTimeout {m : Nat} {a0 : Fin 48} {s t : State} (hm : Within 0x140000000000000140480000000000000F0000000000000000000000000000000000000000000000000000000000000000000000000000000000084072000000000281A5 m)
    (h : execHeadResyncTimeout a0 s = .next t) : t.pending = s.pending ∧ Changes m s.dev t.dev := by
  unfold execHeadResyncTimeout at h
  refine of_onRun h (bit_of hm (by decide)) (fun d hd => ?_)
  try dsimp only
  repeat' (first | with_reducible assumption | split | (intro _) | with_reducible apply ch_effHeadResyncTimeout | exact sub_trans hm (by decide))

theorem ch_execHeadReadmitRequest {m : Nat} {n : Fin 16} {k : Fin 3} {s t : State} (hm : Within 0x8004 m)
    (h : execHeadReadmitRequest n k s = .next t) : t.pending = s.pending ∧ Changes m s.dev t.dev := by
  unfold execHeadReadmitRequest at h
  refine of_onReg h (bit_of hm (by decide)) (fun d hd => ?_)
  try dsimp only
  repeat' (first | with_reducible assumption | split | (intro _) | with_reducible apply ch_effHeadReadmitRequest | exact sub_trans hm (by decide))

theorem ch_execHeadStandbyRequest {m : Nat} {n : Fin 16} {k : Fin 3} {s t : State} (hm : Within 0x8004 m)
    (h : execHeadStandbyRequest n k s = .next t) : t.pending = s.pending ∧ Changes m s.dev t.dev := by
  unfold execHeadStandbyRequest at h
  refine of_onReg h (bit_of hm (by decide)) (fun d hd => ?_)
  try dsimp only
  repeat' (first | with_reducible assumption | split | (intro _) | with_reducible apply ch_effHeadStandbyRequest | exact sub_trans hm (by decide))

end Dev

end Sys2Proof.Machine
end

