-- ==== Sys2Proof/Laws/TariffCh.lean ====
section
/-! SUPPORT. What each definition of Machine/Tariff.lean may change. -/

namespace Sys2Proof.Machine

set_option linter.all false
set_option Elab.async false

namespace Dev

theorem ch_showTariff {m : Nat} {s0 : Dev} (s : Dev)
    (hm : Within 0x14000000000000000000000000000000000001000000000000000000000000000000000000000000000000000000000000000000000000000000084072000000000001A4 m) (h0 : Changes m s0 s) :
    Changes m s0 (Dev.showTariff s) := by
  unfold Dev.showTariff
  try dsimp only
  repeat' (first | with_reducible assumption | split | (intro _) | with_reducible apply ch_when | with_reducible apply ch_set | with_reducible apply ch_post | exact sub_trans hm (by decide) | with_reducible exact reg_of hm at_BIL_STATUS (by decide))


end Dev

end Sys2Proof.Machine
end

