-- ==== Sys2Proof/Laws/BillingCh.lean ====
section
/-! SUPPORT. What each definition of Machine/Billing.lean may change. -/

namespace Sys2Proof.Machine

set_option linter.all false
set_option Elab.async false

namespace Dev

theorem ch_clockStep {m : Nat} {s0 : Dev} (s : Dev)
    (hm : Within 0x140000000000000000000000000000000F0000000000000000000000000000000000000000000000000000000000000000000000000000000000084072000000000301A4 m) (h0 : Changes m s0 s) :
    Changes m s0 (Dev.clockStep s) := by
  unfold Dev.clockStep
  try dsimp only
  repeat' (first | with_reducible assumption | split | (intro _) | with_reducible apply ch_flagSessions | with_reducible apply ch_bookTamper | exact sub_trans hm (by decide))

theorem ch_latchTamper {m : Nat} {s0 : Dev} (s : Dev) (t : Nat)
    (hm : Within 0x800000000000000000000000000000000000000000000000000000000000000000000000000000000000000000000000020002 m) (h0 : Changes m s0 s) :
    Changes m s0 (Dev.latchTamper s t) := by
  unfold Dev.latchTamper
  try dsimp only
  repeat' (first | with_reducible assumption | split | (intro _) | with_reducible apply ch_setb | with_reducible apply ch_fresh | with_reducible apply ch_modBil | exact sub_trans hm (by decide) | with_reducible exact reg_of hm at_BIL_TAMP_STATUS (by decide))

theorem ch_cover {m : Nat} {s0 : Dev} (s : Dev) (pin : Fin 4) (high : Bool)
    (hm : Within 0x140000000000000000000000000000000F8000000000000000000000000000000000000000000000000000000000000000000000000000000000084072000000000201A6 m) (h0 : Changes m s0 s) :
    Changes m s0 (Dev.cover s pin high) := by
  unfold Dev.cover
  try dsimp only
  repeat' (first | with_reducible assumption | split | (intro _) | with_reducible apply ch_latchTamper | with_reducible apply ch_bookTamper | exact sub_trans hm (by decide) | exact bit_of hm (by decide))

theorem ch_effTamperCover {m : Nat} {s0 : Dev} (pin : Fin 4) (high : Bool) (s : Dev)
    (hm : Within 0x140000000000000000000000000000000F8000000000000000000000000000000000000000000000000000000000000000000000000000000000084072000000000201A6 m) (h2 : Changes m s0 s) :
    Changes m s0 (effTamperCover pin high s) := by
  unfold effTamperCover
  try dsimp only
  repeat' (first | with_reducible assumption | split | (intro _) | with_reducible apply ch_cover | exact sub_trans hm (by decide))

theorem ch_clearWindows {m : Nat} {s0 : Dev} (s : Dev)
    (hm : Within 0x20000 m) (h0 : Changes m s0 s) :
    Changes m s0 (Dev.clearWindows s) := by
  unfold Dev.clearWindows
  try dsimp only
  repeat' (first | with_reducible assumption | split | (intro _) | with_reducible apply ch_modBil | exact sub_trans hm (by decide))

theorem ch_putDemand {m : Nat} {s0 : Dev} (s : Dev) (d : Fin 20) (i : Nat) (utcSec : Nat) (value : Nat) (marks : Nat)
    (hm : Within 0xF80000000000000000000000000000000000000000000000000000000000000000000000000000000000000000000000000000000 m) (h0 : Changes m s0 s) :
    Changes m s0 (Dev.putDemand s d i utcSec value marks) := by
  unfold Dev.putDemand
  try dsimp only
  repeat' (first | with_reducible assumption | split | (intro _) | with_reducible apply ch_set | with_reducible exact reg_of hm (at_BIL_DMAX_VALUE _ _) (by decide) | with_reducible exact reg_of hm (at_BIL_DMAX_UTC _ _) (by decide) | with_reducible exact reg_of hm (at_BIL_DMAX_MARKS _ _) (by decide) | with_reducible exact reg_of hm (at_BIL_DNOW_VALUE _) (by decide) | with_reducible exact reg_of hm (at_BIL_DNOW_MARKS _) (by decide))

theorem ch_closeSub {m : Nat} {s0 : Dev} (s : Dev) (i : Nat) (u : Nat) (a3 : Nat)
    (hm : Within 0xF80000000000000000000000000000000000000000000000000000000000000000000000000000000000000000000000000020000 m) (h0 : Changes m s0 s) :
    Changes m s0 (Dev.closeSub s i u a3) := by
  unfold Dev.closeSub
  try dsimp only
  repeat' (first | with_reducible assumption | split | (intro _) | with_reducible apply ch_forEach | with_reducible apply ch_putDemand | with_reducible apply ch_modBil | with_reducible apply ch_putDemand | exact sub_trans hm (by decide) | exact bit_of hm (by decide))

theorem ch_modClosed {m : Nat} {s0 : Dev} (s : Dev) (u : Nat)
    (hm : Within 0x20000 m) (h0 : Changes m s0 s) :
    Changes m s0 (Dev.modClosed s u) := by
  unfold Dev.modClosed
  try dsimp only
  repeat' (first | with_reducible assumption | split | (intro _) | with_reducible apply ch_modBil | exact sub_trans hm (by decide))

theorem ch_clearMaxima {m : Nat} {s0 : Dev} (s : Dev)
    (hm : Within 0x380000000000000000000000000000000000000000000000000000000000000000000000000000000000000000000000000000000 m) (h0 : Changes m s0 s) :
    Changes m s0 (Dev.clearMaxima s) := by
  unfold Dev.clearMaxima
  try dsimp only
  repeat' (first | with_reducible assumption | split | (intro _) | with_reducible apply ch_forEach | with_reducible apply ch_set | with_reducible exact reg_of hm (at_BIL_DMAX_VALUE _ _) (by decide) | with_reducible exact reg_of hm (at_BIL_DMAX_UTC _ _) (by decide) | with_reducible exact reg_of hm (at_BIL_DMAX_MARKS _ _) (by decide))

theorem ch_openPeriod {m : Nat} {s0 : Dev} (s : Dev) (u : Nat)
    (hm : Within 0x380000400000000000000000000000000000000000000000000000000000000000000000000000000000000000000000000020000 m) (h0 : Changes m s0 s) :
    Changes m s0 (Dev.openPeriod s u) := by
  unfold Dev.openPeriod
  try dsimp only
  repeat' (first | with_reducible assumption | split | (intro _) | with_reducible apply ch_set | with_reducible apply ch_clearMaxima | with_reducible apply ch_modBil | exact sub_trans hm (by decide) | with_reducible exact reg_of hm at_BIL_PERIOD_NO (by decide))

theorem ch_closePeriod {m : Nat} {s0 : Dev} (s : Dev) (u : Nat) (a2 : Nat) (many : Nat)
    (hm : Within 0x14000000000000000000000000000000000000000000000000000000000000000000000000000000000000000000000000000000000000000000084072000000000241A4 m) (h0 : Changes m s0 s) :
    Changes m s0 (Dev.closePeriod s u a2 many) := by
  unfold Dev.closePeriod
  try dsimp only
  repeat' (first | with_reducible assumption | split | (intro _) | with_reducible apply ch_when | with_reducible apply ch_startSave | with_reducible apply ch_modBil | with_reducible apply ch_post | exact sub_trans hm (by decide))

theorem ch_turnPeriod {m : Nat} {s0 : Dev} (s : Dev) (u : Nat) (a2 : Nat) (many : Nat)
    (hm : Within 0x14000000000000000000000000000003800004000000000000000000000000000000000000000000000000000000000000000000000000000000084072000000000241A4 m) (h0 : Changes m s0 s) :
    Changes m s0 (Dev.turnPeriod s u a2 many) := by
  unfold Dev.turnPeriod
  try dsimp only
  repeat' (first | with_reducible assumption | split | (intro _) | with_reducible apply ch_openPeriod | with_reducible apply ch_closePeriod | exact sub_trans hm (by decide))

theorem ch_scheduledClose {m : Nat} {s0 : Dev} (s : Dev) (u : Nat) (a2 : Nat)
    (hm : Within 0x14000000000000000000000000000003800004000000000000000000000000000000000000000000000000000000000000000000000000000000084072000000000241A4 m) (h0 : Changes m s0 s) :
    Changes m s0 (Dev.scheduledClose s u a2) := by
  unfold Dev.scheduledClose
  try dsimp only
  repeat' (first | with_reducible assumption | split | (intro _) | with_reducible apply ch_modClosed | with_reducible apply ch_turnPeriod | exact sub_trans hm (by decide))

theorem ch_closeBetween {m : Nat} {s0 : Dev} (s : Dev) (a : Nat) (b : Nat) (dm : Nat) (pm : Nat) (most : Option Nat)
    (hm : Within 0x1400000000000000000000000000000F800004000000000000000000000000000000000000000000000000000000000000000000000000000000084072000000000241A4 m) (h0 : Changes m s0 s) :
    Changes m s0 (Dev.closeBetween s a b dm pm most) := by
  unfold Dev.closeBetween
  try dsimp only
  repeat' (first | with_reducible assumption | split | (intro _) | with_reducible apply ch_forEach | with_reducible apply ch_scheduledClose | with_reducible apply ch_closeSub | with_reducible apply ch_modClosed | with_reducible apply ch_turnPeriod | exact sub_trans hm (by decide))

theorem ch_showSlew {m : Nat} {s0 : Dev} (s : Dev) (w : Option Slew)
    (hm : Within 0x2100000000000000000000000000000000000000000000000000000000000000000000000000000000000000000000020000 m) (h0 : Changes m s0 s) :
    Changes m s0 (Dev.showSlew s w) := by
  unfold Dev.showSlew
  try dsimp only
  repeat' (first | with_reducible assumption | split | (intro _) | with_reducible apply ch_setb | with_reducible apply ch_wr | with_reducible apply ch_modBil | exact sub_trans hm (by decide) | with_reducible exact reg_of hm at_BIL_STATUS (by decide) | with_reducible exact reg_of hm at_BIL_SLEW (by decide))

theorem ch_setPair {m : Nat} {s0 : Dev} (s : Dev) (d : Nat) (u : Nat) (frac : optParam Nat 0)
    (hm : Within 0x14000000000000000000000000000000000000000000000000000000000000000000000000000000000000000000000000000000000000000000084072000000000001E4 m) (h0 : Changes m s0 s) :
    Changes m s0 (Dev.setPair s d u frac) := by
  unfold Dev.setPair
  try dsimp only
  repeat' (first | with_reducible assumption | split | (intro _) | with_reducible apply ch_putGen | with_reducible apply ch_ledger | exact sub_trans hm (by decide) | exact bit_of hm (by decide))

theorem ch_jump {m : Nat} {s0 : Dev} (s : Dev) (u : Nat)
    (hm : Within 0x14000000000000000000000000000000000021000000000000000000000000000000000000000000000000000000000000000000000000000000084072000000000201E4 m) (h0 : Changes m s0 s) :
    Changes m s0 (Dev.jump s u) := by
  unfold Dev.jump
  try dsimp only
  repeat' (first | with_reducible assumption | split | (intro _) | with_reducible apply ch_showSlew | with_reducible apply ch_setPair | exact sub_trans hm (by decide))

theorem ch_startSub {m : Nat} {s0 : Dev} (s : Dev) (a1 : Nat)
    (hm : Within 0x20000 m) (h0 : Changes m s0 s) :
    Changes m s0 (Dev.startSub s a1) := by
  unfold Dev.startSub
  try dsimp only
  repeat' (first | with_reducible assumption | split | (intro _) | with_reducible apply ch_modBil | exact sub_trans hm (by decide))

theorem ch_validate {m : Nat} {s0 : Dev} (s : Dev) (u : Nat)
    (hm : Within 0x1400000000000000000000000000000F8F0025000000000000000000000000000000000000000000000000000000000000000000000000000000084072000000000341E4 m) (h0 : Changes m s0 s) :
    Changes m s0 (Dev.validate s u) := by
  unfold Dev.validate
  try dsimp only
  repeat' (first | with_reducible assumption | split | (intro _) | with_reducible apply ch_when | with_reducible apply ch_setb | with_reducible apply ch_clearWindows | with_reducible apply ch_closeSub | with_reducible apply ch_modBil | with_reducible apply ch_closeBetween | with_reducible apply ch_modClosed | with_reducible apply ch_jump | with_reducible apply ch_startSub | with_reducible apply ch_clockStep | exact sub_trans hm (by decide) | with_reducible exact reg_of hm at_BIL_STATUS (by decide))

theorem ch_endSubInvalid {m : Nat} {s0 : Dev} (s : Dev) (e : Nat)
    (hm : Within 0xF80000000000000000000000000000000000000000000000000000000000000000000000000000000000000000000000000020000 m) (h0 : Changes m s0 s) :
    Changes m s0 (Dev.endSubInvalid s e) := by
  unfold Dev.endSubInvalid
  try dsimp only
  repeat' (first | with_reducible assumption | split | (intro _) | with_reducible apply ch_modBil | with_reducible apply ch_closeSub | exact sub_trans hm (by decide))

theorem ch_endSubValid {m : Nat} {s0 : Dev} (s : Dev) (e : Nat)
    (hm : Within 0xF80000000000000000000000000000000000000000000000000000000000000000000000000000000000000000000000000020000 m) (h0 : Changes m s0 s) :
    Changes m s0 (Dev.endSubValid s e) := by
  unfold Dev.endSubValid
  try dsimp only
  repeat' (first | with_reducible assumption | split | (intro _) | with_reducible apply ch_modBil | with_reducible apply ch_closeSub | exact sub_trans hm (by decide))

theorem ch_closeDue {m : Nat} {s0 : Dev} (s : Dev) (u : Nat) (d : Nat) (a3 : Nat)
    (hm : Within 0x1400000000000000000000000000000F800004000000000000000000000000000000000000000000000000000000000000000000000000000000084072000000000241A4 m) (h0 : Changes m s0 s) :
    Changes m s0 (Dev.closeDue s u d a3) := by
  induction a3 generalizing s with
  | zero => exact h0
  | succ k ih =>
    unfold Dev.closeDue
    split
    · rename_i e
      apply ih
      unfold Dev.closeNext at e
      dsimp only at e
      repeat' split at e
      all_goals cases e
      all_goals
        repeat' (first | with_reducible assumption | with_reducible apply ch_endSubInvalid | with_reducible apply ch_scheduledClose | with_reducible apply ch_endSubValid | exact sub_trans hm (by decide))
    · exact h0


theorem ch_periodEnd {m : Nat} {s0 : Dev} (s : Dev)
    (hm : Within 0x1400000000000000000000000000000F800004000000000000000000000000000000000000000000000000000000000000000000000000000000084072000000000241A5 m) (h0 : Changes m s0 s) :
    Changes m s0 (Dev.periodEnd s) := by
  unfold Dev.periodEnd
  try dsimp only
  repeat' (first | with_reducible assumption | split | (intro _) | with_reducible apply ch_closeDue | with_reducible apply ch_reach | with_reducible apply ch_scheduledClose | exact sub_trans hm (by decide))

theorem ch_effBillingPeriodClose {m : Nat} {s0 : Dev} (s : Dev)
    (hm : Within 0x1400000000000000000000000000000F800004000000000000000000000000000000000000000000000000000000000000000000000000000000084072000000000241A5 m) (h0 : Changes m s0 s) :
    Changes m s0 (effBillingPeriodClose s) := by
  unfold effBillingPeriodClose
  try dsimp only
  repeat' (first | with_reducible assumption | split | (intro _) | with_reducible apply ch_periodEnd | exact sub_trans hm (by decide))

theorem ch_showTariffReg {m : Nat} {s0 : Dev} (s : Dev) (b : Nat) (i : Nat)
    (hm : Within 0x70000000000000000000000000000000000000000000000000000000000000000000000000000000000000000000000000000000 m) (h0 : Changes m s0 s) :
    Changes m s0 (Dev.showTariffReg s b i) := by
  unfold Dev.showTariffReg
  try dsimp only
  repeat' (first | with_reducible assumption | split | (intro _) | with_reducible apply ch_set | with_reducible apply ch_set64 | with_reducible exact reg_of hm (at_BIL_TAR_E_LO _ _) (by decide) | with_reducible exact reg_of hm (at_BIL_TAR_E_HI _ _) (by decide) | with_reducible exact reg_of hm (at_BIL_TAR_WRAP _ _) (by decide) | with_reducible exact writes_at (reg_of hm (at_BIL_TAR_E_HI _ _) (by decide)) (hi_BIL_TAR_E_LO _ _))

theorem ch_timeInvalid {m : Nat} {s0 : Dev} (s : Dev)
    (hm : Within 0x140000000000000000000000000000000F8021000000000000000000000000000000000000000000000000000000000000000000000000000000084072000000000301E4 m) (h0 : Changes m s0 s) :
    Changes m s0 (Dev.timeInvalid s) := by
  unfold Dev.timeInvalid
  try dsimp only
  repeat' (first | with_reducible assumption | split | (intro _) | with_reducible apply ch_putGen | with_reducible apply ch_setb | with_reducible apply ch_modBil | with_reducible apply ch_flagSessions | with_reducible apply ch_showSlew | with_reducible apply ch_normalUpdate | with_reducible apply ch_showTariff | with_reducible apply ch_bookTamper | exact sub_trans hm (by decide) | exact bit_of hm (by decide) | with_reducible exact reg_of hm at_BIL_STATUS (by decide))

theorem ch_magnetic {m : Nat} {s0 : Dev} (s : Dev) (mT : Nat)
    (hm : Within 0x140000000000000000000000000000000F8000000000000000000000000000000000000000000000000000000000000000000000000000000000084072000000000301A6 m) (h0 : Changes m s0 s) :
    Changes m s0 (Dev.magnetic s mT) := by
  unfold Dev.magnetic
  try dsimp only
  repeat' (first | with_reducible assumption | split | (intro _) | with_reducible apply ch_when | with_reducible apply ch_setb | with_reducible apply ch_latchTamper | with_reducible apply ch_bookTamper | with_reducible apply ch_flagSessions | with_reducible apply ch_post | exact sub_trans hm (by decide) | exact bit_of hm (by decide) | with_reducible exact reg_of hm at_BIL_TAMP_STATUS (by decide))

theorem ch_enforce {m : Nat} {s0 : Dev} (s : Dev) (c : TariffCfg)
    (hm : Within 0x140000000000000000000000000000000000C1000000000000000000000000000000000000000000000000000000000000000000000000000000084072000000000201A4 m) (h0 : Changes m s0 s) :
    Changes m s0 (Dev.enforce s c) := by
  unfold Dev.enforce
  try dsimp only
  repeat' (first | with_reducible assumption | split | (intro _) | with_reducible apply ch_wr | with_reducible apply ch_modBil | with_reducible apply ch_clearWindows | with_reducible apply ch_showTariff | exact sub_trans hm (by decide) | with_reducible exact reg_of hm at_BIL_CFG (by decide) | with_reducible exact reg_of hm at_BIL_TZ (by decide))

theorem ch_enforceDue {m : Nat} {s0 : Dev} (s : Dev) (u : Nat)
    (hm : Within 0x140000000000000000000000000000000000C1000000000000000000000000000000000000000000000000000000000000000000000000000000084072000000000201A4 m) (h0 : Changes m s0 s) :
    Changes m s0 (Dev.enforceDue s u) := by
  unfold Dev.enforceDue
  try dsimp only
  repeat' (first | with_reducible assumption | split | (intro _) | with_reducible apply ch_enforce | exact sub_trans hm (by decide))

theorem ch_effTamperMagnetic {m : Nat} {s0 : Dev} (mT : Nat) (s : Dev)
    (hm : Within 0x140000000000000000000000000000000F8000000000000000000000000000000000000000000000000000000000000000000000000000000000084072000000000301A6 m) (h1 : Changes m s0 s) :
    Changes m s0 (effTamperMagnetic mT s) := by
  unfold effTamperMagnetic
  try dsimp only
  repeat' (first | with_reducible assumption | split | (intro _) | with_reducible apply ch_magnetic | exact sub_trans hm (by decide))

theorem ch_startSlew {m : Nat} {s0 : Dev} (s : Dev) (delta : Int)
    (hm : Within 0x14000000000000000000000000000000000021000000000000000000000000000000000000000000000000000000000000000000000000000000084072000000000201E4 m) (h0 : Changes m s0 s) :
    Changes m s0 (Dev.startSlew s delta) := by
  unfold Dev.startSlew
  try dsimp only
  repeat' (first | with_reducible assumption | split | (intro _) | with_reducible apply ch_showSlew | with_reducible apply ch_setPair | exact sub_trans hm (by decide))

theorem ch_stepBack {m : Nat} {s0 : Dev} (s : Dev) (a : Nat) (u : Nat)
    (hm : Within 0x1400000000000000000000000000000F8F0021000000000000000000000000000000000000000000000000000000000000000000000000000000084072000000000301E4 m) (h0 : Changes m s0 s) :
    Changes m s0 (Dev.stepBack s a u) := by
  unfold Dev.stepBack
  try dsimp only
  repeat' (first | with_reducible assumption | split | (intro _) | with_reducible apply ch_when | with_reducible apply ch_clearWindows | with_reducible apply ch_closeSub | with_reducible apply ch_jump | with_reducible apply ch_modBil | with_reducible apply ch_startSub | with_reducible apply ch_clockStep | exact sub_trans hm (by decide))

theorem ch_stepForward {m : Nat} {s0 : Dev} (s : Dev) (a : Nat) (u : Nat)
    (hm : Within 0x1400000000000000000000000000000F8F0025000000000000000000000000000000000000000000000000000000000000000000000000000000084072000000000341E4 m) (h0 : Changes m s0 s) :
    Changes m s0 (Dev.stepForward s a u) := by
  unfold Dev.stepForward
  try dsimp only
  repeat' (first | with_reducible assumption | split | (intro _) | with_reducible apply ch_when | with_reducible apply ch_clearWindows | with_reducible apply ch_closeBetween | with_reducible apply ch_closeSub | with_reducible apply ch_jump | with_reducible apply ch_clockStep | with_reducible apply ch_startSub | exact sub_trans hm (by decide))

theorem ch_setLegal {m : Nat} {s0 : Dev} (s : Dev) (u : Nat)
    (hm : Within 0x1400000000000000000000000000000F8F8025000000000000000000000000000000000000000000000000000000000000000000000000000000084072000008000341E4 m) (h0 : Changes m s0 s) :
    Changes m s0 (Dev.setLegal s u) := by
  unfold Dev.setLegal
  try dsimp only
  repeat' (first | with_reducible assumption | split | (intro _) | with_reducible apply ch_setb | with_reducible apply ch_startSlew | with_reducible apply ch_stepBack | with_reducible apply ch_stepForward | with_reducible apply ch_validate | with_reducible apply ch_modBil | with_reducible apply ch_normalUpdate | with_reducible apply ch_showTariff | with_reducible apply ch_post | exact sub_trans hm (by decide) | with_reducible exact reg_of hm at_GEN_STATUS (by decide))

theorem ch_slewStep {m : Nat} {s0 : Dev} (s : Dev)
    (hm : Within 0x14000000000000000000000000000000000021000000000000000000000000000000000000000000000000000000000000000000000000000000084072000000000201E5 m) (h0 : Changes m s0 s) :
    Changes m s0 (Dev.slewStep s) := by
  unfold Dev.slewStep
  try dsimp only
  repeat' (first | with_reducible assumption | split | (intro _) | with_reducible apply ch_reach | with_reducible apply ch_setPair | with_reducible apply ch_showSlew | exact sub_trans hm (by decide))

theorem ch_effSlewStep {m : Nat} {s0 : Dev} (s : Dev)
    (hm : Within 0x14000000000000000000000000000000000021000000000000000000000000000000000000000000000000000000000000000000000000000000084072000000000201E5 m) (h0 : Changes m s0 s) :
    Changes m s0 (effSlewStep s) := by
  unfold effSlewStep
  try dsimp only
  repeat' (first | with_reducible assumption | split | (intro _) | with_reducible apply ch_slewStep | exact sub_trans hm (by decide))

theorem ch_demandEnd {m : Nat} {s0 : Dev} (s : Dev)
    (hm : Within 0x1400000000000000000000000000000F800004000000000000000000000000000000000000000000000000000000000000000000000000000000084072000000000241A5 m) (h0 : Changes m s0 s) :
    Changes m s0 (Dev.demandEnd s) := by
  unfold Dev.demandEnd
  try dsimp only
  repeat' (first | with_reducible assumption | split | (intro _) | with_reducible apply ch_reach | with_reducible apply ch_endSubValid | with_reducible apply ch_closeDue | with_reducible apply ch_endSubInvalid | exact sub_trans hm (by decide))

theorem ch_effDemandSubintervalEnd {m : Nat} {s0 : Dev} (s : Dev)
    (hm : Within 0x1400000000000000000000000000000F800004000000000000000000000000000000000000000000000000000000000000000000000000000000084072000000000241A5 m) (h0 : Changes m s0 s) :
    Changes m s0 (effDemandSubintervalEnd s) := by
  unfold effDemandSubintervalEnd
  try dsimp only
  repeat' (first | with_reducible assumption | split | (intro _) | with_reducible apply ch_demandEnd | exact sub_trans hm (by decide))

theorem ch_bookGrowth {m : Nat} {s0 : Dev} (s : Dev) (i : Nat)
    (hm : Within 0x70000000000000000000000000000000000000000000000000000000000000000000000000000000000000000000000000020000 m) (h0 : Changes m s0 s) :
    Changes m s0 (Dev.bookGrowth s i) := by
  unfold Dev.bookGrowth
  try dsimp only
  repeat' (first | with_reducible assumption | split | (intro _) | with_reducible apply ch_forEach | with_reducible apply ch_when | with_reducible apply ch_showTariffReg | with_reducible apply ch_modBil | exact sub_trans hm (by decide))

theorem ch_effTariffSwitch {m : Nat} {s0 : Dev} (s : Dev)
    (hm : Within 0x140000000000000000000000000000000000C1000000000000000000000000000000000000000000000000000000000000000000000000000000084072000000000201A5 m) (h0 : Changes m s0 s) :
    Changes m s0 (effTariffSwitch s) := by
  unfold effTariffSwitch
  try dsimp only
  repeat' (first | with_reducible assumption | split | (intro _) | with_reducible apply ch_showTariff | with_reducible apply ch_enforceDue | with_reducible apply ch_reach | exact sub_trans hm (by decide))

theorem ch_billingStop {m : Nat} {s0 : Dev} (s : Dev)
    (hm : Within 0x14000000000000000000000000000000000001000000000000000000000000000000000000000000000000000000000000000000000000000000084072000000000241A4 m) (h0 : Changes m s0 s) :
    Changes m s0 (Dev.billingStop s) := by
  unfold Dev.billingStop
  try dsimp only
  repeat' (first | with_reducible assumption | split | (intro _) | with_reducible apply ch_setb | with_reducible apply ch_closePeriod | with_reducible apply ch_showTariff | with_reducible apply ch_modBil | exact sub_trans hm (by decide) | with_reducible exact reg_of hm at_BIL_STATUS (by decide))

theorem ch_billingStart {m : Nat} {s0 : Dev} (s : Dev)
    (hm : Within 0x14000000000000000000000000000003800005000000000000000000000000000000000000000000000000000000000000000000000000000000084072000000000201A4 m) (h0 : Changes m s0 s) :
    Changes m s0 (Dev.billingStart s) := by
  unfold Dev.billingStart
  try dsimp only
  repeat' (first | with_reducible assumption | split | (intro _) | with_reducible apply ch_setb | with_reducible apply ch_modBil | with_reducible apply ch_showTariff | with_reducible apply ch_startSub | with_reducible apply ch_clearWindows | with_reducible apply ch_openPeriod | exact sub_trans hm (by decide) | with_reducible exact reg_of hm at_BIL_STATUS (by decide))

theorem ch_billBlock {m : Nat} {s0 : Dev} (s : Dev) (b : Nat)
    (hm : Within 0x1400000000000000000000000000000FF000C5000000000000000000000000000000000000000000000000000000000000000000000000000000084072000000000241A4 m) (h0 : Changes m s0 s) :
    Changes m s0 (Dev.billBlock s b) := by
  unfold Dev.billBlock
  try dsimp only
  repeat' (first | with_reducible assumption | split | (intro _) | with_reducible apply ch_when | with_reducible apply ch_enforceDue | with_reducible apply ch_closeDue | with_reducible apply ch_bookGrowth | with_reducible apply ch_modBil | exact sub_trans hm (by decide))

theorem ch_billingRestart {m : Nat} {s0 : Dev} (s : Dev) (r : Option Nat)
    (hm : Within 0x1400000000000000000000000000000F800005000000000000000000000000000000000000000000000000000000000000000000000000000000084072000000000241A4 m) (h0 : Changes m s0 s) :
    Changes m s0 (Dev.billingRestart s r) := by
  unfold Dev.billingRestart
  try dsimp only
  repeat' (first | with_reducible assumption | split | (intro _) | with_reducible apply ch_clearWindows | with_reducible apply ch_closeSub | with_reducible apply ch_closeBetween | with_reducible apply ch_showTariff | with_reducible apply ch_startSub | exact sub_trans hm (by decide))

theorem ch_execTamperCover {m : Nat} {pin : Fin 4} {high : Bool} {s t : State} (hm : Within 0x140000000000000000000000000000000F8000000000000000000000000000000000000000000000000000000000000000000000000000000000084072000000000201A6 m)
    (h : execTamperCover pin high s = .next t) : t.pending = s.pending ∧ Changes m s.dev t.dev := by
  unfold execTamperCover at h
  refine of_onDev h (bit_of hm (by decide)) (fun d hd => ?_)
  try dsimp only
  repeat' (first | with_reducible assumption | split | (intro _) | with_reducible apply ch_effTamperCover | exact sub_trans hm (by decide))

theorem ch_execTamperMagnetic {m : Nat} {mT : Nat} {s t : State} (hm : Within 0x140000000000000000000000000000000F8000000000000000000000000000000000000000000000000000000000000000000000000000000000084072000000000301A6 m)
    (h : execTamperMagnetic mT s = .next t) : t.pending = s.pending ∧ Changes m s.dev t.dev := by
  unfold execTamperMagnetic at h
  refine of_onDev h (bit_of hm (by decide)) (fun d hd => ?_)
  try dsimp only
  repeat' (first | with_reducible assumption | split | (intro _) | with_reducible apply ch_effTamperMagnetic | exact sub_trans hm (by decide))

theorem ch_execDemandSubintervalEnd {m : Nat}  {s t : State} (hm : Within 0x1400000000000000000000000000000F800004000000000000000000000000000000000000000000000000000000000000000000000000000000084072000000000241A5 m)
    (h : execDemandSubintervalEnd  s = .next t) : t.pending = s.pending ∧ Changes m s.dev t.dev := by
  unfold execDemandSubintervalEnd at h
  refine of_onRun h (bit_of hm (by decide)) (fun d hd => ?_)
  try dsimp only
  repeat' (first | with_reducible assumption | split | (intro _) | with_reducible apply ch_effDemandSubintervalEnd | exact sub_trans hm (by decide))

theorem ch_execTariffSwitch {m : Nat}  {s t : State} (hm : Within 0x140000000000000000000000000000000000C1000000000000000000000000000000000000000000000000000000000000000000000000000000084072000000000201A5 m)
    (h : execTariffSwitch  s = .next t) : t.pending = s.pending ∧ Changes m s.dev t.dev := by
  unfold execTariffSwitch at h
  refine of_onRun h (bit_of hm (by decide)) (fun d hd => ?_)
  try dsimp only
  repeat' (first | with_reducible assumption | split | (intro _) | with_reducible apply ch_effTariffSwitch | exact sub_trans hm (by decide))

theorem ch_execBillingPeriodClose {m : Nat}  {s t : State} (hm : Within 0x1400000000000000000000000000000F800004000000000000000000000000000000000000000000000000000000000000000000000000000000084072000000000241A5 m)
    (h : execBillingPeriodClose  s = .next t) : t.pending = s.pending ∧ Changes m s.dev t.dev := by
  unfold execBillingPeriodClose at h
  refine of_onRun h (bit_of hm (by decide)) (fun d hd => ?_)
  try dsimp only
  repeat' (first | with_reducible assumption | split | (intro _) | with_reducible apply ch_effBillingPeriodClose | exact sub_trans hm (by decide))

theorem ch_execSlewStep {m : Nat}  {s t : State} (hm : Within 0x14000000000000000000000000000000000021000000000000000000000000000000000000000000000000000000000000000000000000000000084072000000000201E5 m)
    (h : execSlewStep  s = .next t) : t.pending = s.pending ∧ Changes m s.dev t.dev := by
  unfold execSlewStep at h
  refine of_onRun h (bit_of hm (by decide)) (fun d hd => ?_)
  try dsimp only
  repeat' (first | with_reducible assumption | split | (intro _) | with_reducible apply ch_effSlewStep | exact sub_trans hm (by decide))

end Dev

end Sys2Proof.Machine
end

