-- ==== Sys2Proof/Laws/DisplayCh.lean ====
section
/-! SUPPORT. What each definition of Machine/Display.lean may change. -/

namespace Sys2Proof.Machine

set_option linter.all false
set_option Elab.async false

namespace Dev

theorem ch_nextDseq {m : Nat} {s0 : Dev} (s : Dev)
    (hm : Within 0x80000 m) (h0 : Changes m s0 s) :
    Changes m s0 (Dev.nextDseq s).2 := by
  unfold Dev.nextDseq
  try dsimp only
  repeat' (first | with_reducible assumption | split | (intro _) | with_reducible apply ch_modSln | exact sub_trans hm (by decide))

theorem ch_displayDue {m : Nat} {s0 : Dev} (s : Dev)
    (hm : Within 0x2000000000000000000000000000000000000000000000000000000000000000A0001 m) (h0 : Changes m s0 s) :
    Changes m s0 (Dev.displayDue s) := by
  unfold Dev.displayDue
  try dsimp only
  repeat' (first | with_reducible assumption | split | (intro _) | with_reducible apply ch_forEach | with_reducible apply ch_setb | with_reducible apply ch_reach | with_reducible apply ch_modBil | with_reducible apply ch_nextDseq | with_reducible apply ch_slnDisplay | with_reducible apply ch_modSln | exact sub_trans hm (by decide) | with_reducible exact reg_of hm at_SLN_STATUS (by decide))

theorem ch_effDisplayItemDue {m : Nat} {s0 : Dev} (s : Dev)
    (hm : Within 0x2000000000000000000000000000000000000000000000000000000000000000A0001 m) (h0 : Changes m s0 s) :
    Changes m s0 (effDisplayItemDue s) := by
  unfold effDisplayItemDue
  try dsimp only
  repeat' (first | with_reducible assumption | split | (intro _) | with_reducible apply ch_displayDue | exact sub_trans hm (by decide))

theorem ch_execDisplayItemDue {m : Nat}  {s t : State} (hm : Within 0x2000000000000000000000000000000000000000000000000000000000000000A0005 m)
    (h : execDisplayItemDue  s = .next t) : t.pending = s.pending ∧ Changes m s.dev t.dev := by
  unfold execDisplayItemDue at h
  refine of_onRun h (bit_of hm (by decide)) (fun d hd => ?_)
  try dsimp only
  repeat' (first | with_reducible assumption | split | (intro _) | with_reducible apply ch_effDisplayItemDue | exact sub_trans hm (by decide))

end Dev

end Sys2Proof.Machine
end

