-- ==== Sys2Proof/Laws/ObjectsCh.lean ====
section
/-! SUPPORT. What each definition of Machine/Objects.lean may change. -/

namespace Sys2Proof.Machine

set_option linter.all false
set_option Elab.async false

namespace Dev

theorem ch_objReply {m : Nat} {s0 : Dev} (s : Dev) (o : ObjSrc) (c : Code) (data : optParam (List Byte) [])
    (hm : Within 0x8400200000000000084 m) (h0 : Changes m s0 s) :
    Changes m s0 (Dev.objReply s o c data) := by
  unfold Dev.objReply
  try dsimp only
  repeat' (first | with_reducible assumption | split | (intro _) | with_reducible apply ch_complete | with_reducible apply ch_emit | exact sub_trans hm (by decide))

theorem ch_touchAssoc {m : Nat} {s0 : Dev} (s : Dev) (c : Channel)
    (hm : Within 0x20000 m) (h0 : Changes m s0 s) :
    Changes m s0 (Dev.touchAssoc s c) := by
  unfold Dev.touchAssoc
  try dsimp only
  repeat' (first | with_reducible assumption | split | (intro _) | with_reducible apply ch_modBil | exact sub_trans hm (by decide))

theorem ch_objRequest {m : Nat} {s0 : Dev} (s : Dev) (o : ObjSrc) (known : Bool) (need : Role → Bool) (act : Channel → Role → Dev → Dev)
    (hm : Within 0x8400200000000020084 m) (h0 : Changes m s0 s) (h4 : ∀ x0 x1 x2, Changes m s0 x2 → Changes m s0 (act x0 x1 x2)) :
    Changes m s0 (Dev.objRequest s o known need act) := by
  unfold Dev.objRequest
  try dsimp only
  repeat' (first | with_reducible assumption | split | (intro _) | with_reducible apply ch_objReply | with_reducible apply ch_touchAssoc | with_reducible apply h4 | exact sub_trans hm (by decide))

theorem ch_setSeal {m : Nat} {s0 : Dev} (s : Dev) (broken : Bool)
    (hm : Within 0x14000000000000000000000000000000000001000000000000000000000000000000000000000000000000000000000000000000000000000000084072000000000001A4 m) (h0 : Changes m s0 s) :
    Changes m s0 (Dev.setSeal s broken) := by
  unfold Dev.setSeal
  try dsimp only
  repeat' (first | with_reducible assumption | split | (intro _) | with_reducible apply ch_setb | with_reducible apply ch_post | exact sub_trans hm (by decide) | with_reducible exact reg_of hm at_BIL_STATUS (by decide))

theorem ch_objRecord {m : Nat} {s0 : Dev} (s : Dev) (c : Channel) (r : Role) (id : Word)
    (hm : Within 0x14000000000000000000000000000000000000000000000000000000000000000000000000000000000000000000000000000000000000000000084072000000000001A4 m) (h0 : Changes m s0 s) :
    Changes m s0 (Dev.objRecord s c r id) := by
  unfold Dev.objRecord
  try dsimp only
  repeat' (first | with_reducible assumption | split | (intro _) | with_reducible apply ch_ledger | exact sub_trans hm (by decide))

theorem ch_sealBreak {m : Nat} {s0 : Dev} (s : Dev) (o : ObjSrc)
    (hm : Within 0x140000000000000000000000000000000F0001000000000000000000000000000000000000000000000000000000000000000000000000000000084072000000000301A4 m) (h0 : Changes m s0 s) :
    Changes m s0 (Dev.sealBreak s o) := by
  unfold Dev.sealBreak
  try dsimp only
  repeat' (first | with_reducible assumption | split | (intro _) | with_reducible apply ch_objRequest | with_reducible apply ch_objReply | with_reducible apply ch_bookTamper | with_reducible apply ch_flagSessions | with_reducible apply ch_setSeal | with_reducible apply ch_objRecord | exact sub_trans hm (by decide))

theorem ch_effSealBreak {m : Nat} {s0 : Dev} (o : ObjSrc) (s : Dev)
    (hm : Within 0x140000000000000000000000000000000F0001000000000000000000000000000000000000000000000000000000000000000000000000000000084072000000000301A4 m) (h1 : Changes m s0 s) :
    Changes m s0 (effSealBreak o s) := by
  unfold effSealBreak
  try dsimp only
  repeat' (first | with_reducible assumption | split | (intro _) | with_reducible apply ch_sealBreak | exact sub_trans hm (by decide))

theorem ch_calRetest {m : Nat} {s0 : Dev} (s : Dev) (a1 : Fin 48)
    (hm : Within 0x14000000000000014048000000000000000000000000000000000000000000000000000000000000000000000000000000000000000000000000084072000000000081A4 m) (h0 : Changes m s0 s) :
    Changes m s0 (Dev.calRetest s a1) := by
  unfold Dev.calRetest
  try dsimp only
  repeat' (first | with_reducible assumption | split | (intro _) | with_reducible apply ch_setHead | exact sub_trans hm (by decide))

theorem ch_legalTimeSet {m : Nat} {s0 : Dev} (s : Dev) (o : ObjSrc) (u : Nat)
    (hm : Within 0x1400000000000000000000000000000F8F8025000000000000000000000000000000000000000000000000000000000000000000000000000000084072000008000341E4 m) (h0 : Changes m s0 s) :
    Changes m s0 (Dev.legalTimeSet s o u) := by
  unfold Dev.legalTimeSet
  try dsimp only
  repeat' (first | with_reducible assumption | split | (intro _) | with_reducible apply ch_objRequest | with_reducible apply ch_objReply | with_reducible apply ch_setLegal | with_reducible apply ch_objRecord | exact sub_trans hm (by decide))

theorem ch_keepObj {m : Nat} {s0 : Dev} (s : Dev) (x : ObjSetting)
    (hm : Within 0x40 m) (h0 : Changes m s0 s) :
    Changes m s0 (Dev.keepObj s x) := by
  unfold Dev.keepObj
  try dsimp only
  repeat' (first | with_reducible assumption | split | (intro _) | with_reducible apply ch_putGen | exact bit_of hm (by decide))

theorem ch_calendarSet {m : Nat} {s0 : Dev} (s : Dev) (o : ObjSrc) (x : CalSet)
    (hm : Within 0x140000000000000000000000000000000F0000000000000000000000000000000000000000000000000000000000000000000000000000000000084072000000000201E4 m) (h0 : Changes m s0 s) :
    Changes m s0 (Dev.calendarSet s o x) := by
  unfold Dev.calendarSet
  try dsimp only
  repeat' (first | with_reducible assumption | split | (intro _) | with_reducible apply ch_objRequest | with_reducible apply ch_objReply | with_reducible apply ch_keepObj | with_reducible apply ch_objRecord | with_reducible apply ch_modBil | with_reducible apply ch_bookTamper | exact sub_trans hm (by decide))

theorem ch_effCalendarSet {m : Nat} {s0 : Dev} (o : ObjSrc) (x : CalSet) (s : Dev)
    (hm : Within 0x140000000000000000000000000000000F0000000000000000000000000000000000000000000000000000000000000000000000000000000000084072000000000201E4 m) (h2 : Changes m s0 s) :
    Changes m s0 (effCalendarSet o x s) := by
  unfold effCalendarSet
  try dsimp only
  repeat' (first | with_reducible assumption | split | (intro _) | with_reducible apply ch_calendarSet | exact sub_trans hm (by decide))

theorem ch_unboundedAck {m : Nat} {s0 : Dev} (s : Dev) (o : ObjSrc) (number : Nat)
    (hm : Within 0x14000000000000000000000000000000000000000000000002000000000000000000000000000000000000000000000000000000000000000000084072000000000201A4 m) (h0 : Changes m s0 s) :
    Changes m s0 (Dev.unboundedAck s o number) := by
  unfold Dev.unboundedAck
  try dsimp only
  repeat' (first | with_reducible assumption | split | (intro _) | with_reducible apply ch_setb | with_reducible apply ch_objRequest | with_reducible apply ch_objReply | with_reducible apply ch_objRecord | exact sub_trans hm (by decide) | with_reducible exact reg_of hm at_MTR_STATUS (by decide))

theorem ch_manAck {m : Nat} {s0 : Dev} (s : Dev) (src : Src) (last : Nat)
    (hm : Within 0x40100000000000000000000000000000000000000000000000000000000000000000000000000000008400200000000020084 m) (h0 : Changes m s0 s) :
    Changes m s0 (Dev.manAck s src last) := by
  unfold Dev.manAck
  try dsimp only
  repeat' (first | with_reducible assumption | split | (intro _) | with_reducible apply ch_setb | with_reducible apply ch_manStatus | with_reducible apply ch_modBil | with_reducible apply ch_complete | exact sub_trans hm (by decide) | with_reducible exact reg_of hm at_BIL_STATUS (by decide))

theorem ch_effManAck {m : Nat} {s0 : Dev} (src : Src) (last : Id64) (s : Dev)
    (hm : Within 0x40100000000000000000000000000000000000000000000000000000000000000000000000000000008400200000000020084 m) (h2 : Changes m s0 s) :
    Changes m s0 (effManAck src last s) := by
  unfold effManAck
  try dsimp only
  repeat' (first | with_reducible assumption | split | (intro _) | with_reducible apply ch_manAck | exact sub_trans hm (by decide))

theorem ch_effObjGet {m : Nat} {s0 : Dev} (o : ObjSrc) (id : Word) (s : Dev)
    (hm : Within 0x8400200000000020084 m) (h2 : Changes m s0 s) :
    Changes m s0 (effObjGet o id s) := by
  unfold effObjGet
  try dsimp only
  repeat' (first | with_reducible assumption | split | (intro _) | with_reducible apply ch_objRequest | with_reducible apply ch_objReply | exact sub_trans hm (by decide))

theorem ch_effLegalTimeSet {m : Nat} {s0 : Dev} (o : ObjSrc) (utc : Nat) (s : Dev)
    (hm : Within 0x1400000000000000000000000000000F8F8025000000000000000000000000000000000000000000000000000000000000000000000000000000084072000008000341E4 m) (h2 : Changes m s0 s) :
    Changes m s0 (effLegalTimeSet o utc s) := by
  unfold effLegalTimeSet
  try dsimp only
  repeat' (first | with_reducible assumption | split | (intro _) | with_reducible apply ch_legalTimeSet | exact sub_trans hm (by decide))

theorem ch_effUnboundedAcknowledge {m : Nat} {s0 : Dev} (o : ObjSrc) (number : Code) (s : Dev)
    (hm : Within 0x14000000000000000000000000000000000000000000000002000000000000000000000000000000000000000000000000000000000000000000084072000000000201A4 m) (h2 : Changes m s0 s) :
    Changes m s0 (effUnboundedAcknowledge o number s) := by
  unfold effUnboundedAcknowledge
  try dsimp only
  repeat' (first | with_reducible assumption | split | (intro _) | with_reducible apply ch_unboundedAck | exact sub_trans hm (by decide))

theorem ch_modAccess {m : Nat} {s0 : Dev} (s : Dev) (c : Channel) (f : ChannelAccess → ChannelAccess)
    (hm : Within 0x20000 m) (h0 : Changes m s0 s) :
    Changes m s0 (Dev.modAccess s c f) := by
  unfold Dev.modAccess
  try dsimp only
  repeat' (first | with_reducible assumption | split | (intro _) | with_reducible apply ch_modBil | exact sub_trans hm (by decide))

theorem ch_periodCloseAction {m : Nat} {s0 : Dev} (s : Dev) (o : ObjSrc)
    (hm : Within 0x14000000000000000000000000000003800004000000000000000000000000000000000000000000000000000000000000000000000000000000084072000000000241A4 m) (h0 : Changes m s0 s) :
    Changes m s0 (Dev.periodCloseAction s o) := by
  unfold Dev.periodCloseAction
  try dsimp only
  repeat' (first | with_reducible assumption | split | (intro _) | with_reducible apply ch_objRequest | with_reducible apply ch_objReply | with_reducible apply ch_turnPeriod | with_reducible apply ch_objRecord | exact sub_trans hm (by decide))

theorem ch_endAssoc {m : Nat} {s0 : Dev} (s : Dev) (c : Channel)
    (hm : Within 0x20000 m) (h0 : Changes m s0 s) :
    Changes m s0 (Dev.endAssoc s c) := by
  unfold Dev.endAssoc
  try dsimp only
  repeat' (first | with_reducible assumption | split | (intro _) | with_reducible apply ch_modBil | exact sub_trans hm (by decide))

theorem ch_sealReseal {m : Nat} {s0 : Dev} (s : Dev) (o : ObjSrc)
    (hm : Within 0x14000000000000000000000000000000000001000000000000000000000000000000000000000000000000000000000000000000000000000000084072000000000201A4 m) (h0 : Changes m s0 s) :
    Changes m s0 (Dev.sealReseal s o) := by
  unfold Dev.sealReseal
  try dsimp only
  repeat' (first | with_reducible assumption | split | (intro _) | with_reducible apply ch_objRequest | with_reducible apply ch_objReply | with_reducible apply ch_endAssoc | with_reducible apply ch_setSeal | with_reducible apply ch_objRecord | exact sub_trans hm (by decide))

theorem ch_applyScroll {m : Nat} {s0 : Dev} (s : Dev) (x : ScrollSet)
    (hm : Within 0x20000 m) (h0 : Changes m s0 s) :
    Changes m s0 (Dev.applyScroll s x) := by
  unfold Dev.applyScroll
  try dsimp only
  repeat' (first | with_reducible assumption | split | (intro _) | with_reducible apply ch_modBil | exact sub_trans hm (by decide))

theorem ch_scrollSet {m : Nat} {s0 : Dev} (s : Dev) (o : ObjSrc) (x : ScrollSet)
    (hm : Within 0x140000000000000000000000000000000F0000000000000000000000000000000000000000000000000000000000000000000000000000000000084072000000000201E4 m) (h0 : Changes m s0 s) :
    Changes m s0 (Dev.scrollSet s o x) := by
  unfold Dev.scrollSet
  try dsimp only
  repeat' (first | with_reducible assumption | split | (intro _) | with_reducible apply ch_objRequest | with_reducible apply ch_objReply | with_reducible apply ch_bookTamper | with_reducible apply ch_applyScroll | with_reducible apply ch_keepObj | with_reducible apply ch_objRecord | exact sub_trans hm (by decide))

theorem ch_openAssoc {m : Nat} {s0 : Dev} (s : Dev) (c : Channel) (r : Role)
    (hm : Within 0x20000 m) (h0 : Changes m s0 s) :
    Changes m s0 (Dev.openAssoc s c r) := by
  unfold Dev.openAssoc
  try dsimp only
  repeat' (first | with_reducible assumption | split | (intro _) | with_reducible apply ch_modBil | with_reducible apply ch_endAssoc | exact sub_trans hm (by decide))

theorem ch_loginFailed {m : Nat} {s0 : Dev} (s : Dev) (c : Channel)
    (hm : Within 0x140000000000000000000000000000000F0000000000000000000000000000000000000000000000000000000000000000000000000000000000084072000000000201A4 m) (h0 : Changes m s0 s) :
    Changes m s0 (Dev.loginFailed s c) := by
  unfold Dev.loginFailed
  try dsimp only
  repeat' (first | with_reducible assumption | split | (intro _) | with_reducible apply ch_bookTamper | with_reducible apply ch_post | with_reducible apply ch_modAccess | exact sub_trans hm (by decide))

theorem ch_loginRole {m : Nat} {s0 : Dev} (s : Dev) (o : ObjSrc) (c : Channel) (r : Role) (mac : List Byte)
    (hm : Within 0x140000000000000000000000000000000F0000000000000000000000000000000000000000000000000000000000000000000000000000000000084072000000000201A4 m) (h0 : Changes m s0 s) :
    Changes m s0 (Dev.loginRole s o c r mac) := by
  unfold Dev.loginRole
  try dsimp only
  repeat' (first | with_reducible assumption | split | (intro _) | with_reducible apply ch_objReply | with_reducible apply ch_modAccess | with_reducible apply ch_openAssoc | with_reducible apply ch_objRecord | with_reducible apply ch_loginFailed | exact sub_trans hm (by decide))

theorem ch_login {m : Nat} {s0 : Dev} (s : Dev) (o : ObjSrc) (x : Login)
    (hm : Within 0x140000000000000000000000000000000F0000000000000000000000000000000000000000000000000000000000000000000000000000000000084072000000000201A4 m) (h0 : Changes m s0 s) :
    Changes m s0 (Dev.login s o x) := by
  unfold Dev.login
  try dsimp only
  repeat' (first | with_reducible assumption | split | (intro _) | with_reducible apply ch_objReply | with_reducible apply ch_openAssoc | with_reducible apply ch_loginFailed | with_reducible apply ch_loginRole | exact sub_trans hm (by decide))

theorem ch_effObjLogin {m : Nat} {s0 : Dev} (o : ObjSrc) (x : Login) (s : Dev)
    (hm : Within 0x140000000000000000000000000000000F0000000000000000000000000000000000000000000000000000000000000000000000000000000000084072000000000201A4 m) (h2 : Changes m s0 s) :
    Changes m s0 (effObjLogin o x s) := by
  unfold effObjLogin
  try dsimp only
  repeat' (first | with_reducible assumption | split | (intro _) | with_reducible apply ch_login | exact sub_trans hm (by decide))

theorem ch_lateSign {m : Nat} {s0 : Dev} (s : Dev)
    (hm : Within 0x14081000000000000000000000000000000400000000000000000000000000000000000000000000000000000000000000000000000000000000084072000000000201A4 m) (h0 : Changes m s0 s) :
    Changes m s0 (Dev.lateSign s) := by
  unfold Dev.lateSign
  try dsimp only
  repeat' (first | with_reducible assumption | split | (intro _) | with_reducible apply ch_manStatus | with_reducible apply ch_modBil | with_reducible apply ch_bindSlot | exact sub_trans hm (by decide))

theorem ch_effSealReseal {m : Nat} {s0 : Dev} (o : ObjSrc) (s : Dev)
    (hm : Within 0x14000000000000000000000000000000000001000000000000000000000000000000000000000000000000000000000000000000000000000000084072000000000201A4 m) (h1 : Changes m s0 s) :
    Changes m s0 (effSealReseal o s) := by
  unfold effSealReseal
  try dsimp only
  repeat' (first | with_reducible assumption | split | (intro _) | with_reducible apply ch_sealReseal | exact sub_trans hm (by decide))

theorem ch_effPeriodCloseAction {m : Nat} {s0 : Dev} (o : ObjSrc) (s : Dev)
    (hm : Within 0x14000000000000000000000000000003800004000000000000000000000000000000000000000000000000000000000000000000000000000000084072000000000241A4 m) (h1 : Changes m s0 s) :
    Changes m s0 (effPeriodCloseAction o s) := by
  unfold effPeriodCloseAction
  try dsimp only
  repeat' (first | with_reducible assumption | split | (intro _) | with_reducible apply ch_periodCloseAction | exact sub_trans hm (by decide))

theorem ch_calibrationWrite {m : Nat} {s0 : Dev} (s : Dev) (o : ObjSrc) (x : CalItem)
    (hm : Within 0x140000000000000140480000000000000F00000000000000080000000000000000000000000000000000000000000000000000000000000000000840720000000002C1E4 m) (h0 : Changes m s0 s) :
    Changes m s0 (Dev.calibrationWrite s o x) := by
  unfold Dev.calibrationWrite
  try dsimp only
  repeat' (first | with_reducible assumption | split | (intro _) | with_reducible apply ch_bump | with_reducible apply ch_objRequest | with_reducible apply ch_objReply | with_reducible apply ch_keepObj | with_reducible apply ch_objRecord | with_reducible apply ch_modMtr | with_reducible apply ch_ledger | with_reducible apply ch_post | with_reducible apply ch_calRetest | with_reducible apply ch_bookTamper | exact sub_trans hm (by decide) | with_reducible exact reg_of hm at_MTR_CAL_CNT (by decide))

theorem ch_effCalibrationWrite {m : Nat} {s0 : Dev} (o : ObjSrc) (x : CalItem) (s : Dev)
    (hm : Within 0x140000000000000140480000000000000F00000000000000080000000000000000000000000000000000000000000000000000000000000000000840720000000002C1E4 m) (h2 : Changes m s0 s) :
    Changes m s0 (effCalibrationWrite o x s) := by
  unfold effCalibrationWrite
  try dsimp only
  repeat' (first | with_reducible assumption | split | (intro _) | with_reducible apply ch_calibrationWrite | exact sub_trans hm (by decide))

theorem ch_manRead {m : Nat} {s0 : Dev} (s : Dev) (src : Src) (first : Nat) (count : Nat) (resLen : Nat)
    (hm : Within 0x8400200000000000084 m) (h0 : Changes m s0 s) :
    Changes m s0 (Dev.manRead s src first count resLen) := by
  unfold Dev.manRead
  try dsimp only
  repeat' (first | with_reducible assumption | split | (intro _) | with_reducible apply ch_complete | exact sub_trans hm (by decide))

theorem ch_effManRead {m : Nat} {s0 : Dev} (src : Src) (first : Id64) (count : Byte) (resLen : Nat) (s : Dev)
    (hm : Within 0x8400200000000000084 m) (h4 : Changes m s0 s) :
    Changes m s0 (effManRead src first count resLen s) := by
  unfold effManRead
  try dsimp only
  repeat' (first | with_reducible assumption | split | (intro _) | with_reducible apply ch_manRead | exact sub_trans hm (by decide))

theorem ch_magClear {m : Nat} {s0 : Dev} (s : Dev) (o : ObjSrc)
    (hm : Within 0x14000000000000000000000000000000008000000000000000000000000000000000000000000000000000000000000000000000000000000000084072000000000201A4 m) (h0 : Changes m s0 s) :
    Changes m s0 (Dev.magClear s o) := by
  unfold Dev.magClear
  try dsimp only
  repeat' (first | with_reducible assumption | split | (intro _) | with_reducible apply ch_setb | with_reducible apply ch_objRequest | with_reducible apply ch_objReply | with_reducible apply ch_objRecord | exact sub_trans hm (by decide) | with_reducible exact reg_of hm at_BIL_TAMP_STATUS (by decide))

theorem ch_effObjEnd {m : Nat} {s0 : Dev} (o : ObjSrc) (s : Dev)
    (hm : Within 0x8400200000000020084 m) (h1 : Changes m s0 s) :
    Changes m s0 (effObjEnd o s) := by
  unfold effObjEnd
  try dsimp only
  repeat' (first | with_reducible assumption | split | (intro _) | with_reducible apply ch_objRequest | with_reducible apply ch_objReply | with_reducible apply ch_endAssoc | exact sub_trans hm (by decide))

theorem ch_challenge {m : Nat} {s0 : Dev} (s : Dev) (o : ObjSrc)
    (hm : Within 0x8400200000000020086 m) (h0 : Changes m s0 s) :
    Changes m s0 (Dev.challenge s o) := by
  unfold Dev.challenge
  try dsimp only
  repeat' (first | with_reducible assumption | split | (intro _) | with_reducible apply ch_objReply | with_reducible apply ch_fresh | with_reducible apply ch_modAccess | exact sub_trans hm (by decide))

theorem ch_effObjChallenge {m : Nat} {s0 : Dev} (o : ObjSrc) (s : Dev)
    (hm : Within 0x8400200000000020086 m) (h1 : Changes m s0 s) :
    Changes m s0 (effObjChallenge o s) := by
  unfold effObjChallenge
  try dsimp only
  repeat' (first | with_reducible assumption | split | (intro _) | with_reducible apply ch_challenge | exact sub_trans hm (by decide))

theorem ch_effScrollSet {m : Nat} {s0 : Dev} (o : ObjSrc) (x : ScrollSet) (s : Dev)
    (hm : Within 0x140000000000000000000000000000000F0000000000000000000000000000000000000000000000000000000000000000000000000000000000084072000000000201E4 m) (h2 : Changes m s0 s) :
    Changes m s0 (effScrollSet o x s) := by
  unfold effScrollSet
  try dsimp only
  repeat' (first | with_reducible assumption | split | (intro _) | with_reducible apply ch_scrollSet | exact sub_trans hm (by decide))

theorem calItemReg_writes {T m : Nat} (h : Within T m) (d : Within 0x78F0000000000000000000000000000000000000000000000000000000000000000000000000000000000000000000 T) (x : CalItem) : Writes m (calItemReg x) := by
  have h := sub_trans h d
  rcases x with ⟨c, ⟨j, hj⟩, v⟩ | ⟨c, ⟨j, hj⟩, v⟩ <;>
    obtain rfl | rfl | rfl | rfl : j = 0 ∨ j = 1 ∨ j = 2 ∨ j = 3 := by omega
  · exact reg_of h (at_MTR_CH_RATIO _) (by decide)
  · exact reg_of h (at_MTR_CH_GAIN _) (by decide)
  · exact reg_of h (at_MTR_CH_OFS _) (by decide)
  · exact reg_of h (at_MTR_CH_PHASE _) (by decide)
  · exact reg_of h (at_MTR_HEAD_GAIN_V _) (by decide)
  · exact reg_of h (at_MTR_HEAD_GAIN_I _) (by decide)
  · exact reg_of h (at_MTR_HEAD_OFS_V _) (by decide)
  · exact reg_of h (at_MTR_HEAD_OFS_I _) (by decide)

theorem ch_applyCal {m : Nat} {s0 : Dev} (s : Dev) (begin_ : Nat)
    (hm : Within 0x78F0000000000000000000000000000000000000000000000000000000000000000000000000000000000000004000 m) (h0 : Changes m s0 s) :
    Changes m s0 (Dev.applyCal s begin_) := by
  unfold Dev.applyCal
  try dsimp only
  repeat' (first | with_reducible assumption | split | (intro _) | with_reducible apply ch_forEach | with_reducible apply ch_wr | with_reducible apply ch_modMtr | exact calItemReg_writes hm (by decide) _ | exact sub_trans hm (by decide) | with_reducible exact reg_of hm (at_MTR_CH_RATIO _) (by decide) | with_reducible exact reg_of hm (at_MTR_CH_GAIN _) (by decide) | with_reducible exact reg_of hm (at_MTR_CH_OFS _) (by decide) | with_reducible exact reg_of hm (at_MTR_CH_PHASE _) (by decide) | with_reducible exact reg_of hm (at_MTR_HEAD_GAIN_V _) (by decide) | with_reducible exact reg_of hm (at_MTR_HEAD_GAIN_I _) (by decide) | with_reducible exact reg_of hm (at_MTR_HEAD_OFS_V _) (by decide) | with_reducible exact reg_of hm (at_MTR_HEAD_OFS_I _) (by decide))

theorem ch_effAssociationTimeout {m : Nat} {s0 : Dev} (c : Channel) (s : Dev)
    (hm : Within 0x20001 m) (h1 : Changes m s0 s) :
    Changes m s0 (effAssociationTimeout c s) := by
  unfold effAssociationTimeout
  try dsimp only
  repeat' (first | with_reducible assumption | split | (intro _) | with_reducible apply ch_endAssoc | with_reducible apply ch_reach | exact sub_trans hm (by decide))

theorem ch_effMagStartupClear {m : Nat} {s0 : Dev} (o : ObjSrc) (s : Dev)
    (hm : Within 0x14000000000000000000000000000000008000000000000000000000000000000000000000000000000000000000000000000000000000000000084072000000000201A4 m) (h1 : Changes m s0 s) :
    Changes m s0 (effMagStartupClear o s) := by
  unfold effMagStartupClear
  try dsimp only
  repeat' (first | with_reducible assumption | split | (intro _) | with_reducible apply ch_magClear | exact sub_trans hm (by decide))

theorem ch_effAccessLockExpiry {m : Nat} {s0 : Dev} (c : Channel) (s : Dev)
    (hm : Within 0x20001 m) (h1 : Changes m s0 s) :
    Changes m s0 (effAccessLockExpiry c s) := by
  unfold effAccessLockExpiry
  try dsimp only
  repeat' (first | with_reducible assumption | split | (intro _) | with_reducible apply ch_modAccess | with_reducible apply ch_reach | exact sub_trans hm (by decide))

end Dev

theorem of_onObj {m : Nat} {s t : State} {o : ObjSrc} {f : Dev → Dev} (h : s.onObj o f = .next t) (hc : Dev.Within 0x8400200000000000084 m)
    (hf : ∀ d, Dev.Changes m s.dev d → Dev.Changes m s.dev (f d)) : t.pending = s.pending ∧ Dev.Changes m s.dev t.dev := by
  refine of_onLive h (Dev.bit_of hc (by decide)) (fun d hd => ?_)
  split
  · exact hf d hd
  · exact Dev.ch_objReply _ _ _ _ hc hd

namespace Dev

theorem ch_execSealBreak {m : Nat} {o : ObjSrc} {s t : State} (hm : Within 0x140000000000000000000000000000000F0001000000000000000000000000000000000000000000000000000000000000000000000000000000084072000000000301A4 m)
    (h : execSealBreak o s = .next t) : t.pending = s.pending ∧ Changes m s.dev t.dev := by
  unfold execSealBreak at h
  refine of_onObj h (sub_trans hm (by decide)) (fun d hd => ?_)
  try dsimp only
  repeat' (first | with_reducible assumption | split | (intro _) | with_reducible apply ch_effSealBreak | exact sub_trans hm (by decide))

theorem ch_execCalendarSet {m : Nat} {o : ObjSrc} {x : CalSet} {s t : State} (hm : Within 0x140000000000000000000000000000000F0000000000000000000000000000000000000000000000000000000000000000000000000000000000084072000000000201E4 m)
    (h : execCalendarSet o x s = .next t) : t.pending = s.pending ∧ Changes m s.dev t.dev := by
  unfold execCalendarSet at h
  refine of_onObj h (sub_trans hm (by decide)) (fun d hd => ?_)
  try dsimp only
  repeat' (first | with_reducible assumption | split | (intro _) | with_reducible apply ch_effCalendarSet | exact sub_trans hm (by decide))

theorem ch_execManAck {m : Nat} {src : Src} {last : Id64} {s t : State} (hm : Within 0x40100000000000000000000000000000000000000000000000000000000000000000000000000000008400200000000020084 m)
    (h : execManAck src last s = .next t) : t.pending = s.pending ∧ Changes m s.dev t.dev := by
  unfold execManAck at h
  refine of_onHost h (sub_trans hm (by decide)) (fun d hd => ?_)
  try dsimp only
  repeat' (first | with_reducible assumption | split | (intro _) | with_reducible apply ch_effManAck | exact sub_trans hm (by decide))

theorem ch_execObjGet {m : Nat} {o : ObjSrc} {id : Word} {s t : State} (hm : Within 0x8400200000000020084 m)
    (h : execObjGet o id s = .next t) : t.pending = s.pending ∧ Changes m s.dev t.dev := by
  unfold execObjGet at h
  refine of_onObj h (sub_trans hm (by decide)) (fun d hd => ?_)
  try dsimp only
  repeat' (first | with_reducible assumption | split | (intro _) | with_reducible apply ch_effObjGet | exact sub_trans hm (by decide))

theorem ch_execUnboundedAcknowledge {m : Nat} {o : ObjSrc} {number : Code} {s t : State} (hm : Within 0x14000000000000000000000000000000000000000000000002000000000000000000000000000000000000000000000000000000000000000000084072000000000201A4 m)
    (h : execUnboundedAcknowledge o number s = .next t) : t.pending = s.pending ∧ Changes m s.dev t.dev := by
  unfold execUnboundedAcknowledge at h
  refine of_onObj h (sub_trans hm (by decide)) (fun d hd => ?_)
  try dsimp only
  repeat' (first | with_reducible assumption | split | (intro _) | with_reducible apply ch_effUnboundedAcknowledge | exact sub_trans hm (by decide))

theorem ch_execObjLogin {m : Nat} {o : ObjSrc} {x : Login} {s t : State} (hm : Within 0x140000000000000000000000000000000F0000000000000000000000000000000000000000000000000000000000000000000000000000000000084072000000000201A4 m)
    (h : execObjLogin o x s = .next t) : t.pending = s.pending ∧ Changes m s.dev t.dev := by
  unfold execObjLogin at h
  refine of_onObj h (sub_trans hm (by decide)) (fun d hd => ?_)
  try dsimp only
  repeat' (first | with_reducible assumption | split | (intro _) | with_reducible apply ch_effObjLogin | exact sub_trans hm (by decide))

theorem ch_execSealReseal {m : Nat} {o : ObjSrc} {s t : State} (hm : Within 0x14000000000000000000000000000000000001000000000000000000000000000000000000000000000000000000000000000000000000000000084072000000000201A4 m)
    (h : execSealReseal o s = .next t) : t.pending = s.pending ∧ Changes m s.dev t.dev := by
  unfold execSealReseal at h
  refine of_onObj h (sub_trans hm (by decide)) (fun d hd => ?_)
  try dsimp only
  repeat' (first | with_reducible assumption | split | (intro _) | with_reducible apply ch_effSealReseal | exact sub_trans hm (by decide))

theorem ch_execCalibrationWrite {m : Nat} {o : ObjSrc} {x : CalItem} {s t : State} (hm : Within 0x140000000000000140480000000000000F00000000000000080000000000000000000000000000000000000000000000000000000000000000000840720000000002C1E4 m)
    (h : execCalibrationWrite o x s = .next t) : t.pending = s.pending ∧ Changes m s.dev t.dev := by
  unfold execCalibrationWrite at h
  refine of_onObj h (sub_trans hm (by decide)) (fun d hd => ?_)
  try dsimp only
  repeat' (first | with_reducible assumption | split | (intro _) | with_reducible apply ch_effCalibrationWrite | exact sub_trans hm (by decide))

theorem ch_execManRead {m : Nat} {src : Src} {first : Id64} {count : Byte} {resLen : Nat} {s t : State} (hm : Within 0x8400200000000000084 m)
    (h : execManRead src first count resLen s = .next t) : t.pending = s.pending ∧ Changes m s.dev t.dev := by
  unfold execManRead at h
  refine of_onHost h (sub_trans hm (by decide)) (fun d hd => ?_)
  try dsimp only
  repeat' (first | with_reducible assumption | split | (intro _) | with_reducible apply ch_effManRead | exact sub_trans hm (by decide))

theorem ch_execObjChallenge {m : Nat} {o : ObjSrc} {s t : State} (hm : Within 0x8400200000000020086 m)
    (h : execObjChallenge o s = .next t) : t.pending = s.pending ∧ Changes m s.dev t.dev := by
  unfold execObjChallenge at h
  refine of_onObj h (sub_trans hm (by decide)) (fun d hd => ?_)
  try dsimp only
  repeat' (first | with_reducible assumption | split | (intro _) | with_reducible apply ch_effObjChallenge | exact sub_trans hm (by decide))

theorem ch_execObjEnd {m : Nat} {o : ObjSrc} {s t : State} (hm : Within 0x8400200000000020084 m)
    (h : execObjEnd o s = .next t) : t.pending = s.pending ∧ Changes m s.dev t.dev := by
  unfold execObjEnd at h
  refine of_onObj h (sub_trans hm (by decide)) (fun d hd => ?_)
  try dsimp only
  repeat' (first | with_reducible assumption | split | (intro _) | with_reducible apply ch_effObjEnd | exact sub_trans hm (by decide))

theorem ch_execPeriodCloseAction {m : Nat} {o : ObjSrc} {s t : State} (hm : Within 0x14000000000000000000000000000003800004000000000000000000000000000000000000000000000000000000000000000000000000000000084072000000000241A4 m)
    (h : execPeriodCloseAction o s = .next t) : t.pending = s.pending ∧ Changes m s.dev t.dev := by
  unfold execPeriodCloseAction at h
  refine of_onObj h (sub_trans hm (by decide)) (fun d hd => ?_)
  try dsimp only
  repeat' (first | with_reducible assumption | split | (intro _) | with_reducible apply ch_effPeriodCloseAction | exact sub_trans hm (by decide))

theorem ch_execScrollSet {m : Nat} {o : ObjSrc} {x : ScrollSet} {s t : State} (hm : Within 0x140000000000000000000000000000000F0000000000000000000000000000000000000000000000000000000000000000000000000000000000084072000000000201E4 m)
    (h : execScrollSet o x s = .next t) : t.pending = s.pending ∧ Changes m s.dev t.dev := by
  unfold execScrollSet at h
  refine of_onObj h (sub_trans hm (by decide)) (fun d hd => ?_)
  try dsimp only
  repeat' (first | with_reducible assumption | split | (intro _) | with_reducible apply ch_effScrollSet | exact sub_trans hm (by decide))

theorem ch_execAssociationTimeout {m : Nat} {c : Channel} {s t : State} (hm : Within 0x20005 m)
    (h : execAssociationTimeout c s = .next t) : t.pending = s.pending ∧ Changes m s.dev t.dev := by
  unfold execAssociationTimeout at h
  refine of_onRun h (bit_of hm (by decide)) (fun d hd => ?_)
  try dsimp only
  repeat' (first | with_reducible assumption | split | (intro _) | with_reducible apply ch_effAssociationTimeout | exact sub_trans hm (by decide))

theorem ch_execLegalTimeSet {m : Nat} {o : ObjSrc} {utc : Nat} {s t : State} (hm : Within 0x1400000000000000000000000000000F8F8025000000000000000000000000000000000000000000000000000000000000000000000000000000084072000008000341E4 m)
    (h : execLegalTimeSet o utc s = .next t) : t.pending = s.pending ∧ Changes m s.dev t.dev := by
  unfold execLegalTimeSet at h
  refine of_onObj h (sub_trans hm (by decide)) (fun d hd => ?_)
  try dsimp only
  repeat' (first | with_reducible assumption | split | (intro _) | with_reducible apply ch_effLegalTimeSet | exact sub_trans hm (by decide))

theorem ch_execMagStartupClear {m : Nat} {o : ObjSrc} {s t : State} (hm : Within 0x14000000000000000000000000000000008000000000000000000000000000000000000000000000000000000000000000000000000000000000084072000000000201A4 m)
    (h : execMagStartupClear o s = .next t) : t.pending = s.pending ∧ Changes m s.dev t.dev := by
  unfold execMagStartupClear at h
  refine of_onObj h (sub_trans hm (by decide)) (fun d hd => ?_)
  try dsimp only
  repeat' (first | with_reducible assumption | split | (intro _) | with_reducible apply ch_effMagStartupClear | exact sub_trans hm (by decide))

theorem ch_execAccessLockExpiry {m : Nat} {c : Channel} {s t : State} (hm : Within 0x20005 m)
    (h : execAccessLockExpiry c s = .next t) : t.pending = s.pending ∧ Changes m s.dev t.dev := by
  unfold execAccessLockExpiry at h
  refine of_onRun h (bit_of hm (by decide)) (fun d hd => ?_)
  try dsimp only
  repeat' (first | with_reducible assumption | split | (intro _) | with_reducible apply ch_effAccessLockExpiry | exact sub_trans hm (by decide))

end Dev

end Sys2Proof.Machine
end

