-- ==== Sys2Proof/Laws/CommitCh.lean ====
section
/-! SUPPORT. What each definition of Machine/Commit.lean may change. -/

namespace Sys2Proof.Machine

set_option linter.all false
set_option Elab.async false

namespace Dev

theorem ch_startIntervals {m : Nat} {s0 : Dev} (s : Dev) (b : Nat)
    (hm : Within 0x10000 m) (h0 : Changes m s0 s) :
    Changes m s0 (Dev.startIntervals s b) := by
  unfold Dev.startIntervals
  try dsimp only
  repeat' (first | with_reducible assumption | split | (intro _) | with_reducible apply ch_forEach | with_reducible apply ch_modSess | exact sub_trans hm (by decide))

theorem ch_baseSample {m : Nat} {s0 : Dev} (s : Dev) (g : Fin 2)
    (hm : Within 0x200 m) (h0 : Changes m s0 s) :
    Changes m s0 (Dev.baseSample s g) := by
  unfold Dev.baseSample
  try dsimp only
  repeat' (first | with_reducible assumption | split | (intro _) | with_reducible apply ch_putAlc | exact bit_of hm (by decide))

theorem ch_commitGrid {m : Nat} {s0 : Dev} (s : Dev) (g : Fin 2) (x : GpSamples)
    (hm : Within 0x1F4081080000000000000000000000000003C010003850EE00200000002202200000000000001000000000000000000000000100804203FC0004608407200000000035FA6 m) (h0 : Changes m s0 s) :
    Changes m s0 (Dev.commitGrid s g x) := by
  unfold Dev.commitGrid
  try dsimp only
  repeat' (first | with_reducible assumption | split | (intro _) | with_reducible apply ch_when | with_reducible apply ch_baseSample | with_reducible apply ch_gridBlock | with_reducible apply ch_gridPointLost | with_reducible apply ch_gridPointBack | exact sub_trans hm (by decide))

theorem ch_commitOutlet {m : Nat} {s0 : Dev} (s : Dev) (n : Fin 16) (b : Nat)
    (hm : Within 0x1400000000000001C7C80000000000000F00000003800000000000000000000000000000000100000000000000000000000000000000000000000840720000000002CDA6 m) (h0 : Changes m s0 s) :
    Changes m s0 (Dev.commitOutlet s n b) := by
  unfold Dev.commitOutlet
  try dsimp only
  repeat' (first | with_reducible assumption | split | (intro _) | with_reducible apply ch_triadBlock | with_reducible apply ch_bookSigned | with_reducible apply ch_modMtr | exact sub_trans hm (by decide))

theorem ch_endIntervals {m : Nat} {s0 : Dev} (s : Dev) (b : Nat)
    (hm : Within 0x14081000000000000000000000000000003C01000000000000000000000000000000000000000000000000000000000000000000000000000000084072000000000301A4 m) (h0 : Changes m s0 s) :
    Changes m s0 (Dev.endIntervals s b) := by
  unfold Dev.endIntervals
  try dsimp only
  repeat' (first | with_reducible assumption | split | (intro _) | with_reducible apply ch_forEach | with_reducible apply ch_settleManifest | with_reducible apply ch_modSess | exact sub_trans hm (by decide))

theorem ch_capReached {m : Nat} {s0 : Dev} (s : Dev) (n : Fin 16)
    (hm : Within 0x14081080000000000000000000000000003C0100000000000000000002202200000000000001000000000000000000000000000000000000000008407200000000030DA6 m) (h0 : Changes m s0 s) :
    Changes m s0 (Dev.capReached s n) := by
  unfold Dev.capReached
  try dsimp only
  repeat' (first | with_reducible assumption | split | (intro _) | with_reducible apply ch_endSession | exact sub_trans hm (by decide))

theorem ch_commitBlock {m : Nat} {s0 : Dev} (s : Dev) (b : Nat) (gp0 : GpSamples) (gp1 : GpSamples)
    (hm : Within 0x1F408108000000001C7C800000000000FFF3CC50033FDFEE03200000002202200000000000001000000000000000000000000100804203FC000460840720000000003DFA6 m) (h0 : Changes m s0 s) :
    Changes m s0 (Dev.commitBlock s b gp0 gp1) := by
  unfold Dev.commitBlock
  try dsimp only
  repeat' (first | with_reducible assumption | split | (intro _) | with_reducible apply ch_forEach | with_reducible apply ch_set64 | with_reducible apply ch_startIntervals | with_reducible apply ch_applyCal | with_reducible apply ch_commitGrid | with_reducible apply ch_commitOutlet | with_reducible apply ch_modMtr | with_reducible apply ch_billBlock | with_reducible apply ch_endIntervals | with_reducible apply ch_pulsesDue | with_reducible apply ch_capReached | exact sub_trans hm (by decide) | with_reducible exact reg_of hm at_MTR_BLOCK_LO (by decide) | with_reducible exact reg_of hm at_MTR_BLOCK_HI (by decide) | with_reducible exact writes_at (reg_of hm at_MTR_BLOCK_HI (by decide)) hi_MTR_BLOCK_LO)

theorem ch_effBlockCommit {m : Nat} {s0 : Dev} (gp0 : GpSamples) (gp1 : GpSamples) (s : Dev)
    (hm : Within 0x1F408108000000001C7C800000000000FFF3CC50033FDFEE03200000002202200000000000001000000000000000000000000100804203FC000460840720000000003DFA7 m) (h2 : Changes m s0 s) :
    Changes m s0 (effBlockCommit gp0 gp1 s) := by
  unfold effBlockCommit
  try dsimp only
  repeat' (first | with_reducible assumption | split | (intro _) | with_reducible apply ch_commitBlock | with_reducible apply ch_reach | exact sub_trans hm (by decide))

theorem ch_execBlockCommit {m : Nat} {gp0 : GpSamples} {gp1 : GpSamples} {s t : State} (hm : Within 0x1F408108000000001C7C800000000000FFF3CC50033FDFEE03200000002202200000000000001000000000000000000000000100804203FC000460840720000000003DFA7 m)
    (h : execBlockCommit gp0 gp1 s = .next t) : t.pending = s.pending ∧ Changes m s.dev t.dev := by
  unfold execBlockCommit at h
  refine of_onRun h (bit_of hm (by decide)) (fun d hd => ?_)
  try dsimp only
  repeat' (first | with_reducible assumption | split | (intro _) | with_reducible apply ch_effBlockCommit | exact sub_trans hm (by decide))

end Dev

end Sys2Proof.Machine
end

