-- ==== Sys2Proof/Laws/LoadSwitchCh.lean ====
section
/-! SUPPORT. What each definition of Machine/LoadSwitch.lean may change. -/

namespace Sys2Proof.Machine

set_option linter.all false
set_option Elab.async false

namespace Dev

theorem ch_effLswRetryCntReset {m : Nat} {s0 : Dev} (n : Fin 20) (s : Dev)
    (hm : Within 0x10000000000000000000000000000000000000000000000000000000000000000000000000000000000000000000000000000000000000000000000000000000001 m) (h1 : Changes m s0 s) :
    Changes m s0 (effLswRetryCntReset n s) := by
  unfold effLswRetryCntReset
  try dsimp only
  repeat' (first | with_reducible assumption | split | (intro _) | with_reducible apply ch_set | with_reducible apply ch_reach | exact sub_trans hm (by decide) | with_reducible exact reg_of hm (at_LSW_CH_STATUS _) (by decide))

theorem ch_modLsw {m : Nat} {s0 : Dev} (s : Dev) (f : Lsw → Lsw)
    (hm : Within 0x100000 m) (h0 : Changes m s0 s) :
    Changes m s0 (Dev.modLsw s f) := by
  unfold Dev.modLsw
  try dsimp only
  repeat' (first | with_reducible assumption | split | (intro _) | with_reducible apply ch_putLsw | exact bit_of hm (by decide))

theorem ch_setSupply {m : Nat} {s0 : Dev} (s : Dev) (c : Nat)
    (hm : Within 0x100000000000000000000000000000000000000000000000000000000000000000000000000000000000000000000000000000000000000000000000000100000 m) (h0 : Changes m s0 s) :
    Changes m s0 (Dev.setSupply s c) := by
  unfold Dev.setSupply
  try dsimp only
  repeat' (first | with_reducible assumption | split | (intro _) | with_reducible apply ch_set | with_reducible apply ch_modLsw | exact sub_trans hm (by decide) | with_reducible exact reg_of hm at_LSW_STATUS (by decide))

theorem ch_supplyRecord {m : Nat} {s0 : Dev} (s : Dev) (cond : Nat) (extreme : Nat)
    (hm : Within 0x14000000000000000000000000000000000000000000000000000000000000000000000000000000000000000000000000000000000000000000084072000000000001A4 m) (h0 : Changes m s0 s) :
    Changes m s0 (Dev.supplyRecord s cond extreme) := by
  unfold Dev.supplyRecord
  try dsimp only
  repeat' (first | with_reducible assumption | split | (intro _) | with_reducible apply ch_ledger | exact sub_trans hm (by decide))

theorem ch_supplyLeft {m : Nat} {s0 : Dev} (s : Dev) (cond : Nat) (ev : Code)
    (hm : Within 0x14000000000000000000000000000000000000000000000000000000000000000000000000000000000000000000000000000000000000000000084072000000000001A6 m) (h0 : Changes m s0 s) :
    Changes m s0 (Dev.supplyLeft s cond ev) := by
  unfold Dev.supplyLeft
  try dsimp only
  repeat' (first | with_reducible assumption | split | (intro _) | with_reducible apply ch_fresh | with_reducible apply ch_post | with_reducible apply ch_supplyRecord | exact sub_trans hm (by decide))

theorem ch_dip {m : Nat} {s0 : Dev} (s : Dev)
    (hm : Within 0x14000021000000000000000000000000000000000000000000000000000000000000000000000000000000000000000000000000000000000000084072000000001001A6 m) (h0 : Changes m s0 s) :
    Changes m s0 (Dev.dip s) := by
  unfold Dev.dip
  try dsimp only
  repeat' (first | with_reducible assumption | split | (intro _) | with_reducible apply ch_bump | with_reducible apply ch_post | with_reducible apply ch_setSupply | with_reducible apply ch_supplyLeft | exact sub_trans hm (by decide) | with_reducible exact reg_of hm at_LSW_DIP_CNT (by decide))

theorem ch_effVauxDip {m : Nat} {s0 : Dev} (s : Dev)
    (hm : Within 0x14000021000000000000000000000000000000000000000000000000000000000000000000000000000000000000000000000000000000000000084072000000001001A6 m) (h0 : Changes m s0 s) :
    Changes m s0 (effVauxDip s) := by
  unfold effVauxDip
  try dsimp only
  repeat' (first | with_reducible assumption | split | (intro _) | with_reducible apply ch_dip | exact sub_trans hm (by decide))

theorem ch_modCh {m : Nat} {s0 : Dev} (s : Dev) (n : Fin 20) (f : LswCh → LswCh)
    (hm : Within 0x100000 m) (h0 : Changes m s0 s) :
    Changes m s0 (Dev.modCh s n f) := by
  unfold Dev.modCh
  try dsimp only
  repeat' (first | with_reducible assumption | split | (intro _) | with_reducible apply ch_modLsw | exact sub_trans hm (by decide))

theorem ch_clampEvent {m : Nat} {s0 : Dev} (s : Dev) (n : Fin 20) (e : Nat)
    (hm : Within 0x14000D00000000000000000000000000000000000000000000000000000000000000000000000000000000000000000000000000000000000000084072000000001001A4 m) (h0 : Changes m s0 s) :
    Changes m s0 (Dev.clampEvent s n e) := by
  unfold Dev.clampEvent
  try dsimp only
  repeat' (first | with_reducible assumption | split | (intro _) | with_reducible apply ch_incSat | with_reducible apply ch_set | with_reducible apply ch_setb | with_reducible apply ch_modCh | with_reducible apply ch_post | exact sub_trans hm (by decide) | with_reducible exact reg_of hm (at_LSW_CH_STATUS _) (by decide) | with_reducible exact reg_of hm (at_LSW_CH_CLAMP _) (by decide) | with_reducible exact reg_of hm (at_LSW_CH_CNT _) (by decide))

theorem ch_showLswOff {m : Nat} {s0 : Dev} (s : Dev) (n : Fin 20)
    (hm : Within 0x10000000000000000000000000000000000000000000000000000000000000000000000000000000000000000000000000000000000000000000000000000000000 m) (h0 : Changes m s0 s) :
    Changes m s0 (Dev.showLswOff s n) := by
  unfold Dev.showLswOff
  try dsimp only
  repeat' (first | with_reducible assumption | split | (intro _) | with_reducible apply ch_set | with_reducible exact reg_of hm (at_LSW_CH_STATUS _) (by decide))

theorem ch_ownedLost {m : Nat} {s0 : Dev} (s : Dev) (n : Fin 20)
    (hm : Within 0x14081080000000000000000000000000003C0100000000000000000002202200000000000001000000000000000000000000000000000000000008407200000000030DA6 m) (h0 : Changes m s0 s) :
    Changes m s0 (Dev.ownedLost s n) := by
  unfold Dev.ownedLost
  try dsimp only
  repeat' (first | with_reducible assumption | split | (intro _) | with_reducible apply ch_when | with_reducible apply ch_setb | with_reducible apply ch_endSession | with_reducible apply ch_post | with_reducible apply ch_contactorGone | exact sub_trans hm (by decide) | with_reducible exact reg_of hm (at_LSW_CH_CTL _) (by decide))

theorem ch_lswStop {m : Nat} {s0 : Dev} (s : Dev) (n : Fin 20) (cause : Nat)
    (hm : Within 0x14081D81000000000000000000000000003C01000000000000000000022022000000000000010000000000000000000000000000000000000000084072000000001B0DA6 m) (h0 : Changes m s0 s) :
    Changes m s0 (Dev.lswStop s n cause) := by
  unfold Dev.lswStop
  try dsimp only
  repeat' (first | with_reducible assumption | split | (intro _) | with_reducible apply ch_set | with_reducible apply ch_setBit | with_reducible apply ch_fresh | with_reducible apply ch_clampEvent | with_reducible apply ch_modCh | with_reducible apply ch_noiseHold | with_reducible apply ch_showLswOff | with_reducible apply ch_contactorGone | with_reducible apply ch_ownedLost | exact sub_trans hm (by decide) | with_reducible exact reg_of hm at_LSW_STATUS (by decide) | with_reducible exact reg_of hm (at_LSW_CH_STATUS _) (by decide))

theorem ch_lswAllOff {m : Nat} {s0 : Dev} (s : Dev) (cause : Nat)
    (hm : Within 0x14081D81000000000000000000000000003C01000000000000000000022022000000000000010000000000000000000000000000000000000000084072000000001B0DA6 m) (h0 : Changes m s0 s) :
    Changes m s0 (Dev.lswAllOff s cause) := by
  unfold Dev.lswAllOff
  try dsimp only
  repeat' (first | with_reducible assumption | split | (intro _) | with_reducible apply ch_forEach | with_reducible apply ch_lswStop | exact sub_trans hm (by decide))

theorem ch_surge {m : Nat} {s0 : Dev} (s : Dev)
    (hm : Within 0x14081D91000000000000000000000000003C01000000000000000000022022000000000000010000000000000000000000000000000000000000084072000000001B0DA6 m) (h0 : Changes m s0 s) :
    Changes m s0 (Dev.surge s) := by
  unfold Dev.surge
  try dsimp only
  repeat' (first | with_reducible assumption | split | (intro _) | with_reducible apply ch_bump | with_reducible apply ch_post | with_reducible apply ch_lswAllOff | with_reducible apply ch_setSupply | with_reducible apply ch_supplyLeft | exact sub_trans hm (by decide) | with_reducible exact reg_of hm at_LSW_SURGE_CNT (by decide))

theorem ch_lswReassert {m : Nat} {s0 : Dev} (s : Dev) (n : Fin 20)
    (hm : Within 0x100000 m) (h0 : Changes m s0 s) :
    Changes m s0 (Dev.lswReassert s n) := by
  unfold Dev.lswReassert
  try dsimp only
  repeat' (first | with_reducible assumption | split | (intro _) | with_reducible apply ch_when | with_reducible apply ch_modCh | exact sub_trans hm (by decide))

theorem ch_lswUnlock {m : Nat} {s0 : Dev} (s : Dev) (n : Fin 20)
    (hm : Within 0x14000502000000000000000000000000000000000000000000000000000000000000000000000000000000000000000000000000000000000000084072000000001001A4 m) (h0 : Changes m s0 s) :
    Changes m s0 (Dev.lswUnlock s n) := by
  unfold Dev.lswUnlock
  try dsimp only
  repeat' (first | with_reducible assumption | split | (intro _) | with_reducible apply ch_setb | with_reducible apply ch_set | with_reducible apply ch_answer | with_reducible apply ch_lswReassert | with_reducible apply ch_reject | with_reducible apply ch_modCh | with_reducible apply ch_post | with_reducible apply ch_showLswOff | exact sub_trans hm (by decide) | with_reducible exact reg_of hm at_LSW_REJECT_CNT (by decide) | with_reducible exact reg_of hm (at_LSW_CH_STATUS _) (by decide) | with_reducible exact reg_of hm (at_LSW_CH_CLAMP _) (by decide))

theorem ch_effLswUnlock {m : Nat} {s0 : Dev} (n : Fin 20) (s : Dev)
    (hm : Within 0x14000502000000000000000000000000000000000000000000000000000000000000000000000000000000000000000000000000000000000000084072000000001001A4 m) (h1 : Changes m s0 s) :
    Changes m s0 (effLswUnlock n s) := by
  unfold effLswUnlock
  try dsimp only
  repeat' (first | with_reducible assumption | split | (intro _) | with_reducible apply ch_lswUnlock | exact sub_trans hm (by decide))

theorem ch_lswConduct {m : Nat} {s0 : Dev} (s : Dev) (n : Fin 20)
    (hm : Within 0x10100000000000000000000000000000000000000000000000000000000000000000000000000000000000000000000000000000000000000000000000000180000 m) (h0 : Changes m s0 s) :
    Changes m s0 (Dev.lswConduct s n) := by
  unfold Dev.lswConduct
  try dsimp only
  repeat' (first | with_reducible assumption | split | (intro _) | with_reducible apply ch_set | with_reducible apply ch_noiseHold | with_reducible apply ch_modCh | with_reducible apply ch_setBit | exact sub_trans hm (by decide) | with_reducible exact reg_of hm at_LSW_STATUS (by decide) | with_reducible exact reg_of hm (at_LSW_CH_STATUS _) (by decide))

theorem ch_lswSettle {m : Nat} {s0 : Dev} (s : Dev) (n : Fin 20) (cause : Nat)
    (hm : Within 0x14081D81000000000000000000000000003C01000000000000000000022022000000000000010000000000000000000000000000000000000000084072000000001B0DA6 m) (h0 : Changes m s0 s) :
    Changes m s0 (Dev.lswSettle s n cause) := by
  unfold Dev.lswSettle
  try dsimp only
  repeat' (first | with_reducible assumption | split | (intro _) | with_reducible apply ch_lswConduct | with_reducible apply ch_lswStop | with_reducible apply ch_showLswOff | exact sub_trans hm (by decide))

theorem ch_lswFollow {m : Nat} {s0 : Dev} (s : Dev) (n : Fin 20) (cause : Nat)
    (hm : Within 0x14081D81000000000000000000000000003C01000000000000000000022022000000000000010000000000000000000000000000000000000000084072000000001B0DA6 m) (h0 : Changes m s0 s) :
    Changes m s0 (Dev.lswFollow s n cause) := by
  unfold Dev.lswFollow
  try dsimp only
  repeat' (first | with_reducible assumption | split | (intro _) | with_reducible apply ch_lswSettle | exact sub_trans hm (by decide))

theorem ch_lswCommand {m : Nat} {s0 : Dev} (s : Dev) (n : Fin 20) (on : Bool)
    (hm : Within 0x14081D81000000000000000000000000003C01000000000000000000022022000000000000010000000000000000000000000000000000000000084072000000001B0DA6 m) (h0 : Changes m s0 s) :
    Changes m s0 (Dev.lswCommand s n on) := by
  unfold Dev.lswCommand
  try dsimp only
  repeat' (first | with_reducible assumption | split | (intro _) | with_reducible apply ch_when | with_reducible apply ch_setb | with_reducible apply ch_modCh | with_reducible apply ch_lswFollow | exact sub_trans hm (by decide) | with_reducible exact reg_of hm (at_LSW_CH_CTL _) (by decide))

theorem ch_lswWarn {m : Nat} {s0 : Dev} (s : Dev) (n : Fin 20) (tj : Int)
    (hm : Within 0x14000300000000000000000000000000000000000000000000000000000000000000000000000000000000000000000000000000000000000000084072000000000001A4 m) (h0 : Changes m s0 s) :
    Changes m s0 (Dev.lswWarn s n tj) := by
  unfold Dev.lswWarn
  try dsimp only
  repeat' (first | with_reducible assumption | split | (intro _) | with_reducible apply ch_when | with_reducible apply ch_setb | with_reducible apply ch_seti | with_reducible apply ch_post | exact sub_trans hm (by decide) | with_reducible exact reg_of hm (at_LSW_CH_STATUS _) (by decide) | with_reducible exact reg_of hm (at_LSW_CH_MEAS _) (by decide))

theorem ch_effLswTempWarn {m : Nat} {s0 : Dev} (n : Fin 20) (tj : Int) (s : Dev)
    (hm : Within 0x14000300000000000000000000000000000000000000000000000000000000000000000000000000000000000000000000000000000000000000084072000000000001A4 m) (h2 : Changes m s0 s) :
    Changes m s0 (effLswTempWarn n tj s) := by
  unfold effLswTempWarn
  try dsimp only
  repeat' (first | with_reducible assumption | split | (intro _) | with_reducible apply ch_lswWarn | exact sub_trans hm (by decide))

theorem ch_lswResetState {m : Nat} {s0 : Dev} (s : Dev) (n : Fin 20) (cause : Nat)
    (hm : Within 0x14081D81000000000000000000000000003C01000000000000000000022022000000000000010000000000000000000000000000000000000000084072000000001B0DA6 m) (h0 : Changes m s0 s) :
    Changes m s0 (Dev.lswResetState s n cause) := by
  unfold Dev.lswResetState
  try dsimp only
  repeat' (first | with_reducible assumption | split | (intro _) | with_reducible apply ch_setb | with_reducible apply ch_modCh | with_reducible apply ch_lswFollow | exact sub_trans hm (by decide) | with_reducible exact reg_of hm (at_LSW_CH_CTL _) (by decide))

theorem ch_holdEndNow {m : Nat} {s0 : Dev} (s : Dev)
    (hm : Within 0x14081D81000000000000000000000000003C01000000000000000000022022000000000000010000000000000000000000000000000000000000084072000000001B0DA7 m) (h0 : Changes m s0 s) :
    Changes m s0 (Dev.holdEndNow s) := by
  unfold Dev.holdEndNow
  try dsimp only
  repeat' (first | with_reducible assumption | split | (intro _) | with_reducible apply ch_forEach | with_reducible apply ch_when | with_reducible apply ch_setb | with_reducible apply ch_reach | with_reducible apply ch_modLsw | with_reducible apply ch_lswResetState | with_reducible apply ch_post | exact sub_trans hm (by decide) | with_reducible exact reg_of hm at_LSW_STATUS (by decide))

theorem ch_lswShutdown {m : Nat} {s0 : Dev} (s : Dev) (n : Fin 20) (cause : Nat)
    (hm : Within 0x14081D81000000000000000000000000003C01000000000000000000022022000000000000010000000000000000000000000000000000000000084072000000001B0DA6 m) (h0 : Changes m s0 s) :
    Changes m s0 (Dev.lswShutdown s n cause) := by
  unfold Dev.lswShutdown
  try dsimp only
  repeat' (first | with_reducible assumption | split | (intro _) | with_reducible apply ch_when | with_reducible apply ch_incSat | with_reducible apply ch_setb | with_reducible apply ch_modCh | with_reducible apply ch_post | with_reducible apply ch_lswStop | exact sub_trans hm (by decide) | with_reducible exact reg_of hm (at_LSW_CH_STATUS _) (by decide) | with_reducible exact reg_of hm (at_LSW_CH_CNT _) (by decide))

theorem ch_effLswThermalShutdown {m : Nat} {s0 : Dev} (n : Fin 20) (s : Dev)
    (hm : Within 0x14081D81000000000000000000000000003C01000000000000000000022022000000000000010000000000000000000000000000000000000000084072000000001B0DA6 m) (h1 : Changes m s0 s) :
    Changes m s0 (effLswThermalShutdown n s) := by
  unfold effLswThermalShutdown
  try dsimp only
  repeat' (first | with_reducible assumption | split | (intro _) | with_reducible apply ch_lswShutdown | exact sub_trans hm (by decide))

theorem ch_lswRetry {m : Nat} {s0 : Dev} (s : Dev) (n : Fin 20)
    (hm : Within 0x14000101000000000000000000000000000000000000000000000000000000000000000000000000000000000000000000000000000000000000084072000000001801A4 m) (h0 : Changes m s0 s) :
    Changes m s0 (Dev.lswRetry s n) := by
  unfold Dev.lswRetry
  try dsimp only
  repeat' (first | with_reducible assumption | split | (intro _) | with_reducible apply ch_incSat | with_reducible apply ch_modCh | with_reducible apply ch_lswConduct | with_reducible apply ch_post | exact sub_trans hm (by decide) | with_reducible exact reg_of hm (at_LSW_CH_STATUS _) (by decide))

theorem ch_surgeEnd {m : Nat} {s0 : Dev} (s : Dev) (peak : Nat)
    (hm : Within 0x14081D81000000000000000000000000003C01000000000000000000022022000000000000010000000000000000000000000000000000000000084072000000001B0DA6 m) (h0 : Changes m s0 s) :
    Changes m s0 (Dev.surgeEnd s peak) := by
  unfold Dev.surgeEnd
  try dsimp only
  repeat' (first | with_reducible assumption | split | (intro _) | with_reducible apply ch_forEach | with_reducible apply ch_setSupply | with_reducible apply ch_supplyRecord | with_reducible apply ch_lswRetry | with_reducible apply ch_lswSettle | with_reducible apply ch_post | exact sub_trans hm (by decide))

theorem ch_effVauxSurgeEnd {m : Nat} {s0 : Dev} (peak : Nat) (s : Dev)
    (hm : Within 0x14081D81000000000000000000000000003C01000000000000000000022022000000000000010000000000000000000000000000000000000000084072000000001B0DA6 m) (h1 : Changes m s0 s) :
    Changes m s0 (effVauxSurgeEnd peak s) := by
  unfold effVauxSurgeEnd
  try dsimp only
  repeat' (first | with_reducible assumption | split | (intro _) | with_reducible apply ch_surgeEnd | exact sub_trans hm (by decide))

theorem ch_lswEnWrite {m : Nat} {s0 : Dev} (s : Dev) (n : Fin 20) (en : Bool)
    (hm : Within 0x14081DC3000000000000000000000000003C01000000000000000000022022000000000000010000000000000000000000000000000000000000084072000000001B0DA6 m) (h0 : Changes m s0 s) :
    Changes m s0 (Dev.lswEnWrite s n en) := by
  unfold Dev.lswEnWrite
  try dsimp only
  repeat' (first | with_reducible assumption | split | (intro _) | with_reducible apply ch_setb | with_reducible apply ch_reject | with_reducible apply ch_lswStop | with_reducible apply ch_lswFollow | with_reducible apply ch_answer | exact sub_trans hm (by decide) | with_reducible exact reg_of hm at_LSW_REJECT_CNT (by decide) | with_reducible exact reg_of hm (at_LSW_CH_CFG _) (by decide))

theorem ch_effLswEnWrite {m : Nat} {s0 : Dev} (n : Fin 20) (en : Bool) (s : Dev)
    (hm : Within 0x14081DC3000000000000000000000000003C01000000000000000000022022000000000000010000000000000000000000000000000000000000084072000000001B0DA6 m) (h2 : Changes m s0 s) :
    Changes m s0 (effLswEnWrite n en s) := by
  unfold effLswEnWrite
  try dsimp only
  repeat' (first | with_reducible assumption | split | (intro _) | with_reducible apply ch_lswEnWrite | exact sub_trans hm (by decide))

theorem ch_effLswRetry {m : Nat} {s0 : Dev} (n : Fin 20) (s : Dev)
    (hm : Within 0x14000101000000000000000000000000000000000000000000000000000000000000000000000000000000000000000000000000000000000000084072000000001801A5 m) (h1 : Changes m s0 s) :
    Changes m s0 (effLswRetry n s) := by
  unfold effLswRetry
  try dsimp only
  repeat' (first | with_reducible assumption | split | (intro _) | with_reducible apply ch_lswRetry | with_reducible apply ch_reach | exact sub_trans hm (by decide))

theorem ch_lswFollowAll {m : Nat} {s0 : Dev} (s : Dev) (cause : Nat)
    (hm : Within 0x14081D81000000000000000000000000003C01000000000000000000022022000000000000010000000000000000000000000000000000000000084072000000001B0DA6 m) (h0 : Changes m s0 s) :
    Changes m s0 (Dev.lswFollowAll s cause) := by
  unfold Dev.lswFollowAll
  try dsimp only
  repeat' (first | with_reducible assumption | split | (intro _) | with_reducible apply ch_forEach | with_reducible apply ch_lswFollow | exact sub_trans hm (by decide))

theorem ch_dipEnd {m : Nat} {s0 : Dev} (s : Dev) (lowest : Nat)
    (hm : Within 0x14081D81000000000000000000000000003C01000000000000000000022022000000000000010000000000000000000000000000000000000000084072000000001B0DA6 m) (h0 : Changes m s0 s) :
    Changes m s0 (Dev.dipEnd s lowest) := by
  unfold Dev.dipEnd
  try dsimp only
  repeat' (first | with_reducible assumption | split | (intro _) | with_reducible apply ch_post | with_reducible apply ch_lswFollowAll | with_reducible apply ch_setSupply | with_reducible apply ch_supplyRecord | exact sub_trans hm (by decide))

theorem ch_effVauxDipEnd {m : Nat} {s0 : Dev} (lowest : Nat) (s : Dev)
    (hm : Within 0x14081D81000000000000000000000000003C01000000000000000000022022000000000000010000000000000000000000000000000000000000084072000000001B0DA6 m) (h1 : Changes m s0 s) :
    Changes m s0 (effVauxDipEnd lowest s) := by
  unfold effVauxDipEnd
  try dsimp only
  repeat' (first | with_reducible assumption | split | (intro _) | with_reducible apply ch_dipEnd | exact sub_trans hm (by decide))

theorem ch_effLswOvercurrent {m : Nat} {s0 : Dev} (n : Fin 20) (since : Nat) (s : Dev)
    (hm : Within 0x14081D81000000000000000000000000003C01000000000000000000022022000000000000010000000000000000000000000000000000000000084072000000001B0DA7 m) (h2 : Changes m s0 s) :
    Changes m s0 (effLswOvercurrent n since s) := by
  unfold effLswOvercurrent
  try dsimp only
  repeat' (first | with_reducible assumption | split | (intro _) | with_reducible apply ch_lswShutdown | with_reducible apply ch_reach | exact sub_trans hm (by decide))

theorem ch_lswOnWrite {m : Nat} {s0 : Dev} (s : Dev) (n : Fin 20) (on : Bool)
    (hm : Within 0x14081D83000000000000000000000000003C01000000000000000000022022000000000000010000000000000000000000000000000000000000084072000000001B0DA6 m) (h0 : Changes m s0 s) :
    Changes m s0 (Dev.lswOnWrite s n on) := by
  unfold Dev.lswOnWrite
  try dsimp only
  repeat' (first | with_reducible assumption | split | (intro _) | with_reducible apply ch_reject | with_reducible apply ch_answer | with_reducible apply ch_lswCommand | with_reducible apply ch_lswReassert | exact sub_trans hm (by decide) | with_reducible exact reg_of hm at_LSW_REJECT_CNT (by decide))

theorem ch_persistReassert {m : Nat} {s0 : Dev} (s : Dev)
    (hm : Within 0x14081D81000000000000000000000000003C01000000000000000000022022000000000000010000000000000000000000000000000000000000084072000000001B0DA6 m) (h0 : Changes m s0 s) :
    Changes m s0 (Dev.persistReassert s) := by
  unfold Dev.persistReassert
  try dsimp only
  repeat' (first | with_reducible assumption | split | (intro _) | with_reducible apply ch_forEach | with_reducible apply ch_lswFollow | with_reducible apply ch_lswReassert | exact sub_trans hm (by decide))

theorem ch_effLswOnWrite {m : Nat} {s0 : Dev} (n : Fin 20) (on : Bool) (s : Dev)
    (hm : Within 0x14081D83000000000000000000000000003C01000000000000000000022022000000000000010000000000000000000000000000000000000000084072000000001B0DA6 m) (h2 : Changes m s0 s) :
    Changes m s0 (effLswOnWrite n on s) := by
  unfold effLswOnWrite
  try dsimp only
  repeat' (first | with_reducible assumption | split | (intro _) | with_reducible apply ch_lswOnWrite | exact sub_trans hm (by decide))

theorem ch_openHold {m : Nat} {s0 : Dev} (s : Dev)
    (hm : Within 0x100000000000000000000000000000000000000000000000000000000000000000000000000000000000000000000000000000000000000000000000000100000 m) (h0 : Changes m s0 s) :
    Changes m s0 (Dev.openHold s) := by
  unfold Dev.openHold
  try dsimp only
  repeat' (first | with_reducible assumption | split | (intro _) | with_reducible apply ch_setb | with_reducible apply ch_modLsw | exact sub_trans hm (by decide) | with_reducible exact reg_of hm at_LSW_STATUS (by decide))

theorem ch_offTest {m : Nat} {s0 : Dev} (s : Dev) (n : Fin 20) (v0 : Nat) (v1 : Nat)
    (hm : Within 0x14000100000000000000000000000000000000000000000000000000000000000000000000000000000000000000000000000000000000000000084072000000001001A5 m) (h0 : Changes m s0 s) :
    Changes m s0 (Dev.offTest s n v0 v1) := by
  unfold Dev.offTest
  try dsimp only
  repeat' (first | with_reducible assumption | split | (intro _) | with_reducible apply ch_when | with_reducible apply ch_setb | with_reducible apply ch_reach | with_reducible apply ch_modCh | with_reducible apply ch_post | exact sub_trans hm (by decide) | with_reducible exact reg_of hm (at_LSW_CH_STATUS _) (by decide))

theorem ch_effLswOffstateTest {m : Nat} {s0 : Dev} (n : Fin 20) (v0 : Nat) (v1 : Nat) (s : Dev)
    (hm : Within 0x14000100000000000000000000000000000000000000000000000000000000000000000000000000000000000000000000000000000000000000084072000000001001A5 m) (h3 : Changes m s0 s) :
    Changes m s0 (effLswOffstateTest n v0 v1 s) := by
  unfold effLswOffstateTest
  try dsimp only
  repeat' (first | with_reducible assumption | split | (intro _) | with_reducible apply ch_offTest | exact sub_trans hm (by decide))

theorem ch_aggEval {m : Nat} {s0 : Dev} (s : Dev) (meas : List LswMeas)
    (hm : Within 0x14081D89000000000000000000000000003C01000000000000000000022022000000000000010000000000000000000000000000000000000000084072000000001B0DA6 m) (h0 : Changes m s0 s) :
    Changes m s0 (Dev.aggEval s meas) := by
  unfold Dev.aggEval
  try dsimp only
  repeat' (first | with_reducible assumption | split | (intro _) | with_reducible apply ch_when | with_reducible apply ch_set | with_reducible apply ch_setb | with_reducible apply ch_modLsw | with_reducible apply ch_post | with_reducible apply ch_lswStop | with_reducible apply ch_modCh | exact sub_trans hm (by decide) | with_reducible exact reg_of hm at_LSW_STATUS (by decide) | with_reducible exact reg_of hm at_LSW_AGG (by decide))

theorem ch_effHoldWindowEnd {m : Nat} {s0 : Dev} (s : Dev)
    (hm : Within 0x14081D81000000000000000000000000003C01000000000000000000022022000000000000010000000000000000000000000000000000000000084072000000001B0DA7 m) (h0 : Changes m s0 s) :
    Changes m s0 (effHoldWindowEnd s) := by
  unfold effHoldWindowEnd
  try dsimp only
  repeat' (first | with_reducible assumption | split | (intro _) | with_reducible apply ch_holdEndNow | exact sub_trans hm (by decide))

theorem ch_lswContactor {m : Nat} {s0 : Dev} (s : Dev) (n : Fin 20) (on : Bool)
    (hm : Within 0x14081D81000000000000000000000000003C01000000000000000000022022000000000000010000000000000000000000000000000000000000084072000000001B0DA6 m) (h0 : Changes m s0 s) :
    Changes m s0 (Dev.lswContactor s n on) := by
  unfold Dev.lswContactor
  try dsimp only
  repeat' (first | with_reducible assumption | split | (intro _) | with_reducible apply ch_when | with_reducible apply ch_lswCommand | with_reducible apply ch_post | exact sub_trans hm (by decide))

theorem ch_lswSafeHold {m : Nat} {s0 : Dev} (s : Dev)
    (hm : Within 0x14081D81000000000000000000000000003C01000000000000000000022022000000000000010000000000000000000000000000000000000000084072000000001B0DA6 m) (h0 : Changes m s0 s) :
    Changes m s0 (Dev.lswSafeHold s) := by
  unfold Dev.lswSafeHold
  try dsimp only
  repeat' (first | with_reducible assumption | split | (intro _) | with_reducible apply ch_forEach | with_reducible apply ch_setb | with_reducible apply ch_lswFollow | exact sub_trans hm (by decide) | with_reducible exact reg_of hm (at_LSW_CH_CTL _) (by decide))

theorem ch_showMeas {m : Nat} {s0 : Dev} (s : Dev) (meas : List LswMeas)
    (hm : Within 0x14000300000000000000000000000000000000000000000000000000000000000000000000000000000000000000000000000000000000000000084072000000000001A4 m) (h0 : Changes m s0 s) :
    Changes m s0 (Dev.showMeas s meas) := by
  unfold Dev.showMeas
  try dsimp only
  repeat' (first | with_reducible assumption | split | (intro _) | with_reducible apply ch_forEach | with_reducible apply ch_when | with_reducible apply ch_set | with_reducible apply ch_lswWarn | exact sub_trans hm (by decide) | with_reducible exact reg_of hm (at_LSW_CH_STATUS _) (by decide) | with_reducible exact reg_of hm (at_LSW_CH_MEAS _) (by decide))

theorem ch_effLswAggEval {m : Nat} {s0 : Dev} (meas : List LswMeas) (vaux : Nat) (vhold : Nat) (s : Dev)
    (hm : Within 0x14081F8D000000000000000000000000003C01000000000000000000022022000000000000010000000000000000000000000000000000000000084072000000001B0DE7 m) (h3 : Changes m s0 s) :
    Changes m s0 (effLswAggEval meas vaux vhold s) := by
  unfold effLswAggEval
  try dsimp only
  repeat' (first | with_reducible assumption | split | (intro _) | with_reducible apply ch_set | with_reducible apply ch_tick | with_reducible apply ch_aggEval | with_reducible apply ch_showMeas | exact sub_trans hm (by decide) | with_reducible exact reg_of hm at_LSW_SUPPLY (by decide))

theorem ch_effVauxSurge {m : Nat} {s0 : Dev} (s : Dev)
    (hm : Within 0x14081D91000000000000000000000000003C01000000000000000000022022000000000000010000000000000000000000000000000000000000084072000000001B0DA6 m) (h0 : Changes m s0 s) :
    Changes m s0 (effVauxSurge s) := by
  unfold effVauxSurge
  try dsimp only
  repeat' (first | with_reducible assumption | split | (intro _) | with_reducible apply ch_surge | exact sub_trans hm (by decide))

theorem ch_showOwners {m : Nat} {s0 : Dev} (s : Dev)
    (hm : Within 0x10000000000000000000000000000000000000000000000000000000000000000000000000000000000000000000000000000000000000000000000000000000000 m) (h0 : Changes m s0 s) :
    Changes m s0 (Dev.showOwners s) := by
  unfold Dev.showOwners
  try dsimp only
  repeat' (first | with_reducible assumption | split | (intro _) | with_reducible apply ch_forEach | with_reducible apply ch_setb | with_reducible exact reg_of hm (at_LSW_CH_STATUS _) (by decide))

theorem ch_execVauxDip {m : Nat}  {s t : State} (hm : Within 0x14000021000000000000000000000000000000000000000000000000000000000000000000000000000000000000000000000000000000000000084072000000001001A6 m)
    (h : execVauxDip  s = .next t) : t.pending = s.pending ∧ Changes m s.dev t.dev := by
  unfold execVauxDip at h
  refine of_onPower h (bit_of hm (by decide)) (fun d hd => ?_)
  try dsimp only
  repeat' (first | with_reducible assumption | split | (intro _) | with_reducible apply ch_effVauxDip | exact sub_trans hm (by decide))

theorem ch_execLswThermalShutdown {m : Nat} {n : Fin 20} {s t : State} (hm : Within 0x14081D81000000000000000000000000003C01000000000000000000022022000000000000010000000000000000000000000000000000000000084072000000001B0DA6 m)
    (h : execLswThermalShutdown n s = .next t) : t.pending = s.pending ∧ Changes m s.dev t.dev := by
  unfold execLswThermalShutdown at h
  refine of_onPower h (bit_of hm (by decide)) (fun d hd => ?_)
  try dsimp only
  repeat' (first | with_reducible assumption | split | (intro _) | with_reducible apply ch_effLswThermalShutdown | exact sub_trans hm (by decide))

theorem ch_execLswEnWrite {m : Nat} {n : Fin 20} {en : Bool} {s t : State} (hm : Within 0x14081DC3000000000000000000000000003C01000000000000000000022022000000000000010000000000000000000000000000000000000000084072000000001B0DA6 m)
    (h : execLswEnWrite n en s = .next t) : t.pending = s.pending ∧ Changes m s.dev t.dev := by
  unfold execLswEnWrite at h
  refine of_onReg h (bit_of hm (by decide)) (fun d hd => ?_)
  try dsimp only
  repeat' (first | with_reducible assumption | split | (intro _) | with_reducible apply ch_effLswEnWrite | exact sub_trans hm (by decide))

theorem ch_execVauxSurgeEnd {m : Nat} {peak : Nat} {s t : State} (hm : Within 0x14081D81000000000000000000000000003C01000000000000000000022022000000000000010000000000000000000000000000000000000000084072000000001B0DA6 m)
    (h : execVauxSurgeEnd peak s = .next t) : t.pending = s.pending ∧ Changes m s.dev t.dev := by
  unfold execVauxSurgeEnd at h
  refine of_onPower h (bit_of hm (by decide)) (fun d hd => ?_)
  try dsimp only
  repeat' (first | with_reducible assumption | split | (intro _) | with_reducible apply ch_effVauxSurgeEnd | exact sub_trans hm (by decide))

theorem ch_execLswRetry {m : Nat} {n : Fin 20} {s t : State} (hm : Within 0x14000101000000000000000000000000000000000000000000000000000000000000000000000000000000000000000000000000000000000000084072000000001801A5 m)
    (h : execLswRetry n s = .next t) : t.pending = s.pending ∧ Changes m s.dev t.dev := by
  unfold execLswRetry at h
  refine of_onPower h (bit_of hm (by decide)) (fun d hd => ?_)
  try dsimp only
  repeat' (first | with_reducible assumption | split | (intro _) | with_reducible apply ch_effLswRetry | exact sub_trans hm (by decide))

theorem ch_execVauxDipEnd {m : Nat} {lowest : Nat} {s t : State} (hm : Within 0x14081D81000000000000000000000000003C01000000000000000000022022000000000000010000000000000000000000000000000000000000084072000000001B0DA6 m)
    (h : execVauxDipEnd lowest s = .next t) : t.pending = s.pending ∧ Changes m s.dev t.dev := by
  unfold execVauxDipEnd at h
  refine of_onPower h (bit_of hm (by decide)) (fun d hd => ?_)
  try dsimp only
  repeat' (first | with_reducible assumption | split | (intro _) | with_reducible apply ch_effVauxDipEnd | exact sub_trans hm (by decide))

theorem ch_execLswOnWrite {m : Nat} {n : Fin 20} {on : Bool} {s t : State} (hm : Within 0x14081D83000000000000000000000000003C01000000000000000000022022000000000000010000000000000000000000000000000000000000084072000000001B0DA6 m)
    (h : execLswOnWrite n on s = .next t) : t.pending = s.pending ∧ Changes m s.dev t.dev := by
  unfold execLswOnWrite at h
  refine of_onReg h (bit_of hm (by decide)) (fun d hd => ?_)
  try dsimp only
  repeat' (first | with_reducible assumption | split | (intro _) | with_reducible apply ch_effLswOnWrite | exact sub_trans hm (by decide))

theorem ch_execLswRetryCntReset {m : Nat} {n : Fin 20} {s t : State} (hm : Within 0x10000000000000000000000000000000000000000000000000000000000000000000000000000000000000000000000000000000000000000000000000000000005 m)
    (h : execLswRetryCntReset n s = .next t) : t.pending = s.pending ∧ Changes m s.dev t.dev := by
  unfold execLswRetryCntReset at h
  refine of_onPower h (bit_of hm (by decide)) (fun d hd => ?_)
  try dsimp only
  repeat' (first | with_reducible assumption | split | (intro _) | with_reducible apply ch_effLswRetryCntReset | exact sub_trans hm (by decide))

theorem ch_execHoldWindowEnd {m : Nat}  {s t : State} (hm : Within 0x14081D81000000000000000000000000003C01000000000000000000022022000000000000010000000000000000000000000000000000000000084072000000001B0DA7 m)
    (h : execHoldWindowEnd  s = .next t) : t.pending = s.pending ∧ Changes m s.dev t.dev := by
  unfold execHoldWindowEnd at h
  refine of_onDev h (bit_of hm (by decide)) (fun d hd => ?_)
  try dsimp only
  repeat' (first | with_reducible assumption | split | (intro _) | with_reducible apply ch_effHoldWindowEnd | exact sub_trans hm (by decide))

theorem ch_execLswOffstateTest {m : Nat} {n : Fin 20} {v0 : Nat} {v1 : Nat} {s t : State} (hm : Within 0x14000100000000000000000000000000000000000000000000000000000000000000000000000000000000000000000000000000000000000000084072000000001001A5 m)
    (h : execLswOffstateTest n v0 v1 s = .next t) : t.pending = s.pending ∧ Changes m s.dev t.dev := by
  unfold execLswOffstateTest at h
  refine of_onPower h (bit_of hm (by decide)) (fun d hd => ?_)
  try dsimp only
  repeat' (first | with_reducible assumption | split | (intro _) | with_reducible apply ch_effLswOffstateTest | exact sub_trans hm (by decide))

theorem ch_execLswAggEval {m : Nat} {meas : List LswMeas} {vaux : Nat} {vhold : Nat} {s t : State} (hm : Within 0x14081F8D000000000000000000000000003C01000000000000000000022022000000000000010000000000000000000000000000000000000000084072000000001B0DE7 m)
    (h : execLswAggEval meas vaux vhold s = .next t) : t.pending = s.pending ∧ Changes m s.dev t.dev := by
  unfold execLswAggEval at h
  refine of_onPower h (bit_of hm (by decide)) (fun d hd => ?_)
  try dsimp only
  repeat' (first | with_reducible assumption | split | (intro _) | with_reducible apply ch_effLswAggEval | exact sub_trans hm (by decide))

theorem ch_execLswUnlock {m : Nat} {n : Fin 20} {s t : State} (hm : Within 0x14000502000000000000000000000000000000000000000000000000000000000000000000000000000000000000000000000000000000000000084072000000001001A4 m)
    (h : execLswUnlock n s = .next t) : t.pending = s.pending ∧ Changes m s.dev t.dev := by
  unfold execLswUnlock at h
  refine of_onReg h (bit_of hm (by decide)) (fun d hd => ?_)
  try dsimp only
  repeat' (first | with_reducible assumption | split | (intro _) | with_reducible apply ch_effLswUnlock | exact sub_trans hm (by decide))

theorem ch_execVauxSurge {m : Nat}  {s t : State} (hm : Within 0x14081D91000000000000000000000000003C01000000000000000000022022000000000000010000000000000000000000000000000000000000084072000000001B0DA6 m)
    (h : execVauxSurge  s = .next t) : t.pending = s.pending ∧ Changes m s.dev t.dev := by
  unfold execVauxSurge at h
  refine of_onPower h (bit_of hm (by decide)) (fun d hd => ?_)
  try dsimp only
  repeat' (first | with_reducible assumption | split | (intro _) | with_reducible apply ch_effVauxSurge | exact sub_trans hm (by decide))

theorem ch_execLswTempWarn {m : Nat} {n : Fin 20} {tj : Int} {s t : State} (hm : Within 0x14000300000000000000000000000000000000000000000000000000000000000000000000000000000000000000000000000000000000000000084072000000000001A4 m)
    (h : execLswTempWarn n tj s = .next t) : t.pending = s.pending ∧ Changes m s.dev t.dev := by
  unfold execLswTempWarn at h
  refine of_onPower h (bit_of hm (by decide)) (fun d hd => ?_)
  try dsimp only
  repeat' (first | with_reducible assumption | split | (intro _) | with_reducible apply ch_effLswTempWarn | exact sub_trans hm (by decide))

theorem ch_execLswOvercurrent {m : Nat} {n : Fin 20} {since : Nat} {s t : State} (hm : Within 0x14081D81000000000000000000000000003C01000000000000000000022022000000000000010000000000000000000000000000000000000000084072000000001B0DA7 m)
    (h : execLswOvercurrent n since s = .next t) : t.pending = s.pending ∧ Changes m s.dev t.dev := by
  unfold execLswOvercurrent at h
  refine of_onPower h (bit_of hm (by decide)) (fun d hd => ?_)
  try dsimp only
  repeat' (first | with_reducible assumption | split | (intro _) | with_reducible apply ch_effLswOvercurrent | exact sub_trans hm (by decide))

end Dev

end Sys2Proof.Machine
end

