-- ==== Sys2Proof/Laws/SafCh.lean ====
section
/-! SUPPORT. What each definition of Machine/Saf.lean may change. -/

namespace Sys2Proof.Machine

set_option linter.all false
set_option Elab.async false

namespace Dev

theorem ch_modSaf {m : Nat} {s0 : Dev} (s : Dev) (f : Saf → Saf)
    (hm : Within 0x200000 m) (h0 : Changes m s0 s) :
    Changes m s0 (Dev.modSaf s f) := by
  unfold Dev.modSaf
  try dsimp only
  repeat' (first | with_reducible assumption | split | (intro _) | with_reducible apply ch_putSaf | exact bit_of hm (by decide))

theorem ch_modChan {m : Nat} {s0 : Dev} (s : Dev) (c : Fin 2) (f : SafChan → SafChan)
    (hm : Within 0x200000 m) (h0 : Changes m s0 s) :
    Changes m s0 (Dev.modChan s c f) := by
  unfold Dev.modChan
  try dsimp only
  repeat' (first | with_reducible assumption | split | (intro _) | with_reducible apply ch_modSaf | exact sub_trans hm (by decide))

theorem ch_pinStep {m : Nat} {s0 : Dev} (s : Dev) (c : Fin 2) (i : Fin 16) (raw : Bool)
    (hm : Within 0x200000 m) (h0 : Changes m s0 s) :
    Changes m s0 (Dev.pinStep s c i raw) := by
  unfold Dev.pinStep
  try dsimp only
  repeat' (first | with_reducible assumption | split | (intro _) | with_reducible apply ch_modChan | exact sub_trans hm (by decide))

theorem ch_safDrive {m : Nat} {s0 : Dev} (s : Dev)
    (hm : Within 0x102100000000000000000000000000000000000000000000000000000000000000000000000000000000000000000000000000000000000000000000000000 m) (h0 : Changes m s0 s) :
    Changes m s0 (Dev.safDrive s) := by
  unfold Dev.safDrive
  try dsimp only
  repeat' (first | with_reducible assumption | split | (intro _) | with_reducible apply ch_forEach | with_reducible apply ch_setb | with_reducible apply ch_set | with_reducible apply ch_setBit | exact sub_trans hm (by decide) | with_reducible exact reg_of hm at_SAF_STATUS (by decide) | with_reducible exact reg_of hm at_SAF_OUT_EN (by decide) | with_reducible exact reg_of hm (at_SAF_SOUT_STATUS _) (by decide))

theorem ch_faultClr {m : Nat} {s0 : Dev} (s : Dev)
    (hm : Within 0x102100000000000000000000000000000000000000000000000000000000000000000000000000000000000000000000000000000000000000000000000000 m) (h0 : Changes m s0 s) :
    Changes m s0 (Dev.faultClr s) := by
  unfold Dev.faultClr
  try dsimp only
  repeat' (first | with_reducible assumption | split | (intro _) | with_reducible apply ch_forEach | with_reducible apply ch_set | with_reducible apply ch_setb | with_reducible apply ch_safDrive | exact sub_trans hm (by decide) | with_reducible exact reg_of hm (at_SAF_SOUT_STATUS _) (by decide))

theorem ch_showStop {m : Nat} {s0 : Dev} (s : Dev)
    (hm : Within 0x1F4081080001021000000000000000000003C0100000000000000000002202200000000000001000000000000000000000000100804203FC0004608407200000000031FA6 m) (h0 : Changes m s0 s) :
    Changes m s0 (Dev.showStop s) := by
  unfold Dev.showStop
  try dsimp only
  repeat' (first | with_reducible assumption | split | (intro _) | with_reducible apply ch_set | with_reducible apply ch_siteTrip | with_reducible apply ch_safDrive | with_reducible apply ch_post | with_reducible apply ch_refuseAll | exact sub_trans hm (by decide) | with_reducible exact reg_of hm at_ALC_TRIP (by decide) | with_reducible exact reg_of hm at_SAF_STATUS (by decide))

theorem ch_showPair {m : Nat} {s0 : Dev} (s : Dev) (p : Fin 8)
    (hm : Within 0x14000000000401000000000000000000000000000000000000000000000000000000000000000000000000000000000000000000000000000000084072000000000001A4 m) (h0 : Changes m s0 s) :
    Changes m s0 (Dev.showPair s p) := by
  unfold Dev.showPair
  try dsimp only
  repeat' (first | with_reducible assumption | split | (intro _) | with_reducible apply ch_when | with_reducible apply ch_set | with_reducible apply ch_setb | with_reducible apply ch_setBit | with_reducible apply ch_post | exact sub_trans hm (by decide) | with_reducible exact reg_of hm at_SAF_STATUS (by decide) | with_reducible exact reg_of hm (at_SAF_PAIR_STATUS _) (by decide))

theorem ch_safShow {m : Nat} {s0 : Dev} (s : Dev)
    (hm : Within 0x1F4081080001421000000000000000000003C0100000000000000000002202200000000000001000000000000000000000000100804203FC0004608407200000000031FA6 m) (h0 : Changes m s0 s) :
    Changes m s0 (Dev.safShow s) := by
  unfold Dev.safShow
  try dsimp only
  repeat' (first | with_reducible assumption | split | (intro _) | with_reducible apply ch_forEach | with_reducible apply ch_showStop | with_reducible apply ch_showPair | exact sub_trans hm (by decide))

theorem ch_resetAnswer {m : Nat} {s0 : Dev} (s : Dev) (c : Fin 2) (ok : Bool)
    (hm : Within 0x14000000000000000000000000000000000000000000000000000000000000000000000000000000000000000000000000000000000000000000084072000000002001A4 m) (h0 : Changes m s0 s) :
    Changes m s0 (Dev.resetAnswer s c ok) := by
  unfold Dev.resetAnswer
  try dsimp only
  repeat' (first | with_reducible assumption | split | (intro _) | with_reducible apply ch_when | with_reducible apply ch_modChan | with_reducible apply ch_post | exact sub_trans hm (by decide))

theorem ch_modPair {m : Nat} {s0 : Dev} (s : Dev) (c : Fin 2) (p : Fin 8) (f : SafPair → SafPair)
    (hm : Within 0x200000 m) (h0 : Changes m s0 s) :
    Changes m s0 (Dev.modPair s c p f) := by
  unfold Dev.modPair
  try dsimp only
  repeat' (first | with_reducible assumption | split | (intro _) | with_reducible apply ch_modChan | exact sub_trans hm (by decide))

theorem ch_pairTo {m : Nat} {s0 : Dev} (s : Dev) (c : Fin 2) (p : Fin 8) (st : Nat)
    (hm : Within 0x200000 m) (h0 : Changes m s0 s) :
    Changes m s0 (Dev.pairTo s c p st) := by
  unfold Dev.pairTo
  try dsimp only
  repeat' (first | with_reducible assumption | split | (intro _) | with_reducible apply ch_modPair | exact sub_trans hm (by decide))

theorem ch_resetAction {m : Nat} {s0 : Dev} (s : Dev) (c : Fin 2)
    (hm : Within 0x14000000000000000000000000000000000000000000000000000000000000000000000000000000000000000000000000000000000000000000084072000000002001A4 m) (h0 : Changes m s0 s) :
    Changes m s0 (Dev.resetAction s c) := by
  unfold Dev.resetAction
  try dsimp only
  repeat' (first | with_reducible assumption | split | (intro _) | with_reducible apply ch_forEach | with_reducible apply ch_resetAnswer | with_reducible apply ch_modChan | with_reducible apply ch_modPair | with_reducible apply ch_pairTo | exact sub_trans hm (by decide))

theorem ch_hostResetAction {m : Nat} {s0 : Dev} (s : Dev)
    (hm : Within 0x1F4081080001421000000000000000000003C0100000000000000000002202200000000000001000000000000000000000000100804203FC0004608407200000000231FA6 m) (h0 : Changes m s0 s) :
    Changes m s0 (Dev.hostResetAction s) := by
  unfold Dev.hostResetAction
  try dsimp only
  repeat' (first | with_reducible assumption | split | (intro _) | with_reducible apply ch_forEach | with_reducible apply ch_safShow | with_reducible apply ch_resetAction | exact sub_trans hm (by decide))

theorem ch_effSafetyHostReset {m : Nat} {s0 : Dev} (s : Dev)
    (hm : Within 0x1F4081080001421000000000000000000003C0100000000000000000002202200000000000001000000000000000000000000100804203FC0004608407200000000231FA6 m) (h0 : Changes m s0 s) :
    Changes m s0 (effSafetyHostReset s) := by
  unfold effSafetyHostReset
  try dsimp only
  repeat' (first | with_reducible assumption | split | (intro _) | with_reducible apply ch_answer | with_reducible apply ch_hostResetAction | exact sub_trans hm (by decide))

theorem ch_effSoutFaultClear {m : Nat} {s0 : Dev} (s : Dev)
    (hm : Within 0x102100000000000000000000000000000000000000000000000000000000000000000000000000000000000000000000000000000000000000000000000004 m) (h0 : Changes m s0 s) :
    Changes m s0 (effSoutFaultClear s) := by
  unfold effSoutFaultClear
  try dsimp only
  repeat' (first | with_reducible assumption | split | (intro _) | with_reducible apply ch_answer | with_reducible apply ch_faultClr | exact sub_trans hm (by decide))

theorem ch_restartPair {m : Nat} {s0 : Dev} (s : Dev) (p : Fin 8) (st : Nat)
    (hm : Within 0x200000 m) (h0 : Changes m s0 s) :
    Changes m s0 (Dev.restartPair s p st) := by
  unfold Dev.restartPair
  try dsimp only
  repeat' (first | with_reducible assumption | split | (intro _) | with_reducible apply ch_forEach | with_reducible apply ch_modPair | exact sub_trans hm (by decide))

theorem ch_chanStop {m : Nat} {s0 : Dev} (s : Dev) (c : Fin 2) (cat1 : Bool) (p : Nat)
    (hm : Within 0x200000 m) (h0 : Changes m s0 s) :
    Changes m s0 (Dev.chanStop s c cat1 p) := by
  unfold Dev.chanStop
  try dsimp only
  repeat' (first | with_reducible assumption | split | (intro _) | with_reducible apply ch_modChan | exact sub_trans hm (by decide))

theorem ch_estopStep {m : Nat} {s0 : Dev} (s : Dev) (c : Fin 2) (p : Fin 8)
    (hm : Within 0x200000 m) (h0 : Changes m s0 s) :
    Changes m s0 (Dev.estopStep s c p) := by
  unfold Dev.estopStep
  try dsimp only
  repeat' (first | with_reducible assumption | split | (intro _) | with_reducible apply ch_pairTo | with_reducible apply ch_chanStop | with_reducible apply ch_modPair | exact sub_trans hm (by decide))

theorem ch_guardStep {m : Nat} {s0 : Dev} (s : Dev) (c : Fin 2) (p : Fin 8)
    (hm : Within 0x200000 m) (h0 : Changes m s0 s) :
    Changes m s0 (Dev.guardStep s c p) := by
  unfold Dev.guardStep
  try dsimp only
  repeat' (first | with_reducible assumption | split | (intro _) | with_reducible apply ch_when | with_reducible apply ch_modPair | with_reducible apply ch_pairTo | with_reducible apply ch_modSaf | exact sub_trans hm (by decide))

theorem ch_twohandStep {m : Nat} {s0 : Dev} (s : Dev) (c : Fin 2) (p : Fin 8)
    (hm : Within 0x14000000000000000000000000000000000000000000000000000000000000000000000000000000000000000000000000000000000000000000084072000000002001A4 m) (h0 : Changes m s0 s) :
    Changes m s0 (Dev.twohandStep s c p) := by
  unfold Dev.twohandStep
  try dsimp only
  repeat' (first | with_reducible assumption | split | (intro _) | with_reducible apply ch_when | with_reducible apply ch_modPair | with_reducible apply ch_pairTo | with_reducible apply ch_modChan | with_reducible apply ch_post | exact sub_trans hm (by decide))

theorem ch_resetPairStep {m : Nat} {s0 : Dev} (s : Dev) (c : Fin 2) (p : Fin 8)
    (hm : Within 0x14000000000000000000000000000000000000000000000000000000000000000000000000000000000000000000000000000000000000000000084072000000002001A4 m) (h0 : Changes m s0 s) :
    Changes m s0 (Dev.resetPairStep s c p) := by
  unfold Dev.resetPairStep
  try dsimp only
  repeat' (first | with_reducible assumption | split | (intro _) | with_reducible apply ch_when | with_reducible apply ch_pairTo | with_reducible apply ch_modPair | with_reducible apply ch_resetAction | exact sub_trans hm (by decide))

theorem ch_pairStep {m : Nat} {s0 : Dev} (s : Dev) (c : Fin 2) (p : Fin 8)
    (hm : Within 0x14000000000000000000000000000000000000000000000000000000000000000000000000000000000000000000000000000000000000000000084072000000002001A4 m) (h0 : Changes m s0 s) :
    Changes m s0 (Dev.pairStep s c p) := by
  unfold Dev.pairStep
  try dsimp only
  repeat' (first | with_reducible assumption | split | (intro _) | with_reducible apply ch_estopStep | with_reducible apply ch_guardStep | with_reducible apply ch_twohandStep | with_reducible apply ch_resetPairStep | with_reducible apply ch_pairTo | exact sub_trans hm (by decide))

theorem ch_takeFault {m : Nat} {s0 : Dev} (s : Dev) (c : Fin 2) (p : Fin 8) (f : Nat)
    (hm : Within 0x200000 m) (h0 : Changes m s0 s) :
    Changes m s0 (Dev.takeFault s c p f) := by
  unfold Dev.takeFault
  try dsimp only
  repeat' (first | with_reducible assumption | split | (intro _) | with_reducible apply ch_modPair | exact sub_trans hm (by decide))

theorem ch_xmonFault {m : Nat} {s0 : Dev} (s : Dev)
    (hm : Within 0x14000000000001000000000000000000000000000000000000000000000000000000000000000000000000000000000000000000000000000000084072000000002001A4 m) (h0 : Changes m s0 s) :
    Changes m s0 (Dev.xmonFault s) := by
  unfold Dev.xmonFault
  try dsimp only
  repeat' (first | with_reducible assumption | split | (intro _) | with_reducible apply ch_forEach | with_reducible apply ch_setb | with_reducible apply ch_post | with_reducible apply ch_chanStop | with_reducible apply ch_pairStep | with_reducible apply ch_takeFault | exact sub_trans hm (by decide) | with_reducible exact reg_of hm at_SAF_STATUS (by decide))

theorem ch_pairFaults {m : Nat} {s0 : Dev} (s : Dev) (c : Fin 2) (p : Fin 8) (cross : Bool) (short : Bool)
    (hm : Within 0x200000 m) (h0 : Changes m s0 s) :
    Changes m s0 (Dev.pairFaults s c p cross short) := by
  unfold Dev.pairFaults
  try dsimp only
  repeat' (first | with_reducible assumption | split | (intro _) | with_reducible apply ch_when | with_reducible apply ch_modPair | with_reducible apply ch_takeFault | exact sub_trans hm (by decide))

theorem ch_chanEval {m : Nat} {s0 : Dev} (s : Dev) (c : Fin 2) (pins : BitVec 16) (x : SafRead)
    (hm : Within 0x14000000000000000000000000000000000000000000000000000000000000000000000000000000000000000000000000000000000000000000084072000000002001A4 m) (h0 : Changes m s0 s) :
    Changes m s0 (Dev.chanEval s c pins x) := by
  unfold Dev.chanEval
  try dsimp only
  repeat' (first | with_reducible assumption | split | (intro _) | with_reducible apply ch_forEach | with_reducible apply ch_pinStep | with_reducible apply ch_pairTo | with_reducible apply ch_pairStep | with_reducible apply ch_pairFaults | exact sub_trans hm (by decide))

theorem ch_soutFault {m : Nat} {s0 : Dev} (s : Dev) (k : Fin 4) (cause : Nat)
    (hm : Within 0x14000000001021000000000000000000000000000000000000000000000000000000000000000000000000000000000000000000000000000000084072000000002001A4 m) (h0 : Changes m s0 s) :
    Changes m s0 (Dev.soutFault s k cause) := by
  unfold Dev.soutFault
  try dsimp only
  repeat' (first | with_reducible assumption | split | (intro _) | with_reducible apply ch_set | with_reducible apply ch_setb | with_reducible apply ch_modSaf | with_reducible apply ch_post | with_reducible apply ch_safDrive | exact sub_trans hm (by decide) | with_reducible exact reg_of hm (at_SAF_SOUT_STATUS _) (by decide))

theorem ch_soutReads {m : Nat} {s0 : Dev} (s : Dev) (xs : List SoutRead)
    (hm : Within 0x14000000001021000000000000000000000000000000000000000000000000000000000000000000000000000000000000000000000000000000084072000000002001A4 m) (h0 : Changes m s0 s) :
    Changes m s0 (Dev.soutReads s xs) := by
  unfold Dev.soutReads
  try dsimp only
  repeat' (first | with_reducible assumption | split | (intro _) | with_reducible apply ch_forEach | with_reducible apply ch_soutFault | exact sub_trans hm (by decide))

theorem ch_safEval {m : Nat} {s0 : Dev} (s : Dev) (x : SafRead)
    (hm : Within 0x1F4081080001421000000000000000000003C0100000000000000000002202200000000000001000000000000000000000000100804203FC0004608407200000000231FA6 m) (h0 : Changes m s0 s) :
    Changes m s0 (Dev.safEval s x) := by
  unfold Dev.safEval
  try dsimp only
  repeat' (first | with_reducible assumption | split | (intro _) | with_reducible apply ch_chanEval | with_reducible apply ch_modSaf | with_reducible apply ch_xmonFault | with_reducible apply ch_safShow | with_reducible apply ch_soutReads | exact sub_trans hm (by decide))

theorem ch_effSafetyEvaluation {m : Nat} {s0 : Dev} (x : SafRead) (s : Dev)
    (hm : Within 0x1F4081080001421000000000000000000003C0100000000000000000002202200000000000001000000000000000000000000100804203FC0004608407200000000231FA7 m) (h1 : Changes m s0 s) :
    Changes m s0 (effSafetyEvaluation x s) := by
  unfold effSafetyEvaluation
  try dsimp only
  repeat' (first | with_reducible assumption | split | (intro _) | with_reducible apply ch_reach | with_reducible apply ch_safEval | with_reducible apply ch_modSaf | exact sub_trans hm (by decide))

theorem ch_effCat1OutputOff {m : Nat} {s0 : Dev} (p : Fin 8) (s : Dev)
    (hm : Within 0x102100000000000000000000000000000000000000000000000000000000000000000000000000000000000000000000000000000000000000000000000001 m) (h1 : Changes m s0 s) :
    Changes m s0 (effCat1OutputOff p s) := by
  unfold effCat1OutputOff
  try dsimp only
  repeat' (first | with_reducible assumption | split | (intro _) | with_reducible apply ch_safDrive | with_reducible apply ch_reach | exact sub_trans hm (by decide))

theorem ch_keepConfirm {m : Nat} {s0 : Dev} (s : Dev) (v : Word)
    (hm : Within 0x40 m) (h0 : Changes m s0 s) :
    Changes m s0 (Dev.keepConfirm s v) := by
  unfold Dev.keepConfirm
  try dsimp only
  repeat' (first | with_reducible assumption | split | (intro _) | with_reducible apply ch_putGen | exact bit_of hm (by decide))

theorem ch_safConfirm {m : Nat} {s0 : Dev} (s : Dev) (v : Word)
    (hm : Within 0x1400000000102B000000000000000000000000000000000000000000000000000000000000000000000000000000000000000000000000000000084072000000000001E4 m) (h0 : Changes m s0 s) :
    Changes m s0 (Dev.safConfirm s v) := by
  unfold Dev.safConfirm
  try dsimp only
  repeat' (first | with_reducible assumption | split | (intro _) | with_reducible apply ch_when | with_reducible apply ch_wr | with_reducible apply ch_setb | with_reducible apply ch_reject | with_reducible apply ch_keepConfirm | with_reducible apply ch_answer | with_reducible apply ch_safDrive | with_reducible apply ch_post | exact sub_trans hm (by decide) | with_reducible exact reg_of hm at_SAF_STATUS (by decide) | with_reducible exact reg_of hm at_SAF_REJECT_CNT (by decide) | with_reducible exact reg_of hm at_SAF_CONFIRM (by decide))

theorem ch_effSafetyConfirm {m : Nat} {s0 : Dev} (value : Word) (s : Dev)
    (hm : Within 0x1400000000102B000000000000000000000000000000000000000000000000000000000000000000000000000000000000000000000000000000084072000000000001E4 m) (h1 : Changes m s0 s) :
    Changes m s0 (effSafetyConfirm value s) := by
  unfold effSafetyConfirm
  try dsimp only
  repeat' (first | with_reducible assumption | split | (intro _) | with_reducible apply ch_safConfirm | exact sub_trans hm (by decide))

theorem ch_unconfirm {m : Nat} {s0 : Dev} (s : Dev)
    (hm : Within 0x14000000000009000000000000000000000000000000000000000000000000000000000000000000000000000000000000000000000000000000084072000000000001A4 m) (h0 : Changes m s0 s) :
    Changes m s0 (Dev.unconfirm s) := by
  unfold Dev.unconfirm
  try dsimp only
  repeat' (first | with_reducible assumption | split | (intro _) | with_reducible apply ch_when | with_reducible apply ch_wr | with_reducible apply ch_setb | with_reducible apply ch_post | exact sub_trans hm (by decide) | with_reducible exact reg_of hm at_SAF_STATUS (by decide) | with_reducible exact reg_of hm at_SAF_CONFIRM (by decide))

theorem ch_freshPair {m : Nat} {s0 : Dev} (s : Dev) (p : Fin 8)
    (hm : Within 0x200000 m) (h0 : Changes m s0 s) :
    Changes m s0 (Dev.freshPair s p) := by
  unfold Dev.freshPair
  try dsimp only
  repeat' (first | with_reducible assumption | split | (intro _) | with_reducible apply ch_restartPair | with_reducible apply ch_modSaf | exact sub_trans hm (by decide))

theorem ch_safWritten {m : Nat} {s0 : Dev} (s : Dev) (off : Nat)
    (hm : Within 0x1F408108000142D000000000000000000003C0100000000000000000002202200000000000001000000000000000000000000100804203FC0004608407200000000231FA6 m) (h0 : Changes m s0 s) :
    Changes m s0 (Dev.safWritten s off) := by
  unfold Dev.safWritten
  try dsimp only
  repeat' (first | with_reducible assumption | split | (intro _) | with_reducible apply ch_wr | with_reducible apply ch_unconfirm | with_reducible apply ch_freshPair | with_reducible apply ch_safShow | exact sub_trans hm (by decide) | with_reducible exact reg_of hm at_SAF_CHECK (by decide))

theorem ch_darkTest {m : Nat} {s0 : Dev} (s : Dev) (k : Fin 4) (x : SoutRead) (cross : Option (Fin 4))
    (hm : Within 0x14000000001021000000000000000000000000000000000000000000000000000000000000000000000000000000000000000000000000000000084072000000002001A5 m) (h0 : Changes m s0 s) :
    Changes m s0 (Dev.darkTest s k x cross) := by
  unfold Dev.darkTest
  try dsimp only
  repeat' (first | with_reducible assumption | split | (intro _) | with_reducible apply ch_reach | with_reducible apply ch_soutFault | with_reducible apply ch_modSaf | exact sub_trans hm (by decide))

theorem ch_effSoutDarkTest {m : Nat} {s0 : Dev} (k : Fin 4) (x : SoutRead) (cross : Option (Fin 4)) (s : Dev)
    (hm : Within 0x14000000001021000000000000000000000000000000000000000000000000000000000000000000000000000000000000000000000000000000084072000000002001A5 m) (h3 : Changes m s0 s) :
    Changes m s0 (effSoutDarkTest k x cross s) := by
  unfold effSoutDarkTest
  try dsimp only
  repeat' (first | with_reducible assumption | split | (intro _) | with_reducible apply ch_darkTest | exact sub_trans hm (by decide))

theorem ch_execSoutFaultClear {m : Nat}  {s t : State} (hm : Within 0x102100000000000000000000000000000000000000000000000000000000000000000000000000000000000000000000000000000000000000000000000004 m)
    (h : execSoutFaultClear  s = .next t) : t.pending = s.pending ∧ Changes m s.dev t.dev := by
  unfold execSoutFaultClear at h
  refine of_onReg h (bit_of hm (by decide)) (fun d hd => ?_)
  try dsimp only
  repeat' (first | with_reducible assumption | split | (intro _) | with_reducible apply ch_effSoutFaultClear | exact sub_trans hm (by decide))

theorem ch_execSafetyHostReset {m : Nat}  {s t : State} (hm : Within 0x1F4081080001421000000000000000000003C0100000000000000000002202200000000000001000000000000000000000000100804203FC0004608407200000000231FA6 m)
    (h : execSafetyHostReset  s = .next t) : t.pending = s.pending ∧ Changes m s.dev t.dev := by
  unfold execSafetyHostReset at h
  refine of_onReg h (bit_of hm (by decide)) (fun d hd => ?_)
  try dsimp only
  repeat' (first | with_reducible assumption | split | (intro _) | with_reducible apply ch_effSafetyHostReset | exact sub_trans hm (by decide))

theorem ch_execSafetyEvaluation {m : Nat} {x : SafRead} {s t : State} (hm : Within 0x1F4081080001421000000000000000000003C0100000000000000000002202200000000000001000000000000000000000000100804203FC0004608407200000000231FA7 m)
    (h : execSafetyEvaluation x s = .next t) : t.pending = s.pending ∧ Changes m s.dev t.dev := by
  unfold execSafetyEvaluation at h
  refine of_onRun h (bit_of hm (by decide)) (fun d hd => ?_)
  try dsimp only
  repeat' (first | with_reducible assumption | split | (intro _) | with_reducible apply ch_effSafetyEvaluation | exact sub_trans hm (by decide))

theorem ch_execSoutDarkTest {m : Nat} {k : Fin 4} {x : SoutRead} {cross : Option (Fin 4)} {s t : State} (hm : Within 0x14000000001021000000000000000000000000000000000000000000000000000000000000000000000000000000000000000000000000000000084072000000002001A5 m)
    (h : execSoutDarkTest k x cross s = .next t) : t.pending = s.pending ∧ Changes m s.dev t.dev := by
  unfold execSoutDarkTest at h
  refine of_onRun h (bit_of hm (by decide)) (fun d hd => ?_)
  try dsimp only
  repeat' (first | with_reducible assumption | split | (intro _) | with_reducible apply ch_effSoutDarkTest | exact sub_trans hm (by decide))

theorem ch_execSafetyConfirm {m : Nat} {value : Word} {s t : State} (hm : Within 0x1400000000102B000000000000000000000000000000000000000000000000000000000000000000000000000000000000000000000000000000084072000000000001E4 m)
    (h : execSafetyConfirm value s = .next t) : t.pending = s.pending ∧ Changes m s.dev t.dev := by
  unfold execSafetyConfirm at h
  refine of_onReg h (bit_of hm (by decide)) (fun d hd => ?_)
  try dsimp only
  repeat' (first | with_reducible assumption | split | (intro _) | with_reducible apply ch_effSafetyConfirm | exact sub_trans hm (by decide))

theorem ch_execCat1OutputOff {m : Nat} {p : Fin 8} {s t : State} (hm : Within 0x102100000000000000000000000000000000000000000000000000000000000000000000000000000000000000000000000000000000000000000000000005 m)
    (h : execCat1OutputOff p s = .next t) : t.pending = s.pending ∧ Changes m s.dev t.dev := by
  unfold execCat1OutputOff at h
  refine of_onRun h (bit_of hm (by decide)) (fun d hd => ?_)
  try dsimp only
  repeat' (first | with_reducible assumption | split | (intro _) | with_reducible apply ch_effCat1OutputOff | exact sub_trans hm (by decide))

end Dev

end Sys2Proof.Machine
end

