-- ==== Sys2Proof/Laws/ReadyCh.lean ====
section
/-! SUPPORT. What each definition of Machine/Ready.lean may change. -/

namespace Sys2Proof.Machine

set_option linter.all false
set_option Elab.async false

namespace Dev

theorem ch_chgReady {m : Nat} {s0 : Dev} (s : Dev)
    (hm : Within 0x14000000000000000000000000000000000000000000000000000000000000000000000000000000000000000000000000000000000000000000084072080000000001A4 m) (h0 : Changes m s0 s) :
    Changes m s0 (Dev.chgReady s) := by
  unfold Dev.chgReady
  try dsimp only
  repeat' (first | with_reducible assumption | split | (intro _) | with_reducible apply ch_when | with_reducible apply ch_wr | with_reducible apply ch_post | exact sub_trans hm (by decide) | with_reducible exact reg_of hm at_GEN_CHG_READY (by decide))

theorem ch_setMode {m : Nat} {s0 : Dev} (s : Dev) (a1 : Nat)
    (hm : Within 0x14000000000000000000000000000000000000000000000000000000000000000000000000000000000000000000000000000000000000000000084072088000000003A4 m) (h0 : Changes m s0 s) :
    Changes m s0 (Dev.setMode s a1) := by
  unfold Dev.setMode
  try dsimp only
  repeat' (first | with_reducible assumption | split | (intro _) | with_reducible apply ch_set | with_reducible apply ch_chgReady | with_reducible apply ch_post | with_reducible apply ch_refreshStages | exact sub_trans hm (by decide) | with_reducible exact reg_of hm at_GEN_PWR (by decide))

theorem ch_autoRun {m : Nat} {s0 : Dev} (s : Dev)
    (hm : Within 0x14000000000000000000000000000000000000000000000000000000000000000000000000000000000000000000000000000000000000000000084072088000000003A4 m) (h0 : Changes m s0 s) :
    Changes m s0 (Dev.autoRun s) := by
  unfold Dev.autoRun
  try dsimp only
  repeat' (first | with_reducible assumption | split | (intro _) | with_reducible apply ch_setMode | exact sub_trans hm (by decide))


end Dev

end Sys2Proof.Machine
end

