-- ==== Sys2Proof/Laws/VehicleCh.lean ====
section
/-! SUPPORT. What each definition of Machine/Vehicle.lean may change. -/

namespace Sys2Proof.Machine

set_option linter.all false
set_option Elab.async false

namespace Dev

theorem ch_evLimits {m : Nat} {s0 : Dev} (s : Dev) (n : Nat) (vMax : Rat) (iMax : Rat)
    (hm : Within 0x4000000000000000000000000000000000000000000000000000000000000000000000000000000 m) (h0 : Changes m s0 s) :
    Changes m s0 (Dev.evLimits s n vMax iMax) := by
  unfold Dev.evLimits
  try dsimp only
  repeat' (first | with_reducible assumption | split | (intro _) | with_reducible apply ch_set | with_reducible exact reg_of hm (at_VSS_OUT_EVLIM _) (by decide))

theorem ch_toVehicle {m : Nat} {s0 : Dev} (s : Dev) (n : Fin 16) (r : V2gResp)
    (hm : Within 0x1400000000000000000000000000000000000000000000000000000000000000000000000001000000000000000000000000000000000000000008407200000000000DA6 m) (h0 : Changes m s0 s) :
    Changes m s0 (Dev.toVehicle s n r) := by
  unfold Dev.toVehicle
  try dsimp only
  repeat' (first | with_reducible assumption | split | (intro _) | with_reducible apply ch_forEach | with_reducible apply ch_emit | with_reducible apply ch_fresh | with_reducible apply ch_sendEthernet | exact sub_trans hm (by decide))

theorem ch_reply {m : Nat} {s0 : Dev} (s : Dev) (n : Fin 16) (code : V2gCode) (ongoing : optParam Bool false)
    (hm : Within 0x1400000000000000000000000000000000000000000000000000000000000000000000000001000000000000000000000000000000000000000008407200000000000DA6 m) (h0 : Changes m s0 s) :
    Changes m s0 (Dev.reply s n code ongoing) := by
  unfold Dev.reply
  try dsimp only
  repeat' (first | with_reducible assumption | split | (intro _) | with_reducible apply ch_toVehicle | exact sub_trans hm (by decide))

theorem ch_chargeParameters {m : Nat} {s0 : Dev} (s : Dev) (n : Fin 16) (vMax : Rat) (iMax : Rat) (power : Rat) (discharge : Rat) (energy : Option Nat)
    (hm : Within 0x1400000000000000000000000000000000000000000000000000000004200200000000000001000000000000000000000000000000000000000008407200000000010DA6 m) (h0 : Changes m s0 s) :
    Changes m s0 (Dev.chargeParameters s n vMax iMax power discharge energy) := by
  unfold Dev.chargeParameters
  try dsimp only
  repeat' (first | with_reducible assumption | split | (intro _) | with_reducible apply ch_modSess | with_reducible apply ch_evLimits | with_reducible apply ch_reply | with_reducible apply ch_enterState | exact sub_trans hm (by decide))

theorem ch_effRefusalHoldMax {m : Nat} {s0 : Dev} (n : Fin 16) (s : Dev)
    (hm : Within 0x14081080000000000000000000000000003C0100000000000000000002202200000000000001000000000000000000000000000000000000000008407200000000030DA7 m) (h1 : Changes m s0 s) :
    Changes m s0 (effRefusalHoldMax n s) := by
  unfold effRefusalHoldMax
  try dsimp only
  repeat' (first | with_reducible assumption | split | (intro _) | with_reducible apply ch_endSession | with_reducible apply ch_reach | exact sub_trans hm (by decide))

theorem ch_setPoint {m : Nat} {s0 : Dev} (s : Dev) (n : Nat) (v : Rat)
    (hm : Within 0x2000000000000000000000000000040000000000000000000000000000000000000000000000 m) (h0 : Changes m s0 s) :
    Changes m s0 (Dev.setPoint s n v) := by
  unfold Dev.setPoint
  try dsimp only
  repeat' (first | with_reducible assumption | split | (intro _) | with_reducible apply ch_wr | with_reducible exact reg_of hm (at_CLE_SLOT_SP_REG _) (by decide) | with_reducible exact reg_of hm (at_VSS_OUT_CFG _) (by decide))

theorem ch_loadRuns {m : Nat} {s0 : Dev} (s : Dev) (n : Fin 16)
    (hm : Within 0x2202200000000000000000000000000040000000000000000000000000000000000000000010000 m) (h0 : Changes m s0 s) :
    Changes m s0 (Dev.loadRuns s n) := by
  unfold Dev.loadRuns
  try dsimp only
  repeat' (first | with_reducible assumption | split | (intro _) | with_reducible apply ch_wr | with_reducible apply ch_enterState | with_reducible apply ch_setPoint | exact sub_trans hm (by decide) | with_reducible exact reg_of hm (at_VSS_OUT_REQ _) (by decide))

theorem ch_commandContactor {m : Nat} {s0 : Dev} (s : Dev) (n : Fin 16) (on : Bool)
    (hm : Within 0x14081D81000000000000000000000000003C01000000000000000000022022000000000000010000000000000000000000000000000000000000084072000000001B0DA6 m) (h0 : Changes m s0 s) :
    Changes m s0 (Dev.commandContactor s n on) := by
  unfold Dev.commandContactor
  try dsimp only
  repeat' (first | with_reducible assumption | split | (intro _) | with_reducible apply ch_lswContactor | with_reducible apply ch_sendCtrl | exact sub_trans hm (by decide))

theorem ch_effContactorOpenRetry {m : Nat} {s0 : Dev} (n : Fin 16) (s : Dev)
    (hm : Within 0x14081D81000000000000000000000000003C01000000000000000000022022000000000000010000000000000000000000000000000000000000084072000000001B0DA7 m) (h1 : Changes m s0 s) :
    Changes m s0 (effContactorOpenRetry n s) := by
  unfold effContactorOpenRetry
  try dsimp only
  repeat' (first | with_reducible assumption | split | (intro _) | with_reducible apply ch_commandContactor | with_reducible apply ch_modSess | with_reducible apply ch_reach | exact sub_trans hm (by decide))

theorem ch_effWeldCheck {m : Nat} {s0 : Dev} (n : Fin 16) (s : Dev)
    (hm : Within 0x14000000000000000000000000000000000000000000000000000000002000000000000000000000000000000000000000000000000000000000084072000000000001A5 m) (h1 : Changes m s0 s) :
    Changes m s0 (effWeldCheck n s) := by
  unfold effWeldCheck
  try dsimp only
  repeat' (first | with_reducible assumption | split | (intro _) | with_reducible apply ch_setb | with_reducible apply ch_reach | with_reducible apply ch_post | exact sub_trans hm (by decide) | with_reducible exact reg_of hm (at_VSS_OUT_STATE _) (by decide))

theorem ch_askHost {m : Nat} {s0 : Dev} (s : Dev) (n : Fin 16) (method : Nat) (chain : List Byte)
    (hm : Within 0x1400000000000000000000000000000000000000000000000000000000000000000000000001000000000000000000000000000000000000000008407200000000010DA6 m) (h0 : Changes m s0 s) :
    Changes m s0 (Dev.askHost s n method chain) := by
  unfold Dev.askHost
  try dsimp only
  repeat' (first | with_reducible assumption | split | (intro _) | with_reducible apply ch_modSess | with_reducible apply ch_reply | with_reducible apply ch_post | exact sub_trans hm (by decide))

theorem ch_certDates {m : Nat} {s0 : Dev} (s : Dev) (n : Fin 16) (chain : List Byte)
    (hm : Within 0x200000000000000000000000000000000000000000000000000000000000000000000000000000 m) (h0 : Changes m s0 s) :
    Changes m s0 (Dev.certDates s n chain).1 := by
  unfold Dev.certDates
  try dsimp only
  repeat' (first | with_reducible assumption | split | (intro _) | with_reducible apply ch_setb | with_reducible exact reg_of hm (at_VSS_OUT_STATE _) (by decide))

theorem ch_firstAuthorization {m : Nat} {s0 : Dev} (s : Dev) (n : Fin 16) (c : Option Contract)
    (hm : Within 0x14081080000000000000000000000000003C0100000000000000000002202200000000000001000000000000000000000000000000000000000008407200000000030DA6 m) (h0 : Changes m s0 s) :
    Changes m s0 (Dev.firstAuthorization s n c) := by
  unfold Dev.firstAuthorization
  try dsimp only
  repeat' (first | with_reducible assumption | split | (intro _) | with_reducible apply ch_setb | with_reducible apply ch_enterState | with_reducible apply ch_endSession | with_reducible apply ch_reply | with_reducible apply ch_askHost | with_reducible apply ch_certDates | with_reducible apply ch_modSess | exact sub_trans hm (by decide) | with_reducible exact reg_of hm (at_VSS_OUT_STATE _) (by decide))

theorem ch_authorization {m : Nat} {s0 : Dev} (s : Dev) (n : Fin 16) (c : Option Contract)
    (hm : Within 0x14081080000000000000000000000000003C0100000000000000000002202200000000000001000000000000000000000000000000000000000008407200000000030DA6 m) (h0 : Changes m s0 s) :
    Changes m s0 (Dev.authorization s n c) := by
  unfold Dev.authorization
  try dsimp only
  repeat' (first | with_reducible assumption | split | (intro _) | with_reducible apply ch_firstAuthorization | with_reducible apply ch_reply | exact sub_trans hm (by decide))

theorem ch_noteStart {m : Nat} {s0 : Dev} (s : Dev) (n : Fin 16) (evccid : List Byte)
    (hm : Within 0x10000 m) (h0 : Changes m s0 s) :
    Changes m s0 (Dev.noteStart s n evccid) := by
  unfold Dev.noteStart
  try dsimp only
  repeat' (first | with_reducible assumption | split | (intro _) | with_reducible apply ch_modSess | exact sub_trans hm (by decide))

theorem ch_sessionSetup {m : Nat} {s0 : Dev} (s : Dev) (n : Fin 16) (evccid : List Byte)
    (hm : Within 0x1400000000000000000000000000000000000000000000000000000001A00200000000000001000000000000000000000000000000000000000008407200000000010DA6 m) (h0 : Changes m s0 s) :
    Changes m s0 (Dev.sessionSetup s n evccid) := by
  unfold Dev.sessionSetup
  try dsimp only
  repeat' (first | with_reducible assumption | split | (intro _) | with_reducible apply ch_set64 | with_reducible apply ch_reply | with_reducible apply ch_fresh | with_reducible apply ch_enterState | with_reducible apply ch_noteStart | with_reducible apply ch_post | exact sub_trans hm (by decide) | with_reducible exact reg_of hm (at_VSS_OUT_SID_LO _) (by decide) | with_reducible exact reg_of hm (at_VSS_OUT_SID_HI _) (by decide) | with_reducible exact writes_at (reg_of hm (at_VSS_OUT_SID_HI _) (by decide)) (hi_VSS_OUT_SID_LO _))

theorem ch_tlsHandshake {m : Nat} {s0 : Dev} (s : Dev) (n : Fin 16) (tls13 : Bool) (cert : Option (List Byte × Bool))
    (hm : Within 0x201000000000000000000000000000000000000000000000000000000000000000000000000006 m) (h0 : Changes m s0 s) :
    Changes m s0 (Dev.tlsHandshake s n tls13 cert) := by
  unfold Dev.tlsHandshake
  try dsimp only
  repeat' (first | with_reducible assumption | split | (intro _) | with_reducible apply ch_bump | with_reducible apply ch_setb | with_reducible apply ch_certDates | with_reducible apply ch_fresh | with_reducible apply ch_emit | exact sub_trans hm (by decide) | with_reducible exact reg_of hm at_VSS_PROTO_ERR (by decide) | with_reducible exact reg_of hm (at_VSS_OUT_STATE _) (by decide))

theorem ch_takeLoop {m : Nat} {s0 : Dev} (s : Dev) (n : Fin 16) (x : ChargeLoop)
    (hm : Within 0x6000000000000000000000000000000000000000000000000000000000000000000000000010000 m) (h0 : Changes m s0 s) :
    Changes m s0 (Dev.takeLoop s n x) := by
  unfold Dev.takeLoop
  try dsimp only
  repeat' (first | with_reducible assumption | split | (intro _) | with_reducible apply ch_wr | with_reducible apply ch_evLimits | with_reducible apply ch_modSess | exact sub_trans hm (by decide) | with_reducible exact reg_of hm (at_VSS_OUT_REQ _) (by decide))

theorem ch_effCertInstallTimeout {m : Nat} {s0 : Dev} (n : Fin 16) (s : Dev)
    (hm : Within 0x1400000000000000000000000000000000000000000000000000000000000000000000000001000000000000000000000000000000000000000008407200000000010DA7 m) (h1 : Changes m s0 s) :
    Changes m s0 (effCertInstallTimeout n s) := by
  unfold effCertInstallTimeout
  try dsimp only
  repeat' (first | with_reducible assumption | split | (intro _) | with_reducible apply ch_reply | with_reducible apply ch_modSess | with_reducible apply ch_reach | exact sub_trans hm (by decide))

theorem ch_serviceDiscovery {m : Nat} {s0 : Dev} (s : Dev) (n : Fin 16)
    (hm : Within 0x1400000000000000000000000000000000000000000000000000000000000000000000000001000000000000000000000000000000000000000008407200000000000DA6 m) (h0 : Changes m s0 s) :
    Changes m s0 (Dev.serviceDiscovery s n) := by
  unfold Dev.serviceDiscovery
  try dsimp only
  repeat' (first | with_reducible assumption | split | (intro _) | with_reducible apply ch_toVehicle | exact sub_trans hm (by decide))

theorem ch_sdpRequest {m : Nat} {s0 : Dev} (s : Dev) (n : Fin 16) (tls : Bool)
    (hm : Within 0x1400000000000000000000000000000000000000000000000000000000200200000000000001000000000000000000000000000000000000000008407200000000010DA6 m) (h0 : Changes m s0 s) :
    Changes m s0 (Dev.sdpRequest s n tls) := by
  unfold Dev.sdpRequest
  try dsimp only
  repeat' (first | with_reducible assumption | split | (intro _) | with_reducible apply ch_setb | with_reducible apply ch_set | with_reducible apply ch_reply | with_reducible apply ch_enterState | with_reducible apply ch_modSess | with_reducible apply ch_post | exact sub_trans hm (by decide) | with_reducible exact reg_of hm (at_VSS_OUT_STATE _) (by decide))

theorem ch_tcpOpen {m : Nat} {s0 : Dev} (s : Dev) (n : Fin 16)
    (hm : Within 0x10004 m) (h0 : Changes m s0 s) :
    Changes m s0 (Dev.tcpOpen s n) := by
  unfold Dev.tcpOpen
  try dsimp only
  repeat' (first | with_reducible assumption | split | (intro _) | with_reducible apply ch_emit | with_reducible apply ch_modSess | exact sub_trans hm (by decide))

theorem ch_appProtocol {m : Nat} {s0 : Dev} (s : Dev) (n : Fin 16) (p20 : Bool) (p2 : Bool)
    (hm : Within 0x1400000000000000000000000000000000000000000000000000000000200000000000000001000000000000000000000000000000000000000008407200000000000DA6 m) (h0 : Changes m s0 s) :
    Changes m s0 (Dev.appProtocol s n p20 p2) := by
  unfold Dev.appProtocol
  try dsimp only
  repeat' (first | with_reducible assumption | split | (intro _) | with_reducible apply ch_set | with_reducible apply ch_reply | exact sub_trans hm (by decide) | with_reducible exact reg_of hm (at_VSS_OUT_STATE _) (by decide))

theorem ch_authSetup {m : Nat} {s0 : Dev} (s : Dev) (n : Fin 16)
    (hm : Within 0x1400000000000000000000000000000000000000000000000000000000000000000000000001000000000000000000000000000000000000000008407200000000010DA6 m) (h0 : Changes m s0 s) :
    Changes m s0 (Dev.authSetup s n) := by
  unfold Dev.authSetup
  try dsimp only
  repeat' (first | with_reducible assumption | split | (intro _) | with_reducible apply ch_fresh | with_reducible apply ch_modSess | with_reducible apply ch_toVehicle | exact sub_trans hm (by decide))

theorem ch_certRequest {m : Nat} {s0 : Dev} (s : Dev) (n : Fin 16)
    (hm : Within 0x14000000000000000000000000000000000000000000000000000000000000000000000000000000000000000000000000000000000000000000084072000000000101A4 m) (h0 : Changes m s0 s) :
    Changes m s0 (Dev.certRequest s n) := by
  unfold Dev.certRequest
  try dsimp only
  repeat' (first | with_reducible assumption | split | (intro _) | with_reducible apply ch_post | with_reducible apply ch_modSess | exact sub_trans hm (by decide))

theorem ch_serviceSelection {m : Nat} {s0 : Dev} (s : Dev) (n : Fin 16) (service : Option V2gOffer)
    (hm : Within 0x1400000000000000000000000000000000000000000000000000000000200000000000000001000000000000000000000000000000000000000008407200000000000DA6 m) (h0 : Changes m s0 s) :
    Changes m s0 (Dev.serviceSelection s n service) := by
  unfold Dev.serviceSelection
  try dsimp only
  repeat' (first | with_reducible assumption | split | (intro _) | with_reducible apply ch_setb | with_reducible apply ch_reply | exact sub_trans hm (by decide) | with_reducible exact reg_of hm (at_VSS_OUT_STATE _) (by decide))

theorem ch_scheduleExchange {m : Nat} {s0 : Dev} (s : Dev) (n : Fin 16) (dynamic : Bool)
    (hm : Within 0x1400000000000000000000000000000000000000000000000000000000000000000000000001000000000000000000000000000000000000000008407200000000010DA6 m) (h0 : Changes m s0 s) :
    Changes m s0 (Dev.scheduleExchange s n dynamic) := by
  unfold Dev.scheduleExchange
  try dsimp only
  repeat' (first | with_reducible assumption | split | (intro _) | with_reducible apply ch_modSess | with_reducible apply ch_toVehicle | exact sub_trans hm (by decide))

theorem ch_energise {m : Nat} {s0 : Dev} (s : Dev) (n : Fin 16)
    (hm : Within 0x14081D81000000000000000000000000003C01000000000000000000022022000000000000010000000000000400000000000000000000000000084072000000001B0DA6 m) (h0 : Changes m s0 s) :
    Changes m s0 (Dev.energise s n) := by
  unfold Dev.energise
  try dsimp only
  repeat' (first | with_reducible assumption | split | (intro _) | with_reducible apply ch_commandContactor | with_reducible apply ch_modSess | with_reducible apply ch_setPoint | exact sub_trans hm (by decide))

theorem ch_cableTest {m : Nat} {s0 : Dev} (s : Dev) (n : Fin 16)
    (hm : Within 0x14081D81000000000000000000000000003C01000000000000000000022022000000000000010000000000000400000000000000000000000000084072000000001B0DA6 m) (h0 : Changes m s0 s) :
    Changes m s0 (Dev.cableTest s n) := by
  unfold Dev.cableTest
  try dsimp only
  repeat' (first | with_reducible assumption | split | (intro _) | with_reducible apply ch_set | with_reducible apply ch_post | with_reducible apply ch_modSess | with_reducible apply ch_energise | exact sub_trans hm (by decide) | with_reducible exact reg_of hm (at_VSS_OUT_STATE _) (by decide))

theorem ch_cableCheck {m : Nat} {s0 : Dev} (s : Dev) (n : Fin 16)
    (hm : Within 0x14081D81000000000000000000000000003C01000000000000000000022022000000000000010000000000000400000000000000000000000000084072088000001B0FA6 m) (h0 : Changes m s0 s) :
    Changes m s0 (Dev.cableCheck s n) := by
  unfold Dev.cableCheck
  try dsimp only
  repeat' (first | with_reducible assumption | split | (intro _) | with_reducible apply ch_autoRun | with_reducible apply ch_enterState | with_reducible apply ch_cableTest | with_reducible apply ch_reply | exact sub_trans hm (by decide))

theorem ch_preCharge {m : Nat} {s0 : Dev} (s : Dev) (n : Fin 16) (target : Rat)
    (hm : Within 0x1400000000000000000000000000000000000000000000000000000000202200000000000001000000000000040000000000000000000000000008407200000000010DA6 m) (h0 : Changes m s0 s) :
    Changes m s0 (Dev.preCharge s n target) := by
  unfold Dev.preCharge
  try dsimp only
  repeat' (first | with_reducible assumption | split | (intro _) | with_reducible apply ch_enterState | with_reducible apply ch_reply | with_reducible apply ch_modSess | with_reducible apply ch_setPoint | exact sub_trans hm (by decide))

theorem ch_chargeLoop {m : Nat} {s0 : Dev} (s : Dev) (n : Fin 16) (x : ChargeLoop)
    (hm : Within 0x1400000000000000000000000000000000000000000000000000000006000000000000000001000000000000000000000000000000000000000008407200000000010DA6 m) (h0 : Changes m s0 s) :
    Changes m s0 (Dev.chargeLoop s n x) := by
  unfold Dev.chargeLoop
  try dsimp only
  repeat' (first | with_reducible assumption | split | (intro _) | with_reducible apply ch_takeLoop | with_reducible apply ch_toVehicle | exact sub_trans hm (by decide))

theorem ch_goIdle {m : Nat} {s0 : Dev} (s : Dev) (n : Fin 16)
    (hm : Within 0x200200000000000000000000000000000000000000000000000000000000000000000000010000 m) (h0 : Changes m s0 s) :
    Changes m s0 (Dev.goIdle s n) := by
  unfold Dev.goIdle
  try dsimp only
  repeat' (first | with_reducible assumption | split | (intro _) | with_reducible apply ch_modSess | with_reducible apply ch_enterState | exact sub_trans hm (by decide))

theorem ch_inOrder {m : Nat} {s0 : Dev} (s : Dev) (n : Fin 16) (x : V2gReq)
    (hm : Within 0x14081D81000000000000000000000000003C0100000000000000000007A032000000000000010000000000000400000000000000000000000000084072088000001B0FA6 m) (h0 : Changes m s0 s) :
    Changes m s0 (Dev.inOrder s n x) := by
  unfold Dev.inOrder
  try dsimp only
  repeat' (first | with_reducible assumption | split | (intro _) | with_reducible apply ch_bump | with_reducible apply ch_sdpRequest | with_reducible apply ch_tcpOpen | with_reducible apply ch_tlsHandshake | with_reducible apply ch_appProtocol | with_reducible apply ch_sessionSetup | with_reducible apply ch_authSetup | with_reducible apply ch_authorization | with_reducible apply ch_certRequest | with_reducible apply ch_serviceDiscovery | with_reducible apply ch_reply | with_reducible apply ch_serviceSelection | with_reducible apply ch_chargeParameters | with_reducible apply ch_scheduleExchange | with_reducible apply ch_cableCheck | with_reducible apply ch_preCharge | with_reducible apply ch_enterState | with_reducible apply ch_modSess | with_reducible apply ch_endSession | with_reducible apply ch_chargeLoop | with_reducible apply ch_goIdle | exact sub_trans hm (by decide) | with_reducible exact reg_of hm at_VSS_PROTO_ERR (by decide))

theorem ch_openContactor {m : Nat} {s0 : Dev} (s : Dev) (n : Fin 16)
    (hm : Within 0x14081D81000000000000000000000000003C01000000000000000000022022000000000000010000000000000000000000000000000000000000084072000000001B0DA6 m) (h0 : Changes m s0 s) :
    Changes m s0 (Dev.openContactor s n) := by
  unfold Dev.openContactor
  try dsimp only
  repeat' (first | with_reducible assumption | split | (intro _) | with_reducible apply ch_commandContactor | with_reducible apply ch_modSess | exact sub_trans hm (by decide))

theorem ch_energisedNow {m : Nat} {s0 : Dev} (s : Dev) (n : Fin 16)
    (hm : Within 0x14081D81000000000000000000000000003C01000000000000000000022022000000000000010000000000000000000000000000000000000000084072000000001B0DA6 m) (h0 : Changes m s0 s) :
    Changes m s0 (Dev.energisedNow s n) := by
  unfold Dev.energisedNow
  try dsimp only
  repeat' (first | with_reducible assumption | split | (intro _) | with_reducible apply ch_post | with_reducible apply ch_contactorClosed | with_reducible apply ch_openContactor | exact sub_trans hm (by decide))

theorem ch_dropCtrl {m : Nat} {s0 : Dev} (s : Dev) (r : CtrlReq)
    (hm : Within 0x800 m) (h0 : Changes m s0 s) :
    Changes m s0 (Dev.dropCtrl s r) := by
  unfold Dev.dropCtrl
  try dsimp only
  repeat' (first | with_reducible assumption | split | (intro _) | with_reducible apply ch_putPst | exact bit_of hm (by decide))

theorem ch_effEnergisationInstant {m : Nat} {s0 : Dev} (n : Fin 16) (s : Dev)
    (hm : Within 0x14081D81000000000000000000000000003C01000000000000000000022022000000000000010000000000000000000000000000000000000000084072000000001B0DA6 m) (h1 : Changes m s0 s) :
    Changes m s0 (effEnergisationInstant n s) := by
  unfold effEnergisationInstant
  try dsimp only
  repeat' (first | with_reducible assumption | split | (intro _) | with_reducible apply ch_energisedNow | with_reducible apply ch_dropCtrl | exact sub_trans hm (by decide))

theorem ch_effManifestLateSign {m : Nat} {s0 : Dev} (s : Dev)
    (hm : Within 0x14081000000000000000000000000000000400000000000000000000000000000000000000000000000000000000000000000000000000000000084072000000000201A4 m) (h0 : Changes m s0 s) :
    Changes m s0 (effManifestLateSign s) := by
  unfold effManifestLateSign
  try dsimp only
  repeat' (first | with_reducible assumption | split | (intro _) | with_reducible apply ch_lateSign | exact sub_trans hm (by decide))

theorem ch_effSessionClosingTimeout {m : Nat} {s0 : Dev} (n : Fin 16) (s : Dev)
    (hm : Within 0x200200000000000000000000000000000000000000000000000000000000000000000000010001 m) (h1 : Changes m s0 s) :
    Changes m s0 (effSessionClosingTimeout n s) := by
  unfold effSessionClosingTimeout
  try dsimp only
  repeat' (first | with_reducible assumption | split | (intro _) | with_reducible apply ch_goIdle | with_reducible apply ch_reach | exact sub_trans hm (by decide))

theorem ch_authAnswer {m : Nat} {s0 : Dev} (s : Dev) (x : AuthAnswer)
    (hm : Within 0x14081080000000000000000000000000003C0100000000000000000002202200000000000001000000000000000000000000000000000000000008407200000000030DA6 m) (h0 : Changes m s0 s) :
    Changes m s0 (Dev.authAnswer s x).1 := by
  unfold Dev.authAnswer
  try dsimp only
  repeat' (first | with_reducible assumption | split | (intro _) | with_reducible apply ch_modSess | with_reducible apply ch_endSession | exact sub_trans hm (by decide))

theorem ch_effAuthAnswer {m : Nat} {s0 : Dev} (src : Src) (x : AuthAnswer) (s : Dev)
    (hm : Within 0x14081080000000000000000000000000003C0100000000000000000002202200000000000001000000000000000000000000000000000000000008407200000000030DA6 m) (h2 : Changes m s0 s) :
    Changes m s0 (effAuthAnswer src x s) := by
  unfold effAuthAnswer
  try dsimp only
  repeat' (first | with_reducible assumption | split | (intro _) | with_reducible apply ch_authAnswer | with_reducible apply ch_complete | exact sub_trans hm (by decide))

theorem ch_sequenceError {m : Nat} {s0 : Dev} (s : Dev) (n : Fin 16)
    (hm : Within 0x14081080000000000000000000000000003C0100000000000000000002203200000000000001000000000000000000000000000000000000000008407200000000030DA6 m) (h0 : Changes m s0 s) :
    Changes m s0 (Dev.sequenceError s n) := by
  unfold Dev.sequenceError
  try dsimp only
  repeat' (first | with_reducible assumption | split | (intro _) | with_reducible apply ch_bump | with_reducible apply ch_endSession | with_reducible apply ch_reply | exact sub_trans hm (by decide) | with_reducible exact reg_of hm at_VSS_PROTO_ERR (by decide))

theorem ch_effStopCurrentLow {m : Nat} {s0 : Dev} (n : Fin 16) (s : Dev)
    (hm : Within 0x14081D81000000000000000000000000003C01000000000000000000022022000000000000010000000000000000000000000000000000000000084072000000001B0DA6 m) (h1 : Changes m s0 s) :
    Changes m s0 (effStopCurrentLow n s) := by
  unfold effStopCurrentLow
  try dsimp only
  repeat' (first | with_reducible assumption | split | (intro _) | with_reducible apply ch_openContactor | exact sub_trans hm (by decide))

theorem ch_effContactorOpened {m : Nat} {s0 : Dev} (n : Fin 16) (s : Dev)
    (hm : Within 0x14081080000000000000000000000000003C0100000000000000000000202200000000000001000000000000000000000000000000000000000008407200000000030DA6 m) (h1 : Changes m s0 s) :
    Changes m s0 (effContactorOpened n s) := by
  unfold effContactorOpened
  try dsimp only
  repeat' (first | with_reducible assumption | split | (intro _) | with_reducible apply ch_contactorGone | with_reducible apply ch_dropCtrl | exact sub_trans hm (by decide))

theorem ch_effAnchorSet {m : Nat} {s0 : Dev} (src : Src) (kind : Nat) (anchors : List (List Byte)) (s : Dev)
    (hm : Within 0x8400200000000010084 m) (h3 : Changes m s0 s) :
    Changes m s0 (effAnchorSet src kind anchors s) := by
  unfold effAnchorSet
  try dsimp only
  repeat' (first | with_reducible assumption | split | (intro _) | with_reducible apply ch_putVss | with_reducible apply ch_complete | exact sub_trans hm (by decide) | exact bit_of hm (by decide))

theorem ch_replyEnded {m : Nat} {s0 : Dev} (s : Dev) (n : Fin 16)
    (hm : Within 0x1400000000000000000000000000000000000000000000000000000000000000000000000001000000000000000000000000000000000000000008407200000000000DA6 m) (h0 : Changes m s0 s) :
    Changes m s0 (Dev.replyEnded s n) := by
  unfold Dev.replyEnded
  try dsimp only
  repeat' (first | with_reducible assumption | split | (intro _) | with_reducible apply ch_toVehicle | exact sub_trans hm (by decide))

theorem ch_loadTests {m : Nat} {s0 : Dev} (s : Dev)
    (hm : Within 0x14081D81000000000000000000000000003C01000000000000000000022022000000000000010000000000000400000000000000000000000000084072000000001B0DA6 m) (h0 : Changes m s0 s) :
    Changes m s0 (Dev.loadTests s) := by
  unfold Dev.loadTests
  try dsimp only
  repeat' (first | with_reducible assumption | split | (intro _) | with_reducible apply ch_forEach | with_reducible apply ch_cableTest | exact sub_trans hm (by decide))

theorem ch_settleNow {m : Nat} {s0 : Dev} (s : Dev) (n : Fin 16)
    (hm : Within 0x14081000000000000000000000000000003C01000000000000000000000000000000000000000000000000000000000000000000000000000000084072000000000301A4 m) (h0 : Changes m s0 s) :
    Changes m s0 (Dev.settleNow s n) := by
  unfold Dev.settleNow
  try dsimp only
  repeat' (first | with_reducible assumption | split | (intro _) | with_reducible apply ch_makeManifest | with_reducible apply ch_modSess | exact sub_trans hm (by decide))

theorem ch_beginSession {m : Nat} {s0 : Dev} (s : Dev) (n : Fin 16) (st : Nat)
    (hm : Within 0x14081000000000000000000000000000003C0100000000000000000007A002000000000000000000000000000000000000000000000000000000084072000000000301A4 m) (h0 : Changes m s0 s) :
    Changes m s0 (Dev.beginSession s n st) := by
  unfold Dev.beginSession
  try dsimp only
  repeat' (first | with_reducible assumption | split | (intro _) | with_reducible apply ch_wr | with_reducible apply ch_set64 | with_reducible apply ch_settleNow | with_reducible apply ch_modSess | with_reducible apply ch_enterState | exact sub_trans hm (by decide) | with_reducible exact reg_of hm (at_VSS_OUT_STATE _) (by decide) | with_reducible exact reg_of hm (at_VSS_OUT_SID_LO _) (by decide) | with_reducible exact reg_of hm (at_VSS_OUT_SID_HI _) (by decide) | with_reducible exact reg_of hm (at_VSS_OUT_REQ _) (by decide) | with_reducible exact reg_of hm (at_VSS_OUT_EVLIM _) (by decide) | with_reducible exact writes_at (reg_of hm (at_VSS_OUT_SID_HI _) (by decide)) (hi_VSS_OUT_SID_LO _))

theorem ch_commission {m : Nat} {s0 : Dev} (s : Dev) (x : Commission)
    (hm : Within 0x14081D81000000000000000000000000003C0100000000000000000007A022000000000000010000000000000400000000000000000000000000084072000000001B0DA6 m) (h0 : Changes m s0 s) :
    Changes m s0 (Dev.commission s x).1 := by
  unfold Dev.commission
  try dsimp only
  repeat' (first | with_reducible assumption | split | (intro _) | with_reducible apply ch_set | with_reducible apply ch_modSess | with_reducible apply ch_evLimits | with_reducible apply ch_loadRuns | with_reducible apply ch_beginSession | with_reducible apply ch_noteStart | with_reducible apply ch_cableTest | exact sub_trans hm (by decide) | with_reducible exact reg_of hm (at_VSS_OUT_STATE _) (by decide))

theorem ch_effCommission {m : Nat} {s0 : Dev} (src : Src) (x : Commission) (s : Dev)
    (hm : Within 0x14081D81000000000000000000000000003C0100000000000000000007A022000000000000010000000000000400000000000000000000000000084072000000001B0DA6 m) (h2 : Changes m s0 s) :
    Changes m s0 (effCommission src x s) := by
  unfold effCommission
  try dsimp only
  repeat' (first | with_reducible assumption | split | (intro _) | with_reducible apply ch_commission | with_reducible apply ch_complete | exact sub_trans hm (by decide))

theorem ch_effChainSet {m : Nat} {s0 : Dev} (src : Src) (outlet : Nat) (chain : List Byte) (s : Dev)
    (hm : Within 0x8400200000000010084 m) (h3 : Changes m s0 s) :
    Changes m s0 (effChainSet src outlet chain s) := by
  unfold effChainSet
  try dsimp only
  repeat' (first | with_reducible assumption | split | (intro _) | with_reducible apply ch_putVss | with_reducible apply ch_complete | exact sub_trans hm (by decide) | exact bit_of hm (by decide))

theorem ch_inEnding {m : Nat} {s0 : Dev} (s : Dev) (n : Fin 16) (x : V2gReq)
    (hm : Within 0x1400000000000000000000000000000000000000000000000000000000200200000000000001000000000000000000000000000000000000000008407200000000010DA6 m) (h0 : Changes m s0 s) :
    Changes m s0 (Dev.inEnding s n x) := by
  unfold Dev.inEnding
  try dsimp only
  repeat' (first | with_reducible assumption | split | (intro _) | with_reducible apply ch_tcpOpen | with_reducible apply ch_reply | with_reducible apply ch_goIdle | with_reducible apply ch_replyEnded | exact sub_trans hm (by decide))

theorem ch_judgeInsulation {m : Nat} {s0 : Dev} (s : Dev) (n : Fin 16)
    (hm : Within 0x14081080000000000000000000000000003C0100000000000000000002202200000000000001000000000000040000000000000000000000000008407200000000030DA6 m) (h0 : Changes m s0 s) :
    Changes m s0 (Dev.judgeInsulation s n) := by
  unfold Dev.judgeInsulation
  try dsimp only
  repeat' (first | with_reducible assumption | split | (intro _) | with_reducible apply ch_when | with_reducible apply ch_set | with_reducible apply ch_endSession | with_reducible apply ch_post | with_reducible apply ch_modSess | with_reducible apply ch_loadRuns | exact sub_trans hm (by decide) | with_reducible exact reg_of hm (at_VSS_OUT_STATE _) (by decide))

theorem ch_effWeldClear {m : Nat} {s0 : Dev} (n : Fin 16) (s : Dev)
    (hm : Within 0x200000000000000000000000000000000000000000000000000000000000000000000000000004 m) (h1 : Changes m s0 s) :
    Changes m s0 (effWeldClear n s) := by
  unfold effWeldClear
  try dsimp only
  repeat' (first | with_reducible assumption | split | (intro _) | with_reducible apply ch_setb | with_reducible apply ch_answer | exact sub_trans hm (by decide) | with_reducible exact reg_of hm (at_VSS_OUT_STATE _) (by decide))

theorem ch_effSessionStateTimeout {m : Nat} {s0 : Dev} (n : Fin 16) (s : Dev)
    (hm : Within 0x14081080000000000000000000000000003C0100000000000000000002202200000000000001000000000000000000000000000000000000000008407200000000030DA7 m) (h1 : Changes m s0 s) :
    Changes m s0 (effSessionStateTimeout n s) := by
  unfold effSessionStateTimeout
  try dsimp only
  repeat' (first | with_reducible assumption | split | (intro _) | with_reducible apply ch_endSession | with_reducible apply ch_reach | exact sub_trans hm (by decide))

theorem ch_effAuthTimeout {m : Nat} {s0 : Dev} (n : Fin 16) (s : Dev)
    (hm : Within 0x14081080000000000000000000000000003C0100000000000000000002202200000000000001000000000000000000000000000000000000000008407200000000030DA7 m) (h1 : Changes m s0 s) :
    Changes m s0 (effAuthTimeout n s) := by
  unfold effAuthTimeout
  try dsimp only
  repeat' (first | with_reducible assumption | split | (intro _) | with_reducible apply ch_reach | with_reducible apply ch_endSession | with_reducible apply ch_modSess | exact sub_trans hm (by decide))

theorem ch_v2gRequest {m : Nat} {s0 : Dev} (s : Dev) (n : Fin 16) (len : Nat) (x : V2gReq)
    (hm : Within 0x14081D81000000000000000000000000003C0100000000000000000007A032000000000000010000000000000400000000000000000000000000084072088000001B0FA6 m) (h0 : Changes m s0 s) :
    Changes m s0 (Dev.v2gRequest s n len x) := by
  unfold Dev.v2gRequest
  try dsimp only
  repeat' (first | with_reducible assumption | split | (intro _) | with_reducible apply ch_bump | with_reducible apply ch_modSess | with_reducible apply ch_inEnding | with_reducible apply ch_replyEnded | with_reducible apply ch_reply | with_reducible apply ch_inOrder | with_reducible apply ch_sequenceError | exact sub_trans hm (by decide) | with_reducible exact reg_of hm at_VSS_PROTO_ERR (by decide))

theorem ch_effV2gRequest {m : Nat} {s0 : Dev} (n : Fin 16) (len : Nat) (x : V2gReq) (s : Dev)
    (hm : Within 0x14081D81000000000000000000000000003C0100000000000000000007A032000000000000010000000000000400000000000000000000000000084072088000001B0FA6 m) (h3 : Changes m s0 s) :
    Changes m s0 (effV2gRequest n len x s) := by
  unfold effV2gRequest
  try dsimp only
  repeat' (first | with_reducible assumption | split | (intro _) | with_reducible apply ch_v2gRequest | exact sub_trans hm (by decide))

theorem ch_effCertResponse {m : Nat} {s0 : Dev} (src : Src) (outlet : Nat) (response : List Byte) (s : Dev)
    (hm : Within 0x1400000000000000000000000000000000000000000000000000000000000000000000000001000000000000000000000000000000000000000008407200000000010DA6 m) (h3 : Changes m s0 s) :
    Changes m s0 (effCertResponse src outlet response s) := by
  unfold effCertResponse
  try dsimp only
  repeat' (first | with_reducible assumption | split | (intro _) | with_reducible apply ch_complete | with_reducible apply ch_modSess | with_reducible apply ch_toVehicle | exact sub_trans hm (by decide))

theorem ch_effSessionStop {m : Nat} {s0 : Dev} (n : Fin 16) (s : Dev)
    (hm : Within 0x14081080000000000000000000000000003C0100000000000000000002202200000000000001000000000000000000000000000000000000000008407200000000030DA6 m) (h1 : Changes m s0 s) :
    Changes m s0 (effSessionStop n s) := by
  unfold effSessionStop
  try dsimp only
  repeat' (first | with_reducible assumption | split | (intro _) | with_reducible apply ch_answer | with_reducible apply ch_endSession | exact sub_trans hm (by decide))

theorem ch_linkSeen {m : Nat} {s0 : Dev} (s : Dev) (n : Fin 16) (link : Nat) (plug : Bool)
    (hm : Within 0x14081080000000000000000000000000003C0100000000000000000007A02200000000000001000000000000000000000000000000000000000008407200000000030DA6 m) (h0 : Changes m s0 s) :
    Changes m s0 (Dev.linkSeen s n link plug) := by
  unfold Dev.linkSeen
  try dsimp only
  repeat' (first | with_reducible assumption | split | (intro _) | with_reducible apply ch_when | with_reducible apply ch_modSess | with_reducible apply ch_endSession | with_reducible apply ch_post | with_reducible apply ch_sendEthernet | with_reducible apply ch_beginSession | exact sub_trans hm (by decide))

theorem ch_effVlinkPoll {m : Nat} {s0 : Dev} (n : Fin 16) (s : Dev)
    (hm : Within 0x14081080000000000000000000000000003C0100000000000000000007A02200000000000001000000000000000000000000000000000000000008407200000000030DE7 m) (h1 : Changes m s0 s) :
    Changes m s0 (effVlinkPoll n s) := by
  unfold effVlinkPoll
  try dsimp only
  repeat' (first | with_reducible assumption | split | (intro _) | with_reducible apply ch_when | with_reducible apply ch_tick | with_reducible apply ch_linkSeen | with_reducible apply ch_sendCtrl | exact sub_trans hm (by decide))

theorem ch_effStopUnderLoad {m : Nat} {s0 : Dev} (n : Fin 16) (s : Dev)
    (hm : Within 0x14081D81000000000000000000000000003C01000000000000000000022022000000000000010000000000000000000000000000000000000000084072000000001B0DA7 m) (h1 : Changes m s0 s) :
    Changes m s0 (effStopUnderLoad n s) := by
  unfold effStopUnderLoad
  try dsimp only
  repeat' (first | with_reducible assumption | split | (intro _) | with_reducible apply ch_openContactor | with_reducible apply ch_post | with_reducible apply ch_reach | exact sub_trans hm (by decide))

theorem ch_effChargeLoopTimeout {m : Nat} {s0 : Dev} (n : Fin 16) (s : Dev)
    (hm : Within 0x14081080000000000000000000000000003C0100000000000000000002202200000000000001000000000000000000000000000000000000000008407200000000030DA7 m) (h1 : Changes m s0 s) :
    Changes m s0 (effChargeLoopTimeout n s) := by
  unfold effChargeLoopTimeout
  try dsimp only
  repeat' (first | with_reducible assumption | split | (intro _) | with_reducible apply ch_endSession | with_reducible apply ch_reach | exact sub_trans hm (by decide))

theorem ch_effCableCheckVoltageReached {m : Nat} {s0 : Dev} (n : Fin 16) (s : Dev)
    (hm : Within 0x14081080000000000000000000000000003C0100000000000000000002202200000000000001000000000000040000000000000000000000000008407200000000030DA6 m) (h1 : Changes m s0 s) :
    Changes m s0 (effCableCheckVoltageReached n s) := by
  unfold effCableCheckVoltageReached
  try dsimp only
  repeat' (first | with_reducible assumption | split | (intro _) | with_reducible apply ch_judgeInsulation | exact sub_trans hm (by decide))

theorem ch_openFailed {m : Nat} {s0 : Dev} (s : Dev) (n : Fin 16)
    (hm : Within 0x14000000000000000000000000000000000000000000000000000000000000000000000000000000000000000000000000000000000000000000084072000000000101A4 m) (h0 : Changes m s0 s) :
    Changes m s0 (Dev.openFailed s n) := by
  unfold Dev.openFailed
  try dsimp only
  repeat' (first | with_reducible assumption | split | (intro _) | with_reducible apply ch_modSess | with_reducible apply ch_post | exact sub_trans hm (by decide))

theorem ch_execWeldCheck {m : Nat} {n : Fin 16} {s t : State} (hm : Within 0x14000000000000000000000000000000000000000000000000000000002000000000000000000000000000000000000000000000000000000000084072000000000001A5 m)
    (h : execWeldCheck n s = .next t) : t.pending = s.pending ∧ Changes m s.dev t.dev := by
  unfold execWeldCheck at h
  refine of_onRun h (bit_of hm (by decide)) (fun d hd => ?_)
  try dsimp only
  repeat' (first | with_reducible assumption | split | (intro _) | with_reducible apply ch_effWeldCheck | exact sub_trans hm (by decide))

theorem ch_execCertInstallTimeout {m : Nat} {n : Fin 16} {s t : State} (hm : Within 0x1400000000000000000000000000000000000000000000000000000000000000000000000001000000000000000000000000000000000000000008407200000000010DA7 m)
    (h : execCertInstallTimeout n s = .next t) : t.pending = s.pending ∧ Changes m s.dev t.dev := by
  unfold execCertInstallTimeout at h
  refine of_onRun h (bit_of hm (by decide)) (fun d hd => ?_)
  try dsimp only
  repeat' (first | with_reducible assumption | split | (intro _) | with_reducible apply ch_effCertInstallTimeout | exact sub_trans hm (by decide))

theorem ch_execEnergisationInstant {m : Nat} {n : Fin 16} {s t : State} (hm : Within 0x14081D81000000000000000000000000003C01000000000000000000022022000000000000010000000000000000000000000000000000000000084072000000001B0DA6 m)
    (h : execEnergisationInstant n s = .next t) : t.pending = s.pending ∧ Changes m s.dev t.dev := by
  unfold execEnergisationInstant at h
  refine of_onRun h (bit_of hm (by decide)) (fun d hd => ?_)
  try dsimp only
  repeat' (first | with_reducible assumption | split | (intro _) | with_reducible apply ch_effEnergisationInstant | exact sub_trans hm (by decide))

theorem ch_execManifestLateSign {m : Nat}  {s t : State} (hm : Within 0x14081000000000000000000000000000000400000000000000000000000000000000000000000000000000000000000000000000000000000000084072000000000201A4 m)
    (h : execManifestLateSign  s = .next t) : t.pending = s.pending ∧ Changes m s.dev t.dev := by
  unfold execManifestLateSign at h
  refine of_onRun h (bit_of hm (by decide)) (fun d hd => ?_)
  try dsimp only
  repeat' (first | with_reducible assumption | split | (intro _) | with_reducible apply ch_effManifestLateSign | exact sub_trans hm (by decide))

theorem ch_execSessionClosingTimeout {m : Nat} {n : Fin 16} {s t : State} (hm : Within 0x200200000000000000000000000000000000000000000000000000000000000000000000010005 m)
    (h : execSessionClosingTimeout n s = .next t) : t.pending = s.pending ∧ Changes m s.dev t.dev := by
  unfold execSessionClosingTimeout at h
  refine of_onRun h (bit_of hm (by decide)) (fun d hd => ?_)
  try dsimp only
  repeat' (first | with_reducible assumption | split | (intro _) | with_reducible apply ch_effSessionClosingTimeout | exact sub_trans hm (by decide))

theorem ch_execAuthAnswer {m : Nat} {src : Src} {x : AuthAnswer} {s t : State} (hm : Within 0x14081080000000000000000000000000003C0100000000000000000002202200000000000001000000000000000000000000000000000000000008407200000000030DA6 m)
    (h : execAuthAnswer src x s = .next t) : t.pending = s.pending ∧ Changes m s.dev t.dev := by
  unfold execAuthAnswer at h
  refine of_onHost h (sub_trans hm (by decide)) (fun d hd => ?_)
  try dsimp only
  repeat' (first | with_reducible assumption | split | (intro _) | with_reducible apply ch_effAuthAnswer | exact sub_trans hm (by decide))

theorem ch_execStopCurrentLow {m : Nat} {n : Fin 16} {s t : State} (hm : Within 0x14081D81000000000000000000000000003C01000000000000000000022022000000000000010000000000000000000000000000000000000000084072000000001B0DA6 m)
    (h : execStopCurrentLow n s = .next t) : t.pending = s.pending ∧ Changes m s.dev t.dev := by
  unfold execStopCurrentLow at h
  refine of_onRun h (bit_of hm (by decide)) (fun d hd => ?_)
  try dsimp only
  repeat' (first | with_reducible assumption | split | (intro _) | with_reducible apply ch_effStopCurrentLow | exact sub_trans hm (by decide))

theorem ch_execContactorOpened {m : Nat} {n : Fin 16} {s t : State} (hm : Within 0x14081080000000000000000000000000003C0100000000000000000000202200000000000001000000000000000000000000000000000000000008407200000000030DA6 m)
    (h : execContactorOpened n s = .next t) : t.pending = s.pending ∧ Changes m s.dev t.dev := by
  unfold execContactorOpened at h
  refine of_onRun h (bit_of hm (by decide)) (fun d hd => ?_)
  try dsimp only
  repeat' (first | with_reducible assumption | split | (intro _) | with_reducible apply ch_effContactorOpened | exact sub_trans hm (by decide))

theorem ch_execContactorOpenRetry {m : Nat} {n : Fin 16} {s t : State} (hm : Within 0x14081D81000000000000000000000000003C01000000000000000000022022000000000000010000000000000000000000000000000000000000084072000000001B0DA7 m)
    (h : execContactorOpenRetry n s = .next t) : t.pending = s.pending ∧ Changes m s.dev t.dev := by
  unfold execContactorOpenRetry at h
  refine of_onRun h (bit_of hm (by decide)) (fun d hd => ?_)
  try dsimp only
  repeat' (first | with_reducible assumption | split | (intro _) | with_reducible apply ch_effContactorOpenRetry | exact sub_trans hm (by decide))

theorem ch_execChainSet {m : Nat} {src : Src} {outlet : Nat} {chain : List Byte} {s t : State} (hm : Within 0x8400200000000010084 m)
    (h : execChainSet src outlet chain s = .next t) : t.pending = s.pending ∧ Changes m s.dev t.dev := by
  unfold execChainSet at h
  refine of_onHost h (sub_trans hm (by decide)) (fun d hd => ?_)
  try dsimp only
  repeat' (first | with_reducible assumption | split | (intro _) | with_reducible apply ch_effChainSet | exact sub_trans hm (by decide))

theorem ch_execWeldClear {m : Nat} {n : Fin 16} {s t : State} (hm : Within 0x200000000000000000000000000000000000000000000000000000000000000000000000000004 m)
    (h : execWeldClear n s = .next t) : t.pending = s.pending ∧ Changes m s.dev t.dev := by
  unfold execWeldClear at h
  refine of_onReg h (bit_of hm (by decide)) (fun d hd => ?_)
  try dsimp only
  repeat' (first | with_reducible assumption | split | (intro _) | with_reducible apply ch_effWeldClear | exact sub_trans hm (by decide))

theorem ch_execAuthTimeout {m : Nat} {n : Fin 16} {s t : State} (hm : Within 0x14081080000000000000000000000000003C0100000000000000000002202200000000000001000000000000000000000000000000000000000008407200000000030DA7 m)
    (h : execAuthTimeout n s = .next t) : t.pending = s.pending ∧ Changes m s.dev t.dev := by
  unfold execAuthTimeout at h
  refine of_onRun h (bit_of hm (by decide)) (fun d hd => ?_)
  try dsimp only
  repeat' (first | with_reducible assumption | split | (intro _) | with_reducible apply ch_effAuthTimeout | exact sub_trans hm (by decide))

theorem ch_execSessionStop {m : Nat} {n : Fin 16} {s t : State} (hm : Within 0x14081080000000000000000000000000003C0100000000000000000002202200000000000001000000000000000000000000000000000000000008407200000000030DA6 m)
    (h : execSessionStop n s = .next t) : t.pending = s.pending ∧ Changes m s.dev t.dev := by
  unfold execSessionStop at h
  refine of_onReg h (bit_of hm (by decide)) (fun d hd => ?_)
  try dsimp only
  repeat' (first | with_reducible assumption | split | (intro _) | with_reducible apply ch_effSessionStop | exact sub_trans hm (by decide))

theorem ch_execStopUnderLoad {m : Nat} {n : Fin 16} {s t : State} (hm : Within 0x14081D81000000000000000000000000003C01000000000000000000022022000000000000010000000000000000000000000000000000000000084072000000001B0DA7 m)
    (h : execStopUnderLoad n s = .next t) : t.pending = s.pending ∧ Changes m s.dev t.dev := by
  unfold execStopUnderLoad at h
  refine of_onRun h (bit_of hm (by decide)) (fun d hd => ?_)
  try dsimp only
  repeat' (first | with_reducible assumption | split | (intro _) | with_reducible apply ch_effStopUnderLoad | exact sub_trans hm (by decide))

theorem ch_execChargeLoopTimeout {m : Nat} {n : Fin 16} {s t : State} (hm : Within 0x14081080000000000000000000000000003C0100000000000000000002202200000000000001000000000000000000000000000000000000000008407200000000030DA7 m)
    (h : execChargeLoopTimeout n s = .next t) : t.pending = s.pending ∧ Changes m s.dev t.dev := by
  unfold execChargeLoopTimeout at h
  refine of_onRun h (bit_of hm (by decide)) (fun d hd => ?_)
  try dsimp only
  repeat' (first | with_reducible assumption | split | (intro _) | with_reducible apply ch_effChargeLoopTimeout | exact sub_trans hm (by decide))

theorem ch_execCertResponse {m : Nat} {src : Src} {outlet : Nat} {response : List Byte} {s t : State} (hm : Within 0x1400000000000000000000000000000000000000000000000000000000000000000000000001000000000000000000000000000000000000000008407200000000010DA6 m)
    (h : execCertResponse src outlet response s = .next t) : t.pending = s.pending ∧ Changes m s.dev t.dev := by
  unfold execCertResponse at h
  refine of_onHost h (sub_trans hm (by decide)) (fun d hd => ?_)
  try dsimp only
  repeat' (first | with_reducible assumption | split | (intro _) | with_reducible apply ch_effCertResponse | exact sub_trans hm (by decide))

theorem ch_execCableCheckVoltageReached {m : Nat} {n : Fin 16} {s t : State} (hm : Within 0x14081080000000000000000000000000003C0100000000000000000002202200000000000001000000000000040000000000000000000000000008407200000000030DA6 m)
    (h : execCableCheckVoltageReached n s = .next t) : t.pending = s.pending ∧ Changes m s.dev t.dev := by
  unfold execCableCheckVoltageReached at h
  refine of_onRun h (bit_of hm (by decide)) (fun d hd => ?_)
  try dsimp only
  repeat' (first | with_reducible assumption | split | (intro _) | with_reducible apply ch_effCableCheckVoltageReached | exact sub_trans hm (by decide))

theorem ch_execSessionStateTimeout {m : Nat} {n : Fin 16} {s t : State} (hm : Within 0x14081080000000000000000000000000003C0100000000000000000002202200000000000001000000000000000000000000000000000000000008407200000000030DA7 m)
    (h : execSessionStateTimeout n s = .next t) : t.pending = s.pending ∧ Changes m s.dev t.dev := by
  unfold execSessionStateTimeout at h
  refine of_onRun h (bit_of hm (by decide)) (fun d hd => ?_)
  try dsimp only
  repeat' (first | with_reducible assumption | split | (intro _) | with_reducible apply ch_effSessionStateTimeout | exact sub_trans hm (by decide))

theorem ch_execCommission {m : Nat} {src : Src} {x : Commission} {s t : State} (hm : Within 0x14081D81000000000000000000000000003C0100000000000000000007A022000000000000010000000000000400000000000000000000000000084072000000001B0DA6 m)
    (h : execCommission src x s = .next t) : t.pending = s.pending ∧ Changes m s.dev t.dev := by
  unfold execCommission at h
  refine of_onHost h (sub_trans hm (by decide)) (fun d hd => ?_)
  try dsimp only
  repeat' (first | with_reducible assumption | split | (intro _) | with_reducible apply ch_effCommission | exact sub_trans hm (by decide))

theorem ch_execVlinkPoll {m : Nat} {n : Fin 16} {s t : State} (hm : Within 0x14081080000000000000000000000000003C0100000000000000000007A02200000000000001000000000000000000000000000000000000000008407200000000030DE7 m)
    (h : execVlinkPoll n s = .next t) : t.pending = s.pending ∧ Changes m s.dev t.dev := by
  unfold execVlinkPoll at h
  refine of_onRun h (bit_of hm (by decide)) (fun d hd => ?_)
  try dsimp only
  repeat' (first | with_reducible assumption | split | (intro _) | with_reducible apply ch_effVlinkPoll | exact sub_trans hm (by decide))

theorem ch_execRefusalHoldMax {m : Nat} {n : Fin 16} {s t : State} (hm : Within 0x14081080000000000000000000000000003C0100000000000000000002202200000000000001000000000000000000000000000000000000000008407200000000030DA7 m)
    (h : execRefusalHoldMax n s = .next t) : t.pending = s.pending ∧ Changes m s.dev t.dev := by
  unfold execRefusalHoldMax at h
  refine of_onRun h (bit_of hm (by decide)) (fun d hd => ?_)
  try dsimp only
  repeat' (first | with_reducible assumption | split | (intro _) | with_reducible apply ch_effRefusalHoldMax | exact sub_trans hm (by decide))

theorem ch_execAnchorSet {m : Nat} {src : Src} {kind : Nat} {anchors : List (List Byte)} {s t : State} (hm : Within 0x8400200000000010084 m)
    (h : execAnchorSet src kind anchors s = .next t) : t.pending = s.pending ∧ Changes m s.dev t.dev := by
  unfold execAnchorSet at h
  refine of_onHost h (sub_trans hm (by decide)) (fun d hd => ?_)
  try dsimp only
  repeat' (first | with_reducible assumption | split | (intro _) | with_reducible apply ch_effAnchorSet | exact sub_trans hm (by decide))

theorem ch_execV2gRequest {m : Nat} {n : Fin 16} {len : Nat} {x : V2gReq} {s t : State} (hm : Within 0x14081D81000000000000000000000000003C0100000000000000000007A032000000000000010000000000000400000000000000000000000000084072088000001B0FA6 m)
    (h : execV2gRequest n len x s = .next t) : t.pending = s.pending ∧ Changes m s.dev t.dev := by
  unfold execV2gRequest at h
  refine of_onRun h (bit_of hm (by decide)) (fun d hd => ?_)
  try dsimp only
  repeat' (first | with_reducible assumption | split | (intro _) | with_reducible apply ch_effV2gRequest | exact sub_trans hm (by decide))

end Dev

end Sys2Proof.Machine
end

