-- ==== Sys2Proof/Laws/AllocTickCh.lean ====
section
/-! SUPPORT. What each definition of Machine/AllocTick.lean may change. -/

namespace Sys2Proof.Machine

set_option linter.all false
set_option Elab.async false

namespace Dev

theorem ch_modRest {m : Nat} {s0 : Dev} (s : Dev) (k : Fin 48) (f : RestSt → RestSt)
    (hm : Within 0x200 m) (h0 : Changes m s0 s) :
    Changes m s0 (Dev.modRest s k f) := by
  unfold Dev.modRest
  try dsimp only
  repeat' (first | with_reducible assumption | split | (intro _) | with_reducible apply ch_putAlc | exact bit_of hm (by decide))

theorem ch_endRests {m : Nat} {s0 : Dev} (s : Dev) (x : AlcIn)
    (hm : Within 0x200 m) (h0 : Changes m s0 s) :
    Changes m s0 (Dev.endRests s x) := by
  unfold Dev.endRests
  try dsimp only
  repeat' (first | with_reducible assumption | split | (intro _) | with_reducible apply ch_forEach | with_reducible apply ch_modRest | exact sub_trans hm (by decide))

theorem ch_abortRests {m : Nat} {s0 : Dev} (s : Dev) (x : AlcIn)
    (hm : Within 0x200 m) (h0 : Changes m s0 s) :
    Changes m s0 (Dev.abortRests s x).1 := by
  unfold Dev.abortRests
  try dsimp only
  repeat' (first | with_reducible assumption | split | (intro _) | with_reducible apply ch_forEach | with_reducible apply ch_modRest | exact sub_trans hm (by decide))

theorem ch_restOne {m : Nat} {s0 : Dev} (s : Dev) (x : AlcIn) (k : Fin 48)
    (hm : Within 0x14000000000000000000002000000000000000000000000000000000000000000000000000000000000000000000000000000000000000020000084072000000004003A4 m) (h0 : Changes m s0 s) :
    Changes m s0 (Dev.restOne s x k) := by
  unfold Dev.restOne
  try dsimp only
  repeat' (first | with_reducible assumption | split | (intro _) | with_reducible apply ch_when | with_reducible apply ch_set | with_reducible apply ch_restGranted | with_reducible apply ch_modRest | with_reducible apply ch_post | with_reducible apply ch_restPostponed | exact sub_trans hm (by decide) | with_reducible exact reg_of hm at_ALC_REST_STATUS (by decide))

theorem ch_restTick {m : Nat} {s0 : Dev} (s : Dev) (x : AlcIn)
    (hm : Within 0x14000000000000000000002000000000000000000000000000000000000000000000000000000000000000000000000000000000000000020000084072000000004003A4 m) (h0 : Changes m s0 s) :
    Changes m s0 (Dev.restTick s x).1 := by
  unfold Dev.restTick
  try dsimp only
  repeat' (first | with_reducible assumption | split | (intro _) | with_reducible apply ch_forEach | with_reducible apply ch_set | with_reducible apply ch_endRests | with_reducible apply ch_abortRests | with_reducible apply ch_restOne | exact sub_trans hm (by decide) | with_reducible exact reg_of hm at_ALC_REST_STATUS (by decide))

theorem ch_restAbort {m : Nat} {s0 : Dev} (s : Dev) (l : List (Fin 48))
    (hm : Within 0x14000000000000000000002000000000000000000000000000000000000000000000000000000000000000000000000000000000000000000000084072000000004003A4 m) (h0 : Changes m s0 s) :
    Changes m s0 (Dev.restAbort s l) := by
  unfold Dev.restAbort
  try dsimp only
  repeat' (first | with_reducible assumption | split | (intro _) | with_reducible apply ch_forEach | with_reducible apply ch_post | with_reducible apply ch_restAborted | with_reducible apply ch_modRest | exact sub_trans hm (by decide))

theorem ch_solveComplete {m : Nat} {s0 : Dev} (s : Dev) (x : AlcIn) (fault : Bool)
    (hm : Within 0x1F4081080000000000000002000000000003C0100000000000000000002202200000000000001000000000000000000000000100804203FC2004608407200000000431FA6 m) (h0 : Changes m s0 s) :
    Changes m s0 (Dev.solveComplete s x fault) := by
  unfold Dev.solveComplete
  try dsimp only
  repeat' (first | with_reducible assumption | split | (intro _) | with_reducible apply ch_putAlc | with_reducible apply ch_restTick | with_reducible apply ch_restAbort | with_reducible apply ch_solvePublish | exact sub_trans hm (by decide) | exact bit_of hm (by decide))

theorem ch_effGrantSolveComplete {m : Nat} {s0 : Dev} (solveUs : Nat) (solverFault : Bool) (s : Dev)
    (hm : Within 0x1F4081080000000000000002000000000003C0100000000000000000002202200000000000001000000000000000000000000100804203FC2004608407200000000431FA7 m) (h2 : Changes m s0 s) :
    Changes m s0 (effGrantSolveComplete solveUs solverFault s) := by
  unfold effGrantSolveComplete
  try dsimp only
  repeat' (first | with_reducible assumption | split | (intro _) | with_reducible apply ch_set | with_reducible apply ch_reach | with_reducible apply ch_solveComplete | exact sub_trans hm (by decide) | with_reducible exact reg_of hm at_ALC_STATUS (by decide))

theorem ch_showStale {m : Nat} {s0 : Dev} (s : Dev)
    (hm : Within 0x14000000000000000000000000000000000000000000000000000000000000000000000000000000000000000000000000000000000000000002084072000000000003A4 m) (h0 : Changes m s0 s) :
    Changes m s0 (Dev.showStale s) := by
  unfold Dev.showStale
  try dsimp only
  repeat' (first | with_reducible assumption | split | (intro _) | with_reducible apply ch_forEach | with_reducible apply ch_putAlc | with_reducible apply ch_setb | with_reducible apply ch_post | exact sub_trans hm (by decide) | exact bit_of hm (by decide) | with_reducible exact reg_of hm at_ALC_STATUS (by decide))

theorem ch_allocTick {m : Nat} {s0 : Dev} (s : Dev)
    (hm : Within 0x1F4081D81000000000000000000000000003C0100000000000000000002202200000000000001000000000000040000000000100804203FC00076084072080000001B1FA6 m) (h0 : Changes m s0 s) :
    Changes m s0 (Dev.allocTick s) := by
  unfold Dev.allocTick
  try dsimp only
  repeat' (first | with_reducible assumption | split | (intro _) | with_reducible apply ch_putAlc | with_reducible apply ch_setb | with_reducible apply ch_set64 | with_reducible apply ch_lostAtTick | with_reducible apply ch_showStale | with_reducible apply ch_refreshStages | with_reducible apply ch_loadTests | with_reducible apply ch_chgReady | exact sub_trans hm (by decide) | exact bit_of hm (by decide) | with_reducible exact reg_of hm at_ALC_STATUS (by decide) | with_reducible exact reg_of hm at_ALC_TICK_LO (by decide) | with_reducible exact reg_of hm at_ALC_TICK_HI (by decide) | with_reducible exact writes_at (reg_of hm at_ALC_TICK_HI (by decide)) hi_ALC_TICK_LO)

theorem ch_effAllocationTick {m : Nat} {s0 : Dev} (s : Dev)
    (hm : Within 0x1F4081D81000000000000000000000000003C0100000000000000000002202200000000000001000000000000040000000000100804203FC00076084072080000001B1FA7 m) (h0 : Changes m s0 s) :
    Changes m s0 (effAllocationTick s) := by
  unfold effAllocationTick
  try dsimp only
  repeat' (first | with_reducible assumption | split | (intro _) | with_reducible apply ch_putAlc | with_reducible apply ch_reach | with_reducible apply ch_allocTick | exact sub_trans hm (by decide) | exact bit_of hm (by decide))

theorem ch_execGrantSolveComplete {m : Nat} {solveUs : Nat} {solverFault : Bool} {s t : State} (hm : Within 0x1F4081080000000000000002000000000003C0100000000000000000002202200000000000001000000000000000000000000100804203FC2004608407200000000431FA7 m)
    (h : execGrantSolveComplete solveUs solverFault s = .next t) : t.pending = s.pending ∧ Changes m s.dev t.dev := by
  unfold execGrantSolveComplete at h
  refine of_onRun h (bit_of hm (by decide)) (fun d hd => ?_)
  try dsimp only
  repeat' (first | with_reducible assumption | split | (intro _) | with_reducible apply ch_effGrantSolveComplete | exact sub_trans hm (by decide))

theorem ch_execAllocationTick {m : Nat}  {s t : State} (hm : Within 0x1F4081D81000000000000000000000000003C0100000000000000000002202200000000000001000000000000040000000000100804203FC00076084072080000001B1FA7 m)
    (h : execAllocationTick  s = .next t) : t.pending = s.pending ∧ Changes m s.dev t.dev := by
  unfold execAllocationTick at h
  refine of_onRun h (bit_of hm (by decide)) (fun d hd => ?_)
  try dsimp only
  repeat' (first | with_reducible assumption | split | (intro _) | with_reducible apply ch_effAllocationTick | exact sub_trans hm (by decide))

end Dev

end Sys2Proof.Machine
end

