-- ==== Sys2Proof/Laws/Blocks.lean ====
section
/-! SUPPORT. What the descrambler of R175 makes of what the scrambler sends: the same blocks, where both start from the same register. -/

namespace Sys2Proof.Machine

/-- The bits of a number written from its bits. -/
theorem bitsNat_testBit (l : List Bool) (i : Nat) : (l.foldr (fun (b : Bool) a => b.toNat + 2 * a) 0).testBit i = l.getD i false := by
  induction l generalizing i with
  | nil => simp
  | cons b rest ih =>
    cases i with
    | zero => cases b <;> simp [Nat.testBit_zero]
    | succ n =>
      have h : (b.toNat + 2 * rest.foldr (fun (b : Bool) a => b.toNat + 2 * a) 0) / 2 = rest.foldr (fun (b : Bool) a => b.toNat + 2 * a) 0 := by
        cases b <;> simp <;> omega
      simp only [List.foldr_cons, Nat.testBit_succ, h, ih, List.getD_cons_succ]

/-- A payload's bits make that payload. -/
@[simp] theorem ofBits_payloadBits (w : BitVec 64) : ofBits (payloadBits w) = w := by
  refine BitVec.eq_of_getLsbD_eq fun i hi => ?_
  simp [ofBits, payloadBits, bitsNat_testBit, hi, -BitVec.getLsbD_eq_getElem, BitVec.getLsbD_ofNat]

/-- The bits of a payload made from 64 bits are those bits. -/
theorem payloadBits_ofBits (l : List Bool) (h : l.length = 64) : payloadBits (ofBits l) = l := by
  refine List.ext_getElem (by simp [payloadBits, h]) fun i hi _ => ?_
  have hi : i < 64 := by simpa [payloadBits] using hi
  simp [ofBits, payloadBits, bitsNat_testBit, hi, h, -BitVec.getLsbD_eq_getElem, BitVec.getLsbD_ofNat]

@[simp] theorem scrambleBits_length (r : BitVec 58) (l : List Bool) : (scrambleBits r l).1.length = l.length := by
  induction l generalizing r with
  | nil => rfl
  | cons b rest ih => simp [scrambleBits, ih]

/-- The descrambler gives back the bits, and its register follows the scrambler's. -/
theorem descrambleBits_scrambleBits (r : BitVec 58) (l : List Bool) : descrambleBits r (scrambleBits r l).1 = (l, (scrambleBits r l).2) := by
  induction l generalizing r with
  | nil => rfl
  | cons b rest ih => simp [scrambleBits, descrambleBits, ih]

/-- R175: blocks come back from the descrambler as they went into the scrambler. -/
@[simp] theorem descramble_scramble (r : BitVec 58) (l : List Block) : descramble r (scramble r l) = l := by
  induction l generalizing r with
  | nil => rfl
  | cons b rest ih =>
    have h : (scrambleBits r (payloadBits b.payload)).1.length = 64 := by simp [payloadBits]
    simp [scramble, descramble, payloadBits_ofBits _ h, descrambleBits_scrambleBits, ih]

end Sys2Proof.Machine
end

