-- ==== Sys2Proof/Laws/CanCh.lean ====
section
/-! SUPPORT. What each definition of Machine/Can.lean may change. -/

namespace Sys2Proof.Machine

set_option linter.all false
set_option Elab.async false

namespace Dev

theorem ch_modCan {m : Nat} {s0 : Dev} (s : Dev) (n : Fin 4) (f : CanSt → CanSt)
    (hm : Within 0x800000 m) (h0 : Changes m s0 s) :
    Changes m s0 (Dev.modCan s n f) := by
  unfold Dev.modCan
  try dsimp only
  repeat' (first | with_reducible assumption | split | (intro _) | with_reducible apply ch_putCan | exact bit_of hm (by decide))

theorem ch_canCounters {m : Nat} {s0 : Dev} (s : Dev) (n : Fin 4) (tec : Nat) (rxc : Nat)
    (hm : Within 0xC000000000000000000000000000000000000000000000000000000000000000000000000000800002 m) (h0 : Changes m s0 s) :
    Changes m s0 (Dev.canCounters s n tec rxc) := by
  unfold Dev.canCounters
  try dsimp only
  repeat' (first | with_reducible assumption | split | (intro _) | with_reducible apply ch_set | with_reducible apply ch_setb | with_reducible apply ch_modCan | with_reducible apply ch_fresh | exact sub_trans hm (by decide) | with_reducible exact reg_of hm (at_CAN_STATUS _) (by decide) | with_reducible exact reg_of hm (at_CAN_ERRCNT _) (by decide))

theorem ch_canEvent {m : Nat} {s0 : Dev} (s : Dev) (n : Fin 4) (c : Code)
    (hm : Within 0x14000000000000000000000000000000000000000000000000000000000000000000000000000000000000000000000000000000000000000000084072000000000001A4 m) (h0 : Changes m s0 s) :
    Changes m s0 (Dev.canEvent s n c) := by
  unfold Dev.canEvent
  try dsimp only
  repeat' (first | with_reducible assumption | split | (intro _) | with_reducible apply ch_post | exact sub_trans hm (by decide))

theorem ch_canPend {m : Nat} {s0 : Dev} (s : Dev) (n : Fin 4)
    (hm : Within 0x4000000000000000000000000000000000000000000000000000000000000000000000000000000000 m) (h0 : Changes m s0 s) :
    Changes m s0 (Dev.canPend s n) := by
  unfold Dev.canPend
  try dsimp only
  repeat' (first | with_reducible assumption | split | (intro _) | with_reducible apply ch_set | with_reducible exact reg_of hm (at_CAN_STATUS _) (by decide))

theorem ch_canEnd {m : Nat} {s0 : Dev} (s : Dev) (l : List CanPending) (c : Code)
    (hm : Within 0x8400200000000000084 m) (h0 : Changes m s0 s) :
    Changes m s0 (Dev.canEnd s l c) := by
  unfold Dev.canEnd
  try dsimp only
  repeat' (first | with_reducible assumption | split | (intro _) | with_reducible apply ch_forEach | with_reducible apply ch_complete | exact sub_trans hm (by decide))

theorem ch_canSummary {m : Nat} {s0 : Dev} (s : Dev)
    (hm : Within 0x100000000000000000000000000000000000000000000000000000000000000000000000000000000 m) (h0 : Changes m s0 s) :
    Changes m s0 (Dev.canSummary s) := by
  unfold Dev.canSummary
  try dsimp only
  repeat' (first | with_reducible assumption | split | (intro _) | with_reducible apply ch_set | with_reducible exact reg_of hm at_CAN_SUMMARY (by decide))

theorem ch_canStartRecovery {m : Nat} {s0 : Dev} (s : Dev) (n : Fin 4)
    (hm : Within 0x4000000000000000000000000000000000000000000000000000000000000000000000000000800000 m) (h0 : Changes m s0 s) :
    Changes m s0 (Dev.canStartRecovery s n) := by
  unfold Dev.canStartRecovery
  try dsimp only
  repeat' (first | with_reducible assumption | split | (intro _) | with_reducible apply ch_setb | with_reducible apply ch_modCan | exact sub_trans hm (by decide) | with_reducible exact reg_of hm (at_CAN_STATUS _) (by decide))

theorem ch_canEnterBusOff {m : Nat} {s0 : Dev} (s : Dev) (n : Fin 4)
    (hm : Within 0x14000000000000000000000000000000000000000000000000001041000000000000000000000000000000000000000000000000000000000000084072000000008001A4 m) (h0 : Changes m s0 s) :
    Changes m s0 (Dev.canEnterBusOff s n) := by
  unfold Dev.canEnterBusOff
  try dsimp only
  repeat' (first | with_reducible assumption | split | (intro _) | with_reducible apply ch_bump | with_reducible apply ch_set | with_reducible apply ch_setb | with_reducible apply ch_modCan | with_reducible apply ch_canPend | with_reducible apply ch_canEnd | with_reducible apply ch_canEvent | with_reducible apply ch_canSummary | with_reducible apply ch_canStartRecovery | exact sub_trans hm (by decide) | with_reducible exact reg_of hm (at_CAN_STATUS _) (by decide) | with_reducible exact reg_of hm (at_CAN_CNT_BOFF _) (by decide))

theorem ch_canConfine {m : Nat} {s0 : Dev} (s : Dev) (n : Fin 4) (tec : Nat) (rxc : Nat)
    (hm : Within 0x140000000000000000000000000000000000000000000000000010C1000000000000000000000000000000000000000000000000000000000000084072000000008001A6 m) (h0 : Changes m s0 s) :
    Changes m s0 (Dev.canConfine s n tec rxc) := by
  unfold Dev.canConfine
  try dsimp only
  repeat' (first | with_reducible assumption | split | (intro _) | with_reducible apply ch_when | with_reducible apply ch_set | with_reducible apply ch_canCounters | with_reducible apply ch_canEvent | with_reducible apply ch_canEnterBusOff | with_reducible apply ch_canSummary | exact sub_trans hm (by decide) | with_reducible exact reg_of hm (at_CAN_STATUS _) (by decide))

theorem ch_canToRing {m : Nat} {s0 : Dev} (s : Dev) (n : Fin 4) (ring : Nat) (r : CanRecord)
    (hm : Within 0x14000000000000000000000000000000000000000000000000000840000000000000000000000000000000000000000000000000000000000000084072000000008001A4 m) (h0 : Changes m s0 s) :
    Changes m s0 (Dev.canToRing s n ring r) := by
  unfold Dev.canToRing
  try dsimp only
  repeat' (first | with_reducible assumption | split | (intro _) | with_reducible apply ch_latch | with_reducible apply ch_bump | with_reducible apply ch_ringWrite | with_reducible apply ch_modCan | with_reducible apply ch_canEvent | exact sub_trans hm (by decide) | exact bit_of hm (by decide) | with_reducible exact reg_of hm (at_CAN_STATUS _) (by decide) | with_reducible exact reg_of hm (at_CAN_CNT_DROP _) (by decide))

theorem ch_canDeliver {m : Nat} {s0 : Dev} (s : Dev) (n : Fin 4) (x : CanFrame) (sof : Nat) (looped : Bool)
    (hm : Within 0x1400000000000000000000A000000000000000000000000000000A4000000000000000000001000000000000000000000000000000000000000008407200000000C00DA6 m) (h0 : Changes m s0 s) :
    Changes m s0 (Dev.canDeliver s n x sof looped) := by
  unfold Dev.canDeliver
  try dsimp only
  repeat' (first | with_reducible assumption | split | (intro _) | with_reducible apply ch_bump | with_reducible apply ch_canToRing | with_reducible apply ch_bmsFrame | exact sub_trans hm (by decide) | with_reducible exact reg_of hm (at_CAN_CNT_RX _) (by decide))

theorem ch_canReceived {m : Nat} {s0 : Dev} (s : Dev) (n : Fin 4)
    (hm : Within 0x140000000000000000000000000000000000000000000000000010C1000000000000000000000000000000000000000000000000000000000000084072000000008001A6 m) (h0 : Changes m s0 s) :
    Changes m s0 (Dev.canReceived s n) := by
  unfold Dev.canReceived
  try dsimp only
  repeat' (first | with_reducible assumption | split | (intro _) | with_reducible apply ch_fresh | with_reducible apply ch_canConfine | exact sub_trans hm (by decide))

theorem ch_canFrameReceived {m : Nat} {s0 : Dev} (s : Dev) (n : Fin 4) (x : CanFrame) (sof : Nat)
    (hm : Within 0x1400000000000000000000A000000000000000000000000000001AC100000000000000000001000000000000000000000000000000000000000008407200000000C00DA7 m) (h0 : Changes m s0 s) :
    Changes m s0 (Dev.canFrameReceived s n x sof) := by
  unfold Dev.canFrameReceived
  try dsimp only
  repeat' (first | with_reducible assumption | split | (intro _) | with_reducible apply ch_canDeliver | with_reducible apply ch_canReceived | with_reducible apply ch_reach | exact sub_trans hm (by decide))

theorem ch_canTx {m : Nat} {s0 : Dev} (s : Dev) (src : Src) (f : CanFrame)
    (hm : Within 0x4000000000000000000000000000000000000000000000000000000000000008400200000000800084 m) (h0 : Changes m s0 s) :
    Changes m s0 (Dev.canTx s src f) := by
  unfold Dev.canTx
  try dsimp only
  repeat' (first | with_reducible assumption | split | (intro _) | with_reducible apply ch_complete | with_reducible apply ch_canPend | with_reducible apply ch_modCan | exact sub_trans hm (by decide))

theorem ch_canError {m : Nat} {s0 : Dev} (s : Dev) (n : Fin 4) (e : CanError)
    (hm : Within 0x140000000000000000000000000000000000000000000000000010C1000000000000000000000000000000000000000000000000000000000000084072000000008001A6 m) (h0 : Changes m s0 s) :
    Changes m s0 (Dev.canError s n e) := by
  unfold Dev.canError
  try dsimp only
  repeat' (first | with_reducible assumption | split | (intro _) | with_reducible apply ch_set | with_reducible apply ch_latch | with_reducible apply ch_canConfine | with_reducible apply ch_modCan | with_reducible apply ch_canEvent | exact sub_trans hm (by decide) | exact bit_of hm (by decide) | with_reducible exact reg_of hm (at_CAN_STATUS _) (by decide))

theorem ch_canRecovered {m : Nat} {s0 : Dev} (s : Dev) (n : Fin 4)
    (hm : Within 0x140000000000000000000000000000000000000000000000000000C1000000000000000000000000000000000000000000000000000000000000084072000000008001A7 m) (h0 : Changes m s0 s) :
    Changes m s0 (Dev.canRecovered s n) := by
  unfold Dev.canRecovered
  try dsimp only
  repeat' (first | with_reducible assumption | split | (intro _) | with_reducible apply ch_set | with_reducible apply ch_setb | with_reducible apply ch_reach | with_reducible apply ch_canCounters | with_reducible apply ch_canEvent | with_reducible apply ch_canSummary | exact sub_trans hm (by decide) | with_reducible exact reg_of hm (at_CAN_STATUS _) (by decide))

theorem ch_canTdc {m : Nat} {s0 : Dev} (s : Dev) (n : Fin 4) (f : CanFrame) (edges : List Nat)
    (hm : Within 0x14000000000000000000000000000000000000000000000000000060000000000000000000000000000000000000000000000000000000000000084072000000008001A4 m) (h0 : Changes m s0 s) :
    Changes m s0 (Dev.canTdc s n f edges) := by
  unfold Dev.canTdc
  try dsimp only
  repeat' (first | with_reducible assumption | split | (intro _) | with_reducible apply ch_set | with_reducible apply ch_latch | with_reducible apply ch_modCan | with_reducible apply ch_canEvent | exact sub_trans hm (by decide) | exact bit_of hm (by decide) | with_reducible exact reg_of hm (at_CAN_TDC _) (by decide) | with_reducible exact reg_of hm (at_CAN_STATUS _) (by decide))

theorem ch_canDone {m : Nat} {s0 : Dev} (s : Dev) (n : Fin 4) (p : CanPending) (c : Code) (result : Word)
    (hm : Within 0x4000000000000000000000000000000000000000000000000000000000000008400200000000800084 m) (h0 : Changes m s0 s) :
    Changes m s0 (Dev.canDone s n p c result) := by
  unfold Dev.canDone
  try dsimp only
  repeat' (first | with_reducible assumption | split | (intro _) | with_reducible apply ch_complete | with_reducible apply ch_canPend | with_reducible apply ch_modCan | exact sub_trans hm (by decide))

theorem ch_canOfferEnds {m : Nat} {s0 : Dev} (s : Dev) (n : Fin 4) (p : CanPending) (r : CanResult) (sof : Nat) (edges : List Nat)
    (hm : Within 0x1400000000000000000000A000000000000000000000000000001EE100000000000000000001000000000000000000000000000000000000000008407200000000C00DA6 m) (h0 : Changes m s0 s) :
    Changes m s0 (Dev.canOfferEnds s n p r sof edges) := by
  unfold Dev.canOfferEnds
  try dsimp only
  repeat' (first | with_reducible assumption | split | (intro _) | with_reducible apply ch_bump | with_reducible apply ch_canTdc | with_reducible apply ch_canDone | with_reducible apply ch_canConfine | with_reducible apply ch_canDeliver | exact sub_trans hm (by decide) | with_reducible exact reg_of hm (at_CAN_CNT_TX _) (by decide))

theorem ch_canTxComplete {m : Nat} {s0 : Dev} (s : Dev) (n : Fin 4) (r : CanResult) (sof : Nat) (edges : List Nat)
    (hm : Within 0x1400000000000000000000A000000000000000000000000000001EE100000000000000000001000000000000000000000000000000000000000008407200000000C00DA7 m) (h0 : Changes m s0 s) :
    Changes m s0 (Dev.canTxComplete s n r sof edges) := by
  unfold Dev.canTxComplete
  try dsimp only
  repeat' (first | with_reducible assumption | split | (intro _) | with_reducible apply ch_canOfferEnds | with_reducible apply ch_reach | with_reducible apply ch_canDone | exact sub_trans hm (by decide))

theorem ch_canEnable {m : Nat} {s0 : Dev} (s : Dev) (n : Fin 4)
    (hm : Within 0xC700000000000000000000000000000000000000000000000000000000000000000000000000800006 m) (h0 : Changes m s0 s) :
    Changes m s0 (Dev.canEnable s n) := by
  unfold Dev.canEnable
  try dsimp only
  repeat' (first | with_reducible assumption | split | (intro _) | with_reducible apply ch_setb | with_reducible apply ch_set | with_reducible apply ch_answer | with_reducible apply ch_reject | with_reducible apply ch_canCounters | with_reducible apply ch_modCan | with_reducible apply ch_canSummary | exact sub_trans hm (by decide) | with_reducible exact reg_of hm at_CAN_REJECT_CNT (by decide) | with_reducible exact reg_of hm (at_CAN_CTL _) (by decide) | with_reducible exact reg_of hm (at_CAN_STATUS _) (by decide))

theorem ch_canDisable {m : Nat} {s0 : Dev} (s : Dev) (n : Fin 4) (onBus : Option CanPending)
    (hm : Within 0x4500000000000000000000000000000000000000000000000000000000000008400200000000800084 m) (h0 : Changes m s0 s) :
    Changes m s0 (Dev.canDisable s n onBus) := by
  unfold Dev.canDisable
  try dsimp only
  repeat' (first | with_reducible assumption | split | (intro _) | with_reducible apply ch_set | with_reducible apply ch_setb | with_reducible apply ch_answer | with_reducible apply ch_modCan | with_reducible apply ch_canPend | with_reducible apply ch_canEnd | with_reducible apply ch_canSummary | exact sub_trans hm (by decide) | with_reducible exact reg_of hm (at_CAN_CTL _) (by decide) | with_reducible exact reg_of hm (at_CAN_STATUS _) (by decide))

theorem ch_canSafeHold {m : Nat} {s0 : Dev} (s : Dev)
    (hm : Within 0x4000000000000000000000000000000000000000000000000000000000000008400200000000800084 m) (h0 : Changes m s0 s) :
    Changes m s0 (Dev.canSafeHold s) := by
  unfold Dev.canSafeHold
  try dsimp only
  repeat' (first | with_reducible assumption | split | (intro _) | with_reducible apply ch_forEach | with_reducible apply ch_canEnd | with_reducible apply ch_canPend | with_reducible apply ch_modCan | exact sub_trans hm (by decide))

theorem ch_execCanFrameReceived {m : Nat} {n : Fin 4} {f : CanFrame} {sof : Nat} {s t : State} (hm : Within 0x1400000000000000000000A000000000000000000000000000001AC100000000000000000001000000000000000000000000000000000000000008407200000000C00DA7 m)
    (h : execCanFrameReceived n f sof s = .next t) : t.pending = s.pending ∧ Changes m s.dev t.dev := by
  unfold execCanFrameReceived at h
  refine of_onRun h (bit_of hm (by decide)) (fun d hd => ?_)
  try dsimp only
  repeat' (first | with_reducible assumption | split | (intro _) | with_reducible apply ch_canFrameReceived | exact sub_trans hm (by decide))

theorem ch_execCanRecoveryComplete {m : Nat} {n : Fin 4} {s t : State} (hm : Within 0x140000000000000000000000000000000000000000000000000000C1000000000000000000000000000000000000000000000000000000000000084072000000008001A7 m)
    (h : execCanRecoveryComplete n s = .next t) : t.pending = s.pending ∧ Changes m s.dev t.dev := by
  unfold execCanRecoveryComplete at h
  refine of_onRun h (bit_of hm (by decide)) (fun d hd => ?_)
  try dsimp only
  repeat' (first | with_reducible assumption | split | (intro _) | with_reducible apply ch_canRecovered | exact sub_trans hm (by decide))

theorem ch_execCanTxComplete {m : Nat} {n : Fin 4} {r : CanResult} {sof : Nat} {edges : List Nat} {s t : State} (hm : Within 0x1400000000000000000000A000000000000000000000000000001EE100000000000000000001000000000000000000000000000000000000000008407200000000C00DA7 m)
    (h : execCanTxComplete n r sof edges s = .next t) : t.pending = s.pending ∧ Changes m s.dev t.dev := by
  unfold execCanTxComplete at h
  refine of_onRun h (bit_of hm (by decide)) (fun d hd => ?_)
  try dsimp only
  repeat' (first | with_reducible assumption | split | (intro _) | with_reducible apply ch_canTxComplete | exact sub_trans hm (by decide))

theorem ch_execCanTx {m : Nat} {src : Src} {record : List Byte} {s t : State} (hm : Within 0x4000000000000000000000000000000000000000000000000000000000000008400200000000800084 m)
    (h : execCanTx src record s = .next t) : t.pending = s.pending ∧ Changes m s.dev t.dev := by
  unfold execCanTx at h
  refine of_onHost h (sub_trans hm (by decide)) (fun d hd => ?_)
  try dsimp only
  repeat' (first | with_reducible assumption | split | (intro _) | with_reducible apply ch_canTx | exact sub_trans hm (by decide))

theorem ch_execCanDisable {m : Nat} {n : Fin 4} {busy : Bool} {s t : State} (hm : Within 0x4500000000000000000000000000000000000000000000000000000000000008400200000000800084 m)
    (h : execCanDisable n busy s = .next t) : t.pending = s.pending ∧ Changes m s.dev t.dev := by
  unfold execCanDisable at h
  refine of_onReg h (bit_of hm (by decide)) (fun d hd => ?_)
  try dsimp only
  repeat' (first | with_reducible assumption | split | (intro _) | with_reducible apply ch_canDisable | exact sub_trans hm (by decide))

theorem ch_execCanEnable {m : Nat} {n : Fin 4} {s t : State} (hm : Within 0xC700000000000000000000000000000000000000000000000000000000000000000000000000800006 m)
    (h : execCanEnable n s = .next t) : t.pending = s.pending ∧ Changes m s.dev t.dev := by
  unfold execCanEnable at h
  refine of_onReg h (bit_of hm (by decide)) (fun d hd => ?_)
  try dsimp only
  repeat' (first | with_reducible assumption | split | (intro _) | with_reducible apply ch_canEnable | exact sub_trans hm (by decide))

theorem ch_execCanRecover {m : Nat} {n : Fin 4} {s t : State} (hm : Within 0x4000000000000000000000000000000000000000000000000000000000000000000000000000800004 m)
    (h : execCanRecover n s = .next t) : t.pending = s.pending ∧ Changes m s.dev t.dev := by
  unfold execCanRecover at h
  refine of_onReg h (bit_of hm (by decide)) (fun d hd => ?_)
  try dsimp only
  repeat' (first | with_reducible assumption | split | (intro _) | with_reducible apply ch_answer | with_reducible apply ch_canStartRecovery | exact sub_trans hm (by decide))

theorem ch_execCanBusError {m : Nat} {n : Fin 4} {e : CanError} {s t : State} (hm : Within 0x140000000000000000000000000000000000000000000000000010C1000000000000000000000000000000000000000000000000000000000000084072000000008001A6 m)
    (h : execCanBusError n e s = .next t) : t.pending = s.pending ∧ Changes m s.dev t.dev := by
  unfold execCanBusError at h
  refine of_onRun h (bit_of hm (by decide)) (fun d hd => ?_)
  try dsimp only
  repeat' (first | with_reducible assumption | split | (intro _) | with_reducible apply ch_canError | exact sub_trans hm (by decide))

end Dev

end Sys2Proof.Machine
end

