-- ==== Sys2Proof/Laws/KeysCh.lean ====
section
/-! SUPPORT. What each definition of Machine/Keys.lean may change. -/

namespace Sys2Proof.Machine

set_option linter.all false
set_option Elab.async false

namespace Dev

theorem ch_keyOperation {m : Nat} {s0 : Dev} (s : Dev) (l : List (Fin 13)) (f : Dev → Dev × Bool)
    (hm : Within 0x140000000000000000000000000000000F0000000000000000000000000000000000000000000000000000000000000000000000000000000000084072000000000201A4 m) (h0 : Changes m s0 s) (h2 : ∀ x0, Changes m s0 x0 → Changes m s0 (f x0).1) :
    Changes m s0 (Dev.keyOperation s l f) := by
  unfold Dev.keyOperation
  try dsimp only
  repeat' (first | with_reducible assumption | split | (intro _) | with_reducible apply ch_forEach | with_reducible apply ch_when | with_reducible apply ch_modBil | with_reducible apply ch_bookTamper | with_reducible apply ch_bookHeld | with_reducible apply h2 | exact sub_trans hm (by decide))

theorem ch_rootCreate {m : Nat} {s0 : Dev} (s : Dev)
    (hm : Within 0x140010000000000000000000000000000F0000000000000000000000000000000000000000000000000000000000000000000000000000000000084072000000000601A6 m) (h0 : Changes m s0 s) :
    Changes m s0 (Dev.rootCreate s) := by
  unfold Dev.rootCreate
  try dsimp only
  repeat' (first | with_reducible assumption | split | (intro _) | with_reducible apply ch_setb | with_reducible apply ch_keyOperation | with_reducible apply ch_fresh | with_reducible apply ch_modKey | with_reducible apply ch_post | with_reducible apply ch_modBil | exact sub_trans hm (by decide) | with_reducible exact reg_of hm at_KEY_STATUS (by decide))

theorem ch_rootGenRetry {m : Nat} {s0 : Dev} (s : Dev)
    (hm : Within 0x140010000000000000000000000000000F0000000000000000000000000000000000000000000000000000000000000000000000000000000000084072000000000601A7 m) (h0 : Changes m s0 s) :
    Changes m s0 (Dev.rootGenRetry s) := by
  unfold Dev.rootGenRetry
  try dsimp only
  repeat' (first | with_reducible assumption | split | (intro _) | with_reducible apply ch_rootCreate | with_reducible apply ch_reach | exact sub_trans hm (by decide))

theorem ch_debugRequest {m : Nat} {s0 : Dev} (s : Dev)
    (hm : Within 0x40006 m) (h0 : Changes m s0 s) :
    Changes m s0 (Dev.debugRequest s) := by
  unfold Dev.debugRequest
  try dsimp only
  repeat' (first | with_reducible assumption | split | (intro _) | with_reducible apply ch_emit | with_reducible apply ch_fresh | with_reducible apply ch_modKey | exact sub_trans hm (by decide))

theorem ch_workShow {m : Nat} {s0 : Dev} (s : Dev)
    (hm : Within 0x400000000000000000000000000000000000000000000000000000000000000000000000000000000000000000000000000000000000000000000000000000000000 m) (h0 : Changes m s0 s) :
    Changes m s0 (Dev.workShow s) := by
  unfold Dev.workShow
  try dsimp only
  repeat' (first | with_reducible assumption | split | (intro _) | with_reducible apply ch_set | with_reducible exact reg_of hm at_KEY_WSLOT (by decide))

theorem ch_zeroiseWork {m : Nat} {s0 : Dev} (s : Dev)
    (hm : Within 0x400000000000000000000000000000000000000000000000000000000000000000000000000000000000000000000000000000000000000000000000000000040000 m) (h0 : Changes m s0 s) :
    Changes m s0 (Dev.zeroiseWork s) := by
  unfold Dev.zeroiseWork
  try dsimp only
  repeat' (first | with_reducible assumption | split | (intro _) | with_reducible apply ch_workShow | with_reducible apply ch_modKey | exact sub_trans hm (by decide))

theorem ch_keyLong {m : Nat} {s0 : Dev} (s : Dev) (l : LongSrc) (op : Code) (bad : Option Code) (run : Dev → Dev × Except Code (List Byte))
    (hm : Within 0x14000000000000000000000000000000000000000000000000000000000000000000000000000000000000000000000000000000000000000000084072000000000001A4 m) (h0 : Changes m s0 s) (h4 : ∀ x0, Changes m s0 x0 → Changes m s0 (run x0).1) :
    Changes m s0 (Dev.keyLong s l op bad run) := by
  unfold Dev.keyLong
  try dsimp only
  repeat' (first | with_reducible assumption | split | (intro _) | with_reducible apply ch_complete | with_reducible apply ch_longRefuse | with_reducible apply ch_longAccept | with_reducible apply ch_longEnd | with_reducible apply ch_longPartial | with_reducible apply h4 | exact sub_trans hm (by decide))

theorem ch_nextWseq {m : Nat} {s0 : Dev} (s : Dev)
    (hm : Within 0x40000 m) (h0 : Changes m s0 s) :
    Changes m s0 (Dev.nextWseq s) := by
  unfold Dev.nextWseq
  try dsimp only
  repeat' (first | with_reducible assumption | split | (intro _) | with_reducible apply ch_modKey | exact sub_trans hm (by decide))

theorem ch_makeBlob {m : Nat} {s0 : Dev} (s : Dev) (x : KeyNew) (secret : List Byte) (pub : List Byte)
    (hm : Within 0x40000 m) (h0 : Changes m s0 s) :
    Changes m s0 (Dev.makeBlob s x secret pub).1 := by
  unfold Dev.makeBlob
  try dsimp only
  repeat' (first | with_reducible assumption | split | (intro _) | with_reducible apply ch_nextWseq | exact sub_trans hm (by decide))

theorem ch_keyMade {m : Nat} {s0 : Dev} (l : LongSrc) (q : Dev × Except Code (Bool × List Byte))
    (hm : Within 0x14000000000000000000000000000000000000000000000000000000000000000000000000000000000000000000000000000000000000000000084072000000000001A4 m) (h1 : Changes m s0 q.1) :
    Changes m s0 (Dev.keyMade l q).1 := by
  unfold Dev.keyMade
  try dsimp only
  repeat' (first | with_reducible assumption | split | (intro _) | with_reducible apply ch_longEnd | with_reducible apply ch_longPartial | exact sub_trans hm (by decide))

theorem ch_keyMaking {m : Nat} {s0 : Dev} (s : Dev) (l : LongSrc) (op : Code) (bad : Option Code) (tampers : List (Fin 13)) (make : Dev → Dev × Except Code (Bool × List Byte))
    (hm : Within 0x140000000000000000000000000000000F0000000000000000000000000000000000000000000000000000000000000000000000000000000000084072000000000201A4 m) (h0 : Changes m s0 s) (h5 : ∀ x0, Changes m s0 x0 → Changes m s0 (make x0).1) :
    Changes m s0 (Dev.keyMaking s l op bad tampers make) := by
  unfold Dev.keyMaking
  try dsimp only
  repeat' (first | with_reducible assumption | split | (intro _) | with_reducible apply ch_complete | with_reducible apply ch_longRefuse | with_reducible apply ch_keyOperation | with_reducible apply ch_longAccept | with_reducible apply ch_keyMade | with_reducible apply h5 | exact sub_trans hm (by decide))

theorem ch_keyAbort {m : Nat} {s0 : Dev} (s : Dev) (step : Nat)
    (hm : Within 0x14000000000000000000000000000000000000000000000000000000000000000000000000000000000000000000000000000000000000000000084072000000000001A4 m) (h0 : Changes m s0 s) :
    Changes m s0 (Dev.keyAbort s step) := by
  unfold Dev.keyAbort
  try dsimp only
  repeat' (first | with_reducible assumption | split | (intro _) | with_reducible apply ch_post | exact sub_trans hm (by decide))

theorem ch_keyCounts {m : Nat} {s0 : Dev} (s : Dev)
    (hm : Within 0x100000000000000000000000000000000000000000000000000000000000000000000000000000000000000000000000000000000000000000000000000000000000 m) (h0 : Changes m s0 s) :
    Changes m s0 (Dev.keyCounts s) := by
  unfold Dev.keyCounts
  try dsimp only
  repeat' (first | with_reducible assumption | split | (intro _) | with_reducible apply ch_set | with_reducible exact reg_of hm at_KEY_STATUS (by decide))

theorem ch_writeSlot {m : Nat} {s0 : Dev} (s : Dev) (k : Nat) (x : KeyNew) (secret : List Byte) (pub : List Byte)
    (hm : Within 0x14081000000000000000000000000000000000000000000000000000000000000000000000000000000000000000000000000000000000000000084072000000000401A4 m) (h0 : Changes m s0 s) :
    Changes m s0 (Dev.writeSlot s k x secret pub).1 := by
  unfold Dev.writeSlot
  try dsimp only
  repeat' (first | with_reducible assumption | split | (intro _) | with_reducible apply ch_set | with_reducible apply ch_nextWseq | with_reducible apply ch_modKey | with_reducible apply ch_keyAbort | with_reducible apply ch_post | with_reducible apply ch_keyCounts | exact sub_trans hm (by decide) | with_reducible exact reg_of hm (at_KEY_SLOT _) (by decide))

theorem ch_storeKey {m : Nat} {s0 : Dev} (s : Dev) (x : KeyNew) (secret : List Byte) (pub : List Byte)
    (hm : Within 0x14081000000000000000000000000000000000000000000000000000000000000000000000000000000000000000000000000000000000000000084072000000000401A4 m) (h0 : Changes m s0 s) :
    Changes m s0 (Dev.storeKey s x secret pub).1 := by
  unfold Dev.storeKey
  try dsimp only
  repeat' (first | with_reducible assumption | split | (intro _) | with_reducible apply ch_makeBlob | with_reducible apply ch_writeSlot | exact sub_trans hm (by decide))

theorem ch_keyGenerate {m : Nat} {s0 : Dev} (s : Dev) (l : LongSrc) (x : KeyNew)
    (hm : Within 0x140810000000000000000000000000000F0000000000000000000000000000000000000000000000000000000000000000000000000000000000084072000000000601A6 m) (h0 : Changes m s0 s) :
    Changes m s0 (Dev.keyGenerate s l x) := by
  unfold Dev.keyGenerate
  try dsimp only
  repeat' (first | with_reducible assumption | split | (intro _) | with_reducible apply ch_keyMaking | with_reducible apply ch_fresh | with_reducible apply ch_storeKey | exact sub_trans hm (by decide))

theorem ch_slotFoundBad {m : Nat} {s0 : Dev} (s : Dev) (k : Nat)
    (hm : Within 0x140810000000000000000000000000000F0000000000000000000000000000000000000000000000000000000000000000000000000000000000084072000000000201A4 m) (h0 : Changes m s0 s) :
    Changes m s0 (Dev.slotFoundBad s k) := by
  unfold Dev.slotFoundBad
  try dsimp only
  repeat' (first | with_reducible assumption | split | (intro _) | with_reducible apply ch_when | with_reducible apply ch_set | with_reducible apply ch_post | with_reducible apply ch_keyCounts | with_reducible apply ch_bookTamper | exact sub_trans hm (by decide) | with_reducible exact reg_of hm (at_KEY_SLOT _) (by decide))

theorem ch_loadKey {m : Nat} {s0 : Dev} (s : Dev) (r : KeyRef)
    (hm : Within 0x140810000000000000000000000000000F0000000000000000000000000000000000000000000000000000000000000000000000000000000000084072000000000201A4 m) (h0 : Changes m s0 s) :
    Changes m s0 (Dev.loadKey s r).1 := by
  unfold Dev.loadKey
  try dsimp only
  repeat' (first | with_reducible assumption | split | (intro _) | with_reducible apply ch_slotFoundBad | exact sub_trans hm (by decide))

theorem ch_loadFor {m : Nat} {s0 : Dev} (s : Dev) (r : KeyRef) (u : Nat)
    (hm : Within 0x140810000000000000000000000000000F0000000000000000000000000000000000000000000000000000000000000000000000000000000000084072000000000201A4 m) (h0 : Changes m s0 s) :
    Changes m s0 (Dev.loadFor s r u).1 := by
  unfold Dev.loadFor
  try dsimp only
  repeat' (first | with_reducible assumption | split | (intro _) | with_reducible apply ch_loadKey | exact sub_trans hm (by decide))

theorem ch_keyLongUse {m : Nat} {s0 : Dev} (s : Dev) (l : LongSrc) (op : Code) (r : KeyRef) (u : Nat) (run : UseKey → Except Code (List Byte))
    (hm : Within 0x140810000000000000000000000000000F0000000000000000000000000000000000000000000000000000000000000000000000000000000000084072000000000201A4 m) (h0 : Changes m s0 s) :
    Changes m s0 (Dev.keyLongUse s l op r u run) := by
  unfold Dev.keyLongUse
  try dsimp only
  repeat' (first | with_reducible assumption | split | (intro _) | with_reducible apply ch_loadFor | with_reducible apply ch_keyLong | exact sub_trans hm (by decide))

theorem ch_changeLife {m : Nat} {s0 : Dev} (s : Dev) (life : Nat)
    (hm : Within 0x140000000000000000000000000000038F8005000000000000000000000000000000000000000000000000000000000000000000000000000000084072080010000241A4 m) (h0 : Changes m s0 s) :
    Changes m s0 (Dev.changeLife s life) := by
  unfold Dev.changeLife
  try dsimp only
  repeat' (first | with_reducible assumption | split | (intro _) | with_reducible apply ch_when | with_reducible apply ch_set | with_reducible apply ch_billingStop | with_reducible apply ch_ledger | with_reducible apply ch_chgReady | with_reducible apply ch_normalUpdate | with_reducible apply ch_billingStart | exact sub_trans hm (by decide) | with_reducible exact reg_of hm at_GEN_LIFECYCLE (by decide))

theorem ch_setLife {m : Nat} {s0 : Dev} (s : Dev) (life : Nat)
    (hm : Within 0x140000000000000000000000000000038F8005000000000000000000000000000000000000000000000000000000000000000000000000000000084072080010000241A4 m) (h0 : Changes m s0 s) :
    Changes m s0 (Dev.setLife s life) := by
  unfold Dev.setLife
  try dsimp only
  repeat' (first | with_reducible assumption | split | (intro _) | with_reducible apply ch_changeLife | exact sub_trans hm (by decide))

theorem ch_keyShort {m : Nat} {s0 : Dev} (s : Dev) (src : Src) (q : Dev × Except Code (List Byte))
    (hm : Within 0x8400200000000000084 m) (h0 : Changes m s0 s) (h2 : Changes m s0 q.1) :
    Changes m s0 (Dev.keyShort s src q) := by
  unfold Dev.keyShort
  try dsimp only
  repeat' (first | with_reducible assumption | split | (intro _) | with_reducible apply ch_complete | exact sub_trans hm (by decide))

theorem ch_keyHash {m : Nat} {s0 : Dev} (s : Dev) (bits : Nat) (a2 : List Byte)
    (hm : Within 0x0 m) (h0 : Changes m s0 s) :
    Changes m s0 (Dev.keyHash s bits a2).1 := by
  unfold Dev.keyHash
  try dsimp only
  repeat' (first | with_reducible assumption | split | (intro _))

theorem ch_keyImport {m : Nat} {s0 : Dev} (s : Dev) (l : LongSrc) (x : KeySealed)
    (hm : Within 0x140810000000000000000000000000000F0000000000000000000000000000000000000000000000000000000000000000000000000000000000084072000000000601A4 m) (h0 : Changes m s0 s) :
    Changes m s0 (Dev.keyImport s l x) := by
  unfold Dev.keyImport
  try dsimp only
  repeat' (first | with_reducible assumption | split | (intro _) | with_reducible apply ch_loadFor | with_reducible apply ch_keyMaking | with_reducible apply ch_keyAbort | with_reducible apply ch_storeKey | exact sub_trans hm (by decide))

theorem ch_keyGetPublic {m : Nat} {s0 : Dev} (s : Dev) (r : KeyRef)
    (hm : Within 0x140810000000000000000000000000000F0000000000000000000000000000000000000000000000000000000000000000000000000000000000084072000000000201A4 m) (h0 : Changes m s0 s) :
    Changes m s0 (Dev.keyGetPublic s r).1 := by
  unfold Dev.keyGetPublic
  try dsimp only
  repeat' (first | with_reducible assumption | split | (intro _) | with_reducible apply ch_loadKey | exact sub_trans hm (by decide))

theorem ch_keyUse {m : Nat} {s0 : Dev} (s : Dev) (r : KeyRef) (u : Nat) (run : UseKey → Except Code (List Byte))
    (hm : Within 0x140810000000000000000000000000000F0000000000000000000000000000000000000000000000000000000000000000000000000000000000084072000000000201A4 m) (h0 : Changes m s0 s) :
    Changes m s0 (Dev.keyUse s r u run).1 := by
  unfold Dev.keyUse
  try dsimp only
  repeat' (first | with_reducible assumption | split | (intro _) | with_reducible apply ch_loadFor | exact sub_trans hm (by decide))

theorem ch_modBank {m : Nat} {s0 : Dev} (s : Dev) (b : Nat) (f : FwBank → FwBank)
    (hm : Within 0x40000 m) (h0 : Changes m s0 s) :
    Changes m s0 (Dev.modBank s b f) := by
  unfold Dev.modBank
  try dsimp only
  repeat' (first | with_reducible assumption | split | (intro _) | with_reducible apply ch_modKey | exact sub_trans hm (by decide))

theorem ch_eraseSecrets {m : Nat} {s0 : Dev} (s : Dev)
    (hm : Within 0x8500000000000000000000000000000000000000000000000000000000000000000000000000000000000000000000000000000000000000000000000000000040000 m) (h0 : Changes m s0 s) :
    Changes m s0 (Dev.eraseSecrets s) := by
  unfold Dev.eraseSecrets
  try dsimp only
  repeat' (first | with_reducible assumption | split | (intro _) | with_reducible apply ch_forEach | with_reducible apply ch_wr | with_reducible apply ch_set | with_reducible apply ch_setb | with_reducible apply ch_zeroiseWork | with_reducible apply ch_keyCounts | with_reducible apply ch_modKey | exact sub_trans hm (by decide) | with_reducible exact reg_of hm at_KEY_STATUS (by decide) | with_reducible exact reg_of hm (at_KEY_SLOT _) (by decide))

theorem ch_eraseFinish {m : Nat} {s0 : Dev} (s : Dev)
    (hm : Within 0x140850000000000000000000000000038F8005000000000000000000000000000000000000000000000000000000000000000000000000000000084072080010000641A4 m) (h0 : Changes m s0 s) :
    Changes m s0 (Dev.eraseFinish s) := by
  unfold Dev.eraseFinish
  try dsimp only
  repeat' (first | with_reducible assumption | split | (intro _) | with_reducible apply ch_setb | with_reducible apply ch_keyOperation | with_reducible apply ch_setLife | with_reducible apply ch_eraseSecrets | exact sub_trans hm (by decide) | with_reducible exact reg_of hm at_KEY_STATUS (by decide))

theorem ch_rngFail {m : Nat} {s0 : Dev} (s : Dev)
    (hm : Within 0x14003000000000000000000000000000000000000000000000000000000000000000000000000000000000000000000000000000000000000000084072000000000401A4 m) (h0 : Changes m s0 s) :
    Changes m s0 (Dev.rngFail s) := by
  unfold Dev.rngFail
  try dsimp only
  repeat' (first | with_reducible assumption | split | (intro _) | with_reducible apply ch_bump | with_reducible apply ch_setb | with_reducible apply ch_post | with_reducible apply ch_modKey | exact sub_trans hm (by decide) | with_reducible exact reg_of hm at_KEY_STATUS (by decide) | with_reducible exact reg_of hm at_KEY_RNG_FAILS (by decide))

theorem ch_bankShow {m : Nat} {s0 : Dev} (s : Dev)
    (hm : Within 0x6800000000000000000000000000000000000000000000000000000000000000000000000000000000000000000000000000000000000000000000000000000000000 m) (h0 : Changes m s0 s) :
    Changes m s0 (Dev.bankShow s) := by
  unfold Dev.bankShow
  try dsimp only
  repeat' (first | with_reducible assumption | split | (intro _) | with_reducible apply ch_setb | with_reducible apply ch_wr | with_reducible exact reg_of hm at_KEY_FW (by decide) | with_reducible exact reg_of hm at_KEY_FW_VER_A (by decide) | with_reducible exact reg_of hm at_KEY_FW_VER_B (by decide))

theorem ch_fwConfirm {m : Nat} {s0 : Dev} (s : Dev)
    (hm : Within 0x14078000000000000000000000000000000000000000000000000000000000000000000000000000000000000000000000000000000000000000084072000000000401A4 m) (h0 : Changes m s0 s) :
    Changes m s0 (Dev.fwConfirm s).1 := by
  unfold Dev.fwConfirm
  try dsimp only
  repeat' (first | with_reducible assumption | split | (intro _) | with_reducible apply ch_set | with_reducible apply ch_setb | with_reducible apply ch_modKey | with_reducible apply ch_post | with_reducible apply ch_bankShow | exact sub_trans hm (by decide) | with_reducible exact reg_of hm at_KEY_FW (by decide) | with_reducible exact reg_of hm at_KEY_FW_SEC (by decide))

theorem ch_debugOpening {m : Nat} {s0 : Dev} (s : Dev) (interrupted : Bool)
    (hm : Within 0x140850000000000000000000000000038F8005000000000000000000000000000000000000000000000000000000000000000000000000000000084072080010000641A4 m) (h0 : Changes m s0 s) :
    Changes m s0 (Dev.debugOpening s interrupted) := by
  unfold Dev.debugOpening
  try dsimp only
  repeat' (first | with_reducible assumption | split | (intro _) | with_reducible apply ch_setb | with_reducible apply ch_emit | with_reducible apply ch_post | with_reducible apply ch_modKey | with_reducible apply ch_eraseFinish | exact sub_trans hm (by decide) | with_reducible exact reg_of hm at_KEY_STATUS (by decide))

theorem ch_openBlob {m : Nat} {s0 : Dev} (s : Dev) (b : List Byte)
    (hm : Within 0x2 m) (h0 : Changes m s0 s) :
    Changes m s0 (Dev.openBlob s b).1 := by
  unfold Dev.openBlob
  try dsimp only
  repeat' (first | with_reducible assumption | split | (intro _) | with_reducible apply ch_fresh | exact sub_trans hm (by decide))

theorem ch_keyLoadBlob {m : Nat} {s0 : Dev} (s : Dev) (w : Byte) (b : List Byte)
    (hm : Within 0x400000000000000000000000000000000000000000000000000000000000000000000000000000000000000000000000000000000000000000000000000000040002 m) (h0 : Changes m s0 s) :
    Changes m s0 (Dev.keyLoadBlob s w b).1 := by
  unfold Dev.keyLoadBlob
  try dsimp only
  repeat' (first | with_reducible assumption | split | (intro _) | with_reducible apply ch_openBlob | with_reducible apply ch_workShow | with_reducible apply ch_modKey | exact sub_trans hm (by decide))

theorem ch_keyRandom {m : Nat} {s0 : Dev} (s : Dev) (n : Nat)
    (hm : Within 0x2 m) (h0 : Changes m s0 s) :
    Changes m s0 (Dev.keyRandom s n).1 := by
  unfold Dev.keyRandom
  try dsimp only
  repeat' (first | with_reducible assumption | split | (intro _) | with_reducible apply ch_fresh | exact sub_trans hm (by decide))

theorem ch_fwStage {m : Nat} {s0 : Dev} (s : Dev) (l : LongSrc) (x : FwImage)
    (hm : Within 0x14068000000000000000000000000000000000000000000000000000000000000000000000000000000000000000000000000000000000000000084072000000000401A4 m) (h0 : Changes m s0 s) :
    Changes m s0 (Dev.fwStage s l x) := by
  unfold Dev.fwStage
  try dsimp only
  repeat' (first | with_reducible assumption | split | (intro _) | with_reducible apply ch_keyLong | with_reducible apply ch_bankShow | with_reducible apply ch_modBank | with_reducible apply ch_post | exact sub_trans hm (by decide))

theorem ch_keyDelete {m : Nat} {s0 : Dev} (s : Dev) (src : Src) (k : Byte) (tampers : List (Fin 13))
    (hm : Within 0x140810000000000000000000000000000F0000000000000000000000000000000000000000000000000000000000000000000000000000000000084072000000000601A4 m) (h0 : Changes m s0 s) :
    Changes m s0 (Dev.keyDelete s src k tampers) := by
  unfold Dev.keyDelete
  try dsimp only
  repeat' (first | with_reducible assumption | split | (intro _) | with_reducible apply ch_wr | with_reducible apply ch_complete | with_reducible apply ch_keyOperation | with_reducible apply ch_modKey | with_reducible apply ch_post | with_reducible apply ch_keyCounts | exact sub_trans hm (by decide) | with_reducible exact reg_of hm (at_KEY_SLOT _) (by decide))

theorem ch_keyUnload {m : Nat} {s0 : Dev} (s : Dev) (w : Byte)
    (hm : Within 0x400000000000000000000000000000000000000000000000000000000000000000000000000000000000000000000000000000000000000000000000000000040000 m) (h0 : Changes m s0 s) :
    Changes m s0 (Dev.keyUnload s w).1 := by
  unfold Dev.keyUnload
  try dsimp only
  repeat' (first | with_reducible assumption | split | (intro _) | with_reducible apply ch_workShow | with_reducible apply ch_modKey | exact sub_trans hm (by decide))

theorem ch_rngRetest {m : Nat} {s0 : Dev} (s : Dev) (pass : Bool)
    (hm : Within 0x14001000000000000000000000000000000000000000000000000000000000000000000000000000000000000000000000000000000000000000084072000000000401A5 m) (h0 : Changes m s0 s) :
    Changes m s0 (Dev.rngRetest s pass) := by
  unfold Dev.rngRetest
  try dsimp only
  repeat' (first | with_reducible assumption | split | (intro _) | with_reducible apply ch_setb | with_reducible apply ch_reach | with_reducible apply ch_post | with_reducible apply ch_modKey | exact sub_trans hm (by decide) | with_reducible exact reg_of hm at_KEY_STATUS (by decide))

theorem ch_debugResponse {m : Nat} {s0 : Dev} (s : Dev) (sig : List Byte) (interrupted : Bool)
    (hm : Within 0x140850000000000000000000000000038F8005000000000000000000000000000000000000000000000000000000000000000000000000000000084072080010000641A4 m) (h0 : Changes m s0 s) :
    Changes m s0 (Dev.debugResponse s sig interrupted) := by
  unfold Dev.debugResponse
  try dsimp only
  repeat' (first | with_reducible assumption | split | (intro _) | with_reducible apply ch_modKey | with_reducible apply ch_emit | with_reducible apply ch_debugOpening | exact sub_trans hm (by decide))

theorem ch_execRootGenRetry {m : Nat}  {s t : State} (hm : Within 0x140010000000000000000000000000000F0000000000000000000000000000000000000000000000000000000000000000000000000000000000084072000000000601A7 m)
    (h : execRootGenRetry  s = .next t) : t.pending = s.pending ∧ Changes m s.dev t.dev := by
  unfold execRootGenRetry at h
  refine of_onLive h (bit_of hm (by decide)) (fun d hd => ?_)
  try dsimp only
  repeat' (first | with_reducible assumption | split | (intro _) | with_reducible apply ch_rootGenRetry | exact sub_trans hm (by decide))

theorem ch_execDebugOpenRequest {m : Nat}  {s t : State} (hm : Within 0x40006 m)
    (h : execDebugOpenRequest  s = .next t) : t.pending = s.pending ∧ Changes m s.dev t.dev := by
  unfold execDebugOpenRequest at h
  refine of_onLive h (bit_of hm (by decide)) (fun d hd => ?_)
  try dsimp only
  repeat' (first | with_reducible assumption | split | (intro _) | with_reducible apply ch_debugRequest | exact sub_trans hm (by decide))

theorem ch_execKeyGenerate {m : Nat} {l : LongSrc} {x : KeyNew} {s t : State} (hm : Within 0x140810000000000000000000000000000F0000000000000000000000000000000000000000000000000000000000000000000000000000000000084072000000000601A6 m)
    (h : execKeyGenerate l x s = .next t) : t.pending = s.pending ∧ Changes m s.dev t.dev := by
  unfold execKeyGenerate at h
  refine of_onHost h (sub_trans hm (by decide)) (fun d hd => ?_)
  try dsimp only
  repeat' (first | with_reducible assumption | split | (intro _) | with_reducible apply ch_keyGenerate | exact sub_trans hm (by decide))

theorem ch_execKeyVerify {m : Nat} {l : LongSrc} {r : KeyRef} {a2 : List Byte} {sig : List Byte} {s t : State} (hm : Within 0x140810000000000000000000000000000F0000000000000000000000000000000000000000000000000000000000000000000000000000000000084072000000000201A4 m)
    (h : execKeyVerify l r a2 sig s = .next t) : t.pending = s.pending ∧ Changes m s.dev t.dev := by
  unfold execKeyVerify at h
  refine of_onHost h (sub_trans hm (by decide)) (fun d hd => ?_)
  try dsimp only
  repeat' (first | with_reducible assumption | split | (intro _) | with_reducible apply ch_keyLongUse | exact sub_trans hm (by decide))

theorem ch_execKeyHash {m : Nat} {src : Src} {bits : Nat} {a2 : List Byte} {s t : State} (hm : Within 0x8400200000000000084 m)
    (h : execKeyHash src bits a2 s = .next t) : t.pending = s.pending ∧ Changes m s.dev t.dev := by
  unfold execKeyHash at h
  refine of_onHost h (sub_trans hm (by decide)) (fun d hd => ?_)
  try dsimp only
  repeat' (first | with_reducible assumption | split | (intro _) | with_reducible apply ch_keyShort | with_reducible apply ch_keyHash | exact sub_trans hm (by decide))

theorem ch_execKeyImport {m : Nat} {l : LongSrc} {x : KeySealed} {s t : State} (hm : Within 0x140810000000000000000000000000000F0000000000000000000000000000000000000000000000000000000000000000000000000000000000084072000000000601A4 m)
    (h : execKeyImport l x s = .next t) : t.pending = s.pending ∧ Changes m s.dev t.dev := by
  unfold execKeyImport at h
  refine of_onHost h (sub_trans hm (by decide)) (fun d hd => ?_)
  try dsimp only
  repeat' (first | with_reducible assumption | split | (intro _) | with_reducible apply ch_keyImport | exact sub_trans hm (by decide))

theorem ch_execKeyGetPublic {m : Nat} {src : Src} {r : KeyRef} {s t : State} (hm : Within 0x140810000000000000000000000000000F0000000000000000000000000000000000000000000000000000000000000000000000000000000000084072000000000201A4 m)
    (h : execKeyGetPublic src r s = .next t) : t.pending = s.pending ∧ Changes m s.dev t.dev := by
  unfold execKeyGetPublic at h
  refine of_onHost h (sub_trans hm (by decide)) (fun d hd => ?_)
  try dsimp only
  repeat' (first | with_reducible assumption | split | (intro _) | with_reducible apply ch_keyShort | with_reducible apply ch_keyGetPublic | exact sub_trans hm (by decide))

theorem ch_execKeyCipher {m : Nat} {src : Src} {r : KeyRef} {x : CipherReq} {s t : State} (hm : Within 0x140810000000000000000000000000000F0000000000000000000000000000000000000000000000000000000000000000000000000000000000084072000000000201A4 m)
    (h : execKeyCipher src r x s = .next t) : t.pending = s.pending ∧ Changes m s.dev t.dev := by
  unfold execKeyCipher at h
  refine of_onHost h (sub_trans hm (by decide)) (fun d hd => ?_)
  try dsimp only
  repeat' (first | with_reducible assumption | split | (intro _) | with_reducible apply ch_keyShort | with_reducible apply ch_keyUse | exact sub_trans hm (by decide))

theorem ch_execFwConfirm {m : Nat} {src : Src} {s t : State} (hm : Within 0x14078000000000000000000000000000000000000000000000000000000000000000000000000000000000000000000000000000000000000000084072000000000401A4 m)
    (h : execFwConfirm src s = .next t) : t.pending = s.pending ∧ Changes m s.dev t.dev := by
  unfold execFwConfirm at h
  refine of_onHost h (sub_trans hm (by decide)) (fun d hd => ?_)
  try dsimp only
  repeat' (first | with_reducible assumption | split | (intro _) | with_reducible apply ch_keyShort | with_reducible apply ch_fwConfirm | exact sub_trans hm (by decide))

theorem ch_execRngFail {m : Nat}  {s t : State} (hm : Within 0x14003000000000000000000000000000000000000000000000000000000000000000000000000000000000000000000000000000000000000000084072000000000401A4 m)
    (h : execRngFail  s = .next t) : t.pending = s.pending ∧ Changes m s.dev t.dev := by
  unfold execRngFail at h
  refine of_onLive h (bit_of hm (by decide)) (fun d hd => ?_)
  try dsimp only
  repeat' (first | with_reducible assumption | split | (intro _) | with_reducible apply ch_rngFail | exact sub_trans hm (by decide))

theorem ch_execKeyHmac {m : Nat} {src : Src} {r : KeyRef} {a2 : List Byte} {s t : State} (hm : Within 0x140810000000000000000000000000000F0000000000000000000000000000000000000000000000000000000000000000000000000000000000084072000000000201A4 m)
    (h : execKeyHmac src r a2 s = .next t) : t.pending = s.pending ∧ Changes m s.dev t.dev := by
  unfold execKeyHmac at h
  refine of_onHost h (sub_trans hm (by decide)) (fun d hd => ?_)
  try dsimp only
  repeat' (first | with_reducible assumption | split | (intro _) | with_reducible apply ch_keyShort | with_reducible apply ch_keyUse | exact sub_trans hm (by decide))

theorem ch_execDebugClose {m : Nat}  {s t : State} (hm : Within 0x40004 m)
    (h : execDebugClose  s = .next t) : t.pending = s.pending ∧ Changes m s.dev t.dev := by
  unfold execDebugClose at h
  refine of_onLive h (bit_of hm (by decide)) (fun d hd => ?_)
  try dsimp only
  repeat' (first | with_reducible assumption | split | (intro _) | with_reducible apply ch_emit | with_reducible apply ch_modKey | exact sub_trans hm (by decide))

theorem ch_execKeyLoadBlob {m : Nat} {src : Src} {w : Byte} {blob : List Byte} {s t : State} (hm : Within 0x400000000000000000000000000000000000000000000000000000000000000000000000000000000000000000000000000000000000000008400200000000040086 m)
    (h : execKeyLoadBlob src w blob s = .next t) : t.pending = s.pending ∧ Changes m s.dev t.dev := by
  unfold execKeyLoadBlob at h
  refine of_onHost h (sub_trans hm (by decide)) (fun d hd => ?_)
  try dsimp only
  repeat' (first | with_reducible assumption | split | (intro _) | with_reducible apply ch_keyShort | with_reducible apply ch_keyLoadBlob | exact sub_trans hm (by decide))

theorem ch_execKeySign {m : Nat} {l : LongSrc} {r : KeyRef} {a2 : List Byte} {s t : State} (hm : Within 0x140810000000000000000000000000000F0000000000000000000000000000000000000000000000000000000000000000000000000000000000084072000000000201A4 m)
    (h : execKeySign l r a2 s = .next t) : t.pending = s.pending ∧ Changes m s.dev t.dev := by
  unfold execKeySign at h
  refine of_onHost h (sub_trans hm (by decide)) (fun d hd => ?_)
  try dsimp only
  repeat' (first | with_reducible assumption | split | (intro _) | with_reducible apply ch_keyLongUse | exact sub_trans hm (by decide))

theorem ch_execKeyDelete {m : Nat} {src : Src} {k : Byte} {tampers : List (Fin 13)} {s t : State} (hm : Within 0x140810000000000000000000000000000F0000000000000000000000000000000000000000000000000000000000000000000000000000000000084072000000000601A4 m)
    (h : execKeyDelete src k tampers s = .next t) : t.pending = s.pending ∧ Changes m s.dev t.dev := by
  unfold execKeyDelete at h
  refine of_onHost h (sub_trans hm (by decide)) (fun d hd => ?_)
  try dsimp only
  repeat' (first | with_reducible assumption | split | (intro _) | with_reducible apply ch_keyDelete | exact sub_trans hm (by decide))

theorem ch_execFwStage {m : Nat} {l : LongSrc} {x : FwImage} {s t : State} (hm : Within 0x14068000000000000000000000000000000000000000000000000000000000000000000000000000000000000000000000000000000000000000084072000000000401A4 m)
    (h : execFwStage l x s = .next t) : t.pending = s.pending ∧ Changes m s.dev t.dev := by
  unfold execFwStage at h
  refine of_onHost h (sub_trans hm (by decide)) (fun d hd => ?_)
  try dsimp only
  repeat' (first | with_reducible assumption | split | (intro _) | with_reducible apply ch_fwStage | exact sub_trans hm (by decide))

theorem ch_execKeyMakeCsr {m : Nat} {l : LongSrc} {k : Byte} {body : List Byte} {s t : State} (hm : Within 0x140810000000000000000000000000000F0000000000000000000000000000000000000000000000000000000000000000000000000000000000084072000000000201A4 m)
    (h : execKeyMakeCsr l k body s = .next t) : t.pending = s.pending ∧ Changes m s.dev t.dev := by
  unfold execKeyMakeCsr at h
  refine of_onHost h (sub_trans hm (by decide)) (fun d hd => ?_)
  try dsimp only
  repeat' (first | with_reducible assumption | split | (intro _) | with_reducible apply ch_keyLongUse | exact sub_trans hm (by decide))

theorem ch_execKeyRandom {m : Nat} {src : Src} {n : Nat} {s t : State} (hm : Within 0x8400200000000000086 m)
    (h : execKeyRandom src n s = .next t) : t.pending = s.pending ∧ Changes m s.dev t.dev := by
  unfold execKeyRandom at h
  refine of_onHost h (sub_trans hm (by decide)) (fun d hd => ?_)
  try dsimp only
  repeat' (first | with_reducible assumption | split | (intro _) | with_reducible apply ch_keyShort | with_reducible apply ch_keyRandom | exact sub_trans hm (by decide))

theorem ch_execRngRetest {m : Nat} {pass : Bool} {s t : State} (hm : Within 0x14001000000000000000000000000000000000000000000000000000000000000000000000000000000000000000000000000000000000000000084072000000000401A5 m)
    (h : execRngRetest pass s = .next t) : t.pending = s.pending ∧ Changes m s.dev t.dev := by
  unfold execRngRetest at h
  refine of_onLive h (bit_of hm (by decide)) (fun d hd => ?_)
  try dsimp only
  repeat' (first | with_reducible assumption | split | (intro _) | with_reducible apply ch_rngRetest | exact sub_trans hm (by decide))

theorem ch_execKeyUnload {m : Nat} {src : Src} {w : Byte} {s t : State} (hm : Within 0x400000000000000000000000000000000000000000000000000000000000000000000000000000000000000000000000000000000000000008400200000000040084 m)
    (h : execKeyUnload src w s = .next t) : t.pending = s.pending ∧ Changes m s.dev t.dev := by
  unfold execKeyUnload at h
  refine of_onHost h (sub_trans hm (by decide)) (fun d hd => ?_)
  try dsimp only
  repeat' (first | with_reducible assumption | split | (intro _) | with_reducible apply ch_keyShort | with_reducible apply ch_keyUnload | exact sub_trans hm (by decide))

theorem ch_execDebugAuthResponse {m : Nat} {sig : List Byte} {interrupted : Bool} {s t : State} (hm : Within 0x140850000000000000000000000000038F8005000000000000000000000000000000000000000000000000000000000000000000000000000000084072080010000641A4 m)
    (h : execDebugAuthResponse sig interrupted s = .next t) : t.pending = s.pending ∧ Changes m s.dev t.dev := by
  unfold execDebugAuthResponse at h
  refine of_onLive h (bit_of hm (by decide)) (fun d hd => ?_)
  try dsimp only
  repeat' (first | with_reducible assumption | split | (intro _) | with_reducible apply ch_debugResponse | exact sub_trans hm (by decide))

end Dev

end Sys2Proof.Machine
end

