-- ==== Sys2Proof/Laws/NodeCtrlCh.lean ====
section
/-! SUPPORT. What each definition of Machine/NodeCtrl.lean may change. -/

namespace Sys2Proof.Machine

set_option linter.all false
set_option Elab.async false

namespace Dev

theorem ch_nodeCtrl {m : Nat} {s0 : Dev} (s : Dev) (src : Src) (x : NodeCtrlReq)
    (hm : Within 0x1400000000000000000000000000000000000000000000000000000000000000000000000001000000000000000000000000000000000000000008407200000000000DA6 m) (h0 : Changes m s0 s) :
    Changes m s0 (Dev.nodeCtrl s src x) := by
  unfold Dev.nodeCtrl
  try dsimp only
  repeat' (first | with_reducible assumption | split | (intro _) | with_reducible apply ch_complete | with_reducible apply ch_sendCtrl | exact sub_trans hm (by decide))

theorem ch_askSelf {m : Nat} {s0 : Dev} (s : Dev) (node : Nat) (head : Nat)
    (hm : Within 0x1400000000000000000000000000000000000000000000000000000000000000000000000001000000000000000000000000000000000000000008407200000000000DA6 m) (h0 : Changes m s0 s) :
    Changes m s0 (Dev.askSelf s node head) := by
  unfold Dev.askSelf
  try dsimp only
  repeat' (first | with_reducible assumption | split | (intro _) | with_reducible apply ch_sendCtrl | exact sub_trans hm (by decide))

theorem ch_selfRead {m : Nat} {s0 : Dev} (s : Dev) (node : Nat) (head : Nat) (w : Word)
    (hm : Within 0x140000000000000140480000000000000F000000000000000000000000000000000000000001000000000000000000000000000000000000000008407200000000028DA7 m) (h0 : Changes m s0 s) :
    Changes m s0 (Dev.selfRead s node head w) := by
  unfold Dev.selfRead
  try dsimp only
  repeat' (first | with_reducible assumption | split | (intro _) | with_reducible apply ch_selfResult | with_reducible apply ch_askSelf | exact sub_trans hm (by decide))

theorem ch_ctrlAnswered {m : Nat} {s0 : Dev} (s : Dev) (r : CtrlReq) (status : Nat) (words : List Word)
    (hm : Within 0x14081D810000000140480000000000000F3C0100000000000000000007A022000000000000010000000000000000000000011008042000000000084072000000001B8DA7 m) (h0 : Changes m s0 s) :
    Changes m s0 (Dev.ctrlAnswered s r status words) := by
  unfold Dev.ctrlAnswered
  try dsimp only
  repeat' (first | with_reducible assumption | split | (intro _) | with_reducible apply ch_complete | with_reducible apply ch_armRead | with_reducible apply ch_modLeg | with_reducible apply ch_askSelf | with_reducible apply ch_selfRead | with_reducible apply ch_energisedNow | with_reducible apply ch_contactorGone | with_reducible apply ch_openFailed | with_reducible apply ch_linkSeen | exact sub_trans hm (by decide))

theorem ch_ctrlFailed {m : Nat} {s0 : Dev} (s : Dev) (r : CtrlReq)
    (hm : Within 0x14081080000000000000000000000000003C0100000000000000000007A02200000000000001000000000000000000000001100804200000000008407200000000030DA6 m) (h0 : Changes m s0 s) :
    Changes m s0 (Dev.ctrlFailed s r) := by
  unfold Dev.ctrlFailed
  try dsimp only
  repeat' (first | with_reducible assumption | split | (intro _) | with_reducible apply ch_complete | with_reducible apply ch_openFailed | with_reducible apply ch_linkSeen | with_reducible apply ch_armRead | exact sub_trans hm (by decide))

theorem ch_ctrlTimeout {m : Nat} {s0 : Dev} (s : Dev)
    (hm : Within 0x14081080000000000000000000000000003C0100000000000000000007A02200000000000001000000000000000000000001100804200000000008407200000000030DA7 m) (h0 : Changes m s0 s) :
    Changes m s0 (Dev.ctrlTimeout s) := by
  unfold Dev.ctrlTimeout
  try dsimp only
  repeat' (first | with_reducible assumption | split | (intro _) | with_reducible apply ch_ctrlFailed | with_reducible apply ch_dropCtrl | with_reducible apply ch_reach | exact sub_trans hm (by decide))

theorem ch_ctrlRetry {m : Nat} {s0 : Dev} (s : Dev)
    (hm : Within 0x1400000000000000000000000000000000000000000000000000000000000000000000000001000000000000000000000000000000000000000008407200000000000DA7 m) (h0 : Changes m s0 s) :
    Changes m s0 (Dev.ctrlRetry s) := by
  unfold Dev.ctrlRetry
  try dsimp only
  repeat' (first | with_reducible assumption | split | (intro _) | with_reducible apply ch_putPst | with_reducible apply ch_reach | with_reducible apply ch_nextSeq | with_reducible apply ch_sendFrame | with_reducible apply ch_emit | exact sub_trans hm (by decide) | exact bit_of hm (by decide))

theorem ch_ctrlResponse {m : Nat} {s0 : Dev} (s : Dev) (i : Fin 128) (d : List Byte)
    (hm : Within 0x14081D810000000140480000000000000F3C0100000000000000000007A022000000000000010000000000000000000000011008042000000000084072000000001B8DA7 m) (h0 : Changes m s0 s) :
    Changes m s0 (Dev.ctrlResponse s i d) := by
  unfold Dev.ctrlResponse
  try dsimp only
  repeat' (first | with_reducible assumption | split | (intro _) | with_reducible apply ch_ctrlAnswered | with_reducible apply ch_dropCtrl | exact sub_trans hm (by decide))

theorem ch_execNodeCtrl {m : Nat} {src : Src} {x : NodeCtrlReq} {s t : State} (hm : Within 0x1400000000000000000000000000000000000000000000000000000000000000000000000001000000000000000000000000000000000000000008407200000000000DA6 m)
    (h : execNodeCtrl src x s = .next t) : t.pending = s.pending ∧ Changes m s.dev t.dev := by
  unfold execNodeCtrl at h
  refine of_onHost h (sub_trans hm (by decide)) (fun d hd => ?_)
  try dsimp only
  repeat' (first | with_reducible assumption | split | (intro _) | with_reducible apply ch_nodeCtrl | exact sub_trans hm (by decide))

theorem ch_execCtrlRetry {m : Nat}  {s t : State} (hm : Within 0x1400000000000000000000000000000000000000000000000000000000000000000000000001000000000000000000000000000000000000000008407200000000000DA7 m)
    (h : execCtrlRetry  s = .next t) : t.pending = s.pending ∧ Changes m s.dev t.dev := by
  unfold execCtrlRetry at h
  refine of_onRun h (bit_of hm (by decide)) (fun d hd => ?_)
  try dsimp only
  repeat' (first | with_reducible assumption | split | (intro _) | with_reducible apply ch_ctrlRetry | exact sub_trans hm (by decide))

end Dev

end Sys2Proof.Machine
end

