-- ==== Sys2Proof/Laws/SafeHoldCh.lean ====
section
/-! SUPPORT. What each definition of Machine/SafeHold.lean may change. -/

namespace Sys2Proof.Machine

set_option linter.all false
set_option Elab.async false

namespace Dev

theorem ch_pisteOff {m : Nat} {s0 : Dev} (s : Dev) (p : Fin 8)
    (hm : Within 0x14000000000000014048000000000000000000000000000000000000000000000000000028800000000000000000000000000000000000000000084072004008000089A6 m) (h0 : Changes m s0 s) :
    Changes m s0 (Dev.pisteOff s p) := by
  unfold Dev.pisteOff
  try dsimp only
  repeat' (first | with_reducible assumption | split | (intro _) | with_reducible apply ch_when | with_reducible apply ch_setPhy | with_reducible apply ch_setLocked | with_reducible apply ch_modPhy | with_reducible apply ch_headsLeaveTest | exact sub_trans hm (by decide))

theorem ch_bringUp {m : Nat} {s0 : Dev} (s : Dev)
    (hm : Within 0x140000000000000140480000000000000F00000000000000000000000000000000000001E9800000000000000000000000000000000000000000084072004008000289A6 m) (h0 : Changes m s0 s) :
    Changes m s0 (Dev.bringUp s) := by
  unfold Dev.bringUp
  try dsimp only
  repeat' (first | with_reducible assumption | split | (intro _) | with_reducible apply ch_forEach | with_reducible apply ch_leaveDown | exact sub_trans hm (by decide))

theorem ch_modeRun {m : Nat} {s0 : Dev} (s : Dev)
    (hm : Within 0x140000000000000140480000000000000F00000000000000000000000000000000000001E980000000000000000000000000000000000000000008407208C00800028BA7 m) (h0 : Changes m s0 s) :
    Changes m s0 (Dev.modeRun s) := by
  unfold Dev.modeRun
  try dsimp only
  repeat' (first | with_reducible assumption | split | (intro _) | with_reducible apply ch_setMode | with_reducible apply ch_reach | with_reducible apply ch_bringUp | exact sub_trans hm (by decide))

theorem ch_interruptSessions {m : Nat} {s0 : Dev} (s : Dev)
    (hm : Within 0x14081080000000000000000000000000003C0100000000000000000002202200000000000001000000000000000000000000000000000000000008407200000000030DA6 m) (h0 : Changes m s0 s) :
    Changes m s0 (Dev.interruptSessions s) := by
  unfold Dev.interruptSessions
  try dsimp only
  repeat' (first | with_reducible assumption | split | (intro _) | with_reducible apply ch_forEach | with_reducible apply ch_endSession | exact sub_trans hm (by decide))

theorem ch_safeHoldEnter {m : Nat} {s0 : Dev} (s : Dev)
    (hm : Within 0x1F4081D81001021000000000000000000003C0100000000000000004002202200000000000001000000000000000000000001100800203FC00042084072000000009B1FA6 m) (h0 : Changes m s0 s) :
    Changes m s0 (Dev.safeHoldEnter s) := by
  unfold Dev.safeHoldEnter
  try dsimp only
  repeat' (first | with_reducible assumption | split | (intro _) | with_reducible apply ch_freeze | with_reducible apply ch_canSafeHold | with_reducible apply ch_lswSafeHold | with_reducible apply ch_safDrive | with_reducible apply ch_interruptSessions | with_reducible apply ch_refuseAll | with_reducible apply ch_disarmAll | exact sub_trans hm (by decide))

theorem ch_safeHoldLeave {m : Nat} {s0 : Dev} (s : Dev)
    (hm : Within 0x14081D81001021000000000000000000003C01000000000000000000022022000000000000010000000000000000000000000000000000000000084072000000001B0DA6 m) (h0 : Changes m s0 s) :
    Changes m s0 (Dev.safeHoldLeave s) := by
  unfold Dev.safeHoldLeave
  try dsimp only
  repeat' (first | with_reducible assumption | split | (intro _) | with_reducible apply ch_lswFollowAll | with_reducible apply ch_safDrive | exact sub_trans hm (by decide))

theorem ch_setCause {m : Nat} {s0 : Dev} (s : Dev) (cause : Field) (present : Bool)
    (hm : Within 0x1F4081D810010210000000000000000000FBC0100000000000000004002202200000000000001000000000000000000000001100800203FC00042084072080010009B1FA6 m) (h0 : Changes m s0 s) (h1 : Writes m cause.off) :
    Changes m s0 (Dev.setCause s cause present) := by
  unfold Dev.setCause
  try dsimp only
  repeat' (first | with_reducible assumption | split | (intro _) | with_reducible apply ch_when | with_reducible apply ch_setb | with_reducible apply ch_chgReady | with_reducible apply ch_normalUpdate | with_reducible apply ch_safeHoldEnter | with_reducible apply ch_safeHoldLeave | exact sub_trans hm (by decide) | with_reducible exact reg_of hm at_GEN_LIFECYCLE (by decide))

theorem ch_shReq {m : Nat} {s0 : Dev} (s : Dev) (b : Bool)
    (hm : Within 0x1F4081D810010210000000000000000000FBC0100000000000000004002202200000000000001000000000000000000000001100800203FC00042084072080010009B1FA6 m) (h0 : Changes m s0 s) :
    Changes m s0 (Dev.shReq s b) := by
  unfold Dev.shReq
  try dsimp only
  repeat' (first | with_reducible assumption | split | (intro _) | with_reducible apply ch_setb | with_reducible apply ch_setCause | exact sub_trans hm (by decide) | with_reducible exact reg_of hm at_GEN_LIFECYCLE (by decide))

theorem ch_answered {m : Nat} {s0 : Dev} (q : Dev × Option Code)
    (hm : Within 0x4 m) (h0 : Changes m s0 q.1) :
    Changes m s0 (Dev.answered q) := by
  unfold Dev.answered
  try dsimp only
  repeat' (first | with_reducible assumption | split | (intro _) | with_reducible apply ch_answer | exact sub_trans hm (by decide))

theorem ch_modeIdle {m : Nat} {s0 : Dev} (s : Dev)
    (hm : Within 0x140000000000000140480000000000000F00000000000000000000000000000000000001E980000000000000000000000000000000000000000008407228C00800028BA6 m) (h0 : Changes m s0 s) :
    Changes m s0 (Dev.modeIdle s).1 := by
  unfold Dev.modeIdle
  try dsimp only
  repeat' (first | with_reducible assumption | split | (intro _) | with_reducible apply ch_incSat | with_reducible apply ch_bringUp | with_reducible apply ch_setMode | exact sub_trans hm (by decide) | with_reducible exact reg_of hm at_GEN_REJECT_CNT (by decide))

theorem ch_modeStandby {m : Nat} {s0 : Dev} (s : Dev)
    (hm : Within 0x1400000000000001404800000000000000000000000000000000000000000000000000002880000000000000000000000000000000000000000008407228C00800008BA6 m) (h0 : Changes m s0 s) :
    Changes m s0 (Dev.modeStandby s).1 := by
  unfold Dev.modeStandby
  try dsimp only
  repeat' (first | with_reducible assumption | split | (intro _) | with_reducible apply ch_forEach | with_reducible apply ch_incSat | with_reducible apply ch_setMode | with_reducible apply ch_pisteOff | exact sub_trans hm (by decide) | with_reducible exact reg_of hm at_GEN_REJECT_CNT (by decide))

theorem ch_execModeRunRequest {m : Nat}  {s t : State} (hm : Within 0x140000000000000140480000000000000F00000000000000000000000000000000000001E980000000000000000000000000000000000000000008407208C00800028BA7 m)
    (h : execModeRunRequest  s = .next t) : t.pending = s.pending ∧ Changes m s.dev t.dev := by
  unfold execModeRunRequest at h
  refine of_onReg h (bit_of hm (by decide)) (fun d hd => ?_)
  try dsimp only
  repeat' (first | with_reducible assumption | split | (intro _) | with_reducible apply ch_answer | with_reducible apply ch_modeRun | exact sub_trans hm (by decide))

theorem ch_execModeIdleRequest {m : Nat}  {s t : State} (hm : Within 0x140000000000000140480000000000000F00000000000000000000000000000000000001E980000000000000000000000000000000000000000008407228C00800028BA6 m)
    (h : execModeIdleRequest  s = .next t) : t.pending = s.pending ∧ Changes m s.dev t.dev := by
  unfold execModeIdleRequest at h
  refine of_onReg h (bit_of hm (by decide)) (fun d hd => ?_)
  try dsimp only
  repeat' (first | with_reducible assumption | split | (intro _) | with_reducible apply ch_answered | with_reducible apply ch_modeIdle | exact sub_trans hm (by decide))

theorem ch_execShReqWrite {m : Nat} {request : Bool} {s t : State} (hm : Within 0x1F4081D810010210000000000000000000FBC0100000000000000004002202200000000000001000000000000000000000001100800203FC00042084072080010009B1FA6 m)
    (h : execShReqWrite request s = .next t) : t.pending = s.pending ∧ Changes m s.dev t.dev := by
  unfold execShReqWrite at h
  refine of_onReg h (bit_of hm (by decide)) (fun d hd => ?_)
  try dsimp only
  repeat' (first | with_reducible assumption | split | (intro _) | with_reducible apply ch_answer | with_reducible apply ch_shReq | exact sub_trans hm (by decide))

theorem ch_execModeStandbyRequest {m : Nat}  {s t : State} (hm : Within 0x1400000000000001404800000000000000000000000000000000000000000000000000002880000000000000000000000000000000000000000008407228C00800008BA6 m)
    (h : execModeStandbyRequest  s = .next t) : t.pending = s.pending ∧ Changes m s.dev t.dev := by
  unfold execModeStandbyRequest at h
  refine of_onReg h (bit_of hm (by decide)) (fun d hd => ?_)
  try dsimp only
  repeat' (first | with_reducible assumption | split | (intro _) | with_reducible apply ch_answered | with_reducible apply ch_modeStandby | exact sub_trans hm (by decide))

end Dev

end Sys2Proof.Machine
end

