-- ==== Sys2Proof/Laws/RingsCh.lean ====
section
/-! SUPPORT. What each definition of Machine/Rings.lean may change. -/

namespace Sys2Proof.Machine

set_option linter.all false
set_option Elab.async false

namespace Dev

theorem ch_drainList {m : Nat} {s0 : Dev} (n : Fin 256) (a1 : List EntryBody) (a2 : Dev)
    (hm : Within 0x8400000000000000084 m) (h2 : Changes m s0 a2) :
    Changes m s0 (Dev.drainList n a1 a2).1 := by
  induction a1 generalizing a2 with
  | nil => exact h2
  | cons b rest ih =>
    unfold Dev.drainList
    split
    · exact ih _ (ch_ringWrite _ _ _ _ hm h2)
    · exact ih _ h2

theorem ch_doorbellError {m : Nat} {s0 : Dev} (s : Dev) (n : Fin 256)
    (hm : Within 0x140000000000000000000000000000000000000000000000000000000000000000000000000000000000000000000000000000000000000000000840F2000000000001A4 m) (h0 : Changes m s0 s) :
    Changes m s0 (Dev.doorbellError s n) := by
  unfold Dev.doorbellError
  try dsimp only
  repeat' (first | with_reducible assumption | split | (intro _) | with_reducible apply ch_when | with_reducible apply ch_bump | with_reducible apply ch_post | with_reducible apply ch_modRing | exact sub_trans hm (by decide) | with_reducible exact reg_of hm at_HIF_DB_ERR (by decide))

theorem ch_armVector {m : Nat} {s0 : Dev} (s : Dev) (v : Fin 64)
    (hm : Within 0x80 m) (h0 : Changes m s0 s) :
    Changes m s0 (Dev.armVector s v) := by
  unfold Dev.armVector
  try dsimp only
  repeat' (first | with_reducible assumption | split | (intro _) | with_reducible apply ch_modVector | exact sub_trans hm (by decide))

theorem ch_drainAlerts {m : Nat} {s0 : Dev} (n : Fin 256) (a1 : List (Nat × Event)) (a2 : Dev)
    (hm : Within 0x8400000000000000084 m) (h2 : Changes m s0 a2) :
    Changes m s0 (Dev.drainAlerts n a1 a2).1 := by
  induction a1 generalizing a2 with
  | nil => exact h2
  | cons b rest ih =>
    unfold Dev.drainAlerts
    split
    · exact ih _ (ch_ringWrite _ _ _ _ hm h2)
    · exact ih _ h2

theorem ch_stagingSummary {m : Nat} {s0 : Dev} (s : Dev) (n : Fin 256)
    (hm : Within 0x400200000000000000 m) (h0 : Changes m s0 s) :
    Changes m s0 (Dev.stagingSummary s n) := by
  unfold Dev.stagingSummary
  try dsimp only
  repeat' (first | with_reducible assumption | split | (intro _) | with_reducible apply ch_setb | with_reducible apply ch_stagedSummary | exact sub_trans hm (by decide) | with_reducible exact reg_of hm at_HIF_STATUS (by decide))

theorem vectorEntry_alertStore (s : Dev) (v : Fin 64) (a : Bool) : (s.vectorEntry v a).hif.alertStore = s.hif.alertStore := by
  unfold Dev.vectorEntry Dev.signal
  dsimp only
  repeat' (first | rfl | split)

theorem memWrite_hif (s : Dev) (a : Nat) (l : List Byte) : (s.memWrite a l).hif = s.hif := by
  unfold Dev.memWrite
  split <;> rfl

theorem entryOut_hif (s : Dev) (n : Fin 256) (i : Nat) (x : RingEntry) : (s.entryOut n i x).hif = s.hif := by
  unfold Dev.entryOut
  dsimp only
  rw [memWrite_hif]
  split
  · rw [memWrite_hif]
  · rfl

theorem ringWrite_alertStore (s : Dev) (n : Fin 256) (b : EntryBody) (g : Bool) : (s.ringWrite n b g).hif.alertStore = s.hif.alertStore := by
  unfold Dev.ringWrite
  dsimp only
  rw [vectorEntry_alertStore]
  exact (show _ = (s.entryOut n (s.get (HIF_RING_STATUS_INDEX n)) ⟨b, s.hif.rings[n].phase, g⟩).hif.alertStore from rfl).trans
    (congrArg Hif.alertStore (entryOut_hif s n _ _))

theorem drainAlerts_keeps (n : Fin 256) (l : List (Nat × Event)) (s : Dev) :
    (drainAlerts n l s).1.hif.alertStore = s.hif.alertStore ∧ (drainAlerts n l s).2.length ≤ l.length := by
  induction l generalizing s with
  | nil => exact ⟨rfl, Nat.le_refl _⟩
  | cons e rest ih =>
    unfold Dev.drainAlerts
    split
    · have := ih (s.ringWrite n (.event e.2) true)
      exact ⟨this.1.trans (ringWrite_alertStore _ _ _ _), Nat.le_succ_of_le this.2⟩
    · exact ⟨(ih s).1, Nat.succ_le_succ (ih s).2⟩

theorem ch_drain {m : Nat} {s0 : Dev} (s : Dev) (n : Fin 256)
    (hm : Within 0x8400200000000000084 m) (h0 : Changes m s0 s) :
    Changes m s0 (Dev.drain s n) := by
  unfold Dev.drain
  try dsimp only
  repeat' (first | with_reducible assumption | with_reducible exact hif_same rfl | split | (intro _) | with_reducible apply ch_putHif | with_reducible apply ch_drainList | with_reducible apply ch_modRing | with_reducible apply ch_drainAlerts | with_reducible apply ch_stagingSummary | exact sub_trans hm (by decide) | exact bit_of hm (by decide))
  rename_i f
  have k := drainAlerts_keeps n ((drainList n s.hif.rings[n].staged s).1.modRing n (fun r =>
    { r with staged := (drainList n s.hif.rings[n].staged s).2 })).hif.alertStore ((drainList n s.hif.rings[n].staged s).1.modRing n (fun r =>
    { r with staged := (drainList n s.hif.rings[n].staged s).2 }))
  exact Nat.le_trans k.2 (k.1 ▸ f)

theorem ch_doorbell {m : Nat} {s0 : Dev} (s : Dev) (n : Fin 256) (value : Word)
    (hm : Within 0x140000000000000000000000000000000000000000000000000000000000000000000000000000000000000000000000000000000000000000000840F2000000000001A4 m) (h0 : Changes m s0 s) :
    Changes m s0 (Dev.doorbell s n value) := by
  unfold Dev.doorbell
  try dsimp only
  repeat' (first | with_reducible assumption | split | (intro _) | with_reducible apply ch_when | with_reducible apply ch_doorbellError | with_reducible apply ch_modRing | with_reducible apply ch_armVector | with_reducible apply ch_signal | with_reducible apply ch_drain | exact sub_trans hm (by decide))

theorem ch_stagedOfKind {m : Nat} {s0 : Dev} (s : Dev) (n : Fin 256)
    (hm : Within 0x80 m) (h0 : Changes m s0 s) :
    Changes m s0 (Dev.stagedOfKind s n) := by
  unfold Dev.stagedOfKind
  try dsimp only
  repeat' (first | with_reducible assumption | split | (intro _) | with_reducible apply ch_modRing | exact sub_trans hm (by decide))

theorem ch_vectorTime {m : Nat} {s0 : Dev} (s : Dev) (v : Fin 64)
    (hm : Within 0x8000000000000000085 m) (h0 : Changes m s0 s) :
    Changes m s0 (Dev.vectorTime s v) := by
  unfold Dev.vectorTime
  try dsimp only
  repeat' (first | with_reducible assumption | split | (intro _) | with_reducible apply ch_signal | with_reducible apply ch_reach | exact sub_trans hm (by decide))

theorem ch_msixReset {m : Nat} {s0 : Dev} (s : Dev)
    (hm : Within 0xF800000000000000080 m) (h0 : Changes m s0 s) :
    Changes m s0 (Dev.msixReset s) := by
  unfold Dev.msixReset
  dsimp only
  apply ch_forEach
  · apply ch_wr _ _ _ (reg_of hm (at_HIF_MSIX_PBA _) (by decide))
    apply ch_wr _ _ _ (reg_of hm (at_HIF_MSIX_PBA _) (by decide))
    apply ch_forEachMem _ _ _ h0
    intro k t hk ht
    apply ch_wr _ _ _ _ ht
    have := List.mem_range.1 hk
    obtain h | h | h | h : k % 4 = 0 ∨ k % 4 = 1 ∨ k % 4 = 2 ∨ k % 4 = 3 := by omega
    · exact writes_at (reg_of hm (at_HIF_MSIX_ADDR_LO (k / 4)) (by decide)) (by dsimp only [HIF_MSIX_ADDR_LO, HIF_MSIX_ADDR_LO]; omega)
    · exact writes_at (reg_of hm (at_HIF_MSIX_ADDR_HI (k / 4)) (by decide)) (by dsimp only [HIF_MSIX_ADDR_LO, HIF_MSIX_ADDR_HI]; omega)
    · exact writes_at (reg_of hm (at_HIF_MSIX_DATA (k / 4)) (by decide)) (by dsimp only [HIF_MSIX_ADDR_LO, HIF_MSIX_DATA]; omega)
    · exact writes_at (reg_of hm (at_HIF_MSIX_CTRL (k / 4)) (by decide)) (by dsimp only [HIF_MSIX_ADDR_LO, HIF_MSIX_CTRL]; omega)
  · intro v t ht
    exact ch_modVector _ _ _ (sub_trans hm (by decide)) ht

theorem ch_endpointLoss {m : Nat} {s0 : Dev} (s : Dev) (cause : LinkLossCause)
    (hm : Within 0xF800200000000000080 m) (h0 : Changes m s0 s) :
    Changes m s0 (Dev.endpointLoss s cause) := by
  unfold Dev.endpointLoss
  try dsimp only
  repeat' (first | with_reducible assumption | split | (intro _) | with_reducible apply ch_set | with_reducible apply ch_msixReset | exact sub_trans hm (by decide) | with_reducible exact reg_of hm at_HIF_STATUS (by decide))

theorem ch_hostLoss {m : Nat} {s0 : Dev} (s : Dev)
    (hm : Within 0x1400000000000000000000000000000000000000000000000000000006000000000000000000002400000200000000000000000000000000000008607A000000008021A4 m) (h0 : Changes m s0 s) :
    Changes m s0 (Dev.hostLoss s) := by
  unfold Dev.hostLoss
  try dsimp only
  repeat' (first | with_reducible assumption | with_reducible exact hif_same rfl | split | (intro _) | with_reducible apply ch_forEach | with_reducible apply ch_putHif | with_reducible apply ch_setb | with_reducible apply ch_bump | with_reducible apply ch_set | with_reducible apply ch_modCan | with_reducible apply ch_runningSummary | with_reducible apply ch_longEnd | with_reducible apply ch_identStop | exact sub_trans hm (by decide) | exact bit_of hm (by decide) | with_reducible exact reg_of hm at_HIF_STATUS (by decide) | with_reducible exact reg_of hm at_HIF_LINK_EPOCH (by decide) | with_reducible exact reg_of hm (at_HIF_RING_CFG _) (by decide) | with_reducible exact reg_of hm (at_HIF_RING_STATUS _) (by decide))

theorem ch_linkLoss {m : Nat} {s0 : Dev} (s : Dev) (cause : LinkLossCause)
    (hm : Within 0x140000000000000000000000000000000000000000000000000000000600000000000000000000240000020000000000000000000000000000000FE07A000000008021A4 m) (h0 : Changes m s0 s) :
    Changes m s0 (Dev.linkLoss s cause) := by
  unfold Dev.linkLoss
  try dsimp only
  repeat' (first | with_reducible assumption | split | (intro _) | with_reducible apply ch_endpointLoss | with_reducible apply ch_hostLoss | exact sub_trans hm (by decide))

theorem ch_linkUp {m : Nat} {s0 : Dev} (s : Dev)
    (hm : Within 0x200000000000002 m) (h0 : Changes m s0 s) :
    Changes m s0 (Dev.linkUp s) := by
  unfold Dev.linkUp
  try dsimp only
  repeat' (first | with_reducible assumption | split | (intro _) | with_reducible apply ch_setb | with_reducible apply ch_set | with_reducible apply ch_fresh | exact sub_trans hm (by decide) | with_reducible exact reg_of hm at_HIF_STATUS (by decide))

theorem ch_ringDisable {m : Nat} {s0 : Dev} (s : Dev) (n : Fin 256)
    (hm : Within 0x600400000000000004 m) (h0 : Changes m s0 s) :
    Changes m s0 (Dev.ringDisable s n) := by
  unfold Dev.ringDisable
  try dsimp only
  repeat' (first | with_reducible assumption | split | (intro _) | with_reducible apply ch_set | with_reducible apply ch_setb | with_reducible apply ch_reject | exact sub_trans hm (by decide) | with_reducible exact reg_of hm at_HIF_REJECT_CNT (by decide) | with_reducible exact reg_of hm (at_HIF_RING_CFG _) (by decide) | with_reducible exact reg_of hm (at_HIF_RING_STATUS _) (by decide))

theorem ch_ringServed {m : Nat} {s0 : Dev} (s : Dev) (n : Fin 256)
    (hm : Within 0x80 m) (h0 : Changes m s0 s) :
    Changes m s0 (Dev.ringServed s n) := by
  unfold Dev.ringServed
  try dsimp only
  repeat' (first | with_reducible assumption | with_reducible exact hif_same rfl | split | (intro _) | with_reducible apply ch_putHif | exact bit_of hm (by decide))

theorem ch_fetch {m : Nat} {s0 : Dev} (s : Dev) (n : Fin 256) (part : List (Fin 256)) (ds : List Desc)
    (hm : Within 0x8400200000000000084 m) (h0 : Changes m s0 s) :
    Changes m s0 (Dev.fetch s n part ds) := by
  unfold Dev.fetch
  try dsimp only
  repeat' (first | with_reducible assumption | with_reducible exact hif_same rfl | split | (intro _) | with_reducible apply ch_forEach | with_reducible apply ch_putHif | with_reducible apply ch_set | with_reducible apply ch_ringServed | with_reducible apply ch_deliverCompletion | with_reducible apply ch_runningSummary | with_reducible apply ch_complete | exact sub_trans hm (by decide) | exact bit_of hm (by decide) | with_reducible exact reg_of hm (at_HIF_RING_STATUS _) (by decide))

theorem ch_dmaOpError {m : Nat} {s0 : Dev} (s : Dev) (src : Src)
    (hm : Within 0x14000000000000000000000000000000000000000000000000000000060000000000000000000024000002000000000000000000000000000000084072000000000821A4 m) (h0 : Changes m s0 s) :
    Changes m s0 (Dev.dmaOpError s src) := by
  unfold Dev.dmaOpError
  try dsimp only
  repeat' (first | with_reducible assumption | split | (intro _) | with_reducible apply ch_when | with_reducible apply ch_putSln | with_reducible apply ch_longEnd | with_reducible apply ch_identStop | with_reducible apply ch_complete | exact sub_trans hm (by decide) | exact bit_of hm (by decide))

theorem ch_dmaRingError {m : Nat} {s0 : Dev} (s : Dev) (n : Fin 256) (desc : Option Src)
    (hm : Within 0x14000000000000000000000000000000000000000000000000000000000000000000000000000000000000000000000000000000000000000000084072000000000001A4 m) (h0 : Changes m s0 s) :
    Changes m s0 (Dev.dmaRingError s n desc) := by
  unfold Dev.dmaRingError
  try dsimp only
  repeat' (first | with_reducible assumption | with_reducible exact hif_same rfl | split | (intro _) | with_reducible apply ch_putHif | with_reducible apply ch_set | with_reducible apply ch_complete | with_reducible apply ch_runningSummary | with_reducible apply ch_post | exact sub_trans hm (by decide) | exact bit_of hm (by decide) | with_reducible exact reg_of hm (at_HIF_RING_STATUS _) (by decide))

theorem ch_linkRestored {m : Nat} {s0 : Dev} (s : Dev) (n : Fin 256)
    (hm : Within 0x14000000000000000000000000000000000000000000000000000000000000000000000000000000000000000000000000000000000000000000084072000000000001A4 m) (h0 : Changes m s0 s) :
    Changes m s0 (Dev.linkRestored s n) := by
  unfold Dev.linkRestored
  try dsimp only
  repeat' (first | with_reducible assumption | with_reducible exact hif_same rfl | split | (intro _) | with_reducible apply ch_putHif | with_reducible apply ch_record | with_reducible apply ch_ringWrite | exact sub_trans hm (by decide) | exact bit_of hm (by decide))

theorem ch_ringEnable {m : Nat} {s0 : Dev} (s : Dev) (n : Fin 256)
    (hm : Within 0x14000000000000000000000000000000000000000000000000000000000000000000000000000000000000000000000000000000000000000000086072000000000001A6 m) (h0 : Changes m s0 s) :
    Changes m s0 (Dev.ringEnable s n) := by
  unfold Dev.ringEnable
  try dsimp only
  repeat' (first | with_reducible assumption | split | (intro _) | with_reducible apply ch_when | with_reducible apply ch_set | with_reducible apply ch_setb | with_reducible apply ch_answer | with_reducible apply ch_linkUp | with_reducible apply ch_modRing | with_reducible apply ch_drain | with_reducible apply ch_armVector | with_reducible apply ch_stagedOfKind | with_reducible apply ch_linkRestored | exact sub_trans hm (by decide) | with_reducible exact reg_of hm (at_HIF_RING_CFG _) (by decide) | with_reducible exact reg_of hm (at_HIF_RING_STATUS _) (by decide))

theorem ch_execHeadDoorbell {m : Nat} {n : Fin 256} {value : Word} {s t : State} (hm : Within 0x140000000000000000000000000000000000000000000000000000000000000000000000000000000000000000000000000000000000000000000840F2000000000001A4 m)
    (h : execHeadDoorbell n value s = .next t) : t.pending = s.pending ∧ Changes m s.dev t.dev := by
  unfold execHeadDoorbell at h
  refine of_onReg h (bit_of hm (by decide)) (fun d hd => ?_)
  try dsimp only
  repeat' (first | with_reducible assumption | split | (intro _) | with_reducible apply ch_doorbell | exact sub_trans hm (by decide))

theorem ch_execPcieLinkLoss {m : Nat} {cause : LinkLossCause} {s t : State} (hm : Within 0x140000000000000000000000000000000000000000000000000000000600000000000000000000240000020000000000000000000000000000000FE07A000000008021A4 m)
    (h : execPcieLinkLoss cause s = .next t) : t.pending = s.pending ∧ Changes m s.dev t.dev := by
  unfold execPcieLinkLoss at h
  refine of_onLive h (bit_of hm (by decide)) (fun d hd => ?_)
  try dsimp only
  repeat' (first | with_reducible assumption | split | (intro _) | with_reducible apply ch_linkLoss | exact sub_trans hm (by decide))

theorem ch_execVectorTimeExpiry {m : Nat} {v : Fin 64} {s t : State} (hm : Within 0x8000000000000000085 m)
    (h : execVectorTimeExpiry v s = .next t) : t.pending = s.pending ∧ Changes m s.dev t.dev := by
  unfold execVectorTimeExpiry at h
  refine of_onLive h (bit_of hm (by decide)) (fun d hd => ?_)
  try dsimp only
  repeat' (first | with_reducible assumption | split | (intro _) | with_reducible apply ch_vectorTime | exact sub_trans hm (by decide))

theorem ch_execDescriptorFetch {m : Nat} {n : Fin 256} {part : List (Fin 256)} {entries : List (List Byte)} {s t : State} (hm : Within 0x8400200000000000084 m)
    (h : execDescriptorFetch n part entries s = .next t) : t.pending = s.pending ∧ Changes m s.dev t.dev := by
  unfold execDescriptorFetch at h
  refine of_onLive h (bit_of hm (by decide)) (fun d hd => ?_)
  try dsimp only
  repeat' (first | with_reducible assumption | split | (intro _) | with_reducible apply ch_fetch | exact sub_trans hm (by decide))

theorem ch_execDmaError {m : Nat} {what : DmaError} {s t : State} (hm : Within 0x14000000000000000000000000000000000000000000000000000000060000000000000000000024000002000000000000000000000000000000084072000000000821A4 m)
    (h : execDmaError what s = .next t) : t.pending = s.pending ∧ Changes m s.dev t.dev := by
  unfold execDmaError at h
  refine of_onLive h (bit_of hm (by decide)) (fun d hd => ?_)
  try dsimp only
  repeat' (first | with_reducible assumption | split | (intro _) | with_reducible apply ch_dmaRingError | with_reducible apply ch_dmaOpError | exact sub_trans hm (by decide))

theorem ch_execNop {m : Nat} {src : Src} {s t : State} (hm : Within 0x8400200000000000084 m)
    (h : execNop src s = .next t) : t.pending = s.pending ∧ Changes m s.dev t.dev := by
  unfold execNop at h
  refine of_onHost h (sub_trans hm (by decide)) (fun d hd => ?_)
  try dsimp only
  repeat' (first | with_reducible assumption | split | (intro _) | with_reducible apply ch_complete | exact sub_trans hm (by decide))

theorem ch_execRingEnable {m : Nat} {n : Fin 256} {s t : State} (hm : Within 0x14000000000000000000000000000000000000000000000000000000000000000000000000000000000000000000000000000000000000000000086072000000000001A6 m)
    (h : execRingEnable n s = .next t) : t.pending = s.pending ∧ Changes m s.dev t.dev := by
  unfold execRingEnable at h
  refine of_onReg h (bit_of hm (by decide)) (fun d hd => ?_)
  try dsimp only
  repeat' (first | with_reducible assumption | split | (intro _) | with_reducible apply ch_ringEnable | exact sub_trans hm (by decide))

theorem ch_execSubmitDoorbell {m : Nat} {n : Fin 256} {value : Word} {s t : State} (hm : Within 0x140000000000000000000000000000000000000000000000000000000000000000000000000000000000000000000000000000000000000000000840F2000000000001A4 m)
    (h : execSubmitDoorbell n value s = .next t) : t.pending = s.pending ∧ Changes m s.dev t.dev := by
  unfold execSubmitDoorbell at h
  refine of_onReg h (bit_of hm (by decide)) (fun d hd => ?_)
  try dsimp only
  repeat' (first | with_reducible assumption | split | (intro _) | with_reducible apply ch_doorbell | exact sub_trans hm (by decide))

theorem ch_execRingDisable {m : Nat} {n : Fin 256} {s t : State} (hm : Within 0x600400000000000004 m)
    (h : execRingDisable n s = .next t) : t.pending = s.pending ∧ Changes m s.dev t.dev := by
  unfold execRingDisable at h
  refine of_onReg h (bit_of hm (by decide)) (fun d hd => ?_)
  try dsimp only
  repeat' (first | with_reducible assumption | split | (intro _) | with_reducible apply ch_ringDisable | exact sub_trans hm (by decide))

end Dev

end Sys2Proof.Machine
end

