-- ==== Sys2Proof/Laws/WayledgerCh.lean ====
section
/-! SUPPORT. What each definition of Machine/Wayledger.lean may change. -/

namespace Sys2Proof.Machine

set_option linter.all false
set_option Elab.async false

namespace Dev

theorem ch_modLdg {m : Nat} {s0 : Dev} (s : Dev) (f : Ldg → Ldg)
    (hm : Within 0x100 m) (h0 : Changes m s0 s) (h1 : s.ldg.fits → (f s.ldg).fits) :
    Changes m s0 (Dev.modLdg s f) := by
  unfold Dev.modLdg
  try dsimp only
  repeat' (first | with_reducible assumption | with_reducible exact ldg_same rfl rfl | split | (intro _) | with_reducible apply ch_putLdg | exact bit_of hm (by decide))

theorem ch_ledgerWrite {m : Nat} {s0 : Dev} (s : Dev)
    (hm : Within 0xC00000000000000000000000000000000000000000000000000000000000000000000000000000000000000000000000000000000000000000000000000000000000100 m) (h0 : Changes m s0 s) :
    Changes m s0 (Dev.ledgerWrite s) := by
  unfold Dev.ledgerWrite
  try dsimp only
  repeat' (first | with_reducible assumption | with_reducible exact ldg_same rfl rfl | split | (intro _) | with_reducible apply ch_set | with_reducible apply ch_bump | with_reducible apply ch_modLdg | exact sub_trans hm (by decide) | with_reducible exact reg_of hm at_LDG_STATUS (by decide) | with_reducible exact reg_of hm at_LDG_SEQ (by decide))
  rename_i e f
  have := f.2
  rw [e] at this
  exact ⟨by simp only [List.length_take]; exact Nat.min_le_left _ _, Nat.le_of_succ_le this⟩

theorem ch_ledgerFlush {m : Nat} {s0 : Dev} (s : Dev)
    (hm : Within 0xC00000000000000000000000000000000000000000000000000000000000000000000000000000000000000000000000000000000000000000000000000000000000100 m) (h0 : Changes m s0 s) :
    Changes m s0 (Dev.ledgerFlush s) := by
  unfold Dev.ledgerFlush
  try dsimp only
  repeat' (first | with_reducible assumption | split | (intro _) | with_reducible apply ch_forEach | with_reducible apply ch_ledgerWrite | exact sub_trans hm (by decide))

theorem ch_ledgerPace {m : Nat} {s0 : Dev} (s : Dev)
    (hm : Within 0xC00000000000000000000000000000000000000000000000000000000000000000000000000000000000000000000000000000000000000000000000000000000000101 m) (h0 : Changes m s0 s) :
    Changes m s0 (Dev.ledgerPace s) := by
  unfold Dev.ledgerPace
  try dsimp only
  repeat' (first | with_reducible assumption | with_reducible exact ldg_same rfl rfl | split | (intro _) | with_reducible apply ch_reach | with_reducible apply ch_ledgerWrite | with_reducible apply ch_modLdg | exact sub_trans hm (by decide))

theorem ch_snapRelease {m : Nat} {s0 : Dev} (s : Dev) (i : Fin 32)
    (hm : Within 0x2400000000000000000000000000000000000000000000000000000000000000000000000000000000000000000000000000000000000000000000000000000000000100 m) (h0 : Changes m s0 s) :
    Changes m s0 (Dev.snapRelease s i) := by
  unfold Dev.snapRelease
  try dsimp only
  repeat' (first | with_reducible assumption | with_reducible exact ldg_same rfl rfl | split | (intro _) | with_reducible apply ch_set | with_reducible apply ch_modLdg | with_reducible apply ch_setBit | exact sub_trans hm (by decide) | with_reducible exact reg_of hm at_LDG_STATUS (by decide) | with_reducible exact reg_of hm at_LDG_SNAP_FROZEN (by decide))

theorem ch_ledgerRead {m : Nat} {s0 : Dev} (s : Dev) (l : LongSrc) (r : LdgReadReq)
    (hm : Within 0x14000000000000000000000000000000000000000000000000000000000000000000000000000000000000000000000000000000000000000000084072000000000001A4 m) (h0 : Changes m s0 s) :
    Changes m s0 (Dev.ledgerRead s l r) := by
  unfold Dev.ledgerRead
  try dsimp only
  repeat' (first | with_reducible assumption | split | (intro _) | with_reducible apply ch_complete | with_reducible apply ch_longRefuse | with_reducible apply ch_longWhole | exact sub_trans hm (by decide))

theorem ch_execLdgRelease {m : Nat} {slot : Fin 32} {s t : State} (hm : Within 0x2400000000000000000000000000000000000000000000000000000000000000000000000000000000000000000000000000000000000000000000000000000000000104 m)
    (h : execLdgRelease slot s = .next t) : t.pending = s.pending ∧ Changes m s.dev t.dev := by
  unfold execLdgRelease at h
  refine of_onReg h (bit_of hm (by decide)) (fun d hd => ?_)
  try dsimp only
  repeat' (first | with_reducible assumption | split | (intro _) | with_reducible apply ch_answer | with_reducible apply ch_snapRelease | exact sub_trans hm (by decide))

theorem ch_execLdgRead {m : Nat} {l : LongSrc} {r : LdgReadReq} {s t : State} (hm : Within 0x14000000000000000000000000000000000000000000000000000000000000000000000000000000000000000000000000000000000000000000084072000000000001A4 m)
    (h : execLdgRead l r s = .next t) : t.pending = s.pending ∧ Changes m s.dev t.dev := by
  unfold execLdgRead at h
  refine of_onHost h (sub_trans hm (by decide)) (fun d hd => ?_)
  try dsimp only
  repeat' (first | with_reducible assumption | split | (intro _) | with_reducible apply ch_ledgerRead | exact sub_trans hm (by decide))

theorem ch_execLdgFreeze {m : Nat}  {s t : State} (hm : Within 0x1F4000000000000000000000000000000000000000000000000000000000000000000000000000000000000000000000000000000000000000000084072000000000001A4 m)
    (h : execLdgFreeze  s = .next t) : t.pending = s.pending ∧ Changes m s.dev t.dev := by
  unfold execLdgFreeze at h
  refine of_onReg h (bit_of hm (by decide)) (fun d hd => ?_)
  try dsimp only
  repeat' (first | with_reducible assumption | split | (intro _) | with_reducible apply ch_answer | with_reducible apply ch_freeze | exact sub_trans hm (by decide))

theorem ch_execLedgerWrite {m : Nat}  {s t : State} (hm : Within 0xC00000000000000000000000000000000000000000000000000000000000000000000000000000000000000000000000000000000000000000000000000000000000105 m)
    (h : execLedgerWrite  s = .next t) : t.pending = s.pending ∧ Changes m s.dev t.dev := by
  unfold execLedgerWrite at h
  refine of_onLive h (bit_of hm (by decide)) (fun d hd => ?_)
  try dsimp only
  repeat' (first | with_reducible assumption | split | (intro _) | with_reducible apply ch_ledgerPace | exact sub_trans hm (by decide))

end Dev

end Sys2Proof.Machine
end

