-- ==== Sys2Proof/Laws/ResetAssertCh.lean ====
section
/-! SUPPORT. What each definition of Machine/ResetAssert.lean may change. -/

namespace Sys2Proof.Machine

set_option linter.all false
set_option Elab.async false

namespace Dev

theorem ch_modGen {m : Nat} {s0 : Dev} (s : Dev) (f : Gen → Gen)
    (hm : Within 0x40 m) (h0 : Changes m s0 s) :
    Changes m s0 (Dev.modGen s f) := by
  unfold Dev.modGen
  try dsimp only
  repeat' (first | with_reducible assumption | split | (intro _) | with_reducible apply ch_putGen | exact bit_of hm (by decide))

theorem ch_pinIgnored {m : Nat} {s0 : Dev} (s : Dev)
    (hm : Within 0x8000000040 m) (h0 : Changes m s0 s) :
    Changes m s0 (Dev.pinIgnored s) := by
  unfold Dev.pinIgnored
  try dsimp only
  repeat' (first | with_reducible assumption | split | (intro _) | with_reducible apply ch_incSat | with_reducible apply ch_setb | with_reducible apply ch_modGen | exact sub_trans hm (by decide) | with_reducible exact reg_of hm at_GEN_RST_PIN (by decide))

theorem ch_setPhase {m : Nat} {s0 : Dev} (s : Dev) (p : Phase)
    (hm : Within 0x40 m) (h0 : Changes m s0 s) :
    Changes m s0 (Dev.setPhase s p) := by
  unfold Dev.setPhase
  try dsimp only
  repeat' (first | with_reducible assumption | split | (intro _) | with_reducible apply ch_modGen | exact sub_trans hm (by decide))

theorem ch_railSet {m : Nat} {s0 : Dev} (s : Dev) (r : Rail)
    (hm : Within 0x100000 m) (h0 : Changes m s0 s) :
    Changes m s0 (Dev.railSet s r) := by
  unfold Dev.railSet
  try dsimp only
  repeat' (first | with_reducible assumption | split | (intro _) | with_reducible apply ch_putLsw | exact bit_of hm (by decide))

theorem ch_alsoCause {m : Nat} {s0 : Dev} (s : Dev) (c : Nat)
    (hm : Within 0x2000000000 m) (h0 : Changes m s0 s) :
    Changes m s0 (Dev.alsoCause s c) := by
  unfold Dev.alsoCause
  try dsimp only
  repeat' (first | with_reducible assumption | split | (intro _) | with_reducible apply ch_setBit | exact sub_trans hm (by decide) | with_reducible exact reg_of hm at_GEN_RESET_CAUSE (by decide))

theorem ch_endSaves {m : Nat} {s0 : Dev} (s : Dev)
    (hm : Within 0x140000000000000000000000000000000000000000000001C2000000000000000000000000000000000000000000000000000000000000000000084072000000000041A4 m) (h0 : Changes m s0 s) :
    Changes m s0 (Dev.endSaves s) := by
  unfold Dev.endSaves
  try dsimp only
  repeat' (first | with_reducible assumption | split | (intro _) | with_reducible apply ch_forEach | with_reducible apply ch_endSave | exact sub_trans hm (by decide))

theorem ch_unstick {m : Nat} {s0 : Dev} (s : Dev)
    (hm : Within 0x8000000000 m) (h0 : Changes m s0 s) :
    Changes m s0 (Dev.unstick s) := by
  unfold Dev.unstick
  try dsimp only
  repeat' (first | with_reducible assumption | split | (intro _) | with_reducible apply ch_when | with_reducible apply ch_setb | with_reducible exact reg_of hm at_GEN_RST_PIN (by decide))

theorem ch_trialEnds {m : Nat} {s0 : Dev} (s : Dev)
    (hm : Within 0x800000000000000000000000000000000000000000000000000000000000000000000000000000000000000000000000000000000000000000000000002000000000 m) (h0 : Changes m s0 s) :
    Changes m s0 (Dev.trialEnds s) := by
  unfold Dev.trialEnds
  try dsimp only
  repeat' (first | with_reducible assumption | split | (intro _) | with_reducible apply ch_setb | with_reducible apply ch_set | with_reducible apply ch_alsoCause | exact sub_trans hm (by decide) | with_reducible exact reg_of hm at_KEY_FW (by decide))

/-- What outlives a reset is listed under its own offset, with a value other than the reset value. -/
theorem outlive_keeps (hib : Bool) (p q : Nat × Word) (h : outlive hib p = some q) : q.1 = p.1 ∧ q.2 ≠ resetWord q.1 := by
  unfold outlive at h
  dsimp only at h
  split at h
  · cases h
  · cases h
    exact ⟨rfl, by assumption⟩

theorem ch_outlived {m : Nat} {s0 : Dev} (s : Dev) (p : Phase) (hib : Bool) (guards : Bool)
    (hm : Within 0x1FF0FFFFF001FFF01FFFF00FFFFFFF00FFFFFFF00FFFFFFFFFF00FFFF07FFFF1FFFFF03FFFFFFF3FFFFFFFF1FFFFFFFFFFF01FFFFFFF03FFFFFFF0FFFFF7FFFFF80FFFFFF m) (h0 : Changes m s0 s) :
    Changes m s0 (Dev.outlived s p hib guards) := by
  have e : (s.outlived p hib guards).regs = s.regs.filterMap (outlive hib) := rfl
  refine h0.trans ⟨fun f => ⟨?_, ?_, ?_⟩, fun q hq => ?_, fun w => ?_, fun _ => Nat.le_refl _, Nat.le_succ _⟩
  · rw [e]
    exact regWf_filterMap _ _ f.regs (outlive_keeps hib)
  · exact ⟨f.ldg.1, Nat.zero_le _⟩
  · exact Nat.zero_le _
  · have b : q.bit < 24 := by cases q <;> decide
    have k : (0xFFFFFF : Nat).testBit q.bit = true := by
      have e : (0xFFFFFF : Nat) = 2 ^ 24 - 1 := by decide
      rw [e, Nat.testBit_two_pow_sub_one]
      simpa using b
    exact Bool.noConfusion ((bit_of (sub_trans hm (by decide : Within 0xFFFFFF _)) k).symm.trans hq)
  · exact Bool.noConfusion ((bit_of hm (by decide)).symm.trans w)

theorem ch_assertReset {m : Nat} {s0 : Dev} (s : Dev) (c : ResetCause)
    (hm : Within 0x1FF0FFFFF001FFF01FFFF00FFFFFFF00FFFFFFF00FFFFFFFFFF00FFFF07FFFF1FFFFF03FFFFFFF3FFFFFFFF1FFFFFFFFFFF01FFFFFFF03FFFFFFF0FFFFF7FFFFF80FFFFFF m) (h0 : Changes m s0 s) :
    Changes m s0 (Dev.assertReset s c) := by
  unfold Dev.assertReset
  try dsimp only
  repeat' (first | with_reducible assumption | split | (intro _) | with_reducible apply ch_when | with_reducible apply ch_set | with_reducible apply ch_wr | with_reducible apply ch_endSaves | with_reducible apply ch_fresh | with_reducible apply ch_bseCommit | with_reducible apply ch_unstick | with_reducible apply ch_trialEnds | with_reducible apply ch_railSet | with_reducible apply ch_outlived | with_reducible apply ch_openHold | exact sub_trans hm (by decide) | with_reducible exact reg_of hm at_GEN_RESET_CAUSE (by decide) | exact any_of hm (by decide) _)

theorem ch_takeReset {m : Nat} {s0 : Dev} (s : Dev) (c : ResetCause)
    (hm : Within 0x1FF0FFFFF001FFF01FFFF00FFFFFFF00FFFFFFF00FFFFFFFFFF00FFFF07FFFF1FFFFF03FFFFFFF3FFFFFFFF1FFFFFFFFFFF01FFFFFFF03FFFFFFF0FFFFF7FFFFF80FFFFFF m) (h0 : Changes m s0 s) :
    Changes m s0 (Dev.takeReset s c) := by
  unfold Dev.takeReset
  try dsimp only
  repeat' (first | with_reducible assumption | split | (intro _) | with_reducible apply ch_set | with_reducible apply ch_setPhase | with_reducible apply ch_railSet | with_reducible apply ch_alsoCause | with_reducible apply ch_assertReset | exact sub_trans hm (by decide) | with_reducible exact reg_of hm at_GEN_RESET_CAUSE (by decide) | exact any_of hm (by decide) _)

theorem ch_lswSupplyLost {m : Nat} {s0 : Dev} (s : Dev)
    (hm : Within 0x14081D81000000000000000000000000003C01000000000000000000022022000000000000010000000000000000000000000000000000000000084072000000001B0DA6 m) (h0 : Changes m s0 s) :
    Changes m s0 (Dev.lswSupplyLost s) := by
  unfold Dev.lswSupplyLost
  try dsimp only
  repeat' (first | with_reducible assumption | split | (intro _) | with_reducible apply ch_forEach | with_reducible apply ch_set | with_reducible apply ch_setb | with_reducible apply ch_lswAllOff | with_reducible apply ch_modCh | with_reducible apply ch_showLswOff | with_reducible apply ch_modLsw | exact sub_trans hm (by decide) | with_reducible exact reg_of hm at_LSW_STATUS (by decide) | with_reducible exact reg_of hm (at_LSW_CH_CTL _) (by decide) | with_reducible exact reg_of hm (at_LSW_CH_STATUS _) (by decide))

theorem ch_brownOut {m : Nat} {s0 : Dev} (s : Dev)
    (hm : Within 0x1FF0FFFFF001FFF01FFFF00FFFFFFF00FFFFFFF00FFFFFFFFFF00FFFF07FFFF1FFFFF03FFFFFFF3FFFFFFFF1FFFFFFFFFFF01FFFFFFF03FFFFFFF0FFFFF7FFFFF80FFFFFF m) (h0 : Changes m s0 s) :
    Changes m s0 (Dev.brownOut s) := by
  unfold Dev.brownOut
  try dsimp only
  repeat' (first | with_reducible assumption | split | (intro _) | with_reducible apply ch_set | with_reducible apply ch_takeReset | with_reducible apply ch_lswSupplyLost | with_reducible apply ch_modLsw | exact sub_trans hm (by decide) | with_reducible exact reg_of hm at_LSW_STATUS (by decide) | exact any_of hm (by decide) _)

theorem ch_failReader {m : Nat} {s0 : Dev} (s : Dev) (op : Option Src)
    (hm : Within 0x14000000000000000000000000000000000000000000000000000000000000000000000000000000000000000000000000000000000000000000084072000000000001A6 m) (h0 : Changes m s0 s) :
    Changes m s0 (Dev.failReader s op) := by
  unfold Dev.failReader
  try dsimp only
  repeat' (first | with_reducible assumption | split | (intro _) | with_reducible apply ch_fresh | with_reducible apply ch_longEnd | with_reducible apply ch_complete | exact sub_trans hm (by decide))

theorem ch_sramError {m : Nat} {s0 : Dev} (s : Dev) (double : Bool) (region : Fin 15) (op : Option Src)
    (hm : Within 0x1FF0FFFFF001FFF01FFFF00FFFFFFF00FFFFFFF00FFFFFFFFFF00FFFF07FFFF1FFFFF03FFFFFFF3FFFFFFFF1FFFFFFFFFFF01FFFFFFF03FFFFFFF0FFFFF7FFFFF80FFFFFF m) (h0 : Changes m s0 s) :
    Changes m s0 (Dev.sramError s double region op) := by
  unfold Dev.sramError
  try dsimp only
  repeat' (first | with_reducible assumption | split | (intro _) | with_reducible apply ch_incSat | with_reducible apply ch_takeReset | with_reducible apply ch_failReader | with_reducible apply ch_post | exact sub_trans hm (by decide) | with_reducible exact reg_of hm at_GEN_ECC (by decide) | exact any_of hm (by decide) _)

theorem ch_latchesLost {m : Nat} {s0 : Dev} (s : Dev)
    (hm : Within 0x50000000000000000000000000000000000000000000000000000000000000000000000002000000200000000000000000000000000000000000000000000100000 m) (h0 : Changes m s0 s) :
    Changes m s0 (Dev.latchesLost s) := by
  unfold Dev.latchesLost
  try dsimp only
  repeat' (first | with_reducible assumption | split | (intro _) | with_reducible apply ch_forEach | with_reducible apply ch_wr | with_reducible apply ch_setb | with_reducible apply ch_set | with_reducible apply ch_showLswOff | with_reducible apply ch_modCh | exact sub_trans hm (by decide) | with_reducible exact reg_of hm at_THM_STATUS (by decide) | with_reducible exact reg_of hm (at_THM_CAB_STATUS _) (by decide) | with_reducible exact reg_of hm (at_LSW_CH_STATUS _) (by decide) | with_reducible exact reg_of hm (at_LSW_CH_CLAMP _) (by decide))

theorem ch_vauxRemoved {m : Nat} {s0 : Dev} (s : Dev)
    (hm : Within 0x1FF0FFFFF001FFF01FFFF00FFFFFFF00FFFFFFF00FFFFFFFFFF00FFFF07FFFF1FFFFF03FFFFFFF3FFFFFFFF1FFFFFFFFFFF01FFFFFFF03FFFFFFF0FFFFF7FFFFF80FFFFFF m) (h0 : Changes m s0 s) :
    Changes m s0 (Dev.vauxRemoved s) := by
  unfold Dev.vauxRemoved
  try dsimp only
  repeat' (first | with_reducible assumption | split | (intro _) | with_reducible apply ch_setPhase | with_reducible apply ch_latchesLost | with_reducible apply ch_brownOut | exact sub_trans hm (by decide) | exact bit_of hm (by decide) | exact any_of hm (by decide) _)

theorem ch_hibernate {m : Nat} {s0 : Dev} (s : Dev) (saveGood : Bool) (commitGood : Bool) (vioHeavy : Bool)
    (hm : Within 0x1FF0FFFFF001FFF01FFFF00FFFFFFF00FFFFFFF00FFFFFFFFFF00FFFF07FFFF1FFFFF03FFFFFFF3FFFFFFFF1FFFFFFFFFFF01FFFFFFF03FFFFFFF0FFFFF7FFFFF80FFFFFF m) (h0 : Changes m s0 s) :
    Changes m s0 (Dev.hibernate s saveGood commitGood vioHeavy).1 := by
  unfold Dev.hibernate
  try dsimp only
  repeat' (first | with_reducible assumption | split | (intro _) | with_reducible apply ch_incSat | with_reducible apply ch_zeroiseWork | with_reducible apply ch_bseCommit | with_reducible apply ch_endSave | with_reducible apply ch_startSave | with_reducible apply ch_endSaves | with_reducible apply ch_ledgerFlush | with_reducible apply ch_linkLoss | with_reducible apply ch_setMode | with_reducible apply ch_modGen | with_reducible apply ch_outlived | with_reducible apply ch_railSet | exact sub_trans hm (by decide) | with_reducible exact reg_of hm at_GEN_REJECT_CNT (by decide) | exact any_of hm (by decide) _)

theorem ch_hostReset {m : Nat} {s0 : Dev} (s : Dev) (v : Word)
    (hm : Within 0x1FF0FFFFF001FFF01FFFF00FFFFFFF00FFFFFFF00FFFFFFFFFF00FFFF07FFFF1FFFFF03FFFFFFF3FFFFFFFF1FFFFFFFFFFF01FFFFFFF03FFFFFFF0FFFFF7FFFFF80FFFFFF m) (h0 : Changes m s0 s) :
    Changes m s0 (Dev.hostReset s v) := by
  unfold Dev.hostReset
  try dsimp only
  repeat' (first | with_reducible assumption | split | (intro _) | with_reducible apply ch_reject | with_reducible apply ch_takeReset | exact sub_trans hm (by decide) | with_reducible exact reg_of hm at_GEN_REJECT_CNT (by decide) | exact any_of hm (by decide) _)

theorem ch_pinRelease {m : Nat} {s0 : Dev} (s : Dev)
    (hm : Within 0x8000000040 m) (h0 : Changes m s0 s) :
    Changes m s0 (Dev.pinRelease s) := by
  unfold Dev.pinRelease
  try dsimp only
  repeat' (first | with_reducible assumption | split | (intro _) | with_reducible apply ch_setb | with_reducible apply ch_modGen | exact sub_trans hm (by decide) | with_reducible exact reg_of hm at_GEN_RST_PIN (by decide))

theorem ch_pinAssert {m : Nat} {s0 : Dev} (s : Dev)
    (hm : Within 0x1FF0FFFFF001FFF01FFFF00FFFFFFF00FFFFFFF00FFFFFFFFFF00FFFF07FFFF1FFFFF03FFFFFFF3FFFFFFFF1FFFFFFFFFFF01FFFFFFF03FFFFFFF0FFFFF7FFFFF80FFFFFF m) (h0 : Changes m s0 s) :
    Changes m s0 (Dev.pinAssert s) := by
  unfold Dev.pinAssert
  try dsimp only
  repeat' (first | with_reducible assumption | split | (intro _) | with_reducible apply ch_setb | with_reducible apply ch_takeReset | with_reducible apply ch_modGen | exact sub_trans hm (by decide) | with_reducible exact reg_of hm at_GEN_RST_PIN (by decide) | exact any_of hm (by decide) _)

theorem ch_fwActivate {m : Nat} {s0 : Dev} (s : Dev) (src : Src)
    (hm : Within 0x1FF0FFFFF001FFF01FFFF00FFFFFFF00FFFFFFF00FFFFFFFFFF00FFFF07FFFF1FFFFF03FFFFFFF3FFFFFFFF1FFFFFFFFFFF01FFFFFFF03FFFFFFF0FFFFF7FFFFF80FFFFFF m) (h0 : Changes m s0 s) :
    Changes m s0 (Dev.fwActivate s src) := by
  unfold Dev.fwActivate
  try dsimp only
  repeat' (first | with_reducible assumption | split | (intro _) | with_reducible apply ch_setb | with_reducible apply ch_set | with_reducible apply ch_complete | with_reducible apply ch_takeReset | exact sub_trans hm (by decide) | with_reducible exact reg_of hm at_KEY_FW (by decide) | exact any_of hm (by decide) _)

theorem ch_rateCheck {m : Nat} {s0 : Dev} (s : Dev) (ppb : Int)
    (hm : Within 0x140000000000000000000000000000000F8021000000000000000000000000000000000000000000000000000000000000000000000000000000084072000008000301E4 m) (h0 : Changes m s0 s) :
    Changes m s0 (Dev.rateCheck s ppb) := by
  unfold Dev.rateCheck
  try dsimp only
  repeat' (first | with_reducible assumption | split | (intro _) | with_reducible apply ch_setb | with_reducible apply ch_modGen | with_reducible apply ch_timeInvalid | with_reducible apply ch_post | exact sub_trans hm (by decide) | with_reducible exact reg_of hm at_GEN_STATUS (by decide))

theorem ch_pinArm {m : Nat} {s0 : Dev} (s : Dev)
    (hm : Within 0x8000000001 m) (h0 : Changes m s0 s) :
    Changes m s0 (Dev.pinArm s) := by
  unfold Dev.pinArm
  try dsimp only
  repeat' (first | with_reducible assumption | split | (intro _) | with_reducible apply ch_setb | with_reducible apply ch_reach | exact sub_trans hm (by decide) | with_reducible exact reg_of hm at_GEN_RST_PIN (by decide))

theorem ch_tearSaves {m : Nat} {s0 : Dev} (s : Dev)
    (hm : Within 0x4000 m) (h0 : Changes m s0 s) :
    Changes m s0 (Dev.tearSaves s) := by
  unfold Dev.tearSaves
  try dsimp only
  repeat' (first | with_reducible assumption | split | (intro _) | with_reducible apply ch_forEach | with_reducible apply ch_modMtr | exact sub_trans hm (by decide))

theorem ch_supplyGone {m : Nat} {s0 : Dev} (s : Dev)
    (hm : Within 0x1FF0FFFFF001FFF01FFFF00FFFFFFF00FFFFFFF00FFFFFFFFFF00FFFF07FFFF1FFFFF03FFFFFFF3FFFFFFFF1FFFFFFFFFFF01FFFFFFF03FFFFFFF0FFFFF7FFFFF80FFFFFF m) (h0 : Changes m s0 s) :
    Changes m s0 (Dev.supplyGone s) := by
  unfold Dev.supplyGone
  try dsimp only
  repeat' (first | with_reducible assumption | split | (intro _) | with_reducible apply ch_outlived | with_reducible apply ch_railSet | with_reducible apply ch_tearSaves | with_reducible apply ch_latchesLost | with_reducible apply ch_lswSupplyLost | exact sub_trans hm (by decide) | exact bit_of hm (by decide) | exact any_of hm (by decide) _)

theorem ch_dieTemps {m : Nat} {s0 : Dev} (s : Dev) (t : List (BitVec 16))
    (hm : Within 0x1FF0FFFFF001FFF01FFFF00FFFFFFF00FFFFFFF00FFFFFFFFFF00FFFF07FFFF1FFFFF03FFFFFFF3FFFFFFFF1FFFFFFFFFFF01FFFFFFF03FFFFFFF0FFFFF7FFFFF80FFFFFF m) (h0 : Changes m s0 s) :
    Changes m s0 (Dev.dieTemps s t) := by
  unfold Dev.dieTemps
  try dsimp only
  repeat' (first | with_reducible assumption | split | (intro _) | with_reducible apply ch_putThm | with_reducible apply ch_dieSample | with_reducible apply ch_takeReset | exact sub_trans hm (by decide) | exact bit_of hm (by decide) | exact any_of hm (by decide) _)

theorem ch_trialTimeout {m : Nat} {s0 : Dev} (s : Dev)
    (hm : Within 0x1FF0FFFFF001FFF01FFFF00FFFFFFF00FFFFFFF00FFFFFFFFFF00FFFF07FFFF1FFFFF03FFFFFFF3FFFFFFFF1FFFFFFFFFFF01FFFFFFF03FFFFFFF0FFFFF7FFFFF80FFFFFF m) (h0 : Changes m s0 s) :
    Changes m s0 (Dev.trialTimeout s) := by
  unfold Dev.trialTimeout
  try dsimp only
  repeat' (first | with_reducible assumption | split | (intro _) | with_reducible apply ch_setb | with_reducible apply ch_set | with_reducible apply ch_takeReset | with_reducible apply ch_reach | exact sub_trans hm (by decide) | with_reducible exact reg_of hm at_KEY_FW (by decide) | exact any_of hm (by decide) _)

theorem ch_execResetPinIgnored {m : Nat}  {s t : State} (hm : Within 0x8000000044 m)
    (h : execResetPinIgnored  s = .next t) : t.pending = s.pending ∧ Changes m s.dev t.dev := by
  unfold execResetPinIgnored at h
  refine of_onDev h (bit_of hm (by decide)) (fun d hd => ?_)
  try dsimp only
  repeat' (first | with_reducible assumption | split | (intro _) | with_reducible apply ch_pinIgnored | exact sub_trans hm (by decide))

theorem ch_execBrownOut {m : Nat}  {s t : State} (hm : Within 0x1FF0FFFFF001FFF01FFFF00FFFFFFF00FFFFFFF00FFFFFFFFFF00FFFF07FFFF1FFFFF03FFFFFFF3FFFFFFFF1FFFFFFFFFFF01FFFFFFF03FFFFFFF0FFFFF7FFFFF80FFFFFF m)
    (h : execBrownOut  s = .next t) : t.pending = s.pending ∧ Changes m s.dev t.dev := by
  unfold execBrownOut at h
  refine of_onDev h (bit_of hm (by decide)) (fun d hd => ?_)
  try dsimp only
  repeat' (first | with_reducible assumption | split | (intro _) | with_reducible apply ch_brownOut | exact sub_trans hm (by decide) | exact any_of hm (by decide) _)

theorem ch_execDieOvertempRelease {m : Nat}  {s t : State} (hm : Within 0x2004 m)
    (h : execDieOvertempRelease  s = .next t) : t.pending = s.pending ∧ Changes m s.dev t.dev := by
  unfold execDieOvertempRelease at h
  refine of_onDev h (bit_of hm (by decide)) (fun d hd => ?_)
  try dsimp only
  repeat' (first | with_reducible assumption | split | (intro _) | with_reducible apply ch_putThm | exact bit_of hm (by decide))

theorem ch_execVauxRemoved {m : Nat}  {s t : State} (hm : Within 0x1FF0FFFFF001FFF01FFFF00FFFFFFF00FFFFFFF00FFFFFFFFFF00FFFF07FFFF1FFFFF03FFFFFFF3FFFFFFFF1FFFFFFFFFFF01FFFFFFF03FFFFFFF0FFFFF7FFFFF80FFFFFF m)
    (h : execVauxRemoved  s = .next t) : t.pending = s.pending ∧ Changes m s.dev t.dev := by
  unfold execVauxRemoved at h
  refine of_onDev h (bit_of hm (by decide)) (fun d hd => ?_)
  try dsimp only
  repeat' (first | with_reducible assumption | split | (intro _) | with_reducible apply ch_vauxRemoved | exact sub_trans hm (by decide) | exact any_of hm (by decide) _)

theorem ch_execRootPllLockLoss {m : Nat}  {s t : State} (hm : Within 0x1FF0FFFFF001FFF01FFFF00FFFFFFF00FFFFFFF00FFFFFFFFFF00FFFF07FFFF1FFFFF03FFFFFFF3FFFFFFFF1FFFFFFFFFFF01FFFFFFF03FFFFFFF0FFFFF7FFFFF80FFFFFF m)
    (h : execRootPllLockLoss  s = .next t) : t.pending = s.pending ∧ Changes m s.dev t.dev := by
  unfold execRootPllLockLoss at h
  refine of_onDev h (bit_of hm (by decide)) (fun d hd => ?_)
  try dsimp only
  repeat' (first | with_reducible assumption | split | (intro _) | with_reducible apply ch_takeReset | exact sub_trans hm (by decide) | exact any_of hm (by decide) _)

theorem ch_execResetPinAssert {m : Nat}  {s t : State} (hm : Within 0x1FF0FFFFF001FFF01FFFF00FFFFFFF00FFFFFFF00FFFFFFFFFF00FFFF07FFFF1FFFFF03FFFFFFF3FFFFFFFF1FFFFFFFFFFF01FFFFFFF03FFFFFFF0FFFFF7FFFFF80FFFFFF m)
    (h : execResetPinAssert  s = .next t) : t.pending = s.pending ∧ Changes m s.dev t.dev := by
  unfold execResetPinAssert at h
  refine of_onDev h (bit_of hm (by decide)) (fun d hd => ?_)
  try dsimp only
  repeat' (first | with_reducible assumption | split | (intro _) | with_reducible apply ch_pinAssert | exact sub_trans hm (by decide) | exact any_of hm (by decide) _)

theorem ch_execHostReset {m : Nat} {value : Word} {s t : State} (hm : Within 0x1FF0FFFFF001FFF01FFFF00FFFFFFF00FFFFFFF00FFFFFFFFFF00FFFF07FFFF1FFFFF03FFFFFFF3FFFFFFFF1FFFFFFFFFFF01FFFFFFF03FFFFFFF0FFFFF7FFFFF80FFFFFF m)
    (h : execHostReset value s = .next t) : t.pending = s.pending ∧ Changes m s.dev t.dev := by
  unfold execHostReset at h
  refine of_onReg h (bit_of hm (by decide)) (fun d hd => ?_)
  try dsimp only
  repeat' (first | with_reducible assumption | split | (intro _) | with_reducible apply ch_hostReset | exact sub_trans hm (by decide) | exact any_of hm (by decide) _)

theorem ch_execGroundLost {m : Nat}  {s t : State} (hm : Within 0x1FF0FFFFF001FFF01FFFF00FFFFFFF00FFFFFFF00FFFFFFFFFF00FFFF07FFFF1FFFFF03FFFFFFF3FFFFFFFF1FFFFFFFFFFF01FFFFFFF03FFFFFFF0FFFFF7FFFFF80FFFFFF m)
    (h : execGroundLost  s = .next t) : t.pending = s.pending ∧ Changes m s.dev t.dev := by
  unfold execGroundLost at h
  refine of_onDev h (bit_of hm (by decide)) (fun d hd => ?_)
  try dsimp only
  repeat' (first | with_reducible assumption | split | (intro _) | with_reducible apply ch_supplyGone | exact sub_trans hm (by decide) | exact any_of hm (by decide) _)

theorem ch_execRtcRateCheck {m : Nat} {ppb : Int} {s t : State} (hm : Within 0x140000000000000000000000000000000F8021000000000000000000000000000000000000000000000000000000000000000000000000000000084072000008000301E4 m)
    (h : execRtcRateCheck ppb s = .next t) : t.pending = s.pending ∧ Changes m s.dev t.dev := by
  unfold execRtcRateCheck at h
  refine of_onRun h (bit_of hm (by decide)) (fun d hd => ?_)
  try dsimp only
  repeat' (first | with_reducible assumption | split | (intro _) | with_reducible apply ch_rateCheck | exact sub_trans hm (by decide))

theorem ch_execFwActivate {m : Nat} {src : Src} {s t : State} (hm : Within 0x1FF0FFFFF001FFF01FFFF00FFFFFFF00FFFFFFF00FFFFFFFFFF00FFFF07FFFF1FFFFF03FFFFFFF3FFFFFFFF1FFFFFFFFFFF01FFFFFFF03FFFFFFF0FFFFF7FFFFF80FFFFFF m)
    (h : execFwActivate src s = .next t) : t.pending = s.pending ∧ Changes m s.dev t.dev := by
  unfold execFwActivate at h
  refine of_onHost h (sub_trans hm (by decide)) (fun d hd => ?_)
  try dsimp only
  repeat' (first | with_reducible assumption | split | (intro _) | with_reducible apply ch_fwActivate | exact sub_trans hm (by decide) | exact any_of hm (by decide) _)

theorem ch_execDieTempSample {m : Nat} {t0 : BitVec 16} {t1 : BitVec 16} {t2 : BitVec 16} {s t : State} (hm : Within 0x1FF0FFFFF001FFF01FFFF00FFFFFFF00FFFFFFF00FFFFFFFFFF00FFFF07FFFF1FFFFF03FFFFFFF3FFFFFFFF1FFFFFFFFFFF01FFFFFFF03FFFFFFF0FFFFF7FFFFF80FFFFFF m)
    (h : execDieTempSample t0 t1 t2 s = .next t) : t.pending = s.pending ∧ Changes m s.dev t.dev := by
  unfold execDieTempSample at h
  refine of_onRun h (bit_of hm (by decide)) (fun d hd => ?_)
  try dsimp only
  repeat' (first | with_reducible assumption | split | (intro _) | with_reducible apply ch_dieTemps | exact sub_trans hm (by decide) | exact any_of hm (by decide) _)

theorem ch_execFwTrialTimeout {m : Nat}  {s t : State} (hm : Within 0x1FF0FFFFF001FFF01FFFF00FFFFFFF00FFFFFFF00FFFFFFFFFF00FFFF07FFFF1FFFFF03FFFFFFF3FFFFFFFF1FFFFFFFFFFF01FFFFFFF03FFFFFFF0FFFFF7FFFFF80FFFFFF m)
    (h : execFwTrialTimeout  s = .next t) : t.pending = s.pending ∧ Changes m s.dev t.dev := by
  unfold execFwTrialTimeout at h
  refine of_onLive h (bit_of hm (by decide)) (fun d hd => ?_)
  try dsimp only
  repeat' (first | with_reducible assumption | split | (intro _) | with_reducible apply ch_trialTimeout | exact sub_trans hm (by decide) | exact any_of hm (by decide) _)

theorem ch_execVauxReverse {m : Nat}  {s t : State} (hm : Within 0x1FF0FFFFF001FFF01FFFF00FFFFFFF00FFFFFFF00FFFFFFFFFF00FFFF07FFFF1FFFFF03FFFFFFF3FFFFFFFF1FFFFFFFFFFF01FFFFFFF03FFFFFFF0FFFFF7FFFFF80FFFFFF m)
    (h : execVauxReverse  s = .next t) : t.pending = s.pending ∧ Changes m s.dev t.dev := by
  unfold execVauxReverse at h
  refine of_onDev h (bit_of hm (by decide)) (fun d hd => ?_)
  try dsimp only
  repeat' (first | with_reducible assumption | split | (intro _) | with_reducible apply ch_supplyGone | exact sub_trans hm (by decide) | exact any_of hm (by decide) _)

theorem ch_execResetPinRelease {m : Nat}  {s t : State} (hm : Within 0x8000000044 m)
    (h : execResetPinRelease  s = .next t) : t.pending = s.pending ∧ Changes m s.dev t.dev := by
  unfold execResetPinRelease at h
  refine of_onDev h (bit_of hm (by decide)) (fun d hd => ?_)
  try dsimp only
  repeat' (first | with_reducible assumption | split | (intro _) | with_reducible apply ch_pinRelease | exact sub_trans hm (by decide))

theorem ch_execWatchdogExpiry {m : Nat}  {s t : State} (hm : Within 0x1FF0FFFFF001FFF01FFFF00FFFFFFF00FFFFFFF00FFFFFFFFFF00FFFF07FFFF1FFFFF03FFFFFFF3FFFFFFFF1FFFFFFFFFFF01FFFFFFF03FFFFFFF0FFFFF7FFFFF80FFFFFF m)
    (h : execWatchdogExpiry  s = .next t) : t.pending = s.pending ∧ Changes m s.dev t.dev := by
  unfold execWatchdogExpiry at h
  refine of_onRun h (bit_of hm (by decide)) (fun d hd => ?_)
  try dsimp only
  repeat' (first | with_reducible assumption | split | (intro _) | with_reducible apply ch_takeReset | exact sub_trans hm (by decide) | exact any_of hm (by decide) _)

theorem ch_execDieLinkFail {m : Nat}  {s t : State} (hm : Within 0x1FF0FFFFF001FFF01FFFF00FFFFFFF00FFFFFFF00FFFFFFFFFF00FFFF07FFFF1FFFFF03FFFFFFF3FFFFFFFF1FFFFFFFFFFF01FFFFFFF03FFFFFFF0FFFFF7FFFFF80FFFFFF m)
    (h : execDieLinkFail  s = .next t) : t.pending = s.pending ∧ Changes m s.dev t.dev := by
  unfold execDieLinkFail at h
  refine of_onDev h (bit_of hm (by decide)) (fun d hd => ?_)
  try dsimp only
  repeat' (first | with_reducible assumption | split | (intro _) | with_reducible apply ch_takeReset | exact sub_trans hm (by decide) | exact any_of hm (by decide) _)

theorem ch_execSramEccError {m : Nat} {double : Bool} {region : Fin 15} {op : Option Src} {s t : State} (hm : Within 0x1FF0FFFFF001FFF01FFFF00FFFFFFF00FFFFFFF00FFFFFFFFFF00FFFF07FFFF1FFFFF03FFFFFFF3FFFFFFFF1FFFFFFFFFFF01FFFFFFF03FFFFFFF0FFFFF7FFFFF80FFFFFF m)
    (h : execSramEccError double region op s = .next t) : t.pending = s.pending ∧ Changes m s.dev t.dev := by
  unfold execSramEccError at h
  refine of_onLive h (bit_of hm (by decide)) (fun d hd => ?_)
  try dsimp only
  repeat' (first | with_reducible assumption | split | (intro _) | with_reducible apply ch_sramError | exact sub_trans hm (by decide) | exact any_of hm (by decide) _)

theorem ch_execResetPinArm {m : Nat}  {s t : State} (hm : Within 0x8000000005 m)
    (h : execResetPinArm  s = .next t) : t.pending = s.pending ∧ Changes m s.dev t.dev := by
  unfold execResetPinArm at h
  refine of_onDev h (bit_of hm (by decide)) (fun d hd => ?_)
  try dsimp only
  repeat' (first | with_reducible assumption | split | (intro _) | with_reducible apply ch_pinArm | exact sub_trans hm (by decide))

theorem ch_execHibernateRequest {m : Nat} {saveGood : Bool} {commitGood : Bool} {vioHeavy : Bool} {s t : State} (hm : Within 0x1FF0FFFFF001FFF01FFFF00FFFFFFF00FFFFFFF00FFFFFFFFFF00FFFF07FFFF1FFFFF03FFFFFFF3FFFFFFFF1FFFFFFFFFFF01FFFFFFF03FFFFFFF0FFFFF7FFFFF80FFFFFF m)
    (h : execHibernateRequest saveGood commitGood vioHeavy s = .next t) : t.pending = s.pending ∧ Changes m s.dev t.dev := by
  unfold execHibernateRequest at h
  refine of_onReg h (bit_of hm (by decide)) (fun d hd => ?_)
  try dsimp only
  repeat' (first | with_reducible assumption | split | (intro _) | with_reducible apply ch_answered | with_reducible apply ch_hibernate | exact sub_trans hm (by decide) | exact any_of hm (by decide) _)

end Dev

end Sys2Proof.Machine
end

