-- ==== Sys2Proof/Laws/HostAccessCh.lean ====
section
/-! SUPPORT. What each definition of Machine/HostAccess.lean may change. -/

namespace Sys2Proof.Machine

set_option linter.all false
set_option Elab.async false

namespace Dev

theorem ch_rejectIn {m : Nat} {s0 : Dev} (s : Dev) (b : Nat) (c : Code)
    (hm : Within 0x4 m) (h0 : Changes m s0 s) (h1 : Writes m (rejection b).1.off) :
    Changes m s0 (Dev.rejectIn s b c) := by
  unfold Dev.rejectIn
  try dsimp only
  repeat' (first | with_reducible assumption | split | (intro _) | with_reducible apply ch_reject | exact sub_trans hm (by decide))

theorem ch_outEnable {m : Nat} {s0 : Dev} (s : Dev) (n : Fin 16) (en : Bool)
    (hm : Within 0x2400000000000000000000000000000000000000000000000000000000000000000000000004 m) (h0 : Changes m s0 s) :
    Changes m s0 (Dev.outEnable s n en) := by
  unfold Dev.outEnable
  try dsimp only
  repeat' (first | with_reducible assumption | split | (intro _) | with_reducible apply ch_setb | with_reducible apply ch_answer | with_reducible apply ch_rejectIn | exact sub_trans hm (by decide) | with_reducible exact reg_of hm at_VSS_REJECT_CNT (by decide) | with_reducible exact reg_of hm (at_VSS_OUT_CFG _) (by decide))

theorem ch_vssEnable {m : Nat} {s0 : Dev} (s : Dev) (en : Bool)
    (hm : Within 0x14000000000000000000000000000000000000000000000000000000000005000000000000000000000000000000000000000000000000000000084072080000000001A4 m) (h0 : Changes m s0 s) :
    Changes m s0 (Dev.vssEnable s en) := by
  unfold Dev.vssEnable
  try dsimp only
  repeat' (first | with_reducible assumption | split | (intro _) | with_reducible apply ch_setb | with_reducible apply ch_rejectIn | with_reducible apply ch_chgReady | exact sub_trans hm (by decide) | with_reducible exact reg_of hm at_VSS_CTRL (by decide) | with_reducible exact reg_of hm at_VSS_REJECT_CNT (by decide))

theorem ch_vssAct {m : Nat} {s0 : Dev} (s : Dev) (off : Nat) (v : Word)
    (hm : Within 0x14081180000000000000000000000000003C0100000000000000000002202700000000000001000000000000000000000000000000000000000008407208000000030DA6 m) (h0 : Changes m s0 s) :
    Changes m s0 (Dev.vssAct s off v) := by
  unfold Dev.vssAct
  try dsimp only
  repeat' (first | with_reducible assumption | split | (intro _) | with_reducible apply ch_when | with_reducible apply ch_setb | with_reducible apply ch_outEnable | with_reducible apply ch_showOwners | with_reducible apply ch_answer | with_reducible apply ch_endSession | with_reducible apply ch_vssEnable | exact sub_trans hm (by decide) | with_reducible exact reg_of hm (at_VSS_OUT_STATE _) (by decide))

theorem ch_outcome {m : Nat} {s0 : Dev} (q : Dev × Option Code)
    (hm : Within 0x4 m) (h0 : Changes m s0 q.1) :
    Changes m s0 (Dev.outcome q) := by
  unfold Dev.outcome
  try dsimp only
  repeat' (first | with_reducible assumption | split | (intro _) | with_reducible apply ch_answer | exact sub_trans hm (by decide))

theorem ch_slnAct {m : Nat} {s0 : Dev} (s : Dev) (off : Nat) (v : Word)
    (hm : Within 0x140000000000000000000000000000000000000000000000000000000000001FC002000000000000000000000000000000000000000000000000084072000000000801A4 m) (h0 : Changes m s0 s) :
    Changes m s0 (Dev.slnAct s off v) := by
  unfold Dev.slnAct
  try dsimp only
  repeat' (first | with_reducible assumption | split | (intro _) | with_reducible apply ch_when | with_reducible apply ch_setb | with_reducible apply ch_slnAccept | with_reducible apply ch_slnForget | exact sub_trans hm (by decide) | with_reducible exact reg_of hm at_SLN_STATUS (by decide))

theorem ch_unstage {m : Nat} {s0 : Dev} (s : Dev) (lo : Nat)
    (hm : Within 0x10 m) (h0 : Changes m s0 s) :
    Changes m s0 (Dev.unstage s lo) := by
  unfold Dev.unstage
  try dsimp only
  repeat' (first | with_reducible assumption | split | (intro _) | with_reducible apply ch_putStaging | exact bit_of hm (by decide))

theorem ch_writeLow {m : Nat} {s0 : Dev} (s : Dev) (lo : Nat) (v : Word)
    (hm : Within 0x10 m) (h0 : Changes m s0 s) :
    Changes m s0 (Dev.writeLow s lo v) := by
  unfold Dev.writeLow
  try dsimp only
  repeat' (first | with_reducible assumption | split | (intro _) | with_reducible apply ch_putStaging | with_reducible apply ch_unstage | exact sub_trans hm (by decide) | exact bit_of hm (by decide))

theorem ch_triadDisable {m : Nat} {s0 : Dev} (s : Dev) (n : Fin 16)
    (hm : Within 0x14000000000000000078000000000000000000000000000000000000000000000000000000000000000000000000000000000000000000000000084072000000000001A4 m) (h0 : Changes m s0 s) :
    Changes m s0 (Dev.triadDisable s n) := by
  unfold Dev.triadDisable
  try dsimp only
  repeat' (first | with_reducible assumption | split | (intro _) | with_reducible apply ch_setb | with_reducible apply ch_rejectIn | with_reducible apply ch_refreshTriad | exact sub_trans hm (by decide) | with_reducible exact reg_of hm at_TRI_REJECT_CNT (by decide) | with_reducible exact reg_of hm (at_TRI_OUT_CFG _) (by decide))

theorem ch_triAct {m : Nat} {s0 : Dev} (s : Dev) (off : Nat) (v : Word)
    (hm : Within 0x14000000000000014078000000000000000000000000000000000000000000000000000000000000000000000000000000000000000000000000084072000000000081A4 m) (h0 : Changes m s0 s) :
    Changes m s0 (Dev.triAct s off v) := by
  unfold Dev.triAct
  try dsimp only
  repeat' (first | with_reducible assumption | split | (intro _) | with_reducible apply ch_forEach | with_reducible apply ch_outcome | with_reducible apply ch_triadEnable | with_reducible apply ch_triadDisable | with_reducible apply ch_standbyRequest | with_reducible apply ch_readmitRequest | exact sub_trans hm (by decide))

theorem ch_safAct {m : Nat} {s0 : Dev} (s : Dev) (off : Nat) (v : Word)
    (hm : Within 0x1F408108000142B000000000000000000003C0100000000000000000002202200000000000001000000000000000000000000100804203FC0004608407200000000231FE6 m) (h0 : Changes m s0 s) :
    Changes m s0 (Dev.safAct s off v) := by
  unfold Dev.safAct
  try dsimp only
  repeat' (first | with_reducible assumption | split | (intro _) | with_reducible apply ch_when | with_reducible apply ch_safConfirm | with_reducible apply ch_faultClr | with_reducible apply ch_hostResetAction | exact sub_trans hm (by decide))

theorem ch_armByWrite {m : Nat} {s0 : Dev} (s : Dev) (i : Fin 408)
    (hm : Within 0x1400000000000000000000000000000000000000000000000000000000000000000000000001000000000000000000000001100804200000000008407200000000000DA6 m) (h0 : Changes m s0 s) :
    Changes m s0 (Dev.armByWrite s i).1 := by
  unfold Dev.armByWrite
  try dsimp only
  repeat' (first | with_reducible assumption | split | (intro _) | with_reducible apply ch_fresh | with_reducible apply ch_armLeg | exact sub_trans hm (by decide))

theorem ch_legAct {m : Nat} {s0 : Dev} (s : Dev) (i : Fin 408) (v : Word)
    (hm : Within 0x1400000000000000000000000000000000000000000000000000000000000000000000000001000000000000000000000001100804200000000008407200000000000DA6 m) (h0 : Changes m s0 s) :
    Changes m s0 (Dev.legAct s i v) := by
  unfold Dev.legAct
  try dsimp only
  repeat' (first | with_reducible assumption | split | (intro _) | with_reducible apply ch_outcome | with_reducible apply ch_armByWrite | with_reducible apply ch_disarmLeg | exact sub_trans hm (by decide))

theorem ch_captureHigh {m : Nat} {s0 : Dev} (s : Dev) (lo : Nat)
    (hm : Within 0x8 m) (h0 : Changes m s0 s) :
    Changes m s0 (Dev.captureHigh s lo) := by
  unfold Dev.captureHigh
  try dsimp only
  repeat' (first | with_reducible assumption | split | (intro _) | with_reducible apply ch_putCapture | exact bit_of hm (by decide))

theorem ch_regRead {m : Nat} {s0 : Dev} (s : Dev) (off : Nat)
    (hm : Within 0x1FF0FFFFF001FFF01FFFF00FFFFFFF00FFFFFFF00FFFFFFFFFF00FFFF07FFFF1FFFFF03FFFFFFF3FFFFFFFF1FFFFFFFFFFF01FFFFFFF03FFFFFFF0FFFFF7FFFFF80000008 m) (h0 : Changes m s0 s) :
    Changes m s0 (Dev.regRead s off).1 := by
  unfold Dev.regRead
  try dsimp only
  repeat' (first | with_reducible assumption | split | (intro _) | with_reducible apply ch_set | with_reducible apply ch_wr | with_reducible apply ch_captureHigh | exact sub_trans hm (by decide) | with_reducible exact reg_of hm (at_PST_PHY_EQ _) (by decide) | exact any_of hm (by decide) _)

theorem ch_hostRead {m : Nat} {s0 : Dev} (s : Dev) (off : Nat)
    (hm : Within 0x1FF0FFFFF001FFF01FFFF00FFFFFFF00FFFFFFF00FFFFFFFFFF00FFFF07FFFF1FFFFF03FFFFFFF3FFFFFFFF1FFFFFFFFFFF01FFFFFFF03FFFFFFF0FFFFF7FFFFF8000000C m) (h0 : Changes m s0 s) :
    Changes m s0 (Dev.hostRead s off) := by
  unfold Dev.hostRead
  try dsimp only
  repeat' (first | with_reducible assumption | split | (intro _) | with_reducible apply ch_emit | with_reducible apply ch_regRead | exact sub_trans hm (by decide) | exact any_of hm (by decide) _)

theorem ch_writeHigh {m : Nat} {s0 : Dev} (s : Dev) (r : RegRow) (lo : Nat) (v : Word)
    (hm : Within 0x1FF0FFFFF001FFF01FFFF00FFFFFFF00FFFFFFF00FFFFFFFFFF00FFFF07FFFF1FFFFF03FFFFFFF3FFFFFFFF1FFFFFFFFFFF01FFFFFFF03FFFFFFF0FFFFF7FFFFF80028DB6 m) (h0 : Changes m s0 s) :
    Changes m s0 (Dev.writeHigh s r lo v) := by
  unfold Dev.writeHigh
  try dsimp only
  repeat' (first | with_reducible assumption | split | (intro _) | with_reducible apply ch_wr | with_reducible apply ch_unstage | with_reducible apply ch_rejectIn | with_reducible apply ch_presenceChanged | exact sub_trans hm (by decide) | exact any_of hm (by decide) _)

theorem ch_thmEnable {m : Nat} {s0 : Dev} (s : Dev) (en : Bool)
    (hm : Within 0x1400000000000000000000000000000000000000000000000000000000000000000000000001002400000700000000000000000000000000000008407200000000002DA6 m) (h0 : Changes m s0 s) :
    Changes m s0 (Dev.thmEnable s en) := by
  unfold Dev.thmEnable
  try dsimp only
  repeat' (first | with_reducible assumption | split | (intro _) | with_reducible apply ch_forEach | with_reducible apply ch_setb | with_reducible apply ch_rejectIn | with_reducible apply ch_requestRates | with_reducible apply ch_modCab | with_reducible apply ch_setIlim | exact sub_trans hm (by decide) | with_reducible exact reg_of hm at_THM_CTRL (by decide) | with_reducible exact reg_of hm at_THM_REJECT_CNT (by decide))

theorem ch_thmAct {m : Nat} {s0 : Dev} (s : Dev) (off : Nat) (v : Word)
    (hm : Within 0x1400000000000000000000000000000000000000000000000000000000000000000000000001002400060700000000000000000000000000000008407200000000002DA6 m) (h0 : Changes m s0 s) :
    Changes m s0 (Dev.thmAct s off v) := by
  unfold Dev.thmAct
  try dsimp only
  repeat' (first | with_reducible assumption | split | (intro _) | with_reducible apply ch_when | with_reducible apply ch_refreshDerate | with_reducible apply ch_outcome | with_reducible apply ch_cabEnable | with_reducible apply ch_rejectIn | with_reducible apply ch_cabDisable | with_reducible apply ch_thmEnable | with_reducible apply ch_snsOff | with_reducible apply ch_requestRates | exact sub_trans hm (by decide) | with_reducible exact reg_of hm at_THM_REJECT_CNT (by decide))

theorem ch_alcAct {m : Nat} {s0 : Dev} (s : Dev) (off : Nat) (v : Word)
    (hm : Within 0x1F4081080000000000000000000000000003C0100000000000000000002202200000000000001000000000000000000000000100804203FC0004F08407200000000031FA6 m) (h0 : Changes m s0 s) :
    Changes m s0 (Dev.alcAct s off v) := by
  unfold Dev.alcAct
  try dsimp only
  repeat' (first | with_reducible assumption | split | (intro _) | with_reducible apply ch_when | with_reducible apply ch_latch | with_reducible apply ch_outcome | with_reducible apply ch_writeRun | with_reducible apply ch_hostTrip | with_reducible apply ch_tripClear | with_reducible apply ch_refreshStages | exact sub_trans hm (by decide) | exact bit_of hm (by decide) | with_reducible exact reg_of hm at_ALC_STATUS (by decide))

theorem ch_edgAct {m : Nat} {s0 : Dev} (s : Dev) (off : Nat) (v : Word)
    (hm : Within 0x1400000000000000000000000000000000000000000000000000000000000000000000000001000000000000000000000001100804700000000008407200000000000DA6 m) (h0 : Changes m s0 s) :
    Changes m s0 (Dev.edgAct s off v) := by
  unfold Dev.edgAct
  try dsimp only
  repeat' (first | with_reducible assumption | split | (intro _) | with_reducible apply ch_setb | with_reducible apply ch_legAct | with_reducible apply ch_rejectIn | with_reducible apply ch_rebindAll | exact sub_trans hm (by decide) | with_reducible exact reg_of hm at_EDG_CTRL (by decide) | with_reducible exact reg_of hm at_EDG_REJECT_CNT (by decide))

theorem ch_unmask {m : Nat} {s0 : Dev} (s : Dev) (v : Fin 64)
    (hm : Within 0x8000000000000000004 m) (h0 : Changes m s0 s) :
    Changes m s0 (Dev.unmask s v) := by
  unfold Dev.unmask
  try dsimp only
  repeat' (first | with_reducible assumption | split | (intro _) | with_reducible apply ch_wr | with_reducible apply ch_emit | exact sub_trans hm (by decide) | with_reducible exact reg_of hm (at_HIF_MSIX_PBA _) (by decide))

theorem ch_hifAct {m : Nat} {s0 : Dev} (s : Dev) (off : Nat) (v : Word)
    (hm : Within 0x14000000000000000000000000000000000000000000000000000000000000000000000000000000000000000000000000000000000000000000086076000000000001A6 m) (h0 : Changes m s0 s) :
    Changes m s0 (Dev.hifAct s off v) := by
  unfold Dev.hifAct
  try dsimp only
  repeat' (first | with_reducible assumption | split | (intro _) | with_reducible apply ch_when | with_reducible apply ch_wr | with_reducible apply ch_ringEnable | with_reducible apply ch_ringDisable | with_reducible apply ch_unmask | exact sub_trans hm (by decide) | with_reducible exact reg_of hm at_HIF_ALERT_FIRST (by decide))

theorem ch_canAct {m : Nat} {s0 : Dev} (s : Dev) (off : Nat) (v : Word)
    (hm : Within 0xC700000000000000000000000000000000000000000000000000000000000008400200000000800086 m) (h0 : Changes m s0 s) :
    Changes m s0 (Dev.canAct s off v) := by
  unfold Dev.canAct
  try dsimp only
  repeat' (first | with_reducible assumption | split | (intro _) | with_reducible apply ch_canEnable | with_reducible apply ch_fresh | with_reducible apply ch_canDisable | with_reducible apply ch_canStartRecovery | exact sub_trans hm (by decide))

theorem ch_modeWrite {m : Nat} {s0 : Dev} (s : Dev) (a1 : Nat)
    (hm : Within 0x1FF0FFFFF001FFF01FFFF00FFFFFFF00FFFFFFF00FFFFFFFFFF00FFFF07FFFF1FFFFF03FFFFFFF3FFFFFFFF1FFFFFFFFFFF01FFFFFFF03FFFFFFF0FFFFF7FFFFF80FFFFFF m) (h0 : Changes m s0 s) :
    Changes m s0 (Dev.modeWrite s a1) := by
  unfold Dev.modeWrite
  try dsimp only
  repeat' (first | with_reducible assumption | split | (intro _) | with_reducible apply ch_modeRun | with_reducible apply ch_answered | with_reducible apply ch_modeIdle | with_reducible apply ch_modeStandby | with_reducible apply ch_fresh | with_reducible apply ch_hibernate | exact sub_trans hm (by decide) | exact any_of hm (by decide) _)

theorem ch_genAct {m : Nat} {s0 : Dev} (s : Dev) (off : Nat) (v : Word)
    (hm : Within 0x1FF0FFFFF001FFF01FFFF00FFFFFFF00FFFFFFF00FFFFFFFFFF00FFFF07FFFF1FFFFF03FFFFFFF3FFFFFFFF1FFFFFFFFFFF01FFFFFFF03FFFFFFF0FFFFF7FFFFF80FFFFFF m) (h0 : Changes m s0 s) :
    Changes m s0 (Dev.genAct s off v) := by
  unfold Dev.genAct
  try dsimp only
  repeat' (first | with_reducible assumption | split | (intro _) | with_reducible apply ch_shReq | with_reducible apply ch_hostReset | with_reducible apply ch_modeWrite | exact sub_trans hm (by decide) | exact any_of hm (by decide) _)

theorem ch_slotAct {m : Nat} {s0 : Dev} (s : Dev) (a1 : Fin 128) (v : Word)
    (hm : Within 0x14000000000000000000000000000000000000000000000000000000000000000000000000000220000000000000100032000000000000000000084072000000000031A4 m) (h0 : Changes m s0 s) :
    Changes m s0 (Dev.slotAct s a1 v) := by
  unfold Dev.slotAct
  try dsimp only
  repeat' (first | with_reducible assumption | split | (intro _) | with_reducible apply ch_when | with_reducible apply ch_clearSlotFault | with_reducible apply ch_outcome | with_reducible apply ch_closeSlot | with_reducible apply ch_openSlot | exact sub_trans hm (by decide))

theorem ch_cleAct {m : Nat} {s0 : Dev} (s : Dev) (off : Nat) (v : Word)
    (hm : Within 0x14000000000000000000000000000000000000000000000000000000000000000000000000000220000000000000100037000000000000000000084072000000000031A4 m) (h0 : Changes m s0 s) :
    Changes m s0 (Dev.cleAct s off v) := by
  unfold Dev.cleAct
  try dsimp only
  repeat' (first | with_reducible assumption | split | (intro _) | with_reducible apply ch_setb | with_reducible apply ch_slotAct | with_reducible apply ch_resampleAll | with_reducible apply ch_rejectIn | exact sub_trans hm (by decide) | with_reducible exact reg_of hm at_CLE_CTRL (by decide) | with_reducible exact reg_of hm at_CLE_REJECT_CNT (by decide))

theorem ch_pstAct {m : Nat} {s0 : Dev} (s : Dev) (off : Nat) (v : Word)
    (hm : Within 0x140000000000000140480000000000000F000000000000000000000000000000000003FDEF81220000000000000000000000000004000000000008407200400800028DA6 m) (h0 : Changes m s0 s) :
    Changes m s0 (Dev.pstAct s off v) := by
  unfold Dev.pstAct
  try dsimp only
  repeat' (first | with_reducible assumption | split | (intro _) | with_reducible apply ch_when | with_reducible apply ch_pisteEnable | with_reducible apply ch_outcome | with_reducible apply ch_pisteDisable | with_reducible apply ch_pisteRestart | with_reducible apply ch_admitAccept | with_reducible apply ch_admitForget | exact sub_trans hm (by decide))

theorem ch_mtrAct {m : Nat} {s0 : Dev} (s : Dev) (off : Nat) (v : Word)
    (hm : Within 0x140000000000000000000000000000000000000000000000000000000000000000000000000000000000000000004004 m) (h0 : Changes m s0 s) :
    Changes m s0 (Dev.mtrAct s off v) := by
  unfold Dev.mtrAct
  try dsimp only
  repeat' (first | with_reducible assumption | split | (intro _) | with_reducible apply ch_setb | with_reducible apply ch_answer | with_reducible apply ch_pulseEnable | exact sub_trans hm (by decide) | with_reducible exact reg_of hm (at_MTR_PLS_CFG _) (by decide))

theorem ch_bseAct {m : Nat} {s0 : Dev} (s : Dev) (off : Nat) (v : Word)
    (hm : Within 0x14000000000000000000003C0881900000000000000000000000000000000000000000000001000000000000000000000000000000000000000008407200000000400DA6 m) (h0 : Changes m s0 s) :
    Changes m s0 (Dev.bseAct s off v) := by
  unfold Dev.bseAct
  try dsimp only
  repeat' (first | with_reducible assumption | split | (intro _) | with_reducible apply ch_when | with_reducible apply ch_setb | with_reducible apply ch_outcome | with_reducible apply ch_strEnable | with_reducible apply ch_strDisable | with_reducible apply ch_rejectIn | with_reducible apply ch_hostSwap | with_reducible apply ch_showStr | with_reducible apply ch_modStr | exact sub_trans hm (by decide) | with_reducible exact reg_of hm at_BSE_CTRL (by decide) | with_reducible exact reg_of hm at_BSE_REJECT_CNT (by decide))

theorem ch_lswAct {m : Nat} {s0 : Dev} (s : Dev) (off : Nat) (v : Word)
    (hm : Within 0x14081DC3000000000000000000000000003C01000000000000000000022022000000000000010000000000000000000000000000000000000000084072000000001B0DA6 m) (h0 : Changes m s0 s) :
    Changes m s0 (Dev.lswAct s off v) := by
  unfold Dev.lswAct
  try dsimp only
  repeat' (first | with_reducible assumption | split | (intro _) | with_reducible apply ch_when | with_reducible apply ch_lswEnWrite | with_reducible apply ch_lswUnlock | with_reducible apply ch_lswOnWrite | exact sub_trans hm (by decide))

theorem ch_ldgAct {m : Nat} {s0 : Dev} (s : Dev) (off : Nat) (v : Word)
    (hm : Within 0x1F4000000000000000000000000000000000000000000000000000000000000000000000000000000000000000000000000000000000000000000084072000000000001A4 m) (h0 : Changes m s0 s) :
    Changes m s0 (Dev.ldgAct s off v) := by
  unfold Dev.ldgAct
  try dsimp only
  repeat' (first | with_reducible assumption | split | (intro _) | with_reducible apply ch_when | with_reducible apply ch_freeze | with_reducible apply ch_snapRelease | exact sub_trans hm (by decide))

theorem ch_regAct {m : Nat} {s0 : Dev} (s : Dev) (off : Nat) (v : Word)
    (hm : Within 0x1FF0FFFFF001FFF01FFFF00FFFFFFF00FFFFFFF00FFFFFFFFFF00FFFF07FFFF1FFFFF03FFFFFFF3FFFFFFFF1FFFFFFFFFFF01FFFFFFF03FFFFFFF0FFFFF7FFFFF80FFFFFF m) (h0 : Changes m s0 s) :
    Changes m s0 (Dev.regAct s off v) := by
  unfold Dev.regAct
  try dsimp only
  repeat' (first | with_reducible assumption | split | (intro _) | with_reducible apply ch_genAct | with_reducible apply ch_hifAct | with_reducible apply ch_alcAct | with_reducible apply ch_edgAct | with_reducible apply ch_cleAct | with_reducible apply ch_thmAct | with_reducible apply ch_pstAct | with_reducible apply ch_slnAct | with_reducible apply ch_vssAct | with_reducible apply ch_canAct | with_reducible apply ch_mtrAct | with_reducible apply ch_bseAct | with_reducible apply ch_triAct | with_reducible apply ch_safAct | with_reducible apply ch_lswAct | with_reducible apply ch_ldgAct | exact sub_trans hm (by decide) | exact any_of hm (by decide) _)

theorem ch_afterCheck {m : Nat} {s0 : Dev} (s : Dev) (off : Nat) (old : Word)
    (hm : Within 0x20000000000000000000000000000000000000000000000000000000000000800 m) (h0 : Changes m s0 s) :
    Changes m s0 (Dev.afterCheck s off old) := by
  unfold Dev.afterCheck
  try dsimp only
  repeat' (first | with_reducible assumption | split | (intro _) | with_reducible apply ch_when | with_reducible apply ch_prbsClear | exact sub_trans hm (by decide))

theorem ch_afterChange {m : Nat} {s0 : Dev} (s : Dev) (off : Nat) (accepted : Bool)
    (hm : Within 0x1F408108000142D000000000000000000003C0100000000000000000002202200000000000001000000000000000000000000100804203FC0004608407200000000231FA6 m) (h0 : Changes m s0 s) :
    Changes m s0 (Dev.afterChange s off accepted) := by
  unfold Dev.afterChange
  try dsimp only
  repeat' (first | with_reducible assumption | split | (intro _) | with_reducible apply ch_safWritten | exact sub_trans hm (by decide))

theorem ch_writeWord {m : Nat} {s0 : Dev} (s : Dev) (r : RegRow) (off : Nat) (v : Word)
    (hm : Within 0x1FF0FFFFF001FFF01FFFF00FFFFFFF00FFFFFFF00FFFFFFFFFF00FFFF07FFFF1FFFFF03FFFFFFF3FFFFFFFF1FFFFFFFFFFF01FFFFFFF03FFFFFFF0FFFFF7FFFFF80FFFFFF m) (h0 : Changes m s0 s) :
    Changes m s0 (Dev.writeWord s r off v) := by
  unfold Dev.writeWord
  try dsimp only
  repeat' (first | with_reducible assumption | split | (intro _) | with_reducible apply ch_when | with_reducible apply ch_wr | with_reducible apply ch_rejectIn | with_reducible apply ch_regAct | with_reducible apply ch_afterCheck | with_reducible apply ch_afterChange | exact sub_trans hm (by decide) | exact any_of hm (by decide) _)

theorem ch_barRead {m : Nat} {s0 : Dev} (s : Dev) (bar : Bar) (off : Nat)
    (hm : Within 0x1FF0FFFFF001FFF01FFFF00FFFFFFF00FFFFFFF00FFFFFFFFFF00FFFF07FFFF1FFFFF03FFFFFFF3FFFFFFFF1FFFFFFFFFFF01FFFFFFF03FFFFFFF0FFFFF7FFFFF8000000C m) (h0 : Changes m s0 s) :
    Changes m s0 (Dev.barRead s bar off) := by
  unfold Dev.barRead
  try dsimp only
  repeat' (first | with_reducible assumption | split | (intro _) | with_reducible apply ch_hostRead | with_reducible apply ch_emit | exact sub_trans hm (by decide) | exact any_of hm (by decide) _)

theorem ch_refuseBoth {m : Nat} {s0 : Dev} (s : Dev) (off : Nat)
    (hm : Within 0x10000000100800000000000000000000000000000004 m) (h0 : Changes m s0 s) :
    Changes m s0 (Dev.refuseBoth s off) := by
  unfold Dev.refuseBoth
  try dsimp only
  repeat' (first | with_reducible assumption | split | (intro _) | with_reducible apply ch_set | with_reducible apply ch_answer | exact sub_trans hm (by decide) | with_reducible exact reg_of2 hm (at_EDG_LEG_CTL _) (by decide) (by decide) | with_reducible exact reg_of hm (at_CLE_SLOT_CTL _) (by decide))

theorem ch_regWrite {m : Nat} {s0 : Dev} (s : Dev) (off : Nat) (v : Word)
    (hm : Within 0x1FF0FFFFF001FFF01FFFF00FFFFFFF00FFFFFFF00FFFFFFFFFF00FFFF07FFFF1FFFFF03FFFFFFF3FFFFFFFF1FFFFFFFFFFF01FFFFFFF03FFFFFFF0FFFFF7FFFFF80FFFFFF m) (h0 : Changes m s0 s) :
    Changes m s0 (Dev.regWrite s off v) := by
  unfold Dev.regWrite
  try dsimp only
  repeat' (first | with_reducible assumption | split | (intro _) | with_reducible apply ch_writeLow | with_reducible apply ch_writeHigh | with_reducible apply ch_refuseBoth | with_reducible apply ch_writeWord | exact sub_trans hm (by decide) | exact any_of hm (by decide) _)

theorem ch_regWriteCode {m : Nat} {s0 : Dev} (s : Dev) (off : Nat) (v : Word)
    (hm : Within 0x1FF0FFFFF001FFF01FFFF00FFFFFFF00FFFFFFF00FFFFFFFFFF00FFFF07FFFF1FFFFF03FFFFFFF3FFFFFFFF1FFFFFFFFFFF01FFFFFFF03FFFFFFF0FFFFF7FFFFF80FFFFFF m) (h0 : Changes m s0 s) :
    Changes m s0 (Dev.regWriteCode s off v).1 := by
  unfold Dev.regWriteCode
  try dsimp only
  repeat' (first | with_reducible assumption | split | (intro _) | with_reducible apply ch_putOut | with_reducible apply ch_regWrite | exact sub_trans hm (by decide) | exact bit_of hm (by decide) | exact any_of hm (by decide) _)

theorem ch_hostWrite {m : Nat} {s0 : Dev} (s : Dev) (off : Nat) (v : Word)
    (hm : Within 0x1FF0FFFFF001FFF01FFFF00FFFFFFF00FFFFFFF00FFFFFFFFFF00FFFF07FFFF1FFFFF03FFFFFFF3FFFFFFFF1FFFFFFFFFFF01FFFFFFF03FFFFFFF0FFFFF7FFFFF80FFFFFF m) (h0 : Changes m s0 s) :
    Changes m s0 (Dev.hostWrite s off v) := by
  unfold Dev.hostWrite
  try dsimp only
  repeat' (first | with_reducible assumption | split | (intro _) | with_reducible apply ch_regWriteCode | with_reducible apply ch_answer | exact sub_trans hm (by decide) | exact any_of hm (by decide) _)

theorem ch_execPcieEarlyRequest {m : Nat} {configuration : Bool} {s t : State} (hm : Within 0x4 m)
    (h : execPcieEarlyRequest configuration s = .next t) : t.pending = s.pending ∧ Changes m s.dev t.dev := by
  unfold execPcieEarlyRequest at h
  refine of_onDev h (bit_of hm (by decide)) (fun d hd => ?_)
  try dsimp only
  repeat' (first | with_reducible assumption | split | (intro _) | with_reducible apply ch_emit | exact sub_trans hm (by decide))

theorem ch_execReg64LowRead {m : Nat} {offset : BitVec 21} {s t : State} (hm : Within 0x1FF0FFFFF001FFF01FFFF00FFFFFFF00FFFFFFF00FFFFFFFFFF00FFFF07FFFF1FFFFF03FFFFFFF3FFFFFFFF1FFFFFFFFFFF01FFFFFFF03FFFFFFF0FFFFF7FFFFF8000000C m)
    (h : execReg64LowRead offset s = .next t) : t.pending = s.pending ∧ Changes m s.dev t.dev := by
  unfold execReg64LowRead at h
  refine of_onDev h (bit_of hm (by decide)) (fun d hd => ?_)
  try dsimp only
  repeat' (first | with_reducible assumption | split | (intro _) | with_reducible apply ch_hostRead | exact sub_trans hm (by decide) | exact any_of hm (by decide) _)

theorem ch_execRegisterWrite {m : Nat} {offset : BitVec 21} {value : Word} {s t : State} (hm : Within 0x1FF0FFFFF001FFF01FFFF00FFFFFFF00FFFFFFF00FFFFFFFFFF00FFFF07FFFF1FFFFF03FFFFFFF3FFFFFFFF1FFFFFFFFFFF01FFFFFFF03FFFFFFF0FFFFF7FFFFF80FFFFFF m)
    (h : execRegisterWrite offset value s = .next t) : t.pending = s.pending ∧ Changes m s.dev t.dev := by
  unfold execRegisterWrite at h
  refine of_onReg h (bit_of hm (by decide)) (fun d hd => ?_)
  try dsimp only
  repeat' (first | with_reducible assumption | split | (intro _) | with_reducible apply ch_hostWrite | exact sub_trans hm (by decide) | exact any_of hm (by decide) _)

theorem ch_execReg64HighWrite {m : Nat} {offset : BitVec 21} {value : Word} {s t : State} (hm : Within 0x1FF0FFFFF001FFF01FFFF00FFFFFFF00FFFFFFF00FFFFFFFFFF00FFFF07FFFF1FFFFF03FFFFFFF3FFFFFFFF1FFFFFFFFFFF01FFFFFFF03FFFFFFF0FFFFF7FFFFF80FFFFFF m)
    (h : execReg64HighWrite offset value s = .next t) : t.pending = s.pending ∧ Changes m s.dev t.dev := by
  unfold execReg64HighWrite at h
  refine of_onReg h (bit_of hm (by decide)) (fun d hd => ?_)
  try dsimp only
  repeat' (first | with_reducible assumption | split | (intro _) | with_reducible apply ch_hostWrite | exact sub_trans hm (by decide) | exact any_of hm (by decide) _)

theorem ch_execClearOnReadRead {m : Nat} {bar : Bar} {offset : BitVec 21} {s t : State} (hm : Within 0x1FF0FFFFF001FFF01FFFF00FFFFFFF00FFFFFFF00FFFFFFFFFF00FFFF07FFFF1FFFFF03FFFFFFF3FFFFFFFF1FFFFFFFFFFF01FFFFFFF03FFFFFFF0FFFFF7FFFFF8000000C m)
    (h : execClearOnReadRead bar offset s = .next t) : t.pending = s.pending ∧ Changes m s.dev t.dev := by
  unfold execClearOnReadRead at h
  refine of_onDev h (bit_of hm (by decide)) (fun d hd => ?_)
  try dsimp only
  repeat' (first | with_reducible assumption | split | (intro _) | with_reducible apply ch_barRead | exact sub_trans hm (by decide) | exact any_of hm (by decide) _)

theorem ch_execReg64LowWrite {m : Nat} {offset : BitVec 21} {value : Word} {s t : State} (hm : Within 0x1FF0FFFFF001FFF01FFFF00FFFFFFF00FFFFFFF00FFFFFFFFFF00FFFF07FFFF1FFFFF03FFFFFFF3FFFFFFFF1FFFFFFFFFFF01FFFFFFF03FFFFFFF0FFFFF7FFFFF80FFFFFF m)
    (h : execReg64LowWrite offset value s = .next t) : t.pending = s.pending ∧ Changes m s.dev t.dev := by
  unfold execReg64LowWrite at h
  refine of_onReg h (bit_of hm (by decide)) (fun d hd => ?_)
  try dsimp only
  repeat' (first | with_reducible assumption | split | (intro _) | with_reducible apply ch_hostWrite | exact sub_trans hm (by decide) | exact any_of hm (by decide) _)

end Dev

end Sys2Proof.Machine
end

