-- ==== Sys2Proof/Laws/RestartCh.lean ====
section
/-! SUPPORT. What each definition of Machine/Restart.lean may change. -/

namespace Sys2Proof.Machine

set_option linter.all false
set_option Elab.async false

namespace Dev

theorem ch_loadedShow {m : Nat} {s0 : Dev} (s : Dev)
    (hm : Within 0x140001000000000140480000000000000F0000000000000000000000000000000002000000012200000000000000000000000000040000000000084072000000000A8DA6 m) (h0 : Changes m s0 s) :
    Changes m s0 (Dev.loadedShow s) := by
  unfold Dev.loadedShow
  try dsimp only
  repeat' (first | with_reducible assumption | split | (intro _) | with_reducible apply ch_setb | with_reducible apply ch_presenceChanged | with_reducible apply ch_slnCounts | with_reducible apply ch_showOwners | exact sub_trans hm (by decide) | with_reducible exact reg_of hm at_SLN_STATUS (by decide))

theorem ch_hostReady {m : Nat} {s0 : Dev} (s : Dev)
    (hm : Within 0x200200800040042 m) (h0 : Changes m s0 s) :
    Changes m s0 (Dev.hostReady s) := by
  unfold Dev.hostReady
  try dsimp only
  repeat' (first | with_reducible assumption | split | (intro _) | with_reducible apply ch_setb | with_reducible apply ch_set | with_reducible apply ch_linkUp | with_reducible apply ch_modKey | with_reducible apply ch_setPhase | exact sub_trans hm (by decide) | with_reducible exact reg_of hm at_GEN_STATUS (by decide) | with_reducible exact reg_of hm at_GEN_BOOT (by decide))

theorem ch_bootTimes {m : Nat} {s0 : Dev} (s : Dev)
    (hm : Within 0x2 m) (h0 : Changes m s0 s) :
    Changes m s0 (Dev.bootTimes s).2.2 := by
  unfold Dev.bootTimes
  try dsimp only
  repeat' (first | with_reducible assumption | split | (intro _) | with_reducible apply ch_fresh | exact sub_trans hm (by decide))

theorem ch_banksFound {m : Nat} {s0 : Dev} (s : Dev)
    (hm : Within 0x6800000000000000000000000000000000000000000000000000000000000000000000000000000000000000000000000000000000000000000000000000000000000 m) (h0 : Changes m s0 s) :
    Changes m s0 (Dev.banksFound s) := by
  unfold Dev.banksFound
  try dsimp only
  repeat' (first | with_reducible assumption | split | (intro _) | with_reducible apply ch_wr | with_reducible apply ch_setb | with_reducible apply ch_bankShow | exact sub_trans hm (by decide) | with_reducible exact reg_of hm at_KEY_FW (by decide) | with_reducible exact reg_of hm at_KEY_FW_VER_A (by decide) | with_reducible exact reg_of hm at_KEY_FW_VER_B (by decide))

theorem ch_startCause {m : Nat} {s0 : Dev} (s : Dev) (cause : Field)
    (hm : Within 0x1000000000 m) (h0 : Changes m s0 s) (h1 : Writes m cause.off) :
    Changes m s0 (Dev.startCause s cause) := by
  unfold Dev.startCause
  try dsimp only
  repeat' (first | with_reducible assumption | split | (intro _) | with_reducible apply ch_setb | with_reducible exact reg_of hm at_GEN_LIFECYCLE (by decide))

theorem ch_bootFirmware {m : Nat} {s0 : Dev} (s : Dev) (bad : List (Fin 2)) (wake : Bool)
    (hm : Within 0x1F407800000000000000000000000000000000000000000000000000000000000000000000000000000000000000000000000000000000000000008407200001C000601A4 m) (h0 : Changes m s0 s) :
    Changes m s0 (Dev.bootFirmware s bad wake) := by
  unfold Dev.bootFirmware
  try dsimp only
  repeat' (first | with_reducible assumption | split | (intro _) | with_reducible apply ch_forEach | with_reducible apply ch_when | with_reducible apply ch_setb | with_reducible apply ch_set | with_reducible apply ch_wr | with_reducible apply ch_modBank | with_reducible apply ch_banksFound | with_reducible apply ch_post | with_reducible apply ch_modBil | with_reducible apply ch_holdTamper | with_reducible apply ch_freeze | with_reducible apply ch_startCause | exact sub_trans hm (by decide) | with_reducible exact reg_of hm at_GEN_FW_VER (by decide) | with_reducible exact reg_of hm at_GEN_STATUS (by decide) | with_reducible exact reg_of hm at_GEN_LIFECYCLE (by decide) | with_reducible exact reg_of hm at_KEY_FW (by decide) | with_reducible exact reg_of hm at_KEY_FW_SEC (by decide))

theorem ch_rootStart {m : Nat} {s0 : Dev} (s : Dev)
    (hm : Within 0x140010000000000000000000000000000F0000000000000000000000000000000000000000000000000000000000000000000000000000000000084072000010000601A6 m) (h0 : Changes m s0 s) :
    Changes m s0 (Dev.rootStart s) := by
  unfold Dev.rootStart
  try dsimp only
  repeat' (first | with_reducible assumption | split | (intro _) | with_reducible apply ch_when | with_reducible apply ch_set | with_reducible apply ch_rootCreate | exact sub_trans hm (by decide) | with_reducible exact reg_of hm at_GEN_LIFECYCLE (by decide))

theorem ch_rngStart {m : Nat} {s0 : Dev} (s : Dev) (pass : Bool)
    (hm : Within 0x14001000000000000000000000000000000000000000000000000000000000000000000000000000000000000000000000000000000000000000084072000000000401A4 m) (h0 : Changes m s0 s) :
    Changes m s0 (Dev.rngStart s pass) := by
  unfold Dev.rngStart
  try dsimp only
  repeat' (first | with_reducible assumption | split | (intro _) | with_reducible apply ch_setb | with_reducible apply ch_post | with_reducible apply ch_modKey | exact sub_trans hm (by decide) | with_reducible exact reg_of hm at_KEY_STATUS (by decide))

theorem ch_engineTests {m : Nat} {s0 : Dev} (s : Dev) (bad : List Byte)
    (hm : Within 0x14001000000000000000000000000000000000000000000000000000000000000000000000000000000000000000000000000000000000000000084072000000000401A4 m) (h0 : Changes m s0 s) :
    Changes m s0 (Dev.engineTests s bad) := by
  unfold Dev.engineTests
  try dsimp only
  repeat' (first | with_reducible assumption | split | (intro _) | with_reducible apply ch_forEach | with_reducible apply ch_setb | with_reducible apply ch_modKey | with_reducible apply ch_post | exact sub_trans hm (by decide) | with_reducible exact reg_of hm at_KEY_STATUS (by decide))

theorem ch_bootIdentity {m : Nat} {s0 : Dev} (s : Dev) (f : StartFacts)
    (hm : Within 0x140850000000000000000000000000038F8005000000000000000000000000000000000000000000000000000000000000000000000000000000084072080010000641A6 m) (h0 : Changes m s0 s) :
    Changes m s0 (Dev.bootIdentity s f) := by
  unfold Dev.bootIdentity
  try dsimp only
  repeat' (first | with_reducible assumption | split | (intro _) | with_reducible apply ch_when | with_reducible apply ch_eraseFinish | with_reducible apply ch_rootStart | with_reducible apply ch_rngStart | with_reducible apply ch_engineTests | exact sub_trans hm (by decide))

theorem ch_checkCopies {m : Nat} {s0 : Dev} (s : Dev) (bad : List (Fin 2))
    (hm : Within 0x14000000000000000000000000000000000000000000000000000000000000000000000000000000000000000000000000000000000000000000084072000010000001E4 m) (h0 : Changes m s0 s) :
    Changes m s0 (Dev.checkCopies s bad).1 := by
  unfold Dev.checkCopies
  try dsimp only
  repeat' (first | with_reducible assumption | split | (intro _) | with_reducible apply ch_post | with_reducible apply ch_modGen | with_reducible apply ch_startCause | exact sub_trans hm (by decide) | with_reducible exact reg_of hm at_GEN_LIFECYCLE (by decide))

theorem ch_loadSlots {m : Nat} {s0 : Dev} (s : Dev) (bad : List (Fin 64))
    (hm : Within 0x140810000000000000000000000000000F0000000000000000000000000000000000000000000000000000000000000000000000000000000000084072000000000201A4 m) (h0 : Changes m s0 s) :
    Changes m s0 (Dev.loadSlots s bad) := by
  unfold Dev.loadSlots
  try dsimp only
  repeat' (first | with_reducible assumption | split | (intro _) | with_reducible apply ch_forEach | with_reducible apply ch_keyCounts | with_reducible apply ch_slotFoundBad | exact sub_trans hm (by decide))

theorem ch_loadObjs {m : Nat} {s0 : Dev} (s : Dev) (l : List ObjSetting)
    (hm : Within 0xC0000078F0000000000000000000000000000000000000000000000000000000000000000000000000000000000000020000 m) (h0 : Changes m s0 s) :
    Changes m s0 (Dev.loadObjs s l) := by
  unfold Dev.loadObjs
  try dsimp only
  repeat' (first | with_reducible assumption | split | (intro _) | with_reducible apply ch_forEach | with_reducible apply ch_when | with_reducible apply ch_wr | with_reducible apply ch_modBil | with_reducible apply ch_applyScroll | exact calItemReg_writes hm (by decide) _ | exact sub_trans hm (by decide) | with_reducible exact reg_of hm (at_MTR_CH_RATIO _) (by decide) | with_reducible exact reg_of hm (at_MTR_CH_GAIN _) (by decide) | with_reducible exact reg_of hm (at_MTR_CH_OFS _) (by decide) | with_reducible exact reg_of hm (at_MTR_CH_PHASE _) (by decide) | with_reducible exact reg_of hm (at_MTR_HEAD_GAIN_V _) (by decide) | with_reducible exact reg_of hm (at_MTR_HEAD_GAIN_I _) (by decide) | with_reducible exact reg_of hm (at_MTR_HEAD_OFS_V _) (by decide) | with_reducible exact reg_of hm (at_MTR_HEAD_OFS_I _) (by decide) | with_reducible exact reg_of hm at_BIL_CFG (by decide) | with_reducible exact reg_of hm at_BIL_TZ (by decide))

theorem ch_loadRegs {m : Nat} {s0 : Dev} (s : Dev) (l : List (Nat × Word)) (wake : Bool) (supplyLost : Bool)
    (hm : Within 0x1FF0FFFFF001FFF01FFFF00FFFFFFF00FFFFFFF00FFFFFFFFFF00FFFF07FFFF1FFFFF03FFFFFFF3FFFFFFFF1FFFFFFFFFFF01FFFFFFF03FFFFFFF0FFFFF7FFFFF80FFFFFF m) (h0 : Changes m s0 s) :
    Changes m s0 (Dev.loadRegs s l wake supplyLost) := by
  unfold Dev.loadRegs
  try dsimp only
  repeat' (first | with_reducible assumption | split | (intro _) | with_reducible apply ch_forEach | with_reducible apply ch_when | with_reducible apply ch_wr | with_reducible apply ch_regWriteCode | with_reducible apply ch_refreshDerate | exact sub_trans hm (by decide) | with_reducible exact reg_of hm (at_LSW_CH_CFG _) (by decide) | exact any_of hm (by decide) _)

theorem ch_heldStart {m : Nat} {s0 : Dev} (s : Dev)
    (hm : Within 0x1F4081D81000000000000000000000000003C01000000000000000040022022000000000000010000000000000000000000000000000000000000084072000000009B0DA6 m) (h0 : Changes m s0 s) :
    Changes m s0 (Dev.heldStart s) := by
  unfold Dev.heldStart
  try dsimp only
  repeat' (first | with_reducible assumption | split | (intro _) | with_reducible apply ch_when | with_reducible apply ch_canSafeHold | with_reducible apply ch_freeze | with_reducible apply ch_lswSafeHold | exact sub_trans hm (by decide))

theorem ch_confirmStart {m : Nat} {s0 : Dev} (s : Dev) (stored : Option Word)
    (hm : Within 0x1400000000000D000000000000000000000000000000000000000000000000000000000000000000000000000000000000000000000000000000084072000000000001A4 m) (h0 : Changes m s0 s) :
    Changes m s0 (Dev.confirmStart s stored) := by
  unfold Dev.confirmStart
  try dsimp only
  repeat' (first | with_reducible assumption | split | (intro _) | with_reducible apply ch_when | with_reducible apply ch_wr | with_reducible apply ch_setb | with_reducible apply ch_post | exact sub_trans hm (by decide) | with_reducible exact reg_of hm at_SAF_STATUS (by decide) | with_reducible exact reg_of hm at_SAF_CHECK (by decide) | with_reducible exact reg_of hm at_SAF_CONFIRM (by decide))

theorem ch_startPair {m : Nat} {s0 : Dev} (s : Dev) (p : Fin 8)
    (hm : Within 0x200000 m) (h0 : Changes m s0 s) :
    Changes m s0 (Dev.startPair s p) := by
  unfold Dev.startPair
  try dsimp only
  repeat' (first | with_reducible assumption | split | (intro _) | with_reducible apply ch_restartPair | with_reducible apply ch_freshPair | exact sub_trans hm (by decide))

theorem ch_safStart {m : Nat} {s0 : Dev} (s : Dev) (stored : Option Word)
    (hm : Within 0x1F408108000142D000000000000000000003C0100000000000000000002202200000000000001000000000000000000000000100804203FC0004608407200000000231FA6 m) (h0 : Changes m s0 s) :
    Changes m s0 (Dev.safStart s stored) := by
  unfold Dev.safStart
  try dsimp only
  repeat' (first | with_reducible assumption | split | (intro _) | with_reducible apply ch_forEach | with_reducible apply ch_set | with_reducible apply ch_confirmStart | with_reducible apply ch_startPair | with_reducible apply ch_modChan | with_reducible apply ch_safShow | exact sub_trans hm (by decide) | with_reducible exact reg_of hm at_SAF_STATUS (by decide))

theorem ch_bootConfig {m : Nat} {s0 : Dev} (s : Dev) (f : StartFacts) (wake : Bool) (supplyLost : Bool)
    (hm : Within 0x1FF0FFFFF001FFF01FFFF00FFFFFFF00FFFFFFF00FFFFFFFFFF00FFFF07FFFF1FFFFF03FFFFFFF3FFFFFFFF1FFFFFFFFFFF01FFFFFFF03FFFFFFF0FFFFF7FFFFF80FFFFFF m) (h0 : Changes m s0 s) :
    Changes m s0 (Dev.bootConfig s f wake supplyLost) := by
  unfold Dev.bootConfig
  try dsimp only
  repeat' (first | with_reducible assumption | split | (intro _) | with_reducible apply ch_when | with_reducible apply ch_checkCopies | with_reducible apply ch_loadSlots | with_reducible apply ch_loadObjs | with_reducible apply ch_loadRegs | with_reducible apply ch_loadedShow | with_reducible apply ch_startCause | with_reducible apply ch_persistReassert | with_reducible apply ch_lswFollowAll | with_reducible apply ch_heldStart | with_reducible apply ch_safStart | exact sub_trans hm (by decide) | with_reducible exact reg_of hm at_GEN_LIFECYCLE (by decide) | exact any_of hm (by decide) _)

theorem ch_serviceStart {m : Nat} {s0 : Dev} (s : Dev)
    (hm : Within 0x140000000000000140480000000000000F80000000000000000000000000000000000001E9800000000000000000000000000000000000000000084072084008000289A6 m) (h0 : Changes m s0 s) :
    Changes m s0 (Dev.serviceStart s) := by
  unfold Dev.serviceStart
  try dsimp only
  repeat' (first | with_reducible assumption | split | (intro _) | with_reducible apply ch_set | with_reducible apply ch_normalUpdate | with_reducible apply ch_chgReady | with_reducible apply ch_phySummary | with_reducible apply ch_bringUp | exact sub_trans hm (by decide) | with_reducible exact reg_of hm at_GEN_BOOT2 (by decide))

theorem ch_clockStart {m : Nat} {s0 : Dev} (s : Dev) (f : StartFacts)
    (hm : Within 0x14000000000000000000000000000000000001000000000000000000000000000000000000000000000000000000000000000000000000000000084072000000000001E4 m) (h0 : Changes m s0 s) :
    Changes m s0 (Dev.clockStart s f) := by
  unfold Dev.clockStart
  try dsimp only
  repeat' (first | with_reducible assumption | split | (intro _) | with_reducible apply ch_setb | with_reducible apply ch_setPair | with_reducible apply ch_modGen | exact sub_trans hm (by decide) | with_reducible exact reg_of hm at_BIL_STATUS (by decide))

theorem ch_setAccs {m : Nat} {s0 : Dev} (s : Dev) (acc : List Int) (tar : List Int)
    (hm : Within 0x14000000000000000000000000000000700000000380000000000000000000000000000000000000000000000000000000000000000000000000084072000000000241A4 m) (h0 : Changes m s0 s) :
    Changes m s0 (Dev.setAccs s acc tar) := by
  unfold Dev.setAccs
  try dsimp only
  repeat' (first | with_reducible assumption | split | (intro _) | with_reducible apply ch_forEach | with_reducible apply ch_set | with_reducible apply ch_modBil | with_reducible apply ch_modMtr | with_reducible apply ch_showEnergy | with_reducible apply ch_showTariffReg | exact sub_trans hm (by decide) | with_reducible exact reg_of hm (at_MTR_E_WRAP _) (by decide))

theorem ch_rollBack {m : Nat} {s0 : Dev} (s : Dev) (k : Nat) (r : SaveRec)
    (hm : Within 0x140000000000000001800000000000007000000003800601C0000000000000000000000000000000000000000000000000000000000000000000084072000000000241A4 m) (h0 : Changes m s0 s) :
    Changes m s0 (Dev.rollBack s k r) := by
  unfold Dev.rollBack
  try dsimp only
  repeat' (first | with_reducible assumption | split | (intro _) | with_reducible apply ch_forEach | with_reducible apply ch_set64 | with_reducible apply ch_set | with_reducible apply ch_setAccs | with_reducible apply ch_modBil | exact sub_trans hm (by decide) | with_reducible exact reg_of hm at_MTR_SAVE_STATUS (by decide) | with_reducible exact reg_of hm at_MTR_SAVE_SEQ_LO (by decide) | with_reducible exact reg_of hm at_MTR_SAVE_SEQ_HI (by decide) | with_reducible exact reg_of hm (at_MTR_GP_GAP_LO _) (by decide) | with_reducible exact reg_of hm (at_MTR_GP_GAP_HI _) (by decide) | with_reducible exact reg_of hm (at_TRI_OUT_GAP_LO _) (by decide) | with_reducible exact reg_of hm (at_TRI_OUT_GAP_HI _) (by decide) | with_reducible exact writes_at (reg_of hm (at_MTR_GP_GAP_HI _) (by decide)) (hi_MTR_GP_GAP_LO _) | with_reducible exact writes_at (reg_of hm at_MTR_SAVE_SEQ_HI (by decide)) hi_MTR_SAVE_SEQ_LO | with_reducible exact writes_at (reg_of hm (at_TRI_OUT_GAP_HI _) (by decide)) (hi_TRI_OUT_GAP_LO _))

theorem ch_addLoss {m : Nat} {s0 : Dev} (s : Dev) (r : LossRec)
    (hm : Within 0x20000000000000000000000000000000000000000000000000000000000000000000000000000000000004000 m) (h0 : Changes m s0 s) :
    Changes m s0 (Dev.addLoss s r) := by
  unfold Dev.addLoss
  try dsimp only
  repeat' (first | with_reducible assumption | split | (intro _) | with_reducible apply ch_set | with_reducible apply ch_modMtr | exact sub_trans hm (by decide) | with_reducible exact reg_of hm at_MTR_LOSS_CNT (by decide))

theorem ch_meterWake {m : Nat} {s0 : Dev} (s : Dev) (bad : List (Fin 16))
    (hm : Within 0x140000000000000001800000000000007000000003800603C0000000000000000000000000000000000000000000000000000000000000000000084072000000000241A4 m) (h0 : Changes m s0 s) :
    Changes m s0 (Dev.meterWake s bad) := by
  unfold Dev.meterWake
  try dsimp only
  repeat' (first | with_reducible assumption | split | (intro _) | with_reducible apply ch_forEach | with_reducible apply ch_rollBack | with_reducible apply ch_post | with_reducible apply ch_addLoss | exact sub_trans hm (by decide))

theorem ch_bookLoss {m : Nat} {s0 : Dev} (s : Dev) (r : LossRec) (sessions : List (Fin 16))
    (hm : Within 0x20000000000000000000000000000000000000000000000000000000000000000000000000000000000034000 m) (h0 : Changes m s0 s) :
    Changes m s0 (Dev.bookLoss s r sessions) := by
  unfold Dev.bookLoss
  try dsimp only
  repeat' (first | with_reducible assumption | split | (intro _) | with_reducible apply ch_forEach | with_reducible apply ch_when | with_reducible apply ch_addLoss | with_reducible apply ch_modBil | with_reducible apply ch_holdTamper | with_reducible apply ch_modSess | exact sub_trans hm (by decide))

theorem ch_restoreSave {m : Nat} {s0 : Dev} (s : Dev) (k : Nat) (r : SaveRec) (bad : List (Fin 16))
    (hm : Within 0x140000000000000001800000000000007000000003800603C0000000000000000000000000000000000000000000000000000000000000000000084072000000000341A4 m) (h0 : Changes m s0 s) :
    Changes m s0 (Dev.restoreSave s k r bad) := by
  unfold Dev.restoreSave
  try dsimp only
  repeat' (first | with_reducible assumption | split | (intro _) | with_reducible apply ch_rollBack | with_reducible apply ch_bookLoss | with_reducible apply ch_post | exact sub_trans hm (by decide))

theorem ch_restoreUnbounded {m : Nat} {s0 : Dev} (s : Dev)
    (hm : Within 0x14000000000000000000000000000000700000000380000202000000000000000000000000000000000000000000000000000000000000000000084072000000000341A4 m) (h0 : Changes m s0 s) :
    Changes m s0 (Dev.restoreUnbounded s) := by
  unfold Dev.restoreUnbounded
  try dsimp only
  repeat' (first | with_reducible assumption | split | (intro _) | with_reducible apply ch_setb | with_reducible apply ch_setAccs | with_reducible apply ch_bookLoss | with_reducible apply ch_post | exact sub_trans hm (by decide) | with_reducible exact reg_of hm at_MTR_STATUS (by decide))

theorem ch_meterRestart {m : Nat} {s0 : Dev} (s : Dev) (bad : List (Fin 16))
    (hm : Within 0x140000000000000001800000000000007000000003800603C2000000000000000000000000000000000000000000000000000000000000000000084072000000000341A4 m) (h0 : Changes m s0 s) :
    Changes m s0 (Dev.meterRestart s bad) := by
  unfold Dev.meterRestart
  try dsimp only
  repeat' (first | with_reducible assumption | split | (intro _) | with_reducible apply ch_restoreSave | with_reducible apply ch_restoreUnbounded | exact sub_trans hm (by decide))

theorem ch_billingResume {m : Nat} {s0 : Dev} (s : Dev) (r : Option Nat)
    (hm : Within 0x1400000000000000000000000000000F800405000000000000000000000000000000000000000000000000000000000000000000000000000000084072000000000241A4 m) (h0 : Changes m s0 s) :
    Changes m s0 (Dev.billingResume s r) := by
  unfold Dev.billingResume
  try dsimp only
  repeat' (first | with_reducible assumption | split | (intro _) | with_reducible apply ch_setb | with_reducible apply ch_manStatus | with_reducible apply ch_billingRestart | exact sub_trans hm (by decide) | with_reducible exact reg_of hm at_BIL_STATUS (by decide))

theorem ch_interruptAll {m : Nat} {s0 : Dev} (s : Dev)
    (hm : Within 0x14081080000000000000000000000000003C0100000000000000000000202200000000000001000000000000000000000000000000000000000008407200000000030DA6 m) (h0 : Changes m s0 s) :
    Changes m s0 (Dev.interruptAll s) := by
  unfold Dev.interruptAll
  try dsimp only
  repeat' (first | with_reducible assumption | split | (intro _) | with_reducible apply ch_forEach | with_reducible apply ch_set | with_reducible apply ch_modSess | with_reducible apply ch_settleManifest | with_reducible apply ch_closeSession | exact sub_trans hm (by decide) | with_reducible exact reg_of hm at_VSS_STATUS (by decide))

theorem ch_triadRestart {m : Nat} {s0 : Dev} (s : Dev)
    (hm : Within 0x400000000000000000000000000000000000000000000000000000000000000000000000000000000000000000000000000000000000000000000000 m) (h0 : Changes m s0 s) :
    Changes m s0 (Dev.triadRestart s) := by
  unfold Dev.triadRestart
  try dsimp only
  repeat' (first | with_reducible assumption | split | (intro _) | with_reducible apply ch_forEach | with_reducible apply ch_set | with_reducible exact reg_of hm (at_TRI_HEAD_STATUS _) (by decide))

theorem ch_bootServices {m : Nat} {s0 : Dev} (s : Dev) (f : StartFacts) (wake : Bool) (restarted : Bool)
    (hm : Within 0x1408108000000000418000340806800FF03C050003800603C200000000202200000000000001000000000000000000000000000000000000000008407200000000434DE6 m) (h0 : Changes m s0 s) :
    Changes m s0 (Dev.bootServices s f wake restarted) := by
  unfold Dev.bootServices
  try dsimp only
  repeat' (first | with_reducible assumption | split | (intro _) | with_reducible apply ch_setb | with_reducible apply ch_clockStart | with_reducible apply ch_meterWake | with_reducible apply ch_meterRestart | with_reducible apply ch_billingResume | with_reducible apply ch_interruptAll | with_reducible apply ch_triadRestart | with_reducible apply ch_bseRestart | exact sub_trans hm (by decide) | with_reducible exact reg_of hm at_MTR_STATUS (by decide) | with_reducible exact reg_of hm at_BIL_STATUS (by decide))

theorem ch_boot {m : Nat} {s0 : Dev} (s : Dev) (f : StartFacts) (wake : Bool) (restarted : Bool) (supplyLost : Bool)
    (hm : Within 0x1FF0FFFFF001FFF01FFFF00FFFFFFF00FFFFFFF00FFFFFFFFFF00FFFF07FFFF1FFFFF03FFFFFFF3FFFFFFFF1FFFFFFFFFFF01FFFFFFF03FFFFFFF0FFFFF7FFFFF80FFFFFF m) (h0 : Changes m s0 s) :
    Changes m s0 (Dev.boot s f wake restarted supplyLost) := by
  unfold Dev.boot
  try dsimp only
  repeat' (first | with_reducible assumption | split | (intro _) | with_reducible apply ch_set | with_reducible apply ch_bootTimes | with_reducible apply ch_reach | with_reducible apply ch_modGen | with_reducible apply ch_bootFirmware | with_reducible apply ch_bootIdentity | with_reducible apply ch_hostReady | with_reducible apply ch_bootConfig | with_reducible apply ch_serviceStart | with_reducible apply ch_bootServices | exact sub_trans hm (by decide) | with_reducible exact reg_of hm at_GEN_BOOT (by decide) | exact any_of hm (by decide) _)

theorem ch_resetReport {m : Nat} {s0 : Dev} (s : Dev) (vauxLow : Nat) (downUs : Nat)
    (hm : Within 0x1FC000000000000000000000000000000000000000000000000000000000000000000000000000000000000000000000000000000000000000000084072000000000001A4 m) (h0 : Changes m s0 s) :
    Changes m s0 (Dev.resetReport s vauxLow downUs) := by
  unfold Dev.resetReport
  try dsimp only
  repeat' (first | with_reducible assumption | split | (intro _) | with_reducible apply ch_when | with_reducible apply ch_ledger | with_reducible apply ch_post | with_reducible apply ch_ledgerFlush | with_reducible apply ch_freeze | exact sub_trans hm (by decide))

theorem ch_pinDisarm {m : Nat} {s0 : Dev} (s : Dev)
    (hm : Within 0x8000000040 m) (h0 : Changes m s0 s) :
    Changes m s0 (Dev.pinDisarm s) := by
  unfold Dev.pinDisarm
  try dsimp only
  repeat' (first | with_reducible assumption | split | (intro _) | with_reducible apply ch_setb | with_reducible apply ch_modGen | exact sub_trans hm (by decide) | with_reducible exact reg_of hm at_GEN_RST_PIN (by decide))

theorem ch_released {m : Nat} {s0 : Dev} (s : Dev) (f : StartFacts) (restarted : Bool) (downUs : Nat)
    (hm : Within 0x1FF0FFFFF001FFF01FFFF00FFFFFFF00FFFFFFF00FFFFFFFFFF00FFFF07FFFF1FFFFF03FFFFFFF3FFFFFFFF1FFFFFFFFFFF01FFFFFFF03FFFFFFF0FFFFF7FFFFF80FFFFFF m) (h0 : Changes m s0 s) :
    Changes m s0 (Dev.released s f restarted downUs) := by
  unfold Dev.released
  try dsimp only
  repeat' (first | with_reducible assumption | split | (intro _) | with_reducible apply ch_boot | with_reducible apply ch_resetReport | with_reducible apply ch_pinDisarm | exact sub_trans hm (by decide) | exact any_of hm (by decide) _)

theorem ch_restartDt {m : Nat} {s0 : Dev} (s : Dev)
    (hm : Within 0x40120941 m) (h0 : Changes m s0 s) :
    Changes m s0 (Dev.restartDt s) := by
  unfold Dev.restartDt
  try dsimp only
  repeat' (first | with_reducible assumption | with_reducible exact ldg_same rfl rfl | split | (intro _) | with_reducible apply ch_putPst | with_reducible apply ch_putDtBack | with_reducible apply ch_putLsw | with_reducible apply ch_putLdg | with_reducible apply ch_putBil | with_reducible apply ch_modGen | exact sub_trans hm (by decide) | exact bit_of hm (by decide) | exact Nat.le_max_left _ _ | exact Nat.le_add_right _ _)

theorem ch_porRelease {m : Nat} {s0 : Dev} (s : Dev) (refclk : Bool)
    (hm : Within 0x10040120941 m) (h0 : Changes m s0 s) :
    Changes m s0 (Dev.porRelease s refclk) := by
  unfold Dev.porRelease
  try dsimp only
  repeat' (first | with_reducible assumption | split | (intro _) | with_reducible apply ch_bump | with_reducible apply ch_modGen | with_reducible apply ch_restartDt | exact sub_trans hm (by decide) | with_reducible exact reg_of hm at_GEN_EPOCH (by decide))

theorem ch_resetRelease {m : Nat} {s0 : Dev} (s : Dev) (f : StartFacts)
    (hm : Within 0x1FF0FFFFF001FFF01FFFF00FFFFFFF00FFFFFFF00FFFFFFFFFF00FFFF07FFFF1FFFFF03FFFFFFF3FFFFFFFF1FFFFFFFFFFF01FFFFFFF03FFFFFFF0FFFFF7FFFFFC0FFFFFF m) (h0 : Changes m s0 s) :
    Changes m s0 (Dev.resetRelease s f) := by
  unfold Dev.resetRelease
  try dsimp only
  repeat' (first | with_reducible assumption | split | (intro _) | with_reducible apply ch_released | with_reducible apply ch_porRelease | exact sub_trans hm (by decide) | exact any_of hm (by decide) _)

theorem ch_lifeByRole {m : Nat} {s0 : Dev} (s : Dev) (src : Src) (need : Option Code) (life : Nat)
    (hm : Within 0x140000000000000000000000000000038F8005000000000000000000000000000000000000000000000000000000000000000000000000000000084072080010000241A4 m) (h0 : Changes m s0 s) :
    Changes m s0 (Dev.lifeByRole s src need life) := by
  unfold Dev.lifeByRole
  try dsimp only
  repeat' (first | with_reducible assumption | split | (intro _) | with_reducible apply ch_complete | with_reducible apply ch_setLife | with_reducible apply ch_touchAssoc | exact sub_trans hm (by decide))

theorem ch_wake {m : Nat} {s0 : Dev} (s : Dev) (w : WakeSource) (slept : Nat) (f : StartFacts)
    (hm : Within 0x1FF0FFFFF001FFF01FFFF00FFFFFFF00FFFFFFF00FFFFFFFFFF00FFFF07FFFF1FFFFF03FFFFFFF3FFFFFFFF1FFFFFFFFFFF01FFFFFFF03FFFFFFF0FFFFF7FFFFF80FFFFFF m) (h0 : Changes m s0 s) :
    Changes m s0 (Dev.wake s w slept f) := by
  unfold Dev.wake
  try dsimp only
  repeat' (first | with_reducible assumption | split | (intro _) | with_reducible apply ch_putDt | with_reducible apply ch_setb | with_reducible apply ch_wr | with_reducible apply ch_railSet | with_reducible apply ch_post | with_reducible apply ch_boot | exact sub_trans hm (by decide) | exact bit_of hm (by decide) | exact Nat.le_max_left _ _ | exact Nat.le_add_right _ _ | with_reducible exact reg_of hm at_GEN_STATUS (by decide) | with_reducible exact reg_of hm at_GEN_WAKE_CAUSE (by decide) | exact any_of hm (by decide) _)

theorem ch_recommission {m : Nat} {s0 : Dev} (s : Dev) (src : Src)
    (hm : Within 0x140010000000000000000000000000038F8005000000000000000000000000000000000000000000000000000000000000000000000000000000084072081810000641A6 m) (h0 : Changes m s0 s) :
    Changes m s0 (Dev.recommission s src) := by
  unfold Dev.recommission
  try dsimp only
  repeat' (first | with_reducible assumption | split | (intro _) | with_reducible apply ch_set64 | with_reducible apply ch_set | with_reducible apply ch_fresh | with_reducible apply ch_complete | with_reducible apply ch_rootCreate | with_reducible apply ch_setLife | exact sub_trans hm (by decide) | with_reducible exact reg_of hm at_GEN_LIFECYCLE (by decide) | with_reducible exact reg_of hm at_GEN_DEVICE_ID_LO (by decide) | with_reducible exact reg_of hm at_GEN_DEVICE_ID_HI (by decide) | with_reducible exact writes_at (reg_of hm at_GEN_DEVICE_ID_HI (by decide)) hi_GEN_DEVICE_ID_LO)

theorem ch_lifecycle {m : Nat} {s0 : Dev} (s : Dev) (src : Src) (target : Nat)
    (hm : Within 0x140010000000000000000000000000038F8005000000000000000000000000000000000000000000000000000000000000000000000000000000084072081810000641A6 m) (h0 : Changes m s0 s) :
    Changes m s0 (Dev.lifecycle s src target) := by
  unfold Dev.lifecycle
  try dsimp only
  repeat' (first | with_reducible assumption | split | (intro _) | with_reducible apply ch_lifeByRole | with_reducible apply ch_recommission | with_reducible apply ch_complete | exact sub_trans hm (by decide))

theorem ch_pinStuck {m : Nat} {s0 : Dev} (s : Dev) (f : StartFacts)
    (hm : Within 0x1FF0FFFFF001FFF01FFFF00FFFFFFF00FFFFFFF00FFFFFFFFFF00FFFF07FFFF1FFFFF03FFFFFFF3FFFFFFFF1FFFFFFFFFFF01FFFFFFF03FFFFFFF0FFFFF7FFFFFC0FFFFFF m) (h0 : Changes m s0 s) :
    Changes m s0 (Dev.pinStuck s f) := by
  unfold Dev.pinStuck
  try dsimp only
  repeat' (first | with_reducible assumption | split | (intro _) | with_reducible apply ch_setb | with_reducible apply ch_reach | with_reducible apply ch_post | with_reducible apply ch_released | with_reducible apply ch_porRelease | exact sub_trans hm (by decide) | with_reducible exact reg_of hm at_GEN_RST_PIN (by decide) | exact any_of hm (by decide) _)

theorem ch_slnWake {m : Nat} {s0 : Dev} (s : Dev) (id : Id64) (slept : Nat) (f : StartFacts)
    (hm : Within 0x1FF0FFFFF001FFF01FFFF00FFFFFFF00FFFFFFF00FFFFFFFFFF00FFFF07FFFF1FFFFF03FFFFFFF3FFFFFFFF1FFFFFFFFFFF01FFFFFFF03FFFFFFF0FFFFF7FFFFF80FFFFFF m) (h0 : Changes m s0 s) :
    Changes m s0 (Dev.slnWake s id slept f) := by
  unfold Dev.slnWake
  try dsimp only
  repeat' (first | with_reducible assumption | split | (intro _) | with_reducible apply ch_set | with_reducible apply ch_wake | with_reducible apply ch_modEntry | with_reducible apply ch_post | with_reducible apply ch_slnCounts | exact sub_trans hm (by decide) | with_reducible exact reg_of hm (at_SLN_NODE_INFO _) (by decide) | with_reducible exact reg_of hm (at_SLN_NODE_AGE _) (by decide) | exact any_of hm (by decide) _)

theorem ch_powerOn {m : Nat} {s0 : Dev} (s : Dev) (f : StartFacts)
    (hm : Within 0x1FF0FFFFF001FFF01FFFF00FFFFFFF00FFFFFFF00FFFFFFFFFF00FFFF07FFFF1FFFFF03FFFFFFF3FFFFFFFF1FFFFFFFFFFF01FFFFFFF03FFFFFFF0FFFFF7FFFFFC0FFFFFF m) (h0 : Changes m s0 s) :
    Changes m s0 (Dev.powerOn s f) := by
  unfold Dev.powerOn
  try dsimp only
  repeat' (first | with_reducible assumption | split | (intro _) | with_reducible apply ch_set | with_reducible apply ch_setb | with_reducible apply ch_wr | with_reducible apply ch_railSet | with_reducible apply ch_porRelease | with_reducible apply ch_modGen | with_reducible apply ch_alsoCause | with_reducible apply ch_released | exact sub_trans hm (by decide) | with_reducible exact reg_of hm at_GEN_RESET_CAUSE (by decide) | with_reducible exact reg_of hm at_GEN_RST_PIN (by decide) | with_reducible exact reg_of hm at_LSW_STATUS (by decide) | exact any_of hm (by decide) _)

theorem ch_factoryClose {m : Nat} {s0 : Dev} (s : Dev) (passed : Bool) (cert : List Byte)
    (hm : Within 0x140000000000000000000000000000038F8005000000000000000000000000000000000000000000000000000000000000000000000000000000084072080010000641A4 m) (h0 : Changes m s0 s) :
    Changes m s0 (Dev.factoryClose s passed cert) := by
  unfold Dev.factoryClose
  try dsimp only
  repeat' (first | with_reducible assumption | split | (intro _) | with_reducible apply ch_answer | with_reducible apply ch_setLife | with_reducible apply ch_modKey | exact sub_trans hm (by decide))

theorem ch_execResetRelease {m : Nat} {facts : StartFacts} {s t : State} (hm : Within 0x1FF0FFFFF001FFF01FFFF00FFFFFFF00FFFFFFF00FFFFFFFFFF00FFFF07FFFF1FFFFF03FFFFFFF3FFFFFFFF1FFFFFFFFFFF01FFFFFFF03FFFFFFF0FFFFF7FFFFFC0FFFFFF m)
    (h : execResetRelease facts s = .next t) : t.pending = s.pending ∧ Changes m s.dev t.dev := by
  unfold execResetRelease at h
  refine of_onDev h (bit_of hm (by decide)) (fun d hd => ?_)
  try dsimp only
  repeat' (first | with_reducible assumption | split | (intro _) | with_reducible apply ch_resetRelease | exact sub_trans hm (by decide) | exact any_of hm (by decide) _)

theorem ch_execHibernateWake {m : Nat} {source : WakeSource} {slept : Nat} {facts : StartFacts} {s t : State} (hm : Within 0x1FF0FFFFF001FFF01FFFF00FFFFFFF00FFFFFFF00FFFFFFFFFF00FFFF07FFFF1FFFFF03FFFFFFF3FFFFFFFF1FFFFFFFFFFF01FFFFFFF03FFFFFFF0FFFFF7FFFFF80FFFFFF m)
    (h : execHibernateWake source slept facts s = .next t) : t.pending = s.pending ∧ Changes m s.dev t.dev := by
  unfold execHibernateWake at h
  refine of_onDev h (bit_of hm (by decide)) (fun d hd => ?_)
  try dsimp only
  repeat' (first | with_reducible assumption | split | (intro _) | with_reducible apply ch_wake | exact sub_trans hm (by decide) | exact any_of hm (by decide) _)

theorem ch_execLifecycle {m : Nat} {src : Src} {target : Byte} {s t : State} (hm : Within 0x140010000000000000000000000000038F8005000000000000000000000000000000000000000000000000000000000000000000000000000000084072081810000641A6 m)
    (h : execLifecycle src target s = .next t) : t.pending = s.pending ∧ Changes m s.dev t.dev := by
  unfold execLifecycle at h
  refine of_onHost h (sub_trans hm (by decide)) (fun d hd => ?_)
  try dsimp only
  repeat' (first | with_reducible assumption | split | (intro _) | with_reducible apply ch_lifecycle | exact sub_trans hm (by decide))

theorem ch_execResetPinStuck {m : Nat} {facts : StartFacts} {s t : State} (hm : Within 0x1FF0FFFFF001FFF01FFFF00FFFFFFF00FFFFFFF00FFFFFFFFFF00FFFF07FFFF1FFFFF03FFFFFFF3FFFFFFFF1FFFFFFFFFFF01FFFFFFF03FFFFFFF0FFFFF7FFFFFC0FFFFFF m)
    (h : execResetPinStuck facts s = .next t) : t.pending = s.pending ∧ Changes m s.dev t.dev := by
  unfold execResetPinStuck at h
  refine of_onDev h (bit_of hm (by decide)) (fun d hd => ?_)
  try dsimp only
  repeat' (first | with_reducible assumption | split | (intro _) | with_reducible apply ch_pinStuck | exact sub_trans hm (by decide) | exact any_of hm (by decide) _)

theorem ch_execSlnWakeFrame {m : Nat} {id : Id64} {slept : Nat} {facts : StartFacts} {s t : State} (hm : Within 0x1FF0FFFFF001FFF01FFFF00FFFFFFF00FFFFFFF00FFFFFFFFFF00FFFF07FFFF1FFFFF03FFFFFFF3FFFFFFFF1FFFFFFFFFFF01FFFFFFF03FFFFFFF0FFFFF7FFFFF80FFFFFF m)
    (h : execSlnWakeFrame id slept facts s = .next t) : t.pending = s.pending ∧ Changes m s.dev t.dev := by
  unfold execSlnWakeFrame at h
  refine of_onDev h (bit_of hm (by decide)) (fun d hd => ?_)
  try dsimp only
  repeat' (first | with_reducible assumption | split | (intro _) | with_reducible apply ch_slnWake | exact sub_trans hm (by decide) | exact any_of hm (by decide) _)

theorem ch_execPowerOnReset {m : Nat} {facts : StartFacts} {s t : State} (hm : Within 0x1FF0FFFFF001FFF01FFFF00FFFFFFF00FFFFFFF00FFFFFFFFFF00FFFF07FFFF1FFFFF03FFFFFFF3FFFFFFFF1FFFFFFFFFFF01FFFFFFF03FFFFFFF0FFFFF7FFFFFC0FFFFFF m)
    (h : execPowerOnReset facts s = .next t) : t.pending = s.pending ∧ Changes m s.dev t.dev := by
  unfold execPowerOnReset at h
  refine of_onDev h (bit_of hm (by decide)) (fun d hd => ?_)
  try dsimp only
  repeat' (first | with_reducible assumption | split | (intro _) | with_reducible apply ch_powerOn | exact sub_trans hm (by decide) | exact any_of hm (by decide) _)

theorem ch_execFactoryClose {m : Nat} {testsPassed : Bool} {cert : List Byte} {s t : State} (hm : Within 0x140000000000000000000000000000038F8005000000000000000000000000000000000000000000000000000000000000000000000000000000084072080010000641A4 m)
    (h : execFactoryClose testsPassed cert s = .next t) : t.pending = s.pending ∧ Changes m s.dev t.dev := by
  unfold execFactoryClose at h
  refine of_onRun h (bit_of hm (by decide)) (fun d hd => ?_)
  try dsimp only
  repeat' (first | with_reducible assumption | split | (intro _) | with_reducible apply ch_factoryClose | exact sub_trans hm (by decide))

end Dev

end Sys2Proof.Machine
end

