-- ==== Sys2Proof/Laws/HostIfCh.lean ====
section
/-! SUPPORT. What each definition of Machine/HostIf.lean may change. -/

namespace Sys2Proof.Machine

set_option linter.all false
set_option Elab.async false

namespace Dev

theorem ch_prbsStart {m : Nat} {s0 : Dev} (s : Dev) (p : Fin 8) (loop : Nat)
    (hm : Within 0x140000000000000140480000000000000F000000000000000000000000000000000000020C800000000000000000000000000000000000000000084072004008000289A6 m) (h0 : Changes m s0 s) :
    Changes m s0 (Dev.prbsStart s p loop) := by
  unfold Dev.prbsStart
  try dsimp only
  repeat' (first | with_reducible assumption | split | (intro _) | with_reducible apply ch_setb | with_reducible apply ch_set | with_reducible apply ch_prbsClear | with_reducible apply ch_headsLoseTest | with_reducible apply ch_setPhy | exact sub_trans hm (by decide) | with_reducible exact reg_of hm (at_PST_PHY_CTL _) (by decide))

theorem ch_testBegin {m : Nat} {s0 : Dev} (s : Dev) (code : Nat) (p : List Byte)
    (hm : Within 0x140010000010210140480000000000000F800000000000000000000000000000000000020C800000000000000000000000000000000000000000084072004008000289A6 m) (h0 : Changes m s0 s) :
    Changes m s0 (Dev.testBegin s code p) := by
  unfold Dev.testBegin
  try dsimp only
  repeat' (first | with_reducible assumption | split | (intro _) | with_reducible apply ch_setb | with_reducible apply ch_readmitRequest | with_reducible apply ch_prbsStart | with_reducible apply ch_safDrive | with_reducible apply ch_normalUpdate | exact sub_trans hm (by decide) | with_reducible exact reg_of hm at_KEY_STATUS (by decide))

theorem ch_testOver {m : Nat} {s0 : Dev} (s : Dev) (t : QueuedTest) (result : Code) (items : List Word)
    (hm : Within 0x14000000000000000000000000000000000000000000000000000000000000000000000000000000000000000000000000000000000000000000084072100000000001A4 m) (h0 : Changes m s0 s) :
    Changes m s0 (Dev.testOver s t result items) := by
  unfold Dev.testOver
  try dsimp only
  repeat' (first | with_reducible assumption | split | (intro _) | with_reducible apply ch_setb | with_reducible apply ch_set | with_reducible apply ch_ledger | with_reducible apply ch_longPartial | with_reducible apply ch_longEnd | exact sub_trans hm (by decide) | with_reducible exact reg_of hm at_GEN_TEST (by decide))

theorem ch_prbsEnd {m : Nat} {s0 : Dev} (s : Dev) (p : Fin 8)
    (hm : Within 0x140000000000000140480000000000000000000000000000000000000000000000000001ED800000000000000000000000000000000000000000084072004008000089A6 m) (h0 : Changes m s0 s) :
    Changes m s0 (Dev.prbsEnd s p) := by
  unfold Dev.prbsEnd
  try dsimp only
  repeat' (first | with_reducible assumption | split | (intro _) | with_reducible apply ch_setb | with_reducible apply ch_set | with_reducible apply ch_headsLeaveTest | with_reducible apply ch_firstAttempt | with_reducible apply ch_setPhy | exact sub_trans hm (by decide) | with_reducible exact reg_of hm (at_PST_PHY_CTL _) (by decide))

theorem ch_testFinish {m : Nat} {s0 : Dev} (s : Dev) (code : Nat) (p : List Byte) (items : List Word)
    (hm : Within 0x140690000010210140480000000000000F80000000000000000000000000000000000001ED800000000000000000000000000000000000000000084072004008000689A6 m) (h0 : Changes m s0 s) :
    Changes m s0 (Dev.testFinish s code p items) := by
  unfold Dev.testFinish
  try dsimp only
  repeat' (first | with_reducible assumption | split | (intro _) | with_reducible apply ch_forEach | with_reducible apply ch_setb | with_reducible apply ch_modBank | with_reducible apply ch_banksFound | with_reducible apply ch_engineTests | with_reducible apply ch_rngStart | with_reducible apply ch_prbsEnd | with_reducible apply ch_safDrive | with_reducible apply ch_normalUpdate | exact sub_trans hm (by decide) | with_reducible exact reg_of hm at_KEY_STATUS (by decide))

theorem ch_showTests {m : Nat} {s0 : Dev} (s : Dev)
    (hm : Within 0x10000000000000 m) (h0 : Changes m s0 s) :
    Changes m s0 (Dev.showTests s) := by
  unfold Dev.showTests
  try dsimp only
  repeat' (first | with_reducible assumption | split | (intro _) | with_reducible apply ch_set | with_reducible exact reg_of hm at_GEN_TEST (by decide))

theorem ch_dropTest {m : Nat} {s0 : Dev} (s : Dev) (src : Src)
    (hm : Within 0x10000000000040 m) (h0 : Changes m s0 s) :
    Changes m s0 (Dev.dropTest s src) := by
  unfold Dev.dropTest
  try dsimp only
  repeat' (first | with_reducible assumption | split | (intro _) | with_reducible apply ch_showTests | with_reducible apply ch_modGen | exact sub_trans hm (by decide))

theorem ch_operationDone {m : Nat} {s0 : Dev} (s : Dev) (src : Src) (items : List Word)
    (hm : Within 0x140690000010210140480000000000000F80000000000000000000000000000000000001ED800000000000000000000000000000000000000000084072104008000689E7 m) (h0 : Changes m s0 s) :
    Changes m s0 (Dev.operationDone s src items) := by
  unfold Dev.operationDone
  try dsimp only
  repeat' (first | with_reducible assumption | split | (intro _) | with_reducible apply ch_testOver | with_reducible apply ch_testFinish | with_reducible apply ch_dropTest | with_reducible apply ch_reach | exact sub_trans hm (by decide))

theorem ch_cfgReplace {m : Nat} {s0 : Dev} (s : Dev) (l : List CfgRecord)
    (hm : Within 0x14000000001029000000000000000000000001000000000008000000000000000000000000000000000000000000000000000000000000000000084072000000000201E4 m) (h0 : Changes m s0 s) :
    Changes m s0 (Dev.cfgReplace s l) := by
  unfold Dev.cfgReplace
  try dsimp only
  repeat' (first | with_reducible assumption | split | (intro _) | with_reducible apply ch_bump | with_reducible apply ch_modGen | with_reducible apply ch_safDrive | with_reducible apply ch_unconfirm | with_reducible apply ch_modBil | with_reducible apply ch_holdTamper | with_reducible apply ch_setSeal | exact sub_trans hm (by decide) | with_reducible exact reg_of hm at_MTR_CAL_CNT (by decide))

theorem ch_cfgWrite {m : Nat} {s0 : Dev} (s : Dev) (l : LongSrc) (image : List Byte)
    (hm : Within 0x14000000001029000000000000000000000001000000000008000000000000000000000000000000000000000000000000000000000000000000084072000000000201E4 m) (h0 : Changes m s0 s) :
    Changes m s0 (Dev.cfgWrite s l image) := by
  unfold Dev.cfgWrite
  try dsimp only
  repeat' (first | with_reducible assumption | split | (intro _) | with_reducible apply ch_longRefuse | with_reducible apply ch_longAccept | with_reducible apply ch_longEnd | with_reducible apply ch_longPartial | with_reducible apply ch_cfgReplace | exact sub_trans hm (by decide))

theorem ch_testRequest {m : Nat} {s0 : Dev} (s : Dev) (l : LongSrc) (x : TestReq)
    (hm : Within 0x140010000010210140480000000000000F800000000000000000000000000000000000020C800000000000000000000000000000000000000000084072104008000289E6 m) (h0 : Changes m s0 s) :
    Changes m s0 (Dev.testRequest s l x) := by
  unfold Dev.testRequest
  try dsimp only
  repeat' (first | with_reducible assumption | split | (intro _) | with_reducible apply ch_complete | with_reducible apply ch_longRefuse | with_reducible apply ch_showTests | with_reducible apply ch_modGen | with_reducible apply ch_longAccept | with_reducible apply ch_testBegin | exact sub_trans hm (by decide))

theorem ch_testExpiry {m : Nat} {s0 : Dev} (s : Dev) (src : Src)
    (hm : Within 0x14000000000000000000000000000000000000000000000000000000000000000000000000000000000000000000000000000000000000000000084072100000000001E5 m) (h0 : Changes m s0 s) :
    Changes m s0 (Dev.testExpiry s src) := by
  unfold Dev.testExpiry
  try dsimp only
  repeat' (first | with_reducible assumption | split | (intro _) | with_reducible apply ch_testOver | with_reducible apply ch_dropTest | with_reducible apply ch_reach | exact sub_trans hm (by decide))

theorem ch_testStart {m : Nat} {s0 : Dev} (s : Dev) (t : QueuedTest)
    (hm : Within 0x140010000010210140480000000000000F800000000000000000000000000000000000020C800000000000000000000000000000000000000000084072104008000289E6 m) (h0 : Changes m s0 s) :
    Changes m s0 (Dev.testStart s t) := by
  unfold Dev.testStart
  try dsimp only
  repeat' (first | with_reducible assumption | with_reducible exact hif_same rfl | split | (intro _) | with_reducible apply ch_putHif | with_reducible apply ch_showTests | with_reducible apply ch_modGen | with_reducible apply ch_testBegin | with_reducible apply ch_statusOut | exact sub_trans hm (by decide) | exact bit_of hm (by decide))

theorem ch_testWindowOpen {m : Nat} {s0 : Dev} (s : Dev) (quiet : Bool) (generating : Bool)
    (hm : Within 0x140010000010210140480000000000000F800000000000000000000000000000000000020C800000000000000000000000000000000000000000084072104008000289E7 m) (h0 : Changes m s0 s) :
    Changes m s0 (Dev.testWindowOpen s quiet generating) := by
  unfold Dev.testWindowOpen
  try dsimp only
  repeat' (first | with_reducible assumption | split | (intro _) | with_reducible apply ch_forEach | with_reducible apply ch_tick | with_reducible apply ch_testStart | exact sub_trans hm (by decide))

theorem ch_cancelLong {m : Nat} {s0 : Dev} (s : Dev) (o : LongOp)
    (hm : Within 0x140690000010210140480000000000000F80000000000000000000000600000000000001ED8000240000020000000000000000000000000000000840721040080006A9E6 m) (h0 : Changes m s0 s) :
    Changes m s0 (Dev.cancelLong s o) := by
  unfold Dev.cancelLong
  try dsimp only
  repeat' (first | with_reducible assumption | split | (intro _) | with_reducible apply ch_testFinish | with_reducible apply ch_dropTest | with_reducible apply ch_identStop | with_reducible apply ch_longEnd | exact sub_trans hm (by decide))

theorem ch_writesDone {m : Nat} {s0 : Dev} (s : Dev) (src : Src) (done : Nat) (c : Option Code)
    (hm : Within 0x8400200000000000084 m) (h0 : Changes m s0 s) :
    Changes m s0 (Dev.writesDone s src done c) := by
  unfold Dev.writesDone
  try dsimp only
  repeat' (first | with_reducible assumption | split | (intro _) | with_reducible apply ch_complete | exact sub_trans hm (by decide))

theorem ch_writeAll {m : Nat} {s0 : Dev} (s : Dev) (src : Src) (done : Nat) (a3 : List (Word × Word))
    (hm : Within 0x1FF0FFFFF001FFF01FFFF00FFFFFFF00FFFFFFF00FFFFFFFFFF00FFFF07FFFF1FFFFF03FFFFFFF3FFFFFFFF1FFFFFFFFFFF01FFFFFFF03FFFFFFF0FFFFF7FFFFF80FFFFFF m) (h0 : Changes m s0 s) :
    Changes m s0 (Dev.writeAll s src done a3) := by
  induction a3 generalizing s done with
  | nil => exact ch_writesDone _ _ _ _ (sub_trans hm (by decide)) h0
  | cons p rest ih =>
    unfold Dev.writeAll
    dsimp only
    repeat' (first | with_reducible assumption | with_reducible exact hif_same rfl | split | with_reducible apply ch_writesDone | with_reducible apply ch_regWriteCode | with_reducible apply ch_putHif | with_reducible apply ih | exact sub_trans hm (by decide) | exact bit_of hm (by decide))


theorem ch_resumeWrites {m : Nat} {s0 : Dev} (s : Dev)
    (hm : Within 0x1FF0FFFFF001FFF01FFFF00FFFFFFF00FFFFFFF00FFFFFFFFFF00FFFF07FFFF1FFFFF03FFFFFFF3FFFFFFFF1FFFFFFFFFFF01FFFFFFF03FFFFFFF0FFFFF7FFFFF80FFFFFF m) (h0 : Changes m s0 s) :
    Changes m s0 (Dev.resumeWrites s) := by
  unfold Dev.resumeWrites
  try dsimp only
  repeat' (first | with_reducible assumption | with_reducible exact hif_same rfl | split | (intro _) | with_reducible apply ch_forEach | with_reducible apply ch_putHif | with_reducible apply ch_writesDone | with_reducible apply ch_writeAll | exact sub_trans hm (by decide) | exact bit_of hm (by decide) | exact any_of hm (by decide) _)

theorem ch_readAll {m : Nat} {s0 : Dev} (s : Dev) (l : List Word)
    (hm : Within 0x1FF0FFFFF001FFF01FFFF00FFFFFFF00FFFFFFF00FFFFFFFFFF00FFFF07FFFF1FFFFF03FFFFFFF3FFFFFFFF1FFFFFFFFFFF01FFFFFFF03FFFFFFF0FFFFF7FFFFF80000008 m) (h0 : Changes m s0 s) :
    Changes m s0 (Dev.readAll s l).1 := by
  unfold Dev.readAll
  exact ch_foldl Prod.fst _ _ _ h0 (fun b a h => ch_regRead _ _ hm h)

theorem ch_regReads {m : Nat} {s0 : Dev} (s : Dev) (src : Src) (l : List Word)
    (hm : Within 0x1FF0FFFFF001FFF01FFFF00FFFFFFF00FFFFFFF00FFFFFFFFFF00FFFF07FFFF1FFFFF03FFFFFFF3FFFFFFFF1FFFFFFFFFFF01FFFFFFF03FFFFFFF0FFFFF7FFFFF8000008C m) (h0 : Changes m s0 s) :
    Changes m s0 (Dev.regReads s src l) := by
  unfold Dev.regReads
  try dsimp only
  repeat' (first | with_reducible assumption | split | (intro _) | with_reducible apply ch_complete | with_reducible apply ch_readAll | exact sub_trans hm (by decide) | exact any_of hm (by decide) _)

theorem ch_longCancel {m : Nat} {s0 : Dev} (s : Dev) (src : Src) (tag : Word)
    (hm : Within 0x140690000010210140480000000000000F80000000000000000000000600000000000001ED8000240000020000000000000000000000000000000840721040080006A9E6 m) (h0 : Changes m s0 s) :
    Changes m s0 (Dev.longCancel s src tag) := by
  unfold Dev.longCancel
  try dsimp only
  repeat' (first | with_reducible assumption | split | (intro _) | with_reducible apply ch_complete | with_reducible apply ch_cancelLong | exact sub_trans hm (by decide))

theorem ch_partialReady {m : Nat} {s0 : Dev} (s : Dev) (src : Src) (units : Nat) (data : List Byte) (progress : Nat)
    (hm : Within 0x14000000000000000000000000000000000000000000000000000000000000000000000000000000000000000000000000000000000000000000084072000000000001A4 m) (h0 : Changes m s0 s) :
    Changes m s0 (Dev.partialReady s src units data progress) := by
  unfold Dev.partialReady
  try dsimp only
  repeat' (first | with_reducible assumption | split | (intro _) | with_reducible apply ch_longPartial | exact sub_trans hm (by decide))

theorem ch_regWrites {m : Nat} {s0 : Dev} (s : Dev) (src : Src) (l : List (Word × Word))
    (hm : Within 0x1FF0FFFFF001FFF01FFFF00FFFFFFF00FFFFFFF00FFFFFFFFFF00FFFF07FFFF1FFFFF03FFFFFFF3FFFFFFFF1FFFFFFFFFFF01FFFFFFF03FFFFFFF0FFFFF7FFFFF80FFFFFF m) (h0 : Changes m s0 s) :
    Changes m s0 (Dev.regWrites s src l) := by
  unfold Dev.regWrites
  try dsimp only
  repeat' (first | with_reducible assumption | split | (intro _) | with_reducible apply ch_complete | with_reducible apply ch_writeAll | exact sub_trans hm (by decide) | exact any_of hm (by decide) _)

theorem ch_uartRequest {m : Nat} {s0 : Dev} (s : Dev) (d : Desc) (input : List Byte)
    (hm : Within 0x8400200000000000084 m) (h0 : Changes m s0 s) :
    Changes m s0 (Dev.uartRequest s d input) := by
  unfold Dev.uartRequest
  try dsimp only
  repeat' (first | with_reducible assumption | split | (intro _) | with_reducible apply ch_complete | exact sub_trans hm (by decide))

theorem ch_uartFrame {m : Nat} {s0 : Dev} (s : Dev) (frame : List Byte)
    (hm : Within 0x8410200000000000084 m) (h0 : Changes m s0 s) :
    Changes m s0 (Dev.uartFrame s frame) := by
  unfold Dev.uartFrame
  try dsimp only
  repeat' (first | with_reducible assumption | split | (intro _) | with_reducible apply ch_bump | with_reducible apply ch_uartRequest | exact sub_trans hm (by decide) | with_reducible exact reg_of hm at_HIF_UART_ERR (by decide))

theorem ch_execLongOperationDone {m : Nat} {src : Src} {items : List Word} {s t : State} (hm : Within 0x140690000010210140480000000000000F80000000000000000000000000000000000001ED800000000000000000000000000000000000000000084072104008000689E7 m)
    (h : execLongOperationDone src items s = .next t) : t.pending = s.pending ∧ Changes m s.dev t.dev := by
  unfold execLongOperationDone at h
  refine of_onLive h (bit_of hm (by decide)) (fun d hd => ?_)
  try dsimp only
  repeat' (first | with_reducible assumption | split | (intro _) | with_reducible apply ch_operationDone | exact sub_trans hm (by decide))

theorem ch_execCfgWrite {m : Nat} {l : LongSrc} {image : List Byte} {s t : State} (hm : Within 0x14000000001029000000000000000000000001000000000008000000000000000000000000000000000000000000000000000000000000000000084072000000000201E4 m)
    (h : execCfgWrite l image s = .next t) : t.pending = s.pending ∧ Changes m s.dev t.dev := by
  unfold execCfgWrite at h
  refine of_onHost h (sub_trans hm (by decide)) (fun d hd => ?_)
  try dsimp only
  repeat' (first | with_reducible assumption | split | (intro _) | with_reducible apply ch_cfgWrite | exact sub_trans hm (by decide))

theorem ch_execTest {m : Nat} {l : LongSrc} {a1 : TestReq} {s t : State} (hm : Within 0x140010000010210140480000000000000F800000000000000000000000000000000000020C800000000000000000000000000000000000000000084072104008000289E6 m)
    (h : execTest l a1 s = .next t) : t.pending = s.pending ∧ Changes m s.dev t.dev := by
  unfold execTest at h
  refine of_onHost h (sub_trans hm (by decide)) (fun d hd => ?_)
  try dsimp only
  repeat' (first | with_reducible assumption | split | (intro _) | with_reducible apply ch_testRequest | exact sub_trans hm (by decide))

theorem ch_execTestExpiry {m : Nat} {src : Src} {s t : State} (hm : Within 0x14000000000000000000000000000000000000000000000000000000000000000000000000000000000000000000000000000000000000000000084072100000000001E5 m)
    (h : execTestExpiry src s = .next t) : t.pending = s.pending ∧ Changes m s.dev t.dev := by
  unfold execTestExpiry at h
  refine of_onLive h (bit_of hm (by decide)) (fun d hd => ?_)
  try dsimp only
  repeat' (first | with_reducible assumption | split | (intro _) | with_reducible apply ch_testExpiry | exact sub_trans hm (by decide))

theorem ch_execCtrlTimeout {m : Nat}  {s t : State} (hm : Within 0x1FF0FFFFF001FFF01FFFF00FFFFFFF00FFFFFFF00FFFFFFFFFF00FFFF07FFFF1FFFFF03FFFFFFF3FFFFFFFF1FFFFFFFFFFF01FFFFFFF03FFFFFFF0FFFFF7FFFFF80FFFFFF m)
    (h : execCtrlTimeout  s = .next t) : t.pending = s.pending ∧ Changes m s.dev t.dev := by
  unfold execCtrlTimeout at h
  refine of_onRun h (bit_of hm (by decide)) (fun d hd => ?_)
  try dsimp only
  repeat' (first | with_reducible assumption | split | (intro _) | with_reducible apply ch_resumeWrites | with_reducible apply ch_ctrlTimeout | exact sub_trans hm (by decide) | exact any_of hm (by decide) _)

theorem ch_execRegRead {m : Nat} {src : Src} {offsets : List Word} {s t : State} (hm : Within 0x1FF0FFFFF001FFF01FFFF00FFFFFFF00FFFFFFF00FFFFFFFFFF00FFFF07FFFF1FFFFF03FFFFFFF3FFFFFFFF1FFFFFFFFFFF01FFFFFFF03FFFFFFF0FFFFF7FFFFF8000008C m)
    (h : execRegRead src offsets s = .next t) : t.pending = s.pending ∧ Changes m s.dev t.dev := by
  unfold execRegRead at h
  refine of_onHost h (sub_trans hm (by decide)) (fun d hd => ?_)
  try dsimp only
  repeat' (first | with_reducible assumption | split | (intro _) | with_reducible apply ch_regReads | exact sub_trans hm (by decide) | exact any_of hm (by decide) _)

theorem ch_execLongCancel {m : Nat} {src : Src} {tag : Word} {s t : State} (hm : Within 0x140690000010210140480000000000000F80000000000000000000000600000000000001ED8000240000020000000000000000000000000000000840721040080006A9E6 m)
    (h : execLongCancel src tag s = .next t) : t.pending = s.pending ∧ Changes m s.dev t.dev := by
  unfold execLongCancel at h
  refine of_onHost h (sub_trans hm (by decide)) (fun d hd => ?_)
  try dsimp only
  repeat' (first | with_reducible assumption | split | (intro _) | with_reducible apply ch_longCancel | exact sub_trans hm (by decide))

theorem ch_execRegWrite {m : Nat} {src : Src} {pairs : List (Word × Word)} {s t : State} (hm : Within 0x1FF0FFFFF001FFF01FFFF00FFFFFFF00FFFFFFF00FFFFFFFFFF00FFFF07FFFF1FFFFF03FFFFFFF3FFFFFFFF1FFFFFFFFFFF01FFFFFFF03FFFFFFF0FFFFF7FFFFF80FFFFFF m)
    (h : execRegWrite src pairs s = .next t) : t.pending = s.pending ∧ Changes m s.dev t.dev := by
  unfold execRegWrite at h
  refine of_onHost h (sub_trans hm (by decide)) (fun d hd => ?_)
  try dsimp only
  repeat' (first | with_reducible assumption | split | (intro _) | with_reducible apply ch_regWrites | exact sub_trans hm (by decide) | exact any_of hm (by decide) _)

theorem ch_execLongPartialReady {m : Nat} {src : Src} {units : Nat} {data : List Byte} {progress : Nat} {s t : State} (hm : Within 0x14000000000000000000000000000000000000000000000000000000000000000000000000000000000000000000000000000000000000000000084072000000000001A4 m)
    (h : execLongPartialReady src units data progress s = .next t) : t.pending = s.pending ∧ Changes m s.dev t.dev := by
  unfold execLongPartialReady at h
  refine of_onLive h (bit_of hm (by decide)) (fun d hd => ?_)
  try dsimp only
  repeat' (first | with_reducible assumption | split | (intro _) | with_reducible apply ch_partialReady | exact sub_trans hm (by decide))

theorem ch_execUartFrameReceived {m : Nat} {frame : List Byte} {s t : State} (hm : Within 0x8410200000000000084 m)
    (h : execUartFrameReceived frame s = .next t) : t.pending = s.pending ∧ Changes m s.dev t.dev := by
  unfold execUartFrameReceived at h
  refine of_onLive h (bit_of hm (by decide)) (fun d hd => ?_)
  try dsimp only
  repeat' (first | with_reducible assumption | split | (intro _) | with_reducible apply ch_uartFrame | exact sub_trans hm (by decide))

theorem ch_execCtrlResponseReceived {m : Nat} {f : RxFrame} {s t : State} (hm : Within 0x1FF0FFFFF001FFF01FFFF00FFFFFFF00FFFFFFF00FFFFFFFFFF00FFFF07FFFF1FFFFF03FFFFFFF3FFFFFFFF1FFFFFFFFFFF01FFFFFFF03FFFFFFF0FFFFF7FFFFF80FFFFFF m)
    (h : execCtrlResponseReceived f s = .next t) : t.pending = s.pending ∧ Changes m s.dev t.dev := by
  unfold execCtrlResponseReceived at h
  refine of_onRun h (bit_of hm (by decide)) (fun d hd => ?_)
  try dsimp only
  repeat' (first | with_reducible assumption | split | (intro _) | with_reducible apply ch_takeFrame | with_reducible apply ch_resumeWrites | with_reducible apply ch_ctrlResponse | exact sub_trans hm (by decide) | exact any_of hm (by decide) _)

theorem ch_execTestWindowOpen {m : Nat} {quiet : Bool} {generating : Bool} {s t : State} (hm : Within 0x140010000010210140480000000000000F800000000000000000000000000000000000020C800000000000000000000000000000000000000000084072104008000289E7 m)
    (h : execTestWindowOpen quiet generating s = .next t) : t.pending = s.pending ∧ Changes m s.dev t.dev := by
  unfold execTestWindowOpen at h
  refine of_onLive h (bit_of hm (by decide)) (fun d hd => ?_)
  try dsimp only
  repeat' (first | with_reducible assumption | split | (intro _) | with_reducible apply ch_testWindowOpen | exact sub_trans hm (by decide))

end Dev

end Sys2Proof.Machine
end

