-- ==== Sys2Proof/Laws/ClockCh.lean ====
section
/-! SUPPORT. What each definition of Machine/Clock.lean may change. -/

namespace Sys2Proof.Machine

set_option linter.all false
set_option Elab.async false

namespace Dev

theorem ch_ctlTick {m : Nat} {s0 : Dev} (s : Dev)
    (hm : Within 0x5 m) (h0 : Changes m s0 s) :
    Changes m s0 (Dev.ctlTick s) := by
  unfold Dev.ctlTick
  try dsimp only
  repeat' (first | with_reducible assumption | split | (intro _) | with_reducible apply ch_putDt | with_reducible apply ch_start | exact sub_trans hm (by decide) | exact bit_of hm (by decide) | exact Nat.le_max_left _ _ | exact Nat.le_add_right _ _)


end Dev

end Sys2Proof.Machine
end

