-- ==== Sys2Proof/Laws/State.lean ====
section
/-! SUPPORT. What each update of the device leaves of every part: one lemma per part and update, and what the updates of parts leave of
the registers. -/

namespace Sys2Proof.Machine.Dev

@[simp] theorem putDt_dt (s : Dev) (x : Nat) : (s.putDt x).dt = x := (rfl)
@[simp] theorem putDt_free (s : Dev) (x : Nat) : (s.putDt x).free = s.free := (rfl)
@[simp] theorem putDt_out (s : Dev) (x : Nat) : (s.putDt x).out = s.out := (rfl)
@[simp] theorem putDt_capture (s : Dev) (x : Nat) : (s.putDt x).capture = s.capture := (rfl)
@[simp] theorem putDt_staging (s : Dev) (x : Nat) : (s.putDt x).staging = s.staging := (rfl)
@[simp] theorem putDt_sets (s : Dev) (x : Nat) : (s.putDt x).sets = s.sets := (rfl)
@[simp] theorem putDt_gen (s : Dev) (x : Nat) : (s.putDt x).gen = s.gen := (rfl)
@[simp] theorem putDt_hif (s : Dev) (x : Nat) : (s.putDt x).hif = s.hif := (rfl)
@[simp] theorem putDt_ldg (s : Dev) (x : Nat) : (s.putDt x).ldg = s.ldg := (rfl)
@[simp] theorem putDt_alc (s : Dev) (x : Nat) : (s.putDt x).alc = s.alc := (rfl)
@[simp] theorem putDt_edg (s : Dev) (x : Nat) : (s.putDt x).edg = s.edg := (rfl)
@[simp] theorem putDt_pst (s : Dev) (x : Nat) : (s.putDt x).pst = s.pst := (rfl)
@[simp] theorem putDt_cle (s : Dev) (x : Nat) : (s.putDt x).cle = s.cle := (rfl)
@[simp] theorem putDt_thm (s : Dev) (x : Nat) : (s.putDt x).thm = s.thm := (rfl)
@[simp] theorem putDt_mtr (s : Dev) (x : Nat) : (s.putDt x).mtr = s.mtr := (rfl)
@[simp] theorem putDt_tri (s : Dev) (x : Nat) : (s.putDt x).tri = s.tri := (rfl)
@[simp] theorem putDt_vss (s : Dev) (x : Nat) : (s.putDt x).vss = s.vss := (rfl)
@[simp] theorem putDt_bil (s : Dev) (x : Nat) : (s.putDt x).bil = s.bil := (rfl)
@[simp] theorem putDt_key (s : Dev) (x : Nat) : (s.putDt x).key = s.key := (rfl)
@[simp] theorem putDt_sln (s : Dev) (x : Nat) : (s.putDt x).sln = s.sln := (rfl)
@[simp] theorem putDt_lsw (s : Dev) (x : Nat) : (s.putDt x).lsw = s.lsw := (rfl)
@[simp] theorem putDt_saf (s : Dev) (x : Nat) : (s.putDt x).saf = s.saf := (rfl)
@[simp] theorem putDt_bse (s : Dev) (x : Nat) : (s.putDt x).bse = s.bse := (rfl)
@[simp] theorem putDt_can (s : Dev) (x : Nat) : (s.putDt x).can = s.can := (rfl)
@[simp] theorem putDt_regs (s : Dev) (x : Nat) : (s.putDt x).regs = s.regs := (rfl)
@[simp] theorem putDt_rd (s : Dev) (x : Nat) (a : Nat) : (s.putDt x).rd a = s.rd a := (rfl)
@[simp] theorem putDt_get (s : Dev) (x : Nat) (f : Field) : (s.putDt x).get f = s.get f := (rfl)
@[simp] theorem putDt_flag (s : Dev) (x : Nat) (f : Field) : (s.putDt x).flag f = s.flag f := (rfl)

@[simp] theorem putFree_dt (s : Dev) (x : Nat) : (s.putFree x).dt = s.dt := (rfl)
@[simp] theorem putFree_free (s : Dev) (x : Nat) : (s.putFree x).free = x := (rfl)
@[simp] theorem putFree_out (s : Dev) (x : Nat) : (s.putFree x).out = s.out := (rfl)
@[simp] theorem putFree_capture (s : Dev) (x : Nat) : (s.putFree x).capture = s.capture := (rfl)
@[simp] theorem putFree_staging (s : Dev) (x : Nat) : (s.putFree x).staging = s.staging := (rfl)
@[simp] theorem putFree_sets (s : Dev) (x : Nat) : (s.putFree x).sets = s.sets := (rfl)
@[simp] theorem putFree_gen (s : Dev) (x : Nat) : (s.putFree x).gen = s.gen := (rfl)
@[simp] theorem putFree_hif (s : Dev) (x : Nat) : (s.putFree x).hif = s.hif := (rfl)
@[simp] theorem putFree_ldg (s : Dev) (x : Nat) : (s.putFree x).ldg = s.ldg := (rfl)
@[simp] theorem putFree_alc (s : Dev) (x : Nat) : (s.putFree x).alc = s.alc := (rfl)
@[simp] theorem putFree_edg (s : Dev) (x : Nat) : (s.putFree x).edg = s.edg := (rfl)
@[simp] theorem putFree_pst (s : Dev) (x : Nat) : (s.putFree x).pst = s.pst := (rfl)
@[simp] theorem putFree_cle (s : Dev) (x : Nat) : (s.putFree x).cle = s.cle := (rfl)
@[simp] theorem putFree_thm (s : Dev) (x : Nat) : (s.putFree x).thm = s.thm := (rfl)
@[simp] theorem putFree_mtr (s : Dev) (x : Nat) : (s.putFree x).mtr = s.mtr := (rfl)
@[simp] theorem putFree_tri (s : Dev) (x : Nat) : (s.putFree x).tri = s.tri := (rfl)
@[simp] theorem putFree_vss (s : Dev) (x : Nat) : (s.putFree x).vss = s.vss := (rfl)
@[simp] theorem putFree_bil (s : Dev) (x : Nat) : (s.putFree x).bil = s.bil := (rfl)
@[simp] theorem putFree_key (s : Dev) (x : Nat) : (s.putFree x).key = s.key := (rfl)
@[simp] theorem putFree_sln (s : Dev) (x : Nat) : (s.putFree x).sln = s.sln := (rfl)
@[simp] theorem putFree_lsw (s : Dev) (x : Nat) : (s.putFree x).lsw = s.lsw := (rfl)
@[simp] theorem putFree_saf (s : Dev) (x : Nat) : (s.putFree x).saf = s.saf := (rfl)
@[simp] theorem putFree_bse (s : Dev) (x : Nat) : (s.putFree x).bse = s.bse := (rfl)
@[simp] theorem putFree_can (s : Dev) (x : Nat) : (s.putFree x).can = s.can := (rfl)
@[simp] theorem putFree_regs (s : Dev) (x : Nat) : (s.putFree x).regs = s.regs := (rfl)
@[simp] theorem putFree_rd (s : Dev) (x : Nat) (a : Nat) : (s.putFree x).rd a = s.rd a := (rfl)
@[simp] theorem putFree_get (s : Dev) (x : Nat) (f : Field) : (s.putFree x).get f = s.get f := (rfl)
@[simp] theorem putFree_flag (s : Dev) (x : Nat) (f : Field) : (s.putFree x).flag f = s.flag f := (rfl)

@[simp] theorem putOut_dt (s : Dev) (x : List Output) : (s.putOut x).dt = s.dt := (rfl)
@[simp] theorem putOut_free (s : Dev) (x : List Output) : (s.putOut x).free = s.free := (rfl)
@[simp] theorem putOut_out (s : Dev) (x : List Output) : (s.putOut x).out = x := (rfl)
@[simp] theorem putOut_capture (s : Dev) (x : List Output) : (s.putOut x).capture = s.capture := (rfl)
@[simp] theorem putOut_staging (s : Dev) (x : List Output) : (s.putOut x).staging = s.staging := (rfl)
@[simp] theorem putOut_sets (s : Dev) (x : List Output) : (s.putOut x).sets = s.sets := (rfl)
@[simp] theorem putOut_gen (s : Dev) (x : List Output) : (s.putOut x).gen = s.gen := (rfl)
@[simp] theorem putOut_hif (s : Dev) (x : List Output) : (s.putOut x).hif = s.hif := (rfl)
@[simp] theorem putOut_ldg (s : Dev) (x : List Output) : (s.putOut x).ldg = s.ldg := (rfl)
@[simp] theorem putOut_alc (s : Dev) (x : List Output) : (s.putOut x).alc = s.alc := (rfl)
@[simp] theorem putOut_edg (s : Dev) (x : List Output) : (s.putOut x).edg = s.edg := (rfl)
@[simp] theorem putOut_pst (s : Dev) (x : List Output) : (s.putOut x).pst = s.pst := (rfl)
@[simp] theorem putOut_cle (s : Dev) (x : List Output) : (s.putOut x).cle = s.cle := (rfl)
@[simp] theorem putOut_thm (s : Dev) (x : List Output) : (s.putOut x).thm = s.thm := (rfl)
@[simp] theorem putOut_mtr (s : Dev) (x : List Output) : (s.putOut x).mtr = s.mtr := (rfl)
@[simp] theorem putOut_tri (s : Dev) (x : List Output) : (s.putOut x).tri = s.tri := (rfl)
@[simp] theorem putOut_vss (s : Dev) (x : List Output) : (s.putOut x).vss = s.vss := (rfl)
@[simp] theorem putOut_bil (s : Dev) (x : List Output) : (s.putOut x).bil = s.bil := (rfl)
@[simp] theorem putOut_key (s : Dev) (x : List Output) : (s.putOut x).key = s.key := (rfl)
@[simp] theorem putOut_sln (s : Dev) (x : List Output) : (s.putOut x).sln = s.sln := (rfl)
@[simp] theorem putOut_lsw (s : Dev) (x : List Output) : (s.putOut x).lsw = s.lsw := (rfl)
@[simp] theorem putOut_saf (s : Dev) (x : List Output) : (s.putOut x).saf = s.saf := (rfl)
@[simp] theorem putOut_bse (s : Dev) (x : List Output) : (s.putOut x).bse = s.bse := (rfl)
@[simp] theorem putOut_can (s : Dev) (x : List Output) : (s.putOut x).can = s.can := (rfl)
@[simp] theorem putOut_regs (s : Dev) (x : List Output) : (s.putOut x).regs = s.regs := (rfl)
@[simp] theorem putOut_rd (s : Dev) (x : List Output) (a : Nat) : (s.putOut x).rd a = s.rd a := (rfl)
@[simp] theorem putOut_get (s : Dev) (x : List Output) (f : Field) : (s.putOut x).get f = s.get f := (rfl)
@[simp] theorem putOut_flag (s : Dev) (x : List Output) (f : Field) : (s.putOut x).flag f = s.flag f := (rfl)

@[simp] theorem putCapture_dt (s : Dev) (x : List (Nat × Word)) : (s.putCapture x).dt = s.dt := (rfl)
@[simp] theorem putCapture_free (s : Dev) (x : List (Nat × Word)) : (s.putCapture x).free = s.free := (rfl)
@[simp] theorem putCapture_out (s : Dev) (x : List (Nat × Word)) : (s.putCapture x).out = s.out := (rfl)
@[simp] theorem putCapture_capture (s : Dev) (x : List (Nat × Word)) : (s.putCapture x).capture = x := (rfl)
@[simp] theorem putCapture_staging (s : Dev) (x : List (Nat × Word)) : (s.putCapture x).staging = s.staging := (rfl)
@[simp] theorem putCapture_sets (s : Dev) (x : List (Nat × Word)) : (s.putCapture x).sets = s.sets := (rfl)
@[simp] theorem putCapture_gen (s : Dev) (x : List (Nat × Word)) : (s.putCapture x).gen = s.gen := (rfl)
@[simp] theorem putCapture_hif (s : Dev) (x : List (Nat × Word)) : (s.putCapture x).hif = s.hif := (rfl)
@[simp] theorem putCapture_ldg (s : Dev) (x : List (Nat × Word)) : (s.putCapture x).ldg = s.ldg := (rfl)
@[simp] theorem putCapture_alc (s : Dev) (x : List (Nat × Word)) : (s.putCapture x).alc = s.alc := (rfl)
@[simp] theorem putCapture_edg (s : Dev) (x : List (Nat × Word)) : (s.putCapture x).edg = s.edg := (rfl)
@[simp] theorem putCapture_pst (s : Dev) (x : List (Nat × Word)) : (s.putCapture x).pst = s.pst := (rfl)
@[simp] theorem putCapture_cle (s : Dev) (x : List (Nat × Word)) : (s.putCapture x).cle = s.cle := (rfl)
@[simp] theorem putCapture_thm (s : Dev) (x : List (Nat × Word)) : (s.putCapture x).thm = s.thm := (rfl)
@[simp] theorem putCapture_mtr (s : Dev) (x : List (Nat × Word)) : (s.putCapture x).mtr = s.mtr := (rfl)
@[simp] theorem putCapture_tri (s : Dev) (x : List (Nat × Word)) : (s.putCapture x).tri = s.tri := (rfl)
@[simp] theorem putCapture_vss (s : Dev) (x : List (Nat × Word)) : (s.putCapture x).vss = s.vss := (rfl)
@[simp] theorem putCapture_bil (s : Dev) (x : List (Nat × Word)) : (s.putCapture x).bil = s.bil := (rfl)
@[simp] theorem putCapture_key (s : Dev) (x : List (Nat × Word)) : (s.putCapture x).key = s.key := (rfl)
@[simp] theorem putCapture_sln (s : Dev) (x : List (Nat × Word)) : (s.putCapture x).sln = s.sln := (rfl)
@[simp] theorem putCapture_lsw (s : Dev) (x : List (Nat × Word)) : (s.putCapture x).lsw = s.lsw := (rfl)
@[simp] theorem putCapture_saf (s : Dev) (x : List (Nat × Word)) : (s.putCapture x).saf = s.saf := (rfl)
@[simp] theorem putCapture_bse (s : Dev) (x : List (Nat × Word)) : (s.putCapture x).bse = s.bse := (rfl)
@[simp] theorem putCapture_can (s : Dev) (x : List (Nat × Word)) : (s.putCapture x).can = s.can := (rfl)
@[simp] theorem putCapture_regs (s : Dev) (x : List (Nat × Word)) : (s.putCapture x).regs = s.regs := (rfl)
@[simp] theorem putCapture_rd (s : Dev) (x : List (Nat × Word)) (a : Nat) : (s.putCapture x).rd a = s.rd a := (rfl)
@[simp] theorem putCapture_get (s : Dev) (x : List (Nat × Word)) (f : Field) : (s.putCapture x).get f = s.get f := (rfl)
@[simp] theorem putCapture_flag (s : Dev) (x : List (Nat × Word)) (f : Field) : (s.putCapture x).flag f = s.flag f := (rfl)

@[simp] theorem putStaging_dt (s : Dev) (x : List (Nat × Word)) : (s.putStaging x).dt = s.dt := (rfl)
@[simp] theorem putStaging_free (s : Dev) (x : List (Nat × Word)) : (s.putStaging x).free = s.free := (rfl)
@[simp] theorem putStaging_out (s : Dev) (x : List (Nat × Word)) : (s.putStaging x).out = s.out := (rfl)
@[simp] theorem putStaging_capture (s : Dev) (x : List (Nat × Word)) : (s.putStaging x).capture = s.capture := (rfl)
@[simp] theorem putStaging_staging (s : Dev) (x : List (Nat × Word)) : (s.putStaging x).staging = x := (rfl)
@[simp] theorem putStaging_sets (s : Dev) (x : List (Nat × Word)) : (s.putStaging x).sets = s.sets := (rfl)
@[simp] theorem putStaging_gen (s : Dev) (x : List (Nat × Word)) : (s.putStaging x).gen = s.gen := (rfl)
@[simp] theorem putStaging_hif (s : Dev) (x : List (Nat × Word)) : (s.putStaging x).hif = s.hif := (rfl)
@[simp] theorem putStaging_ldg (s : Dev) (x : List (Nat × Word)) : (s.putStaging x).ldg = s.ldg := (rfl)
@[simp] theorem putStaging_alc (s : Dev) (x : List (Nat × Word)) : (s.putStaging x).alc = s.alc := (rfl)
@[simp] theorem putStaging_edg (s : Dev) (x : List (Nat × Word)) : (s.putStaging x).edg = s.edg := (rfl)
@[simp] theorem putStaging_pst (s : Dev) (x : List (Nat × Word)) : (s.putStaging x).pst = s.pst := (rfl)
@[simp] theorem putStaging_cle (s : Dev) (x : List (Nat × Word)) : (s.putStaging x).cle = s.cle := (rfl)
@[simp] theorem putStaging_thm (s : Dev) (x : List (Nat × Word)) : (s.putStaging x).thm = s.thm := (rfl)
@[simp] theorem putStaging_mtr (s : Dev) (x : List (Nat × Word)) : (s.putStaging x).mtr = s.mtr := (rfl)
@[simp] theorem putStaging_tri (s : Dev) (x : List (Nat × Word)) : (s.putStaging x).tri = s.tri := (rfl)
@[simp] theorem putStaging_vss (s : Dev) (x : List (Nat × Word)) : (s.putStaging x).vss = s.vss := (rfl)
@[simp] theorem putStaging_bil (s : Dev) (x : List (Nat × Word)) : (s.putStaging x).bil = s.bil := (rfl)
@[simp] theorem putStaging_key (s : Dev) (x : List (Nat × Word)) : (s.putStaging x).key = s.key := (rfl)
@[simp] theorem putStaging_sln (s : Dev) (x : List (Nat × Word)) : (s.putStaging x).sln = s.sln := (rfl)
@[simp] theorem putStaging_lsw (s : Dev) (x : List (Nat × Word)) : (s.putStaging x).lsw = s.lsw := (rfl)
@[simp] theorem putStaging_saf (s : Dev) (x : List (Nat × Word)) : (s.putStaging x).saf = s.saf := (rfl)
@[simp] theorem putStaging_bse (s : Dev) (x : List (Nat × Word)) : (s.putStaging x).bse = s.bse := (rfl)
@[simp] theorem putStaging_can (s : Dev) (x : List (Nat × Word)) : (s.putStaging x).can = s.can := (rfl)
@[simp] theorem putStaging_regs (s : Dev) (x : List (Nat × Word)) : (s.putStaging x).regs = s.regs := (rfl)
@[simp] theorem putStaging_rd (s : Dev) (x : List (Nat × Word)) (a : Nat) : (s.putStaging x).rd a = s.rd a := (rfl)
@[simp] theorem putStaging_get (s : Dev) (x : List (Nat × Word)) (f : Field) : (s.putStaging x).get f = s.get f := (rfl)
@[simp] theorem putStaging_flag (s : Dev) (x : List (Nat × Word)) (f : Field) : (s.putStaging x).flag f = s.flag f := (rfl)

@[simp] theorem putSets_dt (s : Dev) (x : List (Nat × Nat × Word)) : (s.putSets x).dt = s.dt := (rfl)
@[simp] theorem putSets_free (s : Dev) (x : List (Nat × Nat × Word)) : (s.putSets x).free = s.free := (rfl)
@[simp] theorem putSets_out (s : Dev) (x : List (Nat × Nat × Word)) : (s.putSets x).out = s.out := (rfl)
@[simp] theorem putSets_capture (s : Dev) (x : List (Nat × Nat × Word)) : (s.putSets x).capture = s.capture := (rfl)
@[simp] theorem putSets_staging (s : Dev) (x : List (Nat × Nat × Word)) : (s.putSets x).staging = s.staging := (rfl)
@[simp] theorem putSets_sets (s : Dev) (x : List (Nat × Nat × Word)) : (s.putSets x).sets = x := (rfl)
@[simp] theorem putSets_gen (s : Dev) (x : List (Nat × Nat × Word)) : (s.putSets x).gen = s.gen := (rfl)
@[simp] theorem putSets_hif (s : Dev) (x : List (Nat × Nat × Word)) : (s.putSets x).hif = s.hif := (rfl)
@[simp] theorem putSets_ldg (s : Dev) (x : List (Nat × Nat × Word)) : (s.putSets x).ldg = s.ldg := (rfl)
@[simp] theorem putSets_alc (s : Dev) (x : List (Nat × Nat × Word)) : (s.putSets x).alc = s.alc := (rfl)
@[simp] theorem putSets_edg (s : Dev) (x : List (Nat × Nat × Word)) : (s.putSets x).edg = s.edg := (rfl)
@[simp] theorem putSets_pst (s : Dev) (x : List (Nat × Nat × Word)) : (s.putSets x).pst = s.pst := (rfl)
@[simp] theorem putSets_cle (s : Dev) (x : List (Nat × Nat × Word)) : (s.putSets x).cle = s.cle := (rfl)
@[simp] theorem putSets_thm (s : Dev) (x : List (Nat × Nat × Word)) : (s.putSets x).thm = s.thm := (rfl)
@[simp] theorem putSets_mtr (s : Dev) (x : List (Nat × Nat × Word)) : (s.putSets x).mtr = s.mtr := (rfl)
@[simp] theorem putSets_tri (s : Dev) (x : List (Nat × Nat × Word)) : (s.putSets x).tri = s.tri := (rfl)
@[simp] theorem putSets_vss (s : Dev) (x : List (Nat × Nat × Word)) : (s.putSets x).vss = s.vss := (rfl)
@[simp] theorem putSets_bil (s : Dev) (x : List (Nat × Nat × Word)) : (s.putSets x).bil = s.bil := (rfl)
@[simp] theorem putSets_key (s : Dev) (x : List (Nat × Nat × Word)) : (s.putSets x).key = s.key := (rfl)
@[simp] theorem putSets_sln (s : Dev) (x : List (Nat × Nat × Word)) : (s.putSets x).sln = s.sln := (rfl)
@[simp] theorem putSets_lsw (s : Dev) (x : List (Nat × Nat × Word)) : (s.putSets x).lsw = s.lsw := (rfl)
@[simp] theorem putSets_saf (s : Dev) (x : List (Nat × Nat × Word)) : (s.putSets x).saf = s.saf := (rfl)
@[simp] theorem putSets_bse (s : Dev) (x : List (Nat × Nat × Word)) : (s.putSets x).bse = s.bse := (rfl)
@[simp] theorem putSets_can (s : Dev) (x : List (Nat × Nat × Word)) : (s.putSets x).can = s.can := (rfl)
@[simp] theorem putSets_regs (s : Dev) (x : List (Nat × Nat × Word)) : (s.putSets x).regs = s.regs := (rfl)
@[simp] theorem putSets_rd (s : Dev) (x : List (Nat × Nat × Word)) (a : Nat) : (s.putSets x).rd a = s.rd a := (rfl)
@[simp] theorem putSets_get (s : Dev) (x : List (Nat × Nat × Word)) (f : Field) : (s.putSets x).get f = s.get f := (rfl)
@[simp] theorem putSets_flag (s : Dev) (x : List (Nat × Nat × Word)) (f : Field) : (s.putSets x).flag f = s.flag f := (rfl)

@[simp] theorem putGen_dt (s : Dev) (x : Gen) : (s.putGen x).dt = s.dt := (rfl)
@[simp] theorem putGen_free (s : Dev) (x : Gen) : (s.putGen x).free = s.free := (rfl)
@[simp] theorem putGen_out (s : Dev) (x : Gen) : (s.putGen x).out = s.out := (rfl)
@[simp] theorem putGen_capture (s : Dev) (x : Gen) : (s.putGen x).capture = s.capture := (rfl)
@[simp] theorem putGen_staging (s : Dev) (x : Gen) : (s.putGen x).staging = s.staging := (rfl)
@[simp] theorem putGen_sets (s : Dev) (x : Gen) : (s.putGen x).sets = s.sets := (rfl)
@[simp] theorem putGen_gen (s : Dev) (x : Gen) : (s.putGen x).gen = x := (rfl)
@[simp] theorem putGen_hif (s : Dev) (x : Gen) : (s.putGen x).hif = s.hif := (rfl)
@[simp] theorem putGen_ldg (s : Dev) (x : Gen) : (s.putGen x).ldg = s.ldg := (rfl)
@[simp] theorem putGen_alc (s : Dev) (x : Gen) : (s.putGen x).alc = s.alc := (rfl)
@[simp] theorem putGen_edg (s : Dev) (x : Gen) : (s.putGen x).edg = s.edg := (rfl)
@[simp] theorem putGen_pst (s : Dev) (x : Gen) : (s.putGen x).pst = s.pst := (rfl)
@[simp] theorem putGen_cle (s : Dev) (x : Gen) : (s.putGen x).cle = s.cle := (rfl)
@[simp] theorem putGen_thm (s : Dev) (x : Gen) : (s.putGen x).thm = s.thm := (rfl)
@[simp] theorem putGen_mtr (s : Dev) (x : Gen) : (s.putGen x).mtr = s.mtr := (rfl)
@[simp] theorem putGen_tri (s : Dev) (x : Gen) : (s.putGen x).tri = s.tri := (rfl)
@[simp] theorem putGen_vss (s : Dev) (x : Gen) : (s.putGen x).vss = s.vss := (rfl)
@[simp] theorem putGen_bil (s : Dev) (x : Gen) : (s.putGen x).bil = s.bil := (rfl)
@[simp] theorem putGen_key (s : Dev) (x : Gen) : (s.putGen x).key = s.key := (rfl)
@[simp] theorem putGen_sln (s : Dev) (x : Gen) : (s.putGen x).sln = s.sln := (rfl)
@[simp] theorem putGen_lsw (s : Dev) (x : Gen) : (s.putGen x).lsw = s.lsw := (rfl)
@[simp] theorem putGen_saf (s : Dev) (x : Gen) : (s.putGen x).saf = s.saf := (rfl)
@[simp] theorem putGen_bse (s : Dev) (x : Gen) : (s.putGen x).bse = s.bse := (rfl)
@[simp] theorem putGen_can (s : Dev) (x : Gen) : (s.putGen x).can = s.can := (rfl)
@[simp] theorem putGen_regs (s : Dev) (x : Gen) : (s.putGen x).regs = s.regs := (rfl)
@[simp] theorem putGen_rd (s : Dev) (x : Gen) (a : Nat) : (s.putGen x).rd a = s.rd a := (rfl)
@[simp] theorem putGen_get (s : Dev) (x : Gen) (f : Field) : (s.putGen x).get f = s.get f := (rfl)
@[simp] theorem putGen_flag (s : Dev) (x : Gen) (f : Field) : (s.putGen x).flag f = s.flag f := (rfl)

@[simp] theorem putHif_dt (s : Dev) (x : Hif) : (s.putHif x).dt = s.dt := (rfl)
@[simp] theorem putHif_free (s : Dev) (x : Hif) : (s.putHif x).free = s.free := (rfl)
@[simp] theorem putHif_out (s : Dev) (x : Hif) : (s.putHif x).out = s.out := (rfl)
@[simp] theorem putHif_capture (s : Dev) (x : Hif) : (s.putHif x).capture = s.capture := (rfl)
@[simp] theorem putHif_staging (s : Dev) (x : Hif) : (s.putHif x).staging = s.staging := (rfl)
@[simp] theorem putHif_sets (s : Dev) (x : Hif) : (s.putHif x).sets = s.sets := (rfl)
@[simp] theorem putHif_gen (s : Dev) (x : Hif) : (s.putHif x).gen = s.gen := (rfl)
@[simp] theorem putHif_hif (s : Dev) (x : Hif) : (s.putHif x).hif = x := (rfl)
@[simp] theorem putHif_ldg (s : Dev) (x : Hif) : (s.putHif x).ldg = s.ldg := (rfl)
@[simp] theorem putHif_alc (s : Dev) (x : Hif) : (s.putHif x).alc = s.alc := (rfl)
@[simp] theorem putHif_edg (s : Dev) (x : Hif) : (s.putHif x).edg = s.edg := (rfl)
@[simp] theorem putHif_pst (s : Dev) (x : Hif) : (s.putHif x).pst = s.pst := (rfl)
@[simp] theorem putHif_cle (s : Dev) (x : Hif) : (s.putHif x).cle = s.cle := (rfl)
@[simp] theorem putHif_thm (s : Dev) (x : Hif) : (s.putHif x).thm = s.thm := (rfl)
@[simp] theorem putHif_mtr (s : Dev) (x : Hif) : (s.putHif x).mtr = s.mtr := (rfl)
@[simp] theorem putHif_tri (s : Dev) (x : Hif) : (s.putHif x).tri = s.tri := (rfl)
@[simp] theorem putHif_vss (s : Dev) (x : Hif) : (s.putHif x).vss = s.vss := (rfl)
@[simp] theorem putHif_bil (s : Dev) (x : Hif) : (s.putHif x).bil = s.bil := (rfl)
@[simp] theorem putHif_key (s : Dev) (x : Hif) : (s.putHif x).key = s.key := (rfl)
@[simp] theorem putHif_sln (s : Dev) (x : Hif) : (s.putHif x).sln = s.sln := (rfl)
@[simp] theorem putHif_lsw (s : Dev) (x : Hif) : (s.putHif x).lsw = s.lsw := (rfl)
@[simp] theorem putHif_saf (s : Dev) (x : Hif) : (s.putHif x).saf = s.saf := (rfl)
@[simp] theorem putHif_bse (s : Dev) (x : Hif) : (s.putHif x).bse = s.bse := (rfl)
@[simp] theorem putHif_can (s : Dev) (x : Hif) : (s.putHif x).can = s.can := (rfl)
@[simp] theorem putHif_regs (s : Dev) (x : Hif) : (s.putHif x).regs = s.regs := (rfl)
@[simp] theorem putHif_rd (s : Dev) (x : Hif) (a : Nat) : (s.putHif x).rd a = s.rd a := (rfl)
@[simp] theorem putHif_get (s : Dev) (x : Hif) (f : Field) : (s.putHif x).get f = s.get f := (rfl)
@[simp] theorem putHif_flag (s : Dev) (x : Hif) (f : Field) : (s.putHif x).flag f = s.flag f := (rfl)

@[simp] theorem putLdg_dt (s : Dev) (x : Ldg) : (s.putLdg x).dt = s.dt := (rfl)
@[simp] theorem putLdg_free (s : Dev) (x : Ldg) : (s.putLdg x).free = s.free := (rfl)
@[simp] theorem putLdg_out (s : Dev) (x : Ldg) : (s.putLdg x).out = s.out := (rfl)
@[simp] theorem putLdg_capture (s : Dev) (x : Ldg) : (s.putLdg x).capture = s.capture := (rfl)
@[simp] theorem putLdg_staging (s : Dev) (x : Ldg) : (s.putLdg x).staging = s.staging := (rfl)
@[simp] theorem putLdg_sets (s : Dev) (x : Ldg) : (s.putLdg x).sets = s.sets := (rfl)
@[simp] theorem putLdg_gen (s : Dev) (x : Ldg) : (s.putLdg x).gen = s.gen := (rfl)
@[simp] theorem putLdg_hif (s : Dev) (x : Ldg) : (s.putLdg x).hif = s.hif := (rfl)
@[simp] theorem putLdg_ldg (s : Dev) (x : Ldg) : (s.putLdg x).ldg = x := (rfl)
@[simp] theorem putLdg_alc (s : Dev) (x : Ldg) : (s.putLdg x).alc = s.alc := (rfl)
@[simp] theorem putLdg_edg (s : Dev) (x : Ldg) : (s.putLdg x).edg = s.edg := (rfl)
@[simp] theorem putLdg_pst (s : Dev) (x : Ldg) : (s.putLdg x).pst = s.pst := (rfl)
@[simp] theorem putLdg_cle (s : Dev) (x : Ldg) : (s.putLdg x).cle = s.cle := (rfl)
@[simp] theorem putLdg_thm (s : Dev) (x : Ldg) : (s.putLdg x).thm = s.thm := (rfl)
@[simp] theorem putLdg_mtr (s : Dev) (x : Ldg) : (s.putLdg x).mtr = s.mtr := (rfl)
@[simp] theorem putLdg_tri (s : Dev) (x : Ldg) : (s.putLdg x).tri = s.tri := (rfl)
@[simp] theorem putLdg_vss (s : Dev) (x : Ldg) : (s.putLdg x).vss = s.vss := (rfl)
@[simp] theorem putLdg_bil (s : Dev) (x : Ldg) : (s.putLdg x).bil = s.bil := (rfl)
@[simp] theorem putLdg_key (s : Dev) (x : Ldg) : (s.putLdg x).key = s.key := (rfl)
@[simp] theorem putLdg_sln (s : Dev) (x : Ldg) : (s.putLdg x).sln = s.sln := (rfl)
@[simp] theorem putLdg_lsw (s : Dev) (x : Ldg) : (s.putLdg x).lsw = s.lsw := (rfl)
@[simp] theorem putLdg_saf (s : Dev) (x : Ldg) : (s.putLdg x).saf = s.saf := (rfl)
@[simp] theorem putLdg_bse (s : Dev) (x : Ldg) : (s.putLdg x).bse = s.bse := (rfl)
@[simp] theorem putLdg_can (s : Dev) (x : Ldg) : (s.putLdg x).can = s.can := (rfl)
@[simp] theorem putLdg_regs (s : Dev) (x : Ldg) : (s.putLdg x).regs = s.regs := (rfl)
@[simp] theorem putLdg_rd (s : Dev) (x : Ldg) (a : Nat) : (s.putLdg x).rd a = s.rd a := (rfl)
@[simp] theorem putLdg_get (s : Dev) (x : Ldg) (f : Field) : (s.putLdg x).get f = s.get f := (rfl)
@[simp] theorem putLdg_flag (s : Dev) (x : Ldg) (f : Field) : (s.putLdg x).flag f = s.flag f := (rfl)

@[simp] theorem putAlc_dt (s : Dev) (x : Alc) : (s.putAlc x).dt = s.dt := (rfl)
@[simp] theorem putAlc_free (s : Dev) (x : Alc) : (s.putAlc x).free = s.free := (rfl)
@[simp] theorem putAlc_out (s : Dev) (x : Alc) : (s.putAlc x).out = s.out := (rfl)
@[simp] theorem putAlc_capture (s : Dev) (x : Alc) : (s.putAlc x).capture = s.capture := (rfl)
@[simp] theorem putAlc_staging (s : Dev) (x : Alc) : (s.putAlc x).staging = s.staging := (rfl)
@[simp] theorem putAlc_sets (s : Dev) (x : Alc) : (s.putAlc x).sets = s.sets := (rfl)
@[simp] theorem putAlc_gen (s : Dev) (x : Alc) : (s.putAlc x).gen = s.gen := (rfl)
@[simp] theorem putAlc_hif (s : Dev) (x : Alc) : (s.putAlc x).hif = s.hif := (rfl)
@[simp] theorem putAlc_ldg (s : Dev) (x : Alc) : (s.putAlc x).ldg = s.ldg := (rfl)
@[simp] theorem putAlc_alc (s : Dev) (x : Alc) : (s.putAlc x).alc = x := (rfl)
@[simp] theorem putAlc_edg (s : Dev) (x : Alc) : (s.putAlc x).edg = s.edg := (rfl)
@[simp] theorem putAlc_pst (s : Dev) (x : Alc) : (s.putAlc x).pst = s.pst := (rfl)
@[simp] theorem putAlc_cle (s : Dev) (x : Alc) : (s.putAlc x).cle = s.cle := (rfl)
@[simp] theorem putAlc_thm (s : Dev) (x : Alc) : (s.putAlc x).thm = s.thm := (rfl)
@[simp] theorem putAlc_mtr (s : Dev) (x : Alc) : (s.putAlc x).mtr = s.mtr := (rfl)
@[simp] theorem putAlc_tri (s : Dev) (x : Alc) : (s.putAlc x).tri = s.tri := (rfl)
@[simp] theorem putAlc_vss (s : Dev) (x : Alc) : (s.putAlc x).vss = s.vss := (rfl)
@[simp] theorem putAlc_bil (s : Dev) (x : Alc) : (s.putAlc x).bil = s.bil := (rfl)
@[simp] theorem putAlc_key (s : Dev) (x : Alc) : (s.putAlc x).key = s.key := (rfl)
@[simp] theorem putAlc_sln (s : Dev) (x : Alc) : (s.putAlc x).sln = s.sln := (rfl)
@[simp] theorem putAlc_lsw (s : Dev) (x : Alc) : (s.putAlc x).lsw = s.lsw := (rfl)
@[simp] theorem putAlc_saf (s : Dev) (x : Alc) : (s.putAlc x).saf = s.saf := (rfl)
@[simp] theorem putAlc_bse (s : Dev) (x : Alc) : (s.putAlc x).bse = s.bse := (rfl)
@[simp] theorem putAlc_can (s : Dev) (x : Alc) : (s.putAlc x).can = s.can := (rfl)
@[simp] theorem putAlc_regs (s : Dev) (x : Alc) : (s.putAlc x).regs = s.regs := (rfl)
@[simp] theorem putAlc_rd (s : Dev) (x : Alc) (a : Nat) : (s.putAlc x).rd a = s.rd a := (rfl)
@[simp] theorem putAlc_get (s : Dev) (x : Alc) (f : Field) : (s.putAlc x).get f = s.get f := (rfl)
@[simp] theorem putAlc_flag (s : Dev) (x : Alc) (f : Field) : (s.putAlc x).flag f = s.flag f := (rfl)

@[simp] theorem putEdg_dt (s : Dev) (x : Edg) : (s.putEdg x).dt = s.dt := (rfl)
@[simp] theorem putEdg_free (s : Dev) (x : Edg) : (s.putEdg x).free = s.free := (rfl)
@[simp] theorem putEdg_out (s : Dev) (x : Edg) : (s.putEdg x).out = s.out := (rfl)
@[simp] theorem putEdg_capture (s : Dev) (x : Edg) : (s.putEdg x).capture = s.capture := (rfl)
@[simp] theorem putEdg_staging (s : Dev) (x : Edg) : (s.putEdg x).staging = s.staging := (rfl)
@[simp] theorem putEdg_sets (s : Dev) (x : Edg) : (s.putEdg x).sets = s.sets := (rfl)
@[simp] theorem putEdg_gen (s : Dev) (x : Edg) : (s.putEdg x).gen = s.gen := (rfl)
@[simp] theorem putEdg_hif (s : Dev) (x : Edg) : (s.putEdg x).hif = s.hif := (rfl)
@[simp] theorem putEdg_ldg (s : Dev) (x : Edg) : (s.putEdg x).ldg = s.ldg := (rfl)
@[simp] theorem putEdg_alc (s : Dev) (x : Edg) : (s.putEdg x).alc = s.alc := (rfl)
@[simp] theorem putEdg_edg (s : Dev) (x : Edg) : (s.putEdg x).edg = x := (rfl)
@[simp] theorem putEdg_pst (s : Dev) (x : Edg) : (s.putEdg x).pst = s.pst := (rfl)
@[simp] theorem putEdg_cle (s : Dev) (x : Edg) : (s.putEdg x).cle = s.cle := (rfl)
@[simp] theorem putEdg_thm (s : Dev) (x : Edg) : (s.putEdg x).thm = s.thm := (rfl)
@[simp] theorem putEdg_mtr (s : Dev) (x : Edg) : (s.putEdg x).mtr = s.mtr := (rfl)
@[simp] theorem putEdg_tri (s : Dev) (x : Edg) : (s.putEdg x).tri = s.tri := (rfl)
@[simp] theorem putEdg_vss (s : Dev) (x : Edg) : (s.putEdg x).vss = s.vss := (rfl)
@[simp] theorem putEdg_bil (s : Dev) (x : Edg) : (s.putEdg x).bil = s.bil := (rfl)
@[simp] theorem putEdg_key (s : Dev) (x : Edg) : (s.putEdg x).key = s.key := (rfl)
@[simp] theorem putEdg_sln (s : Dev) (x : Edg) : (s.putEdg x).sln = s.sln := (rfl)
@[simp] theorem putEdg_lsw (s : Dev) (x : Edg) : (s.putEdg x).lsw = s.lsw := (rfl)
@[simp] theorem putEdg_saf (s : Dev) (x : Edg) : (s.putEdg x).saf = s.saf := (rfl)
@[simp] theorem putEdg_bse (s : Dev) (x : Edg) : (s.putEdg x).bse = s.bse := (rfl)
@[simp] theorem putEdg_can (s : Dev) (x : Edg) : (s.putEdg x).can = s.can := (rfl)
@[simp] theorem putEdg_regs (s : Dev) (x : Edg) : (s.putEdg x).regs = s.regs := (rfl)
@[simp] theorem putEdg_rd (s : Dev) (x : Edg) (a : Nat) : (s.putEdg x).rd a = s.rd a := (rfl)
@[simp] theorem putEdg_get (s : Dev) (x : Edg) (f : Field) : (s.putEdg x).get f = s.get f := (rfl)
@[simp] theorem putEdg_flag (s : Dev) (x : Edg) (f : Field) : (s.putEdg x).flag f = s.flag f := (rfl)

@[simp] theorem putPst_dt (s : Dev) (x : Pst) : (s.putPst x).dt = s.dt := (rfl)
@[simp] theorem putPst_free (s : Dev) (x : Pst) : (s.putPst x).free = s.free := (rfl)
@[simp] theorem putPst_out (s : Dev) (x : Pst) : (s.putPst x).out = s.out := (rfl)
@[simp] theorem putPst_capture (s : Dev) (x : Pst) : (s.putPst x).capture = s.capture := (rfl)
@[simp] theorem putPst_staging (s : Dev) (x : Pst) : (s.putPst x).staging = s.staging := (rfl)
@[simp] theorem putPst_sets (s : Dev) (x : Pst) : (s.putPst x).sets = s.sets := (rfl)
@[simp] theorem putPst_gen (s : Dev) (x : Pst) : (s.putPst x).gen = s.gen := (rfl)
@[simp] theorem putPst_hif (s : Dev) (x : Pst) : (s.putPst x).hif = s.hif := (rfl)
@[simp] theorem putPst_ldg (s : Dev) (x : Pst) : (s.putPst x).ldg = s.ldg := (rfl)
@[simp] theorem putPst_alc (s : Dev) (x : Pst) : (s.putPst x).alc = s.alc := (rfl)
@[simp] theorem putPst_edg (s : Dev) (x : Pst) : (s.putPst x).edg = s.edg := (rfl)
@[simp] theorem putPst_pst (s : Dev) (x : Pst) : (s.putPst x).pst = x := (rfl)
@[simp] theorem putPst_cle (s : Dev) (x : Pst) : (s.putPst x).cle = s.cle := (rfl)
@[simp] theorem putPst_thm (s : Dev) (x : Pst) : (s.putPst x).thm = s.thm := (rfl)
@[simp] theorem putPst_mtr (s : Dev) (x : Pst) : (s.putPst x).mtr = s.mtr := (rfl)
@[simp] theorem putPst_tri (s : Dev) (x : Pst) : (s.putPst x).tri = s.tri := (rfl)
@[simp] theorem putPst_vss (s : Dev) (x : Pst) : (s.putPst x).vss = s.vss := (rfl)
@[simp] theorem putPst_bil (s : Dev) (x : Pst) : (s.putPst x).bil = s.bil := (rfl)
@[simp] theorem putPst_key (s : Dev) (x : Pst) : (s.putPst x).key = s.key := (rfl)
@[simp] theorem putPst_sln (s : Dev) (x : Pst) : (s.putPst x).sln = s.sln := (rfl)
@[simp] theorem putPst_lsw (s : Dev) (x : Pst) : (s.putPst x).lsw = s.lsw := (rfl)
@[simp] theorem putPst_saf (s : Dev) (x : Pst) : (s.putPst x).saf = s.saf := (rfl)
@[simp] theorem putPst_bse (s : Dev) (x : Pst) : (s.putPst x).bse = s.bse := (rfl)
@[simp] theorem putPst_can (s : Dev) (x : Pst) : (s.putPst x).can = s.can := (rfl)
@[simp] theorem putPst_regs (s : Dev) (x : Pst) : (s.putPst x).regs = s.regs := (rfl)
@[simp] theorem putPst_rd (s : Dev) (x : Pst) (a : Nat) : (s.putPst x).rd a = s.rd a := (rfl)
@[simp] theorem putPst_get (s : Dev) (x : Pst) (f : Field) : (s.putPst x).get f = s.get f := (rfl)
@[simp] theorem putPst_flag (s : Dev) (x : Pst) (f : Field) : (s.putPst x).flag f = s.flag f := (rfl)

@[simp] theorem putCle_dt (s : Dev) (x : Cle) : (s.putCle x).dt = s.dt := (rfl)
@[simp] theorem putCle_free (s : Dev) (x : Cle) : (s.putCle x).free = s.free := (rfl)
@[simp] theorem putCle_out (s : Dev) (x : Cle) : (s.putCle x).out = s.out := (rfl)
@[simp] theorem putCle_capture (s : Dev) (x : Cle) : (s.putCle x).capture = s.capture := (rfl)
@[simp] theorem putCle_staging (s : Dev) (x : Cle) : (s.putCle x).staging = s.staging := (rfl)
@[simp] theorem putCle_sets (s : Dev) (x : Cle) : (s.putCle x).sets = s.sets := (rfl)
@[simp] theorem putCle_gen (s : Dev) (x : Cle) : (s.putCle x).gen = s.gen := (rfl)
@[simp] theorem putCle_hif (s : Dev) (x : Cle) : (s.putCle x).hif = s.hif := (rfl)
@[simp] theorem putCle_ldg (s : Dev) (x : Cle) : (s.putCle x).ldg = s.ldg := (rfl)
@[simp] theorem putCle_alc (s : Dev) (x : Cle) : (s.putCle x).alc = s.alc := (rfl)
@[simp] theorem putCle_edg (s : Dev) (x : Cle) : (s.putCle x).edg = s.edg := (rfl)
@[simp] theorem putCle_pst (s : Dev) (x : Cle) : (s.putCle x).pst = s.pst := (rfl)
@[simp] theorem putCle_cle (s : Dev) (x : Cle) : (s.putCle x).cle = x := (rfl)
@[simp] theorem putCle_thm (s : Dev) (x : Cle) : (s.putCle x).thm = s.thm := (rfl)
@[simp] theorem putCle_mtr (s : Dev) (x : Cle) : (s.putCle x).mtr = s.mtr := (rfl)
@[simp] theorem putCle_tri (s : Dev) (x : Cle) : (s.putCle x).tri = s.tri := (rfl)
@[simp] theorem putCle_vss (s : Dev) (x : Cle) : (s.putCle x).vss = s.vss := (rfl)
@[simp] theorem putCle_bil (s : Dev) (x : Cle) : (s.putCle x).bil = s.bil := (rfl)
@[simp] theorem putCle_key (s : Dev) (x : Cle) : (s.putCle x).key = s.key := (rfl)
@[simp] theorem putCle_sln (s : Dev) (x : Cle) : (s.putCle x).sln = s.sln := (rfl)
@[simp] theorem putCle_lsw (s : Dev) (x : Cle) : (s.putCle x).lsw = s.lsw := (rfl)
@[simp] theorem putCle_saf (s : Dev) (x : Cle) : (s.putCle x).saf = s.saf := (rfl)
@[simp] theorem putCle_bse (s : Dev) (x : Cle) : (s.putCle x).bse = s.bse := (rfl)
@[simp] theorem putCle_can (s : Dev) (x : Cle) : (s.putCle x).can = s.can := (rfl)
@[simp] theorem putCle_regs (s : Dev) (x : Cle) : (s.putCle x).regs = s.regs := (rfl)
@[simp] theorem putCle_rd (s : Dev) (x : Cle) (a : Nat) : (s.putCle x).rd a = s.rd a := (rfl)
@[simp] theorem putCle_get (s : Dev) (x : Cle) (f : Field) : (s.putCle x).get f = s.get f := (rfl)
@[simp] theorem putCle_flag (s : Dev) (x : Cle) (f : Field) : (s.putCle x).flag f = s.flag f := (rfl)

@[simp] theorem putThm_dt (s : Dev) (x : Thm) : (s.putThm x).dt = s.dt := (rfl)
@[simp] theorem putThm_free (s : Dev) (x : Thm) : (s.putThm x).free = s.free := (rfl)
@[simp] theorem putThm_out (s : Dev) (x : Thm) : (s.putThm x).out = s.out := (rfl)
@[simp] theorem putThm_capture (s : Dev) (x : Thm) : (s.putThm x).capture = s.capture := (rfl)
@[simp] theorem putThm_staging (s : Dev) (x : Thm) : (s.putThm x).staging = s.staging := (rfl)
@[simp] theorem putThm_sets (s : Dev) (x : Thm) : (s.putThm x).sets = s.sets := (rfl)
@[simp] theorem putThm_gen (s : Dev) (x : Thm) : (s.putThm x).gen = s.gen := (rfl)
@[simp] theorem putThm_hif (s : Dev) (x : Thm) : (s.putThm x).hif = s.hif := (rfl)
@[simp] theorem putThm_ldg (s : Dev) (x : Thm) : (s.putThm x).ldg = s.ldg := (rfl)
@[simp] theorem putThm_alc (s : Dev) (x : Thm) : (s.putThm x).alc = s.alc := (rfl)
@[simp] theorem putThm_edg (s : Dev) (x : Thm) : (s.putThm x).edg = s.edg := (rfl)
@[simp] theorem putThm_pst (s : Dev) (x : Thm) : (s.putThm x).pst = s.pst := (rfl)
@[simp] theorem putThm_cle (s : Dev) (x : Thm) : (s.putThm x).cle = s.cle := (rfl)
@[simp] theorem putThm_thm (s : Dev) (x : Thm) : (s.putThm x).thm = x := (rfl)
@[simp] theorem putThm_mtr (s : Dev) (x : Thm) : (s.putThm x).mtr = s.mtr := (rfl)
@[simp] theorem putThm_tri (s : Dev) (x : Thm) : (s.putThm x).tri = s.tri := (rfl)
@[simp] theorem putThm_vss (s : Dev) (x : Thm) : (s.putThm x).vss = s.vss := (rfl)
@[simp] theorem putThm_bil (s : Dev) (x : Thm) : (s.putThm x).bil = s.bil := (rfl)
@[simp] theorem putThm_key (s : Dev) (x : Thm) : (s.putThm x).key = s.key := (rfl)
@[simp] theorem putThm_sln (s : Dev) (x : Thm) : (s.putThm x).sln = s.sln := (rfl)
@[simp] theorem putThm_lsw (s : Dev) (x : Thm) : (s.putThm x).lsw = s.lsw := (rfl)
@[simp] theorem putThm_saf (s : Dev) (x : Thm) : (s.putThm x).saf = s.saf := (rfl)
@[simp] theorem putThm_bse (s : Dev) (x : Thm) : (s.putThm x).bse = s.bse := (rfl)
@[simp] theorem putThm_can (s : Dev) (x : Thm) : (s.putThm x).can = s.can := (rfl)
@[simp] theorem putThm_regs (s : Dev) (x : Thm) : (s.putThm x).regs = s.regs := (rfl)
@[simp] theorem putThm_rd (s : Dev) (x : Thm) (a : Nat) : (s.putThm x).rd a = s.rd a := (rfl)
@[simp] theorem putThm_get (s : Dev) (x : Thm) (f : Field) : (s.putThm x).get f = s.get f := (rfl)
@[simp] theorem putThm_flag (s : Dev) (x : Thm) (f : Field) : (s.putThm x).flag f = s.flag f := (rfl)

@[simp] theorem putMtr_dt (s : Dev) (x : Mtr) : (s.putMtr x).dt = s.dt := (rfl)
@[simp] theorem putMtr_free (s : Dev) (x : Mtr) : (s.putMtr x).free = s.free := (rfl)
@[simp] theorem putMtr_out (s : Dev) (x : Mtr) : (s.putMtr x).out = s.out := (rfl)
@[simp] theorem putMtr_capture (s : Dev) (x : Mtr) : (s.putMtr x).capture = s.capture := (rfl)
@[simp] theorem putMtr_staging (s : Dev) (x : Mtr) : (s.putMtr x).staging = s.staging := (rfl)
@[simp] theorem putMtr_sets (s : Dev) (x : Mtr) : (s.putMtr x).sets = s.sets := (rfl)
@[simp] theorem putMtr_gen (s : Dev) (x : Mtr) : (s.putMtr x).gen = s.gen := (rfl)
@[simp] theorem putMtr_hif (s : Dev) (x : Mtr) : (s.putMtr x).hif = s.hif := (rfl)
@[simp] theorem putMtr_ldg (s : Dev) (x : Mtr) : (s.putMtr x).ldg = s.ldg := (rfl)
@[simp] theorem putMtr_alc (s : Dev) (x : Mtr) : (s.putMtr x).alc = s.alc := (rfl)
@[simp] theorem putMtr_edg (s : Dev) (x : Mtr) : (s.putMtr x).edg = s.edg := (rfl)
@[simp] theorem putMtr_pst (s : Dev) (x : Mtr) : (s.putMtr x).pst = s.pst := (rfl)
@[simp] theorem putMtr_cle (s : Dev) (x : Mtr) : (s.putMtr x).cle = s.cle := (rfl)
@[simp] theorem putMtr_thm (s : Dev) (x : Mtr) : (s.putMtr x).thm = s.thm := (rfl)
@[simp] theorem putMtr_mtr (s : Dev) (x : Mtr) : (s.putMtr x).mtr = x := (rfl)
@[simp] theorem putMtr_tri (s : Dev) (x : Mtr) : (s.putMtr x).tri = s.tri := (rfl)
@[simp] theorem putMtr_vss (s : Dev) (x : Mtr) : (s.putMtr x).vss = s.vss := (rfl)
@[simp] theorem putMtr_bil (s : Dev) (x : Mtr) : (s.putMtr x).bil = s.bil := (rfl)
@[simp] theorem putMtr_key (s : Dev) (x : Mtr) : (s.putMtr x).key = s.key := (rfl)
@[simp] theorem putMtr_sln (s : Dev) (x : Mtr) : (s.putMtr x).sln = s.sln := (rfl)
@[simp] theorem putMtr_lsw (s : Dev) (x : Mtr) : (s.putMtr x).lsw = s.lsw := (rfl)
@[simp] theorem putMtr_saf (s : Dev) (x : Mtr) : (s.putMtr x).saf = s.saf := (rfl)
@[simp] theorem putMtr_bse (s : Dev) (x : Mtr) : (s.putMtr x).bse = s.bse := (rfl)
@[simp] theorem putMtr_can (s : Dev) (x : Mtr) : (s.putMtr x).can = s.can := (rfl)
@[simp] theorem putMtr_regs (s : Dev) (x : Mtr) : (s.putMtr x).regs = s.regs := (rfl)
@[simp] theorem putMtr_rd (s : Dev) (x : Mtr) (a : Nat) : (s.putMtr x).rd a = s.rd a := (rfl)
@[simp] theorem putMtr_get (s : Dev) (x : Mtr) (f : Field) : (s.putMtr x).get f = s.get f := (rfl)
@[simp] theorem putMtr_flag (s : Dev) (x : Mtr) (f : Field) : (s.putMtr x).flag f = s.flag f := (rfl)

@[simp] theorem putTri_dt (s : Dev) (x : Tri) : (s.putTri x).dt = s.dt := (rfl)
@[simp] theorem putTri_free (s : Dev) (x : Tri) : (s.putTri x).free = s.free := (rfl)
@[simp] theorem putTri_out (s : Dev) (x : Tri) : (s.putTri x).out = s.out := (rfl)
@[simp] theorem putTri_capture (s : Dev) (x : Tri) : (s.putTri x).capture = s.capture := (rfl)
@[simp] theorem putTri_staging (s : Dev) (x : Tri) : (s.putTri x).staging = s.staging := (rfl)
@[simp] theorem putTri_sets (s : Dev) (x : Tri) : (s.putTri x).sets = s.sets := (rfl)
@[simp] theorem putTri_gen (s : Dev) (x : Tri) : (s.putTri x).gen = s.gen := (rfl)
@[simp] theorem putTri_hif (s : Dev) (x : Tri) : (s.putTri x).hif = s.hif := (rfl)
@[simp] theorem putTri_ldg (s : Dev) (x : Tri) : (s.putTri x).ldg = s.ldg := (rfl)
@[simp] theorem putTri_alc (s : Dev) (x : Tri) : (s.putTri x).alc = s.alc := (rfl)
@[simp] theorem putTri_edg (s : Dev) (x : Tri) : (s.putTri x).edg = s.edg := (rfl)
@[simp] theorem putTri_pst (s : Dev) (x : Tri) : (s.putTri x).pst = s.pst := (rfl)
@[simp] theorem putTri_cle (s : Dev) (x : Tri) : (s.putTri x).cle = s.cle := (rfl)
@[simp] theorem putTri_thm (s : Dev) (x : Tri) : (s.putTri x).thm = s.thm := (rfl)
@[simp] theorem putTri_mtr (s : Dev) (x : Tri) : (s.putTri x).mtr = s.mtr := (rfl)
@[simp] theorem putTri_tri (s : Dev) (x : Tri) : (s.putTri x).tri = x := (rfl)
@[simp] theorem putTri_vss (s : Dev) (x : Tri) : (s.putTri x).vss = s.vss := (rfl)
@[simp] theorem putTri_bil (s : Dev) (x : Tri) : (s.putTri x).bil = s.bil := (rfl)
@[simp] theorem putTri_key (s : Dev) (x : Tri) : (s.putTri x).key = s.key := (rfl)
@[simp] theorem putTri_sln (s : Dev) (x : Tri) : (s.putTri x).sln = s.sln := (rfl)
@[simp] theorem putTri_lsw (s : Dev) (x : Tri) : (s.putTri x).lsw = s.lsw := (rfl)
@[simp] theorem putTri_saf (s : Dev) (x : Tri) : (s.putTri x).saf = s.saf := (rfl)
@[simp] theorem putTri_bse (s : Dev) (x : Tri) : (s.putTri x).bse = s.bse := (rfl)
@[simp] theorem putTri_can (s : Dev) (x : Tri) : (s.putTri x).can = s.can := (rfl)
@[simp] theorem putTri_regs (s : Dev) (x : Tri) : (s.putTri x).regs = s.regs := (rfl)
@[simp] theorem putTri_rd (s : Dev) (x : Tri) (a : Nat) : (s.putTri x).rd a = s.rd a := (rfl)
@[simp] theorem putTri_get (s : Dev) (x : Tri) (f : Field) : (s.putTri x).get f = s.get f := (rfl)
@[simp] theorem putTri_flag (s : Dev) (x : Tri) (f : Field) : (s.putTri x).flag f = s.flag f := (rfl)

@[simp] theorem putVss_dt (s : Dev) (x : Vss) : (s.putVss x).dt = s.dt := (rfl)
@[simp] theorem putVss_free (s : Dev) (x : Vss) : (s.putVss x).free = s.free := (rfl)
@[simp] theorem putVss_out (s : Dev) (x : Vss) : (s.putVss x).out = s.out := (rfl)
@[simp] theorem putVss_capture (s : Dev) (x : Vss) : (s.putVss x).capture = s.capture := (rfl)
@[simp] theorem putVss_staging (s : Dev) (x : Vss) : (s.putVss x).staging = s.staging := (rfl)
@[simp] theorem putVss_sets (s : Dev) (x : Vss) : (s.putVss x).sets = s.sets := (rfl)
@[simp] theorem putVss_gen (s : Dev) (x : Vss) : (s.putVss x).gen = s.gen := (rfl)
@[simp] theorem putVss_hif (s : Dev) (x : Vss) : (s.putVss x).hif = s.hif := (rfl)
@[simp] theorem putVss_ldg (s : Dev) (x : Vss) : (s.putVss x).ldg = s.ldg := (rfl)
@[simp] theorem putVss_alc (s : Dev) (x : Vss) : (s.putVss x).alc = s.alc := (rfl)
@[simp] theorem putVss_edg (s : Dev) (x : Vss) : (s.putVss x).edg = s.edg := (rfl)
@[simp] theorem putVss_pst (s : Dev) (x : Vss) : (s.putVss x).pst = s.pst := (rfl)
@[simp] theorem putVss_cle (s : Dev) (x : Vss) : (s.putVss x).cle = s.cle := (rfl)
@[simp] theorem putVss_thm (s : Dev) (x : Vss) : (s.putVss x).thm = s.thm := (rfl)
@[simp] theorem putVss_mtr (s : Dev) (x : Vss) : (s.putVss x).mtr = s.mtr := (rfl)
@[simp] theorem putVss_tri (s : Dev) (x : Vss) : (s.putVss x).tri = s.tri := (rfl)
@[simp] theorem putVss_vss (s : Dev) (x : Vss) : (s.putVss x).vss = x := (rfl)
@[simp] theorem putVss_bil (s : Dev) (x : Vss) : (s.putVss x).bil = s.bil := (rfl)
@[simp] theorem putVss_key (s : Dev) (x : Vss) : (s.putVss x).key = s.key := (rfl)
@[simp] theorem putVss_sln (s : Dev) (x : Vss) : (s.putVss x).sln = s.sln := (rfl)
@[simp] theorem putVss_lsw (s : Dev) (x : Vss) : (s.putVss x).lsw = s.lsw := (rfl)
@[simp] theorem putVss_saf (s : Dev) (x : Vss) : (s.putVss x).saf = s.saf := (rfl)
@[simp] theorem putVss_bse (s : Dev) (x : Vss) : (s.putVss x).bse = s.bse := (rfl)
@[simp] theorem putVss_can (s : Dev) (x : Vss) : (s.putVss x).can = s.can := (rfl)
@[simp] theorem putVss_regs (s : Dev) (x : Vss) : (s.putVss x).regs = s.regs := (rfl)
@[simp] theorem putVss_rd (s : Dev) (x : Vss) (a : Nat) : (s.putVss x).rd a = s.rd a := (rfl)
@[simp] theorem putVss_get (s : Dev) (x : Vss) (f : Field) : (s.putVss x).get f = s.get f := (rfl)
@[simp] theorem putVss_flag (s : Dev) (x : Vss) (f : Field) : (s.putVss x).flag f = s.flag f := (rfl)

@[simp] theorem putBil_dt (s : Dev) (x : Bil) : (s.putBil x).dt = s.dt := (rfl)
@[simp] theorem putBil_free (s : Dev) (x : Bil) : (s.putBil x).free = s.free := (rfl)
@[simp] theorem putBil_out (s : Dev) (x : Bil) : (s.putBil x).out = s.out := (rfl)
@[simp] theorem putBil_capture (s : Dev) (x : Bil) : (s.putBil x).capture = s.capture := (rfl)
@[simp] theorem putBil_staging (s : Dev) (x : Bil) : (s.putBil x).staging = s.staging := (rfl)
@[simp] theorem putBil_sets (s : Dev) (x : Bil) : (s.putBil x).sets = s.sets := (rfl)
@[simp] theorem putBil_gen (s : Dev) (x : Bil) : (s.putBil x).gen = s.gen := (rfl)
@[simp] theorem putBil_hif (s : Dev) (x : Bil) : (s.putBil x).hif = s.hif := (rfl)
@[simp] theorem putBil_ldg (s : Dev) (x : Bil) : (s.putBil x).ldg = s.ldg := (rfl)
@[simp] theorem putBil_alc (s : Dev) (x : Bil) : (s.putBil x).alc = s.alc := (rfl)
@[simp] theorem putBil_edg (s : Dev) (x : Bil) : (s.putBil x).edg = s.edg := (rfl)
@[simp] theorem putBil_pst (s : Dev) (x : Bil) : (s.putBil x).pst = s.pst := (rfl)
@[simp] theorem putBil_cle (s : Dev) (x : Bil) : (s.putBil x).cle = s.cle := (rfl)
@[simp] theorem putBil_thm (s : Dev) (x : Bil) : (s.putBil x).thm = s.thm := (rfl)
@[simp] theorem putBil_mtr (s : Dev) (x : Bil) : (s.putBil x).mtr = s.mtr := (rfl)
@[simp] theorem putBil_tri (s : Dev) (x : Bil) : (s.putBil x).tri = s.tri := (rfl)
@[simp] theorem putBil_vss (s : Dev) (x : Bil) : (s.putBil x).vss = s.vss := (rfl)
@[simp] theorem putBil_bil (s : Dev) (x : Bil) : (s.putBil x).bil = x := (rfl)
@[simp] theorem putBil_key (s : Dev) (x : Bil) : (s.putBil x).key = s.key := (rfl)
@[simp] theorem putBil_sln (s : Dev) (x : Bil) : (s.putBil x).sln = s.sln := (rfl)
@[simp] theorem putBil_lsw (s : Dev) (x : Bil) : (s.putBil x).lsw = s.lsw := (rfl)
@[simp] theorem putBil_saf (s : Dev) (x : Bil) : (s.putBil x).saf = s.saf := (rfl)
@[simp] theorem putBil_bse (s : Dev) (x : Bil) : (s.putBil x).bse = s.bse := (rfl)
@[simp] theorem putBil_can (s : Dev) (x : Bil) : (s.putBil x).can = s.can := (rfl)
@[simp] theorem putBil_regs (s : Dev) (x : Bil) : (s.putBil x).regs = s.regs := (rfl)
@[simp] theorem putBil_rd (s : Dev) (x : Bil) (a : Nat) : (s.putBil x).rd a = s.rd a := (rfl)
@[simp] theorem putBil_get (s : Dev) (x : Bil) (f : Field) : (s.putBil x).get f = s.get f := (rfl)
@[simp] theorem putBil_flag (s : Dev) (x : Bil) (f : Field) : (s.putBil x).flag f = s.flag f := (rfl)

@[simp] theorem putKey_dt (s : Dev) (x : Key) : (s.putKey x).dt = s.dt := (rfl)
@[simp] theorem putKey_free (s : Dev) (x : Key) : (s.putKey x).free = s.free := (rfl)
@[simp] theorem putKey_out (s : Dev) (x : Key) : (s.putKey x).out = s.out := (rfl)
@[simp] theorem putKey_capture (s : Dev) (x : Key) : (s.putKey x).capture = s.capture := (rfl)
@[simp] theorem putKey_staging (s : Dev) (x : Key) : (s.putKey x).staging = s.staging := (rfl)
@[simp] theorem putKey_sets (s : Dev) (x : Key) : (s.putKey x).sets = s.sets := (rfl)
@[simp] theorem putKey_gen (s : Dev) (x : Key) : (s.putKey x).gen = s.gen := (rfl)
@[simp] theorem putKey_hif (s : Dev) (x : Key) : (s.putKey x).hif = s.hif := (rfl)
@[simp] theorem putKey_ldg (s : Dev) (x : Key) : (s.putKey x).ldg = s.ldg := (rfl)
@[simp] theorem putKey_alc (s : Dev) (x : Key) : (s.putKey x).alc = s.alc := (rfl)
@[simp] theorem putKey_edg (s : Dev) (x : Key) : (s.putKey x).edg = s.edg := (rfl)
@[simp] theorem putKey_pst (s : Dev) (x : Key) : (s.putKey x).pst = s.pst := (rfl)
@[simp] theorem putKey_cle (s : Dev) (x : Key) : (s.putKey x).cle = s.cle := (rfl)
@[simp] theorem putKey_thm (s : Dev) (x : Key) : (s.putKey x).thm = s.thm := (rfl)
@[simp] theorem putKey_mtr (s : Dev) (x : Key) : (s.putKey x).mtr = s.mtr := (rfl)
@[simp] theorem putKey_tri (s : Dev) (x : Key) : (s.putKey x).tri = s.tri := (rfl)
@[simp] theorem putKey_vss (s : Dev) (x : Key) : (s.putKey x).vss = s.vss := (rfl)
@[simp] theorem putKey_bil (s : Dev) (x : Key) : (s.putKey x).bil = s.bil := (rfl)
@[simp] theorem putKey_key (s : Dev) (x : Key) : (s.putKey x).key = x := (rfl)
@[simp] theorem putKey_sln (s : Dev) (x : Key) : (s.putKey x).sln = s.sln := (rfl)
@[simp] theorem putKey_lsw (s : Dev) (x : Key) : (s.putKey x).lsw = s.lsw := (rfl)
@[simp] theorem putKey_saf (s : Dev) (x : Key) : (s.putKey x).saf = s.saf := (rfl)
@[simp] theorem putKey_bse (s : Dev) (x : Key) : (s.putKey x).bse = s.bse := (rfl)
@[simp] theorem putKey_can (s : Dev) (x : Key) : (s.putKey x).can = s.can := (rfl)
@[simp] theorem putKey_regs (s : Dev) (x : Key) : (s.putKey x).regs = s.regs := (rfl)
@[simp] theorem putKey_rd (s : Dev) (x : Key) (a : Nat) : (s.putKey x).rd a = s.rd a := (rfl)
@[simp] theorem putKey_get (s : Dev) (x : Key) (f : Field) : (s.putKey x).get f = s.get f := (rfl)
@[simp] theorem putKey_flag (s : Dev) (x : Key) (f : Field) : (s.putKey x).flag f = s.flag f := (rfl)

@[simp] theorem putSln_dt (s : Dev) (x : Sln) : (s.putSln x).dt = s.dt := (rfl)
@[simp] theorem putSln_free (s : Dev) (x : Sln) : (s.putSln x).free = s.free := (rfl)
@[simp] theorem putSln_out (s : Dev) (x : Sln) : (s.putSln x).out = s.out := (rfl)
@[simp] theorem putSln_capture (s : Dev) (x : Sln) : (s.putSln x).capture = s.capture := (rfl)
@[simp] theorem putSln_staging (s : Dev) (x : Sln) : (s.putSln x).staging = s.staging := (rfl)
@[simp] theorem putSln_sets (s : Dev) (x : Sln) : (s.putSln x).sets = s.sets := (rfl)
@[simp] theorem putSln_gen (s : Dev) (x : Sln) : (s.putSln x).gen = s.gen := (rfl)
@[simp] theorem putSln_hif (s : Dev) (x : Sln) : (s.putSln x).hif = s.hif := (rfl)
@[simp] theorem putSln_ldg (s : Dev) (x : Sln) : (s.putSln x).ldg = s.ldg := (rfl)
@[simp] theorem putSln_alc (s : Dev) (x : Sln) : (s.putSln x).alc = s.alc := (rfl)
@[simp] theorem putSln_edg (s : Dev) (x : Sln) : (s.putSln x).edg = s.edg := (rfl)
@[simp] theorem putSln_pst (s : Dev) (x : Sln) : (s.putSln x).pst = s.pst := (rfl)
@[simp] theorem putSln_cle (s : Dev) (x : Sln) : (s.putSln x).cle = s.cle := (rfl)
@[simp] theorem putSln_thm (s : Dev) (x : Sln) : (s.putSln x).thm = s.thm := (rfl)
@[simp] theorem putSln_mtr (s : Dev) (x : Sln) : (s.putSln x).mtr = s.mtr := (rfl)
@[simp] theorem putSln_tri (s : Dev) (x : Sln) : (s.putSln x).tri = s.tri := (rfl)
@[simp] theorem putSln_vss (s : Dev) (x : Sln) : (s.putSln x).vss = s.vss := (rfl)
@[simp] theorem putSln_bil (s : Dev) (x : Sln) : (s.putSln x).bil = s.bil := (rfl)
@[simp] theorem putSln_key (s : Dev) (x : Sln) : (s.putSln x).key = s.key := (rfl)
@[simp] theorem putSln_sln (s : Dev) (x : Sln) : (s.putSln x).sln = x := (rfl)
@[simp] theorem putSln_lsw (s : Dev) (x : Sln) : (s.putSln x).lsw = s.lsw := (rfl)
@[simp] theorem putSln_saf (s : Dev) (x : Sln) : (s.putSln x).saf = s.saf := (rfl)
@[simp] theorem putSln_bse (s : Dev) (x : Sln) : (s.putSln x).bse = s.bse := (rfl)
@[simp] theorem putSln_can (s : Dev) (x : Sln) : (s.putSln x).can = s.can := (rfl)
@[simp] theorem putSln_regs (s : Dev) (x : Sln) : (s.putSln x).regs = s.regs := (rfl)
@[simp] theorem putSln_rd (s : Dev) (x : Sln) (a : Nat) : (s.putSln x).rd a = s.rd a := (rfl)
@[simp] theorem putSln_get (s : Dev) (x : Sln) (f : Field) : (s.putSln x).get f = s.get f := (rfl)
@[simp] theorem putSln_flag (s : Dev) (x : Sln) (f : Field) : (s.putSln x).flag f = s.flag f := (rfl)

@[simp] theorem putLsw_dt (s : Dev) (x : Lsw) : (s.putLsw x).dt = s.dt := (rfl)
@[simp] theorem putLsw_free (s : Dev) (x : Lsw) : (s.putLsw x).free = s.free := (rfl)
@[simp] theorem putLsw_out (s : Dev) (x : Lsw) : (s.putLsw x).out = s.out := (rfl)
@[simp] theorem putLsw_capture (s : Dev) (x : Lsw) : (s.putLsw x).capture = s.capture := (rfl)
@[simp] theorem putLsw_staging (s : Dev) (x : Lsw) : (s.putLsw x).staging = s.staging := (rfl)
@[simp] theorem putLsw_sets (s : Dev) (x : Lsw) : (s.putLsw x).sets = s.sets := (rfl)
@[simp] theorem putLsw_gen (s : Dev) (x : Lsw) : (s.putLsw x).gen = s.gen := (rfl)
@[simp] theorem putLsw_hif (s : Dev) (x : Lsw) : (s.putLsw x).hif = s.hif := (rfl)
@[simp] theorem putLsw_ldg (s : Dev) (x : Lsw) : (s.putLsw x).ldg = s.ldg := (rfl)
@[simp] theorem putLsw_alc (s : Dev) (x : Lsw) : (s.putLsw x).alc = s.alc := (rfl)
@[simp] theorem putLsw_edg (s : Dev) (x : Lsw) : (s.putLsw x).edg = s.edg := (rfl)
@[simp] theorem putLsw_pst (s : Dev) (x : Lsw) : (s.putLsw x).pst = s.pst := (rfl)
@[simp] theorem putLsw_cle (s : Dev) (x : Lsw) : (s.putLsw x).cle = s.cle := (rfl)
@[simp] theorem putLsw_thm (s : Dev) (x : Lsw) : (s.putLsw x).thm = s.thm := (rfl)
@[simp] theorem putLsw_mtr (s : Dev) (x : Lsw) : (s.putLsw x).mtr = s.mtr := (rfl)
@[simp] theorem putLsw_tri (s : Dev) (x : Lsw) : (s.putLsw x).tri = s.tri := (rfl)
@[simp] theorem putLsw_vss (s : Dev) (x : Lsw) : (s.putLsw x).vss = s.vss := (rfl)
@[simp] theorem putLsw_bil (s : Dev) (x : Lsw) : (s.putLsw x).bil = s.bil := (rfl)
@[simp] theorem putLsw_key (s : Dev) (x : Lsw) : (s.putLsw x).key = s.key := (rfl)
@[simp] theorem putLsw_sln (s : Dev) (x : Lsw) : (s.putLsw x).sln = s.sln := (rfl)
@[simp] theorem putLsw_lsw (s : Dev) (x : Lsw) : (s.putLsw x).lsw = x := (rfl)
@[simp] theorem putLsw_saf (s : Dev) (x : Lsw) : (s.putLsw x).saf = s.saf := (rfl)
@[simp] theorem putLsw_bse (s : Dev) (x : Lsw) : (s.putLsw x).bse = s.bse := (rfl)
@[simp] theorem putLsw_can (s : Dev) (x : Lsw) : (s.putLsw x).can = s.can := (rfl)
@[simp] theorem putLsw_regs (s : Dev) (x : Lsw) : (s.putLsw x).regs = s.regs := (rfl)
@[simp] theorem putLsw_rd (s : Dev) (x : Lsw) (a : Nat) : (s.putLsw x).rd a = s.rd a := (rfl)
@[simp] theorem putLsw_get (s : Dev) (x : Lsw) (f : Field) : (s.putLsw x).get f = s.get f := (rfl)
@[simp] theorem putLsw_flag (s : Dev) (x : Lsw) (f : Field) : (s.putLsw x).flag f = s.flag f := (rfl)

@[simp] theorem putSaf_dt (s : Dev) (x : Saf) : (s.putSaf x).dt = s.dt := (rfl)
@[simp] theorem putSaf_free (s : Dev) (x : Saf) : (s.putSaf x).free = s.free := (rfl)
@[simp] theorem putSaf_out (s : Dev) (x : Saf) : (s.putSaf x).out = s.out := (rfl)
@[simp] theorem putSaf_capture (s : Dev) (x : Saf) : (s.putSaf x).capture = s.capture := (rfl)
@[simp] theorem putSaf_staging (s : Dev) (x : Saf) : (s.putSaf x).staging = s.staging := (rfl)
@[simp] theorem putSaf_sets (s : Dev) (x : Saf) : (s.putSaf x).sets = s.sets := (rfl)
@[simp] theorem putSaf_gen (s : Dev) (x : Saf) : (s.putSaf x).gen = s.gen := (rfl)
@[simp] theorem putSaf_hif (s : Dev) (x : Saf) : (s.putSaf x).hif = s.hif := (rfl)
@[simp] theorem putSaf_ldg (s : Dev) (x : Saf) : (s.putSaf x).ldg = s.ldg := (rfl)
@[simp] theorem putSaf_alc (s : Dev) (x : Saf) : (s.putSaf x).alc = s.alc := (rfl)
@[simp] theorem putSaf_edg (s : Dev) (x : Saf) : (s.putSaf x).edg = s.edg := (rfl)
@[simp] theorem putSaf_pst (s : Dev) (x : Saf) : (s.putSaf x).pst = s.pst := (rfl)
@[simp] theorem putSaf_cle (s : Dev) (x : Saf) : (s.putSaf x).cle = s.cle := (rfl)
@[simp] theorem putSaf_thm (s : Dev) (x : Saf) : (s.putSaf x).thm = s.thm := (rfl)
@[simp] theorem putSaf_mtr (s : Dev) (x : Saf) : (s.putSaf x).mtr = s.mtr := (rfl)
@[simp] theorem putSaf_tri (s : Dev) (x : Saf) : (s.putSaf x).tri = s.tri := (rfl)
@[simp] theorem putSaf_vss (s : Dev) (x : Saf) : (s.putSaf x).vss = s.vss := (rfl)
@[simp] theorem putSaf_bil (s : Dev) (x : Saf) : (s.putSaf x).bil = s.bil := (rfl)
@[simp] theorem putSaf_key (s : Dev) (x : Saf) : (s.putSaf x).key = s.key := (rfl)
@[simp] theorem putSaf_sln (s : Dev) (x : Saf) : (s.putSaf x).sln = s.sln := (rfl)
@[simp] theorem putSaf_lsw (s : Dev) (x : Saf) : (s.putSaf x).lsw = s.lsw := (rfl)
@[simp] theorem putSaf_saf (s : Dev) (x : Saf) : (s.putSaf x).saf = x := (rfl)
@[simp] theorem putSaf_bse (s : Dev) (x : Saf) : (s.putSaf x).bse = s.bse := (rfl)
@[simp] theorem putSaf_can (s : Dev) (x : Saf) : (s.putSaf x).can = s.can := (rfl)
@[simp] theorem putSaf_regs (s : Dev) (x : Saf) : (s.putSaf x).regs = s.regs := (rfl)
@[simp] theorem putSaf_rd (s : Dev) (x : Saf) (a : Nat) : (s.putSaf x).rd a = s.rd a := (rfl)
@[simp] theorem putSaf_get (s : Dev) (x : Saf) (f : Field) : (s.putSaf x).get f = s.get f := (rfl)
@[simp] theorem putSaf_flag (s : Dev) (x : Saf) (f : Field) : (s.putSaf x).flag f = s.flag f := (rfl)

@[simp] theorem putBse_dt (s : Dev) (x : Bse) : (s.putBse x).dt = s.dt := (rfl)
@[simp] theorem putBse_free (s : Dev) (x : Bse) : (s.putBse x).free = s.free := (rfl)
@[simp] theorem putBse_out (s : Dev) (x : Bse) : (s.putBse x).out = s.out := (rfl)
@[simp] theorem putBse_capture (s : Dev) (x : Bse) : (s.putBse x).capture = s.capture := (rfl)
@[simp] theorem putBse_staging (s : Dev) (x : Bse) : (s.putBse x).staging = s.staging := (rfl)
@[simp] theorem putBse_sets (s : Dev) (x : Bse) : (s.putBse x).sets = s.sets := (rfl)
@[simp] theorem putBse_gen (s : Dev) (x : Bse) : (s.putBse x).gen = s.gen := (rfl)
@[simp] theorem putBse_hif (s : Dev) (x : Bse) : (s.putBse x).hif = s.hif := (rfl)
@[simp] theorem putBse_ldg (s : Dev) (x : Bse) : (s.putBse x).ldg = s.ldg := (rfl)
@[simp] theorem putBse_alc (s : Dev) (x : Bse) : (s.putBse x).alc = s.alc := (rfl)
@[simp] theorem putBse_edg (s : Dev) (x : Bse) : (s.putBse x).edg = s.edg := (rfl)
@[simp] theorem putBse_pst (s : Dev) (x : Bse) : (s.putBse x).pst = s.pst := (rfl)
@[simp] theorem putBse_cle (s : Dev) (x : Bse) : (s.putBse x).cle = s.cle := (rfl)
@[simp] theorem putBse_thm (s : Dev) (x : Bse) : (s.putBse x).thm = s.thm := (rfl)
@[simp] theorem putBse_mtr (s : Dev) (x : Bse) : (s.putBse x).mtr = s.mtr := (rfl)
@[simp] theorem putBse_tri (s : Dev) (x : Bse) : (s.putBse x).tri = s.tri := (rfl)
@[simp] theorem putBse_vss (s : Dev) (x : Bse) : (s.putBse x).vss = s.vss := (rfl)
@[simp] theorem putBse_bil (s : Dev) (x : Bse) : (s.putBse x).bil = s.bil := (rfl)
@[simp] theorem putBse_key (s : Dev) (x : Bse) : (s.putBse x).key = s.key := (rfl)
@[simp] theorem putBse_sln (s : Dev) (x : Bse) : (s.putBse x).sln = s.sln := (rfl)
@[simp] theorem putBse_lsw (s : Dev) (x : Bse) : (s.putBse x).lsw = s.lsw := (rfl)
@[simp] theorem putBse_saf (s : Dev) (x : Bse) : (s.putBse x).saf = s.saf := (rfl)
@[simp] theorem putBse_bse (s : Dev) (x : Bse) : (s.putBse x).bse = x := (rfl)
@[simp] theorem putBse_can (s : Dev) (x : Bse) : (s.putBse x).can = s.can := (rfl)
@[simp] theorem putBse_regs (s : Dev) (x : Bse) : (s.putBse x).regs = s.regs := (rfl)
@[simp] theorem putBse_rd (s : Dev) (x : Bse) (a : Nat) : (s.putBse x).rd a = s.rd a := (rfl)
@[simp] theorem putBse_get (s : Dev) (x : Bse) (f : Field) : (s.putBse x).get f = s.get f := (rfl)
@[simp] theorem putBse_flag (s : Dev) (x : Bse) (f : Field) : (s.putBse x).flag f = s.flag f := (rfl)

@[simp] theorem putCan_dt (s : Dev) (x : Vector CanSt 4) : (s.putCan x).dt = s.dt := (rfl)
@[simp] theorem putCan_free (s : Dev) (x : Vector CanSt 4) : (s.putCan x).free = s.free := (rfl)
@[simp] theorem putCan_out (s : Dev) (x : Vector CanSt 4) : (s.putCan x).out = s.out := (rfl)
@[simp] theorem putCan_capture (s : Dev) (x : Vector CanSt 4) : (s.putCan x).capture = s.capture := (rfl)
@[simp] theorem putCan_staging (s : Dev) (x : Vector CanSt 4) : (s.putCan x).staging = s.staging := (rfl)
@[simp] theorem putCan_sets (s : Dev) (x : Vector CanSt 4) : (s.putCan x).sets = s.sets := (rfl)
@[simp] theorem putCan_gen (s : Dev) (x : Vector CanSt 4) : (s.putCan x).gen = s.gen := (rfl)
@[simp] theorem putCan_hif (s : Dev) (x : Vector CanSt 4) : (s.putCan x).hif = s.hif := (rfl)
@[simp] theorem putCan_ldg (s : Dev) (x : Vector CanSt 4) : (s.putCan x).ldg = s.ldg := (rfl)
@[simp] theorem putCan_alc (s : Dev) (x : Vector CanSt 4) : (s.putCan x).alc = s.alc := (rfl)
@[simp] theorem putCan_edg (s : Dev) (x : Vector CanSt 4) : (s.putCan x).edg = s.edg := (rfl)
@[simp] theorem putCan_pst (s : Dev) (x : Vector CanSt 4) : (s.putCan x).pst = s.pst := (rfl)
@[simp] theorem putCan_cle (s : Dev) (x : Vector CanSt 4) : (s.putCan x).cle = s.cle := (rfl)
@[simp] theorem putCan_thm (s : Dev) (x : Vector CanSt 4) : (s.putCan x).thm = s.thm := (rfl)
@[simp] theorem putCan_mtr (s : Dev) (x : Vector CanSt 4) : (s.putCan x).mtr = s.mtr := (rfl)
@[simp] theorem putCan_tri (s : Dev) (x : Vector CanSt 4) : (s.putCan x).tri = s.tri := (rfl)
@[simp] theorem putCan_vss (s : Dev) (x : Vector CanSt 4) : (s.putCan x).vss = s.vss := (rfl)
@[simp] theorem putCan_bil (s : Dev) (x : Vector CanSt 4) : (s.putCan x).bil = s.bil := (rfl)
@[simp] theorem putCan_key (s : Dev) (x : Vector CanSt 4) : (s.putCan x).key = s.key := (rfl)
@[simp] theorem putCan_sln (s : Dev) (x : Vector CanSt 4) : (s.putCan x).sln = s.sln := (rfl)
@[simp] theorem putCan_lsw (s : Dev) (x : Vector CanSt 4) : (s.putCan x).lsw = s.lsw := (rfl)
@[simp] theorem putCan_saf (s : Dev) (x : Vector CanSt 4) : (s.putCan x).saf = s.saf := (rfl)
@[simp] theorem putCan_bse (s : Dev) (x : Vector CanSt 4) : (s.putCan x).bse = s.bse := (rfl)
@[simp] theorem putCan_can (s : Dev) (x : Vector CanSt 4) : (s.putCan x).can = x := (rfl)
@[simp] theorem putCan_regs (s : Dev) (x : Vector CanSt 4) : (s.putCan x).regs = s.regs := (rfl)
@[simp] theorem putCan_rd (s : Dev) (x : Vector CanSt 4) (a : Nat) : (s.putCan x).rd a = s.rd a := (rfl)
@[simp] theorem putCan_get (s : Dev) (x : Vector CanSt 4) (f : Field) : (s.putCan x).get f = s.get f := (rfl)
@[simp] theorem putCan_flag (s : Dev) (x : Vector CanSt 4) (f : Field) : (s.putCan x).flag f = s.flag f := (rfl)

@[simp] theorem putRegs_dt (s : Dev) (x : List (Nat × Word)) : (s.putRegs x).dt = s.dt := (rfl)
@[simp] theorem putRegs_free (s : Dev) (x : List (Nat × Word)) : (s.putRegs x).free = s.free := (rfl)
@[simp] theorem putRegs_out (s : Dev) (x : List (Nat × Word)) : (s.putRegs x).out = s.out := (rfl)
@[simp] theorem putRegs_capture (s : Dev) (x : List (Nat × Word)) : (s.putRegs x).capture = s.capture := (rfl)
@[simp] theorem putRegs_staging (s : Dev) (x : List (Nat × Word)) : (s.putRegs x).staging = s.staging := (rfl)
@[simp] theorem putRegs_sets (s : Dev) (x : List (Nat × Word)) : (s.putRegs x).sets = s.sets := (rfl)
@[simp] theorem putRegs_gen (s : Dev) (x : List (Nat × Word)) : (s.putRegs x).gen = s.gen := (rfl)
@[simp] theorem putRegs_hif (s : Dev) (x : List (Nat × Word)) : (s.putRegs x).hif = s.hif := (rfl)
@[simp] theorem putRegs_ldg (s : Dev) (x : List (Nat × Word)) : (s.putRegs x).ldg = s.ldg := (rfl)
@[simp] theorem putRegs_alc (s : Dev) (x : List (Nat × Word)) : (s.putRegs x).alc = s.alc := (rfl)
@[simp] theorem putRegs_edg (s : Dev) (x : List (Nat × Word)) : (s.putRegs x).edg = s.edg := (rfl)
@[simp] theorem putRegs_pst (s : Dev) (x : List (Nat × Word)) : (s.putRegs x).pst = s.pst := (rfl)
@[simp] theorem putRegs_cle (s : Dev) (x : List (Nat × Word)) : (s.putRegs x).cle = s.cle := (rfl)
@[simp] theorem putRegs_thm (s : Dev) (x : List (Nat × Word)) : (s.putRegs x).thm = s.thm := (rfl)
@[simp] theorem putRegs_mtr (s : Dev) (x : List (Nat × Word)) : (s.putRegs x).mtr = s.mtr := (rfl)
@[simp] theorem putRegs_tri (s : Dev) (x : List (Nat × Word)) : (s.putRegs x).tri = s.tri := (rfl)
@[simp] theorem putRegs_vss (s : Dev) (x : List (Nat × Word)) : (s.putRegs x).vss = s.vss := (rfl)
@[simp] theorem putRegs_bil (s : Dev) (x : List (Nat × Word)) : (s.putRegs x).bil = s.bil := (rfl)
@[simp] theorem putRegs_key (s : Dev) (x : List (Nat × Word)) : (s.putRegs x).key = s.key := (rfl)
@[simp] theorem putRegs_sln (s : Dev) (x : List (Nat × Word)) : (s.putRegs x).sln = s.sln := (rfl)
@[simp] theorem putRegs_lsw (s : Dev) (x : List (Nat × Word)) : (s.putRegs x).lsw = s.lsw := (rfl)
@[simp] theorem putRegs_saf (s : Dev) (x : List (Nat × Word)) : (s.putRegs x).saf = s.saf := (rfl)
@[simp] theorem putRegs_bse (s : Dev) (x : List (Nat × Word)) : (s.putRegs x).bse = s.bse := (rfl)
@[simp] theorem putRegs_can (s : Dev) (x : List (Nat × Word)) : (s.putRegs x).can = s.can := (rfl)
@[simp] theorem putRegs_regs (s : Dev) (x : List (Nat × Word)) : (s.putRegs x).regs = x := (rfl)

@[simp] theorem wr_dt (s : Dev) (off : Nat) (v : Word) : (s.wr off v).dt = s.dt := (rfl)
@[simp] theorem wr_free (s : Dev) (off : Nat) (v : Word) : (s.wr off v).free = s.free := (rfl)
@[simp] theorem wr_out (s : Dev) (off : Nat) (v : Word) : (s.wr off v).out = s.out := (rfl)
@[simp] theorem wr_capture (s : Dev) (off : Nat) (v : Word) : (s.wr off v).capture = s.capture := (rfl)
@[simp] theorem wr_staging (s : Dev) (off : Nat) (v : Word) : (s.wr off v).staging = s.staging := (rfl)
@[simp] theorem wr_sets (s : Dev) (off : Nat) (v : Word) : (s.wr off v).sets = s.sets := (rfl)
@[simp] theorem wr_gen (s : Dev) (off : Nat) (v : Word) : (s.wr off v).gen = s.gen := (rfl)
@[simp] theorem wr_hif (s : Dev) (off : Nat) (v : Word) : (s.wr off v).hif = s.hif := (rfl)
@[simp] theorem wr_ldg (s : Dev) (off : Nat) (v : Word) : (s.wr off v).ldg = s.ldg := (rfl)
@[simp] theorem wr_alc (s : Dev) (off : Nat) (v : Word) : (s.wr off v).alc = s.alc := (rfl)
@[simp] theorem wr_edg (s : Dev) (off : Nat) (v : Word) : (s.wr off v).edg = s.edg := (rfl)
@[simp] theorem wr_pst (s : Dev) (off : Nat) (v : Word) : (s.wr off v).pst = s.pst := (rfl)
@[simp] theorem wr_cle (s : Dev) (off : Nat) (v : Word) : (s.wr off v).cle = s.cle := (rfl)
@[simp] theorem wr_thm (s : Dev) (off : Nat) (v : Word) : (s.wr off v).thm = s.thm := (rfl)
@[simp] theorem wr_mtr (s : Dev) (off : Nat) (v : Word) : (s.wr off v).mtr = s.mtr := (rfl)
@[simp] theorem wr_tri (s : Dev) (off : Nat) (v : Word) : (s.wr off v).tri = s.tri := (rfl)
@[simp] theorem wr_vss (s : Dev) (off : Nat) (v : Word) : (s.wr off v).vss = s.vss := (rfl)
@[simp] theorem wr_bil (s : Dev) (off : Nat) (v : Word) : (s.wr off v).bil = s.bil := (rfl)
@[simp] theorem wr_key (s : Dev) (off : Nat) (v : Word) : (s.wr off v).key = s.key := (rfl)
@[simp] theorem wr_sln (s : Dev) (off : Nat) (v : Word) : (s.wr off v).sln = s.sln := (rfl)
@[simp] theorem wr_lsw (s : Dev) (off : Nat) (v : Word) : (s.wr off v).lsw = s.lsw := (rfl)
@[simp] theorem wr_saf (s : Dev) (off : Nat) (v : Word) : (s.wr off v).saf = s.saf := (rfl)
@[simp] theorem wr_bse (s : Dev) (off : Nat) (v : Word) : (s.wr off v).bse = s.bse := (rfl)
@[simp] theorem wr_can (s : Dev) (off : Nat) (v : Word) : (s.wr off v).can = s.can := (rfl)

@[simp] theorem set_dt (s : Dev) (f : Field) (v : Nat) : (s.set f v).dt = s.dt := (rfl)
@[simp] theorem set_free (s : Dev) (f : Field) (v : Nat) : (s.set f v).free = s.free := (rfl)
@[simp] theorem set_out (s : Dev) (f : Field) (v : Nat) : (s.set f v).out = s.out := (rfl)
@[simp] theorem set_capture (s : Dev) (f : Field) (v : Nat) : (s.set f v).capture = s.capture := (rfl)
@[simp] theorem set_staging (s : Dev) (f : Field) (v : Nat) : (s.set f v).staging = s.staging := (rfl)
@[simp] theorem set_sets (s : Dev) (f : Field) (v : Nat) : (s.set f v).sets = s.sets := (rfl)
@[simp] theorem set_gen (s : Dev) (f : Field) (v : Nat) : (s.set f v).gen = s.gen := (rfl)
@[simp] theorem set_hif (s : Dev) (f : Field) (v : Nat) : (s.set f v).hif = s.hif := (rfl)
@[simp] theorem set_ldg (s : Dev) (f : Field) (v : Nat) : (s.set f v).ldg = s.ldg := (rfl)
@[simp] theorem set_alc (s : Dev) (f : Field) (v : Nat) : (s.set f v).alc = s.alc := (rfl)
@[simp] theorem set_edg (s : Dev) (f : Field) (v : Nat) : (s.set f v).edg = s.edg := (rfl)
@[simp] theorem set_pst (s : Dev) (f : Field) (v : Nat) : (s.set f v).pst = s.pst := (rfl)
@[simp] theorem set_cle (s : Dev) (f : Field) (v : Nat) : (s.set f v).cle = s.cle := (rfl)
@[simp] theorem set_thm (s : Dev) (f : Field) (v : Nat) : (s.set f v).thm = s.thm := (rfl)
@[simp] theorem set_mtr (s : Dev) (f : Field) (v : Nat) : (s.set f v).mtr = s.mtr := (rfl)
@[simp] theorem set_tri (s : Dev) (f : Field) (v : Nat) : (s.set f v).tri = s.tri := (rfl)
@[simp] theorem set_vss (s : Dev) (f : Field) (v : Nat) : (s.set f v).vss = s.vss := (rfl)
@[simp] theorem set_bil (s : Dev) (f : Field) (v : Nat) : (s.set f v).bil = s.bil := (rfl)
@[simp] theorem set_key (s : Dev) (f : Field) (v : Nat) : (s.set f v).key = s.key := (rfl)
@[simp] theorem set_sln (s : Dev) (f : Field) (v : Nat) : (s.set f v).sln = s.sln := (rfl)
@[simp] theorem set_lsw (s : Dev) (f : Field) (v : Nat) : (s.set f v).lsw = s.lsw := (rfl)
@[simp] theorem set_saf (s : Dev) (f : Field) (v : Nat) : (s.set f v).saf = s.saf := (rfl)
@[simp] theorem set_bse (s : Dev) (f : Field) (v : Nat) : (s.set f v).bse = s.bse := (rfl)
@[simp] theorem set_can (s : Dev) (f : Field) (v : Nat) : (s.set f v).can = s.can := (rfl)

@[simp] theorem seti_dt (s : Dev) (f : Field) (v : Int) : (s.seti f v).dt = s.dt := (rfl)
@[simp] theorem seti_free (s : Dev) (f : Field) (v : Int) : (s.seti f v).free = s.free := (rfl)
@[simp] theorem seti_out (s : Dev) (f : Field) (v : Int) : (s.seti f v).out = s.out := (rfl)
@[simp] theorem seti_capture (s : Dev) (f : Field) (v : Int) : (s.seti f v).capture = s.capture := (rfl)
@[simp] theorem seti_staging (s : Dev) (f : Field) (v : Int) : (s.seti f v).staging = s.staging := (rfl)
@[simp] theorem seti_sets (s : Dev) (f : Field) (v : Int) : (s.seti f v).sets = s.sets := (rfl)
@[simp] theorem seti_gen (s : Dev) (f : Field) (v : Int) : (s.seti f v).gen = s.gen := (rfl)
@[simp] theorem seti_hif (s : Dev) (f : Field) (v : Int) : (s.seti f v).hif = s.hif := (rfl)
@[simp] theorem seti_ldg (s : Dev) (f : Field) (v : Int) : (s.seti f v).ldg = s.ldg := (rfl)
@[simp] theorem seti_alc (s : Dev) (f : Field) (v : Int) : (s.seti f v).alc = s.alc := (rfl)
@[simp] theorem seti_edg (s : Dev) (f : Field) (v : Int) : (s.seti f v).edg = s.edg := (rfl)
@[simp] theorem seti_pst (s : Dev) (f : Field) (v : Int) : (s.seti f v).pst = s.pst := (rfl)
@[simp] theorem seti_cle (s : Dev) (f : Field) (v : Int) : (s.seti f v).cle = s.cle := (rfl)
@[simp] theorem seti_thm (s : Dev) (f : Field) (v : Int) : (s.seti f v).thm = s.thm := (rfl)
@[simp] theorem seti_mtr (s : Dev) (f : Field) (v : Int) : (s.seti f v).mtr = s.mtr := (rfl)
@[simp] theorem seti_tri (s : Dev) (f : Field) (v : Int) : (s.seti f v).tri = s.tri := (rfl)
@[simp] theorem seti_vss (s : Dev) (f : Field) (v : Int) : (s.seti f v).vss = s.vss := (rfl)
@[simp] theorem seti_bil (s : Dev) (f : Field) (v : Int) : (s.seti f v).bil = s.bil := (rfl)
@[simp] theorem seti_key (s : Dev) (f : Field) (v : Int) : (s.seti f v).key = s.key := (rfl)
@[simp] theorem seti_sln (s : Dev) (f : Field) (v : Int) : (s.seti f v).sln = s.sln := (rfl)
@[simp] theorem seti_lsw (s : Dev) (f : Field) (v : Int) : (s.seti f v).lsw = s.lsw := (rfl)
@[simp] theorem seti_saf (s : Dev) (f : Field) (v : Int) : (s.seti f v).saf = s.saf := (rfl)
@[simp] theorem seti_bse (s : Dev) (f : Field) (v : Int) : (s.seti f v).bse = s.bse := (rfl)
@[simp] theorem seti_can (s : Dev) (f : Field) (v : Int) : (s.seti f v).can = s.can := (rfl)

@[simp] theorem setb_dt (s : Dev) (f : Field) (v : Bool) : (s.setb f v).dt = s.dt := (rfl)
@[simp] theorem setb_free (s : Dev) (f : Field) (v : Bool) : (s.setb f v).free = s.free := (rfl)
@[simp] theorem setb_out (s : Dev) (f : Field) (v : Bool) : (s.setb f v).out = s.out := (rfl)
@[simp] theorem setb_capture (s : Dev) (f : Field) (v : Bool) : (s.setb f v).capture = s.capture := (rfl)
@[simp] theorem setb_staging (s : Dev) (f : Field) (v : Bool) : (s.setb f v).staging = s.staging := (rfl)
@[simp] theorem setb_sets (s : Dev) (f : Field) (v : Bool) : (s.setb f v).sets = s.sets := (rfl)
@[simp] theorem setb_gen (s : Dev) (f : Field) (v : Bool) : (s.setb f v).gen = s.gen := (rfl)
@[simp] theorem setb_hif (s : Dev) (f : Field) (v : Bool) : (s.setb f v).hif = s.hif := (rfl)
@[simp] theorem setb_ldg (s : Dev) (f : Field) (v : Bool) : (s.setb f v).ldg = s.ldg := (rfl)
@[simp] theorem setb_alc (s : Dev) (f : Field) (v : Bool) : (s.setb f v).alc = s.alc := (rfl)
@[simp] theorem setb_edg (s : Dev) (f : Field) (v : Bool) : (s.setb f v).edg = s.edg := (rfl)
@[simp] theorem setb_pst (s : Dev) (f : Field) (v : Bool) : (s.setb f v).pst = s.pst := (rfl)
@[simp] theorem setb_cle (s : Dev) (f : Field) (v : Bool) : (s.setb f v).cle = s.cle := (rfl)
@[simp] theorem setb_thm (s : Dev) (f : Field) (v : Bool) : (s.setb f v).thm = s.thm := (rfl)
@[simp] theorem setb_mtr (s : Dev) (f : Field) (v : Bool) : (s.setb f v).mtr = s.mtr := (rfl)
@[simp] theorem setb_tri (s : Dev) (f : Field) (v : Bool) : (s.setb f v).tri = s.tri := (rfl)
@[simp] theorem setb_vss (s : Dev) (f : Field) (v : Bool) : (s.setb f v).vss = s.vss := (rfl)
@[simp] theorem setb_bil (s : Dev) (f : Field) (v : Bool) : (s.setb f v).bil = s.bil := (rfl)
@[simp] theorem setb_key (s : Dev) (f : Field) (v : Bool) : (s.setb f v).key = s.key := (rfl)
@[simp] theorem setb_sln (s : Dev) (f : Field) (v : Bool) : (s.setb f v).sln = s.sln := (rfl)
@[simp] theorem setb_lsw (s : Dev) (f : Field) (v : Bool) : (s.setb f v).lsw = s.lsw := (rfl)
@[simp] theorem setb_saf (s : Dev) (f : Field) (v : Bool) : (s.setb f v).saf = s.saf := (rfl)
@[simp] theorem setb_bse (s : Dev) (f : Field) (v : Bool) : (s.setb f v).bse = s.bse := (rfl)
@[simp] theorem setb_can (s : Dev) (f : Field) (v : Bool) : (s.setb f v).can = s.can := (rfl)

@[simp] theorem incSat_dt (s : Dev) (f : Field) (n : Nat) : (s.incSat f n).dt = s.dt := (rfl)
@[simp] theorem incSat_free (s : Dev) (f : Field) (n : Nat) : (s.incSat f n).free = s.free := (rfl)
@[simp] theorem incSat_out (s : Dev) (f : Field) (n : Nat) : (s.incSat f n).out = s.out := (rfl)
@[simp] theorem incSat_capture (s : Dev) (f : Field) (n : Nat) : (s.incSat f n).capture = s.capture := (rfl)
@[simp] theorem incSat_staging (s : Dev) (f : Field) (n : Nat) : (s.incSat f n).staging = s.staging := (rfl)
@[simp] theorem incSat_sets (s : Dev) (f : Field) (n : Nat) : (s.incSat f n).sets = s.sets := (rfl)
@[simp] theorem incSat_gen (s : Dev) (f : Field) (n : Nat) : (s.incSat f n).gen = s.gen := (rfl)
@[simp] theorem incSat_hif (s : Dev) (f : Field) (n : Nat) : (s.incSat f n).hif = s.hif := (rfl)
@[simp] theorem incSat_ldg (s : Dev) (f : Field) (n : Nat) : (s.incSat f n).ldg = s.ldg := (rfl)
@[simp] theorem incSat_alc (s : Dev) (f : Field) (n : Nat) : (s.incSat f n).alc = s.alc := (rfl)
@[simp] theorem incSat_edg (s : Dev) (f : Field) (n : Nat) : (s.incSat f n).edg = s.edg := (rfl)
@[simp] theorem incSat_pst (s : Dev) (f : Field) (n : Nat) : (s.incSat f n).pst = s.pst := (rfl)
@[simp] theorem incSat_cle (s : Dev) (f : Field) (n : Nat) : (s.incSat f n).cle = s.cle := (rfl)
@[simp] theorem incSat_thm (s : Dev) (f : Field) (n : Nat) : (s.incSat f n).thm = s.thm := (rfl)
@[simp] theorem incSat_mtr (s : Dev) (f : Field) (n : Nat) : (s.incSat f n).mtr = s.mtr := (rfl)
@[simp] theorem incSat_tri (s : Dev) (f : Field) (n : Nat) : (s.incSat f n).tri = s.tri := (rfl)
@[simp] theorem incSat_vss (s : Dev) (f : Field) (n : Nat) : (s.incSat f n).vss = s.vss := (rfl)
@[simp] theorem incSat_bil (s : Dev) (f : Field) (n : Nat) : (s.incSat f n).bil = s.bil := (rfl)
@[simp] theorem incSat_key (s : Dev) (f : Field) (n : Nat) : (s.incSat f n).key = s.key := (rfl)
@[simp] theorem incSat_sln (s : Dev) (f : Field) (n : Nat) : (s.incSat f n).sln = s.sln := (rfl)
@[simp] theorem incSat_lsw (s : Dev) (f : Field) (n : Nat) : (s.incSat f n).lsw = s.lsw := (rfl)
@[simp] theorem incSat_saf (s : Dev) (f : Field) (n : Nat) : (s.incSat f n).saf = s.saf := (rfl)
@[simp] theorem incSat_bse (s : Dev) (f : Field) (n : Nat) : (s.incSat f n).bse = s.bse := (rfl)
@[simp] theorem incSat_can (s : Dev) (f : Field) (n : Nat) : (s.incSat f n).can = s.can := (rfl)

@[simp] theorem incWrap_dt (s : Dev) (f : Field) (n : Nat) : (s.incWrap f n).dt = s.dt := (rfl)
@[simp] theorem incWrap_free (s : Dev) (f : Field) (n : Nat) : (s.incWrap f n).free = s.free := (rfl)
@[simp] theorem incWrap_out (s : Dev) (f : Field) (n : Nat) : (s.incWrap f n).out = s.out := (rfl)
@[simp] theorem incWrap_capture (s : Dev) (f : Field) (n : Nat) : (s.incWrap f n).capture = s.capture := (rfl)
@[simp] theorem incWrap_staging (s : Dev) (f : Field) (n : Nat) : (s.incWrap f n).staging = s.staging := (rfl)
@[simp] theorem incWrap_sets (s : Dev) (f : Field) (n : Nat) : (s.incWrap f n).sets = s.sets := (rfl)
@[simp] theorem incWrap_gen (s : Dev) (f : Field) (n : Nat) : (s.incWrap f n).gen = s.gen := (rfl)
@[simp] theorem incWrap_hif (s : Dev) (f : Field) (n : Nat) : (s.incWrap f n).hif = s.hif := (rfl)
@[simp] theorem incWrap_ldg (s : Dev) (f : Field) (n : Nat) : (s.incWrap f n).ldg = s.ldg := (rfl)
@[simp] theorem incWrap_alc (s : Dev) (f : Field) (n : Nat) : (s.incWrap f n).alc = s.alc := (rfl)
@[simp] theorem incWrap_edg (s : Dev) (f : Field) (n : Nat) : (s.incWrap f n).edg = s.edg := (rfl)
@[simp] theorem incWrap_pst (s : Dev) (f : Field) (n : Nat) : (s.incWrap f n).pst = s.pst := (rfl)
@[simp] theorem incWrap_cle (s : Dev) (f : Field) (n : Nat) : (s.incWrap f n).cle = s.cle := (rfl)
@[simp] theorem incWrap_thm (s : Dev) (f : Field) (n : Nat) : (s.incWrap f n).thm = s.thm := (rfl)
@[simp] theorem incWrap_mtr (s : Dev) (f : Field) (n : Nat) : (s.incWrap f n).mtr = s.mtr := (rfl)
@[simp] theorem incWrap_tri (s : Dev) (f : Field) (n : Nat) : (s.incWrap f n).tri = s.tri := (rfl)
@[simp] theorem incWrap_vss (s : Dev) (f : Field) (n : Nat) : (s.incWrap f n).vss = s.vss := (rfl)
@[simp] theorem incWrap_bil (s : Dev) (f : Field) (n : Nat) : (s.incWrap f n).bil = s.bil := (rfl)
@[simp] theorem incWrap_key (s : Dev) (f : Field) (n : Nat) : (s.incWrap f n).key = s.key := (rfl)
@[simp] theorem incWrap_sln (s : Dev) (f : Field) (n : Nat) : (s.incWrap f n).sln = s.sln := (rfl)
@[simp] theorem incWrap_lsw (s : Dev) (f : Field) (n : Nat) : (s.incWrap f n).lsw = s.lsw := (rfl)
@[simp] theorem incWrap_saf (s : Dev) (f : Field) (n : Nat) : (s.incWrap f n).saf = s.saf := (rfl)
@[simp] theorem incWrap_bse (s : Dev) (f : Field) (n : Nat) : (s.incWrap f n).bse = s.bse := (rfl)
@[simp] theorem incWrap_can (s : Dev) (f : Field) (n : Nat) : (s.incWrap f n).can = s.can := (rfl)

@[simp] theorem bump_dt (s : Dev) (off n : Nat) : (s.bump off n).dt = s.dt := (rfl)
@[simp] theorem bump_free (s : Dev) (off n : Nat) : (s.bump off n).free = s.free := (rfl)
@[simp] theorem bump_out (s : Dev) (off n : Nat) : (s.bump off n).out = s.out := (rfl)
@[simp] theorem bump_capture (s : Dev) (off n : Nat) : (s.bump off n).capture = s.capture := (rfl)
@[simp] theorem bump_staging (s : Dev) (off n : Nat) : (s.bump off n).staging = s.staging := (rfl)
@[simp] theorem bump_sets (s : Dev) (off n : Nat) : (s.bump off n).sets = s.sets := (rfl)
@[simp] theorem bump_gen (s : Dev) (off n : Nat) : (s.bump off n).gen = s.gen := (rfl)
@[simp] theorem bump_hif (s : Dev) (off n : Nat) : (s.bump off n).hif = s.hif := (rfl)
@[simp] theorem bump_ldg (s : Dev) (off n : Nat) : (s.bump off n).ldg = s.ldg := (rfl)
@[simp] theorem bump_alc (s : Dev) (off n : Nat) : (s.bump off n).alc = s.alc := (rfl)
@[simp] theorem bump_edg (s : Dev) (off n : Nat) : (s.bump off n).edg = s.edg := (rfl)
@[simp] theorem bump_pst (s : Dev) (off n : Nat) : (s.bump off n).pst = s.pst := (rfl)
@[simp] theorem bump_cle (s : Dev) (off n : Nat) : (s.bump off n).cle = s.cle := (rfl)
@[simp] theorem bump_thm (s : Dev) (off n : Nat) : (s.bump off n).thm = s.thm := (rfl)
@[simp] theorem bump_mtr (s : Dev) (off n : Nat) : (s.bump off n).mtr = s.mtr := (rfl)
@[simp] theorem bump_tri (s : Dev) (off n : Nat) : (s.bump off n).tri = s.tri := (rfl)
@[simp] theorem bump_vss (s : Dev) (off n : Nat) : (s.bump off n).vss = s.vss := (rfl)
@[simp] theorem bump_bil (s : Dev) (off n : Nat) : (s.bump off n).bil = s.bil := (rfl)
@[simp] theorem bump_key (s : Dev) (off n : Nat) : (s.bump off n).key = s.key := (rfl)
@[simp] theorem bump_sln (s : Dev) (off n : Nat) : (s.bump off n).sln = s.sln := (rfl)
@[simp] theorem bump_lsw (s : Dev) (off n : Nat) : (s.bump off n).lsw = s.lsw := (rfl)
@[simp] theorem bump_saf (s : Dev) (off n : Nat) : (s.bump off n).saf = s.saf := (rfl)
@[simp] theorem bump_bse (s : Dev) (off n : Nat) : (s.bump off n).bse = s.bse := (rfl)
@[simp] theorem bump_can (s : Dev) (off n : Nat) : (s.bump off n).can = s.can := (rfl)

@[simp] theorem set64_dt (s : Dev) (lo : Nat) (v : Id64) : (s.set64 lo v).dt = s.dt := (rfl)
@[simp] theorem set64_free (s : Dev) (lo : Nat) (v : Id64) : (s.set64 lo v).free = s.free := (rfl)
@[simp] theorem set64_out (s : Dev) (lo : Nat) (v : Id64) : (s.set64 lo v).out = s.out := (rfl)
@[simp] theorem set64_capture (s : Dev) (lo : Nat) (v : Id64) : (s.set64 lo v).capture = s.capture := (rfl)
@[simp] theorem set64_staging (s : Dev) (lo : Nat) (v : Id64) : (s.set64 lo v).staging = s.staging := (rfl)
@[simp] theorem set64_sets (s : Dev) (lo : Nat) (v : Id64) : (s.set64 lo v).sets = s.sets := (rfl)
@[simp] theorem set64_gen (s : Dev) (lo : Nat) (v : Id64) : (s.set64 lo v).gen = s.gen := (rfl)
@[simp] theorem set64_hif (s : Dev) (lo : Nat) (v : Id64) : (s.set64 lo v).hif = s.hif := (rfl)
@[simp] theorem set64_ldg (s : Dev) (lo : Nat) (v : Id64) : (s.set64 lo v).ldg = s.ldg := (rfl)
@[simp] theorem set64_alc (s : Dev) (lo : Nat) (v : Id64) : (s.set64 lo v).alc = s.alc := (rfl)
@[simp] theorem set64_edg (s : Dev) (lo : Nat) (v : Id64) : (s.set64 lo v).edg = s.edg := (rfl)
@[simp] theorem set64_pst (s : Dev) (lo : Nat) (v : Id64) : (s.set64 lo v).pst = s.pst := (rfl)
@[simp] theorem set64_cle (s : Dev) (lo : Nat) (v : Id64) : (s.set64 lo v).cle = s.cle := (rfl)
@[simp] theorem set64_thm (s : Dev) (lo : Nat) (v : Id64) : (s.set64 lo v).thm = s.thm := (rfl)
@[simp] theorem set64_mtr (s : Dev) (lo : Nat) (v : Id64) : (s.set64 lo v).mtr = s.mtr := (rfl)
@[simp] theorem set64_tri (s : Dev) (lo : Nat) (v : Id64) : (s.set64 lo v).tri = s.tri := (rfl)
@[simp] theorem set64_vss (s : Dev) (lo : Nat) (v : Id64) : (s.set64 lo v).vss = s.vss := (rfl)
@[simp] theorem set64_bil (s : Dev) (lo : Nat) (v : Id64) : (s.set64 lo v).bil = s.bil := (rfl)
@[simp] theorem set64_key (s : Dev) (lo : Nat) (v : Id64) : (s.set64 lo v).key = s.key := (rfl)
@[simp] theorem set64_sln (s : Dev) (lo : Nat) (v : Id64) : (s.set64 lo v).sln = s.sln := (rfl)
@[simp] theorem set64_lsw (s : Dev) (lo : Nat) (v : Id64) : (s.set64 lo v).lsw = s.lsw := (rfl)
@[simp] theorem set64_saf (s : Dev) (lo : Nat) (v : Id64) : (s.set64 lo v).saf = s.saf := (rfl)
@[simp] theorem set64_bse (s : Dev) (lo : Nat) (v : Id64) : (s.set64 lo v).bse = s.bse := (rfl)
@[simp] theorem set64_can (s : Dev) (lo : Nat) (v : Id64) : (s.set64 lo v).can = s.can := (rfl)

@[simp] theorem start_dt (s : Dev) : (s.start).dt = s.dt := (rfl)
@[simp] theorem start_free (s : Dev) : (s.start).free = s.free := (rfl)
@[simp] theorem start_out (s : Dev) : (s.start).out = [] := (rfl)
@[simp] theorem start_capture (s : Dev) : (s.start).capture = s.capture := (rfl)
@[simp] theorem start_staging (s : Dev) : (s.start).staging = s.staging := (rfl)
@[simp] theorem start_sets (s : Dev) : (s.start).sets = s.sets := (rfl)
@[simp] theorem start_gen (s : Dev) : (s.start).gen = s.gen := (rfl)
@[simp] theorem start_hif (s : Dev) : (s.start).hif = s.hif := (rfl)
@[simp] theorem start_ldg (s : Dev) : (s.start).ldg = s.ldg := (rfl)
@[simp] theorem start_alc (s : Dev) : (s.start).alc = s.alc := (rfl)
@[simp] theorem start_edg (s : Dev) : (s.start).edg = s.edg := (rfl)
@[simp] theorem start_pst (s : Dev) : (s.start).pst = s.pst := (rfl)
@[simp] theorem start_cle (s : Dev) : (s.start).cle = s.cle := (rfl)
@[simp] theorem start_thm (s : Dev) : (s.start).thm = s.thm := (rfl)
@[simp] theorem start_mtr (s : Dev) : (s.start).mtr = s.mtr := (rfl)
@[simp] theorem start_tri (s : Dev) : (s.start).tri = s.tri := (rfl)
@[simp] theorem start_vss (s : Dev) : (s.start).vss = s.vss := (rfl)
@[simp] theorem start_bil (s : Dev) : (s.start).bil = s.bil := (rfl)
@[simp] theorem start_key (s : Dev) : (s.start).key = s.key := (rfl)
@[simp] theorem start_sln (s : Dev) : (s.start).sln = s.sln := (rfl)
@[simp] theorem start_lsw (s : Dev) : (s.start).lsw = s.lsw := (rfl)
@[simp] theorem start_saf (s : Dev) : (s.start).saf = s.saf := (rfl)
@[simp] theorem start_bse (s : Dev) : (s.start).bse = s.bse := (rfl)
@[simp] theorem start_can (s : Dev) : (s.start).can = s.can := (rfl)
@[simp] theorem start_regs (s : Dev) : (s.start).regs = s.regs := (rfl)
@[simp] theorem start_rd (s : Dev) (k : Nat) : (s.start).rd k = s.rd k := (rfl)
@[simp] theorem start_get (s : Dev) (f : Field) : (s.start).get f = s.get f := (rfl)
@[simp] theorem start_flag (s : Dev) (f : Field) : (s.start).flag f = s.flag f := (rfl)
@[simp] theorem start_live (s : Dev) : (s.start).live = s.live := (rfl)
@[simp] theorem start_serving (s : Dev) : (s.start).serving = s.serving := (rfl)
@[simp] theorem start_blockServed (s : Dev) (k : Nat) : (s.start).blockServed k = s.blockServed k := (rfl)

@[simp] theorem emit_dt (s : Dev) (o : Output) : (s.emit o).dt = s.dt := (rfl)
@[simp] theorem emit_free (s : Dev) (o : Output) : (s.emit o).free = s.free := (rfl)
@[simp] theorem emit_out (s : Dev) (o : Output) : (s.emit o).out = s.out ++ [o] := (rfl)
@[simp] theorem emit_capture (s : Dev) (o : Output) : (s.emit o).capture = s.capture := (rfl)
@[simp] theorem emit_staging (s : Dev) (o : Output) : (s.emit o).staging = s.staging := (rfl)
@[simp] theorem emit_sets (s : Dev) (o : Output) : (s.emit o).sets = s.sets := (rfl)
@[simp] theorem emit_gen (s : Dev) (o : Output) : (s.emit o).gen = s.gen := (rfl)
@[simp] theorem emit_hif (s : Dev) (o : Output) : (s.emit o).hif = s.hif := (rfl)
@[simp] theorem emit_ldg (s : Dev) (o : Output) : (s.emit o).ldg = s.ldg := (rfl)
@[simp] theorem emit_alc (s : Dev) (o : Output) : (s.emit o).alc = s.alc := (rfl)
@[simp] theorem emit_edg (s : Dev) (o : Output) : (s.emit o).edg = s.edg := (rfl)
@[simp] theorem emit_pst (s : Dev) (o : Output) : (s.emit o).pst = s.pst := (rfl)
@[simp] theorem emit_cle (s : Dev) (o : Output) : (s.emit o).cle = s.cle := (rfl)
@[simp] theorem emit_thm (s : Dev) (o : Output) : (s.emit o).thm = s.thm := (rfl)
@[simp] theorem emit_mtr (s : Dev) (o : Output) : (s.emit o).mtr = s.mtr := (rfl)
@[simp] theorem emit_tri (s : Dev) (o : Output) : (s.emit o).tri = s.tri := (rfl)
@[simp] theorem emit_vss (s : Dev) (o : Output) : (s.emit o).vss = s.vss := (rfl)
@[simp] theorem emit_bil (s : Dev) (o : Output) : (s.emit o).bil = s.bil := (rfl)
@[simp] theorem emit_key (s : Dev) (o : Output) : (s.emit o).key = s.key := (rfl)
@[simp] theorem emit_sln (s : Dev) (o : Output) : (s.emit o).sln = s.sln := (rfl)
@[simp] theorem emit_lsw (s : Dev) (o : Output) : (s.emit o).lsw = s.lsw := (rfl)
@[simp] theorem emit_saf (s : Dev) (o : Output) : (s.emit o).saf = s.saf := (rfl)
@[simp] theorem emit_bse (s : Dev) (o : Output) : (s.emit o).bse = s.bse := (rfl)
@[simp] theorem emit_can (s : Dev) (o : Output) : (s.emit o).can = s.can := (rfl)
@[simp] theorem emit_regs (s : Dev) (o : Output) : (s.emit o).regs = s.regs := (rfl)
@[simp] theorem emit_rd (s : Dev) (o : Output) (k : Nat) : (s.emit o).rd k = s.rd k := (rfl)
@[simp] theorem emit_get (s : Dev) (o : Output) (f : Field) : (s.emit o).get f = s.get f := (rfl)
@[simp] theorem emit_flag (s : Dev) (o : Output) (f : Field) : (s.emit o).flag f = s.flag f := (rfl)
@[simp] theorem emit_live (s : Dev) (o : Output) : (s.emit o).live = s.live := (rfl)
@[simp] theorem emit_serving (s : Dev) (o : Output) : (s.emit o).serving = s.serving := (rfl)
@[simp] theorem emit_blockServed (s : Dev) (o : Output) (k : Nat) : (s.emit o).blockServed k = s.blockServed k := (rfl)

@[simp] theorem answer_dt (s : Dev) (c : Code) : (s.answer c).dt = s.dt := (rfl)
@[simp] theorem answer_free (s : Dev) (c : Code) : (s.answer c).free = s.free := (rfl)
@[simp] theorem answer_out (s : Dev) (c : Code) : (s.answer c).out = s.out ++ [.writeStatus c] := (rfl)
@[simp] theorem answer_capture (s : Dev) (c : Code) : (s.answer c).capture = s.capture := (rfl)
@[simp] theorem answer_staging (s : Dev) (c : Code) : (s.answer c).staging = s.staging := (rfl)
@[simp] theorem answer_sets (s : Dev) (c : Code) : (s.answer c).sets = s.sets := (rfl)
@[simp] theorem answer_gen (s : Dev) (c : Code) : (s.answer c).gen = s.gen := (rfl)
@[simp] theorem answer_hif (s : Dev) (c : Code) : (s.answer c).hif = s.hif := (rfl)
@[simp] theorem answer_ldg (s : Dev) (c : Code) : (s.answer c).ldg = s.ldg := (rfl)
@[simp] theorem answer_alc (s : Dev) (c : Code) : (s.answer c).alc = s.alc := (rfl)
@[simp] theorem answer_edg (s : Dev) (c : Code) : (s.answer c).edg = s.edg := (rfl)
@[simp] theorem answer_pst (s : Dev) (c : Code) : (s.answer c).pst = s.pst := (rfl)
@[simp] theorem answer_cle (s : Dev) (c : Code) : (s.answer c).cle = s.cle := (rfl)
@[simp] theorem answer_thm (s : Dev) (c : Code) : (s.answer c).thm = s.thm := (rfl)
@[simp] theorem answer_mtr (s : Dev) (c : Code) : (s.answer c).mtr = s.mtr := (rfl)
@[simp] theorem answer_tri (s : Dev) (c : Code) : (s.answer c).tri = s.tri := (rfl)
@[simp] theorem answer_vss (s : Dev) (c : Code) : (s.answer c).vss = s.vss := (rfl)
@[simp] theorem answer_bil (s : Dev) (c : Code) : (s.answer c).bil = s.bil := (rfl)
@[simp] theorem answer_key (s : Dev) (c : Code) : (s.answer c).key = s.key := (rfl)
@[simp] theorem answer_sln (s : Dev) (c : Code) : (s.answer c).sln = s.sln := (rfl)
@[simp] theorem answer_lsw (s : Dev) (c : Code) : (s.answer c).lsw = s.lsw := (rfl)
@[simp] theorem answer_saf (s : Dev) (c : Code) : (s.answer c).saf = s.saf := (rfl)
@[simp] theorem answer_bse (s : Dev) (c : Code) : (s.answer c).bse = s.bse := (rfl)
@[simp] theorem answer_can (s : Dev) (c : Code) : (s.answer c).can = s.can := (rfl)
@[simp] theorem answer_regs (s : Dev) (c : Code) : (s.answer c).regs = s.regs := (rfl)
@[simp] theorem answer_rd (s : Dev) (c : Code) (k : Nat) : (s.answer c).rd k = s.rd k := (rfl)
@[simp] theorem answer_get (s : Dev) (c : Code) (f : Field) : (s.answer c).get f = s.get f := (rfl)
@[simp] theorem answer_flag (s : Dev) (c : Code) (f : Field) : (s.answer c).flag f = s.flag f := (rfl)
@[simp] theorem answer_live (s : Dev) (c : Code) : (s.answer c).live = s.live := (rfl)
@[simp] theorem answer_serving (s : Dev) (c : Code) : (s.answer c).serving = s.serving := (rfl)
@[simp] theorem answer_blockServed (s : Dev) (c : Code) (k : Nat) : (s.answer c).blockServed k = s.blockServed k := (rfl)

@[simp] theorem reach_dt (s : Dev) (t : Nat) : (s.reach t).dt = max s.dt t := (rfl)
@[simp] theorem reach_free (s : Dev) (t : Nat) : (s.reach t).free = s.free := (rfl)
@[simp] theorem reach_out (s : Dev) (t : Nat) : (s.reach t).out = s.out := (rfl)
@[simp] theorem reach_capture (s : Dev) (t : Nat) : (s.reach t).capture = s.capture := (rfl)
@[simp] theorem reach_staging (s : Dev) (t : Nat) : (s.reach t).staging = s.staging := (rfl)
@[simp] theorem reach_sets (s : Dev) (t : Nat) : (s.reach t).sets = s.sets := (rfl)
@[simp] theorem reach_gen (s : Dev) (t : Nat) : (s.reach t).gen = s.gen := (rfl)
@[simp] theorem reach_hif (s : Dev) (t : Nat) : (s.reach t).hif = s.hif := (rfl)
@[simp] theorem reach_ldg (s : Dev) (t : Nat) : (s.reach t).ldg = s.ldg := (rfl)
@[simp] theorem reach_alc (s : Dev) (t : Nat) : (s.reach t).alc = s.alc := (rfl)
@[simp] theorem reach_edg (s : Dev) (t : Nat) : (s.reach t).edg = s.edg := (rfl)
@[simp] theorem reach_pst (s : Dev) (t : Nat) : (s.reach t).pst = s.pst := (rfl)
@[simp] theorem reach_cle (s : Dev) (t : Nat) : (s.reach t).cle = s.cle := (rfl)
@[simp] theorem reach_thm (s : Dev) (t : Nat) : (s.reach t).thm = s.thm := (rfl)
@[simp] theorem reach_mtr (s : Dev) (t : Nat) : (s.reach t).mtr = s.mtr := (rfl)
@[simp] theorem reach_tri (s : Dev) (t : Nat) : (s.reach t).tri = s.tri := (rfl)
@[simp] theorem reach_vss (s : Dev) (t : Nat) : (s.reach t).vss = s.vss := (rfl)
@[simp] theorem reach_bil (s : Dev) (t : Nat) : (s.reach t).bil = s.bil := (rfl)
@[simp] theorem reach_key (s : Dev) (t : Nat) : (s.reach t).key = s.key := (rfl)
@[simp] theorem reach_sln (s : Dev) (t : Nat) : (s.reach t).sln = s.sln := (rfl)
@[simp] theorem reach_lsw (s : Dev) (t : Nat) : (s.reach t).lsw = s.lsw := (rfl)
@[simp] theorem reach_saf (s : Dev) (t : Nat) : (s.reach t).saf = s.saf := (rfl)
@[simp] theorem reach_bse (s : Dev) (t : Nat) : (s.reach t).bse = s.bse := (rfl)
@[simp] theorem reach_can (s : Dev) (t : Nat) : (s.reach t).can = s.can := (rfl)
@[simp] theorem reach_regs (s : Dev) (t : Nat) : (s.reach t).regs = s.regs := (rfl)
@[simp] theorem reach_rd (s : Dev) (t : Nat) (k : Nat) : (s.reach t).rd k = s.rd k := (rfl)
@[simp] theorem reach_get (s : Dev) (t : Nat) (f : Field) : (s.reach t).get f = s.get f := (rfl)
@[simp] theorem reach_flag (s : Dev) (t : Nat) (f : Field) : (s.reach t).flag f = s.flag f := (rfl)
@[simp] theorem reach_live (s : Dev) (t : Nat) : (s.reach t).live = s.live := (rfl)
@[simp] theorem reach_serving (s : Dev) (t : Nat) : (s.reach t).serving = s.serving := (rfl)
@[simp] theorem reach_blockServed (s : Dev) (t : Nat) (k : Nat) : (s.reach t).blockServed k = s.blockServed k := (rfl)

end Sys2Proof.Machine.Dev
end

