-- ==== Sys2Proof/Laws/Completing.lean ====
section
/-! SUPPORT. A command that the device takes completes with its effect: one lemma per kind of gate, and what a shut gate leaves. -/

namespace Sys2Proof.Machine

theorem completes_onDev {c : Instr} {s : State} {P : Dev → Prop} {f : Dev → Dev} (e : exec c s = s.onDev f) (p : P (f s.dev.start)) :
    Completes c s P :=
  ⟨{ s with dev := f s.dev.start }, e, rfl, p⟩

theorem completes_onLive {c : Instr} {s : State} {P : Dev → Prop} {f : Dev → Dev} (e : exec c s = s.onLive f)
    (h : Gate.live.opens s.dev = true) (p : P (f s.dev.start)) : Completes c s P :=
  completes_onDev e (by
    have : s.dev.start.live = true := h
    rwa [if_pos this])

theorem completes_onRun {c : Instr} {s : State} {P : Dev → Prop} {f : Dev → Dev} (e : exec c s = s.onRun f)
    (h : Gate.run.opens s.dev = true) (p : P (f s.dev.start)) : Completes c s P :=
  completes_onDev e (by
    have : s.dev.start.serving = true := h
    rwa [if_pos this])

theorem completes_onReg {c : Instr} {s : State} {P : Dev → Prop} {f : Dev → Dev} {b : Nat} (e : exec c s = s.onReg b f)
    (h : (Gate.reg b).opens s.dev = true) (p : P (f s.dev.start)) : Completes c s P :=
  completes_onDev e (by
    have h' : (s.dev.live && s.dev.blockServed b) = true := h
    rw [Bool.and_eq_true] at h'
    simpa [h'.1, h'.2] using p)

theorem serving_or_not (d : Dev) (h : d.live = true) : (!d.flag GEN_LIFECYCLE_CAUSE_FW) = d.serving := by
  unfold Dev.serving
  simp [h]

theorem completes_onHost {c : Instr} {s : State} {P : Dev → Prop} {f : Dev → Dev} {src : Src} {uart fw : Bool}
    (e : exec c s = s.onHost src uart fw f) (h : (Gate.host src uart fw).opens s.dev = true) (p : P (f s.dev.start)) : Completes c s P := by
  have h' : (s.dev.live && (uart || !Dev.overUart src) && (fw || s.dev.serving)) = true := h
  simp only [Bool.and_eq_true] at h'
  obtain ⟨⟨hl, hu⟩, hf⟩ := h'
  refine completes_onLive (f := fun d =>
    if (!uart && Dev.overUart src) || (!fw && d.flag GEN_LIFECYCLE_CAUSE_FW) then d.complete src ST_HIF_NOT_IN_CHANNEL else f d) e hl ?_
  have g := serving_or_not s.dev hl
  have : ¬((!uart && Dev.overUart src) || (!fw && s.dev.start.flag GEN_LIFECYCLE_CAUSE_FW)) = true := by
    have : s.dev.start.flag GEN_LIFECYCLE_CAUSE_FW = s.dev.flag GEN_LIFECYCLE_CAUSE_FW := rfl
    rw [this]
    cases uart <;> cases fw <;> simp_all
  rwa [if_neg this]

theorem completes_onObj {c : Instr} {s : State} {P : Dev → Prop} {f : Dev → Dev} {o : ObjSrc} (e : exec c s = s.onObj o f)
    (h : (Gate.obj o).opens s.dev = true) (p : P (f s.dev.start)) : Completes c s P := by
  have h' : s.dev.serving = true := h
  have hl : s.dev.live = true := by
    unfold Dev.serving at h'
    simp at h'
    exact h'.1
  refine completes_onLive (f := fun d => if d.serving then f d else d.objReply o ST_HIF_NOT_IN_CHANNEL) e hl ?_
  have : s.dev.start.serving = true := h
  rwa [if_pos this]

end Sys2Proof.Machine
end

