-- ==== Sys2Proof/Laws/RowsApart.lean ====
section
/-! SUPPORT. No two registers share an offset, so a register that a function does not name reads the same after it. -/

namespace Sys2Proof.Machine

/-- The greatest offset of a row's instances. -/
def RegRow.last (r : RegRow) : Nat := r.off + r.s1 * (r.n1 - 1) + r.s2 * (r.n2 - 1)

/-- Two rows that lie, modulo a stride `m` common to both, in windows or at remainders that differ. -/
def RegRow.sepBy (m : Nat) (r q : RegRow) : Bool :=
  r.s1 % m == 0 && q.s1 % m == 0 &&
    ((decide (r.off % m + r.s2 * (r.n2 - 1) < q.off % m) && decide (q.off % m + q.s2 * (q.n2 - 1) < m)) ||
      (decide (q.off % m + q.s2 * (q.n2 - 1) < r.off % m) && decide (r.off % m + r.s2 * (r.n2 - 1) < m)) ||
      (r.s2 == q.s2 && m % r.s2 == 0 && r.off % r.s2 != q.off % r.s2))

/-- Two rows that share no offset: apart as ranges, or modulo the smaller stride. -/
def RegRow.sep (r q : RegRow) : Bool :=
  decide (r.last < q.off) || decide (q.last < r.off) || RegRow.sepBy (if q.s1 < r.s1 then q.s1 else r.s1) r q

theorem RegRow.hits_form {r : RegRow} {off : Nat} (h : r.hits off = true) :
    ∃ i j, i ≤ r.n1 - 1 ∧ j ≤ r.n2 - 1 ∧ off = r.off + r.s1 * i + r.s2 * j := by
  unfold RegRow.hits at h
  simp only [Bool.and_eq_true, decide_eq_true_eq] at h
  obtain ⟨le, h⟩ := h
  split at h
  · split at h
    · refine ⟨0, 0, Nat.zero_le _, Nat.zero_le _, ?_⟩
      simp at h
      omega
    · simp only [Bool.and_eq_true, decide_eq_true_eq, beq_iff_eq] at h
      refine ⟨(off - r.off) / r.s1, 0, by omega, Nat.zero_le _, ?_⟩
      have := Nat.div_add_mod (off - r.off) r.s1
      omega
  · simp only [Bool.and_eq_true, decide_eq_true_eq, beq_iff_eq] at h
    refine ⟨(off - r.off) / r.s1, (off - r.off) % r.s1 / r.s2, by omega, by omega, ?_⟩
    have a := Nat.div_add_mod (off - r.off) r.s1
    have b := Nat.div_add_mod ((off - r.off) % r.s1) r.s2
    omega

theorem RegRow.sepBy_apart {m : Nat} {r q : RegRow} (h : RegRow.sepBy m r q = true) {off i j k l : Nat} (hj : j ≤ r.n2 - 1)
    (hl : l ≤ q.n2 - 1) (e : off = r.off + r.s1 * i + r.s2 * j) (f : off = q.off + q.s1 * k + q.s2 * l) : False := by
  have j1 := Nat.mul_le_mul_left r.s2 hj
  have l1 := Nat.mul_le_mul_left q.s2 hl
  unfold RegRow.sepBy at h
  simp only [Bool.or_eq_true, Bool.and_eq_true, decide_eq_true_eq, beq_iff_eq, bne_iff_ne] at h
  obtain ⟨⟨rm, qm⟩, h⟩ := h
  obtain ⟨a, ha⟩ := Nat.dvd_of_mod_eq_zero rm
  obtain ⟨b, hb⟩ := Nat.dvd_of_mod_eq_zero qm
  have em : off % m = (r.off % m + r.s2 * j) % m := by
    rw [e, ha, show r.off + m * a * i + r.s2 * j = (r.off + r.s2 * j) + m * (a * i) by rw [Nat.mul_assoc]; omega,
      Nat.add_mul_mod_self_left, Nat.mod_add_mod]
  have fm : off % m = (q.off % m + q.s2 * l) % m := by
    rw [f, hb, show q.off + m * b * k + q.s2 * l = (q.off + q.s2 * l) + m * (b * k) by rw [Nat.mul_assoc]; omega,
      Nat.add_mul_mod_self_left, Nat.mod_add_mod]
  rcases h with (⟨h1, h2⟩ | ⟨h1, h2⟩) | ⟨⟨h1, h2⟩, h3⟩
  · have x := em.trans (Nat.mod_eq_of_lt (by omega))
    have y := fm.trans (Nat.mod_eq_of_lt (by omega))
    omega
  · have x := em.trans (Nat.mod_eq_of_lt (by omega))
    have y := fm.trans (Nat.mod_eq_of_lt (by omega))
    omega
  · apply h3
    obtain ⟨c, hc⟩ := Nat.dvd_of_mod_eq_zero h2
    have x : off % r.s2 = r.off % r.s2 := by
      rw [e, ha, hc, show r.off + r.s2 * c * a * i + r.s2 * j = r.off + r.s2 * (c * a * i + j) by simp only [Nat.mul_add, Nat.mul_assoc]; omega,
        Nat.add_mul_mod_self_left]
    have y : off % r.s2 = q.off % r.s2 := by
      rw [f, ← h1, hb, hc, show q.off + r.s2 * c * b * k + r.s2 * l = q.off + r.s2 * (c * b * k + l) by simp only [Nat.mul_add, Nat.mul_assoc]; omega,
        Nat.add_mul_mod_self_left]
    omega

theorem RegRow.sep_apart {r q : RegRow} (h : r.sep q = true) {off : Nat} (a : r.hits off = true) (b : q.hits off = true) : False := by
  obtain ⟨i, j, hi, hj, e⟩ := RegRow.hits_form a
  obtain ⟨k, l, hk, hl, f⟩ := RegRow.hits_form b
  have i1 := Nat.mul_le_mul_left r.s1 hi
  have j1 := Nat.mul_le_mul_left r.s2 hj
  have k1 := Nat.mul_le_mul_left q.s1 hk
  have l1 := Nat.mul_le_mul_left q.s2 hl
  unfold RegRow.sep RegRow.last at h
  simp only [Bool.or_eq_true, decide_eq_true_eq] at h
  rcases h with (h | h) | h
  · omega
  · omega
  · exact RegRow.sepBy_apart h hj hl e f

def sepAll : List RegRow → Bool
  | [] => true
  | r :: rest => rest.all (fun q => r.sep q) && sepAll rest

/-- Two pieces of the register maps share no offset: their rows lie in blocks that differ, or are apart row by row. -/
def chunkSep (c d : Nat) : Bool :=
  let b := fun (r : RegRow) => r.off / 0x10000
  match (rowChunk c).head?, (rowChunk d).head? with
  | some r, some q =>
    (b r != b q && (rowChunk c).all (fun x => b x == b r && x.last / 0x10000 == b r) && (rowChunk d).all (fun x => b x == b q && x.last / 0x10000 == b q)) ||
      (rowChunk c).all (fun r => (rowChunk d).all (fun q => r.sep q))
  | _, _ => true

theorem sep_rows : ((List.range 43).all (fun c => sepAll (rowChunk c) && (List.range c).all (fun d => chunkSep c d))) = true := by decide

theorem sepAll_get {l : List RegRow} (h : sepAll l = true) {i j : Nat} (lt : i < j) {r q : RegRow} (a : l[i]? = some r)
    (b : l[j]? = some q) : r.sep q = true := by
  induction l generalizing i j with
  | nil => cases a
  | cons x rest ih =>
    simp only [sepAll, Bool.and_eq_true, List.all_eq_true] at h
    cases j with
    | zero => omega
    | succ j =>
      rw [List.getElem?_cons_succ] at b
      cases i with
      | zero =>
        simp only [List.getElem?_cons_zero, Option.some.injEq] at a
        exact a ▸ h.1 q (List.mem_of_getElem? b)
      | succ i =>
        rw [List.getElem?_cons_succ] at a
        exact ih h.2 (by omega) a b

theorem chunkSep_apart {c d : Nat} (h : chunkSep c d = true) {r q : RegRow} (a : r ∈ rowChunk c) (b : q ∈ rowChunk d) {off : Nat}
    (hr : r.hits off = true) (hq : q.hits off = true) : False := by
  unfold chunkSep at h
  split at h
  · rename_i x y hx hy
    simp only [Bool.or_eq_true, Bool.and_eq_true, List.all_eq_true, beq_iff_eq, bne_iff_ne] at h
    rcases h with ⟨⟨ne, hc⟩, hd⟩ | h
    · apply ne
      have block : ∀ {z : RegRow} {k : Nat}, z.off / 0x10000 = k → z.last / 0x10000 = k → z.hits off = true → off / 0x10000 = k := by
        intro z k e f hz
        obtain ⟨i, j, hi, hj, e'⟩ := RegRow.hits_form hz
        have := Nat.mul_le_mul_left z.s1 hi
        have := Nat.mul_le_mul_left z.s2 hj
        unfold RegRow.last at f
        omega
      exact (block (hc r a).1 (hc r a).2 hr).symm.trans (block (hd q b).1 (hd q b).2 hq)
    · exact RegRow.sep_apart (h r a q b) hr hq
  · rename_i none
    cases hx : (rowChunk c).head? with
    | none => rw [List.head?_eq_none_iff] at hx; rw [hx] at a; cases a
    | some x =>
      cases hy : (rowChunk d).head? with
      | none => rw [List.head?_eq_none_iff] at hy; rw [hy] at b; cases b
      | some y => exact (none x y hx hy).elim

theorem rowChunk_lt {c : Nat} {r : RegRow} (h : r ∈ rowChunk c) : c < 43 := by
  apply Classical.byContradiction
  intro k
  have : rowChunk c = [] := by
    unfold rowChunk
    split <;> first | rfl | omega
  rw [this] at h
  cases h

/-- No two registers share an offset. -/
theorem rowHas_unique {k l off : Nat} (a : RowHas k off) (b : RowHas l off) : k = l := by
  obtain ⟨r, ra, rh⟩ := a
  obtain ⟨q, qa, qh⟩ := b
  have rm := List.mem_of_getElem? ra
  have qm := List.mem_of_getElem? qa
  have S := sep_rows
  simp only [List.all_eq_true, Bool.and_eq_true, List.mem_range] at S
  rcases Nat.lt_trichotomy (k / 12) (l / 12) with h | h | h
  · exact (chunkSep_apart ((S _ (rowChunk_lt qm)).2 _ h) qm rm qh rh).elim
  · rcases Nat.lt_trichotomy (k % 12) (l % 12) with g | g | g
    · exact (RegRow.sep_apart (sepAll_get (S _ (rowChunk_lt rm)).1 g ra (h ▸ qa)) rh qh).elim
    · omega
    · exact (RegRow.sep_apart (sepAll_get (S _ (rowChunk_lt rm)).1 g (h ▸ qa) ra) qh rh).elim
  · exact (chunkSep_apart ((S _ (rowChunk_lt rm)).2 _ h) rm qm rh qh).elim

/-- A register that the mask does not name reads the same. -/
theorem Dev.Changes.rd_same {m k off : Nat} {s t : Dev} (h : Dev.Changes m s t) (r : RowHas k off) (hk : m.testBit (32 + k) = false)
    (w : m.testBit 31 = false) : t.rd off = s.rd off :=
  h.regs w off (fun l hl hr => by
    have := rowHas_unique r hr
    subst this
    exact Bool.noConfusion (hk.symm.trans hl))

end Sys2Proof.Machine
end

