-- ==== Sys2Proof/Laws/FrameMask.lean ====
section
/-! SUPPORT. The number of a frame: what a definition may change, read off its `Changes` lemma, as the frame that names it. -/

namespace Sys2Proof.Machine

theorem rowChunk_mem (c : Nat) {r : RegRow} (h : r ∈ rowChunk c) : ∃ b, b < 18 ∧ r ∈ blockRows b := by
  have lt := rowChunk_lt h
  match c, lt, h with
  | 0, _, h => exact ⟨0, by decide, List.mem_append_left _ h⟩
  | 1, _, h => exact ⟨0, by decide, List.mem_append_right _ h⟩
  | 2, _, h => exact ⟨1, by decide, List.mem_append_left _ h⟩
  | 3, _, h => exact ⟨1, by decide, List.mem_append_right _ h⟩
  | 4, _, h => exact ⟨2, by decide, List.mem_append_left _ (List.mem_append_left _ h)⟩
  | 5, _, h => exact ⟨2, by decide, List.mem_append_left _ (List.mem_append_right _ h)⟩
  | 6, _, h => exact ⟨2, by decide, List.mem_append_right _ h⟩
  | 7, _, h => exact ⟨3, by decide, List.mem_append_left _ (List.mem_append_left _ h)⟩
  | 8, _, h => exact ⟨3, by decide, List.mem_append_left _ (List.mem_append_right _ h)⟩
  | 9, _, h => exact ⟨3, by decide, List.mem_append_right _ h⟩
  | 10, _, h => exact ⟨4, by decide, List.mem_append_left _ (List.mem_append_left _ (List.mem_append_left _ h))⟩
  | 11, _, h => exact ⟨4, by decide, List.mem_append_left _ (List.mem_append_left _ (List.mem_append_right _ h))⟩
  | 12, _, h => exact ⟨4, by decide, List.mem_append_left _ (List.mem_append_right _ h)⟩
  | 13, _, h => exact ⟨4, by decide, List.mem_append_right _ h⟩
  | 14, _, h => exact ⟨5, by decide, List.mem_append_left _ (List.mem_append_left _ h)⟩
  | 15, _, h => exact ⟨5, by decide, List.mem_append_left _ (List.mem_append_right _ h)⟩
  | 16, _, h => exact ⟨5, by decide, List.mem_append_right _ h⟩
  | 17, _, h => exact ⟨6, by decide, List.mem_append_left _ (List.mem_append_left _ h)⟩
  | 18, _, h => exact ⟨6, by decide, List.mem_append_left _ (List.mem_append_right _ h)⟩
  | 19, _, h => exact ⟨6, by decide, List.mem_append_right _ h⟩
  | 20, _, h => exact ⟨7, by decide, List.mem_append_left _ h⟩
  | 21, _, h => exact ⟨7, by decide, List.mem_append_right _ h⟩
  | 22, _, h => exact ⟨8, by decide, List.mem_append_left _ h⟩
  | 23, _, h => exact ⟨8, by decide, List.mem_append_right _ h⟩
  | 24, _, h => exact ⟨9, by decide, List.mem_append_left _ h⟩
  | 25, _, h => exact ⟨9, by decide, List.mem_append_right _ h⟩
  | 26, _, h => exact ⟨10, by decide, List.mem_append_left _ (List.mem_append_left _ (List.mem_append_left _ h))⟩
  | 27, _, h => exact ⟨10, by decide, List.mem_append_left _ (List.mem_append_left _ (List.mem_append_right _ h))⟩
  | 28, _, h => exact ⟨10, by decide, List.mem_append_left _ (List.mem_append_right _ h)⟩
  | 29, _, h => exact ⟨10, by decide, List.mem_append_right _ h⟩
  | 30, _, h => exact ⟨11, by decide, List.mem_append_left _ (List.mem_append_left _ h)⟩
  | 31, _, h => exact ⟨11, by decide, List.mem_append_left _ (List.mem_append_right _ h)⟩
  | 32, _, h => exact ⟨11, by decide, List.mem_append_right _ h⟩
  | 33, _, h => exact ⟨12, by decide, List.mem_append_left _ (List.mem_append_left _ h)⟩
  | 34, _, h => exact ⟨12, by decide, List.mem_append_left _ (List.mem_append_right _ h)⟩
  | 35, _, h => exact ⟨12, by decide, List.mem_append_right _ h⟩
  | 36, _, h => exact ⟨13, by decide, List.mem_append_left _ h⟩
  | 37, _, h => exact ⟨13, by decide, List.mem_append_right _ h⟩
  | 38, _, h => exact ⟨14, by decide, List.mem_append_left _ h⟩
  | 39, _, h => exact ⟨14, by decide, List.mem_append_right _ h⟩
  | 40, _, h => exact ⟨15, by decide, h⟩
  | 41, _, h => exact ⟨16, by decide, h⟩
  | 42, _, h => exact ⟨17, by decide, h⟩

theorem rowChunk_rows {c : Nat} {r : RegRow} (h : r ∈ rowChunk c) : r ∈ regRows := by
  obtain ⟨b, lt, m⟩ := rowChunk_mem c h
  exact List.mem_flatMap.2 ⟨b, List.mem_range.2 lt, m⟩

/-- The row whose first instance stands at an offset. -/
def rowNumber (o : Nat) : Option Nat :=
  (List.range 43).findSome? (fun c => ((rowChunk c).findIdx? (fun r => r.off == o)).map (12 * c + ·))

def regsMask : List Nat → Nat
  | [] => 0
  | o :: rest =>
    (match rowNumber o with
      | some k => 2 ^ (32 + k)
      | none => 0) ||| regsMask rest

def partsMask : List DevPart → Nat
  | [] => 0
  | p :: rest => 2 ^ p.bit ||| partsMask rest

def Frame.mask (f : Frame) : Nat := partsMask f.parts ||| regsMask f.regs

theorem DevPart.bit_lt (p : DevPart) : p.bit < 30 := by cases p <;> decide

theorem DevPart.bit_inj {p q : DevPart} (h : p.bit = q.bit) : p = q := by
  cases p <;> cases q <;> first | rfl | (exact absurd h (by decide))

theorem partsMask_bit {l : List DevPart} {i : Nat} (h : (partsMask l).testBit i = true) : ∃ p ∈ l, p.bit = i := by
  induction l with
  | nil => simp [partsMask] at h
  | cons p rest ih =>
    simp only [partsMask, Nat.testBit_or, Nat.testBit_two_pow, Bool.or_eq_true, decide_eq_true_eq] at h
    rcases h with h | h
    · exact ⟨p, List.mem_cons_self, h⟩
    · obtain ⟨q, hq, e⟩ := ih h
      exact ⟨q, List.mem_cons_of_mem _ hq, e⟩

theorem regsMask_bit {l : List Nat} {i : Nat} (h : (regsMask l).testBit i = true) : ∃ o ∈ l, ∃ k, rowNumber o = some k ∧ 32 + k = i := by
  induction l with
  | nil => simp [regsMask] at h
  | cons o rest ih =>
    simp only [regsMask, Nat.testBit_or, Bool.or_eq_true] at h
    rcases h with h | h
    · cases e : rowNumber o with
      | none => simp [e] at h
      | some k =>
        simp only [e, Nat.testBit_two_pow, decide_eq_true_eq] at h
        exact ⟨o, List.mem_cons_self, k, e, h⟩
    · obtain ⟨q, hq, e⟩ := ih h
      exact ⟨q, List.mem_cons_of_mem _ hq, e⟩

theorem rowNumber_row {o k off : Nat} (h : rowNumber o = some k) (r : RowHas k off) : ∃ q ∈ regRows, q.off = o ∧ q.hits off = true := by
  obtain ⟨c, _, e⟩ := List.exists_of_findSome?_eq_some h
  obtain ⟨i, hi, rfl⟩ := Option.map_eq_some_iff.1 e
  obtain ⟨lt, p, _⟩ := List.findIdx?_eq_some_iff_getElem.1 hi
  have bound : i < 12 := by
    have : ∀ c < 43, (rowChunk c).length ≤ 12 := by decide
    have := this c (by
      apply Classical.byContradiction
      intro k
      have : rowChunk c = [] := by
        unfold rowChunk
        split <;> first | rfl | omega
      rw [this] at lt
      cases lt)
    omega
  obtain ⟨q, hq, hit⟩ := r
  rw [show (12 * c + i) / 12 = c by omega, show (12 * c + i) % 12 = i by omega, List.getElem?_eq_getElem lt] at hq
  cases hq
  exact ⟨_, rowChunk_rows (List.getElem_mem lt), by simpa using p, hit⟩

/-- What changes no more than the mask of a frame keeps everything outside the frame. -/
theorem Frame.holds_of {f : Frame} {s t : Dev} (h : Dev.Changes f.mask s t) : f.holds s t := by
  have low : ∀ {i : Nat}, i < 32 → (regsMask f.regs).testBit i = false := by
    intro i lt
    refine Bool.eq_false_iff.2 (fun c => ?_)
    obtain ⟨o, _, k, _, e⟩ := regsMask_bit c
    omega
  refine ⟨fun p hp => h.same p ?_, fun off ho => h.regs ?_ off (fun k hk => ?_)⟩
  · rw [Frame.mask, Nat.testBit_or, low (Nat.lt_trans p.bit_lt (by decide)), Bool.or_false]
    refine Bool.eq_false_iff.2 (fun c => ?_)
    obtain ⟨q, hq, e⟩ := partsMask_bit c
    exact hp (DevPart.bit_inj e ▸ hq)
  · rw [Frame.mask, Nat.testBit_or, low (by decide), Bool.or_false]
    refine Bool.eq_false_iff.2 (fun c => ?_)
    obtain ⟨q, _, e⟩ := partsMask_bit c
    have := q.bit_lt
    omega
  · intro r
    rw [Frame.mask, Nat.testBit_or, Bool.or_eq_true] at hk
    rcases hk with hk | hk
    · obtain ⟨q, _, e⟩ := partsMask_bit hk
      have := q.bit_lt
      omega
    · obtain ⟨o, mo, j, hj, e⟩ := regsMask_bit hk
      have : j = k := by omega
      subst this
      obtain ⟨q, mq, e, hit⟩ := rowNumber_row hj r
      exact Bool.noConfusion (hit.symm.trans (ho q mq (e ▸ mo)))

theorem Frame.of_changes {f : Frame} {s t : State} (h : t.pending = s.pending ∧ Dev.Changes f.mask s.dev t.dev) :
    t.pending = s.pending ∧ f.holds s.dev t.dev := ⟨h.1, Frame.holds_of h.2⟩

end Sys2Proof.Machine
end

