-- ==== Sys2Proof/WellFormed.lean ====
section
/-! DEFINITION. What the types of the operands leave open about a command that can come to the block: the lengths of what is always
whole, and the widths of the numbers a field carries. An operand the spec has the device judge itself (a parameter out of range, a frame
with a bad CRC) is well-formed: its answer is the command's effect. -/

namespace Sys2Proof

/-- R486: STATUS_ADDR and RES_ADDR have 64 bits, RES_LEN 32. -/
def LongSrc.ok (x : LongSrc) : Bool := decide (x.statusAddr < 2 ^ 64) && decide (x.resAddr < 2 ^ 64) && decide (x.resLen < 2 ^ 32)

/-- R523: COUNT has 16 bits, the slot 8. -/
def LdgReadReq.ok (x : LdgReadReq) : Bool := decide (x.count < 2 ^ 16) && decide (x.slot < 2 ^ 8)

/-- R507: engines are numbered by the algorithms of R463, VAUX fits 16 bits of mV. -/
def StartFacts.ok (x : StartFacts) : Bool := decide (x.vauxLow < 2 ^ 16) && decide (x.engineBad.length ≤ 256)

/-- R515: the parameters of a test stand in PARAM bytes 2 to 19. -/
def TestReq.ok (x : TestReq) : Bool := decide (x.params.length ≤ 18)

/-- R175, R196: a run has a hop of 0 to 16, and its blocks fit a run. -/
def RxFrame.ok (x : RxFrame) : Bool := decide (x.hop ≤ 16) && decide (x.line.length ≤ 33)

/-- R206, R208: a node's channels are at most 16 words, and a head's codes come in pairs of 24 bits. -/
def NodeIn.ok (x : NodeIn) : Bool :=
  decide (x.channels.length ≤ 16) && decide (x.codes.length ≤ 8) && x.ether.all (fun (e : List Byte) => decide (e.length ≤ 1518))

/-- R211, R487: an address has 16 bits; a write carries as many words as its count says. -/
def NodeCtrlReq.ok (x : NodeCtrlReq) : Bool := decide (x.addr < 2 ^ 16) && (!x.write || decide (x.words.length = x.count))

/-- R241: TYPE, ORIG and FINAL are bytes, a route has at most three relays, the body at most 1536 bytes. -/
def SlnFrame.ok (x : SlnFrame) : Bool :=
  decide (x.type < 2 ^ 8) && decide (x.orig < 2 ^ 8) && decide (x.final < 2 ^ 8) && decide (x.route.length ≤ 3) && decide (x.body.length ≤ 1536)

/-- R251: a map gives a code to each of the carriers 41 to 573. -/
def ToneMap.ok (x : ToneMap) : Bool := decide (x.codes.length = 533)

/-- A reply's frame and map are well-formed. -/
def SlnReply.ok (x : SlnReply) : Bool := x.frame.ok && x.map.all ToneMap.ok

/-- R243: class, protocol and former address are bytes. -/
def SlnJoin.ok (x : SlnJoin) : Bool := decide (x.cls < 2 ^ 8) && decide (x.proto < 2 ^ 8) && decide (x.former < 2 ^ 8)

/-- R270: an e-mobility account identifier has at most 255 bytes. -/
def Contract.ok (x : Contract) : Bool := decide (x.emaid.length ≤ 255)

/-- R268, R272: limits and powers of a vehicle are not negative but for the discharge power. -/
def V2gReq.ok : V2gReq → Bool
  | .chargeParameters vMax iMax _ _ _ => decide (0 ≤ vMax) && decide (0 ≤ iMax)
  | .chargeLoop x => decide (0 ≤ x.vMax) && decide (0 ≤ x.iMax)
  | .authorization c => c.all Contract.ok
  | .sessionSetup id => decide (id.length ≤ 255)
  | .sdp _ => true
  | .tcp => true
  | .handshake _ _ => true
  | .appProtocol _ _ => true
  | .authSetup => true
  | .serviceDiscovery => true
  | .serviceDetail => true
  | .serviceSelection _ => true
  | .scheduleExchange _ => true
  | .cableCheck => true
  | .preCharge _ => true
  | .powerDelivery _ => true
  | .weldingDetection => true
  | .sessionStop => true
  | .certificateInstallation _ => true
  | .unsupported => true
  | .broken => true

/-- R270: the widths of AUTH_ANSWER's parameters. -/
def AuthAnswer.ok (x : AuthAnswer) : Bool := decide (x.outlet < 2 ^ 8) && decide (x.result < 2 ^ 8) && decide (x.cls < 2 ^ 8) && decide (x.cap < 2 ^ 64)

/-- R279: the widths of COMMISSION's parameters. -/
def Commission.ok (x : Commission) : Bool :=
  decide (x.outlet < 2 ^ 8) && decide (x.kind < 2 ^ 8) && decide (x.power < 2 ^ 32) && decide (x.current < 2 ^ 32) && decide (x.voltage < 2 ^ 32)

/-- R297: an identifier has 11 bits, an extended one 29; a frame carries at most 64 bytes. -/
def CanFrame.ok (x : CanFrame) : Bool := decide (x.id < if x.ide then 2 ^ 29 else 2 ^ 11) && decide (x.data.length ≤ 64)

/-- R304, R308: 8 channels of 34 samples of 24 bits, and 8 self-checks. -/
def GpSamples.ok (x : GpSamples) : Bool :=
  decide (x.codes.length = 8) && x.codes.all (fun (c : List Int) => decide (c.length = 34) && c.all (fun (v : Int) => decide (-8388608 ≤ v ∧ v < 8388608))) &&
    decide (x.selfFail.length = 8)

/-- R315: 8 channels, each with its RMS value and its bins. -/
def HarmWindow.ok (x : HarmWindow) : Bool := decide (x.rms.length = 8) && decide (x.bins.length = 8)

/-- R351: a month, a week of it, a weekday, and a minute of the day. -/
def DstRule.ok (x : DstRule) : Bool := decide (x.month < 2 ^ 8) && decide (x.week < 2 ^ 8) && decide (x.weekday < 2 ^ 8) && decide (x.minute < 2 ^ 16)

/-- R353: the widths of what a SET of class 0x08 carries. -/
def CalSet.ok : CalSet → Bool
  | .cfg _ => true
  | .tz _ => true
  | .daylight a b => a.ok && b.ok
  | .calendar c => c.seasons.all (fun (x : Nat × Nat × List Nat) => decide (x.2.2.length = 7))

/-- R366: DWELL is a byte. -/
def ScrollSet.ok : ScrollSet → Bool
  | .outlets _ => true
  | .port _ => true
  | .dwell s => decide (s < 2 ^ 8)

/-- R468: an image and what MRAM holds of it have at most 2 MiB. -/
def FwImage.ok (x : FwImage) : Bool := decide (x.bytes.length ≤ 2097152) && decide (x.mram.length ≤ 2097152)

/-- R408: four safe outputs are read back. -/
def SafRead.ok (x : SafRead) : Bool := decide (x.souts.length = 4)

/-- R455: the widths of a key operation's parameters. -/
def KeyNew.ok (x : KeyNew) : Bool := decide (x.type < 2 ^ 8) && decide (x.usage < 2 ^ 16) && decide (x.hash < 2 ^ 16)

/-- The command is one that can come to the block. -/
def Instr.wellFormed : Instr → Bool
  | .registerWrite _ _ => true
  | .reg64LowRead _ => true
  | .reg64LowWrite _ _ => true
  | .reg64HighWrite _ _ => true
  | .clearOnReadRead _ _ => true
  | .powerOnReset facts => facts.ok
  | .resetRelease facts => facts.ok
  | .pcieEarlyRequest _ => true
  | .rootPllLockLoss => true
  | .dieLinkFail => true
  | .sramEccError _ _ _ => true
  | .watchdogExpiry => true
  | .rtcRateCheck _ => true
  | .resetPinAssert => true
  | .resetPinRelease => true
  | .resetPinStuck facts => facts.ok
  | .resetPinArm => true
  | .resetPinIgnored => true
  | .hostReset _ => true
  | .shReqWrite _ => true
  | .factoryClose _ _ => true
  | .lifecycle _ _ => true
  | .allocationTick => true
  | .grantSolveComplete _ _ => true
  | .alcRunWrite _ => true
  | .alcHostTrip _ => true
  | .alcTripClear => true
  | .tripClear _ => true
  | .gridPointRecount _ => true
  | .legArm _ _ => true
  | .legDisarm _ => true
  | .legForceWrite _ _ => true
  | .legCutoff _ => true
  | .fltInputAssert _ => true
  | .slotSample _ _ _ => true
  | .slotExecutionComplete _ => true
  | .slotDeadlineMiss _ => true
  | .slotOpen _ => true
  | .slotClose _ => true
  | .slotFaultClear _ => true
  | .cableObserverStep _ _ _ _ => true
  | .cableFlowTrip _ => true
  | .cableTripClear _ => true
  | .cableLimitPublish _ => true
  | .sensorSample _ _ => true
  | .bandFall _ => true
  | .dieTempSample _ _ _ => true
  | .dieOvertempRelease => true
  | .cableEnable _ => true
  | .identify l _ _ _ => l.ok
  | .identifyPhaseEnd _ => true
  | .pisteEnable _ => true
  | .pisteDisable _ => true
  | .pisteRestart _ => true
  | .rxLock _ => true
  | .rxLockLoss _ => true
  | .rxInversionDetected _ => true
  | .pisteTrainDone _ _ _ => true
  | .pisteTrainTimeout _ _ => true
  | .pisteAdaptDone _ _ _ => true
  | .pisteVerifyDone _ _ => true
  | .pisteRelockTimeout _ => true
  | .pisteFailedRetry _ => true
  | .ctleSweepStep _ _ _ => true
  | .eqTrial _ _ _ _ _ => true
  | .dfeLmsStep _ _ _ => true
  | .fomUpdate _ _ _ _ _ _ => true
  | .echoComplete _ _ => true
  | .censusMark seen _ => decide (seen.length = 8)
  | .markReturn _ _ _ => true
  | .censusReplyReceived f => f.ok
  | .pstAdmitAccept _ => true
  | .pstAdmitForget _ => true
  | .teleFrameReceived f => f.ok
  | .measFrameReceived f => f.ok
  | .tunFrameReceived f => f.ok
  | .nodeCtrl _ x => x.ok
  | .ctrlResponseReceived f => f.ok
  | .ctrlRetry => true
  | .ctrlTimeout => true
  | .nodeMarkForward _ _ _ _ _ => true
  | .nodeRunOwn _ _ _ _ _ line x => x.ok && decide (line.length ≤ 33)
  | .nodeSyncApply _ _ => true
  | .nodeTimeStale _ => true
  | .nodeLegBoundary _ _ => true
  | .nodeFaultInput _ _ _ => true
  | .nodeRxAlignLoss _ _ _ => true
  | .nodeNoRunTimeout _ => true
  | .superframeStart => true
  | .slnPollSend _ => true
  | .slnReplyReceived _ x => x.ok
  | .slnReplyTimeout _ => true
  | .slnRelayForward _ f => f.ok
  | .slnJoinReq r => r.ok
  | .slnAdmitAccept _ => true
  | .slnAdmitForget _ => true
  | .slnRouteRecompute => true
  | .slnTmapExpiry _ _ => true
  | .slnNoiseImpulse => true
  | .slnNoiseHoldEnd => true
  | .slnWakeFrame _ _ facts => facts.ok
  | .slnSend _ _ data => decide (data.length < 2 ^ 32)
  | .slnRecv _ _ => true
  | .displayItemDue => true
  | .dspTransaction _ _ _ => true
  | .v2gRequest _ _ x => x.ok
  | .vlinkPoll _ => true
  | .sessionStateTimeout _ => true
  | .authTimeout _ => true
  | .certInstallTimeout _ => true
  | .refusalHoldMax _ => true
  | .chargeLoopTimeout _ => true
  | .cableCheckVoltageReached _ => true
  | .energisationInstant _ => true
  | .stopCurrentLow _ => true
  | .stopUnderLoad _ => true
  | .contactorOpened _ => true
  | .contactorOpenRetry _ => true
  | .weldCheck _ => true
  | .manifestLateSign => true
  | .sessionStop _ => true
  | .weldClear _ => true
  | .authAnswer _ x => x.ok
  | .certResponse _ _ _ => true
  | .chainSet _ _ _ => true
  | .anchorSet _ _ _ => true
  | .commission _ x => x.ok
  | .canEnable _ => true
  | .canDisable _ _ => true
  | .canRecover _ => true
  | .canTx _ record => decide (record.length = 80)
  | .canTxComplete _ _ _ _ => true
  | .canFrameReceived _ f _ => f.ok
  | .canBusError _ _ => true
  | .canRecoveryComplete _ => true
  | .blockCommit gp0 gp1 => gp0.ok && gp1.ok
  | .pulseStart _ => true
  | .pulseEnd _ => true
  | .harmonicWindowEnd _ w => w.ok
  | .periodicSave => true
  | .saveCommitCheck _ => true
  | .triadEnable _ => true
  | .headStandbyRequest _ _ => true
  | .headReadmitRequest _ _ => true
  | .headReadmitTimer _ => true
  | .headSelfTestResult _ _ => true
  | .headResyncTimeout _ => true
  | .demandSubintervalEnd => true
  | .tariffSwitch => true
  | .billingPeriodClose => true
  | .slewStep => true
  | .tamperMagnetic _ => true
  | .tamperCover _ _ => true
  | .objChallenge _ => true
  | .objLogin _ _ => true
  | .objGet _ _ => true
  | .objEnd _ => true
  | .associationTimeout _ => true
  | .accessLockExpiry _ => true
  | .legalTimeSet _ utc => decide (utc < 2 ^ 64)
  | .calendarSet _ x => x.ok
  | .scrollSet _ x => x.ok
  | .calibrationWrite _ _ => true
  | .periodCloseAction _ => true
  | .magStartupClear _ => true
  | .unboundedAcknowledge _ _ => true
  | .sealBreak _ => true
  | .sealReseal _ => true
  | .manRead _ _ _ _ => true
  | .manAck _ _ => true
  | .estimatorStep _ => true
  | .estimatorCommit _ => true
  | .bmsStaleTimeout _ => true
  | .learnAgeTick _ => true
  | .stringEnable _ => true
  | .stringSwap _ => true
  | .stringForget _ => true
  | .safetyEvaluation x => x.ok
  | .cat1OutputOff _ => true
  | .safetyConfirm _ => true
  | .safetyHostReset => true
  | .soutFaultClear => true
  | .soutDarkTest _ _ _ => true
  | .lswOnWrite _ _ => true
  | .lswEnWrite _ _ => true
  | .lswUnlock _ => true
  | .lswOvercurrent _ _ => true
  | .lswThermalShutdown _ => true
  | .lswTempWarn _ _ => true
  | .lswRetry _ => true
  | .lswRetryCntReset _ => true
  | .lswAggEval meas vaux vhold => decide (meas.length = 20) && decide (vaux < 2 ^ 16) && decide (vhold < 2 ^ 16)
  | .lswOffstateTest _ _ _ => true
  | .vauxSurge => true
  | .vauxSurgeEnd _ => true
  | .vauxDip => true
  | .vauxDipEnd _ => true
  | .brownOut => true
  | .vauxReverse => true
  | .groundLost => true
  | .vauxRemoved => true
  | .holdWindowEnd => true
  | .keyGenerate l x => l.ok && x.ok
  | .keyImport l x => l.ok && x.new.ok
  | .keyDelete _ _ _ => true
  | .keyGetPublic _ _ => true
  | .keyMakeCsr l _ _ => l.ok
  | .keySign l _ _ => l.ok
  | .keyVerify l _ _ _ => l.ok
  | .keyHmac _ _ _ => true
  | .keyCipher _ _ _ => true
  | .keyHash _ _ _ => true
  | .keyRandom _ _ => true
  | .keyLoadBlob _ _ _ => true
  | .keyUnload _ _ => true
  | .fwStage l x => l.ok && x.ok
  | .fwActivate _ => true
  | .fwConfirm _ => true
  | .fwTrialTimeout => true
  | .rngFail => true
  | .rngRetest _ => true
  | .rootGenRetry => true
  | .debugOpenRequest => true
  | .debugAuthResponse _ _ => true
  | .debugClose => true
  | .submitDoorbell _ _ => true
  | .headDoorbell _ _ => true
  | .descriptorFetch _ _ entries => decide (1 ≤ entries.length) && decide (entries.all (fun (e : List Byte) => decide (e.length = 64)))
  | .nop _ => true
  | .regRead _ _ => true
  | .regWrite _ _ => true
  | .longCancel _ _ => true
  | .longOperationDone _ _ => true
  | .longPartialReady _ _ _ progress => decide (progress ≤ 1000)
  | .test l t => l.ok && t.ok
  | .testWindowOpen _ _ => true
  | .testExpiry _ => true
  | .cfgWrite l image => l.ok && decide (image.length < 2 ^ 32)
  | .ringEnable _ => true
  | .ringDisable _ => true
  | .vectorTimeExpiry _ => true
  | .pcieLinkLoss _ => true
  | .dmaError _ => true
  | .uartFrameReceived _ => true
  | .modeRunRequest => true
  | .modeIdleRequest => true
  | .modeStandbyRequest => true
  | .hibernateRequest _ _ _ => true
  | .hibernateWake _ _ facts => facts.ok
  | .ldgRead l r => l.ok && r.ok
  | .ldgFreeze => true
  | .ldgRelease _ => true
  | .ledgerWrite => true
  | .sessionClosingTimeout _ => true
  | .failHoldExpiry _ => true
  | .nodeUnsynced _ => true

/-- R486: the source of the descriptor that carries the command, for the commands that are descriptors. -/
def Instr.source : Instr → Option Src
  | .registerWrite _ _ => none
  | .reg64LowRead _ => none
  | .reg64LowWrite _ _ => none
  | .reg64HighWrite _ _ => none
  | .clearOnReadRead _ _ => none
  | .powerOnReset _ => none
  | .resetRelease _ => none
  | .pcieEarlyRequest _ => none
  | .rootPllLockLoss => none
  | .dieLinkFail => none
  | .sramEccError _ _ _ => none
  | .watchdogExpiry => none
  | .rtcRateCheck _ => none
  | .resetPinAssert => none
  | .resetPinRelease => none
  | .resetPinStuck _ => none
  | .resetPinArm => none
  | .resetPinIgnored => none
  | .hostReset _ => none
  | .shReqWrite _ => none
  | .factoryClose _ _ => none
  | .lifecycle src _ => some src
  | .allocationTick => none
  | .grantSolveComplete _ _ => none
  | .alcRunWrite _ => none
  | .alcHostTrip _ => none
  | .alcTripClear => none
  | .tripClear src => some src
  | .gridPointRecount _ => none
  | .legArm _ _ => none
  | .legDisarm _ => none
  | .legForceWrite _ _ => none
  | .legCutoff _ => none
  | .fltInputAssert _ => none
  | .slotSample _ _ _ => none
  | .slotExecutionComplete _ => none
  | .slotDeadlineMiss _ => none
  | .slotOpen _ => none
  | .slotClose _ => none
  | .slotFaultClear _ => none
  | .cableObserverStep _ _ _ _ => none
  | .cableFlowTrip _ => none
  | .cableTripClear _ => none
  | .cableLimitPublish _ => none
  | .sensorSample _ _ => none
  | .bandFall _ => none
  | .dieTempSample _ _ _ => none
  | .dieOvertempRelease => none
  | .cableEnable _ => none
  | .identify l _ _ _ => some l.src
  | .identifyPhaseEnd _ => none
  | .pisteEnable _ => none
  | .pisteDisable _ => none
  | .pisteRestart _ => none
  | .rxLock _ => none
  | .rxLockLoss _ => none
  | .rxInversionDetected _ => none
  | .pisteTrainDone _ _ _ => none
  | .pisteTrainTimeout _ _ => none
  | .pisteAdaptDone _ _ _ => none
  | .pisteVerifyDone _ _ => none
  | .pisteRelockTimeout _ => none
  | .pisteFailedRetry _ => none
  | .ctleSweepStep _ _ _ => none
  | .eqTrial _ _ _ _ _ => none
  | .dfeLmsStep _ _ _ => none
  | .fomUpdate _ _ _ _ _ _ => none
  | .echoComplete _ _ => none
  | .censusMark _ _ => none
  | .markReturn _ _ _ => none
  | .censusReplyReceived _ => none
  | .pstAdmitAccept _ => none
  | .pstAdmitForget _ => none
  | .teleFrameReceived _ => none
  | .measFrameReceived _ => none
  | .tunFrameReceived _ => none
  | .nodeCtrl src _ => some src
  | .ctrlResponseReceived _ => none
  | .ctrlRetry => none
  | .ctrlTimeout => none
  | .nodeMarkForward _ _ _ _ _ => none
  | .nodeRunOwn _ _ _ _ _ _ _ => none
  | .nodeSyncApply _ _ => none
  | .nodeTimeStale _ => none
  | .nodeLegBoundary _ _ => none
  | .nodeFaultInput _ _ _ => none
  | .nodeRxAlignLoss _ _ _ => none
  | .nodeNoRunTimeout _ => none
  | .superframeStart => none
  | .slnPollSend _ => none
  | .slnReplyReceived _ _ => none
  | .slnReplyTimeout _ => none
  | .slnRelayForward _ _ => none
  | .slnJoinReq _ => none
  | .slnAdmitAccept _ => none
  | .slnAdmitForget _ => none
  | .slnRouteRecompute => none
  | .slnTmapExpiry _ _ => none
  | .slnNoiseImpulse => none
  | .slnNoiseHoldEnd => none
  | .slnWakeFrame _ _ _ => none
  | .slnSend src _ _ => some src
  | .slnRecv src _ => some src
  | .displayItemDue => none
  | .dspTransaction _ _ _ => none
  | .v2gRequest _ _ _ => none
  | .vlinkPoll _ => none
  | .sessionStateTimeout _ => none
  | .authTimeout _ => none
  | .certInstallTimeout _ => none
  | .refusalHoldMax _ => none
  | .chargeLoopTimeout _ => none
  | .cableCheckVoltageReached _ => none
  | .energisationInstant _ => none
  | .stopCurrentLow _ => none
  | .stopUnderLoad _ => none
  | .contactorOpened _ => none
  | .contactorOpenRetry _ => none
  | .weldCheck _ => none
  | .manifestLateSign => none
  | .sessionStop _ => none
  | .weldClear _ => none
  | .authAnswer src _ => some src
  | .certResponse src _ _ => some src
  | .chainSet src _ _ => some src
  | .anchorSet src _ _ => some src
  | .commission src _ => some src
  | .canEnable _ => none
  | .canDisable _ _ => none
  | .canRecover _ => none
  | .canTx src _ => some src
  | .canTxComplete _ _ _ _ => none
  | .canFrameReceived _ _ _ => none
  | .canBusError _ _ => none
  | .canRecoveryComplete _ => none
  | .blockCommit _ _ => none
  | .pulseStart _ => none
  | .pulseEnd _ => none
  | .harmonicWindowEnd _ _ => none
  | .periodicSave => none
  | .saveCommitCheck _ => none
  | .triadEnable _ => none
  | .headStandbyRequest _ _ => none
  | .headReadmitRequest _ _ => none
  | .headReadmitTimer _ => none
  | .headSelfTestResult _ _ => none
  | .headResyncTimeout _ => none
  | .demandSubintervalEnd => none
  | .tariffSwitch => none
  | .billingPeriodClose => none
  | .slewStep => none
  | .tamperMagnetic _ => none
  | .tamperCover _ _ => none
  | .objChallenge _ => none
  | .objLogin _ _ => none
  | .objGet _ _ => none
  | .objEnd _ => none
  | .associationTimeout _ => none
  | .accessLockExpiry _ => none
  | .legalTimeSet _ _ => none
  | .calendarSet _ _ => none
  | .scrollSet _ _ => none
  | .calibrationWrite _ _ => none
  | .periodCloseAction _ => none
  | .magStartupClear _ => none
  | .unboundedAcknowledge _ _ => none
  | .sealBreak _ => none
  | .sealReseal _ => none
  | .manRead src _ _ _ => some src
  | .manAck src _ => some src
  | .estimatorStep _ => none
  | .estimatorCommit _ => none
  | .bmsStaleTimeout _ => none
  | .learnAgeTick _ => none
  | .stringEnable _ => none
  | .stringSwap _ => none
  | .stringForget _ => none
  | .safetyEvaluation _ => none
  | .cat1OutputOff _ => none
  | .safetyConfirm _ => none
  | .safetyHostReset => none
  | .soutFaultClear => none
  | .soutDarkTest _ _ _ => none
  | .lswOnWrite _ _ => none
  | .lswEnWrite _ _ => none
  | .lswUnlock _ => none
  | .lswOvercurrent _ _ => none
  | .lswThermalShutdown _ => none
  | .lswTempWarn _ _ => none
  | .lswRetry _ => none
  | .lswRetryCntReset _ => none
  | .lswAggEval _ _ _ => none
  | .lswOffstateTest _ _ _ => none
  | .vauxSurge => none
  | .vauxSurgeEnd _ => none
  | .vauxDip => none
  | .vauxDipEnd _ => none
  | .brownOut => none
  | .vauxReverse => none
  | .groundLost => none
  | .vauxRemoved => none
  | .holdWindowEnd => none
  | .keyGenerate l _ => some l.src
  | .keyImport l _ => some l.src
  | .keyDelete src _ _ => some src
  | .keyGetPublic src _ => some src
  | .keyMakeCsr l _ _ => some l.src
  | .keySign l _ _ => some l.src
  | .keyVerify l _ _ _ => some l.src
  | .keyHmac src _ _ => some src
  | .keyCipher src _ _ => some src
  | .keyHash src _ _ => some src
  | .keyRandom src _ => some src
  | .keyLoadBlob src _ _ => some src
  | .keyUnload src _ => some src
  | .fwStage l _ => some l.src
  | .fwActivate src => some src
  | .fwConfirm src => some src
  | .fwTrialTimeout => none
  | .rngFail => none
  | .rngRetest _ => none
  | .rootGenRetry => none
  | .debugOpenRequest => none
  | .debugAuthResponse _ _ => none
  | .debugClose => none
  | .submitDoorbell _ _ => none
  | .headDoorbell _ _ => none
  | .descriptorFetch _ _ _ => none
  | .nop src => some src
  | .regRead src _ => some src
  | .regWrite src _ => some src
  | .longCancel src _ => some src
  | .longOperationDone _ _ => none
  | .longPartialReady _ _ _ _ => none
  | .test l _ => some l.src
  | .testWindowOpen _ _ => none
  | .testExpiry _ => none
  | .cfgWrite l _ => some l.src
  | .ringEnable _ => none
  | .ringDisable _ => none
  | .vectorTimeExpiry _ => none
  | .pcieLinkLoss _ => none
  | .dmaError _ => none
  | .uartFrameReceived _ => none
  | .modeRunRequest => none
  | .modeIdleRequest => none
  | .modeStandbyRequest => none
  | .hibernateRequest _ _ _ => none
  | .hibernateWake _ _ _ => none
  | .ldgRead l _ => some l.src
  | .ldgFreeze => none
  | .ldgRelease _ => none
  | .ledgerWrite => none
  | .sessionClosingTimeout _ => none
  | .failHoldExpiry _ => none
  | .nodeUnsynced _ => none

end Sys2Proof
end

