-- ==== Sys2Proof/Laws/PerInstr.lean ====
section
/-! SUPPORT. What holds of each command as syntax, one lemma for each constructor. -/

namespace Sys2Proof.Laws.SourceGate

/-- A command that a descriptor carries is let in, or answered, as a request of that descriptor's own source. -/
def Statement (i : Instr) : Prop :=
  ∀ src : Src, i.source = some src → ∃ uart fw : Bool, Machine.gateOf i = Machine.Gate.host src uart fw

theorem registerWrite (offset : BitVec 21) (value : Word) : Statement (.registerWrite offset value) :=
  fun _ h => nomatch h

theorem reg64LowRead (offset : BitVec 21) : Statement (.reg64LowRead offset) :=
  fun _ h => nomatch h

theorem reg64LowWrite (offset : BitVec 21) (value : Word) : Statement (.reg64LowWrite offset value) :=
  fun _ h => nomatch h

theorem reg64HighWrite (offset : BitVec 21) (value : Word) : Statement (.reg64HighWrite offset value) :=
  fun _ h => nomatch h

theorem clearOnReadRead (bar : Bar) (offset : BitVec 21) : Statement (.clearOnReadRead bar offset) :=
  fun _ h => nomatch h

theorem powerOnReset (facts : StartFacts) : Statement (.powerOnReset facts) :=
  fun _ h => nomatch h

theorem resetRelease (facts : StartFacts) : Statement (.resetRelease facts) :=
  fun _ h => nomatch h

theorem pcieEarlyRequest (configuration : Bool) : Statement (.pcieEarlyRequest configuration) :=
  fun _ h => nomatch h

theorem rootPllLockLoss : Statement (.rootPllLockLoss) :=
  fun _ h => nomatch h

theorem dieLinkFail : Statement (.dieLinkFail) :=
  fun _ h => nomatch h

theorem sramEccError (double : Bool) (region : Fin 15) (op : Option Src) : Statement (.sramEccError double region op) :=
  fun _ h => nomatch h

theorem watchdogExpiry : Statement (.watchdogExpiry) :=
  fun _ h => nomatch h

theorem rtcRateCheck (ppb : Int) : Statement (.rtcRateCheck ppb) :=
  fun _ h => nomatch h

theorem resetPinAssert : Statement (.resetPinAssert) :=
  fun _ h => nomatch h

theorem resetPinRelease : Statement (.resetPinRelease) :=
  fun _ h => nomatch h

theorem resetPinStuck (facts : StartFacts) : Statement (.resetPinStuck facts) :=
  fun _ h => nomatch h

theorem resetPinArm : Statement (.resetPinArm) :=
  fun _ h => nomatch h

theorem resetPinIgnored : Statement (.resetPinIgnored) :=
  fun _ h => nomatch h

theorem hostReset (value : Word) : Statement (.hostReset value) :=
  fun _ h => nomatch h

theorem shReqWrite (request : Bool) : Statement (.shReqWrite request) :=
  fun _ h => nomatch h

theorem factoryClose (testsPassed : Bool) (cert : List Byte) : Statement (.factoryClose testsPassed cert) :=
  fun _ h => nomatch h

theorem lifecycle (src : Src) (target : Byte) : Statement (.lifecycle src target) :=
  fun _ h => ⟨_, _, congrArg (Machine.Gate.host · _ _) (Option.some.inj h)⟩

theorem allocationTick : Statement (.allocationTick) :=
  fun _ h => nomatch h

theorem grantSolveComplete (solveUs : Nat) (solverFault : Bool) : Statement (.grantSolveComplete solveUs solverFault) :=
  fun _ h => nomatch h

theorem alcRunWrite (run : Bool) : Statement (.alcRunWrite run) :=
  fun _ h => nomatch h

theorem alcHostTrip (withClear : Bool) : Statement (.alcHostTrip withClear) :=
  fun _ h => nomatch h

theorem alcTripClear : Statement (.alcTripClear) :=
  fun _ h => nomatch h

theorem tripClear (src : Src) : Statement (.tripClear src) :=
  fun _ h => ⟨_, _, congrArg (Machine.Gate.host · _ _) (Option.some.inj h)⟩

theorem gridPointRecount (g : Fin 2) : Statement (.gridPointRecount g) :=
  fun _ h => nomatch h

theorem legArm (leg : LegRef) (pins : BitVec 4) : Statement (.legArm leg pins) :=
  fun _ h => nomatch h

theorem legDisarm (leg : LegRef) : Statement (.legDisarm leg) :=
  fun _ h => nomatch h

theorem legForceWrite (leg : LegRef) (force : BitVec 2) : Statement (.legForceWrite leg force) :=
  fun _ h => nomatch h

theorem legCutoff (leg : LegRef) : Statement (.legCutoff leg) :=
  fun _ h => nomatch h

theorem fltInputAssert (k : Fin 4) : Statement (.fltInputAssert k) :=
  fun _ h => nomatch h

theorem slotSample (m : Fin 128) (pinA : Word) (pinB : Word) : Statement (.slotSample m pinA pinB) :=
  fun _ h => nomatch h

theorem slotExecutionComplete (m : Fin 128) : Statement (.slotExecutionComplete m) :=
  fun _ h => nomatch h

theorem slotDeadlineMiss (m : Fin 128) : Statement (.slotDeadlineMiss m) :=
  fun _ h => nomatch h

theorem slotOpen (m : Fin 128) : Statement (.slotOpen m) :=
  fun _ h => nomatch h

theorem slotClose (m : Fin 128) : Statement (.slotClose m) :=
  fun _ h => nomatch h

theorem slotFaultClear (m : Fin 128) : Statement (.slotFaultClear m) :=
  fun _ h => nomatch h

theorem cableObserverStep (pin0 : Word) (pin1 : Word) (pin2 : Word) (pin3 : Word) : Statement (.cableObserverStep pin0 pin1 pin2 pin3) :=
  fun _ h => nomatch h

theorem cableFlowTrip (n : Fin 16) : Statement (.cableFlowTrip n) :=
  fun _ h => nomatch h

theorem cableTripClear (n : Fin 16) : Statement (.cableTripClear n) :=
  fun _ h => nomatch h

theorem cableLimitPublish (n : Fin 16) : Statement (.cableLimitPublish n) :=
  fun _ h => nomatch h

theorem sensorSample (n : Fin 64) (ohm : Word) : Statement (.sensorSample n ohm) :=
  fun _ h => nomatch h

theorem bandFall (n : Fin 16) : Statement (.bandFall n) :=
  fun _ h => nomatch h

theorem dieTempSample (t0 : BitVec 16) (t1 : BitVec 16) (t2 : BitVec 16) : Statement (.dieTempSample t0 t1 t2) :=
  fun _ h => nomatch h

theorem dieOvertempRelease : Statement (.dieOvertempRelease) :=
  fun _ h => nomatch h

theorem cableEnable (n : Fin 16) : Statement (.cableEnable n) :=
  fun _ h => nomatch h

theorem identify (l : LongSrc) (outlet : Byte) (iId : Code) (stepTime : Code) : Statement (.identify l outlet iId stepTime) :=
  fun _ h => ⟨_, _, congrArg (Machine.Gate.host · _ _) (Option.some.inj h)⟩

theorem identifyPhaseEnd (n : Fin 16) : Statement (.identifyPhaseEnd n) :=
  fun _ h => nomatch h

theorem pisteEnable (p : Fin 8) : Statement (.pisteEnable p) :=
  fun _ h => nomatch h

theorem pisteDisable (p : Fin 8) : Statement (.pisteDisable p) :=
  fun _ h => nomatch h

theorem pisteRestart (p : Fin 8) : Statement (.pisteRestart p) :=
  fun _ h => nomatch h

theorem rxLock (rx : Receiver) : Statement (.rxLock rx) :=
  fun _ h => nomatch h

theorem rxLockLoss (p : Fin 8) : Statement (.rxLockLoss p) :=
  fun _ h => nomatch h

theorem rxInversionDetected (rx : Receiver) : Statement (.rxInversionDetected rx) :=
  fun _ h => nomatch h

theorem pisteTrainDone (p : Fin 8) (origin : Fin 8) (partnerOrigin : Option (Fin 8)) : Statement (.pisteTrainDone p origin partnerOrigin) :=
  fun _ h => nomatch h

theorem pisteTrainTimeout (p : Fin 8) (origin : Option (Fin 8)) : Statement (.pisteTrainTimeout p origin) :=
  fun _ h => nomatch h

theorem pisteAdaptDone (p : Fin 8) (eye : Nat) (amp : Nat) : Statement (.pisteAdaptDone p eye amp) :=
  fun _ h => nomatch h

theorem pisteVerifyDone (p : Fin 8) (clean : Bool) : Statement (.pisteVerifyDone p clean) :=
  fun _ h => nomatch h

theorem pisteRelockTimeout (p : Fin 8) : Statement (.pisteRelockTimeout p) :=
  fun _ h => nomatch h

theorem pisteFailedRetry (p : Fin 8) : Statement (.pisteFailedRetry p) :=
  fun _ h => nomatch h

theorem ctleSweepStep (p : Fin 8) (eye : Nat) (amp : Nat) : Statement (.ctleSweepStep p eye amp) :=
  fun _ h => nomatch h

theorem eqTrial (p : Fin 8) (eyeUp : Nat) (ampUp : Nat) (eyeDn : Nat) (ampDn : Nat) : Statement (.eqTrial p eyeUp ampUp eyeDn ampDn) :=
  fun _ h => nomatch h

theorem dfeLmsStep (p : Fin 8) (err : Bool) (past : BitVec 5) : Statement (.dfeLmsStep p err past) :=
  fun _ h => nomatch h

theorem fomUpdate (p : Fin 8) (eye : Nat) (amp : Nat) (invalid : Nat) (prbs : List Nat) (signal : Bool) : Statement (.fomUpdate p eye amp invalid prbs signal) :=
  fun _ h => nomatch h

theorem echoComplete (p : Fin 8) (window : EchoEnd) : Statement (.echoComplete p window) :=
  fun _ h => nomatch h

theorem censusMark (seen : List StreamSeen) (unclaimed : List Nat) : Statement (.censusMark seen unclaimed) :=
  fun _ h => nomatch h

theorem markReturn (p : Fin 8) (n : Fin 17) (latency : Nat) : Statement (.markReturn p n latency) :=
  fun _ h => nomatch h

theorem censusReplyReceived (f : RxFrame) : Statement (.censusReplyReceived f) :=
  fun _ h => nomatch h

theorem pstAdmitAccept (entry : Fin 128) : Statement (.pstAdmitAccept entry) :=
  fun _ h => nomatch h

theorem pstAdmitForget (entry : Fin 128) : Statement (.pstAdmitForget entry) :=
  fun _ h => nomatch h

theorem teleFrameReceived (f : RxFrame) : Statement (.teleFrameReceived f) :=
  fun _ h => nomatch h

theorem measFrameReceived (f : RxFrame) : Statement (.measFrameReceived f) :=
  fun _ h => nomatch h

theorem tunFrameReceived (f : RxFrame) : Statement (.tunFrameReceived f) :=
  fun _ h => nomatch h

theorem nodeCtrl (src : Src) (x : NodeCtrlReq) : Statement (.nodeCtrl src x) :=
  fun _ h => ⟨_, _, congrArg (Machine.Gate.host · _ _) (Option.some.inj h)⟩

theorem ctrlResponseReceived (f : RxFrame) : Statement (.ctrlResponseReceived f) :=
  fun _ h => nomatch h

theorem ctrlRetry : Statement (.ctrlRetry) :=
  fun _ h => nomatch h

theorem ctrlTimeout : Statement (.ctrlTimeout) :=
  fun _ h => nomatch h

theorem nodeMarkForward (i : Fin 128) (odd : Bool) (mark : Mark) (arrival : Int) (departure : Int) : Statement (.nodeMarkForward i odd mark arrival departure) :=
  fun _ h => nomatch h

theorem nodeRunOwn (i : Fin 128) (odd : Bool) (arrival : Int) (orphan : Bool) (before : BitVec 58) (line : List Block) (x : NodeIn) : Statement (.nodeRunOwn i odd arrival orphan before line x) :=
  fun _ h => nomatch h

theorem nodeSyncApply (i : Fin 128) (odd : Bool) : Statement (.nodeSyncApply i odd) :=
  fun _ h => nomatch h

theorem nodeTimeStale (i : Fin 128) : Statement (.nodeTimeStale i) :=
  fun _ h => nomatch h

theorem nodeLegBoundary (i : Fin 128) (j : Fin 6) : Statement (.nodeLegBoundary i j) :=
  fun _ h => nomatch h

theorem nodeFaultInput (i : Fin 128) (k : Fin 6) (active : Bool) : Statement (.nodeFaultInput i k active) :=
  fun _ h => nomatch h

theorem nodeRxAlignLoss (i : Fin 128) (odd : Bool) (signal : Bool) : Statement (.nodeRxAlignLoss i odd signal) :=
  fun _ h => nomatch h

theorem nodeNoRunTimeout (i : Fin 128) : Statement (.nodeNoRunTimeout i) :=
  fun _ h => nomatch h

theorem superframeStart : Statement (.superframeStart) :=
  fun _ h => nomatch h

theorem slnPollSend (respMax : Fin 65) : Statement (.slnPollSend respMax) :=
  fun _ h => nomatch h

theorem slnReplyReceived (i : Fin 250) (x : SlnReply) : Statement (.slnReplyReceived i x) :=
  fun _ h => nomatch h

theorem slnReplyTimeout (i : Fin 250) : Statement (.slnReplyTimeout i) :=
  fun _ h => nomatch h

theorem slnRelayForward (i : Fin 250) (f : SlnFrame) : Statement (.slnRelayForward i f) :=
  fun _ h => nomatch h

theorem slnJoinReq (r : SlnJoin) : Statement (.slnJoinReq r) :=
  fun _ h => nomatch h

theorem slnAdmitAccept (i : Fin 250) : Statement (.slnAdmitAccept i) :=
  fun _ h => nomatch h

theorem slnAdmitForget (i : Fin 250) : Statement (.slnAdmitForget i) :=
  fun _ h => nomatch h

theorem slnRouteRecompute : Statement (.slnRouteRecompute) :=
  fun _ h => nomatch h

theorem slnTmapExpiry (i : Fin 250) (down : Bool) : Statement (.slnTmapExpiry i down) :=
  fun _ h => nomatch h

theorem slnNoiseImpulse : Statement (.slnNoiseImpulse) :=
  fun _ h => nomatch h

theorem slnNoiseHoldEnd : Statement (.slnNoiseHoldEnd) :=
  fun _ h => nomatch h

theorem slnWakeFrame (id : Id64) (slept : Nat) (facts : StartFacts) : Statement (.slnWakeFrame id slept facts) :=
  fun _ h => nomatch h

theorem slnSend (src : Src) (entry : Byte) (data : List Byte) : Statement (.slnSend src entry data) :=
  fun _ h => ⟨_, _, congrArg (Machine.Gate.host · _ _) (Option.some.inj h)⟩

theorem slnRecv (src : Src) (bufLen : Nat) : Statement (.slnRecv src bufLen) :=
  fun _ h => ⟨_, _, congrArg (Machine.Gate.host · _ _) (Option.some.inj h)⟩

theorem displayItemDue : Statement (.displayItemDue) :=
  fun _ h => nomatch h

theorem dspTransaction (readyLow : Bool) (waited : Nat) (miso : Byte) : Statement (.dspTransaction readyLow waited miso) :=
  fun _ h => nomatch h

theorem v2gRequest (n : Fin 16) (len : Nat) (x : V2gReq) : Statement (.v2gRequest n len x) :=
  fun _ h => nomatch h

theorem vlinkPoll (n : Fin 16) : Statement (.vlinkPoll n) :=
  fun _ h => nomatch h

theorem sessionStateTimeout (n : Fin 16) : Statement (.sessionStateTimeout n) :=
  fun _ h => nomatch h

theorem authTimeout (n : Fin 16) : Statement (.authTimeout n) :=
  fun _ h => nomatch h

theorem certInstallTimeout (n : Fin 16) : Statement (.certInstallTimeout n) :=
  fun _ h => nomatch h

theorem refusalHoldMax (n : Fin 16) : Statement (.refusalHoldMax n) :=
  fun _ h => nomatch h

theorem chargeLoopTimeout (n : Fin 16) : Statement (.chargeLoopTimeout n) :=
  fun _ h => nomatch h

theorem cableCheckVoltageReached (n : Fin 16) : Statement (.cableCheckVoltageReached n) :=
  fun _ h => nomatch h

theorem energisationInstant (n : Fin 16) : Statement (.energisationInstant n) :=
  fun _ h => nomatch h

theorem stopCurrentLow (n : Fin 16) : Statement (.stopCurrentLow n) :=
  fun _ h => nomatch h

theorem stopUnderLoad (n : Fin 16) : Statement (.stopUnderLoad n) :=
  fun _ h => nomatch h

theorem contactorOpened (n : Fin 16) : Statement (.contactorOpened n) :=
  fun _ h => nomatch h

theorem contactorOpenRetry (n : Fin 16) : Statement (.contactorOpenRetry n) :=
  fun _ h => nomatch h

theorem weldCheck (n : Fin 16) : Statement (.weldCheck n) :=
  fun _ h => nomatch h

theorem manifestLateSign : Statement (.manifestLateSign) :=
  fun _ h => nomatch h

theorem sessionStop (n : Fin 16) : Statement (.sessionStop n) :=
  fun _ h => nomatch h

theorem weldClear (n : Fin 16) : Statement (.weldClear n) :=
  fun _ h => nomatch h

theorem authAnswer (src : Src) (x : AuthAnswer) : Statement (.authAnswer src x) :=
  fun _ h => ⟨_, _, congrArg (Machine.Gate.host · _ _) (Option.some.inj h)⟩

theorem certResponse (src : Src) (outlet : Nat) (response : List Byte) : Statement (.certResponse src outlet response) :=
  fun _ h => ⟨_, _, congrArg (Machine.Gate.host · _ _) (Option.some.inj h)⟩

theorem chainSet (src : Src) (outlet : Nat) (chain : List Byte) : Statement (.chainSet src outlet chain) :=
  fun _ h => ⟨_, _, congrArg (Machine.Gate.host · _ _) (Option.some.inj h)⟩

theorem anchorSet (src : Src) (kind : Nat) (anchors : List (List Byte)) : Statement (.anchorSet src kind anchors) :=
  fun _ h => ⟨_, _, congrArg (Machine.Gate.host · _ _) (Option.some.inj h)⟩

theorem commission (src : Src) (x : Commission) : Statement (.commission src x) :=
  fun _ h => ⟨_, _, congrArg (Machine.Gate.host · _ _) (Option.some.inj h)⟩

theorem canEnable (n : Fin 4) : Statement (.canEnable n) :=
  fun _ h => nomatch h

theorem canDisable (n : Fin 4) (busy : Bool) : Statement (.canDisable n busy) :=
  fun _ h => nomatch h

theorem canRecover (n : Fin 4) : Statement (.canRecover n) :=
  fun _ h => nomatch h

theorem canTx (src : Src) (record : List Byte) : Statement (.canTx src record) :=
  fun _ h => ⟨_, _, congrArg (Machine.Gate.host · _ _) (Option.some.inj h)⟩

theorem canTxComplete (n : Fin 4) (r : CanResult) (sof : Nat) (edges : List Nat) : Statement (.canTxComplete n r sof edges) :=
  fun _ h => nomatch h

theorem canFrameReceived (n : Fin 4) (f : CanFrame) (sof : Nat) : Statement (.canFrameReceived n f sof) :=
  fun _ h => nomatch h

theorem canBusError (n : Fin 4) (e : CanError) : Statement (.canBusError n e) :=
  fun _ h => nomatch h

theorem canRecoveryComplete (n : Fin 4) : Statement (.canRecoveryComplete n) :=
  fun _ h => nomatch h

theorem blockCommit (gp0 : GpSamples) (gp1 : GpSamples) : Statement (.blockCommit gp0 gp1) :=
  fun _ h => nomatch h

theorem pulseStart (k : Fin 4) : Statement (.pulseStart k) :=
  fun _ h => nomatch h

theorem pulseEnd (k : Fin 4) : Statement (.pulseEnd k) :=
  fun _ h => nomatch h

theorem harmonicWindowEnd (g : Fin 2) (w : HarmWindow) : Statement (.harmonicWindowEnd g w) :=
  fun _ h => nomatch h

theorem periodicSave : Statement (.periodicSave) :=
  fun _ h => nomatch h

theorem saveCommitCheck (good : Bool) : Statement (.saveCommitCheck good) :=
  fun _ h => nomatch h

theorem triadEnable (n : Fin 16) : Statement (.triadEnable n) :=
  fun _ h => nomatch h

theorem headStandbyRequest (n : Fin 16) (k : Fin 3) : Statement (.headStandbyRequest n k) :=
  fun _ h => nomatch h

theorem headReadmitRequest (n : Fin 16) (k : Fin 3) : Statement (.headReadmitRequest n k) :=
  fun _ h => nomatch h

theorem headReadmitTimer (h : Fin 48) : Statement (.headReadmitTimer h) :=
  fun _ h => nomatch h

theorem headSelfTestResult (h : Fin 48) (r : SelfResult) : Statement (.headSelfTestResult h r) :=
  fun _ h => nomatch h

theorem headResyncTimeout (h : Fin 48) : Statement (.headResyncTimeout h) :=
  fun _ h => nomatch h

theorem demandSubintervalEnd : Statement (.demandSubintervalEnd) :=
  fun _ h => nomatch h

theorem tariffSwitch : Statement (.tariffSwitch) :=
  fun _ h => nomatch h

theorem billingPeriodClose : Statement (.billingPeriodClose) :=
  fun _ h => nomatch h

theorem slewStep : Statement (.slewStep) :=
  fun _ h => nomatch h

theorem tamperMagnetic (mT : Nat) : Statement (.tamperMagnetic mT) :=
  fun _ h => nomatch h

theorem tamperCover (pin : Fin 4) (high : Bool) : Statement (.tamperCover pin high) :=
  fun _ h => nomatch h

theorem objChallenge (o : ObjSrc) : Statement (.objChallenge o) :=
  fun _ h => nomatch h

theorem objLogin (o : ObjSrc) (x : Login) : Statement (.objLogin o x) :=
  fun _ h => nomatch h

theorem objGet (o : ObjSrc) (id : Word) : Statement (.objGet o id) :=
  fun _ h => nomatch h

theorem objEnd (o : ObjSrc) : Statement (.objEnd o) :=
  fun _ h => nomatch h

theorem associationTimeout (c : Channel) : Statement (.associationTimeout c) :=
  fun _ h => nomatch h

theorem accessLockExpiry (c : Channel) : Statement (.accessLockExpiry c) :=
  fun _ h => nomatch h

theorem legalTimeSet (o : ObjSrc) (utc : Nat) : Statement (.legalTimeSet o utc) :=
  fun _ h => nomatch h

theorem calendarSet (o : ObjSrc) (x : CalSet) : Statement (.calendarSet o x) :=
  fun _ h => nomatch h

theorem scrollSet (o : ObjSrc) (x : ScrollSet) : Statement (.scrollSet o x) :=
  fun _ h => nomatch h

theorem calibrationWrite (o : ObjSrc) (x : CalItem) : Statement (.calibrationWrite o x) :=
  fun _ h => nomatch h

theorem periodCloseAction (o : ObjSrc) : Statement (.periodCloseAction o) :=
  fun _ h => nomatch h

theorem magStartupClear (o : ObjSrc) : Statement (.magStartupClear o) :=
  fun _ h => nomatch h

theorem unboundedAcknowledge (o : ObjSrc) (number : Code) : Statement (.unboundedAcknowledge o number) :=
  fun _ h => nomatch h

theorem sealBreak (o : ObjSrc) : Statement (.sealBreak o) :=
  fun _ h => nomatch h

theorem sealReseal (o : ObjSrc) : Statement (.sealReseal o) :=
  fun _ h => nomatch h

theorem manRead (src : Src) (first : Id64) (count : Byte) (resLen : Nat) : Statement (.manRead src first count resLen) :=
  fun _ h => ⟨_, _, congrArg (Machine.Gate.host · _ _) (Option.some.inj h)⟩

theorem manAck (src : Src) (last : Id64) : Statement (.manAck src last) :=
  fun _ h => ⟨_, _, congrArg (Machine.Gate.host · _ _) (Option.some.inj h)⟩

theorem estimatorStep (good : Bool) : Statement (.estimatorStep good) :=
  fun _ h => nomatch h

theorem estimatorCommit (good : Bool) : Statement (.estimatorCommit good) :=
  fun _ h => nomatch h

theorem bmsStaleTimeout (k : Fin 48) : Statement (.bmsStaleTimeout k) :=
  fun _ h => nomatch h

theorem learnAgeTick (k : Fin 48) : Statement (.learnAgeTick k) :=
  fun _ h => nomatch h

theorem stringEnable (k : Fin 48) : Statement (.stringEnable k) :=
  fun _ h => nomatch h

theorem stringSwap (k : Fin 48) : Statement (.stringSwap k) :=
  fun _ h => nomatch h

theorem stringForget (k : Fin 48) : Statement (.stringForget k) :=
  fun _ h => nomatch h

theorem safetyEvaluation (x : SafRead) : Statement (.safetyEvaluation x) :=
  fun _ h => nomatch h

theorem cat1OutputOff (p : Fin 8) : Statement (.cat1OutputOff p) :=
  fun _ h => nomatch h

theorem safetyConfirm (value : Word) : Statement (.safetyConfirm value) :=
  fun _ h => nomatch h

theorem safetyHostReset : Statement (.safetyHostReset) :=
  fun _ h => nomatch h

theorem soutFaultClear : Statement (.soutFaultClear) :=
  fun _ h => nomatch h

theorem soutDarkTest (k : Fin 4) (x : SoutRead) (cross : Option (Fin 4)) : Statement (.soutDarkTest k x cross) :=
  fun _ h => nomatch h

theorem lswOnWrite (n : Fin 20) (on : Bool) : Statement (.lswOnWrite n on) :=
  fun _ h => nomatch h

theorem lswEnWrite (n : Fin 20) (en : Bool) : Statement (.lswEnWrite n en) :=
  fun _ h => nomatch h

theorem lswUnlock (n : Fin 20) : Statement (.lswUnlock n) :=
  fun _ h => nomatch h

theorem lswOvercurrent (n : Fin 20) (since : Nat) : Statement (.lswOvercurrent n since) :=
  fun _ h => nomatch h

theorem lswThermalShutdown (n : Fin 20) : Statement (.lswThermalShutdown n) :=
  fun _ h => nomatch h

theorem lswTempWarn (n : Fin 20) (tj : Int) : Statement (.lswTempWarn n tj) :=
  fun _ h => nomatch h

theorem lswRetry (n : Fin 20) : Statement (.lswRetry n) :=
  fun _ h => nomatch h

theorem lswRetryCntReset (n : Fin 20) : Statement (.lswRetryCntReset n) :=
  fun _ h => nomatch h

theorem lswAggEval (meas : List LswMeas) (vaux : Nat) (vhold : Nat) : Statement (.lswAggEval meas vaux vhold) :=
  fun _ h => nomatch h

theorem lswOffstateTest (n : Fin 20) (v0 : Nat) (v1 : Nat) : Statement (.lswOffstateTest n v0 v1) :=
  fun _ h => nomatch h

theorem vauxSurge : Statement (.vauxSurge) :=
  fun _ h => nomatch h

theorem vauxSurgeEnd (peak : Nat) : Statement (.vauxSurgeEnd peak) :=
  fun _ h => nomatch h

theorem vauxDip : Statement (.vauxDip) :=
  fun _ h => nomatch h

theorem vauxDipEnd (lowest : Nat) : Statement (.vauxDipEnd lowest) :=
  fun _ h => nomatch h

theorem brownOut : Statement (.brownOut) :=
  fun _ h => nomatch h

theorem vauxReverse : Statement (.vauxReverse) :=
  fun _ h => nomatch h

theorem groundLost : Statement (.groundLost) :=
  fun _ h => nomatch h

theorem vauxRemoved : Statement (.vauxRemoved) :=
  fun _ h => nomatch h

theorem holdWindowEnd : Statement (.holdWindowEnd) :=
  fun _ h => nomatch h

theorem keyGenerate (l : LongSrc) (x : KeyNew) : Statement (.keyGenerate l x) :=
  fun _ h => ⟨_, _, congrArg (Machine.Gate.host · _ _) (Option.some.inj h)⟩

theorem keyImport (l : LongSrc) (x : KeySealed) : Statement (.keyImport l x) :=
  fun _ h => ⟨_, _, congrArg (Machine.Gate.host · _ _) (Option.some.inj h)⟩

theorem keyDelete (src : Src) (k : Byte) (tampers : List (Fin 13)) : Statement (.keyDelete src k tampers) :=
  fun _ h => ⟨_, _, congrArg (Machine.Gate.host · _ _) (Option.some.inj h)⟩

theorem keyGetPublic (src : Src) (r : KeyRef) : Statement (.keyGetPublic src r) :=
  fun _ h => ⟨_, _, congrArg (Machine.Gate.host · _ _) (Option.some.inj h)⟩

theorem keyMakeCsr (l : LongSrc) (k : Byte) (body : List Byte) : Statement (.keyMakeCsr l k body) :=
  fun _ h => ⟨_, _, congrArg (Machine.Gate.host · _ _) (Option.some.inj h)⟩

theorem keySign (l : LongSrc) (r : KeyRef) (m : List Byte) : Statement (.keySign l r m) :=
  fun _ h => ⟨_, _, congrArg (Machine.Gate.host · _ _) (Option.some.inj h)⟩

theorem keyVerify (l : LongSrc) (r : KeyRef) (m : List Byte) (sig : List Byte) : Statement (.keyVerify l r m sig) :=
  fun _ h => ⟨_, _, congrArg (Machine.Gate.host · _ _) (Option.some.inj h)⟩

theorem keyHmac (src : Src) (r : KeyRef) (m : List Byte) : Statement (.keyHmac src r m) :=
  fun _ h => ⟨_, _, congrArg (Machine.Gate.host · _ _) (Option.some.inj h)⟩

theorem keyCipher (src : Src) (r : KeyRef) (x : CipherReq) : Statement (.keyCipher src r x) :=
  fun _ h => ⟨_, _, congrArg (Machine.Gate.host · _ _) (Option.some.inj h)⟩

theorem keyHash (src : Src) (bits : Nat) (m : List Byte) : Statement (.keyHash src bits m) :=
  fun _ h => ⟨_, _, congrArg (Machine.Gate.host · _ _) (Option.some.inj h)⟩

theorem keyRandom (src : Src) (n : Nat) : Statement (.keyRandom src n) :=
  fun _ h => ⟨_, _, congrArg (Machine.Gate.host · _ _) (Option.some.inj h)⟩

theorem keyLoadBlob (src : Src) (w : Byte) (blob : List Byte) : Statement (.keyLoadBlob src w blob) :=
  fun _ h => ⟨_, _, congrArg (Machine.Gate.host · _ _) (Option.some.inj h)⟩

theorem keyUnload (src : Src) (w : Byte) : Statement (.keyUnload src w) :=
  fun _ h => ⟨_, _, congrArg (Machine.Gate.host · _ _) (Option.some.inj h)⟩

theorem fwStage (l : LongSrc) (x : FwImage) : Statement (.fwStage l x) :=
  fun _ h => ⟨_, _, congrArg (Machine.Gate.host · _ _) (Option.some.inj h)⟩

theorem fwActivate (src : Src) : Statement (.fwActivate src) :=
  fun _ h => ⟨_, _, congrArg (Machine.Gate.host · _ _) (Option.some.inj h)⟩

theorem fwConfirm (src : Src) : Statement (.fwConfirm src) :=
  fun _ h => ⟨_, _, congrArg (Machine.Gate.host · _ _) (Option.some.inj h)⟩

theorem fwTrialTimeout : Statement (.fwTrialTimeout) :=
  fun _ h => nomatch h

theorem rngFail : Statement (.rngFail) :=
  fun _ h => nomatch h

theorem rngRetest (pass : Bool) : Statement (.rngRetest pass) :=
  fun _ h => nomatch h

theorem rootGenRetry : Statement (.rootGenRetry) :=
  fun _ h => nomatch h

theorem debugOpenRequest : Statement (.debugOpenRequest) :=
  fun _ h => nomatch h

theorem debugAuthResponse (sig : List Byte) (interrupted : Bool) : Statement (.debugAuthResponse sig interrupted) :=
  fun _ h => nomatch h

theorem debugClose : Statement (.debugClose) :=
  fun _ h => nomatch h

theorem submitDoorbell (n : Fin 256) (value : Word) : Statement (.submitDoorbell n value) :=
  fun _ h => nomatch h

theorem headDoorbell (n : Fin 256) (value : Word) : Statement (.headDoorbell n value) :=
  fun _ h => nomatch h

theorem descriptorFetch (n : Fin 256) (part : List (Fin 256)) (entries : List (List Byte)) : Statement (.descriptorFetch n part entries) :=
  fun _ h => nomatch h

theorem nop (src : Src) : Statement (.nop src) :=
  fun _ h => ⟨_, _, congrArg (Machine.Gate.host · _ _) (Option.some.inj h)⟩

theorem regRead (src : Src) (offsets : List Word) : Statement (.regRead src offsets) :=
  fun _ h => ⟨_, _, congrArg (Machine.Gate.host · _ _) (Option.some.inj h)⟩

theorem regWrite (src : Src) (pairs : List (Word × Word)) : Statement (.regWrite src pairs) :=
  fun _ h => ⟨_, _, congrArg (Machine.Gate.host · _ _) (Option.some.inj h)⟩

theorem longCancel (src : Src) (tag : Word) : Statement (.longCancel src tag) :=
  fun _ h => ⟨_, _, congrArg (Machine.Gate.host · _ _) (Option.some.inj h)⟩

theorem longOperationDone (src : Src) (items : List Word) : Statement (.longOperationDone src items) :=
  fun _ h => nomatch h

theorem longPartialReady (src : Src) (units : Nat) (data : List Byte) (progress : Nat) : Statement (.longPartialReady src units data progress) :=
  fun _ h => nomatch h

theorem test (l : LongSrc) (t : TestReq) : Statement (.test l t) :=
  fun _ h => ⟨_, _, congrArg (Machine.Gate.host · _ _) (Option.some.inj h)⟩

theorem testWindowOpen (quiet : Bool) (generating : Bool) : Statement (.testWindowOpen quiet generating) :=
  fun _ h => nomatch h

theorem testExpiry (src : Src) : Statement (.testExpiry src) :=
  fun _ h => nomatch h

theorem cfgWrite (l : LongSrc) (image : List Byte) : Statement (.cfgWrite l image) :=
  fun _ h => ⟨_, _, congrArg (Machine.Gate.host · _ _) (Option.some.inj h)⟩

theorem ringEnable (n : Fin 256) : Statement (.ringEnable n) :=
  fun _ h => nomatch h

theorem ringDisable (n : Fin 256) : Statement (.ringDisable n) :=
  fun _ h => nomatch h

theorem vectorTimeExpiry (v : Fin 64) : Statement (.vectorTimeExpiry v) :=
  fun _ h => nomatch h

theorem pcieLinkLoss (cause : LinkLossCause) : Statement (.pcieLinkLoss cause) :=
  fun _ h => nomatch h

theorem dmaError (what : DmaError) : Statement (.dmaError what) :=
  fun _ h => nomatch h

theorem uartFrameReceived (frame : List Byte) : Statement (.uartFrameReceived frame) :=
  fun _ h => nomatch h

theorem modeRunRequest : Statement (.modeRunRequest) :=
  fun _ h => nomatch h

theorem modeIdleRequest : Statement (.modeIdleRequest) :=
  fun _ h => nomatch h

theorem modeStandbyRequest : Statement (.modeStandbyRequest) :=
  fun _ h => nomatch h

theorem hibernateRequest (saveGood : Bool) (commitGood : Bool) (vioHeavy : Bool) : Statement (.hibernateRequest saveGood commitGood vioHeavy) :=
  fun _ h => nomatch h

theorem hibernateWake (source : WakeSource) (slept : Nat) (facts : StartFacts) : Statement (.hibernateWake source slept facts) :=
  fun _ h => nomatch h

theorem ldgRead (l : LongSrc) (r : LdgReadReq) : Statement (.ldgRead l r) :=
  fun _ h => ⟨_, _, congrArg (Machine.Gate.host · _ _) (Option.some.inj h)⟩

theorem ldgFreeze : Statement (.ldgFreeze) :=
  fun _ h => nomatch h

theorem ldgRelease (slot : Fin 32) : Statement (.ldgRelease slot) :=
  fun _ h => nomatch h

theorem ledgerWrite : Statement (.ledgerWrite) :=
  fun _ h => nomatch h

theorem sessionClosingTimeout (n : Fin 16) : Statement (.sessionClosingTimeout n) :=
  fun _ h => nomatch h

theorem failHoldExpiry (i : Fin 128) : Statement (.failHoldExpiry i) :=
  fun _ h => nomatch h

theorem nodeUnsynced (i : Fin 250) : Statement (.nodeUnsynced i) :=
  fun _ h => nomatch h

end Sys2Proof.Laws.SourceGate
end

