-- ==== Sys2Proof/Laws/Posting.lean ====
section
/-! SUPPORT. What posting an event, recording an entry, freezing a snapshot and completing a descriptor leave: every part of the device but
the outputs, the host interface and the wayledger, and every register but those they name. -/

namespace Sys2Proof.Machine.Dev

/-- The rows and parts that `raise` may change. -/
def raiseMask : Nat := 0x84072000000000000A4

theorem raise_changes (s : Dev) (code : Code) (payload : List Byte) : Changes raiseMask s (Dev.raise s code payload) := ch_raise _ _ _ (by decide) (Changes.refl _ _)

@[simp] theorem raise_dt (s : Dev) (code : Code) (payload : List Byte) : (Dev.raise s code payload).dt = s.dt := (raise_changes s code payload).same .dt (by decide)
@[simp] theorem raise_free (s : Dev) (code : Code) (payload : List Byte) : (Dev.raise s code payload).free = s.free := (raise_changes s code payload).same .free (by decide)
@[simp] theorem raise_capture (s : Dev) (code : Code) (payload : List Byte) : (Dev.raise s code payload).capture = s.capture := (raise_changes s code payload).same .capture (by decide)
@[simp] theorem raise_staging (s : Dev) (code : Code) (payload : List Byte) : (Dev.raise s code payload).staging = s.staging := (raise_changes s code payload).same .staging (by decide)
@[simp] theorem raise_gen (s : Dev) (code : Code) (payload : List Byte) : (Dev.raise s code payload).gen = s.gen := (raise_changes s code payload).same .gen (by decide)
@[simp] theorem raise_ldg (s : Dev) (code : Code) (payload : List Byte) : (Dev.raise s code payload).ldg = s.ldg := (raise_changes s code payload).same .ldg (by decide)
@[simp] theorem raise_alc (s : Dev) (code : Code) (payload : List Byte) : (Dev.raise s code payload).alc = s.alc := (raise_changes s code payload).same .alc (by decide)
@[simp] theorem raise_edg (s : Dev) (code : Code) (payload : List Byte) : (Dev.raise s code payload).edg = s.edg := (raise_changes s code payload).same .edg (by decide)
@[simp] theorem raise_pst (s : Dev) (code : Code) (payload : List Byte) : (Dev.raise s code payload).pst = s.pst := (raise_changes s code payload).same .pst (by decide)
@[simp] theorem raise_cle (s : Dev) (code : Code) (payload : List Byte) : (Dev.raise s code payload).cle = s.cle := (raise_changes s code payload).same .cle (by decide)
@[simp] theorem raise_thm (s : Dev) (code : Code) (payload : List Byte) : (Dev.raise s code payload).thm = s.thm := (raise_changes s code payload).same .thm (by decide)
@[simp] theorem raise_mtr (s : Dev) (code : Code) (payload : List Byte) : (Dev.raise s code payload).mtr = s.mtr := (raise_changes s code payload).same .mtr (by decide)
@[simp] theorem raise_tri (s : Dev) (code : Code) (payload : List Byte) : (Dev.raise s code payload).tri = s.tri := (raise_changes s code payload).same .tri (by decide)
@[simp] theorem raise_vss (s : Dev) (code : Code) (payload : List Byte) : (Dev.raise s code payload).vss = s.vss := (raise_changes s code payload).same .vss (by decide)
@[simp] theorem raise_bil (s : Dev) (code : Code) (payload : List Byte) : (Dev.raise s code payload).bil = s.bil := (raise_changes s code payload).same .bil (by decide)
@[simp] theorem raise_key (s : Dev) (code : Code) (payload : List Byte) : (Dev.raise s code payload).key = s.key := (raise_changes s code payload).same .key (by decide)
@[simp] theorem raise_sln (s : Dev) (code : Code) (payload : List Byte) : (Dev.raise s code payload).sln = s.sln := (raise_changes s code payload).same .sln (by decide)
@[simp] theorem raise_lsw (s : Dev) (code : Code) (payload : List Byte) : (Dev.raise s code payload).lsw = s.lsw := (raise_changes s code payload).same .lsw (by decide)
@[simp] theorem raise_saf (s : Dev) (code : Code) (payload : List Byte) : (Dev.raise s code payload).saf = s.saf := (raise_changes s code payload).same .saf (by decide)
@[simp] theorem raise_bse (s : Dev) (code : Code) (payload : List Byte) : (Dev.raise s code payload).bse = s.bse := (raise_changes s code payload).same .bse (by decide)
@[simp] theorem raise_can (s : Dev) (code : Code) (payload : List Byte) : (Dev.raise s code payload).can = s.can := (raise_changes s code payload).same .can (by decide)

theorem raise_rd (s : Dev) (code : Code) (payload : List Byte) {k off : Nat} (r : RowHas k off) (h : raiseMask.testBit (32 + k) = false := by decide) :
    (Dev.raise s code payload).rd off = s.rd off := (raise_changes s code payload).rd_same r h (by decide)

theorem raise_get (s : Dev) (code : Code) (payload : List Byte) (g : Field) {k : Nat} (r : RowHas k g.off) (h : raiseMask.testBit (32 + k) = false := by decide) :
    (Dev.raise s code payload).get g = s.get g := by
  unfold Dev.get
  rw [raise_rd s code payload r h]

theorem raise_flag (s : Dev) (code : Code) (payload : List Byte) (g : Field) {k : Nat} (r : RowHas k g.off) (h : raiseMask.testBit (32 + k) = false := by decide) :
    (Dev.raise s code payload).flag g = s.flag g := by
  unfold Dev.flag
  rw [raise_get s code payload g r h]

/-- The rows and parts that `post` may change. -/
def postMask : Nat := 0x14000000000000000000000000000000000000000000000000000000000000000000000000000000000000000000000000000000000000000000084072000000000001A4

theorem post_changes (s : Dev) (code : Code) (payload : optParam (List Byte) []) : Changes postMask s (Dev.post s code payload) := ch_post _ _ _ (by decide) (Changes.refl _ _)

@[simp] theorem post_dt (s : Dev) (code : Code) (payload : optParam (List Byte) []) : (Dev.post s code payload).dt = s.dt := (post_changes s code payload).same .dt (by decide)
@[simp] theorem post_free (s : Dev) (code : Code) (payload : optParam (List Byte) []) : (Dev.post s code payload).free = s.free := (post_changes s code payload).same .free (by decide)
@[simp] theorem post_capture (s : Dev) (code : Code) (payload : optParam (List Byte) []) : (Dev.post s code payload).capture = s.capture := (post_changes s code payload).same .capture (by decide)
@[simp] theorem post_staging (s : Dev) (code : Code) (payload : optParam (List Byte) []) : (Dev.post s code payload).staging = s.staging := (post_changes s code payload).same .staging (by decide)
@[simp] theorem post_gen (s : Dev) (code : Code) (payload : optParam (List Byte) []) : (Dev.post s code payload).gen = s.gen := (post_changes s code payload).same .gen (by decide)
@[simp] theorem post_alc (s : Dev) (code : Code) (payload : optParam (List Byte) []) : (Dev.post s code payload).alc = s.alc := (post_changes s code payload).same .alc (by decide)
@[simp] theorem post_edg (s : Dev) (code : Code) (payload : optParam (List Byte) []) : (Dev.post s code payload).edg = s.edg := (post_changes s code payload).same .edg (by decide)
@[simp] theorem post_pst (s : Dev) (code : Code) (payload : optParam (List Byte) []) : (Dev.post s code payload).pst = s.pst := (post_changes s code payload).same .pst (by decide)
@[simp] theorem post_cle (s : Dev) (code : Code) (payload : optParam (List Byte) []) : (Dev.post s code payload).cle = s.cle := (post_changes s code payload).same .cle (by decide)
@[simp] theorem post_thm (s : Dev) (code : Code) (payload : optParam (List Byte) []) : (Dev.post s code payload).thm = s.thm := (post_changes s code payload).same .thm (by decide)
@[simp] theorem post_mtr (s : Dev) (code : Code) (payload : optParam (List Byte) []) : (Dev.post s code payload).mtr = s.mtr := (post_changes s code payload).same .mtr (by decide)
@[simp] theorem post_tri (s : Dev) (code : Code) (payload : optParam (List Byte) []) : (Dev.post s code payload).tri = s.tri := (post_changes s code payload).same .tri (by decide)
@[simp] theorem post_vss (s : Dev) (code : Code) (payload : optParam (List Byte) []) : (Dev.post s code payload).vss = s.vss := (post_changes s code payload).same .vss (by decide)
@[simp] theorem post_bil (s : Dev) (code : Code) (payload : optParam (List Byte) []) : (Dev.post s code payload).bil = s.bil := (post_changes s code payload).same .bil (by decide)
@[simp] theorem post_key (s : Dev) (code : Code) (payload : optParam (List Byte) []) : (Dev.post s code payload).key = s.key := (post_changes s code payload).same .key (by decide)
@[simp] theorem post_sln (s : Dev) (code : Code) (payload : optParam (List Byte) []) : (Dev.post s code payload).sln = s.sln := (post_changes s code payload).same .sln (by decide)
@[simp] theorem post_lsw (s : Dev) (code : Code) (payload : optParam (List Byte) []) : (Dev.post s code payload).lsw = s.lsw := (post_changes s code payload).same .lsw (by decide)
@[simp] theorem post_saf (s : Dev) (code : Code) (payload : optParam (List Byte) []) : (Dev.post s code payload).saf = s.saf := (post_changes s code payload).same .saf (by decide)
@[simp] theorem post_bse (s : Dev) (code : Code) (payload : optParam (List Byte) []) : (Dev.post s code payload).bse = s.bse := (post_changes s code payload).same .bse (by decide)
@[simp] theorem post_can (s : Dev) (code : Code) (payload : optParam (List Byte) []) : (Dev.post s code payload).can = s.can := (post_changes s code payload).same .can (by decide)

theorem post_rd (s : Dev) (code : Code) (payload : optParam (List Byte) []) {k off : Nat} (r : RowHas k off) (h : postMask.testBit (32 + k) = false := by decide) :
    (Dev.post s code payload).rd off = s.rd off := (post_changes s code payload).rd_same r h (by decide)

theorem post_get (s : Dev) (code : Code) (payload : optParam (List Byte) []) (g : Field) {k : Nat} (r : RowHas k g.off) (h : postMask.testBit (32 + k) = false := by decide) :
    (Dev.post s code payload).get g = s.get g := by
  unfold Dev.get
  rw [post_rd s code payload r h]

theorem post_flag (s : Dev) (code : Code) (payload : optParam (List Byte) []) (g : Field) {k : Nat} (r : RowHas k g.off) (h : postMask.testBit (32 + k) = false := by decide) :
    (Dev.post s code payload).flag g = s.flag g := by
  unfold Dev.flag
  rw [post_get s code payload g r h]

/-- The rows and parts that `record` may change. -/
def recordMask : Nat := 0x14000000000000000000000000000000000000000000000000000000000000000000000000000000000000000000000000000000000000000000084072000000000001A4

theorem record_changes (s : Dev) (info : Bool) (source : Byte) (code : Code) (payload : List Byte) : Changes recordMask s (Dev.record s info source code payload) := ch_record _ _ _ _ _ (by decide) (Changes.refl _ _)

@[simp] theorem record_dt (s : Dev) (info : Bool) (source : Byte) (code : Code) (payload : List Byte) : (Dev.record s info source code payload).dt = s.dt := (record_changes s info source code payload).same .dt (by decide)
@[simp] theorem record_free (s : Dev) (info : Bool) (source : Byte) (code : Code) (payload : List Byte) : (Dev.record s info source code payload).free = s.free := (record_changes s info source code payload).same .free (by decide)
@[simp] theorem record_capture (s : Dev) (info : Bool) (source : Byte) (code : Code) (payload : List Byte) : (Dev.record s info source code payload).capture = s.capture := (record_changes s info source code payload).same .capture (by decide)
@[simp] theorem record_staging (s : Dev) (info : Bool) (source : Byte) (code : Code) (payload : List Byte) : (Dev.record s info source code payload).staging = s.staging := (record_changes s info source code payload).same .staging (by decide)
@[simp] theorem record_gen (s : Dev) (info : Bool) (source : Byte) (code : Code) (payload : List Byte) : (Dev.record s info source code payload).gen = s.gen := (record_changes s info source code payload).same .gen (by decide)
@[simp] theorem record_alc (s : Dev) (info : Bool) (source : Byte) (code : Code) (payload : List Byte) : (Dev.record s info source code payload).alc = s.alc := (record_changes s info source code payload).same .alc (by decide)
@[simp] theorem record_edg (s : Dev) (info : Bool) (source : Byte) (code : Code) (payload : List Byte) : (Dev.record s info source code payload).edg = s.edg := (record_changes s info source code payload).same .edg (by decide)
@[simp] theorem record_pst (s : Dev) (info : Bool) (source : Byte) (code : Code) (payload : List Byte) : (Dev.record s info source code payload).pst = s.pst := (record_changes s info source code payload).same .pst (by decide)
@[simp] theorem record_cle (s : Dev) (info : Bool) (source : Byte) (code : Code) (payload : List Byte) : (Dev.record s info source code payload).cle = s.cle := (record_changes s info source code payload).same .cle (by decide)
@[simp] theorem record_thm (s : Dev) (info : Bool) (source : Byte) (code : Code) (payload : List Byte) : (Dev.record s info source code payload).thm = s.thm := (record_changes s info source code payload).same .thm (by decide)
@[simp] theorem record_mtr (s : Dev) (info : Bool) (source : Byte) (code : Code) (payload : List Byte) : (Dev.record s info source code payload).mtr = s.mtr := (record_changes s info source code payload).same .mtr (by decide)
@[simp] theorem record_tri (s : Dev) (info : Bool) (source : Byte) (code : Code) (payload : List Byte) : (Dev.record s info source code payload).tri = s.tri := (record_changes s info source code payload).same .tri (by decide)
@[simp] theorem record_vss (s : Dev) (info : Bool) (source : Byte) (code : Code) (payload : List Byte) : (Dev.record s info source code payload).vss = s.vss := (record_changes s info source code payload).same .vss (by decide)
@[simp] theorem record_bil (s : Dev) (info : Bool) (source : Byte) (code : Code) (payload : List Byte) : (Dev.record s info source code payload).bil = s.bil := (record_changes s info source code payload).same .bil (by decide)
@[simp] theorem record_key (s : Dev) (info : Bool) (source : Byte) (code : Code) (payload : List Byte) : (Dev.record s info source code payload).key = s.key := (record_changes s info source code payload).same .key (by decide)
@[simp] theorem record_sln (s : Dev) (info : Bool) (source : Byte) (code : Code) (payload : List Byte) : (Dev.record s info source code payload).sln = s.sln := (record_changes s info source code payload).same .sln (by decide)
@[simp] theorem record_lsw (s : Dev) (info : Bool) (source : Byte) (code : Code) (payload : List Byte) : (Dev.record s info source code payload).lsw = s.lsw := (record_changes s info source code payload).same .lsw (by decide)
@[simp] theorem record_saf (s : Dev) (info : Bool) (source : Byte) (code : Code) (payload : List Byte) : (Dev.record s info source code payload).saf = s.saf := (record_changes s info source code payload).same .saf (by decide)
@[simp] theorem record_bse (s : Dev) (info : Bool) (source : Byte) (code : Code) (payload : List Byte) : (Dev.record s info source code payload).bse = s.bse := (record_changes s info source code payload).same .bse (by decide)
@[simp] theorem record_can (s : Dev) (info : Bool) (source : Byte) (code : Code) (payload : List Byte) : (Dev.record s info source code payload).can = s.can := (record_changes s info source code payload).same .can (by decide)

theorem record_rd (s : Dev) (info : Bool) (source : Byte) (code : Code) (payload : List Byte) {k off : Nat} (r : RowHas k off) (h : recordMask.testBit (32 + k) = false := by decide) :
    (Dev.record s info source code payload).rd off = s.rd off := (record_changes s info source code payload).rd_same r h (by decide)

theorem record_get (s : Dev) (info : Bool) (source : Byte) (code : Code) (payload : List Byte) (g : Field) {k : Nat} (r : RowHas k g.off) (h : recordMask.testBit (32 + k) = false := by decide) :
    (Dev.record s info source code payload).get g = s.get g := by
  unfold Dev.get
  rw [record_rd s info source code payload r h]

theorem record_flag (s : Dev) (info : Bool) (source : Byte) (code : Code) (payload : List Byte) (g : Field) {k : Nat} (r : RowHas k g.off) (h : recordMask.testBit (32 + k) = false := by decide) :
    (Dev.record s info source code payload).flag g = s.flag g := by
  unfold Dev.flag
  rw [record_get s info source code payload g r h]

/-- The rows and parts that `ledger` may change. -/
def ledgerMask : Nat := 0x14000000000000000000000000000000000000000000000000000000000000000000000000000000000000000000000000000000000000000000084072000000000001A4

theorem ledger_changes (s : Dev) (code : Code) (payload : List Byte) : Changes ledgerMask s (Dev.ledger s code payload) := ch_ledger _ _ _ (by decide) (Changes.refl _ _)

@[simp] theorem ledger_dt (s : Dev) (code : Code) (payload : List Byte) : (Dev.ledger s code payload).dt = s.dt := (ledger_changes s code payload).same .dt (by decide)
@[simp] theorem ledger_free (s : Dev) (code : Code) (payload : List Byte) : (Dev.ledger s code payload).free = s.free := (ledger_changes s code payload).same .free (by decide)
@[simp] theorem ledger_capture (s : Dev) (code : Code) (payload : List Byte) : (Dev.ledger s code payload).capture = s.capture := (ledger_changes s code payload).same .capture (by decide)
@[simp] theorem ledger_staging (s : Dev) (code : Code) (payload : List Byte) : (Dev.ledger s code payload).staging = s.staging := (ledger_changes s code payload).same .staging (by decide)
@[simp] theorem ledger_gen (s : Dev) (code : Code) (payload : List Byte) : (Dev.ledger s code payload).gen = s.gen := (ledger_changes s code payload).same .gen (by decide)
@[simp] theorem ledger_alc (s : Dev) (code : Code) (payload : List Byte) : (Dev.ledger s code payload).alc = s.alc := (ledger_changes s code payload).same .alc (by decide)
@[simp] theorem ledger_edg (s : Dev) (code : Code) (payload : List Byte) : (Dev.ledger s code payload).edg = s.edg := (ledger_changes s code payload).same .edg (by decide)
@[simp] theorem ledger_pst (s : Dev) (code : Code) (payload : List Byte) : (Dev.ledger s code payload).pst = s.pst := (ledger_changes s code payload).same .pst (by decide)
@[simp] theorem ledger_cle (s : Dev) (code : Code) (payload : List Byte) : (Dev.ledger s code payload).cle = s.cle := (ledger_changes s code payload).same .cle (by decide)
@[simp] theorem ledger_thm (s : Dev) (code : Code) (payload : List Byte) : (Dev.ledger s code payload).thm = s.thm := (ledger_changes s code payload).same .thm (by decide)
@[simp] theorem ledger_mtr (s : Dev) (code : Code) (payload : List Byte) : (Dev.ledger s code payload).mtr = s.mtr := (ledger_changes s code payload).same .mtr (by decide)
@[simp] theorem ledger_tri (s : Dev) (code : Code) (payload : List Byte) : (Dev.ledger s code payload).tri = s.tri := (ledger_changes s code payload).same .tri (by decide)
@[simp] theorem ledger_vss (s : Dev) (code : Code) (payload : List Byte) : (Dev.ledger s code payload).vss = s.vss := (ledger_changes s code payload).same .vss (by decide)
@[simp] theorem ledger_bil (s : Dev) (code : Code) (payload : List Byte) : (Dev.ledger s code payload).bil = s.bil := (ledger_changes s code payload).same .bil (by decide)
@[simp] theorem ledger_key (s : Dev) (code : Code) (payload : List Byte) : (Dev.ledger s code payload).key = s.key := (ledger_changes s code payload).same .key (by decide)
@[simp] theorem ledger_sln (s : Dev) (code : Code) (payload : List Byte) : (Dev.ledger s code payload).sln = s.sln := (ledger_changes s code payload).same .sln (by decide)
@[simp] theorem ledger_lsw (s : Dev) (code : Code) (payload : List Byte) : (Dev.ledger s code payload).lsw = s.lsw := (ledger_changes s code payload).same .lsw (by decide)
@[simp] theorem ledger_saf (s : Dev) (code : Code) (payload : List Byte) : (Dev.ledger s code payload).saf = s.saf := (ledger_changes s code payload).same .saf (by decide)
@[simp] theorem ledger_bse (s : Dev) (code : Code) (payload : List Byte) : (Dev.ledger s code payload).bse = s.bse := (ledger_changes s code payload).same .bse (by decide)
@[simp] theorem ledger_can (s : Dev) (code : Code) (payload : List Byte) : (Dev.ledger s code payload).can = s.can := (ledger_changes s code payload).same .can (by decide)

theorem ledger_rd (s : Dev) (code : Code) (payload : List Byte) {k off : Nat} (r : RowHas k off) (h : ledgerMask.testBit (32 + k) = false := by decide) :
    (Dev.ledger s code payload).rd off = s.rd off := (ledger_changes s code payload).rd_same r h (by decide)

theorem ledger_get (s : Dev) (code : Code) (payload : List Byte) (g : Field) {k : Nat} (r : RowHas k g.off) (h : ledgerMask.testBit (32 + k) = false := by decide) :
    (Dev.ledger s code payload).get g = s.get g := by
  unfold Dev.get
  rw [ledger_rd s code payload r h]

theorem ledger_flag (s : Dev) (code : Code) (payload : List Byte) (g : Field) {k : Nat} (r : RowHas k g.off) (h : ledgerMask.testBit (32 + k) = false := by decide) :
    (Dev.ledger s code payload).flag g = s.flag g := by
  unfold Dev.flag
  rw [ledger_get s code payload g r h]

/-- The rows and parts that `freeze` may change. -/
def freezeMask : Nat := 0x1F4000000000000000000000000000000000000000000000000000000000000000000000000000000000000000000000000000000000000000000084072000000000001A4

theorem freeze_changes (s : Dev) (t : Trigger) (cause : optParam Byte 255) : Changes freezeMask s (Dev.freeze s t cause) := ch_freeze _ _ _ (by decide) (Changes.refl _ _)

@[simp] theorem freeze_dt (s : Dev) (t : Trigger) (cause : optParam Byte 255) : (Dev.freeze s t cause).dt = s.dt := (freeze_changes s t cause).same .dt (by decide)
@[simp] theorem freeze_free (s : Dev) (t : Trigger) (cause : optParam Byte 255) : (Dev.freeze s t cause).free = s.free := (freeze_changes s t cause).same .free (by decide)
@[simp] theorem freeze_capture (s : Dev) (t : Trigger) (cause : optParam Byte 255) : (Dev.freeze s t cause).capture = s.capture := (freeze_changes s t cause).same .capture (by decide)
@[simp] theorem freeze_staging (s : Dev) (t : Trigger) (cause : optParam Byte 255) : (Dev.freeze s t cause).staging = s.staging := (freeze_changes s t cause).same .staging (by decide)
@[simp] theorem freeze_gen (s : Dev) (t : Trigger) (cause : optParam Byte 255) : (Dev.freeze s t cause).gen = s.gen := (freeze_changes s t cause).same .gen (by decide)
@[simp] theorem freeze_alc (s : Dev) (t : Trigger) (cause : optParam Byte 255) : (Dev.freeze s t cause).alc = s.alc := (freeze_changes s t cause).same .alc (by decide)
@[simp] theorem freeze_edg (s : Dev) (t : Trigger) (cause : optParam Byte 255) : (Dev.freeze s t cause).edg = s.edg := (freeze_changes s t cause).same .edg (by decide)
@[simp] theorem freeze_pst (s : Dev) (t : Trigger) (cause : optParam Byte 255) : (Dev.freeze s t cause).pst = s.pst := (freeze_changes s t cause).same .pst (by decide)
@[simp] theorem freeze_cle (s : Dev) (t : Trigger) (cause : optParam Byte 255) : (Dev.freeze s t cause).cle = s.cle := (freeze_changes s t cause).same .cle (by decide)
@[simp] theorem freeze_thm (s : Dev) (t : Trigger) (cause : optParam Byte 255) : (Dev.freeze s t cause).thm = s.thm := (freeze_changes s t cause).same .thm (by decide)
@[simp] theorem freeze_mtr (s : Dev) (t : Trigger) (cause : optParam Byte 255) : (Dev.freeze s t cause).mtr = s.mtr := (freeze_changes s t cause).same .mtr (by decide)
@[simp] theorem freeze_tri (s : Dev) (t : Trigger) (cause : optParam Byte 255) : (Dev.freeze s t cause).tri = s.tri := (freeze_changes s t cause).same .tri (by decide)
@[simp] theorem freeze_vss (s : Dev) (t : Trigger) (cause : optParam Byte 255) : (Dev.freeze s t cause).vss = s.vss := (freeze_changes s t cause).same .vss (by decide)
@[simp] theorem freeze_bil (s : Dev) (t : Trigger) (cause : optParam Byte 255) : (Dev.freeze s t cause).bil = s.bil := (freeze_changes s t cause).same .bil (by decide)
@[simp] theorem freeze_key (s : Dev) (t : Trigger) (cause : optParam Byte 255) : (Dev.freeze s t cause).key = s.key := (freeze_changes s t cause).same .key (by decide)
@[simp] theorem freeze_sln (s : Dev) (t : Trigger) (cause : optParam Byte 255) : (Dev.freeze s t cause).sln = s.sln := (freeze_changes s t cause).same .sln (by decide)
@[simp] theorem freeze_lsw (s : Dev) (t : Trigger) (cause : optParam Byte 255) : (Dev.freeze s t cause).lsw = s.lsw := (freeze_changes s t cause).same .lsw (by decide)
@[simp] theorem freeze_saf (s : Dev) (t : Trigger) (cause : optParam Byte 255) : (Dev.freeze s t cause).saf = s.saf := (freeze_changes s t cause).same .saf (by decide)
@[simp] theorem freeze_bse (s : Dev) (t : Trigger) (cause : optParam Byte 255) : (Dev.freeze s t cause).bse = s.bse := (freeze_changes s t cause).same .bse (by decide)
@[simp] theorem freeze_can (s : Dev) (t : Trigger) (cause : optParam Byte 255) : (Dev.freeze s t cause).can = s.can := (freeze_changes s t cause).same .can (by decide)

theorem freeze_rd (s : Dev) (t : Trigger) (cause : optParam Byte 255) {k off : Nat} (r : RowHas k off) (h : freezeMask.testBit (32 + k) = false := by decide) :
    (Dev.freeze s t cause).rd off = s.rd off := (freeze_changes s t cause).rd_same r h (by decide)

theorem freeze_get (s : Dev) (t : Trigger) (cause : optParam Byte 255) (g : Field) {k : Nat} (r : RowHas k g.off) (h : freezeMask.testBit (32 + k) = false := by decide) :
    (Dev.freeze s t cause).get g = s.get g := by
  unfold Dev.get
  rw [freeze_rd s t cause r h]

theorem freeze_flag (s : Dev) (t : Trigger) (cause : optParam Byte 255) (g : Field) {k : Nat} (r : RowHas k g.off) (h : freezeMask.testBit (32 + k) = false := by decide) :
    (Dev.freeze s t cause).flag g = s.flag g := by
  unfold Dev.flag
  rw [freeze_get s t cause g r h]

/-- The rows and parts that `complete` may change. -/
def completeMask : Nat := 0x8400200000000000084

theorem complete_changes (s : Dev) (src : Src) (status : Code) (result : optParam Word 0) (data : optParam (List Byte) []) : Changes completeMask s (Dev.complete s src status result data) := ch_complete _ _ _ _ _ (by decide) (Changes.refl _ _)

@[simp] theorem complete_dt (s : Dev) (src : Src) (status : Code) (result : optParam Word 0) (data : optParam (List Byte) []) : (Dev.complete s src status result data).dt = s.dt := (complete_changes s src status result data).same .dt (by decide)
@[simp] theorem complete_free (s : Dev) (src : Src) (status : Code) (result : optParam Word 0) (data : optParam (List Byte) []) : (Dev.complete s src status result data).free = s.free := (complete_changes s src status result data).same .free (by decide)
@[simp] theorem complete_capture (s : Dev) (src : Src) (status : Code) (result : optParam Word 0) (data : optParam (List Byte) []) : (Dev.complete s src status result data).capture = s.capture := (complete_changes s src status result data).same .capture (by decide)
@[simp] theorem complete_staging (s : Dev) (src : Src) (status : Code) (result : optParam Word 0) (data : optParam (List Byte) []) : (Dev.complete s src status result data).staging = s.staging := (complete_changes s src status result data).same .staging (by decide)
@[simp] theorem complete_sets (s : Dev) (src : Src) (status : Code) (result : optParam Word 0) (data : optParam (List Byte) []) : (Dev.complete s src status result data).sets = s.sets := (complete_changes s src status result data).same .sets (by decide)
@[simp] theorem complete_gen (s : Dev) (src : Src) (status : Code) (result : optParam Word 0) (data : optParam (List Byte) []) : (Dev.complete s src status result data).gen = s.gen := (complete_changes s src status result data).same .gen (by decide)
@[simp] theorem complete_ldg (s : Dev) (src : Src) (status : Code) (result : optParam Word 0) (data : optParam (List Byte) []) : (Dev.complete s src status result data).ldg = s.ldg := (complete_changes s src status result data).same .ldg (by decide)
@[simp] theorem complete_alc (s : Dev) (src : Src) (status : Code) (result : optParam Word 0) (data : optParam (List Byte) []) : (Dev.complete s src status result data).alc = s.alc := (complete_changes s src status result data).same .alc (by decide)
@[simp] theorem complete_edg (s : Dev) (src : Src) (status : Code) (result : optParam Word 0) (data : optParam (List Byte) []) : (Dev.complete s src status result data).edg = s.edg := (complete_changes s src status result data).same .edg (by decide)
@[simp] theorem complete_pst (s : Dev) (src : Src) (status : Code) (result : optParam Word 0) (data : optParam (List Byte) []) : (Dev.complete s src status result data).pst = s.pst := (complete_changes s src status result data).same .pst (by decide)
@[simp] theorem complete_cle (s : Dev) (src : Src) (status : Code) (result : optParam Word 0) (data : optParam (List Byte) []) : (Dev.complete s src status result data).cle = s.cle := (complete_changes s src status result data).same .cle (by decide)
@[simp] theorem complete_thm (s : Dev) (src : Src) (status : Code) (result : optParam Word 0) (data : optParam (List Byte) []) : (Dev.complete s src status result data).thm = s.thm := (complete_changes s src status result data).same .thm (by decide)
@[simp] theorem complete_mtr (s : Dev) (src : Src) (status : Code) (result : optParam Word 0) (data : optParam (List Byte) []) : (Dev.complete s src status result data).mtr = s.mtr := (complete_changes s src status result data).same .mtr (by decide)
@[simp] theorem complete_tri (s : Dev) (src : Src) (status : Code) (result : optParam Word 0) (data : optParam (List Byte) []) : (Dev.complete s src status result data).tri = s.tri := (complete_changes s src status result data).same .tri (by decide)
@[simp] theorem complete_vss (s : Dev) (src : Src) (status : Code) (result : optParam Word 0) (data : optParam (List Byte) []) : (Dev.complete s src status result data).vss = s.vss := (complete_changes s src status result data).same .vss (by decide)
@[simp] theorem complete_bil (s : Dev) (src : Src) (status : Code) (result : optParam Word 0) (data : optParam (List Byte) []) : (Dev.complete s src status result data).bil = s.bil := (complete_changes s src status result data).same .bil (by decide)
@[simp] theorem complete_key (s : Dev) (src : Src) (status : Code) (result : optParam Word 0) (data : optParam (List Byte) []) : (Dev.complete s src status result data).key = s.key := (complete_changes s src status result data).same .key (by decide)
@[simp] theorem complete_sln (s : Dev) (src : Src) (status : Code) (result : optParam Word 0) (data : optParam (List Byte) []) : (Dev.complete s src status result data).sln = s.sln := (complete_changes s src status result data).same .sln (by decide)
@[simp] theorem complete_lsw (s : Dev) (src : Src) (status : Code) (result : optParam Word 0) (data : optParam (List Byte) []) : (Dev.complete s src status result data).lsw = s.lsw := (complete_changes s src status result data).same .lsw (by decide)
@[simp] theorem complete_saf (s : Dev) (src : Src) (status : Code) (result : optParam Word 0) (data : optParam (List Byte) []) : (Dev.complete s src status result data).saf = s.saf := (complete_changes s src status result data).same .saf (by decide)
@[simp] theorem complete_bse (s : Dev) (src : Src) (status : Code) (result : optParam Word 0) (data : optParam (List Byte) []) : (Dev.complete s src status result data).bse = s.bse := (complete_changes s src status result data).same .bse (by decide)
@[simp] theorem complete_can (s : Dev) (src : Src) (status : Code) (result : optParam Word 0) (data : optParam (List Byte) []) : (Dev.complete s src status result data).can = s.can := (complete_changes s src status result data).same .can (by decide)

theorem complete_rd (s : Dev) (src : Src) (status : Code) (result : optParam Word 0) (data : optParam (List Byte) []) {k off : Nat} (r : RowHas k off) (h : completeMask.testBit (32 + k) = false := by decide) :
    (Dev.complete s src status result data).rd off = s.rd off := (complete_changes s src status result data).rd_same r h (by decide)

theorem complete_get (s : Dev) (src : Src) (status : Code) (result : optParam Word 0) (data : optParam (List Byte) []) (g : Field) {k : Nat} (r : RowHas k g.off) (h : completeMask.testBit (32 + k) = false := by decide) :
    (Dev.complete s src status result data).get g = s.get g := by
  unfold Dev.get
  rw [complete_rd s src status result data r h]

theorem complete_flag (s : Dev) (src : Src) (status : Code) (result : optParam Word 0) (data : optParam (List Byte) []) (g : Field) {k : Nat} (r : RowHas k g.off) (h : completeMask.testBit (32 + k) = false := by decide) :
    (Dev.complete s src status result data).flag g = s.flag g := by
  unfold Dev.flag
  rw [complete_get s src status result data g r h]

end Sys2Proof.Machine.Dev
end

