-- ==== Sys2Proof/Tests/Slice0.lean ====
section
/-! SUPPORT. The model's own tests: what the well-formedness checks refuse, values written out from the spec, and for every statement with
hypotheses a state and operands that meet them, clause by clause. -/

namespace Sys2Proof.Tests

open Sys2Proof.Machine

set_option maxRecDepth 10000
set_option linter.unusedVariables false
set_option Elab.async false

/-- A running device with these registers set. -/
def testDev (l : List (Field × Nat)) : Dev :=
  l.foldl (fun d p => d.set p.1 p.2) { Dev.reset with gen := { Dev.reset.gen with phase := .running } }
/-- A state with such a device, changed by `f`. -/
def testState (l : List (Field × Nat)) (f : Dev → Dev := id) : State := { State.reset with dev := f (testDev l) }
/-- Registers by offset. -/
def testRegs (l : List (Nat × Word)) (d : Dev) : Dev := l.foldl (fun d p => d.wr p.1 p.2) d
/-- A run on piste 0 that carries one whole frame. -/
def testFrame (type : Nat) (sub : Nat) (data : List Byte) : RxFrame := ⟨0, 0, 0, scramble 0 (frameBlocks ⟨type, 1, sub, data⟩)⟩
/-- A key record. -/
def testKey (type usage : Nat) : KeyRec :=
  ⟨type, 256, 2 ^ usage, 0, 1, List.replicate 32 1, List.replicate 64 2, true⟩
/-- The device with this key in slot 0 and a root. -/
def testKeys (r : KeyRec) (d : Dev) : Dev :=
  let d := testRegs [] (((d.set KEY_STATUS_ROOT 1).set (KEY_SLOT_STATE 0) 1).set (KEY_SLOT_RECORD 0) 0)
  { d with key := { d.key with root := some (List.replicate 32 3), records := d.key.records.set 0 (some r) } }
/-- A descriptor of an opcode, without parameters. -/
def testDesc (op : Nat) : List Byte := leBytes 2 op ++ List.replicate 62 0
/-- A frame of the service UART (R499). -/
def testUart (d : List Byte) : List Byte :=
  let x := leBytes 2 d.length ++ d
  [0x7E] ++ x ++ leBytes 2 (crc16 x).toNat ++ [0x7E]
/-- A configuration image with a good header. -/
def testImage (body : List Byte) : List Byte :=
  let h := leBytes 4 0x43475253 ++ [1, 0, 0, 0] ++ leBytes 8 0 ++ leBytes 4 1 ++ leBytes 4 body.length
  h ++ leBytes 4 (crc32 (h ++ body)).toNat ++ leBytes 4 0 ++ body
/-- The host has written ring 0 up to `n`. -/
def testFetch (n : Nat) (d : Dev) : Dev := (d.modRing 0 (fun z => { z with hostIdx := n }))
/-- A node port changed. -/
def testPort (i : Fin 128) (odd : Bool) (f : NodePort → NodePort) (d : Dev) : Dev :=
  d.modNode i (fun z => if odd then { z with odd := f z.odd } else { z with even := f z.even })
/-- A row to fall back on. -/
def noRow : RegRow := ⟨"", 0, 0, 0, 0, 0, 0, 0, []⟩
/-- A field to fall back on. -/
def noField : FieldRow := ⟨0, 0, .rw, 0, false, 0, 0⟩

/-! The well-formedness checks: each refuses a term that breaks it, and admits one that keeps it. -/

theorem test_wf_refuses_status_address : Instr.wellFormed (.identify ⟨.ring 0 0, 2 ^ 64, 0, 0⟩ 0 0 0) = false := by decide

theorem test_wf_refuses_result_address : Instr.wellFormed (.keyMakeCsr ⟨.ring 0 0, 0, 2 ^ 64, 0⟩ 0 []) = false := by decide

theorem test_wf_refuses_descriptor : Instr.wellFormed (.descriptorFetch 0 [] [List.replicate 63 0]) = false := by decide

theorem test_wf_refuses_no_descriptor : Instr.wellFormed (.descriptorFetch 0 [] []) = false := by decide

theorem test_wf_refuses_ledger_count : Instr.wellFormed (.ldgRead ⟨.ring 0 0, 0, 0, 0⟩ ⟨false, 0, 65536, 0⟩) = false := by decide

theorem test_wf_refuses_start_facts : Instr.wellFormed (.powerOnReset ⟨true, [], [], [], [], true, [], [], 0, true, false, 65536⟩) = false := by decide

theorem test_wf_refuses_test_parameters : Instr.wellFormed (.test ⟨.ring 0 0, 0, 0, 0⟩ ⟨1, List.replicate 19 0⟩) = false := by decide

theorem test_wf_refuses_run_length : Instr.wellFormed (.teleFrameReceived ⟨0, 1, 0, List.replicate 34 ⟨1, 0⟩⟩) = false := by decide

theorem test_wf_refuses_run_hop : Instr.wellFormed (.ctrlResponseReceived ⟨0, 17, 0, []⟩) = false := by decide

theorem test_wf_refuses_own_run_length : Instr.wellFormed (.nodeRunOwn 0 false 0 false 0 (List.replicate 34 ⟨1, 0⟩) ⟨[], [], false, false, none, 0, false, []⟩) = false := by decide

theorem test_wf_refuses_node_channels : Instr.wellFormed (.nodeRunOwn 0 false 0 false 0 [] ⟨List.replicate 17 0, [], false, false, none, 0, false, []⟩) = false := by decide

theorem test_wf_refuses_node_control : Instr.wellFormed (.nodeCtrl (.ring 0 0) ⟨1, true, 0, 2, [0]⟩) = false := by decide

theorem test_wf_refuses_site_line_route : Instr.wellFormed (.slnRelayForward 0 ⟨7, false, false, false, false, 0, 0, 0, [1, 2, 3, 4], 0, 0, []⟩) = false := by decide

theorem test_wf_refuses_tone_map : Instr.wellFormed (.slnReplyReceived 0 ⟨true, true, ⟨7, false, false, false, false, 0, 0, 0, [], 0, 0, []⟩, 0, some ⟨0, 0, []⟩, none, 0⟩) = false := by decide

theorem test_wf_refuses_join_class : Instr.wellFormed (.slnJoinReq ⟨1, 256, 1, 0, none⟩) = false := by decide

theorem test_wf_refuses_vehicle_limits : Instr.wellFormed (.v2gRequest 0 0 (.chargeParameters (-1) 0 0 0 none)) = false := by decide

theorem test_wf_refuses_authorisation : Instr.wellFormed (.authAnswer (.ring 0 0) ⟨256, 0, 0, false, 0⟩) = false := by decide

theorem test_wf_refuses_commissioning : Instr.wellFormed (.commission (.ring 0 0) ⟨0, 256, 0, 0, 0⟩) = false := by decide

theorem test_wf_refuses_can_record : Instr.wellFormed (.canTx (.ring 0 0) (List.replicate 79 0)) = false := by decide

theorem test_wf_refuses_can_identifier : Instr.wellFormed (.canFrameReceived 0 ⟨2048, false, false, false, false, false, false, 0, []⟩ 0) = false := by decide

theorem test_wf_refuses_can_bytes : Instr.wellFormed (.canFrameReceived 0 ⟨1, false, false, true, false, false, false, 15, List.replicate 65 0⟩ 0) = false := by decide

theorem test_wf_refuses_grid_samples : Instr.wellFormed (.blockCommit ⟨[], List.replicate 8 false⟩ ⟨[], List.replicate 8 false⟩) = false := by decide

theorem test_wf_refuses_harmonic_window : Instr.wellFormed (.harmonicWindowEnd 0 ⟨50000, [], []⟩) = false := by decide

theorem test_wf_refuses_daylight_rule : Instr.wellFormed (.calendarSet (.desc (.ring 0 0)) (.daylight ⟨256, 5, 0, 60⟩ ⟨10, 5, 0, 60⟩)) = false := by decide

theorem test_wf_refuses_calendar_season : Instr.wellFormed (.calendarSet (.desc (.ring 0 0)) (.calendar ⟨[(1, 1, [0])], [], []⟩)) = false := by decide

theorem test_wf_refuses_dwell : Instr.wellFormed (.scrollSet (.desc (.ring 0 0)) (.dwell 256)) = false := by decide

theorem test_wf_refuses_safe_outputs : Instr.wellFormed (.safetyEvaluation ⟨0, 0, 0, 0, true, true, []⟩) = false := by decide

theorem test_wf_refuses_key_type : Instr.wellFormed (.keyGenerate ⟨.ring 0 0, 0, 0, 0⟩ ⟨.slot 0, 256, 0, 0, none, []⟩) = false := by decide

theorem test_wf_refuses_census : Instr.wellFormed (.censusMark [] []) = false := by decide

theorem test_wf_refuses_aggregate : Instr.wellFormed (.lswAggEval [] 0 0) = false := by decide

theorem test_wf_refuses_legal_time : Instr.wellFormed (.legalTimeSet (.desc (.ring 0 0)) (2 ^ 64)) = false := by decide

theorem test_wf_refuses_progress : Instr.wellFormed (.longPartialReady (.ring 0 0) 0 [] 1001) = false := by decide

theorem test_wf_admits : ([Instr.registerWrite 0 0, .descriptorFetch 0 [] [List.replicate 64 0], .lswAggEval (List.replicate 20 ⟨0, 250, false⟩) 24000 24000,
    .canTx (.ring 0 0) (List.replicate 80 0), .canFrameReceived 0 ⟨2047, false, false, false, false, false, false, 0, []⟩ 0, .legalTimeSet (.desc (.ring 0 0)) 0].all Instr.wellFormed) = true := by decide

/-! Values written out from the spec, by hand. -/

/-- No row of the table has bits, so no word spells a command. -/
theorem test_no_word_spells_a_command : decodeTableWord 32 0 = none ∧ State.reset.withFetchWord 32 5 = State.reset := ⟨rfl, rfl⟩

/-- R199: CRC-32 of IEEE 802.3; its check value for the ASCII digits 1 to 9. -/
theorem test_crc32_check_value : crc32 [0x31, 0x32, 0x33, 0x34, 0x35, 0x36, 0x37, 0x38, 0x39] = 0xCBF43926#32 := by decide +kernel

/-- The UTC of R256's layout: its own example, 2031-05-14T09:30:00Z. -/
theorem test_iso8601 : iso8601 1936517400000 = [0x32, 0x30, 0x33, 0x31, 0x2D, 0x30, 0x35, 0x2D, 0x31, 0x34, 0x54, 0x30, 0x39, 0x3A, 0x33, 0x30, 0x3A, 0x30, 0x30, 0x5A] := by decide +kernel

/-- R175: a block from the scrambler comes back from the descrambler, from the same register. -/
theorem test_descramble : descramble 5 (scramble 5 [ownBlock 3 5 true, dataBlock [1, 2, 3]]) = [ownBlock 3 5 true, dataBlock [1, 2, 3]] := by
  decide +kernel

/-- R496: the word the spec reads as running and halfway through, 0x21F4_0000: state 2, progress 500. -/
theorem test_status_word_state : (0x21F40000#32 >>> 28) = 2#32 ∧ ((0x21F40000#32 >>> 16) &&& 0xFFF#32) = 500#32 := by decide

/-- R97: a force of the free leg 5 reads back, and its neighbour keeps its own. -/
theorem test_leg_force : (match exec (.legForceWrite (.leg 5) 2) (testState []) with
    | .next t => (t.dev.get (EDG_LEG_CTL_FORCE 5), t.dev.get (EDG_LEG_CTL_FORCE 6))
    | .fault _ => (9, 9)
    | .refused _ => (9, 9)) = (2, 0) := by decide +kernel

/-- R42: a request of the host is a cause of SAFE-HOLD. -/
theorem test_sh_req : (match exec (.shReqWrite true) (testState []) with
    | .next t => t.dev.flag GEN_LIFECYCLE_SAFE_HOLD
    | .fault _ => false
    | .refused _ => false) = true := by decide +kernel

/-- A step takes the first command and leaves the second. -/
theorem test_step_takes_the_front : (match step { State.reset with pending := [.resetPinIgnored, .resetPinArm] } with
    | .next t => t.pending
    | .fault _ => []
    | .refused _ => []) = [.resetPinArm] := by decide +kernel

/-! Witnesses: for each statement, a state and operands that meet the hypotheses of each of its clauses, in the order of the clauses. -/

theorem witness_leg_commands :
    (∃ (s : State) (leg : LegRef) (force : BitVec 2),
       taken (.legForceWrite leg force) s = true) ∧
    (∃ (s : State) (leg : LegRef),
       taken (.legDisarm leg) s = true ∧ s.dev.isSecondPin leg.ix = false ∧ s.dev.armed leg.ix = true) ∧
    (∃ (s : State) (leg : LegRef),
       taken (.legDisarm leg) s = true ∧ (s.dev.isSecondPin leg.ix || !s.dev.armed leg.ix) = true) ∧
    (∃ (s : State) (leg : LegRef) (pins : BitVec 4),
       taken (.legArm leg pins) s = true ∧ (s.dev.armed leg.ix || s.dev.isSecondPin leg.ix || s.dev.armReading leg.ix) = true) ∧
    (∃ (s : State) (n : Fin 24) (pins : BitVec 4) (c : Code),
       taken (.legArm (.pwm n) pins) s = true ∧ s.dev.armed (LegRef.pwm n).ix = false ∧ s.dev.isSecondPin (LegRef.pwm n).ix = false ∧ s.dev.armReading (LegRef.pwm n).ix = false ∧ s.dev.armCheck (LegRef.pwm n).ix none pins = some c) ∧
    (∃ (s : State) (n : Fin 24) (pins : BitVec 4),
       taken (.legArm (.pwm n) pins) s = true ∧ s.dev.armed (LegRef.pwm n).ix = false ∧ s.dev.isSecondPin (LegRef.pwm n).ix = false ∧ s.dev.armReading (LegRef.pwm n).ix = false ∧ s.dev.armCheck (LegRef.pwm n).ix none pins = none) ∧
    (∃ (s : State) (leg : Fin 384) (pins : BitVec 4) (c : Code),
       taken (.legArm (.leg leg) pins) s = true ∧ s.dev.armed (LegRef.leg leg).ix = false ∧ s.dev.armReading (LegRef.leg leg).ix = false ∧ s.dev.armCheck6 (LegRef.leg leg).ix = some c) ∧
    (∃ (s : State) (leg : Fin 384) (pins : BitVec 4) (n : Fin 128),
       taken (.legArm (.leg leg) pins) s = true ∧ s.dev.armed (LegRef.leg leg).ix = false ∧ s.dev.armReading (LegRef.leg leg).ix = false ∧ s.dev.armCheck6 (LegRef.leg leg).ix = none ∧ s.dev.stageNode (leg.val / 6) = some n) ∧
    (∃ (s : State) (leg : LegRef) (m : Option (BitVec 6)) (pins : BitVec 4),
       s.dev.flag EDG_CTRL_EN = false) :=
  ⟨⟨testState [], (.leg 0), 0, by decide⟩,
   ⟨testState [((EDG_LEG_CTL_ARMED (((.leg 0) : LegRef)).ix), 1)], (.leg 0), by decide⟩,
   ⟨testState [], (.leg 0), by decide⟩,
   ⟨testState [(EDG_LEG_CTL_ARMED 0, 1)], (.leg 0), 0, by decide⟩,
   ⟨testState [], 0, 0, ST_EDG_ARM_DISABLED, by decide⟩,
   ⟨testState [(EDG_CTRL_EN, 1), (EDG_LEG_PERIOD_PERIOD 384, 20000), (EDG_LEG_CFG_CGRP 384, 1), (EDG_LEG_CFG_MINP 384, 200)], 0, 0, by decide⟩,
   ⟨testState [], 0, 0, ST_EDG_ARM_DISABLED, by decide⟩,
   ⟨testState [(EDG_CTRL_EN, 1), (EDG_STG_CFG_EN 0, 1), (ALC_STAGE_MAP_ROLE 0, 1), (EDG_STG_STATUS_BOUND 0, 1), (EDG_LEG_PERIOD_PERIOD 0, 20000), (EDG_LEG_CFG_CGRP 0, 1), (EDG_LEG_CFG_MINP 0, 200), (PST_NODE_INFO_STATE 0, ndPresent), (PST_NODE_INFO_CLASS 0, 1)] (fun dd => testRegs [(EDG_STG_NODE_LO 0, 5), (PST_NODE_ID_LO 0, 5)] dd), 0, 0, 0, by decide +kernel⟩,
   ⟨testState [(EDG_CTRL_EN, 0)], (.leg 0), none, 0, by decide⟩⟩

theorem witness_allocator_ticks_and_run :
    (∃ (s : State),
       taken .allocationTick s = true) ∧
    (∃ (s : State) (us : Nat) (fault : Bool),
       taken (.grantSolveComplete us fault) s = true ∧ s.dev.alc.frozen = none) ∧
    (∃ (s : State) (us : Nat) (fault : Bool),
       taken (.grantSolveComplete us fault) s = true ∧ s.dev.alc.frozen.isSome = true) ∧
    (∃ (s : State),
       taken (.alcRunWrite true) s = true) ∧
    (∃ (s : State),
       taken (.alcRunWrite false) s = true ∧ s.dev.flag ALC_CTRL_RUN = true ∧ s.dev.siteLive = true) ∧
    (∃ (s : State),
       taken (.alcRunWrite false) s = true ∧ ((s.dev.flag ALC_CTRL_RUN = false ∨ s.dev.siteLive = false))) ∧
    (∃ (s : State) (g : Fin 2),
       taken (.gridPointRecount g) s = true ∧ ((s.dev.alc.gpBack[g] = none ∨ s.dev.alc.gpCounts[g] = true))) ∧
    (∃ (s : State) (g : Fin 2) (t0 : Nat),
       taken (.gridPointRecount g) s = true ∧ s.dev.alc.gpBack[g] = some t0 ∧ s.dev.alc.gpCounts[g] = false) :=
  ⟨⟨testState [], by decide⟩,
   ⟨testState [] (fun dd => let dd : Dev := { dd with alc := { dd.alc with frozen := none } }; dd), 0, false, by decide⟩,
   ⟨testState [] (fun dd => let dd : Dev := { dd with alc := { dd.alc with frozen := some ⟨0, false, [], [], [], 0, 0, 0, false, 0, 0, 0, 0, 0, 0, false, false, 0, false, 0, 0, 0, false⟩ } }; dd), 0, false, by decide⟩,
   ⟨testState [], by decide⟩,
   ⟨testState [(ALC_CTRL_RUN, 1), (VSS_STATUS_ACTIVE, 1)], by decide⟩,
   ⟨testState [(ALC_CTRL_RUN, 0)], by decide⟩,
   ⟨testState [], 0, by decide⟩,
   ⟨testState [] (fun dd => { dd with alc := { dd.alc with gpBack := vupd dd.alc.gpBack 0 (fun _ => some 0), gpCounts := vupd dd.alc.gpCounts 0 (fun _ => false) } }), 0, 0, by decide⟩⟩

theorem witness_slot_runs :
    (∃ (s : State) (m : Fin 128) (a : Word) (b : Word),
       taken (.slotSample m a b) s = true ∧ ((s.dev.slotClosed m = false ∨ s.dev.cle.slots[m].opening = true))) ∧
    (∃ (s : State) (m : Fin 128) (a : Word) (b : Word),
       taken (.slotSample m a b) s = true ∧ s.dev.slotClosed m = true ∧ s.dev.cle.slots[m].opening = false ∧ s.dev.cle.slots[m].queued = none ∧ s.dev.cle.slots[m].started = none) ∧
    (∃ (s : State) (m : Fin 128),
       taken (.slotExecutionComplete m) s = true ∧ s.dev.cle.slots[m].queued = none ∧ s.dev.cle.slots[m].started = none) ∧
    (∃ (s : State) (m : Fin 128) (e : SlotExec) (c : Nat),
       taken (.slotExecutionComplete m) s = true ∧ s.dev.cle.slots[m].queued = some e ∧ s.dev.nextStart = some (c, m)) ∧
    (∃ (s : State) (m : Fin 128) (e : SlotExec) (done : Nat),
       taken (.slotExecutionComplete m) s = true ∧ s.dev.cle.slots[m].queued = none ∧ s.dev.cle.slots[m].started = some (e, done) ∧ e.sampleDt + s.dev.slotDeadline m < done) ∧
    (∃ (s : State) (m : Fin 128) (e : SlotExec) (done : Nat) (u : Dev),
       taken (.slotExecutionComplete m) s = true ∧ s.dev.cle.slots[m].queued = none ∧ s.dev.cle.slots[m].started = some (e, done) ∧ done ≤ e.sampleDt + s.dev.slotDeadline m ∧ u = s.dev.start.reach done ∧ ([(Dev.runLaw (u.get (CLE_SLOT_CFG_TYPE m)) (u.lawIn m e).1).1.y0, (Dev.runLaw (u.get (CLE_SLOT_CFG_TYPE m)) (u.lawIn m e).1).1.y1, (Dev.runLaw (u.get (CLE_SLOT_CFG_TYPE m)) (u.lawIn m e).1).2.1, (Dev.runLaw (u.get (CLE_SLOT_CFG_TYPE m)) (u.lawIn m e).1).2.2, (u.lawIn m e).2, (u.lawIn m e).1.a] ++ (Dev.runLaw (u.get (CLE_SLOT_CFG_TYPE m)) (u.lawIn m e).1).1.st).all F32.finite = true) ∧
    (∃ (s : State) (m : Fin 128),
       taken (.slotDeadlineMiss m) s = true ∧ s.dev.cle.slots[m].queued = none ∧ s.dev.cle.slots[m].started.all (fun x => decide (x.2 ≤ x.1.sampleDt + s.dev.slotDeadline m)) = true) ∧
    (∃ (s : State) (m : Fin 128) (e : SlotExec),
       taken (.slotDeadlineMiss m) s = true ∧ ((s.dev.cle.slots[m].queued = some e ∧ s.dev.nextStart = none ∨ s.dev.cle.slots[m].queued = none ∧ ∃ done, s.dev.cle.slots[m].started = some (e, done) ∧ e.sampleDt + s.dev.slotDeadline m < done))) :=
  ⟨⟨testState [((CLE_SLOT_CTL_STATE ((0 : Fin 128))), 0)], 0, 0, 0, by decide⟩,
   ⟨testState [((CLE_SLOT_CTL_STATE ((0 : Fin 128))), 1)] (fun dd => let dd : Dev := { dd with cle := { dd.cle with slots := vupd dd.cle.slots ((0 : Fin 128)) (fun zz => { zz with opening := false }) } }; let dd : Dev := { dd with cle := { dd.cle with slots := vupd dd.cle.slots ((0 : Fin 128)) (fun zz => { zz with queued := none }) } }; let dd : Dev := { dd with cle := { dd.cle with slots := vupd dd.cle.slots ((0 : Fin 128)) (fun zz => { zz with started := none }) } }; dd), 0, 0, 0, by decide⟩,
   ⟨testState [] (fun dd => let dd : Dev := { dd with cle := { dd.cle with slots := vupd dd.cle.slots ((0 : Fin 128)) (fun zz => { zz with queued := none }) } }; let dd : Dev := { dd with cle := { dd.cle with slots := vupd dd.cle.slots ((0 : Fin 128)) (fun zz => { zz with started := none }) } }; dd), 0, by decide⟩,
   ⟨testState [] (fun dd => let dd : Dev := { dd with cle := { dd.cle with slots := vupd dd.cle.slots ((0 : Fin 128)) (fun zz => { zz with queued := some ((⟨0, 0, 0, 0, 0, 0⟩ : SlotExec)) }) } }; dd), 0, ⟨0, 0, 0, 0, 0, 0⟩, 0, by decide⟩,
   ⟨testState [] (fun dd => let dd : Dev := { dd with cle := { dd.cle with slots := vupd dd.cle.slots ((0 : Fin 128)) (fun zz => { zz with queued := none }) } }; let dd : Dev := { dd with cle := { dd.cle with slots := vupd dd.cle.slots ((0 : Fin 128)) (fun zz => { zz with started := some (((⟨0, 0, 0, 0, 0, 0⟩ : SlotExec)), ((1000000000000 : Nat))) }) } }; dd), 0, ⟨0, 0, 0, 0, 0, 0⟩, 1000000000000, by decide⟩,
   ⟨testState [(CLE_SLOT_PERIOD_PERIOD 0, 20000)] (fun dd => let dd : Dev := { dd with cle := { dd.cle with slots := vupd dd.cle.slots ((0 : Fin 128)) (fun zz => { zz with queued := none }) } }; let dd : Dev := { dd with cle := { dd.cle with slots := vupd dd.cle.slots ((0 : Fin 128)) (fun zz => { zz with started := some (((⟨0, 0, 0, 0, 0, 0⟩ : SlotExec)), ((0 : Nat))) }) } }; dd), 0, ⟨0, 0, 0, 0, 0, 0⟩, 0, (testState [(CLE_SLOT_PERIOD_PERIOD 0, 20000)] (fun dd => let dd : Dev := { dd with cle := { dd.cle with slots := vupd dd.cle.slots ((0 : Fin 128)) (fun zz => { zz with queued := none }) } }; let dd : Dev := { dd with cle := { dd.cle with slots := vupd dd.cle.slots ((0 : Fin 128)) (fun zz => { zz with started := some (((⟨0, 0, 0, 0, 0, 0⟩ : SlotExec)), ((0 : Nat))) }) } }; dd)).dev.start.reach 0, by refine ⟨by decide, by decide, by decide, by decide, rfl, by decide +kernel⟩⟩,
   ⟨testState [] (fun dd => let dd : Dev := { dd with cle := { dd.cle with slots := vupd dd.cle.slots ((0 : Fin 128)) (fun zz => { zz with queued := none }) } }; dd), 0, by decide⟩,
   ⟨testState [] (fun dd => { dd with cle := { dd.cle with slots := vupd dd.cle.slots 0 (fun z => { z with queued := some ⟨0, 0, 0, 0, 0, 0⟩ }), pipes := dd.cle.pipes.map (fun _ => 1000000000000) } }), 0, ⟨0, 0, 0, 0, 0, 0⟩, by refine ⟨by decide, Or.inl ⟨by decide +kernel, by decide +kernel⟩⟩⟩⟩

theorem witness_piste_commands_and_equalisation :
    (∃ (s : State) (p : Fin 8),
       taken (.pisteEnable p) s = true ∧ s.dev.flag (PST_PHY_CTL_EN p) = false) ∧
    (∃ (s : State) (p : Fin 8),
       taken (.pisteDisable p) s = true ∧ s.dev.flag (PST_PHY_CTL_EN p) = true ∧ s.dev.pisteLive p = true) ∧
    (∃ (s : State) (p : Fin 8),
       taken (.pisteDisable p) s = true ∧ s.dev.flag (PST_PHY_CTL_EN p) = true ∧ s.dev.pisteLive p = false) ∧
    (∃ (s : State) (p : Fin 8),
       taken (.pisteRestart p) s = true ∧ s.dev.pisteLive p = true) ∧
    (∃ (s : State) (p : Fin 8),
       taken (.pisteRestart p) s = true ∧ s.dev.pisteLive p = false ∧ s.dev.pisteState p ≠ phDown ∧ s.dev.pisteState p ≠ phTest) ∧
    (∃ (s : State) (p : Fin 8),
       taken (.pisteRestart p) s = true ∧ s.dev.pisteLive p = false ∧ (s.dev.pisteState p = phDown ∨ s.dev.pisteState p = phTest)) ∧
    (∃ (s : State) (p : Fin 8) (eye : Nat) (amp : Nat),
       taken (.ctleSweepStep p eye amp) s = true ∧ s.dev.pisteState p = phAdapt ∧ s.dev.flag (PST_PHY_CTL_ADAPT_FREEZE p) = false ∧ s.dev.pst.phy[p].sweep.length < 15) ∧
    (∃ (s : State) (p : Fin 8) (eye : Nat) (amp : Nat),
       taken (.ctleSweepStep p eye amp) s = true ∧ s.dev.pisteState p = phAdapt ∧ s.dev.flag (PST_PHY_CTL_ADAPT_FREEZE p) = false ∧ s.dev.pst.phy[p].sweep.length = 15) ∧
    (∃ (s : State) (p : Fin 8) (eu : Nat) (au : Nat) (ed : Nat) (ad : Nat),
       taken (.eqTrial p eu au ed ad) s = true ∧ s.dev.adapting p = true ∧ s.dev.get (PST_PHY_EQ_FOM p) + 8 ≤ fomOf eu au ∧ s.dev.get (PST_PHY_EQ_CTLE p) < 15 ∧ fomOf ed ad < fomOf eu au) ∧
    (∃ (s : State) (p : Fin 8) (eu : Nat) (au : Nat) (ed : Nat) (ad : Nat),
       taken (.eqTrial p eu au ed ad) s = true ∧ s.dev.adapting p = true ∧ s.dev.get (PST_PHY_EQ_FOM p) + 8 ≤ fomOf ed ad ∧ 0 < s.dev.get (PST_PHY_EQ_CTLE p) ∧ fomOf eu au ≤ fomOf ed ad) ∧
    (∃ (s : State) (p : Fin 8) (err : Bool) (past : BitVec 5),
       taken (.dfeLmsStep p err past) s = true ∧ s.dev.adapting p = true) ∧
    (∃ (s : State) (p : Fin 8) (eye : Nat) (amp : Nat) (invalid : Nat) (prbs : List Nat) (sig : Bool),
       taken (.fomUpdate p eye amp invalid prbs sig) s = true) ∧
    (∃ (s : State) (p : Fin 8) (t0 : Nat),
       taken (.echoComplete p .receiver) s = true ∧ s.dev.nodeAt p (s.dev.cenNodes p + 1) = none ∧ s.dev.pst.phy[p].echo = some t0) ∧
    (∃ (s : State) (p : Fin 8) (d : Nat),
       taken (.echoComplete p (.link1 (some d))) s = true) ∧
    (∃ (s : State) (p : Fin 8) (n : Fin 128) (odd : Bool) (d : Nat),
       taken (.echoComplete p (.node n odd (some d))) s = true) :=
  ⟨⟨testState [((PST_PHY_CTL_EN ((0 : Fin 8))), 0)], 0, by decide⟩,
   ⟨testState [((PST_PHY_CTL_EN ((0 : Fin 8))), 1), (EDG_LEG_CTL_ARMED 0, 1), (EDG_STG_STATUS_BOUND 0, 1)], 0, by decide⟩,
   ⟨testState [((PST_PHY_CTL_EN ((0 : Fin 8))), 1)], 0, by decide⟩,
   ⟨testState [(EDG_LEG_CTL_ARMED 0, 1), (EDG_STG_STATUS_BOUND 0, 1)], 0, by decide⟩,
   ⟨testState [(PST_PHY_STATE_STATE 0, phUp)], 0, by decide⟩,
   ⟨testState [((PST_PHY_STATE_STATE ((0 : Fin 8))), phDown)], 0, by decide⟩,
   ⟨testState [((PST_PHY_STATE_STATE ((0 : Fin 8))), phAdapt), ((PST_PHY_CTL_ADAPT_FREEZE ((0 : Fin 8))), 0)], 0, 0, 0, by decide⟩,
   ⟨testState [((PST_PHY_STATE_STATE ((0 : Fin 8))), phAdapt), ((PST_PHY_CTL_ADAPT_FREEZE ((0 : Fin 8))), 0), (PST_PHY_STATE_STATE 0, phAdapt)] (fun dd => dd.modPhy 0 (fun z => { z with sweep := List.replicate 15 0 })), 0, 0, 0, by decide⟩,
   ⟨testState [(PST_PHY_STATE_STATE 0, phUp)], 0, 100, 100, 0, 0, by decide⟩,
   ⟨testState [(PST_PHY_STATE_STATE 0, phUp), (PST_PHY_EQ_CTLE 0, 1)], 0, 0, 0, 100, 100, by decide⟩,
   ⟨testState [(PST_PHY_STATE_STATE 0, phUp)], 0, false, 0, by decide⟩,
   ⟨testState [], 0, 0, 0, 0, [], false, by decide⟩,
   ⟨testState [] (fun dd => let dd : Dev := { dd with pst := { dd.pst with phy := vupd dd.pst.phy ((0 : Fin 8)) (fun zz => { zz with echo := some ((0 : Nat)) }) } }; dd), 0, 0, by decide⟩,
   ⟨testState [], 0, 0, by decide⟩,
   ⟨testState [], 0, 0, false, 0, by decide⟩⟩

theorem witness_census_and_admission :
    (∃ (s : State) (seen : List StreamSeen) (unclaimed : List Nat),
       taken (.censusMark seen unclaimed) s = true) ∧
    (∃ (s : State) (p : Fin 8) (n : Fin 17) (lat : Nat),
       taken (.markReturn p n lat) s = true ∧ (s.dev.pst.time[p].returned || s.dev.pst.time[p].marks == 0) = true) ∧
    (∃ (s : State) (p : Fin 8) (n : Fin 17) (lat : Nat),
       taken (.markReturn p n lat) s = true ∧ s.dev.pst.time[p].returned = false ∧ s.dev.pst.time[p].marks ≠ 0) ∧
    (∃ (s : State) (f : RxFrame) (i : Fin 128),
       taken (.censusReplyReceived f) s = true ∧ frameOk f ftCensus = true ∧ s.dev.frameNode f = none ∧ s.dev.replyEntry f.piste (parseReply f.data) = none ∧ s.dev.refuseCause (parseReply f.data) = none ∧ s.dev.newEntry = some (i, false)) ∧
    (∃ (s : State) (i : Fin 128),
       taken (.pstAdmitAccept i) s = true ∧ s.dev.nodeState i = ndPending ∧ s.dev.get PST_PROT_STATUS_NODES < 128) ∧
    (∃ (s : State) (i : Fin 128),
       taken (.pstAdmitAccept i) s = true ∧ s.dev.nodeState i ≠ ndPending) ∧
    (∃ (s : State) (i : Fin 128),
       taken (.pstAdmitForget i) s = true ∧ (s.dev.nodeState i = ndLost ∨ s.dev.nodeState i = ndRefused)) ∧
    (∃ (s : State) (i : Fin 128),
       taken (.pstAdmitForget i) s = true ∧ s.dev.nodeState i ≠ ndLost ∧ s.dev.nodeState i ≠ ndRefused) :=
  ⟨⟨testState [], [], [], by decide⟩,
   ⟨testState [], 0, 0, 0, by decide⟩,
   ⟨testState [] (fun dd => let dd : Dev := { dd with pst := { dd.pst with time := vupd dd.pst.time ((0 : Fin 8)) (fun zz => { zz with returned := false }) } }; dd.modTime 0 (fun z => { z with marks := 1 })), 0, 0, 0, by decide⟩,
   ⟨testState [], testFrame 6 0 [1, 0, 0, 0, 0, 0, 0, 0, 1, 1, 1, 0, 0, 0, 0, 0, 0, 0, 0, 0, 0, 0, 0, 0, 0, 0, 0, 0, 0, 0, 0, 0], 0, by decide +kernel⟩,
   ⟨testState [((PST_NODE_INFO_STATE ((0 : Fin 128))), ndPending)], 0, by decide⟩,
   ⟨testState [], 0, by decide⟩,
   ⟨testState [((PST_NODE_INFO_STATE ((0 : Fin 128))), ndLost), (PST_NODE_INFO_STATE 0, ndLost)], 0, by decide⟩,
   ⟨testState [], 0, by decide⟩⟩

theorem witness_switch_commands_and_supply :
    (∃ (s : State) (n : Fin 20) (on : Bool),
       taken (.lswOnWrite n on) s = true ∧ (s.dev.lswOwner n).isSome = true) ∧
    (∃ (s : State) (n : Fin 20),
       taken (.lswOnWrite n true) s = true ∧ s.dev.lswOwner n = none ∧ (s.dev.flag (LSW_CH_STATUS_LATCH n) || s.dev.flag (LSW_CH_STATUS_LOCKED_CLAMP n)) = true) ∧
    (∃ (s : State) (n : Fin 20),
       taken (.lswOnWrite n false) s = true ∧ s.dev.lswOwner n = none ∧ s.dev.lsw.holdAt = none ∧ s.dev.get LSW_STATUS_SUPPLY ≠ suDip) ∧
    (∃ (s : State) (n : Fin 20),
       taken (.lswOnWrite n true) s = true ∧ s.dev.lswOwner n = none ∧ s.dev.lsw.holdAt = none ∧ s.dev.get LSW_STATUS_SUPPLY = suNormal ∧ s.dev.flag GEN_LIFECYCLE_SAFE_HOLD = false ∧ s.dev.flag (LSW_CH_STATUS_LATCH n) = false ∧ s.dev.flag (LSW_CH_STATUS_LOCKED_CLAMP n) = false ∧ s.dev.flag (LSW_CH_CFG_EN n) = true ∧ s.dev.lsw.chs[n].cooling = false) ∧
    (∃ (s : State) (n : Fin 20) (en : Bool),
       taken (.lswEnWrite n en) s = true ∧ s.dev.lswOwner n = none) ∧
    (∃ (s : State) (n : Fin 20),
       taken (.lswEnWrite n false) s = true ∧ s.dev.lswOwner n = none ∧ s.dev.lswOn n = true) ∧
    (∃ (s : State) (n : Fin 20),
       taken (.lswUnlock n) s = true ∧ s.dev.flag (LSW_CH_STATUS_LOCKED_CLAMP n) = true ∧ (decide (s.dev.dt < s.dev.lsw.chs[n].lockedAt + 10000000000) || s.dev.clampWin n != 0) = true) ∧
    (∃ (s : State) (n : Fin 20),
       taken (.lswUnlock n) s = true ∧ s.dev.flag (LSW_CH_STATUS_LOCKED_CLAMP n) = true ∧ s.dev.lsw.chs[n].lockedAt + 10000000000 ≤ s.dev.dt ∧ s.dev.clampWin n = 0) ∧
    (∃ (s : State) (l : List LswMeas) (vaux : Nat) (vhold : Nat) (u : Dev),
       taken (.lswAggEval l vaux vhold) s = true ∧ u = s.dev.start.tick .switches (Dev.ms 10) ∧ 30000 * (u.aggWindow l).length < ((u.aggWindow l).map (·.2)).sum) ∧
    (∃ (s : State) (l : List LswMeas) (vaux : Nat) (vhold : Nat) (t0 : Nat) (u : Dev),
       taken (.lswAggEval l vaux vhold) s = true ∧ u = s.dev.start.tick .switches (Dev.ms 10) ∧ ((u.aggWindow l).map (·.2)).sum ≤ 27000 * (u.aggWindow l).length ∧ s.dev.lsw.lowSince = some t0 ∧ t0 + 1000000000 ≤ u.dt) ∧
    (∃ (s : State),
       taken .vauxSurge s = true ∧ s.dev.get LSW_STATUS_SUPPLY ≠ suSurge) ∧
    (∃ (s : State) (peak : Nat),
       taken (.vauxSurgeEnd peak) s = true ∧ s.dev.get LSW_STATUS_SUPPLY = suSurge) ∧
    (∃ (s : State),
       taken .vauxDip s = true ∧ s.dev.get LSW_STATUS_SUPPLY ≠ suDip) ∧
    (∃ (s : State) (low : Nat),
       taken (.vauxDipEnd low) s = true ∧ s.dev.get LSW_STATUS_SUPPLY = suDip) ∧
    (∃ (s : State) (t0 : Nat),
       s.dev.lsw.holdAt = some t0) ∧
    (∃ (s : State),
       s.dev.lsw.holdAt = none) :=
  ⟨⟨testState [(VSS_OUT_CFG_EN 0, 1), (VSS_OUT_CFG_CONT_EN 0, 1), (VSS_OUT_CFG_CONT_CH 0, 0)], 0, false, by decide⟩,
   ⟨testState [(LSW_CH_STATUS_LATCH 0, 1)], 0, by decide⟩,
   ⟨testState [] (fun dd => let dd : Dev := { dd with lsw := { dd.lsw with holdAt := none } }; dd), 0, by decide⟩,
   ⟨testState [(LSW_STATUS_SUPPLY, suNormal), (GEN_LIFECYCLE_SAFE_HOLD, 0), ((LSW_CH_STATUS_LATCH ((0 : Fin 20))), 0), ((LSW_CH_STATUS_LOCKED_CLAMP ((0 : Fin 20))), 0), ((LSW_CH_CFG_EN ((0 : Fin 20))), 1)] (fun dd => let dd : Dev := { dd with lsw := { dd.lsw with holdAt := none } }; let dd : Dev := { dd with lsw := { dd.lsw with chs := vupd dd.lsw.chs ((0 : Fin 20)) (fun zz => { zz with cooling := false }) } }; dd), 0, by decide⟩,
   ⟨testState [], 0, false, by decide⟩,
   ⟨testState [(LSW_STATUS_ON, 2 ^ (((0 : Fin 20)) : Nat))], 0, by decide⟩,
   ⟨testState [((LSW_CH_STATUS_LOCKED_CLAMP ((0 : Fin 20))), 1)], 0, by decide⟩,
   ⟨testState [((LSW_CH_STATUS_LOCKED_CLAMP ((0 : Fin 20))), 1)] (fun dd => { dd with dt := 10000000000 }), 0, by decide⟩,
   ⟨testState [], [⟨40000, 0, false⟩], 0, 0, (testState []).dev.start.tick .switches (Dev.ms 10), by refine ⟨by decide, rfl, by decide⟩⟩,
   ⟨testState [] (fun dd => let dd : Dev := { dd with lsw := { dd.lsw with lowSince := some ((0 : Nat)) } }; { dd with dt := 1000000000, lsw := { dd.lsw with lowSince := some 0 } }), [], 0, 0, 0, (testState [] (fun dd => let dd : Dev := { dd with lsw := { dd.lsw with lowSince := some ((0 : Nat)) } }; { dd with dt := 1000000000, lsw := { dd.lsw with lowSince := some 0 } })).dev.start.tick .switches (Dev.ms 10), by refine ⟨by decide, rfl, by decide, by decide, by decide⟩⟩,
   ⟨testState [], by decide⟩,
   ⟨testState [(LSW_STATUS_SUPPLY, suSurge)], 0, by decide⟩,
   ⟨testState [], by decide⟩,
   ⟨testState [(LSW_STATUS_SUPPLY, suDip)], 0, by decide⟩,
   ⟨testState [] (fun dd => let dd : Dev := { dd with lsw := { dd.lsw with holdAt := some ((0 : Nat)) } }; dd), 0, by decide⟩,
   ⟨testState [] (fun dd => let dd : Dev := { dd with lsw := { dd.lsw with holdAt := none } }; dd), by decide⟩⟩

theorem witness_battery_estimator :
    (∃ (s : State) (g : Bool),
       taken (.estimatorStep g) s = true ∧ s.dev.bse.extra = false ∧ s.dev.flag BSE_CTRL_EN = false) ∧
    (∃ (s : State) (g : Bool),
       taken (.estimatorStep g) s = true ∧ s.dev.flag BSE_CTRL_EN = true ∧ s.dev.bse.extra = false) ∧
    (∃ (s : State),
       taken (.estimatorCommit true) s = true) ∧
    (∃ (s : State),
       taken (.estimatorCommit false) s = true) ∧
    (∃ (s : State) (k : Fin 48),
       taken (.stringEnable k) s = true ∧ s.dev.strEn k = false ∧ s.dev.strRefusal k = none) ∧
    (∃ (s : State) (k : Fin 48) (c : Code),
       taken (.stringEnable k) s = true ∧ s.dev.strEn k = false ∧ s.dev.strRefusal k = some c) ∧
    (∃ (s : State) (k : Fin 48),
       (s.dev.get (BSE_STR_CAP_C_RATED k) = 0 ∨ s.dev.get (BSE_STR_CFG_CELLS k) = 0 ∨ s.dev.get (BSE_STR_EMPTY_V_EMPTY k) = 0 ∨ s.dev.get (BSE_STR_FULL_V_FULL k) ≤ s.dev.get (BSE_STR_EMPTY_V_EMPTY k) ∨ s.dev.get (BSE_STR_VMAX_V_MAX k) < s.dev.get (BSE_STR_FULL_V_FULL k) ∨ s.dev.get (BSE_STR_FULL_I_TAPER k) ≤ s.dev.get (BSE_STR_REST_I_REST k) ∨ s.dev.get64 (BSE_STR_NODE_LO k) = 0)) ∧
    (∃ (s : State) (k : Fin 48),
       taken (.stringSwap k) s = true ∧ s.dev.strEn k = true) ∧
    (∃ (s : State) (k : Fin 48),
       taken (.stringForget k) s = true) ∧
    (∃ (s : State) (k : Fin 48),
       taken (.bmsStaleTimeout k) s = true ∧ s.dev.flag BSE_CTRL_EN = true ∧ s.dev.strEn k = true ∧ s.dev.flag (BSE_STR_STATUS_BMS_STALE k) = false ∧ s.dev.signals k ≠ []) ∧
    (∃ (s : State) (k : Fin 48),
       taken (.bmsStaleTimeout k) s = true ∧ s.dev.strEn k = false) ∧
    (∃ (s : State) (k : Fin 48),
       taken (.learnAgeTick k) s = true ∧ s.dev.strEn k = true) :=
  ⟨⟨testState [(BSE_CTRL_EN, 0)] (fun dd => let dd : Dev := { dd with bse := { dd.bse with extra := false } }; dd), false, by decide⟩,
   ⟨testState [(BSE_CTRL_EN, 1)] (fun dd => let dd : Dev := { dd with bse := { dd.bse with extra := false } }; dd), false, by decide⟩,
   ⟨testState [], by decide⟩,
   ⟨testState [], by decide⟩,
   ⟨testState [((BSE_STR_CFG_EN ((0 : Fin 48))), 0), (BSE_STR_CAP_C_RATED 0, 1), (BSE_STR_CFG_CELLS 0, 1), (BSE_STR_EMPTY_V_EMPTY 0, 1), (BSE_STR_FULL_V_FULL 0, 2), (BSE_STR_VMAX_V_MAX 0, 2), (BSE_STR_REST_I_REST 0, 0), (BSE_STR_FULL_I_TAPER 0, 1)] (fun dd => (List.range 11).foldl (fun e p => if p % 2 = 0 then e.set (BSE_OCV_LO 0 (p / 2)) (1000 + p) else e.set (BSE_OCV_HI 0 (p / 2)) (1000 + p)) (testRegs [(BSE_STR_NODE_LO 0, 1)] dd)), 0, by decide⟩,
   ⟨testState [((BSE_STR_CFG_EN ((0 : Fin 48))), 0)], 0, ST_BSE_STR_PARAM, by decide⟩,
   ⟨testState [((BSE_STR_CAP_C_RATED ((0 : Fin 48))), 0)], 0, by decide⟩,
   ⟨testState [((BSE_STR_CFG_EN ((0 : Fin 48))), 1)], 0, by decide⟩,
   ⟨testState [], 0, by decide⟩,
   ⟨testState [(BSE_CTRL_EN, 1), ((BSE_STR_CFG_EN ((0 : Fin 48))), 1), ((BSE_STR_STATUS_BMS_STALE ((0 : Fin 48))), 0), (BSE_STR_CFG_TPL_EN 0, 1), (BSE_SIG_CFG_EN 0, 1)], 0, by decide⟩,
   ⟨testState [((BSE_STR_CFG_EN ((0 : Fin 48))), 0)], 0, by decide⟩,
   ⟨testState [((BSE_STR_CFG_EN ((0 : Fin 48))), 1)], 0, by decide⟩⟩

theorem witness_object_actions_and_archive :
    (∃ (s : State) (o : ObjSrc) (c : Channel) (a : Assoc),
       taken (.periodCloseAction o) s = true ∧ s.dev.channelOf o = some c ∧ s.dev.assocOf c = some a ∧ isOperator a.role = true ∧ s.dev.flag BIL_STATUS_RUN = true) ∧
    (∃ (s : State) (o : ObjSrc) (c : Channel) (a : Assoc),
       taken (.magStartupClear o) s = true ∧ s.dev.channelOf o = some c ∧ s.dev.assocOf c = some a) ∧
    (∃ (s : State) (o : ObjSrc) (c : Channel) (a : Assoc) (n : Code),
       taken (.unboundedAcknowledge o n) s = true ∧ s.dev.channelOf o = some c ∧ s.dev.assocOf c = some a ∧ isMetrologist a.role = true) ∧
    (∃ (s : State) (o : ObjSrc) (c : Channel) (a : Assoc),
       taken (.sealBreak o) s = true ∧ s.dev.channelOf o = some c ∧ s.dev.assocOf c = some a ∧ isInstaller a.role = true ∧ s.dev.get VSS_STATUS_ENERGISED ≠ 0) ∧
    (∃ (s : State) (o : ObjSrc) (c : Channel) (a : Assoc),
       taken (.sealBreak o) s = true ∧ s.dev.channelOf o = some c ∧ s.dev.assocOf c = some a ∧ isInstaller a.role = true ∧ s.dev.get VSS_STATUS_ENERGISED = 0) ∧
    (∃ (s : State) (o : ObjSrc) (c : Channel) (a : Assoc),
       taken (.sealReseal o) s = true ∧ s.dev.channelOf o = some c ∧ s.dev.assocOf c = some a ∧ isMetrologist a.role = true) ∧
    (∃ (s : State) (src : Src) (f : Id64) (n : Byte) (l : Nat),
       taken (.manRead src f n l) s = true ∧ (n = 0 ∨ 16 < n.toNat)) ∧
    (∃ (s : State) (src : Src) (f : Id64) (n : Byte) (l : Nat),
       taken (.manRead src f n l) s = true ∧ 1 ≤ n.toNat ∧ n.toNat ≤ 16 ∧ l < 520 * n.toNat) ∧
    (∃ (s : State) (src : Src) (f : Id64) (n : Byte) (l : Nat),
       taken (.manRead src f n l) s = true ∧ 1 ≤ n.toNat ∧ n.toNat ≤ 16 ∧ 520 * n.toNat ≤ l) ∧
    (∃ (s : State) (src : Src) (k : Id64),
       taken (.manAck src k) s = true) :=
  ⟨⟨testState [(BIL_STATUS_RUN, 1)] (fun dd => let dd : Dev := { dd with bil := { dd.bil with assocs := [((⟨.host, .metrologist, 0⟩ : Assoc))] } }; dd), .desc (.ring 0 7), .host, ⟨.host, .metrologist, 0⟩, by decide⟩,
   ⟨testState [] (fun dd => let dd : Dev := { dd with bil := { dd.bil with assocs := [((⟨.host, .public_, 0⟩ : Assoc))] } }; dd), .desc (.ring 0 7), .host, ⟨.host, .public_, 0⟩, by decide⟩,
   ⟨testState [] (fun dd => let dd : Dev := { dd with bil := { dd.bil with assocs := [((⟨.host, .metrologist, 0⟩ : Assoc))] } }; dd), .desc (.ring 0 7), .host, ⟨.host, .metrologist, 0⟩, 0, by decide⟩,
   ⟨testState [(VSS_STATUS_ENERGISED, 1)] (fun dd => let dd : Dev := { dd with bil := { dd.bil with assocs := [((⟨.host, .metrologist, 0⟩ : Assoc))] } }; dd), .desc (.ring 0 7), .host, ⟨.host, .metrologist, 0⟩, by decide⟩,
   ⟨testState [(VSS_STATUS_ENERGISED, 0)] (fun dd => let dd : Dev := { dd with bil := { dd.bil with assocs := [((⟨.host, .metrologist, 0⟩ : Assoc))] } }; dd), .desc (.ring 0 7), .host, ⟨.host, .metrologist, 0⟩, by decide⟩,
   ⟨testState [] (fun dd => let dd : Dev := { dd with bil := { dd.bil with assocs := [((⟨.host, .metrologist, 0⟩ : Assoc))] } }; dd), .desc (.ring 0 7), .host, ⟨.host, .metrologist, 0⟩, by decide⟩,
   ⟨testState [], .ring 0 7, 0, 0, 0, by decide⟩,
   ⟨testState [], .ring 0 7, 0, 1, 0, by decide⟩,
   ⟨testState [], .ring 0 7, 0, 1, 520, by decide⟩,
   ⟨testState [], .ring 0 7, 0, by decide⟩⟩

theorem witness_modes_and_lifecycle :
    (∃ (s : State),
       taken (.shReqWrite true) s = true) ∧
    (∃ (s : State),
       taken (.shReqWrite false) s = true) ∧
    (∃ (s : State),
       taken .modeRunRequest s = true) ∧
    (∃ (s : State),
       taken .modeIdleRequest s = true ∧ s.dev.get EDG_STATUS_ARMED_LEGS = 0 ∧ s.dev.get VSS_STATUS_ENERGISED = 0) ∧
    (∃ (s : State),
       taken .modeIdleRequest s = true ∧ (s.dev.get EDG_STATUS_ARMED_LEGS ≠ 0 ∨ s.dev.get VSS_STATUS_ENERGISED ≠ 0)) ∧
    (∃ (s : State),
       taken .modeStandbyRequest s = true ∧ s.dev.modeStill = true) ∧
    (∃ (s : State),
       taken .modeStandbyRequest s = true ∧ s.dev.modeStill = false) ∧
    (∃ (s : State) (cert : List Byte),
       taken (.factoryClose true cert) s = true ∧ s.dev.life = lfManufacture) ∧
    (∃ (s : State) (p : Bool) (cert : List Byte),
       taken (.factoryClose p cert) s = true ∧ ((s.dev.life ≠ lfManufacture ∨ p = false))) ∧
    (∃ (s : State) (src : Src) (a : Assoc),
       taken (.lifecycle src (BitVec.ofNat 8 lfService)) s = true ∧ s.dev.life = lfCommissioning ∧ s.dev.serviceReady = true ∧ s.dev.assocOf .host = some a ∧ isInstaller a.role = true) ∧
    (∃ (s : State) (src : Src),
       taken (.lifecycle src (BitVec.ofNat 8 lfService)) s = true ∧ s.dev.life = lfCommissioning ∧ s.dev.assocOf .host = none) ∧
    (∃ (s : State) (src : Src) (a : Assoc),
       taken (.lifecycle src (BitVec.ofNat 8 lfCommissioning)) s = true ∧ s.dev.life = lfService ∧ s.dev.siteLive = true ∧ s.dev.assocOf .host = some a ∧ isInstaller a.role = true) ∧
    (∃ (s : State) (src : Src) (a : Assoc),
       taken (.lifecycle src (BitVec.ofNat 8 lfCommissioning)) s = true ∧ s.dev.life = lfService ∧ s.dev.siteLive = false ∧ s.dev.assocOf .host = some a ∧ isInstaller a.role = true) ∧
    (∃ (s : State) (src : Src),
       taken (.lifecycle src (BitVec.ofNat 8 lfCommissioning)) s = true ∧ s.dev.life = lfDebugOpen ∧ s.dev.key.debugOpen = false) ∧
    (∃ (s : State) (src : Src) (x : Byte),
       taken (.lifecycle src x) s = true ∧ s.dev.life = lfManufacture) :=
  ⟨⟨testState [], by decide⟩,
   ⟨testState [], by decide⟩,
   ⟨testState [], by decide⟩,
   ⟨testState [(EDG_STATUS_ARMED_LEGS, 0), (VSS_STATUS_ENERGISED, 0)], by decide⟩,
   ⟨testState [(EDG_STATUS_ARMED_LEGS, 1), (EDG_STATUS_ARMED_LEGS, 1)], by decide⟩,
   ⟨testState [], by decide⟩,
   ⟨testState [(VSS_STATUS_ACTIVE, 1)], by decide⟩,
   ⟨testState [(GEN_LIFECYCLE_LIFE, lfManufacture)], [], by decide⟩,
   ⟨testState [], false, [], by decide⟩,
   ⟨testState [(GEN_LIFECYCLE_LIFE, lfCommissioning), (SAF_STATUS_CONFIRMED, 1)] (fun dd => let dd : Dev := { dd with bil := { dd.bil with assocs := [((⟨.host, .metrologist, 0⟩ : Assoc))] } }; testKeys (testKey ktP256 kuManifest) dd), .ring 0 7, ⟨.host, .metrologist, 0⟩, by decide⟩,
   ⟨testState [(GEN_LIFECYCLE_LIFE, lfCommissioning)], .ring 0 7, by decide⟩,
   ⟨testState [(GEN_LIFECYCLE_LIFE, lfService), (VSS_STATUS_ACTIVE, 1)] (fun dd => let dd : Dev := { dd with bil := { dd.bil with assocs := [((⟨.host, .metrologist, 0⟩ : Assoc))] } }; dd), .ring 0 7, ⟨.host, .metrologist, 0⟩, by decide⟩,
   ⟨testState [(GEN_LIFECYCLE_LIFE, lfService), (VSS_STATUS_ACTIVE, 0)] (fun dd => let dd : Dev := { dd with bil := { dd.bil with assocs := [((⟨.host, .metrologist, 0⟩ : Assoc))] } }; dd), .ring 0 7, ⟨.host, .metrologist, 0⟩, by decide⟩,
   ⟨testState [(GEN_LIFECYCLE_LIFE, lfDebugOpen)] (fun dd => let dd : Dev := { dd with key := { dd.key with debugOpen := false } }; dd), .ring 0 7, by decide⟩,
   ⟨testState [(GEN_LIFECYCLE_LIFE, lfManufacture)], .ring 0 7, 0, by decide⟩⟩

theorem witness_blocks_pulses_and_display :
    (∃ (s : State) (a : GpSamples) (b : GpSamples),
       taken (.blockCommit a b) s = true) ∧
    (∃ (s : State) (a : GpSamples) (b : GpSamples) (g : Fin 2) (j : Fin 8),
       taken (.blockCommit a b) s = true ∧ s.dev.mtr.pendCal = [] ∧ s.dev.flag (MTR_GP_CFG_EN g) = true) ∧
    (∃ (s : State),
       taken .displayItemDue s = true ∧ s.dev.flag SLN_DISP_CFG_EN = false) ∧
    (∃ (s : State) (r : KeyRec),
       taken .displayItemDue s = true ∧ s.dev.flag SLN_DISP_CFG_EN = true ∧ s.dev.usableKey (s.dev.get SLN_DISP_CFG_KEY_SLOT) kuDisplay = some r) ∧
    (∃ (s : State) (k : Fin 4) (w : Nat) (l : List Nat),
       taken (.pulseStart k) s = true ∧ s.dev.mtr.pulses[k].due = w :: l ∧ s.dev.mtr.pulses[k].active = false) ∧
    (∃ (s : State) (k : Fin 4),
       taken (.pulseStart k) s = true ∧ (s.dev.mtr.pulses[k].active = true ∨ s.dev.mtr.pulses[k].due = [])) ∧
    (∃ (s : State) (k : Fin 4) (q : Nat × Nat),
       taken (.pulseEnd k) s = true ∧ s.dev.mtr.pulses[k].lastStart = some q) ∧
    (∃ (s : State) (g : Fin 2) (w : HarmWindow),
       taken (.harmonicWindowEnd g w) s = true ∧ s.dev.flag (MTR_GP_CFG_EN g) = true) ∧
    (∃ (s : State) (g : Fin 2) (w : HarmWindow),
       taken (.harmonicWindowEnd g w) s = true ∧ s.dev.flag (MTR_GP_CFG_EN g) = false) ∧
    (∃ (s : State) (k : Nat),
       taken .periodicSave s = true ∧ s.dev.nextSlot = some k) ∧
    (∃ (s : State),
       taken .periodicSave s = true ∧ s.dev.nextSlot = none) ∧
    (∃ (s : State) (k : Fin 16) (r : SaveRec) (l : List (Nat × SaveRec)),
       taken (.saveCommitCheck true) s = true ∧ s.dev.mtr.saving = (k.val, r) :: l) ∧
    (∃ (s : State) (k : Fin 16) (r : SaveRec) (l : List (Nat × SaveRec)),
       taken (.saveCommitCheck false) s = true ∧ s.dev.mtr.saving = (k.val, r) :: l) :=
  ⟨⟨testState [], ⟨[], []⟩, ⟨[], []⟩, by decide⟩,
   ⟨testState [((MTR_GP_CFG_EN ((0 : Fin 2))), 1)] (fun dd => let dd : Dev := { dd with mtr := { dd.mtr with pendCal := [] } }; dd), ⟨[], []⟩, ⟨[], []⟩, 0, 0, by decide⟩,
   ⟨testState [(SLN_DISP_CFG_EN, 0)], by decide⟩,
   ⟨testState [(SLN_DISP_CFG_EN, 1)] (fun dd => testKeys (testKey ktP256 kuDisplay) dd), testKey ktP256 kuDisplay, by decide⟩,
   ⟨testState [] (fun dd => let dd : Dev := { dd with mtr := { dd.mtr with pulses := vupd dd.mtr.pulses ((0 : Fin 4)) (fun zz => { zz with due := ((0 : Nat)) :: (([] : List Nat)) }) } }; let dd : Dev := { dd with mtr := { dd.mtr with pulses := vupd dd.mtr.pulses ((0 : Fin 4)) (fun zz => { zz with active := false }) } }; dd), 0, 0, [], by decide⟩,
   ⟨testState [] (fun dd => let dd : Dev := { dd with mtr := { dd.mtr with pulses := vupd dd.mtr.pulses ((0 : Fin 4)) (fun zz => { zz with active := true }) } }; dd), 0, by decide⟩,
   ⟨testState [] (fun dd => let dd : Dev := { dd with mtr := { dd.mtr with pulses := vupd dd.mtr.pulses ((0 : Fin 4)) (fun zz => { zz with lastStart := some (((0, 0) : Nat × Nat)) }) } }; dd), 0, (0, 0), by decide⟩,
   ⟨testState [((MTR_GP_CFG_EN ((0 : Fin 2))), 1)], 0, ⟨0, [], []⟩, by decide⟩,
   ⟨testState [((MTR_GP_CFG_EN ((0 : Fin 2))), 0)], 0, ⟨0, [], []⟩, by decide⟩,
   ⟨testState [], 0, by decide⟩,
   ⟨testState [(MTR_SAVE_STATUS_BAD_SLOTS, 65535)], by decide⟩,
   ⟨testState [] (fun dd => let dd : Dev := { dd with mtr := { dd.mtr with saving := (((0 : Fin 16)).val, ((⟨0, 0, 0, 0, false, [], [], none, [], [], [], [], 0⟩ : SaveRec))) :: (([] : List (Nat × SaveRec))) } }; dd), 0, ⟨0, 0, 0, 0, false, [], [], none, [], [], [], [], 0⟩, [], by decide⟩,
   ⟨testState [] (fun dd => let dd : Dev := { dd with mtr := { dd.mtr with saving := (((0 : Fin 16)).val, ((⟨0, 0, 0, 0, false, [], [], none, [], [], [], [], 0⟩ : SaveRec))) :: (([] : List (Nat × SaveRec))) } }; dd), 0, ⟨0, 0, 0, 0, false, [], [], none, [], [], [], [], 0⟩, [], by decide⟩⟩

theorem witness_billing_and_tampers :
    (∃ (s : State),
       taken .demandSubintervalEnd s = true ∧ s.dev.flag BIL_STATUS_RUN = false) ∧
    (∃ (s : State) (e : Nat),
       taken .demandSubintervalEnd s = true ∧ s.dev.flag BIL_STATUS_RUN = true ∧ s.dev.bil.subEnd = some e ∧ s.dev.bil.subValid = true ∧ s.dev.committedTo (s.dev.dtOfUtc e) = true ∧ 0 < e ∧ s.dev.nextScheduled.all (fun p => decide (e ≤ p)) = true) ∧
    (∃ (s : State) (e : Nat),
       taken .demandSubintervalEnd s = true ∧ s.dev.bil.subEnd = some e ∧ s.dev.committedTo (if s.dev.bil.subValid then s.dev.dtOfUtc e else e) = false) ∧
    (∃ (s : State),
       taken .tariffSwitch s = true ∧ s.dev.flag BIL_STATUS_RUN = false) ∧
    (∃ (s : State),
       taken .tariffSwitch s = true ∧ s.dev.flag BIL_STATUS_RUN = true ∧ s.dev.utcValid = false) ∧
    (∃ (s : State),
       taken .tariffSwitch s = true ∧ s.dev.flag BIL_STATUS_RUN = true ∧ s.dev.utcValid = true ∧ s.dev.bil.pendingCfg = none ∧ s.dev.tariffAt s.dev.utcNow + 1 ≠ s.dev.get BIL_STATUS_TARIFF) ∧
    (∃ (s : State),
       taken .billingPeriodClose s = true ∧ (s.dev.flag BIL_STATUS_RUN && s.dev.utcValid) = false) ∧
    (∃ (s : State) (u : Nat),
       taken .billingPeriodClose s = true ∧ (s.dev.flag BIL_STATUS_RUN && s.dev.utcValid) = true ∧ s.dev.nextScheduled = some u ∧ s.dev.committedTo (s.dev.dtOfUtc u) = true ∧ s.dev.bil.lastClosed.getD 0 < u) ∧
    (∃ (s : State) (u : Nat),
       taken .billingPeriodClose s = true ∧ s.dev.nextScheduled = some u ∧ s.dev.committedTo (s.dev.dtOfUtc u) = false) ∧
    (∃ (s : State) (w : Slew),
       taken .slewStep s = true ∧ s.dev.bil.slew = some w ∧ 10 < w.left) ∧
    (∃ (s : State) (w : Slew),
       taken .slewStep s = true ∧ s.dev.bil.slew = some w ∧ -10 ≤ w.left ∧ w.left ≤ 10) ∧
    (∃ (s : State),
       taken .slewStep s = true ∧ s.dev.bil.slew = none) ∧
    (∃ (s : State) (mT : Nat),
       mT ≤ s.dev.get BIL_TAMP_CFG_MAG_MT) ∧
    (∃ (s : State) (mT : Nat),
       s.dev.get BIL_TAMP_CFG_MAG_MT < mT ∧ s.dev.gen.phase = .running ∧ s.dev.flag BIL_TAMP_STATUS_NORMAL = true ∧ s.dev.bil.keyOp = false) ∧
    (∃ (s : State) (mT : Nat),
       s.dev.get BIL_TAMP_CFG_MAG_MT < mT ∧ s.dev.gen.phase = .running ∧ s.dev.flag BIL_TAMP_STATUS_NORMAL = true ∧ s.dev.bil.keyOp = true) ∧
    (∃ (s : State) (mT : Nat),
       s.dev.get BIL_TAMP_CFG_MAG_MT < mT ∧ s.dev.gen.phase = .running ∧ s.dev.flag BIL_TAMP_STATUS_NORMAL = false) ∧
    (∃ (s : State) (mT : Nat),
       s.dev.get BIL_TAMP_CFG_MAG_MT < mT ∧ s.dev.gen.phase = .hibernate) ∧
    (∃ (s : State) (mT : Nat),
       s.dev.gen.phase = .off) ∧
    (∃ (s : State) (pin : Fin 4) (high : Bool),
       ((s.dev.flag BIL_TAMP_CFG_COVER_EN = false ∨ s.dev.get BIL_TAMP_CFG_COVER_PIN ≠ pin.val ∨ s.dev.flag BIL_TAMP_CFG_COVER_POL ≠ high))) ∧
    (∃ (s : State) (pin : Fin 4) (high : Bool),
       s.dev.flag BIL_TAMP_CFG_COVER_EN = true ∧ s.dev.get BIL_TAMP_CFG_COVER_PIN = pin.val ∧ s.dev.flag BIL_TAMP_CFG_COVER_POL = high ∧ s.dev.gen.phase = .running ∧ s.dev.flag BIL_TAMP_STATUS_NORMAL = true ∧ s.dev.bil.keyOp = false) :=
  ⟨⟨testState [(BIL_STATUS_RUN, 0)], by decide⟩,
   ⟨testState [(BIL_STATUS_RUN, 1)] (fun dd => let dd : Dev := { dd with bil := { dd.bil with subEnd := some ((1 : Nat)) } }; let dd : Dev := { dd with bil := { dd.bil with subValid := true } }; dd), 1, by decide⟩,
   ⟨testState [] (fun dd => let dd : Dev := { dd with bil := { dd.bil with subEnd := some ((1000000000000 : Nat)) } }; { dd with bil := { dd.bil with subEnd := some ((1000000000000 : Nat)), subValid := false } }), 1000000000000, by decide⟩,
   ⟨testState [(BIL_STATUS_RUN, 0)], by decide⟩,
   ⟨testState [(BIL_STATUS_RUN, 1)], by decide⟩,
   ⟨testState [(BIL_STATUS_RUN, 1), (BIL_STATUS_RUN, 1), (BIL_STATUS_TIME_VALID, 1)] (fun dd => let dd : Dev := { dd with bil := { dd.bil with pendingCfg := none } }; { dd with gen := { dd.gen with pair := some (0, timeMin) } }), by decide⟩,
   ⟨testState [], by decide⟩,
   ⟨testState [(BIL_STATUS_RUN, 1), (BIL_STATUS_TIME_VALID, 1)] (fun dd => testRegs [(MTR_BLOCK_HI, 0xFFFF)] { dd with gen := { dd.gen with pair := some (0, timeMin) }, bil := { dd.bil with periodStart := timeMin, cfg := { dd.bil.cfg with cfg := 0x02001300#32 } } }), (testState [(BIL_STATUS_RUN, 1), (BIL_STATUS_TIME_VALID, 1)] (fun dd => testRegs [(MTR_BLOCK_HI, 0xFFFF)] { dd with gen := { dd.gen with pair := some (0, timeMin) }, bil := { dd.bil with periodStart := timeMin, cfg := { dd.bil.cfg with cfg := 0x02001300#32 } } })).dev.nextScheduled.getD 0, by decide +kernel⟩,
   ⟨testState [(BIL_STATUS_RUN, 1), (BIL_STATUS_TIME_VALID, 1)] (fun dd => { dd with gen := { dd.gen with pair := some (0, timeMin) }, bil := { dd.bil with periodStart := timeMin, cfg := { dd.bil.cfg with cfg := 0x02001300#32 } } }), (testState [(BIL_STATUS_RUN, 1), (BIL_STATUS_TIME_VALID, 1)] (fun dd => { dd with gen := { dd.gen with pair := some (0, timeMin) }, bil := { dd.bil with periodStart := timeMin, cfg := { dd.bil.cfg with cfg := 0x02001300#32 } } })).dev.nextScheduled.getD 0, by decide +kernel⟩,
   ⟨testState [] (fun dd => let dd : Dev := { dd with bil := { dd.bil with slew := some ((⟨20, 0⟩ : Slew)) } }; dd), ⟨20, 0⟩, by decide⟩,
   ⟨testState [] (fun dd => let dd : Dev := { dd with bil := { dd.bil with slew := some ((⟨0, 0⟩ : Slew)) } }; dd), ⟨0, 0⟩, by decide⟩,
   ⟨testState [] (fun dd => let dd : Dev := { dd with bil := { dd.bil with slew := none } }; dd), by decide⟩,
   ⟨testState [], 0, by decide⟩,
   ⟨testState [(BIL_TAMP_STATUS_NORMAL, 1)] (fun dd => let dd : Dev := { dd with gen := { dd.gen with phase := .running } }; let dd : Dev := { dd with bil := { dd.bil with keyOp := false } }; dd), 100000, by decide⟩,
   ⟨testState [(BIL_TAMP_STATUS_NORMAL, 1)] (fun dd => let dd : Dev := { dd with gen := { dd.gen with phase := .running } }; let dd : Dev := { dd with bil := { dd.bil with keyOp := true } }; dd), 100000, by decide⟩,
   ⟨testState [(BIL_TAMP_STATUS_NORMAL, 0)] (fun dd => let dd : Dev := { dd with gen := { dd.gen with phase := .running } }; dd), 100000, by decide⟩,
   ⟨testState [] (fun dd => let dd : Dev := { dd with gen := { dd.gen with phase := .hibernate } }; dd), 100000, by decide⟩,
   ⟨testState [] (fun dd => let dd : Dev := { dd with gen := { dd.gen with phase := .off } }; dd), 0, by decide⟩,
   ⟨testState [(BIL_TAMP_CFG_COVER_EN, 0)], 0, false, by decide⟩,
   ⟨testState [(BIL_TAMP_CFG_COVER_EN, 1), (BIL_TAMP_CFG_COVER_PIN, ((0 : Fin 4)).val), (BIL_TAMP_STATUS_NORMAL, 1)] (fun dd => let dd : Dev := { dd with gen := { dd.gen with phase := .running } }; let dd : Dev := { dd with bil := { dd.bil with keyOp := false } }; dd), 0, false, by decide⟩⟩

theorem witness_host_register_access :
    (∃ (s : State) (off : BitVec 21) (v : Word) (r : RegRow) (f : FieldRow),
       taken (.registerWrite off v) s = true ∧ off.toNat % 4 = 0 ∧ rowAt off.toNat = some r ∧ s.dev.halfOf r off.toNat = 0 ∧ f ∈ r.fields ∧ f.acc = .rw ∧ f.outside v = true ∧ Dev.bothAsked off.toNat v = false) ∧
    (∃ (s : State) (k : Fin 64) (v : Word),
       taken (.registerWrite (BitVec.ofNat 21 (HIF_MSIX_ADDR_LO k)) v) s = true) ∧
    (∃ (s : State) (n : Fin 256) (v : Word),
       taken (.reg64HighWrite (BitVec.ofNat 21 (HIF_RING_BASE_HI n)) v) s = true ∧ s.dev.flag (HIF_RING_CFG_EN n) = true) ∧
    (∃ (s : State) (i : Fin 408) (v : Word),
       taken (.registerWrite (BitVec.ofNat 21 (EDG_LEG_CFG i)) v) s = true ∧ s.dev.armed i = true) ∧
    (∃ (s : State) (off : BitVec 21) (v : Word) (r : RegRow),
       taken (.reg64LowWrite off v) s = true ∧ off.toNat % 4 = 0 ∧ rowAt off.toNat = some r ∧ s.dev.halfOf r off.toNat = 1) ∧
    (∃ (s : State) (n : Fin 256) (v : Word),
       taken (.reg64HighWrite (BitVec.ofNat 21 (HIF_RING_BASE_HI n)) v) s = true ∧ s.dev.flag (HIF_RING_CFG_EN n) = false ∧ (s.dev.staged (HIF_RING_BASE_LO n)).toNat % 4096 = 0) ∧
    (∃ (s : State) (off : BitVec 21) (r : RegRow),
       s.dev.live = true ∧ s.dev.blockServed (off.toNat / 65536) = true ∧ off.toNat % 4 = 0 ∧ rowAt off.toNat = some r ∧ s.dev.halfOf r off.toNat = 1) ∧
    (∃ (s : State) (off : BitVec 21) (r : RegRow),
       s.dev.live = true ∧ s.dev.blockServed (off.toNat / 65536) = true ∧ off.toNat % 4 = 0 ∧ rowAt off.toNat = some r ∧ s.dev.halfOf r off.toNat = 0 ∧ instanceAt off.toNat (PST_PHY_EQ 0) 256 8 = none) ∧
    (∃ (s : State) (p : Fin 8),
       s.dev.live = true ∧ s.dev.blockServed 6 = true) ∧
    (∃ (s : State) (n : Fin 256),
       s.dev.live = true) :=
  ⟨⟨testState [], BitVec.ofNat 21 ALC_RAMP, 0#32, (rowAt ALC_RAMP).getD noRow, (((rowAt ALC_RAMP).getD noRow).fields.find? (fun g => g.lo == 0)).getD noField, by decide⟩,
   ⟨testState [], 0, 0, by decide⟩,
   ⟨testState [((HIF_RING_CFG_EN ((0 : Fin 256))), 1)], 0, 1, by decide⟩,
   ⟨testState [((EDG_LEG_CTL_ARMED ((0 : Fin 408))), 1)], 0, 0, by decide⟩,
   ⟨testState [], BitVec.ofNat 21 (HIF_RING_BASE_LO 0), 0, (rowAt (HIF_RING_BASE_LO 0)).getD noRow, by decide⟩,
   ⟨testState [((HIF_RING_CFG_EN ((0 : Fin 256))), 0)], 0, 0, by decide⟩,
   ⟨testState [], BitVec.ofNat 21 (HIF_RING_BASE_LO 0), (rowAt (HIF_RING_BASE_LO 0)).getD noRow, by decide⟩,
   ⟨testState [], 0, (rowAt 0).getD noRow, by decide⟩,
   ⟨testState [], 0, by decide⟩,
   ⟨testState [], 0, by decide⟩⟩

theorem witness_reads_configuration_and_uart :
    (∃ (s : State) (src : Src) (a : Word),
       taken (.regRead src [a]) s = true ∧ a.toNat < 0x200000) ∧
    (∃ (s : State) (src : Src) (a : Word) (b : Word),
       taken (.regRead src [a, b]) s = true ∧ a.toNat < 0x200000 ∧ b.toNat < 0x200000) ∧
    (∃ (s : State) (src : Src) (l : List Word),
       taken (.regRead src l) s = true ∧ (l = [] ∨ 256 < l.length)) ∧
    (∃ (s : State) (l : LongSrc) (x : List Byte),
       taken (.cfgWrite l x) s = true ∧ s.dev.longCheck l = none ∧ s.dev.flag GEN_LIFECYCLE_CAUSE_CONFIG = false ∧ (s.dev.life ≠ lfCommissioning ∨ s.dev.siteLive = true)) ∧
    (∃ (s : State) (l : LongSrc) (x : List Byte),
       taken (.cfgWrite l x) s = true ∧ s.dev.longCheck l = none ∧ s.dev.flag GEN_LIFECYCLE_CAUSE_CONFIG = true ∧ s.dev.cfgImageOf x = none) ∧
    (∃ (s : State) (l : LongSrc) (x : List Byte) (y : CfgImage),
       taken (.cfgWrite l x) s = true ∧ s.dev.longCheck l = none ∧ (s.dev.flag GEN_LIFECYCLE_CAUSE_CONFIG = true ∨ (s.dev.life = lfCommissioning ∧ s.dev.siteLive = false)) ∧ s.dev.cfgImageOf x = some y ∧ s.dev.firstBadRecord (s.dev.flag GEN_LIFECYCLE_CAUSE_CONFIG) y.cal ((s.dev.assocOf .host).any (fun a => isInstaller a.role)) 0 y.records = none) ∧
    (∃ (s : State) (frame : List Byte),
       taken (.uartFrameReceived frame) s = true ∧ uartPayload frame = none) ∧
    (∃ (s : State) (frame : List Byte) (p : List Byte),
       taken (.uartFrameReceived frame) s = true ∧ uartPayload frame = some p ∧ 64 ≤ p.length ∧ (parseDesc (p.take 64)).clean = true ∧ Dev.opcodeKnown (parseDesc (p.take 64)).opcode = true ∧ Dev.opcodeOnUart (parseDesc (p.take 64)).opcode = false) ∧
    (∃ (s : State) (frame : List Byte) (p : List Byte),
       taken (.uartFrameReceived frame) s = true ∧ uartPayload frame = some p ∧ 64 ≤ p.length ∧ (((parseDesc (p.take 64)).clean = false ∨ Dev.opcodeKnown (parseDesc (p.take 64)).opcode = false))) :=
  ⟨⟨testState [], .ring 0 7, 0, by decide⟩,
   ⟨testState [], .ring 0 7, 0, 0, by decide⟩,
   ⟨testState [], .ring 0 7, [], by decide⟩,
   ⟨testState [(GEN_LIFECYCLE_CAUSE_CONFIG, 0)], ⟨.ring 0 7, 4096, 8192, 4096⟩, [], by decide⟩,
   ⟨testState [(GEN_LIFECYCLE_CAUSE_CONFIG, 1)], ⟨.ring 0 7, 4096, 8192, 4096⟩, [], by decide⟩,
   ⟨testState [(GEN_LIFECYCLE_CAUSE_CONFIG, 1), (GEN_LIFECYCLE_LIFE, lfCommissioning)], ⟨.ring 0 7, 4096, 8192, 4096⟩, testImage ([1, 4, 0, 0] ++ leBytes 4 ALC_RAMP ++ leBytes 4 (resetWord ALC_RAMP).toNat), ⟨false, 0, [.reg ALC_RAMP (resetWord ALC_RAMP)]⟩, by decide +kernel⟩,
   ⟨testState [], [], by decide⟩,
   ⟨testState [], testUart (testDesc 0x0102), testDesc 0x0102, by decide +kernel⟩,
   ⟨testState [], testUart (testDesc 0xFFFF), testDesc 0xFFFF, by decide +kernel⟩⟩

theorem witness_doorbells_and_link :
    (∃ (s : State) (n : Fin 256) (v : Word),
       taken (.submitDoorbell n v) s = true ∧ (s.dev.flag (HIF_RING_CFG_EN n) = false ∨ s.dev.ringSize n ≤ v.toNat % 4096)) ∧
    (∃ (s : State) (n : Fin 256) (v : Word),
       taken (.submitDoorbell n v) s = true ∧ s.dev.flag (HIF_RING_CFG_EN n) = true ∧ v.toNat % 4096 < s.dev.ringSize n ∧ s.dev.get (HIF_RING_CFG_KIND n) = kindSubmit) ∧
    (∃ (s : State) (n : Fin 256) (v : Word),
       taken (.headDoorbell n v) s = true ∧ s.dev.flag (HIF_RING_CFG_EN n) = true ∧ v.toNat % 4096 < s.dev.ringSize n ∧ s.dev.get (HIF_RING_CFG_KIND n) ≠ kindSubmit ∧ (s.dev.get (HIF_RING_STATUS_INDEX n) + s.dev.ringSize n - s.dev.hif.rings[n].hostIdx) % s.dev.ringSize n < (v.toNat % 4096 + s.dev.ringSize n - s.dev.hif.rings[n].hostIdx) % s.dev.ringSize n) ∧
    (∃ (s : State) (n : Fin 256) (v : Word),
       taken (.headDoorbell n v) s = true ∧ s.dev.flag (HIF_RING_CFG_EN n) = true ∧ v.toNat % 4096 < s.dev.ringSize n ∧ s.dev.get (HIF_RING_CFG_KIND n) ≠ kindSubmit ∧ v.toNat % 4096 = s.dev.get (HIF_RING_STATUS_INDEX n) ∧ s.dev.hif.rings[n].staged = [] ∧ s.dev.hif.alertStore = []) ∧
    (∃ (s : State) (n : Fin 256) (part : List (Fin 256)) (es : List (List Byte)),
       taken (.descriptorFetch n part es) s = true ∧ (s.dev.flag HIF_CTRL_QUIESCE = true ∨ s.dev.covered n = 0)) ∧
    (∃ (s : State) (n : Fin 256) (part : List (Fin 256)) (e : List Byte),
       taken (.descriptorFetch n part [e]) s = true ∧ s.dev.get (HIF_RING_CFG_LOG2 n) ≤ 12 ∧ s.dev.mayFetch n part [parseDesc e] = true ∧ s.dev.descBad n (parseDesc e) = none) ∧
    (∃ (s : State) (n : Fin 256) (part : List (Fin 256)) (e : List Byte),
       taken (.descriptorFetch n part [e]) s = true ∧ s.dev.get (HIF_RING_CFG_LOG2 n) ≤ 12 ∧ s.dev.mayFetch n part [parseDesc e] = true ∧ Dev.opcodeKnown (parseDesc e).opcode = false) ∧
    (∃ (s : State) (n : Fin 256) (part : List (Fin 256)) (es : List (List Byte)),
       taken (.descriptorFetch n part es) s = true ∧ s.dev.mayFetch n part (es.map parseDesc) = true ∧ 64 < es.length) ∧
    (∃ (s : State) (src : Src),
       taken (.nop src) s = true) ∧
    (∃ (s : State) (v : Fin 64) (t0 : Nat),
       taken (.vectorTimeExpiry v) s = true ∧ s.dev.hif.vectors[v].armed = true ∧ s.dev.hif.vectors[v].firstDt = some t0) ∧
    (∃ (s : State) (c : LinkLossCause),
       taken (.pcieLinkLoss c) s = true ∧ s.dev.flag HIF_STATUS_LINK_UP = true) ∧
    (∃ (s : State) (c : LinkLossCause),
       taken (.pcieLinkLoss c) s = true ∧ s.dev.flag HIF_STATUS_LINK_UP = false) ∧
    (∃ (s : State) (n : Fin 256),
       taken (.dmaError (.ring n none)) s = true ∧ s.dev.ringUsable n (s.dev.get (HIF_RING_CFG_KIND n)) = true) ∧
    (∃ (s : State) (n : Fin 256) (tag : Word),
       taken (.dmaError (.operation (.ring n tag))) s = true ∧ s.dev.longOf (.ring n tag) = none ∧ (s.dev.execOf n tag).isSome = true) :=
  ⟨⟨testState [((HIF_RING_CFG_EN ((0 : Fin 256))), 0)], 0, 0, by decide⟩,
   ⟨testState [((HIF_RING_CFG_EN ((0 : Fin 256))), 1), ((HIF_RING_CFG_KIND ((0 : Fin 256))), kindSubmit)], 0, 0, by decide⟩,
   ⟨testState [((HIF_RING_CFG_EN ((0 : Fin 256))), 1), (HIF_RING_CFG_LOG2 0, 4), (HIF_RING_CFG_KIND 0, kindComplete)], 0, 3, by decide⟩,
   ⟨testState [((HIF_RING_CFG_EN ((0 : Fin 256))), 1), (HIF_RING_CFG_LOG2 0, 4), (HIF_RING_CFG_KIND 0, kindComplete)] (fun dd => let dd : Dev := { dd with hif := { dd.hif with rings := vupd dd.hif.rings ((0 : Fin 256)) (fun zz => { zz with staged := [] }) } }; let dd : Dev := { dd with hif := { dd.hif with alertStore := [] } }; dd), 0, 0, by decide⟩,
   ⟨testState [(HIF_CTRL_QUIESCE, 1)], 0, [], [], by decide⟩,
   ⟨testState [(HIF_STATUS_LINK_UP, 1), (HIF_RING_CFG_EN 0, 1), (HIF_RING_STATUS_STATE 0, 1), (HIF_RING_CFG_LOG2 0, 4), (HIF_RING_CFG_CQ 0, 1), (HIF_RING_CFG_EN 1, 1), (HIF_RING_STATUS_STATE 1, 1), (HIF_RING_CFG_KIND 1, kindComplete), (HIF_RING_CFG_LOG2 1, 4)] (fun dd => testFetch 1 dd), 0, [], testDesc 0x0100, by decide +kernel⟩,
   ⟨testState [(HIF_STATUS_LINK_UP, 1), (HIF_RING_CFG_EN 0, 1), (HIF_RING_STATUS_STATE 0, 1), (HIF_RING_CFG_LOG2 0, 4), (HIF_RING_CFG_CQ 0, 1), (HIF_RING_CFG_EN 1, 1), (HIF_RING_STATUS_STATE 1, 1), (HIF_RING_CFG_KIND 1, kindComplete), (HIF_RING_CFG_LOG2 1, 4)] (fun dd => testFetch 1 dd), 0, [], testDesc 0xFFFF, by decide +kernel⟩,
   ⟨testState [(HIF_STATUS_LINK_UP, 1), (HIF_RING_CFG_EN 0, 1), (HIF_RING_STATUS_STATE 0, 1), (HIF_RING_CFG_LOG2 0, 7), (HIF_RING_CFG_CQ 0, 1), (HIF_RING_CFG_EN 1, 1), (HIF_RING_STATUS_STATE 1, 1), (HIF_RING_CFG_KIND 1, kindComplete), (HIF_RING_CFG_LOG2 1, 4)] (fun dd => testFetch 65 dd), 0, [], List.replicate 64 (leBytes 2 0x100 ++ [1] ++ List.replicate 61 0) ++ [testDesc 0x100], by decide +kernel⟩,
   ⟨testState [], .ring 0 7, by decide⟩,
   ⟨testState [] (fun dd => let dd : Dev := { dd with hif := { dd.hif with vectors := vupd dd.hif.vectors ((0 : Fin 64)) (fun zz => { zz with armed := true }) } }; let dd : Dev := { dd with hif := { dd.hif with vectors := vupd dd.hif.vectors ((0 : Fin 64)) (fun zz => { zz with firstDt := some ((0 : Nat)) }) } }; dd), 0, 0, by decide⟩,
   ⟨testState [(HIF_STATUS_LINK_UP, 1)], .dlDown, by decide⟩,
   ⟨testState [(HIF_STATUS_LINK_UP, 0)], .dlDown, by decide⟩,
   ⟨testState [(HIF_STATUS_LINK_UP, 1), (HIF_RING_CFG_EN 0, 1), (HIF_RING_STATUS_STATE 0, 1)], 0, by decide⟩,
   ⟨testState [] (fun dd => { dd with hif := { dd.hif with long := [], exec := [⟨0, 0, 0, 0, false, true, false, none, 0, 0⟩] } }), 0, 0, by decide⟩⟩

theorem witness_leg_cutoff_and_fault_input :
    (∃ (s : State) (leg : LegRef) (e : Nat × Nat),
       taken (.legCutoff leg) s = true ∧ s.dev.isSecondPin leg.ix = false ∧ s.dev.period leg.ix ≠ 0 ∧ s.dev.armed leg.ix = true ∧ (s.dev.leg leg.ix).pend = some e) ∧
    (∃ (s : State) (leg : LegRef),
       taken (.legCutoff leg) s = true ∧ s.dev.isSecondPin leg.ix = false ∧ s.dev.period leg.ix ≠ 0 ∧ s.dev.armed leg.ix = false) ∧
    (∃ (s : State) (k : Fin 4),
       taken (.fltInputAssert k) s = true ∧ s.dev.flag (EDG_FLT_EN k) = false) ∧
    (∃ (s : State) (k : Fin 4) (n : Fin 24),
       taken (.fltInputAssert k) s = true ∧ s.dev.flag (EDG_FLT_EN k) = true ∧ s.dev.isSecondPin (LegRef.pwm n).ix = false ∧ s.dev.armed (LegRef.pwm n).ix = true ∧ s.dev.fltCovers k (LegRef.pwm n).ix = true) :=
  ⟨⟨testState [((EDG_LEG_CTL_ARMED (((.leg 0) : LegRef)).ix), 1), (EDG_LEG_PERIOD_PERIOD 0, 20000)] (fun dd => let dd : Dev := { dd with edg := { dd.edg with legs := vupd dd.edg.legs (((.leg 0) : LegRef)).ix (fun zz => { zz with pend := some (((0, 0) : Nat × Nat)) }) } }; dd), (.leg 0), (0, 0), by decide⟩,
   ⟨testState [((EDG_LEG_CTL_ARMED (((.leg 0) : LegRef)).ix), 0), (EDG_LEG_PERIOD_PERIOD 0, 20000)], (.leg 0), by decide⟩,
   ⟨testState [((EDG_FLT_EN ((0 : Fin 4))), 0)], 0, by decide⟩,
   ⟨testState [((EDG_FLT_EN ((0 : Fin 4))), 1), (EDG_LEG_CTL_ARMED 384, 1), (EDG_FLT_MASK 0, 1)], 0, 0, by decide⟩⟩

theorem witness_site_trip_latch :
    (∃ (s : State) (withClear : Bool),
       taken (.alcHostTrip withClear) s = true ∧ s.dev.flag ALC_TRIP_HOST_TRIP = false) ∧
    (∃ (s : State),
       taken (.alcHostTrip false) s = true ∧ s.dev.flag ALC_TRIP_HOST_TRIP = true) ∧
    (∃ (s : State),
       taken .alcTripClear s = true ∧ s.dev.tripCausePresent = true) ∧
    (∃ (s : State),
       taken .alcTripClear s = true ∧ s.dev.tripCausePresent = false ∧ s.dev.flag ALC_STATUS_TRIPPED = true) ∧
    (∃ (s : State),
       taken .alcTripClear s = true ∧ s.dev.tripCausePresent = false ∧ s.dev.flag ALC_STATUS_TRIPPED = false) ∧
    (∃ (s : State) (src : Src),
       taken (.tripClear src) s = true ∧ s.dev.tripCausePresent = true) ∧
    (∃ (s : State) (src : Src),
       taken (.tripClear src) s = true ∧ s.dev.tripCausePresent = false ∧ s.dev.flag ALC_STATUS_TRIPPED = true) ∧
    (∃ (s : State) (src : Src),
       taken (.tripClear src) s = true ∧ s.dev.tripCausePresent = false ∧ s.dev.flag ALC_STATUS_TRIPPED = false) :=
  ⟨⟨testState [(ALC_TRIP_HOST_TRIP, 0)], false, by decide⟩,
   ⟨testState [(ALC_TRIP_HOST_TRIP, 1)], by decide⟩,
   ⟨testState [(ALC_TRIP_CAUSE_GRID, 1), (MTR_GP_STATUS_LOST 0, 1)], by decide⟩,
   ⟨testState [(ALC_STATUS_TRIPPED, 1)], by decide⟩,
   ⟨testState [(ALC_STATUS_TRIPPED, 0)], by decide⟩,
   ⟨testState [(ALC_TRIP_CAUSE_GRID, 1), (MTR_GP_STATUS_LOST 0, 1)], .ring 0 7, by decide⟩,
   ⟨testState [(ALC_STATUS_TRIPPED, 1)], .ring 0 7, by decide⟩,
   ⟨testState [(ALC_STATUS_TRIPPED, 0)], .ring 0 7, by decide⟩⟩

theorem witness_cable_trips_and_bands :
    (∃ (s : State) (n : Fin 16),
       taken (.cableFlowTrip n) s = true ∧ (s.dev.cab n).flowLowSince = none) ∧
    (∃ (s : State) (n : Fin 16) (since : Nat),
       taken (.cableFlowTrip n) s = true ∧ (s.dev.cab n).flowLowSince = some since ∧ s.dev.flag (THM_CAB_STATUS_TRIP n) = false) ∧
    (∃ (s : State) (n : Fin 16),
       taken (.cableTripClear n) s = true ∧ ((s.dev.cab n).coolSince.isNone || !s.dev.flag (THM_CAB_STATUS_TRIP n)) = true) ∧
    (∃ (s : State) (n : Fin 16) (since : Nat),
       taken (.cableTripClear n) s = true ∧ (s.dev.cab n).coolSince = some since ∧ s.dev.flag (THM_CAB_STATUS_TRIP n) = true) ∧
    (∃ (s : State) (n : Fin 16),
       taken (.bandFall n) s = true ∧ (s.dev.cab n).fallSince = none) ∧
    (∃ (s : State) (n : Fin 16) (since : Nat),
       taken (.bandFall n) s = true ∧ (s.dev.cab n).fallSince = some since) ∧
    (∃ (s : State) (n : Fin 16),
       taken (.cableEnable n) s = true ∧ s.dev.flag (THM_CAB_CFG_EN n) = false ∧ s.dev.cabParamOk n = false) ∧
    (∃ (s : State) (n : Fin 16),
       taken (.cableEnable n) s = true ∧ s.dev.flag (THM_CAB_CFG_EN n) = false ∧ s.dev.cabParamOk n = true) :=
  ⟨⟨testState [] (fun dd => let dd : Dev := { dd with thm := { dd.thm with cab := vupd dd.thm.cab ((0 : Fin 16)) (fun zz => { zz with flowLowSince := none }) } }; dd), 0, by decide⟩,
   ⟨testState [((THM_CAB_STATUS_TRIP ((0 : Fin 16))), 0)] (fun dd => let dd : Dev := { dd with thm := { dd.thm with cab := vupd dd.thm.cab ((0 : Fin 16)) (fun zz => { zz with flowLowSince := some ((0 : Nat)) }) } }; dd), 0, 0, by decide⟩,
   ⟨testState [], 0, by decide⟩,
   ⟨testState [((THM_CAB_STATUS_TRIP ((0 : Fin 16))), 1)] (fun dd => let dd : Dev := { dd with thm := { dd.thm with cab := vupd dd.thm.cab ((0 : Fin 16)) (fun zz => { zz with coolSince := some ((0 : Nat)) }) } }; dd), 0, 0, by decide⟩,
   ⟨testState [] (fun dd => let dd : Dev := { dd with thm := { dd.thm with cab := vupd dd.thm.cab ((0 : Fin 16)) (fun zz => { zz with fallSince := none }) } }; dd), 0, by decide⟩,
   ⟨testState [] (fun dd => let dd : Dev := { dd with thm := { dd.thm with cab := vupd dd.thm.cab ((0 : Fin 16)) (fun zz => { zz with fallSince := some ((0 : Nat)) }) } }; dd), 0, 0, by decide⟩,
   ⟨testState [((THM_CAB_CFG_EN ((0 : Fin 16))), 0)], 0, by decide⟩,
   ⟨testState [((THM_CAB_CFG_EN ((0 : Fin 16))), 0), (THM_CAB_TEMP_T_LIM 0, 70), (THM_CAB_TEMP_T_TRIP 0, 80), (THM_CAB_TEMP_T_HARD 0, 90), (THM_CAB_OBS_HORIZON 0, 60), (THM_CAB_CFG_I_RATED 0, 100), (THM_SNS_CFG_EN 0, 1), (THM_SNS_CFG_ROLE 0, 1), (THM_SNS_CFG_EN 1, 1), (THM_SNS_CFG_ROLE 1, 2)] (fun dd => testRegs ([THM_CAB_C1 0, THM_CAB_C2 0, THM_CAB_C3 0].map (fun a => (a, 0x447A0000#32)) ++ [THM_CAB_G12 0, THM_CAB_G13 0, THM_CAB_G23 0, THM_CAB_GF 0, THM_CAB_RC 0, THM_CAB_RP 0].map (fun a => (a, 0x3F800000#32))) dd), 0, by decide +kernel⟩⟩

theorem witness_slot_open_close_clear :
    (∃ (s : State) (m : Fin 128),
       taken (.slotClose m) s = true ∧ s.dev.slotClosed m = true) ∧
    (∃ (s : State) (m : Fin 128) (c : Code),
       taken (.slotClose m) s = true ∧ s.dev.slotClosed m = false ∧ s.dev.closeCheck m = some c) ∧
    (∃ (s : State) (m : Fin 128),
       taken (.slotClose m) s = true ∧ s.dev.slotClosed m = false ∧ s.dev.closeCheck m = none) ∧
    (∃ (s : State) (m : Fin 128),
       taken (.slotOpen m) s = true ∧ s.dev.slotClosed m = false) ∧
    (∃ (s : State) (m : Fin 128),
       taken (.slotOpen m) s = true ∧ s.dev.slotClosed m = true ∧ s.dev.feedsArmed m = true) ∧
    (∃ (s : State) (m : Fin 128),
       taken (.slotOpen m) s = true ∧ s.dev.slotClosed m = true ∧ s.dev.feedsArmed m = false ∧ s.dev.cle.slots[m].queued = none ∧ s.dev.cle.slots[m].started = none) ∧
    (∃ (s : State) (m : Fin 128) (x : SlotExec × Nat),
       taken (.slotOpen m) s = true ∧ s.dev.slotClosed m = true ∧ s.dev.feedsArmed m = false ∧ s.dev.cle.slots[m].queued = none ∧ s.dev.cle.slots[m].started = some x) ∧
    (∃ (s : State) (m : Fin 128),
       taken (.slotFaultClear m) s = true ∧ (s.dev.justSet (CLE_SLOT_CTL m)).getLsbD 29 = false) ∧
    (∃ (s : State) (m : Fin 128),
       taken (.slotFaultClear m) s = true ∧ (s.dev.justSet (CLE_SLOT_CTL m)).getLsbD 29 = true) :=
  ⟨⟨testState [((CLE_SLOT_CTL_STATE ((0 : Fin 128))), 1)], 0, by decide⟩,
   ⟨testState [((CLE_SLOT_CTL_STATE ((0 : Fin 128))), 0)], 0, ST_CLE_CLE_DISABLED, by decide⟩,
   ⟨testState [((CLE_SLOT_CTL_STATE ((0 : Fin 128))), 0), (CLE_CTRL_EN, 1), (CLE_SLOT_PERIOD_PERIOD 0, 20000)] (fun dd => testRegs [(CLE_SLOT_YMIN0 0, 0), (CLE_SLOT_YMAX0 0, 0x3F800000#32)] dd), 0, by decide +kernel⟩,
   ⟨testState [((CLE_SLOT_CTL_STATE ((0 : Fin 128))), 0)], 0, by decide⟩,
   ⟨testState [((CLE_SLOT_CTL_STATE ((0 : Fin 128))), 1), (EDG_LEG_CTL_ARMED 0, 1), (CLE_MAP_SRC_EN 0, 1), (CLE_MAP_SRC_SLOT0 0, 0)], 0, by decide⟩,
   ⟨testState [((CLE_SLOT_CTL_STATE ((0 : Fin 128))), 1)] (fun dd => let dd : Dev := { dd with cle := { dd.cle with slots := vupd dd.cle.slots ((0 : Fin 128)) (fun zz => { zz with queued := none }) } }; let dd : Dev := { dd with cle := { dd.cle with slots := vupd dd.cle.slots ((0 : Fin 128)) (fun zz => { zz with started := none }) } }; dd), 0, by decide⟩,
   ⟨testState [((CLE_SLOT_CTL_STATE ((0 : Fin 128))), 1)] (fun dd => let dd : Dev := { dd with cle := { dd.cle with slots := vupd dd.cle.slots ((0 : Fin 128)) (fun zz => { zz with queued := none }) } }; let dd : Dev := { dd with cle := { dd.cle with slots := vupd dd.cle.slots ((0 : Fin 128)) (fun zz => { zz with started := some (((⟨0, 0, 0, 0, 0, 0⟩, 0) : SlotExec × Nat)) }) } }; dd), 0, (⟨0, 0, 0, 0, 0, 0⟩, 0), by decide⟩,
   ⟨testState [], 0, by decide⟩,
   ⟨testState [] (fun dd => { dd with sets := [(0, CLE_SLOT_CTL 0, 0x20000000)] }), 0, by decide⟩⟩

theorem witness_observer_limit_and_sensors :
    (∃ (s : State) (p0 : Word) (p1 : Word) (p2 : Word) (p3 : Word),
       taken (.cableObserverStep p0 p1 p2 p3) s = true) ∧
    (∃ (s : State) (p0 : Word) (p1 : Word) (p2 : Word) (p3 : Word) (n : Fin 16) (u : Dev) (v : Int × Int) (i : Rat) (t1 : Rat) (t2 : Rat) (t3 : Rat) (q12 : Rat) (q13 : Rat) (q23 : Rat) (ts : Rat),
       taken (.cableObserverStep p0 p1 p2 p3) s = true ∧ s.dev.cabLive n = true ∧ (s.dev.cab n).started = true ∧ u = s.dev.start.reach (s.dev.nextMultiple (Dev.ms 1) s.dev.thm.lastStep) ∧ u.measOf n = some v ∧ i = mkRat v.2.natAbs (2 ^ 32) ∧ t1 = fxRat (s.dev.cab n).t1 ∧ t2 = fxRat (s.dev.cab n).t2 ∧ t3 = fxRat (s.dev.cab n).t3 ∧ ts = mkRat 1 1000 ∧ q12 = u.ratAt (THM_CAB_G12 n) * (t1 - t2) ∧ q13 = u.ratAt (THM_CAB_G13 n) * (t1 - t3) ∧ q23 = u.ratAt (THM_CAB_G23 n) * (t2 - t3)) ∧
    (∃ (s : State) (n : Fin 16),
       taken (.cableLimitPublish n) s = true ∧ s.dev.cabLive n = false) ∧
    (∃ (s : State) (n : Fin 16),
       taken (.cableLimitPublish n) s = true ∧ s.dev.cabLive n = true) ∧
    (∃ (s : State) (n : Fin 64) (ohm : Word),
       taken (.sensorSample n ohm) s = true ∧ (!s.dev.flag (THM_SNS_CFG_EN n) || s.dev.get (THM_SNS_CFG_TYPE n) == 0) = true) ∧
    (∃ (s : State) (n : Fin 64) (ohm : Word) (u : Dev),
       taken (.sensorSample n ohm) s = true ∧ s.dev.flag (THM_SNS_CFG_EN n) = true ∧ s.dev.get (THM_SNS_CFG_TYPE n) ≠ 0 ∧ u = s.dev.start.reach (s.dev.nextMultiple (Dev.bandPeriod (s.dev.snsBand n)) s.dev.thm.sns[n].lastDt) ∧ (u.snsJudge n ohm (Dev.bandPeriod (s.dev.snsBand n))).1 ≠ 0) ∧
    (∃ (s : State) (n : Fin 64) (ohm : Word) (u : Dev) (v : Int),
       taken (.sensorSample n ohm) s = true ∧ s.dev.flag (THM_SNS_CFG_EN n) = true ∧ s.dev.get (THM_SNS_CFG_TYPE n) ≠ 0 ∧ s.dev.snsSet n = none ∧ s.dev.get (THM_SNS_VAL_FAULT n) = 0 ∧ u = s.dev.start.reach (s.dev.nextMultiple (Dev.bandPeriod (s.dev.snsBand n)) s.dev.thm.sns[n].lastDt) ∧ u.snsJudge n ohm (Dev.bandPeriod (s.dev.snsBand n)) = (0, some v)) :=
  ⟨⟨testState [], 0, 0, 0, 0, by decide⟩,
   ⟨testState [(THM_CTRL_EN, 1), (THM_CAB_CFG_EN 0, 1)] (fun dd => let dd : Dev := { dd with thm := { dd.thm with cab := vupd dd.thm.cab ((0 : Fin 16)) (fun zz => { zz with started := true }) } }; { dd with tri := { dd.tri with outs := vupd dd.tri.outs 0 (fun z => { z with value := some (0, 0) }) } }), 0, 0, 0, 0, 0, (testState [(THM_CTRL_EN, 1), (THM_CAB_CFG_EN 0, 1)] (fun dd => let dd : Dev := { dd with thm := { dd.thm with cab := vupd dd.thm.cab ((0 : Fin 16)) (fun zz => { zz with started := true }) } }; { dd with tri := { dd.tri with outs := vupd dd.tri.outs 0 (fun z => { z with value := some (0, 0) }) } })).dev.start.reach ((testState [(THM_CTRL_EN, 1), (THM_CAB_CFG_EN 0, 1)] (fun dd => let dd : Dev := { dd with thm := { dd.thm with cab := vupd dd.thm.cab ((0 : Fin 16)) (fun zz => { zz with started := true }) } }; { dd with tri := { dd.tri with outs := vupd dd.tri.outs 0 (fun z => { z with value := some (0, 0) }) } })).dev.nextMultiple (Dev.ms 1) (testState [(THM_CTRL_EN, 1), (THM_CAB_CFG_EN 0, 1)] (fun dd => let dd : Dev := { dd with thm := { dd.thm with cab := vupd dd.thm.cab ((0 : Fin 16)) (fun zz => { zz with started := true }) } }; { dd with tri := { dd.tri with outs := vupd dd.tri.outs 0 (fun z => { z with value := some (0, 0) }) } })).dev.thm.lastStep), (0, 0), mkRat 0 (2 ^ 32), fxRat 0, fxRat 0, fxRat 0, ((testState [(THM_CTRL_EN, 1), (THM_CAB_CFG_EN 0, 1)] (fun dd => let dd : Dev := { dd with thm := { dd.thm with cab := vupd dd.thm.cab ((0 : Fin 16)) (fun zz => { zz with started := true }) } }; { dd with tri := { dd.tri with outs := vupd dd.tri.outs 0 (fun z => { z with value := some (0, 0) }) } })).dev.start.reach ((testState [(THM_CTRL_EN, 1), (THM_CAB_CFG_EN 0, 1)] (fun dd => let dd : Dev := { dd with thm := { dd.thm with cab := vupd dd.thm.cab ((0 : Fin 16)) (fun zz => { zz with started := true }) } }; { dd with tri := { dd.tri with outs := vupd dd.tri.outs 0 (fun z => { z with value := some (0, 0) }) } })).dev.nextMultiple (Dev.ms 1) (testState [(THM_CTRL_EN, 1), (THM_CAB_CFG_EN 0, 1)] (fun dd => let dd : Dev := { dd with thm := { dd.thm with cab := vupd dd.thm.cab ((0 : Fin 16)) (fun zz => { zz with started := true }) } }; { dd with tri := { dd.tri with outs := vupd dd.tri.outs 0 (fun z => { z with value := some (0, 0) }) } })).dev.thm.lastStep)).ratAt (THM_CAB_G12 0) * (fxRat 0 - fxRat 0), ((testState [(THM_CTRL_EN, 1), (THM_CAB_CFG_EN 0, 1)] (fun dd => let dd : Dev := { dd with thm := { dd.thm with cab := vupd dd.thm.cab ((0 : Fin 16)) (fun zz => { zz with started := true }) } }; { dd with tri := { dd.tri with outs := vupd dd.tri.outs 0 (fun z => { z with value := some (0, 0) }) } })).dev.start.reach ((testState [(THM_CTRL_EN, 1), (THM_CAB_CFG_EN 0, 1)] (fun dd => let dd : Dev := { dd with thm := { dd.thm with cab := vupd dd.thm.cab ((0 : Fin 16)) (fun zz => { zz with started := true }) } }; { dd with tri := { dd.tri with outs := vupd dd.tri.outs 0 (fun z => { z with value := some (0, 0) }) } })).dev.nextMultiple (Dev.ms 1) (testState [(THM_CTRL_EN, 1), (THM_CAB_CFG_EN 0, 1)] (fun dd => let dd : Dev := { dd with thm := { dd.thm with cab := vupd dd.thm.cab ((0 : Fin 16)) (fun zz => { zz with started := true }) } }; { dd with tri := { dd.tri with outs := vupd dd.tri.outs 0 (fun z => { z with value := some (0, 0) }) } })).dev.thm.lastStep)).ratAt (THM_CAB_G13 0) * (fxRat 0 - fxRat 0), ((testState [(THM_CTRL_EN, 1), (THM_CAB_CFG_EN 0, 1)] (fun dd => let dd : Dev := { dd with thm := { dd.thm with cab := vupd dd.thm.cab ((0 : Fin 16)) (fun zz => { zz with started := true }) } }; { dd with tri := { dd.tri with outs := vupd dd.tri.outs 0 (fun z => { z with value := some (0, 0) }) } })).dev.start.reach ((testState [(THM_CTRL_EN, 1), (THM_CAB_CFG_EN 0, 1)] (fun dd => let dd : Dev := { dd with thm := { dd.thm with cab := vupd dd.thm.cab ((0 : Fin 16)) (fun zz => { zz with started := true }) } }; { dd with tri := { dd.tri with outs := vupd dd.tri.outs 0 (fun z => { z with value := some (0, 0) }) } })).dev.nextMultiple (Dev.ms 1) (testState [(THM_CTRL_EN, 1), (THM_CAB_CFG_EN 0, 1)] (fun dd => let dd : Dev := { dd with thm := { dd.thm with cab := vupd dd.thm.cab ((0 : Fin 16)) (fun zz => { zz with started := true }) } }; { dd with tri := { dd.tri with outs := vupd dd.tri.outs 0 (fun z => { z with value := some (0, 0) }) } })).dev.thm.lastStep)).ratAt (THM_CAB_G23 0) * (fxRat 0 - fxRat 0), mkRat 1 1000, by refine ⟨by decide, by decide, by decide, rfl, by decide, rfl, rfl, rfl, rfl, rfl, rfl, rfl, rfl⟩⟩,
   ⟨testState [], 0, by decide⟩,
   ⟨testState [(THM_CTRL_EN, 1), (THM_CAB_CFG_EN 0, 1)], 0, by decide⟩,
   ⟨testState [], 0, 0, by decide⟩,
   ⟨testState [((THM_SNS_CFG_EN ((0 : Fin 64))), 1), ((THM_SNS_CFG_TYPE ((0 : Fin 64))), 1)], 0, 0x7FC00000, (testState [((THM_SNS_CFG_EN ((0 : Fin 64))), 1), ((THM_SNS_CFG_TYPE ((0 : Fin 64))), 1)]).dev.start.reach ((testState [((THM_SNS_CFG_EN ((0 : Fin 64))), 1), ((THM_SNS_CFG_TYPE ((0 : Fin 64))), 1)]).dev.nextMultiple (Dev.bandPeriod ((testState [((THM_SNS_CFG_EN ((0 : Fin 64))), 1), ((THM_SNS_CFG_TYPE ((0 : Fin 64))), 1)]).dev.snsBand 0)) (testState [((THM_SNS_CFG_EN ((0 : Fin 64))), 1), ((THM_SNS_CFG_TYPE ((0 : Fin 64))), 1)]).dev.thm.sns[(0 : Fin 64)].lastDt), by refine ⟨by decide, by decide, by decide, rfl, by decide⟩⟩,
   ⟨testState [((THM_SNS_CFG_EN ((0 : Fin 64))), 1), ((THM_SNS_CFG_TYPE ((0 : Fin 64))), 1), ((THM_SNS_VAL_FAULT ((0 : Fin 64))), 0), (THM_SNS_CFG_TYPE 0, 1), (THM_CTRL_RATE_MAX, 10)], 0, 0x42C80000, (testState [((THM_SNS_CFG_EN ((0 : Fin 64))), 1), ((THM_SNS_CFG_TYPE ((0 : Fin 64))), 1), ((THM_SNS_VAL_FAULT ((0 : Fin 64))), 0), (THM_SNS_CFG_TYPE 0, 1), (THM_CTRL_RATE_MAX, 10)]).dev.start.reach ((testState [((THM_SNS_CFG_EN ((0 : Fin 64))), 1), ((THM_SNS_CFG_TYPE ((0 : Fin 64))), 1), ((THM_SNS_VAL_FAULT ((0 : Fin 64))), 0), (THM_SNS_CFG_TYPE 0, 1), (THM_CTRL_RATE_MAX, 10)]).dev.nextMultiple (Dev.bandPeriod ((testState [((THM_SNS_CFG_EN ((0 : Fin 64))), 1), ((THM_SNS_CFG_TYPE ((0 : Fin 64))), 1), ((THM_SNS_VAL_FAULT ((0 : Fin 64))), 0), (THM_SNS_CFG_TYPE 0, 1), (THM_CTRL_RATE_MAX, 10)]).dev.snsBand 0)) (testState [((THM_SNS_CFG_EN ((0 : Fin 64))), 1), ((THM_SNS_CFG_TYPE ((0 : Fin 64))), 1), ((THM_SNS_VAL_FAULT ((0 : Fin 64))), 0), (THM_SNS_CFG_TYPE 0, 1), (THM_CTRL_RATE_MAX, 10)]).dev.thm.sns[0].lastDt), 0, by refine ⟨by decide, by decide, by decide, by decide, by decide, rfl, by decide +kernel⟩⟩⟩

theorem witness_identification :
    (∃ (s : State) (l : LongSrc) (o : Byte) (i : Code) (st : Code),
       taken (.identify l o i st) s = true ∧ s.dev.longCheck l = none ∧ ((16 ≤ o.toNat ∨ st.toNat < 10 ∨ 120 < st.toNat))) ∧
    (∃ (s : State) (l : LongSrc) (n : Fin 16) (i : Code) (st : Code),
       taken (.identify l (BitVec.ofNat 8 n) i st) s = true ∧ s.dev.longCheck l = none ∧ 3 * s.dev.get (THM_CAB_CFG_I_RATED n) ≤ 10 * i.toNat ∧ 10 ≤ st.toNat ∧ st.toNat ≤ 120 ∧ (s.dev.life == lfCommissioning && s.dev.sessOpen n && (s.dev.sess n).comm && !s.dev.flag (THM_CAB_CFG_EN n) && (s.dev.highestMeasured n 1).isSome && (s.dev.highestMeasured n 2).isSome && (s.dev.highestMeasured n 3).isSome) = true ∧ (s.dev.cab n).ident = none) ∧
    (∃ (s : State) (l : LongSrc) (n : Fin 16) (i : Code) (st : Code),
       taken (.identify l (BitVec.ofNat 8 n) i st) s = true ∧ s.dev.longCheck l = none ∧ 3 * s.dev.get (THM_CAB_CFG_I_RATED n) ≤ 10 * i.toNat ∧ 10 ≤ st.toNat ∧ st.toNat ≤ 120 ∧ ((s.dev.life ≠ lfCommissioning ∨ s.dev.sessOpen n = false ∨ s.dev.flag (THM_CAB_CFG_EN n) = true ∨ (s.dev.cab n).ident.isSome = true))) ∧
    (∃ (s : State) (n : Fin 16),
       taken (.identifyPhaseEnd n) s = true ∧ (s.dev.cab n).ident = none) ∧
    (∃ (s : State) (n : Fin 16) (r : IdRun),
       taken (.identifyPhaseEnd n) s = true ∧ (s.dev.cab n).ident = some r ∧ r.phase = 1 ∧ s.dev.identSettled r = true) ∧
    (∃ (s : State) (n : Fin 16) (r : IdRun),
       taken (.identifyPhaseEnd n) s = true ∧ (s.dev.cab n).ident = some r ∧ r.phase = 1 ∧ s.dev.identSettled r = false) ∧
    (∃ (s : State) (n : Fin 16) (r : IdRun),
       taken (.identifyPhaseEnd n) s = true ∧ (s.dev.cab n).ident = some r ∧ (r.phase = 2 ∨ r.phase = 3) ∧ r.offSince.all (fun t0 => decide (s.dev.dt ≤ t0 + 1000000000)) = true ∧ s.dev.identLost n = false) ∧
    (∃ (s : State) (n : Fin 16) (r : IdRun),
       taken (.identifyPhaseEnd n) s = true ∧ (s.dev.cab n).ident = some r ∧ (r.phase = 2 ∨ r.phase = 3) ∧ (r.offSince.any (fun t0 => decide (t0 + 1000000000 < s.dev.dt)) || s.dev.identLost n) = true) ∧
    (∃ (s : State) (n : Fin 16) (r : IdRun),
       taken (.identifyPhaseEnd n) s = true ∧ (s.dev.cab n).ident = some r ∧ r.phase = 4) :=
  ⟨⟨testState [], ⟨.ring 0 7, 4096, 8192, 4096⟩, 16, 0, 0, by decide⟩,
   ⟨testState [(GEN_LIFECYCLE_LIFE, lfCommissioning), (VSS_OUT_STATE_STATE 0, ssLinked), (THM_SNS_CFG_EN 0, 1), (THM_SNS_CFG_ROLE 0, 1), (THM_SNS_VAL_STATE 0, stOk), (THM_SNS_CFG_EN 1, 1), (THM_SNS_CFG_ROLE 1, 2), (THM_SNS_VAL_STATE 1, stOk), (THM_SNS_CFG_EN 2, 1), (THM_SNS_CFG_ROLE 2, 3), (THM_SNS_VAL_STATE 2, stOk)] (fun dd => let dd : Dev := { dd with thm := { dd.thm with cab := vupd dd.thm.cab ((0 : Fin 16)) (fun zz => { zz with ident := none }) } }; let dd : Dev := { dd with vss := { dd.vss with outs := vupd dd.vss.outs 0 (fun z => { z with comm := true }) } }; { dd with thm := { dd.thm with sns := dd.thm.sns.map (fun z => { z with used := some 0 }) } }), ⟨.ring 0 7, 4096, 8192, 4096⟩, 0, 0, 10, by decide +kernel⟩,
   ⟨testState [], ⟨.ring 0 7, 4096, 8192, 4096⟩, 0, 0, 10, by decide⟩,
   ⟨testState [] (fun dd => let dd : Dev := { dd with thm := { dd.thm with cab := vupd dd.thm.cab ((0 : Fin 16)) (fun zz => { zz with ident := none }) } }; dd), 0, by decide⟩,
   ⟨testState [] (fun dd => let dd : Dev := { dd with thm := { dd.thm with cab := vupd dd.thm.cab ((0 : Fin 16)) (fun zz => { zz with ident := some ((⟨.ring 0 7, 0, 0, 1, 0, none, [⟨1000000000000, 0, 0, 0, [], [], []⟩]⟩ : IdRun)) }) } }; { dd with dt := 1000000000000 }), 0, ⟨.ring 0 7, 0, 0, 1, 0, none, [⟨1000000000000, 0, 0, 0, [], [], []⟩]⟩, by decide +kernel⟩,
   ⟨testState [] (fun dd => let dd : Dev := { dd with thm := { dd.thm with cab := vupd dd.thm.cab ((0 : Fin 16)) (fun zz => { zz with ident := some ((⟨.ring 0 7, 0, 0, 1, 0, none, []⟩ : IdRun)) }) } }; dd), 0, ⟨.ring 0 7, 0, 0, 1, 0, none, []⟩, by decide⟩,
   ⟨testState [] (fun dd => let dd : Dev := { dd with thm := { dd.thm with cab := vupd dd.thm.cab ((0 : Fin 16)) (fun zz => { zz with ident := some ((⟨.ring 0 7, 0, 0, 2, 0, none, []⟩ : IdRun)) }) } }; dd), 0, ⟨.ring 0 7, 0, 0, 2, 0, none, []⟩, by decide⟩,
   ⟨testState [] (fun dd => let dd : Dev := { dd with thm := { dd.thm with cab := vupd dd.thm.cab ((0 : Fin 16)) (fun zz => { zz with ident := some ((⟨.ring 0 7, 0, 0, 2, 0, some 0, []⟩ : IdRun)) }) } }; { dd with dt := 100000000000 }), 0, ⟨.ring 0 7, 0, 0, 2, 0, some 0, []⟩, by decide⟩,
   ⟨testState [] (fun dd => let dd : Dev := { dd with thm := { dd.thm with cab := vupd dd.thm.cab ((0 : Fin 16)) (fun zz => { zz with ident := some ((⟨.ring 0 7, 0, 0, 4, 0, none, []⟩ : IdRun)) }) } }; dd), 0, ⟨.ring 0 7, 0, 0, 4, 0, none, []⟩, by decide⟩⟩

theorem witness_piste_bring_up :
    (∃ (s : State) (p : Fin 8) (r : Option (Fin 8)),
       taken (.pisteTrainDone p p r) s = true ∧ s.dev.pisteState p = phTrain ∧ s.dev.locked p = true) ∧
    (∃ (s : State) (p : Fin 8) (o : Option (Fin 8)),
       taken (.pisteTrainTimeout p o) s = true ∧ s.dev.pisteState p = phTrain) ∧
    (∃ (s : State) (p : Fin 8) (eye : Nat) (amp : Nat),
       taken (.pisteAdaptDone p eye amp) s = true ∧ s.dev.pisteState p = phAdapt ∧ s.dev.sweepOver p = true ∧ s.dev.locked p = true) ∧
    (∃ (s : State) (p : Fin 8) (eye : Nat) (amp : Nat),
       taken (.pisteAdaptDone p eye amp) s = true ∧ (s.dev.pisteState p ≠ phAdapt ∨ s.dev.sweepOver p = false)) ∧
    (∃ (s : State) (p : Fin 8),
       taken (.pisteVerifyDone p true) s = true ∧ s.dev.pisteState p = phVerify) ∧
    (∃ (s : State) (p : Fin 8),
       taken (.pisteVerifyDone p false) s = true ∧ s.dev.pisteState p = phVerify) ∧
    (∃ (s : State) (p : Fin 8),
       taken (.rxLock (.device p)) s = true) ∧
    (∃ (s : State) (p : Fin 8),
       taken (.rxLockLoss p) s = true ∧ s.dev.locked p = true ∧ s.dev.pisteState p = phUp) ∧
    (∃ (s : State) (p : Fin 8),
       taken (.rxInversionDetected (.device p)) s = true ∧ (s.dev.flag (PST_PHY_CTL_RX_INV_AUTO p) && s.dev.locked p && !s.dev.flag (PST_PHY_STATE_RX_INV p)) = true ∧ s.dev.pisteState p = phTrain) ∧
    (∃ (s : State) (p : Fin 8),
       taken (.rxInversionDetected (.device p)) s = true ∧ (s.dev.flag (PST_PHY_CTL_RX_INV_AUTO p) && s.dev.locked p && !s.dev.flag (PST_PHY_STATE_RX_INV p)) = false) ∧
    (∃ (s : State) (i : Fin 128) (odd : Bool),
       (s.dev.port i odd).aligned = true ∧ (s.dev.port i odd).inverted = false) ∧
    (∃ (s : State) (p : Fin 8),
       taken (.pisteRelockTimeout p) s = true ∧ s.dev.pisteState p = phRelock) ∧
    (∃ (s : State) (p : Fin 8),
       taken (.pisteFailedRetry p) s = true ∧ s.dev.pisteState p = phFailed) :=
  ⟨⟨testState [((PST_PHY_STATE_STATE ((0 : Fin 8))), phTrain), ((PST_PHY_STATE_LOCKED ((0 : Fin 8))), 1)], 0, none, by decide⟩,
   ⟨testState [((PST_PHY_STATE_STATE ((0 : Fin 8))), phTrain)], 0, none, by decide⟩,
   ⟨testState [((PST_PHY_STATE_STATE ((0 : Fin 8))), phAdapt), ((PST_PHY_STATE_LOCKED ((0 : Fin 8))), 1)] (fun dd => dd.modPhy 0 (fun z => { z with sweep := List.replicate 16 0 })), 0, 0, 0, by decide⟩,
   ⟨testState [], 0, 0, 0, by decide⟩,
   ⟨testState [((PST_PHY_STATE_STATE ((0 : Fin 8))), phVerify)], 0, by decide⟩,
   ⟨testState [((PST_PHY_STATE_STATE ((0 : Fin 8))), phVerify)], 0, by decide⟩,
   ⟨testState [], 0, by decide⟩,
   ⟨testState [((PST_PHY_STATE_LOCKED ((0 : Fin 8))), 1), ((PST_PHY_STATE_STATE ((0 : Fin 8))), phUp)], 0, by decide⟩,
   ⟨testState [((PST_PHY_STATE_STATE ((0 : Fin 8))), phTrain), (PST_PHY_CTL_RX_INV_AUTO 0, 1), (PST_PHY_STATE_LOCKED 0, 1)], 0, by decide⟩,
   ⟨testState [], 0, by decide⟩,
   ⟨testState [] (fun dd => testPort 0 false (fun z => { z with aligned := true }) dd), 0, false, by decide⟩,
   ⟨testState [((PST_PHY_STATE_STATE ((0 : Fin 8))), phRelock)], 0, by decide⟩,
   ⟨testState [((PST_PHY_STATE_STATE ((0 : Fin 8))), phFailed)], 0, by decide⟩⟩

theorem witness_frames_received :
    (∃ (s : State) (f : RxFrame),
       taken (.teleFrameReceived f) s = true ∧ frameOk f ftTele = false) ∧
    (∃ (s : State) (f : RxFrame),
       taken (.measFrameReceived f) s = true ∧ frameOk f ftMeas = false) ∧
    (∃ (s : State) (f : RxFrame),
       taken (.tunFrameReceived f) s = true ∧ frameOk f ftTun = false) ∧
    (∃ (s : State) (f : RxFrame) (i : Fin 128),
       taken (.teleFrameReceived f) s = true ∧ frameOk f ftTele = true ∧ s.dev.frameNode f = some i ∧ s.dev.heardBefore i f = false ∧ s.dev.nodePresent i = true ∧ f.sub = 0#8) ∧
    (∃ (s : State) (f : RxFrame) (i : Fin 128) (st : Fin 64) (k : Fin 408),
       taken (.teleFrameReceived f) s = true ∧ frameOk f ftTele = true ∧ s.dev.frameNode f = some i ∧ s.dev.heardBefore i f = false ∧ s.dev.nodePresent i = true ∧ s.dev.get (PST_NODE_INFO_CLASS i) = 1 ∧ s.dev.stageNode st = some i ∧ k.val < 384 ∧ k.val / 6 = st.val ∧ (fieldAt f.data 40 2).testBit (k.val % 6) = true ∧ s.dev.actsOn k (fieldAt f.data 0 8) = true) ∧
    (∃ (s : State) (f : RxFrame) (i : Fin 128) (h : Fin 48),
       taken (.measFrameReceived f) s = true ∧ frameOk f ftMeas = true ∧ s.dev.frameNode f = some i ∧ s.dev.heardBefore i f = false ∧ s.dev.nodePresent i = true ∧ s.dev.get64 (TRI_HEAD_NODE_LO h) = s.dev.nodeId i ∧ s.dev.get (PST_NODE_INFO_CLASS i) = 2) ∧
    (∃ (s : State) (f : RxFrame) (i : Fin 128),
       taken (.tunFrameReceived f) s = true ∧ frameOk f ftTun = true ∧ s.dev.frameNode f = some i ∧ s.dev.heardBefore i f = false ∧ s.dev.nodePresent i = true ∧ fieldAt f.data 2 1 = 0 ∧ fieldAt f.data 3 1 = 1 ∧ 1 ≤ fieldAt f.data 4 2 ∧ fieldAt f.data 4 2 ≤ 240 ∧ fieldAt f.data 4 2 + 8 ≤ f.data.length) ∧
    (∃ (s : State) (f : RxFrame) (i : Fin 128),
       taken (.teleFrameReceived f) s = true ∧ frameOk f ftTele = true ∧ s.dev.frameNode f = some i ∧ (s.dev.nodePresent i = false ∨ s.dev.heardBefore i f = true)) :=
  ⟨⟨testState [], ⟨0, 0, 0, []⟩, by decide⟩,
   ⟨testState [], ⟨0, 0, 0, []⟩, by decide⟩,
   ⟨testState [], ⟨0, 0, 0, []⟩, by decide⟩,
   ⟨testState [((PST_NODE_INFO_STATE ((0 : Fin 128))), ndPresent)], testFrame 2 0 (List.replicate 48 0), 0, by decide +kernel⟩,
   ⟨testState [((PST_NODE_INFO_STATE ((0 : Fin 128))), ndPresent), ((PST_NODE_INFO_CLASS ((0 : Fin 128))), 1), (EDG_LEG_CTL_ARMED 0, 1)] (fun dd => dd.modLeg 0 (fun z => { z with relDt := some 0 })), testFrame 2 0 (leBytes 8 5 ++ List.replicate 32 0 ++ [1, 0] ++ List.replicate 6 0), 0, 0, 0, by decide +kernel⟩,
   ⟨testState [((PST_NODE_INFO_STATE ((0 : Fin 128))), ndPresent), ((PST_NODE_INFO_CLASS ((0 : Fin 128))), 2)], testFrame 3 0 (List.replicate 64 0), 0, 0, by decide +kernel⟩,
   ⟨testState [((PST_NODE_INFO_STATE ((0 : Fin 128))), ndPresent)], testFrame 7 0 [0, 0, 0, 1, 4, 0, 0, 0, 1, 2, 3, 4, 0, 0, 0, 0], 0, by decide +kernel⟩,
   ⟨testState [(PST_NODE_INFO_STATE 0, ndPending)], testFrame 2 0 (List.replicate 48 0), 0, by decide +kernel⟩⟩

theorem witness_node_register_transactions :
    (∃ (s : State) (r : Fin 256) (tag : Word) (x : NodeCtrlReq),
       taken (.nodeCtrl (.ring r tag) x) s = true ∧ (x.count = 0 ∨ 60 < x.count ∨ 65536 ≤ x.addr ∨ (x.write ∧ x.words.length ≠ x.count))) ∧
    (∃ (s : State) (r : Fin 256) (tag : Word) (x : NodeCtrlReq),
       taken (.nodeCtrl (.ring r tag) x) s = true ∧ (¬ (x.count = 0 ∨ 60 < x.count ∨ 65536 ≤ x.addr ∨ (x.write ∧ x.words.length ≠ x.count))) ∧ s.dev.nodeById x.node 0 = none) ∧
    (∃ (s : State) (r : Fin 256) (tag : Word) (x : NodeCtrlReq) (i : Fin 128),
       taken (.nodeCtrl (.ring r tag) x) s = true ∧ (¬ (x.count = 0 ∨ 60 < x.count ∨ 65536 ≤ x.addr ∨ (x.write ∧ x.words.length ≠ x.count))) ∧ s.dev.nodeById x.node 0 = some i) ∧
    (∃ (s : State) (f : RxFrame) (i : Fin 128) (q : CtrlReq),
       taken (.ctrlResponseReceived f) s = true ∧ frameOk f ftCtrl = true ∧ s.dev.frameNode f = some i ∧ s.dev.heardBefore i f = false ∧ s.dev.nodePresent i = true ∧ s.dev.ctrlMatch i f.data = some q ∧ q.why = .setpoint) ∧
    (∃ (s : State) (f : RxFrame) (i : Fin 128) (q : CtrlReq) (src : Src),
       taken (.ctrlResponseReceived f) s = true ∧ frameOk f ftCtrl = true ∧ s.dev.frameNode f = some i ∧ s.dev.heardBefore i f = false ∧ s.dev.nodePresent i = true ∧ s.dev.ctrlMatch i f.data = some q ∧ q.why = .host src ∧ s.dev.hif.armWait = []) ∧
    (∃ (s : State) (q : CtrlReq),
       taken .ctrlRetry s = true ∧ s.dev.pst.ctrl.find? (fun r => !r.again) = some q) ∧
    (∃ (s : State) (q : CtrlReq) (l : List CtrlReq),
       taken .ctrlTimeout s = true ∧ s.dev.pst.ctrl = q :: l ∧ q.why = .setpoint) ∧
    (∃ (s : State) (q : CtrlReq) (l : List CtrlReq) (src : Src),
       taken .ctrlTimeout s = true ∧ s.dev.pst.ctrl = q :: l ∧ q.why = .host src ∧ s.dev.hif.armWait = []) ∧
    (∃ (s : State),
       taken .ctrlTimeout s = true ∧ s.dev.pst.ctrl = [] ∧ s.dev.hif.armWait = []) :=
  ⟨⟨testState [], 0, 0, ⟨0, false, 0, 0, []⟩, by decide⟩,
   ⟨testState [], 0, 0, ⟨0, false, 0, 1, []⟩, by decide⟩,
   ⟨testState [(PST_NODE_INFO_STATE 0, ndPresent)], 0, 0, ⟨0, false, 0, 1, []⟩, 0, by decide⟩,
   ⟨testState [((PST_NODE_INFO_STATE ((0 : Fin 128))), ndPresent)] (fun dd => { dd with pst := { dd.pst with ctrl := [⟨0, ⟨true, 0, 0, 0, []⟩, .setpoint, 0, false⟩] } }), testFrame 4 0 [0x82, 0, 0, 0, 0, 0, 0, 0], 0, ⟨0, ⟨true, 0, 0, 0, []⟩, .setpoint, 0, false⟩, by decide +kernel⟩,
   ⟨testState [((PST_NODE_INFO_STATE ((0 : Fin 128))), ndPresent)] (fun dd => dd.putPst { dd.pst with ctrl := [⟨0, ⟨true, 0, 4, 1, [0]⟩, .host (.ring 0 7), 0, false⟩] }), testFrame 4 0 [0x82, 0, 0x04, 0, 1, 0, 0, 0], 0, ⟨0, ⟨true, 0, 4, 1, [0]⟩, .host (.ring 0 7), 0, false⟩, .ring 0 7, by decide +kernel⟩,
   ⟨testState [] (fun dd => { dd with pst := { dd.pst with ctrl := [((⟨0, ⟨false, 0, 0, 0, []⟩, (.host (.ring 0 7)), 0, false⟩ : CtrlReq))] } }), ⟨0, ⟨false, 0, 0, 0, []⟩, (.host (.ring 0 7)), 0, false⟩, by decide⟩,
   ⟨testState [] (fun dd => let dd : Dev := { dd with pst := { dd.pst with ctrl := ((⟨0, ⟨true, 0, 0, 0, []⟩, .setpoint, 0, false⟩ : CtrlReq)) :: (([] : List CtrlReq)) } }; dd), ⟨0, ⟨true, 0, 0, 0, []⟩, .setpoint, 0, false⟩, [], by decide⟩,
   ⟨testState [] (fun dd => let dd : Dev := { dd with pst := { dd.pst with ctrl := ((⟨0, ⟨false, 0, 0, 0, []⟩, (.host (.ring 0 7)), 0, false⟩ : CtrlReq)) :: (([] : List CtrlReq)) } }; let dd : Dev := { dd with hif := { dd.hif with armWait := [] } }; dd), ⟨0, ⟨false, 0, 0, 0, []⟩, (.host (.ring 0 7)), 0, false⟩, [], .ring 0 7, by decide⟩,
   ⟨testState [] (fun dd => let dd : Dev := { dd with pst := { dd.pst with ctrl := [] } }; let dd : Dev := { dd with hif := { dd.hif with armWait := [] } }; dd), by decide⟩⟩

theorem witness_node_time_keeping :
    (∃ (s : State) (i : Fin 128) (odd : Bool) (orphan : Bool) (a : Int) (v : BitVec 58) (l : List Block) (x : NodeIn) (b : Block) (hop : Nat) (n : Nat) (ret : Bool),
       (descramble v l).head? = some b ∧ ownOf b = some (hop, n, ret) ∧ (ret || hop == 0 || hop != (s.dev.port i odd).hop) = true) ∧
    (∃ (s : State) (i : Fin 128) (odd : Bool) (orphan : Bool) (a : Int) (v : BitVec 58) (l : List Block) (x : NodeIn) (b : Block) (hop : Nat) (n : Nat),
       (descramble v l).head? = some b ∧ ownOf b = some (hop, n, false) ∧ hop ≠ 0 ∧ hop = (s.dev.port i odd).hop) ∧
    (∃ (s : State) (i : Fin 128) (odd : Bool),
       (s.dev.port i odd).sync = none) ∧
    (∃ (s : State) (i : Fin 128) (f : SyncFrame),
       (s.dev.port i false).sync = some f ∧ (f.valid && f.census == (s.dev.port i false).census) = false) ∧
    (∃ (s : State) (i : Fin 128) (odd : Bool) (f : SyncFrame) (e : Int),
       (s.dev.port i odd).sync = some f ∧ f.valid = true ∧ f.census = (s.dev.port i odd).census ∧ ((odd = true → s.dev.pst.nodes[i].evenValid = false)) ∧ s.dev.pst.nodes[i].onOdd = odd ∧ s.dev.pst.nodes[i].stale = false ∧ e = ((f.markDt * 65536 + f.markFrac + f.pathDelay : Nat) : Int) - ((s.dev.port i odd).arrival + s.dev.pst.nodes[i].offset) ∧ e.natAbs ≤ eStep) ∧
    (∃ (s : State) (i : Fin 128) (odd : Bool) (f : SyncFrame) (e : Int),
       (s.dev.port i odd).sync = some f ∧ f.valid = true ∧ f.census = (s.dev.port i odd).census ∧ ((odd = true → s.dev.pst.nodes[i].evenValid = false)) ∧ e = ((f.markDt * 65536 + f.markFrac + f.pathDelay : Nat) : Int) - ((s.dev.port i odd).arrival + s.dev.pst.nodes[i].offset) ∧ ((s.dev.pst.nodes[i].stale = true ∨ eStep < e.natAbs))) ∧
    (∃ (s : State) (i : Fin 128) (t0 : Nat),
       s.dev.pst.nodes[i].lastSync = some t0) :=
  ⟨⟨testState [], 0, false, false, 0, 0, scramble 0 [ownBlock 0 5 false], ⟨[], [], false, false, none, 0, false, []⟩, ownBlock 0 5 false, 0, 5, false, by decide +kernel⟩,
   ⟨testState [] (fun dd => testPort 0 false (fun z => { z with hop := 3 }) dd), 0, false, false, 0, 0, scramble 0 [ownBlock 3 5 false], ⟨[], [], false, false, none, 0, false, []⟩, ownBlock 3 5 false, 3, 5, by decide +kernel⟩,
   ⟨testState [], 0, false, by decide⟩,
   ⟨testState [] (fun dd => testPort 0 false (fun z => { z with sync := some ⟨0, 0, 0, 0, false, false, 0, 0⟩ }) dd), 0, ⟨0, 0, 0, 0, false, false, 0, 0⟩, by decide⟩,
   ⟨testState [] (fun dd => let dd : Dev := { dd with pst := { dd.pst with nodes := vupd dd.pst.nodes ((0 : Fin 128)) (fun zz => { zz with onOdd := ((false : Bool)) }) } }; let dd : Dev := { dd with pst := { dd.pst with nodes := vupd dd.pst.nodes ((0 : Fin 128)) (fun zz => { zz with stale := false }) } }; testPort 0 false (fun z => { z with sync := some ⟨0, 0, 0, 0, true, false, 0, 0⟩ }) dd), 0, false, ⟨0, 0, 0, 0, true, false, 0, 0⟩, 0, by decide⟩,
   ⟨testState [] (fun dd => let dd : Dev := { dd with pst := { dd.pst with nodes := vupd dd.pst.nodes ((0 : Fin 128)) (fun zz => { zz with stale := true }) } }; testPort 0 false (fun z => { z with sync := some ⟨0, 0, 0, 0, true, false, 0, 0⟩ }) dd), 0, false, ⟨0, 0, 0, 0, true, false, 0, 0⟩, 0, by decide⟩,
   ⟨testState [] (fun dd => let dd : Dev := { dd with pst := { dd.pst with nodes := vupd dd.pst.nodes ((0 : Fin 128)) (fun zz => { zz with lastSync := some ((0 : Nat)) }) } }; dd), 0, 0, by decide⟩⟩

theorem witness_node_safety :
    (∃ (s : State) (i : Fin 128) (j : Fin 6) (b : Nat) (c : LegCmd) (eof : Int),
       s.dev.nodeClass i = 1 ∧ Dev.nodeNat s.dev.pst.nodes[i] (0x0010 + 4 * j.val) 25 0 ≠ 0 ∧ b = Dev.nodeNext s.dev.pst.nodes[i] j s.dev.dt ∧ s.dev.pst.nodes[i].legArmed j = true ∧ s.dev.pst.nodes[i].legs[j].fault = false ∧ s.dev.pst.nodes[i].legs[j].stale = false ∧ s.dev.pst.nodes[i].stale = false ∧ s.dev.pst.nodes[i].legs[j].frames.find? (fun q => q.1 == btagOf b (Dev.nodeNat s.dev.pst.nodes[i] (0x0010 + 4 * j.val) 25 0) && decide (q.2.1 + 50 * 65536 ≤ 16384 * (b : Int))) = some (btagOf b (Dev.nodeNat s.dev.pst.nodes[i] (0x0010 + 4 * j.val) 25 0), eof, c)) ∧
    (∃ (s : State) (i : Fin 128) (j : Fin 6),
       s.dev.nodeClass i = 1 ∧ Dev.nodeNat s.dev.pst.nodes[i] (0x0010 + 4 * j.val) 25 0 ≠ 0 ∧ s.dev.pst.nodes[i].legArmed j = true ∧ s.dev.pst.nodes[i].legs[j].fault = false ∧ s.dev.pst.nodes[i].legs[j].stale = false ∧ s.dev.pst.nodes[i].legs[j].seen = true ∧ s.dev.pst.nodes[i].legs[j].prev = true ∧ s.dev.pst.nodes[i].legs[j].frames = []) ∧
    (∃ (s : State) (i : Fin 128) (j : Fin 6),
       s.dev.nodeClass i = 1 ∧ Dev.nodeNat s.dev.pst.nodes[i] (0x0010 + 4 * j.val) 25 0 ≠ 0 ∧ s.dev.pst.nodes[i].legArmed j = true ∧ s.dev.pst.nodes[i].legs[j].fault = false ∧ s.dev.pst.nodes[i].legs[j].stale = false ∧ s.dev.pst.nodes[i].legs[j].seen = true ∧ s.dev.pst.nodes[i].legs[j].prev = false ∧ s.dev.pst.nodes[i].legs[j].frames = []) ∧
    (∃ (s : State) (i : Fin 128) (j : Fin 6),
       (s.dev.nodeClass i ≠ 1 ∨ Dev.nodeNat s.dev.pst.nodes[i] (0x0010 + 4 * j.val) 25 0 = 0)) ∧
    (∃ (s : State) (i : Fin 128) (k : Fin 6) (j : Fin 6),
       s.dev.nodeClass i = 1 ∧ s.dev.pst.nodes[i].legs[j].fltMask.getLsbD k = true) ∧
    (∃ (s : State) (i : Fin 128) (k : Fin 6),
       s.dev.nodeClass i = 1) ∧
    (∃ (s : State) (i : Fin 128),
       (s.dev.nodeClass i = 3 ∨ s.dev.nodeClass i = 5 ∨ s.dev.nodeClass i = 6 ∨ s.dev.nodeClass i = 0x7F)) ∧
    (∃ (s : State) (i : Fin 128),
       s.dev.nodeClass i = 4) :=
  ⟨⟨testState [((PST_NODE_INFO_CLASS ((0 : Fin 128))), 1)] (fun dd => let dd : Dev := { dd with pst := { dd.pst with nodes := vupd dd.pst.nodes ((0 : Fin 128)) (fun zz => { zz with stale := false }) } }; dd.modNode 0 (fun z => Node.modLeg { z with stale := false, regs := [(0x0010, 20000), (0x0013, 2)] } 0 (fun y => { y with frames := [(0, -4000000, ⟨true, false, []⟩)] }))), 0, 0, 0, ⟨true, false, []⟩, -4000000, by decide +kernel⟩,
   ⟨testState [((PST_NODE_INFO_CLASS ((0 : Fin 128))), 1)] (fun dd => dd.modNode 0 (fun z => Node.modLeg { z with stale := false, regs := [(0x0010, 20000), (0x0013, 2)] } 0 (fun y => { y with seen := true, prev := true }))), 0, 0, by decide +kernel⟩,
   ⟨testState [((PST_NODE_INFO_CLASS ((0 : Fin 128))), 1)] (fun dd => dd.modNode 0 (fun z => Node.modLeg { z with stale := false, regs := [(0x0010, 20000), (0x0013, 2)] } 0 (fun y => { y with seen := true, prev := false }))), 0, 0, by decide +kernel⟩,
   ⟨testState [], 0, 0, by decide⟩,
   ⟨testState [((PST_NODE_INFO_CLASS ((0 : Fin 128))), 1), (PST_NODE_INFO_CLASS 0, 1)] (fun dd => dd.modNode 0 (fun z => Node.modLeg z 0 (fun y => { y with fltMask := 1 }))), 0, 0, 0, by decide⟩,
   ⟨testState [((PST_NODE_INFO_CLASS ((0 : Fin 128))), 1)], 0, 0, by decide⟩,
   ⟨testState [((PST_NODE_INFO_CLASS ((0 : Fin 128))), 3), (PST_NODE_INFO_CLASS 0, 3)], 0, by decide⟩,
   ⟨testState [((PST_NODE_INFO_CLASS ((0 : Fin 128))), 4)], 0, by decide⟩⟩

theorem witness_site_line_polls :
    (∃ (s : State),
       taken .superframeStart s = true ∧ s.dev.slnOn = true) ∧
    (∃ (s : State),
       taken .superframeStart s = true ∧ s.dev.slnOn = false) ∧
    (∃ (s : State) (r : Fin 65) (p : SlnPoll) (l : List SlnPoll),
       taken (.slnPollSend r) s = true ∧ s.dev.slnOn = true ∧ s.dev.sln.polls = p :: l ∧ s.dev.pollsEnd < max s.dev.dt s.dev.sln.lineAt + s.dev.exchangeNs (s.dev.pollShape p).1 (s.dev.pollShape p).2.1 (s.dev.pollShape p).2.2 r) ∧
    (∃ (s : State) (r : Fin 65),
       taken (.slnPollSend r) s = true ∧ (s.dev.slnOn = false ∨ s.dev.sln.polls = [])) ∧
    (∃ (s : State) (r : Fin 65) (i : Fin 250) (l : List SlnPoll),
       taken (.slnPollSend r) s = true ∧ s.dev.slnOn = true ∧ s.dev.sln.polls = .entry i :: l ∧ s.dev.sln.holdEnd = none ∧ s.dev.slnState i = snPresent ∧ max s.dev.dt s.dev.sln.lineAt + s.dev.exchangeNs (s.dev.pollShape (.entry i)).1 (s.dev.pollShape (.entry i)).2.1 (s.dev.pollShape (.entry i)).2.2 r ≤ s.dev.pollsEnd) ∧
    (∃ (s : State) (i : Fin 250) (x : SlnReply),
       taken (.slnReplyReceived i x) s = true ∧ (s.dev.slnState i = snPresent ∨ s.dev.slnState i = snLost)) ∧
    (∃ (s : State) (i : Fin 250),
       taken (.slnReplyTimeout i) s = true ∧ s.dev.slnState i = snPresent ∧ s.dev.get SLN_CTRL_LOST_POLLS ≤ s.dev.sln.entries[i].fails + 1) ∧
    (∃ (s : State) (i : Fin 250),
       taken (.slnReplyTimeout i) s = true ∧ s.dev.slnState i = snPresent ∧ s.dev.sln.entries[i].fails + 1 < s.dev.get SLN_CTRL_LOST_POLLS) ∧
    (∃ (s : State) (i : Fin 250) (f : SlnFrame),
       f.orig = adDevice) ∧
    (∃ (s : State),
       taken .slnNoiseImpulse s = true ∧ s.dev.slnOn = true) ∧
    (∃ (s : State) (t0 : Nat),
       taken .slnNoiseHoldEnd s = true ∧ s.dev.sln.holdEnd = some t0) ∧
    (∃ (s : State),
       taken .slnNoiseHoldEnd s = true ∧ s.dev.sln.holdEnd = none) :=
  ⟨⟨testState [(SLN_CTRL_EN, 1)], by decide⟩,
   ⟨testState [], by decide⟩,
   ⟨testState [(SLN_CTRL_EN, 1), (SLN_STATUS_PRESENT, 1)] (fun dd => let dd : Dev := { dd with sln := { dd.sln with polls := (((.join none []) : SlnPoll)) :: (([] : List SlnPoll)) } }; { dd with sln := { dd.sln with lineAt := 17000000 } }), 64, (.join none []), [], by decide +kernel⟩,
   ⟨testState [], 0, by decide⟩,
   ⟨testState [(SLN_CTRL_EN, 1), ((SLN_NODE_INFO_STATE ((0 : Fin 250))), snPresent)] (fun dd => let dd : Dev := { dd with sln := { dd.sln with polls := .entry ((0 : Fin 250)) :: (([] : List SlnPoll)) } }; let dd : Dev := { dd with sln := { dd.sln with holdEnd := none } }; dd), 0, 0, [], by decide⟩,
   ⟨testState [((SLN_NODE_INFO_STATE ((0 : Fin 250))), snPresent), (SLN_NODE_INFO_STATE 0, snPresent)], 0, ⟨false, false, ⟨0, false, false, false, false, 0, 0, 0, [], 0, 0, []⟩, 0, none, none, 0⟩, by decide⟩,
   ⟨testState [((SLN_NODE_INFO_STATE ((0 : Fin 250))), snPresent)] (fun dd => { dd with sln := { dd.sln with entries := vupd dd.sln.entries 0 (fun z => { z with fails := 300 }) } }), 0, by decide⟩,
   ⟨testState [((SLN_NODE_INFO_STATE ((0 : Fin 250))), snPresent)], 0, by decide⟩,
   ⟨testState [], 0, ⟨0, false, false, false, false, 0, adDevice, 0, [], 0, 0, []⟩, by decide⟩,
   ⟨testState [(SLN_CTRL_EN, 1)], by decide⟩,
   ⟨testState [] (fun dd => let dd : Dev := { dd with sln := { dd.sln with holdEnd := some ((0 : Nat)) } }; dd), 0, by decide⟩,
   ⟨testState [] (fun dd => let dd : Dev := { dd with sln := { dd.sln with holdEnd := none } }; dd), by decide⟩⟩

theorem witness_site_line_nodes :
    (∃ (s : State) (r : SlnJoin) (i : Fin 250),
       taken (.slnJoinReq r) s = true ∧ s.dev.slnOn = true ∧ (idx 250).find? (fun (j : Fin 250) => s.dev.slnState j != snFree && s.dev.slnId j == r.id) = none ∧ r.proto = 1 ∧ r.cls = 0x20 ∧ 250 ≤ r.former ∧ (s.dev.slnIn snFree).head? = some i) ∧
    (∃ (s : State) (r : SlnJoin) (i : Fin 250),
       taken (.slnJoinReq r) s = true ∧ s.dev.slnOn = true ∧ (idx 250).find? (fun (j : Fin 250) => s.dev.slnState j != snFree && s.dev.slnId j == r.id) = none ∧ r.proto ≠ 1 ∧ (s.dev.slnIn snFree).head? = some i) ∧
    (∃ (s : State) (i : Fin 250),
       taken (.slnAdmitAccept i) s = true ∧ s.dev.slnState i = snPending) ∧
    (∃ (s : State) (i : Fin 250),
       taken (.slnAdmitForget i) s = true ∧ (s.dev.slnState i = snLost ∨ s.dev.slnState i = snPending ∨ s.dev.slnState i = snRefused)) ∧
    (∃ (s : State) (i : Fin 250),
       taken (.slnAdmitForget i) s = true ∧ s.dev.slnState i = snPresent) ∧
    (∃ (s : State),
       taken .slnRouteRecompute s = true ∧ s.dev.slnOn = true) ∧
    (∃ (s : State) (i : Fin 250) (down : Bool) (m : ToneMap) (t0 : Nat),
       taken (.slnTmapExpiry i down) s = true ∧ (if down then s.dev.linkOf adDevice i else s.dev.linkOf i adDevice).map = some (m, t0)) :=
  ⟨⟨testState [(SLN_CTRL_EN, 1)], ⟨5, 0x20, 1, 250, none⟩, 0, by decide⟩,
   ⟨testState [(SLN_CTRL_EN, 1)], ⟨0, 0, 0, 0, none⟩, 0, by decide⟩,
   ⟨testState [((SLN_NODE_INFO_STATE ((0 : Fin 250))), snPending)], 0, by decide⟩,
   ⟨testState [((SLN_NODE_INFO_STATE ((0 : Fin 250))), snLost), (SLN_NODE_INFO_STATE 0, snLost)], 0, by decide⟩,
   ⟨testState [((SLN_NODE_INFO_STATE ((0 : Fin 250))), snPresent)], 0, by decide⟩,
   ⟨testState [(SLN_CTRL_EN, 1)], by decide⟩,
   ⟨testState [] (fun dd => dd.modLink 0 adDevice (fun z => { z with map := some (⟨0, 0, []⟩, 0) })), 0, false, ⟨0, 0, []⟩, 0, by decide⟩⟩

theorem witness_site_line_messages :
    (∃ (s : State) (src : Src) (e : Byte) (d : List Byte),
       taken (.slnSend src e d) s = true ∧ (d.isEmpty || decide (4096 < d.length)) = true) ∧
    (∃ (s : State) (src : Src) (e : Byte) (d : List Byte),
       taken (.slnSend src e d) s = true ∧ d ≠ [] ∧ d.length ≤ 4096 ∧ (idx 250).find? (fun (i : Fin 250) => i.val == e.toNat && s.dev.slnState i == snPresent) = none) ∧
    (∃ (s : State) (src : Src) (e : Byte) (d : List Byte) (i : Fin 250),
       taken (.slnSend src e d) s = true ∧ d ≠ [] ∧ d.length ≤ 4096 ∧ (idx 250).find? (fun (i : Fin 250) => i.val == e.toNat && s.dev.slnState i == snPresent) = some i ∧ ((∀ q ∈ Dev.routeLinks s.dev.sln.entries[i].route i, d.length ≤ fitBody (s.dev.txMap q.1 q.2).2.2 (s.dev.txMap q.1 q.2).2.1 1536)) ∧ d.length ≤ 1536) ∧
    (∃ (s : State) (src : Src) (n : Nat),
       taken (.slnRecv src n) s = true ∧ n < 4096) ∧
    (∃ (s : State) (src : Src) (n : Nat) (i : Nat) (d : List Byte) (l : List (Nat × List Byte)),
       taken (.slnRecv src n) s = true ∧ 4096 ≤ n ∧ s.dev.sln.inbox = (i, d) :: l) ∧
    (∃ (s : State) (src : Src) (n : Nat),
       taken (.slnRecv src n) s = true ∧ 4096 ≤ n ∧ s.dev.sln.inbox = []) ∧
    (∃ (s : State) (ready : Bool) (w : Nat) (m : Byte) (q : Nat) (due : Nat) (body : List Byte),
       taken (.dspTransaction ready w m) s = true ∧ s.dev.sln.dsp = some (q, body, due)) ∧
    (∃ (s : State) (ready : Bool) (w : Nat) (m : Byte),
       taken (.dspTransaction ready w m) s = true ∧ s.dev.sln.dsp = none) :=
  ⟨⟨testState [], .ring 0 7, 0, [], by decide⟩,
   ⟨testState [], .ring 0 7, 0, [1], by decide⟩,
   ⟨testState [(SLN_NODE_INFO_STATE 0, snPresent)], .ring 0 7, 0, [1], 0, by decide⟩,
   ⟨testState [], .ring 0 7, 0, by decide⟩,
   ⟨testState [] (fun dd => let dd : Dev := { dd with sln := { dd.sln with inbox := (((0 : Nat)), (([] : List Byte))) :: (([] : List (Nat × List Byte))) } }; dd), .ring 0 7, 4096, 0, [], [], by decide⟩,
   ⟨testState [] (fun dd => let dd : Dev := { dd with sln := { dd.sln with inbox := [] } }; dd), .ring 0 7, 4096, by decide⟩,
   ⟨testState [] (fun dd => let dd : Dev := { dd with sln := { dd.sln with dsp := some (((0 : Nat)), (([] : List Byte)), ((0 : Nat))) } }; dd), false, 0, 0, 0, 0, [], by decide⟩,
   ⟨testState [] (fun dd => let dd : Dev := { dd with sln := { dd.sln with dsp := none } }; dd), false, 0, 0, by decide⟩⟩

theorem witness_vehicle_messages :
    (∃ (s : State) (n : Fin 16) (len : Nat) (x : V2gReq),
       taken (.v2gRequest n len x) s = true ∧ (s.dev.sessState n = ssIdle ∨ 16384 < len)) ∧
    (∃ (s : State) (n : Fin 16) (len : Nat) (x : V2gReq),
       taken (.v2gRequest n len x) s = true ∧ len ≤ 16384 ∧ s.dev.sessState n ≠ ssIdle ∧ s.dev.sessState n < ssStopping ∧ (s.dev.sess n).load = false ∧ s.dev.inSequence n x = false) ∧
    (∃ (s : State) (n : Fin 16) (len : Nat),
       taken (.v2gRequest n len .tcp) s = true ∧ len ≤ 16384 ∧ ssLinked ≤ s.dev.sessState n ∧ s.dev.sessState n < ssStopping ∧ (s.dev.sess n).load = false) ∧
    (∃ (s : State) (n : Fin 16) (len : Nat),
       taken (.v2gRequest n len (.sdp false)) s = true ∧ len ≤ 16384 ∧ s.dev.sessState n = ssLinked ∧ (s.dev.sess n).load = false ∧ s.dev.flag (VSS_OUT_CFG_PLAIN_EN n) = true ∧ s.dev.flag (VSS_OUT_CFG_P2_EN n) = true) ∧
    (∃ (s : State) (n : Fin 16) (len : Nat) (p20 : Bool),
       taken (.v2gRequest n len (.appProtocol p20 true)) s = true ∧ len ≤ 16384 ∧ s.dev.sessState n = ssSecure ∧ (s.dev.sess n).load = false ∧ (s.dev.sess n).sdp = 2 ∧ s.dev.flag (VSS_OUT_STATE_TLS n) = false ∧ s.dev.flag (VSS_OUT_CFG_PLAIN_EN n) = true ∧ s.dev.flag (VSS_OUT_CFG_P2_EN n) = true) ∧
    (∃ (s : State) (n : Fin 16) (len : Nat) (e : List Byte),
       taken (.v2gRequest n len (.sessionSetup e)) s = true ∧ len ≤ 16384 ∧ s.dev.sessState n = ssSecure ∧ (s.dev.sess n).load = false ∧ s.dev.get (VSS_OUT_STATE_PROTO n) ≠ prNone ∧ s.dev.setupRefused n = true) ∧
    (∃ (s : State) (n : Fin 16) (len : Nat) (e : List Byte),
       taken (.v2gRequest n len (.sessionSetup e)) s = true ∧ len ≤ 16384 ∧ s.dev.sessState n = ssSecure ∧ (s.dev.sess n).load = false ∧ s.dev.get (VSS_OUT_STATE_PROTO n) ≠ prNone ∧ s.dev.setupRefused n = false) ∧
    (∃ (s : State) (n : Fin 16) (len : Nat),
       taken (.v2gRequest n len (.authorization none)) s = true ∧ len ≤ 16384 ∧ s.dev.sessState n = ssSetup ∧ (s.dev.sess n).load = false ∧ s.dev.flag (VSS_OUT_CFG_EIM_EN n) = true) ∧
    (∃ (s : State) (n : Fin 16) (len : Nat) (v : Rat) (i : Rat) (p : Rat) (d : Rat) (e : Option Nat),
       taken (.v2gRequest n len (.chargeParameters v i p d e)) s = true ∧ len ≤ 16384 ∧ s.dev.sessState n = ssAuthorising ∧ (s.dev.sess n).load = false ∧ (s.dev.sess n).accepted = true) ∧
    (∃ (s : State) (n : Fin 16) (len : Nat) (u : Rat),
       taken (.v2gRequest n len (.preCharge u)) s = true ∧ len ≤ 16384 ∧ s.dev.sessState n = ssPrecharge ∧ (s.dev.sess n).load = false) ∧
    (∃ (s : State) (n : Fin 16) (len : Nat),
       taken (.v2gRequest n len (.powerDelivery true)) s = true ∧ len ≤ 16384 ∧ s.dev.sessState n = ssPrecharge ∧ (s.dev.sess n).load = false) ∧
    (∃ (s : State) (n : Fin 16) (len : Nat) (x : ChargeLoop),
       taken (.v2gRequest n len (.chargeLoop x)) s = true ∧ len ≤ 16384 ∧ s.dev.sessState n = ssCharging ∧ (s.dev.sess n).load = false) ∧
    (∃ (s : State) (n : Fin 16) (len : Nat),
       taken (.v2gRequest n len (.powerDelivery false)) s = true ∧ len ≤ 16384 ∧ s.dev.sessState n = ssCharging ∧ (s.dev.sess n).load = false ∧ (s.dev.sess n).outcome = 0 ∧ s.dev.energised n = true) ∧
    (∃ (s : State) (n : Fin 16) (len : Nat),
       taken (.v2gRequest n len .sessionStop) s = true ∧ len ≤ 16384 ∧ s.dev.sessState n = ssClosing ∧ (s.dev.sess n).load = false) ∧
    (∃ (s : State) (n : Fin 16) (len : Nat),
       taken (.v2gRequest n len .broken) s = true ∧ len ≤ 16384 ∧ ssLinked ≤ s.dev.sessState n ∧ s.dev.sessState n < ssStopping ∧ (s.dev.sess n).load = false) :=
  ⟨⟨testState [((VSS_OUT_STATE_STATE ((0 : Fin 16))), ssIdle)], 0, 0, (.sdp false), by decide⟩,
   ⟨testState [(VSS_OUT_STATE_STATE 0, ssSetup)] (fun dd => let dd : Dev := { dd with vss := { dd.vss with outs := vupd dd.vss.outs ((0 : Fin 16)) (fun zz => { zz with load := false }) } }; dd), 0, 0, .preCharge 0, by decide⟩,
   ⟨testState [(VSS_OUT_STATE_STATE 0, ssLinked)] (fun dd => let dd : Dev := { dd with vss := { dd.vss with outs := vupd dd.vss.outs ((0 : Fin 16)) (fun zz => { zz with load := false }) } }; dd), 0, 0, by decide⟩,
   ⟨testState [((VSS_OUT_STATE_STATE ((0 : Fin 16))), ssLinked), ((VSS_OUT_CFG_PLAIN_EN ((0 : Fin 16))), 1), ((VSS_OUT_CFG_P2_EN ((0 : Fin 16))), 1)] (fun dd => let dd : Dev := { dd with vss := { dd.vss with outs := vupd dd.vss.outs ((0 : Fin 16)) (fun zz => { zz with load := false }) } }; dd), 0, 0, by decide⟩,
   ⟨testState [((VSS_OUT_STATE_STATE ((0 : Fin 16))), ssSecure), ((VSS_OUT_STATE_TLS ((0 : Fin 16))), 0), ((VSS_OUT_CFG_PLAIN_EN ((0 : Fin 16))), 1), ((VSS_OUT_CFG_P2_EN ((0 : Fin 16))), 1)] (fun dd => let dd : Dev := { dd with vss := { dd.vss with outs := vupd dd.vss.outs ((0 : Fin 16)) (fun zz => { zz with load := false }) } }; let dd : Dev := { dd with vss := { dd.vss with outs := vupd dd.vss.outs ((0 : Fin 16)) (fun zz => { zz with sdp := 2 }) } }; dd), 0, 0, false, by decide⟩,
   ⟨testState [((VSS_OUT_STATE_STATE ((0 : Fin 16))), ssSecure), (VSS_OUT_STATE_PROTO 0, pr20)] (fun dd => let dd : Dev := { dd with vss := { dd.vss with outs := vupd dd.vss.outs ((0 : Fin 16)) (fun zz => { zz with load := false }) } }; dd), 0, 0, [], by decide⟩,
   ⟨testState [((VSS_OUT_STATE_STATE ((0 : Fin 16))), ssSecure), (VSS_OUT_STATE_PROTO 0, pr20), (VSS_CTRL_EN, 1), (KEY_STATUS_RNG_OK, 1), (GEN_LIFECYCLE_LIFE, lfService)] (fun dd => let dd : Dev := { dd with vss := { dd.vss with outs := vupd dd.vss.outs ((0 : Fin 16)) (fun zz => { zz with load := false }) } }; dd), 0, 0, [], by decide⟩,
   ⟨testState [((VSS_OUT_STATE_STATE ((0 : Fin 16))), ssSetup), ((VSS_OUT_CFG_EIM_EN ((0 : Fin 16))), 1)] (fun dd => let dd : Dev := { dd with vss := { dd.vss with outs := vupd dd.vss.outs ((0 : Fin 16)) (fun zz => { zz with load := false }) } }; dd), 0, 0, by decide⟩,
   ⟨testState [((VSS_OUT_STATE_STATE ((0 : Fin 16))), ssAuthorising)] (fun dd => let dd : Dev := { dd with vss := { dd.vss with outs := vupd dd.vss.outs ((0 : Fin 16)) (fun zz => { zz with load := false }) } }; let dd : Dev := { dd with vss := { dd.vss with outs := vupd dd.vss.outs ((0 : Fin 16)) (fun zz => { zz with accepted := true }) } }; dd), 0, 0, 0, 0, 0, 0, none, by decide⟩,
   ⟨testState [((VSS_OUT_STATE_STATE ((0 : Fin 16))), ssPrecharge)] (fun dd => let dd : Dev := { dd with vss := { dd.vss with outs := vupd dd.vss.outs ((0 : Fin 16)) (fun zz => { zz with load := false }) } }; dd), 0, 0, 0, by decide⟩,
   ⟨testState [((VSS_OUT_STATE_STATE ((0 : Fin 16))), ssPrecharge)] (fun dd => let dd : Dev := { dd with vss := { dd.vss with outs := vupd dd.vss.outs ((0 : Fin 16)) (fun zz => { zz with load := false }) } }; dd), 0, 0, by decide⟩,
   ⟨testState [((VSS_OUT_STATE_STATE ((0 : Fin 16))), ssCharging)] (fun dd => let dd : Dev := { dd with vss := { dd.vss with outs := vupd dd.vss.outs ((0 : Fin 16)) (fun zz => { zz with load := false }) } }; dd), 0, 0, ⟨0, 0, 0, 0, 0, 0, none⟩, by decide⟩,
   ⟨testState [((VSS_OUT_STATE_STATE ((0 : Fin 16))), ssCharging), (VSS_STATUS_ENERGISED, 2 ^ (((0 : Fin 16)) : Nat))] (fun dd => let dd : Dev := { dd with vss := { dd.vss with outs := vupd dd.vss.outs ((0 : Fin 16)) (fun zz => { zz with load := false }) } }; let dd : Dev := { dd with vss := { dd.vss with outs := vupd dd.vss.outs ((0 : Fin 16)) (fun zz => { zz with outcome := 0 }) } }; dd), 0, 0, by decide⟩,
   ⟨testState [((VSS_OUT_STATE_STATE ((0 : Fin 16))), ssClosing)] (fun dd => let dd : Dev := { dd with vss := { dd.vss with outs := vupd dd.vss.outs ((0 : Fin 16)) (fun zz => { zz with load := false }) } }; dd), 0, 0, by decide⟩,
   ⟨testState [(VSS_OUT_STATE_STATE 0, ssLinked)] (fun dd => let dd : Dev := { dd with vss := { dd.vss with outs := vupd dd.vss.outs ((0 : Fin 16)) (fun zz => { zz with load := false }) } }; dd), 0, 0, by decide⟩⟩

theorem witness_session_timeouts :
    (∃ (s : State) (n : Fin 16) (t0 : Nat) (o : Nat),
       taken (.sessionStateTimeout n) s = true ∧ s.dev.stateLimit n = some (t0, o) ∧ (s.dev.sess n).outcome = 0) ∧
    (∃ (s : State) (n : Fin 16),
       taken (.sessionStateTimeout n) s = true ∧ (s.dev.sessState n = ssIdle ∨ ssCharging ≤ s.dev.sessState n)) ∧
    (∃ (s : State) (n : Fin 16) (t0 : Nat),
       taken (.authTimeout n) s = true ∧ s.dev.sessState n = ssAuthorising ∧ (s.dev.sess n).authAt = some t0 ∧ (s.dev.sess n).accepted = false ∧ (s.dev.sess n).outcome = 0) ∧
    (∃ (s : State) (n : Fin 16) (t0 : Nat),
       taken (.certInstallTimeout n) s = true ∧ (s.dev.sess n).certAt = some t0) ∧
    (∃ (s : State) (n : Fin 16),
       taken (.refusalHoldMax n) s = true ∧ s.dev.sessState n = ssCharging ∧ (s.dev.sess n).refusedAt.isSome = true ∧ (s.dev.sess n).outcome = 0) ∧
    (∃ (s : State) (n : Fin 16),
       taken (.chargeLoopTimeout n) s = true ∧ s.dev.sessState n = ssCharging ∧ (s.dev.sess n).load = false ∧ (s.dev.sess n).outcome = 0) ∧
    (∃ (s : State) (n : Fin 16),
       taken (.sessionClosingTimeout n) s = true ∧ s.dev.sessState n = ssClosing) ∧
    (∃ (s : State) (n : Fin 16),
       taken (.vlinkPoll n) s = true ∧ s.dev.frontEnd n = none ∧ s.dev.sessState n = ssIdle) ∧
    (∃ (s : State) (n : Fin 16) (i : Fin 128),
       taken (.vlinkPoll n) s = true ∧ s.dev.frontEnd n = some i ∧ s.dev.flag (VSS_OUT_CFG_EN n) = true) :=
  ⟨⟨testState [(VSS_OUT_STATE_STATE 0, ssLinked)] (fun dd => let dd : Dev := { dd with vss := { dd.vss with outs := vupd dd.vss.outs ((0 : Fin 16)) (fun zz => { zz with outcome := 0 }) } }; dd), 0, 20000000000, ocTimeout, by decide +kernel⟩,
   ⟨testState [((VSS_OUT_STATE_STATE ((0 : Fin 16))), ssIdle)], 0, by decide⟩,
   ⟨testState [((VSS_OUT_STATE_STATE ((0 : Fin 16))), ssAuthorising)] (fun dd => let dd : Dev := { dd with vss := { dd.vss with outs := vupd dd.vss.outs ((0 : Fin 16)) (fun zz => { zz with authAt := some ((0 : Nat)) }) } }; let dd : Dev := { dd with vss := { dd.vss with outs := vupd dd.vss.outs ((0 : Fin 16)) (fun zz => { zz with accepted := false }) } }; let dd : Dev := { dd with vss := { dd.vss with outs := vupd dd.vss.outs ((0 : Fin 16)) (fun zz => { zz with outcome := 0 }) } }; dd), 0, 0, by decide⟩,
   ⟨testState [] (fun dd => let dd : Dev := { dd with vss := { dd.vss with outs := vupd dd.vss.outs ((0 : Fin 16)) (fun zz => { zz with certAt := some ((0 : Nat)) }) } }; dd), 0, 0, by decide⟩,
   ⟨testState [((VSS_OUT_STATE_STATE ((0 : Fin 16))), ssCharging)] (fun dd => let dd : Dev := { dd with vss := { dd.vss with outs := vupd dd.vss.outs ((0 : Fin 16)) (fun zz => { zz with refusedAt := some default }) } }; let dd : Dev := { dd with vss := { dd.vss with outs := vupd dd.vss.outs ((0 : Fin 16)) (fun zz => { zz with outcome := 0 }) } }; dd), 0, by decide⟩,
   ⟨testState [((VSS_OUT_STATE_STATE ((0 : Fin 16))), ssCharging)] (fun dd => let dd : Dev := { dd with vss := { dd.vss with outs := vupd dd.vss.outs ((0 : Fin 16)) (fun zz => { zz with load := false }) } }; let dd : Dev := { dd with vss := { dd.vss with outs := vupd dd.vss.outs ((0 : Fin 16)) (fun zz => { zz with outcome := 0 }) } }; dd), 0, by decide⟩,
   ⟨testState [((VSS_OUT_STATE_STATE ((0 : Fin 16))), ssClosing)], 0, by decide⟩,
   ⟨testState [((VSS_OUT_STATE_STATE ((0 : Fin 16))), ssIdle)], 0, by decide⟩,
   ⟨testState [((VSS_OUT_CFG_EN ((0 : Fin 16))), 1), (PST_NODE_INFO_STATE 0, ndPresent), (PST_NODE_INFO_CLASS 0, 3)], 0, 0, by decide⟩⟩

theorem witness_outlet_contactors :
    (∃ (s : State) (n : Fin 16) (w : Word) (m : Nat),
       taken (.cableCheckVoltageReached n) s = true ∧ s.dev.sessState n = ssCableCheck ∧ s.dev.energised n = true ∧ (s.dev.sess n).finished = false ∧ s.dev.within20 n (s.dev.checkVolts n) = true ∧ (s.dev.sess n).outcome = 0 ∧ (s.dev.frontEnd n).bind (fun i => s.dev.teleOf i 5) = some (w, m) ∧ F32.finite w = true ∧ F32.toRat w * 1000 < (s.dev.get (VSS_OUT_ISO_ISO_FAULT n) : Rat) * s.dev.checkVolts n) ∧
    (∃ (s : State) (n : Fin 16) (w : Word) (m : Nat),
       taken (.cableCheckVoltageReached n) s = true ∧ s.dev.sessState n = ssCableCheck ∧ s.dev.energised n = true ∧ (s.dev.sess n).finished = false ∧ s.dev.within20 n (s.dev.checkVolts n) = true ∧ (s.dev.sess n).load = false ∧ (s.dev.frontEnd n).bind (fun i => s.dev.teleOf i 5) = some (w, m) ∧ F32.finite w = true ∧ ¬ F32.toRat w * 1000 < (s.dev.get (VSS_OUT_ISO_ISO_FAULT n) : Rat) * s.dev.checkVolts n) ∧
    (∃ (s : State) (n : Fin 16),
       taken (.energisationInstant n) s = true ∧ s.dev.energised n = false ∧ ((s.dev.flag (VSS_OUT_CFG_CONT_EN n) = true ∧ s.dev.lswOn (s.dev.contChannel n) = true) ∨ (s.dev.flag (VSS_OUT_CFG_CONT_EN n) = false ∧ (s.dev.contactorWrite n 1#32).isSome = true)) ∧ (s.dev.sessState n = ssCableCheck ∨ s.dev.sessState n = ssPrecharge ∨ s.dev.sessState n = ssCharging)) ∧
    (∃ (s : State) (n : Fin 16),
       taken (.energisationInstant n) s = true ∧ s.dev.flag (VSS_OUT_CFG_CONT_EN n) = false ∧ s.dev.contactorWrite n 1#32 = none) ∧
    (∃ (s : State) (n : Fin 16),
       taken (.stopCurrentLow n) s = true ∧ s.dev.sessState n = ssStopping ∧ s.dev.energised n = true ∧ (s.dev.sess n).opening = false ∧ s.dev.lowCurrent n = true) ∧
    (∃ (s : State) (n : Fin 16) (t0 : Nat),
       taken (.stopUnderLoad n) s = true ∧ s.dev.sessState n = ssStopping ∧ s.dev.energised n = true ∧ (s.dev.sess n).opening = false ∧ (s.dev.sess n).zeroAt = some t0 ∧ s.dev.lowCurrent n = false) ∧
    (∃ (s : State) (n : Fin 16),
       taken (.contactorOpened n) s = true ∧ s.dev.energised n = true ∧ ((s.dev.flag (VSS_OUT_CFG_CONT_EN n) = true ∧ s.dev.lswOn (s.dev.contChannel n) = false) ∨ (s.dev.flag (VSS_OUT_CFG_CONT_EN n) = false ∧ (s.dev.contactorWrite n 0#32).isSome = true))) ∧
    (∃ (s : State) (n : Fin 16) (i : Fin 128) (t0 : Nat),
       taken (.contactorOpenRetry n) s = true ∧ (s.dev.sess n).opening = true ∧ (s.dev.sess n).failedAt = some t0 ∧ s.dev.flag (VSS_OUT_CFG_CONT_EN n) = false ∧ s.dev.frontEnd n = some i) ∧
    (∃ (s : State) (n : Fin 16) (w : Word) (m : Nat) (t0 : Nat),
       taken (.weldCheck n) s = true ∧ s.dev.energised n = false ∧ (s.dev.sess n).openedAt = some t0 ∧ (s.dev.frontEnd n).bind (fun i => s.dev.teleOf i 6) = some (w, m) ∧ F32.lt (F32.ofInt 60) w = true) ∧
    (∃ (s : State) (n : Fin 16),
       taken (.weldCheck n) s = true ∧ (s.dev.sess n).openedAt = none) :=
  ⟨⟨testState [((VSS_OUT_STATE_STATE ((0 : Fin 16))), ssCableCheck), (VSS_STATUS_ENERGISED, 2 ^ (((0 : Fin 16)) : Nat)), (PST_NODE_INFO_STATE 0, ndPresent), (PST_NODE_INFO_CLASS 0, 3), (VSS_OUT_ISO_ISO_FAULT 0, 100), (VSS_OUT_EVLIM_EV_VMAX 0, 5000), (VSS_OUT_LIM_V_MAX 0, 5000)] (fun dd => let dd : Dev := { dd with vss := { dd.vss with outs := vupd dd.vss.outs ((0 : Fin 16)) (fun zz => { zz with finished := false }) } }; let dd : Dev := { dd with vss := { dd.vss with outs := vupd dd.vss.outs ((0 : Fin 16)) (fun zz => { zz with outcome := 0 }) } }; (dd.modSeen 0 (fun z => { z with lo := ⟨some 0, List.replicate 8 (some (0, 0))⟩ })).modTri 0 (fun z => { z with value := some (500 * 2 ^ 32, 0) })), 0, 0, 0, by decide +kernel⟩,
   ⟨testState [((VSS_OUT_STATE_STATE ((0 : Fin 16))), ssCableCheck), (VSS_STATUS_ENERGISED, 2 ^ (((0 : Fin 16)) : Nat)), (PST_NODE_INFO_STATE 0, ndPresent), (PST_NODE_INFO_CLASS 0, 3), (VSS_OUT_EVLIM_EV_VMAX 0, 0)] (fun dd => let dd : Dev := { dd with vss := { dd.vss with outs := vupd dd.vss.outs ((0 : Fin 16)) (fun zz => { zz with finished := false }) } }; let dd : Dev := { dd with vss := { dd.vss with outs := vupd dd.vss.outs ((0 : Fin 16)) (fun zz => { zz with load := false }) } }; (dd.modSeen 0 (fun z => { z with lo := ⟨some 0, List.replicate 8 (some (0, 0))⟩ })).modTri 0 (fun z => { z with value := some (0, 0) })), 0, 0, 0, by decide +kernel⟩,
   ⟨testState [(VSS_OUT_CFG_CONT_EN 0, 1), (LSW_STATUS_ON, 1), (VSS_OUT_STATE_STATE 0, ssCableCheck)], 0, by decide +kernel⟩,
   ⟨testState [((VSS_OUT_CFG_CONT_EN ((0 : Fin 16))), 0)], 0, by decide⟩,
   ⟨testState [((VSS_OUT_STATE_STATE ((0 : Fin 16))), ssStopping), (VSS_STATUS_ENERGISED, 2 ^ (((0 : Fin 16)) : Nat))] (fun dd => let dd : Dev := { dd with vss := { dd.vss with outs := vupd dd.vss.outs ((0 : Fin 16)) (fun zz => { zz with opening := false }) } }; dd.modTri 0 (fun z => { z with value := some (0, 0) })), 0, by decide +kernel⟩,
   ⟨testState [((VSS_OUT_STATE_STATE ((0 : Fin 16))), ssStopping), (VSS_STATUS_ENERGISED, 2 ^ (((0 : Fin 16)) : Nat))] (fun dd => let dd : Dev := { dd with vss := { dd.vss with outs := vupd dd.vss.outs ((0 : Fin 16)) (fun zz => { zz with opening := false }) } }; let dd : Dev := { dd with vss := { dd.vss with outs := vupd dd.vss.outs ((0 : Fin 16)) (fun zz => { zz with zeroAt := some ((0 : Nat)) }) } }; dd), 0, 0, by decide⟩,
   ⟨testState [(VSS_OUT_CFG_CONT_EN 0, 1), (LSW_STATUS_ON, 0), (VSS_STATUS_ENERGISED, 1)], 0, by decide +kernel⟩,
   ⟨testState [((VSS_OUT_CFG_CONT_EN ((0 : Fin 16))), 0), (PST_NODE_INFO_STATE 0, ndPresent), (PST_NODE_INFO_CLASS 0, 3)] (fun dd => let dd : Dev := { dd with vss := { dd.vss with outs := vupd dd.vss.outs ((0 : Fin 16)) (fun zz => { zz with opening := true }) } }; let dd : Dev := { dd with vss := { dd.vss with outs := vupd dd.vss.outs ((0 : Fin 16)) (fun zz => { zz with failedAt := some ((0 : Nat)) }) } }; dd), 0, 0, 0, by decide⟩,
   ⟨testState [(VSS_STATUS_ENERGISED, 0), (PST_NODE_INFO_STATE 0, ndPresent), (PST_NODE_INFO_CLASS 0, 3)] (fun dd => let dd : Dev := { dd with vss := { dd.vss with outs := vupd dd.vss.outs ((0 : Fin 16)) (fun zz => { zz with openedAt := some ((0 : Nat)) }) } }; dd.modSeen 0 (fun z => { z with lo := ⟨some 0, List.replicate 8 (some (0x42C80000, 0))⟩ })), 0, 0x42C80000, 0, 0, by decide +kernel⟩,
   ⟨testState [] (fun dd => let dd : Dev := { dd with vss := { dd.vss with outs := vupd dd.vss.outs ((0 : Fin 16)) (fun zz => { zz with openedAt := none }) } }; dd), 0, by decide⟩⟩

theorem witness_host_over_sessions :
    (∃ (s : State) (n : Fin 16),
       taken (.sessionStop n) s = true ∧ s.dev.sessState n = ssIdle) ∧
    (∃ (s : State) (n : Fin 16),
       taken (.sessionStop n) s = true ∧ s.dev.sessState n ≠ ssIdle ∧ s.dev.sessState n < ssStopping ∧ (s.dev.sess n).outcome = 0) ∧
    (∃ (s : State) (n : Fin 16),
       taken (.weldClear n) s = true) ∧
    (∃ (s : State) (src : Src) (x : AuthAnswer),
       taken (.authAnswer src x) s = true ∧ (16 ≤ x.outlet ∨ 2 ≤ x.result)) ∧
    (∃ (s : State) (src : Src) (n : Fin 16) (c : Nat) (k : Nat) (b : Bool),
       taken (.authAnswer src ⟨n, 0, c, b, k⟩) s = true ∧ c < 8 ∧ s.dev.sessState n = ssAuthorising ∧ (s.dev.sess n).authAt.isSome = true ∧ (s.dev.sess n).accepted = false) ∧
    (∃ (s : State) (src : Src) (o : Nat) (d : List Byte),
       taken (.certResponse src o d) s = true ∧ 16 ≤ o) ∧
    (∃ (s : State) (src : Src) (n : Fin 16) (d : List Byte),
       taken (.certResponse src n d) s = true ∧ (s.dev.sess n).certAt.isSome = true) ∧
    (∃ (s : State) (src : Src) (n : Fin 16) (d : List Byte),
       taken (.chainSet src n d) s = true) ∧
    (∃ (s : State) (src : Src) (k : Nat) (d : List (List Byte)),
       taken (.anchorSet src k d) s = true) ∧
    (∃ (s : State) (src : Src) (x : Commission),
       taken (.commission src x) s = true ∧ x.outlet < 16 ∧ x.kind < 2 ∧ (s.dev.assocOf .host).any (fun a => isInstaller a.role) = false) ∧
    (∃ (s : State) (src : Src) (n : Fin 16) (p : Nat) (c : Nat) (v : Nat),
       taken (.commission src ⟨n, 0, p, c, v⟩) s = true ∧ (s.dev.assocOf .host).any (fun a => isInstaller a.role) = true ∧ s.dev.life = lfCommissioning ∧ s.dev.testRuns 0x0A = false ∧ (s.dev.sessState n = ssIdle ∨ s.dev.sessState n = ssLinked)) ∧
    (∃ (s : State) (m : Manifest) (r : KeyRec),
       taken .manifestLateSign s = true ∧ s.dev.usableKey (s.dev.get BIL_MAN_CFG_KEY_SLOT) kuManifest = some r ∧ s.dev.bil.archive = [m] ∧ m.sig = [] ∧ m.identGen = s.dev.get GEN_LIFECYCLE_IDENTITY_GEN) :=
  ⟨⟨testState [((VSS_OUT_STATE_STATE ((0 : Fin 16))), ssIdle)], 0, by decide⟩,
   ⟨testState [(VSS_OUT_STATE_STATE 0, ssLinked)] (fun dd => let dd : Dev := { dd with vss := { dd.vss with outs := vupd dd.vss.outs ((0 : Fin 16)) (fun zz => { zz with outcome := 0 }) } }; dd), 0, by decide⟩,
   ⟨testState [], 0, by decide⟩,
   ⟨testState [], .ring 0 7, ⟨16, 0, 0, false, 0⟩, by decide⟩,
   ⟨testState [((VSS_OUT_STATE_STATE ((0 : Fin 16))), ssAuthorising)] (fun dd => let dd : Dev := { dd with vss := { dd.vss with outs := vupd dd.vss.outs ((0 : Fin 16)) (fun zz => { zz with authAt := some default }) } }; let dd : Dev := { dd with vss := { dd.vss with outs := vupd dd.vss.outs ((0 : Fin 16)) (fun zz => { zz with accepted := false }) } }; dd), .ring 0 7, 0, 0, 0, false, by decide⟩,
   ⟨testState [], .ring 0 7, 16, [], by decide⟩,
   ⟨testState [] (fun dd => let dd : Dev := { dd with vss := { dd.vss with outs := vupd dd.vss.outs ((0 : Fin 16)) (fun zz => { zz with certAt := some default }) } }; dd), .ring 0 7, 0, [], by decide⟩,
   ⟨testState [], .ring 0 7, 0, [], by decide⟩,
   ⟨testState [], .ring 0 7, 0, [], by decide⟩,
   ⟨testState [], .ring 0 7, ⟨0, 0, 0, 0, 0⟩, by decide⟩,
   ⟨testState [(GEN_LIFECYCLE_LIFE, lfCommissioning), ((VSS_OUT_STATE_STATE ((0 : Fin 16))), ssIdle)] (fun dd => { dd with bil := { dd.bil with assocs := [⟨.host, .installer, 0⟩] } }), .ring 0 7, 0, 0, 0, 0, by decide⟩,
   ⟨testState [] (fun dd => let dd : Dev := { dd with bil := { dd.bil with archive := [((⟨0, 0, 0, 0, 0, 0, 0, 0, 0, 0, ⟨0, 0, 0, 0, 0, [], []⟩, ⟨0, 0, 0, 0, 0, [], []⟩, 0, [], [], 0, 0, 0, 0, 0, [], []⟩ : Manifest))] } }; testKeys (testKey ktP256 kuManifest) dd), ⟨0, 0, 0, 0, 0, 0, 0, 0, 0, 0, ⟨0, 0, 0, 0, 0, [], []⟩, ⟨0, 0, 0, 0, 0, [], []⟩, 0, [], [], 0, 0, 0, 0, 0, [], []⟩, testKey ktP256 kuManifest, by decide⟩⟩

theorem witness_switch_protections :
    (∃ (s : State) (n : Fin 20) (since : Nat) (t0 : Nat),
       taken (.lswOvercurrent n since) s = true ∧ s.dev.lswOn n = true ∧ s.dev.lsw.chs[n].since = some t0) ∧
    (∃ (s : State) (n : Fin 20),
       taken (.lswThermalShutdown n) s = true ∧ s.dev.lswOn n = true) ∧
    (∃ (s : State) (n : Fin 20) (since : Nat),
       s.dev.lsw.chs[n].since = none) ∧
    (∃ (s : State) (n : Fin 20),
       s.dev.lswOn n = false) ∧
    (∃ (s : State) (n : Fin 20) (tj : Int),
       taken (.lswTempWarn n tj) s = true) ∧
    (∃ (s : State) (n : Fin 20),
       taken (.lswRetry n) s = true ∧ s.dev.lsw.chs[n].cooling = true ∧ s.dev.get (LSW_CH_STATUS_RETRY_CNT n) < s.dev.get (LSW_CH_CFG_RETRY_MAX n) ∧ s.dev.geti (LSW_CH_MEAS_TJ n) < 1400 ∧ (s.dev.modCh n (fun x => { x with cooling := false })).lswFree n = true ∧ s.dev.get LSW_STATUS_SUPPLY ≠ suDip) ∧
    (∃ (s : State) (n : Fin 20),
       s.dev.lsw.chs[n].cooling = false) ∧
    (∃ (s : State) (n : Fin 20) (t0 : Nat),
       taken (.lswRetryCntReset n) s = true ∧ s.dev.lsw.chs[n].since = some t0) ∧
    (∃ (s : State) (n : Fin 20) (v0 : Nat) (v1 : Nat),
       taken (.lswOffstateTest n v0 v1) s = true ∧ s.dev.lswOn n = false ∧ s.dev.flag (LSW_CH_CFG_OL_EN n) = true ∧ s.dev.get LSW_STATUS_SUPPLY = suNormal) ∧
    (∃ (s : State) (n : Fin 20) (v0 : Nat) (v1 : Nat),
       s.dev.lswOn n = true) :=
  ⟨⟨testState [(LSW_STATUS_ON, 1)] (fun dd => dd.putLsw { dd.lsw with chs := vupd dd.lsw.chs 0 (fun z => { z with since := some 5 }) }), 0, 0, 5, by decide⟩,
   ⟨testState [(LSW_STATUS_ON, 2 ^ (((0 : Fin 20)) : Nat))], 0, by decide⟩,
   ⟨testState [] (fun dd => dd), 0, 0, by decide⟩,
   ⟨testState [(LSW_STATUS_ON, 0)], 0, by decide⟩,
   ⟨testState [], 0, 0, by decide⟩,
   ⟨testState [(LSW_CH_CFG_RETRY_MAX 0, 3), (LSW_CH_CFG_EN 0, 1), (LSW_CH_CTL_ON 0, 1)] (fun dd => let dd : Dev := { dd with lsw := { dd.lsw with chs := vupd dd.lsw.chs ((0 : Fin 20)) (fun zz => { zz with cooling := true }) } }; dd), 0, by decide⟩,
   ⟨testState [] (fun dd => let dd : Dev := { dd with lsw := { dd.lsw with chs := vupd dd.lsw.chs ((0 : Fin 20)) (fun zz => { zz with cooling := false }) } }; dd), 0, by decide⟩,
   ⟨testState [] (fun dd => let dd : Dev := { dd with lsw := { dd.lsw with chs := vupd dd.lsw.chs ((0 : Fin 20)) (fun zz => { zz with since := some ((0 : Nat)) }) } }; dd), 0, 0, by decide⟩,
   ⟨testState [(LSW_STATUS_ON, 0), ((LSW_CH_CFG_OL_EN ((0 : Fin 20))), 1), (LSW_STATUS_SUPPLY, suNormal)], 0, 0, 0, by decide⟩,
   ⟨testState [(LSW_STATUS_ON, 2 ^ (((0 : Fin 20)) : Nat))], 0, 0, 0, by decide⟩⟩

theorem witness_can_controllers :
    (∃ (s : State) (n : Fin 4),
       taken (.canEnable n) s = true ∧ s.dev.flag (CAN_CTL_EN n) = false ∧ s.dev.canEnableBad n = some ST_CAN_CAN_RING) ∧
    (∃ (s : State) (n : Fin 4),
       taken (.canEnable n) s = true ∧ s.dev.flag (CAN_CTL_EN n) = false ∧ s.dev.canEnableBad n = none) ∧
    (∃ (s : State) (n : Fin 4),
       taken (.canDisable n false) s = true ∧ s.dev.flag (CAN_CTL_EN n) = true) ∧
    (∃ (s : State) (n : Fin 4),
       taken (.canRecover n) s = true ∧ s.dev.get (CAN_STATUS_STATE n) = Dev.canBusOff) ∧
    (∃ (s : State) (n : Fin 4),
       taken (.canRecover n) s = true ∧ s.dev.get (CAN_STATUS_STATE n) ≠ Dev.canBusOff) ∧
    (∃ (s : State) (n : Fin 4),
       taken (.canRecoveryComplete n) s = true ∧ s.dev.get (CAN_STATUS_STATE n) = Dev.canBusOff ∧ s.dev.flag (CAN_STATUS_RECOVERING n) = true) ∧
    (∃ (s : State) (n : Fin 4) (lec : Fin 8),
       taken (.canBusError n (.transmit lec)) s = true ∧ s.dev.canOnBus n = true) ∧
    (∃ (s : State) (n : Fin 4) (lec : Fin 8),
       taken (.canBusError n (.receiveEight lec)) s = true ∧ s.dev.canOnBus n = true) ∧
    (∃ (s : State) (n : Fin 4) (e : CanError),
       taken (.canBusError n e) s = true ∧ s.dev.canOnBus n = false) :=
  ⟨⟨testState [((CAN_CTL_EN ((0 : Fin 4))), 0), (CAN_NBT_NTSEG1_M1 0, 60), (CAN_NBT_NTSEG2_M1 0, 17), (CAN_NBT_NSJW_M1 0, 1), (CAN_RING_TX_EN 0, 1), (CAN_DBT_DTSEG1_M1 0, 30), (CAN_DBT_DTSEG2_M1 0, 15), (CAN_TDC_TDC_EN 0, 1)], 0, by decide⟩,
   ⟨testState [((CAN_CTL_EN ((0 : Fin 4))), 0), (CAN_NBT_NTSEG1_M1 0, 60), (CAN_NBT_NTSEG2_M1 0, 17), (CAN_NBT_NSJW_M1 0, 1), (CAN_DBT_DTSEG1_M1 0, 30), (CAN_DBT_DTSEG2_M1 0, 15), (CAN_TDC_TDC_EN 0, 1)], 0, by decide⟩,
   ⟨testState [((CAN_CTL_EN ((0 : Fin 4))), 1)], 0, by decide⟩,
   ⟨testState [((CAN_STATUS_STATE ((0 : Fin 4))), Dev.canBusOff)], 0, by decide⟩,
   ⟨testState [], 0, by decide⟩,
   ⟨testState [((CAN_STATUS_STATE ((0 : Fin 4))), Dev.canBusOff), ((CAN_STATUS_RECOVERING ((0 : Fin 4))), 1)], 0, by decide⟩,
   ⟨testState [(CAN_CTL_EN 0, 1)], 0, 0, by decide⟩,
   ⟨testState [(CAN_CTL_EN 0, 1)], 0, 0, by decide⟩,
   ⟨testState [], 0, (.transmit 0), by decide⟩⟩

theorem witness_can_frames :
    (∃ (s : State) (r : Fin 256) (tag : Word) (f : List Byte),
       taken (.canTx (.ring r tag) f) s = true ∧ (s.dev.get (HIF_RING_CFG_OWNER r) = 0 ∨ 4 < s.dev.get (HIF_RING_CFG_OWNER r))) ∧
    (∃ (s : State) (r : Fin 256) (tag : Word) (f : List Byte) (n : Fin 4),
       taken (.canTx (.ring r tag) f) s = true ∧ s.dev.get (HIF_RING_CFG_OWNER r) = n.val + 1 ∧ (s.dev.flag (CAN_CTL_EN n) && s.dev.flag (CAN_RING_TX_EN n)) = false) ∧
    (∃ (s : State) (r : Fin 256) (tag : Word) (f : List Byte) (n : Fin 4),
       taken (.canTx (.ring r tag) f) s = true ∧ s.dev.get (HIF_RING_CFG_OWNER r) = n.val + 1 ∧ s.dev.flag (CAN_CTL_EN n) = true ∧ s.dev.flag (CAN_RING_TX_EN n) = true ∧ s.dev.get (CAN_RING_TX_RING n) = r.val ∧ s.dev.flag GEN_LIFECYCLE_SAFE_HOLD = false ∧ s.dev.canFormatBad n (parseCanRecord f) = true) ∧
    (∃ (s : State) (r : Fin 256) (tag : Word) (f : List Byte) (n : Fin 4),
       taken (.canTx (.ring r tag) f) s = true ∧ s.dev.get (HIF_RING_CFG_OWNER r) = n.val + 1 ∧ s.dev.flag (CAN_CTL_EN n) = true ∧ s.dev.flag (CAN_RING_TX_EN n) = true ∧ s.dev.get (CAN_RING_TX_RING n) = r.val ∧ s.dev.flag GEN_LIFECYCLE_SAFE_HOLD = false ∧ s.dev.canFormatBad n (parseCanRecord f) = false) ∧
    (∃ (s : State) (n : Fin 4) (sof : Nat) (edges : List Nat) (p : CanPending),
       taken (.canTxComplete n .sent sof edges) s = true ∧ s.dev.canOffered n sof = some p ∧ (s.dev.canOf n).tec ≤ 256 ∧ (s.dev.canOf n).pend.length ≤ 32) ∧
    (∃ (s : State) (n : Fin 4) (r : CanResult) (sof : Nat) (edges : List Nat),
       taken (.canTxComplete n r sof edges) s = true ∧ s.dev.canOffered n sof = none) ∧
    (∃ (s : State) (n : Fin 4) (sof : Nat) (edges : List Nat) (p : CanPending),
       taken (.canTxComplete n .arbitrationLost sof edges) s = true ∧ s.dev.canOffered n sof = some p ∧ s.dev.flag (CAN_CTL_EN n) = true) ∧
    (∃ (s : State) (n : Fin 4) (f : CanFrame) (sof : Nat),
       taken (.canFrameReceived n f sof) s = true ∧ s.dev.canOnBus n = false) ∧
    (∃ (s : State) (n : Fin 4) (f : CanFrame) (sof : Nat),
       taken (.canFrameReceived n f sof) s = true ∧ s.dev.canOnBus n = true ∧ s.dev.get (CAN_CTL_LOOP n) ≠ 1 ∧ s.dev.canJoined n sof = true ∧ (s.dev.canOf n).rxc = 0 ∧ s.dev.canFilter n f = none ∧ s.dev.flag (CAN_RING_DEF_EN n) = false) ∧
    (∃ (s : State) (n : Fin 4) (f : CanFrame) (sof : Nat) (q : Fin 64),
       taken (.canFrameReceived n f sof) s = true ∧ s.dev.canOnBus n = true ∧ s.dev.get (CAN_CTL_LOOP n) ≠ 1 ∧ s.dev.canJoined n sof = true ∧ (s.dev.canOf n).rxc = 0 ∧ s.dev.canFilter n f = some q ∧ s.dev.get (CAN_FLT_DEST_DEST n q) = 0 ∧ s.dev.ringUsable (Fin.ofNat 256 (s.dev.get (CAN_FLT_DEST_RING n q))) kindRecord = true ∧ s.dev.ringHasRoom (Fin.ofNat 256 (s.dev.get (CAN_FLT_DEST_RING n q))) = true ∧ max s.dev.dt sof = s.dev.dt) :=
  ⟨⟨testState [((HIF_RING_CFG_OWNER ((0 : Fin 256))), 0)], 0, 0, [], by decide⟩,
   ⟨testState [((HIF_RING_CFG_OWNER ((0 : Fin 256))), ((0 : Fin 4)).val + 1)], 0, 0, [], 0, by decide⟩,
   ⟨testState [((HIF_RING_CFG_OWNER ((0 : Fin 256))), ((0 : Fin 4)).val + 1), ((CAN_CTL_EN ((0 : Fin 4))), 1), ((CAN_RING_TX_EN ((0 : Fin 4))), 1), ((CAN_RING_TX_RING ((0 : Fin 4))), ((0 : Fin 256)).val), (GEN_LIFECYCLE_SAFE_HOLD, 0)], 0, 0, List.replicate 12 0 ++ [0x20] ++ List.replicate 67 0, 0, by decide +kernel⟩,
   ⟨testState [((HIF_RING_CFG_OWNER ((0 : Fin 256))), ((0 : Fin 4)).val + 1), ((CAN_CTL_EN ((0 : Fin 4))), 1), ((CAN_RING_TX_EN ((0 : Fin 4))), 1), ((CAN_RING_TX_RING ((0 : Fin 4))), ((0 : Fin 256)).val), (GEN_LIFECYCLE_SAFE_HOLD, 0)], 0, 0, [], 0, by decide⟩,
   ⟨testState [(CAN_CTL_EN 0, 1), (CAN_STATUS_STATE 0, 0)] (fun dd => dd.modCan 0 (fun z => { z with pend := [⟨.ring 0 7, ⟨0, false, false, false, false, false, false, 0, []⟩, 0⟩] })), 0, 1000000000000, [], ⟨.ring 0 7, ⟨0, false, false, false, false, false, false, 0, []⟩, 0⟩, by decide +kernel⟩,
   ⟨testState [], 0, .sent, 0, [], by decide⟩,
   ⟨testState [((CAN_CTL_EN ((0 : Fin 4))), 1), (CAN_CTL_EN 0, 1), (CAN_STATUS_STATE 0, 0)] (fun dd => dd.modCan 0 (fun z => { z with pend := [⟨.ring 0 7, ⟨0, false, false, false, false, false, false, 0, []⟩, 0⟩] })), 0, 1000000000000, [], ⟨.ring 0 7, ⟨0, false, false, false, false, false, false, 0, []⟩, 0⟩, by decide +kernel⟩,
   ⟨testState [], 0, ⟨0, false, false, false, false, false, false, 0, []⟩, 0, by decide⟩,
   ⟨testState [((CAN_RING_DEF_EN ((0 : Fin 4))), 0), (CAN_CTL_EN 0, 1), (CAN_STATUS_STATE 0, 0)] (fun dd => let dd : Dev := { dd with can := vupd dd.can ((0 : Fin 4)) (fun zz => { zz with rxc := 0 }) }; dd), 0, ⟨0, false, false, false, false, false, false, 0, []⟩, 1000000000000, by decide +kernel⟩,
   ⟨testState [((CAN_FLT_DEST_DEST ((0 : Fin 4)) ((0 : Fin 64))), 0), (CAN_CTL_EN 0, 1), (CAN_STATUS_STATE 0, 0), (CAN_FLT_ID_EN 0 0, 1), (HIF_RING_CFG_EN 0, 1), (HIF_RING_STATUS_STATE 0, 1), (HIF_RING_CFG_KIND 0, kindRecord), (HIF_RING_CFG_LOG2 0, 4), (HIF_STATUS_LINK_UP, 1)] (fun dd => let dd : Dev := { dd with can := vupd dd.can ((0 : Fin 4)) (fun zz => { zz with rxc := 0 }) }; { dd with dt := 1000000000000 }), 0, ⟨0, false, false, false, false, false, false, 0, []⟩, 1000000000000, 0, by decide +kernel⟩⟩

theorem witness_metering_heads :
    (∃ (s : State) (n : Fin 16),
       taken (.triadEnable n) s = true ∧ s.dev.flag (TRI_OUT_CFG_EN n) = false ∧ (((Dev.headsOf n).map (fun (h : Fin 48) => s.dev.get64 (TRI_HEAD_NODE_LO h))).contains 0#64 || ((Dev.headsOf n).map (fun (h : Fin 48) => s.dev.get64 (TRI_HEAD_NODE_LO h))).eraseDups.length != 3) = true) ∧
    (∃ (s : State) (n : Fin 16),
       taken (.triadEnable n) s = true ∧ s.dev.flag (TRI_OUT_CFG_EN n) = false ∧ (((Dev.headsOf n).map (fun (h : Fin 48) => s.dev.get64 (TRI_HEAD_NODE_LO h))).contains 0#64 || ((Dev.headsOf n).map (fun (h : Fin 48) => s.dev.get64 (TRI_HEAD_NODE_LO h))).eraseDups.length != 3) = false ∧ s.dev.placementBad n = false) ∧
    (∃ (s : State) (n : Fin 16) (k : Fin 3),
       taken (.headStandbyRequest n k) s = true ∧ s.dev.flag (TRI_OUT_CFG_EN n) = true ∧ (s.dev.energised n && decide (((s.dev.admittedHeads n).filter (fun j => j != slotOf n k)).length < 2)) = true) ∧
    (∃ (s : State) (n : Fin 16) (k : Fin 3),
       taken (.headStandbyRequest n k) s = true ∧ s.dev.flag (TRI_OUT_CFG_EN n) = true ∧ (s.dev.energised n && decide (((s.dev.admittedHeads n).filter (fun j => j != slotOf n k)).length < 2)) = false) ∧
    (∃ (s : State) (n : Fin 16) (k : Fin 3),
       taken (.headReadmitRequest n k) s = true ∧ (!s.dev.flag (TRI_OUT_CFG_EN n) || (s.dev.headNode (slotOf n k)).isNone) = true) ∧
    (∃ (s : State) (n : Fin 16) (k : Fin 3),
       taken (.headReadmitRequest n k) s = true ∧ s.dev.flag (TRI_OUT_CFG_EN n) = true ∧ (s.dev.headNode (slotOf n k)).isSome = true ∧ s.dev.headState (slotOf n k) = hdStandby) ∧
    (∃ (s : State) (h : Fin 48),
       taken (.headReadmitTimer h) s = true ∧ s.dev.get TRI_TEST_READMIT_S ≠ 0 ∧ s.dev.headState h = hdStandby ∧ s.dev.get (TRI_HEAD_STATUS_CAUSE h) = hcDisagree ∧ (s.dev.headNode h).isSome = true ∧ s.dev.flag (TRI_OUT_CFG_EN (h.val / 3)) = true) ∧
    (∃ (s : State) (h : Fin 48),
       taken (.headReadmitTimer h) s = true ∧ s.dev.headState h ≠ hdStandby) ∧
    (∃ (s : State) (h : Fin 48),
       taken (.headSelfTestResult h .pass) s = true ∧ s.dev.headState h = hdTesting ∧ s.dev.get (TRI_HEAD_STATUS_STEP h) = tsSelf) ∧
    (∃ (s : State) (h : Fin 48),
       taken (.headSelfTestResult h .fail) s = true ∧ s.dev.headState h = hdTesting ∧ s.dev.get (TRI_HEAD_STATUS_STEP h) = tsSelf) ∧
    (∃ (s : State) (h : Fin 48),
       taken (.headResyncTimeout h) s = true ∧ s.dev.headState h = hdTesting ∧ s.dev.get (TRI_HEAD_STATUS_STEP h) = tsResync) :=
  ⟨⟨testState [((TRI_OUT_CFG_EN ((0 : Fin 16))), 0)], 0, by decide⟩,
   ⟨testState [((TRI_OUT_CFG_EN ((0 : Fin 16))), 0)] (fun dd => testRegs [(TRI_HEAD_NODE_LO 0, 1), (TRI_HEAD_NODE_LO 1, 2), (TRI_HEAD_NODE_LO 2, 3)] dd), 0, by decide⟩,
   ⟨testState [((TRI_OUT_CFG_EN ((0 : Fin 16))), 1), (VSS_STATUS_ENERGISED, 1)], 0, 0, by decide⟩,
   ⟨testState [((TRI_OUT_CFG_EN ((0 : Fin 16))), 1)], 0, 0, by decide⟩,
   ⟨testState [], 0, 0, by decide⟩,
   ⟨testState [((TRI_OUT_CFG_EN ((0 : Fin 16))), 1), ((TRI_HEAD_STATUS_STATE (slotOf ((0 : Fin 16)) ((0 : Fin 3)))), hdStandby), (PST_NODE_INFO_STATE 0, ndPresent), (PST_NODE_INFO_CLASS 0, 2), (TRI_HEAD_STATUS_STATE 0, hdStandby)], 0, 0, by decide⟩,
   ⟨testState [(TRI_TEST_READMIT_S, 1), ((TRI_HEAD_STATUS_STATE ((0 : Fin 48))), hdStandby), ((TRI_HEAD_STATUS_CAUSE ((0 : Fin 48))), hcDisagree), ((TRI_OUT_CFG_EN (((0 : Fin 48)).val / 3)), 1), (PST_NODE_INFO_STATE 0, ndPresent), (PST_NODE_INFO_CLASS 0, 2), (TRI_HEAD_STATUS_STATE 0, hdStandby)], 0, by decide⟩,
   ⟨testState [], 0, by decide⟩,
   ⟨testState [((TRI_HEAD_STATUS_STATE ((0 : Fin 48))), hdTesting), ((TRI_HEAD_STATUS_STEP ((0 : Fin 48))), tsSelf)], 0, by decide⟩,
   ⟨testState [((TRI_HEAD_STATUS_STATE ((0 : Fin 48))), hdTesting), ((TRI_HEAD_STATUS_STEP ((0 : Fin 48))), tsSelf)], 0, by decide⟩,
   ⟨testState [((TRI_HEAD_STATUS_STATE ((0 : Fin 48))), hdTesting), ((TRI_HEAD_STATUS_STEP ((0 : Fin 48))), tsResync)], 0, by decide⟩⟩

theorem witness_object_associations :
    (∃ (s : State) (o : ObjSrc) (c : Channel),
       taken (.objLogin o .public_) s = true ∧ s.dev.channelOf o = some c) ∧
    (∃ (s : State) (o : ObjSrc) (c : Channel) (n : Fin 16) (sid : Id64),
       taken (.objLogin o (.customer n sid)) s = true ∧ s.dev.channelOf o = some c) ∧
    (∃ (s : State) (o : ObjSrc) (c : Channel) (m : List Byte),
       taken (.objLogin o (.operator m)) s = true ∧ s.dev.channelOf o = some c ∧ (s.dev.accessOf c).locked.isSome = true) ∧
    (∃ (s : State) (o : ObjSrc) (c : Channel) (m : List Byte),
       taken (.objLogin o (.metrologist m)) s = true ∧ s.dev.channelOf o = some c ∧ (s.dev.accessOf c).locked = none ∧ s.dev.flag BIL_STATUS_SEAL_BROKEN = false) ∧
    (∃ (s : State) (o : ObjSrc) (c : Channel) (m : List Byte) (x : List Byte) (k : KeyRec),
       taken (.objLogin o (.installer m)) s = true ∧ s.dev.channelOf o = some c ∧ (s.dev.accessOf c).locked = none ∧ s.dev.roleKey .installer = some k ∧ (s.dev.accessOf c).challenge = some x ∧ m = Config.hmac 256 k.secret (x ++ leBytes 1 (channelCode c) ++ leBytes 8 (s.dev.get64 GEN_DEVICE_ID_LO).toNat)) ∧
    (∃ (s : State) (o : ObjSrc) (c : Channel) (m : List Byte) (k : KeyRec),
       taken (.objLogin o (.installer m)) s = true ∧ s.dev.channelOf o = some c ∧ (s.dev.accessOf c).locked = none ∧ s.dev.roleKey .installer = some k ∧ (s.dev.accessOf c).challenge = none) ∧
    (∃ (s : State) (o : ObjSrc) (c : Channel),
       taken (.objChallenge o) s = true ∧ s.dev.channelOf o = some c ∧ s.dev.flag KEY_STATUS_RNG_OK = true) ∧
    (∃ (s : State) (o : ObjSrc) (c : Channel),
       taken (.objChallenge o) s = true ∧ s.dev.channelOf o = some c ∧ s.dev.flag KEY_STATUS_RNG_OK = false) ∧
    (∃ (s : State) (o : ObjSrc) (c : Channel) (id : Word),
       taken (.objGet o id) s = true ∧ s.dev.channelOf o = some c ∧ s.dev.assocOf c = none) ∧
    (∃ (s : State) (o : ObjSrc) (c : Channel) (id : Word) (a : Assoc),
       taken (.objGet o id) s = true ∧ s.dev.channelOf o = some c ∧ s.dev.assocOf c = some a) ∧
    (∃ (s : State) (o : ObjSrc) (c : Channel) (a : Assoc),
       taken (.objEnd o) s = true ∧ s.dev.channelOf o = some c ∧ s.dev.assocOf c = some a) ∧
    (∃ (s : State) (c : Channel) (a : Assoc),
       taken (.associationTimeout c) s = true ∧ s.dev.assocOf c = some a) ∧
    (∃ (s : State) (c : Channel) (l : Nat),
       taken (.accessLockExpiry c) s = true ∧ (s.dev.accessOf c).locked = some l) :=
  ⟨⟨testState [], .desc (.ring 0 7), .host, by decide⟩,
   ⟨testState [], .desc (.ring 0 7), .host, 0, 0, by decide⟩,
   ⟨testState [] (fun dd => { dd with bil := { dd.bil with access := [⟨.host, [], some 0, none⟩] } }), .desc (.ring 0 7), .host, [], by decide⟩,
   ⟨testState [(BIL_STATUS_SEAL_BROKEN, 0)], .desc (.ring 0 7), .host, [], by decide⟩,
   ⟨testState [] (fun dd => let dd : Dev := { dd with bil := { dd.bil with access := [⟨.host, [], none, some [1]⟩] } }; testKeys (testKey ktHmac kuRole) dd), .desc (.ring 0 7), .host, Config.hmac 256 (testKey ktHmac kuRole).secret ([1] ++ leBytes 1 (channelCode .host) ++ leBytes 8 ((testState [] (fun dd => let dd : Dev := { dd with bil := { dd.bil with access := [⟨.host, [], none, some [1]⟩] } }; testKeys (testKey ktHmac kuRole) dd)).dev.get64 GEN_DEVICE_ID_LO).toNat), [1], testKey ktHmac kuRole, by refine ⟨by decide, by decide, by decide, by decide, by decide, rfl⟩⟩,
   ⟨testState [] (fun dd => testKeys (testKey ktHmac kuRole) dd), .desc (.ring 0 7), .host, [], testKey ktHmac kuRole, by decide⟩,
   ⟨testState [(KEY_STATUS_RNG_OK, 1)], .desc (.ring 0 7), .host, by decide⟩,
   ⟨testState [(KEY_STATUS_RNG_OK, 0)], .desc (.ring 0 7), .host, by decide⟩,
   ⟨testState [], .desc (.ring 0 7), .host, 0, by decide⟩,
   ⟨testState [] (fun dd => let dd : Dev := { dd with bil := { dd.bil with assocs := [((⟨.host, .public_, 0⟩ : Assoc))] } }; dd), .desc (.ring 0 7), .host, 0, ⟨.host, .public_, 0⟩, by decide⟩,
   ⟨testState [] (fun dd => let dd : Dev := { dd with bil := { dd.bil with assocs := [((⟨.host, .public_, 0⟩ : Assoc))] } }; dd), .desc (.ring 0 7), .host, ⟨.host, .public_, 0⟩, by decide⟩,
   ⟨testState [] (fun dd => let dd : Dev := { dd with bil := { dd.bil with assocs := [((⟨.host, .public_, 0⟩ : Assoc))] } }; dd), .host, ⟨.host, .public_, 0⟩, by decide⟩,
   ⟨testState [] (fun dd => { dd with bil := { dd.bil with access := [⟨.host, [], some 0, none⟩] } }), .host, 0, by decide⟩⟩

theorem witness_object_settings :
    (∃ (s : State) (o : ObjSrc) (c : Channel) (a : Assoc) (u : Nat),
       taken (.legalTimeSet o u) s = true ∧ s.dev.channelOf o = some c ∧ s.dev.assocOf c = some a ∧ isOperator a.role = true ∧ (u < timeMin ∨ timeMax < u)) ∧
    (∃ (s : State) (o : ObjSrc) (c : Channel) (a : Assoc) (u : Nat),
       taken (.legalTimeSet o u) s = true ∧ s.dev.channelOf o = some c ∧ s.dev.assocOf c = some a ∧ isOperator a.role = true ∧ timeMin ≤ u ∧ u ≤ timeMax ∧ s.dev.utcValid = true ∧ ((u : Int) - s.dev.utcNow).natAbs ≤ 90000) ∧
    (∃ (s : State) (o : ObjSrc) (c : Channel) (a : Assoc) (u : Nat),
       taken (.legalTimeSet o u) s = true ∧ s.dev.channelOf o = some c ∧ s.dev.assocOf c = some a ∧ isOperator a.role = true ∧ timeMin ≤ u ∧ u ≤ timeMax ∧ (s.dev.utcValid = false ∨ 90000 < ((u : Int) - s.dev.utcNow).natAbs)) ∧
    (∃ (s : State) (o : ObjSrc) (c : Channel) (a : Assoc) (x : CalSet),
       taken (.calendarSet o x) s = true ∧ s.dev.channelOf o = some c ∧ s.dev.assocOf c = some a ∧ isInstaller a.role = true ∧ calSetOk x = true) ∧
    (∃ (s : State) (o : ObjSrc) (c : Channel) (a : Assoc) (n : Nat),
       taken (.scrollSet o (.dwell n)) s = true ∧ s.dev.channelOf o = some c ∧ s.dev.assocOf c = some a ∧ isInstaller a.role = true) ∧
    (∃ (s : State) (o : ObjSrc) (c : Channel) (a : Assoc) (l : List Code),
       taken (.scrollSet o (.outlets l)) s = true ∧ s.dev.channelOf o = some c ∧ s.dev.assocOf c = some a ∧ isInstaller a.role = true ∧ l.length ≤ 48 ∧ l.all (itemFits false) = true) ∧
    (∃ (s : State) (o : ObjSrc) (c : Channel) (a : Assoc) (x : CalItem),
       taken (.calibrationWrite o x) s = true ∧ s.dev.channelOf o = some c ∧ s.dev.assocOf c = some a ∧ isMetrologist a.role = false) ∧
    (∃ (s : State) (o : ObjSrc) (c : Channel) (a : Assoc) (h : Fin 48) (j : Fin 4) (v : Word),
       taken (.calibrationWrite o (.head h j v)) s = true ∧ s.dev.channelOf o = some c ∧ s.dev.assocOf c = some a ∧ isMetrologist a.role = true ∧ calItemOk (.head h j v) = true ∧ s.dev.energised (h.val / 3) = true) ∧
    (∃ (s : State) (o : ObjSrc) (c : Channel) (a : Assoc) (k : Fin 16) (j : Fin 4) (v : Word),
       taken (.calibrationWrite o (.channel k j v)) s = true ∧ s.dev.channelOf o = some c ∧ s.dev.assocOf c = some a ∧ isMetrologist a.role = true ∧ calItemOk (.channel k j v) = true) :=
  ⟨⟨testState [] (fun dd => let dd : Dev := { dd with bil := { dd.bil with assocs := [((⟨.host, .metrologist, 0⟩ : Assoc))] } }; dd), .desc (.ring 0 7), .host, ⟨.host, .metrologist, 0⟩, 0, by decide⟩,
   ⟨testState [(BIL_STATUS_TIME_VALID, 1)] (fun dd => let dd : Dev := { dd with bil := { dd.bil with assocs := [((⟨.host, .metrologist, 0⟩ : Assoc))] } }; { dd with gen := { dd.gen with pair := some (0, timeMin) } }), .desc (.ring 0 7), .host, ⟨.host, .metrologist, 0⟩, timeMin, by decide⟩,
   ⟨testState [] (fun dd => let dd : Dev := { dd with bil := { dd.bil with assocs := [((⟨.host, .metrologist, 0⟩ : Assoc))] } }; dd), .desc (.ring 0 7), .host, ⟨.host, .metrologist, 0⟩, timeMin, by decide⟩,
   ⟨testState [] (fun dd => let dd : Dev := { dd with bil := { dd.bil with assocs := [((⟨.host, .metrologist, 0⟩ : Assoc))] } }; dd), .desc (.ring 0 7), .host, ⟨.host, .metrologist, 0⟩, .tz 0, by decide⟩,
   ⟨testState [] (fun dd => let dd : Dev := { dd with bil := { dd.bil with assocs := [((⟨.host, .metrologist, 0⟩ : Assoc))] } }; dd), .desc (.ring 0 7), .host, ⟨.host, .metrologist, 0⟩, 0, by decide⟩,
   ⟨testState [] (fun dd => let dd : Dev := { dd with bil := { dd.bil with assocs := [((⟨.host, .metrologist, 0⟩ : Assoc))] } }; dd), .desc (.ring 0 7), .host, ⟨.host, .metrologist, 0⟩, [], by decide⟩,
   ⟨testState [] (fun dd => let dd : Dev := { dd with bil := { dd.bil with assocs := [((⟨.host, .public_, 0⟩ : Assoc))] } }; dd), .desc (.ring 0 7), .host, ⟨.host, .public_, 0⟩, (.channel 0 0 0), by decide⟩,
   ⟨testState [(VSS_STATUS_ENERGISED, 2 ^ ((((0 : Fin 48)).val / 3) : Nat))] (fun dd => let dd : Dev := { dd with bil := { dd.bil with assocs := [((⟨.host, .metrologist, 0⟩ : Assoc))] } }; dd), .desc (.ring 0 7), .host, ⟨.host, .metrologist, 0⟩, 0, 2, 0, by decide⟩,
   ⟨testState [] (fun dd => let dd : Dev := { dd with bil := { dd.bil with assocs := [((⟨.host, .metrologist, 0⟩ : Assoc))] } }; dd), .desc (.ring 0 7), .host, ⟨.host, .metrologist, 0⟩, 0, 0, 0, by decide⟩⟩

theorem witness_long_operations :
    (∃ (s : State) (l : LongSrc) (x : TestReq),
       taken (.test l x) s = true ∧ Dev.overUart l.src = false ∧ l.statusAddr = 0 ∧ s.dev.flag GEN_LIFECYCLE_CAUSE_FW = false) ∧
    (∃ (s : State) (l : LongSrc) (x : TestReq),
       taken (.test l x) s = true ∧ Dev.overUart l.src = false ∧ l.statusAddr ≠ 0 ∧ s.dev.flag GEN_LIFECYCLE_CAUSE_FW = false ∧ 16 ≤ s.dev.hif.long.length) ∧
    (∃ (s : State) (l : LongSrc),
       taken (.test l ⟨0x000B, []⟩) s = true ∧ Dev.overUart l.src = false ∧ l.statusAddr ≠ 0 ∧ s.dev.flag GEN_LIFECYCLE_CAUSE_FW = false ∧ s.dev.hif.long.length < 16 ∧ (s.dev.gen.tests.filter (fun t => !t.running)).length < 8) ∧
    (∃ (s : State) (l : LongSrc),
       taken (.test l ⟨0x000B, []⟩) s = true ∧ Dev.overUart l.src = false ∧ l.statusAddr ≠ 0 ∧ s.dev.flag GEN_LIFECYCLE_CAUSE_FW = false ∧ s.dev.hif.long.length < 16 ∧ 8 ≤ (s.dev.gen.tests.filter (fun t => !t.running)).length) ∧
    (∃ (s : State) (q : Bool) (g : Bool),
       taken (.testWindowOpen q g) s = true ∧ s.dev.gen.tests.filter (fun t => !t.running) = []) ∧
    (∃ (s : State) (q : Bool) (g : Bool) (x : QueuedTest),
       taken (.testWindowOpen q g) s = true ∧ s.dev.gen.tests = [x] ∧ x.running = false ∧ x.code = 0x000C) ∧
    (∃ (s : State) (src : Src) (x : QueuedTest),
       taken (.testExpiry src) s = true ∧ s.dev.testOf src = some x ∧ x.running = false) ∧
    (∃ (s : State) (src : Src) (x : QueuedTest) (items : List Word),
       taken (.longOperationDone src items) s = true ∧ s.dev.testOf src = some x ∧ x.running = true ∧ x.code = 0x0001) ∧
    (∃ (s : State) (src : Src) (u : Nat) (p : Nat) (d : List Byte) (o : LongOp),
       taken (.longPartialReady src u d p) s = true ∧ s.dev.longOf src = some o ∧ o.state ≠ .queued ∧ 8 + o.data.length + d.length ≤ o.resLen) ∧
    (∃ (s : State) (src : Src) (tag : Word),
       taken (.longCancel src tag) s = true ∧ s.dev.hif.long.all (fun o => Dev.srcTag o.src != tag) = true ∧ s.dev.hif.exec.all (fun e => e.tag != tag) = true) ∧
    (∃ (s : State) (src : Src) (tag : Word) (o : LongOp) (x : QueuedTest),
       taken (.longCancel src tag) s = true ∧ s.dev.hif.long.find? (fun o => Dev.srcTag o.src == tag) = some o ∧ s.dev.testOf o.src = some x ∧ x.running = false) :=
  ⟨⟨testState [(GEN_LIFECYCLE_CAUSE_FW, 0)], ⟨.ring 0 7, 0, 8192, 4096⟩, ⟨0, []⟩, by decide⟩,
   ⟨testState [(GEN_LIFECYCLE_CAUSE_FW, 0)] (fun dd => { dd with hif := { dd.hif with long := List.replicate 16 ⟨.ring 0 7, 0, 0, .queued, 0, 0, 0, 0, 0, []⟩ } }), ⟨.ring 0 7, 4096, 8192, 4096⟩, ⟨0, []⟩, by decide⟩,
   ⟨testState [(GEN_LIFECYCLE_CAUSE_FW, 0)], ⟨.ring 0 7, 4096, 8192, 4096⟩, by decide⟩,
   ⟨testState [(GEN_LIFECYCLE_CAUSE_FW, 0)] (fun dd => { dd with gen := { dd.gen with tests := List.replicate 8 ⟨⟨.ring 0 7, 4096, 8192, 4096⟩, 0, [], 0, false⟩ } }), ⟨.ring 0 7, 4096, 8192, 4096⟩, by decide⟩,
   ⟨testState [], false, false, by decide⟩,
   ⟨testState [] (fun dd => let dd : Dev := { dd with gen := { dd.gen with tests := [((⟨⟨.ring 0 7, 4096, 8192, 4096⟩, 0x000C, [], 0, false⟩ : QueuedTest))] } }; dd), false, false, ⟨⟨.ring 0 7, 4096, 8192, 4096⟩, 0x000C, [], 0, false⟩, by decide⟩,
   ⟨testState [] (fun dd => { dd with gen := { dd.gen with tests := [((⟨⟨.ring 0 7, 4096, 8192, 4096⟩, 0, [], 0, false⟩ : QueuedTest))] } }), .ring 0 7, ⟨⟨.ring 0 7, 4096, 8192, 4096⟩, 0, [], 0, false⟩, by decide⟩,
   ⟨testState [] (fun dd => { dd with gen := { dd.gen with tests := [((⟨⟨.ring 0 7, 4096, 8192, 4096⟩, 0x0001, [], 0, true⟩ : QueuedTest))] } }), .ring 0 7, ⟨⟨.ring 0 7, 4096, 8192, 4096⟩, 0x0001, [], 0, true⟩, [], by decide⟩,
   ⟨testState [] (fun dd => { dd with hif := { dd.hif with long := [((⟨.ring 0 7, 0, 0, .running, 0, 0, 0, 0, 4096, []⟩ : LongOp))] } }), .ring 0 7, 0, 0, [], ⟨.ring 0 7, 0, 0, .running, 0, 0, 0, 0, 4096, []⟩, by decide⟩,
   ⟨testState [], .ring 0 7, 0, by decide⟩,
   ⟨testState [] (fun dd => { dd with hif := { dd.hif with long := [((⟨.ring 0 7, 0, 0, .queued, 0, 0, 0, 0, 0, []⟩ : LongOp))] }, gen := { dd.gen with tests := [((⟨⟨.ring 0 7, 4096, 8192, 4096⟩, 0, [], 0, false⟩ : QueuedTest))] } }), .ring 0 7, 7, ⟨.ring 0 7, 0, 0, .queued, 0, 0, 0, 0, 0, []⟩, ⟨⟨.ring 0 7, 4096, 8192, 4096⟩, 0, [], 0, false⟩, by decide⟩⟩

theorem witness_wayledger_and_snapshots :
    (∃ (s : State) (k : Bool) (e : LdgEntry) (rest : List (Bool × LdgEntry)),
       taken .ledgerWrite s = true ∧ s.dev.ldg.staged = (k, e) :: rest) ∧
    (∃ (s : State),
       taken .ledgerWrite s = true ∧ s.dev.ldg.staged = []) ∧
    (∃ (s : State) (t0 : Nat),
       taken .ldgFreeze s = true ∧ (.host, t0) ∈ s.dev.ldg.lastFreeze ∧ s.dev.dt < t0 + 1000000000) ∧
    (∃ (s : State) (i : Fin 32),
       taken .ldgFreeze s = true ∧ s.dev.ldg.lastFreeze.all (fun p => p.1 != .host) = true ∧ s.dev.freeSnap = some i) ∧
    (∃ (s : State) (i : Fin 32),
       taken (.ldgRelease i) s = true) ∧
    (∃ (s : State) (l : LongSrc) (r : LdgReadReq),
       taken (.ldgRead l r) s = true ∧ Dev.overUart l.src = false ∧ s.dev.longCheck l = none ∧ r.snapshot = false ∧ (r.count = 0 ∨ r.first = s.dev.rd LDG_SEQ)) ∧
    (∃ (s : State) (l : LongSrc) (r : LdgReadReq),
       taken (.ldgRead l r) s = true ∧ Dev.overUart l.src = false ∧ s.dev.longCheck l = none ∧ r.snapshot = true ∧ 1 ≤ r.count ∧ r.first.toNat + r.count ≤ 256 ∧ r.slot < 32 ∧ (s.dev.ldg.snaps.toList[r.slot]?) = some none) ∧
    (∃ (s : State) (tag : Word) (a : Nat) (b : Nat) (c : Nat) (r : LdgReadReq),
       taken (.ldgRead ⟨.uart tag, a, b, c⟩ r) s = true ∧ s.dev.assocOf .uart = none) ∧
    (∃ (s : State) (l : LongSrc) (r : LdgReadReq) (d : List Byte),
       taken (.ldgRead l r) s = true ∧ Dev.overUart l.src = false ∧ s.dev.ledgerAnswer r r.count = .ok d) :=
  ⟨⟨testState [] (fun dd => let dd : Dev := { dd with ldg := { dd.ldg with staged := (((false : Bool)), ((⟨0, 0, 0, false, false, 0, 0, []⟩ : LdgEntry))) :: (([] : List (Bool × LdgEntry))) } }; dd), false, ⟨0, 0, 0, false, false, 0, 0, []⟩, [], by decide⟩,
   ⟨testState [] (fun dd => let dd : Dev := { dd with ldg := { dd.ldg with staged := [] } }; dd), by decide⟩,
   ⟨testState [] (fun dd => { dd with ldg := { dd.ldg with lastFreeze := [(.host, 0)] } }), 0, by decide⟩,
   ⟨testState [], 0, by decide⟩,
   ⟨testState [], 0, by decide⟩,
   ⟨testState [], ⟨.ring 0 7, 4096, 8192, 4096⟩, ⟨false, 0, 0, 0⟩, by decide⟩,
   ⟨testState [], ⟨.ring 0 7, 4096, 8192, 4096⟩, ⟨true, 0, 1, 0⟩, by decide⟩,
   ⟨testState [], 0, 0, 0, 0, ⟨false, 0, 0, 0⟩, by decide⟩,
   ⟨testState [] (fun dd => dd.putSnap 0 ⟨.host, 0, 1, 0, 0, 0, [(0, ⟨0, 0, 0, false, false, 0, 0, []⟩)]⟩), ⟨.ring 0 7, 4096, 8192, 4096⟩, ⟨true, 0, 1, 0⟩, ((testState [] (fun dd => dd.putSnap 0 ⟨.host, 0, 1, 0, 0, 0, [(0, ⟨0, 0, 0, false, false, 0, 0, []⟩)]⟩)).dev.ledgerAnswer ⟨true, 0, 1, 0⟩ 1).toOption.getD [], by refine ⟨by decide, by decide, rfl⟩⟩⟩

theorem witness_key_slot_writing :
    (∃ (s : State) (l : LongSrc) (x : KeyNew) (k : Byte),
       taken (.keyGenerate l x) s = true ∧ s.dev.longCheck l = none ∧ x.dest = .slot k ∧ s.dev.newKeyBad x = none ∧ s.dev.flag KEY_STATUS_RNG_OK = true ∧ s.dev.engineOk x.type = true ∧ x.fail = none) ∧
    (∃ (s : State) (l : LongSrc) (x : KeyNew) (k : Byte) (i : Fin 7),
       taken (.keyGenerate l x) s = true ∧ s.dev.longCheck l = none ∧ x.dest = .slot k ∧ s.dev.newKeyBad x = none ∧ s.dev.flag KEY_STATUS_RNG_OK = true ∧ s.dev.engineOk x.type = true ∧ x.fail = some i) ∧
    (∃ (s : State) (l : LongSrc) (x : KeyNew) (k : Byte),
       taken (.keyGenerate l x) s = true ∧ s.dev.longCheck l = none ∧ x.dest = .slot k ∧ k.toNat < 64 ∧ s.dev.flag KEY_STATUS_ROOT = true ∧ creationBad x.type x.usage x.hash false = false ∧ s.dev.flag (KEY_SLOT_BOUND k.toNat) = true) ∧
    (∃ (s : State) (l : LongSrc) (x : KeySealed) (u : UseKey) (k : Byte),
       taken (.keyImport l x) s = true ∧ s.dev.longCheck l = none ∧ s.dev.newKeyBad x.new = none ∧ (s.dev.loadFor (.slot x.unwrapSlot) kuUnwrap).2 = .ok u ∧ x.new.dest = .slot k ∧ x.new.fail = none) ∧
    (∃ (s : State) (src : Src) (k : Byte) (l : List (Fin 13)),
       taken (.keyDelete src k l) s = true ∧ s.dev.flag KEY_STATUS_ROOT = true ∧ k.toNat < 64 ∧ s.dev.get (KEY_SLOT_STATE k.toNat) ≠ 0 ∧ s.dev.flag (KEY_SLOT_BOUND k.toNat) = true) ∧
    (∃ (s : State) (src : Src) (k : Byte) (l : List (Fin 13)),
       taken (.keyDelete src k l) s = true ∧ s.dev.flag KEY_STATUS_ROOT = true ∧ k.toNat < 64 ∧ s.dev.get (KEY_SLOT_STATE k.toNat) ≠ 0 ∧ s.dev.slotHeld k.toNat = none) :=
  ⟨⟨testState [(KEY_STATUS_RNG_OK, 1), (KEY_STATUS_ROOT, 1)], ⟨.ring 0 7, 4096, 8192, 4096⟩, ⟨.slot 0, ktAes, 2 ^ kuCipherHost, 0, none, []⟩, 0, by decide⟩,
   ⟨testState [(KEY_STATUS_RNG_OK, 1), (KEY_STATUS_ROOT, 1)], ⟨.ring 0 7, 4096, 8192, 4096⟩, ⟨.slot 0, ktAes, 2 ^ kuCipherHost, 0, some 0, []⟩, 0, 0, by decide⟩,
   ⟨testState [(KEY_STATUS_ROOT, 1), ((KEY_SLOT_BOUND ((0 : Byte)).toNat), 1), (KEY_STATUS_ROOT, 1)], ⟨.ring 0 7, 4096, 8192, 4096⟩, ⟨.slot 0, ktAes, 2 ^ kuCipherHost, 0, none, []⟩, 0, by decide⟩,
   ⟨testState [] (fun dd => testKeys (testKey ktEcdh kuUnwrap) dd), ⟨.ring 0 7, 4096, 8192, 4096⟩, ⟨⟨.slot 1, ktAes, 2 ^ kuCipherHost, 0, none, []⟩, 0, [], [], [], []⟩, ⟨0, ktEcdh, 2 ^ kuUnwrap, 256, List.replicate 32 1, List.replicate 64 2⟩, 1, by refine ⟨by decide, by decide, by decide, rfl, by decide, by decide⟩⟩,
   ⟨testState [(KEY_STATUS_ROOT, 1), ((KEY_SLOT_STATE ((0 : Byte)).toNat), 1), ((KEY_SLOT_BOUND ((0 : Byte)).toNat), 1)], .ring 0 7, 0, [], by decide⟩,
   ⟨testState [(KEY_STATUS_ROOT, 1), ((KEY_SLOT_STATE ((0 : Byte)).toNat), 1)], .ring 0 7, 0, [], by decide⟩⟩

theorem witness_key_uses :
    (∃ (s : State) (l : LongSrc) (r : KeyRef) (m : List Byte) (x : UseKey),
       taken (.keySign l r m) s = true ∧ s.dev.longCheck l = none ∧ l.statusAddr ≠ 0 ∧ (s.dev.loadFor r kuSignHost).2 = .ok x ∧ (typeHash x.type = 0 ∨ m.length = typeHash x.type / 8) ∧ 3 ≤ x.type ∧ x.type ≤ 6 ∧ s.dev.longOf l.src = none ∧ s.dev.flag HIF_STATUS_LINK_UP = true ∧ 8 + Config.sigBytes x.type ≤ l.resLen) ∧
    (∃ (s : State) (l : LongSrc) (r : KeyRef) (m : List Byte) (x : UseKey),
       taken (.keySign l r m) s = true ∧ s.dev.longCheck l = none ∧ (s.dev.loadFor r kuSignHost).2 = .ok x ∧ typeHash x.type ≠ 0 ∧ m.length ≠ typeHash x.type / 8 ∧ s.dev.longOf l.src = none ∧ l.statusAddr ≠ 0 ∧ s.dev.flag HIF_STATUS_LINK_UP = true) ∧
    (∃ (s : State) (l : LongSrc) (r : KeyRef) (m : List Byte),
       taken (.keySign l r m) s = true ∧ s.dev.longCheck l = none ∧ s.dev.flag KEY_STATUS_ROOT = false) ∧
    (∃ (s : State) (l : LongSrc) (r : KeyRef) (m : List Byte) (sig : List Byte) (x : UseKey),
       taken (.keyVerify l r m sig) s = true ∧ s.dev.longCheck l = none ∧ (s.dev.loadFor r kuSignHost).2 = .ok x ∧ s.dev.longOf l.src = none ∧ l.statusAddr ≠ 0 ∧ s.dev.flag HIF_STATUS_LINK_UP = true) ∧
    (∃ (s : State) (l : LongSrc) (k : Byte) (b : List Byte) (x : UseKey),
       taken (.keyMakeCsr l k b) s = true ∧ s.dev.longCheck l = none ∧ (s.dev.loadFor (.slot k) kuTls).2 = .ok x ∧ s.dev.longOf l.src = none ∧ l.statusAddr ≠ 0 ∧ s.dev.flag HIF_STATUS_LINK_UP = true ∧ 8 + (Config.csr x.type x.secret b).length ≤ l.resLen) ∧
    (∃ (s : State) (src : Src) (r : KeyRef) (m : List Byte) (x : UseKey),
       taken (.keyHmac src r m) s = true ∧ (s.dev.loadFor r kuHmacHost).2 = .ok x) ∧
    (∃ (s : State) (src : Src) (r : KeyRef) (c : CipherReq) (x : UseKey),
       taken (.keyCipher src r c) s = true ∧ (s.dev.loadFor r kuCipherHost).2 = .ok x ∧ c.text.length ≤ 65536 ∧ c.nonce.length = 12) ∧
    (∃ (s : State) (src : Src) (m : List Byte),
       taken (.keyHash src 256 m) s = true ∧ s.dev.flag KEY_STATUS_ROOT = true ∧ m.length ≤ 65536 ∧ (0x10 : Byte) ∉ s.dev.key.engineBad) ∧
    (∃ (s : State) (src : Src) (n : Nat),
       taken (.keyRandom src n) s = true ∧ s.dev.flag KEY_STATUS_ROOT = true ∧ s.dev.flag KEY_STATUS_RNG_OK = true ∧ 1 ≤ n ∧ n ≤ 4096) ∧
    (∃ (s : State) (src : Src) (n : Nat),
       taken (.keyRandom src n) s = true ∧ s.dev.flag KEY_STATUS_ROOT = true ∧ (n = 0 ∨ 4096 < n)) ∧
    (∃ (s : State) (src : Src) (r : KeyRef) (x : UseKey),
       taken (.keyGetPublic src r) s = true ∧ s.dev.flag KEY_STATUS_ROOT = true ∧ (s.dev.loadKey r).2 = .ok x ∧ s.dev.get GEN_LIFECYCLE_IDENTITY_GEN ≠ 1) ∧
    (∃ (s : State) (src : Src) (w : Byte) (b : List Byte),
       taken (.keyLoadBlob src w b) s = true ∧ s.dev.flag KEY_STATUS_ROOT = true ∧ w.toNat < 16) ∧
    (∃ (s : State) (src : Src) (w : Byte),
       taken (.keyUnload src w) s = true ∧ s.dev.flag KEY_STATUS_ROOT = true ∧ w.toNat < 16) :=
  ⟨⟨testState [(HIF_STATUS_LINK_UP, 1)] (fun dd => testKeys (testKey 3 kuSignHost) dd), ⟨.ring 0 7, 4096, 8192, 8 + Config.sigBytes 3⟩, .slot 0, List.replicate (typeHash 3 / 8) 0, ⟨0, 3, 2 ^ kuSignHost, 256, List.replicate 32 1, List.replicate 64 2⟩, by refine ⟨by decide, by decide, by decide, rfl, by decide, by decide, by decide, by decide, by decide, by decide⟩⟩,
   ⟨testState [(HIF_STATUS_LINK_UP, 1)] (fun dd => testKeys (testKey 3 kuSignHost) dd), ⟨.ring 0 7, 4096, 8192, 4096⟩, (.slot 0), [], ⟨0, 3, 2 ^ kuSignHost, 256, List.replicate 32 1, List.replicate 64 2⟩, by refine ⟨by decide, by decide, rfl, by decide, by decide, by decide, by decide⟩⟩,
   ⟨testState [(KEY_STATUS_ROOT, 0)], ⟨.ring 0 7, 4096, 8192, 4096⟩, (.slot 0), [], by decide⟩,
   ⟨testState [(HIF_STATUS_LINK_UP, 1)] (fun dd => testKeys (testKey 3 kuSignHost) dd), ⟨.ring 0 7, 4096, 8192, 4096⟩, (.slot 0), [], [], ⟨0, 3, 2 ^ kuSignHost, 256, List.replicate 32 1, List.replicate 64 2⟩, by refine ⟨by decide, by decide, rfl, by decide, by decide⟩⟩,
   ⟨testState [(HIF_STATUS_LINK_UP, 1)] (fun dd => testKeys (testKey ktP256 kuTls) dd), ⟨.ring 0 7, 4096, 8192, 8 + (Config.csr ktP256 (List.replicate 32 1) []).length⟩, 0, [], ⟨0, ktP256, 2 ^ kuTls, 256, List.replicate 32 1, List.replicate 64 2⟩, by refine ⟨rfl, rfl, rfl, rfl, by decide, by decide, Nat.le_refl _⟩⟩,
   ⟨testState [] (fun dd => testKeys (testKey ktHmac kuHmacHost) dd), .ring 0 7, (.slot 0), [], ⟨0, ktHmac, 2 ^ kuHmacHost, 256, List.replicate 32 1, List.replicate 64 2⟩, by refine ⟨by decide, rfl⟩⟩,
   ⟨testState [] (fun dd => testKeys (testKey ktAes kuCipherHost) dd), .ring 0 7, (.slot 0), ⟨false, List.replicate 12 0, [], []⟩, ⟨0, ktAes, 2 ^ kuCipherHost, 256, List.replicate 32 1, List.replicate 64 2⟩, by refine ⟨by decide, rfl, by decide, by decide⟩⟩,
   ⟨testState [(KEY_STATUS_ROOT, 1)], .ring 0 7, [], by decide⟩,
   ⟨testState [(KEY_STATUS_ROOT, 1), (KEY_STATUS_RNG_OK, 1)], .ring 0 7, 1, by decide⟩,
   ⟨testState [(KEY_STATUS_ROOT, 1)], .ring 0 7, 0, by decide⟩,
   ⟨testState [(KEY_STATUS_ROOT, 1)] (fun dd => testKeys (testKey ktAes kuCipherHost) dd), .ring 0 7, (.slot 0), ⟨0, ktAes, 2 ^ kuCipherHost, 256, List.replicate 32 1, List.replicate 64 2⟩, by refine ⟨by decide, by decide, rfl, by decide⟩⟩,
   ⟨testState [(KEY_STATUS_ROOT, 1)], .ring 0 7, 0, [], by decide⟩,
   ⟨testState [(KEY_STATUS_ROOT, 1)], .ring 0 7, 0, by decide⟩⟩

theorem witness_random_source_and_firmware :
    (∃ (s : State),
       taken .rngFail s = true ∧ s.dev.flag KEY_STATUS_RNG_OK = true) ∧
    (∃ (s : State),
       taken .rngFail s = true ∧ s.dev.flag KEY_STATUS_RNG_OK = false) ∧
    (∃ (s : State) (t0 : Nat),
       taken (.rngRetest true) s = true ∧ s.dev.key.rngRetest = some t0) ∧
    (∃ (s : State) (t0 : Nat),
       taken (.rngRetest false) s = true ∧ s.dev.key.rngRetest = some t0) ∧
    (∃ (s : State) (t0 : Nat),
       taken .rootGenRetry s = true ∧ s.dev.key.rootRetry = some t0) ∧
    (∃ (s : State) (l : LongSrc) (x : FwImage),
       taken (.fwStage l x) s = true ∧ Dev.overUart l.src = false ∧ s.dev.longCheck l = none ∧ s.dev.flag KEY_STATUS_ROOT = true ∧ s.dev.flag KEY_FW_TRIAL = false ∧ s.dev.imageSigned x.bytes = false) ∧
    (∃ (s : State) (l : LongSrc) (x : FwImage),
       taken (.fwStage l x) s = true ∧ Dev.overUart l.src = false ∧ s.dev.longCheck l = none ∧ s.dev.flag KEY_STATUS_ROOT = true ∧ s.dev.flag KEY_FW_TRIAL = false) ∧
    (∃ (s : State) (l : LongSrc) (x : FwImage) (c : Code),
       taken (.fwStage l x) s = true ∧ Dev.overUart l.src = false ∧ s.dev.longCheck l = none ∧ s.dev.flag KEY_STATUS_ROOT = true ∧ s.dev.flag KEY_FW_TRIAL = false) ∧
    (∃ (s : State) (src : Src),
       taken (.fwConfirm src) s = true ∧ s.dev.flag KEY_STATUS_ROOT = true ∧ s.dev.flag KEY_FW_TRIAL = false) ∧
    (∃ (s : State) (src : Src),
       taken (.fwConfirm src) s = true ∧ s.dev.flag KEY_STATUS_ROOT = true ∧ s.dev.flag KEY_FW_TRIAL = true ∧ (s.dev.bankOf (s.dev.get KEY_FW_ACTIVE)).secVer < 65536) :=
  ⟨⟨testState [(KEY_STATUS_RNG_OK, 1)], by decide⟩,
   ⟨testState [(KEY_STATUS_RNG_OK, 0)], by decide⟩,
   ⟨testState [] (fun dd => let dd : Dev := { dd with key := { dd.key with rngRetest := some ((0 : Nat)) } }; dd), 0, by decide⟩,
   ⟨testState [] (fun dd => let dd : Dev := { dd with key := { dd.key with rngRetest := some ((0 : Nat)) } }; dd), 0, by decide⟩,
   ⟨testState [] (fun dd => let dd : Dev := { dd with key := { dd.key with rootRetry := some ((0 : Nat)) } }; dd), 0, by decide⟩,
   ⟨testState [(KEY_STATUS_ROOT, 1), (KEY_FW_TRIAL, 0)], ⟨.ring 0 7, 4096, 8192, 4096⟩, ⟨[], []⟩, by decide⟩,
   ⟨testState [(KEY_STATUS_ROOT, 1), (KEY_FW_TRIAL, 0)], ⟨.ring 0 7, 4096, 8192, 4096⟩, ⟨[], []⟩, by decide⟩,
   ⟨testState [(KEY_STATUS_ROOT, 1), (KEY_FW_TRIAL, 0)], ⟨.ring 0 7, 4096, 8192, 4096⟩, ⟨[], []⟩, 0, by decide⟩,
   ⟨testState [(KEY_STATUS_ROOT, 1), (KEY_FW_TRIAL, 0)], .ring 0 7, by decide⟩,
   ⟨testState [(KEY_STATUS_ROOT, 1), (KEY_FW_TRIAL, 1)], .ring 0 7, by decide⟩⟩

theorem witness_debug_access :
    (∃ (s : State),
       taken .debugOpenRequest s = true ∧ s.dev.key.debugFails < 3 ∧ s.dev.flag KEY_STATUS_RNG_OK = true) ∧
    (∃ (s : State),
       taken .debugOpenRequest s = true ∧ 3 ≤ s.dev.key.debugFails) ∧
    (∃ (s : State) (sig : List Byte) (i : Bool),
       taken (.debugAuthResponse sig i) s = true ∧ s.dev.key.challenge = none) ∧
    (∃ (s : State) (sig : List Byte) (c : List Byte) (i : Bool),
       taken (.debugAuthResponse sig i) s = true ∧ s.dev.key.challenge = some c ∧ s.dev.key.debugFails < 3 ∧ s.dev.life ≠ lfManufacture) ∧
    (∃ (s : State),
       taken .debugClose s = true) :=
  ⟨⟨testState [(KEY_STATUS_RNG_OK, 1)], by decide⟩,
   ⟨testState [] (fun dd => { dd with key := { dd.key with debugFails := 3 } }), by decide⟩,
   ⟨testState [] (fun dd => let dd : Dev := { dd with key := { dd.key with challenge := none } }; dd), [], false, by decide⟩,
   ⟨testState [(GEN_LIFECYCLE_LIFE, lfService)] (fun dd => let dd : Dev := { dd with key := { dd.key with challenge := some (([1] : List Byte)) } }; dd), [], [1], false, by decide⟩,
   ⟨testState [], by decide⟩⟩

theorem witness_safety_functions :
    (∃ (s : State) (x : SafRead),
       taken (.safetyEvaluation x) s = true ∧ s.dev.gen.phase = .running) ∧
    (∃ (s : State) (p : Fin 8) (d0 : Nat) (d1 : Nat),
       taken (.cat1OutputOff p) s = true ∧ s.dev.pairFunc p = sfnEstop ∧ (s.dev.chanPair 0 p).cat1At = some d0 ∧ (s.dev.chanPair 1 p).cat1At = some d1 ∧ (∃ c : Fin 2, s.dev.pairState c p ≠ spRun)) ∧
    (∃ (s : State) (p : Fin 8),
       taken (.cat1OutputOff p) s = true ∧ ((∀ c : Fin 2, (s.dev.chanPair c p).cat1At = none))) ∧
    (∃ (s : State) (v : Word),
       taken (.safetyConfirm v) s = true ∧ s.dev.safOpen = false) ∧
    (∃ (s : State) (v : Word),
       taken (.safetyConfirm v) s = true ∧ s.dev.safOpen = true ∧ v ≠ s.dev.safCheck) ∧
    (∃ (s : State),
       taken (.safetyConfirm s.dev.safCheck) s = true ∧ s.dev.safOpen = true ∧ s.dev.safJoint = true) ∧
    (∃ (s : State),
       taken .safetyHostReset s = true ∧ s.dev.flag SAF_CFG_RESET_SRC = false) ∧
    (∃ (s : State),
       taken .safetyHostReset s = true ∧ s.dev.flag SAF_CFG_RESET_SRC = true ∧ ((∀ c : Fin 2, (s.dev.chan c).stop ≠ 0)) ∧ ((∀ (c : Fin 2) (p : Fin 8), s.dev.pairFunc p = sfnEstop → s.dev.pairActuated c p = false))) ∧
    (∃ (s : State) (k : Fin 4),
       taken .soutFaultClear s = true ∧ s.dev.flag (SAF_SOUT_STATUS_FAULT k) = true) ∧
    (∃ (s : State) (k : Fin 4) (x : SoutRead) (c : Option (Fin 4)),
       taken (.soutDarkTest k x c) s = true ∧ s.dev.flag (SAF_SOUT_STATUS_FAULT k) = false ∧ ((s.dev.flag (SAF_SOUT_CFG_EN k) = false ∨ s.dev.flag (SAF_SOUT_CFG_TP_EN k) = false))) ∧
    (∃ (s : State) (k : Fin 4) (x : SoutRead),
       taken (.soutDarkTest k x none) s = true ∧ s.dev.flag (SAF_SOUT_STATUS_FAULT k) = true ∧ x.aOn = false ∧ x.bOn = false ∧ x.vaux = false ∧ x.overload = false) ∧
    (∃ (s : State) (k : Fin 4) (x : SoutRead),
       taken (.soutDarkTest k x none) s = true ∧ s.dev.flag (SAF_SOUT_CFG_EN k) = true ∧ s.dev.flag (SAF_SOUT_CFG_TP_EN k) = true ∧ s.dev.flag (SAF_SOUT_STATUS_FAULT k) = false ∧ x.aOn = true) :=
  ⟨⟨testState [] (fun dd => let dd : Dev := { dd with gen := { dd.gen with phase := .running } }; dd), ⟨0, 0, 0, 0, false, false, []⟩, by decide⟩,
   ⟨testState [(SAF_PAIR_CFG_FUNC 0, sfnEstop)] (fun dd => { dd with saf := { dd.saf with chans := dd.saf.chans.map (fun c => { c with pairs := vupd c.pairs 0 (fun z => { z with cat1At := some 0, state := 1 }) }) } }), 0, 0, 0, by decide +kernel⟩,
   ⟨testState [], 0, by decide⟩,
   ⟨testState [], 0, by decide⟩,
   ⟨testState [(GEN_LIFECYCLE_LIFE, lfCommissioning)], ~~~(testState [(GEN_LIFECYCLE_LIFE, lfCommissioning)]).dev.safCheck, by decide +kernel⟩,
   ⟨testState [(GEN_LIFECYCLE_LIFE, lfCommissioning)], by decide⟩,
   ⟨testState [(SAF_CFG_RESET_SRC, 0)], by decide⟩,
   ⟨testState [(SAF_CFG_RESET_SRC, 1)], by decide⟩,
   ⟨testState [((SAF_SOUT_STATUS_FAULT ((0 : Fin 4))), 1)], 0, by decide⟩,
   ⟨testState [((SAF_SOUT_STATUS_FAULT ((0 : Fin 4))), 0), ((SAF_SOUT_CFG_EN ((0 : Fin 4))), 0)], 0, ⟨false, false, false, false⟩, none, by decide⟩,
   ⟨testState [((SAF_SOUT_STATUS_FAULT ((0 : Fin 4))), 1)], 0, ⟨false, false, false, false⟩, by decide⟩,
   ⟨testState [((SAF_SOUT_CFG_EN ((0 : Fin 4))), 1), ((SAF_SOUT_CFG_TP_EN ((0 : Fin 4))), 1), ((SAF_SOUT_STATUS_FAULT ((0 : Fin 4))), 0)], 0, ⟨true, false, false, false⟩, by decide⟩⟩

theorem witness_reset_causes :
    (∃ (s : State),
       s.dev.gen.phase = .running) ∧
    (∃ (s : State),
       s.dev.gen.phase = .running) ∧
    (∃ (s : State) (c : ResetCause),
       s.dev.gen.phase = .reset c) ∧
    (∃ (s : State),
       taken .watchdogExpiry s = true) ∧
    (∃ (s : State) (v : Word),
       taken (.hostReset v) s = true ∧ (v.toNat / 2 ^ 24 ≠ 0xA5 ∨ v.toNat.testBit 0 = false)) ∧
    (∃ (s : State) (v : Word),
       taken (.hostReset v) s = true ∧ v.toNat / 2 ^ 24 = 0xA5 ∧ v.toNat.testBit 0 = true ∧ v.toNat.testBit 1 = false ∧ s.dev.get VSS_STATUS_ENERGISED ≠ 0) ∧
    (∃ (s : State) (v : Word),
       taken (.hostReset v) s = true ∧ v.toNat / 2 ^ 24 = 0xA5 ∧ v.toNat.testBit 0 = true ∧ (v.toNat.testBit 1 = true ∨ s.dev.get VSS_STATUS_ENERGISED = 0)) ∧
    (∃ (s : State) (r : Fin 15) (op : Option Src),
       taken (.sramEccError false r op) s = true) ∧
    (∃ (s : State) (r : Fin 15) (op : Option Src),
       taken (.sramEccError true r op) s = true ∧ Dev.sramFatal r = true) ∧
    (∃ (s : State) (r : Fin 15) (op : Option Src),
       taken (.sramEccError true r op) s = true ∧ Dev.sramFatal r = false) ∧
    (∃ (s : State) (a : BitVec 16) (b : BitVec 16) (c : BitVec 16),
       taken (.dieTempSample a b c) s = true ∧ (s.dev.dieSample [a, b, c]).2 = true) ∧
    (∃ (s : State) (a : BitVec 16) (b : BitVec 16) (c : BitVec 16),
       taken (.dieTempSample a b c) s = true ∧ (s.dev.dieSample [a, b, c]).2 = false) ∧
    (∃ (s : State) (p : Int),
       taken (.rtcRateCheck p) s = true) ∧
    (∃ (s : State) (src : Src) (c : Code),
       taken (.fwActivate src) s = true ∧ s.dev.activateBad = some c) ∧
    (∃ (s : State) (src : Src),
       taken (.fwActivate src) s = true ∧ s.dev.activateBad = none) ∧
    (∃ (s : State) (t0 : Nat),
       taken .fwTrialTimeout s = true ∧ s.dev.key.trialSince = some t0 ∧ s.dev.flag KEY_FW_TRIAL = true) :=
  ⟨⟨testState [] (fun dd => let dd : Dev := { dd with gen := { dd.gen with phase := .running } }; dd), by decide⟩,
   ⟨testState [] (fun dd => let dd : Dev := { dd with gen := { dd.gen with phase := .running } }; dd), by decide⟩,
   ⟨testState [] (fun dd => let dd : Dev := { dd with gen := { dd.gen with phase := .reset ((.powerOn : ResetCause)) } }; dd), .powerOn, by decide⟩,
   ⟨testState [], by decide⟩,
   ⟨testState [], 0, by decide⟩,
   ⟨testState [(VSS_STATUS_ENERGISED, 1)], 0xA5000001, by decide⟩,
   ⟨testState [], 0xA5000001, by decide⟩,
   ⟨testState [], 0, none, by decide⟩,
   ⟨testState [], 1, none, by decide⟩,
   ⟨testState [], 0, none, by decide⟩,
   ⟨testState [] (fun dd => { dd with thm := { dd.thm with dieSince := Vector.replicate 3 (some 0) }, dt := 100000000 }), 32767, 0, 0, by decide⟩,
   ⟨testState [], 0, 0, 0, by decide⟩,
   ⟨testState [], 0, by decide⟩,
   ⟨testState [], .ring 0 7, ST_KEY_NO_ROOT, by decide⟩,
   ⟨testState [(KEY_STATUS_ROOT, 1)] (fun dd => { dd with key := { dd.key with bankB := ⟨true, 0, 0, true⟩ } }), .ring 0 7, by decide⟩,
   ⟨testState [(KEY_FW_TRIAL, 1)] (fun dd => let dd : Dev := { dd with key := { dd.key with trialSince := some ((0 : Nat)) } }; dd), 0, by decide⟩⟩

theorem witness_pin_and_supply :
    (∃ (s : State),
       s.dev.flag GEN_RST_PIN_ARMED = true ∧ s.dev.gen.phase = .running) ∧
    (∃ (s : State),
       s.dev.flag GEN_RST_PIN_ARMED = false) ∧
    (∃ (s : State),
       s.dev.flag GEN_RST_PIN_ARMED = false ∧ s.dev.gen.pinLow = false ∧ s.dev.flag GEN_RST_PIN_LEVEL = true) ∧
    (∃ (s : State),
       s.dev.flag GEN_RST_PIN_ARMED = false) ∧
    (∃ (s : State),
       s.dev.gen.phase = .running) ∧
    (∃ (s : State),
       s.dev.gen.phase ≠ .off) ∧
    (∃ (s : State),
       s.dev.gen.phase ≠ .off) ∧
    (∃ (s : State) (a : Bool) (b : Bool) (v : Bool),
       taken (.hibernateRequest a b v) s = true ∧ s.dev.rd GEN_WAKE_CFG = 0) ∧
    (∃ (s : State) (a : Bool) (b : Bool) (v : Bool),
       taken (.hibernateRequest a b v) s = true ∧ s.dev.rd GEN_WAKE_CFG ≠ 0 ∧ s.dev.modeStill = false) ∧
    (∃ (s : State) (a : Bool) (b : Bool) (v : Bool),
       taken (.hibernateRequest a b v) s = true ∧ s.dev.rd GEN_WAKE_CFG ≠ 0 ∧ s.dev.modeStill = true) :=
  ⟨⟨testState [(GEN_RST_PIN_ARMED, 1)] (fun dd => let dd : Dev := { dd with gen := { dd.gen with phase := .running } }; dd), by decide⟩,
   ⟨testState [(GEN_RST_PIN_ARMED, 0)], by decide⟩,
   ⟨testState [(GEN_RST_PIN_ARMED, 0), (GEN_RST_PIN_LEVEL, 1)] (fun dd => let dd : Dev := { dd with gen := { dd.gen with pinLow := false } }; dd), by decide⟩,
   ⟨testState [(GEN_RST_PIN_ARMED, 0)], by decide⟩,
   ⟨testState [] (fun dd => let dd : Dev := { dd with gen := { dd.gen with phase := .running } }; dd), by decide⟩,
   ⟨testState [], by decide⟩,
   ⟨testState [], by decide⟩,
   ⟨testState [] (fun dd => testRegs [(GEN_WAKE_CFG, 0)] dd), false, false, false, by decide⟩,
   ⟨testState [(VSS_STATUS_ACTIVE, 1)] (fun dd => testRegs [(GEN_WAKE_CFG, 1)] dd), false, false, false, by decide⟩,
   ⟨testState [], false, false, false, by decide⟩⟩

theorem witness_starts_and_wakes :
    (∃ (s : State) (f : StartFacts),
       s.dev.gen.phase = .off ∧ f.pinLow = false) ∧
    (∃ (s : State) (f : StartFacts),
       s.dev.gen.phase = .reset .brownOut ∧ s.dev.get GEN_RESET_CAUSE_CAUSE = 1 ∧ f.pinLow = false) ∧
    (∃ (s : State) (f : StartFacts),
       s.dev.gen.phase = .off ∧ f.pinLow = true) ∧
    (∃ (s : State) (f : StartFacts),
       s.dev.gen.phase = .running) ∧
    (∃ (s : State) (f : StartFacts),
       s.dev.gen.phase = .reset .watchdog ∧ s.dev.resetHeld = false) ∧
    (∃ (s : State) (f : StartFacts),
       s.dev.gen.phase = .reset .clockFail ∧ s.dev.resetHeld = false) ∧
    (∃ (s : State) (f : StartFacts) (c : ResetCause),
       s.dev.gen.phase = .reset c ∧ s.dev.thm.dieHeld = true) ∧
    (∃ (s : State) (f : StartFacts),
       s.dev.gen.phase = .reset .pin ∧ s.dev.gen.pinLow = true ∧ s.dev.thm.dieHeld = false) ∧
    (∃ (s : State) (w : WakeSource) (d : Nat) (f : StartFacts),
       s.dev.gen.phase = .hibernate ∧ (s.dev.rd GEN_WAKE_CFG).getLsbD (Dev.wakeBit w) = true) ∧
    (∃ (s : State) (w : WakeSource) (d : Nat) (f : StartFacts),
       (s.dev.gen.phase ≠ .hibernate ∨ (s.dev.rd GEN_WAKE_CFG).getLsbD (Dev.wakeBit w) = false)) ∧
    (∃ (s : State) (x : Id64) (d : Nat) (f : StartFacts),
       ((∀ i : Fin 250, s.dev.slnState i = 0 ∨ s.dev.slnId i ≠ x))) ∧
    (∃ (s : State) (i : Fin 250) (d : Nat) (f : StartFacts),
       s.dev.gen.phase = .hibernate ∧ s.dev.slnState i ≠ 0 ∧ (s.dev.rd GEN_WAKE_CFG).getLsbD 2 = true) :=
  ⟨⟨testState [] (fun dd => let dd : Dev := { dd with gen := { dd.gen with phase := .off } }; dd), ⟨false, [], [], [], [], false, [], [], 0, false, false, 0⟩, by decide⟩,
   ⟨testState [(GEN_RESET_CAUSE_CAUSE, 1)] (fun dd => let dd : Dev := { dd with gen := { dd.gen with phase := .reset .brownOut } }; dd), ⟨false, [], [], [], [], false, [], [], 0, false, false, 0⟩, by decide⟩,
   ⟨testState [] (fun dd => let dd : Dev := { dd with gen := { dd.gen with phase := .off } }; dd), ⟨false, [], [], [], [], false, [], [], 0, false, true, 0⟩, by decide⟩,
   ⟨testState [] (fun dd => let dd : Dev := { dd with gen := { dd.gen with phase := .running } }; dd), ⟨false, [], [], [], [], false, [], [], 0, false, false, 0⟩, by decide⟩,
   ⟨testState [] (fun dd => let dd : Dev := { dd with gen := { dd.gen with phase := .reset .watchdog } }; dd), ⟨false, [], [], [], [], false, [], [], 0, false, false, 0⟩, by decide⟩,
   ⟨testState [] (fun dd => let dd : Dev := { dd with gen := { dd.gen with phase := .reset .clockFail } }; dd), ⟨false, [], [], [], [], false, [], [], 0, false, false, 0⟩, by decide⟩,
   ⟨testState [] (fun dd => let dd : Dev := { dd with gen := { dd.gen with phase := .reset ((.powerOn : ResetCause)) } }; let dd : Dev := { dd with thm := { dd.thm with dieHeld := true } }; dd), ⟨false, [], [], [], [], false, [], [], 0, false, false, 0⟩, .powerOn, by decide⟩,
   ⟨testState [] (fun dd => let dd : Dev := { dd with gen := { dd.gen with phase := .reset .pin } }; let dd : Dev := { dd with gen := { dd.gen with pinLow := true } }; let dd : Dev := { dd with thm := { dd.thm with dieHeld := false } }; dd), ⟨false, [], [], [], [], false, [], [], 0, false, false, 0⟩, by decide⟩,
   ⟨testState [] (fun dd => let dd : Dev := { dd with gen := { dd.gen with phase := .hibernate } }; testRegs [(GEN_WAKE_CFG, 0xFFFFFFFF#32)] dd), .host, 0, ⟨false, [], [], [], [], false, [], [], 0, false, false, 0⟩, by decide⟩,
   ⟨testState [], .rtc, 0, ⟨false, [], [], [], [], false, [], [], 0, false, false, 0⟩, by decide⟩,
   ⟨testState [], 0, 0, ⟨false, [], [], [], [], false, [], [], 0, false, false, 0⟩, by decide⟩,
   ⟨testState [(SLN_NODE_INFO_STATE 0, 1)] (fun dd => let dd : Dev := { dd with gen := { dd.gen with phase := .hibernate } }; testRegs [(GEN_WAKE_CFG, 0xFFFFFFFF#32)] dd), 0, 0, ⟨false, [], [], [], [], false, [], [], 0, false, false, 0⟩, by decide⟩⟩

theorem witness_idle_tick :
    (∃ (s : State),
       s.pending = []) ∧
    (∃ (s : State),
       s.pending = [] ∧ s.dev.gen.phase = .running) ∧
    (∃ (s : State) (c : ResetCause),
       s.pending = [] ∧ s.dev.gen.phase = .reset c) ∧
    (∃ (s : State),
       s.pending = [] ∧ (s.dev.gen.phase = .hibernate ∨ s.dev.gen.phase = .off)) :=
  ⟨⟨testState [], by decide⟩,
   ⟨testState [] (fun dd => let dd : Dev := { dd with gen := { dd.gen with phase := .running } }; dd), by decide⟩,
   ⟨testState [] (fun dd => let dd : Dev := { dd with gen := { dd.gen with phase := .reset ((.powerOn : ResetCause)) } }; dd), .powerOn, by decide⟩,
   ⟨testState [] (fun dd => let dd : Dev := { dd with gen := { dd.gen with phase := .hibernate } }; { dd with gen := { dd.gen with phase := .off } }), by decide⟩⟩

theorem witness_closed_gates :
    (∃ (c : Instr) (s : State),
       taken c s = false) ∧
    (∃ (s : State) (g : Gate),
       (g = .always ∨ g = .live ∨ g = .run ∨ g = .power)) :=
  ⟨⟨.watchdogExpiry, State.reset, by decide⟩,
   ⟨testState [] (fun dd => dd), .always, by exact Or.inl rfl⟩⟩

theorem witness_before_host_ready :
    (∃ (s : State),
       s.dev.live = false) ∧
    (∃ (s : State),
       s.dev.live = false) ∧
    (∃ (c : Instr) (s : State) (b : Nat),
       gateOf c = .reg b ∧ s.dev.live = false) ∧
    (∃ (s : State) (off : BitVec 21),
       s.dev.live = false) ∧
    (∃ (s : State) (bar : Bar) (off : BitVec 21),
       s.dev.live = false) ∧
    (∃ (c : Bool) (s : State),
       s.dev.live = true) :=
  ⟨⟨State.reset, by decide⟩,
   ⟨State.reset, by decide⟩,
   ⟨.lswUnlock 0, State.reset, 15, by decide⟩,
   ⟨State.reset, 0, by decide⟩,
   ⟨State.reset, .bar0, 0, by decide⟩,
   ⟨false, testState [], by decide⟩⟩

theorem witness_stores_stay_within_bounds : ∃ (s : State) (t : State),
    s.dev.Fits ∧ step s = .next t :=
  ⟨{ State.reset with pending := [.lswUnlock 0] }, { State.reset with dev := State.reset.dev.start.emit .unsupported }, by exact ⟨⟨by decide, ⟨by decide, by decide⟩, by unfold Hif.fits; decide⟩, rfl⟩⟩

theorem witness_command_frames : ∃ (c : Instr) (f : Frame) (s : State) (t : State),
    frameOf c = some f ∧ exec c s = .next t :=
  ⟨.lswUnlock 0, (frameOf (.lswUnlock 0)).getD ⟨[], []⟩, State.reset, { State.reset with dev := State.reset.dev.start.emit .unsupported }, by refine ⟨by decide, rfl⟩⟩

theorem witness_device_time_runs : ∃ (c : Instr) (rest : List Instr) (s : State) (t : State),
    s.pending = c :: rest ∧ step s = .next t ∧ ((∀ f, c ≠ .powerOnReset f)) ∧ ((∀ f, c ≠ .resetRelease f)) ∧ ((∀ f, c ≠ .resetPinStuck f)) :=
  ⟨.lswUnlock 0, [], { State.reset with pending := [.lswUnlock 0] }, { State.reset with dev := State.reset.dev.start.emit .unsupported }, by refine ⟨by decide, rfl, by simp, by simp, by simp⟩⟩

theorem witness_unassigned_addresses :
    (∃ (s : State) (off : BitVec 21),
       s.dev.live = true ∧ off.toNat % 4 = 0 ∧ rowAt off.toNat = none) ∧
    (∃ (s : State) (off : BitVec 21) (v : Word),
       taken (.registerWrite off v) s = true ∧ rowAt off.toNat = none) ∧
    (∃ (s : State) (off : BitVec 21) (r : RegRow) (i : Nat),
       s.dev.live = true ∧ s.dev.blockServed (off.toNat / 65536) = true ∧ off.toNat % 4 = 0 ∧ rowAt off.toNat = some r ∧ s.dev.halfOf r off.toNat ≠ 2 ∧ ((∀ f ∈ r.fields, i < f.lo ∨ f.hi < i))) :=
  ⟨⟨testState [], 0x1FFFFC, by decide⟩,
   ⟨testState [], 0xFFFC, 0, by decide⟩,
   ⟨testState [], BitVec.ofNat 21 VSS_CTRL, (rowAt VSS_CTRL).getD noRow, 31, by decide⟩⟩

theorem witness_ring_enable_rules :
    (∃ (s : State) (n : Fin 256),
       taken (.ringEnable n) s = true ∧ s.dev.flag (HIF_RING_CFG_EN n) = false ∧ s.dev.get (HIF_RING_CFG_KIND n) = kindSubmit ∧ (s.dev.flag (HIF_RING_CFG_EN (s.dev.get (HIF_RING_CFG_CQ n))) = false ∨ s.dev.get (HIF_RING_CFG_KIND (s.dev.get (HIF_RING_CFG_CQ n))) ≠ kindComplete)) ∧
    (∃ (s : State) (n : Fin 256),
       taken (.ringEnable n) s = true ∧ s.dev.flag (HIF_RING_CFG_EN n) = false ∧ s.dev.get (HIF_RING_CFG_KIND n) = kindSubmit ∧ s.dev.get (HIF_RING_CFG_OWNER n) = 0 ∧ s.dev.flag (HIF_RING_CFG_EN (s.dev.get (HIF_RING_CFG_CQ n))) = true ∧ s.dev.get (HIF_RING_CFG_KIND (s.dev.get (HIF_RING_CFG_CQ n))) = kindComplete) ∧
    (∃ (s : State) (n : Fin 256) (m : Fin 256),
       taken (.ringDisable n) s = true ∧ s.dev.flag (HIF_RING_CFG_EN n) = true ∧ s.dev.get (HIF_RING_CFG_KIND n) = kindComplete ∧ s.dev.flag (HIF_RING_CFG_EN m) = true ∧ s.dev.get (HIF_RING_CFG_KIND m) = kindSubmit ∧ s.dev.get (HIF_RING_CFG_CQ m) = n.val) ∧
    (∃ (s : State) (n : Fin 256),
       taken (.ringDisable n) s = true ∧ (s.dev.get (HIF_RING_CFG_KIND n) ≠ kindComplete ∨ (∀ m : Fin 256, s.dev.flag (HIF_RING_CFG_EN m) = true → s.dev.get (HIF_RING_CFG_KIND m) = kindSubmit → s.dev.get (HIF_RING_CFG_CQ m) ≠ n.val))) ∧
    (∃ (s : State) (n : Fin 256),
       taken (.ringEnable n) s = true ∧ s.dev.flag (HIF_RING_CFG_EN n) = false ∧ s.dev.get (HIF_RING_CFG_KIND n) = kindComplete ∧ s.dev.hif.rings[n].staged = []) ∧
    (∃ (s : State) (n : Fin 256) (part : List (Fin 256)) (es : List (List Byte)),
       taken (.descriptorFetch n part es) s = true ∧ s.dev.ringHasRoom (Fin.ofNat 256 (s.dev.get (HIF_RING_CFG_CQ n))) = false) :=
  ⟨⟨testState [(HIF_RING_CFG_KIND 0, kindSubmit), (HIF_RING_CFG_CQ 0, 1), (HIF_STATUS_LINK_UP, 1)], 0, by decide +kernel⟩,
   ⟨testState [(HIF_RING_CFG_KIND 0, kindSubmit), (HIF_RING_CFG_CQ 0, 1), (HIF_RING_CFG_EN 1, 1), (HIF_RING_CFG_KIND 1, kindComplete)], 0, by decide⟩,
   ⟨testState [(HIF_RING_CFG_EN 0, 1), (HIF_RING_CFG_KIND 0, kindComplete), (HIF_RING_CFG_EN 1, 1), (HIF_RING_CFG_KIND 1, kindSubmit), (HIF_RING_CFG_CQ 1, 0)], 0, 1, by decide⟩,
   ⟨testState [], 0, by decide⟩,
   ⟨testState [((HIF_RING_CFG_EN ((0 : Fin 256))), 0), ((HIF_RING_CFG_KIND ((0 : Fin 256))), kindComplete)] (fun dd => let dd : Dev := { dd with hif := { dd.hif with rings := vupd dd.hif.rings ((0 : Fin 256)) (fun zz => { zz with staged := [] }) } }; dd), 0, by decide⟩,
   ⟨testState [(HIF_RING_CFG_CQ 0, 1), (HIF_RING_CFG_LOG2 1, 0)], 0, [], [], by decide⟩⟩

theorem witness_register_write_descriptor :
    (∃ (s : State) (src : Src) (l : List (Word × Word)),
       taken (.regWrite src l) s = true ∧ (l = [] ∨ 256 < l.length)) ∧
    (∃ (s : State) (src : Src) (l : List (Word × Word)) (d : Nat → Dev) (k : Nat),
       taken (.regWrite src l) s = true ∧ l ≠ [] ∧ l.length ≤ 256 ∧ k = l.length ∧ ((∀ p ∈ l, Dev.inBar0 p.1 = true)) ∧ d 0 = s.dev.start ∧ ((∀ j : Nat, j < k → (d j).live = true ∧ ((d j).regWriteCode (l.getD j (0, 0)).1.toNat (l.getD j (0, 0)).2).2 = none ∧ Dev.armAsked (d j) (d (j + 1)) (l.getD j (0, 0)).1.toNat = none ∧ d (j + 1) = ((d j).regWriteCode (l.getD j (0, 0)).1.toNat (l.getD j (0, 0)).2).1)) ∧ (d k).live = true) ∧
    (∃ (s : State) (src : Src) (l : List (Word × Word)) (d : Nat → Dev) (k : Nat) (c : Code),
       taken (.regWrite src l) s = true ∧ l.length ≤ 256 ∧ k < l.length ∧ ((∀ p ∈ l, Dev.inBar0 p.1 = true)) ∧ d 0 = s.dev.start ∧ ((∀ j : Nat, j < k → (d j).live = true ∧ ((d j).regWriteCode (l.getD j (0, 0)).1.toNat (l.getD j (0, 0)).2).2 = none ∧ Dev.armAsked (d j) (d (j + 1)) (l.getD j (0, 0)).1.toNat = none ∧ d (j + 1) = ((d j).regWriteCode (l.getD j (0, 0)).1.toNat (l.getD j (0, 0)).2).1)) ∧ (d k).live = true ∧ ((d k).regWriteCode (l.getD k (0, 0)).1.toNat (l.getD k (0, 0)).2).2 = some c ∧ ((d k).regWriteCode (l.getD k (0, 0)).1.toNat (l.getD k (0, 0)).2).1.live = true) ∧
    (∃ (s : State) (src : Src) (l : List (Word × Word)) (d : Nat → Dev) (k : Nat) (i : Fin 408),
       taken (.regWrite src l) s = true ∧ l.length ≤ 256 ∧ k < l.length ∧ ((∀ p ∈ l, Dev.inBar0 p.1 = true)) ∧ d 0 = s.dev.start ∧ ((∀ j : Nat, j < k → (d j).live = true ∧ ((d j).regWriteCode (l.getD j (0, 0)).1.toNat (l.getD j (0, 0)).2).2 = none ∧ Dev.armAsked (d j) (d (j + 1)) (l.getD j (0, 0)).1.toNat = none ∧ d (j + 1) = ((d j).regWriteCode (l.getD j (0, 0)).1.toNat (l.getD j (0, 0)).2).1)) ∧ (d k).live = true ∧ ((d k).regWriteCode (l.getD k (0, 0)).1.toNat (l.getD k (0, 0)).2).2 = none ∧ Dev.armAsked (d k) ((d k).regWriteCode (l.getD k (0, 0)).1.toNat (l.getD k (0, 0)).2).1 (l.getD k (0, 0)).1.toNat = some i) ∧
    (∃ (s : State) (src : Src) (l : List (Word × Word)),
       taken (.regWrite src l) s = false ∧ s.dev.live = true) :=
  ⟨⟨testState [], .ring 0 7, [], by decide⟩,
   ⟨testState [(HIF_RING_CFG_EN 0, 1)], .ring 0 7, [(BitVec.ofNat 32 (CLE_SLOT_PERIOD 0), 5)], fun j => if j = 0 then (testState [(HIF_RING_CFG_EN 0, 1)]).dev.start else ((testState [(HIF_RING_CFG_EN 0, 1)]).dev.start.regWriteCode (CLE_SLOT_PERIOD 0) 5).1, 1, by refine ⟨by decide, by decide, by decide, rfl, (fun p hp => by cases List.mem_singleton.mp hp; decide +kernel), rfl, fun j hj => ?_, by decide +kernel⟩; have h0 : j = 0 := Nat.lt_one_iff.mp hj; subst h0; exact ⟨by decide, by decide +kernel, by decide +kernel, rfl⟩⟩,
   ⟨testState [(HIF_RING_CFG_EN 0, 1)], .ring 0 7, [(BitVec.ofNat 32 (HIF_RING_BASE_HI 0), 1)], fun _ => (testState [(HIF_RING_CFG_EN 0, 1)]).dev.start, 0, ST_HIF_NOT_OPEN, by refine ⟨by decide, by decide, by decide, (fun p hp => by cases List.mem_singleton.mp hp; decide +kernel), rfl, fun j hj => absurd hj (Nat.not_lt_zero j), by decide, by decide +kernel, by decide +kernel⟩⟩,
   ⟨testState [(EDG_CTRL_EN, 1), (EDG_STG_CFG_EN 0, 1), (ALC_STAGE_MAP_ROLE 0, 1), (EDG_STG_STATUS_BOUND 0, 1), (EDG_LEG_PERIOD_PERIOD 0, 20000), (EDG_LEG_CFG_CGRP 0, 1), (EDG_LEG_CFG_MINP 0, 200), (PST_NODE_INFO_STATE 0, ndPresent), (PST_NODE_INFO_CLASS 0, 1)] (fun dd => testRegs [(EDG_STG_NODE_LO 0, 5), (PST_NODE_ID_LO 0, 5)] dd), .ring 0 7, [(BitVec.ofNat 32 (EDG_LEG_CTL 0), 1)], fun _ => (testState [(EDG_CTRL_EN, 1), (EDG_STG_CFG_EN 0, 1), (ALC_STAGE_MAP_ROLE 0, 1), (EDG_STG_STATUS_BOUND 0, 1), (EDG_LEG_PERIOD_PERIOD 0, 20000), (EDG_LEG_CFG_CGRP 0, 1), (EDG_LEG_CFG_MINP 0, 200), (PST_NODE_INFO_STATE 0, ndPresent), (PST_NODE_INFO_CLASS 0, 1)] (fun dd => testRegs [(EDG_STG_NODE_LO 0, 5), (PST_NODE_ID_LO 0, 5)] dd)).dev.start, 0, 0, by refine ⟨by decide, by decide, by decide, (fun p hp => by cases List.mem_singleton.mp hp; decide +kernel), rfl, fun j hj => absurd hj (Nat.not_lt_zero j), by decide, by decide +kernel, by decide +kernel⟩⟩,
   ⟨testState [], .uart 0, [], by decide +kernel⟩⟩

end Sys2Proof.Tests
end

section
/-! PROOFS. What the host is answered before host-ready (R477). -/

namespace Sys2Proof.Machine

/-! Before host-ready (R477) -/

/-- A command whose gate is a register write is that write: the block its gate names guards its meaning. -/
theorem exec_of_gateOf_reg {c : Instr} {b : Nat} (h : gateOf c = .reg b) (s : State) : ∃ f, exec c s = s.onReg b f := by
  cases c
  case rxLock rx => cases rx <;> cases h
  case rxInversionDetected rx => cases rx <;> cases h
  all_goals cases h <;> (unfold exec; exact ⟨_, rfl⟩)

theorem completes_onReg_of_not_live {c : Instr} {s : State} {P : Dev → Prop} {f : Dev → Dev} {b : Nat} (e : exec c s = s.onReg b f)
    (h : s.dev.live = false) (p : P (s.dev.start.emit .unsupported)) : Completes c s P :=
  completes_onDev e (by simpa [h] using p)

namespace Dev

theorem hostRead_of_not_live {s : Dev} (h : s.live = false) (off : Nat) : s.hostRead off = s.emit .unsupported := by
  simp [hostRead, h]

theorem barRead_of_not_live {s : Dev} (h : s.live = false) (bar : Bar) (off : Nat) : s.barRead bar off = s.emit .unsupported := by
  cases bar
  case bar0 => exact hostRead_of_not_live h off
  case bar2 => simp [barRead, h]

end Dev

/-- R477: PCIE_EARLY_REQUEST is judged by host-ready alone. -/
theorem exec_pcieEarlyRequest (c : Bool) (s : State) : exec (.pcieEarlyRequest c) s =
    s.onDev (fun d => if d.live then d else d.emit (if c then .retryStatus else .unsupported)) := (rfl)

theorem exec_reg64LowRead (off : BitVec 21) (s : State) : exec (.reg64LowRead off) s = s.onDev (fun d => d.hostRead off.toNat) := (rfl)

theorem exec_clearOnReadRead (bar : Bar) (off : BitVec 21) (s : State) :
    exec (.clearOnReadRead bar off) s = s.onDev (fun d => d.barRead bar off.toNat) := (rfl)

theorem completes_pcieEarlyRequest_of_not_live {s : State} (h : s.dev.live = false) (c : Bool) :
    Completes (.pcieEarlyRequest c) s (fun t => t = s.dev.start.emit (if c then .retryStatus else .unsupported)) :=
  completes_onDev (exec_pcieEarlyRequest c s) (by simp [h])

theorem completes_pcieEarlyRequest_of_live {s : State} (h : s.dev.live = true) (c : Bool) :
    Completes (.pcieEarlyRequest c) s (fun t => t = s.dev.start) :=
  completes_onDev (exec_pcieEarlyRequest c s) (by simp [h])

/-- Settles O53: each clause is the branch of the command's guard on `live`; a register access has the guard of `onReg`. -/
theorem beforeHostReady : Obligations.BeforeHostReady := by
  unfold Obligations.BeforeHostReady
  refine ⟨fun s h => completes_pcieEarlyRequest_of_not_live h true, fun s h => completes_pcieEarlyRequest_of_not_live h false,
    fun c s b gate h => ?_, fun s off h => ?_, fun s bar off h => ?_, fun c s h => completes_pcieEarlyRequest_of_live h c⟩
  · obtain ⟨f, e⟩ := exec_of_gateOf_reg gate s
    exact completes_onReg_of_not_live e h rfl
  · exact completes_onDev (exec_reg64LowRead off s) (Dev.hostRead_of_not_live (s := s.dev.start) h _)
  · exact completes_onDev (exec_clearOnReadRead bar off s) (Dev.barRead_of_not_live (s := s.dev.start) h bar _)

end Sys2Proof.Machine
end

section
/-! PROOFS. What enabling and disabling a ring does, and what a full COMPLETE ring holds back (R481, R482, R493, R501). -/

namespace Sys2Proof.Machine

/-! A member of a vector after an update of one -/

theorem getElem_vupd_same {α : Type} {n : Nat} (v : Vector α n) (i : Fin n) (f : α → α) : (vupd v i f)[i] = f v[i] := by
  simp [vupd]

/-- What an update of one member keeps of it, it keeps of every member. -/
theorem apply_getElem_vupd {α β : Type} {n : Nat} (v : Vector α n) (i j : Fin n) {f : α → α} {p : α → β} (keeps : ∀ a, p (f a) = p a) :
    p (vupd v i f)[j] = p v[j] := by
  by_cases e : i = j
  · subst e
    rw [getElem_vupd_same, keeps]
  · simp [vupd, Vector.getElem_set_ne, Fin.val_ne_of_ne e]

namespace Dev

@[simp] theorem modRing_get (s : Dev) (n : Fin 256) (f : Ring → Ring) (g : Field) : (s.modRing n f).get g = s.get g := (rfl)
@[simp] theorem modRing_flag (s : Dev) (n : Fin 256) (f : Ring → Ring) (g : Field) : (s.modRing n f).flag g = s.flag g := (rfl)
@[simp] theorem modRing_vectors (s : Dev) (n : Fin 256) (f : Ring → Ring) : (s.modRing n f).hif.vectors = s.hif.vectors := (rfl)
@[simp] theorem modRing_ring (s : Dev) (n : Fin 256) (f : Ring → Ring) : (s.modRing n f).hif.rings[n.val] = f s.hif.rings[n.val] :=
  getElem_vupd_same _ _ _

@[simp] theorem armVector_get (s : Dev) (v : Fin 64) (g : Field) : (s.armVector v).get g = s.get g := (rfl)
@[simp] theorem armVector_flag (s : Dev) (v : Fin 64) (g : Field) : (s.armVector v).flag g = s.flag g := (rfl)
@[simp] theorem armVector_rings (s : Dev) (v : Fin 64) : (s.armVector v).hif.rings = s.hif.rings := (rfl)
@[simp] theorem armVector_vector (s : Dev) (v : Fin 64) : (s.armVector v).hif.vectors[v.val] = ⟨true, 0, none⟩ :=
  getElem_vupd_same _ _ _

@[simp] theorem stagedOfKind_get (s : Dev) (n : Fin 256) (g : Field) : (s.stagedOfKind n).get g = s.get g := (rfl)
@[simp] theorem stagedOfKind_hostIdx (s : Dev) (n : Fin 256) : (s.stagedOfKind n).hif.rings[n.val].hostIdx = s.hif.rings[n.val].hostIdx := by
  simp [stagedOfKind]
@[simp] theorem stagedOfKind_written (s : Dev) (n : Fin 256) : (s.stagedOfKind n).hif.rings[n.val].written = s.hif.rings[n.val].written := by
  simp [stagedOfKind]

theorem stagedOfKind_staged_of_nil {s : Dev} {n : Fin 256} (staged : s.hif.rings[n.val].staged = []) :
    (s.stagedOfKind n).hif.rings[n.val].staged = [] := by
  unfold stagedOfKind
  dsimp only
  rw [modRing_ring, staged]
  rfl

theorem setb_get_other (s : Dev) (f g : Field) (b : Bool) (apart : g.off ≠ f.off ∨ f.hi < g.lo ∨ g.hi < f.lo) : (s.setb f b).get g = s.get g :=
  get_set_other s f g b.toNat apart

theorem set_flag_other (s : Dev) (f g : Field) (v : Nat) (apart : g.off ≠ f.off ∨ f.hi < g.lo ∨ g.hi < f.lo) : (s.set f v).flag g = s.flag g := by
  unfold flag
  rw [get_set_other _ _ _ _ apart]

/-! The registers that a ring and the link have share no word. -/

theorem ringCfg_ne_ringStatus (i j : Nat) : HIF_RING_CFG i ≠ HIF_RING_STATUS j := by
  dsimp only [HIF_RING_CFG, HIF_RING_STATUS]; omega

theorem ringCfg_ne_status (i : Nat) : HIF_RING_CFG i ≠ HIF_STATUS := by
  dsimp only [HIF_RING_CFG, HIF_STATUS]; omega

theorem ringStatus_ne_status (i : Nat) : HIF_RING_STATUS i ≠ HIF_STATUS := by
  dsimp only [HIF_RING_STATUS, HIF_STATUS]; omega

theorem ringCfg_ne_rejectCnt (i : Nat) : HIF_RING_CFG i ≠ HIF_REJECT_CNT := by
  dsimp only [HIF_RING_CFG, HIF_REJECT_CNT]; omega

/-! Counting a rejection (R501) -/

theorem get_incSat_same (s : Dev) (f : Field) (n : Nat) (lt : f.hi < 32) :
    (s.incSat f n).get f = min (s.get f + n) (2 ^ (f.hi + 1 - f.lo) - 1) := by
  unfold incSat
  rw [get_set_same _ _ _ lt]
  exact Nat.mod_eq_of_lt (Nat.lt_of_le_of_lt (Nat.min_le_right _ _) (Nat.sub_lt (Nat.two_pow_pos _) Nat.one_pos))

/-! What drains and deliveries keep of a ring -/

/-- Every ring is in the same state, with the host at the same index. -/
structure RingsKept (s t : Dev) : Prop where
  state : ∀ m : Nat, t.get (HIF_RING_STATUS_STATE m) = s.get (HIF_RING_STATUS_STATE m)
  hostIdx : ∀ m : Fin 256, t.hif.rings[m].hostIdx = s.hif.rings[m].hostIdx

theorem RingsKept.refl (s : Dev) : RingsKept s s := ⟨fun _ => rfl, fun _ => rfl⟩

theorem RingsKept.trans {s t u : Dev} (a : RingsKept s t) (b : RingsKept t u) : RingsKept s u :=
  ⟨fun m => (b.state m).trans (a.state m), fun m => (b.hostIdx m).trans (a.hostIdx m)⟩

/-- Row 38 of the register maps is HIF_RING_STATUS. -/
theorem RingsKept.of_changes {k : Nat} {s t : Dev} (c : Changes k s t) (row : k.testBit (32 + 38) = false) (named : k.testBit 31 = false)
    (rings : t.hif.rings = s.hif.rings) : RingsKept s t :=
  ⟨fun m => by unfold get; rw [c.rd_same (at_HIF_RING_STATUS m) row named], fun m => by rw [rings]⟩

theorem ringsKept_modRing (s : Dev) (n : Fin 256) {f : Ring → Ring} (keeps : ∀ r, (f r).hostIdx = r.hostIdx) : RingsKept s (s.modRing n f) :=
  ⟨fun _ => rfl, fun m => apply_getElem_vupd _ n m keeps⟩

theorem ringsKept_setIndex (s : Dev) (n v : Nat) : RingsKept s (s.set (HIF_RING_STATUS_INDEX n) v) :=
  ⟨fun _ => get_set_other _ _ _ _ (.inr (.inl (by simp))), fun _ => rfl⟩

theorem signal_rings (s : Dev) (v : Fin 64) : (s.signal v).hif.rings = s.hif.rings := by
  unfold signal
  dsimp only
  split <;> rfl

theorem vectorEntry_rings (s : Dev) (v : Fin 64) (alert : Bool) : (s.vectorEntry v alert).hif.rings = s.hif.rings := by
  unfold vectorEntry
  dsimp only
  split
  · rfl
  · split
    · exact signal_rings _ v
    · rfl

theorem ringsKept_vectorEntry (s : Dev) (v : Fin 64) (alert : Bool) : RingsKept s (s.vectorEntry v alert) :=
  .of_changes (ch_vectorEntry s v alert (by decide) (.refl 0x8000000000000000084 s)) (by decide) (by decide) (vectorEntry_rings s v alert)

theorem ringsKept_entryOut (s : Dev) (n : Fin 256) (i : Nat) (x : RingEntry) : RingsKept s (s.entryOut n i x) :=
  .of_changes (ch_entryOut s n i x (by decide) (.refl 0x4 s)) (by decide) (by decide) (congrArg Hif.rings (entryOut_hif s n i x))

theorem ringsKept_ringWrite (s : Dev) (n : Fin 256) (b : EntryBody) (staged : Bool) : RingsKept s (s.ringWrite n b staged) := by
  unfold ringWrite
  refine RingsKept.trans ?_ (ringsKept_vectorEntry _ _ _)
  refine RingsKept.trans ?_ (ringsKept_setIndex _ _ _)
  exact RingsKept.trans (ringsKept_entryOut s n _ _) (ringsKept_modRing _ n fun _ => rfl)

theorem ringsKept_drainList (n : Fin 256) (l : List EntryBody) (s : Dev) : RingsKept s (drainList n l s).1 := by
  induction l generalizing s with
  | nil => exact .refl s
  | cons b rest ih =>
    unfold drainList
    split
    · exact (ringsKept_ringWrite s n b true).trans (ih _)
    · exact ih s

theorem ringsKept_drainAlerts (n : Fin 256) (l : List (Nat × Event)) (s : Dev) : RingsKept s (drainAlerts n l s).1 := by
  induction l generalizing s with
  | nil => exact .refl s
  | cons e rest ih =>
    unfold drainAlerts
    split
    · exact (ringsKept_ringWrite s n _ true).trans (ih _)
    · exact ih s

@[simp] theorem stagingSummary_hif (s : Dev) (n : Fin 256) : (s.stagingSummary n).hif = s.hif := (rfl)

theorem ringsKept_stagingSummary (s : Dev) (n : Fin 256) : RingsKept s (s.stagingSummary n) := by
  refine ⟨fun m => ?_, fun _ => by rw [stagingSummary_hif]⟩
  unfold stagingSummary stagedSummary
  rw [setb_get_other _ _ _ _ (.inl (ringStatus_ne_status m)), get_set_other _ _ _ _ (.inr (.inl (by simp)))]

theorem ringsKept_drain (s : Dev) (n : Fin 256) : RingsKept s (s.drain n) := by
  unfold drain
  split
  · exact .refl s
  · dsimp only
    have written := (ringsKept_drainList n s.hif.rings[n].staged s).trans
      (ringsKept_modRing _ n (f := fun r => { r with staged := (drainList n s.hif.rings[n].staged s).2 }) (fun _ => rfl))
    refine RingsKept.trans ?_ (ringsKept_stagingSummary _ n)
    split
    · exact (written.trans (ringsKept_drainAlerts n _ _)).trans ⟨fun _ => rfl, fun _ => rfl⟩
    · exact written

/-- Row 37 of the register maps is HIF_RING_CFG. -/
theorem drain_ringCfg (s : Dev) (n : Fin 256) (i : Nat) : (s.drain n).rd (HIF_RING_CFG i) = s.rd (HIF_RING_CFG i) :=
  (ch_drain s n (by decide) (.refl 0x8400200000000000084 s)).rd_same (at_HIF_RING_CFG i) (by decide) (by decide)

theorem drain_enabled (s : Dev) (n : Fin 256) (i : Nat) : (s.drain n).flag (HIF_RING_CFG_EN i) = s.flag (HIF_RING_CFG_EN i) := by
  unfold flag get
  rw [drain_ringCfg]

/-- R494: with no entry staged for it there is nothing to write to a ring that takes no ALERT events. -/
theorem drain_of_nothing_staged {s : Dev} {n : Fin 256} (staged : s.hif.rings[n].staged = [])
    (kind : s.get (HIF_RING_CFG_KIND n) ≠ kindEvent) :
    s.drain n = s ∨ s.drain n = (s.modRing n (fun r => { r with staged := [] })).stagingSummary n := by
  unfold drain
  split
  · exact .inl rfl
  · right
    dsimp only
    rw [staged]
    simp [drainList, kind]

/-! Enabling a ring (R481, R482, R493) -/

/-- Ring `n` is enabled and empty at index 0, and the host's index is 0 too, with the link in use. -/
structure RunsEmpty (s : Dev) (n : Fin 256) : Prop where
  enabled : s.flag (HIF_RING_CFG_EN n) = true
  state : s.get (HIF_RING_STATUS_STATE n) = 1
  index : s.get (HIF_RING_STATUS_INDEX n) = 0
  hostIdx : s.hif.rings[n].hostIdx = 0
  written : s.hif.rings[n].written = []
  linkUp : s.flag HIF_STATUS_LINK_UP = true

theorem RunsEmpty.of_same {s t : Dev} {n : Fin 256} (h : RunsEmpty s n) (regs : ∀ g, t.get g = s.get g)
    (hostIdx : t.hif.rings[n].hostIdx = s.hif.rings[n].hostIdx) (written : t.hif.rings[n].written = s.hif.rings[n].written) : RunsEmpty t n :=
  ⟨by simpa [flag, regs] using h.enabled, by simpa [regs] using h.state, by simpa [regs] using h.index, hostIdx.trans h.hostIdx,
    written.trans h.written, by simpa [flag, regs] using h.linkUp⟩

theorem RunsEmpty.stagingSummary {s : Dev} {n : Fin 256} (h : RunsEmpty s n) (m : Fin 256) : RunsEmpty (s.stagingSummary m) n := by
  refine ⟨?_, ((ringsKept_stagingSummary s m).state n).trans h.state, ?_, h.hostIdx, h.written, ?_⟩ <;>
    unfold Dev.stagingSummary stagedSummary
  · rw [flag_setb_other _ _ _ _ (.inl (ringCfg_ne_status n)), set_flag_other _ _ _ _ (.inl (ringCfg_ne_ringStatus n m))]
    exact h.enabled
  · rw [setb_get_other _ _ _ _ (.inl (ringStatus_ne_status n)), get_set_other _ _ _ _ (.inr (.inr (by simp)))]
    exact h.index
  · rw [flag_setb_other _ _ _ _ (.inr (.inl (by decide))), set_flag_other _ _ _ _ (.inl (ringStatus_ne_status m).symm)]
    exact h.linkUp

theorem linkUp_flag (s : Dev) : s.linkUp.flag HIF_STATUS_LINK_UP = true := by
  have up (d : Dev) : (d.setb HIF_STATUS_LINK_UP true).flag HIF_STATUS_LINK_UP = true := flag_setb_same _ _ _ (by decide) (by decide)
  unfold linkUp
  split
  · assumption
  · split
    · exact up _
    · dsimp only
      rw [set_flag_other _ _ _ _ (.inr (.inl (by decide))), set_flag_other _ _ _ _ (.inr (.inl (by decide))), up]

theorem linkUp_get (s : Dev) {g : Field} (apart : g.off ≠ HIF_STATUS) : s.linkUp.get g = s.get g := by
  unfold linkUp
  split
  · rfl
  · split
    · exact setb_get_other _ _ _ _ (.inl apart)
    · dsimp only
      rw [get_set_other _ _ _ _ (.inl apart), get_set_other _ _ _ _ (.inl apart), setb_get_other _ _ _ _ (.inl apart)]
      rfl

theorem linkUp_hif (s : Dev) : s.linkUp.hif = s.hif := by
  unfold linkUp
  split
  · rfl
  · split <;> rfl

/-- What a write of EN = 1 that is taken does to the ring itself, whatever its kind. -/
def ringStarted (s : Dev) (n : Fin 256) : Dev :=
  (((s.linkUp.setb (HIF_RING_CFG_EN n) true).set (HIF_RING_STATUS_STATE n) rsRun).set (HIF_RING_STATUS_INDEX n) 0).modRing n (fun r =>
    { r with hostIdx := 0, phase := true, written := [] })

theorem ringStarted_staged (s : Dev) (n : Fin 256) : (s.ringStarted n).hif.rings[n.val].staged = s.hif.rings[n.val].staged := by
  simp [ringStarted, linkUp_hif]

/-- A field of HIF_RING_CFG but EN reads as before. -/
theorem ringStarted_ringCfg (s : Dev) (n : Fin 256) {g : Field} {i : Nat} (off : g.off = HIF_RING_CFG i) (hi : g.hi < 31) :
    (s.ringStarted n).get g = s.get g := by
  unfold ringStarted
  rw [modRing_get, get_set_other _ _ _ _ (.inl (off ▸ ringCfg_ne_ringStatus i n)), get_set_other _ _ _ _ (.inl (off ▸ ringCfg_ne_ringStatus i n)),
    setb_get_other _ _ _ _ (.inr (.inr hi)), linkUp_get _ (off ▸ ringCfg_ne_status i)]

theorem ringStarted_runsEmpty (s : Dev) (n : Fin 256) : RunsEmpty (s.ringStarted n) n where
  enabled := by
    unfold ringStarted
    rw [modRing_flag, set_flag_other _ _ _ _ (.inl (ringCfg_ne_ringStatus n n)), set_flag_other _ _ _ _ (.inl (ringCfg_ne_ringStatus n n)),
      flag_setb_same _ _ _ (by simp) (by simp)]
  state := by
    unfold ringStarted
    rw [modRing_get, get_set_other _ _ _ _ (.inr (.inl (by simp))), get_set_same _ _ _ (by simp)]
    rfl
  index := by
    unfold ringStarted
    rw [modRing_get, get_set_same _ _ _ (by simp)]
    rfl
  hostIdx := by simp [ringStarted]
  written := by simp [ringStarted]
  linkUp := by
    unfold ringStarted
    rw [modRing_flag, set_flag_other _ _ _ _ (.inl (ringStatus_ne_status n).symm), set_flag_other _ _ _ _ (.inl (ringStatus_ne_status n).symm),
      flag_setb_other _ _ _ _ (.inl (ringCfg_ne_status n).symm), linkUp_flag]

theorem ringEnable_of_bad {s : Dev} {n : Fin 256} (off : s.flag (HIF_RING_CFG_EN n) = false) (bad : s.ringEnableBad n = true) :
    s.ringEnable n = s.answer ST_BAD_PARAM := by
  simp [ringEnable, off, bad]

theorem ringEnable_submit {s : Dev} {n : Fin 256} (off : s.flag (HIF_RING_CFG_EN n) = false) (good : s.ringEnableBad n = false)
    (kind : s.get (HIF_RING_CFG_KIND n) = kindSubmit) :
    s.ringEnable n = (s.ringStarted n).drain (Fin.ofNat 256 ((s.ringStarted n).get (HIF_RING_CFG_CQ n))) := by
  simp [ringEnable, off, good, kind, ringStarted]

theorem ringEnable_complete {s : Dev} {n : Fin 256} (off : s.flag (HIF_RING_CFG_EN n) = false)
    (kind : s.get (HIF_RING_CFG_KIND n) = kindComplete) :
    s.ringEnable n = (((s.ringStarted n).stagedOfKind n).armVector ((s.ringStarted n).ringVector n)).drain n := by
  have good : s.ringEnableBad n = false := by simp [ringEnableBad, kind, kindComplete, kindSubmit, kindEvent]
  simp [ringEnable, off, good, kind, ringStarted, kindComplete, kindSubmit, kindEvent, Dev.when]

/-- R482: a SUBMIT ring whose CQ names no enabled COMPLETE ring. -/
theorem ringEnableBad_of_no_completeRing {s : Dev} {n : Fin 256} (kind : s.get (HIF_RING_CFG_KIND n) = kindSubmit)
    (cq : s.flag (HIF_RING_CFG_EN (s.get (HIF_RING_CFG_CQ n))) = false ∨
      s.get (HIF_RING_CFG_KIND (s.get (HIF_RING_CFG_CQ n))) ≠ kindComplete) : s.ringEnableBad n = true := by
  rcases cq with cq | cq <;> simp [ringEnableBad, kind, cq]

theorem ringEnableBad_submit_of_completeRing {s : Dev} {n : Fin 256} (kind : s.get (HIF_RING_CFG_KIND n) = kindSubmit)
    (own : s.get (HIF_RING_CFG_OWNER n) = 0) (en : s.flag (HIF_RING_CFG_EN (s.get (HIF_RING_CFG_CQ n))) = true)
    (cq : s.get (HIF_RING_CFG_KIND (s.get (HIF_RING_CFG_CQ n))) = kindComplete) : s.ringEnableBad n = false := by
  simp [ringEnableBad, kind, own, en, cq]

theorem RunsEmpty.drain_of_nothing_staged {s : Dev} {n : Fin 256} (h : RunsEmpty s n) (staged : s.hif.rings[n].staged = [])
    (kind : s.get (HIF_RING_CFG_KIND n) ≠ kindEvent) : RunsEmpty (s.drain n) n ∧ (s.drain n).hif.vectors = s.hif.vectors := by
  rcases Dev.drain_of_nothing_staged staged kind with e | e <;> rw [e]
  · exact ⟨h, rfl⟩
  · exact ⟨(h.of_same (fun g => by simp) (by simp) (by simp)).stagingSummary n, by simp⟩

/-- A COMPLETE ring with no entry staged starts empty, its vector armed. -/
theorem ringEnable_complete_runsEmpty {s : Dev} {n : Fin 256} (off : s.flag (HIF_RING_CFG_EN n) = false)
    (kind : s.get (HIF_RING_CFG_KIND n) = kindComplete) (staged : s.hif.rings[n].staged = []) :
    RunsEmpty (s.ringEnable n) n ∧ (s.ringEnable n).hif.vectors[s.ringVector n] = ⟨true, 0, none⟩ := by
  have vector : (s.ringStarted n).ringVector n = s.ringVector n := by
    unfold ringVector
    rw [ringStarted_ringCfg s n rfl (by simp)]
  have runs : RunsEmpty (((s.ringStarted n).stagedOfKind n).armVector (s.ringVector n)) n :=
    (ringStarted_runsEmpty s n).of_same (fun g => by simp) (by simp) (by simp)
  have notEvent : (((s.ringStarted n).stagedOfKind n).armVector (s.ringVector n)).get (HIF_RING_CFG_KIND n) ≠ kindEvent := by
    rw [armVector_get, stagedOfKind_get, ringStarted_ringCfg s n rfl (by simp), kind]
    decide
  obtain ⟨started, vectors⟩ :=
    runs.drain_of_nothing_staged (stagedOfKind_staged_of_nil ((ringStarted_staged s n).trans staged)) notEvent
  rw [ringEnable_complete off kind, vector]
  exact ⟨started, by simp [vectors]⟩

/-! Disabling a ring (R482) -/

theorem ringDisable_of_bound {s : Dev} {n m : Fin 256} (en : s.flag (HIF_RING_CFG_EN n) = true)
    (kind : s.get (HIF_RING_CFG_KIND n) = kindComplete) (enM : s.flag (HIF_RING_CFG_EN m) = true)
    (kindM : s.get (HIF_RING_CFG_KIND m) = kindSubmit) (cq : s.get (HIF_RING_CFG_CQ m) = n.val) :
    s.ringDisable n = s.reject HIF_REJECT_CNT_CNT ST_BUSY_LIVE := by
  have bound : (idx 256).any (fun (m : Fin 256) => s.flag (HIF_RING_CFG_EN m) && s.get (HIF_RING_CFG_KIND m) == kindSubmit &&
      s.get (HIF_RING_CFG_CQ m) == n.val) = true :=
    List.any_eq_true.mpr ⟨m, List.mem_finRange m, by simp [enM, kindM, cq]⟩
  unfold ringDisable
  rw [bound, en, kind]
  rfl

theorem ringDisable_of_free {s : Dev} {n : Fin 256} (free : s.get (HIF_RING_CFG_KIND n) ≠ kindComplete ∨
      ∀ m : Fin 256, s.flag (HIF_RING_CFG_EN m) = true → s.get (HIF_RING_CFG_KIND m) = kindSubmit → s.get (HIF_RING_CFG_CQ m) ≠ n.val) :
    s.ringDisable n = (s.setb (HIF_RING_CFG_EN n) false).set (HIF_RING_STATUS_STATE n) rsOff := by
  unfold ringDisable
  refine if_neg fun h => ?_
  simp only [Bool.and_eq_true, beq_iff_eq, List.any_eq_true] at h
  obtain ⟨⟨-, kind⟩, m, -, ⟨en, submit⟩, cq⟩ := h
  rcases free with other | unnamed
  · exact other kind
  · exact unnamed m en submit cq

/-! A full COMPLETE ring (R482) -/

theorem fetch_of_completeRing_full {s : Dev} {n : Fin 256} (full : s.ringHasRoom (Fin.ofNat 256 (s.get (HIF_RING_CFG_CQ n))) = false)
    (part : List (Fin 256)) (ds : List Desc) : s.fetch n part ds = s := by
  have waits : s.mayServe n = false := by
    unfold mayServe
    dsimp only
    rw [full]
    simp
  exact if_pos (by simp [mayFetch, waits])

end Dev

/-! The commands -/

theorem completes_ringEnable {s : State} {n : Fin 256} {P : Dev → Prop} (h : taken (.ringEnable n) s = true)
    (p : P (s.dev.start.ringEnable n)) : Completes (.ringEnable n) s P :=
  completes_onReg (f := fun d => d.ringEnable n) (b := 0x01) (rfl) h p

theorem completes_ringDisable {s : State} {n : Fin 256} {P : Dev → Prop} (h : taken (.ringDisable n) s = true)
    (p : P (s.dev.start.ringDisable n)) : Completes (.ringDisable n) s P :=
  completes_onReg (f := fun d => d.ringDisable n) (b := 0x01) (rfl) h p

theorem completes_descriptorFetch {s : State} {n : Fin 256} {part : List (Fin 256)} {es : List (List Byte)} {P : Dev → Prop}
    (h : taken (.descriptorFetch n part es) s = true) (p : P (s.dev.start.fetch n part (es.map parseDesc))) :
    Completes (.descriptorFetch n part es) s P :=
  completes_onLive (f := fun d => d.fetch n part (es.map parseDesc)) (rfl) h p

/-- Settles O59: each clause is a branch of `ringEnable`, `ringDisable` or `fetch`, and draining a ring keeps the state of every ring. -/
theorem ringEnableRules : Obligations.RingEnableRules := by
  unfold Obligations.RingEnableRules
  refine ⟨fun s n h off kind cq => completes_ringEnable h ?_, fun s n h off kind own en cq => completes_ringEnable h ?_,
    fun s n m h en kind enM kindM cq => completes_ringDisable h ?_, fun s n h free => completes_ringDisable h ?_,
    fun s n h off kind staged => completes_ringEnable h ?_,
    fun s n part es h full => completes_descriptorFetch h (Dev.fetch_of_completeRing_full (s := s.dev.start) full part _)⟩
  case refine_1 =>
    rw [Dev.ringEnable_of_bad (s := s.dev.start) off (Dev.ringEnableBad_of_no_completeRing (s := s.dev.start) kind cq)]
    simp
  case refine_2 =>
    rw [Dev.ringEnable_submit (s := s.dev.start) off (Dev.ringEnableBad_submit_of_completeRing (s := s.dev.start) kind own en cq) kind]
    have runs := s.dev.start.ringStarted_runsEmpty n
    have kept := (s.dev.start.ringStarted n).ringsKept_drain (Fin.ofNat 256 ((s.dev.start.ringStarted n).get (HIF_RING_CFG_CQ n)))
    exact ⟨(Dev.drain_enabled _ _ _).trans runs.enabled, (kept.state n).trans runs.state, (kept.hostIdx n).trans runs.hostIdx⟩
  case refine_3 =>
    rw [Dev.ringDisable_of_bound (s := s.dev.start) en kind enM kindM cq]
    refine ⟨?_, by simp [Dev.reject], Dev.get_incSat_same s.dev.start HIF_REJECT_CNT_CNT 1 (by decide)⟩
    exact (Dev.set_flag_other s.dev.start HIF_REJECT_CNT_CNT _ _ (.inl (Dev.ringCfg_ne_rejectCnt n))).trans en
  case refine_4 =>
    rw [Dev.ringDisable_of_free (s := s.dev.start) free]
    refine ⟨?_, by rw [Dev.get_set_same _ _ _ (by simp)]; rfl⟩
    rw [Dev.set_flag_other _ _ _ _ (.inl (Dev.ringCfg_ne_ringStatus n n)), Dev.flag_setb_same _ _ _ (by simp) (by simp)]
  case refine_5 =>
    obtain ⟨runs, armed⟩ := Dev.ringEnable_complete_runsEmpty (s := s.dev.start) off kind staged
    exact ⟨runs.enabled, runs.state, runs.index, runs.hostIdx, runs.written, armed, runs.linkUp⟩

end Sys2Proof.Machine
end
